-- ==== Sys2Proof/Syntax.lean ====
section
/-! DEFINITION. The commands of the block: one constructor of `Instr` per row of spec/opcode_table.json, with its operands. What
happens outside the block (a level on a ball, a frame on the air or on a bus, a measured value, whether a part answers) is
an operand. -/
namespace Sys2Proof

/-- The subsystems of R9; `Subsys.id` gives the identifier. -/
inductive Subsys
  | sys | cfg | pwr | tim | lf | rf | rng | tok | rel | sym | key | sto | nfc | upd | tam | hif
  deriving DecidableEq, Repr

/-- The execution worlds (R23). -/
inductive World
  | keeper | service
  deriving DecidableEq, Repr

/-- What a network packet addresses within its destination island (Table 1-5). The spec gives no offsets, so the
destination port's decode of OFFSET is an operand. -/
inductive Target
  | vaultKeyring | cipherKey (masters : Nat) (keeper : Bool) | journalSigning | releasePort | pilotPort | keeperSram | plain
  deriving DecidableEq, Repr

/-- A network packet (R16, R17): header, data words, trailer. -/
structure Packet where
  header  : BitVec 64
  data    : List (BitVec 64)
  trailer : BitVec 64
  target  : Target
  deriving DecidableEq, Repr

/-- What a source hands to its network port (R17): the port itself sets SRC, MASTER, WORLD and the trailer. `keeper` is the world that a
core pair executes in, `partner` marks partner frames and time traffic of the link island (Table 1-4). -/
structure Send where
  src     : Fin 15
  dest    : Fin 16
  keeper  : Bool
  partner : Bool
  tc      : Fin 4
  op      : BitVec 4
  tag     : BitVec 8
  offset  : Word
  data    : List (BitVec 64)
  target  : Target
  deriving DecidableEq, Repr

/-- One router forwards one packet: the ring, the node, and the errors that the passage adds, XORed onto header, data and trailer. -/
structure Turn where
  ring  : Fin 2
  node  : Fin 15
  noise : List (BitVec 64)
  deriving DecidableEq, Repr

/-- A ranging job of a session (R33): priority 0 start, 1 cab interior, 2 door, 3 RKE. -/
structure TileJob where
  session : Nat
  prio    : Nat
  arrival : Nat
  world   : World
  deriving DecidableEq, Repr

/-- Background tile work (R34): lantern map calibration with the residuals of an offset sample (R200), or the analysis of a capture. -/
inductive BackKind
  | calibration (resid : List Rat)
  | analysis (capture : Nat)
  deriving DecidableEq, Repr

/-- The paths that carry mailbox messages (Table 16-1). -/
inductive Transport
  | spi | can0 | can1 | t1s
  deriving DecidableEq, Repr

/-- Events the pilot latches during a start (Table 3-2): edges, and frames of the buses by what they carry. -/
inductive LatchKind
  | wake (input : Nat)
  | bus (record : Bytes)
  | segment (transport : Transport) (payload : Bytes) (source : Nat)
  | discovery (port : Nat) (payload : Bytes) (mac : Nat)
  | status (port ident : Nat) (message : Bytes) (mac : Nat)
  | grantAck (port ident : Nat) (message : Bytes)
  deriving DecidableEq, Repr

/-- The sources of a T3 alarm (Table 10-11). -/
inductive T3Source
  | lampshade | tamperIn | servicePort
  deriving DecidableEq, Repr

/-- What a cut that VHOLD did not carry left in the media (R306, R307): whether the newest journal entry stood in its slot with the head
record still older, and the page programs torn on each die, at most 2. -/
structure PowerCut where
  headOld : Bool
  torn0   : Fin 3
  torn1   : Fin 3
  deriving DecidableEq, Repr

/-- The blocks of a slice: how many are past their refresh interval (R322), the dies of those that garbage collection erases (R305). -/
structure ScrubBlocks where
  aged    : Nat
  collect : List (Fin 2)
  deriving DecidableEq, Repr

/-- What a page read finds while the media are scrubbed (R320): corrected bits, and how an uncorrectable page fares. -/
inductive PageFact
  | corrected (bits : Nat)
  | rebuilt
  | lost (position : Nat)
  deriving DecidableEq, Repr

/-- What the receiver measures in a response slot: the energy in dBm of each window (R162), the strength of its frame (R104). -/
structure SlotSignal where
  windows : List (BitVec 8)
  rssi    : BitVec 8
  deriving DecidableEq, Repr



/-- What a radio command does (R168, Table 6-4). -/
inductive RadioOp
  | rxSub (slots : Nat)
  | tx24
  | rx24
  | sweep
  | flick
  deriving DecidableEq, Repr

/-- What a calibration of one receive chain measures (R176): gain error in 0.5 dB, image rejection in dB, an offset DAC at its end stop,
delay in RT ticks, phase in 0.703 degree steps. -/
structure ChainFact where
  gain  : Int
  irr   : Nat
  stop  : Bool
  delay : Nat
  points : List Int          -- phase against chain 0 at the 9 points, in 0.01 degree
  deriving DecidableEq, Repr

/-- What a run of the radio calibrations finds (Table 6-5). -/
structure CalFacts where
  chains : List ChainFact    -- chains 0 to 3
  sub    : ChainFact
  txErr  : Nat               -- largest error of the transmit power in 0.5 dB
  faults : Nat               -- bit k - 1 set where calibration k found a fault
  temp   : BitVec 8
  deriving DecidableEq, Repr

/-- The response pulse of one flicker round as one chain detects it (R194): interval in RT ticks, peak level and the noise of the 0.5 us before the
challenge in 0.1 dB, phase 180 degrees, and the energy departure of the first quarter in 0.1 dB. -/
structure ChainHit where
  chain : Nat
  ticks : Nat
  peak  : Nat
  noise : Nat
  phase : Bool
  shape : Nat
  deriving DecidableEq, Repr

/-- What the tile measures in a sweep beside its correlations: the token's carrier offset in 10^-9, estimated from the phase progression within
the windows (R187), and the SNR in dB of each tone on each chain. -/
structure Dsp where
  offset : Int
  snr    : List (List Int)
  deriving DecidableEq, Repr

/-- What the Untur demodulates on one LF channel in a return slot: channel, carrier strength, the frame's bytes with their CRC-16 (R130). -/
structure Heard where
  ch       : Nat
  strength : Nat
  frame    : Bytes
  deriving DecidableEq, Repr

/-- One calibration exchange of R192: its SREP and its rounds; `late` ones count against it. -/
structure CalExchange where
  srep   : Bytes
  rounds : List (List ChainHit)
  deriving DecidableEq, Repr

/-- What the off-state test of the release outputs finds (Table 8-4). -/
structure OffTest where
  openLoad : Bool
  hGround  : Bool     -- LOCKREL_H shorted to ground
  lSupply  : Bool     -- LOCKREL_L shorted to VBAT
  hStuck   : Bool     -- LOCKREL_H node at VBAT while off
  lStuck   : Bool     -- LOCKREL_L node at ground while off
  deriving DecidableEq, Repr

/-- What the self-tests of the SYM enable find: true where a test passes (R259). -/
structure SymTest where
  pipe0   : Bool
  pipe1   : Bool
  sha     : Bool
  drbg    : Bool
  entropy : Bool
  deriving DecidableEq, Repr

/-- A slot of a Type B round (R340). -/
inductive SlotB
  | empty
  | collided
  | single (pupi : Bytes) (rate : Nat)
  deriving DecidableEq, Repr

/-- The cards that a detection event meets: Type A cards by UID and highest rate, and the Type B rounds as they fall. -/
structure CardField where
  typeA  : List (Bytes × Nat)
  roundsB : List (List SlotB)
  deriving DecidableEq, Repr

/-- What stands outside the block or is measured when a check or an operation runs. -/
structure Env where
  vioHigh   : Bool              -- VIO measured at 3.3 V (R403)
  norDir    : Bool              -- the NOR answers the read of the directory and headers
  nor0      : Bool              -- the QSPI transfer of configuration copy 0 succeeds
  nor1      : Bool
  storeOk   : Bool              -- page programs and erases succeed
  commitOk  : Bool              -- a keyring commit record is written
  lfMeas    : List (Option (Nat × Nat)) -- LF calibration: amplitude and phase per channel, none when no current flows
  dieTemp   : BitVec 8          -- die temperature in C, signed, at an LF calibration
  xtalOk    : Bool              -- the crystal passes a retry (R400)
  entOk     : Bool              -- the entropy source passes a retry (R258)
  rfCal     : CalFacts          -- what the start calibration of RF finds (R174)
  symTest   : SymTest           -- what the self-tests of the SYM enable find (R259)
  cards     : CardField         -- cards at the reader antenna, for a LEARN_TOKEN that MB_EXECUTE runs
  deriving DecidableEq, Repr


/-- The commands, one constructor per row of the table. -/
inductive Instr
  /-- POWER_ON: VBAT has stayed above the start threshold for 1 ms. -/
  | powerOn
  /-- RST_N_RESET: RST_N was held low for `lowUs` microseconds and returns high. -/
  | rstNReset (lowUs : Nat)
  /-- PUPPETEER_RESTART: The puppeteer restarts a halted device. -/
  | puppeteerRestart
  /-- SELF_RESTART: The 10 s of R81 end. -/
  | selfRestart
  /-- SERVICE_PORT_RESET: A reset request on the service port or the IEEE 1149.1 port. -/
  | servicePortReset
  /-- REFERENCE: Phase 2 ends; whether the crystal's amplitude detector rose within 4 ms. -/
  | reference (crystal : Bool)
  /-- FUSES_AND_MEMORY: Phase 3: whether every fuse field passes its ECC, and the self-tests of the pairs. -/
  | fusesAndMemory (eccOk passA passB : Bool)
  /-- FIRMWARE: Phase 4: which images read without error. -/
  | firmware (readA readB readRecovery : Bool)
  /-- KEYS: Phase 5: whether the keyring is readable in a vault bank. -/
  | keys (ringReadable : Bool)
  /-- CONFIGURATION: Phase 6. -/
  | configuration (env : Env)
  /-- MICROCODE: Phase 7: which microcode loads pass their check. -/
  | microcode (storage lf radio nfc : Bool)
  /-- IMMOBILISER_PATH: Phase 8. -/
  | immobiliserPath (env : Env)
  /-- COMPLETION: Phase 9. -/
  | completion (env : Env)
  /-- IMG_CHECKED: The background verification of the other copies ends. -/
  | imgChecked (env : Env)
  /-- STANDBY_PAIR_READY: The standby pair has loaded its parts; whether they match the manifest. -/
  | standbyPairReady (ok : Bool)
  /-- ENABLE_WRITE: A write of 1 to an enable bit. -/
  | enableWrite (sub : Subsys)
  /-- DISABLE_WRITE: A write of 0 to an enable bit. -/
  | disableWrite (sub : Subsys)
  /-- CONSISTENCY_CHECK: The check at the head of the queue completes. -/
  | consistencyCheck (env : Env)
  /-- CFG_WRITE_OPEN: IMG_LEN of the image to write. -/
  | cfgWriteOpen (imgLen : BitVec 32)
  /-- CFG_WRITE_CHUNK: One chunk of at most 65,536 bytes. -/
  | cfgWriteChunk (index : BitVec 32) (data : Bytes) (env : Env)
  /-- SETTING_READ: Setting identifier. -/
  | settingRead (id : BitVec 16)
  /-- SETTING_WRITE: Setting identifier and new value. -/
  | settingWrite (id : BitVec 16) (value : Word)
  /-- PACKET_RECEIVE: Packets that leave their sources, the turns of the routers moment by moment, then those of the moment of the arrival. -/
  | packetReceive (sends : List Send) (moments : List (List Turn)) (arrival : List Turn)
  /-- HEARTBEAT_TIMEOUT: 400 us without a heartbeat of the active pair. -/
  | heartbeatTimeout
  /-- PAIR_FAULT: A pair fault signal of pair A or B. -/
  | pairFault (pairB : Bool)
  /-- PUPPETEER_OUTVOTE: A puppeteer controller disagrees; whether it can be reloaded. -/
  | puppeteerOutvote (ctrl : Fin 3) (reloads : Bool)
  /-- COMMIT_POINT: The active pair reaches a commit point. -/
  | commitPoint
  /-- HANDOVER_RECORD: The standby pair applies the oldest handover record. -/
  | handoverRecord
  /-- PAIR_TEST_DONE: The self-test of the failed pair ends. -/
  | pairTestDone (pass : Bool)
  /-- TILE_FREE: A tile becomes free. -/
  | tileFree (tile : Fin 4)
  /-- BACKGROUND_SLICE_END: A background slice ends; whether its work is finished. -/
  | backgroundSliceEnd (tile : Fin 4) (finished : Bool)
  /-- TILE_FAULT: A tile fails. -/
  | tileFault (tile : Fin 4)
  /-- SHMEM_DOUBLE_BIT_ERROR: A shared-memory bank reports a double-bit error. -/
  | shmemDoubleBitError (bank : Fin 4)
  /-- WAKE_EDGE: A filtered edge to the active level. -/
  | wakeEdge (input : Fin 12)
  /-- CHATTER_UNMASK: 60 s of PT have passed since the mask. -/
  | chatterUnmask (input : Fin 12)
  /-- LF_AIR_GRANT: The next request takes the air: measured amplitude and phase of each channel. -/
  | lfAirGrant (meas : List (Nat × Nat))
  /-- CANDLE_POLL: The candle interval ends. -/
  | candlePoll (meas : List (Nat × Nat))
  /-- ANS_RECEIVE: The response slot, the frame from HDR to CRC-16, none for energy without a frame, and what the receiver measures in the slot. -/
  | ansReceive (rslot : Fin 8) (frame : Option Bytes) (signal : SlotSignal)
  /-- ROUND_CLOSE: Slot 7 ends: what the channels measure in the next LF frame, and the noise floor of the last empty slot. -/
  | roundClose (meas : List (Nat × Nat)) (floor : BitVec 8)
  /-- CRY_RECEIVE: The LIST position and the frame. -/
  | cryReceive (pos : Fin 8) (frame : Bytes) (rssi : BitVec 8)
  /-- LOCK_EXPIRY: The lock of slot 0 to 63, or of path `index` - 64. -/
  | lockExpiry (index : Fin 68)
  /-- FAILURE_AGE_OUT: The oldest failure of slot 0 to 63, or of path `index` - 64. -/
  | failureAgeOut (index : Fin 68)
  /-- LMEAS: LMEAS goes out: what the channels measure. -/
  | lmeas (meas : List (Nat × Nat))
  /-- RPT_RECEIVE: The LIST position and the frame. -/
  | rptReceive (pos : Fin 8) (frame : Bytes)
  /-- LF_RETURN_RECEIVE: The LF return slot and what each channel demodulates in it. -/
  | lfReturnReceive (rslot : Fin 4) (heard : List Heard)
  /-- RKE_FRAME: The frame from HDR to CRC-16. -/
  | rkeFrame (frame : Bytes) (rssi : BitVec 8)
  /-- LEARN_OPEN: The planned count, and the dealer authorisation, empty outside FIELD. -/
  | learnOpen (n : BitVec 8) (auth : Bytes)
  /-- LEARN_TOKEN: The learning record, and the cards at the reader antenna for a class C token. -/
  | learnToken (record : Bytes) (cards : CardField)
  /-- KEYACK_RECEIVE: The KEYACK; the ARSP and the exchanges of the turnaround calibration, where one runs. -/
  | keyackReceive (frame arsp : Bytes) (exchanges : List CalExchange)
  /-- KEYACK_TIMEOUT: 500 ms have passed since the KEYLOAD. -/
  | keyackTimeout
  /-- LEARN_COMMIT: Commits the key set. -/
  | learnCommit (env : Env)
  /-- LEARN_ABANDON: Discards the session. -/
  | learnAbandon
  /-- LEARN_TIMEOUT: 30 min have passed without a learning command. -/
  | learnTimeout
  /-- SLOT_SUSPEND: The slot. -/
  | slotSuspend (slot : BitVec 8)
  /-- SLOT_RESUME: The slot. -/
  | slotResume (slot : BitVec 8)
  /-- LF_REQUEST: Raises REQUEST 0x0B. -/
  | lfRequest
  /-- LFT_EXCHANGE: Runs an LFT exchange. -/
  | lftExchange
  /-- LFT_UPLINK_RECEIVE: The uplink's bytes with their CRC-16. -/
  | lftUplinkReceive (frame : Bytes)
  /-- LFT_RETRY: The listen window ends. -/
  | lftRetry
  /-- STAND_RESET: A write of STAND_RESET. -/
  | standReset
  /-- RECAL: A write of RECAL to a channel. -/
  | recal (channel : Fin 8) (env : Env)
  /-- LF_RECAL_DUE: The die temperature, and what the recalibration measures. -/
  | lfRecalDue (temp : BitVec 8) (env : Env)
  /-- LEG_FAIL: A bridge leg fails. -/
  | legFail (channel : Fin 8) (legB : Bool)
  /-- OPEN_COIL: An open coil is detected. -/
  | openCoil (channel : Fin 8)
  /-- OUTPUT_SHORT: An output short is detected in a frame. -/
  | outputShort (channel : Fin 8)
  /-- DRIVER_OVERTEMP: The sensor passes 130 C, or falls below 115 C. -/
  | driverOvertemp (hot : Bool)
  /-- VANT_FAULT: VANT out of regulation for 100 us, as measured. -/
  | vantFault (centivolt : BitVec 16)
  /-- VANT_RETRY: The 1 s retry: whether VANT is in regulation again, as measured. -/
  | vantRetry (ok : Bool) (centivolt : BitVec 16)
  /-- RADIO_COMMAND: Operation, start time in RT, duration in RT ticks, power in 0.5 dB. -/
  | radioCommand (op : RadioOp) (start : BitVec 48) (ticks : Nat) (power : BitVec 8)
  /-- LOCK_DETECT: The synthesiser of the command at the head of the queue has locked and the start time is reached. -/
  | lockDetect
  /-- LOCK_TIMEOUT: No lock within 150 us. -/
  | lockTimeout
  /-- LOCK_LOSS: Lock is lost during a transmission. -/
  | lockLoss
  /-- WINDOW_END: The operation on air ends; the noise floor measured. -/
  | windowEnd (floor : BitVec 8)
  /-- RKE_SNIFF: The sniff tick: RSSI of each 64 us window in signed dBm. -/
  | rkeSniff (windows : List (BitVec 8))
  /-- FALSE_DETECTION: 330 ms have passed since the detection. -/
  | falseDetection
  /-- SNIFF_THRESHOLD_RESTORE: 600 s of PT have passed. -/
  | sniffThresholdRestore
  /-- CAL: A write of CAL. -/
  | cal
  /-- CAL_DUE: The radio island's temperature. -/
  | calDue (temp : BitVec 8)
  /-- CAL_STEP_END: Whether the step is the last of its calibration, and what the run has found. -/
  | calStepEnd (last : Bool) (facts : CalFacts)
  /-- TEST_START: The word written to RF_TEST with START set. -/
  | testStart (value : Word)
  /-- TEST_STOP: A write of TEST_STOP. -/
  | testStop
  /-- EXCHANGE_START: The exchange position S of a LIST position is reached. -/
  | exchangeStart (pos : Fin 8)
  /-- SREP_RECEIVE: The SREP from TYPE to CRC-16, the flicker rounds as detected, and bytes 0x0400 to 0x94FF of the capture buffer. -/
  | srepReceive (pos : Fin 8) (frame : Bytes) (rounds : List (List ChainHit)) (raw : Bytes)
  /-- RANGING_JOB_ENTER: The session's job is ready for a tile. -/
  | rangingJobEnter (session : Word)
  /-- RANGING_JOB_DONE: The tile's signal processing ends. -/
  | rangingJobDone (session : Word) (dsp : Dsp)
  /-- DRIFT_RESET: A write of DRIFT_RESET. -/
  | driftReset
  /-- RKE_CONFIRM_TIMEOUT: 1 s has passed since the RKE acceptance. -/
  | rkeConfirmTimeout (slot : Fin 64)
  /-- OFF_STATE_TEST: What the test finds. -/
  | offStateTest (test : OffTest)
  /-- RELEASE_CURRENT_CHECK: The load current. -/
  | releaseCurrentCheck (milliamp : BitVec 16)
  /-- HOLD_PWM: PULL_MS have passed. -/
  | holdPwm
  /-- OVER_CURRENT_TRIP: LOCKREL_L trips, else LOCKREL_H. -/
  | overCurrentTrip (low : Bool)
  /-- RELEASE_OVERTEMP: A driver passes its limit, or after 1 s lies below 140 C. -/
  | releaseOvertemp (low : Bool) (cool : Bool)
  /-- GRANT_ACK: Bus (0 CAN0, 1 CAN1, 2 T1S), CAN identifier or the Ethertype on T1S, the 32 bytes. -/
  | grantAck (port : Fin 3) (ident : Word) (message : Bytes)
  /-- GRANT_TIMEOUT: 100 ms, 200 ms or 300 ms since the first GRANT. -/
  | grantTimeout
  /-- STATUS: Bus, CAN identifier or the Ethertype on T1S, the 32 bytes, the sending MAC address on T1S. -/
  | status (port : Fin 3) (ident : Word) (message : Bytes) (mac : Nat)
  /-- RELOCK_DELAY: RELOCK_DELAY_S have passed. -/
  | relockDelay
  /-- RELOCK: A write of RELOCK. -/
  | relock
  /-- PAIR: Role, partner identifier, dealer authorisation. -/
  | pair (role : BitVec 8) (pid : BitVec 64) (auth : Bytes)
  /-- PAIR_TIMEOUT: 5 s have passed since the PING. -/
  | pairTimeout
  /-- UNPAIR: Role, dealer authorisation. -/
  | unpair (role : BitVec 8) (auth : Bytes)
  /-- PARTNER_LIST: Reads the partner records. -/
  | partnerList
  /-- DISCOVERY_RECEIVE: A discovery frame of a bus. -/
  | discoveryReceive (port : Fin 3) (payload : Bytes) (mac : Nat)
  /-- DISCOVERY_ANNOUNCE: An announcement is due: at link-up, else every 2 s or after a QUERY. -/
  | discoveryAnnounce (linkUp : Bool)
  /-- DISCOVERY_AGE_OUT: An unpaired entry has been unheard for 600 s. -/
  | discoveryAgeOut
  /-- ENCRYPT: Master and world of the packet header, the descriptor, AAD then data then tag at SRC; whether a reservation write succeeds. -/
  | encrypt (master : BitVec 4) (keeper : Bool) (desc input : Bytes) (resvOk : Bool)
  /-- DECRYPT: Master and world of the packet header, the descriptor, AAD then data then tag at SRC. -/
  | decrypt (master : BitVec 4) (keeper : Bool) (desc input : Bytes)
  /-- MAC_GENERATE: Master and world of the packet header, the descriptor, AAD then data then tag at SRC. -/
  | macGenerate (master : BitVec 4) (keeper : Bool) (desc input : Bytes)
  /-- MAC_VERIFY: Master and world of the packet header, the descriptor, AAD then data then tag at SRC. -/
  | macVerify (master : BitVec 4) (keeper : Bool) (desc input : Bytes)
  /-- DERIVE: Master and world of the packet header, the descriptor, AAD then data then tag at SRC. -/
  | derive (master : BitVec 4) (keeper : Bool) (desc input : Bytes)
  /-- WRAP: Master and world of the packet header, the descriptor, AAD then data then tag at SRC. -/
  | wrap (master : BitVec 4) (keeper : Bool) (desc input : Bytes)
  /-- UNWRAP: Master and world of the packet header, the descriptor, AAD then data then tag at SRC. -/
  | unwrap (master : BitVec 4) (keeper : Bool) (desc input : Bytes)
  /-- HASH: Master and world of the packet header, the descriptor, AAD then data then tag at SRC. -/
  | hash (master : BitVec 4) (keeper : Bool) (desc input : Bytes)
  /-- KEY_PAIR_GENERATE: Master and world of the packet header, the descriptor, AAD then data then tag at SRC. -/
  | keyPairGenerate (master : BitVec 4) (keeper : Bool) (desc input : Bytes)
  /-- SIGN: Master and world of the packet header, the descriptor, AAD then data then tag at SRC. -/
  | sign (master : BitVec 4) (keeper : Bool) (desc input : Bytes)
  /-- SIGNATURE_VERIFY: Master and world of the packet header, the descriptor, AAD then data then tag at SRC. -/
  | signatureVerify (master : BitVec 4) (keeper : Bool) (desc input : Bytes)
  /-- ECDH: Master and world of the packet header, the descriptor, AAD then data then tag at SRC. -/
  | ecdh (master : BitVec 4) (keeper : Bool) (desc input : Bytes)
  /-- RANDOM: Master and world of the packet header, the descriptor, AAD then data then tag at SRC. -/
  | random (master : BitVec 4) (keeper : Bool) (desc input : Bytes)
  /-- CONTEXT_EXPORT: Master and world of the packet header, the descriptor, AAD then data then tag at SRC; whether a reservation write succeeds. -/
  | contextExport (master : BitVec 4) (keeper : Bool) (desc input : Bytes) (resvOk : Bool)
  /-- CONTEXT_IMPORT: Master and world of the packet header, the descriptor, AAD then data then tag at SRC. -/
  | contextImport (master : BitVec 4) (keeper : Bool) (desc input : Bytes)
  /-- CONTEXT_FREE: Master and world of the packet header, the descriptor, AAD then data then tag at SRC. -/
  | contextFree (master : BitVec 4) (keeper : Bool) (desc input : Bytes)
  /-- CIPHER: Descriptor 64, then AAD, data and tag. -/
  | cipher (input : Bytes) (env : Env)
  /-- CIPHER_RESPONSE: The engines as they run: 0, 1 pipelines, 2 SHA-512, 3 P-521, 4 firmware, 5 DRBG, 6 the context store; the segments each runs. -/
  | cipherResponse (turns : List (Fin 7 × Nat) := [])
  /-- PIPELINE_FAULT: The pipeline in which the fault is detected. -/
  | pipelineFault (pipe : Fin 2)
  /-- ENGINE_FAULT: The SHA-512 engine, else the P-521 engine. -/
  | engineFault (sha : Bool)
  /-- ENTROPY_BATCH: 1024 raw samples; none where the source yields none. -/
  | entropyBatch (samples : List Bool)
  /-- ENTROPY_RETRY: 60 s since the failure or the last retry: whether a batch passes. -/
  | entropyRetry (ok : Bool)
  /-- ENT_RETRY: A write of ENT_RETRY: whether a batch passes. -/
  | entRetry (ok : Bool)
  /-- DRBG_RESEED: 10 s of MT awake since the last reseed. -/
  | drbgReseed
  /-- CHALLENGE: Draws an authorisation challenge. -/
  | challenge
  /-- CHALLENGE_EXPIRY: 120 s of MT pass since the challenge. -/
  | challengeExpiry
  /-- INTEGRATE: The customer root hash, 32 bytes. -/
  | integrate (hash : Bytes)
  /-- FIELD: Enters FIELD. -/
  | field
  /-- RETIRE: The dealer authorisation, empty outside FIELD. -/
  | retire (auth : Bytes)
  /-- IMPORT_TRANSPORT: Q and wrapped key (172 bytes), and the authorisation. -/
  | importTransport (sealed auth : Bytes)
  /-- IMPORT_ATTEST: Q and wrapped key (172 bytes), and the authorisation. -/
  | importAttest (sealed auth : Bytes)
  /-- KEY_GENERATE: Kind 6 or 7 and the attribute word asked for. -/
  | keyGenerate (kind : BitVec 8) (attr : Word)
  /-- KEY_EXPORT: The key and the wrapping key. -/
  | keyExport (handle wrapping : Word)
  /-- KEY_DESTROY: The key to destroy. -/
  | keyDestroy (handle : Word)
  /-- KEY_ROTATE: The key to rotate. -/
  | keyRotate (handle : Word)
  /-- KEY_ATTR_READ: The key whose attributes are read. -/
  | keyAttrRead (handle : Word)
  /-- ATTEST_A: A 16-byte challenge. -/
  | attestA (challenge : Bytes)
  /-- STATEMENT_B: The key to state and a 16-byte challenge. -/
  | statementB (handle : Word) (challenge : Bytes)
  /-- STATEMENTS_READ: Reads the start-up statements. -/
  | statementsRead
  /-- DIK_CERT_READ: Reads the DIK public key and certificate. -/
  | dikCertRead
  /-- ECDH_SECRET_WIPE: An ECDH secret has stood unused for 1 s of MT. -/
  | ecdhSecretWipe
  /-- FUSE_BLOW_DONE: The read-back of the 2 elements. -/
  | fuseBlowDone (readA readB : Bool)
  /-- T1_ALARM: The clock monitor, else the voltage monitor, trips. -/
  | t1Alarm (clock : Bool)
  /-- T2_ALARM: The light monitor, else the temperature monitor, trips. -/
  | t2Alarm (light : Bool)
  /-- KEYRING_LOCK_END: The 10 s of a T2 lock end. -/
  | keyringLockEnd
  /-- T3_ALARM: A T3 monitor trips. -/
  | t3Alarm (source : T3Source)
  /-- SVC_UNLOCK: An unlock request on the service port. -/
  | svcUnlock (auth : Bytes)
  /-- SVC_CLOSE: A close request on the service port. -/
  | svcClose
  /-- TAG_UPDATE_RETRY: 1 ms has passed since an update found the field side owning the memory. -/
  | tagUpdateRetry
  /-- JOURNAL_DRAIN: The storage controller drains the oldest page; whether the program succeeds. -/
  | journalDrain (programOk : Bool)
  /-- CHECKPOINT: The next due checkpoint is signed and stored. -/
  | checkpoint
  /-- JRNL_ACK: A write of STO_JRNL_ACK_HI. -/
  | jrnlAck (hi : Word)
  /-- CAPTURE_ACCEPT: The oldest waiting capture is copied into a storage buffer. -/
  | captureAccept
  /-- ANALYSIS_DONE: The analysis of a capture ends. -/
  | analysisDone (capture : BitVec 32)
  /-- CAPTURE_PROGRAM: The oldest capture due is programmed. -/
  | captureProgram (programOk : Bool)
  /-- STREAM_APPEND: Data for a host stream. -/
  | streamAppend (stream : BitVec 8) (data : Bytes) (env : Env)
  /-- STREAM_TRIM: Trims the records before `record`. -/
  | streamTrim (stream : BitVec 8) (record : BitVec 64)
  /-- CAPTURE_PIN: Pins a capture. -/
  | capturePin (capture : BitVec 32)
  /-- CAPTURE_UNPIN: Unpins a capture. -/
  | captureUnpin (capture : BitVec 32)
  /-- HOST_NOTE: 1 to 80 bytes. -/
  | hostNote (data : Bytes)
  /-- LOAD: A write of LOAD to STO_WIN_CTL. -/
  | load
  /-- WIN_READY: The window load ends. -/
  | winReady
  /-- SCRUB_NOW: A write of SCRUB_NOW. -/
  | scrubNow
  /-- SCRUB_REFRESH_DUE: A slice of scrub and refresh: the pages read, the blocks that it finds, whether the pass ends. -/
  | scrubRefreshDue (pages : List PageFact) (blocks : ScrubBlocks) (passEnds : Bool)
  /-- BLOCK_RETIRED: A program or erase of a block fails. -/
  | blockRetired (die : Fin 2)
  /-- VAULT_BANK_FAIL: A write fails its read-back after 2 retries, or the bank reports an uncorrectable word. -/
  | vaultBankFail (bank : Fin 2) (retries : Bool)
  /-- DIE_FAIL: A NAND die stops answering. -/
  | dieFail (die : Fin 2)
  /-- CONTROLLER_FAIL: The storage controller fails. -/
  | controllerFail
  /-- POWER_FAIL: VBAT falls below the power-fail threshold: what a sequence that VHOLD does not carry leaves, none where VHOLD carries it; the VHOLD voltage and the duration. -/
  | powerFail (cut : Option PowerCut) (millivolt micros : BitVec 16)
  /-- MT_RESERVATION: MT has come within 8,388,608 us of MT_RES; whether the vault write succeeds. -/
  | mtReservation (ok : Bool)
  /-- MT_RESERVATION_RETRY: 1 s after a failed reservation write. -/
  | mtReservationRetry (ok : Bool)
  /-- LPCD_SENSE: The detuning in 0.1 %, none where the tag sub-domain does not answer, and the cards a detection meets. -/
  | lpcdSense (detuning : Option Nat) (cards : CardField)
  /-- POLL: A write of POLL, and the cards it meets. -/
  | poll (cards : CardField)
  /-- CARD_ARSP: The selected card's answer, and its load-modulation level in dB over the detection floor. -/
  | cardArsp (frame : Bytes) (level : BitVec 8)
  /-- CARD_TIMEOUT: The selected card sends no ARSP within 500 ms; else a protocol error ends it. -/
  | cardTimeout (protocol : Bool)
  /-- CARD_REARM: The detuning has stayed below LPCD_DELTA for CARD_REARM_MS. -/
  | cardRearm
  /-- FIELD_ENTRY: The field level at entry. -/
  | fieldEntry (level : BitVec 4)
  /-- FIELD_LOSS: The selection ends by S(DESELECT) or HLTA, else the field ends. -/
  | fieldLoss (deselect : Bool)
  /-- GET_INFO: Field level, argument bytes, and how long the field side still owns the memory. -/
  | getInfo (fl : BitVec 4) (args : Bytes) (micros : BitVec 16)
  /-- READ: As GET_INFO: block 2, count 1. -/
  | read (fl : BitVec 4) (args : Bytes) (micros : BitVec 16)
  /-- WRITE: As GET_INFO: block 2, data 16. -/
  | write (fl : BitVec 4) (args : Bytes) (micros : BitVec 16)
  /-- PWD_AUTH: As GET_INFO: password 8. -/
  | pwdAuth (fl : BitVec 4) (args : Bytes) (micros : BitVec 16)
  /-- AUTH_BEGIN: As GET_INFO: RC 16. -/
  | authBegin (fl : BitVec 4) (args : Bytes) (micros : BitVec 16)
  /-- AUTH_END: As GET_INFO: MR 16. -/
  | authEnd (fl : BitVec 4) (args : Bytes) (micros : BitVec 16)
  /-- LOGOUT: As GET_INFO: no argument. -/
  | logout (fl : BitVec 4) (args : Bytes) (micros : BitVec 16)
  /-- TAG_SET_PWD: 8 bytes; all 0 for none. -/
  | tagSetPwd (password : Bytes)
  /-- TAG_SET_KEY: 32 bytes. -/
  | tagSetKey (key : Bytes)
  /-- TAG_READ: First block and count. -/
  | tagRead (block : BitVec 16) (count : BitVec 8)
  /-- TAG_WRITE: First block, count, data. -/
  | tagWrite (block : BitVec 16) (count : BitVec 8) (data : Bytes)
  /-- TAG_RESERVE: 1 to 50 ms. -/
  | tagReserve (ms : BitVec 8)
  /-- TAG_RELEASE: Ends the reservation. -/
  | tagRelease
  /-- RESERVATION_END: The reservation reaches its duration. -/
  | reservationEnd
  /-- CLR_LOCKS: A write of CLR_LOCKS. -/
  | clrLocks
  /-- SNAP: A write of SNAP. -/
  | snap
  /-- NT_SET: A write of NT_SET. -/
  | ntSet
  /-- NT_STEP: A write of NT_STEP. -/
  | ntStep
  /-- HOST_SYNC: A write of HOST_SYNC. -/
  | hostSync
  /-- NT_INC_WRITE: A write of TIM_NT_INC_INT. -/
  | ntIncWrite (int : BitVec 8)
  /-- HOLD_EXPIRY: HOLD_S has passed without sync. -/
  | holdExpiry
  /-- SYNC_TIMEOUT: No Sync for SYNC_TIMEOUT intervals. -/
  | syncTimeout
  /-- FOLLOW_UP: A Follow_Up: the receive stamp of its Sync, preciseOriginTimestamp and correctionField in ns, and the identity of its port. -/
  | followUp (syncStamp : Nat) (origin : Nat) (correction : Int) (source : Nat)
  /-- ANNOUNCE: An Announce: the identity of its port and its priority vector. -/
  | announce (source vector : Nat)
  /-- PDELAY_REQ: A Pdelay_Req. -/
  | pdelayReq (source sequence : Nat)
  /-- PDELAY_RESP: A Pdelay_Resp with its Follow_Up: the mean link delay they yield in ns. -/
  | pdelayResp (source sequence delay : Nat)
  /-- PDELAY_REQ_SEND: The Pdelay_Req interval ends. -/
  | pdelayReqSend
  /-- PULSE_ARM: A write of EN = 1 to a pulse unit. -/
  | pulseArm (unit : Fin 4)
  /-- PULSE_EDGE: A pulse unit reaches its grid point or width end. -/
  | pulseEdge (unit : Fin 4)
  /-- POP: A write of POP: 0 T1S, 1 CAN0, 2 CAN1. -/
  | pop (port : Fin 3)
  /-- OVF_CLEAR: A write of 1 to OVF. -/
  | ovfClear (port : Fin 3)
  /-- TX_STAMP_ENTRY: The oldest queued frame of a port is sent or abandoned. -/
  | txStampEntry (port : Fin 3) (sent : Bool)
  /-- OSC_CALIBRATION: 600 s of MT in STANDBY: the measured deviation of the oscillator. -/
  | oscCalibration (ppm : BitVec 16) (env : Env)
  /-- PT_OSC_FAIL: The 32.768 kHz oscillator stops. -/
  | ptOscFail
  /-- VOTE_RAISE: A client asks for RUN, or for DOZE. -/
  | voteRaise (client : Fin 9) (island : Fin 15) (doze : Bool)
  /-- VOTE_WITHDRAW: A client withdraws its vote. -/
  | voteWithdraw (client : Fin 9) (island : Fin 15)
  /-- ISLAND_RESTORED: An island reaches RUN; the oscillator deviation measured at a restore from STANDBY. -/
  | islandRestored (island : Fin 15) (ppm : BitVec 16)
  /-- RESTORE_TIMEOUT: An island is not in RUN at twice its Max restore. -/
  | restoreTimeout (island : Fin 15)
  /-- ISLAND_FAILED: An island fails, or its power switch. -/
  | islandFailed (island : Fin 15) (switch : Bool)
  /-- STANDBY_ENTRY: STBY_IDLE_MS of idleness have passed. -/
  | standbyEntry
  /-- STBY_WAIT_TIMEOUT: STBY_WAIT_MS have passed since the entry began. -/
  | stbyWaitTimeout
  /-- LEVEL_CHANGE: A performance level is asked for; whether it settles within 3 tries. -/
  | levelChange (island : Fin 15) (level : Fin 4) (settles : Bool)
  /-- GOVERNOR_TICK: The hottest junction in degrees C, P of R393, the highest 1 ms mean since the last tick. -/
  | governorTick (tj : BitVec 8) (milliwatt peak : BitVec 16)
  /-- BROWNOUT: VBAT below 6.0 V for 100 us. -/
  | brownout (millivolt : BitVec 16)
  /-- OVERVOLT: VBAT above 60.5 V for 10 us. -/
  | overvolt (millivolt : BitVec 16)
  /-- SUPPLY_RETURN: VBAT between 6.2 V and 58 V for 1 ms. -/
  | supplyReturn (millivolt : BitVec 16)
  /-- CRYSTAL_LOSS: The crystal is lost. -/
  | crystalLoss
  /-- CRYSTAL_RETRY: A periodic crystal retry ends. -/
  | crystalRetry (pass : Bool)
  /-- XTAL_RETRY: A write of XTAL_RETRY and the end of its retry. -/
  | xtalRetry (pass : Bool)
  /-- UPD_BEGIN: The manifest chunk. -/
  | updBegin (chunk0 : Bytes) (env : Env)
  /-- UPD_CHUNK: One chunk. -/
  | updChunk (index : BitVec 32) (data : Bytes) (env : Env)
  /-- VERIFY_DONE: The target slot has been reread. -/
  | verifyDone (env : Env)
  /-- UPD_ACTIVATE: The activation, with flag RESET. -/
  | updActivate (reset : Bool)
  /-- QUIESCENT_POINT: A commit point is quiescent. -/
  | quiescentPoint
  /-- ACT_WAIT_TIMEOUT: ACT_WAIT_S have passed in step 4. -/
  | actWaitTimeout
  /-- SATELLITE_RELOAD: The next satellite's condition holds. -/
  | satelliteReload
  /-- RELOAD_DONE: A satellite reload ends; whether it passes its check. -/
  | reloadDone (ok : Bool)
  /-- UPD_CONFIRM: Confirms the trial image. -/
  | updConfirm (env : Env)
  /-- UPD_REVERT: Reverts to the FALLBACK image. -/
  | updRevert
  /-- UPD_ABORT: Aborts the update. -/
  | updAbort
  /-- SPI_NOP: A frame with OP 0x0, or with a reserved OP 0x4 to 0xF. -/
  | spiNop (op tag : BitVec 4) (addr : BitVec 24) (len : Word) (crc : Word)
  /-- SPI_READ: A READ frame. -/
  | spiRead (tag : BitVec 4) (addr : BitVec 24) (len : Word) (crc : Word)
  /-- SPI_WRITE: A WRITE frame. -/
  | spiWrite (tag : BitVec 4) (addr : BitVec 24) (len : Word) (data : List Word) (crc : Word) (env : Env)
  /-- SPI_RESULT: A RESULT frame. -/
  | spiResult (tag : BitVec 4) (addr : BitVec 24) (len : Word) (crc : Word)
  /-- REGISTER_WRITE: A write of one register whose fields have no behaviour of their own. -/
  | registerWrite (addr : BitVec 24) (value : Word)
  /-- HIF_MB_RING: A write of HIF_MB_RING. -/
  | hifMbRing (value : Word)
  /-- OUT_ACK: A write of OUT_ACK. -/
  | outAck
  /-- MB_ABORT: A write of MB_ABORT. -/
  | mbAbort
  /-- MAILBOX_SEGMENT: A mailbox frame on a bus: its payload, and the sending MAC address on T1S. -/
  | mailboxSegment (transport : Transport) (payload : Bytes) (source : Nat)
  /-- MB_EXECUTE: The next queued command begins execution. -/
  | mbExecute (env : Env)
  /-- RESPONSE_DROP: 10 s have passed for a held bus response. -/
  | responseDrop
  /-- REG_READ: Register address and count. -/
  | regRead (addr count : Word)
  /-- REG_WRITE: Register address and values. -/
  | regWrite (addr : Word) (values : List Word) (env : Env)
  /-- RESET: The mailbox reset with its key. -/
  | reset (input : Word)
  /-- ECHO: Bytes to return. -/
  | echo (data : Bytes)
  /-- SYS_RESET: A write of SYS_RESET. -/
  | sysReset (value : Word)
  /-- FRAME_SEND: The input of Table 16-8. -/
  | frameSend (input : Bytes)
  /-- FRAME_RECV: The most records to return. -/
  | frameRecv (max : BitVec 16)
  /-- BUS_FRAME_RECEIVE: A frame as its record of Table 16-9, the stamp not yet filled in. -/
  | busFrameReceive (record : Bytes)
  /-- BUS_OFF: A CAN controller goes bus-off. -/
  | busOff (ctrl : Fin 2)
  /-- CAN_RECOVER: A write of CANn_RECOVER. -/
  | canRecover (ctrl : Fin 2)
  /-- BEACON_LOST: 4 TO_TIMER cycles without a BEACON. -/
  | beaconLost
  /-- BUS_WAKE: Activity on a bus in STANDBY: 0 CAN0, 1 CAN1, 2 T1S. -/
  | busWake (port : Fin 3)
  /-- SPI_CS_WAKE: A falling edge of SPI_CS_N in STANDBY. -/
  | spiCsWake
  /-- TAG_ANTICOLLISION: REQA to RATS. -/
  | tagAnticollision (fl : BitVec 4)
  /-- BEACON_RECEIVE: A BEACON arrives. -/
  | beaconReceive
  /-- BUS_OFF_RECOVERY: 128 occurrences of 11 recessive bits. -/
  | busOffRecovery (ctrl : Fin 2)
  /-- STATUS_STALE: 300 ms have passed since the role's last verified STATUS. -/
  | statusStale (role : Fin 8)
  /-- WAKE_INPUT_INACTIVE: The input leaves its active level. -/
  | wakeInputInactive (input : Fin 12)
  /-- RESPONSE_DELIVERED: The response that a reset waits for counts as delivered. -/
  | responseDelivered
  deriving DecidableEq, Repr

end Sys2Proof
end

