-- ==== Sys2Proof/Machine/Bytes.lean ====
section
/-! DEFINITION. Fields of byte strings: little-endian and big-endian numbers (R8), slices, padding, CRC-32C (R434) and
CRC-16 (R98). -/
namespace Sys2Proof.Machine

open Sys2Proof

/-- The value of a byte string whose first byte is the least significant. -/
def leNat : Bytes → Nat
  | [] => 0
  | b :: bs => b.toNat + 256 * leNat bs

/-- The value of a byte string whose first byte is the most significant. -/
def beNat (bs : Bytes) : Nat := leNat bs.reverse

/-- `n` bytes from offset `off`; bytes beyond the end are absent. -/
def slice (bs : Bytes) (off n : Nat) : Bytes := (bs.drop off).take n

/-- The little-endian field of `n` bytes at `off`. -/
def le (bs : Bytes) (off n : Nat) : Nat := leNat (slice bs off n)

/-- The big-endian field of `n` bytes at `off`. -/
def be (bs : Bytes) (off n : Nat) : Nat := beNat (slice bs off n)

/-- One byte of a string, 0 beyond its end. -/
def u8 (bs : Bytes) (off : Nat) : Nat := le bs off 1

/-- `n` bytes of a number, least significant first. -/
def toLE : Nat → Nat → Bytes
  | 0, _ => []
  | n + 1, v => byte v :: toLE n (v / 256)

/-- `n` bytes of a number, most significant first. -/
def toBE (n v : Nat) : Bytes := (toLE n v).reverse

/-- `n` bytes of value 0. -/
def zeros (n : Nat) : Bytes := List.replicate n 0

/-- A string cut or padded with 0 to `n` bytes. -/
def padTo (n : Nat) (bs : Bytes) : Bytes := bs.take n ++ zeros (n - bs.length)

/-- Whether every byte is 0: the check of a reserved field. -/
def allZero (bs : Bytes) : Bool := bs.all (· == 0)

/-- A field read as a two's complement number of `w` bits. -/
def signed (w v : Nat) : Int := if v < 2 ^ (w - 1) then (v : Int) else (v : Int) - (2 ^ w : Nat)

/-- The two's complement code of an integer in `w` bits. -/
def unsigned (w : Nat) (i : Int) : Nat := (i % (2 ^ w : Nat)).toNat

/-- A field of bits `hi` to `lo` of a number. -/
def bits (v hi lo : Nat) : Nat := v / 2 ^ lo % 2 ^ (hi + 1 - lo)

/-- The bytes of 32-bit words, each least significant byte first (R432). -/
def wordsToBytes (ws : List Word) : Bytes := ws.flatMap (fun w => toLE 4 w.toNat)

/-- The 32-bit words of a byte string, `n` of them. -/
def bytesToWords : Nat → Bytes → List Word
  | 0, _ => []
  | n + 1, bs => BitVec.ofNat 32 (leNat (bs.take 4)) :: bytesToWords n (bs.drop 4)

/-- One bit step of the reflected CRC-32C (R434; 0x82F6_3B78 is 0x1EDC_6F41 reversed). -/
def crc32cBit (c : Word) : Word := if c &&& 1 = 1 then (c >>> 1) ^^^ 0x82F63B78 else c >>> 1

/-- `n` bit steps. -/
def crc32cBits : Nat → Word → Word
  | 0, c => c
  | n + 1, c => crc32cBits n (crc32cBit c)

/-- The running CRC-32C over a byte string. -/
def crc32cFold (c : Word) : Bytes → Word
  | [] => c
  | b :: bs => crc32cFold (crc32cBits 8 (c ^^^ b.setWidth 32)) bs

/-- CRC-32C of R434. -/
def crc32c (bs : Bytes) : Word := crc32cFold 0xFFFFFFFF bs ^^^ 0xFFFFFFFF

/-- One bit step of the CRC-16 of polynomial 0x1021, most significant bit first. -/
def crc16Bit (c : BitVec 16) : BitVec 16 := if c &&& 0x8000 = 0x8000 then (c <<< 1) ^^^ 0x1021 else c <<< 1

/-- `n` bit steps. -/
def crc16Bits : Nat → BitVec 16 → BitVec 16
  | 0, c => c
  | n + 1, c => crc16Bits n (crc16Bit c)

/-- The running CRC-16 over a byte string. -/
def crc16Fold (c : BitVec 16) : Bytes → BitVec 16
  | [] => c
  | b :: bs => crc16Fold (crc16Bits 8 (c ^^^ (b.setWidth 16 <<< 8))) bs

/-- CRC-16 with initial value 0xFFFF (R98). -/
def crc16 (bs : Bytes) : BitVec 16 := crc16Fold 0xFFFF bs

end Sys2Proof.Machine
end

