-- ==== Sys2Proof/Machine/Crypto.lean ====
section
/-! DEFINITION. The cryptographic functions that the spec names by their standards: AES-256 with CTR, GCM, CCM, CMAC, AES-KW and XTS
(R237, R243), the KDF of R267, SHA-512, and ECDSA and ECDH on P-521 (R254). What they compute is taken from those standards
(log entry 5). -/
namespace Sys2Proof.Machine.Crypto

open Sys2Proof Sys2Proof.Machine

/-! ## AES-256 (FIPS 197) -/

/-- Multiplication by x in the AES field. -/
def xtime (a : Byte) : Byte := if a &&& 0x80 = 0x80 then (a <<< 1) ^^^ 0x1B else a <<< 1

/-- Product in the AES field; the count is the bits left of `b`. -/
def gmul : Nat → Byte → Byte → Byte
  | 0, _, _ => 0
  | n + 1, a, b => (if b &&& 1 = 1 then a else 0) ^^^ gmul n (xtime a) (b >>> 1)

/-- The product of a^2, a^4, ... a^128, which is the inverse of `a`. -/
def ginv : Nat → Byte → Byte → Byte
  | 0, _, acc => acc
  | n + 1, a, acc => let q := gmul 8 a a; ginv n q (gmul 8 acc q)

/-- The S-box. -/
def sbox (a : Byte) : Byte :=
  let b := ginv 7 a 1
  b ^^^ b.rotateLeft 1 ^^^ b.rotateLeft 2 ^^^ b.rotateLeft 3 ^^^ b.rotateLeft 4 ^^^ 0x63

/-- The inverse S-box. -/
def sboxInv (a : Byte) : Byte :=
  let b := a ^^^ 0x63
  ginv 7 (b.rotateLeft 1 ^^^ b.rotateLeft 3 ^^^ b.rotateLeft 6) 1

/-- The tables of the S-box and its inverse. -/
def sboxTab : Array Byte := ((List.range 256).map (fun i => sbox (byte i))).toArray
def sboxInvTab : Array Byte := ((List.range 256).map (fun i => sboxInv (byte i))).toArray

/-- A byte through a table. -/
def sub (a : Byte) : Byte := sboxTab.getD a.toNat 0
def subInv (a : Byte) : Byte := sboxInvTab.getD a.toNat 0

/-- Bytes added in the field. -/
def xorB (a b : Bytes) : Bytes := List.zipWith (fun x y => x ^^^ y) a b

/-- The next words of the key schedule, from word `i` on; `w` holds the words so far, newest first. -/
def expand : Nat → Nat → Byte → List Bytes → List Bytes
  | 0, _, _, w => w
  | n + 1, i, rc, w =>
    let t := w.getD 0 []
    let old := w.getD 7 []
    if i % 8 = 0 then
      let r := (t.drop 1 ++ t.take 1).map sub
      expand n (i + 1) (xtime rc) (xorB old (xorB r [rc, 0, 0, 0]) :: w)
    else if i % 8 = 4 then expand n (i + 1) rc (xorB old (t.map sub) :: w)
    else expand n (i + 1) rc (xorB old t :: w)

/-- The 15 round keys of a 32-byte key. -/
def roundKeys (key : Bytes) : List Bytes :=
  let k := padTo 32 key
  let w0 := ((List.range 8).map (fun i => slice k (4 * i) 4)).reverse
  let ws := (expand 52 8 1 w0).reverse
  (List.range 15).map (fun r => (slice' ws (4 * r)).flatten)
where
  slice' (ws : List Bytes) (i : Nat) : List Bytes := (ws.drop i).take 4

/-- ShiftRows and its inverse on the 16 bytes, column by column. -/
def shiftRows (b : Bytes) : Bytes := (List.range 16).map (fun i => b.getD ((i + 4 * (i % 4)) % 16) 0)
def shiftRowsInv (b : Bytes) : Bytes := (List.range 16).map (fun i => b.getD ((i + 12 * (i % 4)) % 16) 0)

/-- One column times a circulant matrix. -/
def mixCol (m : List Byte) (c : Bytes) : Bytes :=
  (List.range 4).map (fun r => (List.range 4).foldl (fun a k => a ^^^ gmul 8 (c.getD k 0) (m.getD ((k + 4 - r) % 4) 0)) 0)

/-- MixColumns with a matrix. -/
def mixCols (m : List Byte) (b : Bytes) : Bytes := (List.range 4).flatMap (fun c => mixCol m (slice b (4 * c) 4))

/-- The middle rounds and the last round. -/
def encRounds : List Bytes → Bytes → Bytes
  | [], b => b
  | [k], b => xorB (shiftRows (b.map sub)) k
  | k :: ks, b => encRounds ks (xorB (mixCols [2, 3, 1, 1] (shiftRows (b.map sub))) k)

/-- One block enciphered. -/
def aesEnc (rk : List Bytes) (b : Bytes) : Bytes :=
  match rk with
  | k :: ks => encRounds ks (xorB (padTo 16 b) k)
  | [] => b

/-- The inverse rounds, round keys last first. -/
def decRounds : List Bytes → Bytes → Bytes
  | [], b => b
  | [k], b => xorB ((shiftRowsInv b).map subInv) k
  | k :: ks, b => decRounds ks (mixCols [14, 11, 13, 9] (xorB ((shiftRowsInv b).map subInv) k))

/-- One block deciphered. -/
def aesDec (rk : List Bytes) (b : Bytes) : Bytes :=
  match rk.reverse with
  | k :: ks => decRounds ks (xorB (padTo 16 b) k)
  | [] => b

/-- The blocks of 16 bytes of a string; the count bounds them. -/
def blocks : Nat → Bytes → List Bytes
  | 0, _ => []
  | n + 1, b => if b.isEmpty then [] else b.take 16 :: blocks n (b.drop 16)

/-- All blocks of a string. -/
def blocksOf (b : Bytes) : List Bytes := blocks (b.length / 16 + 1) b

/-! ## Modes -/

/-- Doubling in the field of 2^128, most significant bit first (SP 800-38B). -/
def dbl (b : Bytes) : Bytes :=
  let n := beNat b
  toBE 16 ((n * 2) % 2 ^ 128 ^^^ (if n < 2 ^ 127 then 0 else 0x87))

/-- CBC-MAC over whole blocks. -/
def cbcMac (rk : List Bytes) (bs : List Bytes) (x : Bytes) : Bytes := bs.foldl (fun a b => aesEnc rk (xorB a b)) x

/-- AES-256-CMAC (SP 800-38B), 16 bytes. -/
def cmac (key msg : Bytes) : Bytes :=
  let rk := roundKeys key
  let k1 := dbl (aesEnc rk (zeros 16))
  let full := msg.length / 16 * 16
  let whole := !msg.isEmpty && msg.length == full
  let head := if whole then msg.take (full - 16) else msg.take full
  let last := if whole then msg.drop (full - 16) else padTo 16 (msg.drop full ++ [0x80])
  aesEnc rk (xorB (cbcMac rk (blocksOf head) (zeros 16)) (xorB last (if whole then k1 else dbl k1)))

/-- The key stream of counter blocks applied to data: `n` the counter's value in the last 4 bytes of `head`, 12 bytes. -/
def ctr32 (rk : List Bytes) (head : Bytes) : Nat → List Bytes → Bytes
  | _, [] => []
  | n, b :: bs => List.zipWith (fun x y => x ^^^ y) b (aesEnc rk (head ++ toBE 4 n)) ++ ctr32 rk head (n + 1) bs

/-- CTR with an initial counter block whose last 32 bits count. -/
def ctr (key block data : Bytes) : Bytes := ctr32 (roundKeys key) (block.take 12) (be block 12 4) (blocksOf data)

/-- Product in the GCM field (SP 800-38D); bits of `x` most significant first. -/
def ghMul : Nat → Nat → Nat → Nat → Nat
  | 0, _, _, z => z
  | n + 1, x, v, z =>
    ghMul n (x * 2 % 2 ^ 128) (if v % 2 = 1 then (v / 2) ^^^ (0xE1 * 2 ^ 120) else v / 2) (if x < 2 ^ 127 then z else z ^^^ v)

/-- GHASH over padded blocks. -/
def ghash (h : Nat) (bs : List Bytes) : Nat := bs.foldl (fun y b => ghMul 128 (y ^^^ beNat (padTo 16 b)) h 0) 0

/-- The GCM tag, 16 bytes, of a cipher text. -/
def gcmTag (key nonce aad c : Bytes) : Bytes :=
  let rk := roundKeys key
  let h := beNat (aesEnc rk (zeros 16))
  let y := ghash h (blocksOf aad ++ blocksOf c ++ [toBE 8 (8 * aad.length) ++ toBE 8 (8 * c.length)])
  xorB (toBE 16 y) (aesEnc rk (nonce ++ toBE 4 1))

/-- GCM data, both ways. -/
def gcm (key nonce data : Bytes) : Bytes := ctr32 (roundKeys key) nonce 2 (blocksOf data)

/-- CCM with a 12-byte nonce (q = 3): the key stream from counter `n`. -/
def ccmCtr (rk : List Bytes) (nonce : Bytes) : Nat → List Bytes → Bytes
  | _, [] => []
  | n, b :: bs => List.zipWith (fun x y => x ^^^ y) b (aesEnc rk (toBE 1 2 ++ nonce ++ toBE 3 n)) ++ ccmCtr rk nonce (n + 1) bs

/-- The CCM tag of plain text. -/
def ccmTag (key nonce aad data : Bytes) (tagLen : Nat) : Bytes :=
  let rk := roundKeys key
  let b0 := toBE 1 ((if aad.isEmpty then 0 else 64) + (tagLen - 2) / 2 * 8 + 2) ++ nonce ++ toBE 3 data.length
  let a := if aad.isEmpty then [] else (if aad.length < 0xFF00 then toBE 2 aad.length else toBE 2 0xFFFE ++ toBE 4 aad.length) ++ aad
  let t := cbcMac rk (b0 :: (blocksOf a).map (padTo 16) ++ (blocksOf data).map (padTo 16)) (zeros 16)
  (xorB t (aesEnc rk (toBE 1 2 ++ nonce ++ toBE 3 0))).take tagLen

/-- CCM data, both ways. -/
def ccm (key nonce data : Bytes) : Bytes := ccmCtr (roundKeys key) nonce 1 (blocksOf data)

/-- The 6 passes of AES-KW over the registers (RFC 3394), `t` counting. -/
def kwPass (rk : List Bytes) : Nat → List Bytes → Bytes → List Bytes → Nat × Bytes × List Bytes
  | t, [], a, done => (t, a, done.reverse)
  | t, r :: rs, a, done =>
    let b := aesEnc rk (a ++ r)
    kwPass rk (t + 1) rs (toBE 8 (beNat (b.take 8) ^^^ t)) (b.drop 8 :: done)

/-- `n` passes. -/
def kwPasses (rk : List Bytes) : Nat → Nat → Bytes → List Bytes → Bytes × List Bytes
  | 0, _, a, r => (a, r)
  | n + 1, t, a, r => let p := kwPass rk t r a []; kwPasses rk n p.1 p.2.1 p.2.2

/-- The 8-byte registers of a string. -/
def regs8 (b : Bytes) : List Bytes := (List.range (b.length / 8)).map (fun i => slice b (8 * i) 8)

/-- AES-KW wrap with the default initial value. -/
def kwWrap (key data : Bytes) : Bytes :=
  let p := kwPasses (roundKeys key) 6 1 (List.replicate 8 0xA6) (regs8 data)
  p.1 ++ p.2.flatten

/-- One inverse pass, registers last first. -/
def kwUnpass (rk : List Bytes) : Nat → List Bytes → Bytes → List Bytes → Nat × Bytes × List Bytes
  | t, [], a, done => (t, a, done)
  | t, r :: rs, a, done =>
    let b := aesDec rk (toBE 8 (beNat a ^^^ t) ++ r)
    kwUnpass rk (t - 1) rs (b.take 8) (b.drop 8 :: done)

/-- `n` inverse passes. -/
def kwUnpasses (rk : List Bytes) : Nat → Nat → Bytes → List Bytes → Bytes × List Bytes
  | 0, _, a, r => (a, r)
  | n + 1, t, a, r => let p := kwUnpass rk t r.reverse a []; kwUnpasses rk n p.1 p.2.1 p.2.2

/-- AES-KW unwrap; none where the initial value does not come back. -/
def kwUnwrap (key data : Bytes) : Option Bytes :=
  let r := regs8 (data.drop 8)
  let p := kwUnpasses (roundKeys key) 6 (6 * r.length) (data.take 8) r
  if p.1 = List.replicate 8 0xA6 then some p.2.flatten else none

/-- The XTS tweak times x, least significant byte first. -/
def xtsDbl (t : Nat) : Nat := (t * 2) % 2 ^ 128 ^^^ (if t < 2 ^ 127 then 0 else 0x87)

/-- The blocks of one XTS data unit. -/
def xtsBlocks (f : Bytes → Bytes) : Nat → List Bytes → Bytes
  | _, [] => []
  | t, b :: bs => let tb := toLE 16 t; xorB tb (f (xorB tb b)) ++ xtsBlocks f (xtsDbl t) bs

/-- XTS over units of 4096 bytes from unit number `n` (IEEE 1619); the key is a pair of 32-byte keys. -/
def xtsUnits (enc : Bool) (key : Bytes) : Nat → Nat → Bytes → Bytes
  | 0, _, _ => []
  | k + 1, n, data =>
    if data.isEmpty then [] else
      let rk := roundKeys (key.take 32)
      let t := leNat (aesEnc (roundKeys (key.drop 32)) (toLE 16 n))
      xtsBlocks (if enc then aesEnc rk else aesDec rk) t (blocksOf (data.take 4096)) ++ xtsUnits enc key k (n + 1) (data.drop 4096)

/-- KDF in counter mode (SP 800-108, R267): 8-bit counter, label, 0x00, context, 16-bit output length; `n` blocks of 16 bytes. -/
def kdfN (n : Nat) (key : Bytes) (label : String) (context : Bytes) : Bytes :=
  (List.range n).flatMap (fun i =>
    cmac key (toBE 1 (i + 1) ++ label.toList.map (fun c => byte c.toNat) ++ [0] ++ context ++ toBE 2 (128 * n)))

/-- The 256 bits that one call yields. -/
def kdf (key : Bytes) (label : String) (context : Bytes) : Bytes := kdfN 2 key label context

/-! ## SHA-512 (FIPS 180-4) -/

/-- The largest `x` below 2^(lo + n) with x^k at most `v`: binary search from the top bit. -/
def rootOf (k v : Nat) : Nat → Nat → Nat
  | 0, x => x
  | n + 1, x => if (x + 2 ^ n) ^ k ≤ v then rootOf k v n (x + 2 ^ n) else rootOf k v n x

/-- The first 80 primes. -/
def primes : List Nat := (List.range 410).filter (fun n => 2 ≤ n && (List.range n).all (fun d => d < 2 || n % d != 0))

/-- The round constants: the first 64 bits of the fractions of the cube roots of the primes. -/
def shaK : List (BitVec 64) := primes.map (fun p => BitVec.ofNat 64 (rootOf 3 (p * 2 ^ 192) 68 0))

/-- The initial hash value: the fractions of the square roots of the first 8 primes. -/
def shaH : List (BitVec 64) := (primes.take 8).map (fun p => BitVec.ofNat 64 (rootOf 2 (p * 2 ^ 128) 70 0))

/-- The message schedule; `w` newest first. -/
def shaSchedule : Nat → List (BitVec 64) → List (BitVec 64)
  | 0, w => w
  | n + 1, w =>
    let a := w.getD 14 0
    let b := w.getD 1 0
    let s0 := a.rotateRight 1 ^^^ a.rotateRight 8 ^^^ (a >>> 7)
    let s1 := b.rotateRight 19 ^^^ b.rotateRight 61 ^^^ (b >>> 6)
    shaSchedule n ((w.getD 15 0 + s0 + w.getD 6 0 + s1) :: w)

/-- One round on the 8 working variables. -/
def shaRound (v : List (BitVec 64)) (k w : BitVec 64) : List (BitVec 64) :=
  match v with
  | [a, b, c, d, e, f, g, h] =>
    let s1 := e.rotateRight 14 ^^^ e.rotateRight 18 ^^^ e.rotateRight 41
    let t1 := h + s1 + ((e &&& f) ^^^ ((~~~ e) &&& g)) + k + w
    let s0 := a.rotateRight 28 ^^^ a.rotateRight 34 ^^^ a.rotateRight 39
    let t2 := s0 + ((a &&& b) ^^^ (a &&& c) ^^^ (b &&& c))
    [t1 + t2, a, b, c, d + t1, e, f, g]
  | _ => v

/-- One block. -/
def shaBlock (h : List (BitVec 64)) (blk : Bytes) : List (BitVec 64) :=
  let w0 := (List.range 16).map (fun i => BitVec.ofNat 64 (be blk (8 * i) 8))
  let w := (shaSchedule 64 w0.reverse).reverse
  List.zipWith (fun x y => x + y) h ((List.zip shaK w).foldl (fun v kw => shaRound v kw.1 kw.2) h)

/-- The blocks of 128 bytes. -/
def shaBlocks : Nat → List (BitVec 64) → Bytes → List (BitVec 64)
  | 0, h, _ => h
  | n + 1, h, b => if b.isEmpty then h else shaBlocks n (shaBlock h (b.take 128)) (b.drop 128)

/-- SHA-512, 64 bytes. -/
def sha512 (m : Bytes) : Bytes :=
  let pad := zeros ((239 - m.length % 128) % 128)
  let p := m ++ [0x80] ++ pad ++ toBE 16 (8 * m.length)
  (shaBlocks (p.length / 128 + 1) shaH p).flatMap (fun w => toBE 8 w.toNat)

/-! ## P-521 (FIPS 186-4, SP 800-56A) -/

/-- The field prime, the order, the coefficient b and the base point. -/
def pP : Nat := 2 ^ 521 - 1
def pN : Nat :=
  2 ^ 521 - 0x5AE79787C40D069948033FEB708F65A2FC44A36477663B851449048E16EC79BF7
def pB : Nat :=
  0x51953EB9618E1C9A1F929A21A0B68540EEA2DA725B99B315F3B8B489918EF109E156193951EC7E937B1652C0BD3BB1BF073573DF883D2C34F1EF451FD46B503F00
def pGx : Nat :=
  0xC6858E06B70404E9CD9E3ECB662395B4429C648139053FB521F828AF606B4D3DBAA14B5E77EFE75928FE1DC127A2FFA8DE3348B3C1856A429BF97E7E31C2E5BD66
def pGy : Nat :=
  0x11839296A789A3BC0045C8A5FB42C7D1BD998F54449579B446817AFBD17273E662C97EE72995EF42640C550B9013FAD0761353C7086A272C24088BE94769FD16650

/-- Power modulo `m`; the count is the bits of the exponent. -/
def powMod (m : Nat) : Nat → Nat → Nat → Nat → Nat
  | 0, _, _, acc => acc
  | n + 1, b, e, acc => powMod m n (b * b % m) (e / 2) (if e % 2 = 1 then acc * b % m else acc)

/-- Inverse modulo a prime of 521 bits. -/
def invMod (m a : Nat) : Nat := powMod m 521 (a % m) (m - 2) 1

/-- A difference modulo the field prime. -/
def subP (a b : Nat) : Nat := (a + pP - b % pP) % pP

/-- Doubling in Jacobian coordinates; Z = 0 is the point at infinity. -/
def dblJ (q : Nat × Nat × Nat) : Nat × Nat × Nat :=
  let (x, y, z) := q
  let zz := z * z % pP
  let m := 3 * subP x zz * ((x + zz) % pP) % pP
  let yy := y * y % pP
  let t := 4 * x * yy % pP
  let x3 := subP (m * m) (2 * t)
  (x3, subP (m * subP t x3) (8 * yy * yy), 2 * y * z % pP)

/-- Addition in Jacobian coordinates. -/
def addJ (a b : Nat × Nat × Nat) : Nat × Nat × Nat :=
  let (x1, y1, z1) := a
  let (x2, y2, z2) := b
  if z1 = 0 then b else if z2 = 0 then a else
  let z1z := z1 * z1 % pP
  let z2z := z2 * z2 % pP
  let u1 := x1 * z2z % pP
  let u2 := x2 * z1z % pP
  let s1 := y1 * z2 * z2z % pP
  let s2 := y2 * z1 * z1z % pP
  if u1 = u2 then (if s1 = s2 then dblJ a else (1, 1, 0)) else
  let h := subP u2 u1
  let r := subP s2 s1
  let hh := h * h % pP
  let hhh := h * hh % pP
  let v := u1 * hh % pP
  let x3 := subP (r * r) (hhh + 2 * v)
  (x3, subP (r * subP v x3) (s1 * hhh), h * z1 * z2 % pP)

/-- A multiple of a point; the count is the bits of the scalar, least significant first. -/
def mulJ : Nat → Nat → Nat × Nat × Nat → Nat × Nat × Nat → Nat × Nat × Nat
  | 0, _, _, acc => acc
  | n + 1, k, q, acc => mulJ n (k / 2) (dblJ q) (if k % 2 = 1 then addJ acc q else acc)

/-- The affine point; (0, 0) for infinity. -/
def affine (q : Nat × Nat × Nat) : Nat × Nat :=
  let i := invMod pP q.2.2
  (q.1 * i * i % pP, q.2.1 * i * i * i % pP)

/-- A multiple of an affine point. -/
def mulP (k : Nat) (p : Nat × Nat) : Nat × Nat := affine (mulJ 521 k (p.1, p.2, 1) (1, 1, 0))

/-- The point that 132 bytes X ‖ Y hold. -/
def point (b : Bytes) : Nat × Nat := (be b 0 66, be b 66 66)

/-- Whether 132 bytes are a point of the curve. -/
def onCurve (b : Bytes) : Bool :=
  let p := point b
  b.length == 132 && decide (p.1 < pP) && decide (p.2 < pP) && p.2 * p.2 % pP == subP (p.1 * p.1 * p.1 + pB) (3 * p.1)

/-- X ‖ Y of a point. -/
def pointBytes (p : Nat × Nat) : Bytes := toBE 66 p.1 ++ toBE 66 p.2

/-- A private key from drawn or derived bytes: (value mod (n - 1)) + 1. -/
def privateKey (b : Bytes) : Bytes := toBE 66 (beNat b % (pN - 1) + 1)

/-- The public key X ‖ Y of a private key. -/
def publicKey (key : Bytes) : Bytes := pointBytes (mulP (beNat key % pN) (pGx, pGy))

/-- The ECDH secret, the X coordinate, 66 bytes. -/
def ecdh (key pub : Bytes) : Bytes := toBE 66 (mulP (beNat key % pN) (point pub)).1

/-- ECDSA on a 64-byte digest under a private key with the secret number `k` of 1 to n - 1: r ‖ s, 132 bytes. -/
def ecdsaSign (key digest : Bytes) (k : Nat) : Bytes :=
  let r := (mulP k (pGx, pGy)).1 % pN
  let t := invMod pN k * ((beNat digest + r * beNat key) % pN) % pN
  toBE 66 r ++ toBE 66 t

/-- ECDSA verification: public key, digest, r ‖ s. -/
def ecdsaVerify (pub digest sig : Bytes) : Bool :=
  let r := be sig 0 66
  let t := be sig 66 66
  if r = 0 || pN ≤ r || t = 0 || pN ≤ t || !onCurve pub || sig.length ≠ 132 then false
  else
    let w := invMod pN t
    let q := point pub
    let a := mulJ 521 (beNat digest * w % pN) (pGx, pGy, 1) (1, 1, 0)
    let b := mulJ 521 (r * w % pN) (q.1, q.2, 1) (1, 1, 0)
    (affine (addJ a b)).1 % pN == r

/-! ## CTR_DRBG with AES-256 and a derivation function (SP 800-90A; R257) -/

/-- One chained pass of the derivation function over its padded input, under a counter block. -/
def dfPass (rk : List Bytes) (i : Nat) (s : Bytes) : Bytes := cbcMac rk ((toBE 4 i ++ zeros 12) :: blocksOf s) (zeros 16)

/-- The derivation function: 48 bytes of an input. -/
def drbgDf (input : Bytes) : Bytes :=
  let l := toBE 4 input.length ++ toBE 4 48 ++ input ++ [0x80]
  let s := padTo ((l.length + 15) / 16 * 16) l
  let rk := roundKeys ((List.range 32).map byte)
  let t := dfPass rk 0 s ++ dfPass rk 1 s ++ dfPass rk 2 s
  let rk2 := roundKeys (t.take 32)
  let x1 := aesEnc rk2 (slice t 32 16)
  let x2 := aesEnc rk2 x1
  x1 ++ x2 ++ aesEnc rk2 x2

/-- The next blocks of the counter V, and V after them. -/
def drbgBlocks (rk : List Bytes) : Nat → Bytes → Bytes × Bytes
  | 0, v => ([], v)
  | n + 1, v =>
    let v1 := toBE 16 (beNat v + 1)
    let r := drbgBlocks rk n v1
    (aesEnc rk v1 ++ r.1, r.2)

/-- The update of Key and V with 48 bytes. -/
def drbgUpdate (st : Bytes × Bytes) (data : Bytes) : Bytes × Bytes :=
  let t := xorB (drbgBlocks (roundKeys st.1) 3 st.2).1 data
  (t.take 32, t.drop 32)

/-- Instantiation from entropy and a nonce, and a reseed. -/
def drbgInstantiate (entropy nonce : Bytes) : Bytes × Bytes := drbgUpdate (zeros 32, zeros 16) (drbgDf (entropy ++ nonce))
def drbgReseed (st : Bytes × Bytes) (entropy : Bytes) : Bytes × Bytes := drbgUpdate st (drbgDf entropy)

/-- A generate of `n` bytes: the bytes, and Key and V after it. -/
def drbgGenerate (st : Bytes × Bytes) (n : Nat) : Bytes × (Bytes × Bytes) :=
  let b := drbgBlocks (roundKeys st.1) ((n + 15) / 16) st.2
  (padTo n b.1, drbgUpdate (st.1, b.2) (zeros 48))

end Sys2Proof.Machine.Crypto
end

