-- ==== Sys2Proof/Machine/Real.lean ====
section
/-! DEFINITION. The real functions that ranging and the LF field use (R196 to R198, R204), as rational approximations with an error below
2^-40: the spec names the functions and gives no precision (log entry 23). -/
namespace Sys2Proof.Machine

/-- The fixed-point scale. -/
def realOne : Int := 2 ^ 64

/-- A rational in fixed point, rounded down. -/
def toFix (x : Rat) : Int := (x * realOne).floor

/-- The rational of a fixed-point number. -/
def ofFix (i : Int) : Rat := (i : Rat) / (realOne : Rat)

/-- The product of 2 fixed-point numbers. -/
def fixMul (a b : Int) : Int := a * b / realOne

/-- π in fixed point. -/
def fixPi : Int := toFix (3141592653589793238462643383279 / 1000000000000000000000000000000)

/-- ln 10 in fixed point. -/
def fixLn10 : Int := toFix (2302585092994045684017991454684 / 1000000000000000000000000000000)

/-- The tail of the series of cosine (`k` odd) or sine (`k` even): terms t, -t x²/(k (k+1)), ... -/
def trigSum : Nat → Nat → Int → Int → Int
  | 0, _, _, t => t
  | n + 1, k, x2, t => t + trigSum n (k + 2) x2 (-(fixMul t x2) / ((k * (k + 1) : Nat) : Int))

/-- Degrees reduced to -180 to 180, as radians in fixed point. -/
def toRadians (deg : Rat) : Int :=
  let turns := ((deg + 180) / 360).floor
  fixMul (toFix ((deg - 360 * turns) / 180)) fixPi

/-- Cosine of an angle in degrees. -/
def cosDeg (deg : Rat) : Rat := let x := toRadians deg; ofFix (trigSum 24 1 (fixMul x x) realOne)

/-- Sine of an angle in degrees. -/
def sinDeg (deg : Rat) : Rat := let x := toRadians deg; ofFix (trigSum 24 2 (fixMul x x) x)

/-- Square root; 0 below 0. -/
def sqrtRat (x : Rat) : Rat := if x ≤ 0 then 0 else ((Nat.sqrt (x * 2 ^ 96).floor.toNat : Nat) : Rat) / 2 ^ 48

/-- The series of the exponential. -/
def expSum : Nat → Nat → Int → Int → Int
  | 0, _, _, t => t
  | n + 1, k, x, t => t + expSum n (k + 1) x (fixMul t x / (k : Int))

/-- Power of 10. -/
def pow10 (x : Rat) : Rat :=
  let n := x.floor
  let f := ofFix (expSum 48 1 (fixMul (toFix (x - n)) fixLn10) realOne)
  if 0 ≤ n then f * 10 ^ n.toNat else f / 10 ^ (-n).toNat

/-- The series of the inverse hyperbolic tangent. -/
def atanhSum : Nat → Nat → Int → Int → Int
  | 0, _, _, _ => 0
  | n + 1, k, x2, p => p / (k : Int) + atanhSum n (k + 2) x2 (fixMul p x2)

/-- Natural logarithm of 1 to 10. -/
def lnSmall (m : Rat) : Rat :=
  let r := sqrtRat (sqrtRat (sqrtRat m))
  let y := toFix ((r - 1) / (r + 1))
  16 * ofFix (atanhSum 16 1 (fixMul y y) y)

/-- A positive rational as m × 10^e with 1 ≤ m < 10; the count bounds the steps. -/
def normal10 : Nat → Rat → Int → Rat × Int
  | 0, m, e => (m, e)
  | n + 1, m, e => if 10 ≤ m then normal10 n (m / 10) (e + 1) else if m < 1 then normal10 n (m * 10) (e - 1) else (m, e)

/-- Decimal logarithm of a positive number. -/
def log10 (x : Rat) : Rat := let p := normal10 400 x 0; (p.2 : Rat) + lnSmall p.1 / ofFix fixLn10

/-- Rounding to the nearest integer, halves away from 0 upward (log entry 27). -/
def roundRat (x : Rat) : Int := (x + 1 / 2).floor

end Sys2Proof.Machine
end

