-- ==== Sys2Proof/Config.lean ====
section
/-! DEFINITION. What the spec leaves open or gives without a computation: free values, as opaque constants without a body, so
that no proof can see a value of them; each names the log entry of notes/assumptions that declares it. -/
namespace Sys2Proof

/-! ## Secrets and contents fixed for one part (log entry 4) -/

/-- ROOT of Table 10-1. -/
opaque Config.root : Bytes
/-- Naldin's public key X and Y, 132 bytes, under which firmware is signed (R413). -/
opaque Config.naldinKey : Bytes
/-- The DIK certificate that Naldin stores at test (R283). -/
opaque Config.dikCert : Bytes
/-- Naldin's engineering key, under which devices with the ENG fuse blown verify firmware (R408). -/
opaque Config.naldinEngKey : Bytes
/-- Naldin's factory firmware, shipped in slot A (R13). -/
opaque Config.factoryFirmware : Bytes
/-- Security version of the factory firmware. -/
opaque Config.factorySv : Nat

/-! ## Free values -/

/-- 256 bits of entropy for a seed whose samples no command gives, by the number of draws so far (log entry 6). -/
opaque Config.entropy : Nat → Bytes
/-- Keys of the AES-256 CBC-MAC that conditions samples, for each half of a seed: the spec gives none (log entry 164). -/
opaque Config.entropyKey : Nat → Bytes

/-! ## Placements and instants that the spec leaves open (log entry 7) -/

/-- The shared-memory bank in which a ranging capture buffer lies (R31). -/
opaque Config.captureBank : Nat → Nat
/-- Whether an RST_N pulse of 2 to 9 us is recognised: R468 rejects below 2 us and R66 recognises from 10 us. -/
opaque Config.shortPulse : Nat → Bool

/-- The gPTP servo's proportional-integral loop (R371 gives no gains): integral term and offset in ns; the new integral term and
the deviation from 25 ns, both in 2^-32 ns. -/
opaque Config.servo : Int → Int → Int × Int

/-- The 256 bytes of the n-th context exported since the start: R250 gives no layout (log entry 52). -/
opaque Config.ctxImage : Nat → Bytes
/-- The 4-byte header of the n-th wrapped context (log entry 52). -/
opaque Config.ctxHeader : Nat → Bytes

/-- Noise of the tag's source (R344): draw number, length (log entry 6). -/
opaque Config.tagNoise : Nat → Nat → Bytes
/-- The byte by which GET_INFO names the tag's state, 0 OPEN, 1 SECURED_P, 2 SECURED_K: Table 12-3 gives no codes (log entry 54). -/
opaque Config.tagState : Nat → Nat
/-- The byte of method locks that GET_INFO gives for the password and the key method (log entry 54). -/
opaque Config.tagLocks : Bool → Bool → Nat

/-- The us that the copy of a segment out of the IN region takes, at most 120 (Table 16-5): the MT at which it begins, LEN (log entry 7). -/
opaque Config.inCopyUs : Nat → Nat → Nat

/-- FW_SLOT while the recovery image runs, which Table 3-4 calls undefined (log entry 146). -/
opaque Config.recoverySlot : Nat → Nat

/-! ## Measured adjustments that the spec gives no computation for (log entry 24) -/

/-- The 6-bit resonance trim that a measured phase error sets (R131). -/
opaque Config.lfTrim : Nat → Nat
/-- The corrections of amplitude and phase that a frame leaves to the next of its channel, from those it began with, the targets and what
its last segment measured: R132 gives no law (log entry 154). -/
opaque Config.lfCorrect : Int × Int → Nat × Nat → Nat × Nat → Int × Int

/-- The TRIM field of the fuse bank, 64 bytes (Table 10-1), fused at test. -/
opaque Config.trim : Bytes
/-- The PA gain in dB that the TRIM field holds for one of 9 die temperatures and one of 3 PA rails (R177), and the rail in mV measured at an
MT: the spec gives neither the contents nor their place (log entry 157). -/
opaque Config.paEntry : Bytes → Nat → Nat → Rat
opaque Config.paRail : Nat → Nat

/-- The azimuth in 0.01 degree that one tone gives, at a frequency in MHz, from each chain's antenna place in 0.1 mm and its phase in degrees
corrected by the chain calibration: R195 gives no solution (log entry 161). -/
opaque Config.azimuth : Nat → List ((Int × Int) × Rat) → Int

end Sys2Proof
end

