-- ==== Sys2Proof/Machine/RegTable.lean ====
section
/-! DEFINITION. The register map of R435 and the registers of every block, copied from the register tables of the chapters
(R123, R155, R184, R217, R236, R264, R294, R295, R333, R358, R381, R406, R430, R459, R460): name, offset, index strides, reset value
and fields with their access type (R6). Reserved bits are not listed: they read 0 (R4). After the table, the names of the fields. -/
namespace Sys2Proof.Machine

open Sys2Proof

/-- The access types of Table 0-5. -/
inductive Access
  | ro | rw | w1c | wo | rc
  deriving DecidableEq, Repr

/-- A field of a register: its bits and its access type. -/
structure RegField where
  hi : Nat
  lo : Nat
  access : Access
  deriving DecidableEq, Repr

/-- A register heading of the spec: name, offset, the (stride, count) of each index, reset value, fields. -/
structure RegRow where
  name : String
  base : Nat
  dims : List (Nat × Nat)
  reset : Nat
  fields : List RegField
  deriving DecidableEq, Repr

/-- A named field of a register: the offset of its register and its bits. -/
structure Field where
  off : Nat
  hi : Nat
  lo : Nat
  deriving DecidableEq, Repr

/-- Registers of the SYS block. -/
def regRowsSys : List RegRow :=
  [ ⟨"SYS_CTL", 0x000000, [], 0x0,
      [⟨1, 1, .rw⟩, ⟨0, 0, .rw⟩]⟩,
    ⟨"SYS_REASON", 0x000004, [], 0x0,
      [⟨15, 0, .ro⟩]⟩,
    ⟨"SYS_CFG_REASON", 0x000008, [], 0x0,
      [⟨15, 0, .ro⟩]⟩,
    ⟨"SYS_ID", 0x00000C, [], 0x96000010,
      [⟨31, 16, .ro⟩, ⟨7, 4, .ro⟩, ⟨3, 0, .ro⟩]⟩,
    ⟨"SYS_STAT", 0x000010, [], 0x0,
      [⟨23, 20, .ro⟩, ⟨19, 16, .ro⟩, ⟨5, 5, .ro⟩, ⟨4, 4, .ro⟩, ⟨3, 3, .ro⟩, ⟨1, 1, .ro⟩, ⟨0, 0, .ro⟩]⟩,
    ⟨"SYS_START", 0x000014, [], 0x0,
      [⟨15, 0, .ro⟩]⟩,
    ⟨"SYS_START_PT", 0x000018, [], 0x0,
      [⟨31, 0, .ro⟩]⟩,
    ⟨"SYS_START_PROG", 0x00001C, [], 0x0,
      [⟨31, 24, .ro⟩, ⟨23, 0, .ro⟩]⟩,
    ⟨"SYS_EN_MAP", 0x000020, [], 0x0,
      [⟨16, 1, .ro⟩]⟩,
    ⟨"SYS_DOWN_MAP", 0x000024, [], 0x0,
      [⟨16, 1, .ro⟩]⟩,
    ⟨"SYS_IMG", 0x000028, [], 0x0,
      [⟨1, 0, .ro⟩]⟩,
    ⟨"SYS_IMG_ROLLBACK", 0x00002C, [], 0x0,
      [⟨31, 0, .ro⟩]⟩ ]

/-- Registers of the SYS block, continued. -/
def regRowsSys2 : List RegRow :=
  [ ⟨"SYS_IMG_SERIAL", 0x000030, [], 0x0,
      [⟨31, 0, .ro⟩]⟩,
    ⟨"SYS_IMG_FLOOR", 0x000034, [], 0x0,
      [⟨31, 0, .ro⟩]⟩,
    ⟨"SYS_IMG_REASON", 0x000038, [], 0x0,
      [⟨31, 16, .ro⟩, ⟨15, 0, .ro⟩]⟩,
    ⟨"SYS_RESET", 0x00003C, [], 0x0,
      [⟨31, 16, .wo⟩, ⟨0, 0, .wo⟩]⟩,
    ⟨"SYS_EVT", 0x000040, [], 0x0,
      [⟨4, 4, .w1c⟩, ⟨3, 3, .w1c⟩, ⟨2, 2, .w1c⟩, ⟨1, 1, .w1c⟩, ⟨0, 0, .w1c⟩]⟩,
    ⟨"SYS_EVT_EN", 0x000044, [], 0x0,
      [⟨4, 0, .rw⟩]⟩,
    ⟨"SYS_CFG_PROG", 0x000048, [], 0x0,
      [⟨31, 24, .ro⟩, ⟨23, 0, .ro⟩]⟩ ]

/-- Registers of the PWR block. -/
def regRowsPwr : List RegRow :=
  [ ⟨"PWR_CTL", 0x001000, [], 0x0,
      [⟨2, 2, .rw⟩, ⟨1, 1, .wo⟩, ⟨0, 0, .rw⟩]⟩,
    ⟨"PWR_REASON", 0x001004, [], 0x0,
      [⟨15, 0, .ro⟩]⟩,
    ⟨"PWR_STAT", 0x001008, [], 0x0,
      [⟨31, 24, .ro⟩, ⟨23, 16, .ro⟩, ⟨15, 13, .ro⟩, ⟨12, 12, .ro⟩, ⟨11, 11, .ro⟩, ⟨10, 10, .ro⟩, ⟨9, 9, .ro⟩, ⟨8, 8, .ro⟩]⟩,
    ⟨"PWR_EVT", 0x00100C, [], 0x0,
      [⟨12, 12, .w1c⟩, ⟨11, 11, .w1c⟩, ⟨10, 10, .w1c⟩, ⟨9, 9, .w1c⟩, ⟨8, 8, .w1c⟩, ⟨7, 7, .w1c⟩, ⟨6, 6, .w1c⟩, ⟨5, 5, .w1c⟩, ⟨4, 4, .w1c⟩, ⟨3, 3, .w1c⟩, ⟨2, 2, .w1c⟩, ⟨1, 1, .w1c⟩, ⟨0, 0, .w1c⟩]⟩,
    ⟨"PWR_EVT_EN", 0x001010, [], 0x0,
      [⟨12, 0, .rw⟩]⟩,
    ⟨"PWR_ISL_STATE", 0x001014, [], 0x2,
      [⟨29, 0, .ro⟩]⟩,
    ⟨"PWR_ISL_PL", 0x001018, [], 0x0,
      [⟨29, 0, .ro⟩]⟩,
    ⟨"PWR_FAILED", 0x00101C, [], 0x0,
      [⟨14, 0, .ro⟩]⟩,
    ⟨"PWR_PAIR", 0x001020, [], 0x0,
      [⟨31, 24, .rc⟩, ⟨7, 7, .ro⟩, ⟨5, 4, .ro⟩, ⟨3, 2, .ro⟩, ⟨0, 0, .ro⟩]⟩,
    ⟨"PWR_TAKEOVER_MT", 0x001024, [], 0x0,
      [⟨31, 0, .ro⟩]⟩,
    ⟨"PWR_STBY_LAST", 0x001028, [], 0x0,
      [⟨31, 16, .ro⟩, ⟨15, 12, .ro⟩, ⟨11, 8, .ro⟩]⟩,
    ⟨"PWR_STBY_CNT", 0x00102C, [], 0x0,
      [⟨31, 16, .rc⟩, ⟨15, 0, .rc⟩]⟩ ]

/-- Registers of the PWR block, continued. -/
def regRowsPwr2 : List RegRow :=
  [ ⟨"PWR_VOTEn", 0x001040, [(4, 15)], 0x0,
      [⟨8, 0, .ro⟩]⟩,
    ⟨"PWR_RED_STAT", 0x001080, [], 0x0,
      [⟨16, 0, .ro⟩]⟩,
    ⟨"PWR_VBAT", 0x001084, [], 0x0,
      [⟨31, 16, .rc⟩, ⟨15, 0, .ro⟩]⟩,
    ⟨"PWR_POWER", 0x001088, [], 0x0,
      [⟨31, 16, .rc⟩, ⟨15, 0, .ro⟩]⟩,
    ⟨"PWR_XTAL", 0x00108C, [], 0x0,
      [⟨31, 16, .rc⟩, ⟨1, 1, .ro⟩, ⟨0, 0, .ro⟩]⟩ ]

/-- Registers of the TIM block. -/
def regRowsTim : List RegRow :=
  [ ⟨"TIM_CTL", 0x002000, [], 0x0,
      [⟨5, 5, .wo⟩, ⟨4, 4, .wo⟩, ⟨3, 3, .wo⟩, ⟨2, 2, .wo⟩, ⟨0, 0, .rw⟩]⟩,
    ⟨"TIM_REASON", 0x002004, [], 0x0,
      [⟨15, 0, .ro⟩]⟩,
    ⟨"TIM_STAT", 0x002008, [], 0x0,
      [⟨11, 8, .ro⟩, ⟨7, 7, .ro⟩, ⟨6, 6, .ro⟩, ⟨5, 5, .ro⟩, ⟨4, 4, .ro⟩, ⟨1, 0, .ro⟩]⟩,
    ⟨"TIM_EVT", 0x00200C, [], 0x0,
      [⟨9, 9, .w1c⟩, ⟨8, 8, .w1c⟩, ⟨7, 7, .w1c⟩, ⟨6, 6, .w1c⟩, ⟨5, 5, .w1c⟩, ⟨4, 4, .w1c⟩, ⟨3, 3, .w1c⟩, ⟨2, 2, .w1c⟩, ⟨1, 1, .w1c⟩, ⟨0, 0, .w1c⟩]⟩,
    ⟨"TIM_EVT_EN", 0x002010, [], 0x0,
      [⟨9, 0, .rw⟩]⟩,
    ⟨"TIM_NT_INC_FRAC", 0x002014, [], 0x0,
      [⟨31, 0, .rw⟩]⟩,
    ⟨"TIM_NT_INC_INT", 0x002018, [], 0x19,
      [⟨7, 0, .rw⟩]⟩,
    ⟨"TIM_NT_SET_S_LO", 0x00201C, [], 0x0,
      [⟨31, 0, .rw⟩]⟩,
    ⟨"TIM_NT_SET_S_HI", 0x002020, [], 0x0,
      [⟨31, 0, .rw⟩]⟩,
    ⟨"TIM_NT_SET_NS", 0x002024, [], 0x0,
      [⟨31, 0, .rw⟩]⟩,
    ⟨"TIM_NT_OFFSET", 0x002028, [], 0x0,
      [⟨31, 0, .rw⟩]⟩,
    ⟨"TIM_GPTP_OFFSET", 0x002030, [], 0x0,
      [⟨31, 0, .ro⟩]⟩ ]

/-- Registers of the TIM block, continued. -/
def regRowsTim2 : List RegRow :=
  [ ⟨"TIM_GPTP_DELAY", 0x002034, [], 0x0,
      [⟨31, 0, .ro⟩]⟩,
    ⟨"TIM_GPTP_CNT", 0x002038, [], 0x0,
      [⟨31, 16, .rc⟩, ⟨15, 8, .rc⟩, ⟨7, 0, .rc⟩]⟩,
    ⟨"TIM_PT_CAL", 0x00203C, [], 0x0,
      [⟨31, 16, .ro⟩, ⟨15, 0, .ro⟩]⟩,
    ⟨"TIM_SNAPn", 0x002040, [(4, 8)], 0x0,
      [⟨31, 0, .ro⟩]⟩,
    ⟨"TIM_PULSEn_CTL", 0x002080, [(16, 4)], 0x0,
      [⟨15, 8, .rc⟩, ⟨7, 7, .ro⟩, ⟨6, 6, .rw⟩, ⟨5, 4, .rw⟩, ⟨3, 3, .rw⟩, ⟨0, 0, .rw⟩]⟩,
    ⟨"TIM_PULSEn_START", 0x002084, [(16, 4)], 0x0,
      [⟨31, 0, .rw⟩]⟩,
    ⟨"TIM_PULSEn_PERIOD", 0x002088, [(16, 4)], 0x0,
      [⟨31, 0, .rw⟩]⟩,
    ⟨"TIM_PULSEn_WIDTH", 0x00208C, [(16, 4)], 0x0,
      [⟨31, 0, .rw⟩]⟩,
    ⟨"TIM_TXTSp_STAT", 0x0020C0, [(32, 3)], 0x0,
      [⟨31, 24, .ro⟩, ⟨23, 23, .w1c⟩, ⟨22, 22, .wo⟩, ⟨4, 0, .ro⟩]⟩,
    ⟨"TIM_TXTSp_ENTk", 0x0020C4, [(32, 3), (4, 4)], 0x0,
      [⟨31, 0, .ro⟩]⟩ ]

/-- Registers of the LF block. -/
def regRowsLf : List RegRow :=
  [ ⟨"LF_CTL", 0x003000, [], 0x0,
      [⟨2, 2, .wo⟩, ⟨1, 1, .rw⟩, ⟨0, 0, .rw⟩]⟩,
    ⟨"LF_REASON", 0x003004, [], 0x0,
      [⟨15, 0, .ro⟩]⟩,
    ⟨"LF_STAT", 0x003008, [], 0x0,
      [⟨31, 24, .ro⟩, ⟨23, 16, .ro⟩, ⟨15, 8, .ro⟩, ⟨6, 6, .ro⟩, ⟨5, 5, .ro⟩, ⟨4, 4, .ro⟩, ⟨3, 3, .ro⟩, ⟨0, 0, .ro⟩]⟩,
    ⟨"LF_VANT", 0x00300C, [], 0x0,
      [⟨31, 16, .ro⟩, ⟨15, 0, .ro⟩]⟩,
    ⟨"LF_EVT", 0x003010, [], 0x0,
      [⟨11, 11, .w1c⟩, ⟨10, 10, .w1c⟩, ⟨9, 9, .w1c⟩, ⟨8, 8, .w1c⟩, ⟨7, 7, .w1c⟩, ⟨6, 6, .w1c⟩, ⟨5, 5, .w1c⟩, ⟨4, 4, .w1c⟩, ⟨3, 3, .w1c⟩, ⟨2, 2, .w1c⟩, ⟨1, 1, .w1c⟩, ⟨0, 0, .w1c⟩]⟩,
    ⟨"LF_EVT_EN", 0x003014, [], 0x0,
      [⟨11, 0, .rw⟩]⟩,
    ⟨"LF_CANDLE", 0x003018, [], 0x0,
      [⟨31, 16, .ro⟩, ⟨7, 7, .ro⟩, ⟨6, 6, .ro⟩, ⟨5, 5, .ro⟩, ⟨2, 0, .ro⟩]⟩,
    ⟨"LF_STAND", 0x00301C, [], 0x0,
      [⟨31, 0, .ro⟩]⟩,
    ⟨"LF_CANDLE_CNT", 0x003020, [], 0x0,
      [⟨31, 16, .rc⟩, ⟨15, 8, .rc⟩, ⟨7, 0, .rc⟩]⟩,
    ⟨"LF_WAKE_STAT", 0x003024, [], 0x0,
      [⟨27, 16, .ro⟩, ⟨11, 0, .ro⟩]⟩,
    ⟨"LF_WAKE_EVT", 0x003028, [], 0x0,
      [⟨11, 0, .w1c⟩]⟩,
    ⟨"LF_WAKE_PT", 0x00302C, [], 0x0,
      [⟨31, 0, .ro⟩]⟩ ]

/-- Registers of the LF block, continued. -/
def regRowsLf2 : List RegRow :=
  [ ⟨"LF_WAKE_LAST", 0x003030, [], 0x0,
      [⟨11, 8, .ro⟩, ⟨7, 0, .ro⟩]⟩,
    ⟨"LF_LFT_STAT", 0x003034, [], 0x0,
      [⟨31, 16, .ro⟩, ⟨1, 0, .ro⟩]⟩,
    ⟨"LF_LFT_CNT", 0x003038, [], 0x0,
      [⟨31, 16, .rc⟩, ⟨15, 0, .rc⟩]⟩,
    ⟨"LF_CHn_CTL", 0x003040, [(16, 8)], 0x0,
      [⟨8, 8, .wo⟩, ⟨0, 0, .rw⟩]⟩,
    ⟨"LF_CHn_STAT", 0x003044, [(16, 8)], 0x0,
      [⟨29, 24, .ro⟩, ⟨23, 16, .ro⟩, ⟨5, 5, .ro⟩, ⟨4, 4, .ro⟩, ⟨3, 3, .ro⟩, ⟨2, 2, .ro⟩, ⟨1, 1, .ro⟩, ⟨0, 0, .ro⟩]⟩,
    ⟨"LF_CHn_MEAS", 0x003048, [(16, 8)], 0x0,
      [⟨24, 16, .ro⟩, ⟨7, 0, .ro⟩]⟩,
    ⟨"LF_CHn_FCNT", 0x00304C, [(16, 8)], 0x0,
      [⟨31, 16, .ro⟩, ⟨15, 0, .ro⟩]⟩ ]

/-- Registers of the RF block. -/
def regRowsRf : List RegRow :=
  [ ⟨"RF_CTL", 0x004000, [], 0x0,
      [⟨3, 3, .wo⟩, ⟨2, 2, .wo⟩, ⟨1, 1, .rw⟩, ⟨0, 0, .rw⟩]⟩,
    ⟨"RF_REASON", 0x004004, [], 0x0,
      [⟨15, 0, .ro⟩]⟩,
    ⟨"RF_STAT", 0x004008, [], 0x0,
      [⟨31, 28, .ro⟩, ⟨23, 20, .ro⟩, ⟨19, 16, .ro⟩, ⟨9, 9, .ro⟩, ⟨8, 8, .ro⟩, ⟨7, 7, .ro⟩, ⟨6, 6, .ro⟩, ⟨5, 5, .ro⟩, ⟨4, 4, .ro⟩, ⟨3, 3, .ro⟩, ⟨2, 2, .ro⟩, ⟨1, 1, .ro⟩, ⟨0, 0, .ro⟩]⟩,
    ⟨"RF_EVT", 0x00400C, [], 0x0,
      [⟨11, 11, .w1c⟩, ⟨10, 10, .w1c⟩, ⟨9, 9, .w1c⟩, ⟨8, 8, .w1c⟩, ⟨7, 7, .w1c⟩, ⟨6, 6, .w1c⟩, ⟨5, 5, .w1c⟩, ⟨4, 4, .w1c⟩, ⟨3, 3, .w1c⟩, ⟨2, 2, .w1c⟩, ⟨1, 1, .w1c⟩, ⟨0, 0, .w1c⟩]⟩,
    ⟨"RF_EVT_EN", 0x004010, [], 0x0,
      [⟨11, 0, .rw⟩]⟩,
    ⟨"RF_TEMP", 0x004014, [], 0x0,
      [⟨15, 8, .ro⟩, ⟨7, 0, .ro⟩]⟩,
    ⟨"RF_CAL_MT", 0x004018, [], 0x0,
      [⟨31, 0, .ro⟩]⟩,
    ⟨"RF_CAL_STAT", 0x00401C, [], 0x0,
      [⟨22, 16, .ro⟩, ⟨15, 8, .ro⟩, ⟨7, 0, .rc⟩]⟩,
    ⟨"RF_TXPWR", 0x004020, [], 0x0,
      [⟨31, 24, .ro⟩, ⟨23, 16, .ro⟩, ⟨15, 8, .ro⟩, ⟨7, 0, .ro⟩]⟩,
    ⟨"RF_CNT", 0x004024, [], 0x0,
      [⟨31, 24, .rc⟩, ⟨23, 16, .rc⟩, ⟨15, 8, .rc⟩, ⟨7, 0, .rc⟩]⟩,
    ⟨"RF_SNIFF", 0x004028, [], 0x0,
      [⟨31, 16, .rc⟩, ⟨15, 8, .rc⟩, ⟨7, 0, .rc⟩]⟩,
    ⟨"RF_SNIFF_STAT", 0x00402C, [], 0x0,
      [⟨15, 8, .ro⟩, ⟨0, 0, .ro⟩]⟩ ]

/-- Registers of the RF block, continued. -/
def regRowsRf2 : List RegRow :=
  [ ⟨"RF_RSSI", 0x004030, [], 0x0,
      [⟨15, 8, .ro⟩, ⟨7, 0, .ro⟩]⟩,
    ⟨"RF_CHn_STAT", 0x004040, [(16, 4)], 0x0,
      [⟨31, 24, .ro⟩, ⟨23, 16, .ro⟩, ⟨7, 4, .ro⟩, ⟨2, 2, .ro⟩, ⟨1, 1, .ro⟩, ⟨0, 0, .ro⟩]⟩,
    ⟨"RF_CHn_CAL", 0x004044, [(16, 4)], 0x0,
      [⟨31, 16, .ro⟩, ⟨8, 0, .ro⟩]⟩,
    ⟨"RF_CHn_CTL", 0x004048, [(16, 4)], 0x0,
      [⟨0, 0, .rw⟩]⟩,
    ⟨"RF_SUB_STAT", 0x004090, [], 0x0,
      [⟨31, 24, .ro⟩, ⟨23, 16, .ro⟩, ⟨15, 8, .ro⟩, ⟨1, 1, .ro⟩, ⟨0, 0, .ro⟩]⟩,
    ⟨"RF_TEST", 0x0040A0, [], 0x0,
      [⟨31, 31, .wo⟩, ⟨27, 24, .rw⟩, ⟨23, 16, .rw⟩, ⟨15, 8, .rw⟩, ⟨7, 0, .rw⟩]⟩ ]

/-- Registers of the RNG block. -/
def regRowsRng : List RegRow :=
  [ ⟨"RNG_CTL", 0x005000, [], 0x0,
      [⟨1, 1, .wo⟩, ⟨0, 0, .rw⟩]⟩,
    ⟨"RNG_REASON", 0x005004, [], 0x0,
      [⟨15, 0, .ro⟩]⟩,
    ⟨"RNG_STAT", 0x005008, [], 0x0,
      [⟨20, 16, .ro⟩, ⟨11, 8, .ro⟩, ⟨6, 6, .ro⟩, ⟨5, 5, .ro⟩, ⟨4, 4, .ro⟩, ⟨3, 0, .ro⟩]⟩,
    ⟨"RNG_EVT", 0x00500C, [], 0x0,
      [⟨9, 9, .w1c⟩, ⟨8, 8, .w1c⟩, ⟨7, 7, .w1c⟩, ⟨6, 6, .w1c⟩, ⟨5, 5, .w1c⟩, ⟨4, 4, .w1c⟩, ⟨3, 3, .w1c⟩, ⟨2, 2, .w1c⟩, ⟨1, 1, .w1c⟩, ⟨0, 0, .w1c⟩]⟩,
    ⟨"RNG_EVT_EN", 0x005010, [], 0x0,
      [⟨9, 0, .rw⟩]⟩,
    ⟨"RNG_CNT", 0x005014, [], 0x0,
      [⟨31, 16, .rc⟩, ⟨15, 8, .rc⟩, ⟨7, 0, .rc⟩]⟩,
    ⟨"RNG_RELAY_CNT", 0x005018, [], 0x0,
      [⟨31, 16, .rc⟩, ⟨15, 8, .rc⟩, ⟨7, 0, .rc⟩]⟩,
    ⟨"RNG_LASTn", 0x005020, [(4, 8)], 0x0,
      [⟨31, 0, .ro⟩]⟩,
    ⟨"RNG_LAST_FLICK", 0x005040, [], 0x0,
      [⟨30, 30, .ro⟩, ⟨29, 24, .ro⟩, ⟨23, 18, .ro⟩, ⟨17, 12, .ro⟩, ⟨11, 6, .ro⟩, ⟨5, 0, .ro⟩]⟩,
    ⟨"RNG_LFOFFn", 0x005060, [(4, 8)], 0x0,
      [⟨31, 24, .ro⟩, ⟨23, 16, .ro⟩, ⟨15, 8, .ro⟩, ⟨7, 0, .ro⟩]⟩,
    ⟨"RNG_TURN_CAL", 0x005080, [], 0x0,
      [⟨31, 28, .ro⟩, ⟨27, 22, .ro⟩, ⟨15, 0, .ro⟩]⟩ ]

/-- Registers of the TOK block. -/
def regRowsTok : List RegRow :=
  [ ⟨"TOK_CTL", 0x006000, [], 0x0,
      [⟨0, 0, .rw⟩]⟩,
    ⟨"TOK_REASON", 0x006004, [], 0x0,
      [⟨15, 0, .ro⟩]⟩,
    ⟨"TOK_SET", 0x006008, [], 0x0,
      [⟨24, 24, .ro⟩, ⟨22, 16, .ro⟩, ⟨15, 0, .ro⟩]⟩,
    ⟨"TOK_LEARN_PROG", 0x00600C, [], 0x0,
      [⟨31, 24, .ro⟩, ⟨23, 0, .ro⟩]⟩,
    ⟨"TOK_DEV_TAG", 0x006010, [], 0x0,
      [⟨31, 0, .ro⟩]⟩,
    ⟨"TOK_EVT", 0x006018, [], 0x0,
      [⟨10, 10, .w1c⟩, ⟨9, 9, .w1c⟩, ⟨8, 8, .w1c⟩, ⟨7, 7, .w1c⟩, ⟨6, 6, .w1c⟩, ⟨5, 5, .w1c⟩, ⟨4, 4, .w1c⟩, ⟨3, 3, .w1c⟩, ⟨2, 2, .w1c⟩, ⟨1, 1, .w1c⟩, ⟨0, 0, .w1c⟩]⟩,
    ⟨"TOK_EVT_EN", 0x00601C, [], 0x0,
      [⟨10, 0, .rw⟩]⟩,
    ⟨"TOK_ROUND", 0x006020, [], 0x0,
      [⟨31, 16, .rc⟩, ⟨10, 10, .ro⟩, ⟨9, 8, .ro⟩, ⟨7, 4, .ro⟩, ⟨3, 0, .ro⟩]⟩,
    ⟨"TOK_LAST_REFUSE", 0x006024, [], 0x0,
      [⟨23, 22, .ro⟩, ⟨21, 16, .ro⟩, ⟨15, 0, .ro⟩]⟩,
    ⟨"TOK_PATHn_STAT", 0x006040, [(4, 4)], 0x0,
      [⟨27, 16, .ro⟩, ⟨8, 8, .ro⟩, ⟨7, 5, .ro⟩, ⟨4, 0, .ro⟩]⟩,
    ⟨"TOK_SLOT_STATn", 0x006100, [(4, 64)], 0x0,
      [⟨31, 20, .ro⟩, ⟨19, 16, .ro⟩, ⟨14, 12, .ro⟩, ⟨11, 8, .ro⟩, ⟨7, 6, .ro⟩, ⟨5, 5, .ro⟩, ⟨4, 4, .ro⟩, ⟨3, 3, .ro⟩, ⟨2, 0, .ro⟩]⟩,
    ⟨"TOK_SLOT_TIDn", 0x006200, [(4, 64)], 0x0,
      [⟨31, 0, .ro⟩]⟩ ]

/-- Registers of the TOK block, continued. -/
def regRowsTok2 : List RegRow :=
  [ ⟨"TOK_SLOT_CNTn", 0x006300, [(4, 64)], 0x0,
      [⟨31, 0, .ro⟩]⟩,
    ⟨"TOK_SLOT_TURNn", 0x006400, [(4, 64)], 0x0,
      [⟨15, 0, .ro⟩]⟩ ]

/-- Registers of the REL block. -/
def regRowsRel : List RegRow :=
  [ ⟨"REL_CTL", 0x007000, [], 0x0,
      [⟨1, 1, .wo⟩, ⟨0, 0, .rw⟩]⟩,
    ⟨"REL_REASON", 0x007004, [], 0x0,
      [⟨15, 0, .ro⟩]⟩,
    ⟨"REL_STAT", 0x007008, [], 0x0,
      [⟨14, 12, .ro⟩, ⟨11, 11, .ro⟩, ⟨10, 10, .ro⟩, ⟨9, 8, .ro⟩, ⟨3, 2, .ro⟩, ⟨1, 1, .ro⟩, ⟨0, 0, .ro⟩]⟩,
    ⟨"REL_EVT", 0x00700C, [], 0x0,
      [⟨7, 7, .w1c⟩, ⟨6, 6, .w1c⟩, ⟨5, 5, .w1c⟩, ⟨4, 4, .w1c⟩, ⟨3, 3, .w1c⟩, ⟨2, 2, .w1c⟩, ⟨1, 1, .w1c⟩, ⟨0, 0, .w1c⟩]⟩,
    ⟨"REL_EVT_EN", 0x007010, [], 0x0,
      [⟨7, 0, .rw⟩]⟩,
    ⟨"REL_LAST", 0x007014, [], 0x0,
      [⟨31, 29, .ro⟩, ⟨23, 16, .ro⟩, ⟨15, 0, .ro⟩]⟩,
    ⟨"REL_PROFILE", 0x007018, [], 0xFF,
      [⟨31, 16, .ro⟩, ⟨7, 0, .ro⟩]⟩,
    ⟨"REL_OUT_DIAG", 0x00701C, [], 0x0,
      [⟨31, 16, .ro⟩, ⟨15, 8, .ro⟩, ⟨7, 0, .ro⟩]⟩,
    ⟨"REL_SEQ", 0x007020, [], 0x0,
      [⟨31, 0, .ro⟩]⟩,
    ⟨"REL_CNT", 0x007024, [], 0x0,
      [⟨31, 16, .rc⟩, ⟨15, 8, .rc⟩, ⟨7, 0, .rc⟩]⟩,
    ⟨"REL_PARTn_STAT", 0x007040, [(4, 8)], 0x0,
      [⟨31, 24, .ro⟩, ⟨7, 7, .ro⟩, ⟨6, 6, .ro⟩, ⟨5, 4, .ro⟩, ⟨3, 2, .ro⟩, ⟨0, 0, .ro⟩]⟩ ]

/-- Registers of the SYM block. -/
def regRowsSym : List RegRow :=
  [ ⟨"SYM_CTL", 0x008000, [], 0x0,
      [⟨1, 1, .wo⟩, ⟨0, 0, .rw⟩]⟩,
    ⟨"SYM_REASON", 0x008004, [], 0x0,
      [⟨15, 0, .ro⟩]⟩,
    ⟨"SYM_STAT", 0x008008, [], 0x0,
      [⟨31, 24, .ro⟩, ⟨23, 16, .ro⟩, ⟨7, 7, .ro⟩, ⟨6, 6, .ro⟩, ⟨5, 5, .ro⟩, ⟨4, 4, .ro⟩, ⟨3, 3, .ro⟩, ⟨2, 2, .ro⟩, ⟨1, 1, .ro⟩, ⟨0, 0, .ro⟩]⟩,
    ⟨"SYM_EVT", 0x00800C, [], 0x0,
      [⟨8, 8, .w1c⟩, ⟨7, 7, .w1c⟩, ⟨6, 6, .w1c⟩, ⟨5, 5, .w1c⟩, ⟨4, 4, .w1c⟩, ⟨3, 3, .w1c⟩, ⟨2, 2, .w1c⟩, ⟨1, 1, .w1c⟩, ⟨0, 0, .w1c⟩]⟩,
    ⟨"SYM_EVT_EN", 0x008010, [], 0x0,
      [⟨8, 0, .rw⟩]⟩,
    ⟨"SYM_CNT", 0x008014, [], 0x0,
      [⟨31, 16, .rc⟩, ⟨15, 8, .rc⟩, ⟨7, 0, .rc⟩]⟩,
    ⟨"SYM_EPOCH", 0x008018, [], 0x0,
      [⟨23, 0, .ro⟩]⟩,
    ⟨"SYM_RESV", 0x00801C, [], 0x0,
      [⟨31, 16, .rc⟩, ⟨15, 8, .rc⟩]⟩,
    ⟨"SYM_ENT", 0x008020, [], 0x0,
      [⟨31, 24, .rc⟩, ⟨23, 16, .rc⟩, ⟨0, 0, .ro⟩]⟩,
    ⟨"SYM_DRBG", 0x008024, [], 0x0,
      [⟨31, 0, .ro⟩]⟩,
    ⟨"SYM_PIPEn_STAT", 0x008040, [(4, 2)], 0x0,
      [⟨31, 24, .ro⟩, ⟨7, 7, .ro⟩, ⟨6, 6, .ro⟩, ⟨5, 0, .ro⟩]⟩ ]

/-- Registers of the KEY block. -/
def regRowsKey : List RegRow :=
  [ ⟨"KEY_CTL", 0x009000, [], 0x0,
      [⟨0, 0, .rw⟩]⟩,
    ⟨"KEY_REASON", 0x009004, [], 0x0,
      [⟨15, 0, .ro⟩]⟩,
    ⟨"KEY_STAT", 0x009008, [], 0x0,
      [⟨31, 29, .ro⟩, ⟨28, 28, .ro⟩, ⟨27, 24, .ro⟩, ⟨23, 16, .ro⟩, ⟨15, 8, .ro⟩, ⟨4, 4, .ro⟩, ⟨3, 3, .ro⟩, ⟨2, 2, .ro⟩, ⟨1, 1, .ro⟩, ⟨0, 0, .ro⟩]⟩,
    ⟨"KEY_GEN", 0x00900C, [], 0x0,
      [⟨31, 0, .ro⟩]⟩,
    ⟨"KEY_RECS", 0x009010, [], 0x0,
      [⟨25, 16, .ro⟩, ⟨9, 0, .ro⟩]⟩,
    ⟨"KEY_EVT", 0x009014, [], 0x0,
      [⟨8, 8, .w1c⟩, ⟨7, 7, .w1c⟩, ⟨6, 6, .w1c⟩, ⟨5, 5, .w1c⟩, ⟨4, 4, .w1c⟩, ⟨3, 3, .w1c⟩, ⟨2, 2, .w1c⟩, ⟨1, 1, .w1c⟩, ⟨0, 0, .w1c⟩]⟩,
    ⟨"KEY_EVT_EN", 0x009018, [], 0x0,
      [⟨8, 0, .rw⟩]⟩,
    ⟨"KEY_AUTH_CNT", 0x00901C, [], 0x0,
      [⟨31, 16, .rc⟩, ⟨15, 0, .rc⟩]⟩,
    ⟨"KEY_ROT", 0x009020, [], 0x0,
      [⟨31, 0, .ro⟩]⟩ ]

/-- Registers of the STO block. -/
def regRowsSto : List RegRow :=
  [ ⟨"STO_CTL", 0x00A000, [], 0x0,
      [⟨1, 1, .wo⟩, ⟨0, 0, .rw⟩]⟩,
    ⟨"STO_REASON", 0x00A004, [], 0x0,
      [⟨15, 0, .ro⟩]⟩,
    ⟨"STO_STAT", 0x00A008, [], 0x0,
      [⟨10, 10, .ro⟩, ⟨9, 9, .ro⟩, ⟨8, 8, .ro⟩, ⟨7, 7, .ro⟩, ⟨6, 6, .ro⟩, ⟨5, 5, .ro⟩, ⟨4, 4, .ro⟩, ⟨3, 3, .ro⟩, ⟨2, 2, .ro⟩, ⟨1, 1, .ro⟩, ⟨0, 0, .ro⟩]⟩,
    ⟨"STO_EVT", 0x00A00C, [], 0x0,
      [⟨8, 8, .w1c⟩, ⟨7, 7, .w1c⟩, ⟨6, 6, .w1c⟩, ⟨5, 5, .w1c⟩, ⟨4, 4, .w1c⟩, ⟨3, 3, .w1c⟩, ⟨2, 2, .w1c⟩, ⟨1, 1, .w1c⟩, ⟨0, 0, .w1c⟩]⟩,
    ⟨"STO_EVT_EN", 0x00A010, [], 0x0,
      [⟨8, 0, .rw⟩]⟩,
    ⟨"STO_JRNL_SEQ_LO", 0x00A014, [], 0x0,
      [⟨31, 0, .ro⟩]⟩,
    ⟨"STO_JRNL_SEQ_HI", 0x00A018, [], 0x0,
      [⟨31, 0, .ro⟩]⟩,
    ⟨"STO_JRNL_OLD_LO", 0x00A01C, [], 0x0,
      [⟨31, 0, .ro⟩]⟩,
    ⟨"STO_JRNL_OLD_HI", 0x00A020, [], 0x0,
      [⟨31, 0, .ro⟩]⟩,
    ⟨"STO_JRNL_ACK_LO", 0x00A024, [], 0x0,
      [⟨31, 0, .rw⟩]⟩,
    ⟨"STO_JRNL_ACK_HI", 0x00A028, [], 0x0,
      [⟨31, 0, .rw⟩]⟩,
    ⟨"STO_CKPT", 0x00A02C, [], 0x0,
      [⟨31, 0, .ro⟩]⟩ ]

/-- Registers of the STO block, continued. -/
def regRowsSto2 : List RegRow :=
  [ ⟨"STO_CAP_NEW", 0x00A030, [], 0x0,
      [⟨31, 0, .ro⟩]⟩,
    ⟨"STO_CAP_OLD", 0x00A034, [], 0x0,
      [⟨31, 0, .ro⟩]⟩,
    ⟨"STO_WIN_CTL", 0x00A040, [], 0x0,
      [⟨31, 31, .wo⟩, ⟨4, 0, .rw⟩]⟩,
    ⟨"STO_WIN_POS_LO", 0x00A044, [], 0x0,
      [⟨31, 0, .rw⟩]⟩,
    ⟨"STO_WIN_POS_HI", 0x00A048, [], 0x0,
      [⟨31, 0, .rw⟩]⟩,
    ⟨"STO_WIN_STAT", 0x00A04C, [], 0x0,
      [⟨31, 16, .ro⟩, ⟨15, 1, .ro⟩, ⟨0, 0, .ro⟩]⟩,
    ⟨"STO_WEAR", 0x00A050, [], 0x0,
      [⟨31, 16, .ro⟩, ⟨15, 0, .ro⟩]⟩,
    ⟨"STO_WRITTEN", 0x00A054, [], 0x0,
      [⟨31, 0, .ro⟩]⟩,
    ⟨"STO_HOLDUP", 0x00A058, [], 0x0,
      [⟨31, 16, .ro⟩, ⟨15, 0, .ro⟩]⟩,
    ⟨"STO_CNT", 0x00A05C, [], 0x0,
      [⟨31, 16, .rc⟩, ⟨15, 8, .rc⟩, ⟨7, 0, .rc⟩]⟩,
    ⟨"STO_DIEn_STAT", 0x00A060, [(4, 2)], 0x0,
      [⟨31, 18, .ro⟩, ⟨17, 4, .ro⟩, ⟨1, 1, .ro⟩, ⟨0, 0, .ro⟩]⟩,
    ⟨"STO_STRm", 0x00A080, [(4, 16)], 0x0,
      [⟨31, 21, .ro⟩, ⟨20, 10, .ro⟩, ⟨1, 1, .ro⟩, ⟨0, 0, .ro⟩]⟩ ]

/-- Registers of the NFC block. -/
def regRowsNfc : List RegRow :=
  [ ⟨"NFC_CTL", 0x00B000, [], 0x0,
      [⟨3, 3, .wo⟩, ⟨2, 2, .wo⟩, ⟨1, 1, .rw⟩, ⟨0, 0, .rw⟩]⟩,
    ⟨"NFC_REASON", 0x00B004, [], 0x0,
      [⟨15, 0, .ro⟩]⟩,
    ⟨"NFC_STAT", 0x00B008, [], 0x0,
      [⟨11, 8, .ro⟩, ⟨7, 7, .ro⟩, ⟨6, 6, .ro⟩, ⟨5, 5, .ro⟩, ⟨4, 4, .ro⟩, ⟨3, 2, .ro⟩, ⟨1, 1, .ro⟩, ⟨0, 0, .ro⟩]⟩,
    ⟨"NFC_EVT", 0x00B00C, [], 0x0,
      [⟨7, 7, .w1c⟩, ⟨6, 6, .w1c⟩, ⟨5, 5, .w1c⟩, ⟨4, 4, .w1c⟩, ⟨3, 3, .w1c⟩, ⟨2, 2, .w1c⟩, ⟨1, 1, .w1c⟩, ⟨0, 0, .w1c⟩]⟩,
    ⟨"NFC_EVT_EN", 0x00B010, [], 0x0,
      [⟨7, 0, .rw⟩]⟩,
    ⟨"NFC_RDR_CNT", 0x00B014, [], 0x0,
      [⟨31, 16, .rc⟩, ⟨15, 8, .rc⟩, ⟨7, 0, .rc⟩]⟩,
    ⟨"NFC_LAST_CARD", 0x00B018, [], 0x0,
      [⟨31, 30, .ro⟩, ⟨29, 28, .ro⟩, ⟨27, 24, .ro⟩, ⟨23, 16, .ro⟩, ⟨15, 0, .ro⟩]⟩,
    ⟨"NFC_TAG_STAT", 0x00B01C, [], 0x0,
      [⟨19, 16, .ro⟩, ⟨15, 12, .ro⟩, ⟨9, 9, .ro⟩, ⟨8, 8, .ro⟩, ⟨7, 0, .ro⟩]⟩,
    ⟨"NFC_TAG_CNT", 0x00B020, [], 0x0,
      [⟨31, 16, .rc⟩, ⟨15, 8, .rc⟩, ⟨7, 0, .rc⟩]⟩,
    ⟨"NFC_TAG_WIN", 0x00B024, [], 0x0,
      [⟨7, 0, .ro⟩]⟩ ]

/-- Registers of the UPD block. -/
def regRowsUpd : List RegRow :=
  [ ⟨"UPD_CTL", 0x00C000, [], 0x0,
      [⟨0, 0, .rw⟩]⟩,
    ⟨"UPD_REASON", 0x00C004, [], 0x0,
      [⟨15, 0, .ro⟩]⟩,
    ⟨"UPD_STAT", 0x00C008, [], 0x0,
      [⟨31, 24, .ro⟩, ⟨23, 16, .ro⟩, ⟨14, 12, .ro⟩, ⟨11, 11, .ro⟩, ⟨10, 10, .ro⟩, ⟨9, 8, .ro⟩, ⟨5, 5, .ro⟩, ⟨4, 4, .ro⟩, ⟨3, 0, .ro⟩]⟩,
    ⟨"UPD_EVT", 0x00C00C, [], 0x0,
      [⟨6, 6, .w1c⟩, ⟨5, 5, .w1c⟩, ⟨4, 4, .w1c⟩, ⟨3, 3, .w1c⟩, ⟨2, 2, .w1c⟩, ⟨1, 1, .w1c⟩, ⟨0, 0, .w1c⟩]⟩,
    ⟨"UPD_EVT_EN", 0x00C010, [], 0x0,
      [⟨6, 0, .rw⟩]⟩,
    ⟨"UPD_PROG", 0x00C014, [], 0x0,
      [⟨31, 24, .ro⟩, ⟨23, 0, .ro⟩]⟩,
    ⟨"UPD_TARGET", 0x00C018, [], 0x0,
      [⟨31, 24, .ro⟩, ⟨8, 0, .ro⟩]⟩,
    ⟨"UPD_RESEAL", 0x00C01C, [], 0x0,
      [⟨31, 24, .ro⟩, ⟨23, 0, .ro⟩]⟩,
    ⟨"UPD_ACT_MT", 0x00C020, [], 0x0,
      [⟨31, 0, .ro⟩]⟩,
    ⟨"UPD_CNT", 0x00C024, [], 0x0,
      [⟨31, 24, .rc⟩, ⟨23, 16, .rc⟩, ⟨15, 0, .rc⟩]⟩,
    ⟨"UPD_MEAS_RUNn", 0x00C040, [(4, 8)], 0x0,
      [⟨31, 0, .ro⟩]⟩,
    ⟨"UPD_MEAS_ALTn", 0x00C060, [(4, 8)], 0x0,
      [⟨31, 0, .ro⟩]⟩ ]

/-- Registers of the TAM block. -/
def regRowsTam : List RegRow :=
  [ ⟨"TAM_CTL", 0x00D000, [], 0x0,
      [⟨0, 0, .rw⟩]⟩,
    ⟨"TAM_REASON", 0x00D004, [], 0x0,
      [⟨15, 0, .ro⟩]⟩,
    ⟨"TAM_STAT", 0x00D008, [], 0x0,
      [⟨31, 24, .ro⟩, ⟨10, 10, .ro⟩, ⟨9, 9, .ro⟩, ⟨8, 8, .ro⟩, ⟨6, 6, .ro⟩, ⟨5, 5, .ro⟩, ⟨4, 4, .ro⟩, ⟨3, 3, .ro⟩, ⟨2, 2, .ro⟩, ⟨0, 0, .ro⟩]⟩,
    ⟨"TAM_EVT", 0x00D00C, [], 0x0,
      [⟨6, 6, .w1c⟩, ⟨5, 5, .w1c⟩, ⟨4, 4, .w1c⟩, ⟨3, 3, .w1c⟩, ⟨2, 2, .w1c⟩, ⟨1, 1, .w1c⟩, ⟨0, 0, .w1c⟩]⟩,
    ⟨"TAM_EVT_EN", 0x00D010, [], 0x0,
      [⟨6, 0, .rw⟩]⟩,
    ⟨"TAM_LAST", 0x00D014, [], 0x0,
      [⟨31, 16, .ro⟩, ⟨9, 8, .ro⟩, ⟨0, 0, .ro⟩]⟩,
    ⟨"TAM_LAST_PT", 0x00D018, [], 0x0,
      [⟨31, 0, .ro⟩]⟩,
    ⟨"TAM_LAST_MT", 0x00D01C, [], 0x0,
      [⟨31, 0, .ro⟩]⟩,
    ⟨"TAM_CNT", 0x00D020, [], 0x0,
      [⟨31, 16, .rc⟩, ⟨15, 8, .rc⟩, ⟨7, 0, .rc⟩]⟩ ]

/-- Registers of the HIF block. -/
def regRowsHif : List RegRow :=
  [ ⟨"HIF_CTL", 0x00E000, [], 0x0,
      [⟨3, 3, .wo⟩, ⟨2, 2, .wo⟩, ⟨1, 1, .wo⟩, ⟨0, 0, .rw⟩]⟩,
    ⟨"HIF_REASON", 0x00E004, [], 0x0,
      [⟨15, 0, .ro⟩]⟩,
    ⟨"HIF_STAT", 0x00E008, [], 0x0,
      [⟨23, 20, .ro⟩, ⟨19, 19, .ro⟩, ⟨7, 7, .ro⟩, ⟨6, 6, .ro⟩, ⟨5, 5, .ro⟩, ⟨4, 4, .ro⟩, ⟨2, 2, .ro⟩, ⟨1, 1, .ro⟩, ⟨0, 0, .ro⟩]⟩,
    ⟨"HIF_EVT", 0x00E00C, [], 0x0,
      [⟨9, 9, .w1c⟩, ⟨8, 8, .w1c⟩, ⟨7, 7, .w1c⟩, ⟨6, 6, .w1c⟩, ⟨5, 5, .w1c⟩, ⟨4, 4, .w1c⟩, ⟨3, 3, .w1c⟩, ⟨2, 2, .w1c⟩, ⟨1, 1, .w1c⟩, ⟨0, 0, .w1c⟩]⟩,
    ⟨"HIF_EVT_EN", 0x00E010, [], 0x0,
      [⟨9, 0, .rw⟩]⟩,
    ⟨"HIF_INT_PEND", 0x00E014, [], 0x0,
      [⟨16, 1, .ro⟩]⟩,
    ⟨"HIF_INT_MASK", 0x00E018, [], 0x0,
      [⟨16, 1, .rw⟩]⟩,
    ⟨"HIF_MB_RING", 0x00E020, [], 0x0,
      [⟨31, 16, .wo⟩, ⟨1, 1, .wo⟩, ⟨0, 0, .wo⟩]⟩,
    ⟨"HIF_MB_IN_STAT", 0x00E024, [], 0x1,
      [⟨0, 0, .ro⟩]⟩,
    ⟨"HIF_MB_OUT_STAT", 0x00E028, [], 0x0,
      [⟨31, 16, .ro⟩, ⟨2, 2, .ro⟩, ⟨1, 1, .ro⟩, ⟨0, 0, .ro⟩]⟩,
    ⟨"HIF_MB_OUT_ACK", 0x00E02C, [], 0x0,
      [⟨0, 0, .wo⟩]⟩,
    ⟨"HIF_MB_PROG", 0x00E030, [], 0x0,
      [⟨31, 24, .ro⟩, ⟨23, 0, .ro⟩]⟩ ]

/-- Registers of the HIF block, continued. -/
def regRowsHif2 : List RegRow :=
  [ ⟨"HIF_MB_LAST", 0x00E034, [], 0x0,
      [⟨31, 16, .ro⟩, ⟨15, 0, .ro⟩]⟩,
    ⟨"HIF_SPI_CNT", 0x00E038, [], 0x0,
      [⟨31, 16, .rc⟩, ⟨15, 8, .rc⟩, ⟨7, 0, .rc⟩]⟩,
    ⟨"HIF_CANc_STAT", 0x00E040, [(4, 2)], 0x0,
      [⟨31, 24, .ro⟩, ⟨23, 16, .ro⟩, ⟨15, 8, .rc⟩, ⟨1, 0, .ro⟩]⟩,
    ⟨"HIF_T1S_STAT", 0x00E048, [], 0x0,
      [⟨31, 24, .ro⟩, ⟨23, 16, .ro⟩, ⟨15, 8, .rc⟩, ⟨2, 2, .ro⟩, ⟨1, 1, .ro⟩, ⟨0, 0, .ro⟩]⟩,
    ⟨"HIF_RXQ", 0x00E04C, [], 0x0,
      [⟨31, 24, .rc⟩, ⟨15, 0, .ro⟩]⟩,
    ⟨"HIF_DISC", 0x00E050, [], 0x0,
      [⟨31, 16, .rc⟩, ⟨4, 0, .ro⟩]⟩ ]

/-- Every register row of the device. -/
def regRows : List RegRow :=
  regRowsSys ++ regRowsSys2 ++ regRowsPwr ++ regRowsPwr2 ++ regRowsTim ++ regRowsTim2 ++ regRowsLf ++ regRowsLf2 ++ regRowsRf ++ regRowsRf2 ++ regRowsRng ++ regRowsTok ++ regRowsTok2 ++ regRowsRel ++ regRowsSym ++ regRowsKey ++ regRowsSto ++ regRowsSto2 ++ regRowsNfc ++ regRowsUpd ++ regRowsTam ++ regRowsHif ++ regRowsHif2

/-! Names of register offsets and of register fields, as the chapters spell them. -/

abbrev R.SYS_CTL : Nat := 0x000000
abbrev F.SYS_REASON_REASON : Field := ⟨0x000004, 15, 0⟩
abbrev F.SYS_CFG_REASON_REASON : Field := ⟨0x000008, 15, 0⟩
abbrev R.SYS_STAT : Nat := 0x000010
abbrev F.SYS_STAT_START_PHASE : Field := ⟨0x000010, 23, 20⟩
abbrev F.SYS_STAT_RESET_CAUSE : Field := ⟨0x000010, 19, 16⟩
abbrev F.SYS_STAT_LKG : Field := ⟨0x000010, 5, 5⟩
abbrev F.SYS_STAT_FW_SLOT : Field := ⟨0x000010, 4, 4⟩
abbrev F.SYS_STAT_ACTIVE_PAIR : Field := ⟨0x000010, 3, 3⟩
abbrev F.SYS_STAT_DEGRADED : Field := ⟨0x000010, 1, 1⟩
abbrev F.SYS_STAT_READY : Field := ⟨0x000010, 0, 0⟩
abbrev F.SYS_START_START_REASON : Field := ⟨0x000014, 15, 0⟩
abbrev R.SYS_START_PT : Nat := 0x000018
abbrev R.SYS_START_PROG : Nat := 0x00001C
abbrev R.SYS_EN_MAP : Nat := 0x000020
abbrev R.SYS_DOWN_MAP : Nat := 0x000024
abbrev F.SYS_IMG_SRC : Field := ⟨0x000028, 1, 0⟩
abbrev R.SYS_IMG_ROLLBACK : Nat := 0x00002C
abbrev R.SYS_IMG_SERIAL : Nat := 0x000030
abbrev R.SYS_IMG_FLOOR : Nat := 0x000034
abbrev F.SYS_IMG_REASON_COPY1 : Field := ⟨0x000038, 31, 16⟩
abbrev F.SYS_IMG_REASON_COPY0 : Field := ⟨0x000038, 15, 0⟩
abbrev R.SYS_RESET : Nat := 0x00003C
abbrev F.SYS_EVT_CFG_WRITE : Field := ⟨0x000040, 4, 4⟩
abbrev F.SYS_EVT_IMG_CHECKED : Field := ⟨0x000040, 3, 3⟩
abbrev F.SYS_EVT_START_DONE : Field := ⟨0x000040, 2, 2⟩
abbrev F.SYS_EVT_DEGRADED_CHG : Field := ⟨0x000040, 1, 1⟩
abbrev F.SYS_EVT_READY_CHG : Field := ⟨0x000040, 0, 0⟩
abbrev R.SYS_CFG_PROG : Nat := 0x000048
abbrev R.PWR_CTL : Nat := 0x001000
abbrev F.PWR_CTL_HOLD : Field := ⟨0x001000, 2, 2⟩
abbrev R.PWR_REASON : Nat := 0x001004
abbrev F.PWR_REASON_REASON : Field := ⟨0x001004, 15, 0⟩
abbrev R.PWR_STAT : Nat := 0x001008
abbrev F.PWR_STAT_TA_EST : Field := ⟨0x001008, 31, 24⟩
abbrev F.PWR_STAT_TJ : Field := ⟨0x001008, 23, 16⟩
abbrev F.PWR_STAT_GOV_STEP : Field := ⟨0x001008, 15, 13⟩
abbrev F.PWR_STAT_GOV : Field := ⟨0x001008, 12, 12⟩
abbrev F.PWR_STAT_BROWNOUT : Field := ⟨0x001008, 11, 11⟩
abbrev F.PWR_STAT_OVERVOLT : Field := ⟨0x001008, 10, 10⟩
abbrev F.PWR_STAT_REF_RC : Field := ⟨0x001008, 9, 9⟩
abbrev F.PWR_STAT_XTAL_OK : Field := ⟨0x001008, 8, 8⟩
abbrev R.PWR_EVT : Nat := 0x00100C
abbrev F.PWR_EVT_PUPPET : Field := ⟨0x00100C, 12, 12⟩
abbrev F.PWR_EVT_RED_LOSS : Field := ⟨0x00100C, 11, 11⟩
abbrev F.PWR_EVT_ISLAND_FAILED : Field := ⟨0x00100C, 10, 10⟩
abbrev F.PWR_EVT_PAIR_RETIRED : Field := ⟨0x00100C, 9, 9⟩
abbrev F.PWR_EVT_TAKEOVER : Field := ⟨0x00100C, 8, 8⟩
abbrev F.PWR_EVT_XTAL_BACK : Field := ⟨0x00100C, 7, 7⟩
abbrev F.PWR_EVT_XTAL_LOST : Field := ⟨0x00100C, 6, 6⟩
abbrev F.PWR_EVT_OVERVOLT : Field := ⟨0x00100C, 5, 5⟩
abbrev F.PWR_EVT_BROWNOUT : Field := ⟨0x00100C, 4, 4⟩
abbrev F.PWR_EVT_GOV_OFF : Field := ⟨0x00100C, 3, 3⟩
abbrev F.PWR_EVT_GOV_ON : Field := ⟨0x00100C, 2, 2⟩
abbrev F.PWR_EVT_STBY_EXIT : Field := ⟨0x00100C, 1, 1⟩
abbrev F.PWR_EVT_STBY_ABORT : Field := ⟨0x00100C, 0, 0⟩
abbrev R.PWR_ISL_STATE : Nat := 0x001014
abbrev R.PWR_ISL_PL : Nat := 0x001018
abbrev F.PWR_FAILED_MAP : Field := ⟨0x00101C, 14, 0⟩
abbrev F.PWR_PAIR_TAKEOVERS : Field := ⟨0x001020, 31, 24⟩
abbrev F.PWR_PAIR_STANDBY_READY : Field := ⟨0x001020, 7, 7⟩
abbrev F.PWR_PAIR_B_STATE : Field := ⟨0x001020, 5, 4⟩
abbrev F.PWR_PAIR_A_STATE : Field := ⟨0x001020, 3, 2⟩
abbrev F.PWR_PAIR_ACTIVE : Field := ⟨0x001020, 0, 0⟩
abbrev R.PWR_TAKEOVER_MT : Nat := 0x001024
abbrev R.PWR_STBY_LAST : Nat := 0x001028
abbrev F.PWR_STBY_LAST_REASON : Field := ⟨0x001028, 31, 16⟩
abbrev F.PWR_STBY_LAST_ISLAND : Field := ⟨0x001028, 15, 12⟩
abbrev F.PWR_STBY_LAST_CLIENT : Field := ⟨0x001028, 11, 8⟩
abbrev F.PWR_STBY_CNT_ENTERED : Field := ⟨0x00102C, 31, 16⟩
abbrev F.PWR_STBY_CNT_ABANDONED : Field := ⟨0x00102C, 15, 0⟩
abbrev R.PWR_VOTEn (n : Nat) : Nat := 0x001040 + 4 * n
abbrev F.PWR_VOTEn_CLIENTS (n : Nat) : Field := ⟨0x001040 + 4 * n, 8, 0⟩
abbrev R.PWR_RED_STAT : Nat := 0x001080
abbrev F.PWR_VBAT_MIN_MV : Field := ⟨0x001084, 31, 16⟩
abbrev F.PWR_VBAT_NOW_MV : Field := ⟨0x001084, 15, 0⟩
abbrev F.PWR_POWER_PEAK_MW : Field := ⟨0x001088, 31, 16⟩
abbrev F.PWR_POWER_MEAN_MW : Field := ⟨0x001088, 15, 0⟩
abbrev F.PWR_XTAL_RETRIES : Field := ⟨0x00108C, 31, 16⟩
abbrev F.PWR_XTAL_RETRYING : Field := ⟨0x00108C, 1, 1⟩
abbrev F.PWR_XTAL_LOST : Field := ⟨0x00108C, 0, 0⟩
abbrev R.TIM_REASON : Nat := 0x002004
abbrev F.TIM_REASON_REASON : Field := ⟨0x002004, 15, 0⟩
abbrev R.TIM_STAT : Nat := 0x002008
abbrev F.TIM_STAT_PULSE_RUN : Field := ⟨0x002008, 11, 8⟩
abbrev F.TIM_STAT_AS_CAPABLE : Field := ⟨0x002008, 7, 7⟩
abbrev F.TIM_STAT_PT_RC : Field := ⟨0x002008, 6, 6⟩
abbrev F.TIM_STAT_REF_RC : Field := ⟨0x002008, 5, 5⟩
abbrev F.TIM_STAT_GPTP : Field := ⟨0x002008, 4, 4⟩
abbrev F.TIM_STAT_NT_STATE : Field := ⟨0x002008, 1, 0⟩
abbrev R.TIM_EVT : Nat := 0x00200C
abbrev F.TIM_EVT_NOT_AS_CAPABLE : Field := ⟨0x00200C, 9, 9⟩
abbrev F.TIM_EVT_PT_OSC_FAIL : Field := ⟨0x00200C, 8, 8⟩
abbrev F.TIM_EVT_RESV_FAIL : Field := ⟨0x00200C, 7, 7⟩
abbrev F.TIM_EVT_PULSE_SKIP : Field := ⟨0x00200C, 6, 6⟩
abbrev F.TIM_EVT_PULSE_DONE : Field := ⟨0x00200C, 5, 5⟩
abbrev F.TIM_EVT_TXTS_OVF : Field := ⟨0x00200C, 4, 4⟩
abbrev F.TIM_EVT_HOLD_END : Field := ⟨0x00200C, 3, 3⟩
abbrev F.TIM_EVT_SYNC_LOST : Field := ⟨0x00200C, 2, 2⟩
abbrev F.TIM_EVT_STEP : Field := ⟨0x00200C, 1, 1⟩
abbrev F.TIM_EVT_NT_STATE : Field := ⟨0x00200C, 0, 0⟩
abbrev R.TIM_NT_INC_FRAC : Nat := 0x002014
abbrev R.TIM_NT_INC_INT : Nat := 0x002018
abbrev F.TIM_NT_INC_INT_INT : Field := ⟨0x002018, 7, 0⟩
abbrev R.TIM_NT_SET_S_LO : Nat := 0x00201C
abbrev R.TIM_NT_SET_S_HI : Nat := 0x002020
abbrev R.TIM_NT_SET_NS : Nat := 0x002024
abbrev R.TIM_NT_OFFSET : Nat := 0x002028
abbrev R.TIM_GPTP_OFFSET : Nat := 0x002030
abbrev F.TIM_GPTP_OFFSET_O : Field := ⟨0x002030, 31, 0⟩
abbrev R.TIM_GPTP_DELAY : Nat := 0x002034
abbrev F.TIM_GPTP_DELAY_DELAY : Field := ⟨0x002034, 31, 0⟩
abbrev F.TIM_GPTP_CNT_SYNCS : Field := ⟨0x002038, 31, 16⟩
abbrev F.TIM_GPTP_CNT_STEPS : Field := ⟨0x002038, 15, 8⟩
abbrev F.TIM_GPTP_CNT_LOST : Field := ⟨0x002038, 7, 0⟩
abbrev R.TIM_PT_CAL : Nat := 0x00203C
abbrev F.TIM_PT_CAL_PPM : Field := ⟨0x00203C, 15, 0⟩
abbrev R.TIM_SNAPn (n : Nat) : Nat := 0x002040 + 4 * n
abbrev R.TIM_PULSEn_CTL (n : Nat) : Nat := 0x002080 + 16 * n
abbrev F.TIM_PULSEn_CTL_SKIPPED (n : Nat) : Field := ⟨0x002080 + 16 * n, 15, 8⟩
abbrev F.TIM_PULSEn_CTL_ARMED (n : Nat) : Field := ⟨0x002080 + 16 * n, 7, 7⟩
abbrev F.TIM_PULSEn_CTL_POL (n : Nat) : Field := ⟨0x002080 + 16 * n, 6, 6⟩
abbrev F.TIM_PULSEn_CTL_BASE (n : Nat) : Field := ⟨0x002080 + 16 * n, 5, 4⟩
abbrev F.TIM_PULSEn_CTL_MODE (n : Nat) : Field := ⟨0x002080 + 16 * n, 3, 3⟩
abbrev F.TIM_PULSEn_CTL_EN (n : Nat) : Field := ⟨0x002080 + 16 * n, 0, 0⟩
abbrev R.TIM_PULSEn_START (n : Nat) : Nat := 0x002084 + 16 * n
abbrev R.TIM_PULSEn_PERIOD (n : Nat) : Nat := 0x002088 + 16 * n
abbrev R.TIM_PULSEn_WIDTH (n : Nat) : Nat := 0x00208C + 16 * n
abbrev F.TIM_TXTSp_STAT_LOST (n : Nat) : Field := ⟨0x0020C0 + 32 * n, 31, 24⟩
abbrev F.TIM_TXTSp_STAT_OVF (n : Nat) : Field := ⟨0x0020C0 + 32 * n, 23, 23⟩
abbrev R.LF_CTL : Nat := 0x003000
abbrev F.LF_CTL_CANDLE_HOLD : Field := ⟨0x003000, 1, 1⟩
abbrev F.LF_REASON_REASON : Field := ⟨0x003004, 15, 0⟩
abbrev F.LF_STAT_FITTED : Field := ⟨0x003008, 31, 24⟩
abbrev F.LF_STAT_UP : Field := ⟨0x003008, 23, 16⟩
abbrev F.LF_STAT_HALF : Field := ⟨0x003008, 15, 8⟩
abbrev F.LF_STAT_OVERTEMP : Field := ⟨0x003008, 6, 6⟩
abbrev F.LF_STAT_LFT_OK : Field := ⟨0x003008, 5, 5⟩
abbrev F.LF_STAT_VANT_OK : Field := ⟨0x003008, 4, 4⟩
abbrev F.LF_STAT_BUSY : Field := ⟨0x003008, 3, 3⟩
abbrev F.LF_STAT_MODE : Field := ⟨0x003008, 0, 0⟩
abbrev F.LF_VANT_MEAS : Field := ⟨0x00300C, 31, 16⟩
abbrev F.LF_VANT_SET : Field := ⟨0x00300C, 15, 0⟩
abbrev F.LF_EVT_OVERTEMP : Field := ⟨0x003010, 11, 11⟩
abbrev F.LF_EVT_QUEUE_FULL : Field := ⟨0x003010, 10, 10⟩
abbrev F.LF_EVT_TRIM_LIMIT : Field := ⟨0x003010, 9, 9⟩
abbrev F.LF_EVT_LFT_FAIL : Field := ⟨0x003010, 8, 8⟩
abbrev F.LF_EVT_LFT_DONE : Field := ⟨0x003010, 7, 7⟩
abbrev F.LF_EVT_CHATTER : Field := ⟨0x003010, 6, 6⟩
abbrev F.LF_EVT_SCALED : Field := ⟨0x003010, 5, 5⟩
abbrev F.LF_EVT_VANT_FAULT : Field := ⟨0x003010, 4, 4⟩
abbrev F.LF_EVT_CH_FAIL : Field := ⟨0x003010, 3, 3⟩
abbrev F.LF_EVT_LEG_FAIL : Field := ⟨0x003010, 2, 2⟩
abbrev F.LF_EVT_CANDLE_ANS : Field := ⟨0x003010, 1, 1⟩
abbrev F.LF_EVT_WAKE : Field := ⟨0x003010, 0, 0⟩
abbrev R.LF_CANDLE : Nat := 0x003018
abbrev R.LF_STAND : Nat := 0x00301C
abbrev F.LF_CANDLE_CNT_POLLS : Field := ⟨0x003020, 31, 16⟩
abbrev F.LF_CANDLE_CNT_LED : Field := ⟨0x003020, 15, 8⟩
abbrev F.LF_CANDLE_CNT_SKIPPED : Field := ⟨0x003020, 7, 0⟩
abbrev F.LF_WAKE_STAT_MASKED : Field := ⟨0x003024, 27, 16⟩
abbrev F.LF_WAKE_STAT_LEVEL : Field := ⟨0x003024, 11, 0⟩
abbrev F.LF_WAKE_EVT_EDGE : Field := ⟨0x003028, 11, 0⟩
abbrev R.LF_WAKE_PT : Nat := 0x00302C
abbrev R.LF_WAKE_LAST : Nat := 0x003030
abbrev R.LF_LFT_STAT : Nat := 0x003034
abbrev F.LF_LFT_CNT_OK : Field := ⟨0x003038, 31, 16⟩
abbrev F.LF_LFT_CNT_FAIL : Field := ⟨0x003038, 15, 0⟩
abbrev F.LF_CHn_CTL_OFF (n : Nat) : Field := ⟨0x003040 + 16 * n, 0, 0⟩
abbrev F.LF_CHn_STAT_TRIM (n : Nat) : Field := ⟨0x003044 + 16 * n, 29, 24⟩
abbrev F.LF_CHn_STAT_FAULT (n : Nat) : Field := ⟨0x003044 + 16 * n, 23, 16⟩
abbrev F.LF_CHn_STAT_LEG_B_FAIL (n : Nat) : Field := ⟨0x003044 + 16 * n, 5, 5⟩
abbrev F.LF_CHn_STAT_LEG_A_FAIL (n : Nat) : Field := ⟨0x003044 + 16 * n, 4, 4⟩
abbrev F.LF_CHn_STAT_HALF (n : Nat) : Field := ⟨0x003044 + 16 * n, 3, 3⟩
abbrev F.LF_CHn_STAT_OFF (n : Nat) : Field := ⟨0x003044 + 16 * n, 2, 2⟩
abbrev F.LF_CHn_STAT_FAILED (n : Nat) : Field := ⟨0x003044 + 16 * n, 1, 1⟩
abbrev F.LF_CHn_STAT_UP (n : Nat) : Field := ⟨0x003044 + 16 * n, 0, 0⟩
abbrev F.LF_CHn_MEAS_PHASE (n : Nat) : Field := ⟨0x003048 + 16 * n, 24, 16⟩
abbrev F.LF_CHn_MEAS_AMP (n : Nat) : Field := ⟨0x003048 + 16 * n, 7, 0⟩
abbrev F.LF_CHn_FCNT_SCALED (n : Nat) : Field := ⟨0x00304C + 16 * n, 31, 16⟩
abbrev F.LF_CHn_FCNT_FAULTS (n : Nat) : Field := ⟨0x00304C + 16 * n, 15, 0⟩
abbrev R.RF_CTL : Nat := 0x004000
abbrev F.RF_CTL_SNIFF_HOLD : Field := ⟨0x004000, 1, 1⟩
abbrev F.RF_REASON_REASON : Field := ⟨0x004004, 15, 0⟩
abbrev R.RF_STAT : Nat := 0x004008
abbrev F.RF_STAT_STATE : Field := ⟨0x004008, 31, 28⟩
abbrev F.RF_STAT_CHAINS_UP : Field := ⟨0x004008, 23, 20⟩
abbrev F.RF_STAT_FITTED : Field := ⟨0x004008, 19, 16⟩
abbrev F.RF_STAT_TEST_ON : Field := ⟨0x004008, 9, 9⟩
abbrev F.RF_STAT_TX_CAPPED : Field := ⟨0x004008, 8, 8⟩
abbrev F.RF_STAT_CAL_BUSY : Field := ⟨0x004008, 7, 7⟩
abbrev F.RF_STAT_REF_RC : Field := ⟨0x004008, 6, 6⟩
abbrev F.RF_STAT_SUB_OK : Field := ⟨0x004008, 5, 5⟩
abbrev F.RF_STAT_TX24_OK : Field := ⟨0x004008, 4, 4⟩
abbrev F.RF_STAT_SYN1_FAILED : Field := ⟨0x004008, 3, 3⟩
abbrev F.RF_STAT_SYN0_FAILED : Field := ⟨0x004008, 2, 2⟩
abbrev F.RF_STAT_SYN1_LOCK : Field := ⟨0x004008, 1, 1⟩
abbrev F.RF_STAT_SYN0_LOCK : Field := ⟨0x004008, 0, 0⟩
abbrev F.RF_EVT_REF_LOST : Field := ⟨0x00400C, 11, 11⟩
abbrev F.RF_EVT_TEST_STOP : Field := ⟨0x00400C, 10, 10⟩
abbrev F.RF_EVT_SNIFF_RAISED : Field := ⟨0x00400C, 9, 9⟩
abbrev F.RF_EVT_TX_CAP : Field := ⟨0x00400C, 8, 8⟩
abbrev F.RF_EVT_LATE : Field := ⟨0x00400C, 7, 7⟩
abbrev F.RF_EVT_QUEUE_FULL : Field := ⟨0x00400C, 6, 6⟩
abbrev F.RF_EVT_CAL_ABORT : Field := ⟨0x00400C, 5, 5⟩
abbrev F.RF_EVT_CAL_DONE : Field := ⟨0x00400C, 4, 4⟩
abbrev F.RF_EVT_CHAIN_FAIL : Field := ⟨0x00400C, 3, 3⟩
abbrev F.RF_EVT_SYN_FAIL : Field := ⟨0x00400C, 2, 2⟩
abbrev F.RF_EVT_LOCK_LOSS : Field := ⟨0x00400C, 1, 1⟩
abbrev F.RF_EVT_SYN_BUSY : Field := ⟨0x00400C, 0, 0⟩
abbrev F.RF_TEMP_CAL_T : Field := ⟨0x004014, 15, 8⟩
abbrev F.RF_TEMP_NOW_T : Field := ⟨0x004014, 7, 0⟩
abbrev F.RF_CAL_MT_MT : Field := ⟨0x004018, 31, 0⟩
abbrev F.RF_CAL_STAT_FAIL : Field := ⟨0x00401C, 22, 16⟩
abbrev F.RF_CAL_STAT_CAUSE : Field := ⟨0x00401C, 15, 8⟩
abbrev F.RF_CAL_STAT_COUNT : Field := ⟨0x00401C, 7, 0⟩
abbrev F.RF_TXPWR_RNG_APPLIED : Field := ⟨0x004020, 31, 24⟩
abbrev F.RF_TXPWR_CHAL_APPLIED : Field := ⟨0x004020, 23, 16⟩
abbrev F.RF_TXPWR_SUB_APPLIED : Field := ⟨0x004020, 15, 8⟩
abbrev F.RF_TXPWR_CAP : Field := ⟨0x004020, 7, 0⟩
abbrev F.RF_CNT_SYN_BUSY : Field := ⟨0x004024, 31, 24⟩
abbrev F.RF_CNT_LOCK_LOSS : Field := ⟨0x004024, 23, 16⟩
abbrev F.RF_CNT_CAL_ABORT : Field := ⟨0x004024, 15, 8⟩
abbrev F.RF_CNT_LATE : Field := ⟨0x004024, 7, 0⟩
abbrev F.RF_SNIFF_SNIFFS : Field := ⟨0x004028, 31, 16⟩
abbrev F.RF_SNIFF_HITS : Field := ⟨0x004028, 15, 8⟩
abbrev F.RF_SNIFF_FALSE : Field := ⟨0x004028, 7, 0⟩
abbrev F.RF_SNIFF_STAT_THR : Field := ⟨0x00402C, 15, 8⟩
abbrev F.RF_SNIFF_STAT_RAISED : Field := ⟨0x00402C, 0, 0⟩
abbrev F.RF_RSSI_LAST : Field := ⟨0x004030, 15, 8⟩
abbrev F.RF_RSSI_FLOOR : Field := ⟨0x004030, 7, 0⟩
abbrev F.RF_CHn_STAT_IRR (n : Nat) : Field := ⟨0x004040 + 16 * n, 31, 24⟩
abbrev F.RF_CHn_STAT_GAIN_ERR (n : Nat) : Field := ⟨0x004040 + 16 * n, 23, 16⟩
abbrev F.RF_CHn_STAT_FAULT (n : Nat) : Field := ⟨0x004040 + 16 * n, 7, 4⟩
abbrev F.RF_CHn_STAT_OFF (n : Nat) : Field := ⟨0x004040 + 16 * n, 2, 2⟩
abbrev F.RF_CHn_STAT_FAILED (n : Nat) : Field := ⟨0x004040 + 16 * n, 1, 1⟩
abbrev F.RF_CHn_STAT_UP (n : Nat) : Field := ⟨0x004040 + 16 * n, 0, 0⟩
abbrev F.RF_CHn_CAL_DELAY (n : Nat) : Field := ⟨0x004044 + 16 * n, 31, 16⟩
abbrev F.RF_CHn_CAL_PHASE (n : Nat) : Field := ⟨0x004044 + 16 * n, 8, 0⟩
abbrev F.RF_CHn_CTL_OFF (n : Nat) : Field := ⟨0x004048 + 16 * n, 0, 0⟩
abbrev F.RF_SUB_STAT_IRR : Field := ⟨0x004090, 31, 24⟩
abbrev F.RF_SUB_STAT_FILT : Field := ⟨0x004090, 23, 16⟩
abbrev F.RF_SUB_STAT_BAND : Field := ⟨0x004090, 15, 8⟩
abbrev F.RF_SUB_STAT_FAILED : Field := ⟨0x004090, 1, 1⟩
abbrev F.RF_SUB_STAT_UP : Field := ⟨0x004090, 0, 0⟩
abbrev R.RF_TEST : Nat := 0x0040A0
abbrev F.RF_TEST_MODE : Field := ⟨0x0040A0, 27, 24⟩
abbrev F.RF_TEST_BAND : Field := ⟨0x0040A0, 15, 8⟩
abbrev R.RNG_REASON : Nat := 0x005004
abbrev F.RNG_REASON_REASON : Field := ⟨0x005004, 15, 0⟩
abbrev F.RNG_STAT_QUEUE : Field := ⟨0x005008, 20, 16⟩
abbrev F.RNG_STAT_TILES_UP : Field := ⟨0x005008, 11, 8⟩
abbrev F.RNG_STAT_ONE_SYN : Field := ⟨0x005008, 6, 6⟩
abbrev F.RNG_STAT_ANGLE : Field := ⟨0x005008, 5, 5⟩
abbrev F.RNG_STAT_RANGE : Field := ⟨0x005008, 4, 4⟩
abbrev F.RNG_STAT_CHAINS : Field := ⟨0x005008, 3, 0⟩
abbrev F.RNG_EVT_EXCH_ABORT : Field := ⟨0x00500C, 9, 9⟩
abbrev F.RNG_EVT_TILE_FAIL : Field := ⟨0x00500C, 8, 8⟩
abbrev F.RNG_EVT_TURN_FAIL : Field := ⟨0x00500C, 7, 7⟩
abbrev F.RNG_EVT_NO_BOUND : Field := ⟨0x00500C, 6, 6⟩
abbrev F.RNG_EVT_DISPLACED : Field := ⟨0x00500C, 5, 5⟩
abbrev F.RNG_EVT_DEFERRED : Field := ⟨0x00500C, 4, 4⟩
abbrev F.RNG_EVT_CAP_LIMIT : Field := ⟨0x00500C, 3, 3⟩
abbrev F.RNG_EVT_CAPTURED : Field := ⟨0x00500C, 2, 2⟩
abbrev F.RNG_EVT_RELAY : Field := ⟨0x00500C, 1, 1⟩
abbrev F.RNG_EVT_RESULT : Field := ⟨0x00500C, 0, 0⟩
abbrev F.RNG_CNT_SESSIONS : Field := ⟨0x005014, 31, 16⟩
abbrev F.RNG_CNT_DEFERRED : Field := ⟨0x005014, 15, 8⟩
abbrev F.RNG_CNT_NO_BOUND : Field := ⟨0x005014, 7, 0⟩
abbrev F.RNG_RELAY_CNT_RELAY : Field := ⟨0x005018, 31, 16⟩
abbrev F.RNG_RELAY_CNT_CAPTURED : Field := ⟨0x005018, 15, 8⟩
abbrev F.RNG_RELAY_CNT_CAP_SKIPPED : Field := ⟨0x005018, 7, 0⟩
abbrev R.RNG_LASTn (n : Nat) : Nat := 0x005020 + 4 * n
abbrev R.RNG_LAST_FLICK : Nat := 0x005040
abbrev R.RNG_TURN_CAL : Nat := 0x005080
abbrev F.TOK_REASON_REASON : Field := ⟨0x006004, 15, 0⟩
abbrev F.TOK_SET_LEARN_OPEN : Field := ⟨0x006008, 24, 24⟩
abbrev F.TOK_SET_TOKENS : Field := ⟨0x006008, 22, 16⟩
abbrev F.TOK_SET_KSN : Field := ⟨0x006008, 15, 0⟩
abbrev R.TOK_LEARN_PROG : Nat := 0x00600C
abbrev R.TOK_DEV_TAG : Nat := 0x006010
abbrev F.TOK_EVT_RESYNC : Field := ⟨0x006018, 10, 10⟩
abbrev F.TOK_EVT_LEARN_ABORT : Field := ⟨0x006018, 9, 9⟩
abbrev F.TOK_EVT_LEARN_DONE : Field := ⟨0x006018, 8, 8⟩
abbrev F.TOK_EVT_OVERSUB : Field := ⟨0x006018, 7, 7⟩
abbrev F.TOK_EVT_REPLAY : Field := ⟨0x006018, 6, 6⟩
abbrev F.TOK_EVT_RETIRED : Field := ⟨0x006018, 5, 5⟩
abbrev F.TOK_EVT_CONFLICT : Field := ⟨0x006018, 4, 4⟩
abbrev F.TOK_EVT_PATH_LOCK : Field := ⟨0x006018, 3, 3⟩
abbrev F.TOK_EVT_SLOT_LOCK : Field := ⟨0x006018, 2, 2⟩
abbrev F.TOK_EVT_AUTH_FAIL : Field := ⟨0x006018, 1, 1⟩
abbrev F.TOK_EVT_AUTH_OK : Field := ⟨0x006018, 0, 0⟩
abbrev F.TOK_ROUND_OVERSUB_CNT : Field := ⟨0x006020, 31, 16⟩
abbrev F.TOK_ROUND_LF_ONLY : Field := ⟨0x006020, 10, 10⟩
abbrev F.TOK_ROUND_ROUND : Field := ⟨0x006020, 9, 8⟩
abbrev F.TOK_ROUND_COLLIDED : Field := ⟨0x006020, 7, 4⟩
abbrev F.TOK_ROUND_VALID : Field := ⟨0x006020, 3, 0⟩
abbrev R.TOK_LAST_REFUSE : Nat := 0x006024
abbrev F.REL_REASON_REASON : Field := ⟨0x007004, 15, 0⟩
abbrev R.REL_STAT : Nat := 0x007008
abbrev F.REL_STAT_DMODE : Field := ⟨0x007008, 14, 12⟩
abbrev F.REL_STAT_ENGINE_RUN : Field := ⟨0x007008, 11, 11⟩
abbrev F.REL_STAT_STANDSTILL : Field := ⟨0x007008, 10, 10⟩
abbrev F.REL_STAT_GRANT : Field := ⟨0x007008, 9, 8⟩
abbrev F.REL_STAT_PHASE : Field := ⟨0x007008, 3, 2⟩
abbrev F.REL_STAT_OUT_L : Field := ⟨0x007008, 1, 1⟩
abbrev F.REL_STAT_OUT_H : Field := ⟨0x007008, 0, 0⟩
abbrev F.REL_EVT_PAIRED : Field := ⟨0x00700C, 7, 7⟩
abbrev F.REL_EVT_PART_MSG_BAD : Field := ⟨0x00700C, 6, 6⟩
abbrev F.REL_EVT_OUT_FAULT : Field := ⟨0x00700C, 5, 5⟩
abbrev F.REL_EVT_GRANT_FAIL : Field := ⟨0x00700C, 4, 4⟩
abbrev F.REL_EVT_RELOCKED : Field := ⟨0x00700C, 3, 3⟩
abbrev F.REL_EVT_RELEASED : Field := ⟨0x00700C, 2, 2⟩
abbrev F.REL_EVT_REFUSED : Field := ⟨0x00700C, 1, 1⟩
abbrev F.REL_EVT_DECISION : Field := ⟨0x00700C, 0, 0⟩
abbrev R.REL_LAST : Nat := 0x007014
abbrev F.REL_LAST_REQUEST : Field := ⟨0x007014, 23, 16⟩
abbrev R.REL_PROFILE : Nat := 0x007018
abbrev F.REL_PROFILE_SLOT : Field := ⟨0x007018, 7, 0⟩
abbrev F.REL_OUT_DIAG_I_MA : Field := ⟨0x00701C, 31, 16⟩
abbrev F.REL_OUT_DIAG_FAULT_L : Field := ⟨0x00701C, 15, 8⟩
abbrev F.REL_OUT_DIAG_FAULT_H : Field := ⟨0x00701C, 7, 0⟩
abbrev R.REL_SEQ : Nat := 0x007020
abbrev F.REL_CNT_RELEASES : Field := ⟨0x007024, 31, 16⟩
abbrev F.REL_CNT_REFUSED : Field := ⟨0x007024, 15, 8⟩
abbrev F.REL_CNT_GRANT_FAIL : Field := ⟨0x007024, 7, 0⟩
abbrev F.REL_PARTn_STAT_BAD_MSG (n : Nat) : Field := ⟨0x007040 + 4 * n, 31, 24⟩
abbrev F.SYM_REASON_REASON : Field := ⟨0x008004, 15, 0⟩
abbrev F.SYM_STAT_CTX_USED : Field := ⟨0x008008, 31, 24⟩
abbrev F.SYM_STAT_SERIALS : Field := ⟨0x008008, 23, 16⟩
abbrev F.SYM_STAT_ENT_OK : Field := ⟨0x008008, 7, 7⟩
abbrev F.SYM_STAT_DRBG_OK : Field := ⟨0x008008, 6, 6⟩
abbrev F.SYM_STAT_SHA_FB : Field := ⟨0x008008, 5, 5⟩
abbrev F.SYM_STAT_PK_FB : Field := ⟨0x008008, 4, 4⟩
abbrev F.SYM_STAT_SHA_OK : Field := ⟨0x008008, 3, 3⟩
abbrev F.SYM_STAT_PK_OK : Field := ⟨0x008008, 2, 2⟩
abbrev F.SYM_STAT_PIPE1_OK : Field := ⟨0x008008, 1, 1⟩
abbrev F.SYM_STAT_PIPE0_OK : Field := ⟨0x008008, 0, 0⟩
abbrev F.SYM_EVT_CTX_FULL : Field := ⟨0x00800C, 8, 8⟩
abbrev F.SYM_EVT_RESV_FAIL : Field := ⟨0x00800C, 7, 7⟩
abbrev F.SYM_EVT_TAMPER_ABORT : Field := ⟨0x00800C, 6, 6⟩
abbrev F.SYM_EVT_ENT_FAILED : Field := ⟨0x00800C, 5, 5⟩
abbrev F.SYM_EVT_ENT_HEALTH : Field := ⟨0x00800C, 4, 4⟩
abbrev F.SYM_EVT_ENGINE_FAILED : Field := ⟨0x00800C, 3, 3⟩
abbrev F.SYM_EVT_PIPE_FAULT : Field := ⟨0x00800C, 2, 2⟩
abbrev F.SYM_EVT_NONCE_REFUSED : Field := ⟨0x00800C, 1, 1⟩
abbrev F.SYM_EVT_TAG_FAIL : Field := ⟨0x00800C, 0, 0⟩
abbrev F.SYM_CNT_TAG_FAIL : Field := ⟨0x008014, 31, 16⟩
abbrev F.SYM_CNT_PIPE_FAULT : Field := ⟨0x008014, 15, 8⟩
abbrev F.SYM_CNT_NONCE_REFUSED : Field := ⟨0x008014, 7, 0⟩
abbrev F.SYM_EPOCH_BOOT_EPOCH : Field := ⟨0x008018, 23, 0⟩
abbrev F.SYM_RESV_WRITES : Field := ⟨0x00801C, 31, 16⟩
abbrev F.SYM_RESV_FAILS : Field := ⟨0x00801C, 15, 8⟩
abbrev F.SYM_ENT_RCT_FAIL : Field := ⟨0x008020, 31, 24⟩
abbrev F.SYM_ENT_APT_FAIL : Field := ⟨0x008020, 23, 16⟩
abbrev F.SYM_ENT_FAILED : Field := ⟨0x008020, 0, 0⟩
abbrev R.SYM_DRBG : Nat := 0x008024
abbrev F.SYM_PIPEn_STAT_FAULTS (n : Nat) : Field := ⟨0x008040 + 4 * n, 31, 24⟩
abbrev F.SYM_PIPEn_STAT_UP (n : Nat) : Field := ⟨0x008040 + 4 * n, 7, 7⟩
abbrev F.SYM_PIPEn_STAT_FAILED (n : Nat) : Field := ⟨0x008040 + 4 * n, 6, 6⟩
abbrev F.SYM_PIPEn_STAT_QUEUE (n : Nat) : Field := ⟨0x008040 + 4 * n, 5, 0⟩
abbrev R.KEY_REASON : Nat := 0x009004
abbrev F.KEY_REASON_REASON : Field := ⟨0x009004, 15, 0⟩
abbrev R.KEY_STAT : Nat := 0x009008
abbrev F.KEY_STAT_LC : Field := ⟨0x009008, 31, 29⟩
abbrev F.KEY_STAT_ENG : Field := ⟨0x009008, 28, 28⟩
abbrev F.KEY_STAT_EPOCH : Field := ⟨0x009008, 27, 24⟩
abbrev F.KEY_STAT_SV : Field := ⟨0x009008, 23, 16⟩
abbrev F.KEY_STAT_SV_SEAL : Field := ⟨0x009008, 15, 8⟩
abbrev F.KEY_STAT_AS_OK : Field := ⟨0x009008, 4, 4⟩
abbrev F.KEY_STAT_TK_OK : Field := ⟨0x009008, 3, 3⟩
abbrev F.KEY_STAT_PREP : Field := ⟨0x009008, 2, 2⟩
abbrev F.KEY_STAT_ROOT_LOCKED : Field := ⟨0x009008, 1, 1⟩
abbrev F.KEY_STAT_RING_LOCKED : Field := ⟨0x009008, 0, 0⟩
abbrev R.KEY_GEN : Nat := 0x00900C
abbrev F.KEY_RECS_FREE : Field := ⟨0x009010, 25, 16⟩
abbrev F.KEY_RECS_USED : Field := ⟨0x009010, 9, 0⟩
abbrev R.KEY_EVT : Nat := 0x009014
abbrev F.KEY_EVT_IMPORT : Field := ⟨0x009014, 8, 8⟩
abbrev F.KEY_EVT_ZEROISED : Field := ⟨0x009014, 7, 7⟩
abbrev F.KEY_EVT_LC_PENDING : Field := ⟨0x009014, 6, 6⟩
abbrev F.KEY_EVT_BANK_FAIL : Field := ⟨0x009014, 5, 5⟩
abbrev F.KEY_EVT_ROTATE : Field := ⟨0x009014, 4, 4⟩
abbrev F.KEY_EVT_AUTH_OK : Field := ⟨0x009014, 3, 3⟩
abbrev F.KEY_EVT_AUTH_FAIL : Field := ⟨0x009014, 2, 2⟩
abbrev F.KEY_EVT_COMMIT_FAIL : Field := ⟨0x009014, 1, 1⟩
abbrev F.KEY_EVT_COMMIT : Field := ⟨0x009014, 0, 0⟩
abbrev F.KEY_AUTH_CNT_OK : Field := ⟨0x00901C, 31, 16⟩
abbrev F.KEY_AUTH_CNT_FAIL : Field := ⟨0x00901C, 15, 0⟩
abbrev R.KEY_ROT : Nat := 0x009020
abbrev R.STO_REASON : Nat := 0x00A004
abbrev F.STO_REASON_REASON : Field := ⟨0x00A004, 15, 0⟩
abbrev R.STO_STAT : Nat := 0x00A008
abbrev F.STO_STAT_HOLDUP_SHORT : Field := ⟨0x00A008, 10, 10⟩
abbrev F.STO_STAT_JRNL_WARN : Field := ⟨0x00A008, 9, 9⟩
abbrev F.STO_STAT_HELD : Field := ⟨0x00A008, 7, 7⟩
abbrev F.STO_STAT_BUF_REDUCED : Field := ⟨0x00A008, 6, 6⟩
abbrev F.STO_STAT_VAULT_PORT : Field := ⟨0x00A008, 5, 5⟩
abbrev F.STO_STAT_CTRL_OK : Field := ⟨0x00A008, 4, 4⟩
abbrev F.STO_STAT_DIE1_OK : Field := ⟨0x00A008, 3, 3⟩
abbrev F.STO_STAT_DIE0_OK : Field := ⟨0x00A008, 2, 2⟩
abbrev F.STO_STAT_BANK1_OK : Field := ⟨0x00A008, 1, 1⟩
abbrev F.STO_STAT_BANK0_OK : Field := ⟨0x00A008, 0, 0⟩
abbrev R.STO_EVT : Nat := 0x00A00C
abbrev F.STO_EVT_JRNL_WARN : Field := ⟨0x00A00C, 7, 7⟩
abbrev F.STO_EVT_GAP : Field := ⟨0x00A00C, 6, 6⟩
abbrev F.STO_EVT_CAP_LOST : Field := ⟨0x00A00C, 5, 5⟩
abbrev F.STO_EVT_PAGE_LOST : Field := ⟨0x00A00C, 4, 4⟩
abbrev F.STO_EVT_BLOCK_RETIRED : Field := ⟨0x00A00C, 3, 3⟩
abbrev F.STO_EVT_MEDIA_FAIL : Field := ⟨0x00A00C, 2, 2⟩
abbrev F.STO_EVT_CHECKPOINT : Field := ⟨0x00A00C, 1, 1⟩
abbrev F.STO_EVT_WIN_READY : Field := ⟨0x00A00C, 0, 0⟩
abbrev R.STO_JRNL_SEQ_LO : Nat := 0x00A014
abbrev R.STO_JRNL_SEQ_HI : Nat := 0x00A018
abbrev R.STO_JRNL_OLD_LO : Nat := 0x00A01C
abbrev R.STO_JRNL_OLD_HI : Nat := 0x00A020
abbrev R.STO_JRNL_ACK_LO : Nat := 0x00A024
abbrev R.STO_JRNL_ACK_HI : Nat := 0x00A028
abbrev R.STO_CKPT : Nat := 0x00A02C
abbrev R.STO_CAP_NEW : Nat := 0x00A030
abbrev R.STO_CAP_OLD : Nat := 0x00A034
abbrev R.STO_WIN_CTL : Nat := 0x00A040
abbrev F.STO_WIN_CTL_STREAM : Field := ⟨0x00A040, 4, 0⟩
abbrev R.STO_WIN_POS_LO : Nat := 0x00A044
abbrev R.STO_WIN_POS_HI : Nat := 0x00A048
abbrev R.STO_WIN_STAT : Nat := 0x00A04C
abbrev F.STO_WIN_STAT_REASON : Field := ⟨0x00A04C, 31, 16⟩
abbrev F.STO_WIN_STAT_VALID : Field := ⟨0x00A04C, 15, 1⟩
abbrev F.STO_WIN_STAT_READY : Field := ⟨0x00A04C, 0, 0⟩
abbrev R.STO_WEAR : Nat := 0x00A050
abbrev R.STO_WRITTEN : Nat := 0x00A054
abbrev R.STO_HOLDUP : Nat := 0x00A058
abbrev F.STO_CNT_SCRUBBED : Field := ⟨0x00A05C, 31, 16⟩
abbrev F.STO_CNT_REFRESHED : Field := ⟨0x00A05C, 15, 8⟩
abbrev F.STO_CNT_REBUILT : Field := ⟨0x00A05C, 7, 0⟩
abbrev R.STO_DIEn_STAT (n : Nat) : Nat := 0x00A060 + 4 * n
abbrev F.STO_DIEn_STAT_SPARE (n : Nat) : Field := ⟨0x00A060 + 4 * n, 31, 18⟩
abbrev F.STO_DIEn_STAT_RETIRED (n : Nat) : Field := ⟨0x00A060 + 4 * n, 17, 4⟩
abbrev F.STO_DIEn_STAT_FAILED (n : Nat) : Field := ⟨0x00A060 + 4 * n, 1, 1⟩
abbrev F.STO_DIEn_STAT_UP (n : Nat) : Field := ⟨0x00A060 + 4 * n, 0, 0⟩
abbrev R.NFC_CTL : Nat := 0x00B000
abbrev F.NFC_CTL_READER_OFF : Field := ⟨0x00B000, 1, 1⟩
abbrev F.NFC_REASON_REASON : Field := ⟨0x00B004, 15, 0⟩
abbrev R.NFC_STAT : Nat := 0x00B008
abbrev F.NFC_EVT_METHOD_LOCK : Field := ⟨0x00B00C, 7, 7⟩
abbrev F.NFC_EVT_TAG_SECURED : Field := ⟨0x00B00C, 6, 6⟩
abbrev F.NFC_EVT_FIELD_ENTRY : Field := ⟨0x00B00C, 5, 5⟩
abbrev F.NFC_EVT_DEFERRED : Field := ⟨0x00B00C, 4, 4⟩
abbrev F.NFC_EVT_CARD_MAX : Field := ⟨0x00B00C, 3, 3⟩
abbrev F.NFC_EVT_CARD_FAIL : Field := ⟨0x00B00C, 2, 2⟩
abbrev F.NFC_EVT_CARD_ARSP : Field := ⟨0x00B00C, 1, 1⟩
abbrev F.NFC_EVT_DETECT : Field := ⟨0x00B00C, 0, 0⟩
abbrev F.NFC_RDR_CNT_DETECTS : Field := ⟨0x00B014, 31, 16⟩
abbrev F.NFC_RDR_CNT_CARDS : Field := ⟨0x00B014, 15, 8⟩
abbrev F.NFC_RDR_CNT_DEFERRED : Field := ⟨0x00B014, 7, 0⟩
abbrev R.NFC_LAST_CARD : Nat := 0x00B018
abbrev R.NFC_TAG_STAT : Nat := 0x00B01C
abbrev F.NFC_TAG_STAT_TAIL_SLOT : Field := ⟨0x00B01C, 7, 0⟩
abbrev F.NFC_TAG_CNT_ENTRIES : Field := ⟨0x00B020, 31, 16⟩
abbrev F.NFC_TAG_CNT_WEAK : Field := ⟨0x00B020, 15, 8⟩
abbrev F.NFC_TAG_CNT_BUSY : Field := ⟨0x00B020, 7, 0⟩
abbrev R.NFC_TAG_WIN : Nat := 0x00B024
abbrev F.UPD_REASON_REASON : Field := ⟨0x00C004, 15, 0⟩
abbrev R.UPD_STAT : Nat := 0x00C008
abbrev F.UPD_EVT_RESEALED : Field := ⟨0x00C00C, 6, 6⟩
abbrev F.UPD_EVT_REVERTED : Field := ⟨0x00C00C, 5, 5⟩
abbrev F.UPD_EVT_CONFIRMED : Field := ⟨0x00C00C, 4, 4⟩
abbrev F.UPD_EVT_HANDOVER : Field := ⟨0x00C00C, 3, 3⟩
abbrev F.UPD_EVT_WAITING : Field := ⟨0x00C00C, 2, 2⟩
abbrev F.UPD_EVT_VERIFIED : Field := ⟨0x00C00C, 1, 1⟩
abbrev F.UPD_EVT_CHUNK : Field := ⟨0x00C00C, 0, 0⟩
abbrev R.UPD_PROG : Nat := 0x00C014
abbrev R.UPD_TARGET : Nat := 0x00C018
abbrev R.UPD_RESEAL : Nat := 0x00C01C
abbrev R.UPD_ACT_MT : Nat := 0x00C020
abbrev F.UPD_CNT_ACTIVATIONS : Field := ⟨0x00C024, 31, 24⟩
abbrev F.UPD_CNT_REVERTS : Field := ⟨0x00C024, 23, 16⟩
abbrev F.UPD_CNT_CHUNK_REFUSED : Field := ⟨0x00C024, 15, 0⟩
abbrev F.TAM_REASON_REASON : Field := ⟨0x00D004, 15, 0⟩
abbrev R.TAM_STAT : Nat := 0x00D008
abbrev F.TAM_STAT_SVC_OPEN : Field := ⟨0x00D008, 10, 10⟩
abbrev F.TAM_STAT_TIN_ALARM : Field := ⟨0x00D008, 9, 9⟩
abbrev F.TAM_STAT_TIN_FITTED : Field := ⟨0x00D008, 8, 8⟩
abbrev F.TAM_STAT_LIGHT_OK : Field := ⟨0x00D008, 6, 6⟩
abbrev F.TAM_STAT_TEMP_OK : Field := ⟨0x00D008, 5, 5⟩
abbrev F.TAM_STAT_CLK_OK : Field := ⟨0x00D008, 4, 4⟩
abbrev F.TAM_STAT_VOLT_OK : Field := ⟨0x00D008, 3, 3⟩
abbrev F.TAM_STAT_SHADE_OK : Field := ⟨0x00D008, 2, 2⟩
abbrev F.TAM_EVT_SVC_REFUSED : Field := ⟨0x00D00C, 6, 6⟩
abbrev F.TAM_EVT_SVC_OPENED : Field := ⟨0x00D00C, 5, 5⟩
abbrev F.TAM_EVT_LOCK_END : Field := ⟨0x00D00C, 4, 4⟩
abbrev F.TAM_EVT_ESCALATED : Field := ⟨0x00D00C, 3, 3⟩
abbrev F.TAM_EVT_T3 : Field := ⟨0x00D00C, 2, 2⟩
abbrev F.TAM_EVT_T2 : Field := ⟨0x00D00C, 1, 1⟩
abbrev F.TAM_EVT_T1 : Field := ⟨0x00D00C, 0, 0⟩
abbrev R.TAM_LAST : Nat := 0x00D014
abbrev R.TAM_LAST_PT : Nat := 0x00D018
abbrev R.TAM_LAST_MT : Nat := 0x00D01C
abbrev F.TAM_CNT_T1 : Field := ⟨0x00D020, 31, 16⟩
abbrev F.TAM_CNT_T2 : Field := ⟨0x00D020, 15, 8⟩
abbrev F.TAM_CNT_T3 : Field := ⟨0x00D020, 7, 0⟩
abbrev F.HIF_REASON_REASON : Field := ⟨0x00E004, 15, 0⟩
abbrev R.HIF_STAT : Nat := 0x00E008
abbrev F.HIF_STAT_MB_QUEUED : Field := ⟨0x00E008, 23, 20⟩
abbrev F.HIF_STAT_MB_EXEC : Field := ⟨0x00E008, 19, 19⟩
abbrev F.HIF_STAT_CAN_NOMINAL : Field := ⟨0x00E008, 7, 7⟩
abbrev F.HIF_STAT_PLCA_ACTIVE : Field := ⟨0x00E008, 6, 6⟩
abbrev F.HIF_STAT_CAN1_BUSOFF : Field := ⟨0x00E008, 5, 5⟩
abbrev F.HIF_STAT_CAN0_BUSOFF : Field := ⟨0x00E008, 4, 4⟩
abbrev F.HIF_STAT_T1S_UP : Field := ⟨0x00E008, 2, 2⟩
abbrev F.HIF_STAT_CAN1_UP : Field := ⟨0x00E008, 1, 1⟩
abbrev F.HIF_STAT_CAN0_UP : Field := ⟨0x00E008, 0, 0⟩
abbrev F.HIF_EVT_RESP_DROPPED : Field := ⟨0x00E00C, 9, 9⟩
abbrev F.HIF_EVT_SPI_ERR : Field := ⟨0x00E00C, 8, 8⟩
abbrev F.HIF_EVT_LINK_CHG : Field := ⟨0x00E00C, 7, 7⟩
abbrev F.HIF_EVT_BUS_OFF : Field := ⟨0x00E00C, 6, 6⟩
abbrev F.HIF_EVT_DISC_NEW : Field := ⟨0x00E00C, 5, 5⟩
abbrev F.HIF_EVT_RX_FRAME : Field := ⟨0x00E00C, 4, 4⟩
abbrev F.HIF_EVT_MB_REFUSED : Field := ⟨0x00E00C, 3, 3⟩
abbrev F.HIF_EVT_MB_DONE : Field := ⟨0x00E00C, 2, 2⟩
abbrev F.HIF_EVT_OUT_VALID : Field := ⟨0x00E00C, 1, 1⟩
abbrev F.HIF_EVT_IN_FREE : Field := ⟨0x00E00C, 0, 0⟩
abbrev R.HIF_INT_PEND : Nat := 0x00E014
abbrev R.HIF_INT_MASK : Nat := 0x00E018
abbrev R.HIF_MB_RING : Nat := 0x00E020
abbrev F.HIF_MB_IN_STAT_IN_FREE : Field := ⟨0x00E024, 0, 0⟩
abbrev R.HIF_MB_OUT_STAT : Nat := 0x00E028
abbrev F.HIF_MB_OUT_STAT_LAST : Field := ⟨0x00E028, 2, 2⟩
abbrev F.HIF_MB_OUT_STAT_VALID : Field := ⟨0x00E028, 0, 0⟩
abbrev R.HIF_MB_OUT_ACK : Nat := 0x00E02C
abbrev R.HIF_MB_PROG : Nat := 0x00E030
abbrev R.HIF_MB_LAST : Nat := 0x00E034
abbrev F.HIF_SPI_CNT_FRAMES : Field := ⟨0x00E038, 31, 16⟩
abbrev F.HIF_SPI_CNT_CRC_ERR : Field := ⟨0x00E038, 15, 8⟩
abbrev F.HIF_SPI_CNT_REJECTED : Field := ⟨0x00E038, 7, 0⟩
abbrev F.HIF_CANc_STAT_TEC (n : Nat) : Field := ⟨0x00E040 + 4 * n, 31, 24⟩
abbrev F.HIF_CANc_STAT_REC (n : Nat) : Field := ⟨0x00E040 + 4 * n, 23, 16⟩
abbrev F.HIF_CANc_STAT_BUSOFF_CNT (n : Nat) : Field := ⟨0x00E040 + 4 * n, 15, 8⟩
abbrev F.HIF_CANc_STAT_STATE (n : Nat) : Field := ⟨0x00E040 + 4 * n, 1, 0⟩
abbrev F.HIF_T1S_STAT_NODE_ID : Field := ⟨0x00E048, 31, 24⟩
abbrev F.HIF_T1S_STAT_NODE_COUNT : Field := ⟨0x00E048, 23, 16⟩
abbrev F.HIF_T1S_STAT_BEACON_LOST : Field := ⟨0x00E048, 15, 8⟩
abbrev F.HIF_T1S_STAT_COORD : Field := ⟨0x00E048, 2, 2⟩
abbrev F.HIF_T1S_STAT_PLCA_ACTIVE : Field := ⟨0x00E048, 1, 1⟩
abbrev F.HIF_T1S_STAT_UP : Field := ⟨0x00E048, 0, 0⟩
abbrev F.HIF_RXQ_LOST : Field := ⟨0x00E04C, 31, 24⟩
abbrev F.HIF_RXQ_RECORDS : Field := ⟨0x00E04C, 15, 0⟩
abbrev F.HIF_DISC_HEARD : Field := ⟨0x00E050, 31, 16⟩
abbrev F.HIF_DISC_UNPAIRED : Field := ⟨0x00E050, 4, 0⟩

end Sys2Proof.Machine
end

