-- ==== Sys2Proof/Machine/State.lean ====
section
/-! DEFINITION. The state of the block as plain data: what survives a reset (fuses, vault, NAND, NOR, tag memory, pilot) and
what every reset source returns to its reset value (registers, queues, working state), the faults and refusals, and the
state after reset (`State.reset`). -/
namespace Sys2Proof.Machine

open Sys2Proof

/-- Faults of the block. None is raised by a modelled command: the spec names an outcome for every one. -/
inductive Fault
  /-- The model met a state that no rule describes. Raised by nothing; kept so that the type is inhabited. Safe. -/
  | unreachable
  deriving DecidableEq, Repr

/-- Refusals of the block. -/
inductive Refusal
  /-- The command has no meaning in this model yet. Raised by an arm of `exec` only. Safe. -/
  | notModelled (mnemonic : String)
  deriving DecidableEq, Repr

/-! ## Fuses (R265, Table 10-1) -/

/-- A fuse of 2 elements; it reads blown when either element does (R266). -/
structure Fuse where
  a : Bool
  b : Bool
  deriving DecidableEq, Repr

/-- The fuse bank of Table 10-1. ROOT and TRIM are constants of Config. -/
structure Fuses where
  rootPresent : Bool          -- ROOT blown by Naldin
  eng         : Bool          -- ENG
  lc          : List Fuse     -- PROVISIONED, INTEGRATION, FIELD, RETIRED
  epoch       : List Fuse     -- the 15 thermometer fuses
  custHash    : Bytes         -- CUST_HASH, empty until blown
  retireA     : Bool
  retireB     : Bool
  deriving DecidableEq, Repr

/-- What a fuse blow in progress was started for (R266, R282, R288). -/
inductive Blow
  | lifecycle (fuse : Nat)    -- index into `lc`
  | epoch
  deriving DecidableEq, Repr

/-! ## The vault (R297, Table 11-1) -/

/-- A vault record that changes in place: 2 copies with their sequence numbers (R298). -/
structure TwoCopy where
  seqA : Nat
  valA : Nat
  seqB : Nat
  valB : Nat
  deriving DecidableEq, Repr

/-- A key record of the keyring (R271, Table 10-3). -/
structure KeyRec where
  kind  : Nat
  index : Nat
  gen   : Nat       -- generation that created the record
  attr  : Nat       -- attribute word
  key   : Bytes
  pub   : Bytes     -- public key X and Y of a P-521 key, else empty
  deriving DecidableEq, Repr

/-- A keyring generation and its commit record (R274). -/
structure Generation where
  number  : Nat
  epoch   : Nat
  s       : Nat     -- security version at which it is sealed
  records : List KeyRec
  digest  : Bytes   -- SHA-512 of the sealed records
  mac     : Bytes   -- CMAC of the commit record under K_RMAC,s
  deriving DecidableEq, Repr

/-- A bank of settings (R48). -/
structure SettingsBank where
  serial : Nat
  values : List (Nat × Nat)
  deriving DecidableEq, Repr

/-- A journal entry (Table 11-6). -/
structure JEntry where
  seq    : Nat
  mt     : Nat
  ntS    : Nat
  ntNs   : Nat
  type   : Nat
  reason : Nat
  src    : Nat
  flags  : Nat
  link   : Bytes
  body   : Bytes
  deriving DecidableEq, Repr

/-- A staging slot: the entry and the chain value after it (R311, R312). -/
structure Staged where
  entry : JEntry
  h     : Bytes
  deriving DecidableEq, Repr

/-- The gap record of an overflowed staging area (R313). -/
structure Gap where
  first : Nat
  last  : Nat
  h     : Bytes
  link  : Bytes
  deriving DecidableEq, Repr

/-- Journal staging (R312, R313): undrained entries, oldest first; a gap and the ring of newest entries behind it. -/
structure Staging where
  kept : List Staged
  gap  : Option Gap
  ring : List Staged
  deriving DecidableEq, Repr



/-! ## Tokens (chapter 4) -/

/-- A slot record (Table 4-1). SK is the keyring key of kind 2 and the slot's index. STATE: 0 EMPTY, 1 ACTIVE, 2 SUSPENDED,
3 RETIRED. CLASS: 0 none, 1 F, 2 C, 3 T. -/
structure Slot where
  state    : Nat
  cls      : Nat
  typeId   : Nat
  tid      : Nat
  ctr      : Nat
  turn     : Nat
  conflict : Bool
  rekey    : Bool
  locked   : Bool
  level    : Nat
  fails    : List Nat    -- MT of the counted failures, oldest first
  held     : Nat         -- the count as the lock began
  lockEnd  : Nat         -- MT at which the lock ends
  deriving DecidableEq, Repr

/-- The lockout of a path (R114). -/
structure PathRec where
  locked  : Bool
  level   : Nat
  fails   : List Nat
  held    : Nat
  lockEnd : Nat
  deriving DecidableEq, Repr

/-- An EMPTY slot. -/
def Slot.empty : Slot := ⟨0, 0, 0, 0, 0, 0, false, false, false, 0, [], 0, 0⟩

/-- A path without failures. -/
def PathRec.clear : PathRec := ⟨false, 0, [], 0, 0⟩

/-- A token learned into the scratch generation. -/
structure Learned where
  tid    : Nat
  typeId : Nat
  cls    : Nat
  turn   : Nat
  sk     : Bytes
  deriving DecidableEq, Repr

/-- The token being learned (Sequence 4-1): step 3 reads its TID, step 4 has sent KEYLOAD at `sentMt`. -/
structure LearnStep where
  tid    : Nat
  typeId : Nat
  cls    : Nat
  ts     : Bytes
  sk     : Bytes
  loaded : Bool
  sentMt : Nat
  deriving DecidableEq, Repr

/-- A learning session (R90, R91). -/
structure Learn where
  planned : Nat
  tokens  : List Learned
  lastMt  : Nat
  current : Option LearnStep
  deriving DecidableEq, Repr

/-- A token's outcome within its request (R218, R219). -/
structure TokOut where
  slot   : Nat
  action : Nat        -- Table 8-1; 0 REFUSE
  yields : Bool       -- whether it yields an action
  reason : Nat
  path   : Nat
  zone   : Nat
  kind   : Nat        -- KIND of its zone, 0xFF none
  drvCm  : Nat
  field  : Nat
  mode   : Nat
  dbOk   : Bool
  deriving DecidableEq, Repr

/-- A request whose tokens are not all judged: it performs at most one action once `waiting` is 0 and no more tokens come. -/
structure Request where
  id       : Nat
  code     : Nat
  path     : Nat
  coming   : Bool
  waiting  : Nat
  outcomes : List TokOut
  host     : Bool                    -- the mailbox LF_REQUEST or LFT_EXCHANGE waits for it
  confirm  : Option (Nat × Nat)      -- slot and ACTION of an RKE command it confirms
  deriving DecidableEq, Repr

/-- An RKE command accepted: slot, CTR, CMD, MT (Table 4-11). -/
structure RkeAccept where
  slot : Nat
  ctr  : Nat
  cmd  : Nat
  mt   : Nat
  deriving DecidableEq, Repr

/-- Working state of TOK. -/
structure Tok where
  learn      : Option Learn
  resync     : List (Nat × Nat × Nat)   -- slot, P, MT of P
  accepted   : List RkeAccept
  confirms   : List (Nat × Nat × Nat)   -- RKE confirmations: slot, ACTION, MT of acceptance
  commitWait : Option Nat               -- MT at which a waiting commit stops waiting
  nextReq    : Nat
  requests   : List Request
  commitOk   : Bool                     -- whether storage takes the commit that waits
  sent       : Bytes                    -- last frame sent to the tokens: LCHAL, CHAL with its preamble and access word, AREQ, KEYLOAD
  sentMhz    : Nat                      -- its carrier in MHz on 2.4 GHz, 0 for an LF or NFC frame
  lost       : Bool                     -- a learning session was open at the last reset (Table 4-17)
  deriving DecidableEq, Repr

/-! ## LF (chapter 5) -/

/-- A request for the LF air (R140). -/
structure LfReq where
  code    : Nat              -- REQUEST; 0x0C an RKE confirmation
  cls     : Nat              -- 1 to 4
  lft     : Bool             -- an LFT exchange
  trig    : Bool             -- raised by the input LFT_TRIG
  host    : Bool
  learn   : Bool             -- the TID read of Sequence 4-1
  confirm : Option (Nat × Nat)
  deriving DecidableEq, Repr

/-- An ANS received in a response slot. -/
structure Answer where
  rslot  : Nat
  tid    : Nat
  field  : Nat
  status : Nat
  deriving DecidableEq, Repr

/-- A token that CHAL lists: the FIELD of its ANS; STATUS, FIELD and CTR of its CRY. `cry`: 0 not received, 1 verified, 2 failed,
3 refused before the cryptogram, 4 judged. -/
structure Member where
  slot   : Nat
  tid    : Nat
  afield : Nat
  status : Nat
  field  : Nat
  ctr    : Nat
  cry    : Nat
  why    : Nat               -- the reason of a refusal
  sess   : Option Nat        -- its session number
  deriving DecidableEq, Repr

/-- Where a request stands while it holds the air. -/
inductive HoldPhase
  | answers | cry | report | returns | lft
  deriving DecidableEq, Repr

/-- The request that holds the LF air (R141). -/
structure Hold where
  req      : LfReq
  id       : Nat
  phase    : HoldPhase
  round    : Nat
  pattern  : Nat
  lfOnly   : Bool
  wakeEnd  : Nat             -- MT at which the wake frame ends
  answers  : List Answer
  collided : List Nat
  returned : List Nat        -- LF return slots used
  members  : List Member
  c        : Bytes           -- the challenge
  chalEnd  : Nat             -- MT at which CHAL or LCHAL ends
  chalOut  : Nat             -- CHAL: 0 not yet on air, 1 sent, 2 lost with its lock (R166)
  scales   : List Rat        -- square of the factor k of each LMEAS burst (R134, R136)
  reports  : List Nat        -- LIST positions whose RPT has come
  lmeasEnd : Option Nat
  tries    : Nat
  badCrc   : Bool
  why      : Nat             -- how the request ends without an accepted token
  deriving DecidableEq, Repr

/-- Carrier use of a channel in the thermal budget: channel, MT of its begin and end, energy in (AMP × IMAX_MA)² µs, spread evenly
(log entry 153). -/
structure LfUse where
  ch      : Nat
  startMt : Nat
  endMt   : Nat
  energy  : Rat
  deriving DecidableEq, Repr

/-- A frame of a channel: channel, MT of its begin, whether an output short showed in it (R135). -/
structure LfFrame where
  ch      : Nat
  startMt : Nat
  short   : Bool
  deriving DecidableEq, Repr

/-- Working state of LF. -/
structure Lf where
  hold     : Option Hold
  queue    : List LfReq
  freeAt   : Nat                  -- MT from which the next first carrier may go out
  uses     : List LfUse
  edges    : List (Nat × Word)    -- passed edges within 60 s: input, PT
  masks    : List (Nat × Word)    -- masked inputs: input, PT at which the mask ends
  frames   : List LfFrame         -- the last frames of each channel, oldest first
  corr     : List (Int × Int)     -- corrections of amplitude and phase that each channel's last frame left (R132)
  drive    : List (Int × Int)     -- amplitude and phase with which each channel's last frame began
  calTemp  : Int
  calMt    : Nat
  recal    : Bool                 -- a recalibration waits for the air
  vantMt   : Nat                  -- MT of the last VANT restart try
  pollMt   : Nat                  -- MT of the last candle interval's end
  pollJit  : Nat                  -- the draw that gives the jitter of the interval under way
  deriving DecidableEq, Repr

/-! ## RF (chapter 6) -/

/-- What a command of the sequencer serves: a plain one, a window for the answers, the cryptograms or the reports of the request on the LF
air, its CHAL, or the sweep, the flicker rounds and the SREP of a session's exchange. -/
inductive RadioJob
  | plain
  | answers
  | chal (frame : Bytes)
  | crys
  | reports
  | sweep (session : Nat)
  | flick (session : Nat)
  | srep (session : Nat)
  deriving DecidableEq, Repr

/-- A radio command (R168). -/
structure RadioCmd where
  op    : RadioOp
  start : Nat
  ticks : Nat
  power : Nat
  job   : RadioJob
  deriving DecidableEq, Repr

/-- A radio calibration that runs or waits: its cause (RF_CAL_STAT), the calibration at work, 1 to 7, whether it runs now, and whether
it is the oscillator calibration of one synthesiser only. -/
structure RadioCal where
  cause   : Nat
  step    : Nat
  running : Bool
  oscOnly : Option Nat
  deriving DecidableEq, Repr

/-- Working state of RF. -/
structure Rf where
  queue    : List RadioCmd
  onAir    : Option RadioCmd
  cal      : Option RadioCal
  misses   : List Nat             -- consecutive lock failures of SYN0 and SYN1
  detect   : Option Nat           -- MT of the sniff detection that waits for a frame
  falses   : List Word            -- PT of the false detections within 60 s
  raisedPt : Word                 -- PT at which the sniff threshold was raised
  sniffPt  : Word                 -- PT of the last sniff tick
  refBack  : Bool                 -- the reference has come back to the crystal since RF went down (R174)
  runUs    : Nat              -- us in RUN since the last completed calibration (R175)
  lastPower : Nat                 -- power of the last transmission
  points   : List (List Int)      -- phase of each chain against chain 0 at the 9 points, in 0.01 degree (Table 6-5)
  paGain   : Rat                  -- PA gain of the factory table that the last frame was corrected for (R177)
  tones    : List (Nat × Nat)     -- tones of the last sweep in order: MHz, synthesiser (R163, R186)
  lent     : Bool                 -- SYN0 is lent to a sweep, or returns from it (R163)
  back     : Option Nat           -- MT at which the sub-GHz receiver's last gap ended in SYN0's return (R163, R165)
  test     : Bool                 -- a test waits for its lock
  takeover : Bool                 -- sessions restart once what is queued has run, after a takeover (R170)
  deriving DecidableEq, Repr

/-! ## RNG (chapter 7) -/

/-- Where a session stands: on the air, with a tile job, its capture waiting for storage. -/
inductive SessStage
  | air | job | capture
  deriving DecidableEq, Repr

/-- A session of an accepted token (R203, R205). -/
structure Sess where
  number   : Nat
  req      : Nat                      -- request id
  code     : Nat
  slot     : Nat
  tid      : Nat
  ksn      : Nat
  turn     : Nat
  prio     : Nat
  entry    : Bool                     -- holds a ranging queue entry
  ranges   : Bool                     -- its type has RANGING
  c        : Bytes
  field    : Nat                      -- FIELD of the CRY
  afield   : Nat                      -- FIELD of the ANS
  status   : Nat
  pattern  : Nat                      -- pattern of the round that listed it
  pos      : Nat                      -- LIST position
  s0       : Nat                      -- MT of its position S
  begun    : Bool
  rtS      : Nat
  csent    : Nat
  chains   : Nat
  oneSyn   : Bool
  delays   : List Nat
  points   : List (List Int)          -- chain phases at the 9 points, as calibrated at S
  srep     : Option Bytes             -- SREP with a good CRC
  macBad   : Bool
  rounds   : List (List ChainHit)
  raw      : Bytes
  readings : Option (List (Nat × Nat × Nat))
  scales   : List Rat
  drift    : Option (List Rat)        -- offsets as the job began, where they have changed since
  reason   : Nat                      -- deferral or abort reason, 0 none
  stage    : SessStage
  bytes    : Bytes                    -- the capture buffer once fused
  settings : List (Nat × Nat)         -- settings it began with (R49)
  deriving DecidableEq, Repr

/-- Working state of RNG. -/
structure Rng where
  sessions : List Sess
  last     : Nat                      -- number of the last session
  starts   : List Nat                 -- RT of the exchange starts within 100 ms
  onAir    : Option Nat               -- session whose exchange is on air
  drift    : List Rat                 -- LF drift offsets in FIELD steps
  samples  : Nat
  captures : List Nat                 -- MT of captures stored within 60 min
  defers   : List (Nat × Nat)         -- deferral reason, MT of its last journal entry
  deriving DecidableEq, Repr

/-! ## REL (chapter 8) -/

/-- A start release in progress (Sequence 8-1): step 2 test, 4 proof, 6 grant wait. -/
structure RelStart where
  step    : Nat
  code    : Nat
  slot    : Nat
  zone    : Nat
  profile : Nat
  path    : Nat
  onMt    : Nat                       -- MT at which LOCKREL_L turned on
  grantMt : Nat                       -- MT of the first send
  grantOn : Bool                      -- a grant wait runs
  sends   : Nat
  acks    : List Nat                  -- roles that accepted
  flags   : Nat                       -- FLAGS of the GRANT
  pull    : Bool                      -- PULL_MS still to end
  mt      : Nat                       -- MT of the decision
  seq     : Nat                       -- SEQ of its GRANT
  deriving DecidableEq, Repr

/-- What a role has reported: ENGINE_RUN, STANDSTILL, MT of the last verified STATUS. -/
structure RoleWork where
  run   : Bool
  still : Bool
  mt    : Option Nat
  deriving DecidableEq, Repr

/-- A partner message as it goes out: its port, its CAN identifier or its Ethertype on T1S, its MAC address on T1S, its bytes. -/
structure PartFrame where
  port  : Nat
  ident : Nat
  mac   : Nat
  bytes : Bytes
  deriving DecidableEq, Repr

/-- A pairing in progress (Sequence 8-2). -/
structure Pairing where
  role : Nat
  pid  : Nat
  pub  : Bytes
  pk   : Bytes
  mac  : Nat
  mt   : Nat
  deriving DecidableEq, Repr

/-- Working state of REL. -/
structure Rel where
  start    : Option RelStart
  held     : Bool
  roles    : List RoleWork
  lastGrant : Option Nat              -- MT of the last grant
  ranSince : Bool                     -- ENGINE_RUN reported since the last grant
  ranAfter : Bool                     -- ENGINE_RUN reported since GRANT_WIN_MS after it
  retried  : Bool                     -- the one retry after an over-current trip is used
  stillMt  : Option Nat               -- MT since which standstill is unbroken
  stopMt   : Option Nat               -- MT since which ENGINE_RUN is reported 0
  hostReq  : Bool                     -- the host has written RELOCK
  delayMt  : Nat                      -- MT from which the relock delay counts
  hotMt    : Option Nat               -- MT of the over-temperature switch-off
  tripMt   : Option Nat               -- MT of the over-current trip to retry
  diagMt   : Nat
  diagBad  : Bool                     -- an output fault persists
  pairing  : Option Pairing
  sent     : List PartFrame           -- partner messages of the last send
  decision : Bytes                    -- decision record to the host
  macs     : List Nat                 -- MAC address of each role's partner
  cmdNo    : Nat                      -- sequence number of the last command to the release island
  chanH    : Nat                      -- number last accepted by the channel of LOCKREL_H, and of LOCKREL_L
  chanL    : Nat
  deriving DecidableEq, Repr

/-! ## SYM (chapter 9) -/

/-- A saved context (R249). -/
structure Ctx where
  master : Nat
  keeper : Bool
  op     : Nat
  mode   : Nat
  key    : Nat
  nonce  : Bytes
  aad    : Bytes
  data   : Bytes        -- input taken so far
  out    : Nat          -- bytes put out so far
  serial : Option Nat   -- serial of a wrapped encrypt context
  deriving DecidableEq, Repr

/-- A request accepted by the island, with its class and arrival. -/
structure SymReq where
  desc    : Bytes
  input   : Bytes
  master  : Nat
  keeper  : Bool
  cls     : Nat
  arrival : Nat
  engine  : Nat         -- 0, 1 pipelines, 2 SHA-512, 3 P-521, 4 firmware, 5 DRBG, 0xFF island
  nonce   : Bytes       -- nonce issued to it
  slot    : Nat         -- context slot in use, or 0xFF
  mailbox : Bool
  left    : Nat         -- segments still to run, and 4 KiB pieces of the release buffer still to copy
  begun   : Bool        -- its first segment has begun: it has passed its checks
  key     : Bytes       -- key in its key schedule
  written : Nat         -- bytes put into DST
  resvOk  : Bool        -- whether a reservation write for its nonce would succeed
  deriving DecidableEq, Repr

/-- A nonce stream (R245): next counter value and reservation limit. -/
structure NonceStream where
  id   : Nat
  next : Nat
  hi   : Nat
  deriving DecidableEq, Repr

/-- A response of the island: requester, the 48 bytes, the output. -/
structure SymResp where
  master : Nat
  keeper : Bool
  resp   : Bytes
  out    : Bytes
  deriving DecidableEq, Repr

/-- Working state of the cipher island. -/
structure Sym where
  queue    : List SymReq
  arrival  : Nat
  ctx      : List (Option Ctx)       -- 32 slots
  streams  : List NonceStream
  serials  : List Nat                -- serials exported and not imported
  nextSerial : Nat
  ctxKey   : Bytes                   -- context key of this start
  store    : List KeyRec             -- P-521 private keys and ECDH secrets of the key store (R254)
  nextKey  : Nat
  failed   : List Bool               -- pipeline 0, 1, P-521, SHA-512
  faults   : List (List Nat)         -- MT of pipeline faults within 24 h
  batches  : Nat                     -- consecutive failed entropy batches
  rctLast  : Option Bool             -- last sample, and how often it has come in a row (Table 9-10)
  rctRun   : Nat
  seed     : Option Bytes            -- seed conditioned from samples and not used yet
  drbgKey  : Bytes                   -- state of the CTR_DRBG: Key and V (R257)
  drbgV    : Bytes
  drbgBad  : Bool                    -- the DRBG has failed its known-answer test (R259)
  passMt   : Nat                     -- MT of the last passing batch
  firstSeed : Bool                   -- the first seed has been discarded
  retryMt  : Nat
  seedMt   : Nat                     -- MT of the last reseed
  waited   : List (List Nat)         -- per pipeline and class: segments of higher classes run
  exports  : List (Bytes × Ctx)      -- contexts exported in this start, by their 256 bytes
  exported : Nat                     -- contexts exported in this start
  last     : Option SymResp          -- last response sent
  deriving DecidableEq, Repr

/-! ## NFC reader (chapter 12) -/

/-- A card found in a detection event: 1 Type A, 2 Type B, its identifier, its rate. -/
structure Card where
  type : Nat
  uid  : Bytes
  rate : Nat
  rounds : Nat         -- Type A cards or Type B rounds so far
  slots  : Nat         -- log2 of N in the round, Type B
  deriving DecidableEq, Repr

/-- A detection event (R338). -/
structure Detection where
  cards   : List Card           -- cards still to handle, the first selected
  arsps   : Nat
  id      : Nat                 -- request id
  c       : Bytes
  ending  : Nat                 -- 0x0D03 or 0x0D04 to report at its end, else 0
  learn   : Bool
  startMt : Nat                 -- MT at which the first card was selected
  deriving DecidableEq, Repr

/-- Working state of the reader. -/
structure Nfc where
  detection : Option Detection
  armed     : Bool
  held      : Option CardField  -- a detection that a key-set commit holds (R93)
  below     : Option Nat        -- MT since which the detuning stays below LPCD_DELTA
  baseline  : Nat               -- in 1/64 of 0.1 %
  sensePt   : Word
  deriving DecidableEq, Repr

/-! ## Islands, processors and the on-chip network (chapter 1) -/

/-- A ranging tile (R33 to R35). -/
structure Tile where
  failed : Bool
  job    : Option TileJob       -- the session job running
  slice  : Option BackKind      -- the background slice running
  world  : Option World         -- world of the last job
  wiped  : Nat                  -- SRAM wipes made for a change of world (R23)
  deriving DecidableEq, Repr

/-- A packet under way (R16, R18, R20): as it stands on the wire and as its source sent it, the islands it goes between, where it
waits, the ring of the first try, and whether this is the resend. -/
structure Waiting where
  packet : Packet
  orig   : Packet
  src    : Nat
  dst    : Nat
  ring   : Nat
  node   : Nat
  first  : Nat
  again  : Bool
  deriving DecidableEq, Repr

/-- A transaction open on the network: its implicit votes (R21, R386), and the master and world of its request. -/
structure OpenTx where
  tag    : Nat
  src    : Nat
  dst    : Nat
  master : Nat
  keeper : Bool
  deriving DecidableEq, Repr

/-- The network, the core pairs, the puppeteer, the tiles and shared memory. -/
structure Net where
  waiting    : List Waiting          -- packets under way, oldest first at each router
  runs       : List (List Nat)       -- per link (ring, node) and class: consecutive packets of a higher class that passed it (R18)
  ports      : List (Nat × Packet)   -- packets held at the port of an island in NAP or DOZE (R19)
  held15     : List Packet           -- DEST 15 traffic held while a pair is promoted (R26)
  sram       : List (Nat × BitVec 64) -- SRAM of islands 1 to 7 that differs from 0, by island and word (log entry 144)
  accepted   : List (Nat × Packet)   -- last packet accepted, per island
  lastError  : Nat                   -- reason of the last error response, 0 none
  segments   : List (Nat × Nat)      -- rings marked failed toward a destination: ring, destination
  openTx     : List OpenTx
  heldOut    : List Nat              -- puppeteer controllers held out or lost
  reloads    : Nat                   -- puppeteer controllers reset and reloaded
  commitNo   : Nat                   -- commit points the active pair has reached
  appliedNo  : Nat                   -- commit point the standby pair has applied
  cmdAt      : Nat                   -- release command number at the last commit point, and at the one applied (R28)
  cmdApplied : Nat
  records    : List Nat              -- handover records in the staging area, by commit point
  lastCommit : Nat                   -- MT of the last commit point
  faultMtA   : List Nat              -- MT of the faults of pair A
  faultMtB   : List Nat
  testing    : Option Bool           -- pair under test: false A, true B
  loading    : Option Bool           -- pair loading its resident parts
  spareOk     : Bool                 -- the other pair has passed its start self-test and is not retired
  promoteWait : Bool                 -- a pair is promoted as soon as it is ready (R77, R426)
  restartAt  : Option Nat            -- MT at which the puppeteer restarts a halted start
  tiles      : List Tile
  jobs       : List TileJob          -- ranging jobs waiting for a tile
  arrival    : Nat                   -- arrival counter of ranging jobs
  background : List BackKind         -- background work waiting
  bankErrs   : List (List Nat)       -- MT of the double-bit errors of each shared-memory bank
  banksOut   : List Bool             -- banks mapped out
  rebuilt    : Nat                   -- rebuilds of what a lost bank held
  buffers    : Nat                   -- storage buffers in KiB
  freePool   : Nat                   -- free pool in KiB
  captureBufs : Nat                  -- capture buffers in use of shared memory
  deriving DecidableEq, Repr

/-! ## Start and configuration (chapters 2 and 3) -/

/-- Why the device is in RECOVERY (Table 3-3). -/
inductive RecCause
  | alarm | t3start | fuseEcc | slots | keyring | noConfig | t3run | svcOpen
  deriving DecidableEq, Repr

/-- The firmware that is running. -/
inductive FwRun
  | none | slot | recovery
  deriving DecidableEq, Repr

/-- A section of the selected image (R43). -/
structure Section where
  type  : Nat
  flags : Nat
  data  : Bytes
  deriving DecidableEq, Repr

/-- A configuration write in progress (R58). -/
structure CfgWrite where
  len    : Nat
  target : Nat
  bytes  : Bytes     -- bytes received so far
  deriving DecidableEq, Repr

/-- An event latched during the start with its PT and MT (R78). -/
structure Latched where
  kind : LatchKind
  pt   : Nat
  mt   : Nat
  deriving DecidableEq, Repr

/-- The start, the selected image and the enable machinery. -/
structure Sys where
  fw          : FwRun
  cause       : Option RecCause
  recPt       : Nat              -- PT at entry to RECOVERY
  pausedIn    : Option Nat       -- the phase after which the start waits for VBAT (R67)
  nineDone    : Bool             -- phase 9 has enabled or refused every subsystem
  halted      : Bool
  image       : Bytes            -- the verified image held in memory
  sections    : List Section
  hasImage    : Bool
  unchecked   : List Nat         -- NOR copies not yet checked at this start
  checks      : List Subsys      -- consistency checks pending, the first running
  held        : List (Subsys × Bool)  -- enable writes held until phase 9 ends (R61)
  meant       : Nat              -- subsystems meant to be enabled (R76), bit per identifier
  cfgWrite    : Option CfgWrite
  latched     : List Latched
  measurement : Bytes            -- firmware measurement (R70)
  manifest    : Bytes            -- the manifest held from this start, for page-ins (R70)
  sv          : Nat              -- security version of the running firmware
  readySeen   : Bool             -- READY has asserted in this start
  rebuildSat  : List Nat         -- satellites whose microcode is loaded
  settingsUse : Option (List (Nat × Nat)) -- values in force when the image has no section: none
  deriving DecidableEq, Repr

/-! ## Power (chapter 14) -/

/-- A STANDBY entry in progress (R388). -/
structure StbyEntry where
  startMt : Nat
  pos     : Nat        -- islands addressed after the first group; one more once the active pair has withdrawn
  deriving DecidableEq, Repr

/-- Working state of the power machinery; votes, states and levels stand in the PWR registers. -/
structure Power where
  doze      : List (Nat × Nat)   -- votes that ask for DOZE: client, island
  restoring : List (Nat × Nat)   -- islands restoring, with the MT of the vote
  dropping  : List (Nat × Nat)   -- islands dropping, with the MT at which the last vote was withdrawn (R385)
  restarts  : List Nat           -- islands restarted once (R387)
  transfers : List (Nat × Nat)   -- DMA transfers open: source, destination
  entry     : Option StbyEntry
  standby   : Bool               -- the device is in STANDBY
  standbyMt : Nat                -- MT at which the last STANDBY began
  idleSince : Nat                -- MT since which no work has run
  askAgain  : Nat                -- MT at which the active pair may ask again
  vcore     : Nat                -- highest level demanded
  govHot    : Option Nat         -- MT since which the governor's entry condition holds
  govCool   : Option Nat
  govNext   : Nat                -- MT of the next governor step
  xtalRun   : Bool               -- the crystal runs
  retryMt   : Nat                -- MT of the last crystal retry
  brownMt   : Nat                -- MT at which BROWNOUT began
  deriving DecidableEq, Repr

/-! ## Storage (chapter 11) -/

/-- A forensic capture (R316). -/
structure Capture where
  number  : Nat
  session : Nat
  seq     : Nat        -- SEQ of its journal entry
  mt      : Nat        -- MT of acceptance
  bytes   : Bytes      -- bytes 0x0000 to 0x94FF
  added   : Nat        -- added round-trip delay in RT ticks (R202)
  trailer : Option Bytes
  pinned  : Bool
  die     : Nat
  deriving DecidableEq, Repr

/-- A record of a host stream: its number, its data and the die that holds it (Table 11-4). -/
structure HostRec where
  number : Nat
  data   : Bytes
  die    : Nat
  deriving DecidableEq, Repr

/-- A host stream of region 6 (R318): the records kept. -/
structure Stream where
  next    : Nat                 -- number of the next record
  records : List HostRec        -- oldest first
  deriving DecidableEq, Repr

/-- A checkpoint (Table 11-8). -/
structure Checkpoint where
  index : Nat
  bytes : Bytes
  deriving DecidableEq, Repr

/-- A NAND die: its bad blocks and the MT of retirements within 24 h (R325), its erased blocks and wear (R305, R323), the open stripes of
regions 4 to 6 (R302), and how often in a row its queue served classes above each class (R305). -/
structure Die where
  failed  : Bool
  spare   : Nat
  retired : Nat
  times   : List Nat
  erased  : Nat           -- erased blocks
  used    : Nat           -- pages programmed beyond whole blocks
  erases  : Nat           -- block erases in life
  stripes : List Nat      -- data pages of the open stripe of regions 4, 5, 6
  torn    : Nat           -- pages that a cut left torn, outside the map
  runs    : List Nat      -- per class 0 to 5: consecutive requests of higher classes served while it waited
  deriving DecidableEq, Repr

/-- The managed NAND regions of Table 11-3. -/
structure Nand where
  dies       : List Die
  journal    : List JEntry       -- region 4, oldest first
  gapEntries : List Nat          -- positions of gap entries: the first SEQ they name
  oldest     : Nat               -- oldest SEQ kept
  ckpts      : List Checkpoint
  captures   : List Capture      -- region 5
  streams    : List Stream       -- region 6
  settings   : List (List (Nat × Nat))  -- region 3, settings copies
  images     : List Bytes        -- region 3, the last selected images
  mapFolded  : Nat               -- map changes folded into the metadata region
  written    : Nat               -- logical bytes written in life
  metaEpoch  : Nat               -- epoch under which regions 0 to 2 are sealed
  bulkEpoch  : Nat               -- epoch under which regions 3 to 6 are sealed
  sealS      : Nat               -- version at which regions 3 to 6 are sealed
  deriving DecidableEq, Repr

/-- A journal event latched before it could be written (R312). -/
structure JLatched where
  type   : Nat
  reason : Nat
  src    : Nat
  flags  : Nat
  mt     : Nat
  body   : Bytes
  deriving DecidableEq, Repr

/-- The vault areas of Table 11-1 that are not kept with their subsystem below. -/
structure Vault where
  bank0Failed : Bool
  bank1Failed : Bool
  bankErrs    : List (List Nat)   -- MT of uncorrectable words, per bank
  ctrlFailed  : Bool
  deviceTag   : Nat
  certStored  : Bool              -- DIK public key and certificate stored
  statements  : List Bytes        -- start-up statements
  stmtEpoch   : Option Nat        -- epoch of those statements
  transition  : Option Nat        -- lifecycle transition record: fuse index
  floor       : Nat               -- rollback floor
  savedMt     : TwoCopy
  standMt     : Nat               -- MT at which the standing time began
  ksn         : Nat
  grantSeq    : Nat               -- partner SEQ
  pctr        : List Nat          -- partner PCTR per role
  bootEpoch   : Nat
  carry       : Option Nat        -- epoch whose K_META the carry record holds
  nextSeq     : Nat               -- next journal SEQ
  chain       : Bytes             -- H of the last entry
  chainPrev   : Bytes             -- H that the older copy of the head record holds
  mapDeltas   : Nat               -- entries of the map delta log, not yet folded (R297)
  headSeqs    : TwoCopy           -- head record copies
  keyring     : Option Generation -- in force; none where both regions are erased
  alternate   : Option Generation -- generation written to the alternate region
  mutableOk   : Bool              -- the mutable area holds entries
  nonceHi     : List (Nat × Nat)  -- nonce reservations: stream, HI
  bank        : Option SettingsBank
  fallback    : Option SettingsBank
  staging     : Staging
  drift       : List Rat          -- LF drift offsets as saved, in FIELD steps
  driftMap    : Bytes             -- digest of the LANTERN_MAP they were learned on
  slots       : List Slot         -- the 64 slots
  paths       : List PathRec      -- lockout of PASSIVE, RKE, LFT, NFC
  lkg         : Option Bytes      -- last-known-good image
  ack         : Nat               -- highest SEQ fetched by the host
  captureNo   : Nat               -- captures accepted in life
  clean       : Bool              -- clean marker of the last power-fail sequence
  holdup      : Nat               -- STO_HOLDUP as recorded
  lostCaps    : List Nat          -- captures lost at the last power failure
  fieldMt     : Option Nat        -- MT at entry to FIELD
  tamperSince : Bool              -- tamper alarm since the last form A
  tamperDue   : List JLatched     -- T3 alarms to journal after the genesis entry (R289, R328)
  deriving DecidableEq, Repr

/-- A storage window load (R319). -/
structure Window where
  loading : Bool
  reason  : Nat
  bytes   : Bytes
  deriving DecidableEq, Repr

/-- A capture waiting for a storage buffer (R317). -/
structure CapWait where
  session : Nat
  added   : Nat        -- added round-trip delay in RT ticks (R202)
  bytes   : Bytes
  deriving DecidableEq, Repr

/-- A request that waits in the NAND queue of its die beside drains, checkpoints and capture programs, which wait where their data stands
(R305): a host append, a window load, a slice of scrub and refresh, the collection of a block. -/
inductive StoReq
  | append (stream : Nat) (data : Bytes) (ok : Bool)
  | load
  | slice (pages : List PageFact) (aged : Nat) (passEnds : Bool)
  | collect (die : Nat)
  | reseal
  deriving DecidableEq, Repr

/-- Working state of the storage controller. -/
structure Storage where
  queue     : List StoReq      -- requests that wait, in arrival order (R305)
  hostUntil : Nat              -- MT until which the last host append occupies the rate of R318
  resealAt : Nat               -- MT from which the next block may be resealed (R424)
  latched   : List JLatched
  waiting   : List CapWait     -- captures without a place
  pendingCaps : List Capture   -- captures accepted and not yet programmed
  ckptDue   : List (Nat × Bytes) -- checkpoints due: INDEX and H after SEQ_LAST
  heldUntil : Nat              -- MT before which the write budget holds the next append
  window    : Window
  scrubPos  : Option Nat       -- position of the scrub pass running
  scrubMt   : Nat              -- MT of the end of the last pass
  resvRetry : Option Nat       -- MT of the next MT reservation retry
  mtRes     : Nat              -- MT_RES
  reseal    : Option Nat       -- blocks resealed of Sequence 11-2
  deriving DecidableEq, Repr

/-! ## Keys and tamper (chapter 10) -/

/-- What holds a generation in preparation (R276). -/
inductive Prep
  | none | learning | pairing | keyCommand
  deriving DecidableEq, Repr

/-- What arrives during a fuse blow and is handled after it (R266): a T1 or T2 alarm, a host or service reset, an unlock request. -/
inductive Deferred
  | alarm (cls code : Nat)
  | reset (source : Nat)
  | unlock (auth : Bytes)
  deriving DecidableEq, Repr

/-- Working state of KEY and TAM. -/
structure Keys where
  derived    : Bool                -- derived keys stand in the cipher key store
  prep       : Prep
  challenge  : Option (Bytes × Nat)  -- CHAL and the MT it was drawn at
  secrets    : List (Nat × Nat)    -- ECDH secrets in the key store: handle, MT
  lockEnd    : Option Nat          -- MT at which the T2 lock ends
  blow       : Option Blow
  blowReset  : Bool                -- the blow ends a resetting transition
  blowOp     : Option (Nat × Nat)  -- opcode and transport to answer at its end
  alarmWait  : Option (Nat × RecCause)  -- reason and cause of a T3 alarm that waits for a blow (R266)
  deferred   : List Deferred       -- what else waits for a blow, in arrival order
  sv         : Nat                 -- lineage version up to which lineage keys stand in the key store (R420)
  deriving DecidableEq, Repr

/-- What the pilot island keeps through every reset but a power-on. -/
structure Pilot where
  pt          : Word
  ptFrac      : Nat               -- millionths of a PT tick
  mtFrac      : Nat               -- in STANDBY: 1/32768 of a us beyond MT (R363)
  selfRestarts : Nat              -- consecutive self-restarts
  t1Times     : List Word         -- PT of T1 alarms within 60 s
  t3Active    : Bool              -- a T3 response lasts (R290)
  svcOpen     : Bool
  vbatUp      : Bool              -- VBAT is above the power-fail threshold
  deriving DecidableEq, Repr

/-! ## Host and vehicle networks (chapter 16) -/

/-- A message being reassembled (R441). -/
structure Partial where
  bytes : Bytes
  seq   : Nat          -- sequence of the next segment
  src   : Nat          -- MAC address of the FIRST segment, 0 elsewhere
  deriving DecidableEq, Repr

/-- A queued mailbox command. -/
structure MbCmd where
  transport : Transport
  message   : Bytes
  src       : Nat
  deriving DecidableEq, Repr

/-- A response not yet delivered. -/
structure MbResp where
  transport : Transport
  bytes     : Bytes
  readyMt   : Nat
  src       : Nat
  deriving DecidableEq, Repr

/-- A received frame record (Table 16-9). -/
structure RxRec where
  bytes : Bytes
  deriving DecidableEq, Repr

/-- An unpaired partner heard in discovery (R455). -/
structure Disc where
  pid  : Nat
  kind : Nat
  port : Nat
  key  : Bytes
  mac  : Nat
  mt   : Nat
  deriving DecidableEq, Repr

/-- A discovery message on CAN of which not all 3 parts have come (R454): port, PID bytes 0 to 3, parts, MT of the first. -/
structure DiscPart where
  port  : Nat
  pid   : Bytes
  parts : List (Nat × Bytes)
  mt    : Nat
  deriving DecidableEq, Repr

/-- A frame queued for transmission (R451). -/
structure TxFrame where
  port  : Nat
  flags : Nat
  ident : Nat
  mac   : Nat
  data  : Bytes
  tag   : Option Nat
  deriving DecidableEq, Repr

/-- A response that must be delivered before a reset proceeds (R447). -/
structure ResetWait where
  source    : Nat
  transport : Transport
  acks      : Nat             -- over SPI: OUT segments marked LAST still to release, the last one that of the response
  placedMt  : Option Nat      -- over SPI: MT at which its last segment was placed
  deriving DecidableEq, Repr

/-- The link island: SPI, mailbox, buses. -/
structure Hif where
  inBuf     : Bytes                 -- the IN region as written
  inFreeAt  : Nat                   -- MT at which the copy out of the IN region ends
  outBuf    : Bytes                 -- the segment in the OUT region
  spiOut    : List Word             -- response words of the last frame
  stored    : List (Nat × List Word)  -- last response per TAG
  lastFrame : Option (Word × Word)  -- header and CRC of the frame before, if executed
  partials  : List (Transport × Partial)
  queue     : List MbCmd
  executing : Option MbCmd
  spiResp   : List Bytes            -- response segments waiting, the first in the OUT region
  spiFirst  : Bool                  -- the segment in the OUT region opens its response
  busResp   : List MbResp           -- responses held for a bus that is down
  busSent   : Option (Transport × List Bytes)  -- payloads of the last response sent on a bus
  resetWait : Option ResetWait
  rxq       : List RxRec
  txq       : List TxFrame
  disc      : List Disc
  discPaired : List Disc            -- paired partners heard in discovery
  discPart  : List DiscPart         -- CAN messages whose parts have not all come
  discSent  : List (Nat × Bytes)    -- frames of the last announcement: port, payload
  announce  : Nat                   -- ANNOUNCE counter
  announceMt : Nat
  query     : Bool                  -- a received QUERY waits for its announcement
  linkUp    : Bool                  -- a bus has come up and waits for its announcement (R455)
  recovering : List Nat             -- CAN controllers in bus-off recovery
  deriving DecidableEq, Repr

/-! ## Time bases (chapter 13) -/

/-- A transmit stamp entry (Table 13-6). -/
structure TxStamp where
  tag   : Nat
  flags : Nat
  ntS   : Nat
  ntNs  : Nat
  deriving DecidableEq, Repr

/-- A pulse unit beside its registers (R374, R375): the full-width instant of its next edge. -/
structure Pulse where
  t0    : Nat          -- full-width instant of START, in base units
  next  : Nat          -- full-width instant of the next rising edge
  high  : Option Nat   -- the output is active; full-width instant of the falling edge
  level : Bool         -- level of the output ball
  auto  : Bool
  deriving DecidableEq, Repr

/-- The time machinery. MT is `State.mt`, PT is `Pilot.pt`. -/
structure Tim where
  rt        : BitVec 48
  nt        : Nat          -- NT in ns: seconds times 10^9 plus ns
  ntFrac    : Nat          -- fraction of a ns in 2^-32
  inc       : Nat          -- increment in force in 2^-32 ns
  holdSince : Nat          -- MT since which NT is in HOLD
  holdSpent : Nat          -- HOLD time spent before a NAP, in us
  lastSync  : Nat          -- MT of the last Sync, or of the last host keepalive
  good      : Nat          -- consecutive Sync offsets within the threshold
  delay     : Nat          -- mean link delay in ns
  asCapable : Bool
  master    : Option Nat   -- identity of the master taken
  masterVec : Nat          -- its Announce priority vector
  rate      : Int          -- integral term of the servo, in 2^-32 ns
  pdelaySeq : Nat
  pdelayMt  : Nat          -- MT of the last Pdelay_Req sent
  sent      : List (Nat × Nat × Nat)   -- gPTP messages of the last answer or request sent: messageType, sequence, port
  napMt     : Option Nat   -- MT at which the link island went to NAP
  calMt     : Option Nat   -- MT of the last oscillator calibration since the reset
  ptRc      : Bool         -- PT is derived from the RC
  pulses    : List Pulse
  queues    : List (List TxStamp)   -- T1S, CAN0, CAN1
  tags      : List Nat     -- last frame tag issued per port
  deriving DecidableEq, Repr

/-! ## The tag sub-domain (chapter 12); its memory and control blocks survive every reset -/

/-- Application states of the tag (Table 12-5). -/
inductive TagApp
  | opened | securedP | keyWait | securedK
  deriving DecidableEq, Repr

/-- The tag. Tag memory blocks 0 to 495 stand in `mem`; the control blocks are the fields. -/
structure Tag where
  mem       : List Host.Cell
  password  : Option Bytes
  key       : Option Bytes
  pwdFail   : Nat
  keyFail   : Nat
  tagMode   : Bool          -- TYPES copy: tag mode
  types     : Nat           -- TYPES copy as a byte
  wrLevel   : Nat           -- TAG_WR_LEVEL copy
  idOpen    : Bool
  hostOpen  : Bool
  works     : Bool          -- the tag sub-domain works
  field     : Bool          -- external field present
  fieldEnd  : Nat           -- MT of the last field loss
  selected  : Bool
  uid       : Bytes
  app       : TagApp
  rc        : Bytes
  tc        : Bytes
  ownEnd    : Nat           -- MT until which the field side owns the memory (R352)
  level     : Nat           -- FL of the last frame
  resEnd    : Option Nat    -- MT at which a host reservation ends
  resOver   : Bool          -- a reservation has run out and was not released
  statusSeq : TwoCopy       -- sequence numbers of the status copies
  pendTail  : List (Nat × Bytes)  -- entries whose mirroring waits for a retry
  pendStat  : Bool
  retryMt   : Nat           -- MT at which an update last found the field side owning the memory (R352)
  alarm     : Bool          -- tamper alarm since the previous status copy
  noise     : Nat           -- draws of the noise source
  lastAnswer : Bytes        -- last response to the field side
  deriving DecidableEq, Repr

/-- The QSPI NOR (R50). -/
structure Nor where
  cells  : List Host.Cell
  size   : Nat
  sfdp   : Bool
  fitted : Bool
  deriving DecidableEq, Repr

/-! ## Field update (chapter 15) -/

/-- Roles of a firmware slot (R409); `running` is the confirmed running slot. -/
inductive SlotRole
  | empty | loading | verified | trial | fallback | previous | running
  deriving DecidableEq, Repr

/-- A firmware slot of regions 1 and 2 and its slot record (R409). -/
structure FwSlot where
  role  : SlotRole
  sv    : Nat
  meas  : Bytes        -- firmware measurement
  image : Bytes
  deriving DecidableEq, Repr

/-- The states of Table 15-2. -/
inductive UpdState
  | idle | download | verify | ready | activate | trial
  deriving DecidableEq, Repr

/-- What the slot records and the vault update state hold; it survives every reset. -/
structure Update where
  state   : UpdState
  next    : Nat           -- NEXT
  target  : Nat           -- target slot
  slots   : List FwSlot   -- slot A, slot B
  running : Nat           -- running slot
  trials  : Nat           -- TRIALS
  floor   : Nat           -- FW_FLOOR
  pending : Bool          -- RESEAL_PENDING
  fresh   : Bool          -- FRESH
  reason  : Nat           -- reason kept of a failed verification
  cold    : Bool          -- the running image has been started cold
  confirmNext : Bool      -- verified in RECOVERY: the target slot runs confirmed from the next start (R425)
  resealing : Bool        -- the forward reseal of regions 3 to 6 runs (R424)
  blocks  : Nat           -- blocks resealed
  deriving DecidableEq, Repr

/-- The working state of an activation and of satellite reloads (R416, R418). -/
structure UpdRun where
  step    : Nat           -- step of Sequence 15-1, 0 outside it
  stepMt  : Nat           -- MT at which step 4 began
  waited  : Bool          -- 0x0E0E raised
  reverting : Bool        -- the activation runs toward the FALLBACK image
  reloads : List Nat      -- satellites still to reload, in order
  loading : Option Nat    -- satellite being reloaded
  tried   : Bool          -- the reload in progress is the retry
  endMt   : Nat           -- MT of the end of the last reload
  done    : List Nat      -- satellites reloaded with the new microcode
  standbySlot : Nat       -- slot whose image the standby pair holds
  verified : Nat          -- chunks verified
  why     : Nat           -- the reason of the revert under way
  newBank : Option SettingsBank  -- the bank built in step 3
  newFresh : Bool         -- that bank is seeded from the defaults
  deriving DecidableEq, Repr

/-- TOK after a reset. -/
def Tok.reset : Tok :=
  { learn := none, resync := [], accepted := [], confirms := [], commitWait := none, commitOk := false, nextReq := 0, requests := []
    sent := [], sentMhz := 0
    lost := false }

/-- LF after a reset. -/
def Lf.reset : Lf :=
  { hold := none, queue := [], freeAt := 0, uses := [], edges := [], masks := [], frames := [], corr := List.replicate 8 (0, 0)
    drive := List.replicate 8 (0, 0), calTemp := 0, calMt := 0
    recal := false, vantMt := 0, pollMt := 0, pollJit := 0 }

/-- RF after a reset. -/
def Rf.reset : Rf :=
  { queue := [], onAir := none, cal := none, misses := [0, 0], detect := none, falses := [], raisedPt := 0, sniffPt := 0, refBack := false
    runUs := 0, lastPower := 0, points := List.replicate 4 [], paGain := 0, tones := [], lent := false, back := none, test := false, takeover := false }

/-- RNG after a reset. -/
def Rng.reset : Rng :=
  { sessions := [], last := 0, starts := [], onAir := none, drift := List.replicate 32 0, samples := 0, captures := []
    defers := [] }

/-- REL after a reset: both outputs off (R226). -/
def Rel.reset : Rel :=
  { start := none, held := false, roles := List.replicate 8 ⟨false, false, none⟩, lastGrant := none, ranSince := false, ranAfter := false, retried := false
    stillMt := none, stopMt := none, hostReq := false, delayMt := 0, hotMt := none, tripMt := none, diagMt := 0
    diagBad := false, pairing := none, sent := [], decision := [], macs := List.replicate 8 0
    cmdNo := 0, chanH := 0, chanL := 0 }

/-- The cipher island after a reset: slots and serials empty (Table 9-11). -/
def Sym.reset : Sym :=
  { queue := [], arrival := 0, ctx := List.replicate 32 none, streams := [], serials := [], nextSerial := 0, ctxKey := []
    store := [], nextKey := 0, failed := [false, false, false, false], faults := [[], []], batches := 0, rctLast := none, rctRun := 0, seed := none
    drbgKey := List.replicate 32 0, drbgV := List.replicate 16 0, drbgBad := false
    passMt := 0, firstSeed := false, retryMt := 0, seedMt := 0, waited := List.replicate 2 [0, 0, 0, 0]
    exports := [], exported := 0, last := none }

/-- The reader after a reset. -/
def Nfc.reset : Nfc := { detection := none, armed := true, held := none, below := none, baseline := 0, sensePt := 0 }

/-! ## The state -/

/-- The state of the block. `pending` is the queue of waiting commands, first in, first out. `mt` is MT in us. `regs` holds every
register that differs from its reset value, by offset, in canonical form. `draws` is the model's own counter of
free values drawn (log entry 6). -/
structure State where
  pending : List Instr
  mt      : Nat
  draws   : Nat
  regs    : List (Nat × Word)
  fuses   : Fuses
  vault   : Vault
  nand    : Nand
  update  : Update
  nor     : Nor
  tag     : Tag
  pilot   : Pilot
  sys     : Sys
  net     : Net
  pwr     : Power
  tim     : Tim
  sto     : Storage
  keys    : Keys
  upd     : UpdRun
  hif     : Hif
  tok     : Tok
  lf      : Lf
  rf      : Rf
  rng     : Rng
  rel     : Rel
  sym     : Sym
  nfc     : Nfc
  deriving DecidableEq, Repr

/-- The outcome of a command. -/
abbrev Out := Host.Outcome State Fault Refusal

/-! ## Reset -/

/-- A fuse not blown, and a fuse blown in both elements. -/
def Fuse.intact : Fuse := ⟨false, false⟩

/-- A fuse blown in both elements (R266). -/
def Fuse.done : Fuse := ⟨true, true⟩

/-- The fuse bank of a shipped part: ROOT and PROVISIONED (R13). -/
def Fuses.reset : Fuses :=
  { rootPresent := true, eng := false, lc := [.done, .intact, .intact, .intact]
    epoch := List.replicate 15 .intact, custHash := [], retireA := false, retireB := false }

/-- A record never written. -/
def TwoCopy.reset : TwoCopy := ⟨0, 0, 0, 0⟩

/-- The vault of a shipped part: the identity certificate, and nothing else (R13). -/
def Vault.reset : Vault :=
  { bank0Failed := false, bank1Failed := false, bankErrs := [[], []], ctrlFailed := false
    deviceTag := 0, certStored := true, statements := [], stmtEpoch := none, transition := none, floor := 0
    savedMt := .reset, standMt := 0, ksn := 0, grantSeq := 0, pctr := List.replicate 8 0, bootEpoch := 0, carry := none
    nextSeq := 0, chain := List.replicate 64 0, chainPrev := List.replicate 64 0, mapDeltas := 0, headSeqs := .reset, keyring := none, alternate := none
    mutableOk := true, nonceHi := [], bank := none, fallback := none, staging := ⟨[], none, []⟩
    drift := List.replicate 32 0, driftMap := []
    slots := List.replicate 64 .empty, paths := List.replicate 4 .clear
    lkg := none, ack := 0, captureNo := 0, clean := true, holdup := 0, lostCaps := [], fieldMt := none
    tamperSince := false, tamperDue := [] }

/-- A NAND die of a shipped part: its spare blocks are erased (log entry 167). -/
def Die.reset : Die :=
  { failed := false, spare := 7168, retired := 0, times := [], erased := 7168, used := 0, erases := 0, stripes := [0, 0, 0], torn := 0
    runs := [0, 0, 0, 0, 0, 0] }

/-- The NAND of a shipped part. -/
def Nand.reset : Nand :=
  { dies := [.reset, .reset], journal := [], gapEntries := [], oldest := 0, ckpts := []
    captures := [], streams := List.replicate 16 ⟨0, []⟩, settings := [], images := [], mapFolded := 0
    written := 0, metaEpoch := 0, bulkEpoch := 0, sealS := 0 }

/-- Firmware slots of a shipped part: the factory firmware in slot A (R13). -/
def Update.reset : Update :=
  { state := .idle, next := 0, target := 1
    slots := [⟨.running, Config.factorySv, [], Config.factoryFirmware⟩, ⟨.empty, 0, [], []⟩]
    running := 0, trials := 0, floor := 0, pending := false, fresh := false, reason := 0, cold := true, confirmNext := false
    resealing := false, blocks := 0 }

/-- An erased NOR of 32 MiB (log entry 3). -/
def Nor.reset : Nor := ⟨[], 0x2000000, true, true⟩

/-- The tag of a shipped part: memory erased to 0, no password, no key, tag mode as stored not set (log entry 3). -/
def Tag.reset : Tag :=
  { mem := [], password := none, key := none, pwdFail := 0, keyFail := 0, tagMode := false, types := 0, wrLevel := 0
    idOpen := false, hostOpen := false, works := true, field := false, fieldEnd := 0, selected := false, uid := []
    app := .opened, rc := [], tc := [], ownEnd := 0, level := 0, resEnd := none, resOver := false, statusSeq := .reset
    pendTail := [], pendStat := false, retryMt := 0, alarm := false, noise := 0, lastAnswer := [] }

/-- The pilot at power-on. -/
def Pilot.reset : Pilot :=
  { pt := 0, ptFrac := 0, mtFrac := 0, selfRestarts := 0, t1Times := [], t3Active := false, svcOpen := false,
    vbatUp := false }

/-- A free tile. -/
def Tile.reset : Tile := ⟨false, none, none, none, 0⟩

/-- The network and the pairs after a reset. -/
def Net.reset : Net :=
  { waiting := [], runs := List.replicate 30 [0, 0, 0, 0], ports := [], held15 := [], sram := [], accepted := [], lastError := 0, segments := [], openTx := [], heldOut := [], reloads := 0, commitNo := 0
    appliedNo := 0, cmdAt := 0, cmdApplied := 0, records := [], lastCommit := 0, faultMtA := [], faultMtB := [], testing := none, loading := none
    spareOk := false, promoteWait := false, restartAt := none, tiles := List.replicate 4 .reset, jobs := [], arrival := 0, background := []
    bankErrs := List.replicate 4 [], banksOut := List.replicate 4 false, rebuilt := 0, buffers := 768, freePool := 448
    captureBufs := 16 }

/-- The start machinery after a reset; the 10 subsystems of the immobiliser path and UPD are always meant to be enabled (R76). -/
def Sys.reset : Sys :=
  { fw := .none, cause := none, recPt := 0, pausedIn := none, nineDone := false, halted := false, image := [], sections := []
    hasImage := false, unchecked := [], checks := [], held := [], meant := 57134, cfgWrite := none, latched := []
    measurement := [], manifest := [], sv := 0, readySeen := false, rebuildSat := [], settingsUse := none }

/-- The power machinery after a reset. -/
def Power.reset : Power :=
  { doze := [], restoring := [], dropping := [], restarts := [], transfers := [], entry := none
    standby := false, standbyMt := 0, idleSince := 0, askAgain := 0, vcore := 0, govHot := none, govCool := none
    govNext := 0, xtalRun := false, retryMt := 0, brownMt := 0 }

/-- The time machinery after a reset: NT UNSET at 0 with an increment of 25 ns (Table 13-3). -/
def Tim.reset : Tim :=
  { rt := 0, nt := 0, ntFrac := 0, inc := 25 * 2 ^ 32, holdSince := 0, holdSpent := 0, lastSync := 0, good := 0
    delay := 0, asCapable := false, master := none, masterVec := 0, rate := 0, pdelaySeq := 0, pdelayMt := 0, sent := []
    napMt := none, calMt := none, ptRc := false, pulses := List.replicate 4 ⟨0, 0, none, false, false⟩
    queues := [[], [], []], tags := [0, 0, 0] }

/-- The storage controller after a reset. -/
def Storage.reset : Storage :=
  { queue := [], hostUntil := 0, resealAt := 0, latched := [], waiting := [], pendingCaps := [], ckptDue := [], heldUntil := 0, window := ⟨false, 0, []⟩, scrubPos := none
    scrubMt := 0, resvRetry := none, mtRes := 0, reseal := none }

/-- KEY and TAM after a reset. -/
def Keys.reset : Keys :=
  { derived := false, prep := .none, challenge := none, secrets := [], lockEnd := none, blow := none
    blowReset := false, blowOp := none, alarmWait := none, deferred := [], sv := 0 }

/-- The activation machinery after a reset. -/
def UpdRun.reset : UpdRun :=
  { step := 0, stepMt := 0, waited := false, reverting := false, reloads := [], loading := none, tried := false
    endMt := 0, done := [], standbySlot := 0, verified := 0, why := 0, newBank := none, newFresh := false }

/-- The link island after a reset. -/
def Hif.reset : Hif :=
  { inBuf := [], inFreeAt := 0, outBuf := [], spiOut := [], stored := [], lastFrame := none, partials := [], queue := []
    executing := none, spiResp := [], spiFirst := true, busResp := [], busSent := none, resetWait := none, rxq := [], txq := []
    disc := [], discPaired := [], discPart := [], discSent := [], announce := 0, announceMt := 0, query := false, linkUp := false, recovering := [] }

/-- The block right after reset: a shipped part (R13) before its first phase, every register at its reset value (R7). -/
def State.reset : State :=
  { pending := [], mt := 0, draws := 0, regs := [], fuses := .reset, vault := .reset, nand := .reset
    update := .reset, nor := .reset, tag := .reset, pilot := .reset, sys := .reset, net := .reset
    pwr := .reset, tim := .reset, sto := .reset, keys := .reset, upd := .reset, hif := .reset
    tok := .reset, lf := .reset, rf := .reset, rng := .reset, rel := .reset, sym := .reset, nfc := .reset
    }

end Sys2Proof.Machine
end

