-- ==== Sys2Proof/Machine/Ops.lean ====
section
/-! DEFINITION. The shared operations of the block: sparse memories in canonical form, register fields, events and reasons, the
subsystem maps with READY and DEGRADED, lifecycle, settings and sections, tag-memory updates, the journal commit, and the
restart that every reset source shares. -/
namespace Sys2Proof.Machine

open Sys2Proof

/-! ## Sparse memories

A memory is a list of (address, value) pairs, addresses strictly rising, no entry equal to what an unlisted address
reads as. -/

/-- What address `a` holds; `d` is what an unlisted address reads as. -/
def sparseGet {β : Type} (d : Nat → β) : List (Nat × β) → Nat → β
  | [], a => d a
  | (k, v) :: m, a => if k = a then v else sparseGet d m a

/-- The list without address `a`. -/
def sparseErase {β : Type} : List (Nat × β) → Nat → List (Nat × β)
  | [], _ => []
  | (k, v) :: m, a => if k = a then sparseErase m a else (k, v) :: sparseErase m a

/-- Places an entry before the first higher address. -/
def sparseInsert {β : Type} : List (Nat × β) → Nat → β → List (Nat × β)
  | [], a, v => [(a, v)]
  | (k, w) :: m, a, v => if a < k then (a, v) :: (k, w) :: m else (k, w) :: sparseInsert m a v

/-- Stores `v` at `a`, keeping the canonical form: a value that an unlisted address reads as is not listed. -/
def sparsePut {β : Type} [DecidableEq β] (d : Nat → β) (m : List (Nat × β)) (a : Nat) (v : β) : List (Nat × β) :=
  match sparseErase m a with
  | [] => if v = d a then [] else [(a, v)]
  | x :: r => if v = d a then x :: r else sparseInsert (x :: r) a v

/-- The canonical form: addresses strictly rising from above `lo`, no default entry. -/
def sparseWf {β : Type} [DecidableEq β] (d : Nat → β) : Option Nat → List (Nat × β) → Bool
  | _, [] => true
  | lo, (k, v) :: m => (match lo with | none => true | some l => decide (l < k)) && decide (v ≠ d k) && sparseWf d (some k) m

/-- Stores consecutive values from address `a` upward. -/
def sparsePutAll {β : Type} [DecidableEq β] (d : Nat → β) : List (Nat × β) → Nat → List β → List (Nat × β)
  | m, _, [] => m
  | m, a, v :: vs => sparsePutAll d (sparsePut d m a v) (a + 1) vs

/-- `n` consecutive values from address `a`. -/
def sparseRead {β : Type} (d : Nat → β) (m : List (Nat × β)) (a n : Nat) : List β :=
  (List.range n).map (fun i => sparseGet d m (a + i))

/-- An unlisted byte of the NOR reads as erased flash (R52's worked example). -/
def norDefault (_ : Nat) : Byte := 0xFF

/-- An unlisted byte of tag memory reads as 0. -/
def tagDefault (_ : Nat) : Byte := 0

/-- The canonical form of a byte memory (Host.Cell) that reads `d` where unlisted. -/
def memoryWf (d : Nat → Byte) (m : List Host.Cell) : Bool := sparseWf d none m

/-! ## Registers -/

/-- Whether a row holds the register at `off`, over its index strides. -/
def rowCovers (r : RegRow) (off : Nat) : Bool :=
  match r.dims with
  | [] => off == r.base
  | [(st, n)] => (List.range n).any (fun i => off == r.base + st * i)
  | (st, n) :: (su, m) :: _ => (List.range n).any (fun i => (List.range m).any (fun j => off == r.base + st * i + su * j))

/-- The row of the register at an offset. -/
def regRow? (off : Nat) : Option RegRow := regRows.find? (fun r => rowCovers r off)

/-- The reset value of the register at an offset; 0 where there is no register (R435). -/
def regReset (off : Nat) : Word := match regRow? off with | some r => BitVec.ofNat 32 r.reset | none => 0

/-- The stored word of a register. -/
def State.reg (s : State) (off : Nat) : Nat := (sparseGet regReset s.regs off).toNat

/-- Stores a register word. -/
def State.setReg (s : State) (off v : Nat) : State := { s with regs := sparsePut regReset s.regs off (BitVec.ofNat 32 v) }

/-- The value of a register field. -/
def State.get (s : State) (f : Field) : Nat := bits (s.reg f.off) f.hi f.lo

/-- The word `w` with field `hi:lo` replaced by `v`. -/
def insertField (w hi lo v : Nat) : Nat :=
  v % 2 ^ (hi + 1 - lo) * 2 ^ lo + (w / 2 ^ (hi + 1) * 2 ^ (hi + 1) + w % 2 ^ lo)

/-- Writes a register field. -/
def State.put (s : State) (f : Field) (v : Nat) : State := s.setReg f.off (insertField (s.reg f.off) f.hi f.lo v)

/-- A field of one bit as a truth value. -/
def State.flag (s : State) (f : Field) : Bool := s.get f == 1

/-- A truth value as a bit. -/
def bit (b : Bool) : Nat := if b then 1 else 0

/-- Writes a field of one bit. -/
def State.putFlag (s : State) (f : Field) (b : Bool) : State := s.put f (bit b)

/-- Raises an event bit (W1C, R6). -/
def State.event (s : State) (f : Field) : State := s.put f 1

/-- Adds to a counter that saturates at the most its field holds. -/
def State.bumpBy (s : State) (f : Field) (n : Nat) : State :=
  s.put f (min (s.get f + n) (2 ^ (f.hi + 1 - f.lo) - 1))

/-- Adds 1 to a saturating counter. -/
def State.bump (s : State) (f : Field) : State := s.bumpBy f 1

/-- The identifier of a subsystem (R9, Table 16-12). -/
def subId : Subsys → Nat
  | .sys => 1 | .cfg => 2 | .pwr => 3 | .tim => 4 | .lf => 5 | .rf => 6 | .rng => 7 | .tok => 8
  | .rel => 9 | .sym => 10 | .key => 11 | .sto => 12 | .nfc => 13 | .upd => 14 | .tam => 15 | .hif => 16

/-- The reason register field of a subsystem. -/
def reasonField : Subsys → Field
  | .sys => F.SYS_REASON_REASON
  | .cfg => F.SYS_CFG_REASON_REASON
  | .pwr => F.PWR_REASON_REASON
  | .tim => F.TIM_REASON_REASON
  | .lf => F.LF_REASON_REASON
  | .rf => F.RF_REASON_REASON
  | .rng => F.RNG_REASON_REASON
  | .tok => F.TOK_REASON_REASON
  | .rel => F.REL_REASON_REASON
  | .sym => F.SYM_REASON_REASON
  | .key => F.KEY_REASON_REASON
  | .sto => F.STO_REASON_REASON
  | .nfc => F.NFC_REASON_REASON
  | .upd => F.UPD_REASON_REASON
  | .tam => F.TAM_REASON_REASON
  | .hif => F.HIF_REASON_REASON

/-- Sets the reason register of a subsystem. -/
def State.reason (s : State) (u : Subsys) (code : Nat) : State := s.put (reasonField u) code

/-- Whether a subsystem's enable bit reads 1; the home of the enable bits is the enabled map (R76). -/
def State.enabled (s : State) (u : Subsys) : Bool := Nat.testBit (s.reg R.SYS_EN_MAP) (subId u)

/-- A map with one bit set or cleared. -/
def setBit (m n : Nat) (b : Bool) : Nat := if b then m ||| 2 ^ n else m &&& (0x1FFFFFFFF - 2 ^ n)

/-- Sets an enable bit. -/
def State.setEnabled (s : State) (u : Subsys) (b : Bool) : State :=
  s.setReg R.SYS_EN_MAP (setBit (s.reg R.SYS_EN_MAP) (subId u) b)

/-! ## Free values and times -/

/-- Key and V of the DRBG. -/
def State.drbg (s : State) : Bytes × Bytes := (s.sym.drbgKey, s.sym.drbgV)

/-- The seed that a reseed takes: the one conditioned last, else entropy that no command gives. -/
def State.seedNow (s : State) : Bytes := s.sym.seed.getD (Config.entropy s.draws)

/-- Whether a generate reseeds first: with prediction resistance or after 65,536 requests, unless the entropy source has failed (R257,
R258). -/
def State.reseeds (s : State) (pr : Bool) : Bool := (pr || decide (65536 ≤ s.reg R.SYM_DRBG)) && !s.flag F.SYM_ENT_FAILED

/-- The DRBG as a generate finds it, after its reseed. -/
def State.drbgReady (s : State) (pr : Bool) : Bytes × Bytes := if s.reseeds pr then Crypto.drbgReseed s.drbg s.seedNow else s.drbg

/-- A generate request of `n` bytes. -/
def State.generated (s : State) (n : Nat) (pr : Bool) : State :=
  let g := (Crypto.drbgGenerate (s.drbgReady pr) n).2
  let s1 := { s with draws := s.draws + 1, sym := { s.sym with drbgKey := g.1, drbgV := g.2 } }
  if s.reseeds pr then ({ s1 with sym := { s1.sym with seedMt := s.mt, seed := none } }).setReg R.SYM_DRBG 1
  else s1.setReg R.SYM_DRBG (min (s.reg R.SYM_DRBG + 1) 0xFFFFFFFF)

/-- The state after an ordinary generate of `n` bytes, and after one with prediction resistance. -/
def State.fresh (s : State) (n : Nat) : State := s.generated n false
def State.freshPr (s : State) (n : Nat) : State := s.generated n true

/-- The `n` bytes that an ordinary generate gives, and one with prediction resistance (R257). -/
def State.drawn (s : State) (n : Nat) : Bytes := (Crypto.drbgGenerate (s.drbgReady false) n).1
def State.drawnPr (s : State) (n : Nat) : Bytes := (Crypto.drbgGenerate (s.drbgReady true) n).1

/-- The per-signature secret of ECDSA, by rejection sampling: 521 bits are drawn with prediction resistance until they lie in 1 to n - 1
(R254). The count bounds the draws; each fails with a chance below 2^-259. -/
def State.signSecret : Nat → State → Nat × State
  | 0, s => (1, s)
  | n + 1, s =>
    let k := beNat (s.drawnPr 66) % 2 ^ 521
    let t := s.freshPr 66
    if decide (1 ≤ k) && decide (k < Crypto.pN) then (k, t) else t.signSecret n

/-- An ECDSA signature on a digest, and the state after its draws. -/
def State.sign (s : State) (key digest : Bytes) : Bytes × State :=
  let x := s.signSecret 128
  (Crypto.ecdsaSign key digest x.1, x.2)

/-- Whether NT is carried in records: in SYNC and HOLD only (R368). -/
def State.ntValid (s : State) : Bool := s.get F.TIM_STAT_NT_STATE == 2 || s.get F.TIM_STAT_NT_STATE == 3

/-- NT seconds and ns as records carry them. -/
def State.ntPair (s : State) : Nat × Nat :=
  if s.ntValid then (s.tim.nt / 10 ^ 9 % 2 ^ 48, s.tim.nt % 10 ^ 9) else (0, 0)

/-! ## Lifecycle (R265, Table 10-5) -/

/-- Whether a fuse reads blown (R266). -/
def Fuse.blown (f : Fuse) : Bool := f.a || f.b

/-- The fused lifecycle state code: the highest fuse blown, 0 BLANK. -/
def Fuses.state (f : Fuses) : Nat :=
  match f.lc.map Fuse.blown with
  | [p, i, fl, r] => if r then 5 else if fl then 3 else if i then 2 else if p then 1 else 0
  | _ => 0

/-- The fuse epoch: the number of epoch fuses blown. -/
def Fuses.epochNo (f : Fuses) : Nat := (f.epoch.filter Fuse.blown).length

/-- Whether the device is in RECOVERY (Table 3-4). -/
def State.recovery (s : State) : Bool := s.get F.SYS_STAT_START_PHASE == 0xF

/-- The lifecycle state code; RECOVERY has no fuse (R282). -/
def State.lifecycle (s : State) : Nat := if s.recovery then 4 else s.fuses.state

/-- Whether the lifecycle state is INTEGRATION or FIELD. -/
def State.inService (s : State) : Bool := s.lifecycle == 2 || s.lifecycle == 3

/-! ## Sections and settings -/

/-- The value of a section of the selected image. -/
def State.section? (s : State) (type : Nat) : Option Bytes := (s.sys.sections.find? (·.type == type)).map (·.data)

/-- A little-endian field of a section, or a default where the section is absent. -/
def State.secLE (s : State) (type off n dflt : Nat) : Nat :=
  match s.section? type with | some b => le b off n | none => dflt

/-- A setting's value from the bank while the image lists it, else the firmware's default (R48, R49). A session in flight uses
the values it began with. -/
def State.setting (s : State) (id dflt : Nat) : Nat :=
  let vals := match s.sys.settingsUse with
    | some v => v
    | none => match s.vault.bank with | some b => b.values | none => []
  if (s.section? 0x11).isNone then dflt
  else match vals.find? (·.1 == id) with | some (_, v) => v | none => dflt

/-! ## Partners, links and the degraded mode (R230, R232) -/

/-- The keyring record of a kind and index. -/
def State.keyRec? (s : State) (kind index : Nat) : Option KeyRec :=
  match s.vault.keyring with
  | some g => g.records.find? (fun r => r.kind == kind && r.index == index)
  | none => none

/-- Whether the reference runs from the RC. -/
def State.onRc (s : State) : Bool := s.flag F.PWR_STAT_REF_RC

/-- Whether a bus can carry mailbox frames now: its port is up, and T1S not while the reference runs on the RC. -/
def State.busUp (s : State) (t : Transport) : Bool :=
  match t with
  | .spi => true
  | .can0 => s.flag F.HIF_STAT_CAN0_UP && !s.flag F.HIF_STAT_CAN0_BUSOFF
  | .can1 => s.flag F.HIF_STAT_CAN1_UP && !s.flag F.HIF_STAT_CAN1_BUSOFF
  | .t1s => s.flag F.HIF_STAT_T1S_UP && !s.onRc

/-- The POLICY section and its header fields. -/
def State.policySec (s : State) : Bytes := (s.section? 8).getD []
def State.polFlags (s : State) : Nat := u8 s.policySec 2
/-- OUT_USED: the release outputs are fitted. -/
def State.outUsed (s : State) : Bool := Nat.testBit s.polFlags 1

/-- The PARTNERS section, the number of roles and a record. -/
def State.partnersSec (s : State) : Bytes := (s.section? 0x0A).getD []
def State.nRole (s : State) : Nat := u8 s.partnersSec 0
def State.roleRec (s : State) (r : Nat) : Bytes := slice s.partnersSec (0x10 + 16 * r) 16
def State.roleKind (s : State) (r : Nat) : Nat := u8 (s.roleRec r) 0
def State.roleLink (s : State) (r : Nat) : Nat := u8 (s.roleRec r) 1
def State.roleRequired (s : State) (r : Nat) : Bool := Nat.testBit (u8 (s.roleRec r) 2) 0
def State.roleStatus (s : State) (r : Nat) : Bool := Nat.testBit (u8 (s.roleRec r) 2) 1
def State.roleTx (s : State) (r : Nat) : Nat := le (s.roleRec r) 4 4
def State.roleRx (s : State) (r : Nat) : Nat := le (s.roleRec r) 8 4

/-- The roles of the image. -/
def State.roles (s : State) : List Nat := List.range s.nRole

/-- The ports of a role: 0 CAN0, 1 CAN1, 2 T1S. -/
def State.rolePorts (s : State) (r : Nat) : List Nat := if s.roleLink r = 3 then [0, 1] else [s.roleLink r]

/-- Whether a port can carry partner messages. -/
def State.portUp (s : State) (p : Nat) : Bool :=
  match p with
  | 0 => s.busUp .can0 | 1 => s.busUp .can1 | 2 => s.busUp .t1s | _ => false

/-- The partner key of a role. -/
def State.partnerKey (s : State) (r : Nat) : Option KeyRec := s.keyRec? 3 r

/-- Whether a role is PAIRED, and whether its link is up as well. -/
def State.rolePaired (s : State) (r : Nat) : Bool := (s.partnerKey r).isSome
def State.roleReach (s : State) (r : Nat) : Bool := s.rolePaired r && (s.rolePorts r).any s.portUp

/-- DMODE of Table 8-7 as it stands now: the highest condition that holds; 0 while REL is not enabled. RNG counts as down while it is meant
enabled and is not. -/
def State.dmode (s : State) : Nat :=
  if !s.enabled .rel then 0
  else if s.roles.any (fun r => s.roleRequired r && !s.roleReach r) then 5
  else if s.outUsed && s.rel.diagBad then 4
  else if s.onRc || (s.flag F.RF_SUB_STAT_FAILED) then 3
  else if Nat.testBit s.sys.meant 7 && !s.enabled .rng then 2
  else if s.enabled .rng && decide (s.get F.RF_STAT_CHAINS_UP < 3) then 1
  else 0

/-! ## Records kept as 2 copies (R298) -/

/-- The value in force of a two-copy record. -/
def TwoCopy.value (t : TwoCopy) : Nat := if t.seqB ≤ t.seqA then t.valA else t.valB

/-- Writes a two-copy record: the copy with the lower sequence number, raised by 2 over the other's. -/
def TwoCopy.write (t : TwoCopy) (v : Nat) : TwoCopy :=
  if t.seqA ≤ t.seqB then { t with seqA := t.seqB + 2, valA := v } else { t with seqB := t.seqA + 2, valB := v }

/-! ## Tag memory as the Untur updates it (R349 to R352) -/

/-- Writes bytes to tag memory from a block on. -/
def State.tagPut (s : State) (block : Nat) (bs : Bytes) : State :=
  { s with tag := { s.tag with mem := sparsePutAll tagDefault s.tag.mem (16 * block) bs } }

/-- The status copy of Table 12-7 with sequence number `n`. -/
def State.statusBytes (s : State) (n : Nat) : Bytes :=
  let flags := bit (s.flag F.SYS_STAT_READY) + 2 * bit (s.flag F.SYS_STAT_DEGRADED) + 4 * bit (s.flag F.SYS_STAT_LKG)
    + 8 * bit s.tag.alarm + 16 * bit (s.flag F.STO_STAT_HOLDUP_SHORT)
  let slots := s.get F.TOK_SET_TOKENS
  let body := toLE 4 n ++ toLE 1 s.lifecycle ++ toLE 1 s.fuses.epochNo ++ toLE 1 s.sys.sv ++ toLE 1 flags
    ++ toLE 4 (s.reg R.SYS_DOWN_MAP) ++ toLE 8 s.mt ++ toLE 6 s.ntPair.1 ++ toLE 2 (s.get F.PWR_VBAT_NOW_MV)
    ++ toLE 8 (s.vault.nextSeq - 1) ++ toLE 2 s.vault.ksn ++ toLE 1 slots ++ toLE 1 s.dmode
    ++ toLE 4 (s.reg R.REL_LAST) ++ toLE 2 (s.get F.SYS_START_START_REASON) ++ toLE 1 (s.get F.SYS_STAT_RESET_CAUSE)
    ++ toLE 1 0 ++ toLE 4 s.vault.holdup ++ toLE 4 (s.reg R.SYS_IMG_ROLLBACK) ++ toLE 4 0
  body ++ toLE 4 (crc32c body).toNat

/-- Whether the field side owns tag memory for a command frame (R352). -/
def Tag.busy (t : Tag) (mt : Nat) : Bool := decide (mt < t.ownEnd)

/-- Writes the status copy with the lower sequence number (R298), or leaves it to the retry of R352 while the field side owns
the memory. Nothing is written once the tag sub-domain has failed. -/
def State.statusCopy (s : State) : State :=
  if !s.tag.works then s
  else if s.tag.busy s.mt then { s with tag := { s.tag with pendStat := true, retryMt := s.mt } }
  else
    let t := s.tag.statusSeq
    let n := if t.seqA ≤ t.seqB then t.seqB + 2 else t.seqA + 2
    let block := if t.seqA ≤ t.seqB then 4 else 8
    let s1 := s.tagPut block (s.statusBytes n)
    { s1 with tag := { s1.tag with statusSeq := t.write 0, pendStat := false, alarm := false } }

/-- Mirrors an entry of 128 bytes to its tail slot (R350). -/
def State.tailPut (s : State) (seq : Nat) (e : Bytes) : State :=
  let s1 := s.tagPut (16 + 8 * (seq % 32)) (padTo 128 e)
  s1.put F.NFC_TAG_STAT_TAIL_SLOT (seq % 32)

/-- Mirrors an entry, or keeps it for the retry of R352. -/
def State.tailMirror (s : State) (seq : Nat) (e : Bytes) : State :=
  if !s.tag.works then s
  else if s.tag.busy s.mt then { s with tag := { s.tag with pendTail := s.tag.pendTail ++ [(seq, e)], retryMt := s.mt } }
  else s.tailPut seq e

/-! ## The journal (R310 to R313) -/

/-- The 128 stored bytes of an entry (Table 11-6). -/
def JEntry.bytes (e : JEntry) : Bytes :=
  toLE 8 e.seq ++ toLE 8 e.mt ++ toLE 6 e.ntS ++ toLE 4 e.ntNs ++ toLE 2 e.type ++ toLE 2 e.reason
    ++ toLE 1 e.src ++ toLE 1 e.flags ++ padTo 16 e.link ++ padTo 80 e.body

/-- Whether the NAND can be reached: not in vault-only operation (R300, R326). -/
def State.nandUp (s : State) : Bool :=
  !s.vault.ctrlFailed && !(s.nand.dies.all (·.failed)) && !(s.upd.loading == some 1)

/-- Whether a vault bank is in use. -/
def State.vaultUp (s : State) : Bool := !(s.vault.bank0Failed && s.vault.bank1Failed)

/-- The undrained entries of staging, the gap entry standing as TYPE 0x0C02 in place of what it names (R313). -/
def gapEntry (g : Gap) (mt : Nat) : JEntry :=
  { seq := g.first, mt := mt, ntS := 0, ntNs := 0, type := 0x0C02, reason := 0x0C09, src := 0x0C, flags := 0
    link := g.link, body := toLE 8 g.first ++ toLE 8 g.last ++ g.h }

/-- Puts an entry into staging: 256 slots, or the 192 kept, the gap and a ring of 63 once full (R313). `link` is the chain
value before the first entry that the gap names. -/
def Staging.add (st : Staging) (x : Staged) : Staging :=
  match st.gap with
  | some g =>
    if st.ring.length < 63 then { st with ring := st.ring ++ [x] }
    else match st.ring with
      | [] => { st with ring := [x] }
      | old :: rest => { st with gap := some { g with last := old.entry.seq, h := old.h }, ring := rest ++ [x] }
  | none =>
    if st.kept.length < 256 then { st with kept := st.kept ++ [x] }
    else
      let rest := st.kept.drop 192 ++ [x]
      let lost := rest.take (rest.length - 63)
      match lost, lost.getLast? with
      | f :: _, some l =>
        { kept := st.kept.take 192
          gap := some ⟨f.entry.seq, l.entry.seq, l.h, f.entry.link⟩
          ring := rest.drop (rest.length - 63) }
      | _, _ => { st with kept := st.kept ++ [x] }

/-- Entries on one die at most: 2046 intervals, or 1023 once a die has failed (R315, R325). -/
def State.journalCap (s : State) : Nat := if s.nand.dies.any (·.failed) then 1023 else 2046

/-- The first interval kept when interval `k` is written: the oldest intervals are dropped whole (R315). -/
def State.dropIntervals (s : State) : State :=
  let k := s.vault.nextSeq / 4096
  let firstKept := (k + 1 - s.journalCap) * 4096
  if s.nand.oldest < firstKept then
    { s with nand := { s.nand with journal := s.nand.journal.filter (fun e => firstKept ≤ e.seq), oldest := firstKept } }
  else s

/-- The staged entries of a page: SEQ 32k to 32k + 31. -/
def pageEntries (st : Staging) (k : Nat) : List Staged := (st.kept ++ st.ring).filter (fun x => x.entry.seq / 32 == k)

/-- The oldest page with an undrained entry. -/
def State.oldestPage (s : State) : Option Nat :=
  match s.vault.staging.kept ++ s.vault.staging.ring with
  | [] => none
  | x :: _ => some (x.entry.seq / 32)

/-- Whether a page is complete: its last SEQ has been committed, so staging holds every entry of it that was not lost
(R312, R313). -/
def State.pageComplete (s : State) (k : Nat) : Bool := decide (32 * k + 32 ≤ s.vault.nextSeq)

/-- The die numbered `d`; a number beyond the two dies names a failed die. -/
def State.die (s : State) (d : Nat) : Die := s.nand.dies.getD d { Die.reset with failed := true, spare := 0, erased := 0 }

/-- Replaces a die record. -/
def State.setDie (s : State) (d : Nat) (x : Die) : State := { s with nand := { s.nand with dies := s.nand.dies.set d x } }

/-- Pages programmed on a die: regions 4 to 6 add a parity page to every 15 data pages (R302), and every 64 pages take an erased block
(log entry 167). -/
def programDie (region n : Nat) (x : Die) : Die :=
  let total := x.stripes.getD (region - 4) 0 + n
  let used := x.used + n + (if region < 4 then 0 else total / 15)
  let y := { x with erased := x.erased - used / 64, used := used % 64 }
  if region < 4 then y else { y with stripes := x.stripes.set (region - 4) (total % 15) }

/-- `n` pages of a region are programmed and their map deltas written to the vault (R306): a mirrored region on every die in use, a
single-copy region on die `d`. -/
def State.program (s : State) (region d n : Nat) : State :=
  let f := fun (x : Die) => if x.failed then x else programDie region n x
  let dies := if region < 4 then s.nand.dies.map f else s.nand.dies.set d (f (s.die d))
  { s with nand := { s.nand with dies := dies }, vault := { s.vault with mapDeltas := s.vault.mapDeltas + n } }

/-- The die that holds a journal entry: interval k lies on die k mod 2 (Table 11-4). -/
def journalDie (seq : Nat) : Nat := seq / 4096 % 2

/-- The die to which a journal page is programmed: the surviving one once a die has failed (R325). -/
def State.pageDie (s : State) (k : Nat) : Nat :=
  let d := journalDie (32 * k)
  if (s.die d).failed then 1 - d else d

/-- Programs the oldest complete page to region 4 and frees its slots; the gap entry goes with the page of its first SEQ. -/
def State.drainPage (s : State) : State :=
  match s.oldestPage with
  | none => s
  | some k =>
    if !s.pageComplete k || !s.nandUp then s
    else
      let st := s.vault.staging
      let gapHere := match st.gap with | some g => decide (g.first / 32 ≤ k) | none => false
      let ents := (pageEntries st k).map (·.entry)
      let gapE := match st.gap with | some g => if gapHere then [gapEntry g s.mt] else [] | none => []
      let ents := match st.gap with
        | some g => ents.filter (·.seq < g.first) ++ gapE ++ ents.filter (fun e => g.first ≤ e.seq)
        | none => ents
      let keep := fun (x : Staged) => !(x.entry.seq / 32 == k)
      let st1 : Staging := { kept := st.kept.filter keep, gap := if gapHere then none else st.gap, ring := st.ring.filter keep }
      let st2 : Staging := if st1.gap.isNone then { kept := st1.kept ++ st1.ring, gap := none, ring := [] } else st1
      let s1 := (s.dropIntervals).program 4 (s.pageDie k) 1
      { s1 with
        vault := { s1.vault with staging := st2 }
        nand := { s1.nand with
          journal := s1.nand.journal ++ ents
          gapEntries := if gapHere then s1.nand.gapEntries ++ (gapE.map (·.seq)) else s1.nand.gapEntries
          written := s1.nand.written + 4096 } }

/-- The journal count that the host has not fetched. -/
def State.unfetched (s : State) : Nat := s.vault.nextSeq - s.vault.ack

/-- JRNL_WARN follows the unfetched count (R315). -/
def State.refreshWarn (s : State) : State :=
  let cap := s.journalCap * 4096
  let warn := decide (cap * s.setting 0x0C02 80 < s.unfetched * 100)
  if warn && !s.flag F.STO_STAT_JRNL_WARN then
    ((s.putFlag F.STO_STAT_JRNL_WARN true).event F.STO_EVT_JRNL_WARN).reason .sto 0x0C15
  else s.putFlag F.STO_STAT_JRNL_WARN warn

/-- The network state after a commit point (R27): its handover record is written to staging; a standby pair has applied the record
before it, so it is never more than one commit point behind. -/
def State.netCommit (s : State) : Net :=
  { s.net with commitNo := s.net.commitNo + 1, records := [s.net.commitNo + 1], lastCommit := s.mt
               appliedNo := if s.flag F.PWR_PAIR_STANDBY_READY then s.net.commitNo else s.net.appliedNo
               cmdAt := s.rel.cmdNo
               cmdApplied := if s.flag F.PWR_PAIR_STANDBY_READY then s.net.cmdAt else s.net.cmdApplied }

/-- Commits an entry with a given MT: staging, head record, chain, checkpoint due, tail mirror, status copy (R311, R312, R314,
R351). The page drain is the command JOURNAL_DRAIN; a full staging area drains a page first while the NAND is
reachable, since R313 lets staging overflow only when it is not. -/
def State.commitEntry (s : State) (type reason src flags mt : Nat) (body : Bytes) : State :=
  let full := decide (256 ≤ s.vault.staging.kept.length) && s.vault.staging.gap.isNone
  let s := if full && s.nandUp then s.drainPage else s
  let overflow := full && !s.nandUp
  let nt := s.ntPair
  let e : JEntry := { seq := s.vault.nextSeq, mt := mt, ntS := nt.1, ntNs := nt.2, type := type, reason := reason, src := src
                      flags := flags, link := s.vault.chain.take 16, body := padTo 80 body }
  let h := Crypto.sha512 (s.vault.chain ++ e.bytes)
  let due := if (e.seq + 1) % 4096 = 0 then s.sto.ckptDue ++ [((e.seq + 1) / 4096 - 1, h)] else s.sto.ckptDue
  let s1 := { s with
    vault := { s.vault with staging := s.vault.staging.add ⟨e, h⟩, nextSeq := e.seq + 1, chain := h, chainPrev := s.vault.chain
                            headSeqs := s.vault.headSeqs.write e.seq }
    sto := { s.sto with ckptDue := due }
    net := s.netCommit }
  let s2 := if overflow then (s1.event F.STO_EVT_GAP).reason .sto 0x0C09 else s1
  ((s2.refreshWarn).tailMirror e.seq e.bytes).statusCopy

/-- Writes a journal entry of a subsystem; before STO is enabled in a start the event is latched (R312). -/
def State.journal (s : State) (type reason : Nat) (u : Subsys) (flags : Nat) (body : Bytes) : State :=
  if s.enabled .sto && s.vaultUp then s.commitEntry type reason (subId u) flags s.mt body
  else { s with sto := { s.sto with latched := s.sto.latched ++ [⟨type, reason, (subId u), flags, s.mt, body⟩] } }

/-- Writes the latched events, with LATCHED set, once STO is enabled (R312). -/
def State.flushLatched (s : State) : State :=
  let l := s.sto.latched
  l.foldl (fun t e => t.commitEntry e.type e.reason e.src (e.flags ||| 4) e.mt e.body)
    { s with sto := { s.sto with latched := [] } }

/-! ## READY, DEGRADED and the maps (R75, R76) -/

/-- The 10 subsystems of the immobiliser path in their order (Table 2-7). -/
def immobiliserPath : List Subsys := [.sys, .cfg, .pwr, .sym, .key, .sto, .tam, .lf, .tok, .rel]

/-- The subsystems of phase 9 in their order (Table 2-7). -/
def phaseNine : List Subsys := [.tim, .rf, .rng, .nfc, .hif, .upd]

/-- Whether READY holds (R75). -/
def State.readyNow (s : State) : Bool :=
  s.sys.fw == .slot && s.inService && immobiliserPath.all s.enabled

/-- The down map (R76): meant to be enabled and not enabled, and CFG while the last-known-good image is in use. -/
def State.downNow (s : State) : Nat :=
  let m := s.sys.meant &&& (s.sys.meant ^^^ (s.reg R.SYS_EN_MAP &&& s.sys.meant))
  if s.flag F.SYS_STAT_LKG then m ||| 4 else m

/-- The first READY of a start: START_PT, the self-restart count, the rollback floor (R55, R81, R82). -/
def State.firstReady (s : State) : State :=
  if s.sys.readySeen then s
  else
    let rb := s.reg R.SYS_IMG_ROLLBACK
    let floor := max s.vault.floor rb
    let s1 := { s with sys := { s.sys with readySeen := true }, pilot := { s.pilot with selfRestarts := 0 }
                       vault := { s.vault with floor := floor } }
    (s1.setReg R.SYS_START_PT s.pilot.pt.toNat).setReg R.SYS_IMG_FLOOR floor

/-- Brings READY, DEGRADED and the down map up to date, with their events and the status copy (R351). -/
def State.refresh (s : State) : State :=
  let down := s.downNow
  let deg := decide (down ≠ 0)
  let rdy := s.readyNow
  let chR := rdy != s.flag F.SYS_STAT_READY
  let chD := deg != s.flag F.SYS_STAT_DEGRADED
  let chM := down != s.reg R.SYS_DOWN_MAP
  let s1 := s.setReg R.SYS_DOWN_MAP down
  let s2 := if chR then (s1.putFlag F.SYS_STAT_READY rdy).event F.SYS_EVT_READY_CHG else s1
  let s3 := if chD then (s2.putFlag F.SYS_STAT_DEGRADED deg).event F.SYS_EVT_DEGRADED_CHG else s2
  let s4 := if rdy then s3.firstReady else s3
  if chR || chD || chM then s4.statusCopy else s4

/-! ## Start phase and restart (R65, R66) -/

/-- Sets START_PHASE and the start progress word: percent 0xFF and the phase number, 0 once no start runs (R10, R82). -/
def State.setPhase (s : State) (p : Nat) : State :=
  let s1 := s.put F.SYS_STAT_START_PHASE p
  s1.setReg R.SYS_START_PROG (if 1 ≤ p && p ≤ 9 then 0xFF000000 + p else 0)

/-- START_PHASE. -/
def State.phase (s : State) : Nat := s.get F.SYS_STAT_START_PHASE

/-- Whether the pilot latches what arrives: phases 1 to 8 of a start (R78). -/
def State.latching (s : State) : Bool := decide (1 ≤ s.phase) && decide (s.phase ≤ 8)

/-- Latches an event with its PT and MT (Table 3-2). -/
def State.latch (s : State) (k : LatchKind) : State :=
  { s with sys := { s.sys with latched := s.sys.latched ++ [⟨k, s.pilot.pt.toNat, s.mt⟩] } }

/-- The lifecycle fields of KEY_STAT. -/
def State.refreshKeyStat (s : State) : State :=
  ((s.put F.KEY_STAT_LC s.lifecycle).putFlag F.KEY_STAT_ENG s.fuses.eng).put F.KEY_STAT_EPOCH s.fuses.epochNo

/-- Monitors armed and quiet (R286). -/
def State.armMonitors (s : State) : State := s.setReg R.TAM_STAT (0x7D + (if s.pilot.svcOpen then 0x400 else 0))

/-- Whether what waits for a fuse blow still waits after a reset; a reset that waited has come with it. -/
def keptOverReset : Deferred → Bool
  | .alarm _ _ => true
  | .unlock _ => true
  | .reset _ => false

/-- The restart that every reset source shares (R66, R7): registers and working state return to reset, the vault, the NAND, the
fuses, the NOR, the tag and the pilot keep their contents; a fuse blow goes on in the pilot (R266). A power-on also restarts the
pilot with PT 0. Phase 2 is skipped when the crystal runs. -/
def State.restart (s : State) (source : Nat) : State :=
  let pilot := if source = 1 then { Pilot.reset with vbatUp := true } else { s.pilot with t3Active := false }
  let xtal := decide (source ≠ 1) && s.pwr.xtalRun
  let s1 : State := { State.reset with
    pending := s.pending, mt := s.mt, draws := s.draws, fuses := s.fuses
    vault := { s.vault with alternate := none }
    nand := s.nand, update := s.update, nor := s.nor, tag := s.tag, pilot := pilot
    tim := { Tim.reset with ptRc := s.tim.ptRc, rt := s.tim.rt }
    pwr := { Power.reset with xtalRun := xtal }
    keys := if source = 1 then Keys.reset else
      { Keys.reset with blow := s.keys.blow, blowReset := s.keys.blowReset, alarmWait := s.keys.alarmWait
                        deferred := s.keys.deferred.filter keptOverReset }
    sto := { Storage.reset with ckptDue := s.sto.ckptDue, latched := if source = 1 then [] else s.sto.latched }
    tok := { Tok.reset with lost := s.tok.learn.isSome || s.tok.lost } }
  let s2 := (s1.put F.SYS_STAT_RESET_CAUSE source).armMonitors
  let s3 := if xtal then s2.putFlag F.PWR_STAT_XTAL_OK true else s2
  s3.setPhase (if xtal then 3 else 2)

/-- Enters RECOVERY with a cause and a start reason (R80): READY low, release outputs off, no token polled: the requests in flight
end. What is meant to be enabled stands in the down map (R76). -/
def State.enterRecovery (s : State) (c : RecCause) (code : Nat) : State :=
  let s1 := { s with sys := { s.sys with cause := some c, recPt := s.pilot.pt.toNat, checks := [], held := [] } }
  let s2 := ((s1.setReg R.SYS_EN_MAP 0).setPhase 0xF).put F.SYS_START_START_REASON code
  let s3 := s2.setReg R.REL_STAT 0
  ({ s3 with
      tok := { Tok.reset with lost := s3.tok.lost || s3.tok.learn.isSome }
      lf := { s3.lf with hold := none, queue := [] }
      rng := { s3.rng with sessions := [], onAir := none }
      net := { s3.net with jobs := [] }
      rel := .reset
      nfc := { s3.nfc with detection := none } }.refreshKeyStat).refresh

end Sys2Proof.Machine
end

