-- ==== Sys2Proof/Machine/Islands.lean ====
section
/-! DEFINITION. Shared operations on islands, redundancy groups and subsystems that go down: island states (R382), votes (R384),
PWR_RED_STAT (R398), the dependences of Table 2-7 and the down rule of R63. -/
namespace Sys2Proof.Machine

open Sys2Proof

/-- State of island `i` as PWR_ISL_STATE holds it: 0 NAP, 1 DOZE, 2 RUN, 3 FAILED. -/
def State.island (s : State) (i : Nat) : Nat := bits (s.reg R.PWR_ISL_STATE) (2 * i + 1) (2 * i)

/-- Sets the state of an island; the pilot is always in RUN (R382). -/
def State.setIsland (s : State) (i v : Nat) : State :=
  if i = 0 then s else s.setReg R.PWR_ISL_STATE (insertField (s.reg R.PWR_ISL_STATE) (2 * i + 1) (2 * i) v)

/-- Whether an island is marked FAILED. -/
def State.islandFailed (s : State) (i : Nat) : Bool := s.island i == 3

/-- The votes on an island, bit per client. -/
def State.votes (s : State) (i : Nat) : Nat := s.get (F.PWR_VOTEn_CLIENTS i)

/-- Sets or clears one client's vote on an island. -/
def State.setVote (s : State) (c i : Nat) (b : Bool) : State :=
  s.put (F.PWR_VOTEn_CLIENTS i) (setBit (s.votes i) c b)

/-- A group loses a copy: its bit in PWR_RED_STAT and RED_LOSS (R398). -/
def State.redLoss (s : State) (g : Nat) : State :=
  (s.setReg R.PWR_RED_STAT (s.reg R.PWR_RED_STAT ||| 2 ^ g)).event F.PWR_EVT_RED_LOSS

/-- A group is whole again. -/
def State.redClear (s : State) (g : Nat) : State :=
  s.setReg R.PWR_RED_STAT (setBit (s.reg R.PWR_RED_STAT) g false)

/-- The dependences of Table 2-7; the crystal of RF is judged apart. -/
def subDeps : Subsys → List Subsys
  | .sys => []
  | .cfg => [.sys]
  | .pwr => [.sys]
  | .sym => [.pwr]
  | .key => [.sym]
  | .sto => [.key]
  | .tam => [.key]
  | .lf => [.pwr]
  | .tok => [.lf, .key]
  | .rel => [.tok, .sto]
  | .tim => [.pwr]
  | .rf => [.pwr]
  | .rng => [.rf, .lf]
  | .nfc => [.pwr]
  | .hif => [.sys]
  | .upd => [.sto, .key]

/-- The start-time order of Table 2-7. -/
def tableOrder : List Subsys := immobiliserPath ++ phaseNine

/-- The islands that a subsystem needs whole (Table 2-8, cause 1); RNG is judged apart. -/
def subIslands : Subsys → List Nat
  | .sym => [8]
  | .key => [8]
  | .sto => [11]
  | .lf => [10]
  | .rf => [9]
  | .nfc => [12]
  | .hif => [13]
  | .tim => [13]
  | .rel => [14]
  | .sys => [] | .cfg => [] | .pwr => [] | .tam => [] | .tok => [] | .rng => [] | .upd => []

/-- Whether every receive tile has failed. -/
def State.noTile (s : State) : Bool := s.net.tiles.all (·.failed) || (s.islandFailed 3 && s.islandFailed 4 && s.islandFailed 5 && s.islandFailed 6)

/-- Cause 1 of Table 2-8 for a subsystem. -/
def State.islandCause (s : State) (u : Subsys) : Bool :=
  if u = .rng then s.noTile || s.islandFailed 7 else (subIslands u).any s.islandFailed

/-- Takes down, in table order, each enabled subsystem that depends on one not enabled, with 0x0223 (R62, R63). -/
def State.dropDependants (s : State) : State :=
  tableOrder.foldl
    (fun t u => if t.enabled u && !((subDeps u).all t.enabled) then (t.setEnabled u false).reason u 0x0223 else t) s

/-- A subsystem goes down with a reason, and its dependants with it; the maps follow. -/
def State.goDown (s : State) (u : Subsys) (code : Nat) : State :=
  (((s.setEnabled u false).reason u code).dropDependants).refresh

/-- Reruns the checks of every subsystem that is meant to be enabled and is not, in table order (R63). Until a start has run the
enables of a phase, and in RECOVERY, there is nothing to rerun. -/
def State.recheck (s : State) : State :=
  let phase := s.get F.SYS_STAT_START_PHASE
  let order := if phase = 0xA || (phase = 9 && s.sys.nineDone) then tableOrder else if phase = 9 then immobiliserPath else []
  let due := order.filter (fun u => Nat.testBit s.sys.meant (subId u) && !s.enabled u && !(s.sys.checks.contains u))
  { s with sys := { s.sys with checks := s.sys.checks ++ due } }

/-- With the link island every bus goes down (R402). -/
def State.linksDown (s : State) : State :=
  let up := bits (s.reg R.HIF_STAT) 2 0
  let s1 := s.setReg R.HIF_STAT (s.reg R.HIF_STAT / 256 * 256)
  let s2 := ((s1.put (F.HIF_CANc_STAT_STATE 0) 0).put (F.HIF_CANc_STAT_STATE 1) 0).put F.HIF_T1S_STAT_UP 0
  let s3 := s2.put F.HIF_T1S_STAT_PLCA_ACTIVE 0
  if up = 0 then s3 else s3.event F.HIF_EVT_LINK_CHG

/-- An island is marked FAILED (R382): powered off, votes ignored, PWR_FAILED, its reason, its subsystems down with 0x0224. The power
switch of shared memory reads 0x0312, that of the link island 0x0313, every other failure 0x0310. -/
def State.failIslandBy (s : State) (i : Nat) (switch : Bool) : State :=
  if i = 0 || s.islandFailed i then s
  else
    let code := if switch && i = 7 then 0x0312 else if switch && i = 13 then 0x0313 else 0x0310
    let s1 := (s.setIsland i 3).put F.PWR_FAILED_MAP (setBit (s.get F.PWR_FAILED_MAP) i true)
    let s2 := (s1.event F.PWR_EVT_ISLAND_FAILED).reason .pwr code
    let s3 := tableOrder.foldl
      (fun t u => if t.enabled u && t.islandCause u then (t.setEnabled u false).reason u 0x0224 else t) s2
    let s4 := if i = 14 then (s3.putFlag F.REL_STAT_OUT_H false).putFlag F.REL_STAT_OUT_L false else s3
    let s5 := if i = 13 then s4.linksDown else s4
    (s5.dropDependants).refresh

/-- A failure other than through the power switch. -/
def State.failIsland (s : State) (i : Nat) : State := s.failIslandBy i false

/-- The active pair: 0 A, 1 B. -/
def State.activePair (s : State) : Nat := s.get F.PWR_PAIR_ACTIVE

/-- The state field of a pair: 0 active, 1 standby, 2 under test or loading, 3 retired. -/
def pairField (p : Nat) : Field := if p = 0 then F.PWR_PAIR_A_STATE else F.PWR_PAIR_B_STATE

/-- Whether a standby pair is current. -/
def State.standbyReady (s : State) : Bool := s.flag F.PWR_PAIR_STANDBY_READY

/-- A commit point of the active pair: its handover record stands in staging (R27). -/
def State.commitPoint (s : State) : State := { s with net := s.netCommit }

/-- Work has run: the idleness of R388 counts from now. -/
def State.touch (s : State) : State := { s with pwr := { s.pwr with idleSince := s.mt } }

/-! ## States of the radio sequencer (R169) -/

/-- STATE of RF_STAT. -/
def State.rfState (s : State) (n : Nat) : State := s.put F.RF_STAT_STATE n

/-- The lock detect of a synthesiser. -/
def State.synLock (s : State) (n : Nat) (b : Bool) : State := s.putFlag (if n = 0 then F.RF_STAT_SYN0_LOCK else F.RF_STAT_SYN1_LOCK) b

/-- Where the sequencer goes when nothing is on air: the next command, SYN0's return or a test, a calibration, IDLE while voted for, else
OFF. -/
def State.rfIdle (s : State) : State :=
  if !s.rf.queue.isEmpty || s.rf.lent || s.rf.test then s.rfState 2
  else if (match s.rf.cal with | some c => c.running | none => false) then s.rfState 9
  else if s.votes 9 = 0 then ((s.synLock 0 false).synLock 1 false).rfState 0
  else s.rfState 1

end Sys2Proof.Machine
end

