-- ==== Sys2Proof/Machine/Mailbox.lean ====
section
/-! DEFINITION. What every mailbox command shares (R440 to R447): headers, the gate of R446, the answer on the command's transport,
and commands whose answer waits for a later event. -/
namespace Sys2Proof.Machine

open Sys2Proof

/-- What a mailbox operation yields: the next state, REASON, output. -/
abbrev MbRes := State × Nat × Bytes

/-- The REASON by which an operation says that its answer comes with a later event. It is no reason code (those have 16 bits). -/
def mbDeferred : Nat := 0x10000

/-- A refusal without output. -/
def mbRefuse (s : State) (code : Nat) : MbRes := (s, code, [])

/-- A refusal that also stands in the subsystem's reason register. -/
def mbFail (s : State) (u : Subsys) (code : Nat) : MbRes := (s.reason u code, code, [])

/-- Success with output. -/
def mbOk (s : State) (out : Bytes) : MbRes := (s, 0, out)

/-- OPCODE, TAG and IN_LEN of a command message (R440). -/
def msgOpcode (m : Bytes) : Nat := le m 0 2
def msgTag (m : Bytes) : Nat := le m 4 4
def msgInLen (m : Bytes) : Nat := le m 8 4
/-- The input that follows the header. -/
def msgInput (m : Bytes) : Bytes := m.drop 16

/-- A command message of an opcode, tag and input. -/
def mkMessage (opcode tag : Nat) (input : Bytes) : Bytes :=
  toLE 2 opcode ++ toLE 2 0 ++ toLE 4 tag ++ toLE 4 input.length ++ toLE 4 0 ++ input

/-- A response message (R440). -/
def mkResponse (opcode reason tag mt : Nat) (out : Bytes) : Bytes :=
  toLE 2 opcode ++ toLE 2 reason ++ toLE 4 tag ++ toLE 4 out.length ++ toLE 4 mt ++ out

/-- The subsystem of an opcode's group (R447). -/
def groupOf (opcode : Nat) : Option Subsys :=
  match opcode / 256 with
  | 1 => some .sys | 2 => some .cfg | 5 => some .lf | 8 => some .tok | 9 => some .rel | 10 => some .sym
  | 11 => some .key | 12 => some .sto | 13 => some .nfc | 14 => some .upd | 16 => some .hif | _ => none

/-- The commands that PROVISIONED accepts (R446, Table 10-8). -/
def provisionedOk (opcode : Nat) : Bool :=
  [0x0101, 0x0102, 0x0103, 0x0104, 0x0B02, 0x0B0D, 0x0B0E, 0x0B0F].contains opcode

/-- The commands that RECOVERY accepts for a cause (R446, Table 3-3). -/
def recoveryOk (c : RecCause) (opcode : Nat) : Bool :=
  if [0x0101, 0x0102, 0x0103, 0x0104].contains opcode then true
  else match c with
    | .alarm => opcode == 0x0B0D
    | .t3start => opcode == 0x0B0D
    | .fuseEcc => false
    | .slots => opcode == 0x0B0D || opcode == 0x0201 || opcode == 0x0202 || (0x0E01 ≤ opcode && opcode ≤ 0x0E06)
    | .keyring => opcode == 0x0B0D
    | .noConfig => opcode == 0x0B0D || opcode == 0x0201 || opcode == 0x0202
    | .t3run => [0x0B0D, 0x0B0E, 0x0B0F].contains opcode
    | .svcOpen => [0x0B0D, 0x0B0E, 0x0B0F].contains opcode

/-- Whether a command's opcode is one of Table 16-6 (R442). -/
def knownOpcode (op : Nat) : Bool :=
  let count := match op / 256 with
    | 1 => 4 | 2 => 4 | 5 => 2 | 8 => 6 | 9 => 3 | 10 => 1 | 11 => 15 | 12 => 5 | 13 => 6 | 14 => 6 | 16 => 2 | _ => 0
  decide (1 ≤ op % 256) && decide (op % 256 ≤ count)

/-- Whether IN_LEN suits a command of Table 16-6 (R442); `auth` is the length of the authorisation that it carries. -/
def inLenOk (auth op n : Nat) : Bool :=
  let least := fun (k : Nat) => decide (k ≤ n)
  match op with
  | 0x0101 => n == 8 | 0x0102 => least 12 | 0x0103 => n == 4 | 0x0104 => true
  | 0x0201 => n == 4 | 0x0202 => least 5 | 0x0203 => n == 2 | 0x0204 => n == 6
  | 0x0801 => n == 1 + auth | 0x0802 => n == 56 | 0x0805 => n == 1 | 0x0806 => n == 1
  | 0x0901 => n == 9 + auth | 0x0902 => n == 1 + auth | 0x0A01 => least 64
  | 0x0B02 => n == 32 | 0x0B04 => n == auth | 0x0B05 => n == 172 + auth | 0x0B06 => n == 172 + auth | 0x0B07 => n == 5
  | 0x0B08 => n == 8 | 0x0B09 => n == 4 | 0x0B0A => n == 4 | 0x0B0B => n == 4 | 0x0B0C => n == 16 | 0x0B0D => n == 20
  | 0x0C01 => least 2 && decide (n ≤ 4081) | 0x0C02 => n == 9 | 0x0C03 => n == 4 | 0x0C04 => n == 4
  | 0x0C05 => least 1 && decide (n ≤ 80)
  | 0x0D01 => n == 8 | 0x0D02 => n == 32 | 0x0D03 => n == 3 | 0x0D04 => least 3 | 0x0D05 => n == 1
  | 0x0E01 => true | 0x0E02 => least 5 | 0x0E03 => n == 1 | 0x1001 => true | 0x1002 => n == 2
  | _ => n == 0

/-- The checks before a command executes (R442, R446): 0x1015 outside the commands of PROVISIONED or RECOVERY, 0x100A, 0x100C, 0x0131 for
a subsystem that is not enabled, with the UPD commands' own 0x0E19 (R427). -/
def State.mbGate (s : State) (op n : Nat) : Nat :=
  let auth := if s.lifecycle = 3 then 496 else 0
  let fits := if inLenOk auth op n then 0 else 0x100C
  if !knownOpcode op then 0x100A
  else match s.phase with
    | 0xB => if provisionedOk op then fits else 0x1015
    | 0xF => match s.sys.cause with
      | some c => if recoveryOk c op then fits else 0x1015
      | none => 0x1015
    | 8 | 9 | 0xA =>
      if fits ≠ 0 then fits
      else match groupOf op with
        | some .sys => 0
        | some u => if s.enabled u then 0 else if u = .upd then 0x0E19 else 0x0131
        | none => 0x100A
    | _ => 0x0131

/-- Cuts bytes into pieces of at most `n`; the count bounds the pieces. -/
def chunks (n : Nat) : Nat → Bytes → List Bytes
  | 0, _ => []
  | k + 1, b => if b.length ≤ n then [b] else b.take n :: chunks n k (b.drop n)

/-- The payloads that carry a message on a bus, with their SEG field (R441); the 2 bytes of SEG on T1S stand most significant byte first
(log entry 148). -/
def busPayloads (t : Transport) (m : Bytes) : List Bytes :=
  match t with
  | .t1s =>
    let cs := chunks 1498 (m.length + 1) m
    (cs.zip (List.range cs.length)).map (fun (c, i) =>
      toBE 2 ((if i = 0 then 0x8000 else 0) + (if i + 1 = cs.length then 0x4000 else 0) + i % 0x4000) ++ c)
  | _ =>
    let cs := chunks 63 (m.length + 1) m
    (cs.zip (List.range cs.length)).map (fun (c, i) =>
      padTo 64 (toLE 1 ((if i = 0 then 0x80 else 0) + (if i + 1 = cs.length then 0x40 else 0) + i % 64) ++ c))

/-- Shows the head response segment in the OUT region when none is shown (R441). -/
def State.placeOut (s : State) : State :=
  if s.flag F.HIF_MB_OUT_STAT_VALID then s
  else match s.hif.spiResp with
    | [] => s
    | m :: rest =>
      let seg := m.take 32768
      let more := m.drop 32768
      let s1 := { s with hif := { s.hif with outBuf := seg, spiResp := if more.isEmpty then rest else more :: rest
                                             spiFirst := more.isEmpty } }
      let word := seg.length % 0x10000 * 0x10000 + bit more.isEmpty * 4 + bit s.hif.spiFirst * 2 + 1
      (s1.setReg R.HIF_MB_OUT_STAT word).event F.HIF_EVT_OUT_VALID

/-- Delivers a response on its transport: SPI responses wait in order for the OUT region, bus responses go out at once or are held
while the transport is down (R441, R445). -/
def State.deliver (s : State) (t : Transport) (src : Nat) (m : Bytes) : State :=
  match t with
  | .spi => ({ s with hif := { s.hif with spiResp := s.hif.spiResp ++ [m] } }).placeOut
  | _ => if s.busUp t then { s with hif := { s.hif with busSent := some (t, busPayloads t m) } }
    else { s with hif := { s.hif with busResp := s.hif.busResp ++ [⟨t, m, s.mt, src⟩] } }

/-- Answers a command; a REASON that is HIF's own also stands in HIF_REASON. -/
def State.answer (s : State) (c : MbCmd) (reason : Nat) (out : Bytes) : State :=
  let op := msgOpcode c.message
  let s1 := (if reason / 256 = 16 then s.reason .hif reason else s).deliver c.transport c.src (mkResponse op reason (msgTag c.message) (s.mt % 2 ^ 32) out)
  (s1.setReg R.HIF_MB_LAST (op * 0x10000 + reason % 0x10000)).event F.HIF_EVT_MB_DONE

/-- Ends the executing command with its answer. -/
def State.finish (s : State) (reason : Nat) (out : Bytes) : State :=
  match s.hif.executing with
  | none => s
  | some c =>
    (({ s with hif := { s.hif with executing := none } }).putFlag F.HIF_STAT_MB_EXEC false).answer c reason out

/-- Runs an operation as the executing command `c`: the gate, the operation, the answer or its deferral. -/
def State.runAs (s : State) (c : MbCmd) (op : State → MbRes) : State :=
  let s1 := (({ s with hif := { s.hif with executing := some c } }).putFlag F.HIF_STAT_MB_EXEC true).touch
  let g := s1.mbGate (msgOpcode c.message) (msgInput c.message).length
  if g ≠ 0 then (if g = 0x1015 && msgOpcode c.message / 256 = 14 then s1.reason .upd 0x0E0D else s1).finish g []
  else
    let r := op s1
    if r.2.1 = mbDeferred then r.1 else r.1.finish r.2.1 r.2.2

/-- Puts a complete message into the command queue, or answers 0x1008 with a header only (R442). -/
def State.enqueue (s : State) (c : MbCmd) : State :=
  if 8 ≤ s.hif.queue.length then ((s.reason .hif 0x1008).event F.HIF_EVT_MB_REFUSED).answer c 0x1008 []
  else
    let q := s.hif.queue ++ [c]
    ({ s with hif := { s.hif with queue := q } }).put F.HIF_STAT_MB_QUEUED q.length

/-- A malformed message is discarded with 0x1009 and gets no response (R441). -/
def State.refuseMessage (s : State) : State := (s.reason .hif 0x1009).event F.HIF_EVT_MB_REFUSED

/-- A mailbox command of the table: its message has arrived over SPI with TAG 0. It executes at once unless a command is executing
or waiting, BROWNOUT holds new requests (R394) or a fuse blow runs (R266), and then joins the queue (R442). -/
def mailboxCommand (opcode : Nat) (input : Bytes) (op : State → MbRes) (s : State) : State :=
  let c : MbCmd := ⟨.spi, mkMessage opcode 0 input, 0⟩
  if 66560 < input.length then s.refuseMessage
  else if s.hif.executing.isSome || !s.hif.queue.isEmpty || s.flag F.PWR_STAT_BROWNOUT || s.keys.blow.isSome then s.enqueue c
  else s.runAs c op

end Sys2Proof.Machine
end

