-- ==== Sys2Proof/Machine/Network.lean ====
section
/-! DEFINITION. Chapter 1: what a network packet says and what its destination refuses, commit points and handover records, the
puppeteer's votes, the tiles. The way of a packet over the rings stands in Packets. -/
namespace Sys2Proof.Machine

open Sys2Proof

/-! ## Packets (R16 to R24) -/

/-- A field of a packet header (Table 1-2). -/
def pktField (p : Packet) (hi lo : Nat) : Nat := bits p.header.toNat hi lo

/-- The bytes that the trailer's CRC covers, each word least significant byte first (log entry 20). -/
def pktCovered (p : Packet) : Bytes := toLE 8 p.header.toNat ++ p.data.flatMap (fun w => toLE 8 w.toNat)

/-- Whether the trailer is right: the CRC-32C in its low word, 0 in its high word, and LEN data words. -/
def pktGood (p : Packet) : Bool :=
  p.data.length == pktField p 48 44 + 1 && p.trailer.toNat == (crc32c (pktCovered p)).toNat

/-- The OP values of Table 1-2; the others are dropped at the destination port. -/
def knownOp (op : Nat) : Bool := op ≤ 4 || op == 0xF

/-- The destination island: 15 is the active pair, whichever it is (R26). -/
def State.destOf (s : State) (p : Packet) : Nat := if pktField p 63 60 = 15 then 1 + s.activePair else pktField p 63 60

/-- The worlds a master may carry (Table 1-4): keeper, service. The storage controller's keeper world is bound to vault keyring
traffic, see `portKeeper`. -/
def masterWorld (m : Nat) : Bool × Bool :=
  match m with
  | 0 => (true, false) | 1 => (true, true) | 2 => (true, true) | 3 => (true, true) | 8 => (true, true)
  | 4 => (false, true) | 5 => (false, true) | 6 => (false, true) | 7 => (false, true) | 9 => (false, true)
  | _ => (false, false)

/-- The master code of the active pair. -/
def State.activeMaster (s : State) : Nat := 1 + s.activePair

/-- Whether a target admits a master (Table 1-5, R272 for a key of either world). -/
def State.admits (s : State) (t : Target) (master : Nat) : Bool :=
  match t with
  | .vaultKeyring => master == s.activeMaster || master == 8
  | .cipherKey masters _ => Nat.testBit masters master
  | .journalSigning => master == s.activeMaster
  | .releasePort => master == s.activeMaster
  | .pilotPort => master == s.activeMaster
  | .keeperSram => master == 1 || master == 2
  | .plain => true

/-- Whether a target admits the keeper world only. -/
def keeperOnly : Target → Bool
  | .plain => false
  | .cipherKey _ keeper => keeper
  | .vaultKeyring => true
  | .journalSigning => true
  | .releasePort => true
  | .pilotPort => true
  | .keeperSram => true

/-- A target that OFFSET itself makes keeper-only: the keeper partition of a core pair's SRAM (R23), whatever the port's decode says. -/
def State.targetOf (s : State) (p : Packet) : Target :=
  let d := s.destOf p
  if (d = 1 || d = 2) && p.target == .plain && decide (pktField p 31 0 < 0x80000) then .keeperSram else p.target

/-- The refusal of a request at its destination (R24), 0 none: failed island or pair, then world, then master (the order, and the code of
a world that the master may not carry, are log entry 142). A pair's keeper partition admits only that pair, and the puppeteer reads
nothing (R30). The release island's command port is reached through DEST 15 only. -/
def State.packetRefusal (s : State) (p : Packet) : Nat :=
  let d := s.destOf p
  let keeper := decide (pktField p 51 51 = 1)
  let pairDown := (d = 1 || d = 2) && 2 ≤ s.get (pairField (d - 1)) && !(s.net.loading == some (d == 2))
  let m := pktField p 55 52
  let t := s.targetOf p
  if s.islandFailed d || pairDown then 0x0123
  else if keeperOnly t && !keeper then 0x0121
  else if keeper && !(masterWorld m).1 then 0x0121
  else if !keeper && !(masterWorld m).2 then 0x0122
  else if !s.admits t m then 0x0122
  else if t == .keeperSram && m != d then 0x0122
  else if m = 0 && pktField p 43 40 = 0 then 0x0122
  else 0

/-! ## Commit points (R26, R27) -/

/-- COMMIT_POINT: the active pair writes a handover record. -/
def execCommitPoint (s : State) : Out := .next s.commitPoint

/-- HANDOVER_RECORD: the standby pair applies the oldest record of the staging area. -/
def execHandoverRecord (s : State) : Out :=
  .next (if !s.standbyReady then s else match s.net.records with
    | [] => s
    | n :: rest => { s with net := { s.net with records := rest, appliedNo := n, cmdApplied := s.net.cmdAt } })

/-- While the active pair runs it reaches a commit point at least every 10 ms (R27). -/
def State.commitDue (s : State) : State :=
  if s.island (1 + s.activePair) = 2 && s.net.lastCommit + 10000 ≤ s.mt then s.commitPoint else s

/-! ## The puppeteer's controllers (R29) -/

/-- A disagreeing controller is outvoted, reset and reloaded, or held out with 0x030F; the event is journaled. -/
def puppeteerOutvote (ctrl : Nat) (reloads : Bool) (s : State) : State :=
  let net := if reloads then { s.net with reloads := s.net.reloads + 1 }
    else { s.net with heldOut := if s.net.heldOut.contains ctrl then s.net.heldOut else s.net.heldOut ++ [ctrl] }
  let s1 := (({ s with net := net }).event F.PWR_EVT_PUPPET).reason .pwr 0x030F
  let s2 := if reloads then s1 else s1.redLoss 8
  s2.journal 0x0301 0x030F .pwr 0 (toLE 1 ctrl)

/-- PUPPETEER_OUTVOTE. -/
def execPuppeteerOutvote (ctrl : Fin 3) (reloads : Bool) (s : State) : Out := .next (puppeteerOutvote ctrl.val reloads s)

/-! ## Tiles (R33 to R35) -/

/-- The tile numbered `n`. -/
def State.tile (s : State) (n : Nat) : Tile := s.net.tiles.getD n .reset

/-- Replaces a tile. -/
def State.setTile (s : State) (n : Nat) (t : Tile) : State := { s with net := { s.net with tiles := s.net.tiles.set n t } }

/-- Whether tile job `a` goes before `b`: higher priority class, then earlier arrival (R33). -/
def jobBefore (a b : TileJob) : Bool := a.prio < b.prio || (a.prio == b.prio && a.arrival < b.arrival)

/-- The job to place next among those waiting. -/
def nextJob : List TileJob → Option TileJob
  | [] => none
  | j :: js => match nextJob js with
    | none => some j
    | some k => if jobBefore k j then some k else some j

/-- A tile takes a job; a change of world wipes its SRAM first (R23). -/
def Tile.take (t : Tile) (j : TileJob) : Tile :=
  { t with job := some j, slice := none, world := some j.world
           wiped := if t.world.isSome && t.world != some j.world then t.wiped + 1 else t.wiped }

/-- The island of an SRAM word's key (log entry 144). -/
def sramIsland (k : Nat) : Nat := k / 2 ^ 20

/-- The SRAM of an island reads 0 again. -/
def State.wipeSram (s : State) (i : Nat) : State :=
  { s with net := { s.net with sram := s.net.sram.filter (fun x => sramIsland x.1 != i) } }

/-- The tile numbered `n` readies itself for a job of a world: a change of world wipes its SRAM (R23). -/
def State.tileWorld (s : State) (n : Nat) (w : World) : State :=
  if (s.tile n).world.isSome && (s.tile n).world != some w then s.wipeSram (3 + n) else s

/-- Whether a tile works and has nothing to do. -/
def Tile.idle (t : Tile) : Bool := !t.failed && t.job.isNone && t.slice.isNone

/-- The lowest-numbered tile that is free, its island in RUN: a tile in NAP holds no job (R215). -/
def State.freeTile (s : State) : Option Nat := [0, 1, 2, 3].find? (fun n => (s.tile n).idle && s.island (3 + n) == 2)

/-- Whether background tile work may run: governor step 1 stops it (Table 14-7). -/
def State.backgroundOk (s : State) : Bool := decide (s.get F.PWR_STAT_GOV_STEP < 1)

/-- Places waiting session jobs on free tiles, the next job on the lowest-numbered free tile; the count bounds the placements. -/
def placeJobs : Nat → State → State
  | 0, s => s
  | n + 1, s =>
    match s.freeTile, nextJob s.net.jobs with
    | some k, some j =>
      let s1 := (s.tileWorld k j.world).setTile k ((s.tile k).take j)
      placeJobs n { s1 with net := { s1.net with jobs := s1.net.jobs.erase j } }
    | _, _ => s

/-- Background work runs in the keeper world, as the job of Sequence 1-1 does (log entry 145). -/
def backWorld (_ : BackKind) : World := .keeper

/-- Starts background work on free tiles while no session job waits (R34). -/
def placeBackground (s : State) : State :=
  if !s.net.jobs.isEmpty || !s.backgroundOk then s
  else match s.freeTile, s.net.background with
    | some k, b :: rest =>
      let t := s.tile k
      let s1 := (s.tileWorld k (backWorld b)).setTile k
        { t with slice := some b, world := some (backWorld b)
                 wiped := if t.world.isSome && t.world != some (backWorld b) then t.wiped + 1 else t.wiped }
      { s1 with net := { s1.net with background := rest } }
    | _, _ => s

/-- TILE_FREE: the highest-priority waiting job goes to the lowest-numbered free tile; without one, background work resumes. -/
def execTileFree (tile : Fin 4) (s : State) : Out :=
  .next (let t := s.tile tile.val
    if t.failed || t.job.isSome || t.slice.isSome then s else placeBackground (placeJobs 4 s))

end Sys2Proof.Machine
end

