-- ==== Sys2Proof/Machine/Storage.lean ====
section
/-! DEFINITION. Chapter 11: vault banks, dies and the storage controller, the journal drain and checkpoints, captures, host
streams, the storage read window, scrub and refresh, the power-fail sequence, MT reservations. -/
namespace Sys2Proof.Machine

open Sys2Proof

/-- 24 h of MT in us. -/
def dayUs : Nat := 86400000000

/-! ## Media (R299, R300, R323, R325, R326) -/

/-- Journals a storage event with its die and range (Table 11-7, TYPE 0x0C01). -/
def State.stoEvent (s : State) (code die first last : Nat) : State :=
  s.journal 0x0C01 code .sto 0 (toLE 2 code ++ toLE 1 die ++ toLE 8 first ++ toLE 8 last)

/-- Journals the loss of a range of positions on a failed die, once per region with a loss. -/
def State.lossEvent (s : State) (die : Nat) (positions : List Nat) : State :=
  match positions, positions.getLast? with
  | f :: _, some l => s.stoEvent 0x0C03 die f l
  | _, _ => s

/-- A die fails (R325): its single-copy records are lost, the mirrored regions continue; the second die takes the NAND down (R326). -/
def dieFail (d : Nat) (s : State) : State :=
  if (s.die d).failed then s
  else
    let s1 := (s.setDie d { s.die d with failed := true }).event F.STO_EVT_MEDIA_FAIL
    let s1 := (s1.putFlag (F.STO_DIEn_STAT_FAILED d) true).putFlag (F.STO_DIEn_STAT_UP d) false
    let s1 := s1.putFlag (if d = 0 then F.STO_STAT_DIE0_OK else F.STO_STAT_DIE1_OK) false
    if s1.nand.dies.all (·.failed) then
      (s1.reason .sto 0x0C04).putFlag F.STO_STAT_VAULT_PORT true
    else
      let lostJ := (s1.nand.journal.filter (fun e => journalDie e.seq == d)).map (·.seq)
      let lostC := (s1.nand.captures.filter (fun c => c.die == d)).map (·.number)
      let streams := s1.nand.streams.map (fun st => { st with records := st.records.filter (fun r => r.die != d) })
      let lostS := s1.nand.streams.flatMap (fun st => (st.records.filter (fun r => r.die == d)).map (·.number))
      let s2 := { s1 with nand := { s1.nand with
        journal := s1.nand.journal.filter (fun e => journalDie e.seq != d)
        captures := s1.nand.captures.filter (fun c => c.die != d)
        streams := streams } }
      let s3 := ((s2.reason .sto 0x0C03).redLoss 5).dropIntervals
      let s4 := if lostC.isEmpty then s3 else s3.event F.STO_EVT_CAP_LOST
      ((s4.lossEvent d lostJ).lossEvent d lostC).lossEvent d lostS

/-- DIE_FAIL (R325, R326). -/
def execDieFail (die : Fin 2) (s : State) : Out := .next (dieFail die.val s)

/-- A block whose program or erase fails is retired; the 64th within 24 h fails the die (R323, R325). -/
def blockRetired (d : Nat) (s : State) : State :=
  let x := s.die d
  if x.failed then s
  else
    let times := (x.times.filter (fun t => s.mt < t + dayUs)) ++ [s.mt]
    let y : Die := { x with retired := x.retired + 1, spare := x.spare - 1, times := times }
    let s1 := ((s.setDie d y).event F.STO_EVT_BLOCK_RETIRED).reason .sto 0x0C06
    let s2 := (s1.put (F.STO_DIEn_STAT_SPARE d) y.spare).put (F.STO_DIEn_STAT_RETIRED d) y.retired
    let s3 := if y.spare < 256 then s2.reason .sto 0x0C13 else s2
    if 64 ≤ times.length then dieFail d s3 else s3

/-- BLOCK_RETIRED (R323). -/
def execBlockRetired (die : Fin 2) (s : State) : Out := .next (blockRetired die.val s)

/-- A vault bank fails: at once after 2 retries, or at the second uncorrectable word within 24 h of MT (R299). The keyring reports
0x0B0A; the loss of the second bank takes STO down with 0x0C02. -/
def vaultBankFail (b : Nat) (retries : Bool) (s : State) : State :=
  let failed := if b = 0 then s.vault.bank0Failed else s.vault.bank1Failed
  if failed then s
  else
    let errs := ((s.vault.bankErrs.getD b []).filter (fun t => s.mt < t + dayUs)) ++ [s.mt]
    let s0 := if retries then s else { s with vault := { s.vault with bankErrs := s.vault.bankErrs.set b errs } }
    if !retries && errs.length < 2 then s0
    else
      let v := if b = 0 then { s0.vault with bank0Failed := true } else { s0.vault with bank1Failed := true }
      let s1 := ({ s0 with vault := v }).event F.STO_EVT_MEDIA_FAIL
      let s2 := s1.putFlag (if b = 0 then F.STO_STAT_BANK0_OK else F.STO_STAT_BANK1_OK) false
      let s3 := ((s2.event F.KEY_EVT_BANK_FAIL).reason .key 0x0B0A).redLoss 4
      if s3.vaultUp then s3.reason .sto 0x0C01 else s3.goDown .sto 0x0C02

/-- VAULT_BANK_FAIL (R299). -/
def execVaultBankFail (bank : Fin 2) (retries : Bool) (s : State) : Out := .next (vaultBankFail bank.val retries s)

/-- CONTROLLER_FAIL: the vault port takes over; STO stays enabled in vault-only operation (R300). -/
def execControllerFail (s : State) : Out :=
  .next (if s.vault.ctrlFailed then s else
    let s1 := { s with vault := { s.vault with ctrlFailed := true } }
    (((s1.putFlag F.STO_STAT_CTRL_OK false).putFlag F.STO_STAT_VAULT_PORT true).event F.STO_EVT_MEDIA_FAIL).reason .sto 0x0C05)

/-- Shows the media in STO_STAT and the die registers when STO is enabled. -/
def State.showMedia (s : State) : State :=
  let d0 := s.die 0
  let d1 := s.die 1
  let vp := s.vault.ctrlFailed || (d0.failed && d1.failed)
  let s1 := (s.putFlag F.STO_STAT_BANK0_OK (!s.vault.bank0Failed)).putFlag F.STO_STAT_BANK1_OK (!s.vault.bank1Failed)
  let s2 := (s1.putFlag F.STO_STAT_DIE0_OK (!d0.failed)).putFlag F.STO_STAT_DIE1_OK (!d1.failed)
  let s3 := (s2.putFlag F.STO_STAT_CTRL_OK (!s.vault.ctrlFailed)).putFlag F.STO_STAT_VAULT_PORT vp
  let w := fun (x : Die) => x.spare * 0x40000 + x.retired * 0x10 + bit x.failed * 2 + bit (!x.failed)
  ((s3.setReg (R.STO_DIEn_STAT 0) (w d0)).setReg (R.STO_DIEn_STAT 1) (w d1)).setReg R.STO_HOLDUP s.vault.holdup

/-! ## The NAND queue of each die (R305)

A drain waits as its complete page in staging, a checkpoint among those due, a capture among those pending; the other requests stand in
`sto.queue`. Classes: 2 journal drain and checkpoints, 3 capture programs, 4 host vault writes and window loads, 5 garbage collection,
scrub and refresh. A firmware page-in, class 1, is served at once by the command that brings it. -/

/-- Whether the NAND takes writes: reachable, STO enabled and no brown-out (R394). -/
def State.nandWrites (s : State) : Bool := s.nandUp && s.enabled .sto && !s.flag F.PWR_STAT_BROWNOUT

/-- The die for a host record, chosen by wear: the surviving die with fewer erases; a tie goes to die 0 (Table 11-4, log entry 167). -/
def State.wearDie (s : State) : Nat :=
  if (s.die 0).failed then 1
  else if (s.die 1).failed then 0
  else if (s.die 1).erases < (s.die 0).erases then 1 else 0

/-- The dies in use. -/
def State.diesUp (s : State) : List Nat := [0, 1].filter (fun d => !(s.die d).failed)

/-- The dies that a request uses. -/
def State.reqDies (s : State) : StoReq → List Nat
  | .append _ _ _ => [s.wearDie].filter (fun d => !(s.die d).failed)
  | .load => s.diesUp
  | .slice _ _ _ => s.diesUp
  | .collect d => [d].filter (fun d => !(s.die d).failed)
  | .reseal => [s.update.blocks % 2].filter (fun d => !(s.die d).failed)

/-- The class of a request: garbage collection rises to class 2 on a die with fewer than 64 erased blocks. -/
def State.reqClassSto (s : State) : StoReq → Nat
  | .append _ _ _ => 4
  | .load => 4
  | .slice _ _ _ => 5
  | .collect d => if (s.die d).erased < 64 then 2 else 5
  | .reseal => 5

/-- Whether the rate of R318 lets a request start: an append waits for the end of the one before it. -/
def State.rateFree (s : State) : StoReq → Bool
  | .append _ _ _ => decide (s.sto.hostUntil ≤ s.mt)
  | _ => true

/-- Whether a checkpoint can be made: one is due, JK stands in the keyring, the entropy source serves (R314, R258). -/
def State.ckptReady (s : State) : Bool :=
  !s.sto.ckptDue.isEmpty && (s.keyRec? 6 0).isSome && !s.flag F.SYM_ENT_FAILED && s.nandWrites

/-- The page that the drain takes next, once it is complete. -/
def State.drainReady (s : State) : Option Nat :=
  match s.oldestPage with
  | some k => if s.pageComplete k && s.nandWrites then some k else none
  | none => none

/-- The oldest capture whose trailer is written, or whose ANALYSIS_WAIT_MS have passed (R316). -/
def State.capReady (s : State) : Option Capture :=
  if s.nandWrites then s.sto.pendingCaps.find? (fun c => c.trailer.isSome || decide (c.mt + 1000 * s.setting 0x0C03 1000 ≤ s.mt)) else none

/-- Whether a request of class `c` waits for die `d`. -/
def State.waits (s : State) (d c : Nat) : Bool :=
  (c == 2 && (s.ckptReady || (match s.drainReady with | some k => s.pageDie k == d | none => false)))
    || (c == 3 && (match s.capReady with | some x => x.die == d | none => false))
    || s.sto.queue.any (fun r => s.reqClassSto r == c && (s.reqDies r).contains d && s.rateFree r)

/-- How many requests of higher classes in a row die `d` has served while class `c` waited. -/
def State.runsOf (s : State) (d c : Nat) : Nat := (s.die d).runs.getD c 0

/-- Whether class `c` has the next slot of die `d`: nothing higher waits, or 32 higher requests in a row have been served; and no lower
class has come to its slot so. -/
def State.dieTurn (s : State) (d c : Nat) : Bool :=
  (decide (32 ≤ s.runsOf d c) || (List.range c).all (fun k => !s.waits d k))
    && [3, 4, 5].all (fun k => decide (k ≤ c) || decide (s.runsOf d k < 32) || !s.waits d k)

/-- Die `d` serves a request of class `c`: each lower class that waits counts one more, the others start afresh. -/
def State.served (s : State) (d c : Nat) : State :=
  s.setDie d { s.die d with runs := (List.range 6).map (fun k =>
    if c < k && s.waits d k then s.runsOf d k + 1 else if k < c then s.runsOf d k else 0) }

/-- A request on several dies is served. -/
def State.servedOn (s : State) (dies : List Nat) (c : Nat) : State := dies.foldl (fun (t : State) d => t.served d c) s

/-- Whether a queued request starts now: it has the slot of every die that it uses. -/
def State.takes (s : State) (r : StoReq) : Bool := s.rateFree r && (s.reqDies r).all (fun d => s.dieTurn d (s.reqClassSto r))

/-- An erase of a collected block (R323): the erase counts of a die's blocks stay level. -/
def State.collectBlock (s : State) (d : Nat) : State :=
  s.setDie d { s.die d with erased := (s.die d).erased + 1, erases := (s.die d).erases + 1 }

/-! ## Journal drain, acknowledgement and checkpoints (R312 to R315) -/

/-- JOURNAL_DRAIN: the oldest complete page is programmed to region 4 and its slots freed; a program failure retires the block and
leaves the entries in staging (Table 11-14). It waits for its slot of the die (R305). -/
def journalDrain (programOk : Bool) (s : State) : State :=
  match s.drainReady with
  | none => s
  | some k =>
    let d := s.pageDie k
    if !s.dieTurn d 2 then s
    else if programOk then (((s.served d 2).drainPage).commitPoint).touch
    else blockRetired d (s.served d 2)

/-- JOURNAL_DRAIN. -/
def execJournalDrain (programOk : Bool) (s : State) : Out := .next (journalDrain programOk s)

/-- STO_JRNL_ACK is taken when its high word is written (R315). -/
def jrnlAck (hi : Nat) (s : State) : State :=
  let s1 := s.setReg R.STO_JRNL_ACK_HI hi
  ({ s1 with vault := { s1.vault with ack := s1.reg R.STO_JRNL_ACK_LO + hi * 2 ^ 32 } }).refreshWarn

/-- JRNL_ACK. -/
def execJrnlAck (hi : Word) (s : State) : Out := .next (jrnlAck hi.toNat s)

/-- Indices of the keys the Untur creates among the kind-6 records: JK, KXK, PXK (log entry 21). -/
def jkIndex : Nat := 0
def kxkIndex : Nat := 1
def pxkIndex : Nat := 2

/-- The signed part of a checkpoint (Table 11-8). -/
def State.ckptBody (s : State) (index : Nat) (h : Bytes) (jkPub : Bytes) : Bytes :=
  let prev := match s.nand.ckpts.getLast? with
    | some c => if index = 0 then zeros 64 else padTo 64 (Crypto.sha512 (c.bytes.take 0x144))
    | none => zeros 64
  toLE 4 0x4A434B50 ++ toLE 2 1 ++ toLE 1 s.fuses.epochNo ++ toLE 1 s.sys.sv ++ toLE 4 s.vault.deviceTag
    ++ toLE 4 (s.secLE 1 0x20 4 0) ++ toLE 8 index ++ toLE 8 (4096 * index + 4095) ++ toLE 8 s.mt
    ++ padTo 8 (Crypto.sha512 jkPub) ++ padTo 64 h ++ prev ++ zeros 16

/-- CHECKPOINT: the next due checkpoint is signed by JK and stored on both dies; it waits for JK and for the NAND (R314). -/
def checkpoint (s : State) : State :=
  match s.sto.ckptDue, s.keyRec? 6 jkIndex with
  | (i, h) :: rest, some jk =>
    if !s.ckptReady || !s.diesUp.all (fun d => s.dieTurn d 2) then s
    else
      let s := s.servedOn s.diesUp 2
      let body := s.ckptBody i h jk.pub
      let (sig, s1) := s.sign jk.key (Crypto.sha512 body)
      let all := s1.nand.ckpts ++ [⟨i, body ++ sig ++ zeros 60⟩]
      let s2 := { s1 with
        nand := { s1.nand with ckpts := all.drop (all.length - 131072), written := s1.nand.written + 384 }
        sto := { s1.sto with ckptDue := rest } }
      ((s2.program 0 0 1).event F.STO_EVT_CHECKPOINT).setReg R.STO_CKPT i
  | _, _ => s

/-- CHECKPOINT. -/
def execCheckpoint (s : State) : Out := .next (checkpoint s)

/-! ## Captures (R316, R317) -/

/-- Captures that may wait unprogrammed: 8, or 2 while storage buffers are reduced. -/
def State.capturePlaces (s : State) : Nat := if s.flag F.STO_STAT_BUF_REDUCED then 2 else 8

/-- The frames that region 5 holds: 25,600, half once a die has failed. -/
def State.captureCap (s : State) : Nat := if s.nand.dies.any (·.failed) then 12800 else 25600

/-- The die with fewer capture pages queued; a tie goes to die 0; a failed die takes none (Table 11-4). -/
def State.captureDie (s : State) : Nat :=
  let q := fun d => (s.sto.pendingCaps.filter (fun c => c.die == d)).length
  if (s.die 0).failed then 1 else if (s.die 1).failed then 0 else if q 1 < q 0 then 1 else 0

/-- Accepts a capture into a storage buffer and commits its journal entry. -/
def State.acceptCapture (s : State) (w : CapWait) : State :=
  let n := s.vault.captureNo
  let c : Capture := { number := n, session := w.session, seq := s.vault.nextSeq, mt := s.mt, bytes := padTo 0x9500 w.bytes
                       added := w.added, trailer := none, pinned := false, die := s.captureDie }
  let s1 := { s with vault := { s.vault with captureNo := n + 1 }
                     sto := { s.sto with pendingCaps := s.sto.pendingCaps ++ [c] } }
  let s2 := s1.journal 0x0702 0 .rng (bit (Nat.testBit (u8 w.bytes 7) 4)) (toLE 4 n ++ toLE 4 w.session ++ padTo 32 (Crypto.sha512 c.bytes))
  (s2.setReg R.STO_CAP_NEW n).setReg R.STO_CAP_OLD
    (match s2.nand.captures with | x :: _ => x.number | [] => match s2.sto.pendingCaps with | x :: _ => x.number | [] => 0)

/-- ANALYSIS_DONE: the analysis trailer of a capture not yet programmed (R202, R204, R316). -/
def execAnalysisDone (capture : BitVec 32) (s : State) : Out :=
  .next { s with sto := { s.sto with pendingCaps := s.sto.pendingCaps.map (fun c =>
    if c.number = capture.toNat && c.trailer.isNone then
      { c with trailer := some (padTo 256 (toLE 8 c.added ++ toLE 8 s.mt)) } else c) } }

/-- A frame joins region 5; a full region drops its oldest frame that is not pinned (R317). -/
def State.storeCapture (s : State) (c : Capture) : State :=
  let kept := if s.nand.captures.length < s.captureCap then s.nand.captures
    else s.nand.captures.eraseP (fun x => !x.pinned)
  let all := kept ++ [{ c with trailer := some (c.trailer.getD (zeros 256)) }]
  let s1 := ({ s with nand := { s.nand with captures := all, written := s.nand.written + 40960 } }).program 5 c.die 10
  match all with | x :: _ => s1.setReg R.STO_CAP_OLD x.number | [] => s1

/-- CAPTURE_PROGRAM: the oldest capture whose trailer is written, or whose ANALYSIS_WAIT_MS have passed, is programmed. -/
def captureProgram (programOk : Bool) (s : State) : State :=
  match s.capReady with
  | none => s
  | some c =>
    if !s.dieTurn c.die 3 then s
    else if !programOk then blockRetired c.die (s.served c.die 3)
    else
      let s1 := s.served c.die 3
      let s2 := { s1 with sto := { s1.sto with pendingCaps := s1.sto.pendingCaps.eraseP (fun x => x.number == c.number) } }
      s2.storeCapture c

/-- CAPTURE_PROGRAM (R316). -/
def execCaptureProgram (programOk : Bool) (s : State) : Out := .next (captureProgram programOk s)

/-- PIN_MAX of STORAGE (R329). -/
def State.pinMax (s : State) : Nat := s.secLE 0x0D 1 1 16

/-- Pins or unpins a kept capture. -/
def State.setPin (s : State) (n : Nat) (b : Bool) : State :=
  let f := fun (c : Capture) => if c.number = n then { c with pinned := b } else c
  { s with nand := { s.nand with captures := s.nand.captures.map f }
           sto := { s.sto with pendingCaps := s.sto.pendingCaps.map f } }

/-- Whether a capture is kept. -/
def State.hasCapture (s : State) (n : Nat) : Bool := (s.nand.captures ++ s.sto.pendingCaps).any (fun c => c.number == n)

/-- The pin command: 0x0C0F for a capture not kept, 0x0C16 beyond PIN_MAX (R317). -/
def capturePinOp (n : Nat) (s : State) : MbRes :=
  let all := s.nand.captures ++ s.sto.pendingCaps
  if !s.hasCapture n then mbFail s .sto 0x0C0F
  else if all.any (fun c => c.number == n && c.pinned) then mbOk s []
  else if s.pinMax ≤ (all.filter (·.pinned)).length then mbFail s .sto 0x0C16
  else mbOk (s.setPin n true) []

/-- The unpin command. -/
def captureUnpinOp (n : Nat) (s : State) : MbRes :=
  if s.hasCapture n then mbOk (s.setPin n false) [] else mbFail s .sto 0x0C0F

/-- CAPTURE_PIN. -/
def execCapturePin (capture : BitVec 32) (s : State) : Out :=
  .next (mailboxCommand 0x0C03 (toLE 4 capture.toNat) (capturePinOp capture.toNat) s)

/-- CAPTURE_UNPIN. -/
def execCaptureUnpin (capture : BitVec 32) (s : State) : Out :=
  .next (mailboxCommand 0x0C04 (toLE 4 capture.toNat) (captureUnpinOp capture.toNat) s)

/-! ## Host streams and notes (R318, R324, R329) -/

/-- The definition of a host stream: quota in MiB, MODE, TRIM permitted. Without STORAGE there is one stream. -/
def State.streamDef (s : State) (k : Nat) : Option (Nat × Nat × Bool) :=
  match s.section? 0x0D with
  | none => if k = 0 then some (1792, 0, true) else none
  | some b => if k < u8 b 0 then some (le b (8 + 8 * k) 2, u8 b (10 + 8 * k), Nat.testBit (u8 b (11 + 8 * k)) 0) else none

/-- Records that a stream may hold: one 4 KiB unit each, half once a die has failed. -/
def State.streamCap (s : State) (quota : Nat) : Nat := if s.nand.dies.any (·.failed) then quota * 128 else quota * 256

/-- The stream numbered `k`. -/
def State.stream (s : State) (k : Nat) : Stream := s.nand.streams.getD k ⟨0, []⟩

/-- Replaces a stream. -/
def State.setStream (s : State) (k : Nat) (x : Stream) : State := { s with nand := { s.nand with streams := s.nand.streams.set k x } }

/-- The write budget: 8 GiB per day of MT since FIELD, and 256 GiB (R324). -/
def State.budget (s : State) : Nat :=
  let days := match s.vault.fieldMt with | some t => (s.mt - t) / dayUs | none => 0
  8 * 2 ^ 30 * days + 256 * 2 ^ 30

/-- Whether host vault appends are held: by the budget, or by the reseal of Sequence 11-2. -/
def State.heldNow (s : State) : Bool := decide (s.budget < s.nand.written) || s.sto.reseal.isSome

/-- What refuses an append: a stream not defined 0x0C0C, the NAND down 0x0C03, a full stream of MODE 1 0x0C0B. -/
def State.appendRefusal (s : State) (k : Nat) : Option Nat :=
  match s.streamDef k with
  | none => some 0x0C0C
  | some (quota, mode, _) =>
    if !s.nandUp then some 0x0C03
    else if mode = 1 && s.streamCap quota ≤ (s.stream k).records.length then some 0x0C0B else none

/-- The bytes per us at which appends run: 12, and 6 while storage buffers are reduced (R318, R32); 4 from governor step 1 on (Table
14-7), 2 with shared memory failed (Table 14-11). -/
def State.hostRate (s : State) : Nat :=
  if s.islandFailed 7 then 2
  else if s.get F.PWR_STAT_GOV_STEP ≠ 0 then 4
  else if s.flag F.STO_STAT_BUF_REDUCED then 6 else 12

/-- An append has its slot: the record is programmed to the die chosen by wear; a failed program retires the block and the record goes to
another one (R323). -/
def State.appendNow (s : State) (k : Nat) (data : Bytes) (storeOk : Bool) : MbRes :=
  match s.appendRefusal k, s.streamDef k with
  | some c, _ => mbFail s .sto c
  | none, none => mbFail s .sto 0x0C0C
  | none, some (quota, _, _) =>
    let st := s.stream k
    let d := s.wearDie
    let kept := if s.streamCap quota ≤ st.records.length then st.records.drop 1 else st.records
    let s1 := (s.setStream k ⟨st.next + 1, kept ++ [⟨st.next, data, d⟩]⟩).program 6 d 1
    let s2 := { s1 with
      nand := { s1.nand with written := s1.nand.written + 4096 }
      sto := { s1.sto with hostUntil := s.mt + (data.length + s.hostRate - 1) / s.hostRate
                           heldUntil := if s.heldNow then s.mt + data.length else s1.sto.heldUntil } }
    mbOk (if storeOk then s2 else blockRetired d s2) (toLE 8 st.next)

/-- The stream append command (Table 11-9). While held, appends pass at 1 MB/s, one byte per us (R324). It waits in the NAND queue of its
die for its slot (R305). -/
def streamAppendOp (k : Nat) (data : Bytes) (storeOk : Bool) (s : State) : MbRes :=
  if data.length = 0 || 4080 < data.length then mbRefuse s 0x100C
  else
    let s0 := if (s.streamDef k).isSome then s.putFlag F.STO_STAT_HELD s.heldNow else s
    let r : StoReq := .append k data storeOk
    match s0.appendRefusal k with
    | some c => mbFail s0 .sto c
    | none =>
      if s0.heldNow && decide (s.mt < s.sto.heldUntil) then mbFail s0 .sto 0x0C0D
      else if s0.takes r then (s0.servedOn (s0.reqDies r) 4).appendNow k data storeOk
      else ({ s0 with sto := { s0.sto with queue := s0.sto.queue ++ [r] } }, mbDeferred, [])

/-- STREAM_APPEND. -/
def execStreamAppend (stream : BitVec 8) (data : Bytes) (env : Env) (s : State) : Out :=
  .next (mailboxCommand 0x0C01 (toLE 1 stream.toNat ++ data) (streamAppendOp stream.toNat data env.storeOk) s)

/-- The stream trim command: the records before `record` go; the answer is the oldest record kept. -/
def streamTrimOp (k record : Nat) (s : State) : MbRes :=
  match s.streamDef k with
  | none => mbFail s .sto 0x0C0C
  | some (_, _, trim) =>
    let st := s.stream k
    if !trim then mbFail s .sto 0x0C17
    else if st.next < record then mbFail s .sto 0x0C0C
    else
      let kept := st.records.filter (fun r => record ≤ r.number)
      mbOk (s.setStream k { st with records := kept }) (toLE 8 (match kept with | r :: _ => r.number | [] => st.next))

/-- STREAM_TRIM. -/
def execStreamTrim (stream : BitVec 8) (record : BitVec 64) (s : State) : Out :=
  .next (mailboxCommand 0x0C02 (toLE 1 stream.toNat ++ toLE 8 record.toNat) (streamTrimOp stream.toNat record.toNat) s)

/-- The host note command: a journal entry of TYPE 0x1001 with HOST set; the answer is its SEQ. -/
def hostNoteOp (data : Bytes) (s : State) : MbRes :=
  if data.length = 0 || 80 < data.length then mbRefuse s 0x100C
  else mbOk (s.journal 0x1001 0 .sto 2 data) (toLE 8 s.vault.nextSeq)

/-- HOST_NOTE. -/
def execHostNote (data : Bytes) (s : State) : Out := .next (mailboxCommand 0x0C05 data (hostNoteOp data) s)

/-! ## The storage read window (R319) -/

/-- A unit of a host stream as the window shows it (R318): record number, length, CRC-32C, data. -/
def streamUnit (r : HostRec) : Bytes :=
  padTo 4096 (toLE 8 r.number ++ toLE 4 r.data.length ++ toLE 4 (crc32c r.data).toNat ++ r.data)

/-- A capture frame (R316). -/
def captureFrame (c : Capture) : Bytes :=
  padTo 40960 (padTo 0x9500 c.bytes ++ padTo 256 (c.trailer.getD [])
    ++ (toLE 4 0x46415043 ++ toLE 4 c.number ++ toLE 4 c.session ++ toLE 8 c.seq ++ toLE 8 c.mt ++ zeros 36))

/-- A settings copy of region 3 as bytes: per setting the ID, 2 bytes of 0, the value (log entry 22). -/
def settingsCopy (vals : List (Nat × Nat)) : Bytes := vals.flatMap (fun (i, v) => toLE 2 i ++ toLE 2 0 ++ toLE 4 v)

/-- The journal entries that the window can show, staged ones included, in SEQ order. -/
def State.journalAll (s : State) : List JEntry :=
  let st := s.vault.staging
  let gap := match st.gap with | some g => [gapEntry g s.mt] | none => []
  (if s.nandUp then s.nand.journal else []) ++ st.kept.map (·.entry) ++ gap ++ st.ring.map (·.entry)

/-- The outcome of a window load: reason and bytes. Regions 3 to 6 sealed at a version above SV do not open (R270). -/
def State.windowLoad (s : State) (stream pos lo hi : Nat) : Nat × Bytes :=
  if stream ≠ 1 && s.nandUp && s.sys.sv < s.nand.sealS then (0x0B07, [])
  else
  let down := if s.nand.dies.all (·.failed) then 0x0C04 else 0x0C05
  match stream with
  | 0 =>
    if s.vault.nextSeq ≤ pos then (0x0C10, [])
    else if pos < s.nand.oldest then (0x0C0F, [])
    else (0, (((s.journalAll.filter (fun e => pos ≤ e.seq)).take 1024).flatMap (·.bytes)))
  | 1 =>
    if !s.nandUp then (down, [])
    else match s.nand.ckpts, s.nand.ckpts.getLast? with
      | f :: _, some l => if l.index < pos then (0x0C10, []) else if pos < f.index then (0x0C0F, [])
        else (0, ((s.nand.ckpts.filter (fun c => pos ≤ c.index)).take 341).flatMap (·.bytes))
      | _, _ => (0x0C10, [])
  | 2 =>
    if s.vault.captureNo ≤ pos then (0x0C10, [])
    else match (if s.nandUp then s.nand.captures else []).find? (fun c => c.number == pos), s.sto.pendingCaps.find? (fun c => c.number == pos) with
      | some c, _ => (0, captureFrame c)
      | none, some c => (0, captureFrame c)
      | none, none => (0x0C0F, [])
  | 3 =>
    if !s.nandUp then (down, [])
    else if lo % 131072 ≠ 0 then (0x0C10, [])
    else
      let item := if hi < 64 then (s.nand.settings[hi]?).map settingsCopy else if hi < 72 then s.nand.images[hi - 64]? else none
      match item with
      | none => (0x0C10, [])
      | some b => if b.length ≤ lo then (0x0C10, []) else (0, slice b lo 131072)
  | n =>
    let k := n - 16
    if !s.nandUp then (down, [])
    else
      let st := s.stream k
      if (s.streamDef k).isNone then (0x0C0C, [])
      else if st.next ≤ pos then (0x0C10, [])
      else match st.records with
        | [] => (0x0C0F, [])
        | f :: _ => if pos < f.number then (0x0C0F, [])
          else (0, ((st.records.filter (fun r => pos ≤ r.number)).take 32).flatMap streamUnit)

/-! ## Scrub and refresh (R320 to R322) -/

/-- Starts a scrub pass. -/
def scrubNow (s : State) : State := { s with sto := { s.sto with scrubPos := some 0 } }

/-- SCRUB_NOW. -/
def execScrubNow (s : State) : Out := .next (scrubNow s)

/-- What one page of a slice brings about (R320). -/
def scrubPage (s : State) (p : PageFact) : State :=
  match p with
  | .corrected n => if 36 < n then (s.bump F.STO_CNT_SCRUBBED).bump F.STO_CNT_REFRESHED else s
  | .rebuilt => ((s.reason .sto 0x0C07).bump F.STO_CNT_REBUILT).bump F.STO_CNT_REFRESHED
  | .lost pos => ((s.reason .sto 0x0C08).event F.STO_EVT_PAGE_LOST).stoEvent 0x0C08 0 pos pos

/-- The map delta log is folded into the metadata region (R297, R307). -/
def State.foldMap (s : State) : State :=
  { s with nand := { s.nand with mapFolded := s.nand.mapFolded + s.vault.mapDeltas }, vault := { s.vault with mapDeltas := 0 } }

/-- One slice, when a pass runs or is due under SCRUB_DAYS, or blocks are past their refresh interval; it also folds the map deltas
(log entry 167). -/
def State.scrubSlice (s : State) (pages : List PageFact) (aged : Nat) (passEnds : Bool) : State :=
  let due := s.sto.scrubPos.isSome || decide (s.sto.scrubMt + s.setting 0x0C01 7 * dayUs ≤ s.mt)
  let s1 := (s.foldMap).bumpBy F.STO_CNT_REFRESHED aged
  if !due then s1
  else
    let s2 := pages.foldl scrubPage s1
    if passEnds then { s2 with sto := { s2.sto with scrubPos := none, scrubMt := s2.mt } }
    else { s2 with sto := { s2.sto with scrubPos := some (s2.sto.scrubPos.getD 0 + pages.length) } }

/-! ## Serving the queue (R305) -/

/-- The blocks of regions 3 to 6: the raw use of Table 11-3, 4224 MiB (R424, log entry 172). -/
def resealBlocks : Nat := 16896

/-- A block is relocated under the key of SV: it is programmed to an erased block and the old one erased. -/
def State.resealBlock (s : State) : State :=
  let s1 := (s.reqDies .reseal).foldl (fun (t : State) d => t.setDie d { t.die d with erases := (t.die d).erases + 1 }) s
  { s1 with update := { s1.update with blocks := s1.update.blocks + 1 }, sto := { s1.sto with resealAt := s1.mt + 32768 } }

/-- A queued request is served. -/
def State.serve (s : State) (r : StoReq) : State :=
  let s1 := s.servedOn (s.reqDies r) (s.reqClassSto r)
  match r with
  | .append k data ok =>
    let x := s1.appendNow k data ok
    x.1.finish x.2.1 x.2.2
  | .load => s1
  | .slice pages aged ends => if s1.nandWrites then s1.scrubSlice pages aged ends else s1
  | .collect d => s1.collectBlock d
  | .reseal => s1.resealBlock

/-- The dies serve what waits in the queue and has its slot; the count bounds the requests served. -/
def stoTurns : Nat → State → State
  | 0, s => s
  | n + 1, s =>
    match s.sto.queue.find? s.takes with
    | none => s
    | some r => stoTurns n (({ s with sto := { s.sto with queue := s.sto.queue.erase r } }).serve r)

/-- Serves the queue as far as it goes. -/
def State.dueStorage (s : State) : State := stoTurns s.sto.queue.length s

/-- A request joins the queue and is served at once where it has its slot. -/
def State.request (s : State) (r : StoReq) : State := ({ s with sto := { s.sto with queue := s.sto.queue ++ [r] } }).dueStorage

/-- LOAD: the content is the committed content at the moment of LOAD. A LOAD while a load runs changes nothing. -/
def load (s : State) : State :=
  if s.sto.window.loading then s
  else
    let lo := s.reg R.STO_WIN_POS_LO
    let hi := s.reg R.STO_WIN_POS_HI
    let r := s.windowLoad (s.get F.STO_WIN_CTL_STREAM) (lo + hi * 2 ^ 32) lo hi
    (({ s with sto := { s.sto with window := ⟨true, r.1, r.2⟩ } }).setReg R.STO_WIN_STAT 0).request .load

/-- LOAD. -/
def execLoad (s : State) : Out := .next (load s)

/-- WIN_READY: READY sets, VALID gives the bytes filled in units of 8. A load that waits in the queue is not ready. -/
def winReady (s : State) : State :=
  if !s.sto.window.loading || s.sto.queue.contains .load then s
  else
    let w := s.sto.window
    let s1 := { s with sto := { s.sto with window := { w with loading := false } } }
    (s1.setReg R.STO_WIN_STAT (w.reason * 0x10000 + w.bytes.length / 8 * 2 + 1)).event F.STO_EVT_WIN_READY

/-- WIN_READY. -/
def execWinReady (s : State) : Out := .next (winReady s)

/-- SCRUB_REFRESH_DUE: the collection of blocks and a slice of scrub and refresh are requested. -/
def scrubRefresh (pages : List PageFact) (blocks : ScrubBlocks) (passEnds : Bool) (s : State) : State :=
  if !s.nandWrites then s
  else (blocks.collect.foldl (fun (t : State) d => t.request (.collect d.val)) s).request (.slice pages blocks.aged passEnds)

/-- SCRUB_REFRESH_DUE. -/
def execScrubRefreshDue (pages : List PageFact) (blocks : ScrubBlocks) (passEnds : Bool) (s : State) : Out :=
  .next (scrubRefresh pages blocks passEnds s)

/-! ## Power failure (R67, R308, R309) -/

/-- Completes a fuse blow in progress: both elements (R266, R290). -/
def State.completeBlow (s : State) : State :=
  match s.keys.blow with
  | none => s
  | some b =>
    let f := match b with
      | .lifecycle i => { s.fuses with lc := s.fuses.lc.set i .done }
      | .epoch => { s.fuses with epoch := s.fuses.epoch.set s.fuses.epochNo .done }
    let v := match b with
      | .lifecycle _ => s.vault
      | .epoch => { s.vault with bootEpoch := 0, nonceHi := [] }
    { s with fuses := f, vault := v, keys := { s.keys with blow := none } }

/-- What Sequence 11-1 leaves in the media when VHOLD carries it to the end: the oldest pending capture is programmed with its
trailer 0, later ones are lost; the exact MT, the clean marker and STO_HOLDUP are written. -/
def State.powerFailSave (s : State) (millivolt micros : Nat) : State :=
  let s1 := match s.sto.pendingCaps with
    | c :: _ => if s.nandUp then s.storeCapture { c with trailer := some (c.trailer.getD (zeros 256)) } else s
    | [] => s
  { s1 with vault := { s1.vault with
      savedMt := s1.vault.savedMt.write s1.mt, clean := true, holdup := millivolt * 0x10000 + micros % 0x10000
      lostCaps := s1.vault.lostCaps ++ (s.sto.pendingCaps.drop (if s.nandUp then 1 else 0)).map (·.number) } }

/-- The device without power: what the vault, the NAND, the fuses, the NOR and the tag hold stays; the rest is at reset. -/
def State.off (s : State) : State :=
  { State.reset with
    pending := s.pending, mt := s.mt, draws := s.draws, fuses := s.fuses
    vault := { s.vault with alternate := none }, nand := s.nand, update := s.update, nor := s.nor, tag := s.tag
    sto := { Storage.reset with ckptDue := s.sto.ckptDue }
    tok := { Tok.reset with lost := s.tok.learn.isSome || s.tok.lost } }

/-- The newest staged entry. -/
def State.newestStaged (s : State) : Option Staged := (s.vault.staging.kept ++ s.vault.staging.ring).getLast?

/-- A cut between the two steps of an entry's commit: the slot holds the entry, the head record the SEQ and H before it (R298, R312). -/
def State.cutHead (s : State) : State :=
  match s.newestStaged with
  | some x => if x.entry.seq + 1 = s.vault.nextSeq then { s with vault := { s.vault with nextSeq := x.entry.seq, chain := s.vault.chainPrev } } else s
  | none => s

/-- What a cut that VHOLD did not carry leaves in the media (R306, R307). -/
def State.leaveCut (s : State) (cut : PowerCut) : State :=
  let s1 := if cut.headOld then s.cutHead else s
  (s1.setDie 0 { s1.die 0 with torn := cut.torn0.val }).setDie 1 { s1.die 1 with torn := cut.torn1.val }

/-- VBAT falls below the power-fail threshold: Sequence 11-1 runs from VHOLD, and the device stops; requests that wait in a queue are
dropped. A sequence that VHOLD does not carry leaves no clean marker (R309). -/
def powerFail (cut : Option PowerCut) (millivolt micros : Nat) (s : State) : State :=
  if !s.pilot.vbatUp then s
  else
    let s1 := s.completeBlow
    let s2 := match cut with
      | none => s1.powerFailSave millivolt micros
      | some c =>
        let lost := s1.sto.pendingCaps.map (fun (x : Capture) => x.number)
        ({ s1 with vault := { s1.vault with clean := false, lostCaps := s1.vault.lostCaps ++ lost } }).leaveCut c
    s2.off

/-- POWER_FAIL. -/
def execPowerFail (cut : Option PowerCut) (millivolt micros : BitVec 16) (s : State) : Out :=
  .next (powerFail cut millivolt.toNat micros.toNat s)

/-- The repair of the vault's part at a start (R307): a staging slot whose entry is complete but whose head record is older has its chain
value computed, and the head record is written. -/
def State.repairStaging (s : State) : State :=
  match s.newestStaged with
  | some x =>
    if x.entry.seq = s.vault.nextSeq && s.vaultUp then
      { s with vault := { s.vault with
          nextSeq := x.entry.seq + 1, chain := Crypto.sha512 (s.vault.chain ++ x.entry.bytes), chainPrev := s.vault.chain
          headSeqs := s.vault.headSeqs.write x.entry.seq } }
    else s
  | none => s

/-- An unfinished stripe is closed with a parity page over the pages it holds; torn pages outside the map count as never written (R307). -/
def repairDie (x : Die) : Die :=
  let closed := x.used + (x.stripes.filter (· ≠ 0)).length
  { x with torn := 0, stripes := x.stripes.map (fun _ => 0), erased := x.erased - closed / 64, used := closed % 64 }

/-- The repair of the NAND's part at a start (R307): the map delta log is replayed onto the metadata copy, each die is repaired. -/
def State.repairNand (s : State) : State :=
  if !s.nandUp || !s.vaultUp then s
  else
    let s1 := s.foldMap
    { s1 with nand := { s1.nand with dies := s1.nand.dies.map (fun x => if x.failed then x else repairDie x) } }

/-- What the STO enable of a start does beside its bit: the media are shown, latched events are written, the last power-fail
sequence and lost captures are reported (R309, R312). -/
def State.stoEnabled (s : State) : State :=
  let s1 := (s.showMedia.setReg R.STO_JRNL_ACK_LO s.vault.ack).setReg R.STO_JRNL_ACK_HI (s.vault.ack / 2 ^ 32)
  let s2 := s1.flushLatched
  let cold := decide (s2.get F.SYS_STAT_RESET_CAUSE = 1)
  let s3 := if cold then
      s2.journal 0x0102 (if s2.vault.clean then 0 else 0x0C14) .sto 0
        (toLE 4 (s2.vault.holdup % 0x10000) ++ toLE 2 (s2.vault.holdup / 0x10000) ++ toLE 1 (bit s2.vault.clean))
    else s2
  let s4 := if cold && !s3.vault.clean then (s3.putFlag F.STO_STAT_HOLDUP_SHORT true).reason .sto 0x0C14 else s3
  let s5 := s4.vault.lostCaps.foldl (fun t n => (t.event F.STO_EVT_CAP_LOST).stoEvent 0x0C0A 0 n n) s4
  { s5 with vault := { s5.vault with clean := if cold then false else s5.vault.clean, lostCaps := [] } }

/-! ## Register views -/

/-- Erases of the most worn block of the dies: the erase counts of a die's 16,384 blocks are levelled (R323, log entry 167). -/
def State.eraseMax (s : State) : Nat := max (((s.die 0).erases + 16383) / 16384) (((s.die 1).erases + 16383) / 16384)

/-- The mean erases of a block. -/
def State.eraseMean (s : State) : Nat := ((s.die 0).erases + (s.die 1).erases) / 32768

/-- STO registers whose value stands in the vault or the NAND. -/
def State.stoView (s : State) (off : Nat) : Option Nat :=
  if !s.enabled .sto then none
  else
    let last := s.vault.nextSeq - 1
    if off = R.STO_JRNL_SEQ_LO then some (last % 2 ^ 32)
    else if off = R.STO_JRNL_SEQ_HI then some (last / 2 ^ 32)
    else if off = R.STO_JRNL_OLD_LO then some (s.nand.oldest % 2 ^ 32)
    else if off = R.STO_JRNL_OLD_HI then some (s.nand.oldest / 2 ^ 32)
    else if off = R.STO_WRITTEN then some (min (s.nand.written / 2 ^ 30) (2 ^ 32 - 1))
    else if off = R.STO_WEAR then some (s.eraseMax * 0x10000 + s.eraseMean)
    else if 0xA080 ≤ off && off < 0xA0C0 && off % 4 = 0 then
      let k := (off - 0xA080) / 4
      match s.streamDef k with
      | none => some 0
      | some (q, _, _) =>
        let n := (s.stream k).records.length
        some (q * 2 ^ 21 + n / 256 * 2 ^ 10 + bit (decide (s.streamCap q ≤ n)) * 2 + 1)
    else none

end Sys2Proof.Machine
end

