-- ==== Sys2Proof/Machine/Time.lean ====
section
/-! DEFINITION. Chapter 13: the tick, the snapshot, NT and its states, the IEEE 802.1AS end station, transmit stamps, the PULSE
units. -/
namespace Sys2Proof.Machine

open Sys2Proof

/-! ## The tick (R359, R362, R363, R365, R366; log entry 2) -/

/-- Whether RT counts: radio island in RUN or DOZE, on the crystal (R365). -/
def State.rtRuns (s : State) : Bool := (s.island 9 == 1 || s.island 9 == 2) && !s.onRc && s.pwr.xtalRun

/-- Whether NT counts: the link island is powered (R369). -/
def State.ntRuns (s : State) : Bool := s.island 13 == 1 || s.island 13 == 2

/-- NT after `n` reference ticks of the increment in force. -/
def ntAfter (t : Tim) (n : Nat) : Tim :=
  let x := t.ntFrac + n * t.inc
  { t with nt := t.nt + x / 2 ^ 32, ntFrac := x % 2 ^ 32 }

/-- The calibrated step of MT in STANDBY in 1/32768 us: 10^6 less the measured deviation of the oscillator in ppm (R363). -/
def State.mtStep (s : State) : Nat := ((1000000 : Int) - signed 16 (s.get F.TIM_PT_CAL_PPM)).toNat

/-- MT after 1 us: on the reference net it counts each us; in STANDBY it advances at a PT tick by the calibrated step (R363). -/
def State.mtAfter (s : State) (ptTick : Bool) : Nat × Nat :=
  if !s.pwr.standby then (s.mt + 1, 0)
  else if ptTick then (s.mt + (s.pilot.mtFrac + s.mtStep) / 32768, (s.pilot.mtFrac + s.mtStep) % 32768)
  else (s.mt, s.pilot.mtFrac)

/-- One microsecond passes: MT, PT at 32.768 kHz, RT at 40,960 ticks and NT at 40 increments. Without VBAT nothing counts. -/
def tick (s : State) : State :=
  if !s.pilot.vbatUp then s
  else
    let f := s.pilot.ptFrac + 32768
    let m := s.mtAfter (decide (1000000 ≤ f))
    let p := { s.pilot with mtFrac := m.2 }
    let pilot := if 1000000 ≤ f then { p with pt := s.pilot.pt + 1, ptFrac := f - 1000000 } else { p with ptFrac := f }
    let t1 := if s.rtRuns then { s.tim with rt := s.tim.rt + 40960 } else s.tim
    let t2 := if s.ntRuns then ntAfter t1 40 else t1
    let rf := if s.island 9 == 2 then { s.rf with runUs := s.rf.runUs + 1 } else s.rf
    { s with mt := m.1, pilot := pilot, tim := t2, rf := rf }

/-! ## Snapshot (R361, Table 13-4) -/

/-- The snapshot record. -/
def State.snapRecord (s : State) : Bytes :=
  toLE 8 s.mt ++ toLE 6 (s.tim.nt / 10 ^ 9) ++ toLE 1 (s.get F.TIM_STAT_NT_STATE) ++ toLE 1 0 ++ toLE 4 (s.tim.nt % 10 ^ 9)
    ++ toLE 4 s.pilot.pt.toNat ++ toLE 6 s.tim.rt.toNat ++ toLE 1 (bit s.rtRuns + 2 * bit s.onRc) ++ toLE 1 0

/-- Writes consecutive register words. -/
def State.setRegs (s : State) (off : Nat) : List Word → State
  | [] => s
  | w :: ws => (s.setReg off w.toNat).setRegs (off + 4) ws

/-- SNAP captures the 4 bases into TIM_SNAPn. -/
def snap (s : State) : State :=
  s.setRegs (R.TIM_SNAPn 0) (bytesToWords 8 s.snapRecord)

/-- SNAP. -/
def execSnap (s : State) : Out := .next (snap s)

/-! ## NT (R366 to R369) -/

/-- NT_MODE of TIME; 0 without the section (R377). -/
def State.ntMode (s : State) : Nat := s.secLE 0x0C 0 1 0

/-- HOLD_S in us. -/
def State.holdUs (s : State) : Nat := s.secLE 0x0C 0x10 2 60 * 1000000

/-- Moves NT to a state of Table 13-3, with its event on a change. -/
def State.setNtState (s : State) (n : Nat) : State :=
  if s.get F.TIM_STAT_NT_STATE = n then s else (s.put F.TIM_STAT_NT_STATE n).event F.TIM_EVT_NT_STATE

/-- The unit numbered `n`. -/
def State.pulse (s : State) (n : Nat) : Pulse := s.tim.pulses.getD n ⟨0, 0, none, false, false⟩

/-- Replaces a unit's working state. -/
def State.setPulse (s : State) (n : Nat) (p : Pulse) : State := { s with tim := { s.tim with pulses := s.tim.pulses.set n p } }

/-- Ends a unit: EN and ARMED clear, inactive level, its vote on the link island withdrawn (R374, R376). -/
def State.stopPulse (s : State) (n : Nat) : State :=
  let s1 := ((s.putFlag (F.TIM_PULSEn_CTL_EN n) false).putFlag (F.TIM_PULSEn_CTL_ARMED n) false)
  let s2 := s1.put F.TIM_STAT_PULSE_RUN (setBit (s1.get F.TIM_STAT_PULSE_RUN) n false)
  let s3 := s2.setPulse n { s2.pulse n with high := none, level := !s2.flag (F.TIM_PULSEn_CTL_POL n) }
  let ntLeft := [0, 1, 2, 3].any (fun k => s3.flag (F.TIM_PULSEn_CTL_EN k) && s3.get (F.TIM_PULSEn_CTL_BASE k) == 0)
  if ntLeft then s3 else s3.setVote 6 13 false

/-- The first point of the grid t0 + k × period strictly later than `now`. -/
def gridAfter (t0 period now : Nat) : Nat := if now < t0 then t0 else t0 + ((now - t0) / period + 1) * period

/-- What a change of NT from `old` to `new` does to one unit on NT (R375): the next rising edge is the first grid point strictly
later than the new NT; jumped grid points count as skipped; a running pulse keeps its length. -/
def State.pulseStep (s : State) (old new n : Nat) : State :=
  if !s.flag (F.TIM_PULSEn_CTL_EN n) || s.get (F.TIM_PULSEn_CTL_BASE n) != 0 then s
  else
    let p := s.pulse n
    let period := s.reg (R.TIM_PULSEn_PERIOD n)
    let high := p.high.map (fun f => f + new - old)
    let periodic := s.flag (F.TIM_PULSEn_CTL_MODE n)
    let next := if periodic then (if period = 0 then p.next else gridAfter p.t0 period new) else p.next
    let skipped := if periodic then (if p.next < next && period ≠ 0 then (next - p.next) / period else 0)
      else if p.high.isNone && p.next ≤ new then 1 else 0
    let s1 := s.setPulse n { p with high := high, next := next }
    let s2 := if skipped = 0 then s1
      else ((s1.bumpBy (F.TIM_PULSEn_CTL_SKIPPED n) skipped).event F.TIM_EVT_PULSE_SKIP).reason .tim 0x040E
    if !periodic && skipped ≠ 0 then s2.stopPulse n else s2

/-- Sets NT to a value in ns, and moves the pulse units on NT. -/
def State.loadNt (s : State) (ns : Nat) : State :=
  let s1 := { s with tim := { s.tim with nt := ns % (2 ^ 48 * 10 ^ 9), ntFrac := 0 } }
  [0, 1, 2, 3].foldl (fun t n => t.pulseStep s.tim.nt s1.tim.nt n) s1

/-- NT becomes SYNC by a host write in NT_MODE 0, which is also the keepalive of HOLD_S. -/
def State.hostSynced (s : State) : State := ({ s with tim := { s.tim with lastSync := s.mt } }).setNtState 2

/-- NT_SET loads NT from TIM_NT_SET_S and TIM_NT_SET_NS. -/
def ntSet (s : State) : State :=
  if s.ntMode = 1 then s.reason .tim 0x0403
  else
    let ns := s.reg R.TIM_NT_SET_NS
    if 10 ^ 9 ≤ ns then s.reason .tim 0x040F
    else
      let sec := s.reg R.TIM_NT_SET_S_LO + s.reg R.TIM_NT_SET_S_HI % 0x10000 * 2 ^ 32
      (s.loadNt (sec * 10 ^ 9 + ns)).hostSynced

/-- NT_SET. -/
def execNtSet (s : State) : Out := .next (ntSet s)

/-- NT_STEP adds the signed TIM_NT_OFFSET in ns. -/
def ntStep (s : State) : State :=
  if s.ntMode = 1 then s.reason .tim 0x0403
  else (s.loadNt (((s.tim.nt : Int) + signed 32 (s.reg R.TIM_NT_OFFSET)).toNat)).hostSynced

/-- NT_STEP. -/
def execNtStep (s : State) : Out := .next (ntStep s)

/-- HOST_SYNC keeps NT in SYNC in NT_MODE 0. -/
def hostSync (s : State) : State := if s.ntMode = 1 then s else s.hostSynced

/-- HOST_SYNC. -/
def execHostSync (s : State) : Out := .next (hostSync s)

/-- A write of TIM_NT_INC_INT applies INT with the FRAC last written, within 24.0 to 26.0 ns (R366). -/
def ntIncWrite (int : Nat) (s : State) : State :=
  if s.ntMode = 1 then s.reason .tim 0x0403
  else
    let inc := int * 2 ^ 32 + s.reg R.TIM_NT_INC_FRAC
    if inc < 24 * 2 ^ 32 || 26 * 2 ^ 32 < inc then s.reason .tim 0x0402
    else { (s.put F.TIM_NT_INC_INT_INT int) with tim := { s.tim with inc := inc } }

/-- NT_INC_WRITE. -/
def execNtIncWrite (int : BitVec 8) (s : State) : Out := .next (ntIncWrite int.toNat s)

/-- HOLD_EXPIRY: HOLD_S in HOLD, or HOLD_S without a host keepalive in SYNC of NT_MODE 0; NT falls to FREE with 0x0407. -/
def holdExpiry (s : State) : State :=
  let st := s.get F.TIM_STAT_NT_STATE
  let due := (st == 3 && decide (s.tim.holdSince + s.holdUs ≤ s.mt + s.tim.holdSpent))
    || (st == 2 && s.ntMode == 0 && decide (s.tim.lastSync + s.holdUs ≤ s.mt))
  if due then ((s.setNtState 1).reason .tim 0x0407).event F.TIM_EVT_HOLD_END else s

/-- HOLD_EXPIRY. -/
def execHoldExpiry (s : State) : Out := .next (holdExpiry s)

/-- SYNC is lost: NT in HOLD with 0x0406, the last increment kept. -/
def State.enterHold (s : State) : State :=
  let s1 := (({ s with tim := { s.tim with holdSince := s.mt, holdSpent := 0, good := 0 } }).setNtState 3).reason .tim 0x0406
  (s1.event F.TIM_EVT_SYNC_LOST).bump F.TIM_GPTP_CNT_LOST

/-- SYNC_TIMEOUT intervals of 2^LOG_SYNC s, in us. -/
def State.syncUs (s : State) : Nat :=
  let log := signed 8 (s.secLE 0x0C 1 1 0)
  s.secLE 0x0C 3 1 2 * (1000000 / 2 ^ (-log).toNat)

/-- SYNC_TIMEOUT: no Sync for SYNC_TIMEOUT intervals, or the port not asCapable, in NT_MODE 1. -/
def syncTimeout (s : State) : State :=
  if s.ntMode = 1 && s.get F.TIM_STAT_NT_STATE == 2 && (decide (s.tim.lastSync + s.syncUs ≤ s.mt) || !s.tim.asCapable)
  then s.enterHold else s

/-- SYNC_TIMEOUT. -/
def execSyncTimeout (s : State) : Out := .next (syncTimeout s)

/-- The reference falls to the RC: NT in any state but UNSET counts on in FREE (0x0408). -/
def State.ntToRc (s : State) : State :=
  if s.get F.TIM_STAT_NT_STATE = 0 then s else (s.setNtState 1).reason .tim 0x0408

/-- The link island goes to NAP: NT stops (R369). -/
def State.ntNap (s : State) : State := { s with tim := { s.tim with napMt := some s.mt } }

/-- The link island is restored: NT adds ΔMT × INC ÷ 25 ns; SYNC and HOLD become HOLD below HOLD_S, else FREE (R369). -/
def State.ntRestore (s : State) : State :=
  match s.tim.napMt with
  | none => s
  | some m =>
    let d := s.mt - m
    let st := s.get F.TIM_STAT_NT_STATE
    let s1 := { s with tim := { ntAfter s.tim (40 * d) with napMt := none } }
    if st = 2 || st = 3 then
      if d < s.holdUs then
        let since := if st = 3 then s.tim.holdSince else s.mt
        ({ s1 with tim := { s1.tim with holdSince := since } }).setNtState 3
      else ((s1.setNtState 1).reason .tim 0x0407).event F.TIM_EVT_HOLD_END
    else s1

/-! ## The IEEE 802.1AS end station (R370, R371) -/

/-- Whether gPTP runs: NT_MODE 1, T1S up, and the reference on the crystal. -/
def State.gptpRuns (s : State) : Bool := s.enabled .tim && s.ntMode == 1 && s.flag F.HIF_STAT_T1S_UP && !s.onRc

/-- A value clipped to a signed 32-bit number. -/
def clip32 (i : Int) : Nat := unsigned 32 (max (-2147483648) (min 2147483647 i))

/-- A deviation clipped to ±500 ppm of 25 ns. -/
def clipPpm (d : Int) : Int := let m : Int := 25 * 2 ^ 32 * 500 / 1000000; max (-m) (min m d)

/-- FOLLOW_UP: the offset, a step above STEP_NS, else the bounded loop; 4 offsets within SYNC_THRESH_NS give SYNC. -/
def followUp (stamp origin : Nat) (correction : Int) (source : Nat) (s : State) : State :=
  if !s.gptpRuns || s.tim.master != some source then s
  else
    let o : Int := (stamp : Int) - ((origin : Int) + correction + s.tim.delay)
    let s1 := ({ s with tim := { s.tim with lastSync := s.mt } }).setReg R.TIM_GPTP_OFFSET (clip32 o)
    let s2 := s1.bump F.TIM_GPTP_CNT_SYNCS
    let within := decide (o.natAbs ≤ s.secLE 0x0C 8 4 50)
    let good := if within then s.tim.good + 1 else 0
    let s3 := if s.secLE 0x0C 0x0C 4 1000 < o.natAbs then
        let s4 := s2.loadNt (((s2.tim.nt : Int) - o).toNat)
        (((({ s4 with tim := { s4.tim with rate := 0 } }).event F.TIM_EVT_STEP).reason .tim 0x040B).bump F.TIM_GPTP_CNT_STEPS)
      else
        let r := Config.servo s.tim.rate o
        { s2 with tim := { s2.tim with rate := r.1, inc := (25 * 2 ^ 32 + clipPpm r.2).toNat } }
    let s5 := { s3 with tim := { s3.tim with good := good } }
    if 4 ≤ good then s5.setNtState 2 else s5

/-- FOLLOW_UP. -/
def execFollowUp (syncStamp origin : Nat) (correction : Int) (source : Nat) (s : State) : Out :=
  .next (followUp syncStamp origin correction source s)

/-- ANNOUNCE: the best received priority vector, the lowest, names the master. -/
def announce (source vector : Nat) (s : State) : State :=
  if !s.gptpRuns then s
  else if s.tim.master.isNone || vector < s.tim.masterVec || s.tim.master == some source then
    { s with tim := { s.tim with master := some source, masterVec := vector } }
  else s

/-- ANNOUNCE. -/
def execAnnounce (source vector : Nat) (s : State) : Out := .next (announce source vector s)

/-- PDELAY_REQ is answered with a two-step Pdelay_Resp and its Follow_Up. -/
def execPdelayReq (source sequence : Nat) (s : State) : Out :=
  .next (if s.gptpRuns then { s with tim := { s.tim with sent := [(0x3, sequence, source), (0xA, sequence, source)] } } else s)

/-- PDELAY_RESP: only the response of the port that sources Sync counts; the mean link delay and asCapable follow, with 0x040A
above PDELAY_THRESH_NS. -/
def pdelayResp (source sequence delay : Nat) (s : State) : State :=
  if !s.gptpRuns || s.tim.master != some source || sequence != s.tim.pdelaySeq then s
  else
    let ok := decide (delay ≤ s.secLE 0x0C 4 4 100000)
    let s1 := (({ s with tim := { s.tim with delay := delay, asCapable := ok } }).setReg R.TIM_GPTP_DELAY delay).putFlag
      F.TIM_STAT_AS_CAPABLE ok
    if ok then s1
    else
      let s2 := (s1.event F.TIM_EVT_NOT_AS_CAPABLE).reason .tim 0x040A
      if s2.get F.TIM_STAT_NT_STATE = 2 then s2.enterHold else s2

/-- PDELAY_RESP. -/
def execPdelayResp (source sequence delay : Nat) (s : State) : Out := .next (pdelayResp source sequence delay s)

/-- The Pdelay_Req interval 2^LOG_PDELAY s, in us. -/
def State.pdelayUs (s : State) : Nat :=
  let log := signed 8 (s.secLE 0x0C 2 1 0)
  if log < 0 then 1000000 / 2 ^ (-log).toNat else 1000000 * 2 ^ log.toNat

/-- PDELAY_REQ_SEND. -/
def execPdelayReqSend (s : State) : Out :=
  .next (if s.gptpRuns && decide (s.tim.pdelayMt + s.pdelayUs ≤ s.mt) then
      let q := (s.tim.pdelaySeq + 1) % 65536
      { s with tim := { s.tim with pdelaySeq := q, pdelayMt := s.mt, sent := [(0x2, q, 0)] } }
    else s)

/-! ## PULSE units (R374 to R376) -/

/-- The present full-width value of a unit's base: NT in ns, MT in us, PT in ticks. -/
def State.baseNow (s : State) (n : Nat) : Nat :=
  match s.get (F.TIM_PULSEn_CTL_BASE n) with
  | 0 => s.tim.nt
  | 1 => s.mt
  | _ => s.pilot.pt.toNat

/-- Whether a full-width instant has been reached; PT is compared modulo 2^32 (R360). -/
def State.reached (s : State) (n t : Nat) : Bool :=
  if s.get (F.TIM_PULSEn_CTL_BASE n) < 2 then decide (t ≤ s.baseNow n)
  else decide ((s.baseNow n + 2 ^ 32 - t % 2 ^ 32) % 2 ^ 32 < 2 ^ 31)

/-- Marks a unit as running from `t0` with its next rising edge at `next`; an NT unit votes for the link island. -/
def State.startPulse (s : State) (n t0 next : Nat) (auto : Bool) : State :=
  let s1 := (s.putFlag (F.TIM_PULSEn_CTL_EN n) true).putFlag (F.TIM_PULSEn_CTL_ARMED n) true
  let s2 := s1.put F.TIM_STAT_PULSE_RUN (setBit (s1.get F.TIM_STAT_PULSE_RUN) n true)
  let s3 := s2.setPulse n ⟨t0, next, none, !s2.flag (F.TIM_PULSEn_CTL_POL n), auto⟩
  if s.get (F.TIM_PULSEn_CTL_BASE n) = 0 then s3.setVote 6 13 true else s3

/-- A write of EN = 1 arms a unit at START, or is refused (0x0405, 0x040F, 0x0401). -/
def pulseArm (n : Nat) (s : State) : State :=
  let base := s.get (F.TIM_PULSEn_CTL_BASE n)
  let start := s.reg (R.TIM_PULSEn_START n)
  let period := s.reg (R.TIM_PULSEn_PERIOD n)
  let width := s.reg (R.TIM_PULSEn_WIDTH n)
  let d := (start + 2 ^ 32 - s.baseNow n % 2 ^ 32) % 2 ^ 32
  if !s.enabled .tim || s.flag (F.TIM_PULSEn_CTL_EN n) then s
  else if base = 0 && s.islandFailed 13 then s.reason .tim 0x0405
  else if period ≤ width || width < (if base = 0 then 50 else 1) then s.reason .tim 0x040F
  else if d = 0 || 2 ^ 31 ≤ d then s.reason .tim 0x0401
  else s.startPulse n (s.baseNow n + d) (s.baseNow n + d) false

/-- PULSE_ARM. -/
def execPulseArm (unit : Fin 4) (s : State) : Out := .next (pulseArm unit.val s)

/-- PULSE_EDGE (ARMED stands while the unit waits for START or between pulses): a falling edge WIDTH after its rising edge, which ends a
one-shot unit; else the rising edge at the grid point. -/
def pulseEdge (n : Nat) (s : State) : State :=
  if !s.flag (F.TIM_PULSEn_CTL_EN n) then s
  else
    let p := s.pulse n
    let pol := s.flag (F.TIM_PULSEn_CTL_POL n)
    match p.high with
    | some f =>
      if !s.reached n f then s
      else if s.flag (F.TIM_PULSEn_CTL_MODE n) then
        (s.setPulse n { p with high := none, level := !pol }).putFlag (F.TIM_PULSEn_CTL_ARMED n) true
      else (s.stopPulse n).event F.TIM_EVT_PULSE_DONE
    | none =>
      if !s.reached n p.next then s
      else (s.setPulse n { p with high := some (p.next + s.reg (R.TIM_PULSEn_WIDTH n)), level := pol
                                  next := p.next + s.reg (R.TIM_PULSEn_PERIOD n) }).putFlag (F.TIM_PULSEn_CTL_ARMED n) false

/-- PULSE_EDGE. -/
def execPulseEdge (unit : Fin 4) (s : State) : Out := .next (pulseEdge unit.val s)

/-- NT units stop when the link island fails (R376). -/
def State.stopNtPulses (s : State) : State :=
  [0, 1, 2, 3].foldl (fun t n =>
    if t.flag (F.TIM_PULSEn_CTL_EN n) && t.get (F.TIM_PULSEn_CTL_BASE n) == 0 then (t.stopPulse n).reason .tim 0x0405 else t) s

/-- A record of PULSES sets its unit, and arms it at the TIM enable where AUTO is set: the first edge is the first grid point after
the enable, the grid having t0 ≡ PHASE mod PERIOD (R378). -/
def State.pulseRecord (s : State) (b : Bytes) : State :=
  let n := u8 b 0
  let flags := u8 b 3
  let period := le b 4 4
  let phase := le b 12 4
  let s1 := ((s.put (F.TIM_PULSEn_CTL_BASE n) (u8 b 1)).put (F.TIM_PULSEn_CTL_MODE n) (u8 b 2)).put (F.TIM_PULSEn_CTL_POL n) (flags % 2)
  let s2 := (s1.setReg (R.TIM_PULSEn_PERIOD n) period).setReg (R.TIM_PULSEn_WIDTH n) (le b 8 4)
  if Nat.testBit flags 1 then s2.startPulse n phase (gridAfter phase period (s2.baseNow n)) true else s2

/-- What the TIM enable does beside its bit. -/
def State.timEnabled (s : State) : State :=
  let s1 := ((s.putFlag F.TIM_STAT_GPTP (s.ntMode == 1)).putFlag F.TIM_STAT_REF_RC s.onRc).putFlag F.TIM_STAT_PT_RC s.tim.ptRc
  match s1.section? 0x10 with
  | none => s1
  | some b => (List.range (u8 b 0)).foldl (fun t i => t.pulseRecord (slice b (8 + 16 * i) 16)) s1

/-! ## Transmit stamps (R372, R373) -/

/-- The stamp queue of a port: 0 T1S, 1 CAN0, 2 CAN1. -/
def State.stampQueue (s : State) (p : Nat) : List TxStamp := s.tim.queues.getD p []

/-- Replaces a stamp queue. -/
def State.setStampQueue (s : State) (p : Nat) (q : List TxStamp) : State := { s with tim := { s.tim with queues := s.tim.queues.set p q } }

/-- POP removes the head entry; on an empty queue it does nothing. -/
def pop (p : Nat) (s : State) : State := s.setStampQueue p ((s.stampQueue p).drop 1)

/-- POP. -/
def execPop (port : Fin 3) (s : State) : Out := .next (pop port.val s)

/-- OVF_CLEAR clears OVF and LOST together. -/
def ovfClear (p : Nat) (s : State) : State := (s.put (F.TIM_TXTSp_STAT_OVF p) 0).put (F.TIM_TXTSp_STAT_LOST p) 0

/-- OVF_CLEAR. -/
def execOvfClear (port : Fin 3) (s : State) : Out := .next (ovfClear port.val s)

/-- An entry joins its queue of 16, or is dropped with OVF, LOST and 0x0409. -/
def State.addStamp (s : State) (p : Nat) (e : TxStamp) : State :=
  if (s.stampQueue p).length < 16 then s.setStampQueue p (s.stampQueue p ++ [e])
  else (((s.put (F.TIM_TXTSp_STAT_OVF p) 1).bump (F.TIM_TXTSp_STAT_LOST p)).reason .tim 0x0409).event F.TIM_EVT_TXTS_OVF

/-- The port number of a host frame (0 CAN0, 1 CAN1, 2 T1S) of a stamp queue. -/
def framePort (p : Nat) : Nat := if p = 0 then 2 else p - 1

/-- Whether TS_PORTS enables stamps on a port: bit 0 T1S, 1 CAN0, 2 CAN1; all without the section (R377). -/
def State.stampsOn (s : State) (p : Nat) : Bool := Nat.testBit (s.secLE 0x0C 0x12 1 7) p

/-- The FLAGS of a stamp (Table 13-6). -/
def State.stampFlags (s : State) (notSent : Bool) : Nat :=
  0x8000 + 8 * bit s.onRc + 4 * bit notSent + s.get F.TIM_STAT_NT_STATE

/-- TX_STAMP_ENTRY: the oldest queued frame of a port is sent, or abandoned with 0x1011; a tagged frame yields its entry. -/
def txStampEntry (p : Nat) (sent : Bool) (s : State) : State :=
  match s.hif.txq.find? (fun f => f.port == framePort p) with
  | none => s
  | some f =>
    let s1 := { s with hif := { s.hif with txq := s.hif.txq.eraseP (fun g => g.port == framePort p) } }
    let s2 := if sent then s1 else s1.reason .hif 0x1011
    match f.tag with
    | none => s2
    | some t =>
      let nt := if sent && s.stampsOn p then (s.tim.nt / 10 ^ 9, s.tim.nt % 10 ^ 9) else (0, 0)
      s2.addStamp p ⟨t, if s.stampsOn p || !sent then s.stampFlags (!sent) else 0, nt.1, nt.2⟩

/-- TX_STAMP_ENTRY. -/
def execTxStampEntry (port : Fin 3) (sent : Bool) (s : State) : Out := .next (txStampEntry port.val sent s)

/-- Abandons every queued frame of a port (0 CAN0, 1 CAN1, 2 T1S), each with its entry (R373). -/
def State.abandonFrames (s : State) (port : Nat) : State :=
  let q := if port = 2 then 0 else port + 1
  (s.hif.txq.filter (fun f => f.port == port)).foldl (fun t _ => txStampEntry q false t) s

/-! ## The 32.768 kHz oscillator (R362) -/

/-- PT_OSC_FAIL: PT is derived from the RC, with 0x040D. -/
def ptOscFail (s : State) : State :=
  ((((({ s with tim := { s.tim with ptRc := true } }).putFlag F.TIM_STAT_PT_RC true).event F.TIM_EVT_PT_OSC_FAIL).reason .tim 0x040D)).redLoss 14

/-- PT_OSC_FAIL. -/
def execPtOscFail (s : State) : Out := .next (ptOscFail s)

/-- TIM registers whose value stands in the stamp queues or follows from MT. -/
def State.timView (s : State) (off : Nat) : Option Nat :=
  if off = R.TIM_PT_CAL then
    let age := match s.tim.calMt with | some t => min ((s.mt - t) / 1000000) 65535 | none => 0
    some (age * 0x10000 + s.get F.TIM_PT_CAL_PPM)
  else if 0x20C0 ≤ off && off < 0x2120 && off % 4 = 0 then
    let p := (off - 0x20C0) / 32
    let k := (off - 0x20C0) % 32 / 4
    let q := s.stampQueue p
    if k = 0 then some (s.reg off / 32 * 32 + q.length)
    else match q, k with
      | [], _ => some 0
      | e :: _, 1 => some (e.flags * 0x10000 + e.tag)
      | e :: _, 2 => some e.ntNs
      | e :: _, 3 => some (e.ntS % 2 ^ 32)
      | e :: _, 4 => some (e.ntS / 2 ^ 32)
      | _, _ => some 0
  else none

end Sys2Proof.Machine
end

