-- ==== Sys2Proof/Machine/Power.lean ====
section
/-! DEFINITION. Chapter 14, first part: votes and island states, restores, STANDBY, performance levels. -/
namespace Sys2Proof.Machine

open Sys2Proof

/-! ## Votes and states (R382 to R386) -/

/-- The island of the standby pair, if one exists. -/
def State.standbyIsland (s : State) : Nat := 2 - s.activePair

/-- The islands that a client may hold (Table 14-1). The pilot is always in RUN and shared memory holds no votes (R382, R383). -/
def State.mayHold (s : State) (c i : Nat) : Bool :=
  if i = 0 || i = 7 then false
  else match c with
    | 2 => i == s.standbyIsland
    | 4 => i == 1 + s.activePair || i == 13
    | 5 => i == 14 || i == 1 + s.activePair
    | 6 => i == 13
    | 7 => i == 13
    | _ => true

/-- The votes on an island that ask for RUN. -/
def State.runVotes (s : State) (i : Nat) : Nat :=
  (s.pwr.doze.filter (fun d => d.2 == i)).foldl (fun m d => setBit m d.1 false) (s.votes i)

/-- Whether a transaction, a packet at its port or a DMA transfer holds an island (R19, R21, R386), its tile is at work (R215), or a release
is in progress at it (R223). -/
def State.held (s : State) (i : Nat) : Bool :=
  s.net.openTx.any (fun t => t.src == i || t.dst == i) || s.net.ports.any (fun x => x.1 == i)
    || s.pwr.transfers.any (fun t => t.1 == i || t.2 == i) || (3 ≤ i && i ≤ 6 && (let t := s.tile (i - 3); t.job.isSome || t.slice.isSome))
    || (i == 14 && s.rel.start.isSome)

/-- The receiver goes off with the radio island's last vote (R169). -/
def State.voteless (s : State) (i : Nat) : State :=
  if i = 9 && s.enabled .rf then ((s.synLock 0 false).synLock 1 false).rfState 0 else s

/-- What an island's power state change brings with it: NT stops with the link island (R369), the radio's receiver goes off (R169). -/
def State.islandTo (s : State) (i v : Nat) : State :=
  let s1 := s.setIsland i v
  if i = 13 && v = 0 && s.island 13 ≠ 0 then s1.ntNap else if v = 0 then s1.voteless i else s1

/-- Shared memory follows its users: every island but the pilot and the release island (R383). -/
def State.followShared (s : State) : State :=
  if s.islandFailed 7 then s
  else
    let users := [1, 2, 3, 4, 5, 6, 8, 9, 10, 11, 12, 13]
    if s.held 7 || users.any (fun i => s.island i == 2) then s.setIsland 7 2
    else if users.any (fun i => s.island i == 1) then s.setIsland 7 1
    else s.setIsland 7 0

/-- From the withdrawal of the last vote to the point of no return: the Max of Table 14-2 (log entry 170). -/
def returnUs : Nat := 10

/-- Max drop of an island in us, from its point of no return to NAP (Table 14-2). -/
def dropUs (i : Nat) : Nat := if i = 1 || i = 2 then 200 else if i = 10 || i = 11 then 150 else 120

/-- The MT of the withdrawal that makes an island drop. -/
def State.dropMt (s : State) (i : Nat) : Option Nat := (s.pwr.dropping.find? (fun d => d.1 == i)).map (fun d => d.2)

/-- Whether an island is past its point of no return and not yet in NAP. -/
def State.noReturn (s : State) (i : Nat) : Bool :=
  match s.dropMt i with | some t => decide (t + returnUs ≤ s.mt) | none => false

/-- An island's last vote is withdrawn: it dozes until its point of no return and then drops (R385). One in NAP stays there. -/
def State.beginDrop (s : State) (i : Nat) : State :=
  let s1 := { s with pwr := { s.pwr with restoring := s.pwr.restoring.filter (fun r => r.1 != i) } }
  if s1.island i = 0 || (s1.dropMt i).isSome then s1
  else
    let s2 := { s1 with pwr := { s1.pwr with dropping := s1.pwr.dropping ++ [(i, s1.mt)] } }
    ((s2.islandTo i 1).voteless i).followShared

/-- Brings an island that is up to the state its votes ask for: DOZE while votes ask only for DOZE, towards NAP without a vote, unless a
transfer defers the drop (R21, R382, R386). -/
def State.settle (s : State) (i : Nat) : State :=
  if s.islandFailed i || i = 0 then s
  else if i = 7 then s.followShared
  else if s.held i then s
  else if s.votes i = 0 then s.beginDrop i
  else if s.runVotes i = 0 && s.island i = 2 then (s.islandTo i 1).followShared
  else s

/-- A vote begins the restore of an island that is not in RUN, from DOZE while it can still return; past the point of no return the
restore begins when the drop has ended (R385, R387). -/
def State.beginRestore (s : State) (i : Nat) : State :=
  if s.islandFailed i || s.noReturn i || s.pwr.restoring.any (fun r => r.1 == i) then s
  else if s.island i = 2 || ((i = 1 || i = 2) && s.get (pairField (i - 1)) = 3) then s
  else
    let s1 := { s with pwr := { s.pwr with dropping := s.pwr.dropping.filter (fun d => d.1 != i) } }
    if s1.island i = 1 && s1.runVotes i = 0 && !s1.held i then s1
    else { s1 with pwr := { s1.pwr with restoring := s1.pwr.restoring ++ [(i, s1.mt)] } }

/-- A packet held at its port restores an island without a vote of its own (R19); shared memory follows its users. -/
def State.restoreFor (s : State) (i : Nat) : State := if i = 0 then s else s.beginRestore i

/-! ## A STANDBY entry and a vote raised in it (R388, R389) -/

/-- The islands addressed together when the entry begins: tiles, NFC, radio, LF. -/
def firstIslands : List Nat := [3, 4, 5, 6, 12, 9, 10]

/-- The islands addressed one by one after them, the active pair apart. -/
def State.laterIslands (s : State) : List Nat := [8, 11, 14, 13, s.standbyIsland]

/-- The lowest client among 4 to 8 that votes on an island. -/
def State.refuser (s : State) (i : Nat) : Option Nat := [4, 5, 6, 7, 8].find? (fun c => Nat.testBit (s.votes i) c)

/-- The entry is given up: the active pair may ask again after STBY_IDLE_MS. -/
def State.endEntry (s : State) : State :=
  { s with pwr := { s.pwr with entry := none, askAgain := s.mt + 1000 * s.setting 0x0301 1000 } }

/-- Abandons a STANDBY entry (R388 steps 4 and 5, R389). -/
def State.abandonEntry (s : State) (code island client : Nat) : State :=
  let s2 := s.endEntry.setReg R.PWR_STBY_LAST (code * 0x10000 + island * 0x1000 + client * 0x100)
  ((s2.bump F.PWR_STBY_CNT_ABANDONED).event F.PWR_EVT_STBY_ABORT).reason .pwr code

/-- A vote raised while an entry runs: of a client that refuses, on an island already addressed, it abandons the entry; of clients 0 to 2
it is work that has begun, and ends the entry (log entry 171). -/
def State.voteInEntry (s : State) (c i : Nat) : State :=
  match s.pwr.entry with
  | none => s
  | some e =>
    if c ≤ 2 then s.endEntry
    else if 4 ≤ c && ((firstIslands ++ s.laterIslands.take e.pos).contains i || decide (5 < e.pos)) then s.abandonEntry 0x0301 i c
    else s

/-- Raises one vote. A vote on the active pair also raises STANDBY_PAIR on the standby pair (R390); a vote in STANDBY ends it, and the
time in it is no time awake (R133). -/
def State.raiseVote (s : State) (c i : Nat) (doze : Bool) : State :=
  if !s.mayHold c i then s
  else
    let rest := s.pwr.doze.filter (fun d => !(d.1 == c && d.2 == i))
    let s1 := ({ s with pwr := { s.pwr with doze := if doze then rest ++ [(c, i)] else rest } }).setVote c i true
    let s2 := (s1.beginRestore i).voteInEntry c i
    let s3 := if s2.pwr.standby then
        ({ s2 with
          pwr := { s2.pwr with standby := false, entry := none, idleSince := s2.mt }
          lf := { s2.lf with calMt := s2.lf.calMt + (s2.mt - s2.pwr.standbyMt) } }).event F.PWR_EVT_STBY_EXIT
      else s2
    if i = 1 + s3.activePair && s3.standbyReady then (s3.setVote 2 s3.standbyIsland true).beginRestore s3.standbyIsland else s3

/-- VOTE_RAISE (R384, R385). -/
def execVoteRaise (client : Fin 9) (island : Fin 15) (doze : Bool) (s : State) : Out :=
  .next (s.raiseVote client.val island.val doze)

/-! ## STANDBY (R388, R389) -/

/-- Clients 0 to 2 withdraw from an island, and TRANSFER once no transfer holds it. -/
def State.clientsWithdraw (s : State) (i : Nat) : State :=
  let keep := if s.held i then 0x1F8 else 0x1F0
  (({ s with pwr := { s.pwr with doze := s.pwr.doze.filter (fun d => d.2 != i || decide (4 ≤ d.1)) } }).put
    (F.PWR_VOTEn_CLIENTS i) (s.votes i &&& keep)).settle i

/-- Addresses islands in order; the first refusal abandons the entry there. -/
def entryWalk : List Nat → State → State
  | [], s => s
  | i :: is, s =>
    let s1 := s.clientsWithdraw i
    match s1.refuser i with
    | some c => s1.abandonEntry 0x0301 i c
    | none => entryWalk is s1

/-- The active pair is addressed last, once only its vote remains: it withdraws and drops (step 6). -/
def State.finishEntry (s : State) (e : StbyEntry) : State :=
  let a := 1 + s.activePair
  if (firstIslands ++ s.laterIslands).any (fun i => s.votes i ≠ 0 || s.held i) || s.held a then s
  else match s.refuser a with
    | some c => s.abandonEntry 0x0301 a c
    | none => { s with pwr := { s.pwr with entry := some { e with pos := 6 } } }.clientsWithdraw a

/-- Whether the device is at work: a mailbox command, an LF request, a ranging entry or a page to drain. -/
def State.atWork (s : State) : Bool :=
  s.hif.executing.isSome || !s.hif.queue.isEmpty || s.flag F.LF_STAT_BUSY || decide (s.get F.RNG_STAT_QUEUE ≠ 0)
    || (match s.oldestPage with | some k => s.pageComplete k && s.nandUp | none => false)

/-- The entry that runs goes on: the next island 10 us after the one before it, then the active pair; work that begins ends it. -/
def State.dueEntry (s : State) : State :=
  match s.pwr.entry with
  | none => s
  | some e =>
    if s.atWork then s.endEntry
    else if 6 ≤ e.pos || s.mt < e.startMt + 10 * (e.pos + 1) then s
    else match s.laterIslands[e.pos]? with
      | none => s.finishEntry e
      | some i => entryWalk [i] { s with pwr := { s.pwr with entry := some { e with pos := e.pos + 1 } } }

/-- An island reaches NAP; a vote that came too late restores it from there. STANDBY begins when the active pair is down at the end of an
entry (R388). -/
def State.dropped (s : State) (i : Nat) : State :=
  let s1 := { s with pwr := { s.pwr with dropping := s.pwr.dropping.filter (fun d => d.1 != i) } }
  let s2 := if s1.islandFailed i then s1 else (s1.islandTo i 0).followShared
  if s2.votes i ≠ 0 || s2.held i then s2.beginRestore i
  else if i = 1 + s2.activePair && (match s2.pwr.entry with | some e => decide (6 ≤ e.pos) | none => false) then
    (({ s2 with pwr := { s2.pwr with entry := none, standby := true, standbyMt := s2.mt } }).setReg R.PWR_STBY_LAST 0).bump
      F.PWR_STBY_CNT_ENTERED
  else s2

/-- The drops that have run their time. -/
def State.dueDrops (s : State) : State :=
  (s.pwr.dropping.filter (fun d => d.2 + returnUs + dropUs d.1 ≤ s.mt)).foldl (fun (t : State) d => t.dropped d.1) s

/-- Whether an update forbids STANDBY (Table 15-6). -/
def State.updBusy (s : State) : Bool := s.update.state == .activate || !s.upd.reloads.isEmpty || s.upd.loading.isSome

/-- STANDBY_ENTRY: after STBY_IDLE_MS of idleness the pilot begins Sequence 14-1. The status copy and the tail are written first
(R351). -/
def standbyEntry (s : State) : State :=
  let idle := decide (s.pwr.idleSince + 1000 * s.setting 0x0301 1000 ≤ s.mt)
  if s.phase ≠ 0xA || s.pwr.standby || s.pwr.entry.isSome || s.atWork || s.updBusy || !idle || s.mt < s.pwr.askAgain then s
  else entryWalk firstIslands ({ s.statusCopy with pwr := { s.statusCopy.pwr with entry := some ⟨s.mt, 0⟩ } })

/-- STANDBY_ENTRY. -/
def execStandbyEntry (s : State) : Out := .next (standbyEntry s)

/-- STBY_WAIT_TIMEOUT: a TRANSFER vote still held abandons the entry with 0x0302. -/
def stbyWaitTimeout (s : State) : State :=
  match s.pwr.entry with
  | none => s
  | some e =>
    if s.mt < e.startMt + 1000 * s.setting 0x0302 10 then s
    else match (firstIslands ++ s.laterIslands ++ [1 + s.activePair]).find? s.held with
      | some i => s.abandonEntry 0x0302 i 3
      | none => s

/-- STBY_WAIT_TIMEOUT. -/
def execStbyWaitTimeout (s : State) : Out := .next (stbyWaitTimeout s)

/-- Withdraws one vote: an island without a vote drops; a refusing client that withdraws lets the active pair ask again at once; an
entry that waits for a transfer goes on at its next turn. -/
def State.withdrawVote (s : State) (c i : Nat) : State :=
  let s0 := if c = 3 then { s with pwr := { s.pwr with transfers := s.pwr.transfers.filter (fun t => t.1 != i && t.2 != i) } } else s
  let s1 := ({ s0 with pwr := { s0.pwr with doze := s0.pwr.doze.filter (fun d => !(d.1 == c && d.2 == i)) } }).setVote c i false
  let s2 := s1.settle i
  let refused := s2.get F.PWR_STBY_LAST_REASON == 0x0301 && s2.get F.PWR_STBY_LAST_CLIENT == c && s2.get F.PWR_STBY_LAST_ISLAND == i
  if refused then { s2 with pwr := { s2.pwr with askAgain := s2.mt } } else s2

/-- VOTE_WITHDRAW (R382, R386). -/
def execVoteWithdraw (client : Fin 9) (island : Fin 15) (s : State) : Out := .next (s.withdrawVote client.val island.val)

/-! ## Restores (R387, Table 14-2) -/

/-- Max restore of an island in us: from DOZE, or from NAP. -/
def maxRestoreUs (i : Nat) (fromDoze : Bool) : Nat :=
  if fromDoze then 50
  else match i with
    | 1 => 600 | 2 => 600 | 3 => 450 | 4 => 450 | 5 => 450 | 6 => 450 | 7 => 150 | 8 => 400
    | 9 => 700 | 10 => 1150 | 11 => 550 | 12 => 350 | 13 => 500 | 14 => 100 | _ => 0

/-- ISLAND_RESTORED: the island reaches the state its votes ask for. At a restore from STANDBY with the crystal running the
oscillator is measured (R363); the link island restores NT (R369). -/
def islandRestored (i : Nat) (ppm : Nat) (s : State) : State :=
  if !s.pwr.restoring.any (fun r => r.1 == i) then s
  else
    let s1 := { s with pwr := { s.pwr with restoring := s.pwr.restoring.filter (fun r => r.1 != i), restarts := s.pwr.restarts.erase i } }
    let s2 := (s1.setIsland i (if s1.runVotes i = 0 && !s1.held i then 1 else 2)).followShared
    let s3 := if i = 13 then s2.ntRestore else if i = 9 && s2.enabled .rf && s2.get F.RF_STAT_STATE = 0 then s2.rfIdle else s2
    if 3 ≤ i && i ≤ 6 then placeBackground (placeJobs 4 s3)
    else if i = 1 + s.activePair && s.pwr.xtalRun then
      ({ s3 with tim := { s3.tim with calMt := some s3.mt } }).put F.TIM_PT_CAL_PPM ppm
    else s3

/-- RESTORE_TIMEOUT: at twice the Max an island is restarted once, then marked FAILED with 0x0310. -/
def restoreTimeout (i : Nat) (s : State) : State :=
  match s.pwr.restoring.find? (fun r => r.1 == i) with
  | none => s
  | some (_, t) =>
    if s.mt < t + 2 * maxRestoreUs i (s.island i == 1) then s
    else
      let rest := s.pwr.restoring.filter (fun r => r.1 != i)
      if s.pwr.restarts.contains i then
        (({ s with pwr := { s.pwr with restoring := rest, restarts := s.pwr.restarts.erase i } }).failIsland i).reason .pwr 0x0310
      else { s with pwr := { s.pwr with restoring := rest ++ [(i, s.mt)], restarts := s.pwr.restarts ++ [i] } }

/-! ## Levels (R392, Table 1-1, Table 14-7) -/

/-- The level of an island. -/
def State.level (s : State) (i : Nat) : Nat := bits (s.reg R.PWR_ISL_PL) (2 * i + 1) (2 * i)

/-- The lowest and highest level an island supports; none for a fixed island. -/
def levelRange (i : Nat) : Option (Nat × Nat) :=
  if 1 ≤ i && i ≤ 6 then some (0, 3) else if i = 11 then some (1, 2) else none

/-- The governor's cap on an island: tiles at PL2 from step 2, the active pair at PL2 from step 3. -/
def State.levelCap (s : State) (i : Nat) : Nat :=
  let step := s.get F.PWR_STAT_GOV_STEP
  if 3 ≤ i && i ≤ 6 && 2 ≤ step then 2 else if i = 1 + s.activePair && 3 ≤ step && !s.flag F.LF_STAT_BUSY then 2 else 3

/-- Whether the active pair is in a session step, or runs P-521 or SHA-512 operations in place of their engines (Table 14-6). -/
def State.pairBusy (s : State) : Bool :=
  s.lf.hold.isSome || !s.rng.sessions.isEmpty || s.rf.takeover || (!s.sym.queue.isEmpty && (s.flag F.SYM_STAT_PK_FB || s.flag F.SYM_STAT_SHA_FB))

/-- The level an island takes for its current work; none where the table gives none, so that the demand stands (Table 14-6; log entry 173). -/
def State.workLevel (s : State) (i : Nat) : Option Nat :=
  if i = 1 + s.activePair then
    some (if s.pairBusy then 3 else if s.hif.executing.isSome || !s.sto.queue.isEmpty || !s.upd.reloads.isEmpty || s.upd.loading.isSome then 2 else 1)
  else if i = s.standbyIsland && s.standbyReady then some (if s.net.promoteWait then 3 else 1)
  else if 3 ≤ i && i ≤ 6 then (if (s.tile (i - 3)).job.isSome then some 3 else if (s.tile (i - 3)).slice.isSome then some 1 else none)
  else if i = 11 then some (if s.sto.queue.isEmpty then 1 else 2)
  else none

/-- LEVEL_CHANGE: the island takes the level of its work; one that does not settle in 3 tries stays at the higher with 0x0314. VCORE follows the
highest level demanded. -/
def levelChange (i level : Nat) (settles : Bool) (s : State) : State :=
  match levelRange i with
  | none => s
  | some (lo, hi) =>
    if s.islandFailed i then s
    else
      let want := max lo (min (min ((s.workLevel i).getD level) hi) (s.levelCap i))
      let new := if settles then want else max want (s.level i)
      let s1 := s.setReg R.PWR_ISL_PL (insertField (s.reg R.PWR_ISL_PL) (2 * i + 1) (2 * i) new)
      let v := [1, 2, 3, 4, 5, 6, 11].foldl (fun m k => max m (s1.level k)) 0
      let s2 := { s1 with pwr := { s1.pwr with vcore := v } }
      if settles then s2 else s2.reason .pwr 0x0314

/-- LEVEL_CHANGE. -/
def execLevelChange (island : Fin 15) (level : Fin 4) (settles : Bool) (s : State) : Out :=
  .next (levelChange island.val level.val settles s)

/-! ## MT reservation (R364) -/

/-- Writes MT_RES = MT + 16,777,216 us, or notes the failure with 0x040C. -/
def State.reserveMt (s : State) (ok : Bool) : State :=
  if ok && s.vaultUp then
    let r := s.mt + 16777216
    { s with vault := { s.vault with savedMt := s.vault.savedMt.write r }, sto := { s.sto with mtRes := r, resvRetry := none } }
  else
    (({ s with sto := { s.sto with resvRetry := some (s.mt + 1000000) } }).reason .tim 0x040C).event F.TIM_EVT_RESV_FAIL

/-- A reservation write; in STANDBY the pilot raises a vote for the storage island for it (R364). -/
def State.reserveVoted (s : State) (ok : Bool) : State :=
  if s.pwr.standby then ((s.raiseVote 0 11 false).reserveMt ok).withdrawVote 0 11 else s.reserveMt ok

/-- MT_RESERVATION: due once MT reaches MT_RES − 8,388,608 us. -/
def execMtReservation (ok : Bool) (s : State) : Out :=
  .next (if s.mt + 8388608 < s.sto.mtRes || s.phase < 6 then s else s.reserveVoted ok)

/-- MT_RESERVATION_RETRY: due 1 s after a failed write. -/
def execMtReservationRetry (ok : Bool) (s : State) : Out :=
  .next (match s.sto.resvRetry with
    | some t => if t ≤ s.mt then s.reserveVoted ok else s
    | none => s)

/-- Records VBAT (PWR_VBAT): the value now and the lowest since the last read. -/
def State.noteVbat (s : State) (mv : Nat) : State :=
  let s1 := s.put F.PWR_VBAT_NOW_MV mv
  if s1.get F.PWR_VBAT_MIN_MV = 0 || mv < s1.get F.PWR_VBAT_MIN_MV then s1.put F.PWR_VBAT_MIN_MV mv else s1

end Sys2Proof.Machine
end

