-- ==== Sys2Proof/Machine/Channels.lean ====
section
/-! DEFINITION. Chapter 8: the two channels of the release island, each with its comparator of the command sequence number and its CRC-16
check of the command word (R28, R223). -/
namespace Sys2Proof.Machine

open Sys2Proof

/-- Operations of a command word: both switches off, both on, LOCKREL_L at its holding duty. -/
def relOff : Nat := 0
def relOn : Nat := 1
def relHold : Nat := 2

/-- A command word: its sequence number in bits [63:32], its operation in [31:16], the CRC-16 of these 6 bytes in [15:0] (log entry 162). -/
def relWord (n op : Nat) : Nat :=
  n % 2 ^ 32 * 2 ^ 32 + op % 2 ^ 16 * 2 ^ 16 + (crc16 (toBE 4 n ++ toBE 2 op)).toNat

/-- The sequence number and the operation of a command word. -/
def relNumber (w : Nat) : Nat := w / 2 ^ 32 % 2 ^ 32
def relOp (w : Nat) : Nat := w / 2 ^ 16 % 2 ^ 16

/-- Whether a channel that has accepted number `last` takes a command word: a good CRC-16 and a higher number. -/
def channelTakes (last w : Nat) : Bool := w == relWord (relNumber w) (relOp w) && decide (last < relNumber w)

/-- The switches of a word that both channels take. -/
def State.switches (s : State) (op : Nat) : State :=
  if op = relOn then ((s.putFlag F.REL_STAT_OUT_H true).putFlag F.REL_STAT_OUT_L true).put F.REL_STAT_PHASE 1
  else if op = relHold then s.put F.REL_STAT_PHASE 2
  else if op = relOff then ((s.putFlag F.REL_STAT_OUT_H false).putFlag F.REL_STAT_OUT_L false).put F.REL_STAT_PHASE 0
  else s

/-- A command word at the release island: one that either channel rejects leaves both switches as they were (R223). -/
def State.channelsTake (s : State) (w : Nat) : State :=
  if channelTakes s.rel.chanH w && channelTakes s.rel.chanL w then
    { s.switches (relOp w) with rel := { s.rel with chanH := relNumber w, chanL := relNumber w } }
  else s

/-- The active pair sends a command under its next sequence number (R28). -/
def State.relCommand (s : State) (op : Nat) : State :=
  let n := s.rel.cmdNo + 1
  ({ s with rel := { s.rel with cmdNo := n } }).channelsTake (relWord n op)

/-- Both switches switch off by themselves: a trip, an over-temperature, a reset or the loss of the island (R226, Table 8-4). -/
def State.switchesDrop (s : State) : State := s.switches relOff

/-- The release vote is withdrawn. -/
def State.releaseVoteOff (s : State) : State := (s.withdrawVote 5 14).withdrawVote 5 (1 + s.activePair)

end Sys2Proof.Machine
end

