-- ==== Sys2Proof/Machine/Packets.lean ====
section
/-! DEFINITION. Chapter 1: the way of a packet. Its source's port sets SRC, MASTER and WORLD (R17) and picks the ring (R16), the routers
forward it by class (R18), its destination's port checks it (R20), holds it while the island restores (R19) and judges it (R24); SRAM
answers reads and writes (R23, R31). -/
namespace Sys2Proof.Machine

open Sys2Proof

/-! ## The source's port (R16, R17) -/

/-- The MASTER that an island's port sets on its own requests (Table 1-4); 0xF for an island that is no master. -/
def portMaster (src : Nat) (partner : Bool) : Nat :=
  match src with
  | 0 => 0 | 1 => 1 | 2 => 2 | 3 => 3 | 4 => 3 | 5 => 3 | 6 => 3 | 9 => 6 | 10 => 7 | 11 => 8 | 12 => 5
  | 13 => if partner then 9 else 4
  | _ => 0xF

/-- The WORLD that an island's port sets: the executing world of a core pair (the standby pair runs in the service world, R26), the world
of a tile's job, keeper for the puppeteer and for vault keyring traffic of the storage controller, service otherwise (Table 1-4). -/
def State.portKeeper (s : State) (x : Send) : Bool :=
  match x.src.val with
  | 0 => true
  | 1 => x.keeper && s.activePair == 0
  | 2 => x.keeper && s.activePair == 1
  | 11 => x.target == .vaultKeyring
  | n => if 3 ≤ n && n ≤ 6 then (s.tile (n - 3)).world == some .keeper else false

/-- A header word of Table 1-2. -/
def mkHeader (dest src master : Nat) (keeper : Bool) (tc len op tag offset : Nat) : BitVec 64 :=
  BitVec.ofNat 64 (dest % 16 * 2 ^ 60 + src % 16 * 2 ^ 56 + master % 16 * 2 ^ 52 + bit keeper * 2 ^ 51 + tc % 4 * 2 ^ 49 + len % 32 * 2 ^ 44
    + op % 16 * 2 ^ 40 + tag % 256 * 2 ^ 32 + offset % 2 ^ 32)

/-- A packet with its trailer (R16): 1 to 32 data words, the CRC-32C in the trailer's low word. -/
def mkPacket (dest src master : Nat) (keeper : Bool) (tc op tag offset : Nat) (data : List (BitVec 64)) (target : Target) : Packet :=
  let d := match data.take 32 with | [] => [0] | l => l
  let h := mkHeader dest src master keeper tc (d.length - 1) op tag offset
  let p : Packet := ⟨h, d, 0, target⟩
  { p with trailer := BitVec.ofNat 64 (crc32c (pktCovered p)).toNat }

/-- Whether an OP answers a request: read response, write acknowledge, error response. -/
def isAnswer (op : Nat) : Bool := op == 2 || op == 3 || op == 0xF

/-- The open transaction that an answer of island `src` with a tag closes. -/
def State.answered (s : State) (src tag : Nat) : Option OpenTx := s.net.openTx.find? (fun t => t.tag == tag && t.dst == src)

/-- The packet that a source's port sends: an answer carries the master and the world of its request, every other packet those of its
source. -/
def State.portPacket (s : State) (x : Send) : Packet :=
  let req := if isAnswer x.op.toNat then s.answered x.src.val x.tag.toNat else none
  let master := match req with | some t => t.master | none => portMaster x.src.val x.partner
  let keeper := match req with | some t => t.keeper | none => s.portKeeper x
  mkPacket x.dest.val x.src.val master keeper x.tc.val x.op.toNat x.tag.toNat x.offset.toNat x.data x.target

/-- Hops from an island to another on a ring: ring 0 runs toward higher identifiers (log entry 143). -/
def hops (ring src dst : Nat) : Nat := if ring = 0 then (dst + 15 - src) % 15 else (src + 15 - dst) % 15

/-- Whether a ring is marked failed toward a destination (R20). -/
def State.ringFailed (s : State) (ring dst : Nat) : Bool := s.net.segments.contains (ring, dst)

/-- The ring that a source sends on: the shorter way, or the other ring where that one is marked failed toward the destination (R16). -/
def State.ringFor (s : State) (src dst : Nat) : Nat :=
  let short := if hops 0 src dst ≤ hops 1 src dst then 0 else 1
  if s.ringFailed short dst then 1 - short else short

/-- Puts a packet on the network at its source. -/
def State.launch (s : State) (p : Packet) (src : Nat) : State :=
  let d := s.destOf p
  let r := s.ringFor src d
  { s with net := { s.net with waiting := s.net.waiting ++ [⟨p, p, src, d, r, src, r, false⟩] } }

/-- A source sends: DEST 15 traffic is held while a pair is promoted (R26). -/
def State.send (s : State) (x : Send) : State :=
  let p := s.portPacket x
  if x.dest.val = 15 && s.net.promoteWait then { s with net := { s.net with held15 := s.net.held15 ++ [p] } } else s.launch p x.src.val

/-! ## The routers (R18) -/

/-- The counters of a link. -/
def State.linkRuns (s : State) (ring node : Nat) : List Nat := s.net.runs.getD (15 * ring + node) [0, 0, 0, 0]

/-- The class of a packet under way. -/
def Waiting.cls (w : Waiting) : Nat := pktField w.packet 50 49

/-- The class that a link forwards next: one that has waited while 16 consecutive packets of a higher class passed, else the
lowest-numbered. -/
def nextClass (runs : List Nat) (w : List Waiting) : Option Nat :=
  let waits := fun (c : Nat) => w.any (fun x => x.cls == c)
  match [1, 2, 3].find? (fun c => waits c && decide (16 ≤ runs.getD c 0)) with
  | some c => some c
  | none => [0, 1, 2, 3].find? waits

/-- The counters of a link after a packet of class `c` has passed: a lower class that waits counts one more, every other run is broken. -/
def countRuns (runs : List Nat) (w : List Waiting) (c : Nat) : List Nat :=
  (List.range 4).map (fun k => if c < k && w.any (fun x => x.cls == k) then runs.getD k 0 + 1 else 0)

/-- The node that a ring reaches next. -/
def nextNode (ring node : Nat) : Nat := if ring = 0 then (node + 1) % 15 else (node + 14) % 15

/-- Words with errors XORed onto them. -/
def addNoise : List (BitVec 64) → List (BitVec 64) → List (BitVec 64)
  | [], _ => []
  | l, [] => l
  | w :: ws, n :: ns => (w ^^^ n) :: addNoise ws ns

/-- A packet after a passage: errors on its header, its data words, its trailer. -/
def noisyPacket (p : Packet) (noise : List (BitVec 64)) : Packet :=
  match addNoise (p.header :: p.data ++ [p.trailer]) noise with
  | [] => p
  | h :: rest => { p with header := h, data := rest.dropLast, trailer := (rest.getLast?).getD p.trailer }

/-- A request's header leaves its source: its transaction holds both islands (R21). -/
def State.headerLeaves (s : State) (w : Waiting) : State :=
  let op := pktField w.orig 43 40
  if w.node = w.src && !w.again && (op = 0 || op = 1) then
    { s with net := { s.net with openTx := s.net.openTx ++
        [⟨pktField w.orig 39 32, w.src, w.dst, pktField w.orig 55 52, decide (pktField w.orig 51 51 = 1)⟩] } }
  else s

/-- One turn of a router: the packet that R18 picks moves to the next node; `some` packet where that node is its destination. -/
def State.forward (s : State) (t : Turn) : State × Option Waiting :=
  let here := fun (w : Waiting) => w.ring == t.ring.val && w.node == t.node.val
  let w := s.net.waiting.filter here
  let runs := s.linkRuns t.ring.val t.node.val
  match nextClass runs w with
  | none => (s, none)
  | some c =>
    let pick := fun (x : Waiting) => here x && x.cls == c
    match s.net.waiting.find? pick with
    | none => (s, none)
    | some x =>
      let rest := s.net.waiting.eraseP pick
      let y : Waiting := { x with packet := noisyPacket x.packet t.noise, node := nextNode x.ring x.node }
      let s1 := s.headerLeaves x
      let s2 : State := { s1 with net := { s1.net with
        runs := s1.net.runs.set (15 * t.ring.val + t.node.val) (countRuns runs (rest.filter here) c) } }
      if y.node = x.dst then ({ s2 with net := { s2.net with waiting := rest } }, some y)
      else ({ s2 with net := { s2.net with waiting := rest ++ [y] } }, none)

/-! ## The destination's SRAM (R23, R31, Table 1-1) -/

/-- Words of SRAM of an island. -/
def sramWords (i : Nat) : Nat := if i = 1 || i = 2 then 196608 else if 3 ≤ i && i ≤ 6 then 65536 else if i = 7 then 524288 else 0

/-- An SRAM word that is not listed reads 0 (R69). -/
def sramDefault (_ : Nat) : BitVec 64 := 0

/-- The key of an SRAM word. -/
def sramKey (i word : Nat) : Nat := i * 2 ^ 20 + word

/-- Whether an access lies in the SRAM of an island: not in a bank of shared memory that is mapped out (R32). -/
def State.inSram (s : State) (i word n : Nat) : Bool :=
  decide (word + n ≤ sramWords i) && !(i == 7 && (List.range n).any (fun k => s.net.banksOut.getD ((word + k) / 131072) false))

/-- Writes words to the SRAM of an island, each atomic (R31). -/
def State.sramWrite (s : State) (i word : Nat) (ws : List (BitVec 64)) : State :=
  { s with net := { s.net with sram := sparsePutAll sramDefault s.net.sram (sramKey i word) ws } }

/-- Reads words of the SRAM of an island. -/
def State.sramRead (s : State) (i word n : Nat) : List (BitVec 64) := sparseRead sramDefault s.net.sram (sramKey i word) n

/-! ## The destination's port (R19 to R24) -/

/-- The answer of an island to a packet, on its way back. -/
def State.portAnswer (s : State) (d : Nat) (p : Packet) (op : Nat) (data : List (BitVec 64)) : State :=
  let src := pktField p 59 56
  s.launch (mkPacket src d (pktField p 55 52) (decide (pktField p 51 51 = 1)) (pktField p 50 49) op (pktField p 39 32) (pktField p 31 0)
    data .plain) d

/-- A transaction ends: its votes are withdrawn, and a drop that it deferred is done (R21). -/
def State.closeTx (s : State) (tag src : Nat) : State :=
  match s.net.openTx.find? (fun t => t.tag == tag && t.src == src) with
  | none => s
  | some x =>
    let s1 : State := { s with net := { s.net with openTx := s.net.openTx.eraseP (fun t => t.tag == tag && t.src == src) } }
    (s1.settle x.src).settle x.dst

/-- A packet judged at its island (R24). A refused request is answered with its reason and has no effect; SRAM takes a write and answers a
read; a write of the active pair at the release island is a command word for its channels (R223); an answer closes its transaction. -/
def State.acceptPacket (s : State) (p : Packet) : State :=
  let d := s.destOf p
  let op := pktField p 43 40
  if !knownOp op then s
  else
    let code := if isAnswer op then 0 else s.packetRefusal p
    if code ≠ 0 then
      let s1 : State := { s with net := { s.net with lastError := code } }
      if pktField p 59 56 ≤ 14 then s1.portAnswer d p 0xF [BitVec.ofNat 64 code] else s1
    else
      let err := if op = 0xF then (p.data.headD 0).toNat % 65536 else 0
      let s1 : State := { s with net := { s.net with
        accepted := (s.net.accepted.filter (fun x => x.1 != d)) ++ [(d, p)], lastError := err } }
      let word := pktField p 31 0 / 8
      let n := p.data.length
      if isAnswer op then s1.closeTx (pktField p 39 32) d
      else if op = 1 && d = 14 && p.target == .plain && pktField p 55 52 == 1 + s1.activePair then
        (s1.channelsTake (p.data.headD 0).toNat).portAnswer d p 3 [0]
      else if op = 0 && s1.inSram d word n then s1.portAnswer d p 2 (s1.sramRead d word n)
      else if op = 1 && s1.inSram d word n then (s1.sramWrite d word p.data).portAnswer d p 3 [0]
      else s1

/-- The resend has failed too: the segment is marked failed, the network fault is reported and 0x0124 returned to the requester (R20); a
second failed ring toward the same island marks it FAILED (Table 14-9). -/
def State.segmentFailed (s : State) (w : Waiting) : State :=
  let s1 : State := { s with net := { s.net with
    segments := if s.ringFailed w.first w.dst then s.net.segments else s.net.segments ++ [(w.first, w.dst)], lastError := 0x0124 } }
  let s2 := (s1.redLoss 7).closeTx (pktField w.orig 39 32) w.src
  if (s2.ringFailed 0 w.dst && s2.ringFailed 1 w.dst) || w.first = w.ring then s2.failIsland w.dst else s2

/-- A packet at its destination's port. One with an error is dropped and resent once on the other ring, or on the one that survives
(R20). DEST 15 traffic waits for the promotion (R26); an island in NAP or DOZE restores first (R19, R385). -/
def State.arrive (s : State) (w : Waiting) : State :=
  if !pktGood w.packet then
    if w.again then s.segmentFailed w
    else
      let r := if s.ringFailed (1 - w.ring) w.dst then w.ring else 1 - w.ring
      { s with net := { s.net with waiting := s.net.waiting ++ [{ w with packet := w.orig, node := w.src, ring := r, again := true }] } }
  else
    let d := s.destOf w.packet
    if pktField w.packet 63 60 = 15 && s.net.promoteWait then { s with net := { s.net with held15 := s.net.held15 ++ [w.packet] } }
    else if d ≠ 0 && s.island d < 2 then
      ({ s with net := { s.net with ports := s.net.ports ++ [(d, w.packet)] } }).restoreFor d
    else s.acceptPacket w.packet

/-- The order of writes that reach shared memory together: the lower traffic class, then the lower master code (R31). -/
def writeBefore (a b : Waiting) : Bool :=
  a.cls < b.cls || (a.cls == b.cls && pktField a.packet 55 52 < pktField b.packet 55 52)

/-- An arrival put in its place. -/
def placeArrival (x : Waiting) : List Waiting → List Waiting
  | [] => [x]
  | y :: l => if writeBefore y x then y :: placeArrival x l else x :: y :: l

/-- What arrives in one moment, in the order in which it takes effect. -/
def arrivalOrder (l : List Waiting) : List Waiting := l.foldr placeArrival []

/-- The turns of one moment. -/
def State.moment (s : State) (ts : List Turn) : State :=
  let r := ts.foldl (fun (x : State × List Waiting) t =>
    let y := x.1.forward t
    (y.1, match y.2 with | some w => x.2 ++ [w] | none => x.2)) (s, [])
  (arrivalOrder r.2).foldl State.arrive r.1

/-- PACKET_RECEIVE: packets leave their sources, and the routers take their turns, up to the moment of the arrival. -/
def packetReceive (sends : List Send) (moments : List (List Turn)) (arrival : List Turn) (s : State) : State :=
  (moments.foldl State.moment (sends.foldl State.send s)).moment arrival

/-- The packets held at the port of an island that has reached RUN are delivered in their order (R19). -/
def State.deliverPort (s : State) (i : Nat) : State :=
  let held := s.net.ports.filter (fun x => x.1 == i)
  let s1 : State := { s with net := { s.net with ports := s.net.ports.filter (fun x => x.1 != i) } }
  (held.foldl (fun t x => t.acceptPacket x.2) s1).settle i

/-- The DEST 15 traffic held during a promotion goes to the new active pair (R26). -/
def State.deliver15 (s : State) : State :=
  let held := s.net.held15
  held.foldl State.acceptPacket { s with net := { s.net with held15 := [] } }

/-! ## Restores (R387) -/

/-- ISLAND_RESTORED: the island runs, and its port delivers what it held. -/
def execIslandRestored (island : Fin 15) (ppm : BitVec 16) (s : State) : Out :=
  .next (let t := islandRestored island.val ppm.toNat s
    if t.island island.val = 2 then t.deliverPort island.val else t)

end Sys2Proof.Machine
end

