-- ==== Sys2Proof/Machine/Requests.lean ====
section
/-! DEFINITION. Chapter 9, first part: the descriptor of a cipher request, its destination, its response and its abort. -/
namespace Sys2Proof.Machine

open Sys2Proof

/-! ## The descriptor (R240, Table 9-3) -/

/-- OP of a descriptor. -/
def dOp (d : Bytes) : Nat := u8 d 0
/-- MODE: 0 CTR, 1 GCM, 2 CCM, 3 CMAC, 4 AES-KW, 5 XTS. -/
def dMode (d : Bytes) : Nat := u8 d 1
/-- TAGLEN. -/
def dTag (d : Bytes) : Nat := u8 d 2
/-- A bit of FLAGS: 0 FIRST, 1 LAST, 2 SAVE, 3 PR, 4 SESSION. -/
def dFlag (d : Bytes) (n : Nat) : Bool := Nat.testBit (u8 d 3) n
/-- KEY. -/
def dKey (d : Bytes) : Nat := le d 4 4
/-- CTX. -/
def dCtx (d : Bytes) : Nat := u8 d 8
/-- AAD_LEN. -/
def dAad (d : Bytes) : Nat := le d 0x0C 4
/-- DATA_LEN. -/
def dLen (d : Bytes) : Nat := le d 0x10 4
/-- Island and offset of DST. -/
def dDst (d : Bytes) : Nat × Nat := (le d 0x24 4 % 16, le d 0x20 4)
/-- IV. -/
def dIv (d : Bytes) : Bytes := slice d 0x28 16

/-! ## The destination (R241, R248) -/

/-- Whether an island can be reached from the network: it has not failed, nor both rings toward it. -/
def State.reachable (s : State) (i : Nat) : Bool := !s.islandFailed i && !(s.ringFailed 0 i && s.ringFailed 1 i)

/-- Bytes put over those of a list from an offset on. -/
def overlay (old : Bytes) (off : Nat) (new : Bytes) : Bytes := old.take off ++ new ++ old.drop (off + new.length)

/-- Bytes as words, least significant byte first (log entry 163); the count bounds the words. -/
def wordsOf : Nat → Bytes → List (BitVec 64)
  | 0, _ => []
  | n + 1, b => BitVec.ofNat 64 (leNat (b.take 8)) :: wordsOf n (b.drop 8)

/-- The bytes of words. -/
def wordBytes (ws : List (BitVec 64)) : Bytes := ws.flatMap (fun w => toLE 8 w.toNat)

/-- Writes bytes to the SRAM of an island that can be reached. -/
def State.sramPutBytes (s : State) (i off : Nat) (b : Bytes) : State :=
  let n := (off % 8 + b.length + 7) / 8
  if b.isEmpty || !s.reachable i || !s.inSram i (off / 8) n then s
  else s.sramWrite i (off / 8) (wordsOf n (overlay (wordBytes (s.sramRead i (off / 8) n)) (off % 8) b))

/-- Writes bytes to DST from the offset `at_` of the output on. -/
def State.putDst (s : State) (d : Bytes) (at_ : Nat) (b : Bytes) : State := s.sramPutBytes (dDst d).1 ((dDst d).2 + at_) b

/-! ## Contexts as slots (R249) -/

/-- The slot numbered `n`. -/
def State.ctx (s : State) (n : Nat) : Option Ctx := s.sym.ctx.getD n none

/-- Replaces a slot. -/
def State.setCtx (s : State) (n : Nat) (c : Option Ctx) : State := { s with sym := { s.sym with ctx := s.sym.ctx.set n c } }

/-! ## Responses (R241, Table 9-4) -/

/-- The 48 bytes of a response. -/
def symResponse (reason engine ctx outLen : Nat) (nonce tag : Bytes) : Bytes :=
  toLE 2 reason ++ toLE 1 engine ++ toLE 1 ctx ++ toLE 4 outLen ++ padTo 12 nonce ++ zeros 4 ++ padTo 16 tag ++ zeros 8

/-- Sends a response; the mailbox command CIPHER that waits for it is answered with it. -/
def State.symRespond (s : State) (master : Nat) (keeper mailbox : Bool) (reason : Nat) (resp out : Bytes) : State :=
  let s1 : State := { s with sym := { s.sym with last := some ⟨master, keeper, resp, out⟩ } }
  if mailbox then s1.finish reason (resp ++ out) else s1

/-! ## Aborts (R248, R261, R262) -/

/-- A request is taken out of the island: what it has put into DST is overwritten with 0 where the destination can be reached, and the slot
that it took as a first part is freed. -/
def State.wipeReq (s : State) (r : SymReq) : State :=
  let s1 := s.putDst r.desc 0 (zeros r.written)
  if r.begun && r.slot ≠ 0xFF && dFlag r.desc 0 then s1.setCtx r.slot none else s1

/-- Drops every request that a test picks, without a response. -/
def State.symDrop (s : State) (pick : SymReq → Bool) : State :=
  (s.sym.queue.filter pick).foldl State.wipeReq { s with sym := { s.sym with queue := s.sym.queue.filter (fun r => !pick r) } }

/-- Ends every request that a test picks with a reason, each with its response. -/
def State.symAbort (s : State) (pick : SymReq → Bool) (code : Nat) : State :=
  (s.sym.queue.filter pick).foldl
    (fun t r => (t.wipeReq r).symRespond r.master r.keeper r.mailbox code (symResponse code 0xFF 0xFF 0 [] []) [])
    { s with sym := { s.sym with queue := s.sym.queue.filter (fun r => !pick r) } }

/-- A tamper alarm aborts every operation in progress with 0x0A15 (R261). -/
def State.symTamper (s : State) : State := (s.symAbort (fun _ => true) 0x0A15).event F.SYM_EVT_TAMPER_ABORT

/-- A takeover: the failed pair's requests end without a response, 0x0A16, and its slots are wiped (R262). -/
def State.symTakeover (s : State) (master : Nat) : State :=
  let mine := fun (r : SymReq) => r.master == master
  let s1 := s.symDrop mine
  let s2 := { s1 with sym := { s1.sym with
      ctx := s1.sym.ctx.map (fun (c : Option Ctx) => match c with
        | some x => if x.master = master then none else some x
        | none => none) } }
  if s.sym.queue.any mine then s2.reason .sym 0x0A16 else s2

end Sys2Proof.Machine
end

