-- ==== Sys2Proof/Machine/Keys.lean ====
section
/-! DEFINITION. Chapter 10: the keyring and its generations, dealer authorisations, sealed imports, lifecycle transitions and fuse blows,
attestation, zeroisation. The tamper alarms and the end of a fuse blow, which also reach the sessions, stand in Events. -/
namespace Sys2Proof.Machine

open Sys2Proof

/-! ## Keys and handles (R271, R272) -/

/-- The handle of a keyring record. -/
def handleOf (r : KeyRec) : Nat := r.kind % 16 * 2 ^ 28 + r.index % 4096 * 2 ^ 16 + r.gen % 2 ^ 16

/-- The records of the generation in force. -/
def State.ring (s : State) : List KeyRec := match s.vault.keyring with | some g => g.records | none => []

/-- The record that a handle names, or the refusal 0x0B01 or 0x0B02. -/
def State.keyByHandle (s : State) (h : Nat) : Except Nat KeyRec :=
  match s.keyRec? (h / 2 ^ 28) (h / 2 ^ 16 % 4096) with
  | none => .error 0x0B01
  | some r => if r.gen % 2 ^ 16 = h % 2 ^ 16 then .ok r else .error 0x0B02

/-- Attribute words of the keys that the Untur creates (Table 10-4). -/
def attrSlot : Nat := 0x00068C30
def attrPartner : Nat := 0x00068C10
def attrTransport : Nat := 0x00068C40
def attrAttest : Nat := 0x00068C10
def attrJournal : Nat := 0x00069C80
def attrExchange : Nat := 0x00068C20

/-- Checks 2 to 5 of Table 9-5 on an attribute word: world, master, lifecycle state, usage bit; 0 when all hold. -/
def keyAdmission (attr master : Nat) (keeper : Bool) (lc usage : Nat) : Nat :=
  if !Nat.testBit attr (if keeper then 15 else 14) then 0x0121
  else if !Nat.testBit attr (16 + master) then 0x0122
  else if !Nat.testBit attr (8 + lc) then 0x0A05
  else if !Nat.testBit attr usage then 0x0A04
  else 0

/-- Whether the keyring is locked by a T2 response: 10 s of MT (R288). -/
def State.ringLocked (s : State) : Bool := match s.keys.lockEnd with | some t => decide (s.mt < t) | none => false

/-- Whether requests with prediction resistance fail because the entropy source has failed (R258). -/
def State.entropyFailed (s : State) : Bool := s.flag F.SYM_ENT_FAILED

/-! ## The key hierarchy (R267 to R269) -/

/-- The epoch key E. -/
def epochKey (epoch : Nat) : Bytes := Crypto.kdf Config.root "EPOCH" (toLE 1 epoch)

/-- The lineage root `n` steps down from L_255. -/
def lineageDown (e : Bytes) : Nat → Bytes
  | 0 => Crypto.kdf e "LINROOT" []
  | n + 1 => Crypto.kdf (lineageDown e n) "LIN" (toLE 1 (254 - n))

/-- L_v. -/
def lineage (e : Bytes) (v : Nat) : Bytes := lineageDown e (255 - v)

/-- An XTS key pair: 2 calls with 0x00 and 0x01 appended to the context. -/
def kdfPair (k : Bytes) (label : String) (ctx : Bytes) : Bytes := Crypto.kdf k label (ctx ++ [0]) ++ Crypto.kdf k label (ctx ++ [1])

/-! ## Generations (R274, R276) -/

/-- KEY_GEN, KEY_RECS and the key bits of KEY_STAT. -/
def State.refreshKeys (s : State) : State :=
  let n := s.ring.length
  let s1 := (s.put F.KEY_RECS_USED n).put F.KEY_RECS_FREE (512 - n)
  let s2 := (s1.putFlag F.KEY_STAT_AS_OK (s.keyRec? 5 0).isSome).putFlag F.KEY_STAT_TK_OK (s.keyRec? 4 0).isSome
  let s3 := s2.putFlag F.KEY_STAT_PREP (s.keys.prep != .none)
  match s.vault.keyring with
  | some g => (s3.setReg R.KEY_GEN (g.number % 2 ^ 32)).put F.KEY_STAT_SV_SEAL g.s
  | none => (s3.setReg R.KEY_GEN 0).put F.KEY_STAT_SV_SEAL 0

/-- The number that the next generation takes. -/
def State.nextGen (s : State) : Nat := match s.vault.keyring with | some g => g.number + 1 | none => 1

/-- The version at which the keyring stays sealed (R270). -/
def State.ringS (s : State) : Nat := match s.vault.keyring with | some g => g.s | none => 0

/-- Key material with leading zeros up to a multiple of 8 bytes, as AES-KW takes it (log entry 169). -/
def kwPadded (k : Bytes) : Bytes := zeros ((8 - k.length % 8) % 8) ++ k

/-- The records of a generation as the vault holds them: handle, attribute word, key sealed under K_RING,s, public key
(R274, log entry 169). -/
def ringBytes (epoch s : Nat) (recs : List KeyRec) : Bytes :=
  let ring := Crypto.kdf (lineage (epochKey epoch) s) "RING" []
  recs.flatMap (fun r => toLE 4 (handleOf r) ++ toLE 4 r.attr ++ Crypto.kwWrap ring (kwPadded r.key) ++ r.pub)

/-- The CMAC under K_RMAC,s of a commit record: epoch, generation number, record count, s, digest. -/
def ringMac (number epoch s count : Nat) (digest : Bytes) : Bytes :=
  Crypto.cmac (Crypto.kdf (lineage (epochKey epoch) s) "RMAC" [])
    (toLE 1 epoch ++ toLE 8 number ++ toLE 2 count ++ toLE 1 s ++ digest)

/-- A generation with its commit record. -/
def sealGeneration (number epoch s : Nat) (recs : List KeyRec) : Generation :=
  let digest := Crypto.sha512 (ringBytes epoch s recs)
  ⟨number, epoch, s, recs, digest, ringMac number epoch s recs.length digest⟩

/-- Whether a generation's commit record and MAC are complete (R71). -/
def generationOk (g : Generation) : Bool :=
  g.digest == Crypto.sha512 (ringBytes g.epoch g.s g.records) && g.mac == ringMac g.number g.epoch g.s g.records.length g.digest

/-- A generation of records is written and committed: reason 0, 0x0B0B for more than 512 records, 0x0B06 for a failed write, which
keeps the old generation. -/
def State.commitGen (s : State) (recs : List KeyRec) (ok : Bool) : State × Nat :=
  if 512 < recs.length then (s.reason .key 0x0B0B, 0x0B0B)
  else if !ok || !s.vaultUp then ((s.event F.KEY_EVT_COMMIT_FAIL).reason .key 0x0B06, 0x0B06)
  else
    let g := sealGeneration s.nextGen s.fuses.epochNo s.ringS recs
    let s1 := { s with vault := { s.vault with keyring := some g, alternate := none } }
    (((s1.event F.KEY_EVT_COMMIT).refreshKeys).commitPoint, 0)

/-- A key or lifecycle event of the journal; its event code is the command's opcode (log entry 26). -/
def State.keyEvent (s : State) (code handle : Nat) : State :=
  s.journal 0x0B01 0 .key 0 (toLE 2 code ++ toLE 4 handle ++ toLE 1 s.lifecycle ++ toLE 1 s.fuses.epochNo)

/-- The lowest free index of a kind, from `n` upward; the count bounds the search. -/
def freeIndex (ring : List KeyRec) (kind : Nat) : Nat → Nat → Nat
  | 0, n => n
  | k + 1, n => if ring.any (fun r => r.kind == kind && r.index == n) then freeIndex ring kind k (n + 1) else n

/-! ## Dealer authorisation (R279, R280) -/

/-- The customer root public key that the selected image carries. -/
def State.customerRoot (s : State) : Bytes := slice s.sys.image (le s.sys.image 0x30 4) 132

/-- Checks 2 to 6 of Table 10-6 in FIELD: 0 or the reason. -/
def State.authReason (s : State) (scope : Nat) (input auth : Bytes) : Nat :=
  match s.keys.challenge with
  | none => 0x0B10
  | some (c, t) =>
    if t + 120000000 ≤ s.mt || slice auth 280 16 ≠ c then 0x0B10
    else if le auth 276 4 ≠ s.vault.deviceTag || slice auth 300 64 ≠ Crypto.sha512 input then 0x0B14
    else if !Nat.testBit (le auth 296 2) scope || !Nat.testBit (le auth 8 2) scope then 0x0B13
    else if be auth 0 4 ≠ 0x44414C43
        || !Crypto.ecdsaVerify s.customerRoot (Crypto.sha512 (slice auth 0 144)) (slice auth 144 132) then 0x0B11
    else if !Crypto.ecdsaVerify (slice auth 12 132) (Crypto.sha512 (slice auth 276 88)) (slice auth 364 132) then 0x0B12
    else 0

/-- Checks an authorisation: outside FIELD none is needed and none may be carried. Every check consumes the challenge. -/
def State.checkAuth (s : State) (scope : Nat) (input auth : Bytes) : State × Nat :=
  if s.lifecycle ≠ 3 then
    (if auth.isEmpty then (s, 0)
    else ((({ s with keys := { s.keys with challenge := none } }).event F.KEY_EVT_AUTH_FAIL).bump F.KEY_AUTH_CNT_FAIL, 0x0B09))
  else
    let r := s.authReason scope input auth
    let s1 := { s with keys := { s.keys with challenge := none } }
    if r = 0 then ((s1.event F.KEY_EVT_AUTH_OK).bump F.KEY_AUTH_CNT_OK, 0)
    else (((s1.event F.KEY_EVT_AUTH_FAIL).bump F.KEY_AUTH_CNT_FAIL).reason .key r, r)

/-- The length of the authorisation that a command must carry. -/
def State.authLen (s : State) : Nat := if s.lifecycle = 3 then 496 else 0

/-- The challenge command: an ordinary generate, which a failed entropy source does not stop (R257, R258). -/
def challengeOp (s : State) : MbRes :=
  if !s.inService then mbFail s .key 0x0B09
  else
    let c := s.drawn 16
    let t := s.fresh 16
    mbOk { t with keys := { t.keys with challenge := some (c, s.mt) } } c

/-- CHALLENGE. -/
def execChallenge (s : State) : Out := .next (mailboxCommand 0x0B01 [] challengeOp s)

/-- CHALLENGE_EXPIRY: 120 s after the draw. -/
def execChallengeExpiry (s : State) : Out :=
  .next (match s.keys.challenge with
    | some (_, t) => if t + 120000000 ≤ s.mt then { s with keys := { s.keys with challenge := none } } else s
    | none => s)

/-! ## Zeroisation (R278) -/

/-- Overwrites the keyring, the mutable area, the cipher key store and every context slot; the requests in the cipher island are gone and what
they have put into a destination is overwritten (R248). DEVICE_TAG, KSN, partner SEQ and PCTR, the
rollback floor and the chain head stay. -/
def State.zeroise (s0 : State) : State :=
  let s := s0.symDrop (fun _ => true)
  let s1 := { s with
    vault := { s.vault with keyring := none, alternate := none, nonceHi := []
                            slots := List.replicate 64 .empty, paths := List.replicate 4 .clear }
    keys := { s.keys with derived := false, prep := .none, secrets := [] }
    sym := { s.sym with ctx := List.replicate 32 none, store := [], streams := [] }
    tok := { s.tok with learn := none } }
  let s2 := ((s1.put F.TOK_SET_TOKENS 0).putFlag F.TOK_SET_LEARN_OPEN false).setReg R.TOK_LEARN_PROG 0
  (s2.event F.KEY_EVT_ZEROISED).refreshKeys

/-! ## Lifecycle transitions and fuse blows (R266, R282) -/

/-- Answers the executing command; the reset of `source` waits for the delivery (R447). -/
def State.finishReset (s : State) (source : Nat) (out : Bytes) : State :=
  match s.hif.executing with
  | none => s
  | some c =>
    let s1 := s.finish 0 out
    let acks := s1.hif.spiResp.length + (if s1.flag F.HIF_MB_OUT_STAT_VALID && s1.flag F.HIF_MB_OUT_STAT_LAST then 1 else 0)
    let placed := if acks ≤ 1 && s1.hif.spiResp.isEmpty then some s.mt else none
    { s1 with hif := { s1.hif with resetWait := some ⟨source, c.transport, acks, placed⟩ } }

/-- Starts a lifecycle blow for a mailbox command: the transition record first, then the fuse; the answer comes with the read-back. -/
def State.startBlow (s : State) (fuse opcode : Nat) : MbRes :=
  let s1 := { s with vault := { s.vault with transition := some fuse }
                     keys := { s.keys with blow := some (.lifecycle fuse), blowReset := true, blowOp := some (opcode, 0) } }
  (s1.event F.KEY_EVT_LC_PENDING, mbDeferred, [])

/-- The INTEGRATE command. -/
def integrateOp (hash : Bytes) (s : State) : MbRes :=
  if hash.length ≠ 32 then mbRefuse s 0x100C
  else if s.lifecycle ≠ 1 then mbFail s .key 0x0B09
  else if s.keys.blow.isSome || allZero hash then mbFail s .key 0x0B08
  else ({ s with fuses := { s.fuses with custHash := hash } }).startBlow 1 0x0B02

/-- INTEGRATE. -/
def execIntegrate (hash : Bytes) (s : State) : Out := .next (mailboxCommand 0x0B02 hash (integrateOp hash) s)

/-- The FIELD command: a NOR image selected, transport key and attestation secret installed. -/
def fieldOp (s : State) : MbRes :=
  if s.lifecycle ≠ 2 then mbFail s .key 0x0B09
  else if s.keys.blow.isSome || s.flag F.SYS_STAT_LKG || (s.keyRec? 4 0).isNone || (s.keyRec? 5 0).isNone then mbFail s .key 0x0B08
  else s.startBlow 2 0x0B03

/-- FIELD. -/
def execField (s : State) : Out := .next (mailboxCommand 0x0B03 [] fieldOp s)

/-- The RETIRE command: zeroises, then blows RETIRED; in FIELD under scope RETIRE. -/
def retireOp (auth : Bytes) (s : State) : MbRes :=
  if !s.inService then mbFail s .key 0x0B09
  else if auth.length ≠ s.authLen then mbRefuse s 0x100C
  else
    let a := s.checkAuth 5 [] auth
    if a.2 ≠ 0 then mbFail a.1 .key a.2
    else if s.keys.blow.isSome then mbFail a.1 .key 0x0B08
    else a.1.zeroise.startBlow 3 0x0B04

/-- RETIRE. -/
def execRetire (auth : Bytes) (s : State) : Out := .next (mailboxCommand 0x0B04 auth (retireOp auth) s)

/-- DEVICE_TAG is drawn on first entry to INTEGRATION, excludes 0 and all ones, and is kept for life (R96). A draw of 0 becomes 1 and one of
all ones becomes 2 (DESIGN CHOICE, log entry 175). -/
def State.drawDeviceTag (s : State) : State :=
  if s.vault.deviceTag ≠ 0 then s
  else
    let v := leNat (s.drawn 4)
    let w := if v = 0 || v = 0xFFFFFFFF then 1 + v / 0xFFFFFFFF else v
    let t := s.fresh 4
    { t with vault := { t.vault with deviceTag := w } }

/-! ## T3 response (R288 to R291) -/

/-- The bit of TAM_STAT that shows a monitor: quiet bits fall with their alarm and rise when the monitors arm next, TIN_ALARM rises
(log entry 168). -/
def State.monitorTrips (s : State) (code : Nat) : State :=
  match code with
  | 0x0F01 => s.putFlag F.TAM_STAT_VOLT_OK false
  | 0x0F02 => s.putFlag F.TAM_STAT_CLK_OK false
  | 0x0F03 => s.putFlag F.TAM_STAT_TEMP_OK false
  | 0x0F04 => s.putFlag F.TAM_STAT_LIGHT_OK false
  | 0x0F05 => s.putFlag F.TAM_STAT_SHADE_OK false
  | 0x0F06 => s.putFlag F.TAM_STAT_TIN_ALARM true
  | 0x0F08 => s.event F.TAM_EVT_ESCALATED
  | _ => s

/-- Latches an alarm: TAM_LAST, its PT and MT, the event, the count and TAM_REASON. -/
def State.latchAlarm (s : State) (cls code : Nat) : State :=
  let sleep := s.island (1 + s.activePair) == 0
  let s1 := s.setReg R.TAM_LAST (code * 0x10000 + cls * 0x100 + bit sleep)
  let s2 := (s1.setReg R.TAM_LAST_PT s.pilot.pt.toNat).setReg R.TAM_LAST_MT (s.mt % 2 ^ 32)
  let s3 := match cls with
    | 1 => (s2.event F.TAM_EVT_T1).bump F.TAM_CNT_T1
    | 2 => (s2.event F.TAM_EVT_T2).bump F.TAM_CNT_T2
    | _ => (s2.event F.TAM_EVT_T3).bump F.TAM_CNT_T3
  let s4 := (s3.monitorTrips code).reason .tam code
  { s4 with vault := { s4.vault with tamperSince := true }, tag := { s4.tag with alarm := true } }

/-- Journal body of an alarm (Table 11-7, TYPE 0x0F01). -/
def State.alarmBody (s : State) (cls epoch : Nat) : Bytes := toLE 1 cls ++ toLE 4 s.pilot.pt.toNat ++ toLE 1 epoch

/-- The T3 response: the command executing ends with 0x0A15 (R289); the next epoch fuse, or the RETIRED fuse at epoch 15, starts to blow;
everything is zeroised; RECOVERY follows with the alarm's reason. The alarm is journaled after the epoch advance (R289). -/
def State.t3Respond (s : State) (code : Nat) (cause : RecCause) : State :=
  let last := decide (s.fuses.epochNo = 15)
  let blow : Blow := if last then .lifecycle 3 else .epoch
  let body := s.alarmBody 3 (if last then 15 else s.fuses.epochNo + 1)
  let entry : JLatched := ⟨0x0F01, code, 0x0F, 1, s.mt, body⟩
  let s1 := s.symTamper.zeroise
  let s2 := { s1 with
    pilot := { s1.pilot with t3Active := true }
    keys := { s1.keys with blow := some blow, blowReset := false, blowOp := none, challenge := none, lockEnd := none }
    vault := { s1.vault with tamperDue := s1.vault.tamperDue ++ [entry] }
    tag := { s1.tag with password := none, key := none, pwdFail := 0, keyFail := 0 } }
  (s2.finish 0x0A15 []).enterRecovery cause code

/-- Journals an alarm (TYPE 0x0F01). -/
def State.alarmEntry (s : State) (cls code : Nat) : State := s.journal 0x0F01 code .tam 1 (s.alarmBody cls s.fuses.epochNo)

/-- An alarm in STANDBY raises votes for the active pair, the cipher and the storage island (R289, Table 14-3). -/
def State.alarmWake (s : State) : State :=
  if s.pwr.standby then ((s.raiseVote 0 (1 + s.activePair) false).raiseVote 0 8 false).raiseVote 0 11 false else s

/-- A T3 alarm: latched always, in sleep with the votes of R289; it merges into a response that lasts or waits, waits for a blow in
progress, and otherwise gets the response (R266, R290). -/
def State.t3 (s : State) (code : Nat) (cause : RecCause) : State :=
  let s1 := (s.latchAlarm 3 code).alarmWake
  if s.pilot.t3Active || s.keys.alarmWait.isSome || s.lifecycle = 0 || s.lifecycle = 5 then s1.alarmEntry 3 code
  else if s.keys.blow.isSome then { s1 with keys := { s1.keys with alarmWait := some (code, cause) } }
  else s1.t3Respond code cause

/-- The RECOVERY cause of a T3 alarm by the phase it falls in (R72). -/
def State.t3Cause (s : State) : RecCause := if 1 ≤ s.phase && s.phase ≤ 5 then .t3start else .t3run

/-- A fuse after the read-back of its elements: a blown element stays blown (R265). -/
def Fuse.join (f : Fuse) (readA readB : Bool) : Fuse := ⟨f.a || readA, f.b || readB⟩

/-- Waits for the fuse blow in progress (R266). -/
def State.awaitBlow (s : State) (d : Deferred) : State := { s with keys := { s.keys with deferred := s.keys.deferred ++ [d] } }

/-! ## The service port (R291) -/

/-- The DEBUG votes on every island. -/
def State.debugVotes (s : State) (b : Bool) : State :=
  [1, 2, 3, 4, 5, 6, 8, 9, 10, 11, 12, 13, 14].foldl (fun t i => t.setVote 8 i b) s

/-- Opens the port. -/
def State.openPort (s : State) : State :=
  let s1 := { s with pilot := { s.pilot with svcOpen := true } }
  (s1.putFlag F.TAM_STAT_SVC_OPEN true).debugVotes true

/-- SVC_UNLOCK: in PROVISIONED and INTEGRATION without authorisation; in FIELD under scope SVC_OPEN after the T3 response, or refused
with 0x0F0B at epoch 15; a request that fails its checks is a forced port. -/
def svcUnlock (auth : Bytes) (s : State) : State :=
  if s.pilot.svcOpen then s
  else if s.keys.blow.isSome then s.awaitBlow (.unlock auth)
  else match s.lifecycle with
    | 1 => s.openPort
    | 2 => s.openPort
    | 3 =>
      if s.fuses.epochNo = 15 then (s.event F.TAM_EVT_SVC_REFUSED).reason .tam 0x0F0B
      else
        let a := if auth.length = 496 then s.checkAuth 4 [] auth else (s, 0x0B10)
        if a.2 ≠ 0 then a.1.t3 0x0F07 s.t3Cause
        else ((a.1.t3 0x0F0A .svcOpen).event F.TAM_EVT_SVC_OPENED).openPort
    | _ => s.t3 0x0F07 s.t3Cause

/-- SVC_UNLOCK. -/
def execSvcUnlock (auth : Bytes) (s : State) : Out := .next (svcUnlock auth s)

/-- SVC_CLOSE. -/
def execSvcClose (s : State) : Out :=
  .next (if !s.pilot.svcOpen then s else
    (({ s with pilot := { s.pilot with svcOpen := false } }).putFlag F.TAM_STAT_SVC_OPEN false).debugVotes false)

/-- KEYRING_LOCK_END: 10 s after the last T2 alarm. -/
def execKeyringLockEnd (s : State) : Out :=
  .next (match s.keys.lockEnd with
    | some t => if t ≤ s.mt then
        (({ s with keys := { s.keys with lockEnd := none } }).putFlag F.KEY_STAT_RING_LOCKED false).event F.TAM_EVT_LOCK_END
      else s
    | none => s)

/-! ## Sealed imports (R281) -/

/-- The sealed import of kind 4 (transport key) or 5 (attestation secret): Q 132 bytes, then the wrapped key. -/
def importOp (kind scope opcode : Nat) (sealed auth : Bytes) (commitOk : Bool) (s : State) : MbRes :=
  if sealed.length ≠ 172 || auth.length ≠ s.authLen then mbRefuse s 0x100C
  else if !s.inService then mbFail s .key 0x0B09
  else
    let a := s.checkAuth scope sealed auth
    if a.2 ≠ 0 then mbFail a.1 .key a.2
    else if s.ringLocked then mbFail a.1 .key 0x0A14
    else if s.keys.prep != .none then mbFail a.1 .key 0x0B05
    else match s.keyRec? 6 kxkIndex with
      | none => mbFail a.1 .key 0x0B01
      | some kxk =>
        let q := sealed.take 132
        if !Crypto.onCurve q then mbFail a.1 .key 0x0A0C
        else
          let kek := Crypto.kdf (Crypto.ecdh kxk.key q) "IMPORT" (toBE 4 s.vault.deviceTag ++ toLE 1 kind)
          match Crypto.kwUnwrap kek (sealed.drop 132) with
          | none => mbFail a.1 .key 0x0B18
          | some k =>
            let r : KeyRec := { kind := kind, index := 0, gen := s.nextGen
                                attr := if kind = 4 then attrTransport else attrAttest, key := k, pub := [] }
            let c := a.1.commitGen (a.1.ring.filter (fun x => x.kind != kind) ++ [r]) commitOk
            if c.2 ≠ 0 then mbFail c.1 .key c.2
            else mbOk ((c.1.event F.KEY_EVT_IMPORT).keyEvent opcode (handleOf r)) (toLE 4 (handleOf r))

/-- IMPORT_TRANSPORT. -/
def execImportTransport (sealed auth : Bytes) (s : State) : Out :=
  .next (mailboxCommand 0x0B05 (sealed ++ auth) (importOp 4 3 0x0B05 sealed auth true) s)

/-- IMPORT_ATTEST. -/
def execImportAttest (sealed auth : Bytes) (s : State) : Out :=
  .next (mailboxCommand 0x0B06 (sealed ++ auth) (importOp 5 6 0x0B06 sealed auth true) s)

/-! ## Host keys (R273, R277) -/

/-- Whether an attribute word lies within the limits of R273. -/
def attrPermitted (attr : Nat) : Bool :=
  bits attr 31 16 &&& 0xFFCF == 0 && !Nat.testBit attr 15 && Nat.testBit attr 14 && bits attr 13 8 &&& 0x33 == 0

/-- What a KEY command needs before it prepares a generation: 0, or the lock, the generation in preparation. -/
def State.prepReason (s : State) : Nat :=
  if s.ringLocked then 0x0A14 else if s.keys.prep != .none then 0x0B05 else 0

/-- A new key of kind 6 or 7 with its public key, and the state after its draw. -/
def State.newKey (s : State) (kind index attr : Nat) : KeyRec × State :=
  let k := if kind = 6 then Crypto.privateKey (s.drawnPr 96) else s.drawnPr 32
  ({ kind := kind, index := index, gen := s.nextGen, attr := attr, key := k, pub := if kind = 6 then padTo 132 (Crypto.publicKey k) else [] },
    s.freshPr (if kind = 6 then 96 else 32))

/-- KEY_ROT names a key marked for rotation (R277). -/
def State.nameRotate (s : State) (handle : Nat) : State := (s.event F.KEY_EVT_ROTATE).setReg R.KEY_ROT handle

/-- The key generate command. A key requested with ROTATE set is marked from the first. -/
def keyGenerateOp (kind attr : Nat) (commitOk : Bool) (s : State) : MbRes :=
  if kind ≠ 6 && kind ≠ 7 then mbRefuse s 0x100C
  else if !s.inService then mbFail s .key 0x0B09
  else if !attrPermitted attr then mbFail s .key 0x0B03
  else if s.prepReason ≠ 0 then mbFail s .key s.prepReason
  else if s.entropyFailed then mbFail s .key 0x0A0D
  else
    let (r, t) := s.newKey kind (freeIndex s.ring kind 512 (if kind = 6 then 3 else 0)) attr
    let c := t.commitGen (s.ring ++ [r]) commitOk
    if c.2 ≠ 0 then mbFail c.1 .key c.2
    else mbOk ((if Nat.testBit attr 0 then c.1.nameRotate (handleOf r) else c.1).keyEvent 0x0B07 (handleOf r)) (toLE 4 (handleOf r) ++ r.pub)

/-- KEY_GENERATE. -/
def execKeyGenerate (kind : BitVec 8) (attr : Word) (s : State) : Out :=
  .next (mailboxCommand 0x0B07 (toLE 1 kind.toNat ++ toLE 4 attr.toNat) (keyGenerateOp kind.toNat attr.toNat true) s)

/-- The key export command: AES-KW under a keyring key with usage wrap that admits the host. -/
def keyExportOp (handle wrapping : Nat) (s : State) : MbRes :=
  if !s.inService then mbFail s .key 0x0B09
  else if s.ringLocked then mbFail s .key 0x0A14
  else match s.keyByHandle handle, s.keyByHandle wrapping with
    | .error e, _ => mbFail s .key e
    | _, .error e => mbFail s .key e
    | .ok k, .ok w =>
      if !Nat.testBit k.attr 1 then mbFail s .key 0x0B04
      else
        let a := keyAdmission w.attr 4 false s.lifecycle 6
        if a ≠ 0 then mbFail s .key a else mbOk s (Crypto.kwWrap w.key (kwPadded k.key))

/-- KEY_EXPORT. -/
def execKeyExport (handle wrapping : Word) (s : State) : Out :=
  .next (mailboxCommand 0x0B08 (toLE 4 handle.toNat ++ toLE 4 wrapping.toNat) (keyExportOp handle.toNat wrapping.toNat) s)

/-- The record that a host command may change: it must let in the host's world and master. -/
def State.hostKey (s : State) (handle : Nat) : Except Nat KeyRec :=
  match s.keyByHandle handle with
  | .error e => .error e
  | .ok k => if !Nat.testBit k.attr 14 then .error 0x0121 else if !Nat.testBit k.attr 20 then .error 0x0122 else .ok k

/-- The key destroy command. -/
def keyDestroyOp (handle : Nat) (commitOk : Bool) (s : State) : MbRes :=
  if !s.inService then mbFail s .key 0x0B09
  else if s.prepReason ≠ 0 then mbFail s .key s.prepReason
  else match s.hostKey handle with
    | .error e => mbFail s .key e
    | .ok k =>
      let c := s.commitGen (s.ring.filter (fun x => !(x.kind == k.kind && x.index == k.index))) commitOk
      if c.2 ≠ 0 then mbFail c.1 .key c.2 else mbOk (c.1.keyEvent 0x0B09 handle) []

/-- KEY_DESTROY. -/
def execKeyDestroy (handle : Word) (s : State) : Out :=
  .next (mailboxCommand 0x0B09 (toLE 4 handle.toNat) (keyDestroyOp handle.toNat true) s)

/-- The key rotate command: a new key of the same kind, index and attributes, not marked, replaces the old one. -/
def keyRotateOp (handle : Nat) (commitOk : Bool) (s : State) : MbRes :=
  if !s.inService then mbFail s .key 0x0B09
  else if s.prepReason ≠ 0 then mbFail s .key s.prepReason
  else if s.entropyFailed then mbFail s .key 0x0A0D
  else match s.hostKey handle with
    | .error e => mbFail s .key e
    | .ok k =>
      let (r, t) := s.newKey k.kind k.index (k.attr / 2 * 2)
      let c := t.commitGen (s.ring.filter (fun x => !(x.kind == k.kind && x.index == k.index)) ++ [r]) commitOk
      if c.2 ≠ 0 then mbFail c.1 .key c.2
      else
        let s1 := if c.1.reg R.KEY_ROT = handle then c.1.setReg R.KEY_ROT 0 else c.1
        mbOk (s1.keyEvent 0x0B0A (handleOf r)) (toLE 4 (handleOf r))

/-- KEY_ROTATE. -/
def execKeyRotate (handle : Word) (s : State) : Out :=
  .next (mailboxCommand 0x0B0A (toLE 4 handle.toNat) (keyRotateOp handle.toNat true) s)

/-- The attributes read command. -/
def keyAttrReadOp (handle : Nat) (s : State) : MbRes :=
  if !s.inService then mbFail s .key 0x0B09
  else if s.ringLocked then mbFail s .key 0x0A14
  else match s.keyByHandle handle with
    | .error e => mbFail s .key e
    | .ok k => mbOk s (toLE 4 k.attr)

/-- KEY_ATTR_READ. -/
def execKeyAttrRead (handle : Word) (s : State) : Out :=
  .next (mailboxCommand 0x0B0B (toLE 4 handle.toNat) (keyAttrReadOp handle.toNat) s)

/-- Marks a key for rotation (R246, R277). -/
def State.markRotate (s : State) (handle : Nat) : State :=
  match s.vault.keyring, s.keyByHandle handle with
  | some g, .ok k =>
    let f := fun (r : KeyRec) => if r.kind = k.kind && r.index = k.index then { r with attr := r.attr ||| 1 } else r
    let s1 := { s with vault := { s.vault with keyring := some (sealGeneration g.number g.epoch g.s (g.records.map f)) } }
    s1.nameRotate handle
  | _, _ => s

/-! ## Attestation (R284, R285) -/

/-- Bytes 0x00 to 0x2F of the form A response (Table 10-9). -/
def State.formA (s : State) : Bytes :=
  let flags := bit (s.flag F.SYS_STAT_DEGRADED) + 2 * bit (s.flag F.SYS_STAT_LKG) + 4 * bit s.vault.tamperSince
  toLE 4 s.vault.deviceTag ++ toLE 1 s.lifecycle ++ toLE 1 s.fuses.epochNo ++ toLE 1 s.sys.sv ++ toLE 1 flags
    ++ toLE 4 (s.reg R.SYS_IMG_ROLLBACK) ++ toLE 4 (s.reg R.SYS_IMG_SERIAL) ++ padTo 32 s.sys.measurement

/-- The attestation response: the 48 bytes and their CMAC under AS. -/
def attestAOp (challenge : Bytes) (s : State) : MbRes :=
  if challenge.length ≠ 16 then mbRefuse s 0x100C
  else if !s.inService then mbFail s .key 0x0B09
  else if s.ringLocked then mbFail s .key 0x0A14
  else match s.keyRec? 5 0 with
    | none => mbFail s .key 0x0B19
    | some k =>
      let b := s.formA
      mbOk { s with vault := { s.vault with tamperSince := false } } (b ++ padTo 16 (Crypto.cmac k.key (toLE 1 0x30 ++ challenge ++ b)))

/-- ATTEST_A. -/
def execAttestA (challenge : Bytes) (s : State) : Out := .next (mailboxCommand 0x0B0C challenge (attestAOp challenge) s)

/-- The DIK private key, derived inside the P-521 engine from 768 bits of the KDF (Table 10-2, log entry 28). -/
def dikKey : Bytes := Crypto.privateKey (Crypto.kdfN 6 Config.root "DIK" [])

/-- The DIK public key X ‖ Y (R283). -/
def dikPublic : Bytes := Crypto.publicKey dikKey

/-- A form B statement (Table 10-10), and the state after the draws of its signature. -/
def State.statement (s : State) (handle attr : Nat) (challenge pub : Bytes) : Bytes × State :=
  let body := toLE 2 2 ++ toLE 1 s.lifecycle ++ toLE 1 s.fuses.epochNo ++ toLE 4 s.vault.deviceTag ++ toLE 4 handle ++ toLE 4 attr
    ++ toLE 1 1 ++ toLE 1 s.sys.sv ++ toLE 2 0 ++ toLE 4 (s.mt % 2 ^ 32) ++ padTo 16 challenge
    ++ padTo 64 (if s.keys.derived then s.sys.measurement else []) ++ padTo 132 pub
  let x := s.sign dikKey (Crypto.sha512 body)
  (body ++ x.1, x.2)

/-- The public part of a key in a statement: X and Y, or 16 bytes of the CMAC of a zero block. -/
def statedPub (r : KeyRec) : Bytes := if r.kind = 6 then r.pub else padTo 16 (Crypto.cmac r.key (zeros 16))

/-- The statement on demand: in FIELD 0x0B1A; its signature draws with prediction resistance, which a failed entropy source refuses with
0x0A0D (R258); without derived keys only DIK can be named; only a key generated inside is signed. -/
def statementBOp (handle : Nat) (challenge : Bytes) (s : State) : MbRes :=
  if challenge.length ≠ 16 then mbRefuse s 0x100C
  else if s.lifecycle = 3 then mbFail s .key 0x0B1A
  else if s.lifecycle = 0 || s.lifecycle = 5 then mbFail s .key 0x0B09
  else if handle / 2 ^ 28 = 9 then
    (if s.entropyFailed then mbFail s .key 0x0A0D
    else let x := s.statement handle 0 challenge dikPublic; mbOk x.2 x.1)
  else if !s.keys.derived then mbFail s .key 0x0B1A
  else if s.ringLocked then mbFail s .key 0x0A14
  else match s.keyByHandle handle with
    | .error e => mbFail s .key e
    | .ok k =>
      if k.kind = 2 || k.kind = 6 || k.kind = 7 then
        (if s.entropyFailed then mbFail s .key 0x0A0D
        else let x := s.statement handle k.attr challenge (statedPub k); mbOk x.2 x.1)
      else mbFail s .key 0x0B1A

/-- STATEMENT_B. -/
def execStatementB (handle : Word) (challenge : Bytes) (s : State) : Out :=
  .next (mailboxCommand 0x0B0D (toLE 4 handle.toNat ++ challenge) (statementBOp handle.toNat challenge) s)

/-- The stored start-up statements. -/
def statementsReadOp (s : State) : MbRes :=
  if s.lifecycle = 0 then mbFail s .key 0x0B09
  else if s.vault.statements.isEmpty then mbFail s .key 0x0B1A
  else mbOk s s.vault.statements.flatten

/-- STATEMENTS_READ. -/
def execStatementsRead (s : State) : Out := .next (mailboxCommand 0x0B0E [] statementsReadOp s)

/-- The DIK public key and certificate. -/
def dikCertReadOp (s : State) : MbRes :=
  if s.lifecycle = 0 || !s.vault.certStored then mbFail s .key 0x0B09
  else mbOk s (padTo 132 dikPublic ++ toLE 2 Config.dikCert.length ++ Config.dikCert)

/-- DIK_CERT_READ. -/
def execDikCertRead (s : State) : Out := .next (mailboxCommand 0x0B0F [] dikCertReadOp s)

/-- Right after phase 9, at the first start of a fuse epoch: JK, KXK and PXK are generated, one generation commits them, and their
statements are stored with CHAL 0 (R285). -/
def State.startupStatements (s : State) : State :=
  if !s.inService || s.vault.stmtEpoch = some s.fuses.epochNo || s.entropyFailed || s.keys.prep != .none || s.ringLocked then s
  else
    let jk := s.newKey 6 jkIndex attrJournal
    let kxk := jk.2.newKey 6 kxkIndex attrExchange
    let pxk := kxk.2.newKey 6 pxkIndex attrExchange
    let keep := s.ring.filter (fun r => !(r.kind == 6 && decide (r.index ≤ 2)))
    let c := pxk.2.commitGen (keep ++ [jk.1, kxk.1, pxk.1]) true
    if c.2 ≠ 0 then c.1
    else
      let stmt := fun (t : State) (r : KeyRec) => t.statement (handleOf r) r.attr (zeros 16) r.pub
      let a := stmt c.1 jk.1
      let b := stmt a.2 kxk.1
      let d := stmt b.2 pxk.1
      let u := d.2
      let st := [a.1, b.1, d.1]
      { u with vault := { u.vault with statements := st, stmtEpoch := some u.fuses.epochNo } }

/-- ECDH_SECRET_WIPE: an ECDH secret that has stood for 1 s of MT goes (R271). -/
def execEcdhSecretWipe (s : State) : Out :=
  .next (let old := (s.keys.secrets.filter (fun x => x.2 + 1000000 ≤ s.mt)).map (·.1)
    { s with keys := { s.keys with secrets := s.keys.secrets.filter (fun x => !(x.2 + 1000000 ≤ s.mt)) }
             sym := { s.sym with store := s.sym.store.filter (fun x => !old.contains (handleOf x)) } })

/-- KEY and TAM registers whose value follows from MT: RING_LOCKED, the lock left in 100 ms steps. -/
def State.keyView (s : State) (off : Nat) : Option Nat :=
  if off = R.KEY_STAT then some (s.reg off / 2 * 2 + bit s.ringLocked)
  else if off = R.TAM_STAT then
    match s.keys.lockEnd with
    | some t => some ((s.reg off) % 2 ^ 24 + min ((t - s.mt + 99999) / 100000) 100 * 2 ^ 24)
    | none => none
  else none

end Sys2Proof.Machine
end

