-- ==== Sys2Proof/Machine/Sequencer.lean ====
section
/-! DEFINITION. The radio sequencer as its users see it (chapter 6): RF_BANDS, the channel filters, energy in a slot, the queue and what a
command waits for, when the sub-GHz receiver listens, and what a request that takes the air ends. -/
namespace Sys2Proof.Machine

open Sys2Proof

/-! ## RF_BANDS and TOKEN_TYPES (R119, R180) -/

/-- The TOKEN_TYPES section. -/
def State.typesSec (s : State) : Bytes := (s.section? 9).getD []

/-- The RF_BANDS section, CHAINMASK, DET_DBM, EXTSUB_DB2, and the band entry that TOKEN_TYPES selects. -/
def State.bandsSec (s : State) : Bytes := (s.section? 5).getD []
def State.chainMask (s : State) : Nat := u8 s.bandsSec 1 % 16
def State.detDbm (s : State) : Int := signed 8 (u8 s.bandsSec 6)
def State.extSub (s : State) : Int := signed 8 (u8 s.bandsSec 5)
def State.bandNo (s : State) : Nat := u8 s.typesSec 3
def State.bandRec (s : State) (b : Nat) : Bytes := slice s.bandsSec (0x10 + 16 * b) 16
def State.band (s : State) : Bytes := s.bandRec s.bandNo

/-- The code of the smallest of 25, 50, 100, 200, 400 kHz that is at least `need` Hz wide. -/
def filterStep (need : Nat) : Nat := ([25000, 50000, 100000, 200000, 400000].findIdx? (fun (w : Nat) => need ≤ w)).getD 4

/-- The wide filter fits both deviations, the narrow one that of RKE (R161). -/
def State.wideFilter (s : State) : Nat := filterStep (max (2 * (le s.band 4 4 + 10000)) (2 * (le s.band 8 4 + 1200)))
def State.narrowFilter (s : State) : Nat := filterStep (2 * (le s.band 8 4 + 1200))

/-- The filter in force: the wide one while a request holds the LF air, else the narrow one, with the RKE demodulator alone (R161). -/
def State.filterNow (s : State) : Nat := if s.lf.hold.isSome then s.wideFilter else s.narrowFilter

/-- Four windows of 64 us in a row above the threshold, referred to the antenna by EXTSUB_DB2 (R162). -/
def energyIn (thr ext : Int) : Nat → List (BitVec 8) → Bool
  | 4, _ => true
  | _, [] => false
  | n, w :: ws => if 2 * thr < 2 * signed 8 w.toNat - ext then energyIn thr ext (n + 1) ws else energyIn thr ext 0 ws

/-- Whether a response slot carries energy above DET_DBM. -/
def State.slotEnergy (s : State) (windows : List (BitVec 8)) : Bool := energyIn s.detDbm s.extSub 0 windows

/-! ## Synthesisers (R163, R165, R186) -/

/-- One-synthesiser operation (R165). -/
def State.oneSyn (s : State) : Bool := s.flag F.RF_STAT_SYN0_FAILED != s.flag F.RF_STAT_SYN1_FAILED

/-- The synthesiser that serves sub-GHz (0) or 2.4 GHz (1), the other one once it has failed. -/
def State.synFor (s : State) (n : Nat) : Nat :=
  if n = 0 then (if s.flag F.RF_STAT_SYN0_FAILED then 1 else 0) else if s.flag F.RF_STAT_SYN1_FAILED then 0 else 1

/-- Whether an operation uses the 2.4 GHz path, and whether it transmits there. -/
def opIs24 : RadioOp → Bool
  | .rxSub _ => false | .tx24 | .rx24 | .sweep | .flick => true
def opSends : RadioOp → Bool
  | .rxSub _ | .rx24 => false | .tx24 | .sweep | .flick => true

/-- The synthesiser whose lock an operation waits for; a sweep that gets none counts it against SYN1 (log entry 48). -/
def State.opSyn (s : State) (op : RadioOp) : Nat := s.synFor (if opIs24 op then 1 else 0)

/-- The tones of a sweep: 2404 + k MHz in ascending order, SYN0 on the even and SYN1 on the odd ones, one synthesiser on all in
one-synthesiser operation (R163, R186). -/
def State.sweepTones (s : State) : List (Nat × Nat) :=
  (List.range 72).map (fun k => (2404 + k, if s.oneSyn then s.synFor 1 else k % 2))

/-- Whether a section of the radio is out for a microcode reload: sub-GHz 3, 2.4 GHz 4 (Table 15-5, R182). -/
def State.sectionOut (s : State) (op : RadioOp) : Bool := s.upd.loading == some (if opIs24 op then 4 else 3)

/-- Whether the sub-GHz receiver listens: in use, its section not out, SYN0 not lent to a sweep (it is back at its lock, or 80 us after the
sweep at the latest), and with one synthesiser no 2.4 GHz operation on air (R163, R165). -/
def State.subListens (s : State) : Bool :=
  let high := match s.rf.onAir with | some c => opIs24 c.op | none => false
  let lent := s.rf.lent && (high || (match s.rf.back with | some t => decide (s.mt < t + 80) | none => true))
  s.enabled .rf && s.flag F.RF_STAT_SUB_OK && !s.onRc && s.upd.loading != some 3 && !lent && !(s.oneSyn && high)

/-- Whether an RKE copy that ends now, 93.33 ms long, met the gap of a sweep (R164). -/
def State.copyCut (s : State) : Bool := match s.rf.back with | some t => decide (s.mt < t + 93333) | none => false

/-! ## The queue (R167 to R169) -/

/-- Whether the operation on air serves a job. -/
def State.onRadio (s : State) (j : RadioJob) : Bool := s.rf.onAir.map (·.job) == some j

/-- A radio calibration at work is abandoned with 0x060A; it waits to start again from its first step. -/
def State.abandonCal (s : State) : State :=
  match s.rf.cal with
  | some c =>
    if !c.running then s
    else
      let s1 := { s with rf := { s.rf with cal := some { c with step := 1, running := false } } }
      ((((s1.event F.RF_EVT_CAL_ABORT).bump F.RF_CNT_CAL_ABORT).reason .rf 0x060A).putFlag F.RF_STAT_CAL_BUSY false).put F.RF_STAT_STATE 1
  | none => s

/-- How far RT is past an instant in ticks, and whether it is; RT wraps. -/
def State.rtPast (s : State) (start : Nat) : Nat := (s.tim.rt.toNat + 2 ^ 48 - start) % 2 ^ 48
def State.rtReached (s : State) (start : Nat) : Bool := decide (s.rtPast start < 2 ^ 47)

/-- RT at an instant of MT: 40,960 ticks a microsecond. -/
def State.rtAt (s : State) (t : Nat) : Nat := (((s.tim.rt.toNat : Int) + ((t : Int) - s.mt) * 40960) % 2 ^ 48).toNat

/-- A command joins the queue of 16, or is refused as one too many (0x060B) or as late by more than 10 us (0x060C). -/
def State.queueRadio (s : State) (c : RadioCmd) : State × Bool :=
  let late := s.rtPast c.start
  if !s.enabled .rf || s.onRc then (s, false)
  else if 16 ≤ s.rf.queue.length then (((s.event F.RF_EVT_QUEUE_FULL).bump F.RF_CNT_LATE).reason .rf 0x060B, false)
  else if 409600 < late && late < 2 ^ 47 then (((s.event F.RF_EVT_LATE).bump F.RF_CNT_LATE).reason .rf 0x060C, false)
  else
    let s1 := s.abandonCal
    let s2 := { s1 with rf := { s1.rf with queue := s1.rf.queue ++ [c] } }
    (if s2.rf.onAir.isNone && !s2.flag F.RF_STAT_TEST_ON then s2.rfState 2 else s2, true)

/-- A sub-GHz receive window of a request, in us of MT (R168: the LF sequencer commands them). -/
def State.queueWindow (s : State) (slots start us : Nat) (j : RadioJob) : State :=
  (s.queueRadio ⟨.rxSub slots, s.rtAt start, 40960 * us, 0, j⟩).1

/-- Commands of sessions leave the queue; what is on air for them runs to its end. -/
def State.dropQueued (s : State) : State := { s with rf := { s.rf with queue := s.rf.queue.filter (fun c => c.job == .plain) } }

/-- What is on air for a session ends with it. -/
def State.dropOnAir (s : State) : State :=
  match s.rf.onAir with
  | some c => if c.job = .plain then s else ({ s with rf := { s.rf with onAir := none } }).rfIdle
  | none => s

/-- The power that a frame of a setting goes out with: the lower of the setting and the cap, both signed in 0.5 dB (R177). -/
def State.txPower (s : State) (setting : Nat) : Nat := unsigned 8 (min (signed 8 setting) (signed 8 (s.get F.RF_TXPWR_CAP)))

/-- Between two entries of a table: the place of `x` between the grid values 0 to `n` that lie `step` apart, held to the ends. -/
def gridAt (x step : Rat) (n : Nat) : Nat × Rat :=
  let i := min (n - 1) (max 0 (x / step).floor).toNat
  (i, max 0 (min 1 (x / step - i)))

/-- The PA gain that the factory table gives at a die temperature in C and a PA rail in mV: 9 temperatures from -40 to +125, 3 rails from
3.0 V to 3.6 V, evenly spaced and interpolated linearly (R177; log entry 157). -/
def paGainAt (temp : Int) (mv : Nat) : Rat :=
  let a := gridAt ((temp : Rat) + 40) (165 / 8) 8
  let b := gridAt ((mv : Rat) - 3000) 300 2
  let e := fun (i j : Nat) => Config.paEntry Config.trim i j
  let row := fun (j : Nat) => e a.1 j + (e (a.1 + 1) j - e a.1 j) * a.2
  row b.1 + (row (b.1 + 1) - row b.1) * b.2

/-- At the start of each frame the factory table gives the PA gain at the die temperature and the PA rail as measured; the frame is corrected
for it throughout (R177; log entry 157). -/
def State.paMeasure (s : State) : State :=
  { s with rf := { s.rf with paGain := paGainAt (signed 8 (s.get F.RF_TEMP_NOW_T)) (Config.paRail s.mt) } }

/-! ## The radio as the air is taken (R169, R175, R178) -/

/-- A test transmission, running or starting, ends. -/
def State.endTest (s : State) : State :=
  if s.flag F.RF_STAT_TEST_ON || s.rf.test then
    (({ s with rf := { s.rf with test := false } }).putFlag F.RF_STAT_TEST_ON false).put F.RF_STAT_STATE 1
  else s

/-- What a request that takes the LF air ends on the radio: a calibration, and a test with its event. -/
def State.radioYields (s : State) : State :=
  let s1 := s.abandonCal
  if s1.flag F.RF_STAT_TEST_ON then (s1.endTest).event F.RF_EVT_TEST_STOP else s1.endTest

end Sys2Proof.Machine
end

