-- ==== Sys2Proof/Machine/Air.lean ====
section
/-! DEFINITION. What every token path shares (chapters 4 and 5): token types and plans, slots, MACs, the checks and lockout of Table 4-3
and R114, LF patterns and frames with their scaling, the queue for the LF air, and the requests whose tokens are judged. -/
namespace Sys2Proof.Machine

open Sys2Proof

/-! ## TOKEN_TYPES (R119) -/

/-- The 8-byte entry of a token type. -/
def State.typeEntry (s : State) (id : Nat) : Option Bytes :=
  ((List.range (u8 s.typesSec 0)).map (fun i => slice s.typesSec (8 + 8 * i) 8)).find? (fun e => u8 e 0 == id)

/-- CAPS, MIN_FIELD of a type; 0 where the image does not list it. -/
def State.typeCaps (s : State) (id : Nat) : Nat := match s.typeEntry id with | some e => u8 e 2 | none => 0
def State.typeMin (s : State) (id : Nat) : Nat := match s.typeEntry id with | some e => u8 e 3 | none => 0

/-- Whether a type has RANGING. -/
def State.typeRanges (s : State) (id : Nat) : Bool := Nat.testBit (s.typeCaps id) 1

/-- BROAD and NARROW of the plan of a REQUEST. -/
def State.plan (s : State) (code : Nat) : Option (Nat × Nat) :=
  let b := s.typesSec
  (((List.range (u8 b 1)).map (fun i => slice b (8 + 8 * u8 b 0 + 4 * i) 4)).find? (fun e => u8 e 0 == code)).map
    (fun e => (u8 e 1, u8 e 2))

/-- The plan that a request uses: an RKE confirmation uses that of REQUEST 0x00 (R221). -/
def State.planOf (s : State) (code : Nat) : Option (Nat × Nat) := s.plan (if code = 0x0C then 0 else code)

/-! ## Slots (R86, R87, R114) -/

/-- A slot record. -/
def State.slot (s : State) (n : Nat) : Slot := s.vault.slots.getD n .empty

/-- Replaces a slot record; TOKENS follows. -/
def State.setSlot (s : State) (n : Nat) (x : Slot) : State :=
  { s with vault := { s.vault with slots := s.vault.slots.set n x } }

/-- The slot, not EMPTY, that a TID names. -/
def State.slotOfTid (s : State) (tid : Nat) : Option Nat :=
  (List.range 64).find? (fun n => (s.slot n).state != 0 && (s.slot n).tid == tid)

/-- TOKENS and KSN of TOK_SET. -/
def State.refreshSet (s : State) : State :=
  (s.put F.TOK_SET_TOKENS ((s.vault.slots.filter (fun x => x.state != 0)).length)).put F.TOK_SET_KSN s.vault.ksn

/-- Lock duration of a level (R114). -/
def lockUs (level : Nat) : Nat := (match level with | 0 => 0 | 1 => 5 | 2 => 10 | 3 => 20 | 4 => 40 | _ => 60) * 60000000

/-- 10 min of MT. -/
def tenMin : Nat := 600000000

/-- A slot whose lock has run out: FAIL_CNT returns to 0, LEVEL stays. -/
def Slot.settle (x : Slot) (mt : Nat) : Slot :=
  if x.locked && decide (x.lockEnd ≤ mt) then { x with locked := false, fails := [], held := 0 } else x

/-- The path record's counterpart. -/
def PathRec.settle (x : PathRec) (mt : Nat) : PathRec :=
  if x.locked && decide (x.lockEnd ≤ mt) then { x with locked := false, fails := [], held := 0 } else x

/-- The failures of the last 10 min. -/
def recentFails (fails : List Nat) (mt : Nat) : List Nat := fails.filter (fun t => mt < t + tenMin)

/-- FAIL_CNT: held while a lock lasts. -/
def Slot.count (x : Slot) (mt : Nat) : Nat := let y := x.settle mt; if y.locked then y.held else (recentFails y.fails mt).length
def PathRec.count (x : PathRec) (mt : Nat) : Nat := let y := x.settle mt; if y.locked then y.held else (recentFails y.fails mt).length

/-- A counted failure of a slot; the eighth within 10 min locks it. Failures during a lock are not counted. -/
def Slot.fail (x : Slot) (mt : Nat) : Slot :=
  let y := x.settle mt
  if y.locked then y
  else
    let f := recentFails y.fails mt ++ [mt]
    if 8 ≤ f.length then
      let l := min 5 (y.level + 1)
      { y with fails := f, locked := true, level := l, held := 8, lockEnd := mt + lockUs l }
    else { y with fails := f }

/-- A counted failure of a path; the sixteenth within 10 min locks it. -/
def PathRec.fail (x : PathRec) (mt : Nat) : PathRec :=
  let y := x.settle mt
  if y.locked then y
  else
    let f := recentFails y.fails mt ++ [mt]
    if 16 ≤ f.length then
      let l := min 5 (y.level + 1)
      { y with fails := f, locked := true, level := l, held := 16, lockEnd := mt + lockUs l }
    else { y with fails := f }

/-- The lockout record of a path. -/
def State.pathRec (s : State) (p : Nat) : PathRec := s.vault.paths.getD p .clear

/-- Replaces it. -/
def State.setPath (s : State) (p : Nat) (x : PathRec) : State := { s with vault := { s.vault with paths := s.vault.paths.set p x } }

/-- Counts a failure toward a slot, with its events. -/
def State.countSlot (s : State) (n : Nat) : State :=
  let old := (s.slot n).settle s.mt
  if old.locked then s
  else
    let x := (s.slot n).fail s.mt
    let s1 := (s.setSlot n x).event F.TOK_EVT_AUTH_FAIL
    if x.locked then s1.event F.TOK_EVT_SLOT_LOCK else s1

/-- Counts an unknown identifier toward a path; the PASSIVE path counts none. -/
def State.countPath (s : State) (p : Nat) : State :=
  let old := (s.pathRec p).settle s.mt
  if p = 0 || old.locked then s
  else
    let x := (s.pathRec p).fail s.mt
    let s1 := (s.setPath p x).event F.TOK_EVT_AUTH_FAIL
    if x.locked then s1.event F.TOK_EVT_PATH_LOCK else s1

/-- Whether the slot's class and type may use a path (Table 4-12), judged with the selected image. -/
def State.pathOk (s : State) (x : Slot) (path : Nat) : Bool :=
  match s.typeEntry x.typeId with
  | none => false
  | some e =>
    match x.cls with
    | 1 => path == 0 || path == 2 || (path == 1 && Nat.testBit (u8 e 2) 0)
    | 2 => path == 3
    | 3 => path == 2
    | _ => false

/-- Steps 3 to 6 of Table 4-3 on a slot: 0 or the reason; with the keyring locked no MAC can be verified, and the attempt is refused with
0x0A14 (R288). -/
def State.slotCheck (s : State) (path n : Nat) : Nat :=
  let x := (s.slot n).settle s.mt
  if !s.pathOk x path then 0x080D
  else if x.state = 2 then 0x0802
  else if x.state = 3 then 0x0803
  else if x.locked then 0x0805
  else if x.conflict && path ≤ 1 then 0x0804
  else if s.ringLocked then 0x0A14
  else 0

/-- Step 1: whether a path is locked. -/
def State.pathLocked (s : State) (p : Nat) : Bool := p != 0 && ((s.pathRec p).settle s.mt).locked

/-- Journal body of an authentication (Table 11-7). -/
def State.authBody (s : State) (path slot tid ctr req : Nat) : Bytes :=
  toLE 1 path ++ toLE 1 slot ++ toLE 4 tid ++ toLE 2 s.vault.ksn ++ toLE 4 ctr ++ toLE 1 req

/-- TOK_LAST_REFUSE; an unknown identifier shows slot 0. -/
def State.lastRefuse (s : State) (path slot reason : Nat) : State :=
  s.setReg R.TOK_LAST_REFUSE (path % 4 * 2 ^ 22 + (if slot = 0xFF then 0 else slot % 64) * 2 ^ 16 + reason % 2 ^ 16)

/-- A refused attempt: TOK_LAST_REFUSE and its journal entry, SUSPECT for a refusal by lockout (log entry 47). Slot 0xFF stands for an
unknown identifier. -/
def State.refuseAttempt (s : State) (path slot tid ctr req reason : Nat) : State :=
  (s.lastRefuse path slot reason).journal 0x0801 reason .tok (bit (reason == 0x0805 || reason == 0x0806))
    (s.authBody path slot tid ctr req)

/-- An unknown identifier (step 2): counted toward the path. -/
def State.refuseUnknown (s : State) (path tid ctr req : Nat) : State :=
  (s.countPath path).refuseAttempt path 0xFF tid ctr req 0x0801

/-- A failed cryptogram or MAC (step 7): counted toward the slot. -/
def State.refuseMac (s : State) (path n tid ctr req : Nat) : State :=
  (s.countSlot n).refuseAttempt path n tid ctr req 0x0807

/-- A failed MAC within a session (RPT, SREP): counted toward the slot as step 7, without an attempt of its own. -/
def State.failSlot (s : State) (path n : Nat) : State := (s.countSlot n).lastRefuse path n 0x0807

/-- The standing time returns to 0 (R143). -/
def State.standZero (s : State) : State := { s with vault := { s.vault with standMt := s.mt } }

/-- Step 9 of Table 4-3, with the standing time. -/
def State.authSucceed (s : State) (path n : Nat) : State :=
  let x := s.slot n
  let y := { x with fails := [], level := 0, held := 0, conflict := x.conflict && decide (path ≤ 1) }
  let p := s.pathRec path
  let s1 := (s.setSlot n y).setPath path { p with fails := [], level := 0, held := 0 }
  ((s1.event F.TOK_EVT_AUTH_OK).standZero).touch

/-- Journals a successful authentication. -/
def State.journalAuth (s : State) (path n tid ctr req : Nat) : State :=
  s.journal 0x0801 0 .tok 0 (s.authBody path n tid ctr req)

/-- Writes an accepted counter L. -/
def State.acceptCtr (s : State) (n ctr : Nat) : State := s.setSlot n { s.slot n with ctr := ctr }

/-- A slot whose accepted counter is 0xFFFF_FFFF becomes RETIRED with 0x080C once its frame or session is complete (R87, R113); an RKE
command that waits for its confirmation is not. -/
def State.retireSpent (s : State) (path n : Nat) : State :=
  let x := s.slot n
  if x.ctr = 0xFFFFFFFF ∧ x.state = 1 ∧ !s.tok.confirms.any (fun c => c.1 == n) then
    ((s.setSlot n { x with state := 3 }).event F.TOK_EVT_RETIRED).journal 0x0801 0x080C .tok 0 (s.authBody path n x.tid x.ctr 0xFF)
  else s

/-- A counter that is not ahead: REPLAY, REKEY and the slot key marked for rotation (R106, R112). -/
def State.replay (s : State) (n : Nat) : State :=
  (s.setSlot n { s.slot n with rekey := true }).event F.TOK_EVT_REPLAY

/-! ## MACs (R96) -/

/-- VEHICLE_GROUP of DEVICE. -/
def State.group (s : State) : Nat := s.secLE 1 0 4 0

/-- The 16-byte header of a MAC. -/
def State.macHeader (s : State) (d ksn slot tid : Nat) : Bytes :=
  toBE 1 d ++ toBE 4 s.group ++ toBE 4 s.vault.deviceTag ++ toBE 2 ksn ++ toBE 1 slot ++ toBE 4 tid

/-- The slot key SK. -/
def State.slotKey (s : State) (n : Nat) : Bytes := match s.keyRec? 2 n with | some r => r.key | none => []

/-- The leftmost `n` bytes of the MAC of a domain and body under a slot's key. -/
def State.slotMac (s : State) (d slot tid : Nat) (body : Bytes) (n : Nat) : Bytes :=
  (padTo 16 (Crypto.cmac (s.slotKey slot) (s.macHeader d s.vault.ksn slot tid ++ body))).take n

/-- The bytes of a frame without its CRC-16, when that is good (R98). -/
def crcGood (frame : Bytes) : Option Bytes :=
  let b := frame.take (frame.length - 2)
  if 2 ≤ frame.length && be frame b.length 2 == (crc16 b).toNat then some b else none

/-- A frame's bytes with their CRC-16. -/
def withCrc (b : Bytes) : Bytes := b ++ toBE 2 (crc16 b).toNat

/-! ## LF channels, patterns and frames (R124 to R136) -/

/-- The LF_CHANNELS section and its header fields. -/
def State.lfSec (s : State) : Bytes := (s.section? 3).getD []
def State.gateDrive (s : State) : Bool := u8 s.lfSec 0 == 1
def State.nPat (s : State) : Nat := u8 s.lfSec 1
def State.nMeas (s : State) : Nat := u8 s.lfSec 2
def State.imax (s : State) : Nat := le s.lfSec 0x0A 2

/-- A pattern record, and the patterns of the MEAS list. -/
def State.patRec (s : State) (p : Nat) : Bytes := slice s.lfSec (0xB8 + 28 * p) 28
def State.measPats (s : State) : List Nat := (slice s.lfSec (0xB8 + 28 * s.nPat) s.nMeas).map BitVec.toNat

/-- Whether channel `c` is in use: fitted, not FAILED, not taken out; VANT in regulation in integrated mode, VBAT not above its range
(R135, R394, R474). -/
def State.chWorks (s : State) (c : Nat) : Bool :=
  Nat.testBit (u8 s.lfSec 3) c && s.enabled .lf && !s.flag (F.LF_CHn_STAT_FAILED c) && !s.flag (F.LF_CHn_CTL_OFF c)
    && (s.gateDrive || s.flag F.LF_STAT_VANT_OK) && !s.flag F.PWR_STAT_OVERVOLT

/-- Whether a channel can show a fault: fitted, in use by the image, not FAILED. -/
def State.chLive (s : State) (c : Nat) : Bool := Nat.testBit (u8 s.lfSec 3) c && s.enabled .lf && !s.flag (F.LF_CHn_STAT_FAILED c)

/-- The working channels of a pattern. -/
def State.patChannels (s : State) (p : Nat) : List Nat :=
  (List.range 8).filter (fun c => Nat.testBit (u8 (s.patRec p) 0) c && s.chWorks c)

/-- AMP of a channel in a pattern. -/
def State.patAmp (s : State) (p c : Nat) : Nat := u8 (s.patRec p) (2 + c)

/-- LF_STAT and LF_CHn_STAT follow the channels. -/
def State.refreshLf (s : State) : State :=
  let s1 := (List.range 8).foldl (fun t c =>
    (t.putFlag (F.LF_CHn_STAT_UP c) (s.chWorks c)).putFlag (F.LF_CHn_STAT_OFF c) (s.flag (F.LF_CHn_CTL_OFF c))) s
  let mask := fun (f : Nat → Bool) => (List.range 8).foldl (fun m c => m + bit (f c) * 2 ^ c) 0
  (s1.put F.LF_STAT_UP (mask s.chWorks)).put F.LF_STAT_HALF (mask (fun c => s.flag (F.LF_CHn_STAT_HALF c)))

/-- The square of the factor that over-temperature and channels at HALF leave to a pattern (R135, R136). -/
def State.capScale (s : State) (p : Nat) : Rat :=
  let k0 : Rat := if s.flag F.LF_STAT_OVERTEMP then 1 / 2 else 1
  let k := (s.patChannels p).foldl (fun (k : Rat) c =>
    let ask := s.patAmp p c * s.imax      -- in mA times 255
    if s.flag (F.LF_CHn_STAT_HALF c) && decide (500 * 255 < ask) then min k ((500 * 255 : Nat) / (ask : Nat) : Rat) else k) k0
  k * k

/-- The thermal budget 0.010 A²·s in (AMP × IMAX_MA)² µs. -/
def lfBudget : Rat := 10000000000 * 65025

/-- A piece of a frame in us: its offset, its length, its carrier-on time. -/
structure Piece where
  off : Nat
  dur : Nat
  on  : Nat
  deriving DecidableEq, Repr

/-- The segments after the first, of 16 bits each, 0.5 ms apart (R100); a Manchester bit of 250 us holds 125 us of carrier (R99). The count
bounds the segments. -/
def laterPieces : Nat → Nat → Nat → List Piece
  | 0, _, _ => []
  | n + 1, off, bits =>
    if bits = 0 then [] else ⟨off, 250 * min 16 bits, 125 * min 16 bits⟩ :: laterPieces n (off + 250 * min 16 bits + 500) (bits - 16)

/-- The carrier of a frame: `on` us of preamble, then `first` bits up to 4.0 ms, then the segments of the `rest` (R99, R100). -/
def framePieces (on first rest : Nat) : List Piece :=
  [⟨0, on, on⟩, ⟨on + 250, 250 * first, 125 * first⟩] ++ laterPieces 16 4500 rest

/-- The wake frame, LCHAL, the LMEAS header and one of its bursts (Table 4-7). -/
def wakePieces : List Piece := framePieces 750 12 20
def lchalPieces : List Piece := framePieces 250 14 186
def headPieces : List Piece := framePieces 250 14 2
def burstPieces : List Piece := [⟨0, 500, 500⟩]

/-- Their lengths in us. -/
def wakeUs : Nat := 10000
def lchalUs : Nat := 56500

/-- The part of a carrier use that falls into the 100 ms that end at `t`. -/
def LfUse.within (u : LfUse) (t : Nat) : Rat :=
  u.energy * ((min u.endMt t - max u.startMt (t - 100000) : Nat) : Rat) / ((u.endMt - u.startMt : Nat) : Rat)

/-- What the uses of a list give to the 100 ms that end at `t`. -/
def energyIn100 (us : List LfUse) (t : Nat) : Rat := us.foldl (fun e u => e + u.within t) 0

/-- The uses of a channel that a frame at its target would add, times the square of its scale. -/
def State.frameUses (s : State) (p c start : Nat) (k2 : Rat) (ps : List Piece) : List LfUse :=
  let ask := ((s.patAmp p c * s.imax : Nat) : Rat)
  ps.map (fun q => ⟨c, start + q.off, start + q.off + q.dur, k2 * (ask * ask * (q.on : Nat))⟩)

/-- The square of the largest factor, at most `k2`, with which a frame keeps a channel within budget in every 100 ms (R134). Within the
frame the energy of such a window changes evenly between the begins and ends of carrier uses, at the window's head and at its tail, so its
greatest values stand there. -/
def channelScale (old new : List LfUse) (k2 : Rat) : Rat :=
  let ends := new.flatMap (fun u => [u.startMt, u.endMt])
  let tails := old.flatMap (fun u => [u.startMt + 100000, u.endMt + 100000])
  let first := ends.headD 0
  let last := ends.getLastD 0
  (ends ++ tails.filter (fun t => first ≤ t && t ≤ last)).foldl (fun (k : Rat) t =>
    let ask := energyIn100 new t
    if ask = 0 then k else min k (max 0 ((lfBudget - energyIn100 old t) / ask))) k2

/-- The square of the largest common factor, at most `k2`, that keeps every channel of a pattern within budget (R134). -/
def State.thermalScale (s : State) (p start : Nat) (ps : List Piece) (k2 : Rat) : Rat :=
  if s.gateDrive then k2
  else (s.patChannels p).foldl (fun (k : Rat) c =>
    channelScale (s.lf.uses.filter (fun u => u.ch == c)) (s.frameUses p c start 1 ps) k) k2

/-- The carrier uses of a frame join those of the last 100 ms. -/
def State.addUses (s : State) (p start : Nat) (ps : List Piece) (k2 : Rat) : State :=
  if s.gateDrive then s
  else
    let uses := s.lf.uses.filter (fun u => start < u.endMt + 100000) ++ (s.patChannels p).flatMap (fun c => s.frameUses p c start k2 ps)
    { s with lf := { s.lf with uses := uses } }

/-- Whether frames on a pattern, each with its begin, all run at full amplitude (R144). -/
def framesFit (p : Nat) : List (Nat × List Piece) → State → Bool
  | [], _ => true
  | (start, ps) :: fs, s => s.thermalScale p start ps 1 == 1 && framesFit p fs (s.addUses p start ps 1)

/-- What a channel's frame leaves: its last segment's measurement in LF_CHn_MEAS, and the corrections for its next frame, which its first
segment begins with (R132). -/
def State.lfMeasured (s : State) (p c : Nat) (meas : List (Nat × Nat)) : State :=
  let old := s.lf.corr.getD c (0, 0)
  let aim := (s.patAmp p c, le (s.patRec p) (10 + 2 * c) 2)
  let s1 := { s with lf := { s.lf with drive := s.lf.drive.set c ((aim.1 : Int) + old.1, (aim.2 : Int) + old.2) } }
  match meas[c]? with
  | none => s1
  | some m =>
    let s2 := { s1 with lf := { s1.lf with corr := s1.lf.corr.set c (Config.lfCorrect old aim m) } }
    (s2.put (F.LF_CHn_MEAS_AMP c) m.1).put (F.LF_CHn_MEAS_PHASE c) m.2

/-- One frame, or one burst, from MT `start`: its carrier use, its scale, what the channels measure. The square of the factor is
answered. -/
def State.sendLf (s : State) (p start : Nat) (ps : List Piece) (meas : List (Nat × Nat)) : State × Rat :=
  let chs := s.patChannels p
  let cap := s.capScale p
  let k2 := s.thermalScale p start ps cap
  let s2 := chs.foldl (fun t c => t.lfMeasured p c meas) (s.addUses p start ps k2)
  let s3 := if k2 < 1 then chs.foldl (fun t c => t.bump (F.LF_CHn_FCNT_SCALED c)) s2 else s2
  ((if k2 < cap then (s3.event F.LF_EVT_SCALED).reason .lf 0x0506 else s3), k2)

/-- A frame begins on channels at `start`: of each channel's frames the last 4 are kept, for the count of consecutive shorts (R135). -/
def State.frameOn (s : State) (chs : List Nat) (start : Nat) : State :=
  let keep := fun (c : Nat) => ((s.lf.frames.filter (fun f => f.ch == c)).reverse.take 3).reverse
  let frames := s.lf.frames.filter (fun f => !chs.contains f.ch) ++ chs.flatMap (fun c => keep c ++ [⟨c, start, false⟩])
  { s with lf := { s.lf with frames := frames } }

/-! ## The LF air (R140, R141) -/

/-- TOK_ROUND of the last round. -/
def State.showRound (s : State) (round valid collided : Nat) (lfOnly : Bool) : State :=
  (((s.put F.TOK_ROUND_ROUND round).put F.TOK_ROUND_VALID valid).put F.TOK_ROUND_COLLIDED collided).putFlag F.TOK_ROUND_LF_ONLY lfOnly

/-- The class of a REQUEST on the LF air; an RKE confirmation waits beside door requests (log entry 40). -/
def lfClass (code : Nat) (lft : Bool) : Nat :=
  if lft || code = 1 then 1 else if code = 0 then 4 else if code = 0x0B then 3 else 2

/-- The request on the air, BUSY with it. -/
def State.setHold (s : State) (h : Option Hold) : State :=
  ({ s with lf := { s.lf with hold := h } }).putFlag F.LF_STAT_BUSY h.isSome

/-- Removes the jobs of sessions from the queue and from the tiles. -/
def State.dropJobs (s : State) (gone : Nat → Bool) : State :=
  { s with net := { s.net with
      jobs := s.net.jobs.filter (fun j => !gone j.session)
      tiles := s.net.tiles.map (fun (t : Tile) => match t.job with
        | some j => if gone j.session then { t with job := none } else t
        | none => t) } }

/-- A request of higher class cuts a candle poll, wherever it stands but for an exchange on the air, which is never cut short (R141, R209):
its sessions are dropped, and the new carrier follows 0.5 ms after the cut, which takes 2 carrier periods. -/
def State.cutCandle (s : State) : State :=
  match s.lf.hold with
  | none => s
  | some h =>
    let mine := s.rng.sessions.filter (fun x => x.req == h.id)
    if h.req.code = 0 && !h.req.lft && !(mine.any (fun x => s.rng.onAir == some x.number)) then
      let hz := max 1 (le s.lfSec 4 4)
      let s1 := ((s.setHold none).dropQueued.dropOnAir).dropJobs (fun n => mine.any (fun x => x.number == n))
      { s1 with lf := { s1.lf with freeAt := s.mt + 500 + (2000000 + hz - 1) / hz }
                rng := { s1.rng with sessions := s1.rng.sessions.filter (fun x => x.req != h.id) }
                tok := { s1.tok with requests := s1.tok.requests.filter (fun r => r.id != h.id) } }
    else s

/-- Queues a request for the air; a full queue refuses it with 0x050B. -/
def State.pushLf (s : State) (r : LfReq) : State × Nat :=
  if 8 ≤ s.lf.queue.length then ((s.event F.LF_EVT_QUEUE_FULL).reason .lf 0x050B, 0x050B)
  else
    let s1 := { s with lf := { s.lf with queue := s.lf.queue ++ [r] } }
    ((if r.cls < 4 then s1.cutCandle else s1).touch, 0)

/-- Whether a satellite reload keeps requests off the LF air: the LF sequencer and the radio sections (Table 15-5; no reload falls inside
a session, R418). -/
def State.reloadsAir (s : State) : Bool := s.upd.loading == some 2 || s.upd.loading == some 3 || s.upd.loading == some 4

/-- The request served next: the highest class, in arrival order. -/
def nextLf : List LfReq → Option LfReq
  | [] => none
  | r :: rs => match nextLf rs with
    | none => some r
    | some k => if k.cls < r.cls then some k else some r

/-- The votes for the LF and radio islands, and for the active pair, that a request needs (Table 14-3). -/
def State.airVotes (s : State) (pair : Bool) : State :=
  let s1 := (s.raiseVote 0 10 false).raiseVote 0 9 false
  if pair then s1.raiseVote 0 (1 + s.activePair) false else s1

/-- Between the frames of a candle poll the LF island is in DOZE (R145). -/
def State.lfDoze (s : State) : State := (s.raiseVote 0 10 true).settle 10

/-- The active pair withdraws its votes on the LF and radio islands once no request needs them (R484). -/
def State.releaseIdle (s : State) : State :=
  if s.phase = 0xA && s.lf.hold.isNone && s.lf.queue.isEmpty && s.tok.requests.isEmpty then (s.withdrawVote 0 9).withdrawVote 0 10
  else s

/-! ## Requests and their tokens -/

/-- Opens a request record. -/
def State.openRequest (s : State) (code path : Nat) (host : Bool) (confirm : Option (Nat × Nat)) : State × Nat :=
  let id := s.tok.nextReq
  ({ s with tok := { s.tok with nextReq := id + 1
                                requests := s.tok.requests ++ [⟨id, code, path, true, 0, [], host, confirm⟩] } }, id)

/-- The record of a request. -/
def State.request? (s : State) (id : Nat) : Option Request := s.tok.requests.find? (fun r => r.id == id)

/-- Changes the record of a request. -/
def State.updRequest (s : State) (id : Nat) (f : Request → Request) : State :=
  { s with tok := { s.tok with requests := s.tok.requests.map (fun r => if r.id = id then f r else r) } }

/-- Whether any token of a request was accepted. -/
def Request.anyAccepted (r : Request) : Bool := decide (0 < r.waiting) || !r.outcomes.isEmpty

/-- TOK registers that show the vault: slots, paths, DEVICE_TAG, while TOK is enabled (Table 4-17). REMAIN rounds a fraction of a second up
(DESIGN CHOICE, log entry 174). -/
def State.tokView (s : State) (off : Nat) : Option Nat :=
  if !s.enabled .tok then none
  else
    let left := fun (locked : Bool) (e : Nat) => if locked then min 3600 ((e - s.mt + 999999) / 1000000) else 0
    if 0x6100 ≤ off && off < 0x6200 then
      let x := (s.slot ((off - 0x6100) / 4)).settle s.mt
      some (left x.locked x.lockEnd * 2 ^ 20 + x.typeId % 16 * 2 ^ 16 + x.level * 2 ^ 12 + x.count s.mt * 2 ^ 8 + x.cls * 2 ^ 6
        + bit x.rekey * 32 + bit x.locked * 16 + bit x.conflict * 8 + x.state)
    else if 0x6200 ≤ off && off < 0x6300 then some (s.slot ((off - 0x6200) / 4)).tid
    else if 0x6300 ≤ off && off < 0x6400 then some (s.slot ((off - 0x6300) / 4)).ctr
    else if 0x6400 ≤ off && off < 0x6500 then some (s.slot ((off - 0x6400) / 4)).turn
    else if 0x6040 ≤ off && off < 0x6050 then
      let x := (s.pathRec ((off - 0x6040) / 4)).settle s.mt
      some (left x.locked x.lockEnd * 2 ^ 16 + bit x.locked * 256 + x.level * 32 + x.count s.mt)
    else if off = R.TOK_DEV_TAG then some s.vault.deviceTag
    else none

end Sys2Proof.Machine
end

