-- ==== Sys2Proof/Machine/Release.lean ====
section
/-! DEFINITION. Chapter 8: the policy, the start release, partners and grants, relock, pairing; and the end of a request, which is where
the policy acts. -/
namespace Sys2Proof.Machine

open Sys2Proof

/-! ## POLICY, ZONES, PARTNERS (R212, R222, R230) -/

/-- The rules, 8 bytes each, in index order. -/
def State.rules (s : State) : List Bytes := (List.range (u8 s.policySec 0)).map (fun r => slice s.policySec (0x10 + 8 * r) 8)

/-- The CMD entry of an RKE command. -/
def State.cmdEntry (s : State) (cmd : Nat) : Option Bytes :=
  ((List.range (u8 s.policySec 1)).map (fun k => slice s.policySec (0x10 + 8 * u8 s.policySec 0 + 4 * k) 4)).find?
    (fun e => u8 e 0 == cmd)

/-- The ZONES section, the number of zones and a record. -/
def State.zonesSec (s : State) : Bytes := (s.section? 7).getD []
def State.nZone (s : State) : Nat := u8 s.zonesSec 0
def State.zoneRec (s : State) (z : Nat) : Bytes := slice s.zonesSec (8 + 8 * z) 8
/-- KIND of a zone, 0xFF for no zone. -/
def State.zoneKind (s : State) (z : Nat) : Nat := if z < s.nZone then u8 (s.zoneRec z) 0 else 0xFF

/-- What a role has reported. -/
def State.roleWork (s : State) (r : Nat) : RoleWork := s.rel.roles.getD r ⟨false, false, none⟩

/-- Whether a verified STATUS of a role lies within 300 ms. -/
def State.roleFresh (s : State) (r : Nat) : Bool :=
  match (s.roleWork r).mt with
  | some t => decide (s.mt ≤ t + 300000) && (s.rolePorts r).any s.portUp
  | none => false

/-! ## Standstill and the degraded mode (R225, R232) -/

/-- Standstill from STATUS: every role with STATUS_SRC reports it afresh (log entry 41). -/
def State.stillStatus (s : State) : Bool :=
  let src := s.roles.filter s.roleStatus
  !src.isEmpty && src.all (fun r => s.roleFresh r && (s.roleWork r).still)

/-- Standstill from the wake input. -/
def State.stillInput (s : State) : Bool :=
  u8 s.policySec 4 != 0xFF && Nat.testBit (s.get F.LF_WAKE_STAT_LEVEL) (u8 s.policySec 4)

/-- Standstill as STILL_SRC names its source. -/
def State.standstill (s : State) : Bool :=
  match u8 s.policySec 3 with
  | 0 => s.stillStatus
  | 1 => s.stillInput
  | _ => s.stillStatus && s.stillInput

/-- Whether ENGINE_RUN is reported 0 now. -/
def State.engineOff (s : State) : Bool :=
  let src := s.roles.filter s.roleStatus
  !src.isEmpty && src.all (fun r => s.roleFresh r && !(s.roleWork r).run)

/-- REL_STAT follows the partners and the inputs (DMODE is a view); unbroken standstill and engine rest count from when they began. -/
def State.refreshRel (s : State) : State :=
  let still := s.standstill
  let stopped := s.engineOff
  let s1 := { s with rel := { s.rel with
    stillMt := if still then some (s.rel.stillMt.getD s.mt) else none
    stopMt := if stopped then some (s.rel.stopMt.getD s.mt) else none } }
  s1.putFlag F.REL_STAT_STANDSTILL still

/-! ## Partner messages (R228) -/

/-- The 32 bytes of a message under a key: 24 bytes and their MAC of domain `d`. -/
def State.partnerMsg (s : State) (d : Nat) (key body : Bytes) : Bytes :=
  let b := padTo 24 body
  b ++ (padTo 16 (Crypto.cmac key (toBE 1 d ++ toBE 4 s.group ++ b))).take 8

/-- Whether a message carries the right MAC. -/
def State.partnerMac (s : State) (d : Nat) (key msg : Bytes) : Bool := msg.length == 32 && msg == s.partnerMsg d key (msg.take 24)

/-- PART_ETYPE, the Ethertype of partner messages on T1S. -/
def State.partEtype (s : State) : Nat := le s.partnersSec 8 2

/-- Sends a message to a role on each of its links that is up: on CAN FD under TX_CANID, on T1S to a MAC address with PART_ETYPE. None goes
out while the keyring is locked. -/
def State.sendRoleTo (s : State) (r mac : Nat) (msg : Bytes) : State :=
  if s.ringLocked then s
  else { s with rel := { s.rel with sent := s.rel.sent ++ ((s.rolePorts r).filter s.portUp).map (fun p =>
    if p = 2 then (⟨2, s.partEtype, mac, msg⟩ : PartFrame) else ⟨p, s.roleTx r, 0, msg⟩) } }

/-- Sends a message to a role, on T1S to its partner's MAC address. -/
def State.sendRole (s : State) (r : Nat) (msg : Bytes) : State := s.sendRoleTo r (s.rel.macs.getD r 0) msg

/-- Takes the next SEQ. -/
def State.nextSeq (s : State) : State × Nat :=
  let n := (s.vault.grantSeq + 1) % 2 ^ 32
  (({ s with vault := { s.vault with grantSeq := n } }).setReg R.REL_SEQ n, n)

/-- TYPE, ROLE, TAG and SEQ, with which GRANT, REVOKE and PING begin. -/
def State.msgHead (s : State) (type role seq : Nat) : Bytes := toBE 1 type ++ toBE 1 role ++ toBE 4 s.vault.deviceTag ++ toBE 4 seq

/-- The roles that receive grants: paired, of KIND 0 or 1. -/
def State.grantRoles (s : State) : List Nat := s.roles.filter (fun r => s.rolePaired r && s.roleKind r ≤ 1)

/-- Sends GRANT to the roles that have not acknowledged. -/
def State.sendGrants (s : State) (st : RelStart) : State :=
  let s0 := { s with rel := { s.rel with sent := [] } }
  (s0.grantRoles.filter (fun r => !st.acks.contains r)).foldl (fun t r =>
    match t.partnerKey r with
    | none => t
    | some k => t.sendRole r (t.partnerMsg 0x20 k.key (t.msgHead 0x51 r st.seq ++ toBE 4 (st.mt % 2 ^ 32)
        ++ toBE 2 (t.setting 0x0901 10000) ++ toBE 1 st.zone ++ toBE 1 st.slot ++ toBE 1 st.profile ++ toBE 1 st.flags))) s0

/-- Sends REVOKE to the roles that received the grant. -/
def State.sendRevoke (s : State) : State :=
  let (s1, n) := s.nextSeq
  s1.grantRoles.foldl (fun t r => match t.partnerKey r with
    | none => t
    | some k => t.sendRole r (t.partnerMsg 0x23 k.key (t.msgHead 0x54 r n ++ toBE 4 (t.mt % 2 ^ 32))))
    { s1 with rel := { s1.rel with sent := [] } }

/-! ## Outcomes (R219) -/

/-- A release entry of the journal. -/
def State.journalRel (s : State) (action code profile reason flags : Nat) : State :=
  s.journal 0x0901 reason .rel flags
    (toLE 1 action ++ toLE 1 code ++ toLE 1 profile ++ toLE 4 s.vault.grantSeq ++ toLE 1 s.dmode)

/-- REL_LAST. -/
def State.relLast (s : State) (action code reason : Nat) : State :=
  s.setReg R.REL_LAST (action % 8 * 2 ^ 29 + code % 256 * 2 ^ 16 + reason % 2 ^ 16)

/-- A request refused. -/
def State.relRefuse (s : State) (code reason : Nat) : State :=
  (((s.relLast 0 code reason).event F.REL_EVT_REFUSED).bump F.REL_CNT_REFUSED).reason .rel reason

/-! ## The release outputs (R223 to R226) -/

/-- The pair switches both off; the release vote goes with them. A command that is rejected changes nothing (R223). -/
def State.outputsOff (s : State) : State :=
  let s1 := s.relCommand relOff
  if s1.flag F.REL_STAT_OUT_H || s1.flag F.REL_STAT_OUT_L then s1 else s1.releaseVoteOff

/-- The pair switches both on, in pull-in (step 3). -/
def State.outputsOn (s : State) : State :=
  let s1 := s.relCommand relOn
  if s1.flag F.REL_STAT_OUT_H then (s1.raiseVote 5 14 false).raiseVote 5 (1 + s.activePair) false else s1

/-- Changes the release in progress; when it ends, the release island follows its votes. -/
def State.setStart (s : State) (x : Option RelStart) : State :=
  let s1 := { s with rel := { s.rel with start := x } }
  if x.isNone then s1.settle 14 else s1

/-- The wait for acknowledgements ends: 2 accepted, or 3 failed with 0x090D. -/
def State.endGrant (s : State) (ok : Bool) (code slot : Nat) : State :=
  if ok then (s.put F.REL_STAT_GRANT 2).journalRel 4 code slot 0 0
  else ((((s.put F.REL_STAT_GRANT 3).event F.REL_EVT_GRANT_FAIL).bump F.REL_CNT_GRANT_FAIL).reason .rel 0x090D).journalRel 4 code slot
    0x090D 0

/-- Whether every REQUIRED role has accepted. -/
def State.allAcked (s : State) (acks : List Nat) : Bool := s.roles.all (fun r => !s.roleRequired r || acks.contains r)

/-- Step 5: a new SEQ, GRANT to each role, and the wait of step 6; without a REQUIRED role the start is accepted at once. -/
def State.grantStep (s : State) (st : RelStart) : State :=
  let (s1, n) := s.nextSeq
  let wait := !s1.allAcked []
  let st1 := { st with step := 6, grantMt := s1.mt, grantOn := wait, sends := 1, acks := [], seq := n }
  let s2 := s1.sendGrants st1
  let s3 := { s2 with rel := { s2.rel with held := true, start := some st1, lastGrant := some s2.mt, ranSince := false
                                           ranAfter := false, hostReq := false } }
  if wait then s3.put F.REL_STAT_GRANT 1 else s3.endGrant true st.code st.slot

/-- The start fails at steps 2 to 4: outputs off, refused. -/
def State.failStart (s : State) (code slot reason : Nat) : State :=
  let s1 := if s.flag F.REL_STAT_OUT_H || s.flag F.REL_STAT_OUT_L then s.outputsOff else s
  ((s1.setStart none).relRefuse code reason).journalRel 0 code slot reason 0

/-- Step 3, and the instant from which step 4 and PULL_MS count. -/
def State.pullIn (s : State) (st : RelStart) : State :=
  (s.outputsOn).setStart (some { st with step := 4, onMt := s.mt, pull := true })

/-- Sequence 8-1 from step 1. A START while a release is held sends a new GRANT only; one that meets a release between steps 1 and 6
is merged (R224). -/
def State.startRelease (s : State) (code path : Nat) (o : TokOut) (profile : Nat) : State :=
  let s0 := { s with rel := { s.rel with delayMt := s.mt } }
  let st : RelStart :=
    { step := 2, code := code, slot := o.slot, zone := o.zone, profile := profile, path := path, onMt := 0, grantMt := 0
      grantOn := false, sends := 0, acks := [], flags := bit (!o.dbOk) + 2 * bit (path == 2) + 4 * bit (path == 3)
      pull := false, mt := s.mt, seq := 0 }
  let busy := match s.rel.start with | some x => x.step ≤ 4 || x.grantOn | none => false
  if busy then s0.relLast 4 code 0
  else if s0.roles.any (fun r => s0.roleRequired r && !s0.roleReach r) then
      (s0.relRefuse code 0x090C).journalRel 0 code o.slot 0x090C 0
  else
    let s1 := s0.relLast 4 code 0
    if s1.rel.held then
      let old := s1.rel.start
      let s2 := s1.grantStep st
      match s2.rel.start, old with
      | some x, some y => s2.setStart (some { x with pull := y.pull, onMt := y.onMt })
      | _, _ => s2
    else if !s1.outUsed then s1.grantStep st
    else ({ s1 with rel := { s1.rel with retried := false } }.setStart (some st)).restoreFor 14

/-- Records what an off-state test finds; a test that passes clears the faults (Table 8-4). -/
def State.noteTest (s : State) (t : OffTest) : State :=
  let bad := t.openLoad || t.hGround || t.lSupply
  let fh := if t.openLoad then 1 else if t.hGround then 2 else if t.hStuck then 3 else 0
  let fl := if t.openLoad then 1 else if t.lSupply then 3 else if t.lStuck then 2 else 0
  let s1 := ((s.put F.REL_OUT_DIAG_FAULT_H fh).put F.REL_OUT_DIAG_FAULT_L fl)
  let s2 := { s1 with rel := { s1.rel with diagBad := bad, diagMt := s.mt } }
  let s3 := if bad then (s2.event F.REL_EVT_OUT_FAULT).reason .rel 0x090B
    else if t.hStuck || t.lStuck then (s2.event F.REL_EVT_OUT_FAULT).reason .rel 0x0914
    else s2
  s3.refreshRel

/-- OFF_STATE_TEST: step 2 of a release, whose pull-in waits while VBAT is above its range; else the test every DIAG_S while the outputs
are off. None runs while the release island is in DOZE or NAP (Table 8-10). -/
def offStateTest (t : OffTest) (s : State) : State :=
  if !s.enabled .rel || !s.outUsed || s.island 14 < 2 then s
  else match s.rel.start with
    | some st =>
      if st.step ≠ 2 then s
      else
        let s1 := s.noteTest t
        if s1.rel.diagBad then s1.failStart st.code st.slot 0x090B
        else if s1.flag F.PWR_STAT_OVERVOLT || s1.flag F.PWR_STAT_BROWNOUT then s1
        else s1.pullIn st
    | none =>
      if s.rel.held || s.pwr.standby || decide (s.mt < s.rel.diagMt + s.setting 0x0904 10 * 1000000) then s else s.noteTest t

/-- OFF_STATE_TEST. -/
def execOffStateTest (test : OffTest) (s : State) : Out := .next (offStateTest test s)

/-- The retry of step 3 that an over-current trip leaves due after 10 ms. -/
def State.dueRetry (s : State) : State :=
  match s.rel.tripMt with
  | none => s
  | some t =>
    if s.mt < t then s
    else
      let s1 := { s with rel := { s.rel with tripMt := none } }
      match s1.rel.start with
      | some st => s1.pullIn st
      | none => s1

/-- Step 4: the load current 5 ms after LOCKREL_L turned on, or was commanded on. -/
def releaseCurrentCheck (ma : Nat) (s0 : State) : State :=
  let s := s0.dueRetry
  match s.rel.start with
  | none => s
  | some st =>
    if st.step ≠ 4 || s.rel.tripMt.isSome || s.rel.hotMt.isSome || s.mt < st.onMt + 5000 then s
    else
      let s1 := s.put F.REL_OUT_DIAG_I_MA ma
      if ma < le s.policySec 8 2 then
        let s2 := ((s1.put F.REL_OUT_DIAG_FAULT_H 1).put F.REL_OUT_DIAG_FAULT_L 1).event F.REL_EVT_OUT_FAULT
        ({ s2 with rel := { s2.rel with diagBad := true, held := false } }).failStart st.code st.slot 0x090B |>.refreshRel
      else if st.sends = 0 then
        ((s1.event F.REL_EVT_RELEASED).bump F.REL_CNT_RELEASES).grantStep st
      else ({ s1 with rel := { s1.rel with held := true } }).setStart (some { st with step := 6 })

/-- RELEASE_CURRENT_CHECK. -/
def execReleaseCurrentCheck (milliamp : BitVec 16) (s : State) : Out := .next (releaseCurrentCheck milliamp.toNat s)

/-- A release in progress is over once its wait, its resends and its pull-in have ended. -/
def State.settleStart (s : State) : State :=
  match s.rel.start with
  | some st => if st.step = 6 && !st.grantOn && !st.pull && (4 ≤ st.sends || s.grantRoles.all st.acks.contains)
      then s.setStart none else s
  | none => s

/-- Step 7: LOCKREL_L goes to its holding duty at PULL_MS. -/
def holdPwm (s0 : State) : State :=
  let s := s0.dueRetry
  match s.rel.start with
  | none => s
  | some st =>
    if !st.pull || s.mt < st.onMt + le s.policySec 6 2 * 1000 || st.step < 6 then s
    else ((s.relCommand relHold).setStart (some { st with pull := false })).settleStart

/-- HOLD_PWM. -/
def execHoldPwm (s : State) : Out := .next (holdPwm s)

/-- The release that a retry resumes: the one in progress, else the held one without a new grant. -/
def State.resumeStart (s : State) : RelStart :=
  match s.rel.start with
  | some st => { st with step := 4 }
  | none => { step := 4, code := s.get F.REL_LAST_REQUEST, slot := s.get F.REL_PROFILE_SLOT, zone := 0xFF
              profile := s.get F.REL_PROFILE_SLOT, path := 0, onMt := 0, grantMt := 0, grantOn := false, sends := 4, acks := []
              flags := 0, pull := true, mt := s.mt, seq := s.vault.grantSeq }

/-- OVER_CURRENT_TRIP: both off; one retry of step 3 after 10 ms, a second trip is the fault. -/
def overCurrentTrip (low : Bool) (s : State) : State :=
  if !s.flag F.REL_STAT_OUT_H && !s.flag F.REL_STAT_OUT_L then s
  else
    let s1 := s.switchesDrop.releaseVoteOff
    if !s.rel.retried then
      ({ s1 with rel := { s1.rel with retried := true, tripMt := some (s.mt + 10000) } }).setStart (some s1.resumeStart)
    else
      let st := s1.resumeStart
      let s2 := (if low then s1.put F.REL_OUT_DIAG_FAULT_L 4 else s1.put F.REL_OUT_DIAG_FAULT_H 4).event F.REL_EVT_OUT_FAULT
      let s3 := { s2 with rel := { s2.rel with diagBad := true, held := false, tripMt := none } }
      (if st.sends = 0 then s3.failStart st.code st.slot 0x090B else (s3.setStart none).reason .rel 0x090B).refreshRel

/-- OVER_CURRENT_TRIP. -/
def execOverCurrentTrip (low : Bool) (s : State) : Out := .next (overCurrentTrip low s)

/-- RELEASE_OVERTEMP: both off with 0x0915, an output fault of Table 8-4; retried after 1 s once below 140 °C. -/
def releaseOvertemp (low cool : Bool) (s : State) : State :=
  if !cool then
    let s1 := (if low then s.put F.REL_OUT_DIAG_FAULT_L 5 else s.put F.REL_OUT_DIAG_FAULT_H 5).event F.REL_EVT_OUT_FAULT
    let s2 := s1.reason .rel 0x0915
    let on := s.flag F.REL_STAT_OUT_H || s.flag F.REL_STAT_OUT_L
    let s3 := { s2 with rel := { s2.rel with hotMt := some s.mt, diagBad := true } }
    if on then (s3.switchesDrop.releaseVoteOff).setStart (some s3.resumeStart) else s3
  else match s.rel.hotMt with
    | none => s
    | some t =>
      if s.mt < t + 1000000 then s
      else
        let s1 := { s with rel := { s.rel with hotMt := none } }
        match s1.rel.start with
        | some st => if st.step = 4 && !s1.flag F.REL_STAT_OUT_L then s1.pullIn st else s1
        | none => s1

/-- RELEASE_OVERTEMP. -/
def execReleaseOvertemp (low cool : Bool) (s : State) : Out := .next (releaseOvertemp low cool s)

/-! ## Relock (R225) -/

/-- Relock: outputs off (a command that the channels reject is sent again at the next opportunity), REVOKE where the window of the last
grant is open and no ENGINE_RUN has come. -/
def State.relockNow (s : State) : State :=
  let open_ := match s.rel.lastGrant with
    | some t => decide (s.mt < t + s.setting 0x0901 10000 * 1000) && !s.rel.ranSince
    | none => false
  let s0 := s.outputsOff
  if s0.flag F.REL_STAT_OUT_H || s0.flag F.REL_STAT_OUT_L then s0
  else
    let s1 := if open_ then s0.sendRevoke else s0
    let s2 := (s1.put F.REL_STAT_GRANT 0).event F.REL_EVT_RELOCKED
    let s3 := ({ s2 with rel := { s2.rel with held := false, hostReq := false, tripMt := none } }).setStart none
    s3.journalRel 0 0xFF 0xFF 0 0

/-- Whether one of the 3 conditions of R225 holds. -/
def State.relockCause (s : State) (delayUs : Nat) : Bool :=
  let quiet := match s.rel.lastGrant with
    | some t => decide (t + s.setting 0x0901 10000 * 1000 ≤ s.mt) && !s.rel.ranAfter
    | none => true
  let rest := match s.rel.stopMt with | some t => decide (t + delayUs ≤ s.mt) | none => false
  quiet || rest || s.rel.hostReq

/-- Relocks once standstill is unbroken for RELOCK_DELAY_S and a condition holds. -/
def State.relockIfDue (s0 : State) : State :=
  let s := s0.refreshRel
  let d := s.setting 0x0902 30 * 1000000
  match s.rel.stillMt with
  | some t => if s.rel.held && decide (max t s.rel.delayMt + d ≤ s.mt) && s.relockCause d then s.relockNow else s
  | none => s

/-- RELOCK_DELAY. -/
def execRelockDelay (s : State) : Out := .next s.relockIfDue

/-- A write of RELOCK: refused with 0x0910 without standstill; with nothing held it does nothing. -/
def relock (s : State) : State :=
  let s1 := s.refreshRel
  if !s1.standstill then s1.reason .rel 0x0910
  else if !s1.rel.held then s1
  else ({ s1 with rel := { s1.rel with hostReq := true } }).relockIfDue

/-- RELOCK. -/
def execRelock (s : State) : Out := .next (relock s)

/-! ## Partner messages received (R227, R228) -/

/-- A STATUS of a role that has failed, or is missing, counts as no standstill (R225); `mt` is that of its last verified STATUS. -/
def State.noStill (s : State) (r : Nat) (mt : Option Nat) : State :=
  ({ s with rel := { s.rel with roles := s.rel.roles.set r { s.roleWork r with still := false, mt := mt } } }).refreshRel

/-- A message discarded with 0x090E or 0x090F. -/
def State.badMsg (s : State) (r reason : Nat) : State :=
  ((s.bump (F.REL_PARTn_STAT_BAD_MSG r)).event F.REL_EVT_PART_MSG_BAD).reason .rel reason

/-- The role that a message names, when it comes on a link and under the identifier of that role: RX_CANID, or PART_ETYPE on T1S. A message
for no role is ignored. -/
def State.msgRole (s : State) (port : Nat) (ident : Word) (msg : Bytes) : Option Nat :=
  let r := u8 msg 1
  if r < s.nRole && (s.rolePorts r).contains port && ident.toNat == (if port = 2 then s.partEtype else s.roleRx r) && s.enabled .rel && !s.ringLocked
  then some r else none

/-- Verifies MAC and PCTR of a message from a role: 0, or the reason of its discard. PCTR stands at `off`. -/
def State.msgCheck (s : State) (r d off : Nat) (msg : Bytes) : Nat :=
  match s.partnerKey r with
  | none => 0x090E
  | some k =>
    if !s.partnerMac d k.key msg then 0x090E
    else if be msg off 4 ≤ s.vault.pctr.getD r 0 then 0x090F
    else 0

/-- Stores the last accepted PCTR of a role. -/
def State.takePctr (s : State) (r v : Nat) : State := { s with vault := { s.vault with pctr := s.vault.pctr.set r v } }

/-- GRANT_ACK: RESULT 0 from every REQUIRED role accepts the start; RESULT 1 ends the wait with 0x090D. -/
def grantAckNow (port : Nat) (ident : Word) (msg : Bytes) (s : State) : State :=
  match s.msgRole port ident msg with
  | none => s
  | some r =>
    if u8 msg 0 ≠ 0x52 then s
    else if s.msgCheck r 0x21 10 msg ≠ 0 then s.badMsg r (s.msgCheck r 0x21 10 msg)
    else
      let s1 := s.takePctr r (be msg 10 4)
      match s1.rel.start with
      | none => s1
      | some st =>
        if be msg 2 4 ≠ s.vault.deviceTag || be msg 6 4 ≠ st.seq || st.step ≠ 6 then s1
        else if u8 msg 14 = 0 then
          let st1 := { st with acks := if st.acks.contains r then st.acks else st.acks ++ [r] }
          if st.grantOn && s1.allAcked st1.acks then
            ((s1.setStart (some { st1 with grantOn := false })).endGrant true st.code st.slot).settleStart
          else (s1.setStart (some st1)).settleStart
        else if st.grantOn then
          ((s1.setStart (some { st with grantOn := false, sends := 4 })).endGrant false st.code st.slot).settleStart
        else s1

/-- GRANT_ACK: latched in phases 1 to 8 (R78), else taken. -/
def grantAck (port : Nat) (ident : Word) (msg : Bytes) (s : State) : State :=
  if s.latching then s.latch (.grantAck port ident.toNat msg) else grantAckNow port ident msg s

/-- GRANT_ACK. -/
def execGrantAck (port : Fin 3) (ident : Word) (message : Bytes) (s : State) : Out :=
  .next (grantAck port.val ident message s)

/-- GRANT_TIMEOUT: resends at 100 ms and 200 ms, the end of the wait at 300 ms. -/
def grantTimeout (s : State) : State :=
  match s.rel.start with
  | none => s
  | some st =>
    if st.step ≠ 6 || 4 ≤ st.sends || s.flag F.PWR_STAT_BROWNOUT || s.mt < st.grantMt + 100000 * st.sends then s
    else if st.sends < 3 then (s.sendGrants st).setStart (some { st with sends := st.sends + 1 })
    else
      let s1 := s.setStart (some { st with sends := 4, grantOn := false })
      (if st.grantOn then s1.endGrant false st.code st.slot else s1).settleStart

/-- GRANT_TIMEOUT. -/
def execGrantTimeout (s : State) : Out := .next (grantTimeout s)

/-- What a verified STATUS tells of its role; more than 300 ms since the one before it break what lasted until then (R225). -/
def State.takeStatus (s : State) (r : Nat) (msg : Bytes) : State :=
  let f := u8 msg 10
  let run := Nat.testBit f 0
  let w : RoleWork := ⟨run, Nat.testBit f 1, some s.mt⟩
  let past := match s.rel.lastGrant with | some t => decide (t + s.setting 0x0901 10000 * 1000 ≤ s.mt) | none => false
  let s1 := s.takePctr r (be msg 6 4)
  let src := run && s.roleStatus r
  let late := match (s.roleWork r).mt with | some t => decide (t + 300000 < s.mt) | none => true
  let gap := s.roleStatus r && late
  let s2 := { s1 with rel := { s1.rel with
    roles := s1.rel.roles.set r w
    ranSince := s1.rel.ranSince || src
    ranAfter := s1.rel.ranAfter || (src && past)
    stopMt := if src || gap then none else s1.rel.stopMt
    stillMt := if (s.roleStatus r && !w.still) || gap then none else s1.rel.stillMt } }
  (s2.putFlag F.REL_STAT_ENGINE_RUN run).refreshRel

/-- The generation that pairs a role: PK with the PID beside it, the previous key of the role gone; false where the commit fails and the
previous pairing stays in force. -/
def State.commitPairing (s : State) (p : Pairing) (pctr : Nat) : State × Bool :=
  let r : KeyRec := { kind := 3, index := p.role, gen := s.nextGen, attr := attrPartner, key := p.pk, pub := toBE 8 p.pid }
  let s0 : State := { s with rel := { s.rel with pairing := none }, keys := { s.keys with prep := .none } }
  let c := s0.commitGen (s0.ring.filter (fun x => !(x.kind == 3 && x.index == p.role)) ++ [r]) true
  if c.2 ≠ 0 then ((c.1.refreshKeys).reason .rel 0x0913, false)
  else
    let t := c.1
    let t1 := { t with rel := { t.rel with macs := t.rel.macs.set p.role p.mac }
                       hif := { t.hif with
                         disc := t.hif.disc.filter (fun (d : Disc) => d.pid != p.pid)
                         discPaired := t.hif.discPaired ++ t.hif.disc.filter (fun (d : Disc) => d.pid == p.pid) } }
    let t1 := t1.put F.HIF_DISC_UNPAIRED t1.hif.disc.length
    (((t1.takePctr p.role pctr).event F.REL_EVT_PAIRED).keyEvent 0x0901 (handleOf r), true)

/-- The MAC address of a role changes with a STATUS verified on T1S (R455). -/
def State.takeMac (s : State) (r port mac : Nat) : State :=
  if port = 2 then { s with rel := { s.rel with macs := s.rel.macs.set r mac } } else s

/-- STATUS: first against a pairing that waits for it (step 4), then under the key of its role. -/
def statusNow (port : Nat) (ident : Word) (msg : Bytes) (mac : Nat) (s : State) : State :=
  match s.msgRole port ident msg with
  | none => s
  | some r =>
    if u8 msg 0 ≠ 0x53 then s
    else
      let pairing := match s.rel.pairing with
        | some p => if p.role = r && s.partnerMac 0x22 p.pk msg && decide (s.mt < p.mt + 5000000) then some p else none
        | none => none
      match pairing with
      | some p =>
        let c := s.commitPairing p (be msg 6 4)
        if c.2 then (c.1.takeMac r port mac).takeStatus r msg else c.1
      | none =>
        if s.msgCheck r 0x22 6 msg ≠ 0 then (s.badMsg r (s.msgCheck r 0x22 6 msg)).noStill r (s.roleWork r).mt
        else if be msg 2 4 ≠ s.vault.deviceTag then s
        else ((s.takeMac r port mac).takeStatus r msg).relockIfDue

/-- STATUS: latched in phases 1 to 8 (R78), else taken. -/
def status (port : Nat) (ident : Word) (msg : Bytes) (mac : Nat) (s : State) : State :=
  if s.latching then s.latch (.status port ident.toNat msg mac) else statusNow port ident msg mac s

/-- STATUS. -/
def execStatus (port : Fin 3) (ident : Word) (message : Bytes) (mac : Nat) (s : State) : Out :=
  .next (status port.val ident message mac s)

/-- STATUS_STALE: more than 300 ms without a verified STATUS breaks standstill (R225). -/
def statusStale (r : Nat) (s : State) : State :=
  match (s.roleWork r).mt with
  | some t => if t + 300000 < s.mt then
      s.noStill r none else s
  | none => s

/-- STATUS_STALE. -/
def execStatusStale (role : Fin 8) (s : State) : Out := .next (statusStale role.val s)

/-! ## Pairing (R229) -/

/-- The ports that discovery runs on: those DISC_BUS and DISC_ETYPE name (R455). -/
def State.discPorts (s : State) : List Nat :=
  if s.partnersSec.isEmpty then []
  else (match u8 s.partnersSec 1 with | 0 => [0] | 1 => [1] | 2 => [0, 1] | _ => [])
    ++ (if le s.partnersSec 2 2 = 0 then [] else [2])

/-- The 148 bytes of the Untur's own discovery message (Table 16-11). -/
def State.discMessage (s : State) (query : Bool) (pub : Bytes) : Bytes :=
  [0x61, 0x0F, 1] ++ toBE 1 (bit query) ++ (Crypto.sha512 pub).take 8 ++ toBE 4 s.hif.announce ++ padTo 132 pub

/-- The payloads that carry a discovery message on a port: 3 frames of 64 bytes on CAN, one on T1S (R454). -/
def discFrames (port : Nat) (m : Bytes) : List (Nat × Bytes) :=
  if port = 2 then [(2, m)]
  else (List.range 3).map (fun p => (port, padTo 64 (toLE 1 p ++ slice m 4 4 ++ padTo 59 (m.drop (59 * p)))))

/-- An announcement goes out on every discovery path that is up, ANNOUNCE one higher than before. -/
def State.announceOn (s : State) (query : Bool) : State :=
  match s.keyRec? 6 pxkIndex with
  | none => s
  | some k =>
    let s1 := { s with hif := { s.hif with announce := (s.hif.announce + 1) % 2 ^ 32, announceMt := s.mt } }
    let m := s1.discMessage query k.pub
    { s1 with hif := { s1.hif with discSent := (s1.discPorts.filter s1.portUp).flatMap (fun p => discFrames p m) } }

/-- The PAIR command: steps 1 to 4 of Sequence 8-2; it waits for the entropy source (R258). -/
def pairOp (role pid : Nat) (auth : Bytes) (s : State) : MbRes :=
  if auth.length ≠ s.authLen then mbRefuse s 0x100C
  else
    let a := s.checkAuth 1 (toLE 1 role ++ toBE 8 pid) auth
    if a.2 ≠ 0 then mbFail a.1 .rel 0x0911
    else if a.1.ringLocked then mbFail a.1 .rel 0x0A14
    else if a.1.keys.prep != .none then mbFail a.1 .rel 0x0B05
    else if a.1.entropyFailed then mbFail a.1 .rel 0x0A0D
    else
      let t := a.1.announceOn true
      let seen := (t.hif.disc ++ t.hif.discPaired).find? (fun d => d.pid == pid && decide (t.mt ≤ d.mt + 60000000) && d.kind == t.roleKind role
        && beNat ((Crypto.sha512 d.key).take 8) == pid)
      match seen, t.keyRec? 6 pxkIndex with
      | some d, some px =>
        if t.nRole ≤ role then mbFail t .rel 0x0912
        else
          let pk := Crypto.kdf (Crypto.ecdh px.key d.key) "PART" (toBE 4 t.vault.deviceTag ++ toBE 8 pid ++ toBE 1 role)
          let (t1, n) := t.nextSeq
          let t2 := { t1 with
            rel := { t1.rel with pairing := some ⟨role, pid, d.key, pk, d.mac, t1.mt⟩, sent := [] }
            keys := { t1.keys with prep := .pairing } }
          mbOk ((t2.refreshKeys).sendRoleTo role d.mac (t2.partnerMsg 0x24 pk (t2.msgHead 0x55 role n))) []
      | none, _ => mbFail t .rel 0x0912
      | some _, none => mbFail t .rel 0x0B01

/-- PAIR. -/
def execPair (role : BitVec 8) (pid : BitVec 64) (auth : Bytes) (s : State) : Out :=
  .next (mailboxCommand 0x0901 (toLE 1 role.toNat ++ toBE 8 pid.toNat ++ auth) (pairOp role.toNat pid.toNat auth) s)

/-- PAIR_TIMEOUT: 5 s after the PING. -/
def pairTimeout (s : State) : State :=
  match s.rel.pairing with
  | none => s
  | some p => if s.mt < p.mt + 5000000 then s else
      (({ s with rel := { s.rel with pairing := none }, keys := { s.keys with prep := .none } }).refreshKeys).reason .rel 0x0913

/-- PAIR_TIMEOUT. -/
def execPairTimeout (s : State) : Out := .next (pairTimeout s)

/-- A partner heard in discovery counts as unpaired again. -/
def State.unpairDisc (s : State) (pid : Option Bytes) : State :=
  let mine := fun (d : Disc) => pid == some (toBE 8 d.pid)
  let s1 := { s with hif := { s.hif with discPaired := s.hif.discPaired.filter (fun d => !mine d)
                                         disc := (s.hif.disc ++ s.hif.discPaired.filter mine).take 16 } }
  s1.put F.HIF_DISC_UNPAIRED s1.hif.disc.length

/-- The UNPAIR command. -/
def unpairOp (role : Nat) (auth : Bytes) (commitOk : Bool) (s : State) : MbRes :=
  if auth.length ≠ s.authLen then mbRefuse s 0x100C
  else
    let a := s.checkAuth 2 (toLE 1 role) auth
    if a.2 ≠ 0 then mbFail a.1 .rel 0x0911
    else if a.1.ringLocked then mbFail a.1 .rel 0x0A14
    else if a.1.keys.prep != .none then mbFail a.1 .rel 0x0B05
    else if !a.1.rolePaired role then mbOk a.1 []
    else
      let c := a.1.commitGen (a.1.ring.filter (fun x => !(x.kind == 3 && x.index == role))) commitOk
      if c.2 ≠ 0 then mbFail c.1 .rel 0x0913 else mbOk (((c.1.unpairDisc ((a.1.partnerKey role).map (·.pub))).keyEvent 0x0902 0).refreshRel) []

/-- UNPAIR. -/
def execUnpair (role : BitVec 8) (auth : Bytes) (s : State) : Out :=
  .next (mailboxCommand 0x0902 (toLE 1 role.toNat ++ auth) (unpairOp role.toNat auth true) s)

/-! ## The policy (R218 to R221, R231) -/

/-- What the policy receives of one authenticated token. Without a result record `mode` is 0xFF, and DB_OK, ZONE_OK, ZONE read 0, 0,
0xFF (log entry 42). -/
structure PolicyIn where
  path   : Nat
  slot   : Nat
  cls    : Nat
  status : Nat
  mode   : Nat
  flags  : Nat       -- FLAGS of the result record
  zone   : Nat
  dbCm   : Nat
  drvCm  : Nat
  field  : Nat
  deriving DecidableEq, Repr

/-- Whether a rule's REQUEST, PATHS and CLASSES fit the token. -/
def ruleFits (rule : Bytes) (code : Nat) (i : PolicyIn) : Bool :=
  (u8 rule 0 == code || u8 rule 0 == 0xFF) && Nat.testBit (u8 rule 2) i.path && Nat.testBit (u8 rule 3) (i.cls - 1)

/-- Conditions 3 to 8 of R220 on a rule that fits: 0, or the code of the first that fails. -/
def State.ruleFails (s : State) (rule : Bytes) (i : PolicyIn) : Nat :=
  let need := u8 rule 6
  let zones := le rule 4 2
  let far := (List.range 16).any (fun z => Nat.testBit zones z && decide (z < s.nZone) && decide (2 ≤ s.zoneKind z))
  if i.path = 0 && Nat.testBit i.flags 4 then 0x0903
  else if (i.mode = 3 && !Nat.testBit need 5) || (i.mode = 4 && !Nat.testBit need 4) then 0x0904
  else if i.mode = 4 && far && !Nat.testBit s.polFlags 0 then 0x0909
  else if Nat.testBit need 0 && !Nat.testBit i.flags 1 then 0x0905
  else if Nat.testBit need 1 && !Nat.testBit i.flags 5 then 0x0906
  else if zones ≠ 0 && (i.zone = 0xFF || !Nat.testBit zones i.zone) then 0x0907
  else if (Nat.testBit need 2 && !Nat.testBit i.status 7) || (Nat.testBit need 3 && Nat.testBit i.status 6) then 0x0908
  else 0

/-- The policy on one token: ACTION and REASON. -/
def State.policy (s : State) (code : Nat) (i : PolicyIn) : Nat × Nat :=
  let fit := s.rules.filter (fun r => ruleFits r code i)
  match fit.find? (fun r => s.ruleFails r i == 0), fit with
  | some r, _ => if u8 r 1 = 0 then (0, 0x0902) else (u8 r 1, 0)
  | none, r :: _ => (0, s.ruleFails r i)
  | none, [] => (0, 0x0901)

/-- An RKE confirmation (R221): the same slot's result within 1 s of the acceptance; the command's action, or 0x090A. -/
def State.confirmJudge (s : State) (slot action : Nat) (i : PolicyIn) : Nat × Nat :=
  let live := s.tok.confirms.any (fun c => c.1 == slot && c.2.1 == action && decide (s.mt < c.2.2 + 1000000))
  if i.slot = slot && live && Nat.testBit i.flags 1 && !Nat.testBit i.flags 4 && i.dbCm ≤ s.setting 0x0903 3000 then (action, if action = 0 then 0x0902 else 0)
  else (0, 0x090A)

/-- An action other than START: the decision record to the host, or the event alone for NOTIFY. -/
def State.decide_ (s : State) (action code slot : Nat) : State :=
  let s1 := (s.relLast action code 0).event F.REL_EVT_DECISION
  if action = 6 then s1 else { s1 with rel := { s1.rel with decision := toLE 1 action ++ toLE 1 code ++ toLE 1 slot } }

/-- The outcome of an RKE command: its action, or its refusal (R221). -/
def State.rkeOut (s : State) (slot action reason : Nat) : State :=
  let s1 := s.journalRel action 0x0C slot reason 0
  if reason = 0 then s1.decide_ action 0x0C slot else s1.relRefuse 0x0C reason

/-- The confirmation of an RKE command has its outcome, which the command takes at once; a confirmation already over takes none. -/
def State.confirmOut (s : State) (slot action : Nat) (out : Nat × Nat) : State :=
  match s.tok.confirms.find? (fun (c : Nat × Nat × Nat) => c.1 == slot && c.2.1 == action) with
  | none => s
  | some c => (({ s with tok := { s.tok with confirms := s.tok.confirms.erase c } }).rkeOut slot out.1 out.2).retireSpent 1 slot

/-- The outcome of a token joins its request and is journaled (R219); the result of the slot that an RKE command waits for confirms or
refuses the command as it comes (R221). The settings of its session hold for the decision and no further
(R49). -/
def State.judge (s : State) (id : Nat) (i : PolicyIn) : State :=
  match s.request? id with
  | none => s
  | some rq =>
    let r := match rq.confirm with
      | some (slot, action) => s.confirmJudge slot action i
      | none => s.policy rq.code i
    let o : TokOut := { slot := i.slot, action := r.1, yields := r.1 != 0, reason := r.2, path := i.path, zone := i.zone
                        kind := s.zoneKind i.zone, drvCm := i.drvCm, field := i.field, mode := i.mode
                        dbOk := Nat.testBit i.flags 1 }
    let s1 := { s with sys := { s.sys with settingsUse := none } }
    let s2 := s1.updRequest id (fun q => { q with outcomes := q.outcomes ++ [o] })
    match rq.confirm with
    | some (slot, action) => if i.slot = slot then s2.confirmOut slot action r else s2
    | none => s2.journalRel r.1 rq.code i.slot r.2 (bit (Nat.testBit i.flags 4))

/-- The token that `better` prefers, the lower slot on a tie. -/
def pickToken (better : TokOut → TokOut → Bool) : List TokOut → Option TokOut
  | [] => none
  | o :: os => match pickToken better os with
    | none => some o
    | some k => if better k o || (!better o k && decide (k.slot < o.slot)) then some k else some o

/-- The driver profile of a START (R231): its token, or none. -/
def profileToken (path : Nat) (os : List TokOut) : Option TokOut :=
  if path = 2 || path = 3 then os.head?
  else
    let cab := os.filter (fun o => o.kind == 0)
    match pickToken (fun a b => a.drvCm < b.drvCm) (cab.filter (fun o => o.drvCm != 0xFFFF)) with
    | some o => some o
    | none => pickToken (fun a b => b.field < a.field) cab

/-- START: the profile, then Sequence 8-1. -/
def State.decideStart (s : State) (rq : Request) : State :=
  let p := profileToken rq.path rq.outcomes
  let slot := match p with | some o => o.slot | none => 0xFF
  let drv := match p with | some o => o.drvCm | none => 0xFFFF
  let s1 := s.setReg R.REL_PROFILE (drv % 2 ^ 16 * 2 ^ 16 + slot)
  let starters := rq.outcomes.filter (fun o => o.action == 4)
  let who := match starters.find? (fun o => o.slot == slot), starters with
    | some o, _ => some o
    | none, o :: _ => some o
    | none, [] => none
  match who with
  | some o => s1.startRelease rq.code rq.path o slot
  | none => s1

/-- The first action of Table 8-1 that a token of the request yielded, or the refusal (R219). A request without an authenticated token is
no matter of the policy. -/
def State.performRequest (s : State) (rq : Request) : State :=
  match [4, 2, 1, 5, 3, 6].find? (fun a => rq.outcomes.any (fun o => o.yields && o.action == a)) with
  | some 4 => s.decideStart rq
  | some a =>
    let slot := match rq.outcomes.find? (fun o => o.action == a) with | some o => o.slot | none => 0xFF
    s.decide_ a rq.code slot
  | none => match rq.outcomes with
    | [] => s
    | o :: _ => s.relRefuse rq.code o.reason

/-- What LF_REQUEST and LFT_EXCHANGE answer: a count and the slots of the accepted tokens, or the slot, 0xFF for none (log entry 43). -/
def hostOutcome (path : Nat) (os : List TokOut) : Bytes :=
  if path = 2 then (match os with | o :: _ => toLE 1 o.slot | [] => toLE 1 0xFF)
  else toLE 1 os.length ++ os.map (fun o => byte o.slot)

/-- A request whose tokens are all judged performs its action and goes; `reason` is how the air ended it. A confirmation that still waits
then refuses its command. -/
def State.concludeRequest (s : State) (id reason : Nat) : State :=
  match s.request? id with
  | none => s
  | some rq =>
    if rq.coming || decide (0 < rq.waiting) then s
    else
      let s1 := { s with tok := { s.tok with requests := s.tok.requests.filter (fun q => q.id != id) } }
      let s2 := match rq.confirm with
        | some (slot, action) => s1.confirmOut slot action (0, 0x090A)
        | none => if s1.enabled .rel then s1.performRequest rq else s1
      (if rq.host then s2.finish reason (hostOutcome rq.path rq.outcomes) else s2).releaseIdle

/-- No more tokens of a request can come. -/
def State.closeRequest (s : State) (id reason : Nat) : State :=
  (s.updRequest id (fun q => { q with coming := false })).concludeRequest id reason

/-- REL goes up: SEQ and the partners show. -/
def State.relEnabled (s : State) : State :=
  ((s.setReg R.REL_SEQ s.vault.grantSeq).setReg R.REL_PROFILE 0xFF).refreshRel

/-- REL_STAT with DMODE and STANDSTILL as they stand now, and REL_PARTn_STAT: what the image and the partners give beside BAD_MSG. -/
def State.relView (s : State) (off : Nat) : Option Nat :=
  if off = 0x7008 then
    let t := (s.putFlag F.REL_STAT_STANDSTILL (s.enabled .rel && s.standstill)).put F.REL_STAT_DMODE s.dmode
    some (t.reg off)
  else if 0x7040 ≤ off && off < 0x7060 then
    let r := (off - 0x7040) / 4
    let w := s.reg off / 2 ^ 24 * 2 ^ 24
    if r < s.nRole then
      some (w + bit (s.roleReach r) * 128 + bit (s.roleFresh r) * 64 + s.roleLink r % 4 * 16 + s.roleKind r % 4 * 4 + bit (s.rolePaired r))
    else some w
  else none

end Sys2Proof.Machine
end

