-- ==== Sys2Proof/Machine/Sections.lean ====
section
/-! DEFINITION. The layouts of the configuration sections (R46, R119, R151, R180, R211 to R213, R222, R230, R292, R329, R354, R377,
R378, R403, R453) as lists of fields in offset order, each with its range and own code, judged as R483 says. -/
namespace Sys2Proof.Machine

open Sys2Proof

/-! ## Field checks -/

/-- A field's check: whether it holds, and the own code. -/
abbrev FieldCheck := Bool × Nat

/-- The own code of the first field that fails; 0 when every field holds. -/
def firstBad (l : List FieldCheck) : Nat := match l.find? (fun c => !c.1) with | some (_, code) => code | none => 0

/-- A number within bounds. -/
def within (v lo hi : Nat) : Bool := decide (lo ≤ v) && decide (v ≤ hi)

/-- A two's complement field of `w` bits within bounds. -/
def sWithin (w v : Nat) (lo hi : Int) : Bool := decide (lo ≤ signed w v) && decide (signed w v ≤ hi)

/-- Reserved bytes are 0. -/
def reservedZero (b : Bytes) (off n code : Nat) : FieldCheck := (allZero (slice b off n), code)

/-- The sections that a check is made against, and the VIO measured. -/
structure Candidate where
  sections : List Section
  vioHigh  : Bool
  deriving DecidableEq, Repr

/-- The value of a section of a candidate. -/
def sectionIn (c : Candidate) (type : Nat) : Option Bytes := (c.sections.find? (fun x => x.type == type)).map (fun x => x.data)

/-- A number of `n` bytes of a section, or a default where the section is absent. -/
def sectionLe (c : Candidate) (type off n dflt : Nat) : Nat :=
  match sectionIn c type with | some b => le b off n | none => dflt

/-! ## DEVICE (R46) -/

/-- Characters of a VIN: digits and capital letters other than I, O and Q. -/
def vinChar (b : Byte) : Bool :=
  let v := b.toNat
  within v 0x30 0x39 || (within v 0x41 0x5A && v != 0x49 && v != 0x4F && v != 0x51)

/-- Table 2-3. -/
def deviceFields (b : Bytes) : List FieldCheck :=
  let vin := slice b 8 17
  [ (b.length == 68, 0x0142), (le b 0 4 != 0 && le b 0 4 != 0xFFFFFFFF, 0x0140)
  , (allZero vin || vin.all vinChar, 0x0141), reservedZero b 0x19 7 0x0142 ]

/-! ## SUPPLY (R403) -/

/-- Table 14-12. -/
def supplyFields (c : Candidate) (b : Bytes) : List FieldCheck :=
  [ (b.length == 16, 0x0340), (u8 b 0 == bit c.vioHigh, 0x0340), reservedZero b 1 1 0x0340, (within (u8 b 2) 70 95, 0x0342)
  , (decide (u8 b 3 + 2 ≤ u8 b 2) && decide (u8 b 2 ≤ u8 b 3 + 20), 0x0342), (within (u8 b 4) 60 110, 0x0343)
  , (sWithin 8 (u8 b 5) (-40) 20, 0x0344), (within (le b 6 2) 150 1000, 0x0345), (within (le b 8 2) 50 400, 0x0341)
  , reservedZero b 0x0A 6 0x0340 ]

/-! ## LF_CHANNELS (R151) -/

/-- π as the checks use it (log entry 23). -/
def piRat : Rat := 3141592653589793238462643383279 / 1000000000000000000000000000000

/-- Whether L in µH and C in 0.1 nF resonate within ±3 % of a frequency: 1 ÷ (2π√(LC)). -/
def resonates (l c hz : Nat) : Bool :=
  let w : Rat := 2 * piRat * (hz : Rat)
  let x : Rat := w * w * ((l * c : Nat) : Rat) / (10 ^ 16 : Nat)
  decide (1 / (103 / 100 * (103 / 100)) ≤ x) && decide (x ≤ 1 / (97 / 100 * (97 / 100)))

/-- In integrated mode 4 × VANT ÷ π ≥ 1.3 × IMAX × R of a fitted channel; VANT in 0.1 V, IMAX in mA, R in 0.01 Ω. -/
def vantCarries (vant imax r : Nat) : Bool :=
  decide ((13 / 10 : Rat) * ((imax * r : Nat) : Rat) / 100000 ≤ 4 * ((vant : Nat) : Rat) / 10 / piRat)

/-- A channel record of Table 5-10. -/
def channelFields (gate fitted : Bool) (carrier : Nat) (r : Bytes) : List FieldCheck :=
  if !fitted then [(allZero r, 0x0545)]
  else
    [ (within (le r 0 2) 10 5000, 0x0545), (within (le r 2 2) 1 10000 && resonates (le r 0 2) (le r 2 2) carrier, 0x0546)
    , (within (le r 4 2) 10 5000, 0x0545), (if gate then decide (1 ≤ u8 r 6) else u8 r 6 == 0, 0x0545), reservedZero r 7 1 0x0540 ]

/-- A wake input record of Table 5-11. -/
def wakeFields (r : Bytes) : List FieldCheck :=
  let mode := u8 r 0
  let judged := mode != 0
  let wet := mode == 2
  [ (decide (mode ≤ 2), 0x054A), (!judged || decide (u8 r 1 ≤ 1), 0x054A)
  , (!judged || within (u8 r 2) 2 (if wet then 15 else 255), 0x054A)
  , (!judged || within (u8 r 3) 1 0x0A || u8 r 3 == 0xFE, 0x054A), (!judged || decide (u8 r 4 ≤ 2), 0x054A)
  , (!wet || within (u8 r 5) 1 3, 0x054A), (!wet || decide (u8 r 6 ≤ 3), 0x054A), reservedZero r 7 1 0x0540 ]

/-- The number of channels in a set. -/
def channelCount (m : Nat) : Nat := ((List.range 8).filter (Nat.testBit m)).length

/-- A pattern record of Table 5-12. -/
def patternFields (gate : Bool) (mask : Nat) (r : Bytes) : List FieldCheck :=
  let ch := u8 r 0
  [ (ch != 0 && ch &&& mask == ch && (gate || decide (channelCount ch ≤ 4)), 0x0547), reservedZero r 1 1 0x0540
  , ((List.range 8).all (fun k => Nat.testBit ch k || u8 r (2 + k) == 0), 0x0547)
  , ((List.range 8).all (fun k => decide (le r (10 + 2 * k) 2 ≤ 511)), 0x0547), reservedZero r 26 2 0x0540 ]

/-- Tables 5-10 to 5-12. -/
def lfFields (b : Bytes) : List FieldCheck :=
  let npat := u8 b 1
  let nmeas := u8 b 2
  let gate := u8 b 0 == 1
  let mask := u8 b 3
  let carrier := le b 4 4
  let imax := le b 0x0A 2
  let fitted := (List.range 8).filter (Nat.testBit mask)
  let meas := 0xB8 + 28 * npat
  [ (b.length == 184 + 28 * npat + 4 * ((nmeas + 3) / 4), 0x0540), (decide (u8 b 0 ≤ 1), 0x0540), (within npat 1 32, 0x0540)
  , (decide (nmeas ≤ 32), 0x0540), (mask != 0, 0x0541), (within carrier 19000 150000, 0x0542)
  , (within (le b 8 2) 60 240 && (gate || fitted.all (fun k => vantCarries (le b 8 2) imax (le b (0x18 + 8 * k + 4) 2))), 0x0543)
  , (within imax 100 (if gate then 4000 else 1000), 0x0544), (within (le b 0x0C 4) 100000 150000, 0x0549)
  , (within (le b 0x10 2) 20 300, 0x0549), (within (le b 0x12 2) 100 2000, 0x0549)
  , (resonates (le b 0x12 2) (le b 0x14 2) (le b 0x0C 4), 0x0549), (decide (u8 b 0x16 ≤ 11) || u8 b 0x16 == 0xFF, 0x0549)
  , reservedZero b 0x17 1 0x0540 ]
  ++ (List.range 8).flatMap (fun k => channelFields gate (Nat.testBit mask k) carrier (slice b (0x18 + 8 * k) 8))
  ++ (List.range 12).flatMap (fun w => wakeFields (slice b (0x58 + 8 * w) 8))
  ++ (List.range npat).flatMap (fun p => patternFields gate mask (slice b (0xB8 + 28 * p) 28))
  ++ [ ((slice b meas nmeas).all (fun x => decide (x.toNat < npat)), 0x0548), (allZero (b.drop (meas + nmeas)), 0x0548) ]

/-! ## RF_BANDS (R180) -/

/-- Table 6-9, and 0x0647 against TOKEN_TYPES. -/
def bandsFields (c : Candidate) (b : Bytes) : List FieldCheck :=
  let n := u8 b 0
  [ (b.length == 16 + 16 * n, 0x0640), (within n 1 16, 0x0640)
  , (decide (u8 b 1 < 16) && decide (2 ≤ channelCount (u8 b 1)), 0x0641), (sWithin 8 (u8 b 2) (-40) 20, 0x0642)
  , (sWithin 8 (u8 b 3) (-40) 20, 0x0642), (sWithin 8 (u8 b 4) (-20) 40, 0x0643), (sWithin 8 (u8 b 5) (-20) 40, 0x0643)
  , (sWithin 8 (u8 b 6) (-115) (-70), 0x0648), reservedZero b 7 1 0x0640, (decide (le b 8 4 < 2 ^ 20), 0x0649)
  , (decide (u8 b 0x0C ≤ 10), 0x0649), reservedZero b 0x0D 3 0x0640 ]
  ++ (List.range n).flatMap (fun k =>
    let r := slice b (0x10 + 16 * k) 16
    [ (within (le r 0 4) 300000000 960000000, 0x0644), (within (le r 4 4) 5000 50000, 0x0645)
    , (within (le r 8 4) 2000 50000, 0x0645), (sWithin 8 (u8 r 12) (-20) 28, 0x0646), reservedZero r 13 3 0x0640 ])
  ++ [(decide (sectionLe c 9 3 1 0 < n), 0x0647)]

/-! ## RANGING, ZONES, LANTERN_MAP (R211 to R213) -/

/-- Table 7-11. -/
def rangingFields (b : Bytes) : List FieldCheck :=
  [ (b.length == 48, 0x0740), (le b 4 2 ≤ 4000, 0x0740), (sWithin 16 (le b 6 2) (-18000) 17999, 0x0740) ]
  ++ (List.range 8).map (fun k => (sWithin 16 (le b (8 + 2 * k) 2) (-1500) 1500, 0x0741))
  ++ [ (decide (le b 0x18 2 ≤ 3000), 0x0742), (within (le b 0x1E 2) 50 5000, 0x0743), (within (u8 b 0x20) 6 30, 0x0744)
     , (within (u8 b 0x21) 10 80, 0x0744), (within (le b 0x22 2) 16 4096, 0x0744), reservedZero b 0x24 12 0x0740 ]

/-- R212 and Table 7-12. -/
def zonesFields (c : Candidate) (b : Bytes) : List FieldCheck :=
  let n := u8 b 0
  let kind := fun (z : Nat) => u8 b (8 + 8 * z)
  [ (b.length == 8 + 8 * n, 0x0745), (within n 1 16, 0x0745), reservedZero b 1 7 0x0745 ]
  ++ (List.range n).flatMap (fun z =>
    let r := slice b (8 + 8 * z) 8
    [ (decide (kind z ≤ 12), 0x0746), reservedZero r 1 1 0x0745, (within (le r 2 2) 30 4000, 0x0747)
    , (decide (u8 r 4 < sectionLe c 3 1 1 32) || u8 r 4 == 0xFF, 0x0748), reservedZero r 6 2 0x0745 ])
  ++ [(((List.range n).filter (fun z => kind z == 0)).length == 1, 0x0746)]

/-- R213. -/
def mapFields (c : Candidate) (b : Bytes) : List FieldCheck :=
  let nm := u8 b 0x0A
  let n := le b 6 2 * le b 8 2
  let w := 2 + nm
  [ (b.length == 16 + n * w, 0x0749), (within (le b 4 2) 100 500, 0x0749), (within (le b 6 2) 1 400, 0x0749)
  , (within (le b 8 2) 1 400, 0x0749), (nm == sectionLe c 3 2 1 nm, 0x074B), reservedZero b 0x0B 5 0x0749 ]
  ++ (if b.length == 16 + n * w then (List.range n).flatMap (fun k =>
    let z := u8 b (16 + w * k)
    [ (decide (z < sectionLe c 7 0 1 256) || z == 0xFF, 0x074A), (decide (u8 b (17 + w * k) ≤ 20), 0x074A) ]) else [])

/-! ## TOKEN_TYPES (R119) -/

/-- Table 4-15. -/
def typesFields (c : Candidate) (b : Bytes) : List FieldCheck :=
  let nt := u8 b 0
  let np := u8 b 1
  let npat := sectionLe c 3 1 1 32
  let id := fun (i : Nat) => u8 b (8 + 8 * i)
  let req := fun (i : Nat) => u8 b (8 + 8 * nt + 4 * i)
  let pattern := fun (p : Nat) => decide (p < npat) && decide (p ≤ 31)
  [ (b.length == 8 + 8 * nt + 4 * np, 0x0840), (within nt 1 16, 0x0840), (within np 1 16, 0x0840), (decide (u8 b 2 ≤ 71), 0x0841)
  , (decide (u8 b 3 ≤ 15), 0x0842), reservedZero b 4 4 0x0840 ]
  ++ (List.range nt).flatMap (fun i =>
    let r := slice b (8 + 8 * i) 8
    let cls := u8 r 1
    let caps := u8 r 2
    [ (decide (id i ≤ 15) && (List.range i).all (fun j => id j != id i), 0x0843), (within cls 1 3, 0x0844)
    , (if cls == 1 then decide (caps < 16) && Nat.testBit caps 3 else caps == 0, 0x0845), reservedZero r 4 4 0x0840 ])
  ++ (List.range np).flatMap (fun i =>
    let r := slice b (8 + 8 * nt + 4 * i) 4
    [ (decide (req i ≤ 0x0B) && (List.range i).all (fun j => req j != req i), 0x0846), (pattern (u8 r 1), 0x0847)
    , (pattern (u8 r 2), 0x0847), reservedZero r 3 1 0x0840 ])
  ++ [((List.range np).any (fun i => req i == 1), 0x0848)]

/-! ## POLICY and PARTNERS (R222, R230) -/

/-- Table 8-2. -/
def policyFields (c : Candidate) (b : Bytes) : List FieldCheck :=
  let nr := u8 b 0
  let nc := u8 b 1
  let input := u8 b 4
  let cmd := fun (i : Nat) => u8 b (0x10 + 8 * nr + 4 * i)
  let nzone := match sectionIn c 7 with | some z => u8 z 0 | none => 16
  [ (b.length == 16 + 8 * nr + 4 * nc, 0x0940), (within nr 1 32, 0x0940), (decide (nc ≤ 16), 0x0940), (decide (u8 b 2 < 4), 0x0941)
  , (decide (u8 b 3 ≤ 2), 0x0942)
  , ((decide (input ≤ 11) && sectionLe c 3 (0x58 + 8 * input + 3) 1 0xFE == 0xFE) || (input == 0xFF && u8 b 3 == 0), 0x0942)
  , (within (u8 b 5) 10 100, 0x0943), (within (le b 6 2) 20 500, 0x0943), (within (le b 8 2) 20 400, 0x0943)
  , reservedZero b 0x0A 6 0x0940 ]
  ++ (List.range nr).flatMap (fun i =>
    let r := slice b (0x10 + 8 * i) 8
    [ (decide (u8 r 0 ≤ 0x0D) || u8 r 0 == 0xFF, 0x0944), (decide (u8 r 1 ≤ 6), 0x0945), (within (u8 r 2) 1 15, 0x0944)
    , (within (u8 r 3) 1 7, 0x0944)
    , (decide (le r 4 2 < 2 ^ nzone) && (!Nat.testBit (u8 r 2) 0 || le r 4 2 != 0), 0x0946)
    , (decide (u8 r 6 < 64), 0x0946), reservedZero r 7 1 0x0940 ])
  ++ (List.range nc).flatMap (fun i =>
    let r := slice b (0x10 + 8 * nr + 4 * i) 4
    [ ((List.range i).all (fun j => cmd j != cmd i), 0x0947)
    , (decide (u8 r 1 ≤ 3) || u8 r 1 == 5 || u8 r 1 == 6, 0x0947), (decide (u8 r 2 ≤ 1), 0x0947), reservedZero r 3 1 0x0940 ])

/-- A CAN identifier field as R230 encodes it. -/
def canIdOk (v : Nat) : Bool := if Nat.testBit v 31 then bits v 30 29 == 0 else decide (v ≤ 0x7FF)

/-- An Ethertype. -/
def etypeOk (v : Nat) : Bool := within v 0x0600 0xFFFF

/-- Table 8-6. -/
def partnersFields (b : Bytes) : List FieldCheck :=
  let n := u8 b 0
  [ (b.length == 16 + 16 * n, 0x0950), (within n 1 8, 0x0950), (decide (u8 b 1 ≤ 2) || u8 b 1 == 0xFF, 0x0951)
  , (le b 2 2 == 0 || etypeOk (le b 2 2), 0x0951), (u8 b 1 == 0xFF || canIdOk (le b 4 4), 0x0951), (etypeOk (le b 8 2), 0x0951)
  , reservedZero b 0x0A 6 0x0950 ]
  ++ (List.range n).flatMap (fun k =>
    let r := slice b (0x10 + 16 * k) 16
    [ (decide (u8 r 0 ≤ 2), 0x0952), (decide (u8 r 1 ≤ 3), 0x0953)
    , (decide (u8 r 2 < 4) && (u8 r 0 != 2 || u8 r 2 == 0), 0x0954), reservedZero r 3 1 0x0950, (canIdOk (le r 4 4), 0x0955)
    , (canIdOk (le r 8 4), 0x0955), reservedZero r 12 4 0x0950 ])

/-- The CAN identifiers that PARTNERS claims, by bus (R230). -/
def partnerIds (b : Bytes) : List (Nat × Nat) :=
  let on := fun (sel : Nat) (both : Nat) => if sel = both then [0, 1] else if sel < 2 then [sel] else []
  ((on (u8 b 1) 2).map (fun bus => (bus, le b 4 4)))
  ++ (List.range (u8 b 0)).flatMap (fun k =>
    let r := slice b (0x10 + 16 * k) 16
    (on (u8 r 1) 3).flatMap (fun bus => [(bus, le r 4 4), (bus, le r 8 4)]))

/-- Whether no 2 elements of a list agree. -/
def distinctIds : List (Nat × Nat) → Bool
  | [] => true
  | x :: xs => !(xs.contains x) && distinctIds xs

/-! ## HOST_LINKS (R453) -/

/-- The record of a CAN bus: its ranges and the rate limits of R453. -/
def canFields (r : Bytes) : List FieldCheck :=
  let d1 := u8 r 0 * (1 + u8 r 1 + u8 r 2)
  let d2 := u8 r 4 * (1 + u8 r 5 + u8 r 6)
  [ (within (u8 r 0) 1 32, 0x1046), (within (u8 r 1) 2 255, 0x1046), (within (u8 r 2) 1 128, 0x1046)
  , (within (u8 r 3) 1 (u8 r 2), 0x1046), (within (u8 r 4) 1 32, 0x1046), (within (u8 r 5) 1 32, 0x1046)
  , (within (u8 r 6) 1 16, 0x1046), (within (u8 r 7) 1 (u8 r 6), 0x1046), (decide (u8 r 8 ≤ 127), 0x1046)
  , (decide (u8 r 9 < 32), 0x1046), (within d1 40 320, 0x1046), (decide (5 ≤ d2) && decide (d2 ≤ d1), 0x1046)
  , reservedZero r 10 6 0x1043 ]

/-- The T1S fields at 0x38 to 0x3E. -/
def t1sFields (b : Bytes) : List FieldCheck :=
  [ (decide (u8 b 0x38 ≤ 1), 0x1047), (decide (u8 b 0x39 ≤ 254), 0x1047), (u8 b 0x39 != 0 || within (u8 b 0x3A) 2 255, 0x1047)
  , (decide (1 ≤ u8 b 0x3B), 0x1047), (decide (u8 b 0x3E ≤ 1), 0x1047) ]

/-- Table 16-10. -/
def linksFields (b : Bytes) : List FieldCheck :=
  let links := u8 b 0
  let mb := u8 b 1
  let n := u8 b 6
  let mbCan := bits mb 1 0 != 0
  [ (b.length == 72 + 12 * n, 0x1043), (decide (links < 8), 0x1040), (mb &&& links == mb, 0x1041), (decide (u8 b 4 ≤ 1), 0x1042)
  , (u8 b 5 &&& links == u8 b 5, 0x1042), (decide (n ≤ 32), 0x1043), reservedZero b 7 1 0x1043
  , (!mbCan || canIdOk (le b 8 4), 0x1044), (!mbCan || (canIdOk (le b 0x0C 4) && le b 0x0C 4 != le b 8 4), 0x1044)
  , (!Nat.testBit mb 2 || etypeOk (le b 0x10 2), 0x1044), (!Nat.testBit (u8 b 0x12) 0, 0x1045) ]
  ++ [0, 1].flatMap (fun k => if Nat.testBit links k then canFields (slice b (0x18 + 16 * k) 16) else [])
  ++ (if Nat.testBit links 2 then t1sFields b else [])
  ++ [reservedZero b 0x3F 9 0x1043]
  ++ (List.range n).flatMap (fun k =>
    let r := slice b (0x48 + 12 * k) 12
    [ (decide (u8 r 0 ≤ 2), 0x1048), (decide (u8 r 1 ≤ 1), 0x1048), reservedZero r 2 2 0x1043 ])

/-- The CAN identifiers that HOST_LINKS claims, by bus. -/
def linkIds (b : Bytes) : List (Nat × Nat) :=
  [0, 1].flatMap (fun bus => if Nat.testBit (u8 b 1) bus then [(bus, le b 8 4), (bus, le b 0x0C 4)] else [])

/-- Cause 8 for HIF: an identifier or Ethertype that PARTNERS claims too (R453). -/
def linksClash (c : Candidate) : Bool :=
  match sectionIn c 0x0B, sectionIn c 0x0A with
  | some h, some p =>
    let et := le h 0x10 2
    (linkIds h).any (fun x => (partnerIds p).contains x) || (Nat.testBit (u8 h 1) 2 && (et == le p 8 2 || et == le p 2 2))
  | _, _ => false

/-! ## The remaining sections -/

/-- Table 13-9. -/
def timeFields (b : Bytes) : List FieldCheck :=
  [ (b.length == 24, 0x0440), (decide (u8 b 0 ≤ 1), 0x0440), (sWithin 8 (u8 b 1) (-5) 0, 0x0441), (sWithin 8 (u8 b 2) (-3) 3, 0x0441)
  , (within (u8 b 3) 2 10, 0x0441), (within (le b 4 4) 100 100000, 0x0442), (within (le b 8 4) 50 100000, 0x0443)
  , (within (le b 0x0C 4) 1000 1000000000 && decide (le b 8 4 < le b 0x0C 4), 0x0443), (within (le b 0x10 2) 1 3600, 0x0444)
  , (decide (u8 b 0x12 < 8), 0x0445), reservedZero b 0x13 5 0x0440 ]

/-- R378 and Table 13-10. -/
def pulsesFields (b : Bytes) : List FieldCheck :=
  let n := u8 b 0
  let unit := fun (i : Nat) => u8 b (8 + 16 * i)
  [ (b.length == 8 + 16 * n, 0x0450), (decide (n ≤ 4), 0x0450), reservedZero b 1 7 0x0450 ]
  ++ (List.range n).flatMap (fun i =>
    let r := slice b (8 + 16 * i) 16
    [ (decide (unit i ≤ 3) && (List.range i).all (fun j => unit j != unit i), 0x0451), (decide (u8 r 1 ≤ 2), 0x0452)
    , (decide (u8 r 2 ≤ 1) && (!Nat.testBit (u8 r 3) 1 || u8 r 2 == 1), 0x0452), (decide (u8 r 3 < 4), 0x0452)
    , (decide (le r 8 4 < le r 4 4), 0x0453), (decide ((if u8 r 1 = 0 then 50 else 1) ≤ le r 8 4), 0x0453)
    , (decide (le r 12 4 < le r 4 4), 0x0453) ])

/-- Table 11-12. -/
def storageFields (b : Bytes) : List FieldCheck :=
  let n := u8 b 0
  let sum := fun (k : Nat) => (List.range (k + 1)).foldl (fun m j => m + le b (8 + 8 * j) 2) 0
  [ (b.length == 8 + 8 * n, 0x0C40), (decide (n ≤ 16), 0x0C40), (decide (u8 b 1 ≤ 64), 0x0C43), reservedZero b 2 6 0x0C40 ]
  ++ (List.range n).flatMap (fun k =>
    let r := slice b (8 + 8 * k) 8
    [ (within (le r 0 2) 1 1792 && decide (sum k ≤ 1792), 0x0C41), (decide (u8 r 2 ≤ 1), 0x0C42), (decide (u8 r 3 ≤ 1), 0x0C42)
    , reservedZero r 4 4 0x0C40 ])

/-- Table 12-9. -/
def nfcFields (b : Bytes) : List FieldCheck :=
  [ (b.length == 16, 0x0D40), (decide (u8 b 0 < 8), 0x0D40), (decide (u8 b 1 ≤ 2), 0x0D41), (within (u8 b 2) 1 4, 0x0D42)
  , (decide (u8 b 3 ≤ 4), 0x0D42), (within (le b 4 2) 50 250, 0x0D43), (within (u8 b 6) 5 200, 0x0D44)
  , (within (u8 b 7) 6 15, 0x0D45), (decide (u8 b 8 < 8), 0x0D46), (within (u8 b 9) 6 40, 0x0D47), reservedZero b 0x0A 6 0x0D40 ]

/-- Table 10-12. -/
def tamperFields (b : Bytes) : List FieldCheck :=
  [ (b.length == 8, 0x0F40), (decide (u8 b 0 ≤ 2), 0x0F40), (within (u8 b 1) 1 100, 0x0F40), (within (u8 b 2) 4 64, 0x0F41)
  , reservedZero b 3 5 0x0F40 ]

/-! ## Sections of a subsystem (Table 2-2, Table 2-7) -/

/-- The own code of the first field of a section that is out of range, 0 for none. SETTINGS_DEFAULTS is judged with the image
(R47). -/
def sectionCode (c : Candidate) (type : Nat) (b : Bytes) : Nat :=
  match type with
  | 1 => firstBad (deviceFields b)
  | 2 => firstBad (supplyFields c b)
  | 3 => firstBad (lfFields b)
  | 4 => firstBad (mapFields c b)
  | 5 => firstBad (bandsFields c b)
  | 6 => firstBad (rangingFields b)
  | 7 => firstBad (zonesFields c b)
  | 8 => firstBad (policyFields c b)
  | 9 => firstBad (typesFields c b)
  | 0x0A => firstBad (partnersFields b)
  | 0x0B => firstBad (linksFields b)
  | 0x0C => firstBad (timeFields b)
  | 0x0D => firstBad (storageFields b)
  | 0x0E => firstBad (nfcFields b)
  | 0x0F => firstBad (tamperFields b)
  | 0x10 => firstBad (pulsesFields b)
  | _ => 0

/-- The sections that a subsystem's check reads, in the order of Table 2-7. -/
def subSections : Subsys → List Nat
  | .sys => [1] | .cfg => [0x11] | .pwr => [2] | .sym => [] | .key => [] | .sto => [0x0D] | .tam => [0x0F] | .lf => [3]
  | .tok => [9] | .rel => [8, 0x0A] | .tim => [0x0C, 0x10] | .rf => [5] | .rng => [6, 7, 4] | .nfc => [0x0E] | .hif => [0x0B]
  | .upd => []

/-- The sections without which a check refuses with 0x0220 (Table 2-8, cause 5). NFC is not enabled without its section (R62, R354;
log entry 56). -/
def neededSections : Subsys → List Nat
  | .sys => [1] | .pwr => [2] | .lf => [3] | .tok => [9] | .rel => [8] | .rf => [5] | .rng => [6, 7, 4] | .nfc => [0x0E]
  | .cfg => [] | .sym => [] | .key => [] | .sto => [] | .tam => [] | .tim => [] | .hif => [] | .upd => []

/-- Causes 5 to 8 of Table 2-8 for a subsystem: 0, or the reason. In PARTNERS two CAN identifiers may clash on a bus, and DISC_ETYPE with
PART_ETYPE. -/
def sectionsCause (c : Candidate) (u : Subsys) : Nat :=
  if (neededSections u).any (fun t => (sectionIn c t).isNone) then 0x0220
  else
    let present := (subSections u).filterMap (fun t => c.sections.find? (fun x => x.type == t))
    if present.any (fun x => x.flags / 256 % 256 != 1) then 0x0221
    else match present.find? (fun x => sectionCode c x.type x.data != 0) with
      | some x => sectionCode c x.type x.data
      | none =>
        if u = .rel && (match sectionIn c 0x0A with | some p => !distinctIds (partnerIds p) || le p 2 2 == le p 8 2 | none => false) then 0x0225
        else if u = .hif && linksClash c then 0x0225
        else 0

/-! ## The judgement of a subsystem (R60, Table 2-8, R483) -/

/-- Whether a receive chain and a 2.4 GHz transmitter are in use (R210, R483). -/
def State.rangingParts (s : State) : Bool :=
  [0, 1, 2, 3].any (fun n => s.flag (F.RF_CHn_STAT_UP n)) && s.flag F.RF_STAT_TX24_OK

/-- Hardware without which a subsystem refuses beside Table 2-8: both synthesisers (R165), receive chains and transmitter (R483),
both AES pipelines and the DRBG's test (R259), both vault banks (R299). Their place is log entry 151. -/
def State.partsCause (s : State) (u : Subsys) : Nat :=
  if u = .rf && s.flag F.RF_STAT_SYN0_FAILED && s.flag F.RF_STAT_SYN1_FAILED then 0x0604
  else if u = .rng && !s.rangingParts then 0x0706
  else if u = .sym && ((s.sym.failed.getD 0 false && s.sym.failed.getD 1 false) || s.sym.drbgBad) then 0x0A17
  else if u = .sto && !s.vaultUp then 0x0C02
  else 0

/-- The first failing cause of Table 2-8 for a subsystem: 0 when the check passes. `dep` says whether a dependency counts as
enabled (R54). A trial is judged for the next start, so by the fused lifecycle state (log entry 58). -/
def State.subCheck (s : State) (c : Candidate) (trial : Bool) (dep : Subsys → Bool) (u : Subsys) : Nat :=
  if s.islandCause u then 0x0224
  else if !((subDeps u).all dep) then 0x0223
  else if u = .rf && s.onRc then 0x0229
  else if s.partsCause u ≠ 0 then s.partsCause u
  else if !(if trial then s.fuses.state == 2 || s.fuses.state == 3 else s.inService) then 0x0226
  else sectionsCause c u

/-- The candidate that stands selected. -/
def State.selected (s : State) (vioHigh : Bool) : Candidate := ⟨s.sys.sections, vioHigh⟩

end Sys2Proof.Machine
end

