-- ==== Sys2Proof/Machine/Buses.lean ====
section
/-! DEFINITION. Chapter 16, vehicle buses and partner discovery (R448 to R455): bring-up from HOST_LINKS, host frames, bus-off, PLCA,
bus wakes, discovery messages and the partner list. -/
namespace Sys2Proof.Machine

open Sys2Proof

/-! ## Bring-up (R450, R453) -/

/-- HOST_LINKS, empty without the section. -/
def State.linksSec (s : State) : Bytes := (s.section? 0x0B).getD []
/-- LINKS and AWAKE: bit 0 CAN0, 1 CAN1, 2 T1S. -/
def State.linkOn (s : State) (p : Nat) : Bool := Nat.testBit (u8 s.linksSec 0) p
def State.linkAwake (s : State) (p : Nat) : Bool := Nat.testBit (u8 s.linksSec 5) p
/-- Whether MB_PORTS names a bus. -/
def State.mbPort (s : State) (p : Nat) : Bool := Nat.testBit (u8 s.linksSec 1) p
/-- The record of a CAN bus, and its FLAGS. -/
def State.canRec (s : State) (c : Nat) : Bytes := slice s.linksSec (0x18 + 16 * c) 16
def State.canFlag (s : State) (c n : Nat) : Bool := Nat.testBit (u8 (s.canRec c) 9) n

/-- The own code of the first failing field of a bus's record, 0 when it passes. -/
def State.busFault (s : State) (p : Nat) : Nat := if p = 2 then firstBad (t1sFields s.linksSec) else firstBad (canFields (s.canRec p))

/-- The transport of a port. -/
def portTransport (p : Nat) : Transport := match p with | 0 => .can0 | 1 => .can1 | _ => .t1s

/-- The UP bit of a port in HIF_STAT, and the bus-off bit of a controller. -/
def upField (p : Nat) : Field := match p with | 0 => F.HIF_STAT_CAN0_UP | 1 => F.HIF_STAT_CAN1_UP | _ => F.HIF_STAT_T1S_UP
def busOffField (c : Nat) : Field := if c = 0 then F.HIF_STAT_CAN0_BUSOFF else F.HIF_STAT_CAN1_BUSOFF

/-- Sends the responses held for a bus that is up again (R445). -/
def State.flushHeld (s : State) (p : Nat) : State :=
  let t := portTransport p
  if !s.busUp t then s
  else (s.hif.busResp.filter (fun r => r.transport == t)).foldl (fun (u : State) r => u.deliver t r.src r.bytes)
    { s with hif := { s.hif with busResp := s.hif.busResp.filter (fun r => r.transport != t) } }

/-- Sets whether a port is up: LINK_CHG, the port's status, its queued frames when it goes down, its held responses when it
comes up. -/
def State.setUp (s : State) (p : Nat) (up : Bool) : State :=
  if s.flag (upField p) == up then s
  else
    let s1 := (s.putFlag (upField p) up).event F.HIF_EVT_LINK_CHG
    let s2 :=
      if p = 2 then
        let plca := up && u8 s.linksSec 0x38 == 1
        let coord := plca && u8 s.linksSec 0x39 == 0
        let t1 := ((s1.putFlag F.HIF_T1S_STAT_UP up).put F.HIF_T1S_STAT_NODE_ID (if plca then u8 s.linksSec 0x39 else 0))
        let t2 := (t1.put F.HIF_T1S_STAT_NODE_COUNT (if coord then u8 s.linksSec 0x3A else 0)).putFlag F.HIF_T1S_STAT_COORD coord
        (t2.putFlag F.HIF_T1S_STAT_PLCA_ACTIVE plca).putFlag F.HIF_STAT_PLCA_ACTIVE plca
      else
        let t1 := (s1.put (F.HIF_CANc_STAT_STATE p) (bit up)).putFlag (busOffField p) false
        { t1 with hif := { t1.hif with recovering := t1.hif.recovering.filter (· != p) } }
    if up then ({ s2 with hif := { s2.hif with linkUp := true } }).flushHeld p else s2.abandonFrames p

/-- Whether a port may be up: HOST_LINKS names it, its record passes, the link island works, and T1S not on the RC. -/
def State.mayUp (s : State) (p : Nat) : Bool :=
  s.linkOn p && s.busFault p == 0 && !s.islandFailed 13 && !(p == 2 && s.onRc)

/-- The buses follow HOST_LINKS and the reference: UP bits, the CAN rate limit, the LINK vote of AWAKE (R450, R452, R401). -/
def State.refreshLinks (s : State) : State :=
  let s1 := [0, 1, 2].foldl (fun (t : State) p => t.setUp p (t.mayUp p)) s
  let nominal := s1.onRc && (s1.flag F.HIF_STAT_CAN0_UP || s1.flag F.HIF_STAT_CAN1_UP)
  let s2 := s1.putFlag F.HIF_STAT_CAN_NOMINAL nominal
  let s3 := { s2 with hif := { s2.hif with txq := s2.hif.txq.map (fun f =>
    if s2.onRc && f.port < 2 && Nat.testBit f.flags 2 then { f with flags := f.flags - 4 } else f) } }
  let awake := [0, 1, 2].any (fun p => s3.flag (upField p) && s3.linkAwake p)
  if awake && !Nat.testBit (s3.votes 13) 7 then s3.raiseVote 7 13 false
  else if !awake && Nat.testBit (s3.votes 13) 7 then s3.withdrawVote 7 13 else s3

/-- Phase 8 brings the buses up; a bus whose record fails stays down with its own code in HIF_REASON. -/
def State.bringUp (s : State) : State :=
  [0, 1, 2].foldl (fun (t : State) p => if t.linkOn p && t.busFault p != 0 then t.reason .hif (t.busFault p) else t) s.refreshLinks

/-! ## Host frames (R450, R451) -/

/-- A CAN identifier encoded as in R230. -/
def canIdent (ext : Bool) (v : Nat) : Nat := if ext then 2 ^ 31 + v % 2 ^ 29 else v % 2048

/-- The identifiers or Ethertypes of a port that the Untur reserves for itself. -/
def State.reservedIds (s : State) (p : Nat) : List Nat :=
  let h := s.linksSec
  if p = 2 then
    (if s.mbPort 2 then [le h 0x10 2] else []) ++ (if s.partnersSec.isEmpty then [] else
      (if le s.partnersSec 2 2 = 0 then [] else [le s.partnersSec 2 2]) ++ [le s.partnersSec 8 2]) ++ [0x88F7]
  else
    (if s.mbPort p then [le h 8 4, le h 12 4] else []) ++ ((partnerIds s.partnersSec).filter (fun x => x.1 == p)).map (fun x => x.2)

/-- Whether a frame on an identifier is reserved. -/
def State.frameReserved (s : State) (p flags ident : Nat) : Bool :=
  (s.reservedIds p).contains (if p = 2 then ident % 65536 else canIdent (Nat.testBit flags 0) ident)

/-- Whether LEN suits the frame type: classical, FD, T1S. -/
def frameLenOk (p flags n : Nat) : Bool :=
  if p = 2 then decide (n ≤ 1500)
  else decide (n ≤ 8) || (Nat.testBit flags 1 && [12, 16, 20, 24, 32, 48, 64].contains n)

/-- The stamp queue of a port: 0 T1S, 1 CAN0, 2 CAN1. -/
def stampOf (p : Nat) : Nat := if p = 2 then 0 else p + 1

/-- Takes the next frame tag of a port: 1 to 65,535 (R373). -/
def State.nextTag (s : State) (p : Nat) : State × Nat :=
  let n := s.tim.tags.getD (stampOf p) 0 % 65535 + 1
  ({ s with tim := { s.tim with tags := s.tim.tags.set (stampOf p) n } }, n)

/-- The FRAME_SEND command: the input of Table 16-8. -/
def frameSendOp (b : Bytes) (s : State) : MbRes :=
  let p := u8 b 0
  let flags := u8 b 1
  let n := le b 2 2
  if b.length < 16 || b.length ≠ 16 + n || 16 ≤ flags || !allZero (slice b 0x0E 2) then mbFail s .hif 0x100C
  else if 2 < p || !s.linkOn p || !s.busUp (portTransport p) then mbFail s .hif 0x100E
  else if !frameLenOk p flags n then mbFail s .hif 0x1010
  else if s.frameReserved p flags (le b 4 4) then mbFail s .hif 0x100F
  else
    let data := if p = 2 then padTo (max 46 n) (b.drop 16) else b.drop 16
    let fl := if s.onRc && Nat.testBit flags 2 then flags - 4 else flags
    let (s1, tag) := if Nat.testBit flags 3 then s.nextTag p else (s, 0)
    let f : TxFrame := ⟨p, fl, le b 4 4, beNat (slice b 8 6), data, if tag = 0 then none else some tag⟩
    mbOk { s1 with hif := { s1.hif with txq := s1.hif.txq ++ [f] } } (toLE 2 tag ++ toLE 2 0)

/-- FRAME_SEND. -/
def execFrameSend (input : Bytes) (s : State) : Out := .next (mailboxCommand 0x1001 input (frameSendOp input) s)

/-- The records that an answer of at most `max` records and 66,560 bytes takes. -/
def takeRecords (room : Nat) : Nat → List RxRec → List RxRec
  | 0, _ => []
  | _ + 1, [] => []
  | n + 1, r :: rs => if room < r.bytes.length then [] else r :: takeRecords (room - r.bytes.length) n rs

/-- The FRAME_RECV command. -/
def frameRecvOp (max : Nat) (s : State) : MbRes :=
  let rs := takeRecords 66556 max s.hif.rxq
  let s1 := { s with hif := { s.hif with rxq := s.hif.rxq.drop rs.length } }
  mbOk (s1.put F.HIF_RXQ_RECORDS s1.hif.rxq.length) (toLE 2 rs.length ++ toLE 2 0 ++ rs.flatMap (·.bytes))

/-- FRAME_RECV. -/
def execFrameRecv (max : BitVec 16) (s : State) : Out :=
  .next (mailboxCommand 0x1002 (toLE 2 max.toNat) (frameRecvOp max.toNat) s)

/-- Whether a filter of HOST_LINKS matches a frame. -/
def filterHits (r : Bytes) (p flags ident : Nat) : Bool :=
  u8 r 0 == p && (p == 2 || Nat.testBit (u8 r 1) 0 == Nat.testBit flags 0)
  && (if p = 2 then ident % 65536 else ident % 2 ^ 29) &&& le r 8 4 == le r 4 4

/-- The filters of HOST_LINKS. -/
def State.filters (s : State) : List Bytes :=
  (List.range (u8 s.linksSec 6)).map (fun f => slice s.linksSec (0x48 + 12 * f) 12)

/-- The stamp of a received frame (R372); a port that TS_PORTS leaves out stamps nothing. -/
def State.rxStamp (s : State) (p : Nat) : Bytes :=
  if !s.stampsOn (stampOf p) then zeros 12
  else toLE 6 (s.tim.nt / 10 ^ 9) ++ toLE 4 (s.tim.nt % 10 ^ 9) ++ toLE 2 (s.stampFlags false)

/-- A frame of a bus enters the host receive queue when a filter matches and its identifier is not reserved; a full queue drops it.
Frame service stands from the bring-up until the host disables HIF (R62). -/
def State.takeFrame (s : State) (rec : Bytes) : State :=
  let p := u8 rec 0
  let flags := u8 rec 1
  let n := le rec 2 2
  let ident := le rec 4 4
  let service := s.enabled .hif || decide (s.phase ≤ 9)
  if !service || 2 < p || !s.busUp (portTransport p) then s
  else if s.frameReserved p flags ident || !s.filters.any (fun r => filterHits r p flags ident) then s
  else
    let data := padTo n (rec.drop 0x1C)
    let r : RxRec := ⟨rec.take 8 ++ padTo 6 (slice rec 8 6) ++ zeros 2 ++ s.rxStamp p ++ padTo ((n + 3) / 4 * 4) data⟩
    let used := s.hif.rxq.foldl (fun m x => m + x.bytes.length) 0
    if 131072 < used + r.bytes.length then (s.bump F.HIF_RXQ_LOST).reason .hif 0x1016
    else
      let s1 := { s with hif := { s.hif with rxq := s.hif.rxq ++ [r] } }
      (s1.put F.HIF_RXQ_RECORDS s1.hif.rxq.length).event F.HIF_EVT_RX_FRAME

/-- BUS_FRAME_RECEIVE: latched during phases 1 to 8 (R78), taken while the link island runs; in STANDBY the frame is not received
(R452). -/
def busFrameReceive (rec : Bytes) (s : State) : State :=
  if s.latching then s.latch (.bus rec)
  else if (s.phase = 9 || s.phase = 0xA) && s.island 13 = 2 then s.takeFrame rec
  else s

/-- BUS_FRAME_RECEIVE. -/
def execBusFrameReceive (record : Bytes) (s : State) : Out := .next (busFrameReceive record s)

/-! ## Segments of mailbox messages (R441, R442) -/

/-- The bytes of a message still open on a transport. -/
def State.partial? (s : State) (t : Transport) : Option Partial := (s.hif.partials.find? (fun x => x.1 == t)).map (fun x => x.2)

/-- Opens, extends or closes the partial message of a transport. -/
def State.setPartial (s : State) (t : Transport) (p : Option Partial) : State :=
  let rest := s.hif.partials.filter (fun (x : Transport × Partial) => x.1 != t)
  { s with hif := { s.hif with partials := match p with | some x => rest ++ [(t, x)] | none => rest } }

/-- The width of SEG's sequence field. -/
def seqModulus (t : Transport) : Nat := match t with | .t1s => 2 ^ 14 | _ => 64

/-- What a closing segment leaves of the padding that follows the message on a bus. -/
def trimPadding (t : Transport) (have_ : Bytes) (seg : Bytes) : Bytes :=
  let whole := have_ ++ seg
  let need := 16 + msgInLen whole
  let pads := match t with | .spi => false | .t1s => decide (seg.length ≤ 44) | _ => true
  if pads && 16 ≤ whole.length && have_.length < need && need < whole.length then seg.take (need - have_.length) else seg

/-- A segment in sequence joins its message; a message malformed by its length is discarded with 0x1009, a complete one enters the
queue. -/
def State.joinSegment (s : State) (t : Transport) (p : Partial) (last : Bool) (seg : Bytes) : State :=
  let m := p.bytes ++ (if last then trimPadding t p.bytes seg else seg)
  let need := 16 + msgInLen m
  let bad := decide (16 ≤ m.length) && (decide (66560 < msgInLen m) || decide (need < m.length))
  if bad || (last && (m.length < 16 || m.length ≠ need)) then (s.setPartial t none).refuseMessage
  else if last then (s.setPartial t none).enqueue ⟨t, m, p.src⟩
  else s.setPartial t (some { p with bytes := m, seq := (p.seq + 1) % seqModulus t })

/-- A segment of any transport (R441). -/
def State.segment (s : State) (t : Transport) (first last : Bool) (seq : Nat) (seg : Bytes) (src : Nat) : State :=
  if first then
    let s1 := if (s.partial? t).isSome then (s.setPartial t none).refuseMessage else s
    if seq ≠ 0 then s1.refuseMessage else s1.joinSegment t ⟨[], 0, src⟩ last seg
  else match s.partial? t with
    | none => s.refuseMessage
    | some p => if seq ≠ p.seq then (s.setPartial t none).refuseMessage else s.joinSegment t p last seg

/-- The port of a bus transport; none for SPI. -/
def transportPort (t : Transport) : Option Nat := match t with | .spi => none | .can0 => some 0 | .can1 => some 1 | .t1s => some 2

/-- Whether mailbox frames of a bus are received: HIF enabled, the bus named by MB_PORTS and up, the link island awake. -/
def State.mbReceives (s : State) (t : Transport) : Bool :=
  match transportPort t with
  | none => false
  | some p => s.enabled .hif && s.mbPort p && s.busUp t && decide (s.island 13 = 2)

/-- A mailbox frame of a bus: SEG opens the payload, most significant byte first on T1S (log entry 148); a payload of the wrong size for
its bus is malformed. -/
def mailboxSegmentNow (t : Transport) (payload : Bytes) (src : Nat) (s : State) : State :=
  if !s.mbReceives t then s
  else if t = .t1s then
    let seg := be payload 0 2
    if payload.length < 3 || 1500 < payload.length then (s.setPartial t none).refuseMessage
    else s.segment t (Nat.testBit seg 15) (Nat.testBit seg 14) (seg % 2 ^ 14) (payload.drop 2) src
  else
    let seg := u8 payload 0
    if payload.length ≠ 64 then (s.setPartial t none).refuseMessage
    else s.segment t (Nat.testBit seg 7) (Nat.testBit seg 6) (seg % 64) (payload.drop 1) 0

/-- MAILBOX_SEGMENT: latched in phases 1 to 8 (R78), else taken. -/
def mailboxSegment (t : Transport) (payload : Bytes) (src : Nat) (s : State) : State :=
  if s.latching && t != .spi then s.latch (.segment t payload src) else mailboxSegmentNow t payload src s

/-! ## Bus-off, PLCA, wakes (R448, R449, R452) -/

/-- BUS_OFF: 0x1012; queued frames are abandoned; AUTO_RECOVER begins the recovery. -/
def busOff (c : Nat) (s : State) : State :=
  if !s.flag (upField c) || s.flag (busOffField c) then s
  else
    let s1 := (((s.putFlag (busOffField c) true).put (F.HIF_CANc_STAT_STATE c) 3).bump (F.HIF_CANc_STAT_BUSOFF_CNT c)).redLoss 13
    let s2 := (s1.abandonFrames c).event F.HIF_EVT_BUS_OFF
    let s3 := s2.reason .hif 0x1012
    if s3.canFlag c 4 then { s3 with hif := { s3.hif with recovering := s3.hif.recovering ++ [c] } } else s3

/-- BUS_OFF. -/
def execBusOff (ctrl : Fin 2) (s : State) : Out := .next (busOff ctrl.val s)

/-- CAN_RECOVER: starts the recovery of a controller that is bus-off. -/
def canRecover (c : Nat) (s : State) : State :=
  if s.flag (busOffField c) && !s.hif.recovering.contains c then { s with hif := { s.hif with recovering := s.hif.recovering ++ [c] } }
  else s

/-- CAN_RECOVER. -/
def execCanRecover (ctrl : Fin 2) (s : State) : Out := .next (canRecover ctrl.val s)

/-- BUS_OFF_RECOVERY: after 128 occurrences of 11 recessive bits the controller is error active again. -/
def busOffRecovery (c : Nat) (s : State) : State :=
  if !s.hif.recovering.contains c then s
  else
    let s1 := { s with hif := { s.hif with recovering := s.hif.recovering.filter (· != c) } }
    let s2 := (s1.putFlag (busOffField c) false).put (F.HIF_CANc_STAT_STATE c) 1
    let s3 := ((s2.put (F.HIF_CANc_STAT_TEC c) 0).put (F.HIF_CANc_STAT_REC c) 0)
    let s4 := if s3.flag (busOffField (1 - c)) then s3 else s3.redClear 13
    s4.flushHeld c

/-- BUS_OFF_RECOVERY. -/
def execBusOffRecovery (ctrl : Fin 2) (s : State) : Out := .next (busOffRecovery ctrl.val s)

/-- BEACON_LOST: a node other than the coordinator falls back to CSMA/CD with 0x1013. -/
def beaconLost (s : State) : State :=
  if !s.flag F.HIF_STAT_PLCA_ACTIVE || s.flag F.HIF_T1S_STAT_COORD then s
  else ((s.putFlag F.HIF_STAT_PLCA_ACTIVE false).putFlag F.HIF_T1S_STAT_PLCA_ACTIVE false |>.bump F.HIF_T1S_STAT_BEACON_LOST).reason .hif 0x1013

/-- BEACON_LOST. -/
def execBeaconLost (s : State) : Out := .next (beaconLost s)

/-- BEACON_RECEIVE: the port returns to PLCA. -/
def beaconReceive (s : State) : State :=
  if s.flag F.HIF_STAT_T1S_UP && u8 s.linksSec 0x38 = 1 then
    (s.putFlag F.HIF_STAT_PLCA_ACTIVE true).putFlag F.HIF_T1S_STAT_PLCA_ACTIVE true
  else s

/-- BEACON_RECEIVE. -/
def execBeaconReceive (s : State) : Out := .next (beaconReceive s)

/-- The votes of a link wake with the link island asleep: link and active pair (Table 14-3). -/
def State.linkWake (s : State) : State :=
  if s.pwr.standby || s.island 13 ≠ 2 then ((s.raiseVote 0 13 false).raiseVote 0 (1 + s.activePair) false).touch else s

/-- BUS_WAKE: a bus whose WAKE flag is set wakes the Untur; the frame that carries the wake is not received. -/
def busWake (p : Nat) (s : State) : State :=
  let wakes := s.linkOn p && (if p = 2 then Nat.testBit (u8 s.linksSec 0x3E) 0 else s.canFlag p 3)
  if wakes then s.linkWake else s

/-- BUS_WAKE. -/
def execBusWake (port : Fin 3) (s : State) : Out := .next (busWake port.val s)

/-- SPI_CS_WAKE: a falling edge of SPI_CS_N in STANDBY (R439). -/
def execSpiCsWake (s : State) : Out := .next s.linkWake

/-! ## Discovery (R454, R455) -/

/-- Whether a role is paired with a PID. -/
def State.pidPaired (s : State) (pid : Nat) : Bool :=
  (List.range 8).any (fun r => match s.partnerKey r with | some k => k.pub == toBE 8 pid | none => false)

/-- The MAC address of each role's partner after a discovery frame of it on T1S: learned where none is held; one that is held changes
only with a verified STATUS (R228, R455). -/
def State.learnMacs (s : State) (d : Disc) : List Nat :=
  if d.port ≠ 2 then s.rel.macs
  else (List.range 8).map (fun r =>
    let old := s.rel.macs.getD r 0
    if old = 0 && (s.partnerKey r).any (fun k => k.pub == toBE 8 d.pid) then d.mac else old)

/-- Puts an entry heard now at the end of a list, in place of an older one of its PID. -/
def hear (l : List Disc) (d : Disc) : List Disc := l.filter (fun x => x.pid != d.pid) ++ [d]

/-- A discovery message with all its bytes: its PID must hash from its key; a paired partner is noted, an unpaired one listed, the
seventeenth in place of the one heard least recently. -/
def State.discMsg (s : State) (port mac : Nat) (m : Bytes) : State :=
  if u8 m 0 ≠ 0x61 || u8 m 2 ≠ 1 then s
  else
    let key := padTo 132 (m.drop 0x10)
    let pid := be m 4 8
    if beNat ((Crypto.sha512 key).take 8) ≠ pid then s.reason .hif 0x1017
    else
      let s0 := s.bump F.HIF_DISC_HEARD
      let s1 := if Nat.testBit (u8 m 3) 0 then { s0 with hif := { s0.hif with query := true } } else s0
      let d : Disc := ⟨pid, u8 m 1, port, key, mac, s.mt⟩
      if s1.pidPaired pid then
        { s1 with hif := { s1.hif with discPaired := hear s1.hif.discPaired d }, rel := { s1.rel with macs := s1.learnMacs d } }
      else
        let new := !s1.hif.disc.any (fun x => x.pid == pid)
        let l := hear s1.hif.disc d
        let s2 := { s1 with hif := { s1.hif with disc := l.drop (l.length - 16) } }
        let s3 := s2.put F.HIF_DISC_UNPAIRED s2.hif.disc.length
        if new then s3.event F.HIF_EVT_DISC_NEW else s3

/-- A part of a CAN discovery message: the 3 parts must come within 100 ms of the first. -/
def State.discPartIn (s : State) (port : Nat) (b : Bytes) : State :=
  let alive := s.hif.discPart.filter (fun x => decide (s.mt ≤ x.mt + 100000))
  let pid := slice b 1 4
  let mine := fun (x : DiscPart) => x.port == port && x.pid == pid
  let cur : DiscPart := (alive.find? mine).getD ⟨port, pid, [], s.mt⟩
  let part : Nat × Bytes := (u8 b 0, padTo 59 (b.drop 5))
  let parts := cur.parts.filter (fun x => x.1 != part.1) ++ [part]
  let rest := alive.filter (fun x => !mine x)
  let piece := fun (n : Nat) => parts.find? (fun x => x.1 == n)
  match piece 0, piece 1, piece 2 with
  | some x, some y, some z =>
    ({ s with hif := { s.hif with discPart := rest } }).discMsg port 0 ((x.2 ++ y.2 ++ z.2).take 148)
  | _, _, _ => { s with hif := { s.hif with discPart := rest ++ [{ cur with parts := parts }] } }

/-- A discovery frame of a bus that discovery runs on. -/
def discoveryNow (port : Nat) (payload : Bytes) (mac : Nat) (s : State) : State :=
  if !s.discPorts.contains port || !s.portUp port then s
  else if port = 2 then (if payload.length < 148 then s else s.discMsg 2 mac (payload.take 148))
  else if payload.length ≠ 64 || 2 < u8 payload 0 then s
  else s.discPartIn port payload

/-- DISCOVERY_RECEIVE: latched in phases 1 to 8 (R78), else taken. -/
def discoveryReceive (port : Nat) (payload : Bytes) (mac : Nat) (s : State) : State :=
  if s.latching then s.latch (.discovery port payload mac) else discoveryNow port payload mac s

/-- DISCOVERY_RECEIVE. -/
def execDiscoveryReceive (port : Fin 3) (payload : Bytes) (mac : Nat) (s : State) : Out :=
  .next (discoveryReceive port.val payload mac s)

/-- DISCOVERY_ANNOUNCE: at link-up with QUERY, else every 2 s while the link island runs, or after a received QUERY. -/
def discoveryAnnounce (linkUp : Bool) (s : State) : State :=
  let up := linkUp && s.hif.linkUp
  let due := up || s.hif.query || decide (s.hif.announceMt + 2000000 ≤ s.mt)
  if !due || s.island 13 ≠ 2 || !s.discPorts.any s.portUp then s
  else ({ s with hif := { s.hif with query := false, linkUp := s.hif.linkUp && !up } }).announceOn up

/-- DISCOVERY_ANNOUNCE. -/
def execDiscoveryAnnounce (linkUp : Bool) (s : State) : Out := .next (discoveryAnnounce linkUp s)

/-- DISCOVERY_AGE_OUT: entries unheard for 600 s of MT are dropped. -/
def discoveryAgeOut (s : State) : State :=
  let s1 := { s with hif := { s.hif with disc := s.hif.disc.filter (fun d => decide (s.mt < d.mt + 600000000)) } }
  s1.put F.HIF_DISC_UNPAIRED s1.hif.disc.length

/-- DISCOVERY_AGE_OUT. -/
def execDiscoveryAgeOut (s : State) : Out := .next (discoveryAgeOut s)

/-- A record of PARTNER_LIST. -/
def listRecord (pid kind port flags role mt : Nat) : Bytes :=
  toBE 8 pid ++ toLE 1 kind ++ toLE 1 port ++ toLE 1 flags ++ toLE 1 role ++ toLE 4 (mt % 2 ^ 32)

/-- The record of a role: its partner as last heard, else as PARTNERS places it; an EMPTY role has PID 0. -/
def State.roleRecord (s : State) (r : Nat) : Bytes :=
  match s.partnerKey r with
  | none => listRecord 0 (s.roleKind r) ((s.rolePorts r).headD 0) 0 r 0
  | some k => match s.hif.discPaired.find? (fun d => k.pub == toBE 8 d.pid) with
    | some d => listRecord d.pid d.kind d.port 1 r d.mt
    | none => listRecord (beNat k.pub) (s.roleKind r) ((s.rolePorts r).headD 0) 1 r 0

/-- The PARTNER_LIST command: 8 role records and the unpaired records. -/
def partnerListOp (s : State) : MbRes :=
  mbOk s ((List.range 8).flatMap s.roleRecord ++ s.hif.disc.flatMap (fun d => listRecord d.pid d.kind d.port 0 0xFF d.mt))

/-- PARTNER_LIST. -/
def execPartnerList (s : State) : Out := .next (mailboxCommand 0x0903 [] partnerListOp s)

end Sys2Proof.Machine
end

