-- ==== Sys2Proof/Machine/Cipher.lean ====
section
/-! DEFINITION. Chapter 9, second part: descriptors and their checks, hardware nonces, contexts, the queues of the engines. -/
namespace Sys2Proof.Machine

open Sys2Proof

/-! ## The descriptor (R240, Table 9-3) -/

/-- Operations and modes that are supported together. -/
def opMode (op mode : Nat) : Bool :=
  if op = 1 || op = 2 then mode ≤ 2 || mode == 5
  else if op = 3 || op = 4 || op = 5 then mode == 3
  else if op = 6 || op = 7 then mode == 4
  else [0x10, 0x20, 0x21, 0x22, 0x23, 0x30, 0x40, 0x41, 0x42].contains op && mode == 0

/-- The operations that name a key. -/
def needsKey (op : Nat) : Bool := (1 ≤ op && op ≤ 7) || op == 0x21 || op == 0x23

/-- The operations that may be multi-part (R243). -/
def multiOk (op : Nat) : Bool := op == 1 || op == 3 || op == 0x10

/-- A request with FIRST and LAST both set. -/
def dSingle (d : Bytes) : Bool := dFlag d 0 && dFlag d 1

/-- Check 1 of Table 9-5. A first part must be saved, a later part and an export or free must name a slot (log entry 50). -/
def descValid (d : Bytes) (mailbox : Bool) : Bool :=
  let op := dOp d
  let ivUsed := (op == 2 && dMode d ≤ 2) || ((op == 1 || op == 2) && dMode d == 5)
  d.length == 64 && opMode op (dMode d) && u8 d 3 < 32 && (dCtx d < 32 || dCtx d == 0xFF)
    && allZero (slice d 9 3) && allZero (slice d 0x14 4) && allZero (slice d 0x38 8)
    && le d 0x18 8 < 2 ^ 36 && le d 0x20 8 < 2 ^ 36 && (!mailbox || (le d 0x18 8 == 0 && le d 0x20 8 == 0))
    && (needsKey op == (dKey d != 0)) && (ivUsed || allZero (dIv d))
    && !(multiOk op && dFlag d 0 && !dFlag d 1 && !dFlag d 2)
    && !(multiOk op && !dFlag d 0 && dCtx d == 0xFF)
    && !((op == 0x40 || op == 0x42) && dCtx d == 0xFF)

/-- The bytes at SRC: AAD, data, and what follows them. RANDOM reads none. -/
def srcLen (d : Bytes) : Nat :=
  let op := dOp d
  if op = 0x30 then 0
  else dAad d + dLen d + (if (op = 2 && (dMode d = 1 || dMode d = 2)) || op = 4 then dTag d else 0)
    + (if op = 0x22 && dLen d = 64 then 264 else 0)

/-- The AAD of a request. -/
def reqAad (d input : Bytes) : Bytes := padTo (dAad d) input
/-- The data of a request. -/
def reqData (d input : Bytes) : Bytes := padTo (dLen d) (input.drop (dAad d))
/-- What follows the data: the expected tag. -/
def reqTail (d input : Bytes) : Bytes := input.drop (dAad d + dLen d)

/-- The tag length of an authenticated mode is permitted. -/
def tagOk (mode n : Nat) : Bool :=
  if mode = 1 then 12 ≤ n && n ≤ 16 else if mode = 2 then 8 ≤ n && n ≤ 16 && n % 2 == 0 else 4 ≤ n && n ≤ 16

/-- The lengths of Table 9-6, and of the other operations (R254, R257, R250). A hash has no limit. -/
def lenOk (d : Bytes) (keeper : Bool) : Bool :=
  let aad := dAad d
  let n := dLen d
  let plain := aad == 0
  match dOp d, dMode d with
  | 1, 0 => plain && 1 ≤ n && n ≤ 2 ^ 24
  | 2, 0 => plain && 1 ≤ n && n ≤ 2 ^ 24
  | 1, 1 => aad ≤ 65536 && n ≤ 2 ^ 24 && tagOk 1 (dTag d)
  | 2, 1 => aad ≤ 65536 && n ≤ 65536 && tagOk 1 (dTag d)
  | 1, 2 => aad ≤ 65536 && n < 2 ^ 24 && tagOk 2 (dTag d)
  | 2, 2 => aad ≤ 65536 && n ≤ 65536 && tagOk 2 (dTag d)
  | 1, _ => plain && 4096 ≤ n && n ≤ 65536 && n % 4096 == 0
  | 2, _ => plain && 4096 ≤ n && n ≤ 65536 && n % 4096 == 0
  | 3, _ => plain && n ≤ 2 ^ 24 && tagOk 3 (dTag d)
  | 4, _ => plain && n ≤ 2 ^ 24 && tagOk 3 (dTag d)
  | 5, _ => plain && 1 ≤ n && n ≤ 4096
  | 6, _ => plain && 16 ≤ n && n ≤ 4096 && n % 8 == 0
  | 7, _ => plain && 24 ≤ n && n ≤ 4104 && n % 8 == 0
  | 0x10, _ => plain
  | 0x21, _ => plain && n == 64
  | 0x22, _ => plain && (n == 64 || n == 328)
  | 0x23, _ => plain && n == 132
  | 0x30, _ => plain && 1 ≤ n && n ≤ 512
  | 0x41, _ => plain && n == (if keeper then 256 else 288)
  | _, _ => plain && n == 0

/-- Check 6: an authenticated decrypt or an unwrap of more than 64 KiB. -/
def tooLong (d : Bytes) : Bool :=
  ((dOp d == 2 && (dMode d == 1 || dMode d == 2)) || dOp d == 7) && decide (65536 < dLen d)

/-- The usage bit of Table 10-3 that an operation needs (Table 9-6). -/
def usageBit (op : Nat) : Nat :=
  match op with | 1 => 2 | 2 => 3 | 3 => 4 | 4 => 4 | 5 => 5 | 6 => 6 | 7 => 6 | 0x21 => 7 | _ => 5

/-! ## Derived keys (R267 to R269; log entry 25) -/

/-- The attribute word of a derived key: its masters, the keeper world, every lifecycle state, its usage. -/
def derivedAttr (masters usage : Nat) : Nat := masters * 0x10000 + 0x8000 + 0x3F00 + usage

/-- The derived keys in the key store by index: 0 K_META, 1 K_SEAL, 0x100 + s K_RING, 0x200 + s K_RMAC, 0x400 + 4s + region - 3
K_NAND (log entry 25): attribute word and key. -/
def State.derivedKey (s : State) (index : Nat) : Option (Nat × Bytes) :=
  let e := epochKey s.fuses.epochNo
  if !s.keys.derived then none
  else if index = 0 then some (derivedAttr 0x100 0xC, kdfPair (lineage e 0) "META" [])
  else if index = 1 && s.update.cold then some (derivedAttr 6 0xC, Crypto.kdf (Crypto.kdf e "IMAGE" (padTo 64 s.sys.measurement)) "SEAL" [])
  else if 0x100 ≤ index && index ≤ 0x100 + s.keys.sv then some (derivedAttr 0x100 0x40, Crypto.kdf (lineage e (index - 0x100)) "RING" [])
  else if 0x200 ≤ index && index ≤ 0x200 + s.keys.sv then some (derivedAttr 0x106 0x10, Crypto.kdf (lineage e (index - 0x200)) "RMAC" [])
  else if 0x400 ≤ index && (index - 0x400) / 4 ≤ s.keys.sv then
    some (derivedAttr 0x100 0xC, kdfPair (lineage e ((index - 0x400) / 4)) "NAND" (toLE 1 ((index - 0x400) % 4 + 3)))
  else none

/-- The key that a handle names: attribute word and key, or 0x0B01, 0x0B02. DIK admits no master. -/
def State.symKey (s : State) (h : Nat) : Except Nat (Nat × Bytes) :=
  let kind := h / 2 ^ 28
  if kind = 1 then
    match s.derivedKey (h / 2 ^ 16 % 4096) with
    | none => .error 0x0B01
    | some k => if h % 2 ^ 16 = 0 then .ok k else .error 0x0B02
  else if kind = 9 then .ok (derivedAttr 0 0x80, [])
  else match s.sym.store.find? (fun r => handleOf r == h) with
    | some r => .ok (r.attr, r.key)
    | none => (s.keyByHandle h).map (fun r => (r.attr, r.key))

/-! ## Contexts (R249) -/

/-- The lowest free slot of a world's range. -/
def State.freeCtx (s : State) (keeper : Bool) : Option Nat :=
  (if keeper then List.range 32 else (List.range 16).map (· + 16)).find? (fun n => (s.ctx n).isNone)

/-- The refusal of a request that names a slot: owner's master, world, or an empty slot; a later part must fit its mode and key. -/
def State.ctxRefusal (s : State) (d : Bytes) (master : Nat) (keeper part : Bool) : Nat :=
  match s.ctx (dCtx d) with
  | none => 0x0A0A
  | some c =>
    if c.master ≠ master then 0x0122
    else if c.keeper ≠ keeper then 0x0121
    else if part && (c.op ≠ dOp d || c.mode ≠ dMode d || c.key ≠ dKey d) then 0x0A0A
    else 0

/-- Whether a context is of an encrypt that carries a nonce. -/
def Ctx.nonced (c : Ctx) : Bool := c.op == 1 && c.mode ≤ 2

/-! ## Checks (R242, Table 9-5) -/

/-- Checks 2 to 5 and the key's fitness: symmetric keys for AES, P-521 keys for signing and ECDH, a key pair with unequal halves for XTS.
A service-world derive is refused with 0x0121 (R243). -/
def State.keyRefusal (s : State) (d : Bytes) (master : Nat) (keeper : Bool) : Nat :=
  let op := dOp d
  if !needsKey op then 0
  else match s.symKey (dKey d) with
    | .error e => e
    | .ok (attr, k) =>
      let a := keyAdmission attr master keeper s.lifecycle (usageBit op)
      if op = 5 && !keeper then 0x0121
      else if a ≠ 0 then a
      else if (op = 0x21 || op = 0x23) && dKey d / 2 ^ 28 ≠ 6 then 0x0A04
      else if op ≤ 7 && dKey d / 2 ^ 28 = 6 then 0x0A04
      else if op ≤ 2 && dMode d = 5 && (k.length ≠ 64 || k.take 32 = k.drop 32) then 0x0A04
      else 0

/-- Check 10: the slot that a request takes or names. -/
def State.slotRefusal (s : State) (d : Bytes) (master : Nat) (keeper : Bool) : Nat :=
  let op := dOp d
  if op = 0x40 then
    let r := s.ctxRefusal d master keeper false
    let serial := match s.ctx (dCtx d) with | some c => !keeper && c.nonced | none => false
    if r ≠ 0 then r else if serial && decide (64 ≤ s.sym.serials.length) then 0x0A09 else 0
  else if op = 0x41 then (if (s.freeCtx keeper).isNone then 0x0A09 else 0)
  else if op = 0x42 then s.ctxRefusal d master keeper false
  else if dSingle d then 0
  else if dFlag d 0 then (if (s.freeCtx keeper).isNone then 0x0A09 else 0)
  else s.ctxRefusal d master keeper true

/-- Lengths over all parts of a multi-part request; a later part carries no AAD. -/
def State.partOk (s : State) (d : Bytes) : Bool :=
  if dFlag d 0 || !multiOk (dOp d) then true
  else match s.ctx (dCtx d) with
    | some c => dAad d == 0
        && (dOp d == 0x10 || decide (c.data.length + dLen d ≤ (if dOp d = 1 && dMode d = 2 then 2 ^ 24 - 1 else 2 ^ 24)))
    | none => true

/-- Whether a request draws from the DRBG with prediction resistance, or from the service world: what a failed source refuses (R258). -/
def needsEntropy (d : Bytes) (keeper : Bool) : Bool :=
  dOp d == 0x20 || dOp d == 0x21 || (dOp d == 0x30 && (dFlag d 3 || !keeper))

/-- Checks 1 to 10 in order, then the DRBG's own; 0 when all hold. -/
def State.symCheck (s : State) (d : Bytes) (master : Nat) (keeper mailbox : Bool) : Nat :=
  if !descValid d mailbox then 0x0A01
  else
    let k := s.keyRefusal d master keeper
    if k ≠ 0 then k
    else if tooLong d then 0x0A03
    else if !lenOk d keeper || !s.partOk d then 0x0A02
    else if !dSingle d && !multiOk (dOp d) then 0x0A08
    else if s.ringLocked && needsKey (dOp d) && decide (2 ≤ dKey d / 2 ^ 28 ∧ dKey d / 2 ^ 28 ≤ 7) then 0x0A14
    else
      let c := s.slotRefusal d master keeper
      if c ≠ 0 then c
      else if needsEntropy d keeper && s.entropyFailed then 0x0A0D
      else 0

/-! ## Hardware nonces (R244 to R246) -/

/-- The stream of a requester: master and world. -/
def streamOf (master : Nat) (keeper : Bool) : Nat := master * 16 + 8 * bit keeper

/-- The reservation limit of a stream in the vault. -/
def State.nonceLimit (s : State) (id : Nat) : Nat := match s.vault.nonceHi.find? (·.1 == id) with | some (_, h) => h | none => 0

/-- The stream as it stands; a stream not used since the start resumes at its stored HI. -/
def State.nonceStream (s : State) (id : Nat) : NonceStream :=
  match s.sym.streams.find? (fun x => x.id == id) with
  | some x => x
  | none => ⟨id, s.nonceLimit id, s.nonceLimit id⟩

/-- Puts a stream back. -/
def State.setNonceStream (s : State) (x : NonceStream) : State :=
  { s with sym := { s.sym with streams := s.sym.streams.filter (fun y => y.id != x.id) ++ [x] } }

/-- The 12 bytes of a nonce. -/
def State.nonceBytes (s : State) (id n : Nat) : Bytes := toBE 4 (s.vault.bootEpoch * 256 + id) ++ toBE 8 n

/-- Issues a nonce of a stream: at HI, HI + 65,536 is committed first; a failed write issues none. -/
def State.issueNonce (s : State) (id : Nat) (resvOk : Bool) : State × Option Bytes :=
  let x := s.nonceStream id
  if x.next < x.hi then (s.setNonceStream { x with next := x.next + 1 }, some (s.nonceBytes id x.next))
  else if !resvOk || !s.vaultUp then (((s.event F.SYM_EVT_RESV_FAIL).bump F.SYM_RESV_FAILS).reason .sym 0x0A1A, none)
  else
    let hi := x.hi + 65536
    let s1 := { s with vault := { s.vault with nonceHi := s.vault.nonceHi.filter (fun (y : Nat × Nat) => y.1 != id) ++ [(id, hi)] } }
    ((s1.bump F.SYM_RESV_WRITES).setNonceStream ⟨id, x.next + 1, hi⟩, some (s.nonceBytes id x.next))

/-! ## Responses (R241, Table 9-4) -/

/-- What a refusal or a failed check leaves behind: CTX_FULL, TAG_FAIL, or the refusal under R246 with the rotation mark. -/
def State.symNote (s : State) (reason key : Nat) : State :=
  if reason = 0x0A09 then s.event F.SYM_EVT_CTX_FULL
  else if reason = 0x0A06 then (s.event F.SYM_EVT_TAG_FAIL).bump F.SYM_CNT_TAG_FAIL
  else if reason = 0x0A07 then ((s.markRotate key).event F.SYM_EVT_NONCE_REFUSED).bump F.SYM_CNT_NONCE_REFUSED
  else s

/-! ## Placement and classes (R36, R237, R252) -/

/-- The queue that serves an operation: 0 AES, 2 SHA-512, 3 P-521, 5 DRBG, 0xFF the island itself. -/
def opQueue (op : Nat) : Nat :=
  if op ≤ 7 then 0 else if op = 0x10 then 2 else if 0x20 ≤ op && op ≤ 0x23 then 3 else if op = 0x30 then 5 else 0xFF

/-- The blocks queued on a pipeline. -/
def State.blocksQueued (s : State) (p : Nat) : Nat :=
  (s.sym.queue.filter (fun r => r.engine == p)).foldl (fun n r => n + (dAad r.desc + dLen r.desc + 15) / 16) 0

/-- Whether pipeline 0 or 1, the P-521 engine (2) or the SHA-512 engine (3) has failed. -/
def State.engineFailed (s : State) (n : Nat) : Bool := s.sym.failed.getD n false

/-- Whether a request writes its output to the release buffer of its pipeline (R247). -/
def buffered (d : Bytes) : Bool := (dOp d == 2 && (dMode d == 1 || dMode d == 2)) || dOp d == 7

/-- Whether the release buffer of a pipeline is taken or waited for. -/
def State.bufferBusy (s : State) (p : Nat) : Bool := s.sym.queue.any (fun r => r.engine == p && buffered r.desc)

/-- The engine that takes a request: the pipeline with fewer blocks queued, on a tie pipeline 0, and of two the one whose release buffer is
free where the request needs it (R247); a failed engine's firmware. -/
def State.placeOp (s : State) (d : Bytes) : Nat :=
  match opQueue (dOp d) with
  | 0 =>
    if s.engineFailed 0 then 1
    else if s.engineFailed 1 then 0
    else if buffered d && s.bufferBusy 0 != s.bufferBusy 1 then (if s.bufferBusy 0 then 1 else 0)
    else if s.blocksQueued 1 < s.blocksQueued 0 then 1 else 0
  | 2 => if s.engineFailed 3 then 4 else 2
  | 3 => if s.engineFailed 2 then 4 else 3
  | q => q

/-- Whether the queue that a request joins is full: 32 on a pipeline, 16, 8, 16. -/
def State.queueFull (s : State) (op engine : Nat) : Bool :=
  let n := (s.sym.queue.filter (fun r => r.engine == engine && opQueue (dOp r.desc) == opQueue op)).length
  match opQueue op with
  | 0 => decide (32 ≤ n) | 2 => decide (16 ≤ n) | 3 => decide (8 ≤ n) | 5 => decide (16 ≤ n) | _ => false

/-- The class of a request (Table 9-8). -/
def State.reqClass (s : State) (d : Bytes) (master : Nat) (keeper : Bool) : Nat :=
  if keeper && master == s.activeMaster && dFlag d 4 then 0
  else if dMode d = 5 && master = 8 then 2
  else if keeper then 1 else 3

/-- The AES blocks that a request runs in one chain: a CMAC and the CBC-MAC of a CCM, a block each; AES-KW, 6 for each 8 bytes (RFC 3394);
none in the parallel modes (R238). -/
def chainBlocks (d : Bytes) : Nat :=
  match dMode d with
  | 2 => (dAad d + 15) / 16 + (dLen d + 15) / 16
  | 3 => (dLen d + 15) / 16
  | 4 => 6 * (dLen d / 8)
  | _ => 0

/-- The segments that a request runs: 4 KiB of a parallel mode, 16 us of a chained mode (285 blocks; R252); a block of a hash (R253); a
P-521 operation from its start to its end (R255). -/
def segmentsOf (d : Bytes) : Nat :=
  match opQueue (dOp d) with
  | 0 => max 1 (if dMode d = 2 || dMode d = 3 || dMode d = 4 then (chainBlocks d + 284) / 285 else (dAad d + dLen d + 4095) / 4096)
  | 2 => max 1 ((dLen d + 127) / 128)
  | 3 => 2
  | _ => 1

/-- The pieces of 4 KiB in which the release buffer is copied to DST. -/
def copiesOf (d : Bytes) : Nat := if buffered d then (dLen d + 4095) / 4096 else 0

/-! ## A request (R240, R242) -/

/-- The refusal of a request before its descriptor is read: a failed island (R24), a world that its master does not carry (R22), SYM not
enabled. -/
def State.portRefusal (s : State) (master : Nat) (keeper : Bool) : Nat :=
  if s.islandFailed 8 then 0x0123
  else if keeper && !(masterWorld master).1 then 0x0121
  else if !keeper && !(masterWorld master).2 then 0x0122
  else if !s.enabled .sym then (if s.get F.SYM_REASON_REASON = 0 then 0x0131 else s.get F.SYM_REASON_REASON)
  else 0

/-- The context that a request saves before its first byte is processed. -/
def newCtx (d : Bytes) (master : Nat) (keeper : Bool) (nonce : Bytes) : Ctx :=
  ⟨master, keeper, dOp d, dMode d, dKey d, nonce, [], [], 0, none⟩

/-- A request arrives: it is refused at once, with the reason and the response, or joins the queue of its engine. Its checks are made again
before its first block, where its nonce is issued and its slot taken (R242). -/
def State.symSubmit (s : State) (master : Nat) (keeper : Bool) (d input : Bytes) (resvOk mailbox : Bool) :
    State × Option (Nat × Bytes) :=
  let port := s.portRefusal master keeper
  let chk := if port ≠ 0 then port else s.symCheck d master keeper mailbox
  let engine := s.placeOp d
  let code := if chk ≠ 0 then chk else if s.queueFull (dOp d) engine then 0x0A18 else 0
  if code ≠ 0 then
    let r := symResponse code 0xFF 0xFF 0 [] []
    let u := s.symNote code (dKey d)
    ({ u with sym := { u.sym with last := some ⟨master, keeper, r, []⟩ } }, some (code, r))
  else
    let r : SymReq := { desc := d, input := input, master := master, keeper := keeper, cls := s.reqClass d master keeper
                        arrival := s.sym.arrival, engine := engine, nonce := [], slot := 0xFF, mailbox := mailbox
                        left := segmentsOf d + copiesOf d, begun := false, key := [], written := 0, resvOk := resvOk }
    ({ s with sym := { s.sym with queue := s.sym.queue ++ [r], arrival := s.sym.arrival + 1 } }, none)

/-- A descriptor with OP replaced. -/
def withOp (op : Nat) (d : Bytes) : Bytes := toLE 1 op ++ d.drop 1

/-- A cipher request message of operation `op` from a master in a world (R240). -/
def symRequest (op : Nat) (master : Nat) (keeper : Bool) (desc input : Bytes) (resvOk : Bool) (s : State) : State :=
  (s.symSubmit master keeper (withOp op desc) input resvOk false).1

end Sys2Proof.Machine
end

