-- ==== Sys2Proof/Machine/CipherRun.lean ====
section
/-! DEFINITION. Chapter 9, third part: the engines at work: what each operation yields, the segments in which the requests of a queue run,
the copies to their destinations, the responses. -/
namespace Sys2Proof.Machine

open Sys2Proof

/-! ## Processing -/

/-- What processing yields: the state, REASON, output, tag. -/
abbrev SymOut := State × Nat × Bytes × Bytes

/-- The cipher text of a whole plain text. -/
def encBody (mode : Nat) (key nonce data : Bytes) : Bytes :=
  match mode with
  | 0 => Crypto.ctr key (nonce ++ zeros 4) data
  | 1 => Crypto.gcm key nonce data
  | 2 => Crypto.ccm key nonce data
  | _ => Crypto.xtsUnits true key (data.length / 4096) (leNat nonce) data

/-- The tag of an encrypt. -/
def encTag (mode : Nat) (key nonce aad data body : Bytes) (n : Nat) : Bytes :=
  match mode with
  | 1 => (Crypto.gcmTag key nonce aad body).take n
  | 2 => Crypto.ccmTag key nonce aad data n
  | _ => []

/-- What an encrypt part has put out when all its segments have passed. -/
def State.partOut (s : State) (r : SymReq) : Bytes :=
  let c := (s.ctx r.slot).getD (newCtx r.desc r.master r.keeper r.nonce)
  (encBody c.mode r.key c.nonce (c.data ++ reqData r.desc r.input)).drop c.out

/-- One part of an encrypt, MAC generate or hash over all that its slot has taken: the slot is kept, or freed by the last part. -/
def State.runPart (s : State) (r : SymReq) (key : Bytes) : SymOut :=
  let d := r.desc
  let c := match s.ctx r.slot with | some c => c | none => newCtx d r.master r.keeper r.nonce
  let c := { c with aad := c.aad ++ reqAad d r.input, data := c.data ++ reqData d r.input }
  let last := dFlag d 1
  let body := if dOp d = 1 then encBody c.mode key c.nonce c.data else []
  let part := body.drop c.out
  let s1 := if r.slot = 0xFF then s else if last then s.setCtx r.slot none else s.setCtx r.slot (some { c with out := body.length })
  if dOp d = 1 then (s1, 0, part, if last then encTag c.mode key c.nonce c.aad c.data body (dTag d) else [])
  else if dOp d = 3 then (s1, 0, [], if last then (Crypto.cmac key c.data).take (dTag d) else [])
  else (s1, 0, if last then Crypto.sha512 c.data else [], [])

/-- A decrypt: authenticated output leaves only after its tag has passed (R247). -/
def runDecrypt (d input key : Bytes) : Nat × Bytes :=
  let data := reqData d input
  let tag := padTo (dTag d) (reqTail d input)
  let nonce := (dIv d).take 12
  match dMode d with
  | 0 => (0, Crypto.ctr key (dIv d) data)
  | 1 => if (Crypto.gcmTag key nonce (reqAad d input) data).take (dTag d) = tag then (0, Crypto.gcm key nonce data) else (0x0A06, [])
  | 2 =>
    let p := Crypto.ccm key nonce data
    if Crypto.ccmTag key nonce (reqAad d input) p (dTag d) = tag then (0, p) else (0x0A06, [])
  | _ => (0, Crypto.xtsUnits false key (data.length / 4096) (leNat (dIv d)) data)

/-- Adds a key to the key store: a P-521 private key, or an ECDH secret that only derives (R254; log entry 51). -/
def State.storeKey (s : State) (kind attr : Nat) (key pub : Bytes) : State :=
  let rec0 : KeyRec := ⟨kind, if kind = 6 then 0x800 + s.sym.nextKey % 0x800 else s.sym.nextKey % 4096, 0, attr, key, pub⟩
  { s with sym := { s.sym with store := s.sym.store ++ [rec0], nextKey := s.sym.nextKey + 1 }
           keys := if kind = 8 then { s.keys with secrets := s.keys.secrets ++ [(handleOf rec0, s.mt)] } else s.keys }

/-- The attribute word of a key that the key store makes for a requester. -/
def storedAttr (master : Nat) (keeper : Bool) (usage : Nat) : Nat :=
  2 ^ (16 + master) + (if keeper then 0x8000 else 0x4000) + 0x3F00 + usage

/-- The 256 bytes of a context as an export gives them: the spec states no layout (log entry 52). -/
def State.ctxImage (s : State) : Bytes := padTo 256 (Config.ctxImage s.sym.exported)

/-- Context export: the slot goes out, in the clear to the keeper world, else wrapped, and is freed (R250, R251). -/
def State.runExport (s : State) (r : SymReq) : SymOut :=
  match s.ctx (dCtx r.desc) with
  | none => (s, 0x0A0A, [], [])
  | some c =>
    let img := s.ctxImage
    let serial := !r.keeper && c.nonced
    let c1 : Ctx := if serial then { c with serial := some s.sym.nextSerial } else c
    let s1 := { s with sym := { s.sym with
      exports := s.sym.exports ++ [(img, c1)], exported := s.sym.exported + 1
      serials := if serial then s.sym.serials ++ [s.sym.nextSerial] else s.sym.serials
      nextSerial := if serial then s.sym.nextSerial + 1 else s.sym.nextSerial } }
    let s2 := s1.setCtx (dCtx r.desc) none
    if r.keeper then (s2, 0, img, [])
    else
      let hdr := padTo 4 (Config.ctxHeader s.sym.exported)
      let ct := Crypto.gcm s.sym.ctxKey r.nonce img
      (s2, 0, hdr ++ r.nonce ++ ct ++ Crypto.gcmTag s.sym.ctxKey r.nonce hdr ct, [])

/-- Context import: a wrapped context must pass its tag under this start's key, and an encrypt's serial is consumed. -/
def State.runImport (s : State) (r : SymReq) : SymOut × Nat :=
  let data := reqData r.desc r.input
  let img : Option Bytes :=
    if r.keeper then some data
    else
      let nonce := slice data 4 12
      let ct := slice data 16 256
      if Crypto.gcmTag s.sym.ctxKey nonce (data.take 4) ct = slice data 272 16 then some (Crypto.gcm s.sym.ctxKey nonce ct) else none
  match img with
  | none => ((s, 0x0A0B, [], []), 0xFF)
  | some b =>
    match s.sym.exports.reverse.find? (fun x => x.1 == b), s.freeCtx r.keeper with
    | none, _ => ((s, 0x0A0B, [], []), 0xFF)
    | _, none => ((s, 0x0A09, [], []), 0xFF)
    | some (_, c), some n =>
      match c.serial with
      | none => ((s.setCtx n (some c), 0, [], []), n)
      | some k =>
        if s.sym.serials.contains k then
          (({ s with sym := { s.sym with serials := s.sym.serials.erase k } }.setCtx n (some { c with serial := none }), 0, [], []), n)
        else (({ s with sym := s.sym }.markRotate c.key, 0x0A07, [], []), 0xFF)

/-- The P-521 operations (R254). -/
def State.runP521 (s : State) (r : SymReq) (key : Bytes) : SymOut :=
  let d := r.desc
  let data := reqData d r.input
  match dOp d with
  | 0x20 =>
    let k := Crypto.privateKey (s.drawnPr 96)
    let pub := padTo 132 (Crypto.publicKey k)
    ((s.freshPr 96).storeKey 6 (storedAttr r.master r.keeper 0xA0) k pub, 0, pub, [])
  | 0x21 => let x := s.sign key data; (x.2, 0, x.1, [])
  | 0x22 =>
    let all := if dLen d = 64 then data ++ padTo 264 (reqTail d r.input) else data
    let pub := slice all 64 132
    if !Crypto.onCurve pub then (s, 0x0A0C, [], [])
    else if Crypto.ecdsaVerify pub (all.take 64) (slice all 196 132) then (s, 0, [], [])
    else (s, 0x0A06, [], [])
  | _ =>
    if !Crypto.onCurve data then (s, 0x0A0C, [], [])
    else (s.storeKey 8 (storedAttr r.master r.keeper 0x20) (Crypto.ecdh key data) [], 0, [], [])

/-- The result of a request whose segments have all run; the second component is the CTX of its response. -/
def State.symProcess (s : State) (r : SymReq) : SymOut × Nat :=
  let d := r.desc
  let op := dOp d
  let key := r.key
  let data := reqData d r.input
  if multiOk op then (s.runPart r key, if dFlag d 1 then 0xFF else r.slot)
  else match op with
    | 2 => let x := runDecrypt d r.input key; ((s, x.1, x.2, []), 0xFF)
    | 4 =>
      ((s, if (Crypto.cmac key data).take (dTag d) = padTo (dTag d) (reqTail d r.input) then 0 else 0x0A06, [], []), 0xFF)
    | 5 =>
      let h := dKey d
      let s1 := if h / 2 ^ 28 = 8 then
          { s with sym := { s.sym with store := s.sym.store.filter (fun x => handleOf x != h) }
                   keys := { s.keys with secrets := s.keys.secrets.filter (fun x => x.1 != h) } }
        else s
      ((s1, 0, Crypto.cmac key data, []), 0xFF)
    | 6 => ((s, 0, Crypto.kwWrap key data, []), 0xFF)
    | 7 => match Crypto.kwUnwrap key data with
      | some b => ((s, 0, b, []), 0xFF)
      | none => ((s, 0x0A06, [], []), 0xFF)
    | 0x30 =>
      ((s.generated (dLen d) (dFlag d 3), 0, if dFlag d 3 then s.drawnPr (dLen d) else s.drawn (dLen d), []), 0xFF)
    | 0x40 => (s.runExport r, 0xFF)
    | 0x41 => s.runImport r
    | 0x42 => ((s.setCtx (dCtx d) none, 0, [], []), 0xFF)
    | _ => (s.runP521 r key, 0xFF)

/-! ## What has passed (R241, R247, R260) -/

/-- Segments and copies of a request that are done. -/
def SymReq.done (r : SymReq) : Nat := segmentsOf r.desc + copiesOf r.desc - r.left

/-- The bytes of output that may stand in DST: of an encrypt or a decrypt without a tag those whose segments have passed (the additional data
run first), of a buffered output those copied; of every other operation none before its end. -/
def SymReq.passed (r : SymReq) : Nat :=
  let d := r.desc
  if buffered d then 4096 * (r.done - segmentsOf d)
  else if dOp d = 1 || dOp d = 2 then (if dMode d = 2 then 4560 else 4096) * r.done - dAad d
  else 0

/-- The output of which these bytes are the first ones. -/
def State.outputOf (s : State) (r : SymReq) : Bytes :=
  match dOp r.desc with
  | 1 => s.partOut r
  | 2 => (runDecrypt r.desc r.input r.key).2
  | 7 => (Crypto.kwUnwrap r.key (reqData r.desc r.input)).getD []
  | _ => []

/-- Whether a buffered output has failed its check: all its segments have run (R247). -/
def SymReq.failed (r : SymReq) : Bool :=
  buffered r.desc && r.left == copiesOf r.desc
    && (if dOp r.desc = 7 then (Crypto.kwUnwrap r.key (reqData r.desc r.input)).isNone
        else (runDecrypt r.desc r.input r.key).1 != 0)

/-! ## Which request runs (R247, R252, R255) -/

/-- The slot that a request names or has taken. -/
def SymReq.names (r : SymReq) : Option Nat :=
  if r.slot ≠ 0xFF then some r.slot
  else if dOp r.desc = 0x40 || dOp r.desc = 0x42 || (multiOk (dOp r.desc) && !dFlag r.desc 0) then some (dCtx r.desc)
  else none

/-- Whether a request has to wait: for the release buffer of its pipeline (R247), or for an earlier request on its slot (log entry 165). -/
def State.waitsFor (s : State) (r : SymReq) : Bool :=
  s.sym.queue.any (fun x =>
    (x.engine == r.engine && buffered r.desc && !r.begun && buffered x.desc && x.begun)
      || (x.arrival < r.arrival && r.names.isSome && x.names == r.names))

/-- Whether request `a` is served before `b`. -/
def reqBefore (a b : SymReq) : Bool := a.cls < b.cls || (a.cls == b.cls && a.arrival < b.arrival)

/-- The request served next among some. -/
def bestReq : List SymReq → Option SymReq
  | [] => none
  | r :: rs => match bestReq rs with
    | none => some r
    | some b => if reqBefore b r then some b else some r

/-- The requests of an engine that can run. -/
def State.ready (s : State) (e : Nat) : List SymReq := s.sym.queue.filter (fun r => r.engine == e && !s.waitsFor r)

/-- Segments of higher classes that have run on a pipeline while each class waited. -/
def State.waitedOn (s : State) (e : Nat) : List Nat := s.sym.waited.getD e [0, 0, 0, 0]

/-- The request whose segment an engine runs next. A P-521 operation in progress is not preempted (R255); on a pipeline a class that has
waited while 64 segments of higher classes ran comes first (R252). -/
def State.pickOn (s : State) (e : Nat) : Option SymReq :=
  let mine := s.ready e
  match mine.find? (fun r => r.begun && opQueue (dOp r.desc) == 3) with
  | some r => some r
  | none =>
    match (if e ≤ 1 then [1, 2, 3].find? (fun c => decide (64 ≤ (s.waitedOn e).getD c 0) && mine.any (fun r => r.cls == c)) else none) with
    | some c => bestReq (mine.filter (fun r => r.cls == c))
    | none => bestReq mine

/-- Counts a segment of a class on a pipeline. -/
def State.countSegment (s : State) (e cls : Nat) : State :=
  if 1 < e then s
  else
    let mine := s.ready e
    let w := s.waitedOn e
    { s with sym := { s.sym with waited := s.sym.waited.set e ((List.range 4).map (fun c =>
      if c = cls then 0 else if cls < c && mine.any (fun x => x.cls == c) then w.getD c 0 + 1 else w.getD c 0)) } }

/-! ## A request from its first block to its response (R241, R242) -/

/-- Puts a request of the queue in place of the one that has its arrival number; takes one out. -/
def State.putReq (s : State) (r : SymReq) : State :=
  { s with sym := { s.sym with queue := s.sym.queue.map (fun x => if x.arrival = r.arrival then r else x) } }
def State.dropReq (s : State) (r : SymReq) : State :=
  { s with sym := { s.sym with queue := s.sym.queue.filter (fun x => x.arrival != r.arrival) } }

/-- The key of a request; none where it names none. -/
def State.reqKey (s : State) (d : Bytes) : Bytes :=
  if needsKey (dOp d) then (match s.symKey (dKey d) with | .ok k => k.2 | .error _ => []) else []

/-- A request begins: the checks of Table 9-5 hold still, its nonce is issued, its slot taken, its key scheduled. Answers the refusal, 0 for
none. -/
def State.beginReq (s : State) (r : SymReq) : State × Nat × SymReq :=
  let d := r.desc
  let op := dOp d
  let chk := s.symCheck d r.master r.keeper r.mailbox
  if chk ≠ 0 then (s, chk, r)
  else
    let wants := (op = 1 && dMode d ≤ 2 && dFlag d 0) || (op = 0x40 && !r.keeper)
    match (if wants then s.issueNonce (if op = 0x40 then 0xF0 else streamOf r.master r.keeper) r.resvOk else (s, some [])) with
    | (s1, none) => (s1, 0x0A07, r)
    | (s1, some n) =>
      let nonce := if op = 1 && dMode d = 5 then dIv d else n
      let multi := multiOk op && !dSingle d
      let slot := if !multi then 0xFF else if dFlag d 0 then (s1.freeCtx r.keeper).getD 0xFF else dCtx d
      let s2 := if multi && dFlag d 0 then s1.setCtx slot (some (newCtx d r.master r.keeper nonce)) else s1
      (s2, 0, { r with begun := true, nonce := nonce, slot := slot, key := s.reqKey d })

/-- A request ends with a refusal. -/
def State.refuseReq (s : State) (r : SymReq) (code : Nat) : State :=
  ((s.dropReq r).symNote code (dKey r.desc)).symRespond r.master r.keeper r.mailbox code (symResponse code 0xFF 0xFF 0 [] []) []

/-- The nonce of a response: the one issued to an encrypt (R245). -/
def State.sentNonce (s : State) (r : SymReq) : Bytes :=
  if dOp r.desc = 1 && dMode r.desc ≤ 2 then
    (if dFlag r.desc 0 then r.nonce else match s.ctx r.slot with | some c => c.nonce | none => [])
  else []

/-- A request ends: its result, the rest of its output in DST, its response (R241). -/
def State.finishReq (s : State) (r : SymReq) : State :=
  let x := (s.dropReq r).symProcess r
  let code := x.1.2.1
  let out := if code = 0 then x.1.2.2.1 else []
  let resp := symResponse code r.engine (if code = 0 then x.2 else 0xFF) out.length (if code = 0 then s.sentNonce r else [])
    (if code = 0 then x.1.2.2.2 else [])
  let s2 := x.1.1.symNote (if code = 0x0A07 then 0 else code) 0
  let s3 := if code = 0x0A07 then (s2.event F.SYM_EVT_NONCE_REFUSED).bump F.SYM_CNT_NONCE_REFUSED else s2
  (s3.putDst r.desc r.written (out.drop r.written)).symRespond r.master r.keeper r.mailbox code resp out

/-- A segment of a request has passed: its output goes on to DST, and the last one ends the request. -/
def State.segmentDone (s : State) (r : SymReq) : State :=
  let r1 := { r with left := r.left - 1 }
  if r1.left = 0 || r1.failed then s.finishReq r1
  else
    let n := min r1.passed (s.outputOf r1).length
    let s1 := if r1.written < n then s.putDst r1.desc r1.written (((s.outputOf r1).take n).drop r1.written) else s
    s1.putReq { r1 with written := max r1.written n }

/-- One segment on an engine. -/
def State.turn (s : State) (e : Nat) : State :=
  match s.pickOn e with
  | none => s
  | some r =>
    let s0 := s.countSegment e r.cls
    if r.begun then s0.segmentDone r
    else
      let b := s0.beginReq r
      if b.2.1 ≠ 0 then b.1.refuseReq r b.2.1 else b.1.segmentDone b.2.2

/-- Segments in a row on an engine. -/
def State.turns (e : Nat) : Nat → State → State
  | 0, s => s
  | n + 1, s => State.turns e n (s.turn e)

/-- The engine code that requests carry: the context store has none. -/
def engineCode (e : Fin 7) : Nat := if e.val = 6 then 0xFF else e.val

/-- CIPHER_RESPONSE: the engines run segments in the order given, and the requests that complete are answered (R241, R252). -/
def cipherResponse (turns : List (Fin 7 × Nat)) (s : State) : State :=
  turns.foldl (fun t x => State.turns (engineCode x.1) x.2 t) s

/-- CIPHER_RESPONSE. Where no turns are given the engines have run nothing. -/
def execCipherResponse (s : State) (turns : List (Fin 7 × Nat) := []) : Out := .next (cipherResponse turns s)

end Sys2Proof.Machine
end

