-- ==== Sys2Proof/Machine/CipherIsland.lean ====
section
/-! DEFINITION. Chapter 9, fourth part: the rows of the cipher island, its faults, the entropy source and the DRBG, the SYM enable. -/
namespace Sys2Proof.Machine

open Sys2Proof

/-! ## The rows -/

/-- ENCRYPT. -/
def execEncrypt (master : BitVec 4) (keeper : Bool) (desc input : Bytes) (resvOk : Bool) (s : State) : Out :=
  .next (symRequest 0x01 master.toNat keeper desc input resvOk s)

/-- DECRYPT. -/
def execDecrypt (master : BitVec 4) (keeper : Bool) (desc input : Bytes) (s : State) : Out :=
  .next (symRequest 0x02 master.toNat keeper desc input true s)

/-- MAC_GENERATE. -/
def execMacGenerate (master : BitVec 4) (keeper : Bool) (desc input : Bytes) (s : State) : Out :=
  .next (symRequest 0x03 master.toNat keeper desc input true s)

/-- MAC_VERIFY. -/
def execMacVerify (master : BitVec 4) (keeper : Bool) (desc input : Bytes) (s : State) : Out :=
  .next (symRequest 0x04 master.toNat keeper desc input true s)

/-- DERIVE. -/
def execDerive (master : BitVec 4) (keeper : Bool) (desc input : Bytes) (s : State) : Out :=
  .next (symRequest 0x05 master.toNat keeper desc input true s)

/-- WRAP. -/
def execWrap (master : BitVec 4) (keeper : Bool) (desc input : Bytes) (s : State) : Out :=
  .next (symRequest 0x06 master.toNat keeper desc input true s)

/-- UNWRAP. -/
def execUnwrap (master : BitVec 4) (keeper : Bool) (desc input : Bytes) (s : State) : Out :=
  .next (symRequest 0x07 master.toNat keeper desc input true s)

/-- HASH. -/
def execHash (master : BitVec 4) (keeper : Bool) (desc input : Bytes) (s : State) : Out :=
  .next (symRequest 0x10 master.toNat keeper desc input true s)

/-- KEY_PAIR_GENERATE. -/
def execKeyPairGenerate (master : BitVec 4) (keeper : Bool) (desc input : Bytes) (s : State) : Out :=
  .next (symRequest 0x20 master.toNat keeper desc input true s)

/-- SIGN. -/
def execSign (master : BitVec 4) (keeper : Bool) (desc input : Bytes) (s : State) : Out :=
  .next (symRequest 0x21 master.toNat keeper desc input true s)

/-- SIGNATURE_VERIFY. -/
def execSignatureVerify (master : BitVec 4) (keeper : Bool) (desc input : Bytes) (s : State) : Out :=
  .next (symRequest 0x22 master.toNat keeper desc input true s)

/-- ECDH. -/
def execEcdh (master : BitVec 4) (keeper : Bool) (desc input : Bytes) (s : State) : Out :=
  .next (symRequest 0x23 master.toNat keeper desc input true s)

/-- RANDOM. -/
def execRandom (master : BitVec 4) (keeper : Bool) (desc input : Bytes) (s : State) : Out :=
  .next (symRequest 0x30 master.toNat keeper desc input true s)

/-- CONTEXT_EXPORT. -/
def execContextExport (master : BitVec 4) (keeper : Bool) (desc input : Bytes) (resvOk : Bool) (s : State) : Out :=
  .next (symRequest 0x40 master.toNat keeper desc input resvOk s)

/-- CONTEXT_IMPORT. -/
def execContextImport (master : BitVec 4) (keeper : Bool) (desc input : Bytes) (s : State) : Out :=
  .next (symRequest 0x41 master.toNat keeper desc input true s)

/-- CONTEXT_FREE. -/
def execContextFree (master : BitVec 4) (keeper : Bool) (desc input : Bytes) (s : State) : Out :=
  .next (symRequest 0x42 master.toNat keeper desc input true s)

/-- The cipher command: a descriptor as master 0x4 in the service world; its answer is the response, then the output. -/
def cipherOp (input : Bytes) (resvOk : Bool) (s : State) : MbRes :=
  let d := input.take 64
  let src := input.drop 64
  if input.length < 64 || (descValid d true && src.length ≠ srcLen d) then mbRefuse s 0x100C
  else match s.symSubmit 4 false d src resvOk true with
    | (t, some (code, resp)) => (t, code, resp)
    | (t, none) => (t, mbDeferred, [])

/-- CIPHER. -/
def execCipher (input : Bytes) (env : Env) (s : State) : Out :=
  .next (mailboxCommand 0x0A01 input (cipherOp input env.commitOk) s)

/-! ## Faults (R260) -/

/-- The fault count of a pipeline within 24 h of MT. -/
def State.pipeFaults (s : State) (p : Nat) : List Nat := (s.sym.faults.getD p []).filter (fun t => s.mt < t + 86400000000)

/-- Moves the requests of one engine to another. -/
def State.moveQueue (s : State) (f : SymReq → Bool) (engine : Nat) : State :=
  { s with sym := { s.sym with queue := s.sym.queue.map (fun r => if f r then { r with engine := engine } else r) } }

/-- The segment that runs on a pipeline is discarded and reruns on the other, if that one has not failed: its request goes on there from the
same point, with the same key, nonce and counter (R260). -/
def State.rerunSegment (s : State) (p : Nat) : State :=
  match s.pickOn p with
  | some r => if s.engineFailed (1 - p) then s else s.putReq { r with engine := 1 - p }
  | none => s

/-- A pipeline is marked failed with 0x0A10. -/
def State.failPipe (s : State) (p : Nat) : State :=
  let s1 := { s with sym := { s.sym with failed := s.sym.failed.set p true } }
  let s2 := ((s1.putFlag (F.SYM_PIPEn_STAT_FAILED p) true).putFlag (F.SYM_PIPEn_STAT_UP p) false).putFlag
    (if p = 0 then F.SYM_STAT_PIPE0_OK else F.SYM_STAT_PIPE1_OK) false
  ((s2.event F.SYM_EVT_ENGINE_FAILED).reason .sym 0x0A10).redLoss 2

/-- PIPELINE_FAULT: the segment reruns on the other pipeline; the third fault within 24 h fails the pipeline; the second failed
pipeline takes SYM down. -/
def pipelineFault (p : Nat) (s : State) : State :=
  if !s.enabled .sym || s.engineFailed p then s
  else
    let times := s.pipeFaults p ++ [s.mt]
    let s1 := { s with sym := { s.sym with faults := s.sym.faults.set p times } }
    let s2 := (((s1.rerunSegment p).event F.SYM_EVT_PIPE_FAULT).bump F.SYM_CNT_PIPE_FAULT).reason .sym 0x0A0F
    let s3 := s2.journal 0x0A01 0x0A0F .sym 0 (toLE 1 p)
    if times.length < 3 then s3
    else
      let s6 := (s3.failPipe p).moveQueue (fun r => r.engine == p) (1 - p)
      if s6.engineFailed (1 - p) then (s6.symAbort (fun r => r.engine ≤ 1) 0x0A11).goDown .sym 0x0A11 else s6

/-- PIPELINE_FAULT. -/
def execPipelineFault (pipe : Fin 2) (s : State) : Out := .next (pipelineFault pipe.val s)

/-- The SHA-512 or the P-521 engine is marked failed, and the firmware takes over (R237). -/
def State.failEngine (s : State) (sha : Bool) : State :=
  let s1 := { s with sym := { s.sym with failed := s.sym.failed.set (if sha then 3 else 2) true } }
  let s2 := (s1.event F.SYM_EVT_ENGINE_FAILED).reason .sym (if sha then 0x0A13 else 0x0A12)
  let s3 := if sha then ((s2.putFlag F.SYM_STAT_SHA_OK false).putFlag F.SYM_STAT_SHA_FB true).redLoss 15
    else ((s2.putFlag F.SYM_STAT_PK_OK false).putFlag F.SYM_STAT_PK_FB true).redLoss 3
  s3.moveQueue (fun r => r.engine == (if sha then 2 else 3)) 4

/-- ENGINE_FAULT: the SHA-512 or the P-521 engine fails on its first fault, the pairwise test after READY among them (R259, R260). -/
def engineFault (sha : Bool) (s : State) : State :=
  if !s.enabled .sym || s.engineFailed (if sha then 3 else 2) then s else s.failEngine sha

/-- ENGINE_FAULT. -/
def execEngineFault (sha : Bool) (s : State) : Out := .next (engineFault sha s)

/-! ## The entropy source and the DRBG (R256 to R258) -/

/-- The source is marked failed. -/
def State.entropyFail (s : State) : State :=
  let s1 := { s with sym := { s.sym with retryMt := s.mt, batches := 0 } }
  (((s1.putFlag F.SYM_ENT_FAILED true).putFlag F.SYM_STAT_ENT_OK false).event F.SYM_EVT_ENT_FAILED).redLoss 16

/-- The repetition count over samples: the last sample, how often it has come in a row, and whether 41 in a row have come. -/
def repetition : List Bool → Option Bool → Nat → Bool → Option Bool × Nat × Bool
  | [], last, run, bad => (last, run, bad)
  | b :: l, last, run, bad =>
    let n := if last = some b then run + 1 else 1
    repetition l (some b) n (bad || decide (41 ≤ n))

/-- The adaptive proportion of a window: its first sample comes 840 times or more. -/
def proportion (l : List Bool) : Bool :=
  match l with
  | [] => false
  | b :: _ => decide (840 ≤ (l.filter (fun x => x == b)).length)

/-- Samples as bytes, the first one the most significant bit; the count bounds the bytes. -/
def sampleBytes : Nat → List Bool → Bytes
  | 0, _ => []
  | n + 1, l => byte ((l.take 8).foldl (fun v b => 2 * v + bit b) 0) :: sampleBytes n (l.drop 8)

/-- The seed that passing samples give: an AES-256 CBC-MAC for each half (R256, log entry 164). -/
def conditioned (l : List Bool) : Bytes :=
  let b := Crypto.blocksOf (sampleBytes 128 l)
  Crypto.cbcMac (Crypto.roundKeys (padTo 32 (Config.entropyKey 0))) b (zeros 16)
    ++ Crypto.cbcMac (Crypto.roundKeys (padTo 32 (Config.entropyKey 1))) b (zeros 16)

/-- No batch has passed for 1 s. -/
def State.entropyLate (s : State) : Bool := decide (s.sym.passMt + 1000000 ≤ s.mt)

/-- ENTROPY_BATCH: 1024 samples under the health tests; a passing batch gives a seed, the first one after the start discarded; a failing one
is discarded. 3 failed in a row, or no pass for 1 s, fail the source. -/
def entropyBatch (samples : List Bool) (s : State) : State :=
  if !s.enabled .sym || s.entropyFailed then s
  else if samples.isEmpty then (if s.entropyLate then s.entropyFail else s)
  else
    let (last, run, rct) := repetition samples s.sym.rctLast s.sym.rctRun false
    let apt := proportion samples
    let s0 := { s with sym := { s.sym with rctLast := last, rctRun := run } }
    if !rct && !apt then
      { s0 with sym := { s0.sym with
        batches := 0, passMt := s.mt, firstSeed := true, seed := if s.sym.firstSeed then some (conditioned samples) else s.sym.seed } }
    else
      let s1 := { s0 with sym := { s0.sym with batches := s.sym.batches + 1 } }
      let s2 := if rct then s1.bump F.SYM_ENT_RCT_FAIL else s1
      let s3 := if apt then s2.bump F.SYM_ENT_APT_FAIL else s2
      let s4 := (s3.event F.SYM_EVT_ENT_HEALTH).reason .sym 0x0A0E
      if 3 ≤ s.sym.batches + 1 || s.entropyLate then s4.entropyFail else s4

/-- ENTROPY_BATCH. -/
def execEntropyBatch (samples : List Bool) (s : State) : Out := .next (entropyBatch samples s)

/-- A retry of a failed source: a passing batch puts it into use again. -/
def State.entropyRetried (s : State) (ok : Bool) : State :=
  if !s.enabled .sym || !s.entropyFailed then s
  else if !ok then { s with sym := { s.sym with retryMt := s.mt } }
  else
    let s1 := { s with sym := { s.sym with batches := 0, passMt := s.mt, retryMt := s.mt } }
    ((s1.putFlag F.SYM_ENT_FAILED false).putFlag F.SYM_STAT_ENT_OK true).redClear 16

/-- ENTROPY_RETRY: 60 s of MT after the failure or the last retry. -/
def execEntropyRetry (ok : Bool) (s : State) : Out :=
  .next (if s.sym.retryMt + 60000000 ≤ s.mt then s.entropyRetried ok else s)

/-- ENT_RETRY. -/
def execEntRetry (ok : Bool) (s : State) : Out := .next (s.entropyRetried ok)

/-- DRBG_RESEED: 10 s of MT awake since the last reseed; skipped while the source is failed. -/
def drbgReseed (s : State) : State :=
  if !s.flag F.SYM_STAT_DRBG_OK || s.entropyFailed || s.island 8 ≠ 2 || s.mt < s.sym.seedMt + 10000000 then s
  else
    let g := Crypto.drbgReseed s.drbg s.seedNow
    ({ s with draws := s.draws + 1
              sym := { s.sym with seedMt := s.mt, seed := none, drbgKey := g.1, drbgV := g.2 } }).setReg R.SYM_DRBG 0

/-- DRBG_RESEED. -/
def execDrbgReseed (s : State) : Out := .next (drbgReseed s)

/-! ## Enable, tamper and takeover -/

/-- The self-tests of the SYM enable: what fails is marked failed and its fallback takes over; a failed entropy start-up test fails the
source. What has failed stays failed until the next cold start (R259, R260). -/
def State.symSelfTest (s : State) (x : SymTest) : State :=
  let s1 := if x.pipe0 || s.engineFailed 0 then s else s.failPipe 0
  let s2 := if x.pipe1 || s1.engineFailed 1 then s1 else s1.failPipe 1
  let s3 := if x.sha || s2.engineFailed 3 then s2 else s2.failEngine true
  let s4 := if x.entropy || s3.entropyFailed then s3 else s3.entropyFail
  { s4 with sym := { s4.sym with drbgBad := s4.sym.drbgBad || !x.drbg } }

/-- What the SYM enable brings: the engines in use after their self-tests; at the first one after a cold start the DRBG instantiated (its
nonce is the model's choice, log entry 164) and a new context key drawn (R250). The first seed is discarded (R256). -/
def State.symEnabled (s : State) : State :=
  let up := fun (t : State) (p : Nat) => if t.engineFailed p then t else t.putFlag (F.SYM_PIPEn_STAT_UP p) true
  let s1 := up (up s 0) 1
  let s2 := (s1.putFlag F.SYM_STAT_PIPE0_OK (!s.engineFailed 0)).putFlag F.SYM_STAT_PIPE1_OK (!s.engineFailed 1)
  let s3 := (s2.putFlag F.SYM_STAT_PK_OK (!s.engineFailed 2)).putFlag F.SYM_STAT_SHA_OK (!s.engineFailed 3)
  let s4 := (s3.putFlag F.SYM_STAT_DRBG_OK true).putFlag F.SYM_STAT_ENT_OK (!s.entropyFailed)
  if s.sym.ctxKey.isEmpty then
    let g := Crypto.drbgInstantiate (Config.entropy (s.draws + 1)) ((Config.entropy (s.draws + 2)).take 16)
    let s5 := ({ s4 with
      draws := s4.draws + 3
      sym := { s4.sym with drbgKey := g.1, drbgV := g.2, seedMt := s4.mt, seed := none, passMt := s4.mt, firstSeed := true } }).setReg R.SYM_DRBG 0
    let s6 := s5.freshPr 32
    { s6 with sym := { s6.sym with ctxKey := s5.drawnPr 32 } }
  else s4

/-- SYM_STAT and SYM_PIPEn_STAT: slots in use, serials, the faults of a pipeline within 24 h and the requests in its queue (32 where a failed
pipeline's requests make it longer, log entry 166). -/
def State.symView (s : State) (off : Nat) : Option Nat :=
  if off = 0x8008 then
    some (((s.put F.SYM_STAT_CTX_USED (s.sym.ctx.filter Option.isSome).length).put F.SYM_STAT_SERIALS s.sym.serials.length).reg off)
  else if off = 0x8040 || off = 0x8044 then
    let p := (off - 0x8040) / 4
    let n := (s.sym.queue.filter (fun r => r.engine == p)).length
    some (((s.put (F.SYM_PIPEn_STAT_FAULTS p) (min 3 (s.pipeFaults p).length)).put (F.SYM_PIPEn_STAT_QUEUE p) (min 32 n)).reg off)
  else none

end Sys2Proof.Machine
end

