-- ==== Sys2Proof/Machine/Sweep.lean ====
section
/-! DEFINITION. The phase sweep of an exchange as its tile computes it (R186, R187, R193, R195): the phases of the two sides, the chain
calibration, the delay profile and the phase distance, the azimuth of each tone. -/
namespace Sys2Proof.Machine

open Sys2Proof

/-! ## Angles -/

/-- The series of the arc tangent. -/
def atanSum : Nat → Nat → Int → Int → Int
  | 0, _, _, _ => 0
  | n + 1, k, x2, p => p / (k : Int) - atanSum n (k + 2) x2 (fixMul p x2)

/-- A quarter of the angle whose tangent is `t`, 0 to 1, as its tangent, by halving twice. -/
def quarterTan (t : Rat) : Rat :=
  let h := fun (x : Rat) => x / (1 + sqrtRat (1 + x * x))
  h (h t)

/-- The arc tangent of 0 to 1 in degrees. -/
def atanDeg (t : Rat) : Rat :=
  let y := toFix (quarterTan t)
  720 * ofFix (atanSum 24 1 (fixMul y y) y) / ofFix fixPi

/-- The argument of a complex number in degrees, 0 for 0. -/
def argDeg (x y : Rat) : Rat :=
  let a := |x|
  let b := |y|
  if a = 0 ∧ b = 0 then 0
  else
    let first := if b ≤ a then atanDeg (b / a) else 90 - atanDeg (a / b)
    let half := if x < 0 then 180 - first else first
    if y < 0 then -half else half

/-- Degrees brought to -180 (excluded) to 180. -/
def wrapDeg (d : Rat) : Rat := d - 360 * ((d - 180) / 360).ceil

/-! ## Sorting and medians -/

/-- Inserts a number into an ascending list. -/
def insertRat (x : Rat) : List Rat → List Rat
  | [] => [x]
  | y :: ys => if x ≤ y then x :: y :: ys else y :: insertRat x ys

/-- The median, 0 of nothing; of an even number the mean of the middle two. -/
def medianRat (l : List Rat) : Rat :=
  let m := l.foldr insertRat []
  let n := m.length
  if n = 0 then 0 else if n % 2 = 1 then m.getD (n / 2) 0 else (m.getD (n / 2 - 1) 0 + m.getD (n / 2) 0) / 2

/-! ## The phases of a sweep (R186, R187, R193) -/

/-- The frequency of tone `k` in MHz. -/
def toneMhz (k : Nat) : Rat := ((2404 + k : Nat) : Rat)

/-- A value between the 9 points from 2404 MHz to 2475 MHz, in 0.01 degree, interpolated linearly; in degrees. -/
def calAt (points : List Int) (f : Rat) : Rat :=
  let u := (f - 2404) * 8 / 71
  let i := min 7 u.floor.toNat
  let a : Rat := (points.getD i 0 : Int)
  let b : Rat := (points.getD (i + 1) 0 : Int)
  (a + (b - a) * (u - (i : Nat))) / 100

/-- The Untur's correlation of tone `k` on chain `n`: I and Q of the capture, little-endian (R204). -/
def toneIQ (raw : Bytes) (k n : Nat) : Rat × Rat :=
  let at_ := 8 * (4 * k + n)
  ((signed 32 (le raw at_ 4) : Int), (signed 32 (le raw (at_ + 4) 4) : Int))

/-- The phase of the Untur's side: the argument of the mean baseband, less the term 2 pi f eps 7.0 us of the token's carrier offset, given in
10^-9 (R187). -/
def untPhase (raw : Bytes) (offset : Int) (k n : Nat) : Rat :=
  let z := toneIQ raw k n
  argDeg z.1 z.2 - 360 * toneMhz k * ((offset : Rat) / 1000000000) * 7

/-- The phase and the level in dBm that the token reports of tone `k` (Table 7-2). -/
def tokPhase (srep : Bytes) (k : Nat) : Rat := ((be srep (2 + 2 * k) 2 / 128 : Nat) : Rat) * 360 / 512
def tokLevel (srep : Bytes) (k : Nat) : Int := ((be srep (2 + 2 * k) 2 % 128 : Nat) : Int) - 110

/-- The two-way phase of tone `k` on chain `n` (R193 step 1). -/
def twoWay (srep raw : Bytes) (offset : Int) (points : List (List Int)) (k n : Nat) : Rat :=
  tokPhase srep k + untPhase raw offset k n - calAt (points.getD n []) (toneMhz k)

/-- The two-way response of tone `k`: the phase, and the product of the 2 measured levels as its size (step 2). -/
def response (srep raw : Bytes) (offset : Int) (points : List (List Int)) (k n : Nat) : Rat × Rat :=
  let z := toneIQ raw k n
  let size := pow10 ((tokLevel srep k : Rat) / 20) * sqrtRat (z.1 * z.1 + z.2 * z.2)
  let psi := twoWay srep raw offset points k n
  (size * cosDeg psi, size * sinDeg psi)

/-- The delay profile at `m` of 2048: the sum of the responses turned back by `m` x 360 / 2048 degrees a MHz. -/
def profileAt (h : List (Rat × Rat)) (m : Nat) : Rat × Rat :=
  ((List.range h.length).zip h).foldl (fun (s : Rat × Rat) (p : Nat × (Rat × Rat)) =>
    let a : Rat := -(((m * p.1 % 2048 : Nat) : Rat) * 360 / 2048)
    let c := cosDeg a
    let d := sinDeg a
    (s.1 + p.2.1 * c - p.2.2 * d, s.2 + p.2.1 * d + p.2.2 * c)) (0, 0)

/-- The power of a complex number. -/
def power (z : Rat × Rat) : Rat := z.1 * z.1 + z.2 * z.2

/-- The earliest peak within 10 dB of the strongest (step 3): its place in the profile. -/
def firstPeak (p : List Rat) : Nat :=
  let n := p.length
  let top := p.foldl max 0
  ((List.range n).find? (fun i =>
    let x := p.getD i 0
    decide (top ≤ 10 * x) && decide (p.getD ((i + n - 1) % n) 0 ≤ x) && decide (p.getD ((i + 1) % n) 0 ≤ x))).getD 0

/-- The slope in degrees per MHz of a least-squares line through values at 0, 1, 2, ... MHz. -/
def lineSlope (ys : List Rat) : Rat :=
  let n : Rat := (ys.length : Nat)
  let mid := (n - 1) / 2
  let num := ((List.range ys.length).zip ys).foldl (fun (s : Rat) (p : Nat × Rat) => s + (((p.1 : Nat) : Rat) - mid) * p.2) 0
  let den := (List.range ys.length).foldl (fun (s : Rat) (k : Nat) => s + (((k : Nat) : Rat) - mid) * (((k : Nat) : Rat) - mid)) 0
  if den = 0 then 0 else num / den

/-- The fitted slope of one chain: that of the peak, refined by the line through what it leaves of the phases (steps 3, 4). -/
def chainSlope (srep raw : Bytes) (offset : Int) (points : List (List Int)) (n : Nat) : Rat :=
  let h := (List.range 72).map (fun k => response srep raw offset points k n)
  let prof := (List.range 2048).map (fun m => profileAt h m)
  let m := firstPeak (prof.map power)
  let coarse : Rat := ((m : Nat) : Rat) * 360 / 2048
  let z := prof.getD m (0, 0)
  let base := argDeg z.1 z.2
  coarse + lineSlope ((List.range 72).map (fun k => wrapDeg (twoWay srep raw offset points k n - base - coarse * ((k : Nat) : Rat))))

/-! ## What the sweep yields -/

/-- The results of a sweep: D_P in mm, the median SNR in dB, the azimuth in 0.01 degree with the spread of its per-tone estimates in degrees
rms, none without one. -/
structure Phases where
  dp     : Rat
  snr    : Nat
  theta  : Int
  spread : Option Rat
  deriving DecidableEq, Repr

/-- The per-tone SNR of a chain. -/
def snrOf (d : Dsp) (k n : Nat) : Rat := (((d.snr.getD k []).getD n 0 : Int) : Rat)

/-- The chains of a mask. -/
def chainList (mask : Nat) : List Nat := [0, 1, 2, 3].filter (Nat.testBit mask)

/-- The weight of a chain: its median SNR as a power ratio (step 5; log entry 161). -/
def chainWeight (d : Dsp) (n : Nat) : Rat := pow10 (medianRat ((List.range 72).map (fun k => snrOf d k n)) / 10)

/-- D_P in mm: 0.416378 m times the slope, the chains weighted by their SNR (steps 4, 5). -/
def phaseDistance (chains : List Nat) (slope weight : Nat → Rat) : Rat :=
  let w := chains.foldl (fun (s : Rat) n => s + weight n) 0
  if w = 0 then 0 else 416378 / 1000 * (chains.foldl (fun (s : Rat) n => s + weight n * slope n) 0 / w)

/-- The azimuth of the tones whose SNR suffices, and the spread of the estimates of single tones (R195). -/
def azimuthOf (ests : List Int) : Int × Option Rat :=
  if ests.isEmpty then (0, none)
  else
    let n : Rat := ((ests.length : Nat) : Rat)
    let mean := ests.foldl (fun (s : Rat) e => s + (e : Rat)) 0 / n
    let var := ests.foldl (fun (s : Rat) e => s + ((e : Rat) - mean) * ((e : Rat) - mean)) 0 / n
    (roundRat mean, some (sqrtRat var / 100))

/-- The sweep of a session's exchange as its tile computes it. `ants` are the antennas' places in 0.1 mm, `minSnr` MIN_SNR_DB. -/
def phasesOf (x : Sess) (srep : Bytes) (d : Dsp) (ants : List (Int × Int)) (minSnr : Nat) : Phases :=
  let chains := chainList x.chains
  let all := (List.range 72).flatMap (fun k => chains.map (fun n => snrOf d k n))
  let good := (List.range 72).filter (fun k => decide ((minSnr : Nat) ≤ medianRat (chains.map (fun n => snrOf d k n))))
  let est := fun (k : Nat) => Config.azimuth (2404 + k) (chains.map (fun n =>
    (ants.getD n (0, 0), wrapDeg (untPhase x.raw d.offset k n - calAt (x.points.getD n []) (toneMhz k)))))
  let az := azimuthOf (good.map est)
  { dp := phaseDistance chains (chainSlope srep x.raw d.offset x.points) (chainWeight d)
    snr := (medianRat all).floor.toNat, theta := az.1, spread := az.2 }

end Sys2Proof.Machine
end

