-- ==== Sys2Proof/Machine/Ranging.lean ====
section
/-! DEFINITION. Chapter 7: sessions and the ranging queue, the exchange, the flicker rounds and the bound, position and fusion with the
lantern map, the acceptance checks, captures, drift offsets; and the end of a hold of the LF air, after which jobs enter. -/
namespace Sys2Proof.Machine

open Sys2Proof

/-! ## RANGING and LANTERN_MAP (R211, R213) -/

/-- The RANGING section and its fields. -/
def State.rangingSec (s : State) : Bytes := (s.section? 6).getD []
def State.arrayX (s : State) : Int := signed 16 (le s.rangingSec 0 2)
def State.arrayY (s : State) : Int := signed 16 (le s.rangingSec 2 2)
def State.arrayAz (s : State) : Int := signed 16 (le s.rangingSec 6 2)
/-- TOKEN_Z_MM - ARRAY_Z_MM. -/
def State.deltaZ (s : State) : Int := (le s.rangingSec 0x18 2 : Int) - (le s.rangingSec 4 2 : Int)
def State.driverX (s : State) : Int := signed 16 (le s.rangingSec 0x1A 2)
def State.driverY (s : State) : Int := signed 16 (le s.rangingSec 0x1C 2)
def State.lftDist (s : State) : Nat := le s.rangingSec 0x1E 2
def State.minSnr (s : State) : Nat := u8 s.rangingSec 0x20
def State.fovDeg (s : State) : Nat := u8 s.rangingSec 0x21
/-- ANT_X and ANT_Y of each chain, in 0.1 mm. -/
def State.antennas (s : State) : List (Int × Int) :=
  (List.range 4).map (fun n => (signed 16 (le s.rangingSec (8 + 2 * n) 2), signed 16 (le s.rangingSec (16 + 2 * n) 2)))
def State.costMax (s : State) : Nat := le s.rangingSec 0x22 2

/-- The LANTERN_MAP section, its header and its cell records in order. -/
def State.mapSec (s : State) : Bytes := (s.section? 4).getD []
def State.mapX0 (s : State) : Int := signed 16 (le s.mapSec 0 2)
def State.mapY0 (s : State) : Int := signed 16 (le s.mapSec 2 2)
def State.mapCell (s : State) : Nat := le s.mapSec 4 2
def State.mapNx (s : State) : Nat := le s.mapSec 6 2
def State.mapNy (s : State) : Nat := le s.mapSec 8 2

/-- `n` records of `w` bytes. -/
def records (w : Nat) : Nat → Bytes → List Bytes
  | 0, _ => []
  | n + 1, b => b.take w :: records w n (b.drop w)

/-- The cell records: ZONE, SPREAD, NM expected values. -/
def State.mapCells (s : State) : List Bytes := records (2 + u8 s.mapSec 0x0A) (s.mapNx * s.mapNy) (s.mapSec.drop 16)

/-- The digest of the map that the offsets are learned on. -/
def State.mapDigest (s : State) : Bytes := Crypto.sha512 s.mapSec

/-- The centre of cell `k` in mm. -/
def State.cellCentre (s : State) (k : Nat) : Rat × Rat :=
  let c : Rat := (s.mapCell : Nat)
  ((s.mapX0 : Rat) + ((k % s.mapNx : Nat) : Rat) * c + c / 2, (s.mapY0 : Rat) + ((k / s.mapNx : Nat) : Rat) * c + c / 2)

/-! ## Registers (R217) -/

/-- The receive chains in use. -/
def State.chainsUp (s : State) : List Nat := [0, 1, 2, 3].filter (fun n => s.flag (F.RF_CHn_STAT_UP n))

/-- Whether RNG serves the air: enabled, or down for its 4 failed tiles alone, whose exchanges run unused (Table 7-10). -/
def State.rngAir (s : State) : Bool :=
  s.enabled .rng || (s.noTile && Nat.testBit s.sys.meant (subId .rng) && s.enabled .rf && s.enabled .lf && !s.islandFailed 7)

/-- Whether exchanges can run: RNG on the air, the 2.4 GHz transmitter and a chain in use, a synthesiser working. -/
def State.canRange (s : State) : Bool :=
  s.rngAir && s.flag F.RF_STAT_TX24_OK && !s.chainsUp.isEmpty && !s.onRc
    && !(s.flag F.RF_STAT_SYN0_FAILED && s.flag F.RF_STAT_SYN1_FAILED)

/-- The drift offsets as RNG_LFOFFn shows them: rounded, two's complement. -/
def State.showOffsets (s : State) : State :=
  (List.range 8).foldl (fun t n => t.setReg (0x5060 + 4 * n)
    (leNat ((List.range 4).map (fun k => byte (unsigned 8 (roundRat (s.rng.drift.getD (4 * n + k) 0))))))) s

/-- RNG_STAT follows the chains, the tiles and the queue. -/
def State.refreshRng (s : State) : State :=
  let up := s.chainsUp.length
  let tiles := ([0, 1, 2, 3].filter (fun t => !(s.tile t).failed)).foldl (fun m t => m + 2 ^ t) 0
  let s1 := (s.put F.RNG_STAT_CHAINS up).putFlag F.RNG_STAT_ANGLE (decide (3 ≤ up))
  let s2 := (s1.putFlag F.RNG_STAT_ONE_SYN s.oneSyn).putFlag F.RNG_STAT_RANGE s.canRange
  (s2.put F.RNG_STAT_TILES_UP tiles).put F.RNG_STAT_QUEUE ((s.rng.sessions.filter (·.entry)).length)

/-! ## Sessions (R203, R205 to R208) -/

/-- A session by number. -/
def State.sess? (s : State) (n : Nat) : Option Sess := s.rng.sessions.find? (fun x => x.number == n)

/-- Changes a session. -/
def State.updSess (s : State) (n : Nat) (f : Sess → Sess) : State :=
  { s with rng := { s.rng with sessions := s.rng.sessions.map (fun x => if x.number = n then f x else x) } }

/-- Removes a session, its entry and its job. -/
def State.dropSess (s : State) (n : Nat) : State :=
  let s1 := s.dropJobs (fun k => k == n)
  ({ s1 with rng := { s1.rng with sessions := s1.rng.sessions.filter (fun x => x.number != n)
                                  onAir := if s1.rng.onAir = some n then none else s1.rng.onAir } }).refreshRng

/-- The priority class of R206. -/
def State.rangePrio (s : State) (code pattern : Nat) : Nat :=
  if code = 1 then 0
  else if code = 0x0C then 3
  else if (List.range s.nZone).any (fun z => s.zoneKind z ≤ 1 && u8 (s.zoneRec z) 4 == pattern) then 1 else 2

/-- The settings in force. -/
def State.settingsNow (s : State) : List (Nat × Nat) := match s.vault.bank with | some b => b.values | none => []

/-- A deferral: counted, raised, and journaled at most once per 10 s for each reason (log entry 44). -/
def State.defer (s : State) (n code : Nat) : State :=
  let x := s.sess? n
  let s1 := s.updSess n (fun y => { y with entry := false, reason := code })
  let s2 := (s1.event (if code = 0x0714 then F.RNG_EVT_DISPLACED else F.RNG_EVT_DEFERRED)).bump F.RNG_CNT_DEFERRED
  let quiet := s2.rng.defers.any (fun d => d.1 == code && decide (s2.mt < d.2 + 10000000))
  if quiet then s2.refreshRng
  else
    let s3 := { s2 with rng := { s2.rng with defers := s2.rng.defers.filter (fun (d : Nat × Nat) => d.1 != code) ++ [(code, s2.mt)] } }
    (s3.journal 0x0703 code .rng 0 (toLE 1 (match x with | some y => y.prio | none => 0))).refreshRng

/-- The session that a start request displaces: the lowest class, the latest reserved, its exchange not begun. -/
def displaced : List Sess → Option Sess
  | [] => none
  | x :: xs => match displaced xs with
    | none => if x.entry && !x.begun then some x else none
    | some y => if x.entry && !x.begun && decide (y.prio < x.prio) then some x else some y

/-- Reserves a queue entry for session `n` (R205, R207). -/
def State.reserve (s : State) (n prio : Nat) : State :=
  let limit := min 16 s.net.captureBufs
  let full := decide (limit ≤ (s.rng.sessions.filter (·.entry)).length)
  let take := fun (t : State) => (t.updSess n (fun y => { y with entry := true })).refreshRng
  if !full then take s
  else if prio ≠ 0 then s.defer n 0x0701
  else match displaced s.rng.sessions with
    | some y => if y.prio = 0 && y.number = n then s.defer n 0x0701 else take (s.defer y.number 0x0714)
    | none => s.defer n 0x0701

/-- Opens the session of an accepted CRY at LIST position `pos`, with its entry where its type has RANGING. -/
def State.openSession (s : State) (h : Hold) (pos : Nat) (m : Member) : State × Nat :=
  let n := (s.rng.last + 1) % 2 ^ 32
  let x := s.slot m.slot
  let ranges := s.typeRanges x.typeId
  let prio := s.rangePrio h.req.code h.pattern
  let y : Sess :=
    { number := n, req := h.id, code := h.req.code, slot := m.slot, tid := x.tid, ksn := s.vault.ksn, turn := x.turn, prio := prio
      entry := false, ranges := ranges, c := h.c, field := m.field, afield := m.afield, status := m.status, pattern := h.pattern, pos := pos
      s0 := h.chalEnd + 9000 * h.members.length + 2000 + 4500 * pos, begun := false, rtS := 0, csent := 0, chains := 0
      oneSyn := false, delays := [], points := [], srep := none, macBad := false, rounds := [], raw := [], readings := none, scales := []
      drift := none, reason := if ranges && !s.rngAir then s.reg R.RNG_REASON else 0, stage := .air, bytes := [], settings := s.settingsNow }
  let s1 := { s with rng := { s.rng with sessions := s.rng.sessions ++ [y], last := n } }
  let s2 := s1.updRequest h.id (fun r => { r with waiting := r.waiting + 1 })
  (if ranges && s2.rngAir then s2.reserve n prio else s2, n)

/-! ## Cryptograms (R88, R106, R109, R110) -/

/-- The listed tokens of the hold. -/
def State.members (s : State) : List Member := match s.lf.hold with | some h => h.members | none => []

/-- Changes the listed token at a LIST position. -/
def State.updMember (s : State) (pos : Nat) (f : Member → Member) : State :=
  match s.lf.hold with
  | none => s
  | some h => { s with lf := { s.lf with hold := some { h with
      members := (h.members.zip (List.range h.members.length)).map (fun (p : Member × Nat) => if p.2 = pos then f p.1 else p.1) } } }

/-- The reason with which the request on the air ends if no token is accepted. -/
def State.holdWhy (s : State) (code : Nat) : State :=
  match s.lf.hold with
  | none => s
  | some h => { s with lf := { s.lf with hold := some { h with why := code } } }

/-- Judges a CRY on its own: a failed cryptogram counts toward its slot; a verified one meets the counter rule, is written to the vault
and opens a session. -/
def State.judgeCry (s : State) (h : Hold) (pos : Nat) (m : Member) : State :=
  let done := fun (why : Nat) (t : State) => (t.updMember pos (fun y => { y with cry := 4 })).holdWhy why
  let code := h.req.code
  if m.cry = 3 then done m.why (s.refuseAttempt 0 m.slot m.tid m.ctr code m.why)
  else if m.cry = 2 then done 0x0807 (s.refuseMac 0 m.slot m.tid m.ctr code)
  else if m.ctr < (s.slot m.slot).ctr then done 0x0809 ((s.replay m.slot).refuseAttempt 0 m.slot m.tid m.ctr code 0x0809)
  else if !s.vaultUp then done 0x080E (s.refuseAttempt 0 m.slot m.tid m.ctr code 0x080E)
  else
    let s1 := (((s.acceptCtr m.slot m.ctr).authSucceed 0 m.slot)).journalAuth 0 m.slot m.tid m.ctr code
    let (s2, n) := s1.openSession h pos m
    (s2.updMember pos (fun y => { y with cry := 4, sess := some n })).commitPoint

/-- Refuses every answer of one TID: each failed cryptogram counts, CONFLICT is set (R110). -/
def State.conflict (s : State) (h : Hold) (pos : Nat) (m : Member) : State :=
  let s1 := if m.cry = 2 then s.countSlot m.slot else s
  let s2 := if (s1.slot m.slot).conflict then s1
    else (s1.setSlot m.slot { s1.slot m.slot with conflict := true }).event F.TOK_EVT_CONFLICT
  ((s2.refuseAttempt 0 m.slot m.tid m.ctr h.req.code 0x0804).updMember pos (fun y => { y with cry := 4 })).holdWhy 0x0804

/-- Judges the answers that share a TID: a conflict when a cryptogram failed or more than one passed. -/
def State.judgeGroup (s : State) (tid : Nat) : State :=
  match s.lf.hold with
  | none => s
  | some h =>
    let mine := (h.members.zip (List.range h.members.length)).filter (fun (p : Member × Nat) => p.1.tid == tid)
    let clash := decide (1 < mine.length) && (mine.any (fun p => p.1.cry == 2) || decide (1 < (mine.filter (fun p => p.1.cry == 1)).length))
    mine.foldl (fun (t : State) (p : Member × Nat) =>
      if clash && p.1.cry ≠ 4 then t.conflict h p.2 p.1
      else if p.1.cry = 0 || p.1.cry = 4 then t
      else t.judgeCry h p.2 p.1) s

/-- The CRY positions are over: what is still to be judged is judged. -/
def State.closeCrys (s : State) : State :=
  let open_ := (s.members.filter (fun m => 1 ≤ m.cry && m.cry ≤ 3)).map (·.tid)
  open_.eraseDups.foldl (fun t tid => t.judgeGroup tid) s

/-! ## The exchange (R185 to R190, R208, R209) -/

/-- The exchange starts that count against the cap: those within 100 ms of RT. -/
def State.recentStarts (s : State) (rt : Nat) : List Nat :=
  s.rng.starts.filter (fun t => (rt + 2 ^ 48 - t) % 2 ^ 48 < 4096000000)

/-- The commands of an exchange that starts at RT `rt` join the queue: the sweep, the flicker rounds at F, the window of SREP (Table 7-3);
all of them, or none. -/
def State.queueExchange (s : State) (n rt : Nat) : State × Bool :=
  let f := rt + 40960 * (if s.oneSyn then 24138 else 12150) / 10
  let power := s.secLE 5 3 1 0
  let cmd := fun (op : RadioOp) (start us : Nat) (j : RadioJob) => (⟨op, start % 2 ^ 48, 40960 * us / 10, power, j⟩ : RadioCmd)
  let a := s.queueRadio (cmd .sweep rt (if s.oneSyn then 23976 else 11988) (.sweep n))
  let b := a.1.queueRadio (cmd .flick f 640 (.flick n))
  let c := b.1.queueRadio (cmd .rx24 (f + 40960 * 180) 14000 (.srep n))
  if a.2 && b.2 && c.2 then (c.1, true) else ({ c.1 with rf := { c.1.rf with queue := s.rf.queue } }, false)

/-- The commands of an exchange leave the queue, and with them what is on air for it. -/
def State.dropExchange (s : State) (n : Nat) : State :=
  let mine := fun (c : RadioCmd) => c.job == .sweep n || c.job == .flick n || c.job == .srep n
  { s with
    rf := { s.rf with queue := s.rf.queue.filter (fun c => !mine c)
                      onAir := s.rf.onAir.filter (fun c => !mine c) }
    rng := { s.rng with onAir := if s.rng.onAir = some n then none else s.rng.onAir } }

/-- EXCHANGE_START: position `pos` is reached; its session's exchange joins the queue of the sequencer unless it holds no entry or the
exchange cannot run. The chains and the synthesisers are fixed at S. -/
def exchangeStart (pos : Nat) (s0 : State) : State :=
  let s := s0.closeCrys
  match s.lf.hold with
  | none => s
  | some h =>
    match s.rng.sessions.find? (fun x => x.req == h.id && x.pos == pos) with
    | none => s
    | some x =>
      if h.phase ≠ .cry || !x.entry || x.begun || !s.canRange then s
      else
        let rt := s.tim.rt.toNat
        let recent := s.recentStarts rt
        if (if s.oneSyn || 5 ≤ s.get F.PWR_STAT_GOV_STEP then 8 else 16) ≤ recent.length then s.defer x.number 0x0701
        else
          let q := s.queueExchange x.number rt
          if !q.2 then q.1
          else
            let c := beNat (s.drawn 4)
            let s1 := (q.1.fresh 4).updSess x.number (fun y => { y with
              begun := true, rtS := rt, csent := c, oneSyn := s.oneSyn
              chains := s.chainsUp.foldl (fun m n => m + 2 ^ n) 0
              delays := (List.range 4).map (fun n => s.get (F.RF_CHn_CAL_DELAY n)), points := s.rf.points })
            ({ s1 with rng := { s1.rng with starts := recent ++ [rt] } }).commitPoint

/-- EXCHANGE_START. -/
def execExchangeStart (pos : Fin 8) (s : State) : Out := .next (exchangeStart pos.val s)

/-- The exchange on air is aborted with 0x0717; its session is fused in MODE 3 (R209). -/
def State.abortExchange (s : State) : State :=
  match s.rng.onAir with
  | none => s
  | some n =>
    let s1 := s.updSess n (fun x => { x with srep := none, reason := 0x0717 })
    ((s1.dropExchange n).event F.RNG_EVT_EXCH_ABORT).commitPoint

/-- SREP_RECEIVE: in its window the capture takes the report and the rounds; TYPE, SLOT and the CRC decide whether there is one (checks 1, 2). -/
def srepReceive (pos : Nat) (frame : Bytes) (rounds : List (List ChainHit)) (raw : Bytes) (s : State) : State :=
  match s.lf.hold with
  | none => s
  | some h =>
    match s.rng.sessions.find? (fun x => x.req == h.id && x.pos == pos) with
    | none => s
    | some x =>
      if s.rng.onAir ≠ some x.number || !s.onRadio (.srep x.number) then s
      else
        let rep := match crcGood frame with
          | some b => if frame.length = 165 && u8 b 0 = 0x42 && u8 b 1 = x.slot then some b else none
          | none => none
        let bad := match rep with
          | some b => slice b 155 8 != s.slotMac 0x08 x.slot x.tid (x.c ++ slice b 2 153) 8
          | none => false
        let s1 := s.updSess x.number (fun y => { y with srep := rep, macBad := bad, rounds := rounds, raw := raw })
        ({ s1 with rng := { s1.rng with onAir := none } }).commitPoint

/-- SREP_RECEIVE. -/
def execSrepReceive (pos : Fin 8) (frame : Bytes) (rounds : List (List ChainHit)) (raw : Bytes) (s : State) : Out :=
  .next (srepReceive pos.val frame rounds raw s)

/-! ## Flicker rounds and the bound (R189, R194) -/

/-- 7.31913 mm, the light path of one RT tick. -/
def mmPerTick : Rat := 731913 / 100000

/-- The class of a round: 0 correct, 1 wrong, 2 late, 3 missed (Table 7-9). -/
inductive RoundClass
  | correct | wrong | late | missed
  deriving DecidableEq, Repr

/-- The code of a class. -/
def classCode : RoundClass → Nat
  | .correct => 0 | .wrong => 1 | .late => 2 | .missed => 3

/-- The round distance in mm. -/
def roundDistance (ticks turn delay : Nat) : Rat := mmPerTick * (((ticks : Int) - 20480 - turn - delay : Int) : Rat) / 2

/-- The hit of the chain with the highest peak, the lower chain on a tie. -/
def bestHit : List ChainHit → Option ChainHit
  | [] => none
  | x :: xs => match bestHit xs with
    | none => some x
    | some y => if x.peak < y.peak || (x.peak == y.peak && decide (y.chain < x.chain)) then some y else some x

/-- The pulses that the chains in use detect: 9 dB above the chain's noise, within the detection window (R194). -/
def seenHits (chains : Nat) (hits : List ChainHit) : List ChainHit :=
  hits.filter (fun h => Nat.testBit chains h.chain && decide (h.noise + 90 ≤ h.peak) && decide (h.ticks ≤ 81920))

/-- The response bit r of round `i`, by the challenge bit that the token decoded, as ECHO reports it (R189). -/
def expectedBit (kr : Bytes) (echo i : Nat) : Bool :=
  Nat.testBit (if Nat.testBit echo (31 - i) then be kr 4 4 else be kr 0 4) (31 - i)

/-- One round: its class, whether it is a shape fault, and its hits. -/
structure RoundRes where
  cls   : RoundClass
  shape : Bool
  hits  : List ChainHit
  deriving DecidableEq, Repr

/-- The classification of a round; a departure above 3 dB in the first quarter is a shape fault. -/
def classify (chains turn : Nat) (delays : List Nat) (expect : Bool) (hits : List ChainHit) : RoundRes :=
  let seen := seenHits chains hits
  match bestHit seen with
  | none => ⟨.missed, false, []⟩
  | some b =>
    let d := roundDistance b.ticks turn (delays.getD b.chain 0)
    let cls := if b.phase != expect || decide (d < -3000) then RoundClass.wrong else if d < 60000 then .correct else .late
    ⟨cls, decide (30 < b.shape), seen⟩

/-- The 32 rounds. -/
def classifyAll (chains turn : Nat) (delays : List Nat) (kr : Bytes) (echo : Nat) (rounds : List (List ChainHit)) : List RoundRes :=
  (List.range 32).map (fun i => classify chains turn delays (expectedBit kr echo i) (rounds.getD i []))

/-- How many rounds have a class. -/
def countClass (c : RoundClass) (rs : List RoundRes) : Nat := (rs.filter (fun r => r.cls == c)).length

/-- The ticks of the correct rounds detected on a chain. -/
def chainTicks (n : Nat) (rs : List RoundRes) : List Nat :=
  (rs.filter (fun r => r.cls == .correct)).filterMap (fun r => (r.hits.find? (fun h => h.chain == n)).map (·.ticks))

/-- The mean of a nonempty list. -/
def meanOf (l : List Nat) : Rat := ((l.foldl (· + ·) 0 : Nat) : Rat) / ((l.length : Nat) : Rat)

/-- D_B: the least bound of the chains with at least 24 correct rounds. -/
def boundOf (turn : Nat) (delays : List Nat) (rs : List RoundRes) : Option Rat :=
  [0, 1, 2, 3].foldl (fun (b : Option Rat) n =>
    let l := chainTicks n rs
    if l.length < 24 then b
    else
      let d := mmPerTick * (meanOf l - 20480 - (turn : Nat) - ((delays.getD n 0 : Nat) : Rat)) / 2
      match b with | none => some d | some x => some (min x d)) none

/-! ## Turnaround calibration (R192) -/

/-- The value of one calibration exchange: its SREP passes, no round is wrong, late or echoed wrongly, at least 28 are correct. -/
def State.turnValue (s : State) (slot : Nat) (c kr : Bytes) (mac : Nat → Bytes → Nat → Bytes) (csent : Nat) (x : CalExchange) : Option Rat :=
  match crcGood x.srep with
  | none => none
  | some b =>
    let delays := (List.range 4).map (fun n => s.get (F.RF_CHn_CAL_DELAY n))
    let chains := s.chainsUp.foldl (fun m n => m + 2 ^ n) 0
    -- no turnaround is known yet: a round's distance is judged from the nominal 200 ns (log entry 45)
    let echo := be b 146 4
    let rs := classifyAll chains 8192 delays kr echo x.rounds
    let tmiss := be b 150 4
    let echoBad := (List.range 32).any (fun i => Nat.testBit echo i != Nat.testBit csent i && !Nat.testBit tmiss i)
    if x.srep.length ≠ 165 || u8 b 0 ≠ 0x42 || u8 b 1 ≠ slot || slice b 155 8 != mac 0x08 (c ++ slice b 2 153) 8 then none
    else if countClass .wrong rs ≠ 0 || countClass .late rs ≠ 0 || echoBad || countClass .correct rs < 28 then none
    else
      let best := [1, 2, 3].foldl (fun k n => if (chainTicks k rs).length < (chainTicks n rs).length then n else k) 0
      let l := chainTicks best rs
      if l.isEmpty then none
      else
        let t := meanOf l - 20480 - ((delays.getD best 0 : Nat) : Rat) - ((roundRat (2 * (s.lftDist : Nat) / mmPerTick) : Int) : Rat)
        some t

/-! ## LF vectors and fusion (R196 to R199) -/

/-- The magnitude of a burst's readings on the FIELD scale. -/
def magnitude (v : Nat × Nat × Nat) : Rat :=
  20 * log10 (pow10 ((v.1 : Nat) / 20) + pow10 ((v.2.1 : Nat) / 20) + pow10 ((v.2.2 : Nat) / 20))

/-- 40 log10 of a burst scale, from the square of the scale; none where the burst carried nothing. -/
def scaleSteps (k2 : Rat) : Option Rat := if k2 ≤ 0 then none else if k2 = 1 then some 0 else some (20 * log10 k2)

/-- What the map expects of burst `i` at a cell: E + 40 log10 s + o, at least 6. -/
def expectedField (e : Nat) (scale : Option Rat) (off : Rat) : Rat :=
  match scale with | none => 6 | some g => max ((e : Nat) + g + off) 6

/-- The residuals of a cell. -/
def residuals (ms : List Rat) (scales : List (Option Rat)) (offs : List Rat) (cell : Bytes) : List Rat :=
  (List.range ms.length).map (fun i =>
    max (ms.getD i 0) 6 - expectedField (u8 cell (2 + i)) (scales.getD i (some 0)) (offs.getD i 0))

/-- The LF cost of a cell. -/
def lfCost (ms : List Rat) (scales : List (Option Rat)) (offs : List Rat) (cell : Bytes) : Rat :=
  (residuals ms scales offs cell).foldl (fun c r => c + r * r) 0 / (9 + ((u8 cell 1 * u8 cell 1 : Nat) : Rat))

/-- The cell of least cost among those with one, the lowest index on a tie. -/
def leastCell (cost : Nat → Bytes → Option Rat) : Nat → List Bytes → Option (Nat × Rat) → Option (Nat × Rat)
  | _, [], best => best
  | k, c :: cs, best =>
    let next := match cost k c, best with
      | none, b => b
      | some x, none => some (k, x)
      | some x, some (j, y) => if x < y then some (k, x) else some (j, y)
    leastCell cost (k + 1) cs next

/-- A distance in the plane. -/
def planeDist (a b : Rat × Rat) : Rat := sqrtRat ((a.1 - b.1) * (a.1 - b.1) + (a.2 - b.2) * (a.2 - b.2))

/-- The array in the plane. -/
def State.arrayAt (s : State) : Rat × Rat := ((s.arrayX : Rat), (s.arrayY : Rat))

/-- What a fusion yields: the zone, the least cost, the position, 0 or 0x0711, and the placed cell. -/
structure Fusion where
  zone   : Nat
  cost   : Option Rat
  pos    : Option (Rat × Rat)
  reason : Nat
  cell   : Option Bytes
  deriving DecidableEq, Repr

/-- The field vectors of a session as the fusion takes them. -/
structure LfIn where
  ms     : List Rat
  scales : List (Option Rat)
  offs   : List Rat
  deriving DecidableEq, Repr

/-- Placement in MODE 0 to 3 (R198, Table 7-6). -/
def State.fuse (s : State) (mode : Nat) (lf : Option LfIn) (dh : Rat) (pr : Rat × Rat) (db : Rat) : Fusion :=
  if (mode = 2 || mode = 3) && lf.isNone then ⟨0xFF, none, none, 0x0711, none⟩
  else
    let a := s.arrayAt
    let s2 := 10000 + (dh * 873 / 10000) * (dh * 873 / 10000)
    let base := fun (c : Bytes) => match lf with | some v => lfCost v.ms v.scales v.offs c | none => 0
    let cost := fun (k : Nat) (c : Bytes) =>
      let q := s.cellCentre k
      match mode with
      | 0 => some (base c + ((q.1 - pr.1) * (q.1 - pr.1) + (q.2 - pr.2) * (q.2 - pr.2)) / s2)
      | 1 => let e := (planeDist q a - dh) / 100; some (base c + e * e)
      | 2 => if db + 450 < planeDist q a then none else some (base c)
      | _ => some (base c)
    let cells := s.mapCells
    match leastCell cost 0 cells none with
    | none => ⟨0xFF, none, none, 0x0711, none⟩
    | some (k, c) =>
      let cell := cells.getD k []
      let near := if mode = 1 && lf.isNone then
          ((List.range cells.length).zip cells).filter (fun (j, _) =>
            let e := planeDist (s.cellCentre j) a - dh
            decide (-300 ≤ e) && decide (e ≤ 300))
        else []
      let zone := if mode = 1 && lf.isNone then
          (match near with
            | [] => 0xFF
            | (_, c0) :: rest => if rest.all (fun (_, c1) => u8 c1 0 == u8 c0 0) then u8 c0 0 else 0xFF)
        else u8 cell 0
      let pos := if mode = 0 then pr else s.cellCentre k
      let inX := (s.mapX0 : Rat) ≤ pr.1 ∧ pr.1 < (s.mapX0 : Rat) + ((s.mapNx * s.mapCell : Nat) : Rat)
      let inY := (s.mapY0 : Rat) ≤ pr.2 ∧ pr.2 < (s.mapY0 : Rat) + ((s.mapNy * s.mapCell : Nat) : Rat)
      if mode = 0 && !(decide inX && decide inY) then ⟨0xFF, some c, some pos, 0x0711, some cell⟩
      else if zone = 0xFF || decide (((s.costMax : Nat) : Rat) / 16 < c) then ⟨0xFF, some c, some pos, 0x0711, some cell⟩
      else ⟨zone, some c, some pos, 0, some cell⟩

/-- The zone of MODE 4: the lowest record with the listing pattern and a FIELD that suffices (R199). -/
def State.zoneOfPattern (s : State) (pattern field : Nat) : Nat :=
  ((List.range s.nZone).find? (fun z => u8 (s.zoneRec z) 4 == pattern && decide (u8 (s.zoneRec z) 5 ≤ field))).getD 0xFF

/-! ## Result records (R203) -/

/-- A result record (Table 7-8). -/
structure Res where
  session : Nat
  slot    : Nat
  code    : Nat
  mode    : Nat
  flags   : Nat
  dpCm    : Nat
  dbCm    : Nat
  az      : Int
  x       : Int
  y       : Int
  zone    : Nat
  chains  : Nat
  drvCm   : Nat
  reason  : Nat
  why     : Nat
  snr     : Nat
  cost    : Nat
  rtS     : Nat
  deriving DecidableEq, Repr

/-- Its 32 bytes. -/
def resBytes (r : Res) : Bytes :=
  toLE 4 r.session ++ toLE 1 r.slot ++ toLE 1 r.code ++ toLE 1 r.mode ++ toLE 1 r.flags ++ toLE 2 r.dpCm ++ toLE 2 r.dbCm
    ++ toLE 2 (unsigned 16 r.az) ++ toLE 2 (unsigned 16 r.x) ++ toLE 2 (unsigned 16 r.y) ++ toLE 1 r.zone ++ toLE 1 r.chains
    ++ toLE 2 r.drvCm ++ toLE 2 r.reason ++ toLE 1 r.why ++ toLE 1 r.snr ++ toLE 2 r.cost ++ toLE 4 (r.rtS % 2 ^ 32)

/-- An empty record of a session. -/
def Res.blank (session slot code mode : Nat) : Res :=
  { session := session, slot := slot, code := code, mode := mode, flags := 0, dpCm := 0, dbCm := 0xFFFF, az := 0, x := 0, y := 0
    zone := 0xFF, chains := 0, drvCm := 0xFFFF, reason := 0, why := 0, snr := 0, cost := 0, rtS := 0 }

/-- A rounded quantity clipped to a range. -/
def clipNat (q : Rat) (hi : Nat) : Nat := min hi (roundRat q).toNat
def clipInt (q : Rat) (lo hi : Int) : Int := max lo (min hi (roundRat q))

/-- The fused position and its distance from the driver's seat. -/
def State.placeRes (s : State) (r : Res) (pos : Option (Rat × Rat)) : Res :=
  match pos with
  | none => r
  | some p =>
    { r with x := clipInt p.1 (-32768) 32767, y := clipInt p.2 (-32768) 32767
             drvCm := clipNat (planeDist p ((s.driverX : Rat), (s.driverY : Rat)) / 10) 0xFFFE }

/-- A record of MODE 4. -/
def State.mode4Res (s : State) (session slot code pattern field : Nat) : Res :=
  let z := s.zoneOfPattern pattern field
  { Res.blank session slot code 4 with
    zone := z, flags := if z = 0xFF then 0 else 32, reason := if z = 0xFF then 0x0711 else 0 }

/-- What a computation yields beside the record: the flicker counts, the placed residuals, the bound and the phase distance. -/
structure Computed where
  res   : Res
  flick : Option Nat                   -- RNG_LAST_FLICK
  rs    : List RoundRes
  relay : Bool
  added : Nat                          -- 2 (D_B - D_P) / c in ticks
  resid : Option (List Rat)            -- an offset sample
  deriving DecidableEq, Repr

/-- The field vectors of a session. -/
def State.sessLf (s : State) (x : Sess) : Option LfIn :=
  x.readings.map (fun l => ⟨l.map magnitude, x.scales.map scaleSteps, x.drift.getD s.rng.drift⟩)

/-- A session without an exchange result: MODE 3, or MODE 4 when no tile works. -/
def State.computeLf (s : State) (x : Sess) (reason : Nat) : Computed :=
  let lf := s.sessLf x
  let f := s.fuse 3 lf 0 (0, 0) 0
  let why := if reason ≠ 0 then reason else if lf.isNone then 0x0712 else f.reason
  let r := { Res.blank x.number x.slot x.code 3 with
    flags := (if lf.isSome then 8 else 0) + (if f.zone = 0xFF then 0 else 32)
    zone := f.zone, reason := why, chains := x.chains + 16 * bit x.oneSyn, rtS := x.rtS
    cost := match f.cost with | some c => clipNat (16 * c) 0xFFFF | none => 0 }
  ⟨s.placeRes r f.pos, none, [], false, 0, none⟩

/-- The first failing check of a list of (failed, code). -/
def firstFail (l : List (Bool × Nat)) : Nat := match l.find? (·.1) with | some (_, c) => c | none => 0

/-- The computation of a session with an exchange result (R193 to R202), from what its sweep yields. A check that lacks an input, a valid
bound or phase distance, is skipped (R201). -/
def State.computeFrom (s : State) (x : Sess) (srep : Bytes) (d : Phases) : Computed :=
  let kr := s.slotMac 0x07 x.slot x.tid x.c 16
  let rs := classifyAll x.chains x.turn x.delays kr (be srep 146 4) x.rounds
  let correct := countClass .correct rs
  let wrong := countClass .wrong rs
  let late := countClass .late rs
  let missed := countClass .missed rs
  let shape := (rs.filter (·.shape)).length
  let echo := be srep 146 4
  let tmiss := be srep 150 4
  let echoBad := (List.range 32).any (fun i => Nat.testBit echo i != Nat.testBit x.csent i && !Nat.testBit tmiss i)
  let bound := boundOf x.turn x.delays rs
  let dbOk := bound.isSome && decide (32 - s.setting 0x0703 4 ≤ correct)
  let db := bound.getD 0
  let dp := d.dp
  let dpOk := decide (s.minSnr ≤ d.snr)
  let nch := ([0, 1, 2, 3].filter (Nat.testBit x.chains)).length
  let aoa := decide (3 ≤ nch) && decide (d.theta.natAbs ≤ 100 * s.fovDeg)
    && (match d.spread with | some v => decide (v ≤ 10) | none => false)
  let alpha := (s.arrayAz + d.theta + 18000) % 36000 - 18000
  let dz : Rat := (s.deltaZ : Rat)
  let dh := if dp * dp < dz * dz || dp < 0 then 0 else sqrtRat (dp * dp - dz * dz)
  let pr := (s.arrayAt.1 + dh * cosDeg ((alpha : Rat) / 100), s.arrayAt.2 + dh * sinDeg ((alpha : Rat) / 100))
  let lf := s.sessLf x
  let mode := if dpOk && aoa then 0 else if dpOk then 1 else if dbOk then 2 else 3
  let f := s.fuse mode lf dh pr db
  let tol : Rat := 450 + 10 * (s.setting 0x0701 100 : Nat)
  let lfCell := match lf with
    | some v => (leastCell (fun _ c => some (lfCost v.ms v.scales v.offs c)) 0 s.mapCells none).map (fun p => s.cellCentre p.1)
    | none => none
  let c8 := dbOk && decide ((10 * s.setting 0x0702 800 : Nat) < db)
  let c9 := dbOk && dpOk && decide (dp < db - tol)
  let c10 := dbOk && (match lfCell with | some q => decide (planeDist q s.arrayAt < db - tol) | none => false)
  let c3 := decide (wrong ≠ 0)
  let c4 := decide (4 ≤ late)
  let c6 := decide (s.setting 0x0704 2 < shape)
  let why := bit c3 + 2 * bit c4 + 4 * bit echoBad + 8 * bit c6 + 16 * bit c8 + 32 * bit c9 + 64 * bit c10
  let relay := decide (why ≠ 0)
  let c15 := dbOk && f.zone != 0xFF && decide ((10 * le (s.zoneRec f.zone) 2 2 : Nat) < db)
  let reason := firstFail [(c3, 0x0709), (c4, 0x070A), (echoBad, 0x070B), (c6, 0x070C), (!dbOk, 0x0708), (c8, 0x070E), (c9, 0x070D),
    (c10, 0x070F), (!dpOk, 0x0705), (!aoa, 0x0707), (lf.isNone, 0x0712), (f.reason != 0, 0x0711), (c15, 0x0710)]
  let zoneOk := f.zone != 0xFF && !c15 && !relay
  let r := { Res.blank x.number x.slot x.code mode with
    flags := bit (dpOk && !relay) + 2 * bit (dbOk && !relay) + 4 * bit aoa + 8 * bit lf.isSome + 16 * bit relay + 32 * bit zoneOk
    dpCm := clipNat (dp / 10) 0xFFFF
    dbCm := if dbOk && !relay then clipNat (db / 10) 0xFFFE else 0xFFFF
    az := if aoa then alpha else 0
    zone := if relay then 0xFF else f.zone
    chains := x.chains + 16 * bit x.oneSyn, reason := reason, why := why, snr := min 63 d.snr
    cost := match f.cost with | some c => clipNat (16 * c) 0xFFFF | none => 0
    rtS := x.rtS }
  let sample := mode = 0 && zoneOk && dbOk && (match f.cost with | some c => decide (c ≤ ((s.costMax : Nat) : Rat) / 64) | none => false)
  ⟨s.placeRes r f.pos,
    some (bit echoBad * 2 ^ 30 + shape * 2 ^ 24 + wrong * 2 ^ 18 + late * 2 ^ 12 + missed * 2 ^ 6 + correct),
    rs, relay, clipNat (2 * (db - dp) / mmPerTick) (2 ^ 64 - 1),
    if sample then (match lf, f.cell with | some v, some cell => some (residuals v.ms v.scales v.offs cell) | _, _ => none)
    else none⟩

/-- The computation of a session with an exchange result, with what its tile measured of the sweep. -/
def State.computeFull (s : State) (x : Sess) (srep : Bytes) (d : Dsp) : Computed :=
  s.computeFrom x srep (phasesOf x srep d s.antennas s.minSnr)

/-! ## Captures (R202, R204) -/

/-- Replaces the class byte of each round entry of Table 7-9. -/
def markClasses (rs : List RoundRes) (raw : Bytes) : Bytes :=
  (List.range 128).foldl (fun (b : Bytes) i =>
    match rs[i / 4]? with
    | some r => b.set (0x900 + 16 * i + 14) (byte (classCode r.cls))
    | none => b) (padTo 0x9100 raw)

/-- The capture of Table 7-9 up to its trailer. -/
def State.captureBytes (s : State) (x : Sess) (c : Computed) : Bytes :=
  let rep := x.srep.getD []
  let ph := (List.range 72).flatMap (fun k => toLE 2 (be rep (2 + 2 * k) 2))
  let rd := match x.readings with
    | some l => l.flatMap (fun v => [byte v.1, byte v.2.1, byte v.2.2])
    | none => []
  let head := resBytes c.res ++ toLE 4 x.tid ++ toLE 2 x.ksn ++ toLE 2 x.turn ++ toLE 8 s.mt ++ toLE 8 x.rtS ++ toLE 4 x.csent
    ++ toLE 1 s.nMeas ++ zeros 3 ++ padTo 16 x.c
  let chains := (List.range 4).flatMap (fun n => toLE 2 (x.delays.getD n 0)) ++ (List.range 4).flatMap (fun n => toLE 2 (s.get (F.RF_CHn_CAL_PHASE n)))
  let mid := ph ++ toLE 4 (be rep 146 4) ++ toLE 4 (be rep 150 4) ++ toLE 1 (u8 rep 154) ++ zeros 7 ++ padTo 96 rd
    ++ padTo 32 (x.scales.map (fun k2 => byte (clipNat (255 * sqrtRat k2) 255)))
  head ++ chains ++ zeros 160 ++ mid ++ zeros 480 ++ markClasses c.rs x.raw

/-! ## The end of a session -/

/-- RNG_LASTn. -/
def State.showRes (s : State) (r : Res) : State :=
  (List.range 8).foldl (fun t n => t.setReg (R.RNG_LASTn n) (le (resBytes r) (4 * n) 4)) s

/-- Publishes a record: registers, counters, events and the journal (R202, R203). -/
def State.publish (s : State) (c : Computed) (journalReason : Nat) : State :=
  let r := c.res
  let s1 := ((s.showRes r).bump F.RNG_CNT_SESSIONS).event F.RNG_EVT_RESULT
  let s2 := if Nat.testBit r.flags 1 then s1 else (s1.bump F.RNG_CNT_NO_BOUND).event F.RNG_EVT_NO_BOUND
  let s3 := if c.relay then (s2.bump F.RNG_RELAY_CNT_RELAY).event F.RNG_EVT_RELAY else s2
  let s4 := match c.flick with | some w => s3.setReg R.RNG_LAST_FLICK w | none => s3
  s4.journal 0x0701 journalReason .rng (bit c.relay) (resBytes r)

/-- An offset sample moves the drift offsets; jobs that run keep those they began with; every 64 samples the vault takes them (R200). -/
def State.offsetSample (s : State) (resid : List Rat) : State :=
  let old := s.rng.drift
  let running := s.net.tiles.filterMap (fun t => t.job.map (·.session))
  let next := (List.range 32).map (fun i =>
    let o := old.getD i 0
    match resid[i]? with | some r => max (-6) (min 6 (o + (r - o) / 64)) | none => o)
  let n := (s.rng.samples + 1) % 64
  let s1 := { s with rng := { s.rng with
    drift := next, samples := n
    sessions := s.rng.sessions.map (fun (x : Sess) => if running.contains x.number && x.drift.isNone then { x with drift := some old } else x) } }
  let s2 := if n = 0 then { s1 with vault := { s1.vault with drift := next, driftMap := s.mapDigest } } else s1
  s2.showOffsets

/-- Passes a result to the policy and lets its request end. -/
def State.judgeRes (s : State) (req : Nat) (settings : List (Nat × Nat)) (cls status field : Nat) (r : Res) : State :=
  let s1 := { s with sys := { s.sys with settingsUse := some settings } }
  let s2 := s1.judge req ⟨0, r.slot, cls, status, r.mode, r.flags, r.zone, r.dbCm, r.drvCm, field⟩
  let s3 := { s2 with sys := { s2.sys with settingsUse := none } }
  (s3.updRequest req (fun q => { q with waiting := q.waiting - 1 })).concludeRequest req 0

/-- A session's result stands: its capture, where one is due under the settings it began with (R49), waits for storage and holds the entry;
else the entry is released. An offset sample becomes background work (R200). -/
def State.endSession (s : State) (x : Sess) (c0 : Computed) : State :=
  let sv := { s with sys := { s.sys with settingsUse := some x.settings } }
  let fail := decide (sv.setting 0x0705 0 = 1) && (!Nat.testBit c0.res.flags 1 || c0.res.zone == 0xFF)
  let want := x.entry && (c0.relay || fail)
  let recent := s.rng.captures.filter (fun t => s.mt < t + 3600000000)
  let limited := want && decide (sv.setting 0x0706 60 ≤ recent.length)
  let lost := want && !limited && (!s.nandUp || !s.enabled .sto)
  let take := want && !limited && !lost
  let c := if take then { c0 with res := { c0.res with flags := c0.res.flags + 64 } } else c0
  let s1 := s.publish c (if limited then 0x0713 else c.res.reason)
  let s2 := if limited then (s1.event F.RNG_EVT_CAP_LIMIT).bump F.RNG_RELAY_CNT_CAP_SKIPPED
    else if lost then s1.event F.STO_EVT_CAP_LOST else s1
  let s3 := if take then
      let t := s2.updSess x.number (fun y => { y with stage := .capture })
      { t with rng := { t.rng with captures := recent ++ [s.mt] }
               sto := { t.sto with waiting := t.sto.waiting ++ [⟨x.number, c.added, s.captureBytes x c⟩] } }
    else s2.dropSess x.number
  let s4 := match c.resid with
    | some r => { s3 with net := { s3.net with background := s3.net.background ++ [BackKind.calibration r] } }
    | none => s3
  (((s4.judgeRes x.req x.settings (s.slot x.slot).cls x.status x.field c.res).retireSpent 0 x.slot).refreshRng).commitPoint

/-- The tile that runs a session's job. -/
def State.tileOf (s : State) (n : Nat) : Option Nat := [0, 1, 2, 3].find? (fun t => ((s.tile t).job.map (·.session)) == some n)

/-- Places the active pair's result of a session when no tile works (R199). -/
def State.endMode4 (s : State) (x : Sess) : State :=
  s.endSession x ⟨s.mode4Res x.number x.slot x.code x.pattern x.afield, none, [], false, 0, none⟩

/-- RANGING_JOB_DONE: the signal processing of a session's job has ended on its tile. -/
def rangingJobDone (n : Nat) (d : Dsp) (s : State) : State :=
  match s.tileOf n, s.sess? n with
  | some t, some x =>
    let s1 := s.setTile t { s.tile t with job := none }
    let sv := { s1 with sys := { s1.sys with settingsUse := some x.settings } }
    let s2 := if x.begun && x.reason = 0 && x.srep.isSome && x.macBad then s1.failSlot 0 x.slot else s1
    let c := match x.srep with
      | some b =>
        if x.reason ≠ 0 then sv.computeLf x x.reason
        else if x.macBad then sv.computeLf x 0x0704
        else sv.computeFull x b d
      | none => sv.computeLf x (if x.reason ≠ 0 then x.reason else if x.ranges then 0x0703 else 0)
    (placeBackground (placeJobs 4 (s2.endSession x c))).settle (3 + t)
  | _, _ => s

/-- RANGING_JOB_DONE. -/
def execRangingJobDone (session : Word) (dsp : Dsp) (s : State) : Out := .next (rangingJobDone session.toNat dsp s)

/-- BACKGROUND_SLICE_END: the slice ends; a finished calibration moves the drift offsets, unfinished
work waits again, and a waiting session job goes first (R34). -/
def backgroundSliceEnd (tile : Nat) (finished : Bool) (s : State) : State :=
  let t := s.tile tile
  match t.slice with
  | none => s
  | some b =>
    let s1 := s.setTile tile { t with slice := none }
    let s2 := if finished then (match b with | .calibration r => s1.offsetSample r | .analysis _ => s1) else { s1 with net := { s1.net with background := b :: s1.net.background } }
    (placeBackground (placeJobs 4 s2)).settle (3 + tile)

/-- BACKGROUND_SLICE_END. -/
def execBackgroundSliceEnd (tile : Fin 4) (finished : Bool) (s : State) : Out :=
  .next (backgroundSliceEnd tile.val finished s)

/-- DRIFT_RESET: every drift offset returns to 0; journaled. -/
def driftReset (s : State) : State :=
  let running := s.net.tiles.filterMap (fun t => t.job.map (·.session))
  let z := List.replicate 32 0
  let s1 := { s with
    rng := { s.rng with
      drift := z, samples := 0
      sessions := s.rng.sessions.map (fun (x : Sess) => if running.contains x.number && x.drift.isNone then { x with drift := some s.rng.drift } else x) }
    vault := { s.vault with drift := z } }
  (s1.showOffsets).journal 0x0703 0 .rng 0 []

/-- DRIFT_RESET. -/
def execDriftReset (s : State) : Out := .next (driftReset s)

/-! ## The end of a hold (R141, R206) -/

/-- When the request on the air lets it go, where no command says so: after its last CRY position without an accepted token, its last
exchange or CRY position without bursts, its last RPT position, its last LF return slot. -/
def State.holdEnd (s : State) (h : Hold) : Option Nat :=
  let n := h.members.length
  match h.phase with
  | .answers => none
  | .lft => none
  | .cry =>
    let mine := s.rng.sessions.filter (fun x => x.req == h.id)
    let cryEnd := h.chalEnd + 9000 * n + 2000
    if mine.isEmpty then some cryEnd
    else if s.nMeas ≠ 0 then none
    else some (mine.foldl (fun e x => if x.begun then max e (x.s0 + 4500) else e) cryEnd)
  | .report => h.lmeasEnd.map (fun e => e + 1000 + n * (5300 + 1200 * s.nMeas))
  | .returns => some (h.chalEnd + 2000 + 4 * 28000)

/-- The result of an LF-only answer is published and judged (R199). -/
def State.lfResult (s : State) (h : Hold) (m : Member) : State :=
  let r := s.mode4Res (m.sess.getD 0) m.slot h.req.code h.pattern m.afield
  (s.publish ⟨r, none, [], false, 0, none⟩ r.reason).judgeRes h.id s.settingsNow (s.slot m.slot).cls m.status m.field r

/-- The hold ends: the next first carrier follows 1.0 ms later, the request gets no more tokens, and a start that LFT_TRIG raised and that
accepted none is followed by an LFT exchange (R150). TOK_ROUND.ROUND of an LF-only session shows 1 (DESIGN CHOICE, log entry 176). -/
def State.endHold (s : State) (reason : Nat) : State :=
  match s.lf.hold with
  | none => s
  | some h =>
    let none_ := match s.request? h.id with | some r => !r.anyAccepted | none => true
    let s0 := if h.phase = .returns then
        h.members.foldl (fun (t : State) m => t.lfResult h m) (s.showRound 1 h.returned.length h.collided.length true)
      else s
    let s1 := (s0.setHold none).dropQueued
    let follow : List LfReq := if h.req.trig && !h.req.lft && none_ then
        [{ h.req with lft := true, trig := false, host := false, cls := 1 }] else []
    let s2 := { s1 with lf := { s1.lf with freeAt := s.mt + 1000, queue := follow ++ s1.lf.queue } }
    let s3 := if (reason = 0x0820 || reason = 0x0821) && h.req.code ≠ 0 && !h.req.lft then s2.refuseAttempt 0 0xFF 0 0 h.req.code reason
      else s2
    (s3.closeRequest h.id (if none_ then reason else 0)).touch

/-- Ends the hold when its time has come; after the wake frame of a candle poll the LF island dozes (R145). -/
def State.dueHold (s0 : State) : State :=
  let s := match s0.lf.hold with
    | some h => if decide (h.phase = HoldPhase.cry) && decide (h.chalEnd + 9000 * h.members.length + 1000 ≤ s0.mt) then s0.closeCrys else s0
    | none => s0
  match s.lf.hold with
  | none => s
  | some h => match s.holdEnd h with
    | none => if h.req.code = 0 && decide (h.phase = HoldPhase.answers) && decide (h.wakeEnd ≤ s.mt) then s.lfDoze else s
    | some t => if t ≤ s.mt then s.endHold h.why else s

/-- Whether a session's job may enter: its last RPT position has passed, or without bursts its exchange position (R206). -/
def State.jobReady (s : State) (x : Sess) : Bool :=
  match s.lf.hold with
  | none => true
  | some h =>
    if h.id ≠ x.req then true
    else match h.phase, h.lmeasEnd with
      | HoldPhase.report, some e => decide (e + 1000 + (x.pos + 1) * (5300 + 1200 * s.nMeas) ≤ s.mt)
      | HoldPhase.cry, _ => s.nMeas == 0 && decide (x.s0 + 4500 ≤ s.mt)
      | _, _ => false

/-- Jobs that wait raise the active pair's votes on idle tiles that are not in RUN, the lowest-numbered first. -/
def State.wakeTiles (s : State) : State :=
  let asleep := [0, 1, 2, 3].filter (fun n => (s.tile n).idle && s.island (3 + n) != 2 && !s.islandFailed (3 + n))
  (asleep.take s.net.jobs.length).foldl (fun (t : State) n => t.raiseVote 0 (3 + n) false) s

/-- RANGING_JOB_ENTER: the job joins those that wait for a tile; when every tile has failed the active pair places the token at once. -/
def rangingJobEnter (n : Nat) (s0 : State) : State :=
  let s := s0.dueHold
  match s.sess? n with
  | none => s
  | some x =>
    if x.stage ≠ .air || !s.jobReady x then s
    else if s.noTile then s.endMode4 x
    else
      let j : TileJob := ⟨n, x.prio, s.net.arrival, .keeper⟩
      let s1 := s.updSess n (fun y => { y with stage := .job })
      (placeJobs 4 { s1 with net := { s1.net with jobs := s1.net.jobs ++ [j], arrival := s1.net.arrival + 1 } }).wakeTiles

/-- RANGING_JOB_ENTER. -/
def execRangingJobEnter (session : Word) (s : State) : Out := .next (rangingJobEnter session.toNat s)

/-! ## Requests that begin again (R28, R32, R209, R288) -/

/-- The requests named begin again from their wake frame, ahead of those that wait; their sessions, buffers and outcomes are discarded. A
candle poll is dropped: the next interval polls again. A capture that storage has accepted stands. -/
def State.restartRequests (s : State) (ids : List Nat) : State :=
  let mine := s.rng.sessions.filter (fun x => ids.contains x.req)
  let s1 := mine.foldl (fun t x => t.dropSess x.number) s
  let held := match s1.lf.hold with | some h => ids.contains h.id | none => false
  let again := (s1.tok.requests.filter (fun r => ids.contains r.id && r.code != 0 && (r.path == 0 || r.path == 2))).map (fun r =>
    match s1.lf.hold with
    | some h => if h.id = r.id then h.req
      else (⟨r.code, lfClass r.code (r.path == 2), r.path == 2, false, r.host, false, r.confirm⟩ : LfReq)
    | none => ⟨r.code, lfClass r.code (r.path == 2), r.path == 2, false, r.host, false, r.confirm⟩)
  let s2 := if held then ((s1.setHold none).dropQueued).dropOnAir else s1
  ({ s2 with
      lf := { s2.lf with queue := again ++ s2.lf.queue }
      tok := { s2.tok with requests := s2.tok.requests.filter (fun r => !ids.contains r.id) }
      sto := { s2.sto with waiting := s2.sto.waiting.filter (fun w => !mine.any (fun x => x.number == w.session)) } }).refreshRng

/-- Every session in flight begins again. -/
def State.restartSessions (s : State) : State := s.restartRequests (s.tok.requests.map (·.id))

/-! ## Tiles and shared memory under faults (R32, R35) -/

/-- Every waiting session is placed by the active pair (R199). -/
def endWaiting : List Sess → State → State
  | [], s => s
  | x :: xs, s => endWaiting xs (if x.stage = .job then s.endMode4 x else s)

/-- TILE_FAULT: the tile is marked failed; its job returns to the head of its class and reruns with 0x0716; after the last tile the jobs
left end in MODE 4 and RNG goes down with 0x0224. -/
def tileFault (k : Nat) (s : State) : State :=
  let t := s.tile k
  if t.failed then s
  else
    let back := match t.slice with | some b => [b] | none => []
    let s1 := s.setTile k { t with failed := true, job := none, slice := none }
    let s2 := { s1 with net := { s1.net with
      jobs := match t.job with | some j => j :: s1.net.jobs | none => s1.net.jobs
      background := back ++ s1.net.background } }
    let s3 := (s2.event F.RNG_EVT_TILE_FAIL).redLoss 1
    let s4 := if t.job.isSome then s3.reason .rng 0x0716 else s3
    let s5 := if s4.noTile then
        let e := endWaiting s4.rng.sessions { s4 with net := { s4.net with jobs := [] } }
        if e.enabled .rng then e.goDown .rng 0x0224 else e
      else placeBackground (placeJobs 4 s4)
    s5.refreshRng

/-- TILE_FAULT. -/
def execTileFault (tile : Fin 4) (s : State) : Out := .next (tileFault tile.val s)

/-- What a lost bank held is rebuilt (R32): the microcode by staggered reloads of the satellites from the active firmware slot, the lantern
map's working values from the vault. -/
def State.rebuildBank (s : State) : State :=
  let order := s.upd.reloads ++ [1, 2, 3, 4, 5].filter (fun n => !s.upd.reloads.contains n)
  { s with upd := { s.upd with reloads := order }, rng := { s.rng with drift := s.vault.drift } }

/-- SHMEM_DOUBLE_BIT_ERROR: the second error of a bank within 24 h of MT maps it out; the free pool and storage buffers give way, and
what the bank held is rebuilt: handover staging at the next commit point, captures in it discarded and their sessions rerun. With a
second bank gone no capture buffer is left (log entry 46). -/
def shmemDoubleBitError (b : Nat) (s : State) : State :=
  if s.net.banksOut.getD b true then s
  else
    let errs := (s.net.bankErrs.getD b []).filter (fun t => s.mt ≤ t + 86400000000) ++ [s.mt]
    let s1 := { s with net := { s.net with bankErrs := s.net.bankErrs.set b errs } }
    if errs.length < 2 then s1
    else
      let first := !(s.net.banksOut.any id)
      let s2 := { s1 with net := { s1.net with
        banksOut := s1.net.banksOut.set b true, freePool := 0, buffers := 192, records := [], rebuilt := s1.net.rebuilt + 1
        captureBufs := if first then s1.net.captureBufs else 0 } }
      let s3 := (((s2.rebuildBank).redLoss 6).putFlag F.STO_STAT_BUF_REDUCED true).reason .sto 0x0C11
      let lost := (s3.rng.sessions.filter (fun x => x.entry && (!first || Config.captureBank x.number % 4 == b))).map (·.req)
      s3.restartRequests lost

/-- SHMEM_DOUBLE_BIT_ERROR. -/
def execShmemDoubleBitError (bank : Fin 4) (s : State) : Out := .next (shmemDoubleBitError bank.val s)

/-- CAPTURE_ACCEPT: the oldest waiting copy takes a storage buffer; its entry is released and its analysis becomes background work
(R202, R316, R317). -/
def captureAccept (s : State) : State :=
  match s.sto.waiting with
  | [] => s
  | w :: rest =>
    if s.capturePlaces ≤ s.sto.pendingCaps.length || !s.enabled .sto || !s.nandUp then s
    else
      let n := s.vault.captureNo
      let s1 := ({ s with sto := { s.sto with waiting := rest } }).acceptCapture w
      let s2 := ((s1.event F.RNG_EVT_CAPTURED).bump F.RNG_RELAY_CNT_CAPTURED).dropSess w.session
      placeBackground { s2 with net := { s2.net with background := s2.net.background ++ [.analysis n] } }

/-- CAPTURE_ACCEPT. -/
def execCaptureAccept (s : State) : Out := .next (captureAccept s)

/-- RNG goes up: the offsets of the vault show (R200, R215). -/
def State.rngEnabled (s : State) : State := (s.showOffsets).refreshRng

end Sys2Proof.Machine
end

