-- ==== Sys2Proof/Machine/Token.lean ====
section
/-! DEFINITION. Chapter 4 on the air: wake frames and rounds, CHAL and cryptograms, LMEAS and RPT, LF-only sessions, remote keyless entry,
lockout expiry, suspend and resume; with the grant of the LF air and the candle poll (R141, R145), which open a request. -/
namespace Sys2Proof.Machine

open Sys2Proof

/-! ## Raising a request (R139, R140) -/

/-- Queues a request: 0x0131 where no token is polled, 0x050E without a plan, 0x050B with a full queue (R80, R139, R140). -/
def State.raiseRequest (s : State) (r : LfReq) : State × Nat :=
  if !s.enabled .tok then (s, 0x0131)
  else if !r.lft && (s.planOf r.code).isNone then (s, 0x050E)
  else
    let (s1, why) := s.pushLf r
    (if why = 0 then (if r.lft then s1.raiseVote 0 10 false else s1.airVotes true) else s1, why)

/-- A request of the host (R140, R150). -/
def hostReq (lft : Bool) : LfReq :=
  { code := 0x0B, cls := lfClass 0x0B lft, lft := lft, trig := false, host := true, learn := false, confirm := none }

/-- A host command that waits for its request. -/
def hostRequestOp (lft : Bool) (s : State) : MbRes :=
  let (s1, why) := s.raiseRequest (hostReq lft)
  if why = 0 then (s1, mbDeferred, []) else mbRefuse s1 why

/-- LF_REQUEST. -/
def execLfRequest (s : State) : Out := .next (mailboxCommand 0x0501 [] (hostRequestOp false) s)

/-- LFT_EXCHANGE. -/
def execLftExchange (s : State) : Out := .next (mailboxCommand 0x0502 [] (hostRequestOp true) s)

/-! ## Taking the air (R103, R108, R141) -/

/-- Whether a passive session runs LF-only (R108); a candle poll still runs its round without the 2.4 GHz transmitter (R177). -/
def State.lfOnlyNow (s : State) (candle : Bool) : Bool :=
  !s.enabled .rf || s.onRc || !s.flag F.RF_STAT_SUB_OK || (!candle && !s.flag F.RF_STAT_TX24_OK) || s.islandFailed 7

/-- AREQ (Table 4-8). -/
def State.areq (s : State) (c : Bytes) : Bytes :=
  withCrc (toBE 1 0x33 ++ toBE 4 s.group ++ toBE 4 s.vault.deviceTag ++ toBE 2 s.vault.ksn ++ c)

/-- LCHAL (Table 4-7). -/
def State.lchal (s : State) (c : Bytes) : Bytes :=
  withCrc (toBE 1 0x21 ++ toBE 2 s.vault.ksn ++ toBE 4 s.vault.deviceTag ++ c)

/-- CHAL (Table 4-8). -/
def State.chal (s : State) (round : Nat) (c : Bytes) (list : List Nat) : Bytes :=
  withCrc (toBE 1 0x41 ++ toBE 1 round ++ toBE 2 s.vault.ksn ++ toBE 4 s.vault.deviceTag ++ c ++ toBE 1 list.length
    ++ list.map byte)

/-- Notes the frame sent to the tokens. -/
def State.tokSent (s : State) (b : Bytes) : State := { s with tok := { s.tok with sent := b, sentMhz := 0 } }

/-- Notes a 2.4 GHz control frame: preamble 0xAA, the access word VEHICLE_GROUP, the frame, on 2404 + CHAL_CHANNEL MHz (R101). -/
def State.tokSent24 (s : State) (b : Bytes) : State :=
  { s with tok := { s.tok with sent := toBE 1 0xAA ++ toBE 4 s.group ++ b, sentMhz := 2404 + u8 s.typesSec 2 } }

/-- A hold that begins. -/
def newHold (r : LfReq) (id : Nat) : Hold :=
  { req := r, id := id, phase := .answers, round := 0, pattern := 0, lfOnly := false, wakeEnd := 0, answers := [], collided := []
    returned := [], members := [], c := [], chalEnd := 0, chalOut := 0, scales := [], reports := [], lmeasEnd := none, tries := 0, badCrc := false
    why := 0x0820 }

/-- Sends the wake frame of a round at `start` on pattern `p` and commands the window of its 8 response slots (R103, R168); an LF-only round
goes on with LCHAL 1.0 ms after it. A pattern without a working channel ends the request with 0x0507 (R135). -/
def State.sendWake (s : State) (h : Hold) (p start : Nat) (lfOnly : Bool) (meas : List (Nat × Nat)) : State :=
  if (s.patChannels p).isEmpty then ((s.reason .lf 0x0507).setHold (some h)).endHold 0x0507
  else
    let s0 := if h.req.code = 0 && h.round ≠ 0 then s.raiseVote 0 10 false else s
    let s1 := ((s0.frameOn (s0.patChannels p) start).sendLf p start wakePieces meas).1
    let h1 := { h with phase := .answers, round := h.round + 1, pattern := p, lfOnly := lfOnly, wakeEnd := start + wakeUs
                       answers := [], collided := [], returned := [], members := [] }
    if !lfOnly then ((s1.setHold (some h1)).queueWindow 8 (h1.wakeEnd + 2000) 44000 .answers).commitPoint
    else
      let c := s1.drawn 16
      let s2 := (((s1.fresh 16).frameOn (s1.patChannels p) (h1.wakeEnd + 1000)).sendLf p (h1.wakeEnd + 1000) lchalPieces meas).1
      ((s2.setHold (some { h1 with phase := .returns, c := c, chalEnd := h1.wakeEnd + 1000 + lchalUs })).tokSent (s2.lchal c)).commitPoint

/-- Starts an LFT exchange: AREQ with a fresh challenge, or all 0 for the TID read of Sequence 4-1 (R102, R149). -/
def State.startLft (s : State) (h : Hold) : State :=
  let c := if h.req.learn then zeros 16 else s.drawn 16
  let s1 := if h.req.learn then s else s.fresh 16
  ((s1.setHold (some { h with phase := .lft, c := c, tries := 1, badCrc := false })).tokSent (s1.areq c)).commitPoint

/-- Whether phase 9 has enabled or refused what a passive session needs (Table 3-2). -/
def State.radioSettled (s : State) : Bool :=
  s.phase == 0xA || (s.phase == 9 && s.sys.nineDone)

/-- LF_AIR_GRANT: the next request takes the air, once the last hold is over by 1.0 ms; a passive request sends its wake frame, another
starts its LFT exchange. -/
def lfAirGrant (meas : List (Nat × Nat)) (s0 : State) : State :=
  let s := s0.dueHold
  if s.lf.hold.isSome || decide (s.mt < s.lf.freeAt) || !s.enabled .lf || !s.enabled .tok || s.flag F.PWR_STAT_BROWNOUT || s.tok.commitWait.isSome
      || s.reloadsAir then s
  else match nextLf (s.lf.queue.filter (fun r => r.lft || s.radioSettled)) with
    | none => s
    | some r =>
      let s1 := { s with lf := { s.lf with queue := s.lf.queue.erase r } }
      let (s2, id) := (s1.radioYields).openRequest r.code (if r.lft then 2 else 0) r.host r.confirm
      let h := newHold r id
      if r.lft then s2.startLft h
      else
        let only := s2.lfOnlyNow false
        let p := (s2.planOf r.code).getD (0, 0)
        s2.sendWake h (if only then p.2 else p.1) s2.mt only meas

/-- LF_AIR_GRANT. -/
def execLfAirGrant (meas : List (Nat × Nat)) (s : State) : Out := .next (lfAirGrant meas s)

/-! ## The candle schedule (R143 to R145) -/

/-- The standing time in us of MT. -/
def State.standing (s : State) : Nat := s.mt - s.vault.standMt

/-- The stage boundaries in us, each the greater of itself and the one before it. -/
def State.candleEdges (s : State) : List Nat :=
  let t1 := s.setting 0x0501 120
  let t2 := max t1 (s.setting 0x0502 1440)
  let t3 := max t2 (s.setting 0x0503 10080)
  let t4 := max t3 (s.setting 0x0504 30240)
  [t1, t2, t3, t4].map (fun m => m * 60000000)

/-- The stage, 1 to 5. -/
def State.candleStage (s : State) : Nat := 1 + (s.candleEdges.filter (fun e => e ≤ s.standing)).length

/-- The period of the stage in ms, 0 where it does not poll. -/
def State.candlePeriod (s : State) : Nat :=
  let st := s.candleStage
  if 5 ≤ st || Nat.testBit (s.setting 0x0509 0) (st - 1) then 0
  else match st with
    | 1 => s.setting 0x0505 500 | 2 => s.setting 0x0506 1000 | 3 => s.setting 0x0507 2000 | _ => s.setting 0x0508 4000

/-- Whether polls run but for the air. -/
def State.candleRuns (s : State) : Bool :=
  s.enabled .lf && s.enabled .tok && s.enabled .rf && !s.onRc && (s.plan 0).isSome && !s.flag F.LF_CTL_CANDLE_HOLD
    && s.candlePeriod != 0

/-- A candle poll as a request. -/
def candleReq : LfReq := { code := 0, cls := 4, lft := false, trig := false, host := false, learn := false, confirm := none }

/-- The frames of a candle poll that begins at `start`: the wake frame, and LCHAL of an LF-only one. -/
def pollFrames (start : Nat) (only : Bool) : List (Nat × List Piece) :=
  (start, wakePieces) :: (if only then [(start + wakeUs + 1000, lchalPieces)] else [])

/-- Counts a candle poll that is skipped (R134, R144). -/
def State.skipPoll (s : State) : State := (s.bump F.LF_CANDLE_CNT_SKIPPED).reason .lf 0x050C

/-- Whether the interval between polls is over, within a PT tick: the period of the stage times 1 + j, j from -1/8 to +1/8 (R144). -/
def State.pollDue (s : State) : Bool :=
  let per := s.candlePeriod * 1000
  decide (s.lf.pollMt + per * 7 / 8 + per * s.lf.pollJit / 2 ^ 34 ≤ s.mt + 31)

/-- CANDLE_POLL: once the interval is over the next one's jitter is drawn, and the poll runs, or is skipped and counted where the air is
held or the budget does not allow full amplitude (R134, R144, R145). -/
def candlePoll (meas : List (Nat × Nat)) (s00 : State) : State :=
  let s0 := s00.dueHold
  if !s0.candleRuns || !s0.pollDue then s0
  else
    let p := (s0.plan 0).getD (0, 0)
    let s : State := { s0.fresh 4 with lf := { s0.lf with pollMt := s0.mt, pollJit := beNat (s0.drawn 4) } }
    let only := s.lfOnlyNow true
    let pat := if only then p.2 else p.1
    if s.lf.hold.isSome || decide (s.mt < s.lf.freeAt) || !s.lf.queue.isEmpty || s.flag F.PWR_STAT_BROWNOUT || s.tok.commitWait.isSome
        || s.reloadsAir || !framesFit pat (pollFrames s.mt only) s then s.skipPoll
    else
      let s1 := ((s.bump F.LF_CANDLE_CNT_POLLS).airVotes false).touch
      let (s2, id) := (s1.radioYields).openRequest 0 0 false none
      s2.sendWake (newHold candleReq id) pat s2.mt only meas

/-- CANDLE_POLL. -/
def execCandlePoll (meas : List (Nat × Nat)) (s : State) : Out := .next (candlePoll meas s)

/-! ## Rounds (R103 to R105) -/

/-- The strength of a good frame. -/
def State.lastRssi (s : State) (v : Nat) : State := s.put F.RF_RSSI_LAST v

/-- ANS_RECEIVE: in the window of the answers, what a response slot brings: with one good ANS it is valid, with energy and no good CRC
collided, else empty (R104, R162). In a candle poll the radio stays for the frame only where the first 0.5 ms show energy (R145). -/
def ansReceive (k : Nat) (frame : Option Bytes) (signal : SlotSignal) (s : State) : State :=
  match s.lf.hold with
  | none => s
  | some h =>
    if h.phase ≠ .answers || !s.subListens || !s.onRadio .answers || (h.req.code = 0 && !s.slotEnergy (signal.windows.take 7)) then s
    else
      let good := match frame with
        | some f => if f.length = 9 then (crcGood f).filter (fun b => u8 b 0 / 64 == 1) else none
        | none => none
      let taken := h.collided.contains k || h.answers.any (fun a => a.rslot == k)
      match good, taken with
      | some b, false =>
        let a : Answer := ⟨k, be b 1 4, u8 b 5, u8 b 6⟩
        (s.setHold (some { h with answers := h.answers ++ [a] })).lastRssi signal.rssi.toNat
      | none, false =>
        if s.slotEnergy signal.windows then s.setHold (some { h with collided := h.collided ++ [k] }) else s
      | _, true =>
        s.setHold (some { h with answers := h.answers.filter (fun a => a.rslot != k)
                                 collided := h.collided.filter (fun j => j != k) ++ [k] })

/-- ANS_RECEIVE. -/
def execAnsReceive (rslot : Fin 8) (frame : Option Bytes) (signal : SlotSignal) (s : State) : Out :=
  .next (ansReceive rslot.val frame signal s)

/-- The slot of an answer that is listed: class F, steps 3 to 6, MIN_FIELD, and STILL_LONG clear for a candle poll (R104, R145). -/
def State.listedSlot (s : State) (candle : Bool) (a : Answer) : Option Nat :=
  match s.slotOfTid a.tid with
  | none => none
  | some n =>
    let why := s.slotCheck 0 n
    if (s.slot n).cls = 1 && (why == 0 || why == 0x0A14) && decide (s.typeMin (s.slot n).typeId ≤ a.field)
        && !(candle && Nat.testBit a.status 6) then some n
    else none

/-- Ends the request on the air; a candle poll without a listed answer leaves no trace (R145). -/
def State.endRound (s : State) (why : Nat) : State := (s.holdWhy why).endHold why

/-- CHAL to the listed answers, 47.0 ms after the wake frame, as a command of the sequencer, with the window of the CRY positions behind it
(R105, R168); where it cannot be sent the request goes on LF-only from a new wake frame (R105, R108). -/
def State.sendChal (s : State) (h : Hold) (listed : List (Answer × Nat)) (meas : List (Nat × Nat)) : State :=
  let at_ := h.wakeEnd + 47000
  if !s.flag F.RF_STAT_TX24_OK || s.islandFailed 7 then
    s.sendWake h ((s.planOf h.req.code).getD (0, 0)).2 at_ true meas
  else
    let c := s.drawn 16
    let ms := listed.map (fun (p : Answer × Nat) => (⟨p.2, p.1.tid, p.1.field, 0, 0, 0, 0, 0, none⟩ : Member))
    let n := ms.length
    let fin := at_ + 256 + 8 * n
    let s1 := (s.fresh 16).setHold (some { h with phase := .cry, members := ms, c := c, chalEnd := fin, chalOut := 0, why := 0x0820 })
    let frame := s.chal h.round c (listed.map (fun p => p.1.rslot))
    let q := s1.queueRadio ⟨.tx24, s1.rtAt at_, 40960 * (256 + 8 * n), s1.secLE 5 2 1 0, .chal frame⟩
    (q.1.queueWindow n (fin + 1450) (9000 * n) .crys).commitPoint

/-- The listed answers in ascending response slots. -/
def State.listing (s : State) (h : Hold) : List (Answer × Nat) :=
  ((List.range 8).filterMap (fun k => h.answers.find? (fun a => a.rslot == k))).filterMap (fun a =>
    (s.listedSlot (h.req.code == 0) a).map (fun n => (a, n)))

/-- The next round; that of a candle poll is never scaled, the poll is dropped instead (R134). -/
def State.nextRound (s : State) (h : Hold) (p : Nat) (meas : List (Nat × Nat)) : State :=
  let start := h.wakeEnd + 47000
  if h.req.code = 0 && !framesFit p [(start, wakePieces)] s then s.skipPoll.endHold 0x050C else s.sendWake h p start false meas

/-- ROUND_CLOSE: slot 7 ends and the first row of Table 4-9 that fits applies. -/
def roundClose (meas : List (Nat × Nat)) (floor : Nat) (s0 : State) : State :=
  match s0.lf.hold with
  | none => s0
  | some h =>
    if h.phase ≠ .answers then s0
    else
      let listed := s0.listing h
      let valid := h.answers.length
      let coll := h.collided.length
      let full := decide (valid + coll = 8)
      let s1 := s0.showRound (min 3 h.round) valid coll false
      let s2 := if valid + coll < 8 then s1.put F.RF_RSSI_FLOOR floor else s1
      let s3 := if full then (s2.event F.TOK_EVT_OVERSUB).bump F.TOK_ROUND_OVERSUB_CNT else s2
      let third := decide (3 ≤ h.round)
      let plan := (s3.planOf h.req.code).getD (0, 0)
      if !listed.isEmpty && (third || !full) then
        let s4 := if h.req.code = 0 then (((s3.bump F.LF_CANDLE_CNT_LED).event F.LF_EVT_CANDLE_ANS).raiseVote 0 (1 + s3.activePair) false)
          else s3
        s4.sendChal h listed meas
      else if third && full then s3.endRound 0x0821
      else if third then s3.endRound 0x0820
      else if full then s3.nextRound h plan.2 meas
      else if 1 ≤ coll then s3.nextRound h h.pattern meas
      else s3.endRound 0x0820

/-- ROUND_CLOSE. -/
def execRoundClose (meas : List (Nat × Nat)) (floor : BitVec 8) (s : State) : Out := .next (roundClose meas floor.toNat s)

/-! ## Cryptograms (R88, R105, R106, R109, R110) -/

/-- CRY_RECEIVE: steps 1 to 7 are judged as the frame comes; the counter rules and a session follow once every answer of its TID is in, or
at the end of the last position (R110). A frame without a good CRC, or of another slot, is no answer. -/
def cryReceive (pos : Nat) (frame : Bytes) (rssi : Nat) (s : State) : State :=
  match s.lf.hold with
  | none => s
  | some h =>
    match h.members[pos]?, crcGood frame with
    | some m, some b =>
      if h.phase ≠ .cry || h.chalOut ≠ 1 || !s.subListens || !s.onRadio .crys || frame.length ≠ 17 || u8 b 0 ≠ 128 + m.slot || m.cry ≠ 0 then s
      else
        let status := u8 b 1
        let field := u8 b 2
        let ctr := be b 3 4
        let why := s.slotCheck 0 m.slot
        let ok := slice b 7 8 == s.slotMac 0x01 m.slot m.tid (h.c ++ toBE 1 status ++ toBE 1 field ++ toBE 4 ctr) 8
        let cry := if why ≠ 0 then 3 else if ok then 1 else 2
        let s1 := (s.updMember pos (fun y => { y with status := status, field := field, ctr := ctr, cry := cry, why := why })).lastRssi rssi
        if (s1.members.filter (fun y => y.tid == m.tid)).all (fun y => y.cry != 0) then s1.judgeGroup m.tid else s1
    | _, _ => s

/-- CRY_RECEIVE. -/
def execCryReceive (pos : Fin 8) (frame : Bytes) (rssi : BitVec 8) (s : State) : Out := .next (cryReceive pos.val frame rssi.toNat s)

/-! ## LMEAS and the field reports (R107, R129, R136) -/

/-- Sends the bursts of the MEAS list from `start` on; the square of each scale is answered. -/
def sendBursts (meas : List (Nat × Nat)) : List Nat → Nat → State → State × List Rat
  | [], _, s => (s, [])
  | p :: ps, start, s =>
    let (s1, k) := s.sendLf p start burstPieces meas
    let (s2, ks) := sendBursts meas ps (start + 750) s1
    (s2, k :: ks)

/-- LMEAS: after the exchanges of the accepted tokens, the header on the pattern that listed them and NMEAS bursts; a pattern of them
without a working channel ends the request on the air with 0x0507, and its sessions go on without field vectors (R135). -/
def lmeas (meas : List (Nat × Nat)) (s0 : State) : State :=
  let s := s0.closeCrys
  match s.lf.hold with
  | none => s
  | some h =>
    let mine := s.rng.sessions.filter (fun x => x.req == h.id)
    if h.phase ≠ .cry || mine.isEmpty || s.nMeas = 0 || s.rng.onAir.isSome then s
    else if (h.pattern :: s.measPats).any (fun p => (s.patChannels p).isEmpty) then (s.reason .lf 0x0507).endHold 0x0507
    else
      let s0 := if h.req.code = 0 then s.raiseVote 0 10 false else s
      let s1 := ((s0.frameOn ((h.pattern :: s.measPats).flatMap s.patChannels).eraseDups s.mt).sendLf h.pattern s.mt headPieces meas).1
      let (s2, ks) := sendBursts meas s1.measPats (s.mt + 5500) s1
      let s3 := mine.foldl (fun (t : State) x => t.updSess x.number (fun y => { y with scales := ks })) s2
      let fin := s.mt + 5250 + 750 * s.nMeas
      let n := h.members.length
      ((s3.setHold (some { h with phase := .report, scales := ks, lmeasEnd := some fin })).queueWindow n (fin + 1000)
        (n * (5300 + 1200 * s.nMeas)) .reports).commitPoint

/-- LMEAS. -/
def execLmeas (meas : List (Nat × Nat)) (s : State) : Out := .next (lmeas meas s)

/-- The readings of an RPT, three axes each. -/
def readings3 : Nat → Bytes → List (Nat × Nat × Nat)
  | 0, _ => []
  | n + 1, b => (u8 b 0, u8 b 1, u8 b 2) :: readings3 n (b.drop 3)

/-- RPT_RECEIVE: a report whose MAC passes gives its session the readings; one whose MAC fails is discarded and counts toward the
slot. -/
def rptReceive (pos : Nat) (frame : Bytes) (s : State) : State :=
  match s.lf.hold, crcGood frame with
  | some h, some b =>
    match s.rng.sessions.find? (fun x => x.req == h.id && x.pos == pos) with
    | none => s
    | some x =>
      let n := u8 b 1
      if h.phase ≠ .report || !s.subListens || !s.onRadio .reports || h.reports.contains pos || u8 b 0 ≠ x.slot || n ≠ s.nMeas || frame.length ≠ 8 + 3 * n then s
      else
        let s1 := s.setHold (some { h with reports := h.reports ++ [pos] })
        if slice b (2 + 3 * n) 4 = s.slotMac 0x06 x.slot x.tid (x.c ++ toBE 1 n ++ slice b 2 (3 * n)) 4 then
          (s1.updSess x.number (fun y => { y with readings := some (readings3 n (b.drop 2)) })).commitPoint
        else (s1.failSlot 0 x.slot).commitPoint
  | _, _ => s

/-- RPT_RECEIVE. -/
def execRptReceive (pos : Fin 8) (frame : Bytes) (s : State) : Out := .next (rptReceive pos.val frame s)

/-! ## LF-only returns (R108) -/

/-- What the Untur takes of a return slot: of the channels that listen, fitted and not FAILED, the frame of the strongest carrier whose CRC
passes, the lower channel where two are as strong (log entry 155); without one, whether a carrier was heard at all (R130). -/
def State.strongest (s : State) (heard : List Heard) : Option Bytes × Bool :=
  let mine := heard.filter (fun x => x.ch < 8 && s.chLive x.ch)
  let pick := fun (b : Option Heard) (x : Heard) =>
    if (crcGood x.frame).isNone then b
    else match b with
      | none => some x
      | some y => if y.strength < x.strength || (x.strength == y.strength && decide (x.ch < y.ch)) then some x else b
  ((mine.foldl pick none).map (·.frame), !mine.isEmpty)

/-- LF_RETURN_RECEIVE: checked as R88 with domain 0x03 and no counter step; the result of an accepted token is judged as the hold ends. A
further return of a token already accepted is checked and counted too, and adds no session. A slot in which a carrier but no good frame was
heard is collided. -/
def lfReturnReceive (k : Nat) (heard : List Heard) (s : State) : State :=
  match s.lf.hold with
  | none => s
  | some h =>
    if h.phase ≠ .returns || h.returned.contains k || h.collided.contains k then s
    else match s.strongest heard with
      | (none, false) => s
      | (none, true) => s.setHold (some { h with collided := h.collided ++ [k] })
      | (some frame, _) =>
        let b := frame.take (frame.length - 2)
        if frame.length ≠ 13 || u8 b 0 / 64 ≠ 2 then s.setHold (some { h with collided := h.collided ++ [k] })
        else
          let n := u8 b 0 % 64
          let field := u8 b 1
          let status := u8 b 2
          let s1 := s.setHold (some { h with returned := h.returned ++ [k] })
          let x := s.slot n
          if x.state = 0 then (s1.refuseAttempt 0 0xFF 0 0 h.req.code 0x0801).holdWhy 0x0801
          else
            let why := s.slotCheck 0 n
            if why ≠ 0 then (s1.refuseAttempt 0 n x.tid x.ctr h.req.code why).holdWhy why
            else if slice b 3 8 ≠ s.slotMac 0x03 n x.tid (h.c ++ toBE 1 status ++ toBE 1 field) 8 then
              (s1.refuseMac 0 n x.tid x.ctr h.req.code).holdWhy 0x0807
            else if h.members.any (fun m => m.slot == n) then (s1.authSucceed 0 n).journalAuth 0 n x.tid x.ctr h.req.code
            else
              let num := (s.rng.last + 1) % 2 ^ 32
              let s2 := (s1.authSucceed 0 n).journalAuth 0 n x.tid x.ctr h.req.code
              let s3 := { s2 with rng := { s2.rng with last := num } }
              let s4 := s3.updRequest h.id (fun r => { r with waiting := r.waiting + 1 })
              s4.setHold (some { h with returned := h.returned ++ [k]
                                        members := h.members ++ [⟨n, x.tid, field, status, field, x.ctr, 4, 0, some num⟩] })

/-- LF_RETURN_RECEIVE. -/
def execLfReturnReceive (rslot : Fin 4) (heard : List Heard) (s : State) : Out := .next (lfReturnReceive rslot.val heard s)

/-! ## Remote keyless entry (R111 to R113, R221) -/

/-- Table 4-11 for a frame that passes steps 1 to 7: 0 accepted, 0x10000 a repeat copy, else the reason; whether P matched. -/
def State.rkeCounter (s : State) (n ctr cmd : Nat) : Nat × Bool :=
  let l := (s.slot n).ctr
  let repeat_ := s.tok.accepted.any (fun a => a.slot == n && a.ctr == ctr && a.cmd == cmd
    && decide (s.mt ≤ a.mt + s.setting 0x0801 2000 * 1000))
  if ctr = l && repeat_ then (0x10000, false)
  else if ctr ≤ l then (0x0809, false)
  else
    let d := ctr - l
    let p := s.tok.resync.any (fun q => q.1 == n && ctr == q.2.1 + 1 && decide (s.mt ≤ q.2.2 + s.setting 0x0802 10000 * 1000))
    if d ≤ 256 then (if s.vaultUp then 0 else 0x080E, false)
    else if d ≤ 65536 then (if !p then 0x080B else if s.vaultUp then 0 else 0x080E, p)
    else (0x080A, false)

/-- The command of an accepted press (R221). -/
def State.rkeCommand (s : State) (n cmd : Nat) : State :=
  if !s.enabled .rel then s
  else match s.cmdEntry cmd with
    | none => s.rkeOut n 0 0x0901
    | some e =>
      let action := u8 e 1
      if u8 e 2 = 0 then s.rkeOut n action (if action = 0 then 0x0902 else 0)
      else if (s.plan 0).isNone || !s.enabled .rng then s.rkeOut n 0 0x090A
      else
        let r : LfReq := { code := 0x0C, cls := lfClass 0x0C false, lft := false, trig := false, host := false, learn := false
                           confirm := some (n, action) }
        let (s1, why) := s.raiseRequest r
        if why ≠ 0 then s1.rkeOut n 0 0x090A
        else { s1 with tok := { s1.tok with confirms := s1.tok.confirms ++ [(n, action, s1.mt)] } }

/-- An accepted press: L to the vault first, then the command; a press with the last counter retires the slot after it (R113). -/
def State.rkeAccept (s : State) (n tid ctr cmd : Nat) (resync : Bool) : State :=
  let s0 := if resync then s.event F.TOK_EVT_RESYNC else s
  let s1 := s0.acceptCtr n ctr
  let s2 := { s1 with tok := { s1.tok with
    resync := s1.tok.resync.filter (fun (q : Nat × Nat × Nat) => q.1 != n)
    accepted := s1.tok.accepted.filter (fun (a : RkeAccept) => a.slot != n) ++ [(⟨n, ctr, cmd, s1.mt⟩ : RkeAccept)] } }
  (((s2.authSucceed 1 n).journalAuth 1 n tid ctr 0x0C).rkeCommand n cmd).retireSpent 1 n

/-- Judges an RKE frame whose TAG is the Untur's. -/
def State.judgeRke (s : State) (b : Bytes) : State :=
  let ksn := be b 5 2
  let tid := be b 7 4
  let ctr := be b 11 4
  let cmd := u8 b 15
  if ksn ≠ s.vault.ksn then s.refuseAttempt 1 ((s.slotOfTid tid).getD 0xFF) tid ctr 0x0C 0x0808
  else if s.pathLocked 1 then s.refuseAttempt 1 0xFF tid ctr 0x0C 0x0806
  else match s.slotOfTid tid with
    | none => s.refuseUnknown 1 tid ctr 0x0C
    | some n =>
      let why := s.slotCheck 1 n
      if why ≠ 0 then s.refuseAttempt 1 n tid ctr 0x0C why
      else if slice b 16 4 ≠ s.slotMac 0x02 n tid (slice b 11 5) 4 then s.refuseMac 1 n tid ctr 0x0C
      else
        let (r, p) := s.rkeCounter n ctr cmd
        if r = 0x10000 then s
        else if r = 0 then s.rkeAccept n tid ctr cmd p
        else
          let s1 := if r = 0x0809 then s.replay n
            else if r = 0x080B then { s with tok := { s.tok with resync := s.tok.resync.filter (fun (q : Nat × Nat × Nat) => q.1 != n) ++ [(n, ctr, s.mt)] } }
            else s
          s1.refuseAttempt 1 n tid ctr 0x0C r

/-- RKE_FRAME: the receiver of the radio island in RUN, or that of a sniff detection, takes a good frame, which ends the detection's wait;
one with another TAG is ignored silently. A copy that met a sweep's gap is lost (R164, R172). -/
def rkeFrame (frame : Bytes) (rssi : Nat) (s : State) : State :=
  match crcGood frame with
  | none => s
  | some b =>
    let on := s.island 9 == 2 || s.rf.detect.isSome
    if !on || !s.subListens || s.copyCut || frame.length ≠ 22 || u8 b 0 / 64 ≠ 3 then s
    else
      let s0 := if s.rf.detect.isSome then s.bump F.RF_SNIFF_HITS else s
      let s1 := ({ s0 with rf := { s0.rf with detect := none } }).lastRssi rssi
      let s2 := if !s1.enabled .tok || be b 1 4 ≠ s1.vault.deviceTag then s1 else (s1.touch).judgeRke b
      if s.rf.detect.isSome then (if s2.rf.onAir.isNone then s2.releaseIdle.rfIdle else s2.releaseIdle) else s2

/-- RKE_FRAME. -/
def execRkeFrame (frame : Bytes) (rssi : BitVec 8) (s : State) : Out := .next (rkeFrame frame rssi.toNat s)

/-- RKE_CONFIRM_TIMEOUT: 1 s after the acceptance the command is refused with 0x090A. -/
def rkeConfirmTimeout (slot : Nat) (s : State) : State :=
  match s.tok.confirms.find? (fun (c : Nat × Nat × Nat) => c.1 == slot && decide (c.2.2 + 1000000 ≤ s.mt)) with
  | none => s
  | some c => (({ s with tok := { s.tok with confirms := s.tok.confirms.erase c } }).rkeOut slot 0 0x090A).retireSpent 1 slot

/-- RKE_CONFIRM_TIMEOUT. -/
def execRkeConfirmTimeout (slot : Fin 64) (s : State) : Out := .next (rkeConfirmTimeout slot.val s)

/-! ## Lockout (R114) -/

/-- LOCK_EXPIRY: a lock that has run out ends; LEVEL stays. -/
def lockExpiry (i : Nat) (s : State) : State :=
  if i < 64 then s.setSlot i ((s.slot i).settle s.mt) else s.setPath (i - 64) ((s.pathRec (i - 64)).settle s.mt)

/-- LOCK_EXPIRY. -/
def execLockExpiry (index : Fin 68) (s : State) : Out := .next (lockExpiry index.val s)

/-- FAILURE_AGE_OUT: failures older than 10 min leave the count; while a lock lasts it holds. -/
def failureAgeOut (i : Nat) (s : State) : State :=
  if i < 64 then
    let x := (s.slot i).settle s.mt
    s.setSlot i (if x.locked then x else { x with fails := recentFails x.fails s.mt })
  else
    let x := (s.pathRec (i - 64)).settle s.mt
    s.setPath (i - 64) (if x.locked then x else { x with fails := recentFails x.fails s.mt })

/-- FAILURE_AGE_OUT. -/
def execFailureAgeOut (index : Fin 68) (s : State) : Out := .next (failureAgeOut index.val s)

/-! ## Suspend and resume (R95) -/

/-- Moves a slot between ACTIVE and SUSPENDED; journaled with REASON 0x0802 or 0. -/
def slotStateOp (source target n : Nat) (s : State) : MbRes :=
  if 63 < n || (s.slot n).state ≠ source then mbRefuse s 0x081D
  else
    let x := s.slot n
    let s1 := s.setSlot n { x with state := target }
    mbOk (s1.journal 0x0801 (if target = 2 then 0x0802 else 0) .tok 0 (s1.authBody 0 n x.tid x.ctr 0xFF)) (toLE 1 target)

/-- SLOT_SUSPEND. -/
def execSlotSuspend (slot : BitVec 8) (s : State) : Out :=
  .next (mailboxCommand 0x0805 (toLE 1 slot.toNat) (slotStateOp 1 2 slot.toNat) s)

/-- SLOT_RESUME. -/
def execSlotResume (slot : BitVec 8) (s : State) : Out :=
  .next (mailboxCommand 0x0806 (toLE 1 slot.toNat) (slotStateOp 2 1 slot.toNat) s)

end Sys2Proof.Machine
end

