-- ==== Sys2Proof/Machine/Radio.lean ====
section
/-! DEFINITION. Chapter 6: the radio sequencer's queue, locks and states, the RKE sniff, the radio calibrations and what they take out of
use, test transmissions, and RF going up and down. -/
namespace Sys2Proof.Machine

open Sys2Proof

/-! ## The sequencer (R163 to R169) -/

/-- STATE while an operation is on air (Table 6-4). -/
def opState : RadioOp → Nat
  | .rxSub _ => 3 | .tx24 => 5 | .rx24 => 6 | .sweep => 7 | .flick => 8

/-- The CRY, response-slot and RPT positions of the request in progress, in MT (R103, R105, R107). -/
def State.subPositions (s : State) : List (Nat × Nat) :=
  match s.lf.hold with
  | none => []
  | some h => match h.phase with
    | .answers => [(h.wakeEnd + 2000, h.wakeEnd + 46000)]
    | .cry => [(h.chalEnd + 1450, h.chalEnd + 1500 + 9000 * h.members.length)]
    | .report => match h.lmeasEnd with
      | some e => [(e + 1000, e + 1000 + h.members.length * (5300 + 1200 * s.nMeas))]
      | none => []
    | .returns | .lft => []

/-- Whether a sweep of `us` from MT `t` on would lay its gap, 80 us on both sides, over such a position (R164; log entry 178). -/
def State.gapHits (s : State) (t us : Int) : Bool :=
  s.subPositions.any (fun p => decide (t - 80 < (p.2 : Int)) && decide ((p.1 : Int) < t + us + 80))

/-- RADIO_COMMAND: a command joins the queue, or is refused (R168). A sweep whose gap would meet a position of the request in progress is not
placed (R164), nor a transmission on 2.4 GHz without its transmitter (R177). -/
def radioCommand (op : RadioOp) (start ticks power : Nat) (s : State) : State :=
  let past := s.rtPast start
  let t : Int := if past < 2 ^ 47 then (s.mt : Int) - (past / 40960 : Nat) else (s.mt : Int) + ((2 ^ 48 - past) / 40960 : Nat)
  if opSends op && !s.flag F.RF_STAT_TX24_OK then s
  else if op = .sweep && s.gapHits t (ticks / 40960 : Nat) then s
  else (s.queueRadio ⟨op, start, ticks, power, .plain⟩).1

/-- RADIO_COMMAND. -/
def execRadioCommand (op : RadioOp) (start : BitVec 48) (ticks : Nat) (power : BitVec 8) (s : State) : Out :=
  .next (radioCommand op start.toNat ticks power.toNat s)

/-- Clears the consecutive misses of a synthesiser. -/
def State.synOk (s : State) (n : Nat) : State := { (s.synLock n true) with rf := { s.rf with misses := s.rf.misses.set n 0 } }

/-- The power a transmit command of the sequencer goes out with; it stands in RF_TXPWR. -/
def State.applyPower (s : State) (op : RadioOp) (power : Nat) : State :=
  match op with
  | .tx24 => s.put F.RF_TXPWR_CHAL_APPLIED (s.txPower power)
  | .sweep | .flick => s.put F.RF_TXPWR_RNG_APPLIED (s.txPower power)
  | .rxSub _ | .rx24 => s

/-- What a command that goes on air brings with its job: CHAL is sent and dates what follows it, an exchange begins, stamped with its actual
start (R166, R167, R208). -/
def State.jobStarts (s : State) (c : RadioCmd) : State :=
  match c.job with
  | .chal frame =>
    let s1 := s.tokSent24 frame
    match s1.lf.hold with
    | none => s1
    | some h => s1.setHold (some { h with chalOut := 1, chalEnd := s1.mt + 40 + 8 * frame.length })
  | .sweep n => ({ s with rng := { s.rng with onAir := some n } }).updSess n (fun x => { x with rtS := c.start })
  | .plain | .answers | .crys | .reports | .flick _ | .srep _ => s

/-- A sweep goes on air: its tones; with both synthesisers SYN0 is lent to it (R163). -/
def State.sweepStarts (s : State) (op : RadioOp) : State :=
  if op = .sweep then { s with rf := { s.rf with tones := s.sweepTones, lent := !s.oneSyn, back := none } } else s

/-- The locked command goes on air, stamped with its actual start; a receive window keeps its end; what the same originator placed behind a
late start moves with it (R167). -/
def State.goOnAir (s : State) (c : RadioCmd) (rest : List RadioCmd) : State :=
  let lateBy := s.rtPast c.start
  let c1 : RadioCmd := { c with start := s.tim.rt.toNat, ticks := if opSends c.op then c.ticks else c.ticks - lateBy }
  let later := if c.job = .plain then rest
    else rest.map (fun (d : RadioCmd) => if d.job = .plain then d else { d with start := (d.start + lateBy) % 2 ^ 48 })
  let s1 := { s with rf := { s.rf with queue := later, onAir := some c1, lastPower := c.power } }
  let s2 := (if opSends c.op then s1.paMeasure else s1).sweepStarts c.op
  ((s2.applyPower c.op c.power).jobStarts c1).rfState (opState c.op)

/-- A test that waits for its lock starts, with the power of its path: SUBTX_DBM2 of its band entry on sub-GHz (R177; log entry 158). -/
def State.testOn (s : State) : State :=
  let mode := s.get F.RF_TEST_MODE
  let sub := decide (mode ≤ 2)
  let s1 := ({ s with rf := { s.rf with test := false } }.synOk (s.synFor (if sub then 0 else 1))).putFlag F.RF_STAT_TEST_ON true
  let s2 := if mode = 5 then s1 else s1.paMeasure
  (if sub then s2.put F.RF_TXPWR_SUB_APPLIED (s2.txPower (u8 (s2.bandRec (s2.get F.RF_TEST_BAND)) 12))
   else s2).rfState 0xA

/-- LOCK_DETECT: the synthesiser of the command at the head of the queue has locked; once its start time is reached the command goes on air.
Without a command SYN0 is back from a sweep, or a test starts. -/
def lockDetect (s : State) : State :=
  if s.rf.onAir.isSome then s
  else match s.rf.queue with
    | c :: rest =>
      if s.sectionOut c.op then s
      else
        let s1 := s.synOk (s.opSyn c.op)
        let s2 := if s1.rf.lent && !opIs24 c.op then { s1 with rf := { s1.rf with lent := false } } else s1
        if s2.rtReached c.start then s2.goOnAir c rest else s2
    | [] =>
      if s.rf.lent then (({ s with rf := { s.rf with lent := false } }).synOk 0).rfIdle
      else if s.rf.test && s.upd.loading != some (if s.get F.RF_TEST_MODE ≤ 2 then 3 else 4) then s.testOn
      else s

/-- LOCK_DETECT. -/
def execLockDetect (s : State) : Out := .next (lockDetect s)

/-- A synthesiser is marked failed: one-synthesiser operation with 0x0603, or RF down with 0x0604 (R165). -/
def State.synFail (s : State) (n : Nat) : State :=
  let s1 := (((s.abortExchange).putFlag (if n = 0 then F.RF_STAT_SYN0_FAILED else F.RF_STAT_SYN1_FAILED) true).event F.RF_EVT_SYN_FAIL).redLoss 11
  if s1.flag F.RF_STAT_SYN0_FAILED && s1.flag F.RF_STAT_SYN1_FAILED then
    (({ s1 with rf := { s1.rf with queue := [], onAir := none } }).goDown .rf 0x0604).refreshRng
  else (s1.reason .rf 0x0603).refreshRng

/-- The originator hears that a command of its failed or was aborted: CHAL counts as lost, the rest of an exchange goes (R166). -/
def State.jobFails (s : State) (j : RadioJob) : State :=
  match j with
  | .chal _ => match s.lf.hold with
    | some h => s.setHold (some { h with chalOut := 2 })
    | none => s
  | .sweep n | .flick n | .srep n => s.dropExchange n
  | .plain | .answers | .crys | .reports => s

/-- Sessions that a takeover found with commands on air or queued restart once those have run (R170). -/
def State.dueTakeover (s : State) : State :=
  if s.rf.takeover && s.rf.onAir.isNone && s.rf.queue.isEmpty then ({ s with rf := { s.rf with takeover := false } }).restartSessions else s

/-- LOCK_TIMEOUT: the command fails with 0x0601, its response slots count as empty; the oscillator calibration reruns; the third miss in a
row fails the synthesiser (R165, R167). -/
def lockTimeout (s : State) : State :=
  if s.get F.RF_STAT_STATE ≠ 2 then s
  else
    let syn := match s.rf.queue with
      | c :: _ => s.opSyn c.op
      | [] => if s.rf.lent then 0 else s.synFor (if s.get F.RF_TEST_MODE ≤ 2 then 0 else 1)
    let slots := match s.rf.queue with | ⟨.rxSub n, _, _, _, _⟩ :: _ => n | _ => 0
    let miss := s.rf.misses.getD syn 0 + 1
    let cal := match s.rf.cal with | some c => some c | none => some ⟨0, 1, false, some syn⟩
    let idle := s.rf.queue.isEmpty
    let s0 := match s.rf.queue with
      | c :: _ => let t := s.jobFails c.job; { t with rf := { t.rf with queue := t.rf.queue.erase c } }
      | [] => s
    let s1 := { s0 with rf := { s0.rf with misses := s.rf.misses.set syn miss, cal := cal, lent := s.rf.lent && !idle
                                           test := s.rf.test && (!idle || s.rf.lent) } }
    let s2 := (((s1.event F.RF_EVT_SYN_BUSY).bumpBy F.RF_CNT_SYN_BUSY (1 + slots)).reason .rf 0x0601).synLock syn false
    ((if 3 ≤ miss then s2.synFail syn else s2).rfIdle).dueTakeover

/-- LOCK_TIMEOUT. -/
def execLockTimeout (s : State) : Out := .next (lockTimeout s)

/-- LOCK_LOSS: the PA goes off and what is on air is aborted with 0x0602; an exchange is aborted with 0x0717 (R166, R209). -/
def lockLoss (s : State) : State :=
  let lost := fun (t : State) => ((((t.event F.RF_EVT_LOCK_LOSS).bump F.RF_CNT_LOCK_LOSS).reason .rf 0x0602).rfIdle).dueTakeover
  if s.flag F.RF_STAT_TEST_ON then lost ((s.endTest).synLock (s.synFor (if s.get F.RF_TEST_MODE ≤ 2 then 0 else 1)) false)
  else match s.rf.onAir with
    | some c =>
      match c.op with
      | .tx24 | .sweep | .flick =>
        lost ((((({ s with rf := { s.rf with onAir := none, lent := false, back := if s.rf.lent then some s.mt else s.rf.back } }).synLock (s.opSyn c.op) false).abortExchange).jobFails c.job))
      | .rxSub _ | .rx24 => s
    | none => s

/-- LOCK_LOSS. -/
def execLockLoss (s : State) : Out := .next (lockLoss s)

/-- WINDOW_END: the operation on air ends; a sub-GHz window leaves the noise floor, a sweep sends SYN0 back, the end of SREP's window ends the
exchange. -/
def windowEnd (floor : Nat) (s : State) : State :=
  match s.rf.onAir with
  | none => s
  | some c =>
    let gap := s.rf.lent || (s.oneSyn && opIs24 c.op)
    let s1 := { s with rf := { s.rf with onAir := none, back := if gap then some s.mt else s.rf.back } }
    let s2 := match c.op with
      | .rxSub _ => s1.put F.RF_RSSI_FLOOR floor
      | .tx24 | .rx24 | .sweep | .flick => s1
    let s3 := match c.job with
      | .srep n => s2.dropExchange n
      | _ => s2
    (s3.rfIdle).dueTakeover

/-- WINDOW_END. -/
def execWindowEnd (floor : BitVec 8) (s : State) : Out := .next (windowEnd floor.toNat s)

/-! ## The RKE sniff (R162, R171 to R173) -/

/-- The sniff threshold in force: DET_DBM, raised by 6 dB. -/
def State.showThreshold (s : State) (raised : Bool) : State :=
  (s.put F.RF_SNIFF_STAT_THR (unsigned 8 (s.detDbm + (if raised then 6 else 0)))).putFlag F.RF_SNIFF_STAT_RAISED raised

/-- Whether RKE_SNIFF_MS of PT have passed since the last sniff, within a tick (R171). -/
def State.sniffDue (s : State) : Bool := decide (s.setting 0x0601 80 * 32768 / 1000 ≤ (s.pilot.pt - s.rf.sniffPt).toNat + 1)

/-- RKE_SNIFF: every RKE_SNIFF_MS of PT the tick makes a sniff while the radio island would otherwise be in NAP: SYN0 locks, the RSSI is
measured, and with energy the receiver stays on (R171, R172). -/
def rkeSniff (windows : List (BitVec 8)) (s : State) : State :=
  if !s.subListens || s.flag F.RF_CTL_SNIFF_HOLD || s.setting 0x0602 0 ≠ 0 || s.votes 9 ≠ 0 || s.lf.hold.isSome || s.rf.detect.isSome
      || s.flag F.PWR_STAT_BROWNOUT || !s.sniffDue then s
  else
    let s1 := ({ s with rf := { s.rf with sniffPt := s.pilot.pt } }).bump F.RF_SNIFF_SNIFFS
    if energyIn (signed 8 (s.get F.RF_SNIFF_STAT_THR)) s.extSub 0 windows then
      let s2 := { s1 with rf := { s1.rf with detect := some s.mt } }
      (((s2.raiseVote 0 9 false).raiseVote 0 (1 + s2.activePair) false).synLock 0 true).rfState 3
    else s1.rfState 0

/-- RKE_SNIFF. -/
def execRkeSniff (windows : List (BitVec 8)) (s : State) : Out := .next (rkeSniff windows s)

/-- FALSE_DETECTION: 330 ms without a good frame; the twentieth within 60 s of PT raises the threshold with 0x0611. -/
def falseDetection (s : State) : State :=
  match s.rf.detect with
  | none => s
  | some t =>
    if s.mt < t + 330000 then s
    else
      let recent := s.rf.falses.filter (fun (p : Word) => (s.pilot.pt - p).toNat < 60 * 32768) ++ [s.pilot.pt]
      let raise := decide (20 ≤ recent.length) && !s.flag F.RF_SNIFF_STAT_RAISED
      let s1 := ({ s with rf := { s.rf with detect := none, falses := if raise then [] else recent } }).bump F.RF_SNIFF_FALSE
      let s2 := if raise then
          let u := { s1 with rf := { s1.rf with raisedPt := s.pilot.pt } }
          (((u.showThreshold true).event F.RF_EVT_SNIFF_RAISED).reason .rf 0x0611).journal 0x0601 0x0611 .rf 0 (toLE 1 6)
        else s1
      (s2.releaseIdle).rfIdle

/-- FALSE_DETECTION. -/
def execFalseDetection (s : State) : Out := .next (falseDetection s)

/-- SNIFF_THRESHOLD_RESTORE: 600 s of PT after it was raised the threshold is DET_DBM again. -/
def sniffThresholdRestore (s : State) : State :=
  if s.flag F.RF_SNIFF_STAT_RAISED && decide (600 * 32768 ≤ (s.pilot.pt - s.rf.raisedPt).toNat) then s.showThreshold false else s

/-- SNIFF_THRESHOLD_RESTORE. -/
def execSniffThresholdRestore (s : State) : Out := .next (sniffThresholdRestore s)

/-- A write of SNIFF_HOLD that changes it is journaled. -/
def sniffHold (b : Bool) (s : State) : State :=
  if s.flag F.RF_CTL_SNIFF_HOLD = b then s else (s.putFlag F.RF_CTL_SNIFF_HOLD b).journal 0x0601 0 .rf 0 (toLE 1 (bit b))

/-! ## Calibrations (R174 to R177) -/

/-- The fault that a chain's calibration finds: 0 none, 1 gain, 2 image rejection, 3 an offset at its end stop. -/
def chainFault (c : ChainFact) : Nat := if c.gain < -20 then 1 else if c.irr < 20 then 2 else if c.stop then 3 else 0

/-- Takes a chain's findings. -/
def State.calChain (s : State) (n : Nat) (c : ChainFact) : State :=
  if !Nat.testBit s.chainMask n then s
  else
    let off := s.flag (F.RF_CHn_CTL_OFF n)
    let f := chainFault c
    let fresh_ := decide (f ≠ 0) && !s.flag (F.RF_CHn_STAT_FAILED n)
    let s1 := (((s.put (F.RF_CHn_STAT_IRR n) (min c.irr 255)).put (F.RF_CHn_STAT_GAIN_ERR n) (unsigned 8 c.gain)).put (F.RF_CHn_STAT_FAULT n)
      (if off then 4 else f)).putFlag (F.RF_CHn_STAT_FAILED n) (decide (f ≠ 0))
    let s2 := ((s1.putFlag (F.RF_CHn_STAT_OFF n) off).putFlag (F.RF_CHn_STAT_UP n) (decide (f = 0) && !off)).put (F.RF_CHn_CAL_DELAY n) c.delay
    let at2440 := if n = 0 then 0 else (roundRat (calAt c.points 2440 * 512 / 360) % 512).toNat
    let s3 := ({ s2 with rf := { s2.rf with points := s2.rf.points.set n (if n = 0 then [] else c.points) } }).put (F.RF_CHn_CAL_PHASE n) at2440
    if fresh_ then ((s3.event F.RF_EVT_CHAIN_FAIL).redLoss 10).reason .rf 0x0605
    else if f = 0 && decide (c.irr < 30) then s3.reason .rf 0x060D
    else s3

/-- CHAINS_UP and what ranging can do with them: 0x0606 below 3 chains; RNG goes down with 0x0706 without a chain or without the
transmitter (R176, R210). -/
def State.chainsChanged (s : State) : State :=
  let up := s.chainsUp.length
  let s1 := (s.put F.RF_STAT_CHAINS_UP up).refreshRng
  if s1.enabled .rng && (up == 0 || !s1.flag F.RF_STAT_TX24_OK) then (s1.goDown .rng 0x0706).refreshRng else s1

/-- FAIL of RF_CAL_STAT: calibrations 3, 4, 5 and 7 find what R176 and R177 name; of the others the run reports (Table 6-5). -/
def State.calFaults (s : State) (f : CalFacts) (tx : Bool) : Nat :=
  let chains := (f.chains.zip (List.range 4)).filter (fun (p : ChainFact × Nat) => Nat.testBit s.chainMask p.2)
  let stop := chains.any (fun p => p.1.stop) || f.sub.stop
  (f.faults &&& 0x23) ||| (4 * bit stop) ||| (8 * bit (chains.any (fun p => decide (p.1.irr < 20)))) ||| (16 * bit (decide (f.sub.irr < 20)))
    ||| (64 * bit (!tx))

/-- The results of a full calibration are applied, and the enable checks of what is down run again (R175, R176, R210). -/
def State.applyCal (s : State) (cause : Nat) (f : CalFacts) : State :=
  let s1 := (f.chains.zip (List.range 4)).foldl (fun (t : State) (p : ChainFact × Nat) => t.calChain p.2 p.1) s
  let some_ := (List.range 4).any (fun n => s1.flag (F.RF_CHn_STAT_FAILED n))
  let s2 := if some_ then s1 else s1.redClear 10
  let s3 := if (s2.chainsUp).length < 3 && some_ then s2.reason .rf 0x0606 else s2
  let sub := chainFault f.sub
  let s4 := ((s3.putFlag F.RF_SUB_STAT_FAILED (decide (sub ≠ 0))).putFlag F.RF_SUB_STAT_UP (decide (sub = 0))).putFlag F.RF_STAT_SUB_OK (decide (sub = 0))
  let s5 := (s4.put F.RF_SUB_STAT_IRR (min f.sub.irr 255))
  let s6 := if sub ≠ 0 then (s5.event F.RF_EVT_CHAIN_FAIL).reason .rf 0x0607
    else if f.sub.irr < 30 then s5.reason .rf 0x060D else s5
  let tx := decide (f.txErr ≤ 6)
  let s7 := s6.putFlag F.RF_STAT_TX24_OK tx
  let s8 := if tx then s7 else s7.reason .rf 0x0608
  let s9 := (((s8.put F.RF_CAL_STAT_FAIL (s8.calFaults f tx)).put F.RF_CAL_STAT_CAUSE cause).bump F.RF_CAL_STAT_COUNT).event F.RF_EVT_CAL_DONE
  let s10 := ((s9.put F.RF_TEMP_CAL_T f.temp.toNat).put F.RF_TEMP_NOW_T f.temp.toNat).put F.RF_CAL_MT_MT (s.mt % 2 ^ 32)
  ({ s10 with rf := { s10.rf with cal := none, runUs := 0 } }.putFlag F.RF_STAT_CAL_BUSY false).chainsChanged

/-- A full calibration falls due; it starts while the queue is empty and no request holds the LF air. -/
def State.calWanted (s : State) (cause : Nat) : State :=
  match s.rf.cal with
  | some c => if c.oscOnly.isNone then s else { s with rf := { s.rf with cal := some ⟨cause, 1, c.running, none⟩ } }
  | none => { s with rf := { s.rf with cal := some ⟨cause, 1, false, none⟩ } }

/-- Starts a calibration that waits. -/
def State.calBegin (s : State) : State :=
  match s.rf.cal with
  | some c =>
    if c.running || !s.rf.queue.isEmpty || s.rf.onAir.isSome || s.lf.hold.isSome || s.flag F.RF_STAT_TEST_ON || s.rf.test || s.rf.lent || !s.enabled .rf || s.onRc
        || s.upd.loading == some 3 || s.upd.loading == some 4 then s
    else ({ s with rf := { s.rf with cal := some { c with running := true } } }.putFlag F.RF_STAT_CAL_BUSY true).rfState 9
  | none => s

/-- CAL: the host asks for a full calibration. -/
def cal (s : State) : State := if !s.enabled .rf then s else (s.calWanted 4).calBegin

/-- CAL. -/
def execCal (s : State) : Out := .next (cal s)

/-- CAL_DUE: the temperature has moved by CAL_TEMP_DC, or CAL_PERIOD_H has passed in RUN. -/
def calDue (temp : Nat) (s0 : State) : State :=
  let s := s0.put F.RF_TEMP_NOW_T temp
  let moved := (signed 8 temp - signed 8 (s.get F.RF_TEMP_CAL_T)).natAbs
  if !s.enabled .rf then s
  else if s.setting 0x0603 15 ≤ moved then (s.calWanted 2).calBegin
  else if s.setting 0x0604 24 * 3600000000 ≤ s.rf.runUs then (s.calWanted 3).calBegin
  else s.calBegin

/-- CAL_DUE. -/
def execCalDue (temp : BitVec 8) (s : State) : Out := .next (calDue temp.toNat s)

/-- CAL_STEP_END: a step ends. The last step of a calibration leads to the next one of Table 6-5, that of the last applies the results;
the rerun of one synthesiser's oscillator calibration ends with its own. -/
def calStepEnd (last : Bool) (facts : CalFacts) (s0 : State) : State :=
  let s := s0.calBegin
  match s.rf.cal with
  | none => s
  | some c =>
    if !c.running || !last || s.upd.loading == some 3 || s.upd.loading == some 4 then s
    else if c.oscOnly.isSome then
      (({ s with rf := { s.rf with cal := none } }).putFlag F.RF_STAT_CAL_BUSY false).rfIdle
    else if c.step < 7 then { s with rf := { s.rf with cal := some { c with step := c.step + 1 } } }
    else ((s.applyCal c.cause facts).recheck).rfIdle

/-- CAL_STEP_END. -/
def execCalStepEnd (last : Bool) (facts : CalFacts) (s : State) : Out := .next (calStepEnd last facts s)

/-- A write of OFF to a chain: 1 takes it out from the next command, with 0x0606 where fewer than 3 stay in use; 0 returns it at the next
calibration it passes. -/
def chainOff (n : Nat) (b : Bool) (s : State) : State :=
  let s1 := s.putFlag (F.RF_CHn_CTL_OFF n) b
  if !b || !s.enabled .rf then s1
  else
    let s2 := (((s1.putFlag (F.RF_CHn_STAT_OFF n) true).putFlag (F.RF_CHn_STAT_UP n) false).put (F.RF_CHn_STAT_FAULT n) 4).chainsChanged
    if s.flag (F.RF_CHn_STAT_UP n) && decide (s2.chainsUp.length < 3) then s2.reason .rf 0x0606 else s2

/-! ## Test transmissions (R178) -/

/-- TEST_START: refused with 0x060F while a request holds the LF air; else the test of MODE starts its lock once the queue is empty. Without
its transmitter 2.4 GHz sends no test (R177). -/
def testStart (w : Nat) (s : State) : State :=
  if !s.enabled .rf then s
  else if s.lf.hold.isSome then s.reason .rf 0x060F
  else
    let mode := bits w 27 24
    let s0 := s.setReg R.RF_TEST (w % 2 ^ 24 + s.get F.RF_TEST_MODE * 2 ^ 24)
    let s1 := if mode ≤ 5 then s0.put F.RF_TEST_MODE mode else s0
    if mode = 0 || 5 < mode || ((mode = 3 || mode = 4) && !s1.flag F.RF_STAT_TX24_OK) then s1
    else
      let s2 := s1.abandonCal.endTest
      let s3 := { s2 with rf := { s2.rf with test := true } }
      if s3.rf.onAir.isNone then s3.rfIdle else s3

/-- TEST_START. -/
def execTestStart (value : Word) (s : State) : Out := .next (testStart value.toNat s)

/-- TEST_STOP: the output is off, the sequencer returns to IDLE. -/
def testStop (s : State) : State := (s.endTest).rfIdle

/-- TEST_STOP. -/
def execTestStop (s : State) : Out := .next (testStop s)

/-! ## RF goes up and down (R174, R182) -/

/-- RF is enabled: its registers show the image, and the start calibration gives its results. -/
def State.rfEnabled (s : State) (cause : Nat) (f : CalFacts) : State :=
  let s1 := (s.put F.RF_STAT_FITTED s.chainMask).putFlag F.RF_STAT_REF_RC false
  let s2 := ((s1.put F.RF_SUB_STAT_BAND s.bandNo).put F.RF_SUB_STAT_FILT s.wideFilter).showThreshold (s.flag F.RF_SNIFF_STAT_RAISED)
  let s3 := if s2.flag F.RF_STAT_TX_CAPPED then s2 else s2.put F.RF_TXPWR_CAP 0x7F
  (s3.applyCal cause f).rfIdle

/-- The reference falls to the RC: every path off, what was queued or on air is gone, RF goes down with 0x0229 and REF_LOST (R182). -/
def State.rfRefLost (s : State) : State :=
  let s1 := ((s.abortExchange).abandonCal).endTest
  let s2 := { s1 with rf := { s1.rf with queue := [], onAir := none, cal := none, detect := none, lent := false, test := false } }
  let s3 := (((s2.synLock 0 false).synLock 1 false).putFlag F.RF_STAT_REF_RC true).rfState 0xF
  if s3.enabled .rf then (((s3.event F.RF_EVT_REF_LOST).reason .rf 0x0610).goDown .rf 0x0229).refreshRng else s3

end Sys2Proof.Machine
end

