-- ==== Sys2Proof/Machine/Learn.lean ====
section
/-! DEFINITION. Learning (R89 to R94, R192): the session, Sequence 4-1 from the TID read to the slot, the commit of the new set. LEARN_TOKEN
itself stands in Nfc.lean, since a class C token is read at the reader antenna. -/
namespace Sys2Proof.Machine

open Sys2Proof

/-- KSN of the set being learned. -/
def State.newKsn (s : State) : Nat := s.vault.ksn + 1

/-- LEARN_OPEN of TOK_SET and the progress word (R91). -/
def State.showLearn (s : State) : State :=
  match s.tok.learn with
  | none => (s.putFlag F.TOK_SET_LEARN_OPEN false).setReg R.TOK_LEARN_PROG 0
  | some l =>
    let n := l.tokens.length
    let w := 100 * n / (max 1 l.planned) * 2 ^ 24 + n
    (s.putFlag F.TOK_SET_LEARN_OPEN true).setReg R.TOK_LEARN_PROG w

/-- Replaces the learning session. -/
def State.setLearn (s : State) (l : Option Learn) : State := ({ s with tok := { s.tok with learn := l } }).showLearn

/-- A learning command, refused or not, restarts the 30 min of an open session (R90). -/
def State.touchLearn (s : State) : State :=
  { s with tok := { s.tok with learn := s.tok.learn.map (fun (l : Learn) => { l with lastMt := s.mt }) } }

/-- The learn open command (R89, R91, Table 4-5). -/
def learnOpenOp (n : Nat) (auth : Bytes) (s0 : State) : MbRes :=
  let s := s0.touchLearn
  if !s.inService then mbFail s .tok 0x0226
  else if auth.length ≠ s.authLen then mbRefuse s 0x100C
  else if s.tok.learn.isSome then mbFail s .tok 0x0810
  else
    let a := s.checkAuth 0 (toLE 1 n) auth
    let t := a.1
    if a.2 ≠ 0 then mbFail t .tok 0x0812
    else if n = 0 || 64 < n then mbFail t .tok 0x0817
    else if t.vault.ksn = 0xFFFF then mbFail t .tok 0x081B
    else if t.prepReason ≠ 0 then mbFail t .tok t.prepReason
    else
      let t1 := { t with keys := { t.keys with prep := .learning } }
      mbOk ((((t1.setLearn (some ⟨n, [], t.mt, none⟩)).refreshKeys).reason .tok 0)) (toLE 2 t.newKsn)

/-- LEARN_OPEN. -/
def execLearnOpen (n : BitVec 8) (auth : Bytes) (s : State) : Out :=
  .next (mailboxCommand 0x0801 (toLE 1 n.toNat ++ auth) (learnOpenOp n.toNat auth) s)

/-- The detection of a learning step ends, and the reader's vote with it. -/
def State.endLearnCard (s : State) : State :=
  if (match s.nfc.detection with | some d => d.learn | none => false) then
    ({ s with nfc := { s.nfc with detection := none, armed := false, below := none } }).withdrawVote 0 12
  else s

/-- The learning session goes; the old set stays in force. -/
def State.dropLearn (s : State) : State :=
  let s0 := s.endLearnCard
  let s1 := { s0 with keys := { s0.keys with prep := .none }
                      tok := { s0.tok with commitWait := none } }
  let s2 := if (match s1.lf.hold with | some h => h.req.learn | none => false) then s1.setHold none else s1
  (((s2.setLearn none).refreshKeys).event F.TOK_EVT_LEARN_ABORT)

/-! ## Sequence 4-1 -/

/-- The token's step ends: the session stays open, the command is answered, and the coil or the antenna is free. -/
def State.endLearnStep (s : State) (code : Nat) (out : Bytes) : State :=
  let l := s.tok.learn.map (fun (l : Learn) => { l with current := none, lastMt := s.mt })
  let s1 := ((s.setLearn l).reason .tok code).finish code out
  let s2 := s1.endLearnCard
  if (match s2.lf.hold with | some h => h.req.learn | none => false) then s2.endHold 0 else s2

/-- Steps 1 and 2: N, the TID, the unwrapped TS; the record as it goes on to step 3. -/
def State.learnBegin (s : State) (record : Bytes) : Except Nat LearnStep :=
  let tid := le record 0 4
  let typ := u8 record 4
  let cls := u8 record 5
  match s.tok.learn with
  | none => .error 0x0811
  | some l =>
    if record.length ≠ 56 || tid = 0 || tid = 0xFFFFFFFF || !allZero (slice record 6 2) || !allZero (slice record 0x30 8) then .error 0x100C
    else match s.typeEntry typ with
      | none => .error 0x100C
      | some e =>
        if u8 e 1 ≠ cls then .error 0x100C
        else if s.ringLocked then .error 0x0A14
        else if l.planned ≤ l.tokens.length then .error 0x0817
        else if l.tokens.any (fun t => t.tid == tid) then .error 0x0816
        else match s.ring.find? (fun r => r.kind == 4) with
          | none => .error 0x0813
          | some k => match Crypto.kwUnwrap k.key (slice record 8 40) with
            | none => .error 0x0813
            | some ts => .ok ⟨tid, typ, cls, ts, [], false, 0⟩

/-- The current step of the session. -/
def State.learnStep (s : State) : Option LearnStep := s.tok.learn.bind (·.current)

/-- The slot that the token being learned takes. -/
def State.learnSlot (s : State) : Nat := match s.tok.learn with | some l => l.tokens.length | none => 0

/-- KEYLOAD (Table 4-8) without a CRC. -/
def State.keyload (s : State) (x : LearnStep) (sk : Bytes) : Bytes :=
  let body := toBE 4 s.group ++ toBE 4 s.vault.deviceTag ++ toBE 2 s.newKsn ++ toBE 1 s.learnSlot ++ toBE 4 x.tid ++ Crypto.kwWrap x.ts sk
  toBE 1 0x31 ++ body ++ (padTo 16 (Crypto.cmac x.ts (toBE 1 0x10 ++ body))).take 8

/-- Steps 3 and 4: the answer to the all-0 challenge names the TID of the record with CRYPTO all 0; SK is drawn and KEYLOAD goes out, its
TS wiped. While the entropy source is failed no slot key is drawn: 0x0A0D (R258). -/
def State.learnRead (s : State) (arsp : Bytes) : State :=
  match s.tok.learn, s.learnStep with
  | some l, some x =>
    if x.loaded then s
    else if arsp.length ≠ 18 || u8 arsp 0 ≠ 0x34 || be arsp 2 4 ≠ x.tid || !allZero (slice arsp 10 8) then s.endLearnStep 0x0814 []
    else if s.entropyFailed then s.endLearnStep 0x0A0D []
    else
      let sk := s.drawnPr 32
      let s1 := (s.freshPr 32).tokSent (let b := s.keyload x sk; if x.cls = 2 then b else withCrc b)
      s1.setLearn (some { l with current := some { x with ts := [], sk := sk, loaded := true, sentMt := s.mt } })
  | _, _ => s

/-- A MAC under the key being learned. -/
def State.learnMac (s : State) (x : LearnStep) (d : Nat) (body : Bytes) (n : Nat) : Bytes :=
  (padTo 16 (Crypto.cmac x.sk (s.macHeader d s.newKsn s.learnSlot x.tid ++ body))).take n

/-- The calibration exchanges with their CSENT, drawn in turn: the values they give, and the state after the draws (R192). -/
def State.turnValues (x : LearnStep) (c kr : Bytes) : List CalExchange → State → List Rat × State
  | [], s => ([], s)
  | e :: es, s =>
    let rest := State.turnValues x c kr es (s.fresh 4)
    match s.turnValue s.learnSlot c kr (s.learnMac x) (beNat (s.drawn 4)) e with
    | some v => (v :: rest.1, rest.2)
    | none => rest

/-- The turnaround calibration, behind an AREQ with a fresh challenge: TURN, the median rounded down, or the reason 0x0818, 0x0715 or 0x0819. -/
def State.learnTurn (s : State) (x : LearnStep) (arsp : Bytes) (exchanges : List CalExchange) : State × Except Nat Nat :=
  if !s.typeRanges x.typeId then (s, .ok 0)
  else if !s.enabled .rng then (s, .error 0x0818)
  else
    let c := s.drawn 16
    let t0 := (s.fresh 16).tokSent (s.areq c)
    let good := match crcGood arsp with
      | some b => b.length == 18 && u8 b 0 == 0x34 && be b 2 4 == x.tid && slice b 10 8 == s.learnMac x 0x05 (c ++ slice b 6 4) 8
      | none => false
    let (vals, t) := if good then State.turnValues x c (s.learnMac x 0x07 c 16) (exchanges.take 8) t0 else ([], t0)
    let turn := if vals.length < 6 then 0 else (medianRat vals).floor.toNat
    let t1 := t.setReg R.RNG_TURN_CAL (vals.length % 16 * 2 ^ 28 + s.learnSlot % 64 * 2 ^ 22 + turn % 2 ^ 16)
    if vals.length < 6 then ((t1.event F.RNG_EVT_TURN_FAIL).reason .rng 0x0715, .error 0x0715)
    else if turn < 8110 || 8274 < turn then (t1, .error 0x0819)
    else (t1, .ok turn)

/-- KEYACK_RECEIVE: step 5 verifies it within 500 ms; step 6 calibrates the turnaround of a type with RANGING; step 7 writes the slot
into the scratch generation. -/
def keyackReceive (frame arsp : Bytes) (exchanges : List CalExchange) (s : State) : State :=
  match s.tok.learn, s.learnStep with
  | some l, some x =>
    if !x.loaded then s
    else
      let body := if x.cls = 2 then some frame else crcGood frame
      let ok := match body with
        | some b => b.length == 13 && u8 b 0 == 0x32 && be b 1 4 == x.tid && slice b 5 8 == s.learnMac x 0x11 [] 8
            && decide (s.mt ≤ x.sentMt + 500000)
        | none => false
      if !ok then s.endLearnStep 0x0815 []
      else match s.learnTurn x arsp exchanges with
        | (t, .error code) => t.endLearnStep code []
        | (t, .ok turn) =>
          if !t.vaultUp then t.endLearnStep 0x080E []
          else
            let n := t.learnSlot
            let t1 := t.setLearn (some { l with tokens := l.tokens ++ [⟨x.tid, x.typeId, x.cls, turn, x.sk⟩] })
            (t1.commitPoint).endLearnStep 0 (toLE 1 n)
  | _, _ => s

/-- KEYACK_RECEIVE. -/
def execKeyackReceive (frame arsp : Bytes) (exchanges : List CalExchange) (s : State) : Out := .next (keyackReceive frame arsp exchanges s)

/-- KEYACK_TIMEOUT: 500 ms after the KEYLOAD. -/
def keyackTimeout (s : State) : State :=
  match s.learnStep with
  | some x => if x.loaded && decide (x.sentMt + 500000 ≤ s.mt) then s.endLearnStep 0x0815 [] else s
  | none => s

/-- KEYACK_TIMEOUT. -/
def execKeyackTimeout (s : State) : Out := .next (keyackTimeout s)

/-! ## Commit, abandon, timeout (R90, R93) -/

/-- The slot of a learned token: ACTIVE with CTR 0 and no history. -/
def learnedSlot (t : Learned) : Slot := { Slot.empty with state := 1, cls := t.cls, typeId := t.typeId, tid := t.tid, turn := t.turn }

/-- The keyring records of the learned tokens. -/
def learnedKeys (gen : Nat) : Nat → List Learned → List KeyRec
  | _, [] => []
  | n, t :: ts => { kind := 2, index := n, gen := gen, attr := attrSlot, key := t.sk, pub := [] } :: learnedKeys gen (n + 1) ts

/-- The new set takes force: one generation holds its keys, the slots follow, the old set is gone. -/
def State.commitSet (s : State) (l : Learn) (ok : Bool) : MbRes :=
  let s0 : State := { s with keys := { s.keys with prep := .none }, tok := { s.tok with commitWait := none } }
  let c := s0.commitGen (s0.ring.filter (fun r => r.kind != 2) ++ learnedKeys s0.nextGen 0 l.tokens) ok
  if c.2 ≠ 0 then mbFail { c.1 with keys := { c.1.keys with prep := .learning } } .tok c.2
  else
    let ksn := s.newKsn
    let t := c.1
    let t1 := { t with
      vault := { t.vault with ksn := ksn, slots := l.tokens.map learnedSlot ++ List.replicate (64 - l.tokens.length) Slot.empty }
      tok := { t.tok with resync := [], accepted := [], confirms := [] } }
    let t2 := ((((t1.setLearn none).refreshSet).refreshKeys).event F.TOK_EVT_LEARN_DONE).reason .tok 0
    mbOk (t2.keyEvent 0x0803 0) (toLE 2 ksn ++ toLE 1 l.tokens.length)

/-- The learn commit command: it waits up to 200 ms for sessions in flight. -/
def learnCommitOp (ok : Bool) (s0 : State) : MbRes :=
  let s := s0.touchLearn
  match s.tok.learn with
  | none => mbFail s .tok 0x0811
  | some l =>
    if l.tokens.isEmpty then mbFail s .tok 0x081A
    else if s.tok.requests.isEmpty && s.rng.sessions.isEmpty then s.commitSet l ok
    else ({ s with tok := { s.tok with commitWait := some (s.mt + 200000), commitOk := ok } }, mbDeferred, [])

/-- LEARN_COMMIT. -/
def execLearnCommit (env : Env) (s : State) : Out := .next (mailboxCommand 0x0803 [] (learnCommitOp env.commitOk) s)

/-- A commit that waits goes on once no session is in flight, or after 200 ms; a session still in flight then goes on against the new set
(DESIGN CHOICE, log entry 152). -/
def State.dueCommit (s : State) : State :=
  match s.tok.commitWait, s.tok.learn with
  | some t, some l =>
    if (s.tok.requests.isEmpty && s.rng.sessions.isEmpty) || decide (t ≤ s.mt) then
      let r := s.commitSet l s.tok.commitOk
      r.1.finish r.2.1 r.2.2
    else s
  | _, _ => s

/-- The learn abandon command. -/
def learnAbandonOp (s : State) : MbRes :=
  if s.tok.learn.isNone then mbFail s .tok 0x0811 else mbOk (s.dropLearn.reason .tok 0) []

/-- LEARN_ABANDON. -/
def execLearnAbandon (s : State) : Out := .next (mailboxCommand 0x0804 [] learnAbandonOp s)

/-- LEARN_TIMEOUT: 30 min of MT without a learning command discard the session with 0x081C. -/
def learnTimeout (s : State) : State :=
  match s.tok.learn with
  | none => s
  | some l =>
    if s.mt < l.lastMt + 1800000000 then s
    else (s.dropLearn).reason .tok 0x081C

/-- LEARN_TIMEOUT. -/
def execLearnTimeout (s : State) : Out := .next (learnTimeout s)

end Sys2Proof.Machine
end

