-- ==== Sys2Proof/Machine/Image.lean ====
section
/-! DEFINITION. Chapter 2: the NOR directory, the checks of Sequence 2-1 on a candidate image, the choice of the image, settings and
their reconciliation, the last-known-good copy, and the writing of a new image. -/
namespace Sys2Proof.Machine

open Sys2Proof

/-! ## The configuration memory (R50, R51) -/

/-- `n` values from address `a` of a sparse memory whose entries below `a` have been passed. -/
def sparseFrom {β : Type} (d : Nat → β) : Nat → List (Nat × β) → Nat → List β
  | 0, _, _ => []
  | n + 1, [], a => d a :: sparseFrom d n [] (a + 1)
  | n + 1, (k, v) :: m, a => if k = a then v :: sparseFrom d n m (a + 1) else d a :: sparseFrom d n ((k, v) :: m) (a + 1)

/-- Bytes of the NOR; an unlisted one reads as erased flash. A part without SFDP reads over its whole size as well (log entry 150). -/
def norRead (cells : List Host.Cell) (a n : Nat) : Bytes := sparseFrom norDefault n (cells.dropWhile (fun c => c.1 < a)) a

/-- Programs bytes into the NOR. -/
def norWrite (cells : List Host.Cell) (a : Nat) (bs : Bytes) : List Host.Cell := sparsePutAll norDefault cells a bs

/-- Erases a range of the NOR. -/
def norErase (cells : List Host.Cell) (a n : Nat) : List Host.Cell := cells.filter (fun c => c.1 < a || a + n ≤ c.1)

/-- The slots of a directory copy, each OFFSET and SIZE. -/
def dirSlots (d : Bytes) : List (Nat × Nat) := [(le d 8 4, le d 12 4), (le d 16 4, le d 20 4), (le d 24 4, le d 28 4)]

/-- Whether 2 ranges of the NOR overlap. -/
def overlaps (a b : Nat × Nat) : Bool := decide (a.1 < b.1 + b.2) && decide (b.1 < a.1 + a.2)

/-- Whether a directory copy is valid in a part of a size (R51). -/
def dirValid (size : Nat) (d : Bytes) : Bool :=
  match dirSlots d with
  | [x, y, z] =>
    le d 0 4 == 0x5249444E && le d 32 4 == (crc32c (d.take 32)).toNat
      && [x, y, z].all (fun r => r.1 % 0x10000 == 0 && decide (r.1 + r.2 ≤ size) && !overlaps r (0, 0x20000))
      && !overlaps x y && !overlaps x z && !overlaps y z
  | _ => false

/-- The directory in force: the valid copy with the higher SEQ, copy A on a tie. -/
def State.directory (s : State) : Option Bytes :=
  let a := norRead s.nor.cells 0 36
  let b := norRead s.nor.cells 0x10000 36
  match dirValid s.nor.size a, dirValid s.nor.size b with
  | true, true => if le a 4 4 < le b 4 4 then some b else some a
  | true, false => some a
  | false, true => some b
  | false, false => none

/-- OFFSET and SIZE of configuration copy `k`. -/
def State.copySlot (s : State) (k : Nat) : Option (Nat × Nat) := (s.directory.map dirSlots).bind (fun l => l[k]?)

/-- 4 MiB, the most an image holds. -/
def imageMax : Nat := 4194304

/-- The bytes of a copy as its header's IMG_LEN bounds them, and the SIZE of its slot. -/
def State.copyBytes (s : State) (k : Nat) : Option (Bytes × Nat) :=
  (s.copySlot k).map (fun x =>
    let h := norRead s.nor.cells x.1 64
    (norRead s.nor.cells x.1 (max 64 (min (le h 0x0C 4) (min x.2 imageMax))), x.2))

/-! ## Sequence 2-1 -/

/-- A settings record of SETTINGS_DEFAULTS (R47). -/
structure SettingRec where
  id    : Nat
  flags : Nat
  dflt  : Nat
  lo    : Nat
  hi    : Nat
  deriving DecidableEq, Repr

/-- The records of SETTINGS_DEFAULTS. -/
def settingRecs (b : Bytes) : List SettingRec :=
  (List.range (b.length / 16)).map (fun i =>
    let r := slice b (16 * i) 16
    ⟨le r 0 2, le r 2 2, le r 4 4, le r 8 4, le r 12 4⟩)

/-- Whether a ≤ b as a record compares them. -/
def settingLe (r : SettingRec) (a b : Nat) : Bool :=
  if Nat.testBit r.flags 1 then decide (signed 32 a ≤ signed 32 b) else decide (a ≤ b)

/-- Ascending identifiers without duplicates. -/
def ascendingIds : Option Nat → List SettingRec → Bool
  | _, [] => true
  | prev, r :: rs => (match prev with | some p => decide (p < r.id) | none => true) && ascendingIds (some r.id) rs

/-- Whether SETTINGS_DEFAULTS keeps R47. -/
def settingsOk (b : Bytes) : Bool :=
  let rs := settingRecs b
  b.length % 16 == 0 && decide (rs.length ≤ 4096) && ascendingIds none rs
    && rs.all (fun r => decide (r.flags < 8) && settingLe r r.lo r.dflt && settingLe r r.dflt r.hi)

/-- Max LEN of Table 2-2; none for an unknown TYPE. -/
def sectionMax (type : Nat) : Option Nat :=
  match type with
  | 1 => some 68 | 2 => some 4096 | 3 => some 16384 | 4 => some 1048576 | 5 => some 16384 | 6 => some 65536 | 7 => some 65536
  | 8 => some 65536 | 9 => some 65536 | 0x0A => some 16384 | 0x0B => some 16384 | 0x0C => some 4096 | 0x0D => some 4096
  | 0x0E => some 16384 | 0x0F => some 4096 | 0x10 => some 4096 | 0x11 => some 65536
  | _ => none

/-- The sections of an image from `pos` on: framing, padding, order, FLAGS and LEN (R43 to R45), or the reason. An image with two faults
gets the reason of the first section that has one, and within a section that of the first check in this order (log entry 149). -/
def parseSections (img : Bytes) (sigOff : Nat) : Nat → Nat → Option Nat → Except Nat (List Section)
  | 0, pos, _ => if pos = sigOff then .ok [] else .error 0x0208
  | n + 1, pos, prev =>
    let type := le img pos 2
    let flags := le img (pos + 2) 2
    let len := le img (pos + 4) 4
    let stop := pos + 8 + len
    let next := (stop + 7) / 8 * 8
    if sigOff < pos + 8 || sigOff < next then .error 0x0208
    else if !allZero (slice img stop (next - stop)) then .error 0x0208
    else if (match prev with | some p => decide (type ≤ p) | none => false) then .error 0x0209
    else if flags / 4 % 64 ≠ 0 || (match sectionMax type with | some m => decide (m < len) | none => false) then .error 0x0208
    else match parseSections img sigOff n next (some type) with
      | .error e => .error e
      | .ok rest => .ok (⟨type, flags, slice img (pos + 8) len⟩ :: rest)

/-- The sections that Table 2-2 marks required. -/
def requiredSections : List Nat := [1, 2, 3, 8, 9]

/-- Steps 1 to 3 and the reserved bytes and algorithm word of step 2. -/
def headerCode (img : Bytes) (slotSize : Nat) : Nat :=
  let len := le img 0x0C 4
  let so := le img 0x30 4
  let blk := img.drop so
  if le img 0 4 ≠ 0x4E594E58 then 0x0201
  else if le img 4 2 ≠ 1 then 0x0202
  else if le img 8 4 ≠ 64 then 0x0203
  else if imageMax < len || slotSize < len || len < 336 || so ≠ len - 272 || so % 8 ≠ 0 || le img 0x2C 4 ≠ 64
      || !allZero (slice img 0x1A 2) || !allZero (slice img 0x2A 2) || !allZero (slice img 0x34 12) then 0x0203
  else if so + 272 ≤ img.length && (be blk 264 4 ≠ 0x521 || !allZero (slice blk 268 4)) then 0x0203
  else if le img 0x1C 4 ≠ 0x9600 then 0x0207
  else 0

/-- Step 4: the leading 256 bits of SHA-512 of the key against the fused hash. -/
def State.keyMatches (s : State) (img : Bytes) : Bool :=
  (Crypto.sha512 (slice img (le img 0x30 4) 132)).take 32 == s.fuses.custHash

/-- Step 5: the signature over bytes 0 to SIG_OFF − 1. -/
def imageSigned (img : Bytes) : Bool :=
  let so := le img 0x30 4
  Crypto.ecdsaVerify (slice img so 132) (Crypto.sha512 (img.take so)) (slice img (so + 132) 132)

/-- Steps 1 to 8 of Sequence 2-1: the sections, or the reason. -/
def State.imageCheck (s : State) (img : Bytes) (slotSize : Nat) : Except Nat (List Section) :=
  let h := headerCode img slotSize
  let count := le img 0x18 2
  if h ≠ 0 then .error h
  else if !s.keyMatches img then .error 0x0205
  else if !imageSigned img then .error 0x0204
  else if le img 0x10 4 < s.vault.floor then .error 0x0206
  else if count = 0 || 64 < count then .error 0x0208
  else match parseSections img (le img 0x30 4) count 64 none with
    | .error e => .error e
    | .ok secs =>
      if (match secs.find? (fun x => x.type == 0x11) with | some x => !settingsOk x.data | none => false) then .error 0x0208
      else if secs.any (fun x => (sectionMax x.type).isNone && Nat.testBit x.flags 0) then .error 0x020A
      else if requiredSections.any (fun t => !(secs.any (fun x => x.type == t && Nat.testBit x.flags 1))) then .error 0x020B
      else .ok secs

/-- A subsystem's check in step 9: its reason, with 0x0224 in place of a 0x0223 whose chain ends in 0x0224 (R54). `done` holds the
subsystems judged before. -/
def State.trialReason (s : State) (c : Candidate) (done : List (Subsys × Nat)) (u : Subsys) : Nat :=
  let of := fun (d : Subsys) => match done.find? (fun x => x.1 == d) with | some (_, r) => r | none => 0
  let r := s.subCheck c true (fun d => of d == 0) u
  if r = 0x0223 && (subDeps u).any (fun d => of d == 0x0224) then 0x0224 else r

/-- Step 9 and the trial check of R58: the immobiliser path in the order of Table 2-7; 0, or 0x0210 for a refusal other than 0x0224
(R53). A subsystem outside the path never rejects the image. -/
def State.trialCheck (s : State) (c : Candidate) : Nat :=
  let rs := immobiliserPath.foldl (fun done u => done ++ [(u, s.trialReason c done u)]) ([] : List (Subsys × Nat))
  if rs.any (fun x => x.2 != 0 && x.2 != 0x0224) then 0x0210 else 0

/-- Every check of Sequence 2-1 on one candidate: the sections, or the reason. -/
def State.candidate (s : State) (img : Bytes) (slotSize : Nat) (vioHigh : Bool) : Except Nat (List Section) :=
  match s.imageCheck img slotSize with
  | .error e => .error e
  | .ok secs => let t := s.trialCheck ⟨secs, vioHigh⟩; if t = 0 then .ok secs else .error t

/-- A NOR copy judged: 0x020D where its transfer fails. -/
def State.judgeCopy (s : State) (k : Nat) (env : Env) : Except Nat (Bytes × List Section) :=
  if !(if k = 0 then env.nor0 else env.nor1) || !s.nor.fitted then .error 0x020D
  else match s.copyBytes k with
    | none => .error 0x020C
    | some (img, size) => match s.candidate img size env.vioHigh with
      | .error e => .error e
      | .ok secs => .ok (img, secs)

/-! ## Settings (R47 to R49) -/

/-- The records of the selected image; none without the section. -/
def State.settingList (s : State) : List SettingRec := match s.section? 0x11 with | some b => settingRecs b | none => []

/-- The settings at their defaults. -/
def State.defaultBank (s : State) : SettingsBank := ⟨s.reg R.SYS_IMG_SERIAL, s.settingList.map (fun r => (r.id, r.dflt))⟩

/-- Journals a change of a setting: source 0 image, 1 host, 2 reconcile. -/
def State.settingEntry (s : State) (id old new source : Nat) : State :=
  s.journal 0x0201 0 .cfg 0 (toLE 2 id ++ toLE 4 old ++ toLE 4 new ++ toLE 1 source)

/-- A copy of the settings bank goes to region 3, up to 64 copies (R302). -/
def State.copyBank (s : State) : State :=
  match s.vault.bank with
  | none => s
  | some b =>
    if !s.nandUp then s
    else
      let l := s.nand.settings ++ [b.values]
      ({ s with nand := { s.nand with settings := l.drop (l.length - 64), written := s.nand.written + 4096 } }).program 3 0 1

/-- One record reconciled: a missing identifier at DEFAULT; a value outside MIN and MAX reset to DEFAULT and journaled. -/
def reconcileOne (old : List (Nat × Nat)) (acc : State × List (Nat × Nat)) (r : SettingRec) : State × List (Nat × Nat) :=
  match old.find? (fun x => x.1 == r.id) with
  | none => (acc.1, acc.2 ++ [(r.id, r.dflt)])
  | some (_, v) =>
    if settingLe r r.lo v && settingLe r v r.hi then (acc.1, acc.2 ++ [(r.id, v)])
    else (acc.1.settingEntry r.id v r.dflt 2, acc.2 ++ [(r.id, r.dflt)])

/-- SETTINGS_RECONCILE (R48): the bank is seeded, or reconciled where the SERIAL differs. Without the section the bank is kept
untouched. -/
def State.reconcile (s : State) : State :=
  if (s.section? 0x11).isNone || !s.vaultUp then s
  else match s.vault.bank with
    | none => { s with vault := { s.vault with bank := some s.defaultBank } }
    | some b =>
      let serial := s.reg R.SYS_IMG_SERIAL
      if b.serial = serial then s
      else
        let r := s.settingList.foldl (reconcileOne b.values) (s, ([] : List (Nat × Nat)))
        ({ r.1 with vault := { r.1.vault with bank := some ⟨serial, r.2⟩ } }).copyBank

/-- SETTING_READ. -/
def settingReadOp (id : Nat) (s : State) : MbRes :=
  match s.settingList.find? (fun r => r.id == id) with
  | none => mbFail s .cfg 0x022C
  | some r => mbOk s (toLE 4 (s.setting id r.dflt) ++ toLE 4 r.lo ++ toLE 4 r.hi ++ toLE 2 r.flags)

/-- SETTING_READ (R49). -/
def execSettingRead (id : BitVec 16) (s : State) : Out := .next (mailboxCommand 0x0203 (toLE 2 id.toNat) (settingReadOp id.toNat) s)

/-- A bank with one value replaced. -/
def SettingsBank.set (b : SettingsBank) (id v : Nat) : SettingsBank :=
  { b with values := b.values.map (fun (x : Nat × Nat) => if x.1 = id then (id, v) else x) }

/-- SETTING_WRITE: the identifier exists (0x022C), HOST_WR (0x022B), MIN and MAX (0x022A). During an activation the write is carried to
the new bank as well (Table 15-6). -/
def settingWriteOp (id v : Nat) (s : State) : MbRes :=
  match s.settingList.find? (fun r => r.id == id) with
  | none => mbFail s .cfg 0x022C
  | some r =>
    if !Nat.testBit r.flags 0 then mbFail s .cfg 0x022B
    else if !(settingLe r r.lo v && settingLe r v r.hi) then mbFail s .cfg 0x022A
    else
      let old := s.setting id r.dflt
      let s1 := match s.vault.bank with
        | some b => { s with vault := { s.vault with bank := some (b.set id v) }
                             upd := { s.upd with newBank := s.upd.newBank.map (fun (n : SettingsBank) => n.set id v) } }
        | none => s
      mbOk (if Nat.testBit r.flags 2 && old ≠ v then s1.settingEntry id old v 1 else s1).commitPoint []

/-- SETTING_WRITE (R49). -/
def execSettingWrite (id : BitVec 16) (value : Word) (s : State) : Out :=
  .next (mailboxCommand 0x0204 (toLE 2 id.toNat ++ toLE 4 value.toNat) (settingWriteOp id.toNat value.toNat) s)

/-! ## Choosing the image (R52 to R56) -/

/-- Sets the outcome of a NOR copy. -/
def State.copyReason (s : State) (k code : Nat) : State :=
  s.put (if k = 0 then F.SYS_IMG_REASON_COPY0 else F.SYS_IMG_REASON_COPY1) code

/-- The copies in rank order: ROLLBACK, then SERIAL, then copy 0 first. -/
def State.rank (s : State) : List Nat :=
  let key := fun (k : Nat) => match s.copyBytes k with | some (b, _) => le b 0x10 4 * 2 ^ 32 + le b 0x14 4 | none => 0
  if key 0 < key 1 then [1, 0] else [0, 1]

/-- Applies a selected image: the sections, the status fields, the entries for skipped sections (R44), the settings, the copy of the
last 8 selected images (R302) and the drift offsets of its map. -/
def State.selectImage (s : State) (src : Nat) (img : Bytes) (secs : List Section) (unchecked : List Nat) : State :=
  let known := secs.filter (fun x => (sectionMax x.type).isSome)
  let s1 := { s with sys := { s.sys with image := img, sections := known, hasImage := true, unchecked := unchecked } }
  let s2 := (((s1.put F.SYS_IMG_SRC src).setReg R.SYS_IMG_ROLLBACK (le img 0x10 4)).setReg R.SYS_IMG_SERIAL (le img 0x14 4)).setReg
    R.SYS_IMG_FLOOR s.vault.floor
  let s3 := s2.putFlag F.SYS_STAT_LKG (decide (src = 2))
  let s4 := (secs.filter (fun x => (sectionMax x.type).isNone)).foldl
    (fun t x => t.journal 0x0202 0 .cfg 0
      (toLE 2 x.type ++ toLE 2 x.flags ++ toLE 4 x.data.length ++ toLE 4 (le img 0x14 4) ++ toLE 1 src)) s3
  let s5 := s4.reconcile
  let keep := s5.nand.images ++ [img]
  if !s5.nandUp || s5.nand.images.getLast? = some img then s5
  else ({ s5 with nand := { s5.nand with images := keep.drop (keep.length - 8), written := s5.nand.written + img.length } }).program 3 0
    ((img.length + 4095) / 4096)

/-- Notes a CFG code of the start: START_REASON and the CFG reason. -/
def State.startNote (s : State) (code : Nat) : State := (s.put F.SYS_START_START_REASON code).reason .cfg code

/-- Tries the copies in rank order; the first that passes every check is selected. -/
def tryCopies (env : Env) : List Nat → State → State × Bool
  | [], s => (s, false)
  | k :: rest, s =>
    match s.judgeCopy k env with
    | .ok (img, secs) => ((s.copyReason k 0).selectImage k img secs rest, true)
    | .error e => tryCopies env rest (s.copyReason k e)

/-- Image selection of phase 6 (R50 to R52): the NOR copies, then the last-known-good copy; false when no source passes. -/
def State.chooseImage (s : State) (env : Env) : State × Bool :=
  let r :=
    if !env.norDir || !s.nor.fitted then (((s.copyReason 0 0x020D).copyReason 1 0x020D).startNote 0x020D, false)
    else
      let s1 := if s.nor.sfdp then s else s.startNote 0x020E
      if s1.directory.isNone then (((s1.copyReason 0 0x020C).copyReason 1 0x020C).startNote 0x020C, false)
      else tryCopies env s1.rank s1
  if r.2 then r
  else match (if r.1.vaultUp then r.1.vault.lkg else none) with
    | none => r
    | some img => match r.1.candidate img imageMax env.vioHigh with
      | .error _ => r
      | .ok secs => (r.1.selectImage 2 img secs [], true)

/-- IMG_CHECKED: the copies not yet checked at this start get their outcome (R55). -/
def imgChecked (env : Env) (s : State) : State :=
  if !s.sys.readySeen || s.sys.unchecked.isEmpty then s
  else
    let s1 := s.sys.unchecked.foldl
      (fun t k => t.copyReason k (match t.judgeCopy k env with | .ok _ => 0 | .error e => e)) s
    ({ s1 with sys := { s1.sys with unchecked := [] } }).event F.SYS_EVT_IMG_CHECKED

/-- LKG_REFRESH (R57): after READY, the vault copy is replaced where its digest differs from the selected NOR image. -/
def State.lkgRefresh (s : State) : State :=
  if !s.sys.readySeen || !s.sys.hasImage || s.flag F.SYS_STAT_LKG || !s.vaultUp then s
  else if (s.vault.lkg.map Crypto.sha512) = some (Crypto.sha512 s.sys.image) then s
  else { s with vault := { s.vault with lkg := some s.sys.image } }

/-! ## Writing a new image (R58, R59) -/

/-- The target slot: the copy not selected at this start; copy 0 when no NOR copy is selected (log entry 57). -/
def State.targetCopy (s : State) : Nat := if s.sys.hasImage && s.get F.SYS_IMG_SRC = 0 then 1 else 0

/-- Ends a configuration write: its event and result; the progress word reads 0 (R10). -/
def State.endCfgWrite (s : State) (code : Nat) : State :=
  ((({ s with sys := { s.sys with cfgWrite := none } }).setReg R.SYS_CFG_PROG 0).event F.SYS_EVT_CFG_WRITE).reason .cfg code

/-- CFG_WRITE_OPEN: 0x0211 while a write runs; 0x0203 for an image that the slot cannot take; else the target slot is erased. A part
without SFDP is programmed and erased as any other (log entry 150). -/
def cfgWriteOpenOp (len : Nat) (s : State) : MbRes :=
  if s.sys.cfgWrite.isSome then mbFail s .cfg 0x0211
  else if !s.nor.fitted then mbFail s .cfg 0x020D
  else match s.copySlot s.targetCopy with
    | none => mbFail s .cfg 0x020C
    | some (off, size) =>
      if len < 336 || imageMax < len || size < len then mbFail s .cfg 0x0203
      else
        let s1 := { s with nor := { s.nor with cells := norErase s.nor.cells off size }
                           sys := { s.sys with cfgWrite := some ⟨len, s.targetCopy, []⟩ } }
        mbOk s1 (toLE 1 s.targetCopy)

/-- CFG_WRITE_OPEN. -/
def execCfgWriteOpen (imgLen : BitVec 32) (s : State) : Out :=
  .next (mailboxCommand 0x0201 (toLE 4 imgLen.toNat) (cfgWriteOpenOp imgLen.toNat) s)

/-- The fault of steps 2 to 6 that the bytes received so far expose, 0 for none (R59). -/
def State.exposed (s : State) (w : CfgWrite) (size : Nat) : Nat :=
  let b := w.bytes
  let so := le b 0x30 4
  let h := headerCode b size
  if h = 0x0201 || h = 0x0202 || le b 8 4 ≠ 64 then 0
  else if le b 0x0C 4 ≠ w.len then 0x0203
  else if h ≠ 0 then h
  else if so + 132 ≤ b.length && !s.keyMatches b then 0x0205
  else if b.length = w.len && !imageSigned b then 0x0204
  else if le b 0x10 4 < s.vault.floor then 0x0206
  else 0

/-- CFG_WRITE_CHUNK: the next chunk of 64 KiB is programmed; the last one answers with the result of steps 1 to 9. -/
def cfgWriteChunkOp (index : Nat) (data : Bytes) (env : Env) (s : State) : MbRes :=
  match s.sys.cfgWrite with
  | none => mbRefuse s 0x100C
  | some w =>
    let n := w.bytes.length / 65536
    let want := min 65536 (w.len - w.bytes.length)
    if index ≠ n || data.length ≠ want then mbRefuse s 0x100C
    else match s.copySlot w.target with
      | none => (s.endCfgWrite 0x020C, 0x020C, [])
      | some (off, size) =>
        if !(if w.target = 0 then env.nor0 else env.nor1) then (s.endCfgWrite 0x020D, 0x020D, [])
        else
          let w1 : CfgWrite := { w with bytes := w.bytes ++ data }
          let bad := s.exposed w1 size
          if bad ≠ 0 then
            (({ s with nor := { s.nor with cells := norErase s.nor.cells off size } }).endCfgWrite bad, bad, [])
          else
            let s1 := { s with nor := { s.nor with cells := norWrite s.nor.cells (off + w.bytes.length) data }
                               sys := { s.sys with cfgWrite := some w1 } }
            let total := (w.len + 65535) / 65536
            if w1.bytes.length < w.len then
              let s2 := s1.setReg R.SYS_CFG_PROG ((n + 1) * 100 / total * 2 ^ 24 + (n + 1))
              mbOk s2 (toLE 4 (n + 1))
            else
              let back := norRead s1.nor.cells off w.len
              let code := match s1.candidate back size env.vioHigh with | .ok _ => 0 | .error e => e
              (s1.endCfgWrite code, code, toLE 4 (n + 1))

/-- CFG_WRITE_CHUNK. -/
def execCfgWriteChunk (index : BitVec 32) (data : Bytes) (env : Env) (s : State) : Out :=
  .next (mailboxCommand 0x0202 (toLE 4 index.toNat ++ data) (cfgWriteChunkOp index.toNat data env) s)

end Sys2Proof.Machine
end

