-- ==== Sys2Proof/Machine/Lf.lean ====
section
/-! DEFINITION. Chapter 5: wake inputs and chatter, LFT exchanges, the start calibration and recalibration, channel and driver faults,
VANT, standing time, and LF going up. -/
namespace Sys2Proof.Machine

open Sys2Proof

/-! ## Wake inputs (R137 to R139) -/

/-- The record of a wake input (Table 5-11). -/
def State.wakeRec (s : State) (w : Nat) : Bytes := slice s.lfSec (0x58 + 8 * w) 8

/-- LFT_TRIG. -/
def State.lftTrig (s : State) : Nat := u8 s.lfSec 0x16

/-- A journal entry of LF: input, REQUEST or value, PT. -/
def State.journalLf (s : State) (reason input value pt : Nat) : State :=
  s.journal 0x0501 reason .lf 0 (toLE 1 input ++ toLE 1 value ++ toLE 4 pt)

/-- The bit of an input in a field of LF_WAKE_STAT or LF_WAKE_EVT. -/
def State.putInput (s : State) (f : Field) (w : Nat) (b : Bool) : State :=
  s.put f (if b then s.get f ||| 2 ^ w else s.get f &&& (0xFFF - 2 ^ w))

/-- Whether a request of this code waits or holds the air. -/
def State.hasRequest (s : State) (code : Nat) : Bool :=
  s.lf.queue.any (fun r => r.code == code && !r.host) || (match s.lf.hold with | some h => h.req.code == code && !h.req.host | none => false)

/-- The request of a wake input, with the votes of Table 14-3. -/
def wakeReq (code : Nat) (trig : Bool) : LfReq :=
  { code := code, cls := lfClass code false, lft := false, trig := trig, host := false, learn := false, confirm := none }

/-- Serves an edge that passed at `pt`: chatter, the event, the standing time, then its request. The request of an edge latched during a
start has its own entry with PT and MT (R78). -/
def State.serveWakeAt (s : State) (w pt : Nat) (latched : Bool) : State :=
  let rec_ := s.wakeRec w
  let code := u8 rec_ 3
  if u8 rec_ 0 = 0 || s.lf.masks.any (fun m => m.1 == w) then s
  else
    let now := BitVec.ofNat 32 pt
    let others := s.lf.edges.filter (fun (e : Nat × Word) => decide ((now - e.2).toNat < 60 * 32768))
    let edges := others ++ [(w, now)]
    if s.setting 0x050A 20 < (edges.filter (fun (e : Nat × Word) => e.1 == w)).length then
      let s1 := { s with lf := { s.lf with edges := edges.filter (fun (e : Nat × Word) => e.1 != w)
                                           masks := s.lf.masks ++ [(w, now + BitVec.ofNat 32 (60 * 32768))] } }
      (((s1.putInput F.LF_WAKE_STAT_MASKED w true).event F.LF_EVT_CHATTER).reason .lf 0x050A).journalLf 0x050A w code pt
    else
      let s1 := { s with lf := { s.lf with edges := edges } }
      let s2 := ((s1.putInput F.LF_WAKE_EVT_EDGE w true).event F.LF_EVT_WAKE).setReg R.LF_WAKE_PT pt
      let s3 := ((s2.setReg R.LF_WAKE_LAST (w * 256 + code)).standZero).touch
      if code = 0xFE then (s3.raiseVote 0 (1 + s3.activePair) false).relockIfDue
      else if s3.hasRequest code then s3.journalLf 0 w code pt
      else
        let (s4, why) := s3.raiseRequest (wakeReq code (w == s3.lftTrig))
        if why = 0x050E then (s4.reason .lf 0x050E).journalLf 0x050E w code pt
        else if latched then s4.journalLf why w code pt else s4

/-- Serves an edge as it comes. -/
def State.serveWake (s : State) (w pt : Nat) : State := s.serveWakeAt w pt false

/-- WAKE_EDGE: the level shows; during the start the edge is latched with its PT and MT (R78), else it is served. -/
def wakeEdge (w : Nat) (s : State) : State :=
  if u8 (s.wakeRec w) 0 = 0 && s.sys.hasImage then s
  else
    let s1 := s.putInput F.LF_WAKE_STAT_LEVEL w true
    if s1.latching then s1.latch (.wake w)
    else if s1.phase = 9 || s1.phase = 0xA then s1.serveWake w s1.pilot.pt.toNat
    else s1

/-- WAKE_EDGE. -/
def execWakeEdge (input : Fin 12) (s : State) : Out := .next (wakeEdge input.val s)

/-- CHATTER_UNMASK: 60 s of PT after the mask. -/
def chatterUnmask (w : Nat) (s : State) : State :=
  let due := fun (m : Nat × Word) => m.1 == w && decide ((s.pilot.pt - m.2).toNat < 2 ^ 31)
  if s.lf.masks.any due then
    ({ s with lf := { s.lf with masks := s.lf.masks.filter (fun m => !due m) } }).putInput F.LF_WAKE_STAT_MASKED w false
  else s

/-- CHATTER_UNMASK. -/
def execChatterUnmask (input : Fin 12) (s : State) : Out := .next (chatterUnmask input.val s)

/-- WAKE_INPUT_INACTIVE: the level falls; standstill by this input breaks. -/
def wakeInputInactive (w : Nat) (s : State) : State := (s.putInput F.LF_WAKE_STAT_LEVEL w false).relockIfDue

/-- WAKE_INPUT_INACTIVE. -/
def execWakeInputInactive (input : Fin 12) (s : State) : Out := .next (wakeInputInactive input.val s)

/-! ## Standing time and the candle (R143, R155) -/

/-- STAND_RESET. -/
def execStandReset (s : State) : Out := .next s.standZero

/-- A write of CANDLE_HOLD that changes it is journaled. -/
def candleHold (b : Bool) (s : State) : State :=
  if s.flag F.LF_CTL_CANDLE_HOLD = b then s
  else (s.putFlag F.LF_CTL_CANDLE_HOLD b).journalLf 0 0xFF (bit b) s.pilot.pt.toNat

/-- LF_CANDLE and LF_STAND follow from the standing time. -/
def State.lfView (s : State) (off : Nat) : Option Nat :=
  if off = R.LF_CANDLE then
    if !s.enabled .lf then some 0
    else
      let per := if s.candleRuns then s.candlePeriod else 0
      some (per % 2 ^ 16 * 2 ^ 16 + bit (s.flag F.LF_CTL_CANDLE_HOLD) * 128 + bit (!s.enabled .rf || s.onRc) * 64
        + bit (s.plan 0).isNone * 32 + s.candleStage)
  else if off = R.LF_STAND then some (min (s.standing / 60000000) (2 ^ 32 - 1))
  else none

/-! ## LFT exchanges (R149, R150) -/

/-- The outcome of an exchange. -/
def State.lftOutcome (s : State) (reason tries : Nat) : State :=
  let s1 := s.setReg R.LF_LFT_STAT (reason * 2 ^ 16 + tries)
  if reason = 0 then (s1.bump F.LF_LFT_CNT_OK).event F.LF_EVT_LFT_DONE
  else ((s1.bump F.LF_LFT_CNT_FAIL).event F.LF_EVT_LFT_FAIL).reason .lf reason

/-- What the policy sees of a token on LFT or NFC: no result record. -/
def plainInput (path slot cls : Nat) : PolicyIn :=
  { path := path, slot := slot, cls := cls, status := 0, mode := 0xFF, flags := 0, zone := 0xFF, dbCm := 0xFFFF, drvCm := 0xFFFF
    field := 0 }

/-- Judges an ARSP on LFT or NFC under Table 4-3; class F follows R106, the others take no counter step. The reason, 0 for success. -/
def State.judgeArsp (s : State) (path d : Nat) (c arsp : Bytes) (id code : Nat) : State × Nat :=
  let tid := be arsp 2 4
  let ctr := be arsp 6 4
  if s.pathLocked path then (s.refuseAttempt path 0xFF tid ctr code 0x0806, 0x0806)
  else match s.slotOfTid tid with
    | none => (s.refuseUnknown path tid ctr code, 0x0801)
    | some n =>
      let why := s.slotCheck path n
      let cls := (s.slot n).cls
      if why ≠ 0 then (s.refuseAttempt path n tid ctr code why, why)
      else if slice arsp 10 8 ≠ s.slotMac d n tid (c ++ toBE 4 ctr) 8 then (s.refuseMac path n tid ctr code, 0x0807)
      else if cls = 1 && decide (ctr < (s.slot n).ctr) then ((s.replay n).refuseAttempt path n tid ctr code 0x0809, 0x0809)
      else if cls = 1 && !s.vaultUp then (s.refuseAttempt path n tid ctr code 0x080E, 0x080E)
      else
        let s1 := if cls = 1 then s.acceptCtr n ctr else s
        (((s1.authSucceed path n).journalAuth path n tid ctr code).judge id (plainInput path n cls) |>.retireSpent path n, 0)

/-- LFT_UPLINK_RECEIVE: a good ARSP ends the exchange; in learning it answers the TID read; a bad CRC waits for the next try. -/
def lftUplinkReceive (frame : Bytes) (s : State) : State :=
  match s.lf.hold with
  | none => s
  | some h =>
    if h.phase ≠ .lft || (h.req.learn && (match s.learnStep with | some x => x.loaded | none => true)) then s
    else match crcGood frame with
      | none => s.setHold (some { h with badCrc := true })
      | some b =>
        if b.length ≠ 18 || u8 b 0 ≠ 0x34 then s.setHold (some { h with badCrc := true })
        else
          let s1 := s.lftOutcome 0 h.tries
          if h.req.learn then s1.learnRead b
          else
            let (s2, why) := s1.judgeArsp 2 0x05 h.c b h.id h.req.code
            s2.endHold why

/-- LFT_UPLINK_RECEIVE. -/
def execLftUplinkReceive (frame : Bytes) (s : State) : Out := .next (lftUplinkReceive frame s)

/-- LFT_RETRY: the listen window ends without a good answer: another try, 3 in all, else 0x0508 or 0x0509. -/
def lftRetry (s : State) : State :=
  match s.lf.hold with
  | none => s
  | some h =>
    if h.phase ≠ .lft || (h.req.learn && (match s.learnStep with | some x => x.loaded | none => false)) then s
    else if h.tries < 3 then s.setHold (some { h with tries := h.tries + 1, badCrc := false })
    else
      let why := if h.badCrc then 0x0509 else 0x0508
      let s1 := s.lftOutcome why h.tries
      if h.req.learn then s1.endLearnStep 0x0814 [] else s1.endHold why

/-- LFT_RETRY. -/
def execLftRetry (s : State) : Out := .next (lftRetry s)

/-! ## Calibration (R131 to R133) -/

/-- A channel is left out of every pattern: its fault code and reason (R135). -/
def State.failChannel (s : State) (c code why : Nat) : State :=
  let s1 := ((s.putFlag (F.LF_CHn_STAT_FAILED c) true).put (F.LF_CHn_STAT_FAULT c) code).bump (F.LF_CHn_FCNT_FAULTS c)
  (((s1.event F.LF_EVT_CH_FAIL).reason .lf why)).refreshLf

/-- What one channel's burst measures: the trim in integrated mode, 32 in gate-drive; an end stop is reported with 0x0505 and the channel
stays; without current the channel is open. -/
def State.calLfChannel (s : State) (c : Nat) (m : Option (Nat × Nat)) : State :=
  if !Nat.testBit (u8 s.lfSec 3) c || s.flag (F.LF_CHn_STAT_FAILED c) then s
  else match m with
    | none => s.failChannel c 1 0x0502
    | some (a, ph) =>
      let s1 := (s.put (F.LF_CHn_MEAS_AMP c) a).put (F.LF_CHn_MEAS_PHASE c) ph
      if s.gateDrive then s1
      else
        let t := Config.lfTrim ph % 64
        let s2 := s1.put (F.LF_CHn_STAT_TRIM c) t
        if t = 0 || t = 63 then
          (((s2.put (F.LF_CHn_STAT_FAULT c) 3).bump (F.LF_CHn_FCNT_FAULTS c)).event F.LF_EVT_TRIM_LIMIT).reason .lf 0x0505
        else s2

/-- A calibration of every fitted channel, at a die temperature (R131, R133). -/
def State.calLf (s : State) (temp : Int) (meas : List (Option (Nat × Nat))) : State :=
  let s1 := (meas.zip (List.range 8)).foldl (fun (t : State) (p : Option (Nat × Nat) × Nat) => t.calLfChannel p.2 p.1) s
  { s1 with lf := { s1.lf with calMt := s.mt, calTemp := temp, recal := false } }.refreshLf

/-- Whether a recalibration may run: no LF request waits or holds the air, and no session is open (R133). -/
def State.lfQuiet (s : State) : Bool :=
  s.lf.hold.isNone && s.lf.queue.isEmpty && s.tok.requests.isEmpty && s.rng.sessions.isEmpty && s.enabled .lf

/-- RECAL: a recalibration, at once or when the air is quiet. -/
def recal (temp : Int) (meas : List (Option (Nat × Nat))) (s : State) : State :=
  if !s.enabled .lf then s
  else if s.lfQuiet then s.calLf temp meas
  else { s with lf := { s.lf with recal := true } }

/-- RECAL. -/
def execRecal (channel : Fin 8) (env : Env) (s : State) : Out :=
  .next (if Nat.testBit (u8 s.lfSec 3) channel.val then recal (signed 8 env.dieTemp.toNat) env.lfMeas s else s)

/-- LF_RECAL_DUE: the die temperature has moved by 20 C, 24 h of MT awake have passed (`calMt` moves on by each STANDBY), or a
recalibration waits. -/
def lfRecalDue (temp : Int) (meas : List (Option (Nat × Nat))) (s : State) : State :=
  let due := decide (20 ≤ (temp - s.lf.calTemp).natAbs) || decide (s.lf.calMt + 86400000000 ≤ s.mt) || s.lf.recal
  if due && s.lfQuiet && !s.pwr.standby then s.calLf temp meas else s

/-- LF_RECAL_DUE. -/
def execLfRecalDue (temp : BitVec 8) (env : Env) (s : State) : Out := .next (lfRecalDue (signed 8 temp.toNat) env.lfMeas s)

/-! ## Faults (R135, R136) -/

/-- LEG_FAIL: the leg is bypassed and the channel runs at HALF; with both legs gone the channel is FAILED (log entry 49). -/
def legFail (c : Nat) (legB : Bool) (s : State) : State :=
  if !s.chLive c || s.gateDrive then s
  else
    let s1 := s.putFlag (if legB then F.LF_CHn_STAT_LEG_B_FAIL c else F.LF_CHn_STAT_LEG_A_FAIL c) true
    let s2 := ((((s1.putFlag (F.LF_CHn_STAT_HALF c) true).put (F.LF_CHn_STAT_FAULT c) 4).event F.LF_EVT_LEG_FAIL).redLoss 9).reason .lf 0x0504
    if s2.flag (F.LF_CHn_STAT_LEG_A_FAIL c) && s2.flag (F.LF_CHn_STAT_LEG_B_FAIL c) then s2.failChannel c 4 0x0504
    else (s2.bump (F.LF_CHn_FCNT_FAULTS c)).refreshLf

/-- LEG_FAIL. -/
def execLegFail (channel : Fin 8) (legB : Bool) (s : State) : Out := .next (legFail channel.val legB s)

/-- OPEN_COIL: the channel is FAILED with 0x0502. -/
def openCoil (c : Nat) (s : State) : State := if s.chLive c then s.failChannel c 1 0x0502 else s

/-- OPEN_COIL. -/
def execOpenCoil (channel : Fin 8) (s : State) : Out := .next (openCoil channel.val s)

/-- OUTPUT_SHORT: the bridge stops for the rest of the channel's frame on the air, with 0x0503; the third frame of the channel in a row
with the short fails it (R135). -/
def outputShort (c : Nat) (s : State) : State :=
  let mine := s.lf.frames.filter (fun f => f.ch == c && decide (f.startMt ≤ s.mt))
  match mine.reverse with
  | [] => s
  | f :: before =>
    if !s.chLive c || f.short then s
    else
      let s1 := { s with lf := { s.lf with frames := s.lf.frames.map (fun (g : LfFrame) => if g = f then { g with short := true } else g) } }
      if decide (2 ≤ before.length) && (before.take 2).all (·.short) then s1.failChannel c 2 0x0503
      else ((s1.put (F.LF_CHn_STAT_FAULT c) 2).bump (F.LF_CHn_FCNT_FAULTS c)).reason .lf 0x0503

/-- OUTPUT_SHORT. -/
def execOutputShort (channel : Fin 8) (s : State) : Out := .next (outputShort channel.val s)

/-- DRIVER_OVERTEMP: above 130 C every channel runs at half amplitude, until below 115 C. -/
def driverOvertemp (hot : Bool) (s : State) : State :=
  if !hot then s.putFlag F.LF_STAT_OVERTEMP false
  else if s.flag F.LF_STAT_OVERTEMP then s
  else ((s.putFlag F.LF_STAT_OVERTEMP true).event F.LF_EVT_OVERTEMP).reason .lf 0x050D

/-- DRIVER_OVERTEMP. -/
def execDriverOvertemp (hot : Bool) (s : State) : Out := .next (driverOvertemp hot s)

/-- VANT_FAULT: LF0 to LF7 stop, LFT continues; gate-drive mode has no VANT (R474). -/
def vantFault (centivolt : Nat) (s : State) : State :=
  if s.gateDrive || !s.enabled .lf then s
  else
    let s1 := { s with lf := { s.lf with vantMt := s.mt } }
    ((((s1.putFlag F.LF_STAT_VANT_OK false).put F.LF_VANT_MEAS centivolt).event F.LF_EVT_VANT_FAULT).reason .lf 0x0501).refreshLf

/-- VANT_FAULT. -/
def execVantFault (centivolt : BitVec 16) (s : State) : Out := .next (vantFault centivolt.toNat s)

/-- VANT_RETRY: a restart is tried every 1 s. -/
def vantRetry (ok : Bool) (centivolt : Nat) (s : State) : State :=
  if s.gateDrive || !s.enabled .lf || s.flag F.LF_STAT_VANT_OK || decide (s.mt < s.lf.vantMt + 1000000) then s
  else
    let s1 := { s with lf := { s.lf with vantMt := s.mt } }
    ((s1.put F.LF_VANT_MEAS centivolt).putFlag F.LF_STAT_VANT_OK ok).refreshLf

/-- VANT_RETRY. -/
def execVantRetry (ok : Bool) (centivolt : BitVec 16) (s : State) : Out := .next (vantRetry ok centivolt.toNat s)

/-- A write of OFF takes a channel out from the next frame with 0x050F, or returns it. -/
def lfChannelOff (c : Nat) (b : Bool) (s : State) : State :=
  let s1 := s.putFlag (F.LF_CHn_CTL_OFF c) b
  ((if b then s1.reason .lf 0x050F else s1)).refreshLf

/-- LF is enabled: the registers show the image, VANT is up in integrated mode, the start calibration runs (R131). -/
def State.lfEnabled (s : State) (temp : Int) (meas : List (Option (Nat × Nat))) : State :=
  let set := if s.gateDrive then 0 else 10 * le s.lfSec 8 2
  let s1 := ((s.put F.LF_STAT_FITTED (u8 s.lfSec 3)).put F.LF_STAT_MODE (u8 s.lfSec 0)).putFlag F.LF_STAT_LFT_OK true
  let s2 := ((s1.putFlag F.LF_STAT_VANT_OK (!s.gateDrive)).put F.LF_VANT_SET set).put F.LF_VANT_MEAS set
  s2.calLf temp meas

/-- The LF island has failed: the request on the air and those that wait end (R153). -/
def State.lfLost (s : State) : State :=
  let s1 := s.lf.queue.foldl (fun (t : State) r => if r.host then t.finish 0x0507 (hostOutcome (if r.lft then 2 else 0) []) else t)
    { s with lf := { s.lf with queue := [] } }
  ((s1.endHold 0x0507).putFlag F.LF_STAT_LFT_OK false).refreshLf

end Sys2Proof.Machine
end

