-- ==== Sys2Proof/Machine/Nfc.lean ====
section
/-! DEFINITION. Chapter 12: the reader (detection events, cards, LEARN_TOKEN with its card at the reader antenna) and the tag (field side,
wired side, tag memory). -/
namespace Sys2Proof.Machine

open Sys2Proof

/-! ## The NFC section (Table 12-9) -/

/-- The NFC section of the selected image. -/
def State.nfcSec (s : State) : Bytes := (s.section? 0x0E).getD []
/-- A reader type of TYPES is enabled: 0 Type A, 1 Type B. -/
def State.readerType (s : State) (n : Nat) : Bool := Nat.testBit (u8 s.nfcSec 0) n

/-! ## Resolution (R339, R340) -/

/-- The bytes that a UID sends over its cascade levels. -/
def cascade (uid : Bytes) : Bytes :=
  if uid.length = 7 then 0x88 :: uid
  else if uid.length = 10 then 0x88 :: uid.take 3 ++ 0x88 :: uid.drop 3
  else uid

/-- The bits of a byte, the least significant first. -/
def bitsOf (b : Byte) : List Bool := (List.range 8).map (fun i => Nat.testBit b.toNat i)

/-- Whether the first of two bit strings is selected first: at the first collided bit the reader takes 1. -/
def bitsFirst : List Bool → List Bool → Bool
  | [], _ => true
  | _ :: _, [] => false
  | a :: as, b :: bs => if a == b then bitsFirst as bs else a

/-- Inserts a card into the order of selection. -/
def insertCard (c : Bytes × Nat) : List (Bytes × Nat) → List (Bytes × Nat)
  | [] => [c]
  | d :: ds =>
    if bitsFirst ((cascade c.1).flatMap bitsOf) ((cascade d.1).flatMap bitsOf) then c :: d :: ds else d :: insertCard c ds

/-- The order in which bit-oriented anticollision selects Type A cards. -/
def orderA (cs : List (Bytes × Nat)) : List (Bytes × Nat) := cs.foldr insertCard []

/-- Numbers the Type A cards as the event resolves them. -/
def cardsA (maxRate : Nat) : Nat → List (Bytes × Nat) → List Card
  | _, [] => []
  | n, c :: cs => ⟨1, c.1, min c.2 maxRate, n, 0⟩ :: cardsA maxRate (n + 1) cs

/-- The slots of a round of `2 ^ k`, empty beyond those that are given. -/
def roundSlots (k : Nat) (r : List SlotB) : List SlotB := (List.range (2 ^ k)).map (fun i => r.getD i .empty)

/-- The next slot count, as its logarithm (Table 12-2). -/
def nextSlots (k : Nat) (r : List SlotB) : Nat :=
  if r.any (fun x => match x with | .collided => true | _ => false) then min 4 (k + 1)
  else if 2 ^ k < 2 * (r.filter (fun x => match x with | .empty => true | _ => false)).length then k - 1
  else k

/-- The cards of a round, in slot order. -/
def roundCards (maxRate n k : Nat) (r : List SlotB) : List Card :=
  r.filterMap (fun x => match x with | .single p rate => some ⟨2, p, min rate maxRate, n, k⟩ | _ => none)

/-- The Type B rounds: the cards, and whether 32 rounds passed without an end. The count bounds the rounds. -/
def roundsB (maxRate : Nat) : Nat → Nat → Nat → List (List SlotB) → List Card × Bool
  | 0, _, _, _ => ([], true)
  | left + 1, n, k, rs =>
    let r := roundSlots k (rs.headD [])
    if r.all (fun x => match x with | .empty => true | _ => false) then ([], false)
    else
      let rest := roundsB maxRate left (n + 1) (nextSlots k r) rs.tail
      (roundCards maxRate n k r ++ rest.1, rest.2)

/-- The cards of a detection event in the order of their handling, and the reason that its end reports, 0 none. -/
def State.resolve (s : State) (f : CardField) : List Card × Nat :=
  let rate := u8 s.nfcSec 1
  let a := if s.readerType 0 then orderA f.typeA else []
  if 16 < a.length then (cardsA rate 1 (a.take 16), 0x0D03)
  else
    let b := if s.readerType 1 then roundsB rate 32 1 (u8 s.nfcSec 3) f.roundsB else ([], false)
    (cardsA rate 1 a ++ b.1, if b.2 then 0x0D04 else 0)

/-! ## Detection events (R334 to R338) -/

/-- Changes the tag. -/
def State.setTag (s : State) (f : Tag → Tag) : State := { s with tag := f s.tag }

/-- An external field is present, or was within 5 ms. -/
def State.extField (s : State) : Bool := s.tag.field || (s.tag.fieldEnd != 0 && decide (s.mt < s.tag.fieldEnd + 5000))

/-- Why the reader cannot raise its field: 0, 0x0D01 on the RC, 0x0D02 for an external field. -/
def State.readerBlocked (s : State) : Nat := if s.onRc then 0x0D01 else if s.extField then 0x0D02 else 0

/-- A poll that is deferred or stopped. -/
def State.pollDeferred (s : State) (why : Nat) : State :=
  let s1 := s.reason .nfc why
  if why = 0x0D02 then (s1.event F.NFC_EVT_DEFERRED).bump F.NFC_RDR_CNT_DEFERRED else s1

/-- Ends the detection event: the field goes off, the rearm begins, its tokens' request performs its action. -/
def State.endDetection (s : State) (code : Nat) : State :=
  match s.nfc.detection with
  | none => s
  | some d =>
    let s1 := ({ s with nfc := { s.nfc with detection := none, armed := false, below := none } }).withdrawVote 0 12
    let s2 := if code ≠ 0 then s1.reason .nfc code else s1
    let s3 := if code = 0x0D07 then s2.event F.NFC_EVT_CARD_MAX else s2
    if d.learn then s3 else s3.closeRequest d.id 0

/-- Sends AREQ to the card selected, with a fresh challenge, all 0 for the TID read of learning; without a card the event ends. -/
def State.selectCard (s : State) (d : Detection) : State :=
  match d.cards with
  | [] => ({ s with nfc := { s.nfc with detection := some d } }).endDetection d.ending
  | _ :: _ =>
    let c := if d.learn then zeros 16 else s.drawn 16
    let s1 := if d.learn then s else s.fresh 16
    let d1 : Detection := { d with c := c, startMt := s.mt }
    ({ s1 with nfc := { s1.nfc with detection := some d1 } }).tokSent (s1.areq c |>.take 27)

/-- A detection event starts: every card is resolved, the tokens are those of one request with code 0x0D. -/
def State.startDetection (s : State) (f : CardField) (learn : Bool) : State :=
  let (cards, ending) := s.resolve f
  let s1 := ((s.raiseVote 0 12 false).event F.NFC_EVT_DETECT).bump F.NFC_RDR_CNT_DETECTS
  if learn then s1.selectCard ⟨cards, 0, 0, [], ending, true, s.mt⟩
  else
    let (s2, id) := s1.openRequest 0x0D 3 false none
    s2.selectCard ⟨cards, 0, id, [], ending, false, s.mt⟩

/-- Whether the reader may run at all: NFC, TOK and RF enabled (Table 4-17), READER_OFF clear, no event at work, no reload. -/
def State.readerUp (s : State) : Bool :=
  s.enabled .nfc && s.enabled .tok && s.enabled .rf && !s.flag F.NFC_CTL_READER_OFF && s.nfc.detection.isNone && !(s.upd.loading == some 5)

/-- A detection is due: it starts, is stopped on the RC, or waits for an external field to be gone (R334) or for the commit of a key set,
which holds new sessions (R93). -/
def State.detect (s : State) (f : CardField) : State :=
  if s.readerBlocked = 0x0D02 then ({ s with nfc := { s.nfc with held := some f } }).pollDeferred 0x0D02
  else if s.readerBlocked ≠ 0 then s.pollDeferred s.readerBlocked
  else if s.tok.commitWait.isSome then { s with nfc := { s.nfc with held := some f } }
  else (if s.pwr.standby then s.raiseVote 0 (1 + s.activePair) false else s).startDetection f false

/-- The detection that a commit or an external field held starts once that is over. -/
def State.dueCards (s : State) : State :=
  match s.nfc.held with
  | none => s
  | some f =>
    if s.tok.commitWait.isSome || s.readerBlocked = 0x0D02 then s
    else
      let s1 : State := { s with nfc := { s.nfc with held := none } }
      if s1.readerUp then s1.detect f else s1

/-- Whether LPCD_PERIOD_MS of PT have passed since the last sense (R336). -/
def State.senseDue (s : State) : Bool := decide (32768 * s.setting 0x0D01 500 ≤ 1000 * (s.pilot.pt - s.nfc.sensePt).toNat)

/-- LPCD_SENSE, at each LPCD_PERIOD_MS: the detuning against the baseline raises a detection of an armed reader, or moves the baseline by
1/64. A sense that gets no answer shows the tag sub-domain failed: tag mode and LPCD are lost with 0x0D0D (Table 12-11; log entry 177). -/
def lpcdSense (detuning : Option Nat) (f : CardField) (s : State) : State :=
  let asleep := s.pwr.standby && !Nat.testBit (u8 s.nfcSec 8) 2
  if !s.readerUp || !s.tag.works || s.onRc || asleep || !s.senseDue then s
  else match detuning with
  | none => (s.setTag (fun t => { t with works := false, tagMode := false })).reason .nfc 0x0D0D
  | some detuning =>
    let d := detuning * 64 - s.nfc.baseline
    let above := decide (u8 s.nfcSec 6 * 64 < d)
    let s1 : State := { s with nfc := { s.nfc with sensePt := s.pilot.pt } }
    if above && s.nfc.armed then s1.detect f
    else
      let low := decide (d < u8 s.nfcSec 6 * 64)
      let base := (s.nfc.baseline : Int) + ((detuning : Int) * 64 - s.nfc.baseline) / 64
      { s1 with nfc := { s1.nfc with
          below := if low then (match s.nfc.below with | some t => some t | none => some s.mt) else none
          baseline := base.toNat } }

/-- LPCD_SENSE. -/
def execLpcdSense (detuning : Option Nat) (cards : CardField) (s : State) : Out := .next (lpcdSense detuning cards s)

/-- POLL: a detection at once, whatever the rearm state. -/
def poll (f : CardField) (s : State) : State :=
  if !s.readerUp then s else s.detect f

/-- POLL. -/
def execPoll (cards : CardField) (s : State) : Out := .next (poll cards s)

/-- CARD_REARM: the detuning has stayed below LPCD_DELTA for CARD_REARM_MS. -/
def execCardRearm (s : State) : Out :=
  .next (match s.nfc.below with
    | some t => if t + 1000 * s.setting 0x0D02 200 ≤ s.mt && s.nfc.detection.isNone then
        { s with nfc := { s.nfc with armed := true } }
      else s
    | none => s)

/-- NFC_LAST_CARD. -/
def State.lastCard (s : State) (c : Card) (why : Nat) : State :=
  s.setReg R.NFC_LAST_CARD (c.type * 2 ^ 30 + c.rate % 4 * 2 ^ 28 + c.slots % 16 * 2 ^ 24 + c.rounds % 256 * 2 ^ 16 + why)

/-- The next card of the event. -/
def State.nextCard (s : State) (d : Detection) : State := s.selectCard { d with cards := d.cards.drop 1 }

/-- CARD_ARSP: the selected card answers. The answer is judged on the NFC path, and the event goes on to the next card or ends after
CARD_MAX of them; in learning the answer is the TID read, refused with 0x081F below KEYLOAD_MIN. -/
def cardArsp (frame : Bytes) (level : Nat) (s : State) : State :=
  match s.nfc.detection with
  | none => s
  | some d =>
    match d.cards with
    | [] => s
    | c :: _ =>
      if d.learn && (match s.learnStep with | some x => x.loaded | none => true) then s
      else if frame.length ≠ 18 || u8 frame 0 ≠ 0x34 then
        let s1 := ((s.lastCard c 0x0D06).event F.NFC_EVT_CARD_FAIL).reason .nfc 0x0D06
        if d.learn then s1.endLearnStep 0x0814 [] else s1.nextCard d
      else
        let s1 := (s.event F.NFC_EVT_CARD_ARSP).bump F.NFC_RDR_CNT_CARDS
        if d.learn then
          let tidOk := match s.learnStep with | some x => be frame 2 4 == x.tid && allZero (slice frame 10 8) | none => false
          let s2 := s1.lastCard c 0
          if tidOk && decide (level < u8 s.nfcSec 9) then s2.endLearnStep 0x081F [] else s2.learnRead frame
        else
          let (s2, why) := s1.judgeArsp 3 0x04 d.c frame d.id 0x0D
          let s3 := s2.lastCard c why
          let d1 : Detection := { d with arsps := d.arsps + 1 }
          if u8 s.nfcSec 2 ≤ d1.arsps then s3.endDetection 0x0D07 else s3.nextCard d1

/-- CARD_ARSP. -/
def execCardArsp (frame : Bytes) (level : BitVec 8) (s : State) : Out := .next (cardArsp frame level.toNat s)

/-- CARD_TIMEOUT: no ARSP within 500 ms, or a protocol error: the card is deselected. -/
def cardTimeout (protocol : Bool) (s : State) : State :=
  match s.nfc.detection with
  | none => s
  | some d =>
    match d.cards with
    | [] => s
    | c :: _ =>
      if !protocol && decide (s.mt < d.startMt + 500000) then s
      else
        let why := if protocol then 0x0D06 else 0x0D05
        let s1 := ((s.lastCard c why).event F.NFC_EVT_CARD_FAIL).reason .nfc why
        if d.learn then s1.endLearnStep (if (match s.learnStep with | some x => x.loaded | none => false) then 0x0815 else 0x0814) []
        else s1.nextCard d

/-- CARD_TIMEOUT. -/
def execCardTimeout (protocol : Bool) (s : State) : Out := .next (cardTimeout protocol s)

/-- The reader stops: reference on the RC, NFC disabled, READER_OFF, the island failed. -/
def State.readerStop (s : State) : State :=
  match s.nfc.detection with
  | none => s
  | some d => if d.learn then s.endLearnStep 0x0814 [] else s.endDetection 0

/-- After a takeover the card exchange in progress restarts with a fresh challenge (R28). -/
def State.readerRestart (s : State) : State :=
  match s.nfc.detection with
  | none => s
  | some d => if d.learn then s else s.selectCard d

/-! ## LEARN_TOKEN (Sequence 4-1) -/

/-- The learn token command: steps 1 and 2, then the TID read at the LFT coil (class F and T) or at the reader antenna (class C). The
answer comes with the end of the token's step. -/
def learnTokenOp (record : Bytes) (f : CardField) (s : State) : MbRes :=
  match s.learnBegin record with
  | .error code => mbFail s.touchLearn .tok code
  | .ok x =>
    let s1 := s.touchLearn
    let s2 := s1.setLearn (s1.tok.learn.map (fun (l : Learn) => { l with current := some x }))
    if x.cls ≠ 2 then
      let r : LfReq := { code := 0x0B, cls := lfClass 0x0B true, lft := true, trig := false, host := false, learn := true, confirm := none }
      let (s3, why) := s2.raiseRequest r
      if why ≠ 0 then mbFail s1 .tok why else (s3, mbDeferred, [])
    else if !s2.enabled .nfc then mbFail s1 .tok 0x0131
    else if !s2.readerUp then mbFail s1 .tok 0x0814
    else if s2.readerBlocked ≠ 0 then mbFail (s1.pollDeferred s2.readerBlocked) .tok s2.readerBlocked
    else if (s2.resolve f).1.isEmpty then mbFail s1 .tok 0x0814
    else (s2.startDetection f true, mbDeferred, [])

/-- LEARN_TOKEN. -/
def execLearnToken (record : Bytes) (cards : CardField) (s : State) : Out :=
  .next (mailboxCommand 0x0802 record (learnTokenOp record cards) s)

/-! ## The tag: field and selection (R343, R344, R351) -/

/-- `n` bytes of the tag's noise source. -/
def State.tagNoise (s : State) (n : Nat) : Bytes := padTo n (Config.tagNoise s.tag.noise n)

/-- Whether the tag has energy at a field level: VBAT, or 1.5 A/m. -/
def State.tagPowered (s : State) (fl : Nat) : Bool := s.tag.works && (s.pilot.vbatUp || decide (6 ≤ fl))

/-- Whether the firmware that updates tag memory runs. -/
def State.tagWriter (s : State) : Bool := s.pilot.vbatUp && (s.phase == 8 || s.phase == 9 || s.phase == 0xA)

/-- Writes what waited for the field side (R352): the tail in SEQ order, then the status copy. -/
def State.flushTag (s : State) : State :=
  if !s.tag.works then s
  else if s.tag.busy s.mt then s.setTag (fun t => { t with retryMt := s.mt })
  else
    let late := s.tag.pendTail
    let s1 := late.foldl (fun (t : State) (e : Nat × Bytes) => t.tailPut e.1 e.2) (s.setTag (fun t => { t with pendTail := [] }))
    if s1.tag.pendStat then s1.statusCopy else s1

/-- FIELD_ENTRY: a field after at least 5 ms without one draws a fresh UID; with VBAT present the status copy and the tail are written. The
reader cannot sense a field while it transmits. -/
def fieldEntry (level : Nat) (s : State) : State :=
  if !s.tagPowered level || level < 2 || s.tag.field || s.nfc.detection.isSome then s
  else if s.tag.fieldEnd ≠ 0 && decide (s.mt < s.tag.fieldEnd + 5000) then s.setTag (fun t => { t with field := true, level := level })
  else
    let uid := 0x08 :: s.tagNoise 3
    let s1 := s.setTag (fun t => { t with field := true, level := level, uid := uid, noise := t.noise + 1, selected := false, app := .opened })
    if !s1.pilot.vbatUp then s1
    else
      let s2 := (s1.event F.NFC_EVT_FIELD_ENTRY).bump F.NFC_TAG_CNT_ENTRIES
      if !s2.tagWriter then s2 else (((s2.raiseVote 0 12 false).flushTag).statusCopy).withdrawVote 0 12

/-- FIELD_ENTRY. -/
def execFieldEntry (level : BitVec 4) (s : State) : Out := .next (fieldEntry level.toNat s)

/-- FIELD_LOSS: the selection ends, and the field with it unless it was deselected. -/
def fieldLoss (deselect : Bool) (s : State) : State :=
  if !s.tag.field then s
  else
    s.setTag (fun t => { t with
      selected := false, app := .opened, rc := [], tc := []
      field := deselect, fieldEnd := if deselect then t.fieldEnd else max 1 s.mt, ownEnd := min t.ownEnd s.mt })

/-- FIELD_LOSS. -/
def execFieldLoss (deselect : Bool) (s : State) : Out := .next (fieldLoss deselect s)

/-- CRC_A of ISO/IEC 14443-3: reflected 0x8408 from 0x6363; the count bounds the bits. -/
def crcAByte (c : Nat) (b : Byte) : Nat :=
  (List.range 8).foldl (fun v _ => if v % 2 = 1 then v / 2 ^^^ 0x8408 else v / 2) (c ^^^ b.toNat)

/-- The 2 bytes of CRC_A, low byte first. -/
def crcA (bs : Bytes) : Bytes := toLE 2 (bs.foldl crcAByte 0x6363)

/-- The ATS (R344). -/
def tagAts : Bytes := [0x09, 0x78, 0x11, 0x70, 0x00, 0x4E, 0x4C, 0x54, 0x47]

/-- TAG_ANTICOLLISION: ATQA, UID and BCC, SAK, ATS. The tag answers while it has energy and its stored copy has tag mode set. -/
def tagAnticollision (fl : Nat) (s : State) : State :=
  if !s.tag.field || !s.tagPowered fl || !s.tag.tagMode then s
  else
    let bcc := s.tag.uid.foldl (fun x b => x ^^^ b) 0
    s.setTag (fun t => { t with selected := true, app := .opened, level := fl
                                lastAnswer := [0x04, 0x00] ++ t.uid ++ [bcc] ++ [0x20] ++ tagAts ++ crcA tagAts })

/-- TAG_ANTICOLLISION. -/
def execTagAnticollision (fl : BitVec 4) (s : State) : Out := .next (tagAnticollision fl.toNat s)

/-! ## Tag commands (R345 to R347) -/

/-- Answers the field side. -/
def State.tagAnswer (s : State) (status : Byte) (data : Bytes) : State := s.setTag (fun t => { t with lastAnswer := status :: data })

/-- Whether a command that writes finds the harvested field too weak; it is answered 0x03 (R347). -/
def State.tagWeak (s : State) (fl : Nat) : Bool := !s.pilot.vbatUp && decide (fl < s.tag.wrLevel)

/-- A command frame: the selected tag samples FL and owns the memory until its answer is out. Before a command that writes, a weak field
answers 0x03 and nothing moves (R347); KEY_WAIT refuses every command but AUTH_END with 0x05; a frame of the wrong length answers 0x07. -/
def State.tagFrame (s : State) (fl n micros : Nat) (args : Bytes) (authEnd writes : Bool) (run : State → State) : State :=
  if !s.tag.field || !s.tag.selected || !s.tagPowered fl || !s.tag.tagMode then s
  else
    let s1 := s.setTag (fun t => { t with level := fl, ownEnd := s.mt + micros })
    if writes && s1.tagWeak fl then (s1.bump F.NFC_TAG_CNT_WEAK).tagAnswer 0x03 []
    else if s1.tag.app == .keyWait && !authEnd then (s1.setTag (fun t => { t with app := .opened, rc := [], tc := [] })).tagAnswer 0x05 []
    else if args.length ≠ n then s1.tagAnswer 0x07 []
    else run s1

/-- GET_INFO. -/
def getInfo (s : State) : State :=
  let code := match s.tag.app with | .securedP => 1 | .securedK => 2 | _ => 0
  s.tagAnswer 0 (toLE 1 1 ++ toLE 1 (Config.tagState code) ++ toLE 1 s.tag.level
    ++ toLE 1 (Config.tagLocks (decide (8 ≤ s.tag.pwdFail)) (decide (8 ≤ s.tag.keyFail))) ++ toLE 2 512)

/-- GET_INFO. -/
def execGetInfo (fl : BitVec 4) (args : Bytes) (micros : BitVec 16) (s : State) : Out :=
  .next (s.tagFrame fl.toNat 0 micros.toNat args false false getInfo)

/-- Whether the tag is in a secured state. -/
def Tag.secured (t : Tag) : Bool := t.app == .securedP || t.app == .securedK

/-- Whether the field side may read a block (Table 12-6). -/
def Tag.fieldRead (t : Tag) (b : Nat) : Bool :=
  if b = 0 then true
  else if b ≤ 3 then t.idOpen || t.secured
  else if b ≤ 15 then true
  else if b ≤ 399 then t.secured
  else if b ≤ 495 then t.hostOpen || t.secured
  else false

/-- Whether a host reservation is in force. -/
def Tag.reserved (t : Tag) (mt : Nat) : Bool := match t.resEnd with | some e => decide (mt < e) | none => false

/-- The bytes of `n` blocks from block `b`. -/
def Tag.blocks (t : Tag) (b n : Nat) : Bytes := sparseRead tagDefault t.mem (16 * b) (16 * n)

/-- READ: block 2, count 1. -/
def tagFieldRead (args : Bytes) (s : State) : State :=
  let b := le args 0 2
  let n := le args 2 1
  if n = 0 || 15 < n || 512 < b + n then s.tagAnswer 0x04 []
  else if !(List.range n).all (fun i => s.tag.fieldRead (b + i)) then s.tagAnswer 0x02 []
  else if s.tag.reserved s.mt then s.tagAnswer 0x01 []
  else s.tagAnswer 0x00 (s.tag.blocks b n)

/-- READ. -/
def execRead (fl : BitVec 4) (args : Bytes) (micros : BitVec 16) (s : State) : Out :=
  .next (s.tagFrame fl.toNat 3 micros.toNat args false false (tagFieldRead args))

/-- WRITE: block 2, data 16; the workshop area in SECURED_K only. -/
def tagFieldWrite (args : Bytes) (s : State) : State :=
  let b := le args 0 2
  if 512 ≤ b then s.tagAnswer 0x04 []
  else if !(272 ≤ b && b ≤ 399 && s.tag.app == .securedK) then s.tagAnswer 0x02 []
  else if s.tag.reserved s.mt then s.tagAnswer 0x01 []
  else (s.tagPut b (padTo 16 (args.drop 2))).tagAnswer 0x00 []

/-- WRITE. -/
def execWrite (fl : BitVec 4) (args : Bytes) (micros : BitVec 16) (s : State) : Out :=
  .next (s.tagFrame fl.toNat 18 micros.toNat args false true (tagFieldWrite args))

/-- A method's counter and lock show in NFC_TAG_STAT; the eighth failure locks it. -/
def State.methodFailed (s : State) (key : Bool) : State :=
  let n := (if key then s.tag.keyFail else s.tag.pwdFail) + 1
  let s1 := s.setTag (fun t => if key then { t with keyFail := n } else { t with pwdFail := n })
  if n = 8 then (s1.event F.NFC_EVT_METHOD_LOCK).reason .nfc (if key then 0x0D0C else 0x0D0B) else s1

/-- PWD_AUTH. -/
def pwdAuth (args : Bytes) (s : State) : State :=
  if s.tag.app ≠ .opened then s.tagAnswer 0x02 []
  else if 8 ≤ s.tag.pwdFail then s.tagAnswer 0x06 []
  else match s.tag.password with
    | none => s.tagAnswer 0x05 []
    | some p =>
      if args = p then
        ((s.setTag (fun t => { t with app := .securedP, pwdFail := 0 })).event F.NFC_EVT_TAG_SECURED).tagAnswer 0x00 []
      else (s.methodFailed false).tagAnswer 0x05 []

/-- PWD_AUTH. -/
def execPwdAuth (fl : BitVec 4) (args : Bytes) (micros : BitVec 16) (s : State) : Out :=
  .next (s.tagFrame fl.toNat 8 micros.toNat args false true (pwdAuth args))

/-- AUTH_BEGIN. -/
def authBegin (args : Bytes) (s : State) : State :=
  if s.tag.app ≠ .opened then s.tagAnswer 0x02 []
  else if 8 ≤ s.tag.keyFail then s.tagAnswer 0x06 []
  else if s.tag.key.isNone then s.tagAnswer 0x05 []
  else
    let tc := s.tagNoise 16
    (s.setTag (fun t => { t with app := .keyWait, rc := args, tc := tc, noise := t.noise + 1 })).tagAnswer 0x00 tc

/-- AUTH_BEGIN. -/
def execAuthBegin (fl : BitVec 4) (args : Bytes) (micros : BitVec 16) (s : State) : Out :=
  .next (s.tagFrame fl.toNat 16 micros.toNat args false false (authBegin args))

/-- MR and MT: CMAC under TK (R346). -/
def Tag.authMac (t : Tag) (d : Nat) (first second : Bytes) : Bytes :=
  padTo 16 (Crypto.cmac (t.key.getD []) (toLE 1 d ++ t.uid ++ first ++ second))

/-- AUTH_END. -/
def authEnd (args : Bytes) (s : State) : State :=
  let t := s.tag
  if t.app ≠ .keyWait then s.tagAnswer 0x02 []
  else if args = t.authMac 0x51 t.rc t.tc then
    ((s.setTag (fun t => { t with app := .securedK, keyFail := 0 })).event F.NFC_EVT_TAG_SECURED).tagAnswer 0x00 (t.authMac 0x52 t.tc t.rc)
  else ((s.setTag (fun t => { t with app := .opened, rc := [], tc := [] })).methodFailed true).tagAnswer 0x05 []

/-- AUTH_END. -/
def execAuthEnd (fl : BitVec 4) (args : Bytes) (micros : BitVec 16) (s : State) : Out :=
  .next (s.tagFrame fl.toNat 16 micros.toNat args true true (authEnd args))

/-- LOGOUT: a secured state is left, and the tag is OPEN at the next selection. -/
def logout (s : State) : State :=
  (if s.tag.secured then s.setTag (fun t => { t with app := .opened, selected := false }) else s).tagAnswer 0x00 []

/-- LOGOUT. -/
def execLogout (fl : BitVec 4) (args : Bytes) (micros : BitVec 16) (s : State) : Out :=
  .next (s.tagFrame fl.toNat 0 micros.toNat args false false logout)

/-! ## The wired side (R352, R353, R356) -/

/-- Whether a wired access is refused: the sub-domain failed, the field side holds the memory, a reservation ran out. -/
def State.wiredRefusal (s : State) : Nat :=
  if !s.tag.works then 0x0D0D else if s.tag.busy s.mt then 0x0D08 else if s.tag.resOver then 0x0D0F else 0

/-- A reservation that has reached its duration ends. -/
def State.endReservation (s : State) : State :=
  match s.tag.resEnd with
  | some e => if e ≤ s.mt then s.setTag (fun t => { t with resEnd := none, resOver := true }) else s
  | none => s

/-- Runs a wired access, or refuses it; an access that meets the field side counts. -/
def State.wired (s0 : State) (run : State → MbRes) : MbRes :=
  let s := s0.endReservation
  let r := s.wiredRefusal
  if r = 0x0D08 then mbFail (s.bump F.NFC_TAG_CNT_BUSY) .nfc r
  else if r ≠ 0 then mbFail s .nfc r
  else run s

/-- The set password command: 8 bytes, all 0 for none. -/
def tagSetPwdOp (p : Bytes) (s : State) : MbRes :=
  if p.length ≠ 8 then mbRefuse s 0x100C
  else s.wired (fun t => mbOk (t.setTag (fun g => { g with password := if allZero p then none else some p })) [])

/-- TAG_SET_PWD. -/
def execTagSetPwd (password : Bytes) (s : State) : Out := .next (mailboxCommand 0x0D01 password (tagSetPwdOp password) s)

/-- The set key command: TK, 32 bytes. -/
def tagSetKeyOp (k : Bytes) (s : State) : MbRes :=
  if k.length ≠ 32 then mbRefuse s 0x100C
  else s.wired (fun t => mbOk (t.setTag (fun g => { g with key := some k })) [])

/-- TAG_SET_KEY. -/
def execTagSetKey (key : Bytes) (s : State) : Out := .next (mailboxCommand 0x0D02 key (tagSetKeyOp key) s)

/-- The read command: 1 to 32 blocks outside the control blocks. -/
def tagReadOp (block count : Nat) (s : State) : MbRes :=
  s.wired (fun t =>
    if count = 0 || 32 < count || 496 < block + count then mbFail t .nfc 0x0D0E
    else mbOk t (t.tag.blocks block count))

/-- TAG_READ. -/
def execTagRead (block : BitVec 16) (count : BitVec 8) (s : State) : Out :=
  .next (mailboxCommand 0x0D03 (toLE 2 block.toNat ++ toLE 1 count.toNat) (tagReadOp block.toNat count.toNat) s)

/-- The write command: the workshop and the host area. -/
def tagWriteOp (block count : Nat) (data : Bytes) (s : State) : MbRes :=
  if data.length ≠ 16 * count then mbRefuse s 0x100C
  else s.wired (fun t =>
    if count = 0 || 32 < count || 512 < block + count then mbFail t .nfc 0x0D0E
    else if block < 272 || 496 < block + count then mbFail t .nfc 0x0D0A
    else mbOk (t.tagPut block data) [])

/-- TAG_WRITE. -/
def execTagWrite (block : BitVec 16) (count : BitVec 8) (data : Bytes) (s : State) : Out :=
  .next (mailboxCommand 0x0D04 (toLE 2 block.toNat ++ toLE 1 count.toNat ++ data) (tagWriteOp block.toNat count.toNat data) s)

/-- The reserve command: 1 to 50 ms, only while no field is present. -/
def tagReserveOp (ms : Nat) (s : State) : MbRes :=
  if ms = 0 || 50 < ms then mbRefuse s 0x100C
  else if !s.tag.works then mbFail s .nfc 0x0D0D
  else if s.tag.field then mbFail s .nfc 0x0D09
  else mbOk (s.setTag (fun t => { t with resEnd := some (s.mt + 1000 * ms), resOver := false })) []

/-- TAG_RESERVE. -/
def execTagReserve (ms : BitVec 8) (s : State) : Out := .next (mailboxCommand 0x0D05 (toLE 1 ms.toNat) (tagReserveOp ms.toNat) s)

/-- The release command; 0x0D0F when none is held. -/
def tagReleaseOp (s0 : State) : MbRes :=
  let s := s0.endReservation
  if s.tag.resEnd.isNone then mbFail (s.setTag (fun t => { t with resOver := false })) .nfc 0x0D0F
  else mbOk (s.setTag (fun t => { t with resEnd := none })) []

/-- TAG_RELEASE. -/
def execTagRelease (s : State) : Out := .next (mailboxCommand 0x0D06 [] tagReleaseOp s)

/-- RESERVATION_END. -/
def execReservationEnd (s : State) : Out := .next s.endReservation

/-- CLR_LOCKS: clears both method counters and locks; a wired access. -/
def clrLocks (s : State) : State :=
  if !s.tag.works then s.reason .nfc 0x0D0D
  else if s.tag.busy s.mt then (s.bump F.NFC_TAG_CNT_BUSY).reason .nfc 0x0D08
  else s.setTag (fun t => { t with pwdFail := 0, keyFail := 0 })

/-- CLR_LOCKS. -/
def execClrLocks (s : State) : Out := .next (clrLocks s)

/-- TAG_UPDATE_RETRY: 1 ms after an update that found the field side owning the memory. -/
def execTagUpdateRetry (s : State) : Out := .next (if s.tagWriter && decide (s.tag.retryMt + 1000 ≤ s.mt) then s.flushTag else s)

/-! ## Enable and views (R354, R358) -/

/-- The header of block 0 and the identity blocks 1 to 3, written by the Untur (Table 12-6; log entry 55). -/
def State.writeIdentity (s : State) : State :=
  let id := (s.section? 1).getD []
  let head := toLE 4 0x47544C4E ++ toLE 1 1 ++ toLE 2 512 ++ toLE 1 32 ++ zeros 8
  let body := padTo 17 (slice id 8 17) ++ padTo 4 (slice id 4 4) ++ padTo 4 (slice id 0x20 4) ++ toLE 4 s.vault.deviceTag
    ++ toLE 4 0x9600 ++ zeros 15
  (s.tagPut 0 (padTo 16 head)).tagPut 1 (padTo 48 body)

/-- The NFC enable: TYPES and the tag's copies go to the control blocks, the header and the identity are written, sensing begins. -/
def State.nfcEnabled (s : State) : State :=
  let flags := u8 s.nfcSec 8
  let s1 := s.setTag (fun t => { t with tagMode := s.readerType 2, types := u8 s.nfcSec 0, wrLevel := u8 s.nfcSec 7
                                        idOpen := Nat.testBit flags 0, hostOpen := Nat.testBit flags 1 })
  let s2 : State := { s1 with nfc := { s1.nfc with armed := true, below := none, baseline := 0, sensePt := s1.pilot.pt } }
  let s3 := if s2.onRc then s2.reason .nfc 0x0D01 else s2
  if s3.tag.works then s3.writeIdentity else s3.reason .nfc 0x0D0D

/-- A write of READER_OFF: the reader is suspended. -/
def readerOff (b : Bool) (s : State) : State :=
  let s1 := s.putFlag F.NFC_CTL_READER_OFF b
  if b then s1.readerStop else s1

/-- NFC_STAT, NFC_TAG_STAT and NFC_TAG_WIN follow from the reader and the tag. -/
def State.nfcView (s : State) (off : Nat) : Option Nat :=
  let t := s.tag
  if off = R.NFC_STAT then
    let role := if s.nfc.detection.isSome then 1
      else if t.works && t.tagMode then (if t.field && t.busy s.mt then 3 else 2) else 0
    some (t.level * 2 ^ 8 + bit (t.reserved s.mt) * 2 ^ 7 + bit t.works * 2 ^ 6 + bit t.field * 2 ^ 5
      + bit (s.enabled .nfc && s.onRc) * 2 ^ 4 + role * 4 + bit t.key.isSome * 2 + bit t.password.isSome)
  else if off = R.NFC_TAG_STAT then
    some (t.keyFail * 2 ^ 16 + t.pwdFail * 2 ^ 12 + bit (decide (8 ≤ t.keyFail)) * 2 ^ 9 + bit (decide (8 ≤ t.pwdFail)) * 2 ^ 8
      + s.get F.NFC_TAG_STAT_TAIL_SLOT)
  else if off = R.NFC_TAG_WIN then
    some (match t.resEnd with | some e => (e - s.mt + 999) / 1000 | none => 0)
  else none

end Sys2Proof.Machine
end

