-- ==== Sys2Proof/Machine/Update.lean ====
section
/-! DEFINITION. Chapter 15: manifests and their checks, download and verification, activation with the string handover, satellite
reloads, revert, confirmation and the forward reseal. What a new start does with a trial stands in Start; pair faults stand in
Events. -/
namespace Sys2Proof.Machine

open Sys2Proof

/-! ## Manifests (R407, R408) -/

/-- Chunk 0 of an image. -/
def manifest (img : Bytes) : Bytes := img.take 65536

/-- IMG_LEN and NCHUNK. -/
def mfLen (m : Bytes) : Nat := le m 0x0C 4
def mfChunks (m : Bytes) : Nat := le m 0x10 2

/-- Check 1 of Table 15-3. -/
def mfConsistent (m : Bytes) : Bool :=
  let len := mfLen m
  let np := le m 0x12 2
  m.length == 65536 && le m 0 4 == 0x4D57464E && le m 4 2 == 1 && within len 65536 16777216
    && mfChunks m == (len + 65535) / 65536 && within np 1 128
    && allZero (slice m 0x20 0xE0) && allZero (slice m 0x20E0 0x20) && allZero (slice m 0x3900 0x600) && allZero (m.drop 0x3F84)
    && (List.range np).all (fun k => allZero (slice m (0x2100 + 48 * k + 12) 4))

/-- SIG under Naldin's key; the engineering key where ENG is blown (R408). -/
def State.mfSigned (s : State) (m : Bytes) : Bool :=
  Crypto.ecdsaVerify (if s.fuses.eng then Config.naldinEngKey else Config.naldinKey) (Crypto.sha512 (m.take 0x3F00)) (slice m 0x3F00 132)

/-- CHUNK_DIG of chunk `k` ≥ 1. -/
def mfChunkDigest (m : Bytes) (k : Nat) : Bytes := slice m (0x0100 + 32 * (k - 1)) 32

/-- Whether a chunk matches its digest. -/
def chunkMatches (m : Bytes) (k : Nat) (data : Bytes) : Bool := (Crypto.sha512 data).take 32 == mfChunkDigest m k

/-- Check 7: every chunk of an image against CHUNK_DIG. -/
def chunksMatch (img : Bytes) : Bool :=
  let m := manifest img
  img.length == mfLen m && (List.range (mfChunks m)).all (fun k => k == 0 || chunkMatches m k (slice img (65536 * k) 65536))

/-- The bytes of part `k` of an image, as the image's manifest places them. -/
def partBytes (img : Bytes) (k : Nat) : Bytes := let r := slice img (0x2100 + 48 * k) 48; slice img (le r 4 4) (le r 8 4)

/-- A page-in of part `k` against its digest in a manifest (R70). -/
def pageInOk (m : Bytes) (k : Nat) (data : Bytes) : Bool := (Crypto.sha512 data).take 32 == slice m (0x2100 + 48 * k + 16) 32

/-- Every part of an image against the digests of a manifest. -/
def partsHold (m img : Bytes) : Bool := (List.range (le m 0x12 2)).all (fun k => pageInOk m k (partBytes img k))

/-- Check 8: every part against its PARTS digest. -/
def partsMatch (img : Bytes) : Bool := partsHold img img

/-- FAMILY, and ENG as the fuse has it (R408, check 3 of Table 15-3). -/
def State.mfSuits (s : State) (m : Bytes) : Bool := le m 8 4 == 0x9600 && Nat.testBit (u8 m 7) 0 == s.fuses.eng

/-- Whether an image verifies at a start (R70): Naldin's signature over a manifest that suits the part, and the digests it holds. The
factory firmware is Naldin's own (R13). -/
def State.firmwareOk (s : State) (img : Bytes) : Bool :=
  img == Config.factoryFirmware
    || (mfConsistent (manifest img) && s.mfSigned (manifest img) && s.mfSuits (manifest img) && chunksMatch img)

/-- The slot numbered `k`. -/
def State.fwSlot (s : State) (k : Nat) : FwSlot := s.update.slots.getD k ⟨.empty, 0, [], []⟩

/-- Replaces a slot. -/
def State.setFwSlot (s : State) (k : Nat) (x : FwSlot) : State := { s with update := { s.update with slots := s.update.slots.set k x } }

/-- Sets the role of a slot. -/
def State.setRole (s : State) (k : Nat) (r : SlotRole) : State := s.setFwSlot k { s.fwSlot k with role := r }

/-- The slot in a role. -/
def State.slotIn (s : State) (r : SlotRole) : Option Nat := [0, 1].find? (fun k => (s.fwSlot k).role == r)

/-- The recovery image of the NOR, as its manifest bounds it. -/
def State.recoveryImage (s : State) : Bytes :=
  match s.copySlot 2 with
  | none => []
  | some (off, size) => norRead s.nor.cells off (min size (mfLen (norRead s.nor.cells off 0x20)))

/-- The manifest of the running image, held from the start (R412). -/
def State.runningManifest (s : State) : Bytes :=
  if s.sys.manifest.isEmpty then manifest (if s.sys.fw = .recovery then s.recoveryImage else (s.fwSlot s.update.running).image)
  else s.sys.manifest

/-- Whether the ranges `lo` to `hi` of a manifest byte hold a value. -/
def mfHolds (m : Bytes) (lo hi v : Nat) : Bool := within v (u8 m lo) (u8 m hi)

/-- Checks 1 to 6 of Table 15-3: 0 or the reason. -/
def State.mfCheck (s : State) (m : Bytes) : Nat :=
  let r := s.runningManifest
  if !mfConsistent m then 0x0E02
  else if !s.mfSigned m then 0x0E03
  else if !s.mfSuits m then 0x0E04
  else if u8 m 6 < s.update.floor || u8 m 6 < s.ringS then 0x0E05
  else if !mfHolds m 0x15 0x16 (u8 r 0x14) || !mfHolds r 0x15 0x16 (u8 m 0x14) then 0x0E06
  else if u8 r 0x1A < u8 m 0x1B || u8 m 0x1A < u8 r 0x1B then 0x0E07
  else 0

/-! ## States and entries (R410, R427) -/

/-- The codes of Table 15-2 and the progress word of UPD_PROG. -/
def updCode : UpdState → Nat
  | .idle => 0 | .download => 1 | .verify => 2 | .ready => 3 | .activate => 4 | .trial => 5

/-- Percent of a count of chunks. -/
def percentOf (n total : Nat) : Nat := if total = 0 then 0 else n * 100 / total

/-- UPD_PROG (R10). -/
def State.updProg (s : State) : Nat :=
  let total := mfChunks (s.fwSlot s.update.target).image
  match s.update.state with
  | .download => percentOf s.update.next total * 2 ^ 24 + s.update.next
  | .verify => percentOf s.upd.verified total * 2 ^ 24 + s.upd.verified
  | .activate => 0xFF000000 + s.upd.step
  | .trial => s.upd.done.length * 20 * 2 ^ 24 + s.upd.done.length
  | .idle => 0
  | .ready => 0

/-- An update entry of the journal (TYPE 0x0E01). -/
def State.updEntry (s : State) (code slot reason : Nat) : State :=
  s.journal 0x0E01 reason .upd 0 (toLE 2 code ++ toLE 1 slot ++ toLE 1 (s.fwSlot slot).sv ++ toLE 4 s.updProg)

/-- Moves to a state of Table 15-2. -/
def State.updTo (s : State) (x : UpdState) : State := { s with update := { s.update with state := x } }

/-- A chunk refused. -/
def State.chunkRefused (s : State) (code : Nat) (out : Bytes) : MbRes :=
  (((s.bump F.UPD_CNT_CHUNK_REFUSED).event F.UPD_EVT_CHUNK).reason .upd code, code, out)

/-- NEXT as commands answer it. -/
def State.nextOut (s : State) : Bytes := toLE 2 s.update.next

/-- The download is complete once NEXT reaches NCHUNK: verification starts (Table 15-2). -/
def State.downloadEnd (s : State) : State :=
  if s.update.next < mfChunks (s.fwSlot s.update.target).image then s
  else ({ s.updTo .verify with upd := { s.upd with verified := 0 } }).updEntry 0x0002 s.update.target 0

/-- The Begin command. -/
def updBeginOp (chunk0 : Bytes) (env : Env) (s : State) : MbRes :=
  if chunk0.length ≠ 65536 then mbRefuse s 0x100C
  else if s.update.state = .download && manifest (s.fwSlot s.update.target).image = chunk0 then mbOk s s.nextOut
  else if s.update.state ≠ .idle then mbFail s .upd 0x0E01
  else if s.mfCheck chunk0 ≠ 0 then mbFail s .upd (s.mfCheck chunk0)
  else if !s.nandUp || !env.storeOk then mbFail s .upd 0x0E0A
  else
    let t := 1 - s.update.running
    let s1 := (s.setFwSlot t ⟨.loading, u8 chunk0 6, [], chunk0⟩).program (1 + t) 0 16
    let s2 := { s1 with update := { s1.update with state := .download, next := 1, target := t, reason := 0, confirmNext := false }
                        nand := { s1.nand with written := s1.nand.written + 65536 } }
    let s3 := ((s2.updEntry 0x0001 t 0).downloadEnd).reason .upd 0
    mbOk s3 s3.nextOut

/-- UPD_BEGIN (R410, Table 15-8). -/
def execUpdBegin (chunk0 : Bytes) (env : Env) (s : State) : Out := .next (mailboxCommand 0x0E01 chunk0 (updBeginOp chunk0 env) s)

/-- The Chunk command (R411). -/
def updChunkOp (index : Nat) (data : Bytes) (env : Env) (s : State) : MbRes :=
  let t := s.update.target
  if 65536 < data.length then mbRefuse s 0x100C
  else if s.update.state ≠ .download then mbFail s .upd 0x0E0C
  else if index < s.update.next then mbOk s s.nextOut
  else if s.update.next < index then s.chunkRefused 0x0E08 s.nextOut
  else
    let m := manifest (s.fwSlot t).image
    let want := min 65536 (mfLen m - 65536 * index)
    if data.length ≠ want || !chunkMatches m index data then s.chunkRefused 0x0E09 []
    else if !s.nandUp || !env.storeOk then s.chunkRefused 0x0E0A []
    else
      let x := s.fwSlot t
      let s1 := (s.setFwSlot t { x with image := x.image ++ data }).program (1 + t) 0 16
      let s2 := { s1 with update := { s1.update with next := index + 1 }
                          nand := { s1.nand with written := s1.nand.written + 65536 } }
      let s3 := (s2.event F.UPD_EVT_CHUNK).downloadEnd
      mbOk s3 s3.nextOut

/-- UPD_CHUNK. -/
def execUpdChunk (index : BitVec 32) (data : Bytes) (env : Env) (s : State) : Out :=
  .next (mailboxCommand 0x0E02 (toLE 4 index.toNat ++ data) (updChunkOp index.toNat data env) s)

/-- The outcome of verification (R412). -/
def State.verifyCode (s : State) (rereadOk : Bool) : Nat :=
  let img := (s.fwSlot s.update.target).image
  let c := s.mfCheck (manifest img)
  if c ≠ 0 then c else if !rereadOk || !s.nandUp || !chunksMatch img || !partsMatch img then 0x0E0B else 0

/-- VERIFY_DONE: role VERIFIED and READY, or role EMPTY and IDLE with the reason kept. In RECOVERY the slot becomes the running slot at
the next reset (R425). -/
def verifyDone (rereadOk : Bool) (s : State) : State :=
  if s.update.state ≠ .verify || !(s.phase == 0xA || s.phase == 0xF) then s
  else
    let t := s.update.target
    let x := s.fwSlot t
    let code := s.verifyCode rereadOk
    let s0 := { s with upd := { s.upd with verified := mfChunks x.image } }
    if code = 0 then
      let s1 := (s0.setFwSlot t { x with role := .verified, meas := Crypto.sha512 x.image }).updTo .ready
      let s2 := { s1 with update := { s1.update with confirmNext := s1.sys.fw == FwRun.recovery } }
      ((s2.event F.UPD_EVT_VERIFIED).reason .upd 0).updEntry 0x0003 t 0
    else
      let s1 := (s0.setFwSlot t ⟨.empty, x.sv, [], []⟩).updTo .idle
      let s2 := { s1 with update := { s1.update with reason := code } }
      ((s2.event F.UPD_EVT_VERIFIED).reason .upd code).updEntry 0x0004 t code

/-- VERIFY_DONE. -/
def execVerifyDone (env : Env) (s : State) : Out := .next (verifyDone env.storeOk s)

/-! ## The settings bank across versions (R423) -/

/-- The bank for an image: converted where its format lies within what the image reads, else seeded from the defaults; the flag says
that it is fresh. -/
def State.bankFor (s : State) (m : Bytes) : Option SettingsBank × Bool :=
  match s.vault.bank with
  | none => (none, false)
  | some b => if mfHolds m 0x18 0x19 (u8 s.runningManifest 0x17) then (some b, false) else (some s.defaultBank, true)

/-- The new bank takes the place of the old one, which is kept while the image is on trial. -/
def State.swapBank (s : State) (new : Option SettingsBank) (fresh : Bool) (slot : Nat) : State :=
  let s1 := { s with vault := { s.vault with fallback := s.vault.bank, bank := new }, update := { s.update with fresh := fresh } }
  if fresh then (s1.reason .upd 0x0E11).updEntry 0x000B slot 0x0E11 else s1

/-- Restores the old bank: settings changed in TRIAL are dropped and journaled. -/
def State.restoreBank (s : State) : State :=
  match s.vault.fallback with
  | none => { s with update := { s.update with fresh := false } }
  | some old =>
    let base := if s.update.fresh then s.defaultBank.values else old.values
    let now := match s.vault.bank with | some b => b.values | none => []
    let of := fun (l : List (Nat × Nat)) (i : Nat) => match l.find? (fun x => x.1 == i) with | some (_, v) => v | none => 0
    let changed := now.filter (fun x => base.any (fun y => y.1 == x.1 && y.2 != x.2))
    let s1 := changed.foldl (fun t x => t.settingEntry x.1 x.2 (of old.values x.1) 2) s
    { s1 with vault := { s1.vault with bank := some old, fallback := none }, update := { s1.update with fresh := false } }

/-! ## Activation (R414 to R417, Sequence 15-1) -/

/-- The standby pair leaves standby and loads resident parts (PWR_PAIR state 2). -/
def State.standbyLoads (s : State) (slot : Nat) : State :=
  let b := 1 - s.activePair
  let s1 := ((s.put (pairField b) 2).putFlag F.PWR_PAIR_STANDBY_READY false)
  { s1 with net := { s1.net with loading := some (b == 1), records := [] }, upd := { s1.upd with standbySlot := slot } }

/-- Starts Sequence 15-1 from step 1. -/
def State.startActivation (s : State) : State :=
  let s1 := s.standbyLoads s.update.target
  { (s1.updTo .activate) with upd := { s1.upd with step := 2, stepMt := s.mt, waited := false, reverting := false } }

/-- Step 3 is done: the new bank stands built and the wait for a quiescent point begins. -/
def State.activationCurrent (s : State) : State :=
  let b := s.bankFor (manifest (s.fwSlot s.update.target).image)
  let s1 := { s with upd := { s.upd with step := 4, stepMt := s.mt, waited := false, newBank := b.1, newFresh := b.2 } }
  if b.2 then s1.reason .upd 0x0E11 else s1

/-- The Activate command: with RESET the TRIAL slot record and a host reset, else the string handover, which needs a standby pair
(0x0E10). -/
def updActivateOp (reset : Bool) (s : State) : MbRes :=
  if s.update.state ≠ .ready then mbFail s .upd 0x0E0C
  else if reset then
    let t := s.update.target
    let s1 := if s.update.confirmNext then s
      else
        let b := s.bankFor (manifest (s.fwSlot t).image)
        let s2 := ((s.setRole t .trial).setRole s.update.running .fallback).updTo .trial
        ({ s2 with update := { s2.update with trials := 0, cold := false } }).swapBank b.1 b.2 t
    (s1.finishReset 3 [], mbDeferred, [])
  else if !s.standbyReady || s.sys.fw = .recovery then mbFail s .upd 0x0E10
  else mbOk (s.startActivation.reason .upd 0) []

/-- UPD_ACTIVATE (R416, R425). -/
def execUpdActivate (reset : Bool) (s : State) : Out :=
  .next (mailboxCommand 0x0E03 (toLE 1 (bit reset)) (updActivateOp reset) s)

/-- The quiescent point of R415. -/
def State.quiescent (s : State) : Bool :=
  s.lf.hold.isNone && s.lf.queue.isEmpty && s.get F.RNG_STAT_QUEUE == 0 && s.rel.start.isNone && s.keys.prep == .none
    && s.hif.executing.isNone && s.keys.blow.isNone
    && s.sym.ctx.all (fun c => match c with | some x => !(x.keeper && (x.master == 1 || x.master == 2)) | none => true)

/-- The votes of the pair islands change places with the roles. -/
def State.swapPairVotes (s : State) : State :=
  let a := s.votes 1
  let b := s.votes 2
  let s1 := (s.put (F.PWR_VOTEn_CLIENTS 1) b).put (F.PWR_VOTEn_CLIENTS 2) a
  let swapped := fun (i : Nat) => if i = 1 then 2 else if i = 2 then 1 else i
  { s1 with pwr := { s1.pwr with doze := s1.pwr.doze.map (fun (d : Nat × Nat) => (d.1, swapped d.2)) } }

/-- The other pair becomes the active pair: PWR_PAIR, SYS_STAT, votes; saved contexts of the old pair do not travel (R262). -/
def State.swapRoles (s : State) : State :=
  let a := s.activePair
  let b := 1 - a
  let s1 := ((s.put F.PWR_PAIR_ACTIVE b).put F.SYS_STAT_ACTIVE_PAIR b).put (pairField b) 0
  (s1.swapPairVotes).symTakeover (1 + a)

/-- Whether the parts that the standby pair has loaded match: those of the running image against the manifest held from this start, those
of another slot against its own (R70, R77). -/
def State.standbyPartsOk (s : State) : Bool :=
  let img := (s.fwSlot s.upd.standbySlot).image
  partsHold (if s.upd.standbySlot = s.update.running && !s.sys.manifest.isEmpty then s.sys.manifest else manifest img) img
    || img == Config.factoryFirmware

/-- The image of a slot runs: its manifest is held, SV and measurement follow; no K_SEAL until a cold start (R420). -/
def State.runSlot (s : State) (k : Nat) : State :=
  let x := s.fwSlot k
  let s1 := { s with update := { s.update with running := k, cold := false }
                     sys := { s.sys with sv := x.sv, measurement := Crypto.sha512 x.image, manifest := manifest x.image } }
  (s1.put F.SYS_STAT_FW_SLOT k).put F.KEY_STAT_SV x.sv

/-- What every freeze does: UPD_ACT_MT, the count, HANDOVER. -/
def State.freezeDone (s : State) : State :=
  ((s.setReg R.UPD_ACT_MT (s.mt % 2 ^ 32)).bump F.UPD_CNT_ACTIVATIONS).event F.UPD_EVT_HANDOVER

/-- Step 5 toward the target image: the roles swap; TRIAL; the previous pair stays as standby with the fallback image; the reloads
follow. -/
def State.handover (s : State) : State :=
  let t := s.update.target
  let old := s.update.running
  let a := s.activePair
  let s1 := ((s.swapRoles).put (pairField a) 1).putFlag F.PWR_PAIR_STANDBY_READY true
  let s2 := ((s1.setRole t .trial).setRole old .fallback).updTo .trial
  let s3 := ({ s2 with update := { s2.update with trials := 0 } }).runSlot t
  let s4 := { s3 with upd := { UpdRun.reset with reloads := [1, 2, 3, 4, 5], standbySlot := old } }
  let s5 := (s4.freezeDone).updEntry 0x0005 t 0
  s5.swapBank s.upd.newBank s.upd.newFresh t

/-- Returns the FALLBACK slot to the running role, the trial slot to PREVIOUS and the old settings bank; the satellites that run the new
microcode take the old one (R421). -/
def State.doRevert (s : State) (why : Nat) : State :=
  match s.slotIn .fallback, s.slotIn .trial with
  | some f, some t =>
    let back := if why = 0x0E17 then s.upd.loading.toList ++ s.upd.done.reverse else s.upd.done ++ s.upd.loading.toList
    let s1 := ((s.setRole f .running).setRole t .previous).updTo .idle
    let s2 := ({ s1 with update := { s1.update with trials := 0 }, upd := { UpdRun.reset with reloads := back, standbySlot := f } }).runSlot f
    let s3 := (s2.restoreBank).updEntry 0x0009 t why
    (((s3.bump F.UPD_CNT_REVERTS).event F.UPD_EVT_REVERTED)).reason .upd why
  | _, _ => s

/-- Step 5 toward the FALLBACK image: the pair that holds it takes over; the other pair loads that image and stands by. -/
def State.revertHandover (s : State) : State :=
  let s1 := (s.swapRoles).freezeDone
  let s2 := s1.doRevert s.upd.why
  s2.standbyLoads s2.update.running

/-- QUIESCENT_POINT: step 4 ends. -/
def quiescentPoint (s : State) : State :=
  if s.upd.step ≠ 4 || !s.quiescent then s
  else if s.upd.reverting then (if s.standbyReady then s.revertHandover else s)
  else if s.update.state = .activate then s.handover
  else s

/-- QUIESCENT_POINT (R415). -/
def execQuiescentPoint (s : State) : Out := .next (quiescentPoint s)

/-- ACT_WAIT_TIMEOUT: no quiescent point within ACT_WAIT_S; the wait goes on. -/
def actWaitTimeout (s : State) : State :=
  if s.upd.step ≠ 4 || s.upd.waited || s.mt < s.upd.stepMt + 1000000 * s.setting 0x0E01 60 then s
  else (({ s with upd := { s.upd with waited := true } }).event F.UPD_EVT_WAITING).reason .upd 0x0E0E

/-- ACT_WAIT_TIMEOUT. -/
def execActWaitTimeout (s : State) : Out := .next (actWaitTimeout s)

/-- A revert that runs Sequence 15-1 from step 4 toward the FALLBACK image. -/
def State.startRevert (s : State) (why : Nat) : State :=
  { s with upd := { s.upd with step := 4, stepMt := s.mt, waited := false, reverting := true, why := why } }

/-- An activation ends without a handover: the standby pair drops the new image and loads the running one. -/
def State.dropActivation (s : State) : State :=
  let s1 := s.standbyLoads s.update.running
  { s1 with upd := { UpdRun.reset with standbySlot := s.update.running } }

/-! ## Satellite reloads (R418, R419) -/

/-- The island of a satellite of Table 15-5. -/
def satIsland (n : Nat) : Nat := match n with | 1 => 11 | 2 => 10 | 3 => 9 | 4 => 9 | _ => 12

/-- The condition of Table 15-5 for a satellite. -/
def State.satReady (s : State) (n : Nat) : Bool :=
  let airFree := s.lf.hold.isNone && decide (s.lf.freeAt ≤ s.mt)
  match n with
  | 1 => true
  | 2 => airFree && s.lf.queue.isEmpty
  | 3 => airFree && s.rf.detect.isNone
  | 4 => s.get F.RNG_STAT_QUEUE == 0
  | _ => s.nfc.detection.isNone && decide (s.tag.ownEnd ≤ s.mt) && !s.tag.reserved s.mt

/-- The reloads of an update are over: the entry once the last has ended. -/
def State.reloadsOver (s : State) : State :=
  if s.upd.reloads.isEmpty && s.update.state = .trial then s.updEntry 0x0007 s.update.running 0 else s

/-- SATELLITE_RELOAD: the next satellite of the order goes out, 1 ms or more after the previous reload. A failed island is passed
over. -/
def satelliteReload (s : State) : State :=
  match s.upd.reloads with
  | [] => s
  | n :: rest =>
    if s.upd.loading.isSome || s.upd.reverting || (s.upd.endMt ≠ 0 && s.mt < s.upd.endMt + 1000) || !s.satReady n then s
    else if s.islandFailed (satIsland n) then ({ s with upd := { s.upd with reloads := rest } }).reloadsOver
    else
      let s1 := (({ s with upd := { s.upd with loading := some n, tried := false } }).servedOn s.diesUp 1)
      if n = 1 then s1.putFlag F.STO_STAT_VAULT_PORT true else s1

/-- SATELLITE_RELOAD. -/
def execSatelliteReload (s : State) : Out := .next (satelliteReload s)

/-- The satellite serves again. -/
def State.reloadEnd (s : State) (n : Nat) : State :=
  let s1 := { s with upd := { s.upd with loading := none, tried := false, endMt := s.mt, reloads := s.upd.reloads.drop 1 } }
  if n = 1 then s1.putFlag F.STO_STAT_VAULT_PORT (s1.vault.ctrlFailed || s1.nand.dies.all (·.failed)) else s1

/-- RELOAD_DONE: a reload that fails its check is retried once; a second failure in TRIAL reverts with 0x0E17, and outside it marks the
island FAILED (R73). -/
def reloadDone (ok : Bool) (s : State) : State :=
  match s.upd.loading with
  | none => s
  | some n =>
    if ok then
      let s1 := s.reloadEnd n
      if s.update.state = .trial then ({ s1 with upd := { s1.upd with done := s1.upd.done ++ [n] } }).reloadsOver else s1
    else if !s.upd.tried then { s with upd := { s.upd with tried := true } }
    else if s.update.state = .trial then
      let s1 := s.reloadEnd n
      { s1.startRevert 0x0E17 with upd := { (s1.startRevert 0x0E17).upd with reloads := [], done := s1.upd.done ++ [n] } }
    else (s.reloadEnd n).failIsland (satIsland n)

/-! ## Confirm, revert, abort (R421, R422, R424) -/

/-- The end of the reseal: its event and its entry. -/
def State.resealEnd (s : State) : State :=
  let s1 := { s with update := { s.update with resealing := false }, nand := { s.nand with sealS := max s.nand.sealS s.sys.sv } }
  (s1.event F.UPD_EVT_RESEALED).updEntry 0x000C s1.update.running 0

/-- The reseal goes on as class 5 work: a block each 32,768 us, which is 8 MB/s (R424, R305); after the last one it ends. -/
def State.dueReseal (s : State) : State :=
  if !s.update.resealing then s
  else if resealBlocks ≤ s.update.blocks then s.resealEnd
  else if s.pwr.standby || !s.nandWrites || s.mt < s.sto.resealAt || s.sto.queue.any (fun r => r == .reseal) then s
  else s.request .reseal

/-- FORWARD_RESEAL (R424): the keyring is committed at SV of the confirmed, cold-started image, and the relocation of the blocks of
regions 3 to 6 begins, or goes on where a cut stopped it. -/
def State.forwardReseal (s : State) : State :=
  let sv := s.sys.sv
  if !s.vaultUp || !s.nandUp then { s with update := { s.update with pending := true } }
  else
    let ring := match s.vault.keyring with
      | some g => if g.s < sv then some (sealGeneration (g.number + 1) g.epoch sv g.records) else some g
      | none => none
    let s1 := { s with vault := { s.vault with keyring := ring }
                       update := { s.update with pending := false, resealing := true, blocks := if s.update.resealing then s.update.blocks else 0 } }
    s1.refreshKeys

/-- The Confirm command, in the order of R422. -/
def updConfirmOp (recordOk : Bool) (s : State) : MbRes :=
  if s.update.state ≠ .trial then mbFail s .upd 0x0E0C
  else if !s.nandUp || !recordOk then mbFail s .upd 0x0E0A
  else
    let r := s.update.running
    let s0 := { s with update := { s.update with floor := max s.update.floor (s.fwSlot r).sv, trials := 0 } }
    let s1 := ((s0.setRole r .running).setRole (1 - r) .previous).updTo .idle
    let s2 := ({ s1 with vault := { s1.vault with fallback := none }, upd := { s1.upd with step := 0, reverting := false } }).copyBank
    let s3 := if s2.standbyReady then s2.standbyLoads r else s2
    let s4 := (s3.event F.UPD_EVT_CONFIRMED).updEntry 0x0008 r 0
    mbOk (if s4.update.cold then (s4.reason .upd 0).forwardReseal
      else ({ s4 with update := { s4.update with pending := true } }).reason .upd 0x0E16) []

/-- UPD_CONFIRM. -/
def execUpdConfirm (env : Env) (s : State) : Out := .next (mailboxCommand 0x0E04 [] (updConfirmOp env.storeOk) s)

/-- The Revert command. -/
def updRevertOp (s : State) : MbRes :=
  if s.update.state ≠ .trial then mbFail s .upd 0x0E0C
  else if !s.standbyReady then mbFail s .upd 0x0E10
  else mbOk (s.startRevert 0x0E13) []

/-- UPD_REVERT. -/
def execUpdRevert (s : State) : Out := .next (mailboxCommand 0x0E05 [] updRevertOp s)

/-- The Abort command: the target slot goes EMPTY; an activation under way ends. -/
def updAbortOp (s : State) : MbRes :=
  if s.update.state = .idle || s.update.state = .trial then mbFail s .upd 0x0E0C
  else
    let t := s.update.target
    let s1 := (if s.update.state = .activate then s.dropActivation else s).updEntry 0x000A t 0x0E18
    let s2 := (s1.setFwSlot t ⟨.empty, 0, [], []⟩).updTo .idle
    mbOk (({ s2 with update := { s2.update with confirmNext := false, next := 0 } }).reason .upd 0x0E18) []

/-- UPD_ABORT. -/
def execUpdAbort (s : State) : Out := .next (mailboxCommand 0x0E06 [] updAbortOp s)

/-! ## Register views (R430) -/

/-- The 4 bytes `4n` on of a measurement, as a word. -/
def measWord (m : Bytes) (n : Nat) : Nat := le (padTo 32 m) (4 * n) 4

/-- UPD registers whose value follows from the slot records and the activation. -/
def State.updView (s : State) (off : Nat) : Option Nat :=
  let other := s.fwSlot (1 - s.update.running)
  let shown := other.role == .verified || other.role == .trial || other.role == .fallback || other.role == .previous
  if off = R.UPD_STAT then
    some (s.update.floor % 256 * 2 ^ 24 + s.sys.sv % 256 * 2 ^ 16 + s.upd.loading.getD 0 * 2 ^ 12 + bit s.update.pending * 2 ^ 11
      + bit s.update.fresh * 2 ^ 10 + min s.update.trials 3 * 2 ^ 8 + bit (s.slotIn .fallback).isSome * 2 ^ 5
      + s.update.running * 2 ^ 4 + updCode s.update.state)
  else if off = R.UPD_PROG then some s.updProg
  else if off = R.UPD_TARGET then
    some (other.sv % 256 * 2 ^ 24 + (if other.role = .empty then 0 else mfChunks other.image % 512))
  else if off = R.UPD_RESEAL then some (percentOf s.update.blocks resealBlocks * 2 ^ 24 + s.update.blocks)
  else if 0xC040 ≤ off && off < 0xC060 && off % 4 = 0 then some (measWord s.sys.measurement ((off - 0xC040) / 4))
  else if 0xC060 ≤ off && off < 0xC080 && off % 4 = 0 then some (if shown then measWord other.meas ((off - 0xC060) / 4) else 0)
  else none

end Sys2Proof.Machine
end

