-- ==== Sys2Proof/Machine/Start.lean ====
section
/-! DEFINITION. Chapter 3 and the enables of chapter 2: reset sources (R66), the start phases (R65 to R79), enable and disable writes and
their consistency checks (R60 to R63), the epoch re-formation (R327, R328). -/
namespace Sys2Proof.Machine

open Sys2Proof

/-! ## Reset sources (R66, Table 3-1) -/

/-- POWER_ON: a cold start after a power-fail, with PT at 0. -/
def powerOn (s : State) : State := if s.pilot.vbatUp then s else s.restart 1

/-- POWER_ON. -/
def execPowerOn (s : State) : Out := .next (powerOn s)

/-- Whether a reset request waits for a fuse blow: the host's and the service port's are commands (R266); RST_N and the puppeteer reset at
once, and the blow goes on in the pilot. -/
def State.resetWaits (s : State) (source : Nat) : Bool := s.keys.blow.isSome && (source == 3 || source == 7)

/-- A reset source other than power-on: it acts while VBAT is up. -/
def State.resetSource (s : State) (source : Nat) : State :=
  if !s.pilot.vbatUp then s
  else if s.resetWaits source then s.awaitBlow (.reset source)
  else s.restart source

/-- RST_N_RESET: a pulse of 10 us or more resets, one below 2 us is rejected, between them it is open (R66, R468). -/
def rstNReset (lowUs : Nat) (s : State) : State :=
  if 10 ≤ lowUs || (2 ≤ lowUs && Config.shortPulse lowUs) then s.resetSource 2 else s

/-- RST_N_RESET. -/
def execRstNReset (lowUs : Nat) (s : State) : Out := .next (rstNReset lowUs s)

/-- PUPPETEER_RESTART: 10 s after a halt that the puppeteer retries, or at once after the fault of both pairs. -/
def puppeteerRestart (s : State) : State :=
  match s.net.restartAt with
  | some t => if t ≤ s.mt then s.resetSource 4 else s
  | none => s

/-- PUPPETEER_RESTART. -/
def execPuppeteerRestart (s : State) : Out := .next (puppeteerRestart s)

/-- SELF_RESTART: 10 s of PT after a RECOVERY entered for a T1 or T2 alarm, at most 3 in a row (R81). -/
def selfRestart (s : State) : State :=
  let due := decide (327680 ≤ (s.pilot.pt - BitVec.ofNat 32 s.sys.recPt).toNat)
  if s.recovery && s.sys.cause = some .alarm && due && decide (s.pilot.selfRestarts < 3) then
    ({ s with pilot := { s.pilot with selfRestarts := s.pilot.selfRestarts + 1 } }).resetSource 5
  else s

/-- SELF_RESTART. -/
def execSelfRestart (s : State) : Out := .next (selfRestart s)

/-- SERVICE_PORT_RESET. -/
def execServicePortReset (s : State) : Out := .next (s.resetSource 7)

/-! ## Phases (R65) -/

/-- Whether a phase may run: the one before it is complete, VBAT is up, no promotion is awaited, and no pause stands at its boundary
(R67). -/
def State.mayPhase (s : State) (p : Nat) : Bool :=
  s.phase == p && s.pilot.vbatUp && !s.net.promoteWait && (match s.sys.pausedIn with | none => true | some q => decide (p ≤ q))

/-- A start reason of SYS (Table 3-5). -/
def State.startReason (s : State) (code : Nat) : State := (s.put F.SYS_START_START_REASON code).reason .sys code

/-- The start halts (phase 0xE); the puppeteer may retry it in 10 s. -/
def State.halt (s : State) (code : Nat) (retry : Bool) : State :=
  let s1 := (s.setPhase 0xE).startReason code
  { s1 with sys := { s1.sys with halted := true }, net := { s1.net with restartAt := if retry then some (s.mt + 10000000) else none } }

/-- Islands that a phase uses come to RUN under votes of ACTIVE. -/
def State.startIslands (s : State) (l : List Nat) : State :=
  l.foldl (fun (t : State) i => if t.islandFailed i then t else ((t.setIsland i 2).setVote 1 i true).followShared) s

/-- REFERENCE, phase 2: the crystal, or the RC with 0x0132 (R68). -/
def reference (crystal : Bool) (s : State) : State :=
  if !s.mayPhase 2 then s
  else if crystal then (({ s with pwr := { s.pwr with xtalRun := true } }).putFlag F.PWR_STAT_XTAL_OK true).setPhase 3
  else
    let s1 := (({ s with pwr := { s.pwr with xtalRun := false, retryMt := s.mt } }).putFlag F.PWR_STAT_REF_RC true).startReason 0x0132
    (((s1.putFlag F.RF_STAT_REF_RC true).putFlag F.TIM_STAT_REF_RC true).redLoss 12).setPhase 3

/-- REFERENCE. -/
def execReference (crystal : Bool) (s : State) : Out := .next (reference crystal s)

/-- A transition record whose fuse reads unblown blows it in phase 3, then the record is cleared (R282). -/
def State.finishTransition (s : State) : State :=
  match s.vault.transition with
  | none => s
  | some i =>
    if s.keys.blow.isSome then s
    else
      let done := (s.fuses.lc.getD i .done).blown
      let s1 := { s with vault := { s.vault with transition := none } }
      if done then s1
      else
        let s2 := { s1 with fuses := { s1.fuses with lc := s1.fuses.lc.set i .done } }
        if i = 1 then s2.drawDeviceTag
        else if i = 2 then { s2 with vault := { s2.vault with fieldMt := some s2.vault.savedMt.value } } else s2

/-- The choice of the active pair (R69): pair A, else pair B; none when neither passes. PWR_PAIR shows a pair that failed its start
self-test in state 2 (log entry 147). -/
def State.choosePair (s : State) (passA passB : Bool) : Option State :=
  let okA := passA && !s.fuses.retireA
  let okB := passB && !s.fuses.retireB
  let state := fun (retired active : Bool) => if active then 0 else if retired then 3 else 2
  if !okA && !okB then none
  else
    let a := if okA then 0 else 1
    let s1 := ((s.put F.PWR_PAIR_ACTIVE a).put F.SYS_STAT_ACTIVE_PAIR a).putFlag F.PWR_PAIR_STANDBY_READY false
    let s2 := (s1.put F.PWR_PAIR_A_STATE (state s.fuses.retireA (a == 0))).put F.PWR_PAIR_B_STATE (state s.fuses.retireB (a == 1))
    let s3 := { s2 with net := { s2.net with spareOk := okA && okB } }
    let failed := (!passA && !s.fuses.retireA) || (!passB && !s.fuses.retireB)
    let s4 := if failed then s3.startReason 0x013B else s3
    some ((if okA && okB then s4 else s4.redLoss 0).startIslands [1 + a])

/-- FUSES_AND_MEMORY, phase 3: the fuse bank, the pairs, a pending transition, the lifecycle state (R69, R79, R282). A fuse blow that still
runs ends first; the down map shows what the start means to enable (R76). -/
def fusesAndMemory (eccOk passA passB : Bool) (s : State) : State :=
  if !s.mayPhase 3 || s.keys.blow.isSome then s
  else if !eccOk then s.enterRecovery .fuseEcc 0x0136
  else match s.choosePair passA passB with
    | none => (s.halt 0x013C true).refresh
    | some s1 =>
      let s2 := (s1.finishTransition).refreshKeyStat
      (if s2.fuses.state = 0 then s2.halt 0x0136 true
        else if s2.fuses.state = 5 then (s2.startReason 0x0139).setPhase 0xC
        else s2.setPhase 4).refresh

/-- FUSES_AND_MEMORY. -/
def execFusesAndMemory (eccOk passA passB : Bool) (s : State) : Out := .next (fusesAndMemory eccOk passA passB s)

/-! ## Phase 4: firmware (R70, R327, R421, R425) -/

/-- Opens the metadata region: under K_META of the fuse epoch, or through the carry record (R328 step 1); 0x0C18 where neither opens
it. At each start below epoch 15 a carry record of the epoch in force is ensured. -/
def State.openMeta (s : State) : State × Bool :=
  let e := s.fuses.epochNo
  if s.nand.metaEpoch = e then
    (if e < 15 && s.vaultUp then { s with vault := { s.vault with carry := some e } } else s, true)
  else if s.vaultUp && s.vault.carry = some s.nand.metaEpoch && s.nand.metaEpoch + 1 = e then (s, true)
  else (s.reason .sto 0x0C18, false)

/-- A slot verified in RECOVERY becomes the running slot, confirmed at once (R425). -/
def State.takeConfirmed (s : State) : State :=
  if !s.update.confirmNext then s
  else
    let t := s.update.target
    let s1 := (s.setRole (1 - t) .previous).setRole t .running
    let s2 := { s1 with update := { s1.update with
      confirmNext := false, state := .idle, running := t, floor := max s1.update.floor (s1.fwSlot t).sv } }
    s2.updEntry 0x0008 t 0

/-- TRIAL_COUNT: a cold start in TRIAL counts; the fourth reverts with 0x0E12 (R421). -/
def State.countTrial (s : State) : State :=
  match s.slotIn .trial with
  | none => s
  | some t =>
    let n := s.update.trials + 1
    let s1 := { s with update := { s.update with trials := n } }
    if 4 ≤ n then s1.doRevert 0x0E12 else s1.updEntry 0x0006 t 0

/-- Whether a slot can run: it holds an image, reads, has an SV not below the floor, and verifies. -/
def State.slotRuns (s : State) (k : Nat) (reads : Bool) : Bool :=
  let x := s.fwSlot k
  let held := match x.role with | .empty => false | .loading => false | _ => true
  held && reads && decide (s.update.floor ≤ x.sv) && s.firmwareOk x.image

/-- The image of a slot starts cold. -/
def State.startSlot (s : State) (k : Nat) : State :=
  let s1 := { s.runSlot k with sys := { (s.runSlot k).sys with fw := .slot } }
  ({ s1 with update := { s1.update with cold := true } }).setPhase 5

/-- FIRMWARE, phase 4: the slot chosen, else the other with 0x0133, else the recovery image of the NOR, else a halt. FW_SLOT is undefined
while the recovery image runs (Table 3-4): a free value (log entry 146). -/
def firmware (readA readB readRecovery : Bool) (s : State) : State :=
  if !s.mayPhase 4 then s
  else
    let (s0, opens) := (s.repairStaging).openMeta
    let s1 := ((((if opens then s0.repairNand else s0).startIslands [8, 11]).takeConfirmed).countTrial)
    let reads := fun (k : Nat) => opens && s1.nandUp && (if k = 0 then readA else readB)
    let c := (s1.slotIn .trial).getD ((s1.slotIn .running).getD s1.update.running)
    if s1.slotRuns c (reads c) then s1.startSlot c
    else
      let s2 := if s1.slotIn .trial = some c then s1.doRevert 0x0E15 else s1
      if s2.slotRuns (1 - c) (reads (1 - c)) then (s2.startSlot (1 - c)).startReason 0x0133
      else
        let img := s2.recoveryImage
        if s2.nor.fitted && readRecovery && !img.isEmpty && s2.firmwareOk img then
          let s3 := { s2 with sys := { s2.sys with
            fw := .recovery, sv := u8 (manifest img) 6, measurement := Crypto.sha512 img, manifest := manifest img } }
          let s4 := (s3.put F.KEY_STAT_SV (u8 (manifest img) 6)).put F.SYS_STAT_FW_SLOT (Config.recoverySlot s.draws)
          (s4.startReason 0x0134).setPhase 5
        else s2.halt 0x013A true

/-- FIRMWARE. -/
def execFirmware (readA readB readRecovery : Bool) (s : State) : Out := .next (firmware readA readB readRecovery s)

/-! ## Phase 5: keys (R71, R269, R363) -/

/-- MT resumes at the saved value plus 1,000,000 us; what was latched before takes its MT from its age (R363). -/
def State.resumeMt (s : State) : State :=
  let new := s.vault.savedMt.value + 1000000
  let moved := fun (m : Nat) => new - (s.mt - m)
  { s with
    mt := new
    sto := { s.sto with mtRes := s.vault.savedMt.value, latched := s.sto.latched.map (fun e => { e with mt := moved e.mt }) }
    sys := { s.sys with latched := s.sys.latched.map (fun e => { e with mt := moved e.mt }) }
    pwr := { s.pwr with retryMt := moved s.pwr.retryMt, idleSince := new } }

/-- KEYS, phase 5: derivation, ROOT_LOCKED, the keyring, BOOT_EPOCH, MT (R71, R246). A keyring of an older epoch is
erased and reads empty, as erased regions do (R274); else its commit record and MAC must be complete, or its version above SV refuses it
(R270). -/
def keys (ringReadable : Bool) (s : State) : State :=
  if !s.mayPhase 5 then s
  else
    let e := s.fuses.epochNo
    let s1 := match s.vault.keyring with
      | some g => if g.epoch = e then s else
        { s with vault := { s.vault with keyring := none, slots := List.replicate 64 .empty, paths := List.replicate 4 .clear, nonceHi := [] } }
      | none => s
    let boot := min (s1.vault.bootEpoch + 1) 0xFFFFFF
    let s2 := { s1 with keys := { s1.keys with derived := true, sv := s1.sys.sv }, vault := { s1.vault with bootEpoch := boot } }
    let s3 := ((s2.resumeMt.putFlag F.KEY_STAT_ROOT_LOCKED true).put F.SYM_EPOCH_BOOT_EPOCH boot).refreshKeys
    let complete := match s3.vault.keyring with | some g => generationOk g | none => true
    let readable := ringReadable && s3.vaultUp && (complete || decide (s3.sys.sv < s3.ringS))
    if s3.sys.fw = .recovery then s3.enterRecovery .slots 0x0134
    else if !readable then s3.enterRecovery .keyring 0x0137
    else if s3.sys.sv < s3.ringS then (s3.reason .key 0x0B07).enterRecovery .keyring 0x0137
    else if s3.fuses.state = 1 then (s3.startReason 0x0138).setPhase 0xB
    else s3.setPhase 6

/-- KEYS. -/
def execKeys (ringReadable : Bool) (s : State) : Out := .next (keys ringReadable s)

/-! ## Phase 6: configuration (R52 to R56) -/

/-- CONFIGURATION: the image is selected, else RECOVERY with 0x020F. Drift offsets of another map are dropped (R200). -/
def configuration (env : Env) (s : State) : State :=
  if !s.mayPhase 6 then s
  else
    let r := s.chooseImage env
    if !r.2 then r.1.enterRecovery .noConfig 0x020F
    else
      let same := r.1.vault.driftMap == r.1.mapDigest
      let d := if same then r.1.vault.drift else List.replicate 32 0
      ({ r.1 with rng := { r.1.rng with drift := d } }).setPhase 7

/-- CONFIGURATION. -/
def execConfiguration (env : Env) (s : State) : Out := .next (configuration env s)

/-! ## Phase 7: microcode (R73) -/

/-- MICROCODE: a satellite whose load fails its check has its island marked FAILED. -/
def microcode (storage lf radio nfc : Bool) (s : State) : State :=
  if !s.mayPhase 7 then s
  else
    let load := fun (t : State) (x : Nat × Bool) => if x.2 then t else t.failIsland x.1
    (([(11, storage), (10, lf), (9, radio), (12, nfc)].foldl load (s.startIslands [9, 10, 12])).setPhase 8)

/-- MICROCODE. -/
def execMicrocode (storage lf radio nfc : Bool) (s : State) : Out := .next (microcode storage lf radio nfc s)

/-! ## Enables (R60, Table 2-7) -/

/-- What an enable does beside its bit. RF runs its calibrations: cause 5 where the reference has come back, else 1 (R174). -/
def State.enableHook (s : State) (env : Env) (u : Subsys) : State :=
  match u with
  | .sym => s.symEnabled
  | .key => s.refreshKeys
  | .sto => s.stoEnabled
  | .tam => s.putFlag F.TAM_STAT_TIN_FITTED (s.secLE 0x0F 0 1 0 != 0)
  | .lf => s.lfEnabled (signed 8 env.dieTemp.toNat) env.lfMeas
  | .tok =>
    let s1 := (List.range 64).foldl (fun (t : State) n => t.retireSpent 1 n) s.refreshSet
    if s.tok.lost then ({ s1 with tok := { s1.tok with lost := false } }).reason .tok 0x081C else s1
  | .rel => s.relEnabled
  | .tim => s.timEnabled
  | .rf => ({ s with rf := { s.rf with refBack := false } }).rfEnabled (if s.rf.refBack then 5 else 1) env.rfCal
  | .rng => s.rngEnabled
  | .nfc => s.nfcEnabled
  | .sys => s | .cfg => s | .pwr => s | .hif => s | .upd => s

/-- The consistency check of a subsystem against the selected image: the bit, or the first failing cause in its reason register. -/
def State.checkNow (s : State) (env : Env) (u : Subsys) : State :=
  let s := if u = .sym then s.symSelfTest env.symTest else s
  let code := s.subCheck (s.selected env.vioHigh) false s.enabled u
  if code = 0 then ((s.setEnabled u true).reason u 0).enableHook env u else s.reason u code

/-- Means a subsystem to be enabled (R76). -/
def State.mean (s : State) (u : Subsys) : State := { s with sys := { s.sys with meant := setBit s.sys.meant (subId u) true } }

/-- Whether the start enables a subsystem of phase 9: a section marked ENABLE, or no section of its own and defaults (R62). -/
def State.startWants (s : State) (u : Subsys) : Bool :=
  let present := (subSections u).filterMap (fun t => s.sys.sections.find? (fun x => x.type == t))
  if present.isEmpty then !(u = .rf || u = .rng || u = .nfc) else present.any (fun x => Nat.testBit x.flags 1)

/-! ## Phase 8 (R74) -/

/-- Runs an operation at the PT and MT of a latched event, which its entries and records carry (R78). -/
def State.atTime (s : State) (pt mt : Nat) (f : State → State) : State :=
  let t := f { s with mt := mt, pilot := { s.pilot with pt := BitVec.ofNat 32 pt } }
  { t with mt := s.mt, pilot := { t.pilot with pt := s.pilot.pt } }

/-- Serves one latched event. -/
def serveOne (k : LatchKind) (pt : Nat) (s : State) : State :=
  match k with
  | .wake w => s.serveWakeAt w pt true
  | .bus r => s.takeFrame r
  | .segment t b src => mailboxSegmentNow t b src s
  | .discovery p b mac => discoveryNow p b mac s
  | .status p i m mac => statusNow p (BitVec.ofNat 32 i) m mac s
  | .grantAck p i m => grantAckNow p (BitVec.ofNat 32 i) m s

/-- Whether an event is a mailbox frame, which waits until HIF has been enabled or refused (R458). -/
def forMailbox : LatchKind → Bool
  | .segment _ _ _ => true
  | .wake _ => false
  | .bus _ => false
  | .discovery _ _ _ => false
  | .status _ _ _ _ => false
  | .grantAck _ _ _ => false

/-- Serves what the pilot latched during the start (Table 3-2), each event at its own PT and MT: the mailbox frames, or all others. -/
def State.serveLatched (s : State) (mailbox : Bool) : State :=
  let due := s.sys.latched.filter (fun e => forMailbox e.kind == mailbox)
  due.foldl (fun (t : State) e => t.atTime e.pt e.mt (serveOne e.kind e.pt))
    { s with sys := { s.sys with latched := s.sys.latched.filter (fun e => forMailbox e.kind != mailbox) } }

/-- The start entry of the journal (Table 11-7, TYPE 0x0101). -/
def State.startEntry (s : State) : State :=
  let why := s.get F.SYS_START_START_REASON
  s.journal 0x0101 why .sys 0 (toLE 1 (s.get F.SYS_STAT_RESET_CAUSE) ++ toLE 2 why ++ toLE 1 s.sys.sv
    ++ toLE 1 (s.get F.SYS_STAT_FW_SLOT) ++ toLE 4 (s.reg R.SYS_IMG_ROLLBACK) ++ toLE 4 (s.reg R.SYS_IMG_SERIAL)
    ++ toLE 4 (s.reg R.SYS_START_PT))

/-- IMMOBILISER_PATH, phase 8: the buses, SYS to REL in order, READY, then the events latched during the start. -/
def immobiliserPath8 (env : Env) (s : State) : State :=
  if !s.mayPhase 8 then s
  else
    let s1 := (s.startIslands [13, 14]).bringUp
    let s2 := immobiliserPath.foldl (fun (t : State) u => (t.checkNow env u).mean u) s1
    ((s2.refresh.startEntry).setPhase 9).serveLatched false

/-- IMMOBILISER_PATH. -/
def execImmobiliserPath (env : Env) (s : State) : Out := .next (immobiliserPath8 env s)

/-! ## Disabling (R62) -/

/-- What goes with a subsystem that goes down. -/
def State.downHook (s : State) (u : Subsys) : State :=
  match u with
  | .rf => (({ s with rf := { s.rf with queue := [], onAir := none, cal := none, detect := none, lent := false } }).endTest.putFlag F.RF_STAT_CAL_BUSY false).readerStop.dueTakeover
  | .rng => s.abortExchange.refreshRng
  | .tim => [0, 1, 2, 3].foldl (fun (t : State) n => t.stopPulse n) s
  | .nfc => s.readerStop
  | .sys => s | .cfg => s | .pwr => s | .lf => s | .tok => s | .rel => s | .sym => s | .key => s | .sto => s | .upd => s
  | .tam => s | .hif => s

/-- Runs the hooks of the subsystems that an operation has taken down. -/
def State.downHooks (old s : State) : State :=
  phaseNine.foldl (fun (t : State) u => if old.enabled u && !s.enabled u then t.downHook u else t) s

/-! ## Enable writes (R60, R61, R62) -/

/-- Whether enable writes are held: phases 3 to 9 until the last enable of phase 9. -/
def State.holdsEnables (s : State) : Bool := decide (3 ≤ s.phase) && decide (s.phase ≤ 9) && !s.sys.nineDone

/-- ENABLE_WRITE: starts a check, unless the bit reads 1 or a check is pending. -/
def enableWrite (u : Subsys) (s : State) : State :=
  if s.phase < 3 || s.phase = 0xC || s.phase = 0xE then s
  else if s.holdsEnables then { s with sys := { s.sys with held := s.sys.held ++ [(u, true)] } }
  else if s.enabled u || s.sys.checks.contains u then s
  else { s with sys := { s.sys with checks := s.sys.checks ++ [u] } }

/-- ENABLE_WRITE. -/
def execEnableWrite (sub : Subsys) (s : State) : Out := .next (enableWrite sub s)

/-- DISABLE_WRITE: refused with 0x0227 on the immobiliser path; cancels a pending check with 0x0228; else disables, and with it every
enabled subsystem that depends on it (0x0223). -/
def disableWrite (u : Subsys) (s : State) : State :=
  if s.phase < 3 || s.phase = 0xC || s.phase = 0xE then s
  else if s.holdsEnables then { s with sys := { s.sys with held := s.sys.held ++ [(u, false)] } }
  else if immobiliserPath.contains u then s.reason u 0x0227
  else if s.sys.checks.contains u then ({ s with sys := { s.sys with checks := s.sys.checks.erase u } }).reason u 0x0228
  else
    let s1 := { s with sys := { s.sys with meant := setBit s.sys.meant (subId u) false } }
    if !s.enabled u then s1.refresh
    else s.downHooks (((s1.setEnabled u false).dropDependants).refresh)

/-- DISABLE_WRITE. -/
def execDisableWrite (sub : Subsys) (s : State) : Out := .next (disableWrite sub s)

/-- CONSISTENCY_CHECK: the check at the head of the queue completes; one that passes means its subsystem to be enabled. -/
def consistencyCheck (env : Env) (s : State) : State :=
  match s.sys.checks with
  | [] => s
  | u :: rest =>
    let s1 := ({ s with sys := { s.sys with checks := rest } }).checkNow env u
    (if s1.enabled u then s1.mean u else s1).refresh

/-- CONSISTENCY_CHECK. -/
def execConsistencyCheck (env : Env) (s : State) : Out := .next (consistencyCheck env s)

/-! ## Phase 9 (R77) -/

/-- EPOCH_REFORMATION (Sequence 11-2 steps 2 to 5): regions 0 to 2 under the new K_META, the next carry record, regions 3 to 6 empty
with 0x0C12, the staged entries, the genesis entry. -/
def State.reform (s : State) : State :=
  let e := s.fuses.epochNo
  if s.nand.metaEpoch = e || !s.nandUp || !s.vaultUp || !s.enabled .sto then s
  else
    let lastOld := match s.nand.journal.getLast? with | some x => x.seq | none => 2 ^ 64 - 1
    let st := s.vault.staging
    let gapE := match st.gap with | some g => [gapEntry g s.mt] | none => []
    let drained := st.kept.map (·.entry) ++ gapE ++ st.ring.map (·.entry)
    let nand : Nand := { s.nand with
      journal := drained, gapEntries := gapE.map (·.seq), oldest := (drained.head?.map (·.seq)).getD s.vault.nextSeq
      captures := [], streams := List.replicate 16 ⟨0, []⟩, settings := [], images := []
      dies := s.nand.dies.map (fun x => { x with stripes := [0, 0, 0] }), metaEpoch := e, bulkEpoch := e }
    let s1 := { s with nand := nand, vault := { s.vault with staging := ⟨[], none, []⟩, carry := if e < 15 then some e else none } }
    (s1.reason .sto 0x0C12).commitEntry 0x0C03 0x0C12 0x0C 0 s1.mt
      (toLE 1 (s.nand.metaEpoch % 16 * 16 + e % 16) ++ toLE 8 lastOld ++ toLE 2 drained.length ++ zeros 5 ++ s1.vault.chain)

/-- The alarms that wait for their entries are journaled (R289, R290). -/
def State.flushAlarms (s : State) : State :=
  if s.vault.tamperDue.isEmpty || !s.enabled .sto || !s.vaultUp then s
  else s.vault.tamperDue.foldl (fun (t : State) e => t.commitEntry e.type e.reason e.src e.flags e.mt e.body)
    { s with vault := { s.vault with tamperDue := [] } }

/-- FORWARD_RESEAL at a start: a confirmed image that started cold reseals what stands below its SV (R424). -/
def State.startReseal (s : State) : State :=
  if s.update.state = .idle && s.update.cold && s.sys.fw = .slot
      && (s.update.pending || decide (s.nand.sealS < s.sys.sv) || decide (s.ringS < s.sys.sv)) && s.readyNow
  then s.forwardReseal else s

/-- The standby pair loads its resident parts: the FALLBACK image in TRIAL, else the running one (R77, R421). -/
def State.loadStandby (s : State) : State :=
  if s.net.spareOk then s.standbyLoads (if s.update.state = .trial then (s.slotIn .fallback).getD s.update.running else s.update.running)
  else s.reason .pwr 0x030E

/-- Phase 9 ends once every enable is decided, the standby pair is current or there is none, and the copies of R55 are checked: START_DONE;
the votes of the start on islands whose work has ended are withdrawn (R77, R484). -/
def State.finishNine (s : State) : State :=
  if s.phase ≠ 9 || !s.sys.nineDone || s.net.loading.isSome || (s.sys.readySeen && !s.sys.unchecked.isEmpty) then s
  else
    let s1 := (s.setPhase 0xA).event F.SYS_EVT_START_DONE
    let busy := s1.lf.hold.isSome || !s1.lf.queue.isEmpty || !s1.tok.requests.isEmpty
    ([3, 4, 5, 6, 12, 14] ++ (if busy then [] else [9, 10])).foldl (fun (t : State) i => t.withdrawVote 1 i) s1.touch

/-- IMG_CHECKED: the copies are checked; with them phase 9 may end. -/
def execImgChecked (env : Env) (s : State) : Out := .next (imgChecked env s).finishNine

/-- Runs the enable writes held during the start, in arrival order. -/
def State.runHeld (s : State) : State :=
  s.sys.held.foldl (fun (t : State) x => if x.2 then enableWrite x.1 t else disableWrite x.1 t)
    { s with sys := { s.sys with held := [], nineDone := true } }

/-- COMPLETION, phase 9: TIM to UPD in order, the held enable writes, LKG_REFRESH, the start-up statements, the re-formation, the
forward reseal, the standby pair. -/
def completion (env : Env) (s : State) : State :=
  if !s.mayPhase 9 || s.sys.nineDone then s
  else
    let s0 := s.startIslands [3, 4, 5, 6]
    let s1 := phaseNine.foldl (fun (t : State) u => if t.startWants u then (t.checkNow env u).mean u else t) s0
    let s2 := (((s1.refresh.runHeld).serveLatched true).lkgRefresh).startupStatements
    ((((s2.reform).flushAlarms).startReseal).loadStandby).finishNine

/-- COMPLETION. -/
def execCompletion (env : Env) (s : State) : Out := .next (completion env s)

end Sys2Proof.Machine
end

