-- ==== Sys2Proof/Machine/Events.lean ====
section
/-! DEFINITION. Faults and events that reach across the subsystems: failed islands (R382, R402), the takeover of the standby pair (R25 to
R29, R395 to R397), tamper alarms (R286 to R290), the thermal governor (R393), supply conditions (R394), the crystal (R399, R400). -/
namespace Sys2Proof.Machine

open Sys2Proof

/-! ## What goes with a failed island (R382, R402, Table 14-11) -/

/-- The token requests end: TOK has gone down with the cipher island or the keys. -/
def State.tokLost (s : State) : State :=
  let host := s.tok.requests.any (fun r => r.host) || s.lf.queue.any (fun r => r.host)
  let s1 := s.setHold none
  let s2 := { s1 with
    lf := { s1.lf with queue := [] }, tok := { s1.tok with requests := [] }
    rng := { s1.rng with sessions := [], onAir := none }, net := { s1.net with jobs := [] } }
  (if host then s2.finish 0x0131 [] else s2).refreshRng

/-- The cipher island fails: what stood in it is gone and a mailbox request in it ends with 0x0224. -/
def State.cipherLost (s : State) : State :=
  let host := s.sym.queue.any (fun r => r.mailbox)
  let s1 := { s with sym := { s.sym with queue := [], ctx := List.replicate 32 none, store := [] } }
  if host then s1.finish 0x0224 [] else s1

/-- The release island fails: it is powered off, so both switches are off (R234). -/
def State.releaseLost (s : State) : State :=
  let s1 := s.switchesDrop.releaseVoteOff
  { s1 with rel := { s1.rel with start := none, held := false } }

/-- What one island takes with it. -/
def State.islandLost (s : State) (i : Nat) : State :=
  if 3 ≤ i && i ≤ 6 then tileFault (i - 3) s
  else match i with
    | 7 =>
      let s1 := s.restartSessions
      { s1 with net := { s1.net with records := [], captureBufs := 0 }, sto := { s1.sto with waiting := [] } }
    | 8 => s.cipherLost
    | 10 => if s.learnStep.isSome then (s.endLearnStep 0x0814 []).lfLost else s.lfLost
    | 12 => s.readerStop
    | 13 => [0, 1, 2].foldl (fun (t : State) p => t.abandonFrames p) s
    | 14 => s.releaseLost
    | _ => s

/-- Runs what goes with the islands that an operation has failed and with the subsystems it has taken down. -/
def State.failHooks (old s : State) : State :=
  let fell := (List.range 15).filter (fun i => !old.islandFailed i && s.islandFailed i)
  let s1 := fell.foldl (fun (t : State) i => t.islandLost i) s
  let s2 := if old.enabled .tok && !s1.enabled .tok && !s1.islandFailed 10 then s1.tokLost else s1
  if fell.isEmpty then s2 else ((old.downHooks s2).refreshLf).refreshRel

/-- PACKET_RECEIVE (R16 to R24). -/
def execPacketReceive (sends : List Send) (moments : List (List Turn)) (arrival : List Turn) (s : State) : Out :=
  .next (s.failHooks (packetReceive sends moments arrival s))

/-- RESTORE_TIMEOUT. -/
def execRestoreTimeout (island : Fin 15) (s : State) : Out := .next (s.failHooks (restoreTimeout island.val s))

/-- RELOAD_DONE. -/
def execReloadDone (ok : Bool) (s : State) : Out := .next (s.failHooks (reloadDone ok s))

/-! ## Takeover (R28, R94, R170, R395, R426, R444) -/

/-- A command that had not reached its commit point goes back to the head of the queue and is executed again from its start (R444). -/
def State.requeue (s : State) : State :=
  match s.hif.executing with
  | none => s
  | some c =>
    let q := c :: s.hif.queue
    (({ s with hif := { s.hif with executing := none, queue := q } }).putFlag F.HIF_STAT_MB_EXEC false).put F.HIF_STAT_MB_QUEUED q.length

/-- The learning session goes on from its last commit point; the token whose step was in progress is learned again (R94). -/
def State.learnAgain (s : State) : State :=
  if s.learnStep.isNone then s
  else
    let s1 := (s.setLearn (s.tok.learn.map (fun (l : Learn) => { l with current := none }))).endLearnCard
    let s2 := if (match s1.lf.hold with | some h => h.req.learn | none => false) then s1.setHold none else s1
    s2.requeue

/-- A generation in preparation is discarded: a pairing or a KEY command. -/
def State.dropPairing (s : State) : State :=
  if s.keys.prep = .pairing || s.keys.prep = .keyCommand then
    ({ s with keys := { s.keys with prep := .none }, rel := { s.rel with pairing := none } }).refreshKeys
  else s

/-- Whether the executing command waits on work of the active pair that does not survive it: the pairing. -/
def State.pairsNow (s : State) : Bool :=
  s.rel.pairing.isSome && (match s.hif.executing with | some c => msgOpcode c.message == 0x0901 | none => false)

/-- What the new active pair does with the work of the old one: it resumes from the commit point last applied (R28), sessions begin again
once what the radio has queued has run (R170), no pairing stays in preparation. -/
def State.resumeWork (s : State) : State :=
  let s1 := { s with net := { s.net with records := [], commitNo := s.net.appliedNo, cmdAt := s.net.cmdApplied }
                     rel := { s.rel with cmdNo := s.net.cmdApplied } }
  let s2 := s1.learnAgain
  let s3 := (if s2.pairsNow then s2.requeue else s2).dropPairing
  let s4 := if s3.rf.onAir.isSome || !s3.rf.queue.isEmpty then { s3 with rf := { s3.rf with takeover := true } } else s3.restartSessions
  s4.readerRestart

/-- Sequence 14-2: the standby pair becomes the active pair, and DEST 15 traffic that was held reaches it (R26). The failed one is tested
(R396). In TRIAL the update reverts (R421). -/
def State.promote (s : State) : State :=
  let a := s.activePair
  let s1 := ((s.swapRoles).put (pairField a) 2).putFlag F.PWR_PAIR_STANDBY_READY false
  let s2 := ((s1.bump F.PWR_PAIR_TAKEOVERS).setReg R.PWR_TAKEOVER_MT (s.mt % 2 ^ 32)).event F.PWR_EVT_TAKEOVER
  let s3 := ((s2.reason .pwr 0x030B).redLoss 0).reason .pwr 0x030E
  let test := if s.islandFailed (1 + a) then none else some (a == 1)
  let s4 := { s3 with net := { s3.net with testing := test, loading := none, promoteWait := false, spareOk := false } }
  let s5 := (levelChange (2 - a) 3 true s4.resumeWork).deliver15
  if s5.update.state = .trial then s5.doRevert 0x0E14 else s5

/-- Whether a pair is retired. -/
def Fuses.retired (f : Fuses) (b : Nat) : Bool := if b = 0 then f.retireA else f.retireB

/-- Notes the MT of a fault of a pair. -/
def State.noteFault (s : State) (b : Nat) : State :=
  if b = 0 then { s with net := { s.net with faultMtA := s.net.faultMtA ++ [s.mt] } }
  else { s with net := { s.net with faultMtB := s.net.faultMtB ++ [s.mt] } }

/-- The faults of a pair within 24 h of MT. -/
def State.pairFaults (s : State) (b : Nat) : Nat :=
  ((if b = 0 then s.net.faultMtA else s.net.faultMtB).filter (fun t => s.mt ≤ t + dayUs)).length

/-- Two of three puppeteer controllers are lost: promotions and tests stop (Table 14-9). -/
def State.puppeteerLost (s : State) : Bool := decide (2 ≤ s.net.heldOut.length)

/-- The service stops: nothing is left to promote or to restart it. -/
def State.serviceStops (s : State) : State :=
  let s1 := (s.setReg R.SYS_EN_MAP 0).setPhase 0xE
  ({ s1 with sys := { s1.sys with halted := true } }).refresh

/-- An activation that has not handed over ends with 0x0E0F; the image stays READY (R426). -/
def State.abandonActivation (s : State) : State := (s.updTo .ready).reason .upd 0x0E0F

/-- The active pair has failed: the standby pair takes over, at once or as soon as it is ready; a sound pair that has not begun to load
does so now (R2, R77). With shared memory failed the standby holds no handover: it loads first, in up to 60 ms (Table 14-11). -/
def State.activeFault (s : State) : State :=
  if s.puppeteerLost then s.serviceStops
  else if s.update.state = .activate && s.upd.step ≠ 0 then
    let s1 := (s.abandonActivation).dropActivation
    { s1 with net := { s1.net with promoteWait := true } }
  else if s.standbyReady && s.islandFailed 7 then { s with net := { s.net with promoteWait := true } }.standbyLoads s.upd.standbySlot
  else if s.standbyReady then s.promote
  else if s.net.loading.isSome then { s with net := { s.net with promoteWait := true } }
  else if s.net.spareOk then { s with net := { s.net with promoteWait := true } }.loadStandby
  else s.resetSource 4

/-- The standby pair, or the pair that loads to become it, has failed. -/
def State.standbyFault (s : State) (b : Nat) : State :=
  let wait := s.net.promoteWait
  let s1 := ((s.put (pairField b) 2).putFlag F.PWR_PAIR_STANDBY_READY false).setVote 2 (1 + b) false
  let test := if s.islandFailed (1 + b) then none else some (b == 1)
  let s2 := { s1 with net := { s1.net with testing := test, loading := none, records := [], spareOk := false } }
  let s3 := (s2.redLoss 0).reason .pwr 0x030E
  if wait then s3.resetSource 4
  else
    let s4 := if s3.update.state = .activate then
        { s3.abandonActivation with upd := { UpdRun.reset with standbySlot := s3.upd.standbySlot } } else s3
    s4.finishNine

/-- A pair fault signal (R25): a mismatch, an uncorrectable SRAM error or a missed heartbeat. A pair under test or retired takes no
part. -/
def pairFault (b : Nat) (s : State) : State :=
  if s.phase < 4 || s.phase = 0xE || s.fuses.retired b then s
  else if b = s.activePair then (if s.net.promoteWait then s else (s.noteFault b).activeFault)
  else if s.standbyReady || s.net.loading = some (b == 1) then (s.noteFault b).standbyFault b
  else s

/-- PAIR_FAULT (R395). -/
def execPairFault (pairB : Bool) (s : State) : Out := .next (pairFault (bit pairB) s)

/-- HEARTBEAT_TIMEOUT: a pair fault of the active pair, which runs (R29). -/
def execHeartbeatTimeout (s : State) : Out :=
  .next (if s.island (1 + s.activePair) = 2 then pairFault s.activePair s else s)

/-- The pair is retired: its fuse, no vote, powered off for life (R396). -/
def State.retirePair (s : State) (b : Nat) : State :=
  let s1 := { s with
    fuses := if b = 0 then { s.fuses with retireA := true } else { s.fuses with retireB := true }
    net := { s.net with testing := none, spareOk := false } }
  let s2 := ((s1.put (pairField b) 3).put (F.PWR_VOTEn_CLIENTS (1 + b)) 0).setIsland (1 + b) 0
  (s2.reason .pwr 0x030D).event F.PWR_EVT_PAIR_RETIRED

/-- PAIR_TEST_DONE: a pair that passes at its first fault within 24 h becomes a spare and loads; any other is retired. -/
def pairTestDone (pass : Bool) (s : State) : State :=
  match s.net.testing with
  | none => s
  | some p =>
    let b := bit p
    if s.puppeteerLost then s
    else if pass && decide (s.pairFaults b ≤ 1) then
      (({ s with net := { s.net with testing := none, spareOk := true } }).reason .pwr 0x030C).loadStandby
    else s.retirePair b

/-- PAIR_TEST_DONE. -/
def execPairTestDone (pass : Bool) (s : State) : Out := .next (pairTestDone pass s)

/-- The pair that loaded becomes the standby pair. -/
def State.becomesStandby (s : State) (b : Nat) : State :=
  let s1 := (((s.put (pairField b) 1).putFlag F.PWR_PAIR_STANDBY_READY true).redClear 0).setVote 2 (1 + b) true
  let s2 := { s1 with net := { s1.net with loading := none, appliedNo := s1.net.commitNo, cmdApplied := s1.net.cmdAt, records := [] } }
  ((s2.setIsland (1 + b) 2).followShared).finishNine

/-- STANDBY_PAIR_READY: the standby pair is current, or is promoted at once if it is waited for. An activation goes on. Parts that do not
read, or do not match the manifest, are a fault of the pair (R70, R77). -/
def standbyPairReady (ok : Bool) (s : State) : State :=
  match s.net.loading with
  | none => s
  | some p =>
    let b := bit p
    if !ok || !s.standbyPartsOk then pairFault b s
    else if s.net.promoteWait then s.promote
    else
      let s1 := s.becomesStandby b
      if s1.update.state = .activate && s1.upd.step = 2 then s1.activationCurrent
      else if s1.update.state = .activate && s1.upd.step = 0 then s1.startActivation
      else s1

/-- STANDBY_PAIR_READY (R77). -/
def execStandbyPairReady (ok : Bool) (s : State) : Out := .next (standbyPairReady ok s)

/-- ISLAND_FAILED: an island or its power switch fails. With a core pair's island goes the pair. -/
def islandFailed (i : Nat) (switch : Bool) (s : State) : State :=
  if s.islandFailed i then s
  else
    let s1 := s.failIslandBy i switch
    if i = 1 || i = 2 then pairFault (i - 1) s1 else s.failHooks s1

/-- ISLAND_FAILED (R382). -/
def execIslandFailed (island : Fin 15) (switch : Bool) (s : State) : Out := .next (islandFailed island.val switch s)

/-! ## Tamper alarms (R72, R286 to R290) -/

/-- Everything derived so far in a start is zeroised (R72). -/
def State.dropDerived (s : State) : State :=
  { s with
    keys := { s.keys with derived := false, prep := .none, secrets := [], challenge := none }
    sym := { s.sym with ctx := List.replicate 32 none, store := [], queue := [], streams := [], ctxKey := [] } }.refreshKeys

/-- Whether the executing command is a KEY command, or one that holds the generation in preparation, and no fuse blow runs. -/
def State.keyCommandRuns (s : State) : Bool :=
  match s.hif.executing with
  | none => false
  | some c =>
    let op := msgOpcode c.message
    s.keys.blow.isNone && (op / 256 == 0x0B || op == 0x0802 || op == 0x0803 || op == 0x0901)

/-- The T1 response: the operations in progress abort, the KEY command in progress ends with 0x0A15, the sessions begin again, any
generation in preparation is discarded (R288, R289). -/
def State.t1Response (s : State) : State :=
  let s1 := if s.keyCommandRuns then s.finish 0x0A15 [] else s
  let s2 := if s1.tok.learn.isSome then s1.dropLearn else s1
  ((s2.dropPairing).symTamper.restartSessions).readerRestart

/-- The T2 response: as T1, and the keyring is locked for 10 s of MT. -/
def State.t2Response (s : State) : State :=
  let s1 := s.t1Response
  ({ s1 with keys := { s1.keys with lockEnd := some (s.mt + 10000000) } }).putFlag F.KEY_STAT_RING_LOCKED true

/-- What an alarm of class 1 or 2 does once latched: its entry and its response; in phases 1 to 5 of a start it ends the start in RECOVERY
(R72). -/
def State.alarmRespond (s : State) (cls code : Nat) : State :=
  let s1 := (s.alarmEntry cls code).alarmWake
  if 1 ≤ s.phase && s.phase ≤ 5 then (s1.dropDerived).enterRecovery .alarm 0x0135
  else if cls = 1 then s1.t1Response else s1.t2Response

/-- An alarm of class 1 or 2: latched at once; during a fuse blow the rest waits for its end (R266). -/
def State.alarm (s : State) (cls code : Nat) : State :=
  let s0 := s.latchAlarm cls code
  if s.keys.blow.isSome then s0.awaitBlow (.alarm cls code) else s0.alarmRespond cls code

/-- Whether the monitors are armed: POR has been released (R286). -/
def State.armed (s : State) : Bool := s.pilot.vbatUp && decide (1 ≤ s.phase)

/-- T1_ALARM; more than T1_ESC within 60 s of PT raise a T2 alarm with 0x0F08 and clear the count (R287). -/
def t1Alarm (clock : Bool) (s : State) : State :=
  if !s.armed then s
  else
    let recent := s.pilot.t1Times.filter (fun (t : Word) => (s.pilot.pt - t).toNat ≤ 1966080) ++ [s.pilot.pt]
    let many := decide (s.secLE 0x0F 2 1 16 < recent.length)
    let s1 := { s with pilot := { s.pilot with t1Times := if many then [] else recent } }
    let s2 := s1.alarm 1 (if clock then 0x0F02 else 0x0F01)
    if many then s2.alarm 2 0x0F08 else s2

/-- T1_ALARM. -/
def execT1Alarm (clock : Bool) (s : State) : Out := .next (t1Alarm clock s)

/-- T2_ALARM. -/
def execT2Alarm (light : Bool) (s : State) : Out :=
  .next (if s.armed then s.alarm 2 (if light then 0x0F04 else 0x0F03) else s)

/-- T3_ALARM: the lampshade always, TAMPER_IN from the TAM enable on where a switch is fitted (R286), the service port while it is locked. -/
def t3Alarm (source : T3Source) (s : State) : State :=
  let trips := match source with
    | .lampshade => true
    | .tamperIn => s.flag F.TAM_STAT_TIN_FITTED
    | .servicePort => !s.pilot.svcOpen
  let code := match source with | .lampshade => 0x0F05 | .tamperIn => 0x0F06 | .servicePort => 0x0F07
  if !s.armed || !trips then s else s.downHooks (s.t3 code s.t3Cause)

/-- T3_ALARM. -/
def execT3Alarm (source : T3Source) (s : State) : Out := .next (t3Alarm source s)

/-! ## The end of a fuse blow (R266, R282, R288, R290) -/

/-- Handles one thing that waited for a blow. -/
def handleDeferred (s : State) (d : Deferred) : State :=
  match d with
  | .alarm cls code => s.alarmRespond cls code
  | .reset source => s.resetSource source
  | .unlock auth => svcUnlock auth s

/-- What waited for the blow follows, in arrival order; a T3 alarm goes first and takes precedence over a transition's reset, and the rest
then waits for the blow that its response starts (R290). -/
def State.afterBlow (s : State) : State :=
  let rest := fun (t : State) => t.keys.deferred.foldl handleDeferred { t with keys := { t.keys with deferred := [] } }
  match s.keys.alarmWait with
  | none => rest s
  | some (code, cause) =>
    let s1 := { s with keys := { s.keys with alarmWait := none } }
    if s.lifecycle = 0 || s.lifecycle = 5 then rest (s1.alarmEntry 3 code)
    else { s1 with hif := { s1.hif with resetWait := none } }.t3Respond code cause

/-- A resetting transition has taken effect: it is answered, and reset source 6 follows, at once where no command waits for the answer. A
retired device has READY low and both release outputs off from the blow on (R79). -/
def State.transitionDone (s : State) (opcode : Nat) : State :=
  let s1 := (s.refreshKeyStat).keyEvent opcode 0
  let s2 := if s1.lifecycle = 5 then s1.releaseLost.refresh else s1
  if s2.hif.executing.isSome then s2.finishReset 6 [] else s2.resetSource 6

/-- FUSE_BLOW_DONE: both elements are read back. Neither blown ends the operation with 0x0B1C; otherwise the transition or the epoch
advance takes effect, and what waited for the blow follows. -/
def fuseBlowDone (readA readB : Bool) (s : State) : State :=
  match s.keys.blow with
  | none => s
  | some b =>
    let s0 := { s with keys := { s.keys with blow := none, blowReset := false, blowOp := none } }
    if !readA && !readB then ((s0.reason .key 0x0B1C).finish 0x0B1C []).afterBlow
    else match b with
      | .epoch =>
        let n := s0.fuses.epochNo
        let s1 := { s0 with fuses := { s0.fuses with epoch := s0.fuses.epoch.set n ((s0.fuses.epoch.getD n .intact).join readA readB) }
                            vault := { s0.vault with bootEpoch := 0, nonceHi := [] } }
        s1.refreshKeyStat.afterBlow
      | .lifecycle i =>
        let lc := s0.fuses.lc.set i ((s0.fuses.lc.getD i .intact).join readA readB)
        let s1 := { s0 with fuses := { s0.fuses with lc := lc }, vault := { s0.vault with transition := none } }
        if s.keys.blowReset then
          let s2 := if i = 1 then s1.drawDeviceTag else if i = 2 then
            { s1 with vault := { s1.vault with fieldMt := some s1.mt } } else s1
          (s2.transitionDone (match s.keys.blowOp with | some (o, _) => o | none => 0)).afterBlow
        else if s1.recovery then
          let s2 := { s1 with sys := { s1.sys with cause := none } }
          (((s2.setPhase 0xC).put F.KEY_STAT_LC 5).put F.KEY_STAT_EPOCH s2.fuses.epochNo).afterBlow
        else s1.refreshKeyStat.afterBlow

/-- FUSE_BLOW_DONE. -/
def execFuseBlowDone (readA readB : Bool) (s : State) : Out := .next (fuseBlowDone readA readB s)

/-! ## The thermal governor (R393, Table 14-7) -/

/-- TA_EST in 1/10000 degree C: TJ less THETA times P. -/
def ambient (tj theta mW : Nat) : Int := signed 8 tj * 10000 - ((theta * mW : Nat) : Int)

/-- A signed byte of whole degrees. -/
def degrees (q : Rat) : Nat := unsigned 8 (max (-128) (min 127 (roundRat q)))

/-- Caps the level of an island in force. -/
def State.capLevel (s : State) (i : Nat) : State :=
  if s.levelCap i < s.level i then s.setReg R.PWR_ISL_PL (insertField (s.reg R.PWR_ISL_PL) (2 * i + 1) (2 * i) (s.levelCap i)) else s

/-- The 2.4 GHz power cap changes: TX_CAPPED, its event, 0x060E (R177). -/
def State.txCap (s : State) (on : Bool) : State :=
  let s1 := (s.put F.RF_TXPWR_CAP (if on then s.secLE 2 5 1 0 else 0x7F)).putFlag F.RF_STAT_TX_CAPPED on
  (s1.event F.RF_EVT_TX_CAP).reason .rf 0x060E

/-- Sets the number of governor steps applied. -/
def State.govStep (s : State) (n : Nat) : State :=
  let was := s.get F.PWR_STAT_GOV_STEP
  let s1 := [3, 4, 5, 6, 1, 2].foldl (fun (t : State) i => t.capLevel i) (s.put F.PWR_STAT_GOV_STEP n)
  let s2 := if was < 4 && 4 ≤ n then s1.txCap true else if 4 ≤ was && n < 4 then s1.txCap false else s1
  if n = 0 then placeBackground s2 else s2

/-- The engaged governor: a step more each 100 ms above GOV_W_CW, a step less each 1 s below it by 0.15 W with TA_EST at or below
GOV_EXIT_C; disengaged after the last release. -/
def State.govern (s : State) (ta : Int) (mW : Nat) : State :=
  let limit := 10 * s.secLE 2 4 1 0
  let n := s.get F.PWR_STAT_GOV_STEP
  let low := decide (mW + 150 < limit)
  let cool := if low then some (s.pwr.govCool.getD s.mt) else none
  let s1 := { s with pwr := { s.pwr with govCool := cool, govNext := if limit < mW then s.pwr.govNext else s.mt + 100000 } }
  if limit < mW then
    if s.mt < s.pwr.govNext || 5 ≤ n then s1
    else ({ s1 with pwr := { s1.pwr with govNext := s.mt + 100000 } }).govStep (n + 1)
  else match cool with
    | none => s1
    | some t =>
      if s.mt < t + 1000000 || (s.secLE 2 3 1 0 : Int) * 10000 < ta then s1
      else
        let s2 := ({ s1 with pwr := { s1.pwr with govCool := some s.mt } }).govStep (n - 1)
        if n ≤ 1 then
          ((({ s2 with pwr := { s2.pwr with govHot := none, govCool := none } }).putFlag F.PWR_STAT_GOV false).event
            F.PWR_EVT_GOV_OFF).reason .pwr 0x0304
        else s2

/-- GOVERNOR_TICK: the estimates; engagement above GOV_ENTER_C for 1 s or at TJ 122 °C. Without a SUPPLY section there are no limits to
act on. -/
def governorTick (tj mW peak : Nat) (s : State) : State :=
  let ta := ambient tj (s.secLE 2 8 2 0) mW
  let s1 := ((s.put F.PWR_STAT_TJ tj).put F.PWR_STAT_TA_EST (degrees ((ta : Rat) / 10000))).put F.PWR_POWER_MEAN_MW mW
  let s2 := s1.put F.PWR_POWER_PEAK_MW (max peak (s1.get F.PWR_POWER_PEAK_MW))
  if (s.section? 2).isNone then s2
  else if s.flag F.PWR_STAT_GOV then s2.govern ta mW
  else
    let hot := if (s.secLE 2 2 1 0 : Int) * 10000 < ta then some (s.pwr.govHot.getD s.mt) else none
    let s3 := { s2 with pwr := { s2.pwr with govHot := hot } }
    let due := match hot with | some t => decide (t + 1000000 ≤ s.mt) | none => false
    if due || decide (122 ≤ signed 8 tj) then
      ((({ s3 with pwr := { s3.pwr with govNext := s.mt + 100000, govCool := none } }).putFlag F.PWR_STAT_GOV true).event
        F.PWR_EVT_GOV_ON).reason .pwr 0x0303
    else s3

/-- GOVERNOR_TICK. -/
def execGovernorTick (tj : BitVec 8) (milliwatt peak : BitVec 16) (s : State) : Out :=
  .next (governorTick tj.toNat milliwatt.toNat peak.toNat s)

/-! ## Supply conditions (R67, R394, Table 14-8) -/

/-- Every island but the pilot, storage and release goes to NAP. -/
def State.brownNap (s : State) : State :=
  let nap := fun (t : State) (i : Nat) => if t.islandFailed i then t else t.islandTo i 0
  ({ [1, 2, 3, 4, 5, 6, 8, 9, 10, 12, 13].foldl nap s with pwr := { s.pwr with restoring := [], dropping := [], entry := none } }).followShared

/-- BROWNOUT: frames end, sessions begin again on return, the islands nap; during a start it pauses at the next phase boundary. -/
def brownout (mv : Nat) (s : State) : State :=
  let s0 := if s.pilot.vbatUp then s.noteVbat mv else s
  if !s.pilot.vbatUp || 6000 ≤ mv || s.flag F.PWR_STAT_BROWNOUT then s0
  else
    let s1 := ((s0.putFlag F.PWR_STAT_BROWNOUT true).event F.PWR_EVT_BROWNOUT).reason .pwr 0x0306
    let s2 := { s1 with pwr := { s1.pwr with brownMt := s.mt } }
    if 2 ≤ s.phase && s.phase ≤ 9 then { s2 with sys := { s2.sys with pausedIn := some s.phase } }
    else
      let s3 := (({ s2 with rf := { s2.rf with onAir := none } }).restartSessions).readerRestart
      s3.brownNap

/-- BROWNOUT. -/
def execBrownout (millivolt : BitVec 16) (s : State) : Out := .next (brownout millivolt.toNat s)

/-- OVERVOLT: LF0 to LF7 stop; a request on them ends with 0x0507. -/
def overvolt (mv : Nat) (s : State) : State :=
  let s0 := if s.pilot.vbatUp then s.noteVbat mv else s
  if !s.pilot.vbatUp || mv ≤ 60500 || s.flag F.PWR_STAT_OVERVOLT then s0
  else
    let s1 := ((s0.putFlag F.PWR_STAT_OVERVOLT true).event F.PWR_EVT_OVERVOLT).reason .pwr 0x0307
    (match s1.lf.hold with | some h => if h.req.lft then s1 else s1.endHold 0x0507 | none => s1).refreshLf

/-- OVERVOLT. -/
def execOvervolt (millivolt : BitVec 16) (s : State) : Out := .next (overvolt millivolt.toNat s)

/-- The islands that hold votes come back after BROWNOUT; the active pair runs unless the device is in STANDBY. -/
def State.brownWake (s : State) : State :=
  let wake := fun (t : State) (i : Nat) =>
    if t.islandFailed i || t.island i ≠ 0 then t
    else if i = 1 + t.activePair && !t.pwr.standby then t.setIsland i 2
    else if t.votes i = 0 then t else t.setIsland i (if t.runVotes i = 0 then 1 else 2)
  let s1 := ([1, 2, 3, 4, 5, 6, 8, 9, 10, 12, 13].foldl wake s).followShared
  if s1.island 13 ≠ 0 && s.island 13 = 0 then s1.ntRestore else s1

/-- SUPPLY_RETURN: BROWNOUT, OVERVOLT and a start pause end; the GRANT wait goes on where it stood. -/
def supplyReturn (mv : Nat) (s : State) : State :=
  let s0 := if s.pilot.vbatUp then s.noteVbat mv else s
  if !s.pilot.vbatUp || mv < 6200 || 58000 < mv then s0
  else
    let brown := s.flag F.PWR_STAT_BROWNOUT
    let s1 := (s0.putFlag F.PWR_STAT_BROWNOUT false).putFlag F.PWR_STAT_OVERVOLT false
    let away := s.mt - s.pwr.brownMt
    let s2 := { s1 with
      sys := { s1.sys with pausedIn := none }
      rel := { s1.rel with start := if brown then s1.rel.start.map (fun (x : RelStart) => { x with grantMt := x.grantMt + away }) else s1.rel.start } }
    (if brown && s.sys.pausedIn.isNone then s2.brownWake else s2).refreshLf

/-- SUPPLY_RETURN. -/
def execSupplyReturn (millivolt : BitVec 16) (s : State) : Out := .next (supplyReturn millivolt.toNat s)

/-! ## The crystal (R363, R399, R400, Table 14-10) -/

/-- CRYSTAL_LOSS: the reference passes to the RC. -/
def crystalLoss (s : State) : State :=
  if !s.pwr.xtalRun || s.onRc then s
  else
    let s1 := (({ s with pwr := { s.pwr with xtalRun := false, retryMt := s.mt } }).putFlag F.PWR_STAT_XTAL_OK false).putFlag F.PWR_STAT_REF_RC true
    let s2 := (((s1.putFlag F.PWR_XTAL_LOST true).event F.PWR_EVT_XTAL_LOST).reason .pwr 0x0308).redLoss 12
    let s3 := s2.ntToRc.putFlag F.TIM_STAT_REF_RC true
    let s4 := if s3.nfc.detection.isSome then (s3.readerStop).reason .nfc 0x0D01 else s3
    (s.downHooks ((s4.rfRefLost).refreshLinks)).refreshRel

/-- CRYSTAL_LOSS. -/
def execCrystalLoss (s : State) : Out := .next (crystalLoss s)

/-- Whether the reference may return: the LF air is free and no exchange runs. -/
def State.airQuiet (s : State) : Bool := s.lf.hold.isNone && decide (s.lf.freeAt ≤ s.mt) && s.rng.onAir.isNone

/-- The reference returns to the crystal: RF and what depends on it are checked again, NT stays FREE (R400). -/
def State.crystalBack (s : State) : State :=
  let s1 := { s with pwr := { s.pwr with xtalRun := true }, rf := { s.rf with refBack := true } }
  let s2 := ((s1.putFlag F.PWR_STAT_REF_RC false).putFlag F.PWR_STAT_XTAL_OK true).putFlag F.PWR_XTAL_RETRYING false
  let s3 := ((s2.putFlag F.RF_STAT_REF_RC false).putFlag F.TIM_STAT_REF_RC false).redClear 12
  ((((s3.event F.PWR_EVT_XTAL_BACK).reason .pwr 0x030A).recheck).refreshLinks).refreshRel

/-- A crystal retry ends: it fails with 0x0309, or the reference returns once the air is quiet. -/
def State.crystalTried (s : State) (pass : Bool) : State :=
  if !s.onRc then s
  else
    let s1 := { s with pwr := { s.pwr with retryMt := s.mt } }
    if !pass then ((s1.putFlag F.PWR_XTAL_RETRYING false).bump F.PWR_XTAL_RETRIES).reason .pwr 0x0309
    else if s.airQuiet then s1.crystalBack
    else s1.putFlag F.PWR_XTAL_RETRYING true

/-- CRYSTAL_RETRY: every XTAL_RETRY_S awake, every 600 s in STANDBY, and at once while a passed retry waits for the air. -/
def crystalRetry (pass : Bool) (s : State) : State :=
  let every := if s.pwr.standby then 600000000 else 1000000 * s.setting 0x0303 10
  if s.flag F.PWR_XTAL_RETRYING || decide (s.pwr.retryMt + every ≤ s.mt) then s.crystalTried pass else s

/-- CRYSTAL_RETRY. -/
def execCrystalRetry (pass : Bool) (s : State) : Out := .next (crystalRetry pass s)

/-- XTAL_RETRY: a write of XTAL_RETRY. -/
def execXtalRetry (pass : Bool) (s : State) : Out := .next (s.crystalTried pass)

/-- OSC_CALIBRATION: every 600 s of MT in STANDBY the step of MT is measured against the crystal; on the RC a retry runs instead. -/
def oscCalibration (ppm : Nat) (env : Env) (s : State) : State :=
  if !s.pwr.standby || s.mt < s.tim.calMt.getD 0 + 600000000 then s
  else
    let s1 := { s with tim := { s.tim with calMt := some s.mt } }
    if s.onRc then s1.crystalTried env.xtalOk else s1.put F.TIM_PT_CAL_PPM ppm

/-- OSC_CALIBRATION (R363, R400). -/
def execOscCalibration (ppm : BitVec 16) (env : Env) (s : State) : Out := .next (oscCalibration ppm.toNat env s)

end Sys2Proof.Machine
end

