-- ==== Sys2Proof/Machine/Flags.lean ====
section
/-! DEFINITION. The event and interrupt flags as a whole: which EVT register belongs to which subsystem, HIF_INT_PEND and INT_N (R456). One
event bit is raised by `State.event`, and a reason by `State.reason`, in Ops.lean. -/
namespace Sys2Proof.Machine

open Sys2Proof

/-! ## Interrupts (R456) -/

/-- The EVT and EVT_EN registers of a subsystem that has them; CFG has none. -/
def evtRegs : Subsys → Option (Nat × Nat)
  | .sys => some (0x40, 0x44)
  | .cfg => none
  | .pwr => some (0x100C, 0x1010)
  | .tim => some (0x200C, 0x2010)
  | .lf => some (0x3010, 0x3014)
  | .rf => some (0x400C, 0x4010)
  | .rng => some (0x500C, 0x5010)
  | .tok => some (0x6018, 0x601C)
  | .rel => some (0x700C, 0x7010)
  | .sym => some (0x800C, 0x8010)
  | .key => some (0x9014, 0x9018)
  | .sto => some (0xA00C, 0xA010)
  | .nfc => some (0xB00C, 0xB010)
  | .upd => some (0xC00C, 0xC010)
  | .tam => some (0xD00C, 0xD010)
  | .hif => some (0xE00C, 0xE010)

/-- Every subsystem, by identifier. -/
def allSubsys : List Subsys :=
  [.sys, .cfg, .pwr, .tim, .lf, .rf, .rng, .tok, .rel, .sym, .key, .sto, .nfc, .upd, .tam, .hif]

/-- Whether a subsystem has a qualifying event. -/
def State.qualifies (s : State) (u : Subsys) : Bool :=
  match evtRegs u with
  | some (e, m) => decide (s.reg e &&& s.reg m ≠ 0)
  | none => false

/-- HIF_INT_PEND. -/
def State.intPend (s : State) : Nat :=
  allSubsys.foldl (fun m u => if s.qualifies u then m ||| 2 ^ (subId u) else m) 0

/-- INT_N is asserted low. -/
def State.intAsserted (s : State) : Bool := decide (s.intPend &&& s.reg R.HIF_INT_MASK ≠ 0)

end Sys2Proof.Machine
end

