-- ==== Sys2Proof/Machine/Operands.lean ====
section
/-! DEFINITION. The operand forms of the host's commands: the host address map and the words of an access (R435), what a write makes of a
register's word under the access types (R6), the words of an SPI frame (R433, R434, Table 16-2, Table 16-4). -/
namespace Sys2Proof.Machine

open Sys2Proof

/-! ## The host address map -/

/-- The subsystem whose block an offset lies in; CFG has no block of its own. -/
def blockSub (off : Nat) : Subsys :=
  match off / 0x1000 with
  | 1 => .pwr | 2 => .tim | 3 => .lf | 4 => .rf | 5 => .rng | 6 => .tok | 7 => .rel | 8 => .sym | 9 => .key | 10 => .sto
  | 11 => .nfc | 12 => .upd | 13 => .tam | 14 => .hif | _ => .sys

/-- The regions of R435: the register blocks, the mailbox IN and OUT regions, the storage read window. -/
inductive Region
  | block (n : Nat)
  | mbIn
  | mbOut
  | window
  deriving DecidableEq, Repr

/-- The region of an address. -/
def regionOf (a : Nat) : Option Region :=
  if a < 0xF000 then some (.block (a / 0x1000))
  else if a < 0x10000 then none
  else if a < 0x18000 then some .mbIn
  else if a < 0x20000 then some .mbOut
  else if a < 0x40000 then some .window
  else none

/-- Checks 4 and 5 of R436: alignment and range. -/
def rangeCheck (addr count : Nat) : Nat :=
  if addr % 4 ≠ 0 then 0x1003
  else match regionOf addr, regionOf (addr + 4 * count - 1) with
    | some a, some b => if a = b then 0 else 0x1005
    | _, _ => 0x1005

/-- The words of an access. -/
def accessWords (addr count : Nat) : List Nat := (List.range count).map (fun k => addr + 4 * k)

/-- Whether a word is SYS_RESET or a register with an enable bit. -/
def enableOrReset (a : Nat) : Bool := a == R.SYS_RESET || (a % 0x1000 == 0 && decide (a < 0xF000))

/-! ## Writes under the access types -/

/-- A word after a host write under the access types of its fields: RW takes the value, W1C clears, everything else stands. -/
def writtenWord (r : RegRow) (old v : Nat) : Nat :=
  r.fields.foldl (fun w f => match f.access with
    | .rw => insertField w f.hi f.lo (bits v f.hi f.lo)
    | .w1c => insertField w f.hi f.lo (bits old f.hi f.lo - (bits old f.hi f.lo &&& bits v f.hi f.lo))
    | .ro => w | .wo => w | .rc => w) old

/-- Whether a write of SYS_RESET resets: the key and the bit. -/
def resetKey (v : Nat) : Bool := v / 2 ^ 16 == 0x5A5A && Nat.testBit v 0

/-! ## The words of an SPI frame -/

/-- The header word of a frame. -/
def spiHeader (op tag addr : Nat) : Word := BitVec.ofNat 32 (op % 16 * 2 ^ 28 + tag % 16 * 2 ^ 24 + addr % 2 ^ 24)

/-- The CRC-32C of a frame's words (R434). -/
def spiCrc (ws : List Word) : Word := crc32c (wordsToBytes ws)

/-- A response: status, data, CRC (Table 16-2, Table 16-4). -/
def spiResponse (tag state reason : Nat) (data : List Nat) : List Word :=
  let ws := (5 * 2 ^ 28 + tag % 16 * 2 ^ 24 + state * 2 ^ 16 + reason % 2 ^ 16) :: data
  let words := ws.map (BitVec.ofNat 32)
  words ++ [spiCrc words]

/-- The COUNT of a Length word; its reserved bits make it out of range. -/
def spiCount (len : Nat) : Nat := if 2048 ≤ len then 0 else len

end Sys2Proof.Machine
end

