-- ==== Sys2Proof/Machine/Host.lean ====
section
/-! DEFINITION. Chapter 16, first part: register access under the access types of R6 and the actions of each register, SPI frames (R431 to
R439), the mailbox (R440 to R447), the registers as the host reads them (R456, R459, R460). -/
namespace Sys2Proof.Machine

open Sys2Proof

/-! ## Reading a register (R4, R6) -/

/-- The progress word of the executing command (R443). -/
def State.mbProg (s : State) : Nat :=
  match s.hif.executing with
  | none => 0
  | some c =>
    let op := msgOpcode c.message
    if op = 0x0202 then s.reg R.SYS_CFG_PROG
    else if op / 256 = 8 && op ≤ 0x0804 then s.reg R.TOK_LEARN_PROG
    else if op / 256 = 14 then (s.updView R.UPD_PROG).getD 0
    else 0xFF000000

/-- The registers of the SYS and HIF blocks, and the enable bits, that follow from other state. -/
def State.hostView (s : State) (off : Nat) : Option Nat :=
  if off = R.SYS_CTL then some (bit (s.enabled .sys) + 2 * bit (s.enabled .cfg))
  else if off % 0x1000 = 0 && off < 0xF000 then some (s.reg off / 2 * 2 + bit (s.enabled (blockSub off)))
  else if off = R.HIF_INT_PEND then some s.intPend
  else if off = R.HIF_MB_PROG then some s.mbProg
  else none

/-- The value that a read of a register gives. -/
def State.regValue (s : State) (off : Nat) : Nat :=
  let views := [s.hostView off, s.lfView off, s.tokView off, s.relView off, s.stoView off, s.timView off, s.nfcView off, s.updView off,
    s.keyView off, s.symView off]
  match (views.filterMap id).head? with
  | some v => v % 2 ^ 32
  | none => s.reg off

/-- What a read of a register does: its RC fields return to 0 (R6). -/
def State.clearRead (s : State) (off : Nat) : State :=
  match regRow? off with
  | none => s
  | some r =>
    if r.fields.any (fun f => f.access == .rc) then
      s.setReg off (r.fields.foldl (fun w f => if f.access = .rc then insertField w f.hi f.lo 0 else w) (s.reg off))
    else s

/-! ## The host address map (R435) -/

/-- Reads one word of the host address map. -/
def State.readWord (s : State) (a : Nat) : State × Nat :=
  match regionOf a with
  | some (.block _) => (s.clearRead a, s.regValue a)
  | some .mbOut => (s, le s.hif.outBuf (a - 0x18000) 4)
  | some .window => (s, le s.sto.window.bytes (a - 0x20000) 4)
  | _ => (s, 0)

/-- Reads `n` words upward. -/
def readWords : Nat → Nat → State → State × List Nat
  | 0, _, s => (s, [])
  | n + 1, a, s =>
    let r := s.readWord a
    let rest := readWords n (a + 4) r.1
    (rest.1, r.2 :: rest.2)

/-! ## Writing the fields of a register (R5, R6) -/

/-- A write to the fields of a register without behaviour of their own. -/
def State.writeFields (s : State) (off v : Nat) : State :=
  match regRow? off with
  | none => s
  | some r => s.setReg off (writtenWord r (s.reg off) v)

/-- A write of HOLD of PWR_CTL: the client HOST on the active pair and the link island. -/
def hostHold (b : Bool) (s : State) : State :=
  let s1 := s.putFlag F.PWR_CTL_HOLD b
  let a := 1 + s.activePair
  if b == s.flag F.PWR_CTL_HOLD then s1
  else if b then (s1.raiseVote 4 a false).raiseVote 4 13 false
  else (s1.withdrawVote 4 a).withdrawVote 4 13

/-- A write of the fields of PULSEn_CTL: refused with 0x0404 while the unit is enabled; EN = 0 stops the unit (R374). -/
def pulseCtl (n v : Nat) (s : State) : State :=
  let same := bits v 6 3 == bits (s.reg (R.TIM_PULSEn_CTL n)) 6 3
  if s.flag (F.TIM_PULSEn_CTL_EN n) then
    let s1 := if same then s else s.reason .tim 0x0404
    if Nat.testBit v 0 then s1 else s1.stopPulse n
  else
    let s1 := (s.put (F.TIM_PULSEn_CTL_POL n) (bits v 6 6)).put (F.TIM_PULSEn_CTL_MODE n) (bits v 3 3)
    let s2 := if bits v 5 4 = 3 then s1 else s1.put (F.TIM_PULSEn_CTL_BASE n) (bits v 5 4)
    s2.setPulse n { s2.pulse n with level := !Nat.testBit v 6 }

/-- A write of START, PERIOD or WIDTH of a PULSE unit: refused with 0x0404 while the unit is enabled. -/
def pulseWord (n off v : Nat) (s : State) : State :=
  if s.flag (F.TIM_PULSEn_CTL_EN n) then s.reason .tim 0x0404 else s.setReg off v

/-- A write to one register as far as its fields go: what the actions of WO bits and enable bits do stands apart. A reserved encoding
leaves its field unchanged (R5). -/
def writePlain (off v : Nat) (s : State) : State :=
  if off = R.PWR_CTL then hostHold (Nat.testBit v 2) s
  else if off = R.LF_CTL then candleHold (Nat.testBit v 1) s
  else if off = R.RF_CTL then sniffHold (Nat.testBit v 1) s
  else if off = R.NFC_CTL then (if Nat.testBit v 1 == s.flag F.NFC_CTL_READER_OFF then s else readerOff (Nat.testBit v 1) s)
  else if off % 0x1000 = 0 then s
  else if 0x3040 ≤ off && off < 0x30C0 && off % 16 = 0 then
    let c := (off - 0x3040) / 16
    if Nat.testBit v 0 == s.flag (F.LF_CHn_CTL_OFF c) then s else lfChannelOff c (Nat.testBit v 0) s
  else if 0x4048 ≤ off && off < 0x4088 && off % 16 = 8 then
    let n := (off - 0x4048) / 16
    if Nat.testBit v 0 == s.flag (F.RF_CHn_CTL_OFF n) then s else chainOff n (Nat.testBit v 0) s
  else if off = R.RF_TEST then
    let s1 := s.setReg off (v % 2 ^ 24 + s.get F.RF_TEST_MODE * 2 ^ 24)
    if bits v 27 24 ≤ 5 then s1.put F.RF_TEST_MODE (bits v 27 24) else s1
  else if 0x2080 ≤ off && off < 0x20C0 && off % 4 = 0 then
    let n := (off - 0x2080) / 16
    if off % 16 = 0 then pulseCtl n v s else pulseWord n off v s
  else if off = R.TIM_NT_INC_INT then ntIncWrite (v % 256) s
  else if off = R.TIM_NT_INC_FRAC && s.ntMode = 1 then s.reason .tim 0x0403
  else if off = R.TIM_NT_SET_S_HI then s.setReg off (v % 2 ^ 16)
  else if off = R.STO_JRNL_ACK_HI then jrnlAck v s
  else if off = R.STO_WIN_CTL then
    let k := bits v 4 0
    if k ≤ 3 || 16 ≤ k then s.put F.STO_WIN_CTL_STREAM k else s
  else s.writeFields off v

/-! ## The mailbox over SPI (R441, R442) -/

/-- HIF_MB_RING: the segment in the IN region is handed over; ignored with 0x1007 while the previous one is being copied. -/
def hifMbRing (w : Nat) (s : State) : State :=
  let n := bits w 31 16
  if !s.flag F.HIF_MB_IN_STAT_IN_FREE then (s.reason .hif 0x1007).event F.HIF_EVT_MB_REFUSED
  else if n = 0 || 32768 < n then s.refuseMessage
  else
    let s1 := (s.putFlag F.HIF_MB_IN_STAT_IN_FREE false)
    let s2 := { s1 with hif := { s1.hif with inFreeAt := s.mt + min 120 (Config.inCopyUs s.mt n) } }
    let seq := match s.partial? .spi with | some p => if Nat.testBit w 1 then 0 else p.seq | none => 0
    s2.segment .spi (Nat.testBit w 1) (Nat.testBit w 0) seq (padTo n s.hif.inBuf) 0

/-- HIF_MB_RING. -/
def execHifMbRing (value : Word) (s : State) : Out := .next (hifMbRing value.toNat s)

/-- The copy out of the IN region has ended. -/
def State.dueInFree (s : State) : State :=
  if s.flag F.HIF_MB_IN_STAT_IN_FREE || s.mt < s.hif.inFreeAt then s
  else (s.putFlag F.HIF_MB_IN_STAT_IN_FREE true).event F.HIF_EVT_IN_FREE

/-- A reset that waits for its response counts the segments released (R447). -/
def State.ackReset (s : State) (wasLast : Bool) : State :=
  match s.hif.resetWait with
  | some w =>
    if w.transport ≠ .spi then s
    else
      let left := if wasLast then w.acks - 1 else w.acks
      if left = 0 then s.resetSource w.source
      else
        let shown := left == 1 && s.flag F.HIF_MB_OUT_STAT_VALID && s.flag F.HIF_MB_OUT_STAT_LAST
        { s with hif := { s.hif with resetWait := some { w with
          acks := left, placedMt := if shown && w.placedMt.isNone then some s.mt else w.placedMt } } }
  | none => s

/-- OUT_ACK: the OUT segment is released and the next one follows. -/
def outAck (s : State) : State :=
  if !s.flag F.HIF_MB_OUT_STAT_VALID then s
  else
    let last := s.flag F.HIF_MB_OUT_STAT_LAST
    let s1 := { s.setReg R.HIF_MB_OUT_STAT 0 with hif := { s.hif with outBuf := [] } }
    (s1.placeOut).ackReset last

/-- OUT_ACK. -/
def execOutAck (s : State) : Out := .next (outAck s)

/-- MB_ABORT: every queued SPI command is removed and answered with 0x1014; the one executing is not. -/
def mbAbort (s : State) : State :=
  let gone := s.hif.queue.filter (fun c => c.transport == .spi)
  let kept := s.hif.queue.filter (fun c => c.transport != .spi)
  let s1 := ({ s with hif := { s.hif with queue := kept } }).put F.HIF_STAT_MB_QUEUED kept.length
  gone.foldl (fun (t : State) c => t.answer c 0x1014 []) s1

/-- MB_ABORT. -/
def execMbAbort (s : State) : Out := .next (mbAbort s)

/-! ## SYS_RESET (R459) -/

/-- SYS_RESET: reset source 0x3. -/
def sysReset (v : Nat) (s : State) : State := if resetKey v then s.resetSource 3 else s

/-- SYS_RESET. -/
def execSysReset (value : Word) (s : State) : Out := .next (sysReset value.toNat s)

/-! ## The actions of a register write -/

/-- An enable bit is written (R60, R61, R62). -/
def State.writeEnable (s : State) (u : Subsys) (b : Bool) : State := if b then enableWrite u s else disableWrite u s

/-- The WO actions of a CTL register, before its enable bit. -/
def ctlActions (env : Env) (off v : Nat) (s : State) : State :=
  let act := fun (n : Nat) (f : State → State) (t : State) => if Nat.testBit v n then f t else t
  match off / 0x1000 with
  | 1 => act 1 (fun t => t.crystalTried env.xtalOk) s
  | 2 => act 5 hostSync (act 4 snap (act 3 ntStep (act 2 ntSet s)))
  | 3 => act 2 (fun t => t.standZero) s
  | 4 => act 2 cal (act 3 testStop s)
  | 5 => act 1 driftReset s
  | 7 => act 1 relock s
  | 8 => act 1 (fun t => t.entropyRetried env.entOk) s
  | 10 => act 1 scrubNow s
  | 11 => act 2 (poll env.cards) (act 3 clrLocks s)
  | 14 => act 3 (canRecover 1) (act 2 (canRecover 0) (act 1 mbAbort s))
  | _ => s

/-- The actions that a write of one register starts: its WO bits, its enable bit. -/
def writeActions (env : Env) (off v : Nat) (s : State) : State :=
  if off = R.SYS_CTL then (s.writeEnable .sys (Nat.testBit v 0)).writeEnable .cfg (Nat.testBit v 1)
  else if off = R.SYS_RESET then sysReset v s
  else if off % 0x1000 = 0 then (ctlActions env off v s).writeEnable (blockSub off) (Nat.testBit v 0)
  else if 0x3040 ≤ off && off < 0x30C0 && off % 16 = 0 then
    if Nat.testBit v 8 && Nat.testBit (u8 s.lfSec 3) ((off - 0x3040) / 16) then recal (signed 8 env.dieTemp.toNat) env.lfMeas s else s
  else if off = R.RF_TEST then (if Nat.testBit v 31 then testStart v s else s)
  else if 0x2080 ≤ off && off < 0x20C0 && off % 16 = 0 then (if Nat.testBit v 0 then pulseArm ((off - 0x2080) / 16) s else s)
  else if 0x20C0 ≤ off && off < 0x2120 && off % 32 = 0 then
    let p := (off - 0x20C0) / 32
    let s1 := if Nat.testBit v 23 then ovfClear p s else s
    if Nat.testBit v 22 then pop p s1 else s1
  else if off = R.STO_WIN_CTL then (if Nat.testBit v 31 then load s else s)
  else if off = R.HIF_MB_RING then hifMbRing v s
  else if off = R.HIF_MB_OUT_ACK then (if Nat.testBit v 0 then outAck s else s)
  else s

/-- Whether a register is written only through its enable bit now: its subsystem is not enabled during a start (Table 3-2). -/
def State.enableOnly (s : State) (off : Nat) : Bool :=
  decide (s.phase ≤ 9) && off != R.SYS_CTL && off % 0x1000 == 0 && !s.enabled (blockSub off) && blockSub off != .hif

/-- A host write of one register. -/
def State.writeReg (s : State) (env : Env) (off v : Nat) : State :=
  if s.enableOnly off then s.writeEnable (blockSub off) (Nat.testBit v 0)
  else writeActions env off v (writePlain off v s)

/-- Writes one word of the host address map; writes to the OUT region and the storage read window are ignored. -/
def State.writeWord (s : State) (env : Env) (a v : Nat) : State :=
  match regionOf a with
  | some (.block _) => s.writeReg env a v
  | some .mbIn =>
    let off := a - 0x10000
    { s with hif := { s.hif with inBuf := padTo off s.hif.inBuf ++ toLE 4 v ++ s.hif.inBuf.drop (off + 4) } }
  | _ => s

/-- Whether a word written resets the device. -/
def resets (a v : Nat) (s : State) : Bool := a == R.SYS_RESET && resetKey v && s.pilot.vbatUp && !s.resetWaits 3

/-- Whether a write of OUT_ACK releases the response that a reset waits for. -/
def State.ackResets (s : State) (a v : Nat) : Bool :=
  a == R.HIF_MB_OUT_ACK && Nat.testBit v 0 && s.flag F.HIF_MB_OUT_STAT_VALID && s.flag F.HIF_MB_OUT_STAT_LAST
    && (match s.hif.resetWait with | some w => w.transport == .spi && w.acks == 1 && !s.resetWaits w.source | none => false)
    && s.pilot.vbatUp

/-- Writes words upward; the flag says that one of them has reset the device, which ends the write. -/
def writeWords (env : Env) : List Nat → Nat → State → State × Bool
  | [], _, s => (s, false)
  | v :: vs, a, s =>
    if resets a v s || s.ackResets a v then (s.writeWord env a v, true) else writeWords env vs (a + 4) (s.writeWord env a v)

/-! ## What an access may reach in each phase (Table 3-2, R79, R80) -/

/-- Whether the journal read that Table 3-3 makes available reaches an access: the STO window registers and the storage read window. -/
def State.journalRead (s : State) (region : Region) (words : List Nat) : Bool :=
  let cause := s.recovery && (s.sys.cause == some .slots || s.sys.cause == some .keyring || s.sys.cause == some .noConfig)
  cause && (region == .window || words.all (fun a => 0xA040 ≤ a && a ≤ 0xA04C))

/-- Whether the phase admits an access to one region. -/
def State.accessOk (s : State) (write : Bool) (region : Region) (words : List Nat) : Bool :=
  let mailbox := region == .block 14 || region == .mbIn || region == .mbOut
  match s.phase with
  | 0xA => true
  | 8 | 9 =>
    !write || mailbox || region == .window || words.all enableOrReset
      || (match region with | .block n => s.enabled (blockSub (0x1000 * n)) | _ => false)
  | 0xB | 0xF =>
    mailbox || s.journalRead region words || (if write then words.all (· == R.SYS_RESET) else region == .block 0)
  | 0xC => if write then words.all (· == R.SYS_RESET) else region == .block 0
  | _ => if write then words.all enableOrReset else region == .block 0

/-- Checks 4 to 8 of R436 for a read or a write: 0, or the first failure. -/
def State.accessCheck (s : State) (write : Bool) (addr count : Nat) : Nat :=
  let r := rangeCheck addr count
  if r ≠ 0 then r
  else match regionOf addr with
    | none => 0x1005
    | some region =>
      if !s.accessOk write region (accessWords addr count) then 0x0131
      else if write && region == .mbIn && !s.flag F.HIF_MB_IN_STAT_IN_FREE then 0x1007
      else if !write && region == .window && s.sto.window.loading then 0x0C0E
      else 0

/-! ## REGISTER_WRITE -/

/-- REGISTER_WRITE: the fields of one register take a write that the phase admits. -/
def registerWrite (addr v : Nat) (s : State) : State :=
  if rangeCheck addr 1 ≠ 0 then s
  else match regionOf addr with
    | some (.block n) => if s.accessOk true (.block n) [addr] && !s.enableOnly addr then writePlain addr v s else s
    | _ => s

/-- REGISTER_WRITE (R5, R6). -/
def execRegisterWrite (addr : BitVec 24) (value : Word) (s : State) : Out := .next (registerWrite addr.toNat value.toNat s)

/-! ## SPI frames (R432 to R439) -/

/-- The first MISO word is HIF_INT_PEND; the response follows. -/
def State.miso (s : State) (pend : Nat) (r : List Word) : State :=
  { s with hif := { s.hif with spiOut := BitVec.ofNat 32 pend :: r } }

/-- Rejects a frame: it is counted and not stored (R436). -/
def State.spiReject (s : State) (pend tag code : Nat) : State :=
  let s1 := (s.bump F.HIF_SPI_CNT_REJECTED)
  let s2 := if code = 0x1001 then s1.bump F.HIF_SPI_CNT_CRC_ERR else s1
  let s3 := ((s2.reason .hif code).event F.HIF_EVT_SPI_ERR).miso pend (spiResponse tag 2 code [])
  { s3 with hif := { s3.hif with lastFrame := none } }

/-- Stores the response of an executed frame under its TAG and sends it (R438). -/
def State.spiDone (s : State) (pend tag : Nat) (key : Word × Word) (r : List Word) : State :=
  let s1 := (s.bump F.HIF_SPI_CNT_FRAMES).miso pend r
  let rest := s1.hif.stored.filter (fun (x : Nat × List Word) => x.1 != tag)
  { s1 with hif := { s1.hif with stored := rest ++ [(tag, r)], lastFrame := some key } }

/-- Whether a frame is received: not in phases 1 and 2, and only while the link island runs; asleep, it wakes and the frame is lost
(R439, Table 3-2). -/
def State.spiReceives (s : State) : Bool :=
  s.pilot.vbatUp && decide (3 ≤ s.phase) && !s.islandFailed 13 && !s.flag F.PWR_STAT_BROWNOUT && (s.phase != 0xA || s.island 13 == 2)

/-- The checks of R436 for a frame whose CRC has passed. -/
def State.frameCheck (s : State) (op tag addr len : Nat) : Nat :=
  let n := spiCount len
  if 4 ≤ op then 0x1004
  else if n = 0 || 1024 < n || ((op = 0 || op = 3) && n ≠ 1) then 0x1002
  else if op = 0 || op = 3 then
    if addr % 4 ≠ 0 then 0x1003 else if rangeCheck addr 1 ≠ 0 then 0x1005
    else if op = 3 && !s.hif.stored.any (fun x => x.1 == tag) then 0x1006 else 0
  else s.accessCheck (op == 2) addr n

/-- Executes a frame that has passed its checks; `write` is what a WRITE does. -/
def State.spiExecute (s : State) (write : State → State × Bool) (op tag addr len : Nat) (key : Word × Word) : State :=
  let pend := s.intPend
  if op = 3 then
    match s.hif.stored.find? (fun x => x.1 == tag) with
    | some (_, r) => s.spiDone pend tag key r
    | none => s
  else if op = 1 then
    let r := readWords (spiCount len) addr s
    r.1.spiDone pend tag key (spiResponse tag 0 0 r.2)
  else if op = 2 then
    let w := write s
    if w.2 then w.1 else w.1.spiDone pend tag key (spiResponse tag 0 0 [])
  else s.spiDone pend tag key (spiResponse tag 0 0 [])

/-- A frame: a repeat of the frame just executed is answered from the store; a frame cut before its request CRC is not executed. -/
def spiFrame (write : State → State × Bool) (op tag addr len : Nat) (data : List Word) (crc : Word) (s : State) : State :=
  let key := (spiHeader op tag addr, crc)
  let pend := s.intPend
  let n := spiCount len
  if !s.spiReceives then (if s.phase = 0xA && !s.flag F.PWR_STAT_BROWNOUT && !s.islandFailed 13 then s.linkWake else s)
  else if op = 2 && n ≤ 1024 && data.length < n then s
  else if s.hif.lastFrame = some key then
    match s.hif.stored.find? (fun x => x.1 == tag) with
    | some (_, r) => s.miso pend r
    | none => s
  else if crc ≠ spiCrc (spiHeader op tag addr :: BitVec.ofNat 32 len :: data) then s.spiReject pend tag 0x1001
  else
    let code := s.frameCheck op tag addr len
    if code ≠ 0 then s.spiReject pend tag code
    else s.spiExecute write op tag addr len key

/-- The write of a frame that is none. -/
def noWrite (s : State) : State × Bool := (s, false)

/-- SPI_NOP: OP 0x0, or a reserved OP, which is rejected with 0x1004. -/
def execSpiNop (op tag : BitVec 4) (addr : BitVec 24) (len : Word) (crc : Word) (s : State) : Out :=
  .next (spiFrame noWrite (if 1 ≤ op.toNat && op.toNat ≤ 3 then 0 else op.toNat) tag.toNat addr.toNat len.toNat [] crc s)

/-- SPI_READ. -/
def execSpiRead (tag : BitVec 4) (addr : BitVec 24) (len : Word) (crc : Word) (s : State) : Out :=
  .next (spiFrame noWrite 1 tag.toNat addr.toNat len.toNat [] crc s)

/-- SPI_WRITE. -/
def execSpiWrite (tag : BitVec 4) (addr : BitVec 24) (len : Word) (data : List Word) (crc : Word) (env : Env) (s : State) : Out :=
  .next (spiFrame (writeWords env ((data.take (spiCount len.toNat)).map BitVec.toNat) addr.toNat) 2 tag.toNat addr.toNat len.toNat data crc s)

/-- SPI_RESULT. -/
def execSpiResult (tag : BitVec 4) (addr : BitVec 24) (len : Word) (crc : Word) (s : State) : Out :=
  .next (spiFrame noWrite 3 tag.toNat addr.toNat len.toNat [] crc s)

/-! ## Mailbox frames on a bus (R441) -/

/-- MAILBOX_SEGMENT. -/
def execMailboxSegment (transport : Transport) (payload : Bytes) (source : Nat) (s : State) : Out :=
  .next (mailboxSegment transport payload source s)

/-! ## REG_READ, REG_WRITE, RESET, ECHO (R447) -/

/-- The register read command. -/
def regReadOp (addr count : Nat) (s : State) : MbRes :=
  if count = 0 || 1024 < count then mbRefuse s 0x100C
  else
    let c := s.accessCheck false addr count
    if c ≠ 0 then mbRefuse s c
    else
      let r := readWords count addr s
      mbOk r.1 (r.2.flatMap (fun v => toLE 4 v))

/-- REG_READ. -/
def execRegRead (addr count : Word) (s : State) : Out :=
  .next (mailboxCommand 0x0101 (toLE 4 addr.toNat ++ toLE 4 count.toNat) (regReadOp addr.toNat count.toNat) s)

/-- The register write command. -/
def regWriteOp (addr count : Nat) (values : List Nat) (env : Env) (s : State) : MbRes :=
  if count = 0 || 1024 < count || values.length ≠ count then mbRefuse s 0x100C
  else
    let c := s.accessCheck true addr count
    if c ≠ 0 then mbRefuse s c
    else
      let w := writeWords env values addr s
      if w.2 then (w.1, mbDeferred, []) else mbOk w.1 []

/-- REG_WRITE. -/
def execRegWrite (addr : Word) (values : List Word) (env : Env) (s : State) : Out :=
  .next (mailboxCommand 0x0102 (toLE 4 addr.toNat ++ toLE 4 values.length ++ wordsToBytes values)
    (regWriteOp addr.toNat values.length (values.map BitVec.toNat) env) s)

/-- The reset command: only its key resets, once the answer is delivered. -/
def resetOp (key : Nat) (s : State) : MbRes := if key = 0x5A5A then (s.finishReset 3 [], mbDeferred, []) else mbRefuse s 0x100C

/-- RESET. -/
def execReset (input : Word) (s : State) : Out := .next (mailboxCommand 0x0103 (toLE 4 input.toNat) (resetOp input.toNat) s)

/-- The echo command. -/
def echoOp (data : Bytes) (s : State) : MbRes := mbOk s data

/-- ECHO. -/
def execEcho (data : Bytes) (s : State) : Out := .next (mailboxCommand 0x0104 data (echoOp data) s)

/-! ## MB_EXECUTE (R442, R443) -/

/-- The operation of a SYS, CFG, LF, TOK or REL command. -/
def opLow (op : Nat) (x : Bytes) (env : Env) : State → MbRes :=
  match op with
  | 0x0101 => regReadOp (le x 0 4) (le x 4 4)
  | 0x0102 => regWriteOp (le x 0 4) (if x.length % 4 = 0 then le x 4 4 else 0) ((bytesToWords (x.length / 4 - 2) (x.drop 8)).map BitVec.toNat) env
  | 0x0103 => resetOp (le x 0 4)
  | 0x0104 => echoOp x
  | 0x0201 => cfgWriteOpenOp (le x 0 4)
  | 0x0202 => cfgWriteChunkOp (le x 0 4) (x.drop 4) env
  | 0x0203 => settingReadOp (le x 0 2)
  | 0x0204 => settingWriteOp (le x 0 2) (le x 2 4)
  | 0x0501 => hostRequestOp false
  | 0x0502 => hostRequestOp true
  | 0x0801 => learnOpenOp (u8 x 0) (x.drop 1)
  | 0x0802 => learnTokenOp x env.cards
  | 0x0803 => learnCommitOp env.commitOk
  | 0x0804 => learnAbandonOp
  | 0x0805 => slotStateOp 1 2 (u8 x 0)
  | 0x0806 => slotStateOp 2 1 (u8 x 0)
  | 0x0901 => pairOp (u8 x 0) (be x 1 8) (x.drop 9)
  | 0x0902 => unpairOp (u8 x 0) (x.drop 1) env.commitOk
  | 0x0903 => partnerListOp
  | _ => fun s => mbRefuse s 0x100A

/-- The operation of a KEY command. -/
def opKey (op : Nat) (x : Bytes) (env : Env) : State → MbRes :=
  match op with
  | 0x0B01 => challengeOp
  | 0x0B02 => integrateOp x
  | 0x0B03 => fieldOp
  | 0x0B04 => retireOp x
  | 0x0B05 => importOp 4 3 0x0B05 (x.take 172) (x.drop 172) env.commitOk
  | 0x0B06 => importOp 5 6 0x0B06 (x.take 172) (x.drop 172) env.commitOk
  | 0x0B07 => keyGenerateOp (u8 x 0) (le x 1 4) env.commitOk
  | 0x0B08 => keyExportOp (le x 0 4) (le x 4 4)
  | 0x0B09 => keyDestroyOp (le x 0 4) env.commitOk
  | 0x0B0A => keyRotateOp (le x 0 4) env.commitOk
  | 0x0B0B => keyAttrReadOp (le x 0 4)
  | 0x0B0C => attestAOp x
  | 0x0B0D => statementBOp (le x 0 4) (x.drop 4)
  | 0x0B0E => statementsReadOp
  | 0x0B0F => dikCertReadOp
  | _ => fun s => mbRefuse s 0x100A

/-- The operation of a SYM, STO, NFC, UPD or HIF command. -/
def opHigh (op : Nat) (x : Bytes) (env : Env) : State → MbRes :=
  match op with
  | 0x0A01 => cipherOp x env.commitOk
  | 0x0C01 => streamAppendOp (u8 x 0) (x.drop 1) env.storeOk
  | 0x0C02 => streamTrimOp (u8 x 0) (le x 1 8)
  | 0x0C03 => capturePinOp (le x 0 4)
  | 0x0C04 => captureUnpinOp (le x 0 4)
  | 0x0C05 => hostNoteOp x
  | 0x0D01 => tagSetPwdOp x
  | 0x0D02 => tagSetKeyOp x
  | 0x0D03 => tagReadOp (le x 0 2) (u8 x 2)
  | 0x0D04 => tagWriteOp (le x 0 2) (u8 x 2) (x.drop 3)
  | 0x0D05 => tagReserveOp (u8 x 0)
  | 0x0D06 => tagReleaseOp
  | 0x0E01 => updBeginOp x env
  | 0x0E02 => updChunkOp (le x 0 4) (x.drop 4) env
  | 0x0E03 => updActivateOp (Nat.testBit (u8 x 0) 0)
  | 0x0E04 => updConfirmOp env.storeOk
  | 0x0E05 => updRevertOp
  | 0x0E06 => updAbortOp
  | 0x1001 => frameSendOp x
  | 0x1002 => frameRecvOp (le x 0 2)
  | _ => fun s => mbRefuse s 0x100A

/-- The operation that a command of Table 16-6 stands for. -/
def opOf (op : Nat) (x : Bytes) (env : Env) : State → MbRes :=
  if op / 256 = 0x0B then opKey op x env else if op / 256 ≤ 9 then opLow op x env else opHigh op x env

/-- Whether MB_GROUPS permits a command's group on a bus transport. -/
def State.groupOk (s : State) (c : MbCmd) : Bool :=
  let op := msgOpcode c.message
  c.transport == .spi || !knownOpcode op || Nat.testBit (le s.linksSec 2 2) (op / 256 - 1)

/-- Ends a command before its execution. -/
def State.refuseCommand (s : State) (c : MbCmd) (code : Nat) : State := s.answer c code []

/-- MB_EXECUTE: the command at the head of the queue runs once none is executing; BROWNOUT holds it, and so do a reset that waits and a
fuse blow (R266). -/
def mbExecute (env : Env) (s : State) : State :=
  match s.hif.queue with
  | [] => s
  | c :: rest =>
    if s.hif.executing.isSome || s.flag F.PWR_STAT_BROWNOUT || s.hif.resetWait.isSome || s.keys.blow.isSome then s
    else
      let s1 := ({ s with hif := { s.hif with queue := rest } }).put F.HIF_STAT_MB_QUEUED rest.length
      if !s1.groupOk c then s1.refuseCommand c 0x100B
      else s1.runAs c (opOf (msgOpcode c.message) (msgInput c.message) env)

/-- MB_EXECUTE. -/
def execMbExecute (env : Env) (s : State) : Out := .next (mbExecute env s)

/-! ## Responses (R445, R447) -/

/-- RESPONSE_DROP: bus responses held for 10 s of MT are dropped with 0x100D. A reset that waits for one proceeds. -/
def responseDrop (s : State) : State :=
  let late := fun (r : MbResp) => decide (r.readyMt + 10000000 ≤ s.mt)
  if !s.hif.busResp.any late then s
  else
    let lost := s.hif.busResp.filter late
    let s1 := { s with hif := { s.hif with busResp := s.hif.busResp.filter (fun r => !late r) } }
    let s2 := (s1.reason .hif 0x100D).event F.HIF_EVT_RESP_DROPPED
    match s.hif.resetWait with
    | some w => if lost.any (fun r => r.transport == w.transport) then s2.resetSource w.source else s2
    | none => s2

/-- RESPONSE_DROP. -/
def execResponseDrop (s : State) : Out := .next (responseDrop s)

/-- RESPONSE_DELIVERED: over SPI 100 ms after the last segment was placed; on a bus once its last frame has been sent. -/
def responseDelivered (s : State) : State :=
  match s.hif.resetWait with
  | none => s
  | some w =>
    if w.transport = .spi then
      match w.placedMt with
      | some t => if t + 100000 ≤ s.mt then s.resetSource w.source else s
      | none => s
    else if s.hif.busResp.any (fun r => r.transport == w.transport) then s
    else s.resetSource w.source

/-- RESPONSE_DELIVERED. -/
def execResponseDelivered (s : State) : Out := .next (responseDelivered s)

/-! ## What falls due as time passes -/

/-- What the block does on its own as a tick passes: the drops of islands and a STANDBY entry, the IN region, the end of a hold, a commit
that waits, the release's retry, storage, a commit point every 10 ms (R27). -/
def State.dueNow (s : State) : State :=
  (((((((((s.dueDrops).dueEntry).dueInFree).dueHold).dueCommit).dueCards).dueRetry).dueReseal).dueStorage).commitDue

/-- What a step on an empty queue does: 1 us passes (log entry 2). -/
def idle (s : State) : State := (tick s).dueNow

end Sys2Proof.Machine
end

