-- ==== Sys2Proof/Machine/Dispatch.lean ====
section
/-! DEFINITION. The one match from commands to meanings. -/
namespace Sys2Proof.Machine

open Sys2Proof

/-- The effect of a command. -/
def exec (i : Instr) (s : State) : Host.Outcome State Fault Refusal :=
  match i with
  | .powerOn => Sys2Proof.Machine.execPowerOn s
  | .rstNReset lowUs => Sys2Proof.Machine.execRstNReset lowUs s
  | .puppeteerRestart => Sys2Proof.Machine.execPuppeteerRestart s
  | .selfRestart => Sys2Proof.Machine.execSelfRestart s
  | .servicePortReset => Sys2Proof.Machine.execServicePortReset s
  | .reference crystal => Sys2Proof.Machine.execReference crystal s
  | .fusesAndMemory eccOk passA passB => Sys2Proof.Machine.execFusesAndMemory eccOk passA passB s
  | .firmware readA readB readRecovery => Sys2Proof.Machine.execFirmware readA readB readRecovery s
  | .keys ringReadable => Sys2Proof.Machine.execKeys ringReadable s
  | .configuration env => Sys2Proof.Machine.execConfiguration env s
  | .microcode storage lf radio nfc => Sys2Proof.Machine.execMicrocode storage lf radio nfc s
  | .immobiliserPath env => Sys2Proof.Machine.execImmobiliserPath env s
  | .completion env => Sys2Proof.Machine.execCompletion env s
  | .imgChecked env => Sys2Proof.Machine.execImgChecked env s
  | .standbyPairReady ok => Sys2Proof.Machine.execStandbyPairReady ok s
  | .enableWrite sub => Sys2Proof.Machine.execEnableWrite sub s
  | .disableWrite sub => Sys2Proof.Machine.execDisableWrite sub s
  | .consistencyCheck env => Sys2Proof.Machine.execConsistencyCheck env s
  | .cfgWriteOpen imgLen => Sys2Proof.Machine.execCfgWriteOpen imgLen s
  | .cfgWriteChunk index data env => Sys2Proof.Machine.execCfgWriteChunk index data env s
  | .settingRead id => Sys2Proof.Machine.execSettingRead id s
  | .settingWrite id value => Sys2Proof.Machine.execSettingWrite id value s
  | .packetReceive sends moments arrival => Sys2Proof.Machine.execPacketReceive sends moments arrival s
  | .heartbeatTimeout => Sys2Proof.Machine.execHeartbeatTimeout s
  | .pairFault pairB => Sys2Proof.Machine.execPairFault pairB s
  | .puppeteerOutvote ctrl reloads => Sys2Proof.Machine.execPuppeteerOutvote ctrl reloads s
  | .commitPoint => Sys2Proof.Machine.execCommitPoint s
  | .handoverRecord => Sys2Proof.Machine.execHandoverRecord s
  | .pairTestDone pass => Sys2Proof.Machine.execPairTestDone pass s
  | .tileFree tile => Sys2Proof.Machine.execTileFree tile s
  | .backgroundSliceEnd tile finished => Sys2Proof.Machine.execBackgroundSliceEnd tile finished s
  | .tileFault tile => Sys2Proof.Machine.execTileFault tile s
  | .shmemDoubleBitError bank => Sys2Proof.Machine.execShmemDoubleBitError bank s
  | .wakeEdge input => Sys2Proof.Machine.execWakeEdge input s
  | .chatterUnmask input => Sys2Proof.Machine.execChatterUnmask input s
  | .lfAirGrant meas => Sys2Proof.Machine.execLfAirGrant meas s
  | .candlePoll meas => Sys2Proof.Machine.execCandlePoll meas s
  | .ansReceive rslot frame signal => Sys2Proof.Machine.execAnsReceive rslot frame signal s
  | .roundClose meas floor => Sys2Proof.Machine.execRoundClose meas floor s
  | .cryReceive pos frame rssi => Sys2Proof.Machine.execCryReceive pos frame rssi s
  | .lockExpiry index => Sys2Proof.Machine.execLockExpiry index s
  | .failureAgeOut index => Sys2Proof.Machine.execFailureAgeOut index s
  | .lmeas meas => Sys2Proof.Machine.execLmeas meas s
  | .rptReceive pos frame => Sys2Proof.Machine.execRptReceive pos frame s
  | .lfReturnReceive rslot heard => Sys2Proof.Machine.execLfReturnReceive rslot heard s
  | .rkeFrame frame rssi => Sys2Proof.Machine.execRkeFrame frame rssi s
  | .learnOpen n auth => Sys2Proof.Machine.execLearnOpen n auth s
  | .learnToken record cards => Sys2Proof.Machine.execLearnToken record cards s
  | .keyackReceive frame arsp exchanges => Sys2Proof.Machine.execKeyackReceive frame arsp exchanges s
  | .keyackTimeout => Sys2Proof.Machine.execKeyackTimeout s
  | .learnCommit env => Sys2Proof.Machine.execLearnCommit env s
  | .learnAbandon => Sys2Proof.Machine.execLearnAbandon s
  | .learnTimeout => Sys2Proof.Machine.execLearnTimeout s
  | .slotSuspend slot => Sys2Proof.Machine.execSlotSuspend slot s
  | .slotResume slot => Sys2Proof.Machine.execSlotResume slot s
  | .lfRequest => Sys2Proof.Machine.execLfRequest s
  | .lftExchange => Sys2Proof.Machine.execLftExchange s
  | .lftUplinkReceive frame => Sys2Proof.Machine.execLftUplinkReceive frame s
  | .lftRetry => Sys2Proof.Machine.execLftRetry s
  | .standReset => Sys2Proof.Machine.execStandReset s
  | .recal channel env => Sys2Proof.Machine.execRecal channel env s
  | .lfRecalDue temp env => Sys2Proof.Machine.execLfRecalDue temp env s
  | .legFail channel legB => Sys2Proof.Machine.execLegFail channel legB s
  | .openCoil channel => Sys2Proof.Machine.execOpenCoil channel s
  | .outputShort channel => Sys2Proof.Machine.execOutputShort channel s
  | .driverOvertemp hot => Sys2Proof.Machine.execDriverOvertemp hot s
  | .vantFault centivolt => Sys2Proof.Machine.execVantFault centivolt s
  | .vantRetry ok centivolt => Sys2Proof.Machine.execVantRetry ok centivolt s
  | .radioCommand op start ticks power => Sys2Proof.Machine.execRadioCommand op start ticks power s
  | .lockDetect => Sys2Proof.Machine.execLockDetect s
  | .lockTimeout => Sys2Proof.Machine.execLockTimeout s
  | .lockLoss => Sys2Proof.Machine.execLockLoss s
  | .windowEnd floor => Sys2Proof.Machine.execWindowEnd floor s
  | .rkeSniff windows => Sys2Proof.Machine.execRkeSniff windows s
  | .falseDetection => Sys2Proof.Machine.execFalseDetection s
  | .sniffThresholdRestore => Sys2Proof.Machine.execSniffThresholdRestore s
  | .cal => Sys2Proof.Machine.execCal s
  | .calDue temp => Sys2Proof.Machine.execCalDue temp s
  | .calStepEnd last facts => Sys2Proof.Machine.execCalStepEnd last facts s
  | .testStart value => Sys2Proof.Machine.execTestStart value s
  | .testStop => Sys2Proof.Machine.execTestStop s
  | .exchangeStart pos => Sys2Proof.Machine.execExchangeStart pos s
  | .srepReceive pos frame rounds raw => Sys2Proof.Machine.execSrepReceive pos frame rounds raw s
  | .rangingJobEnter session => Sys2Proof.Machine.execRangingJobEnter session s
  | .rangingJobDone session dsp => Sys2Proof.Machine.execRangingJobDone session dsp s
  | .driftReset => Sys2Proof.Machine.execDriftReset s
  | .rkeConfirmTimeout slot => Sys2Proof.Machine.execRkeConfirmTimeout slot s
  | .offStateTest test => Sys2Proof.Machine.execOffStateTest test s
  | .releaseCurrentCheck milliamp => Sys2Proof.Machine.execReleaseCurrentCheck milliamp s
  | .holdPwm => Sys2Proof.Machine.execHoldPwm s
  | .overCurrentTrip low => Sys2Proof.Machine.execOverCurrentTrip low s
  | .releaseOvertemp low cool => Sys2Proof.Machine.execReleaseOvertemp low cool s
  | .grantAck port ident message => Sys2Proof.Machine.execGrantAck port ident message s
  | .grantTimeout => Sys2Proof.Machine.execGrantTimeout s
  | .status port ident message mac => Sys2Proof.Machine.execStatus port ident message mac s
  | .relockDelay => Sys2Proof.Machine.execRelockDelay s
  | .relock => Sys2Proof.Machine.execRelock s
  | .pair role pid auth => Sys2Proof.Machine.execPair role pid auth s
  | .pairTimeout => Sys2Proof.Machine.execPairTimeout s
  | .unpair role auth => Sys2Proof.Machine.execUnpair role auth s
  | .partnerList => Sys2Proof.Machine.execPartnerList s
  | .discoveryReceive port payload mac => Sys2Proof.Machine.execDiscoveryReceive port payload mac s
  | .discoveryAnnounce linkUp => Sys2Proof.Machine.execDiscoveryAnnounce linkUp s
  | .discoveryAgeOut => Sys2Proof.Machine.execDiscoveryAgeOut s
  | .encrypt master keeper desc input resvOk => Sys2Proof.Machine.execEncrypt master keeper desc input resvOk s
  | .decrypt master keeper desc input => Sys2Proof.Machine.execDecrypt master keeper desc input s
  | .macGenerate master keeper desc input => Sys2Proof.Machine.execMacGenerate master keeper desc input s
  | .macVerify master keeper desc input => Sys2Proof.Machine.execMacVerify master keeper desc input s
  | .derive master keeper desc input => Sys2Proof.Machine.execDerive master keeper desc input s
  | .wrap master keeper desc input => Sys2Proof.Machine.execWrap master keeper desc input s
  | .unwrap master keeper desc input => Sys2Proof.Machine.execUnwrap master keeper desc input s
  | .hash master keeper desc input => Sys2Proof.Machine.execHash master keeper desc input s
  | .keyPairGenerate master keeper desc input => Sys2Proof.Machine.execKeyPairGenerate master keeper desc input s
  | .sign master keeper desc input => Sys2Proof.Machine.execSign master keeper desc input s
  | .signatureVerify master keeper desc input => Sys2Proof.Machine.execSignatureVerify master keeper desc input s
  | .ecdh master keeper desc input => Sys2Proof.Machine.execEcdh master keeper desc input s
  | .random master keeper desc input => Sys2Proof.Machine.execRandom master keeper desc input s
  | .contextExport master keeper desc input resvOk => Sys2Proof.Machine.execContextExport master keeper desc input resvOk s
  | .contextImport master keeper desc input => Sys2Proof.Machine.execContextImport master keeper desc input s
  | .contextFree master keeper desc input => Sys2Proof.Machine.execContextFree master keeper desc input s
  | .cipher input env => Sys2Proof.Machine.execCipher input env s
  | .cipherResponse turns => Sys2Proof.Machine.execCipherResponse s turns
  | .pipelineFault pipe => Sys2Proof.Machine.execPipelineFault pipe s
  | .engineFault sha => Sys2Proof.Machine.execEngineFault sha s
  | .entropyBatch samples => Sys2Proof.Machine.execEntropyBatch samples s
  | .entropyRetry ok => Sys2Proof.Machine.execEntropyRetry ok s
  | .entRetry ok => Sys2Proof.Machine.execEntRetry ok s
  | .drbgReseed => Sys2Proof.Machine.execDrbgReseed s
  | .challenge => Sys2Proof.Machine.execChallenge s
  | .challengeExpiry => Sys2Proof.Machine.execChallengeExpiry s
  | .integrate hash => Sys2Proof.Machine.execIntegrate hash s
  | .field => Sys2Proof.Machine.execField s
  | .retire auth => Sys2Proof.Machine.execRetire auth s
  | .importTransport sealed auth => Sys2Proof.Machine.execImportTransport sealed auth s
  | .importAttest sealed auth => Sys2Proof.Machine.execImportAttest sealed auth s
  | .keyGenerate kind attr => Sys2Proof.Machine.execKeyGenerate kind attr s
  | .keyExport handle wrapping => Sys2Proof.Machine.execKeyExport handle wrapping s
  | .keyDestroy handle => Sys2Proof.Machine.execKeyDestroy handle s
  | .keyRotate handle => Sys2Proof.Machine.execKeyRotate handle s
  | .keyAttrRead handle => Sys2Proof.Machine.execKeyAttrRead handle s
  | .attestA challenge => Sys2Proof.Machine.execAttestA challenge s
  | .statementB handle challenge => Sys2Proof.Machine.execStatementB handle challenge s
  | .statementsRead => Sys2Proof.Machine.execStatementsRead s
  | .dikCertRead => Sys2Proof.Machine.execDikCertRead s
  | .ecdhSecretWipe => Sys2Proof.Machine.execEcdhSecretWipe s
  | .fuseBlowDone readA readB => Sys2Proof.Machine.execFuseBlowDone readA readB s
  | .t1Alarm clock => Sys2Proof.Machine.execT1Alarm clock s
  | .t2Alarm light => Sys2Proof.Machine.execT2Alarm light s
  | .keyringLockEnd => Sys2Proof.Machine.execKeyringLockEnd s
  | .t3Alarm source => Sys2Proof.Machine.execT3Alarm source s
  | .svcUnlock auth => Sys2Proof.Machine.execSvcUnlock auth s
  | .svcClose => Sys2Proof.Machine.execSvcClose s
  | .tagUpdateRetry => Sys2Proof.Machine.execTagUpdateRetry s
  | .journalDrain programOk => Sys2Proof.Machine.execJournalDrain programOk s
  | .checkpoint => Sys2Proof.Machine.execCheckpoint s
  | .jrnlAck hi => Sys2Proof.Machine.execJrnlAck hi s
  | .captureAccept => Sys2Proof.Machine.execCaptureAccept s
  | .analysisDone capture => Sys2Proof.Machine.execAnalysisDone capture s
  | .captureProgram programOk => Sys2Proof.Machine.execCaptureProgram programOk s
  | .streamAppend stream data env => Sys2Proof.Machine.execStreamAppend stream data env s
  | .streamTrim stream record => Sys2Proof.Machine.execStreamTrim stream record s
  | .capturePin capture => Sys2Proof.Machine.execCapturePin capture s
  | .captureUnpin capture => Sys2Proof.Machine.execCaptureUnpin capture s
  | .hostNote data => Sys2Proof.Machine.execHostNote data s
  | .load => Sys2Proof.Machine.execLoad s
  | .winReady => Sys2Proof.Machine.execWinReady s
  | .scrubNow => Sys2Proof.Machine.execScrubNow s
  | .scrubRefreshDue pages blocks passEnds => Sys2Proof.Machine.execScrubRefreshDue pages blocks passEnds s
  | .blockRetired die => Sys2Proof.Machine.execBlockRetired die s
  | .vaultBankFail bank retries => Sys2Proof.Machine.execVaultBankFail bank retries s
  | .dieFail die => Sys2Proof.Machine.execDieFail die s
  | .controllerFail => Sys2Proof.Machine.execControllerFail s
  | .powerFail cut millivolt micros => Sys2Proof.Machine.execPowerFail cut millivolt micros s
  | .mtReservation ok => Sys2Proof.Machine.execMtReservation ok s
  | .mtReservationRetry ok => Sys2Proof.Machine.execMtReservationRetry ok s
  | .lpcdSense detuning cards => Sys2Proof.Machine.execLpcdSense detuning cards s
  | .poll cards => Sys2Proof.Machine.execPoll cards s
  | .cardArsp frame level => Sys2Proof.Machine.execCardArsp frame level s
  | .cardTimeout protocol => Sys2Proof.Machine.execCardTimeout protocol s
  | .cardRearm => Sys2Proof.Machine.execCardRearm s
  | .fieldEntry level => Sys2Proof.Machine.execFieldEntry level s
  | .fieldLoss deselect => Sys2Proof.Machine.execFieldLoss deselect s
  | .getInfo fl args micros => Sys2Proof.Machine.execGetInfo fl args micros s
  | .read fl args micros => Sys2Proof.Machine.execRead fl args micros s
  | .write fl args micros => Sys2Proof.Machine.execWrite fl args micros s
  | .pwdAuth fl args micros => Sys2Proof.Machine.execPwdAuth fl args micros s
  | .authBegin fl args micros => Sys2Proof.Machine.execAuthBegin fl args micros s
  | .authEnd fl args micros => Sys2Proof.Machine.execAuthEnd fl args micros s
  | .logout fl args micros => Sys2Proof.Machine.execLogout fl args micros s
  | .tagSetPwd password => Sys2Proof.Machine.execTagSetPwd password s
  | .tagSetKey key => Sys2Proof.Machine.execTagSetKey key s
  | .tagRead block count => Sys2Proof.Machine.execTagRead block count s
  | .tagWrite block count data => Sys2Proof.Machine.execTagWrite block count data s
  | .tagReserve ms => Sys2Proof.Machine.execTagReserve ms s
  | .tagRelease => Sys2Proof.Machine.execTagRelease s
  | .reservationEnd => Sys2Proof.Machine.execReservationEnd s
  | .clrLocks => Sys2Proof.Machine.execClrLocks s
  | .snap => Sys2Proof.Machine.execSnap s
  | .ntSet => Sys2Proof.Machine.execNtSet s
  | .ntStep => Sys2Proof.Machine.execNtStep s
  | .hostSync => Sys2Proof.Machine.execHostSync s
  | .ntIncWrite int => Sys2Proof.Machine.execNtIncWrite int s
  | .holdExpiry => Sys2Proof.Machine.execHoldExpiry s
  | .syncTimeout => Sys2Proof.Machine.execSyncTimeout s
  | .followUp syncStamp origin correction source => Sys2Proof.Machine.execFollowUp syncStamp origin correction source s
  | .announce source vector => Sys2Proof.Machine.execAnnounce source vector s
  | .pdelayReq source sequence => Sys2Proof.Machine.execPdelayReq source sequence s
  | .pdelayResp source sequence delay => Sys2Proof.Machine.execPdelayResp source sequence delay s
  | .pdelayReqSend => Sys2Proof.Machine.execPdelayReqSend s
  | .pulseArm unit => Sys2Proof.Machine.execPulseArm unit s
  | .pulseEdge unit => Sys2Proof.Machine.execPulseEdge unit s
  | .pop port => Sys2Proof.Machine.execPop port s
  | .ovfClear port => Sys2Proof.Machine.execOvfClear port s
  | .txStampEntry port sent => Sys2Proof.Machine.execTxStampEntry port sent s
  | .oscCalibration ppm env => Sys2Proof.Machine.execOscCalibration ppm env s
  | .ptOscFail => Sys2Proof.Machine.execPtOscFail s
  | .voteRaise client island doze => Sys2Proof.Machine.execVoteRaise client island doze s
  | .voteWithdraw client island => Sys2Proof.Machine.execVoteWithdraw client island s
  | .islandRestored island ppm => Sys2Proof.Machine.execIslandRestored island ppm s
  | .restoreTimeout island => Sys2Proof.Machine.execRestoreTimeout island s
  | .islandFailed island switch => Sys2Proof.Machine.execIslandFailed island switch s
  | .standbyEntry => Sys2Proof.Machine.execStandbyEntry s
  | .stbyWaitTimeout => Sys2Proof.Machine.execStbyWaitTimeout s
  | .levelChange island level settles => Sys2Proof.Machine.execLevelChange island level settles s
  | .governorTick tj milliwatt peak => Sys2Proof.Machine.execGovernorTick tj milliwatt peak s
  | .brownout millivolt => Sys2Proof.Machine.execBrownout millivolt s
  | .overvolt millivolt => Sys2Proof.Machine.execOvervolt millivolt s
  | .supplyReturn millivolt => Sys2Proof.Machine.execSupplyReturn millivolt s
  | .crystalLoss => Sys2Proof.Machine.execCrystalLoss s
  | .crystalRetry pass => Sys2Proof.Machine.execCrystalRetry pass s
  | .xtalRetry pass => Sys2Proof.Machine.execXtalRetry pass s
  | .updBegin chunk0 env => Sys2Proof.Machine.execUpdBegin chunk0 env s
  | .updChunk index data env => Sys2Proof.Machine.execUpdChunk index data env s
  | .verifyDone env => Sys2Proof.Machine.execVerifyDone env s
  | .updActivate reset => Sys2Proof.Machine.execUpdActivate reset s
  | .quiescentPoint => Sys2Proof.Machine.execQuiescentPoint s
  | .actWaitTimeout => Sys2Proof.Machine.execActWaitTimeout s
  | .satelliteReload => Sys2Proof.Machine.execSatelliteReload s
  | .reloadDone ok => Sys2Proof.Machine.execReloadDone ok s
  | .updConfirm env => Sys2Proof.Machine.execUpdConfirm env s
  | .updRevert => Sys2Proof.Machine.execUpdRevert s
  | .updAbort => Sys2Proof.Machine.execUpdAbort s
  | .spiNop op tag addr len crc => Sys2Proof.Machine.execSpiNop op tag addr len crc s
  | .spiRead tag addr len crc => Sys2Proof.Machine.execSpiRead tag addr len crc s
  | .spiWrite tag addr len data crc env => Sys2Proof.Machine.execSpiWrite tag addr len data crc env s
  | .spiResult tag addr len crc => Sys2Proof.Machine.execSpiResult tag addr len crc s
  | .registerWrite addr value => Sys2Proof.Machine.execRegisterWrite addr value s
  | .hifMbRing value => Sys2Proof.Machine.execHifMbRing value s
  | .outAck => Sys2Proof.Machine.execOutAck s
  | .mbAbort => Sys2Proof.Machine.execMbAbort s
  | .mailboxSegment transport payload source => Sys2Proof.Machine.execMailboxSegment transport payload source s
  | .mbExecute env => Sys2Proof.Machine.execMbExecute env s
  | .responseDrop => Sys2Proof.Machine.execResponseDrop s
  | .regRead addr count => Sys2Proof.Machine.execRegRead addr count s
  | .regWrite addr values env => Sys2Proof.Machine.execRegWrite addr values env s
  | .reset input => Sys2Proof.Machine.execReset input s
  | .echo data => Sys2Proof.Machine.execEcho data s
  | .sysReset value => Sys2Proof.Machine.execSysReset value s
  | .frameSend input => Sys2Proof.Machine.execFrameSend input s
  | .frameRecv max => Sys2Proof.Machine.execFrameRecv max s
  | .busFrameReceive record => Sys2Proof.Machine.execBusFrameReceive record s
  | .busOff ctrl => Sys2Proof.Machine.execBusOff ctrl s
  | .canRecover ctrl => Sys2Proof.Machine.execCanRecover ctrl s
  | .beaconLost => Sys2Proof.Machine.execBeaconLost s
  | .busWake port => Sys2Proof.Machine.execBusWake port s
  | .spiCsWake => Sys2Proof.Machine.execSpiCsWake s
  | .tagAnticollision fl => Sys2Proof.Machine.execTagAnticollision fl s
  | .beaconReceive => Sys2Proof.Machine.execBeaconReceive s
  | .busOffRecovery ctrl => Sys2Proof.Machine.execBusOffRecovery ctrl s
  | .statusStale role => Sys2Proof.Machine.execStatusStale role s
  | .wakeInputInactive input => Sys2Proof.Machine.execWakeInputInactive input s
  | .responseDelivered => Sys2Proof.Machine.execResponseDelivered s

end Sys2Proof.Machine
end

