-- ==== Sys2Proof/WellFormed.lean ====
section
/-! DEFINITION. What an outside agent can physically command: the bounds that the operand types of Syntax.lean leave open. The machine
runs every command; these bounds say which of them a sender of R431 can send. -/
namespace Sys2Proof

/-- Whether the bytes, with `before` bytes of input ahead of them, fit a mailbox message (R440). -/
def fitsMessage (b : Bytes) (before : Nat) : Bool := decide (before + b.length ≤ 66560)

/-- Whether a command can be sent: a NOP row carries OP 0x0 or a reserved OP (Table 16-3), a frame or a register write has at most 1024
words (Table 16-2), a message at most 66,560 bytes of input (R440), a bus segment at most 1500 bytes and never SPI (R441), a frame
record its 28 bytes ahead of the data (Table 16-9), a packet 1 to 32 data words (R16). -/
def wellFormed (i : Instr) : Bool :=
  match i with
  | .powerOn => true
  | .rstNReset _ => true
  | .puppeteerRestart => true
  | .selfRestart => true
  | .servicePortReset => true
  | .reference _ => true
  | .fusesAndMemory _ _ _ => true
  | .firmware _ _ _ => true
  | .keys _ => true
  | .configuration _ => true
  | .microcode _ _ _ _ => true
  | .immobiliserPath _ => true
  | .completion _ => true
  | .imgChecked _ => true
  | .standbyPairReady _ => true
  | .enableWrite _ => true
  | .disableWrite _ => true
  | .consistencyCheck _ => true
  | .cfgWriteOpen _ => true
  | .cfgWriteChunk _ data _ => fitsMessage data 4
  | .settingRead _ => true
  | .settingWrite _ _ => true
  | .packetReceive sends _ _ => sends.all (fun x => decide (1 ≤ x.data.length) && decide (x.data.length ≤ 32))
  | .heartbeatTimeout => true
  | .pairFault _ => true
  | .puppeteerOutvote _ _ => true
  | .commitPoint => true
  | .handoverRecord => true
  | .pairTestDone _ => true
  | .tileFree _ => true
  | .backgroundSliceEnd _ _ => true
  | .tileFault _ => true
  | .shmemDoubleBitError _ => true
  | .wakeEdge _ => true
  | .chatterUnmask _ => true
  | .lfAirGrant _ => true
  | .candlePoll _ => true
  | .ansReceive _ _ _ => true
  | .roundClose _ _ => true
  | .cryReceive _ _ _ => true
  | .lockExpiry _ => true
  | .failureAgeOut _ => true
  | .lmeas _ => true
  | .rptReceive _ _ => true
  | .lfReturnReceive _ _ => true
  | .rkeFrame _ _ => true
  | .learnOpen _ _ => true
  | .learnToken _ _ => true
  | .keyackReceive _ _ _ => true
  | .keyackTimeout => true
  | .learnCommit _ => true
  | .learnAbandon => true
  | .learnTimeout => true
  | .slotSuspend _ => true
  | .slotResume _ => true
  | .lfRequest => true
  | .lftExchange => true
  | .lftUplinkReceive _ => true
  | .lftRetry => true
  | .standReset => true
  | .recal _ _ => true
  | .lfRecalDue _ _ => true
  | .legFail _ _ => true
  | .openCoil _ => true
  | .outputShort _ => true
  | .driverOvertemp _ => true
  | .vantFault _ => true
  | .vantRetry _ _ => true
  | .radioCommand _ _ _ _ => true
  | .lockDetect => true
  | .lockTimeout => true
  | .lockLoss => true
  | .windowEnd _ => true
  | .rkeSniff _ => true
  | .falseDetection => true
  | .sniffThresholdRestore => true
  | .cal => true
  | .calDue _ => true
  | .calStepEnd _ _ => true
  | .testStart _ => true
  | .testStop => true
  | .exchangeStart _ => true
  | .srepReceive _ _ _ _ => true
  | .rangingJobEnter _ => true
  | .rangingJobDone _ _ => true
  | .driftReset => true
  | .rkeConfirmTimeout _ => true
  | .offStateTest _ => true
  | .releaseCurrentCheck _ => true
  | .holdPwm => true
  | .overCurrentTrip _ => true
  | .releaseOvertemp _ _ => true
  | .grantAck _ _ _ => true
  | .grantTimeout => true
  | .status _ _ _ _ => true
  | .relockDelay => true
  | .relock => true
  | .pair _ _ _ => true
  | .pairTimeout => true
  | .unpair _ _ => true
  | .partnerList => true
  | .discoveryReceive _ _ _ => true
  | .discoveryAnnounce _ => true
  | .discoveryAgeOut => true
  | .encrypt _ _ _ _ _ => true
  | .decrypt _ _ _ _ => true
  | .macGenerate _ _ _ _ => true
  | .macVerify _ _ _ _ => true
  | .derive _ _ _ _ => true
  | .wrap _ _ _ _ => true
  | .unwrap _ _ _ _ => true
  | .hash _ _ _ _ => true
  | .keyPairGenerate _ _ _ _ => true
  | .sign _ _ _ _ => true
  | .signatureVerify _ _ _ _ => true
  | .ecdh _ _ _ _ => true
  | .random _ _ _ _ => true
  | .contextExport _ _ _ _ _ => true
  | .contextImport _ _ _ _ => true
  | .contextFree _ _ _ _ => true
  | .cipher input _ => fitsMessage input 0
  | .cipherResponse _ => true
  | .pipelineFault _ => true
  | .engineFault _ => true
  | .entropyBatch samples => samples.length == 0 || samples.length == 1024
  | .entropyRetry _ => true
  | .entRetry _ => true
  | .drbgReseed => true
  | .challenge => true
  | .challengeExpiry => true
  | .integrate _ => true
  | .field => true
  | .retire _ => true
  | .importTransport _ _ => true
  | .importAttest _ _ => true
  | .keyGenerate _ _ => true
  | .keyExport _ _ => true
  | .keyDestroy _ => true
  | .keyRotate _ => true
  | .keyAttrRead _ => true
  | .attestA _ => true
  | .statementB _ _ => true
  | .statementsRead => true
  | .dikCertRead => true
  | .ecdhSecretWipe => true
  | .fuseBlowDone _ _ => true
  | .t1Alarm _ => true
  | .t2Alarm _ => true
  | .keyringLockEnd => true
  | .t3Alarm _ => true
  | .svcUnlock _ => true
  | .svcClose => true
  | .tagUpdateRetry => true
  | .journalDrain _ => true
  | .checkpoint => true
  | .jrnlAck _ => true
  | .captureAccept => true
  | .analysisDone _ => true
  | .captureProgram _ => true
  | .streamAppend _ data _ => fitsMessage data 1
  | .streamTrim _ _ => true
  | .capturePin _ => true
  | .captureUnpin _ => true
  | .hostNote data => fitsMessage data 0
  | .load => true
  | .winReady => true
  | .scrubNow => true
  | .scrubRefreshDue _ _ _ => true
  | .blockRetired _ => true
  | .vaultBankFail _ _ => true
  | .dieFail _ => true
  | .controllerFail => true
  | .powerFail _ _ _ => true
  | .mtReservation _ => true
  | .mtReservationRetry _ => true
  | .lpcdSense _ _ => true
  | .poll _ => true
  | .cardArsp _ _ => true
  | .cardTimeout _ => true
  | .cardRearm => true
  | .fieldEntry _ => true
  | .fieldLoss _ => true
  | .getInfo _ _ _ => true
  | .read _ _ _ => true
  | .write _ _ _ => true
  | .pwdAuth _ _ _ => true
  | .authBegin _ _ _ => true
  | .authEnd _ _ _ => true
  | .logout _ _ _ => true
  | .tagSetPwd _ => true
  | .tagSetKey _ => true
  | .tagRead _ _ => true
  | .tagWrite _ _ data => fitsMessage data 3
  | .tagReserve _ => true
  | .tagRelease => true
  | .reservationEnd => true
  | .clrLocks => true
  | .snap => true
  | .ntSet => true
  | .ntStep => true
  | .hostSync => true
  | .ntIncWrite _ => true
  | .holdExpiry => true
  | .syncTimeout => true
  | .followUp _ _ _ _ => true
  | .announce _ _ => true
  | .pdelayReq _ _ => true
  | .pdelayResp _ _ _ => true
  | .pdelayReqSend => true
  | .pulseArm _ => true
  | .pulseEdge _ => true
  | .pop _ => true
  | .ovfClear _ => true
  | .txStampEntry _ _ => true
  | .oscCalibration _ _ => true
  | .ptOscFail => true
  | .voteRaise _ _ _ => true
  | .voteWithdraw _ _ => true
  | .islandRestored _ _ => true
  | .restoreTimeout _ => true
  | .islandFailed _ _ => true
  | .standbyEntry => true
  | .stbyWaitTimeout => true
  | .levelChange _ _ _ => true
  | .governorTick _ _ _ => true
  | .brownout _ => true
  | .overvolt _ => true
  | .supplyReturn _ => true
  | .crystalLoss => true
  | .crystalRetry _ => true
  | .xtalRetry _ => true
  | .updBegin chunk0 _ => fitsMessage chunk0 0
  | .updChunk _ data _ => fitsMessage data 4
  | .verifyDone _ => true
  | .updActivate _ => true
  | .quiescentPoint => true
  | .actWaitTimeout => true
  | .satelliteReload => true
  | .reloadDone _ => true
  | .updConfirm _ => true
  | .updRevert => true
  | .updAbort => true
  | .spiNop op _ _ _ _ => op.toNat == 0 || decide (4 ≤ op.toNat)
  | .spiRead _ _ _ _ => true
  | .spiWrite _ _ _ data _ _ => decide (data.length ≤ 1024)
  | .spiResult _ _ _ _ => true
  | .registerWrite _ _ => true
  | .hifMbRing _ => true
  | .outAck => true
  | .mbAbort => true
  | .mailboxSegment transport payload _ => transport != .spi && decide (payload.length ≤ 1500)
  | .mbExecute _ => true
  | .responseDrop => true
  | .regRead _ _ => true
  | .regWrite _ values _ => decide (values.length ≤ 1024)
  | .reset _ => true
  | .echo data => fitsMessage data 0
  | .sysReset _ => true
  | .frameSend input => fitsMessage input 0
  | .frameRecv _ => true
  | .busFrameReceive record => decide (28 ≤ record.length)
  | .busOff _ => true
  | .canRecover _ => true
  | .beaconLost => true
  | .busWake _ => true
  | .spiCsWake => true
  | .tagAnticollision _ => true
  | .beaconReceive => true
  | .busOffRecovery _ => true
  | .statusStale _ => true
  | .wakeInputInactive _ => true
  | .responseDelivered => true

end Sys2Proof
end

