-- ==== Sys2Proof/Safety.lean ====
section
/-! DEFINITION. What the statements mean by a sound state and by what may never be undone: the canonical form of the sparse memories, the
one-way fuses, the completion of a command, and the register writes that a phase admits. -/
namespace Sys2Proof.Machine

open Sys2Proof

/-- The sparse memories of a state stand in their canonical form: registers by offset, the NOR, the tag memory, the islands' SRAM. -/
def State.canonical (s : State) : Bool :=
  sparseWf regReset none s.regs && memoryWf norDefault s.nor.cells && memoryWf tagDefault s.tag.mem && sparseWf sramDefault none s.net.sram

/-- A fuse whose blown elements all stay blown (R265, R266). -/
def Fuse.kept (f g : Fuse) : Bool := (!f.a || g.a) && (!f.b || g.b)

/-- Two banks of fuses in their order: nothing blown in the first is intact in the second. -/
def fusesKept : List Fuse → List Fuse → Bool
  | [], [] => true
  | f :: fs, g :: gs => f.kept g && fusesKept fs gs
  | _, _ => false

/-- The fuse bank only gains blown fuses: lifecycle, epoch and the RETIRE fuses of the pairs (Table 10-1). -/
def Fuses.kept (f g : Fuses) : Bool :=
  fusesKept f.lc g.lc && fusesKept f.epoch g.epoch && (!f.retireA || g.retireA) && (!f.retireB || g.retireB)
    && (f.rootPresent == g.rootPresent) && (f.eng == g.eng)

/-- A command completes in a state: `exec` answers a next state, and what `p` says holds of it. -/
def completes (c : Instr) (s : State) (p : State → Prop) : Prop := ∃ t, exec c s = .next t ∧ p t

/-- Every register outside a list of offsets reads as before. -/
def keepsRegs (s t : State) (l : List Nat) : Prop := ∀ off, off ∉ l → t.reg off = s.reg off

/-- Every field outside a list of fields reads as before; a field of the list changes no other field of its register. -/
def keepsFields (s t : State) (l : List Field) : Prop :=
  ∀ f : Field, f.hi < 32 → (∀ g ∈ l, f.off ≠ g.off ∨ f.hi < g.lo ∨ g.hi < f.lo) → t.get f = s.get f

/-- The mailbox command of an opcode and its input as its row sends it: over SPI with TAG 0 (R440). -/
def mbCommand (opcode : Nat) (input : Bytes) : MbCmd := ⟨.spi, mkMessage opcode 0 input, 0⟩

/-- The state in which a mailbox command runs: it is the executing command, and work has run (R442). -/
def State.begun (s : State) (opcode : Nat) (input : Bytes) : State :=
  ({ s with hif := { s.hif with executing := some (mbCommand opcode input) }
            pwr := { s.pwr with idleSince := s.mt } }).putFlag F.HIF_STAT_MB_EXEC true

/-- A mailbox command can run at once: no command executes or waits, no BROWNOUT and no fuse blow holds requests, its message fits, and
the checks of R442 and R446 pass. -/
abbrev State.mbReady (s : State) (opcode : Nat) (input : Bytes) : Prop :=
  s.hif.executing = none ∧ s.hif.queue = [] ∧ s.flag F.PWR_STAT_BROWNOUT = false ∧ s.keys.blow = none
    ∧ input.length ≤ 66560 ∧ (s.begun opcode input).mbGate opcode input.length = 0

/-- Nothing is under way on the network, no promotion holds traffic, and a packet goes to the next node of the ring that its source picks. -/
abbrev State.oneHop (s : State) (x : Send) (ring : Fin 2) : Prop :=
  s.net.waiting = [] ∧ s.net.promoteWait = false ∧ ring.val = s.ringFor x.src.val (s.destOf (s.portPacket x))
    ∧ nextNode ring.val x.src.val = s.destOf (s.portPacket x)

/-- The port of a packet's destination takes it at once: the pilot island, or one that is not in NAP or DOZE. -/
abbrev State.portOpen (s : State) (x : Send) : Prop := s.destOf (s.portPacket x) = 0 ∨ 2 ≤ s.island (s.destOf (s.portPacket x))

/-- A cipher request that is not refused: its port and world are permitted, every check of Table 9-5 passes, its engine's queue has room. -/
abbrev State.symAdmits (s : State) (master : Nat) (keeper : Bool) (d : Bytes) (mailbox : Bool) : Prop :=
  s.portRefusal master keeper = 0 ∧ s.symCheck d master keeper mailbox = 0 ∧ s.queueFull (dOp d) (s.placeOp d) = false

/-- A request as it waits in the queue of its engine. -/
def State.symWaiting (s : State) (master : Nat) (keeper : Bool) (d input : Bytes) (mailbox resvOk : Bool) : SymReq :=
  { desc := d, input := input, master := master, keeper := keeper, cls := s.reqClass d master keeper, arrival := s.sym.arrival
    engine := s.placeOp d, nonce := [], slot := 0xFF, mailbox := mailbox, left := segmentsOf d + copiesOf d, begun := false, key := []
    written := 0, resvOk := resvOk }

/-- The state after a request has joined the queue of its engine. -/
def State.symJoined (s : State) (master : Nat) (keeper : Bool) (d input : Bytes) (mailbox resvOk : Bool) : State :=
  { s with sym := { s.sym with
    queue := s.sym.queue ++ [s.symWaiting master keeper d input mailbox resvOk]
    arrival := s.sym.arrival + 1 } }

/-- A register address of the map whose write the phase admits, beyond its enable bit. -/
def State.writeAdmitted (s : State) (addr : Nat) : Bool :=
  rangeCheck addr 1 == 0 && decide (addr < 0xF000) && s.accessOk true (.block (addr / 0x1000)) [addr] && !s.enableOnly addr

/-- A register without behaviour of its own: a write of it is that of its fields (R6). The others are the CTL registers, the channel and
chain controls, RF_TEST, the PULSE units, the increment and the seconds of NT, and the high words of STO_JRNL_ACK and STO_WIN. -/
def fieldsOnly (addr : Nat) : Bool :=
  addr % 0x1000 != 0 && !(0x3040 ≤ addr && addr < 0x30C0 && addr % 16 == 0) && !(0x4048 ≤ addr && addr < 0x4088 && addr % 16 == 8)
    && !(0x2080 ≤ addr && addr < 0x20C0)
    && !([R.RF_TEST, R.TIM_NT_INC_INT, R.TIM_NT_INC_FRAC, R.TIM_NT_SET_S_HI, R.STO_JRNL_ACK_HI, R.STO_WIN_CTL].contains addr)

end Sys2Proof.Machine
end

