-- ==== Sys2Proof/Certificates/Slice0/Obligations.lean ====
section
/-! DEFINITION. What is claimed of the machine: one proposition per obligation, in the order of OBLIGATIONS.json. A statement quantifies over every
state, reachable or not; what a clause needs of the state stands in its hypotheses, and Sys2Proof/Tests/Slice0.lean shows for each clause a state that
meets them. -/

open Sys2Proof Sys2Proof.Machine

/-- The command at the front of the queue is what a step runs, with the queue's rest; on an empty queue 1 us passes (the model's choice, log entry 2).
Every command completes from every state: `exec` answers a next state, never a fault or a refusal, since a command that does not apply has no effect
or is answered with its reason. -/
def Obligations.StepRunsTheFrontCommandAndCompletes : Prop :=
  (∀ (c : Instr) (rest : List Instr) (s : State), step { s with pending := c :: rest } = exec c { s with pending := rest })
  ∧ (∀ s : State, s.pending = [] → step s = .next (idle s))
  ∧ (∀ (c : Instr) (s : State), ∃ t, exec c s = .next t)

/-- No command touches the commands that wait behind it. -/
def Obligations.CommandsLeaveTheQueue : Prop :=
  ∀ (c : Instr) (s t : State), exec c s = .next t → t.pending = s.pending

/-- R265, R266, Table 10-1: what a step blows it never undoes: lifecycle, epoch and RETIRE fuses stay blown, and ROOT and ENG stay as the part was made. -/
def Obligations.FusesAreNeverUndone : Prop :=
  ∀ s t : State, step s = .next t → s.fuses.kept t.fuses = true

/-- Every step keeps the canonical form of the sparse memories: the registers, the NOR, the tag memory and the SRAM of the islands. -/
def Obligations.StepsKeepTheMemoriesCanonical : Prop :=
  ∀ s t : State, s.canonical = true → step s = .next t → t.canonical = true

/-- R7, R13: after reset every register reads the reset value of its row; the part is PROVISIONED with the factory firmware in slot A, its vault holds no
key of a vehicle and its slots are empty; its memories are canonical. -/
def Obligations.ResetIsAShippedPart : Prop :=
  (∀ (off : Nat) (r : RegRow), regRow? off = some r → State.reset.reg off = r.reset % 2 ^ 32)
  ∧ State.reset.lifecycle = 1 ∧ State.reset.pending = [] ∧ State.reset.canonical = true
  ∧ State.reset.update.slots = [⟨.running, Config.factorySv, [], Config.factoryFirmware⟩, ⟨.empty, 0, [], []⟩]
  ∧ State.reset.vault.slots = List.replicate 64 Slot.empty ∧ State.reset.ring = [] ∧ State.reset.fuses.eng = false
  ∧ State.reset.fuses.epoch.length = 15 ∧ State.reset.vault.certStored = true

/-- R16 to R24: a source on a quiet network sends one packet to its neighbour on the ring that R16 picks, and one router forwards it. A request that R24
refuses is answered with its reason and has no other effect; a write and a read of SRAM have theirs and are acknowledged; a packet that arrives with
an error is sent again once, on the other ring; one for an island in NAP or DOZE waits at its port while the island restores. A failed island refuses
every request. Nothing but the network's working state changes, the SRAM apart. -/
def Obligations.PacketJudgedAtDestination : Prop :=
  (∀ (s : State) (x : Send) (ring : Fin 2) (c : Nat), s.oneHop x ring → s.portOpen x → pktGood (s.portPacket x) = true →
      (x.op = 0 ∨ x.op = 1) → s.packetRefusal (s.portPacket x) = c → c ≠ 0 →
      completes (.packetReceive [x] [] [⟨ring, x.src, []⟩]) s (fun t => t.net.lastError = c
        ∧ t.net.waiting.map (fun w => w.packet) = [mkPacket x.src.val (s.destOf (s.portPacket x)) (pktField (s.portPacket x) 55 52)
            (decide (pktField (s.portPacket x) 51 51 = 1)) x.tc.val 0xF x.tag.toNat x.offset.toNat [BitVec.ofNat 64 c] .plain]
        ∧ t = { s with net := { s.net with waiting := t.net.waiting, runs := t.net.runs, openTx := t.net.openTx, lastError := c } }))
  ∧ (∀ (s : State) (x : Send) (ring : Fin 2), s.oneHop x ring → s.portOpen x → pktGood (s.portPacket x) = true →
      s.packetRefusal (s.portPacket x) = 0 → x.op = 1 → s.destOf (s.portPacket x) ≠ 14 →
      s.inSram (s.destOf (s.portPacket x)) (x.offset.toNat / 8) (s.portPacket x).data.length = true →
      completes (.packetReceive [x] [] [⟨ring, x.src, []⟩]) s (fun t =>
        t.net.sram = sparsePutAll sramDefault s.net.sram (sramKey (s.destOf (s.portPacket x)) (x.offset.toNat / 8)) (s.portPacket x).data
        ∧ t.net.waiting.map (fun w => w.packet) = [mkPacket x.src.val (s.destOf (s.portPacket x)) (pktField (s.portPacket x) 55 52)
            (decide (pktField (s.portPacket x) 51 51 = 1)) x.tc.val 3 x.tag.toNat x.offset.toNat [0] .plain]
        ∧ t = { s with net := { s.net with waiting := t.net.waiting, runs := t.net.runs, openTx := t.net.openTx, accepted := t.net.accepted
                                           sram := t.net.sram, lastError := 0 } }))
  ∧ (∀ (s : State) (x : Send) (ring : Fin 2), s.oneHop x ring → s.portOpen x → pktGood (s.portPacket x) = true →
      s.packetRefusal (s.portPacket x) = 0 → x.op = 0 →
      s.inSram (s.destOf (s.portPacket x)) (x.offset.toNat / 8) (s.portPacket x).data.length = true →
      completes (.packetReceive [x] [] [⟨ring, x.src, []⟩]) s (fun t =>
        t.net.waiting.map (fun w => w.packet) = [mkPacket x.src.val (s.destOf (s.portPacket x)) (pktField (s.portPacket x) 55 52)
            (decide (pktField (s.portPacket x) 51 51 = 1)) x.tc.val 2 x.tag.toNat x.offset.toNat
            (s.sramRead (s.destOf (s.portPacket x)) (x.offset.toNat / 8) (s.portPacket x).data.length) .plain]
        ∧ t = { s with net := { s.net with waiting := t.net.waiting, runs := t.net.runs, openTx := t.net.openTx, accepted := t.net.accepted
                                           lastError := 0 } }))
  ∧ (∀ (s : State) (x : Send) (ring : Fin 2) (noise : List (BitVec 64)), s.oneHop x ring →
      pktGood (noisyPacket (s.portPacket x) noise) = false → s.ringFailed (1 - ring.val) (s.destOf (s.portPacket x)) = false →
      completes (.packetReceive [x] [] [⟨ring, x.src, noise⟩]) s (fun t =>
        t.net.waiting = [⟨s.portPacket x, s.portPacket x, x.src.val, s.destOf (s.portPacket x), 1 - ring.val, x.src.val, ring.val, true⟩]
        ∧ t = { s with net := { s.net with waiting := t.net.waiting, runs := t.net.runs, openTx := t.net.openTx } }))
  ∧ (∀ (s : State) (x : Send) (ring : Fin 2), s.oneHop x ring → pktGood (s.portPacket x) = true → s.destOf (s.portPacket x) ≠ 0 →
      s.island (s.destOf (s.portPacket x)) < 2 →
      completes (.packetReceive [x] [] [⟨ring, x.src, []⟩]) s (fun t =>
        t.net.ports = s.net.ports ++ [(s.destOf (s.portPacket x), s.portPacket x)] ∧ t.net.accepted = s.net.accepted
        ∧ (s.pwr.restoring = [] → s.pwr.dropping = [] → 3 ≤ s.destOf (s.portPacket x) →
            t.pwr.restoring = [(s.destOf (s.portPacket x), s.mt)])))
  ∧ (∀ (s : State) (p : Packet), s.islandFailed (s.destOf p) = true → s.packetRefusal p = 0x0123)

/-- R27: a commit point puts its handover record into staging, and a current standby pair has applied the one before it; the standby pair applies the
oldest record once it is current, and only then. The release's command number goes with the record (R28). R29, Table 14-9: a disagreeing puppeteer
controller is reset and reloaded, or held out with its redundancy group 8 reduced; PWR_EVT and PWR_REASON say so, and the journal takes an entry. -/
def Obligations.CommitPointsAndPuppeteers : Prop :=
  (∀ s : State, exec .commitPoint s = .next { s with net := { s.net with
      commitNo := s.net.commitNo + 1, records := [s.net.commitNo + 1], lastCommit := s.mt, cmdAt := s.rel.cmdNo
      appliedNo := if s.flag F.PWR_PAIR_STANDBY_READY then s.net.commitNo else s.net.appliedNo
      cmdApplied := if s.flag F.PWR_PAIR_STANDBY_READY then s.net.cmdAt else s.net.cmdApplied } })
  ∧ (∀ (s : State) (n : Nat) (rest : List Nat), s.get F.PWR_PAIR_STANDBY_READY = 1 → s.net.records = n :: rest →
      exec .handoverRecord s = .next { s with net := { s.net with records := rest, appliedNo := n, cmdApplied := s.net.cmdAt } })
  ∧ (∀ s : State, s.get F.PWR_PAIR_STANDBY_READY = 0 → exec .handoverRecord s = .next s)
  ∧ (∀ (s : State) (c : Fin 3),
    exec (.puppeteerOutvote c true) s = .next
      (((({ s with net := { s.net with reloads := s.net.reloads + 1 } }).event F.PWR_EVT_PUPPET).reason .pwr 0x030F).journal
        0x0301 0x030F .pwr 0 (toLE 1 c.val))
    ∧ (s.net.heldOut.contains c.val = false →
      exec (.puppeteerOutvote c false) s = .next
        ((((({ s with net := { s.net with heldOut := s.net.heldOut ++ [c.val] } }).event F.PWR_EVT_PUPPET).reason .pwr 0x030F).redLoss 8).journal
          0x0301 0x030F .pwr 0 (toLE 1 c.val))))

/-- R33, R34, R215: a free tile gives the waiting job that no other goes before to the lowest-numbered free tile whose island runs; a background slice
that ends frees its tile, a finished calibration moves the drift offsets (R200), and unfinished work waits again ahead of the rest. Nothing but tiles,
jobs, background work and the SRAM of a tile that changes its world changes. R32, R33, R199, R206: a session whose air time is over joins the jobs for
a tile; without a tile the active pair places it at once; a job that ends frees its tile. A failed tile gives its job back and counts as lost
redundancy. -/
def Obligations.JobsRunOnTiles : Prop :=
  (∀ (l : List TileJob) (j : TileJob), nextJob l = some j → j ∈ l ∧ ∀ x ∈ l, jobBefore x j = false)
  ∧ (∀ (s : State) (tile : Fin 4) (k : Nat) (j : TileJob), s.net.tiles.length = 4 → (s.tile tile.val).failed = false →
      (s.tile tile.val).job = none → (s.tile tile.val).slice = none → s.freeTile = some k → nextJob s.net.jobs = some j →
      completes (.tileFree tile) s (fun t => (t.tile k).job = some j ∧ (t.tile k).world = some j.world ∧ s.island (3 + k) = 2
        ∧ t = { s with net := { s.net with tiles := t.net.tiles, jobs := t.net.jobs, background := t.net.background, sram := t.net.sram } }))
  ∧ (∀ (s : State) (tile : Fin 4) (b : BackKind), s.net.tiles.length = 4 → (s.tile tile.val).slice = some b → s.net.jobs = [] →
      1 ≤ s.get F.PWR_STAT_GOV_STEP →
      exec (.backgroundSliceEnd tile true) s = .next
        ((match b with
          | .calibration r => (s.setTile tile.val { s.tile tile.val with slice := none }).offsetSample r
          | .analysis _ => s.setTile tile.val { s.tile tile.val with slice := none }).settle (3 + tile.val))
      ∧ exec (.backgroundSliceEnd tile false) s = .next (({ s with net := { s.net with
          tiles := s.net.tiles.set tile.val { s.tile tile.val with slice := none }, background := b :: s.net.background } }).settle (3 + tile.val)))
  ∧ (∀ (s : State) (tile : Fin 4) (c : Nat) (k : Nat) (j : TileJob), s.net.tiles.length = 4 →
      (s.tile tile.val).slice = some (.analysis c) → (s.setTile tile.val { s.tile tile.val with slice := none }).freeTile = some k →
      nextJob s.net.jobs = some j → s.votes (3 + tile.val) ≠ 0 → s.runVotes (3 + tile.val) ≠ 0 →
      completes (.backgroundSliceEnd tile true) s (fun t => (t.tile k).job = some j
        ∧ t = { s with net := { s.net with tiles := t.net.tiles, jobs := t.net.jobs, background := t.net.background, sram := t.net.sram } }))
  ∧ (∀ (s : State) (n : Word) (x : Sess), s.lf.hold = none → s.sess? n.toNat = some x → x.stage = .air → s.noTile = false → s.freeTile = none →
      exec (.rangingJobEnter n) s = .next (let u := s.updSess n.toNat (fun y => { y with stage := .job })
        State.wakeTiles { u with net := { s.net with jobs := s.net.jobs ++ [⟨n.toNat, x.prio, s.net.arrival, .keeper⟩], arrival := s.net.arrival + 1 } }))
  ∧ (∀ (s : State) (n : Word) (x : Sess), s.lf.hold = none → s.sess? n.toNat = some x → x.stage = .air → s.noTile = true →
      exec (.rangingJobEnter n) s = .next (s.endMode4 x))
  ∧ (∀ (s : State) (n : Word), s.lf.hold = none → s.sess? n.toNat = none → exec (.rangingJobEnter n) s = .next s)
  ∧ (∀ (s : State) (n : Word) (d : Dsp) (x : Sess) (k : Nat), s.tileOf n.toNat = some k → s.sess? n.toNat = some x → x.srep = none → x.reason = 0 →
      x.ranges = true →
      exec (.rangingJobDone n d) s = .next (let s1 := s.setTile k { s.tile k with job := none }
        (placeBackground (placeJobs 4 (s1.endSession x
          (({ s1 with sys := { s1.sys with settingsUse := some x.settings } }).computeLf x 0x0703)))).settle (3 + k)))
  ∧ (∀ (s : State) (n : Word) (d : Dsp), s.tileOf n.toNat = none → exec (.rangingJobDone n d) s = .next s)
  ∧ (∀ (s : State) (k : Fin 4) (j : Nat), s.net.tiles.length = 4 → (s.tile k.val).failed = false → j < 4 → j ≠ k.val →
      (s.tile j).failed = false → s.islandFailed (3 + j) = false →
      completes (.tileFault k) s (fun t => (t.tile k.val).failed = true ∧ t.get F.RNG_EVT_TILE_FAIL = 1
        ∧ Nat.testBit (t.reg R.PWR_RED_STAT) 1 = true ∧ t = { s with regs := t.regs, net := t.net }))
  ∧ (∀ (s : State) (k : Fin 4), (s.tile k.val).failed = true → exec (.tileFault k) s = .next s)

/-- R66, R7, Table 3-1: each reset source restarts the block: registers and working state return to reset, and the vault, the fuses, the NAND, the NOR,
the tag, the update state and the waiting commands stay. RST_N pulses of 10 us reset and those below 2 us do not; what one between them does is a free
value (R468, log entry 7). A reset that the service port asks for during a fuse blow waits for its end (R266). -/
def Obligations.ResetSourcesRestartTheBlock : Prop :=
  (∀ s : State, s.pilot.vbatUp = false → exec .powerOn s = .next (s.restart 1))
  ∧ (∀ s : State, s.pilot.vbatUp = true → exec .powerOn s = .next s)
  ∧ (∀ (s : State) (n : Nat), s.pilot.vbatUp = true → 10 ≤ n → exec (.rstNReset n) s = .next (s.restart 2))
  ∧ (∀ (s : State) (n : Nat), n < 2 → exec (.rstNReset n) s = .next s)
  ∧ (∀ (s : State) (m : Nat), s.pilot.vbatUp = true → s.net.restartAt = some m → m ≤ s.mt → exec .puppeteerRestart s = .next (s.restart 4))
  ∧ (∀ s : State, s.net.restartAt = none → exec .puppeteerRestart s = .next s)
  ∧ (∀ s : State, s.pilot.vbatUp = true → s.recovery = true → s.sys.cause = some .alarm →
      327680 ≤ (s.pilot.pt - BitVec.ofNat 32 s.sys.recPt).toNat → s.pilot.selfRestarts < 3 →
      exec .selfRestart s = .next (({ s with pilot := { s.pilot with selfRestarts := s.pilot.selfRestarts + 1 } }).restart 5))
  ∧ (∀ s : State, 3 ≤ s.pilot.selfRestarts → exec .selfRestart s = .next s)
  ∧ (∀ s : State, s.pilot.vbatUp = true → s.keys.blow = none → exec .servicePortReset s = .next (s.restart 7))
  ∧ (∀ s : State, s.pilot.vbatUp = true → s.keys.blow.isSome = true → exec .servicePortReset s = .next (s.awaitBlow (.reset 7)))
  ∧ (∀ (s : State) (n : Nat), 1 ≤ n → n < 8 → (s.restart n).get F.SYS_STAT_RESET_CAUSE = n ∧ (s.restart n).reg R.SYS_EN_MAP = 0
      ∧ (s.restart n).phase = (if n ≠ 1 ∧ s.pwr.xtalRun = true then 3 else 2)
      ∧ (s.restart n).fuses = s.fuses ∧ (s.restart n).vault = { s.vault with alternate := none } ∧ (s.restart n).nand = s.nand
      ∧ (s.restart n).nor = s.nor ∧ (s.restart n).tag = s.tag ∧ (s.restart n).update = s.update ∧ (s.restart n).mt = s.mt
      ∧ (s.restart n).pending = s.pending ∧ (s.restart n).hif = Hif.reset ∧ (s.restart n).rel = Rel.reset
      ∧ (s.restart n).pilot.pt = (if n = 1 then 0 else s.pilot.pt))

/-- R68 to R70, Table 3-5: phase 2 takes the crystal or the RC with 0x0132; phase 3 takes pair A where it passes, else pair B with 0x013B, enters RECOVERY
with 0x0136 where the fuse bank cannot be corrected, and halts with 0x013C where neither pair passes, each once no fuse blow runs; phase 4 completes
the staging and the NAND map and runs the slot that its checks let run. -/
def Obligations.StartChoosesReferencePairAndFirmware : Prop :=
  (∀ s : State, s.mayPhase 2 = true → completes (.reference true) s (fun t => t.phase = 3 ∧ t.flag F.PWR_STAT_XTAL_OK = true
        ∧ t.pwr = { s.pwr with xtalRun := true } ∧ keepsRegs s t [R.SYS_STAT, R.SYS_START_PROG, R.PWR_STAT]
        ∧ t = { s with regs := t.regs, pwr := t.pwr }))
  ∧ (∀ s : State, s.mayPhase 2 = true → completes (.reference false) s (fun t => t.phase = 3 ∧ t.flag F.PWR_STAT_REF_RC = true
        ∧ t.flag F.RF_STAT_REF_RC = true ∧ t.flag F.TIM_STAT_REF_RC = true ∧ t.get F.SYS_START_START_REASON = 0x0132
        ∧ Nat.testBit (t.reg R.PWR_RED_STAT) 12 = true ∧ t.get F.PWR_EVT_RED_LOSS = 1
        ∧ t.pwr = { s.pwr with xtalRun := false, retryMt := s.mt } ∧ t = { s with regs := t.regs, pwr := t.pwr }))
  ∧ (∀ (s : State) (a b : Bool), s.mayPhase 3 = true →
      s.keys.blow = none → exec (.fusesAndMemory false a b) s = .next (s.enterRecovery .fuseEcc 0x0136))
  ∧ (∀ s : State, s.mayPhase 3 = true → s.keys.blow = none → exec (.fusesAndMemory true false false) s = .next (s.halt 0x013C true).refresh)
  ∧ (∀ (s : State) (a b : Bool), s.mayPhase 3 = true → s.keys.blow = none → s.fuses.state ≠ 0 → s.fuses.state ≠ 5 → s.vault.transition = none →
      (s.choosePair a b).isSome = true →
      exec (.fusesAndMemory true a b) s = .next ((((s.choosePair a b).getD s).refreshKeyStat.setPhase 4).refresh)
      ∧ ((((s.choosePair a b).getD s).refreshKeyStat.setPhase 4).refresh).phase = 4)
  ∧ (∀ (s : State) (b : Bool), s.fuses.retireA = false →
      let p := (s.choosePair true b).getD s
      (s.choosePair true b).isSome = true ∧ p.get F.PWR_PAIR_ACTIVE = 0 ∧ p.get F.PWR_PAIR_A_STATE = 0 ∧ p.get F.SYS_STAT_ACTIVE_PAIR = 0
        ∧ p = { s with regs := p.regs, net := p.net })
  ∧ (∀ s : State, s.fuses.retireB = false → s.fuses.retireA = false →
      let p := (s.choosePair false true).getD s
      (s.choosePair false true).isSome = true ∧ p.get F.PWR_PAIR_ACTIVE = 1 ∧ p.get F.PWR_PAIR_B_STATE = 0
        ∧ p.get F.SYS_START_START_REASON = 0x013B ∧ Nat.testBit (p.reg R.PWR_RED_STAT) 0 = true
        ∧ p = { s with regs := p.regs, net := p.net })
  ∧ (∀ (s : State) (rb rr : Bool), s.mayPhase 4 = true →
      let o := s.repairStaging.openMeta
      let s1 := ((((if o.2 then o.1.repairNand else o.1).startIslands [8, 11]).takeConfirmed).countTrial)
      let c := (s1.slotIn .trial).getD ((s1.slotIn .running).getD s1.update.running)
      s1.slotRuns c (o.2 && s1.nandUp && (if c = 0 then true else rb)) = true →
      exec (.firmware true rb rr) s = .next (s1.startSlot c) ∧ (s1.startSlot c).phase = 5 ∧ (s1.startSlot c).sys.fw = .slot)
  ∧ (∀ (s : State) (e a b c : Bool), s.mayPhase 3 = false → exec (.fusesAndMemory e a b) s = .next s ∧ (s.mayPhase 4 = false →
      exec (.firmware a b c) s = .next s))

/-- R71 to R74, R363: phase 5 counts BOOT_EPOCH, derives the keys, sets ROOT_LOCKED and resumes MT 1,000,000 us past the saved value; phase 6 selects the
image or enters RECOVERY with 0x020F; phase 7 marks a satellite whose microcode fails its check FAILED; phase 8 enables the immobiliser path. -/
def Obligations.StartDerivesKeysAndEnablesTheImmobiliserPath : Prop :=
  (∀ (s : State) (g : Generation), s.mayPhase 5 = true → s.vaultUp = true → s.vault.keyring = some g → g.epoch = s.fuses.epochNo → generationOk g = true →
      s.sys.fw = .slot → s.ringS ≤ s.sys.sv → (s.fuses.state = 2 ∨ s.fuses.state = 3) → s.vault.bootEpoch + 1 < 2 ^ 24 →
      completes (.keys true) s (fun t => t.phase = 6 ∧ t.vault = { s.vault with bootEpoch := s.vault.bootEpoch + 1 }
        ∧ t.get F.SYM_EPOCH_BOOT_EPOCH = s.vault.bootEpoch + 1 ∧ t.keys.derived = true ∧ t.flag F.KEY_STAT_ROOT_LOCKED = true
        ∧ t.mt = s.vault.savedMt.value + 1000000 ∧ t.sto.mtRes = s.vault.savedMt.value ∧ t.fuses = s.fuses ∧ t.nand = s.nand))
  ∧ (∀ s : State, s.mayPhase 5 = true → s.sys.fw = .slot → completes (.keys false) s (fun t => t.phase = 0xF ∧ t.sys.cause = some .keyring
        ∧ t.get F.SYS_START_START_REASON = 0x0137 ∧ t.reg R.SYS_EN_MAP = 0))
  ∧ (∀ (s : State) (env : Env), s.mayPhase 6 = true → exec (.configuration env) s = .next (let r := (s.chooseImage env).1
      if (s.chooseImage env).2 = true then ({ r with rng := { r.rng with
          drift := if r.vault.driftMap = r.mapDigest then r.vault.drift else List.replicate 32 0 } }).setPhase 7
      else r.enterRecovery .noConfig 0x020F))
  ∧ (∀ s : State, s.mayPhase 7 = true → exec (.microcode true true true true) s = .next ((s.startIslands [9, 10, 12]).setPhase 8))
  ∧ (∀ s : State, s.mayPhase 7 = true → exec (.microcode true false true true) s
      = .next (((s.startIslands [9, 10, 12]).failIsland 10).setPhase 8))
  ∧ (∀ (s : State) (env : Env), s.mayPhase 8 = true →
      let up := immobiliserPath.foldl (fun (t : State) u => (t.checkNow env u).mean u) ((s.startIslands [13, 14]).bringUp)
      exec (.immobiliserPath env) s = .next (((up.refresh.startEntry).setPhase 9).serveLatched false))
  ∧ (∀ (s : State) (env : Env) (u : Subsys), s.subCheck (s.selected env.vioHigh) false s.enabled u = 0 → u ∈ [.sys, .cfg, .pwr, .tam, .hif, .upd] →
      (s.checkNow env u).enabled u = true)
  ∧ (∀ (s : State) (env : Env) (u : Subsys), s.subCheck (s.selected env.vioHigh) false s.enabled u ≠ 0 →
      s.checkNow env u = s.reason u (s.subCheck (s.selected env.vioHigh) false s.enabled u))

/-- R77, R61: phase 9 runs once: it enables what the image wants in the order of Table 2-7, then the enable writes held during the start, refreshes the
last-known-good copy, writes the start-up statements, and ends with START_DONE once the standby pair is current and the copies of the image that were
not selected are checked (R55). R60 to R62, R44: an enable write queues a check unless the bit reads 1 or one is pending; a disable is refused on the
immobiliser path with 0x0227, cancels a pending check with 0x0228, and otherwise takes down the subsystem and what depends on it; writes in phases 3
to 9 are held in order; a check takes the head of the queue. -/
def Obligations.StartCompletesAndEnableWritesAreChecked : Prop :=
  (∀ (s : State) (env : Env), s.mayPhase 9 = true → s.sys.nineDone = false →
      let up := phaseNine.foldl (fun (t : State) u => if t.startWants u then (t.checkNow env u).mean u else t) (s.startIslands [3, 4, 5, 6])
      exec (.completion env) s = .next
        (((((((((up.refresh).runHeld).serveLatched true).lkgRefresh).startupStatements).reform).flushAlarms).startReseal).loadStandby.finishNine))
  ∧ (∀ (s : State) (env : Env), s.sys.nineDone = true → exec (.completion env) s = .next s)
  ∧ (∀ s : State, s.phase = 9 → s.sys.nineDone = true → s.net.loading = none → (s.sys.readySeen = false ∨ s.sys.unchecked = []) →
      s.finishNine.phase = 0xA
      ∧ s.finishNine.get F.SYS_EVT_START_DONE = 1 ∧ s.finishNine.reg R.SYS_START_PROG = 0
      ∧ s.finishNine.fuses = s.fuses ∧ s.finishNine.vault = s.vault ∧ s.finishNine.reg R.SYS_EN_MAP = s.reg R.SYS_EN_MAP)
  ∧ (∀ s : State, (s.net.loading.isSome = true ∨ (s.sys.readySeen = true ∧ s.sys.unchecked ≠ [])) → s.finishNine = s)
  ∧ (∀ s : State, s.runHeld.sys.nineDone = true)
  ∧ (∀ (s : State) (u : Subsys), s.phase = 0xA → s.enabled u = false → s.sys.checks.contains u = false →
      exec (.enableWrite u) s = .next { s with sys := { s.sys with checks := s.sys.checks ++ [u] } })
  ∧ (∀ (s : State) (u : Subsys), s.phase = 0xA → (s.enabled u = true ∨ s.sys.checks.contains u = true) →
      exec (.enableWrite u) s = .next s)
  ∧ (∀ (s : State) (u : Subsys), 3 ≤ s.phase → s.phase ≤ 9 → s.sys.nineDone = false →
      exec (.enableWrite u) s = .next { s with sys := { s.sys with held := s.sys.held ++ [(u, true)] } }
      ∧ exec (.disableWrite u) s = .next { s with sys := { s.sys with held := s.sys.held ++ [(u, false)] } })
  ∧ (∀ (s : State) (u : Subsys), s.phase = 0xA → u ∈ immobiliserPath → exec (.disableWrite u) s = .next (s.reason u 0x0227))
  ∧ (∀ (s : State) (u : Subsys), s.phase = 0xA → u ∈ phaseNine → s.sys.checks.contains u = true →
      exec (.disableWrite u) s = .next (({ s with sys := { s.sys with checks := s.sys.checks.erase u } }).reason u 0x0228))
  ∧ (∀ s : State, s.phase = 0xA → s.sys.checks.contains .upd = false → s.enabled .upd = true →
      completes (.disableWrite .upd) s (fun t => t.enabled .upd = false ∧ Nat.testBit t.sys.meant 14 = false ∧ t.fuses = s.fuses
        ∧ t.update = s.update))
  ∧ (∀ (s : State) (env : Env) (u : Subsys) (rest : List Subsys), s.sys.checks = u :: rest →
      exec (.consistencyCheck env) s = .next
        (let s1 := ({ s with sys := { s.sys with checks := rest } }).checkNow env u
         (if s1.enabled u then s1.mean u else s1).refresh))
  ∧ (∀ (s : State) (env : Env), s.sys.checks = [] → exec (.consistencyCheck env) s = .next s)

/-- R139 to R141, R144, R145: a host request joins the LF queue and is answered with its outcome; the air goes to the best waiting request, which sends
its wake frame or begins its LFT exchange; a candle poll whose interval is over takes a free air or is counted as skipped with 0x050C. -/
def Obligations.RequestsTakeTheLfAir : Prop :=
  (∀ s : State, s.mbReady 0x0501 [] → s.enabled .tok = true → (s.planOf 0x0B).isSome = true → s.lf.queue.length < 8 →
      completes .lfRequest s (fun t => t.lf.queue = s.lf.queue ++ [hostReq false] ∧ t.hif.executing = some (mbCommand 0x0501 [])
        ∧ t.fuses = s.fuses ∧ t.vault = s.vault))
  ∧ (∀ s : State, s.mbReady 0x0502 [] → s.enabled .tok = true → s.lf.queue.length < 8 →
      completes .lftExchange s (fun t => t.lf.queue = s.lf.queue ++ [hostReq true] ∧ t.hif.executing = some (mbCommand 0x0502 [])
        ∧ t.fuses = s.fuses ∧ t.vault = s.vault))
  ∧ (∀ s : State, s.mbReady 0x0502 [] → s.enabled .tok = false → exec .lftExchange s = .next ((s.begun 0x0502 []).finish 0x0131 []))
  ∧ (∀ (s : State) (meas : List (Nat × Nat)) (r : LfReq), s.lf.hold = none → s.lf.freeAt ≤ s.mt → s.enabled .lf = true → s.enabled .tok = true →
      s.flag F.PWR_STAT_BROWNOUT = false → s.tok.commitWait = none → s.reloadsAir = false →
      nextLf (s.lf.queue.filter (fun r => r.lft || s.radioSettled)) = some r → r.lft = true → r.learn = false →
      completes (.lfAirGrant meas) s (fun t => t.lf.hold
          = some { newHold r s.tok.nextReq with phase := .lft, c := s.drawn 16, tries := 1 }
        ∧ t.lf.queue = s.lf.queue.erase r ∧ t.tok.sent = s.areq (s.drawn 16) ∧ t.tok.nextReq = s.tok.nextReq + 1 ∧ t.sym = (s.fresh 16).sym
        ∧ t.flag F.LF_STAT_BUSY = true))
  ∧ (∀ (s : State) (meas : List (Nat × Nat)) (r : LfReq) (p : Nat × Nat), s.lf.hold = none → s.lf.freeAt ≤ s.mt → s.enabled .lf = true →
      s.enabled .tok = true → s.flag F.PWR_STAT_BROWNOUT = false → s.tok.commitWait = none → s.reloadsAir = false →
      nextLf (s.lf.queue.filter (fun r => r.lft || s.radioSettled)) = some r → r.lft = false → s.lfOnlyNow false = false → s.planOf r.code = some p →
      s.patChannels p.1 ≠ [] →
      completes (.lfAirGrant meas) s (fun t => t.lf.hold
          = some { newHold r s.tok.nextReq with round := 1, pattern := p.1, wakeEnd := s.mt + wakeUs }
        ∧ t.lf.queue = s.lf.queue.erase r ∧ t.tok.nextReq = s.tok.nextReq + 1 ∧ t.flag F.LF_STAT_BUSY = true))
  ∧ (∀ (s : State) (meas : List (Nat × Nat)), s.lf.hold = none → s.lf.queue = [] → exec (.lfAirGrant meas) s = .next s)
  ∧ (∀ (s : State) (meas : List (Nat × Nat)), s.lf.hold = none → (s.candleRuns = false ∨ s.pollDue = false) → exec (.candlePoll meas) s = .next s)
  ∧ (∀ (s : State) (meas : List (Nat × Nat)), s.lf.hold = none → s.candleRuns = true → s.pollDue = true → s.lf.queue ≠ [] →
      completes (.candlePoll meas) s (fun t => t.get F.LF_REASON_REASON = 0x050C ∧ t.lf.hold = none ∧ t.lf.queue = s.lf.queue ∧ t.lf.pollMt = s.mt
        ∧ t.lf.pollJit = beNat (s.drawn 4) ∧ t = { s with regs := t.regs, draws := t.draws, sym := t.sym, lf := t.lf }))
  ∧ (∀ (s : State) (meas : List (Nat × Nat)) (p : Nat × Nat), s.lf.hold = none → s.candleRuns = true → s.pollDue = true → s.lf.queue = [] → s.lf.freeAt ≤ s.mt →
      s.flag F.PWR_STAT_BROWNOUT = false → s.tok.commitWait = none → s.reloadsAir = false → s.plan 0 = some p → s.lfOnlyNow true = false →
      framesFit p.1 [(s.mt, wakePieces)] s = true → s.patChannels p.1 ≠ [] →
      completes (.candlePoll meas) s (fun t => t.lf.hold
          = some { newHold candleReq s.tok.nextReq with round := 1, pattern := p.1, wakeEnd := s.mt + wakeUs }
        ∧ t.tok.nextReq = s.tok.nextReq + 1 ∧ t.lf.pollMt = s.mt))
  ∧ (lfClass 1 false = 1 ∧ (∀ code, lfClass code true = 1) ∧ (∀ code, 2 ≤ code → code ≤ 0x0A → lfClass code false = 2) ∧ lfClass 0x0B false = 3
      ∧ lfClass 0 false = 4)
  ∧ (∀ (q : List LfReq) (r : LfReq), nextLf q = some r → ∃ a b, q = a ++ r :: b ∧ (∀ k ∈ a, r.cls < k.cls) ∧ ∀ k ∈ b, r.cls ≤ k.cls)
  ∧ (∀ q : List LfReq, q ≠ [] → (nextLf q).isSome = true)
  ∧ (∀ (s : State) (r : LfReq), 8 ≤ s.lf.queue.length → s.pushLf r = ((s.event F.LF_EVT_QUEUE_FULL).reason .lf 0x050B, 0x050B))
  ∧ (∀ (s : State) (r : LfReq), s.lf.queue.length < 8 → (s.pushLf r).2 = 0 ∧ (s.pushLf r).1.lf.queue = s.lf.queue ++ [r])
  ∧ (∀ (s : State) (meas : List (Nat × Nat)), s.dueHold.lf.hold.isSome = true → exec (.lfAirGrant meas) s = .next s.dueHold)

/-- R103 to R107, R110, R136: an answer with a good CRC in a free response slot is valid, any other makes its slot collided; the round's close sends CHAL
to the listed answers or ends the request with 0x0820; a cryptogram waits for the answers that share its TID; after the exchanges LMEAS sends its
bursts, and a report whose MAC passes gives its session the readings. R108, R130, R88: of what the channels hear in a return slot the strongest frame
with a good CRC counts. An LF return whose MAC passes joins the tokens of its session without a counter step; a carrier without a good frame makes its
slot collided, and an unknown slot is refused with 0x0801. -/
def Obligations.RoundsAndLfReturnsAreJudged : Prop :=
  (∀ (s : State) (k : Fin 8) (q : SlotSignal) (f b : Bytes) (h : Hold), s.lf.hold = some h → h.phase = .answers →
      s.subListens = true → s.onRadio .answers = true → (h.req.code ≠ 0 ∨ s.slotEnergy (q.windows.take 7) = true) → f.length = 9 → crcGood f = some b → u8 b 0 / 64 = 1 → h.collided.contains k.val = false → h.answers.any (fun a => a.rslot == k.val) = false →
      completes (.ansReceive k (some f) q) s (fun t => t.lf.hold = some { h with answers := h.answers ++ [⟨k.val, be b 1 4, u8 b 5, u8 b 6⟩] }
        ∧ t.get F.RF_RSSI_LAST = q.rssi.toNat ∧ t = { s with regs := t.regs, lf := t.lf }))
  ∧ (∀ (s : State) (k : Fin 8) (q : SlotSignal) (h : Hold), s.lf.hold = some h → h.phase = .answers → s.subListens = true →
      s.onRadio .answers = true → (h.req.code ≠ 0 ∨ s.slotEnergy (q.windows.take 7) = true) → h.collided.contains k.val = false →
      h.answers.any (fun a => a.rslot == k.val) = false →
      exec (.ansReceive k none q) s
        = .next (if s.slotEnergy q.windows then s.setHold (some { h with collided := h.collided ++ [k.val] }) else s))
  ∧ (∀ (s : State) (k : Fin 8) (q : SlotSignal) (f : Option Bytes) (h : Hold), s.lf.hold = some h → h.phase = .answers →
      s.subListens = true → s.onRadio .answers = true → (h.req.code ≠ 0 ∨ s.slotEnergy (q.windows.take 7) = true) →
      (h.collided.contains k.val = true ∨ h.answers.any (fun a => a.rslot == k.val) = true) →
      exec (.ansReceive k f q) s = .next (s.setHold (some { h with
        answers := h.answers.filter (fun a => a.rslot != k.val), collided := h.collided.filter (fun j => j != k.val) ++ [k.val] })))
  ∧ (∀ (s : State) (k : Fin 8) (q : SlotSignal) (f : Option Bytes), (s.subListens = false ∨ s.onRadio .answers = false) →
      exec (.ansReceive k f q) s = .next s)
  ∧ (∀ (s : State) (meas : List (Nat × Nat)) (fl : BitVec 8) (h : Hold), s.lf.hold = some h → h.phase = .answers → h.answers = [] → h.collided = [] →
      exec (.roundClose meas fl) s = .next (((s.showRound (min 3 h.round) 0 0 false).put F.RF_RSSI_FLOOR fl.toNat).endRound 0x0820))
  ∧ (∀ (s : State) (meas : List (Nat × Nat)) (fl : BitVec 8) (h : Hold), s.lf.hold = some h → h.phase = .answers → s.listing h ≠ [] →
      h.answers.length + h.collided.length < 8 → h.req.code ≠ 0 →
      exec (.roundClose meas fl) s = .next (((s.showRound (min 3 h.round) h.answers.length h.collided.length false).put F.RF_RSSI_FLOOR
        fl.toNat).sendChal h (s.listing h) meas))
  ∧ (∀ (s : State) (h : Hold) (l : List (Answer × Nat)) (meas : List (Nat × Nat)), s.flag F.RF_STAT_TX24_OK = true → s.islandFailed 7 = false →
      s.enabled .rf = true → s.rf.queue = [] → s.onRc = false →
      (s.rtPast (s.rtAt (h.wakeEnd + 47000)) ≤ 409600 ∨ 2 ^ 47 ≤ s.rtPast (s.rtAt (h.wakeEnd + 47000))) →
      ∃ ms : List Member, ms.map (fun m => (m.slot, m.tid)) = l.map (fun p => (p.2, p.1.tid))
        ∧ (s.sendChal h l meas).lf.hold = some { h with
            phase := .cry, members := ms, c := s.drawn 16, chalEnd := h.wakeEnd + 47000 + 256 + 8 * l.length, chalOut := 0, why := 0x0820 }
        ∧ (s.sendChal h l meas).rf.queue.head? = some ⟨.tx24, s.rtAt (h.wakeEnd + 47000), 40960 * (256 + 8 * l.length), s.secLE 5 2 1 0,
            .chal (s.chal h.round (s.drawn 16) (l.map (fun p => p.1.rslot)))⟩)
  ∧ (∀ (s : State) (pos : Fin 8) (f b : Bytes) (q : BitVec 8) (h : Hold) (m : Member), s.lf.hold = some h → h.members[pos.val]? = some m →
      crcGood f = some b → h.phase = .cry → h.chalOut = 1 → s.subListens = true → s.onRadio .crys = true → f.length = 17 → u8 b 0 = 128 + m.slot → m.cry = 0 →
      let ok := slice b 7 8 == s.slotMac 0x01 m.slot m.tid (h.c ++ toBE 1 (u8 b 1) ++ toBE 1 (u8 b 2) ++ toBE 4 (be b 3 4)) 8
      let s1 := (s.updMember pos.val (fun y => { y with
        status := u8 b 1, field := u8 b 2, ctr := be b 3 4
        cry := if s.slotCheck 0 m.slot ≠ 0 then 3 else if ok then 1 else 2, why := s.slotCheck 0 m.slot })).lastRssi q.toNat
      exec (.cryReceive pos f q) s
        = .next (if (s1.members.filter (fun y => y.tid == m.tid)).all (fun y => y.cry != 0) then s1.judgeGroup m.tid else s1))
  ∧ (∀ (s : State) (pos : Fin 8) (f : Bytes) (q : BitVec 8), crcGood f = none → exec (.cryReceive pos f q) s = .next s)
  ∧ (∀ (s : State) (meas : List (Nat × Nat)) (h : Hold), s.lf.hold = some h → (∀ m ∈ h.members, m.cry = 0 ∨ m.cry = 4) → h.phase = .cry →
      s.rng.sessions.any (fun x => x.req == h.id) = true → s.nMeas ≠ 0 → s.rng.onAir = none → h.req.code ≠ 0 →
      (h.pattern :: s.measPats).any (fun p => (s.patChannels p).isEmpty) = false →
      completes (.lmeas meas) s (fun t => ∃ ks : List Rat, ks.length = s.measPats.length
        ∧ t.lf.hold = some { h with phase := .report, scales := ks, lmeasEnd := some (s.mt + 5250 + 750 * s.nMeas) }
        ∧ t = { s with regs := t.regs, lf := t.lf, rng := t.rng, rf := t.rf, net := t.net }))
  ∧ (∀ (s : State) (pos : Fin 8) (f b : Bytes) (h : Hold) (x : Sess), s.lf.hold = some h → crcGood f = some b →
      s.rng.sessions.find? (fun x => x.req == h.id && x.pos == pos.val) = some x → h.phase = .report → s.subListens = true → s.onRadio .reports = true →
      h.reports.contains pos.val = false → u8 b 0 = x.slot → u8 b 1 = s.nMeas → f.length = 8 + 3 * s.nMeas →
      slice b (2 + 3 * s.nMeas) 4 = s.slotMac 0x06 x.slot x.tid (x.c ++ toBE 1 s.nMeas ++ slice b 2 (3 * s.nMeas)) 4 →
      exec (.rptReceive pos f) s = .next (((s.setHold (some { h with reports := h.reports ++ [pos.val] })).updSess x.number
        (fun y => { y with readings := some (readings3 s.nMeas (b.drop 2)) })).commitPoint))
  ∧ (∀ (s : State) (pos : Fin 8) (f : Bytes), crcGood f = none → exec (.rptReceive pos f) s = .next s)
  ∧ (∀ (s : State) (k : Fin 4) (hd : List Heard) (h : Hold), s.lf.hold = some h → h.phase = .returns → h.returned.contains k.val = false →
      h.collided.contains k.val = false → s.strongest hd = (none, true) →
      exec (.lfReturnReceive k hd) s = .next (s.setHold (some { h with collided := h.collided ++ [k.val] })))
  ∧ (∀ (s : State) (k : Fin 4) (hd : List Heard), s.strongest hd = (none, false) → exec (.lfReturnReceive k hd) s = .next s)
  ∧ (∀ (s : State) (k : Fin 4) (hd : List Heard) (f b : Bytes) (h : Hold), s.lf.hold = some h → h.phase = .returns →
      h.returned.contains k.val = false → h.collided.contains k.val = false → (s.strongest hd).1 = some f → f.length = 13 → b = f.take 11 → u8 b 0 / 64 = 2 →
      (s.slot (u8 b 0 % 64)).state = 0 →
      exec (.lfReturnReceive k hd) s = .next (((s.setHold (some { h with returned := h.returned ++ [k.val] })).refuseAttempt 0 0xFF 0 0 h.req.code
        0x0801).holdWhy 0x0801))
  ∧ (∀ (s : State) (k : Fin 4) (hd : List Heard) (f b : Bytes) (h : Hold), s.lf.hold = some h → h.phase = .returns →
      h.returned.contains k.val = false → h.collided.contains k.val = false → (s.strongest hd).1 = some f → f.length = 13 → b = f.take 11 → u8 b 0 / 64 = 2 →
      let n := u8 b 0 % 64
      (s.slot n).state ≠ 0 → h.members.any (fun m => m.slot == n) = false → s.slotCheck 0 n = 0 →
      slice b 3 8 = s.slotMac 0x03 n (s.slot n).tid (h.c ++ toBE 1 (u8 b 2) ++ toBE 1 (u8 b 1)) 8 →
      completes (.lfReturnReceive k hd) s (fun t => t.rng.last = (s.rng.last + 1) % 2 ^ 32
        ∧ t.lf.hold = some { h with
            returned := h.returned ++ [k.val]
            members := h.members ++ [⟨n, (s.slot n).tid, u8 b 1, u8 b 2, u8 b 1, (s.slot n).ctr, 4, 0, some ((s.rng.last + 1) % 2 ^ 32)⟩] }
        ∧ (t.slot n).ctr = (s.slot n).ctr ∧ t.fuses = s.fuses ∧ t.vault.keyring = s.vault.keyring))
  ∧ (∀ (s : State) (a b : Heard) (x y : Bytes), a.ch < 8 → b.ch < 8 → s.chLive a.ch = true → s.chLive b.ch = true → crcGood a.frame = some x →
      crcGood b.frame = some y → b.strength < a.strength →
      s.strongest [a, b] = (some a.frame, true) ∧ s.strongest [b, a] = (some a.frame, true))
  ∧ (∀ (s : State) (hd : List Heard), (∀ x ∈ hd, s.chLive x.ch = false) → s.strongest hd = (none, false))

/-- R111 to R113, R221, Table 4-11: a press whose counter is not ahead is a replay unless it repeats an accepted one within its window; 1 to 256 ahead is
accepted, up to 65,536 ahead only after a press before it within the resync window, and more never. A frame of another vehicle is ignored; a
confirmation not given within 1 s refuses the command with 0x090A. -/
def Obligations.RemoteKeylessCountersDecide : Prop :=
  (∀ (s : State) (n ctr cmd : Nat), s.tok.accepted = [] → ctr ≤ (s.slot n).ctr → s.rkeCounter n ctr cmd = (0x0809, false))
  ∧ (∀ (s : State) (n ctr cmd : Nat), (s.slot n).ctr < ctr → ctr ≤ (s.slot n).ctr + 256 → s.vaultUp = true → s.rkeCounter n ctr cmd = (0, false))
  ∧ (∀ (s : State) (n ctr cmd : Nat), (s.slot n).ctr + 256 < ctr → ctr ≤ (s.slot n).ctr + 65536 → s.tok.resync = [] →
      s.rkeCounter n ctr cmd = (0x080B, false))
  ∧ (∀ (s : State) (n ctr cmd : Nat), (s.slot n).ctr + 65536 < ctr → s.rkeCounter n ctr cmd = (0x080A, false))
  ∧ (∀ (s : State) (f b : Bytes) (q : BitVec 8), crcGood f = some b → s.island 9 = 2 → s.subListens = true → s.copyCut = false → f.length = 22 → u8 b 0 / 64 = 3 →
      s.rf.detect = none → be b 1 4 ≠ s.vault.deviceTag → exec (.rkeFrame f q) s = .next (({ s with rf := { s.rf with detect := none } }).lastRssi q.toNat))
  ∧ (∀ (s : State) (f b : Bytes) (q : BitVec 8), crcGood f = some b → s.island 9 = 2 → s.subListens = true → s.copyCut = false → f.length = 22 → u8 b 0 / 64 = 3 →
      s.rf.detect = none → be b 1 4 = s.vault.deviceTag → s.enabled .tok = true →
      exec (.rkeFrame f q) s = .next ((s.lastRssi q.toNat).touch.judgeRke b))
  ∧ (∀ (s : State) (f : Bytes) (q : BitVec 8), (s.subListens = false ∨ s.copyCut = true) → exec (.rkeFrame f q) s = .next s)
  ∧ (∀ (s : State) (b : Bytes), be b 5 2 ≠ s.vault.ksn →
      s.judgeRke b = s.refuseAttempt 1 ((s.slotOfTid (be b 7 4)).getD 0xFF) (be b 7 4) (be b 11 4) 0x0C 0x0808)
  ∧ (∀ (s : State) (b : Bytes) (n : Nat), be b 5 2 = s.vault.ksn → s.pathLocked 1 = false → s.slotOfTid (be b 7 4) = some n → s.slotCheck 1 n = 0 →
      slice b 16 4 = s.slotMac 0x02 n (be b 7 4) (slice b 11 5) 4 → s.rkeCounter n (be b 11 4) (u8 b 15) = (0, false) →
      s.judgeRke b = s.rkeAccept n (be b 7 4) (be b 11 4) (u8 b 15) false)
  ∧ (∀ (s : State) (k : Fin 64) (c : Nat × Nat × Nat), s.tok.confirms.find? (fun c => c.1 == k.val && decide (c.2.2 + 1000000 ≤ s.mt)) = some c →
      exec (.rkeConfirmTimeout k) s
        = .next ((({ s with tok := { s.tok with confirms := s.tok.confirms.erase c } }).rkeOut k.val 0 0x090A).retireSpent 1 k.val))
  ∧ (∀ (s : State) (k : Fin 64), s.tok.confirms = [] → exec (.rkeConfirmTimeout k) s = .next s)

/-- R114, R95: the eighth counted failure of a slot within 10 min locks it for the time of its next level, failures during a lock are not counted, and a
lock that has run out ends with its level kept; SLOT_SUSPEND and SLOT_RESUME move a slot between ACTIVE and SUSPENDED and nothing else. -/
def Obligations.SlotsLockAndSuspend : Prop :=
  (∀ (x : Slot) (mt : Nat), x.locked = false → (recentFails x.fails mt).length = 7 →
      (x.fail mt).locked = true ∧ (x.fail mt).level = min 5 (x.level + 1) ∧ (x.fail mt).lockEnd = mt + lockUs (min 5 (x.level + 1))
        ∧ (x.fail mt).count mt = 8)
  ∧ (∀ (x : Slot) (mt : Nat), x.locked = true → mt < x.lockEnd → x.fail mt = x)
  ∧ (∀ (x : Slot) (mt : Nat), x.locked = false → (recentFails x.fails mt).length < 7 → (x.fail mt).locked = false
        ∧ (x.fail mt).count mt = (recentFails x.fails mt).length + 1)
  ∧ (∀ (s : State) (i : Fin 68), i.val < 64 → s.vault.slots.length = 64 → (s.slot i.val).locked = true → (s.slot i.val).lockEnd ≤ s.mt →
      exec (.lockExpiry i) s = .next (s.setSlot i.val { s.slot i.val with locked := false, fails := [], held := 0 }))
  ∧ (∀ (s : State) (i : Fin 68), 64 ≤ i.val → (s.pathRec (i.val - 64)).locked = true → (s.pathRec (i.val - 64)).lockEnd ≤ s.mt →
      exec (.lockExpiry i) s = .next (s.setPath (i.val - 64) { s.pathRec (i.val - 64) with locked := false, fails := [], held := 0 }))
  ∧ (∀ (s : State) (i : Fin 68), i.val < 64 → (s.slot i.val).locked = false →
      exec (.failureAgeOut i) s = .next (s.setSlot i.val { s.slot i.val with fails := recentFails (s.slot i.val).fails s.mt }))
  ∧ (∀ (s : State) (i : Fin 68), 64 ≤ i.val → (s.pathRec (i.val - 64)).locked = false →
      exec (.failureAgeOut i) s
        = .next (s.setPath (i.val - 64) { s.pathRec (i.val - 64) with fails := recentFails (s.pathRec (i.val - 64)).fails s.mt }))
  ∧ (∀ (s : State) (n : BitVec 8), s.mbReady 0x0805 (toLE 1 n.toNat) → n.toNat ≤ 63 → (s.slot n.toNat).state = 1 →
      exec (.slotSuspend n) s = .next (let b := s.begun 0x0805 (toLE 1 n.toNat)
        let u := b.setSlot n.toNat { s.slot n.toNat with state := 2 }
        (u.journal 0x0801 0x0802 .tok 0 (u.authBody 0 n.toNat (s.slot n.toNat).tid (s.slot n.toNat).ctr 0xFF)).finish 0 (toLE 1 2)))
  ∧ (∀ (s : State) (n : BitVec 8), s.mbReady 0x0806 (toLE 1 n.toNat) → n.toNat ≤ 63 → (s.slot n.toNat).state = 2 →
      exec (.slotResume n) s = .next (let b := s.begun 0x0806 (toLE 1 n.toNat)
        let u := b.setSlot n.toNat { s.slot n.toNat with state := 1 }
        (u.journal 0x0801 0 .tok 0 (u.authBody 0 n.toNat (s.slot n.toNat).tid (s.slot n.toNat).ctr 0xFF)).finish 0 (toLE 1 1)))
  ∧ (∀ (s : State) (n : BitVec 8), s.mbReady 0x0806 (toLE 1 n.toNat) → (s.slot n.toNat).state ≠ 2 →
      exec (.slotResume n) s = .next ((s.begun 0x0806 (toLE 1 n.toNat)).finish 0x081D []))

/-- R137 to R139, R78: an edge of a wake input shows its level; during the start it waits with its PT and MT, after it the request of its record joins the
queue; more than the chatter limit in 60 s of PT mask the input, and 60 s later it is unmasked. R149, R150: a good answer ends an LFT exchange, one
with a bad CRC waits for the next try; a listen window without a good answer leads to another try, and after the third the exchange fails with 0x0508,
or 0x0509 where answers came with a bad CRC. -/
def Obligations.WakeInputsAndLftExchanges : Prop :=
  (∀ (s : State) (w : Fin 12), u8 (s.wakeRec w.val) 0 ≠ 0 → 1 ≤ s.phase → s.phase ≤ 8 → exec (.wakeEdge w) s
      = .next (let t := s.putInput F.LF_WAKE_STAT_LEVEL w.val true
        { t with sys := { t.sys with latched := t.sys.latched ++ [⟨.wake w.val, s.pilot.pt.toNat, s.mt⟩] } }))
  ∧ (∀ (s : State) (w : Fin 12), u8 (s.wakeRec w.val) 0 ≠ 0 → s.phase = 0xA →
      exec (.wakeEdge w) s = .next ((s.putInput F.LF_WAKE_STAT_LEVEL w.val true).serveWake w.val s.pilot.pt.toNat))
  ∧ (∀ (s : State) (w : Fin 12), u8 (s.wakeRec w.val) 0 = 0 → s.sys.hasImage = true → exec (.wakeEdge w) s = .next s)
  ∧ (∀ (s : State) (w pt : Nat), s.lf.masks.any (fun m => m.1 == w) = true → s.serveWake w pt = s)
  ∧ (∀ (s : State) (w : Nat), u8 (s.wakeRec w) 0 ≠ 0 → s.lf.masks = [] → s.lf.edges = [] → 1 ≤ s.setting 0x050A 20 → u8 (s.wakeRec w) 3 ≠ 0xFE →
      s.hasRequest (u8 (s.wakeRec w) 3) = false → s.enabled .tok = true → (s.planOf (u8 (s.wakeRec w) 3)).isSome = true → s.lf.queue.length < 8 → w < 12 →
      (s.serveWake w s.pilot.pt.toNat).lf.queue = s.lf.queue ++ [wakeReq (u8 (s.wakeRec w) 3) (w == s.lftTrig)]
      ∧ (s.serveWake w s.pilot.pt.toNat).get F.LF_EVT_WAKE = 1 ∧ (s.serveWake w s.pilot.pt.toNat).vault = { s.vault with standMt := s.mt })
  ∧ (∀ (s : State) (w : Fin 12) (e : Word), s.lf.masks = [(w.val, e)] → (s.pilot.pt - e).toNat < 2 ^ 31 →
      exec (.chatterUnmask w) s = .next (({ s with lf := { s.lf with masks := [] } }).putInput F.LF_WAKE_STAT_MASKED w.val false))
  ∧ (∀ (s : State) (w : Fin 12), s.lf.masks = [] → exec (.chatterUnmask w) s = .next s)
  ∧ (∀ (s : State) (w : Fin 12), s.rel.held = false →
      exec (.wakeInputInactive w) s = .next ((s.putInput F.LF_WAKE_STAT_LEVEL w.val false).refreshRel))
  ∧ (∀ s : State, exec .standReset s = .next { s with vault := { s.vault with standMt := s.mt } })
  ∧ (∀ (s : State) (f : Bytes) (h : Hold), s.lf.hold = some h → h.phase = .lft → h.req.learn = false → crcGood f = none →
      exec (.lftUplinkReceive f) s = .next (s.setHold (some { h with badCrc := true })))
  ∧ (∀ (s : State) (f b : Bytes) (h : Hold), s.lf.hold = some h → h.phase = .lft → h.req.learn = false → crcGood f = some b → b.length = 18 →
      u8 b 0 = 0x34 →
      exec (.lftUplinkReceive f) s = .next (let r := (s.lftOutcome 0 h.tries).judgeArsp 2 0x05 h.c b h.id h.req.code
        r.1.endHold r.2))
  ∧ (∀ (s : State) (f : Bytes), s.lf.hold = none → exec (.lftUplinkReceive f) s = .next s)
  ∧ (∀ (s : State) (h : Hold), s.lf.hold = some h → h.phase = .lft → h.req.learn = false → h.tries < 3 →
      exec .lftRetry s = .next (s.setHold (some { h with tries := h.tries + 1, badCrc := false })))
  ∧ (∀ (s : State) (h : Hold), s.lf.hold = some h → h.phase = .lft → h.req.learn = false → 3 ≤ h.tries → h.badCrc = false →
      exec .lftRetry s = .next ((s.lftOutcome 0x0508 h.tries).endHold 0x0508))
  ∧ (∀ (s : State) (h : Hold), s.lf.hold = some h → h.phase = .lft → h.req.learn = false → 3 ≤ h.tries → h.badCrc = true →
      exec .lftRetry s = .next ((s.lftOutcome 0x0509 h.tries).endHold 0x0509))
  ∧ (∀ (s : State) (why tries : Nat), why ≠ 0 → why < 2 ^ 16 → (s.lftOutcome why tries).get F.LF_REASON_REASON = why
      ∧ (s.lftOutcome why tries).get F.LF_EVT_LFT_FAIL = 1 ∧ (s.lftOutcome why tries).lf = s.lf)
  ∧ (∀ (s : State) (path d : Nat) (c arsp : Bytes) (id code : Nat), s.pathLocked path = false → s.slotOfTid (be arsp 2 4) = none →
      s.judgeArsp path d c arsp id code = (s.refuseUnknown path (be arsp 2 4) (be arsp 6 4) code, 0x0801))

/-- R131 to R136, R474: a recalibration that is due or asked for runs while the air is quiet, else it waits; a failed leg halves its channel with 0x0504,
an open coil fails it with 0x0502, a short in 3 frames in a row with 0x0503; VANT faults stop LF0 to LF7 with 0x0501 until a restart that is tried
each 1 s; above 130 degrees C every channel runs at half amplitude. -/
def Obligations.LfChannelFaultsAndCalibration : Prop :=
  (∀ (s : State) (c : Fin 8) (env : Env), Nat.testBit (u8 s.lfSec 3) c.val = true → s.enabled .lf = true → s.lfQuiet = true →
      exec (.recal c env) s = .next (s.calLf (signed 8 env.dieTemp.toNat) env.lfMeas))
  ∧ (∀ (s : State) (c : Fin 8) (env : Env), Nat.testBit (u8 s.lfSec 3) c.val = true → s.enabled .lf = true → s.lfQuiet = false →
      exec (.recal c env) s = .next { s with lf := { s.lf with recal := true } })
  ∧ (∀ (s : State) (temp : Int) (meas : List (Option (Nat × Nat))),
      (s.calLf temp meas).lf = { s.lf with calMt := s.mt, calTemp := temp, recal := false } ∧ (s.calLf temp meas).vault = s.vault)
  ∧ (∀ (s : State) (q : BitVec 8) (env : Env), (s.lf.recal = true ∨ s.lf.calMt + 86400000000 ≤ s.mt ∨ 20 ≤ (signed 8 q.toNat - s.lf.calTemp).natAbs) →
      s.lfQuiet = true → s.pwr.standby = false → completes (.lfRecalDue q env) s (fun t =>
        t.lf = { s.lf with calMt := s.mt, recal := false, calTemp := signed 8 q.toNat } ∧ t = { s with regs := t.regs, lf := t.lf }))
  ∧ (∀ (s : State) (q : BitVec 8) (env : Env), (s.lfQuiet = false ∨ s.pwr.standby = true ∨ (s.lf.recal = false ∧ s.mt < s.lf.calMt + 86400000000
        ∧ (signed 8 q.toNat - s.lf.calTemp).natAbs < 20)) → exec (.lfRecalDue q env) s = .next s)
  ∧ (∀ (s : State) (c : Fin 8), s.chLive c.val = true → s.gateDrive = false → s.flag (F.LF_CHn_STAT_LEG_B_FAIL c.val) = false →
      completes (.legFail c false) s (fun t => t.flag (F.LF_CHn_STAT_LEG_A_FAIL c.val) = true ∧ t.flag (F.LF_CHn_STAT_HALF c.val) = true
        ∧ t.flag (F.LF_CHn_STAT_FAILED c.val) = false ∧ t.get F.LF_REASON_REASON = 0x0504 ∧ t.get F.LF_EVT_LEG_FAIL = 1
        ∧ Nat.testBit (t.reg R.PWR_RED_STAT) 9 = true ∧ t = { s with regs := t.regs }))
  ∧ (∀ (s : State) (c : Fin 8), s.chLive c.val = true → completes (.openCoil c) s (fun t => t.flag (F.LF_CHn_STAT_FAILED c.val) = true
        ∧ t.flag (F.LF_CHn_STAT_UP c.val) = false ∧ t.get F.LF_REASON_REASON = 0x0502 ∧ t.get F.LF_EVT_CH_FAIL = 1 ∧ t = { s with regs := t.regs }))
  ∧ (∀ (s : State) (c : Fin 8), s.chLive c.val = false → exec (.openCoil c) s = .next s)
  ∧ (∀ (s : State) (c : Fin 8) (a : Nat), s.chLive c.val = true → s.lf.frames = [⟨c.val, a, false⟩] → a ≤ s.mt →
      completes (.outputShort c) s (fun t => t.lf = { s.lf with frames := [⟨c.val, a, true⟩] } ∧ t.get F.LF_REASON_REASON = 0x0503
        ∧ t.get (F.LF_CHn_STAT_FAULT c.val) = 2 ∧ t.flag (F.LF_CHn_STAT_FAILED c.val) = false ∧ t = { s with regs := t.regs, lf := t.lf }))
  ∧ (∀ (s : State) (c : Fin 8) (a b d : Nat), s.chLive c.val = true →
      s.lf.frames = [⟨c.val, a, true⟩, ⟨c.val, b, true⟩, ⟨c.val, d, false⟩] → a ≤ s.mt → b ≤ s.mt → d ≤ s.mt →
      completes (.outputShort c) s (fun t => t.flag (F.LF_CHn_STAT_FAILED c.val) = true ∧ t.get F.LF_REASON_REASON = 0x0503
        ∧ t.get F.LF_EVT_CH_FAIL = 1 ∧ t = { s with regs := t.regs, lf := t.lf }))
  ∧ (∀ (s : State) (c : Fin 8), s.lf.frames.any (fun f => f.ch == c.val && decide (f.startMt ≤ s.mt)) = false →
      exec (.outputShort c) s = .next s)
  ∧ (∀ s : State, s.flag F.LF_STAT_OVERTEMP = false → completes (.driverOvertemp true) s (fun t => t.flag F.LF_STAT_OVERTEMP = true
        ∧ t.get F.LF_REASON_REASON = 0x050D ∧ t.get F.LF_EVT_OVERTEMP = 1
        ∧ keepsFields s t [F.LF_STAT_OVERTEMP, F.LF_REASON_REASON, F.LF_EVT_OVERTEMP] ∧ t = { s with regs := t.regs }))
  ∧ (∀ s : State, exec (.driverOvertemp false) s = .next (s.putFlag F.LF_STAT_OVERTEMP false))
  ∧ (∀ (s : State) (v : BitVec 16), s.gateDrive = false → s.enabled .lf = true → completes (.vantFault v) s (fun t =>
        t.flag F.LF_STAT_VANT_OK = false ∧ t.get F.LF_STAT_UP = 0 ∧ t.get F.LF_REASON_REASON = 0x0501 ∧ t.get F.LF_EVT_VANT_FAULT = 1
        ∧ t.lf = { s.lf with vantMt := s.mt } ∧ t = { s with regs := t.regs, lf := t.lf }))
  ∧ (∀ (s : State) (v : BitVec 16) (b : Bool), s.gateDrive = false → s.enabled .lf = true → s.flag F.LF_STAT_VANT_OK = false →
      s.lf.vantMt + 1000000 ≤ s.mt → completes (.vantRetry b v) s (fun t => t.flag F.LF_STAT_VANT_OK = b
        ∧ t.lf = { s.lf with vantMt := s.mt } ∧ t = { s with regs := t.regs, lf := t.lf }))
  ∧ (∀ (s : State) (v : BitVec 16) (b : Bool), s.gateDrive = true → exec (.vantFault v) s = .next s ∧ exec (.vantRetry b v) s = .next s)

/-- R163 to R169: a command joins the sequencer's queue, or is refused as one too many with 0x060B or as late with 0x060C; with the lock and its start
time reached it goes on air, stamped with its actual start; a sweep whose gap would meet a position of the request is not placed; its window's end
leaves the air; a lock that does not come fails it with 0x0601, and a lock lost while it transmits aborts it with 0x0602. R174 to R178: a calibration
asked for starts at once while the radio and the air are free; its steps follow one another, and the last applies the results and reruns the checks of
what is down; a test transmission waits for its lock and is refused with 0x060F while a request holds the air. -/
def Obligations.RadioRunsItsQueueAndCalibrates : Prop :=
  (∀ (s : State) (op : RadioOp) (st : BitVec 48) (n : Nat) (p : BitVec 8), s.enabled .rf = true → s.onRc = false → s.rf.queue.length < 16 →
      s.rf.cal = none → s.rf.onAir.isSome = true → (s.rtPast st.toNat ≤ 409600 ∨ 2 ^ 47 ≤ s.rtPast st.toNat) →
      (opSends op = false ∨ s.flag F.RF_STAT_TX24_OK = true) → (op ≠ .sweep ∨ s.subPositions = []) →
      exec (.radioCommand op st n p) s = .next { s with rf := { s.rf with queue := s.rf.queue ++ [⟨op, st.toNat, n, p.toNat, .plain⟩] } })
  ∧ (∀ (s : State) (op : RadioOp) (st : BitVec 48) (n : Nat) (p : BitVec 8), s.enabled .rf = true → s.onRc = false → s.rf.queue.length = 16 →
      (opSends op = false ∨ s.flag F.RF_STAT_TX24_OK = true) → (op ≠ .sweep ∨ s.subPositions = []) →
      exec (.radioCommand op st n p) s = .next (((s.event F.RF_EVT_QUEUE_FULL).bump F.RF_CNT_LATE).reason .rf 0x060B))
  ∧ (∀ (s : State) (op : RadioOp) (st : BitVec 48) (n : Nat) (p : BitVec 8), s.enabled .rf = true → s.onRc = false → s.rf.queue.length < 16 →
      409600 < s.rtPast st.toNat → s.rtPast st.toNat < 2 ^ 47 → (opSends op = false ∨ s.flag F.RF_STAT_TX24_OK = true) →
      (op ≠ .sweep ∨ s.subPositions = []) →
      exec (.radioCommand op st n p) s = .next (((s.event F.RF_EVT_LATE).bump F.RF_CNT_LATE).reason .rf 0x060C))
  ∧ (∀ (s : State) (st : BitVec 48) (n : Nat) (p : BitVec 8) (a b : Nat), s.subPositions = [(a, b)] → a ≤ s.mt → s.mt < b + 80 →
      s.rtPast st.toNat = 0 → exec (.radioCommand .sweep st n p) s = .next s)
  ∧ (∀ (s : State) (c : RadioCmd) (rest : List RadioCmd), s.rf.onAir = none → s.rf.queue = c :: rest → c.job = .plain → s.upd.loading = none →
      s.rtReached c.start = true → completes .lockDetect s (fun t =>
        t.rf.onAir = some { c with start := s.tim.rt.toNat, ticks := if opSends c.op then c.ticks else c.ticks - s.rtPast c.start }
        ∧ t.rf.queue = rest ∧ t.get F.RF_STAT_STATE = opState c.op ∧ t.rf.misses = s.rf.misses.set (s.opSyn c.op) 0
        ∧ t = { s with regs := t.regs, rf := t.rf }))
  ∧ (∀ (s : State) (c : RadioCmd) (rest : List RadioCmd), s.rf.onAir = none → s.rf.queue = c :: rest → s.rtReached c.start = false →
      completes .lockDetect s (fun t => t.rf.onAir = none ∧ t.rf.queue = s.rf.queue ∧ t = { s with regs := t.regs, rf := t.rf }))
  ∧ (∀ (s : State) (c : RadioCmd) (rest : List RadioCmd) (f : Bytes) (h : Hold), s.rf.onAir = none → s.rf.queue = c :: rest → c.op = .tx24 →
      c.job = .chal f → s.upd.loading = none → s.rtReached c.start = true → s.lf.hold = some h → completes .lockDetect s (fun t =>
        t.lf.hold = some { h with chalOut := 1, chalEnd := s.mt + 40 + 8 * f.length } ∧ t.tok.sent = toBE 1 0xAA ++ toBE 4 s.group ++ f
        ∧ t.tok.sentMhz = 2404 + u8 s.typesSec 2 ∧ t.get F.RF_STAT_STATE = 5))
  ∧ (∀ s : State, s.rf.onAir.isSome = true → exec .lockDetect s = .next s)
  ∧ (∀ (s : State) (c : RadioCmd) (fl : BitVec 8) (n : Nat), s.rf.onAir = some c → c.op = .rxSub n →
      (c.job = .plain ∨ c.job = .answers ∨ c.job = .crys ∨ c.job = .reports) →
      exec (.windowEnd fl) s = .next (((({ s with rf := { s.rf with onAir := none, back := if s.rf.lent then some s.mt else s.rf.back } }).put
        F.RF_RSSI_FLOOR fl.toNat).rfIdle).dueTakeover))
  ∧ (∀ (s : State) (fl : BitVec 8), s.rf.onAir = none → exec (.windowEnd fl) s = .next s)
  ∧ (∀ (s : State) (c : RadioCmd) (rest : List RadioCmd), s.get F.RF_STAT_STATE = 2 → s.rf.queue = c :: rest → s.rf.misses = [0, 0] →
      c.op = .tx24 → c.job = .plain → s.rf.takeover = false →
      completes .lockTimeout s (fun t => t.get F.RF_REASON_REASON = 0x0601 ∧ t.get F.RF_EVT_SYN_BUSY = 1 ∧ t.rf.queue = rest
        ∧ t.rf.misses = [0, 0].set (s.opSyn c.op) 1 ∧ t.rf.cal.isSome = true ∧ t = { s with regs := t.regs, rf := t.rf }))
  ∧ (∀ s : State, s.get F.RF_STAT_STATE ≠ 2 → exec .lockTimeout s = .next s)
  ∧ (∀ (s : State) (c : RadioCmd), s.rf.onAir = some c → c.op = .tx24 → c.job = .plain → s.flag F.RF_STAT_TEST_ON = false → s.rng.onAir = none →
      s.rf.takeover = false →
      completes .lockLoss s (fun t => t.rf.onAir = none ∧ t.get F.RF_REASON_REASON = 0x0602 ∧ t.get F.RF_EVT_LOCK_LOSS = 1
        ∧ t = { s with regs := t.regs, rf := t.rf }))
  ∧ (∀ s : State, s.rf.onAir = none → s.flag F.RF_STAT_TEST_ON = false → exec .lockLoss s = .next s)
  ∧ (∀ s : State, s.enabled .rf = true → s.rf.cal = none → s.rf.queue = [] → s.rf.onAir = none → s.lf.hold = none → s.flag F.RF_STAT_TEST_ON = false →
      s.rf.test = false → s.rf.lent = false → s.upd.loading = none → s.onRc = false → completes .cal s (fun t => t.rf = { s.rf with cal := some ⟨4, 1, true, none⟩ } ∧ t.flag F.RF_STAT_CAL_BUSY = true
        ∧ t.get F.RF_STAT_STATE = 9 ∧ keepsRegs s t [R.RF_STAT] ∧ t = { s with regs := t.regs, rf := t.rf }))
  ∧ (∀ s : State, s.enabled .rf = false → exec .cal s = .next s)
  ∧ (∀ (s : State) (q : BitVec 8), s.enabled .rf = true → s.rf.cal = none → s.setting 0x0603 15 ≤ (signed 8 q.toNat - signed 8 (s.get F.RF_TEMP_CAL_T)).natAbs →
      completes (.calDue q) s (fun t => t.get F.RF_TEMP_NOW_T = q.toNat ∧ (t.rf.cal.map (fun c => c.cause)) = some 2))
  ∧ (∀ (s : State) (q : BitVec 8), s.enabled .rf = false → exec (.calDue q) s = .next (s.put F.RF_TEMP_NOW_T q.toNat))
  ∧ (∀ (s : State) (c : RadioCal) (f : CalFacts), s.rf.cal = some c → c.running = true → s.upd.loading = none → c.oscOnly = none → c.step < 7 →
      exec (.calStepEnd true f) s = .next { s with rf := { s.rf with cal := some { c with step := c.step + 1 } } })
  ∧ (∀ (s : State) (c : RadioCal) (f : CalFacts), s.rf.cal = some c → c.running = true → s.upd.loading = none → c.oscOnly = none → 7 ≤ c.step →
      exec (.calStepEnd true f) s = .next (((s.applyCal c.cause f).recheck).rfIdle))
  ∧ (∀ (s : State) (f : CalFacts), s.rf.cal = none → exec (.calStepEnd true f) s = .next s)
  ∧ (∀ (s : State) (cause : Nat) (f : CalFacts), (s.applyCal cause f).rf = { s.rf with cal := none, runUs := 0 })
  ∧ (∀ (s : State) (v : Word), s.enabled .rf = true → s.lf.hold.isSome = true → exec (.testStart v) s = .next (s.reason .rf 0x060F))
  ∧ (∀ (s : State) (v : Word), s.enabled .rf = true → s.lf.hold = none → s.rf.cal = none → s.rf.onAir = none → s.rf.queue = [] →
      1 ≤ bits v.toNat 27 24 → bits v.toNat 27 24 ≤ 5 → s.flag F.RF_STAT_TX24_OK = true →
      completes (.testStart v) s (fun t => t.get F.RF_TEST_MODE = bits v.toNat 27 24 ∧ t.get F.RF_STAT_STATE = 2
        ∧ t.rf = { s.rf with test := true } ∧ keepsRegs s t [R.RF_TEST, R.RF_STAT] ∧ t = { s with regs := t.regs, rf := t.rf }))
  ∧ (∀ (s : State) (v : Word), s.enabled .rf = true → s.lf.hold = none → (bits v.toNat 27 24 = 3 ∨ bits v.toNat 27 24 = 4) →
      s.flag F.RF_STAT_TX24_OK = false → completes (.testStart v) s (fun t => t.get F.RF_TEST_MODE = bits v.toNat 27 24
        ∧ keepsRegs s t [R.RF_TEST] ∧ t = { s with regs := t.regs }))
  ∧ (∀ s : State, s.flag F.RF_STAT_TEST_ON = true → s.rf.queue = [] → s.rf.cal = none → s.rf.lent = false → s.votes 9 ≠ 0 →
      completes .testStop s (fun t => t.flag F.RF_STAT_TEST_ON = false ∧ t.get F.RF_STAT_STATE = 1 ∧ t.rf = { s.rf with test := false }
        ∧ keepsRegs s t [R.RF_STAT] ∧ t = { s with regs := t.regs, rf := t.rf }))

/-- R162, R171 to R173: once RKE_SNIFF_MS of PT have passed a sniff without energy counts and leaves the radio off; energy in four windows in a row raises
the votes that wake it; 330 ms without a frame are a false detection, the twentieth in 60 s raises the threshold by 6 dB with 0x0611, and 600 s later
it returns to DET_DBM. -/
def Obligations.RkeSniffDetectsAndAdapts : Prop :=
  (∀ (s : State) (w : List (BitVec 8)), s.subListens = true → s.flag F.RF_CTL_SNIFF_HOLD = false → s.setting 0x0602 0 = 0 → s.votes 9 = 0 →
      s.lf.hold = none → s.rf.detect = none → s.flag F.PWR_STAT_BROWNOUT = false → s.sniffDue = true →
      energyIn (signed 8 (s.get F.RF_SNIFF_STAT_THR)) s.extSub 0 w = false →
      exec (.rkeSniff w) s = .next ((({ s with rf := { s.rf with sniffPt := s.pilot.pt } }).bump F.RF_SNIFF_SNIFFS).rfState 0))
  ∧ (∀ (s : State) (w : List (BitVec 8)), s.subListens = true → s.flag F.RF_CTL_SNIFF_HOLD = false → s.setting 0x0602 0 = 0 → s.votes 9 = 0 →
      s.lf.hold = none → s.rf.detect = none → s.flag F.PWR_STAT_BROWNOUT = false → s.sniffDue = true →
      energyIn (signed 8 (s.get F.RF_SNIFF_STAT_THR)) s.extSub 0 w = true →
      completes (.rkeSniff w) s (fun t => t.rf = { s.rf with sniffPt := s.pilot.pt, detect := some s.mt } ∧ Nat.testBit (t.votes 9) 0 = true
        ∧ Nat.testBit (t.votes (1 + s.activePair)) 0 = true ∧ t.get F.RF_STAT_STATE = 3))
  ∧ (∀ (s : State) (w : List (BitVec 8)), (s.flag F.RF_CTL_SNIFF_HOLD = true ∨ s.sniffDue = false) → exec (.rkeSniff w) s = .next s)
  ∧ (∀ (s : State) (x : Nat), s.rf.detect = some x → x + 330000 ≤ s.mt → s.rf.falses = [] → completes .falseDetection s (fun t => t.rf.detect = none
        ∧ t.rf.falses = [s.pilot.pt] ∧ t.get F.RF_SNIFF_FALSE = min (s.get F.RF_SNIFF_FALSE + 1) (2 ^ (F.RF_SNIFF_FALSE.hi + 1 - F.RF_SNIFF_FALSE.lo) - 1)
        ∧ t.fuses = s.fuses ∧ t.vault = s.vault))
  ∧ (∀ (s : State) (x : Nat), s.rf.detect = some x → s.mt < x + 330000 → exec .falseDetection s = .next s)
  ∧ (∀ s : State, s.flag F.RF_SNIFF_STAT_RAISED = true → 600 * 32768 ≤ (s.pilot.pt - s.rf.raisedPt).toNat →
      completes .sniffThresholdRestore s (fun t => t.flag F.RF_SNIFF_STAT_RAISED = false ∧ t.get F.RF_SNIFF_STAT_THR = unsigned 8 s.detDbm % 256
        ∧ keepsFields s t [F.RF_SNIFF_STAT_RAISED, F.RF_SNIFF_STAT_THR] ∧ t = { s with regs := t.regs }))
  ∧ (∀ s : State, s.flag F.RF_SNIFF_STAT_RAISED = false → exec .sniffThresholdRestore s = .next s)

/-- R185 to R190, R208, R209: at its position a session with an entry begins its exchange: its commands join the sequencer's queue, its CSENT is drawn and
the chains are fixed then; above the cap it is deferred with 0x0701. Its sweep goes on air over its tones and lends SYN0. A session report with a good
CRC is taken, any other leaves the session without one; both free the radio. R193 to R203, Table 7-7: a wrong round, four late rounds or a false echo
are a relay finding; a relay finding leaves no distance, no bound and no zone in the record. The bound of a round is half its light path beyond the
turnaround, so a later answer never gives a shorter distance. -/
def Obligations.ExchangesStartAndRelayFindingsWithholdThePosition : Prop :=
  (∀ (s : State) (pos : Fin 8) (h : Hold) (x : Sess), s.lf.hold = some h → (∀ m ∈ h.members, m.cry = 0 ∨ m.cry = 4) →
      s.rng.sessions.find? (fun x => x.req == h.id && x.pos == pos.val) = some x → h.phase = .cry → x.entry = true → x.begun = false →
      s.canRange = true → (s.recentStarts s.tim.rt.toNat).length < 8 → (s.queueExchange x.number s.tim.rt.toNat).2 = true →
      completes (.exchangeStart pos) s (fun t =>
        t.rf.queue.map (·.job) = s.rf.queue.map (·.job) ++ [.sweep x.number, .flick x.number, .srep x.number]
        ∧ t.sym = (s.fresh 4).sym ∧ t.rng.starts = s.recentStarts s.tim.rt.toNat ++ [s.tim.rt.toNat]
        ∧ (∀ y ∈ t.rng.sessions, y.number = x.number → y.begun = true ∧ y.rtS = s.tim.rt.toNat ∧ y.csent = beNat (s.drawn 4))
        ∧ (∀ y ∈ s.rng.sessions, y.number ≠ x.number → y ∈ t.rng.sessions)
        ∧ t = { s with regs := t.regs, sym := t.sym, rng := t.rng, rf := t.rf, net := t.net, draws := t.draws }))
  ∧ (∀ (s : State) (pos : Fin 8) (h : Hold) (x : Sess), s.lf.hold = some h → (∀ m ∈ h.members, m.cry = 0 ∨ m.cry = 4) →
      s.rng.sessions.find? (fun x => x.req == h.id && x.pos == pos.val) = some x → h.phase = .cry → x.entry = true → x.begun = false →
      s.canRange = true → 16 ≤ (s.recentStarts s.tim.rt.toNat).length → exec (.exchangeStart pos) s = .next (s.defer x.number 0x0701))
  ∧ (∀ (s : State) (pos : Fin 8), s.lf.hold = none → exec (.exchangeStart pos) s = .next s)
  ∧ (∀ (s : State) (pos : Fin 8) (frame raw : Bytes) (rounds : List (List ChainHit)) (h : Hold) (x : Sess), s.lf.hold = some h →
      s.rng.sessions.find? (fun x => x.req == h.id && x.pos == pos.val) = some x → s.rng.onAir = some x.number →
      s.onRadio (.srep x.number) = true → crcGood frame = none →
      completes (.srepReceive pos frame rounds raw) s (fun t => t.rng.onAir = none
        ∧ (∀ y ∈ t.rng.sessions, y.number = x.number → y.srep = none ∧ y.rounds = rounds ∧ y.raw = raw) ∧ t = { s with rng := t.rng, net := t.net }))
  ∧ (∀ (s : State) (pos : Fin 8) (frame raw b : Bytes) (rounds : List (List ChainHit)) (h : Hold) (x : Sess), s.lf.hold = some h →
      s.rng.sessions.find? (fun x => x.req == h.id && x.pos == pos.val) = some x → s.rng.onAir = some x.number →
      s.onRadio (.srep x.number) = true → crcGood frame = some b → frame.length = 165 → u8 b 0 = 0x42 → u8 b 1 = x.slot →
      completes (.srepReceive pos frame rounds raw) s (fun t => t.rng.onAir = none
        ∧ (∀ y ∈ t.rng.sessions, y.number = x.number → y.srep = some b
            ∧ y.macBad = (slice b 155 8 != s.slotMac 0x08 x.slot x.tid (x.c ++ slice b 2 153) 8)) ∧ t = { s with rng := t.rng, net := t.net }))
  ∧ (∀ (s : State) (c : RadioCmd) (rest : List RadioCmd) (n : Nat), s.rf.onAir = none → s.rf.queue = c :: rest → c.op = .sweep → c.job = .sweep n →
      s.upd.loading = none → s.rtReached c.start = true → completes .lockDetect s (fun t => t.rng.onAir = some n ∧ t.rf.tones = s.sweepTones
        ∧ t.rf.lent = !s.oneSyn ∧ (∀ y ∈ t.rng.sessions, y.number = n → y.rtS = s.tim.rt.toNat)
        ∧ (∀ y ∈ s.rng.sessions, y.number ≠ n → y ∈ t.rng.sessions) ∧ t = { s with regs := t.regs, rf := t.rf, rng := t.rng }))
  ∧ (∀ (s : State) (x : Sess) (b : Bytes) (d : Dsp), (s.computeFull x b d).relay = true →
      Nat.testBit (s.computeFull x b d).res.flags 0 = false ∧ Nat.testBit (s.computeFull x b d).res.flags 1 = false
      ∧ Nat.testBit (s.computeFull x b d).res.flags 4 = true ∧ Nat.testBit (s.computeFull x b d).res.flags 5 = false
      ∧ (s.computeFull x b d).res.dbCm = 0xFFFF ∧ (s.computeFull x b d).res.zone = 0xFF)
  ∧ (∀ (s : State) (x : Sess) (b : Bytes) (d : Dsp), (countClass .wrong (classifyAll x.chains x.turn x.delays (s.slotMac 0x07 x.slot x.tid x.c 16) (be b 146 4)
        x.rounds) ≠ 0 ∨ 4 ≤ countClass .late (classifyAll x.chains x.turn x.delays (s.slotMac 0x07 x.slot x.tid x.c 16) (be b 146 4) x.rounds)) →
      (s.computeFull x b d).relay = true)
  ∧ (∀ (m n turn delay : Nat), m ≤ n → roundDistance m turn delay ≤ roundDistance n turn delay)
  ∧ (∀ (s : State) (x : Sess) (code : Nat), (s.computeLf x code).relay = false ∧ Nat.testBit (s.computeLf x code).res.flags 1 = false
      ∧ (s.computeLf x code).res.dbCm = 0xFFFF)

/-- R35, R200, R202, R316, R317: DRIFT_RESET clears the offsets of the vault and of RNG; the second double-bit error of a bank within 24 h maps it out;
the oldest capture that waits takes a storage buffer, and its analysis waits for a tile. -/
def Obligations.DriftBanksAndCaptures : Prop :=
  (∀ s : State, completes .driftReset s (fun t => t.rng.drift = List.replicate 32 0 ∧ t.vault.drift = List.replicate 32 0 ∧ t.rng.samples = 0
        ∧ (∀ n, n < 8 → t.reg (0x5060 + 4 * n) = 0) ∧ t.fuses = s.fuses ∧ t.vault.keyring = s.vault.keyring))
  ∧ (∀ (s : State) (b : Fin 4), s.net.banksOut.getD b.val true = false → (s.net.bankErrs.getD b.val []).filter (fun t => s.mt ≤ t + 86400000000) = [] →
      exec (.shmemDoubleBitError b) s = .next { s with net := { s.net with bankErrs := s.net.bankErrs.set b.val [s.mt] } })
  ∧ (∀ (s : State) (b : Fin 4) (e : Nat), s.net.banksOut = List.replicate 4 false → (s.net.bankErrs.getD b.val []).filter (fun t => s.mt ≤ t + 86400000000) = [e] →
      completes (.shmemDoubleBitError b) s (fun t => t.net.banksOut = s.net.banksOut.set b.val true ∧ t.net.freePool = 0 ∧ t.net.buffers = 192
        ∧ t.net.captureBufs = s.net.captureBufs ∧ t.flag F.STO_STAT_BUF_REDUCED = true ∧ t.get F.STO_REASON_REASON = 0x0C11
        ∧ Nat.testBit (t.reg R.PWR_RED_STAT) 6 = true ∧ t.fuses = s.fuses ∧ t.vault = s.vault))
  ∧ (∀ (s : State) (b : Fin 4), s.net.banksOut.getD b.val true = true → exec (.shmemDoubleBitError b) s = .next s)
  ∧ (∀ (s : State) (w : CapWait) (rest : List CapWait), s.sto.waiting = w :: rest → s.sto.pendingCaps.length < s.capturePlaces → s.enabled .sto = true →
      s.nandUp = true → completes .captureAccept s (fun t => t.sto.waiting = rest ∧ t.vault.captureNo = s.vault.captureNo + 1
        ∧ t.sto.pendingCaps.length = s.sto.pendingCaps.length + 1 ∧ t.get F.RNG_EVT_CAPTURED = 1
        ∧ (∀ y ∈ t.rng.sessions, y.number ≠ w.session) ∧ t.fuses = s.fuses))
  ∧ (∀ s : State, s.sto.waiting = [] → exec .captureAccept s = .next s)

/-- R218 to R220: the policy yields an action only under a rule of the image that fits the token and fails no condition; without a fitting rule it refuses
with 0x0901, and a relay finding is never let through on the passive path. R225: a held release relocks once standstill is unbroken for RELOCK_DELAY_S
and one of its conditions holds; the outputs go off and the grant ends. A RELOCK write without standstill is refused with 0x0910, and with nothing
held it does nothing. -/
def Obligations.PolicyDeniesAndReleaseRelocks : Prop :=
  (∀ (s : State) (code : Nat) (i : PolicyIn), (s.policy code i).1 ≠ 0 →
      ∃ r ∈ s.rules, ruleFits r code i = true ∧ s.ruleFails r i = 0 ∧ (s.policy code i) = (u8 r 1, 0))
  ∧ (∀ (s : State) (code : Nat) (i : PolicyIn), (∀ r ∈ s.rules, ruleFits r code i = false) → s.policy code i = (0, 0x0901))
  ∧ (∀ (s : State) (code : Nat) (i : PolicyIn), i.path = 0 → Nat.testBit i.flags 4 = true → (s.policy code i).1 = 0)
  ∧ (∀ (s : State) (code : Nat) (i : PolicyIn), (s.policy code i).1 = 0 → (s.policy code i).2 ≠ 0)
  ∧ (∀ (s : State) (m : Nat), s.refreshRel.rel.stillMt = some m → s.rel.held = true →
      max m s.rel.delayMt + s.setting 0x0902 30 * 1000000 ≤ s.mt → s.refreshRel.relockCause (s.setting 0x0902 30 * 1000000) = true →
      exec .relockDelay s = .next s.refreshRel.relockNow)
  ∧ (∀ s : State, s.rel.held = false → exec .relockDelay s = .next s.refreshRel)
  ∧ (∀ s : State, s.rel.chanH ≤ s.rel.cmdNo → s.rel.chanL ≤ s.rel.cmdNo → s.rel.cmdNo + 1 < 2 ^ 32 →
      s.relockNow.flag F.REL_STAT_OUT_H = false ∧ s.relockNow.flag F.REL_STAT_OUT_L = false ∧ s.relockNow.get F.REL_STAT_GRANT = 0
      ∧ s.relockNow.rel.held = false ∧ s.relockNow.rel.start = none ∧ s.relockNow.get F.REL_EVT_RELOCKED = 1)
  ∧ (∀ s : State, s.standstill = false → exec .relock s = .next (s.refreshRel.reason .rel 0x0910))
  ∧ (∀ s : State, s.standstill = true → s.rel.held = false → exec .relock s = .next s.refreshRel)
  ∧ (∀ s : State, s.standstill = true → s.rel.held = true →
      exec .relock s = exec .relockDelay ({ s.refreshRel with rel := { s.refreshRel.rel with hostReq := true } }))

/-- R223, R224, R226, Table 8-4: the off-state test lets the pull-in begin or ends the start with 0x090B; the load current 5 ms after turn-on leads to the
grant or ends the start; the holding duty follows after PULL_MS; a trip or an over-temperature turns both outputs off, with one retry. A channel takes
a command only with its CRC-16 and a higher number. -/
def Obligations.StartReleaseRunsItsSteps : Prop :=
  (∀ (s : State) (st : RelStart) (t : OffTest), s.enabled .rel = true → s.outUsed = true → 2 ≤ s.island 14 → s.rel.start = some st → st.step = 2 →
      t.openLoad = false → t.hGround = false → t.lSupply = false → s.flag F.PWR_STAT_OVERVOLT = false → s.flag F.PWR_STAT_BROWNOUT = false →
      exec (.offStateTest t) s = .next ((s.noteTest t).pullIn st))
  ∧ (∀ (s : State) (st : RelStart) (t : OffTest), s.enabled .rel = true → s.outUsed = true → 2 ≤ s.island 14 → s.rel.start = some st → st.step = 2 →
      t.openLoad = true → exec (.offStateTest t) s = .next ((s.noteTest t).failStart st.code st.slot 0x090B))
  ∧ (∀ (s : State) (st : RelStart), s.rel.chanH ≤ s.rel.cmdNo → s.rel.chanL ≤ s.rel.cmdNo → s.rel.cmdNo + 1 < 2 ^ 32 →
      (s.pullIn st).flag F.REL_STAT_OUT_H = true ∧ (s.pullIn st).flag F.REL_STAT_OUT_L = true ∧ (s.pullIn st).get F.REL_STAT_PHASE = 1
      ∧ (s.pullIn st).rel = { s.rel with
          start := some { st with step := 4, onMt := s.mt, pull := true }
          cmdNo := s.rel.cmdNo + 1, chanH := s.rel.cmdNo + 1, chanL := s.rel.cmdNo + 1 })
  ∧ (∀ (s : State) (op : Nat), op < 3 → s.rel.chanH ≤ s.rel.cmdNo → s.rel.chanL ≤ s.rel.cmdNo → s.rel.cmdNo + 1 < 2 ^ 32 →
      (s.relCommand op).rel = { s.rel with cmdNo := s.rel.cmdNo + 1, chanH := s.rel.cmdNo + 1, chanL := s.rel.cmdNo + 1 }
      ∧ (s.relCommand op).flag F.REL_STAT_OUT_H = (s.switches op).flag F.REL_STAT_OUT_H
      ∧ (s.relCommand op).flag F.REL_STAT_OUT_L = (s.switches op).flag F.REL_STAT_OUT_L)
  ∧ (∀ (s : State) (w : Nat), (relNumber w ≤ s.rel.chanH ∨ relNumber w ≤ s.rel.chanL ∨ w ≠ relWord (relNumber w) (relOp w)) →
      s.channelsTake w = s)
  ∧ (∀ (s : State) (st : RelStart) (ma : BitVec 16), s.rel.tripMt = none → s.rel.hotMt = none → s.rel.start = some st → st.step = 4 → st.sends = 0 →
      s.flag F.REL_STAT_OUT_L = true → st.onMt + 5000 ≤ s.mt → le s.policySec 8 2 ≤ ma.toNat →
      exec (.releaseCurrentCheck ma) s = .next ((((s.put F.REL_OUT_DIAG_I_MA ma.toNat).event F.REL_EVT_RELEASED).bump F.REL_CNT_RELEASES).grantStep st))
  ∧ (∀ (s : State) (st : RelStart) (ma : BitVec 16), s.rel.tripMt = none → s.rel.hotMt = none → s.rel.start = some st → st.step = 4 →
      s.rel.chanH ≤ s.rel.cmdNo → s.rel.chanL ≤ s.rel.cmdNo → s.rel.cmdNo + 1 < 2 ^ 32 →
      s.flag F.REL_STAT_OUT_L = true → st.onMt + 5000 ≤ s.mt → ma.toNat < le s.policySec 8 2 →
      completes (.releaseCurrentCheck ma) s (fun t => t.rel.start = none ∧ t.rel.held = false ∧ t.flag F.REL_STAT_OUT_H = false
        ∧ t.flag F.REL_STAT_OUT_L = false ∧ t.get F.REL_OUT_DIAG_FAULT_H = 1 ∧ t.get F.REL_OUT_DIAG_FAULT_L = 1
        ∧ t.get F.REL_REASON_REASON = 0x090B ∧ t.vault.grantSeq = s.vault.grantSeq))
  ∧ (∀ (s : State) (st : RelStart), s.allAcked [] = false →
      (s.grantStep st).rel.start = some { st with
          step := 6, grantMt := s.mt, grantOn := true, sends := 1, acks := [], seq := (s.vault.grantSeq + 1) % 2 ^ 32 }
      ∧ (s.grantStep st).get F.REL_STAT_GRANT = 1 ∧ (s.grantStep st).rel.held = true
      ∧ (s.grantStep st).vault.grantSeq = (s.vault.grantSeq + 1) % 2 ^ 32)
  ∧ (∀ (s : State) (st : RelStart), s.rel.tripMt = none → s.rel.start = some st → st.pull = true → st.grantOn = true → 6 ≤ st.step →
      st.onMt + le s.policySec 6 2 * 1000 ≤ s.mt →
      exec .holdPwm s = .next ((s.relCommand relHold).setStart (some { st with pull := false })))
  ∧ (∀ (s : State) (st : RelStart) (b : Bool), s.flag F.REL_STAT_OUT_H = true → s.rel.retried = false → s.rel.start = some st →
      completes (.overCurrentTrip b) s (fun t => t.flag F.REL_STAT_OUT_H = false ∧ t.flag F.REL_STAT_OUT_L = false
        ∧ t.rel = { s.rel with retried := true, tripMt := some (s.mt + 10000), start := some { st with step := 4 } }
        ∧ t.vault = s.vault ∧ t.fuses = s.fuses))
  ∧ (∀ (s : State) (b : Bool), s.flag F.REL_STAT_OUT_H = false → s.flag F.REL_STAT_OUT_L = false →
      exec (.overCurrentTrip b) s = .next s)
  ∧ (∀ s : State, s.flag F.REL_STAT_OUT_H = false → s.flag F.REL_STAT_OUT_L = false → completes (.releaseOvertemp true false) s (fun t =>
        t.get F.REL_OUT_DIAG_FAULT_L = 5 ∧ t.get F.REL_REASON_REASON = 0x0915 ∧ t.get F.REL_EVT_OUT_FAULT = 1
        ∧ t.rel = { s.rel with hotMt := some s.mt, diagBad := true } ∧ t = { s with regs := t.regs, rel := t.rel }))
  ∧ (∀ (s : State) (st : RelStart) (m : Nat) (b : Bool), s.rel.hotMt = some m → m + 1000000 ≤ s.mt → s.rel.start = some st → st.step = 4 →
      s.flag F.REL_STAT_OUT_L = false →
      exec (.releaseOvertemp b true) s = .next (({ s with rel := { s.rel with hotMt := none } }).pullIn st))

/-- R227, R228, R461: an acknowledgement of the last REQUIRED role accepts the start, its refusal and the end of the wait fail it with 0x090D; grants are
sent again twice; a message that fails its MAC or counter is discarded and counted; a verified STATUS stands for 300 ms; what comes in phases 1 to 8
is latched. -/
def Obligations.PartnersAnswerGrants : Prop :=
  (∀ (s : State) (p : Fin 3) (id : Word) (msg : Bytes) (r : Nat) (st : RelStart), s.msgRole p.val id msg = some r → s.latching = false → u8 msg 0 = 0x52 →
      s.msgCheck r 0x21 10 msg = 0 → s.rel.start = some st → be msg 2 4 = s.vault.deviceTag → be msg 6 4 = st.seq → st.step = 6 →
      st.grantOn = true → u8 msg 14 = 0 → s.allAcked (st.acks ++ [r]) = true → st.acks.contains r = false →
      completes (.grantAck p id msg) s (fun t => t.get F.REL_STAT_GRANT = 2 ∧ t.vault.pctr = s.vault.pctr.set r (be msg 10 4)
        ∧ t.vault.grantSeq = s.vault.grantSeq ∧ t.fuses = s.fuses
        ∧ (t.rel.start = none ∨ t.rel.start = some { st with acks := st.acks ++ [r], grantOn := false })))
  ∧ (∀ (s : State) (p : Fin 3) (id : Word) (msg : Bytes) (r : Nat) (st : RelStart), s.msgRole p.val id msg = some r → s.latching = false → u8 msg 0 = 0x52 →
      s.msgCheck r 0x21 10 msg = 0 → s.rel.start = some st → be msg 2 4 = s.vault.deviceTag → be msg 6 4 = st.seq → st.step = 6 →
      st.grantOn = true → u8 msg 14 ≠ 0 →
      completes (.grantAck p id msg) s (fun t => t.get F.REL_STAT_GRANT = 3 ∧ t.get F.REL_REASON_REASON = 0x090D
        ∧ t.get F.REL_EVT_GRANT_FAIL = 1))
  ∧ (∀ (s : State) (p : Fin 3) (id : Word) (msg : Bytes) (r : Nat), s.msgRole p.val id msg = some r → s.latching = false → u8 msg 0 = 0x52 →
      s.msgCheck r 0x21 10 msg ≠ 0 → exec (.grantAck p id msg) s = .next (s.badMsg r (s.msgCheck r 0x21 10 msg)))
  ∧ (∀ (s : State) (p : Fin 3) (id : Word) (msg : Bytes), s.msgRole p.val id msg = none → s.latching = false → exec (.grantAck p id msg) s = .next s)
  ∧ (∀ (s : State) (p : Fin 3) (id : Word) (msg : Bytes) (mac : Nat), s.latching = true →
      exec (.grantAck p id msg) s = .next (s.latch (.grantAck p.val id.toNat msg))
      ∧ exec (.status p id msg mac) s = .next (s.latch (.status p.val id.toNat msg mac)))
  ∧ (∀ (s : State) (st : RelStart), s.rel.start = some st → st.step = 6 → st.sends < 3 → s.flag F.PWR_STAT_BROWNOUT = false →
      st.grantMt + 100000 * st.sends ≤ s.mt →
      exec .grantTimeout s = .next ((s.sendGrants st).setStart (some { st with sends := st.sends + 1 })))
  ∧ (∀ (s : State) (st : RelStart), s.rel.start = some st → st.step = 6 → st.sends = 3 → st.grantOn = true → s.flag F.PWR_STAT_BROWNOUT = false →
      st.grantMt + 300000 ≤ s.mt →
      completes .grantTimeout s (fun t => t.get F.REL_STAT_GRANT = 3 ∧ t.get F.REL_REASON_REASON = 0x090D ∧ t.get F.REL_EVT_GRANT_FAIL = 1
        ∧ t.vault.grantSeq = s.vault.grantSeq ∧ t.fuses = s.fuses))
  ∧ (∀ (s : State) (p : Fin 3) (id : Word) (msg : Bytes) (mac r : Nat), s.msgRole p.val id msg = some r → s.latching = false → u8 msg 0 = 0x53 →
      s.rel.pairing = none →
      s.msgCheck r 0x22 6 msg = 0 → be msg 2 4 = s.vault.deviceTag →
      exec (.status p id msg mac) s = .next ((((s.takeMac r p.val mac).takeStatus r msg)).relockIfDue))
  ∧ (∀ (s : State) (p : Fin 3) (id : Word) (msg : Bytes) (mac r : Nat), s.msgRole p.val id msg = some r → s.latching = false → u8 msg 0 = 0x53 →
      s.rel.pairing = none →
      s.msgCheck r 0x22 6 msg ≠ 0 → exec (.status p id msg mac) s
        = .next ((s.badMsg r (s.msgCheck r 0x22 6 msg)).noStill r (s.roleWork r).mt))
  ∧ (∀ (s : State) (r : Nat) (msg : Bytes), (s.takeStatus r msg).rel.roles
      = s.rel.roles.set r ⟨Nat.testBit (u8 msg 10) 0, Nat.testBit (u8 msg 10) 1, some s.mt⟩
      ∧ (s.takeStatus r msg).vault = { s.vault with pctr := s.vault.pctr.set r (be msg 6 4) })
  ∧ (∀ (s : State) (r : Fin 8) (m : Nat), (s.roleWork r.val).mt = some m → m + 300000 < s.mt → exec (.statusStale r) s
      = .next (({ s with rel := { s.rel with roles := s.rel.roles.set r.val ⟨(s.roleWork r.val).run, false, none⟩ } }).refreshRel))
  ∧ (∀ (s : State) (r : Fin 8) (m : Nat), (s.roleWork r.val).mt = some m → s.mt ≤ m + 300000 → exec (.statusStale r) s = .next s)

/-- R229, Sequence 8-2: PAIR with a valid authorisation finds its partner among those heard, derives the partner key and sends PING; a wrong authorisation
is refused with 0x0911; 5 s without a STATUS end it with 0x0913. UNPAIR of an unpaired role does nothing. R78, R454, R455, Table 16-11: a discovery
frame of phases 1 to 8 is latched; a discovery message whose PID hashes from its key is counted and listed, the seventeenth unpaired device in place
of the one heard least recently, a paired partner is noted apart, any other is refused with 0x1017; an announcement goes out on each discovery path
that is up, with QUERY when a path comes up, then every 2 s; entries unheard for 600 s are dropped; PARTNER_LIST answers 8 role records and the listed
devices. -/
def Obligations.PartnersArePairedAndDiscovered : Prop :=
  (∀ (s : State) (role : BitVec 8) (pid : BitVec 64) (auth : Bytes), s.mbReady 0x0901 (toLE 1 role.toNat ++ toBE 8 pid.toNat ++ auth) →
      let b := s.begun 0x0901 (toLE 1 role.toNat ++ toBE 8 pid.toNat ++ auth)
      let a := b.checkAuth 1 (toLE 1 role.toNat ++ toBE 8 pid.toNat) auth
      auth.length = b.authLen → a.2 ≠ 0 →
      exec (.pair role pid auth) s = .next ((a.1.reason .rel 0x0911).finish 0x0911 []))
  ∧ (∀ (s : State) (role : BitVec 8) (pid : BitVec 64) (auth : Bytes) (d : Disc) (px : KeyRec),
      s.mbReady 0x0901 (toLE 1 role.toNat ++ toBE 8 pid.toNat ++ auth) →
      let b := s.begun 0x0901 (toLE 1 role.toNat ++ toBE 8 pid.toNat ++ auth)
      let a := b.checkAuth 1 (toLE 1 role.toNat ++ toBE 8 pid.toNat) auth
      let t := a.1.announceOn true
      auth.length = b.authLen → a.2 = 0 → a.1.ringLocked = false → a.1.keys.prep = .none → a.1.entropyFailed = false →
      (t.hif.disc ++ t.hif.discPaired).find? (fun d => d.pid == pid.toNat && decide (t.mt ≤ d.mt + 60000000) && d.kind == t.roleKind role.toNat
        && beNat ((Crypto.sha512 d.key).take 8) == pid.toNat) = some d →
      t.keyRec? 6 pxkIndex = some px → role.toNat < t.nRole →
      completes (.pair role pid auth) s (fun u => u.keys.prep = .pairing ∧ u.vault.grantSeq = (t.vault.grantSeq + 1) % 2 ^ 32
        ∧ u.rel.pairing = some ⟨role.toNat, pid.toNat, d.key, Crypto.kdf (Crypto.ecdh px.key d.key) "PART"
            (toBE 4 t.vault.deviceTag ++ toBE 8 pid.toNat ++ toBE 1 role.toNat), d.mac, t.mt⟩
        ∧ u.hif.executing = none ∧ u.fuses = s.fuses ∧ u.vault.keyring = s.vault.keyring))
  ∧ (∀ (s : State) (p : Pairing), s.rel.pairing = some p → p.mt + 5000000 ≤ s.mt → exec .pairTimeout s
      = .next ((({ s with rel := { s.rel with pairing := none }, keys := { s.keys with prep := .none } }).refreshKeys).reason .rel 0x0913))
  ∧ (∀ s : State, s.rel.pairing = none → exec .pairTimeout s = .next s)
  ∧ (∀ (s : State) (role : BitVec 8) (auth : Bytes), s.mbReady 0x0902 (toLE 1 role.toNat ++ auth) →
      let b := s.begun 0x0902 (toLE 1 role.toNat ++ auth)
      let a := b.checkAuth 2 (toLE 1 role.toNat) auth
      auth.length = b.authLen → a.2 = 0 → a.1.ringLocked = false → a.1.keys.prep = .none → a.1.rolePaired role.toNat = false →
      exec (.unpair role auth) s = .next (a.1.finish 0 []))
  ∧ (∀ (s : State) (role : BitVec 8) (auth : Bytes), s.mbReady 0x0902 (toLE 1 role.toNat ++ auth) →
      let b := s.begun 0x0902 (toLE 1 role.toNat ++ auth)
      let a := b.checkAuth 2 (toLE 1 role.toNat) auth
      let c := a.1.commitGen (a.1.ring.filter (fun x => !(x.kind == 3 && x.index == role.toNat))) true
      auth.length = b.authLen → a.2 = 0 → a.1.ringLocked = false → a.1.keys.prep = .none → a.1.rolePaired role.toNat = true → c.2 = 0 →
      exec (.unpair role auth) s
        = .next ((((c.1.unpairDisc ((a.1.partnerKey role.toNat).map (·.pub))).keyEvent 0x0902 0).refreshRel).finish 0 []))
  ∧ (∀ (s : State) (payload : Bytes) (mac : Nat), s.latching = false → s.discPorts.contains 2 = true → s.portUp 2 = true → 148 ≤ payload.length →
      exec (.discoveryReceive 2 payload mac) s = .next (s.discMsg 2 mac (payload.take 148)))
  ∧ (∀ (s : State) (port : Fin 3) (payload : Bytes) (mac : Nat), s.latching = true →
      exec (.discoveryReceive port payload mac) s = .next (s.latch (.discovery port.val payload mac)))
  ∧ (∀ (s : State) (port : Fin 3) (payload : Bytes) (mac : Nat), s.latching = false → s.discPorts.contains port.val = false →
      exec (.discoveryReceive port payload mac) s = .next s)
  ∧ (∀ (s : State) (port : Fin 3) (payload : Bytes) (mac : Nat), s.latching = false → s.discPorts.contains port.val = true → s.portUp port.val = true →
      port.val ≠ 2 → payload.length = 64 → u8 payload 0 ≤ 2 → exec (.discoveryReceive port payload mac) s = .next (s.discPartIn port.val payload))
  ∧ (∀ (s : State) (port mac : Nat) (m : Bytes), u8 m 0 = 0x61 → u8 m 2 = 1 → s.pidPaired (be m 4 8) = false →
      let d : Disc := ⟨be m 4 8, u8 m 1, port, padTo 132 (m.drop 0x10), mac, s.mt⟩
      let l := s.hif.disc.filter (fun x => x.pid != d.pid) ++ [d]
      if beNat ((Crypto.sha512 d.key).take 8) = d.pid then
        (s.discMsg port mac m).hif.disc = l.drop (l.length - 16) ∧ (s.discMsg port mac m).hif.discPaired = s.hif.discPaired
          ∧ (s.discMsg port mac m).hif.disc.length ≤ 16 ∧ (s.discMsg port mac m).hif.query = (s.hif.query || Nat.testBit (u8 m 3) 0)
      else s.discMsg port mac m = s.reason .hif 0x1017)
  ∧ (∀ (s : State) (port mac : Nat) (m : Bytes), u8 m 0 = 0x61 → u8 m 2 = 1 → s.pidPaired (be m 4 8) = true →
      let d : Disc := ⟨be m 4 8, u8 m 1, port, padTo 132 (m.drop 0x10), mac, s.mt⟩
      if beNat ((Crypto.sha512 d.key).take 8) = d.pid then
        (s.discMsg port mac m).hif.discPaired = hear s.hif.discPaired d ∧ (s.discMsg port mac m).hif.disc = s.hif.disc
          ∧ (s.discMsg port mac m).rel = { s.rel with macs := s.learnMacs d }
      else s.discMsg port mac m = s.reason .hif 0x1017)
  ∧ (∀ (s : State) (k : KeyRec), s.island 13 = 2 → s.discPorts.any s.portUp = true → s.keyRec? 6 pxkIndex = some k →
      s.hif.announceMt + 2000000 ≤ s.mt →
      exec (.discoveryAnnounce false) s = .next (
        let s1 := { s with hif := { s.hif with query := false, announce := (s.hif.announce + 1) % 2 ^ 32, announceMt := s.mt } }
        { s1 with hif := { s1.hif with discSent := (s.discPorts.filter s.portUp).flatMap (fun p => discFrames p (s1.discMessage false k.pub)) } }))
  ∧ (∀ (s : State) (k : KeyRec), s.island 13 = 2 → s.discPorts.any s.portUp = true → s.keyRec? 6 pxkIndex = some k →
      s.hif.linkUp = true →
      exec (.discoveryAnnounce true) s = .next (
        let s1 := { s with hif := { s.hif with query := false, linkUp := false, announce := (s.hif.announce + 1) % 2 ^ 32, announceMt := s.mt } }
        { s1 with hif := { s1.hif with discSent := (s.discPorts.filter s.portUp).flatMap (fun p => discFrames p (s1.discMessage true k.pub)) } }))
  ∧ (∀ s : State, s.hif.query = false → s.mt < s.hif.announceMt + 2000000 → exec (.discoveryAnnounce false) s = .next s)
  ∧ (∀ s : State, exec .discoveryAgeOut s = .next (
      let l := s.hif.disc.filter (fun d => decide (s.mt < d.mt + 600000000))
      { s with hif := { s.hif with disc := l } }.put F.HIF_DISC_UNPAIRED l.length))
  ∧ (∀ s : State, s.mbReady 0x0903 [] →
      let b := s.begun 0x0903 []
      exec .partnerList s = .next (b.finish 0 ((List.range 8).flatMap b.roleRecord
        ++ s.hif.disc.flatMap (fun d => listRecord d.pid d.kind d.port 0 0xFF d.mt))))

/-- R240, R242, R252: a request that the checks of Table 9-5 admit joins the queue of its engine behind those that wait, whatever its operation, with its
class and its place; the mailbox's request waits with its command. R242, R243, R258: a request that a check refuses is answered at once with its code
and changes nothing else but the counts of R255; each refusal names the first check that fails, and a failed entropy source refuses what draws with
prediction resistance. What waits is checked again as it begins. -/
def Obligations.CipherRequestsJoinOrAreRefused : Prop :=
  (∀ (s : State) (m : BitVec 4) (k : Bool) (d x : Bytes),
    (s.symAdmits m.toNat k (withOp 0x02 d) false → exec (.decrypt m k d x) s = .next (s.symJoined m.toNat k (withOp 0x02 d) x false true))
    ∧ (s.symAdmits m.toNat k (withOp 0x03 d) false → exec (.macGenerate m k d x) s = .next (s.symJoined m.toNat k (withOp 0x03 d) x false true))
    ∧ (s.symAdmits m.toNat k (withOp 0x04 d) false → exec (.macVerify m k d x) s = .next (s.symJoined m.toNat k (withOp 0x04 d) x false true))
    ∧ (s.symAdmits m.toNat k (withOp 0x05 d) false → exec (.derive m k d x) s = .next (s.symJoined m.toNat k (withOp 0x05 d) x false true))
    ∧ (s.symAdmits m.toNat k (withOp 0x06 d) false → exec (.wrap m k d x) s = .next (s.symJoined m.toNat k (withOp 0x06 d) x false true))
    ∧ (s.symAdmits m.toNat k (withOp 0x07 d) false → exec (.unwrap m k d x) s = .next (s.symJoined m.toNat k (withOp 0x07 d) x false true))
    ∧ (s.symAdmits m.toNat k (withOp 0x10 d) false → exec (.hash m k d x) s = .next (s.symJoined m.toNat k (withOp 0x10 d) x false true))
    ∧ (s.symAdmits m.toNat k (withOp 0x20 d) false →
        exec (.keyPairGenerate m k d x) s = .next (s.symJoined m.toNat k (withOp 0x20 d) x false true))
    ∧ (s.symAdmits m.toNat k (withOp 0x21 d) false → exec (.sign m k d x) s = .next (s.symJoined m.toNat k (withOp 0x21 d) x false true))
    ∧ (s.symAdmits m.toNat k (withOp 0x22 d) false →
        exec (.signatureVerify m k d x) s = .next (s.symJoined m.toNat k (withOp 0x22 d) x false true))
    ∧ (s.symAdmits m.toNat k (withOp 0x23 d) false → exec (.ecdh m k d x) s = .next (s.symJoined m.toNat k (withOp 0x23 d) x false true))
    ∧ (s.symAdmits m.toNat k (withOp 0x30 d) false → exec (.random m k d x) s = .next (s.symJoined m.toNat k (withOp 0x30 d) x false true))
    ∧ (s.symAdmits m.toNat k (withOp 0x41 d) false →
        exec (.contextImport m k d x) s = .next (s.symJoined m.toNat k (withOp 0x41 d) x false true))
    ∧ (s.symAdmits m.toNat k (withOp 0x42 d) false → exec (.contextFree m k d x) s = .next (s.symJoined m.toNat k (withOp 0x42 d) x false true)))
  ∧ (∀ (s : State) (m : BitVec 4) (k : Bool) (d x : Bytes) (ok : Bool), s.symAdmits m.toNat k (withOp 0x40 d) false →
      exec (.contextExport m k d x ok) s = .next (s.symJoined m.toNat k (withOp 0x40 d) x false ok))
  ∧ (∀ (s : State) (m : BitVec 4) (k : Bool) (d x : Bytes) (ok : Bool), s.symAdmits m.toNat k (withOp 0x01 d) false →
      exec (.encrypt m k d x ok) s = .next (s.symJoined m.toNat k (withOp 0x01 d) x false ok))
  ∧ (∀ (s : State) (input : Bytes) (env : Env), s.mbReady 0x0A01 input → 64 ≤ input.length →
      (input.drop 64).length = srcLen (input.take 64) → (s.begun 0x0A01 input).symAdmits 4 false (input.take 64) true →
      exec (.cipher input env) s = .next ((s.begun 0x0A01 input).symJoined 4 false (input.take 64) (input.drop 64) true env.commitOk))
  ∧ (∀ (s : State) (m : BitVec 4) (k : Bool) (d x : Bytes) (c : Nat), s.portRefusal m.toNat k = 0 → s.symCheck (withOp 0x02 d) m.toNat k false = c →
      c ≠ 0 → c ≠ 0x0A06 → c ≠ 0x0A07 → c ≠ 0x0A09 →
      exec (.decrypt m k d x) s = .next { s with sym := { s.sym with last := some ⟨m.toNat, k, symResponse c 0xFF 0xFF 0 [] [], []⟩ } })
  ∧ (∀ (s : State) (m : BitVec 4) (d x : Bytes), s.islandFailed 8 = true →
      exec (.random m true d x) s = .next { s with sym := { s.sym with last := some ⟨m.toNat, true, symResponse 0x0123 0xFF 0xFF 0 [] [], []⟩ } })
  ∧ (∀ (s : State) (d : Bytes) (m : Nat) (k b : Bool), descValid d b = false → s.symCheck d m k b = 0x0A01)
  ∧ (∀ (s : State) (d : Bytes) (m : Nat), descValid d false = true → dOp d = 0x30 → dFlag d 0 = true → dFlag d 1 = true → dFlag d 3 = true →
      lenOk d true = true → s.entropyFailed = true → s.symCheck d m true false = 0x0A0D)
  ∧ (∀ (s : State) (r : SymReq), s.symCheck r.desc r.master r.keeper r.mailbox ≠ 0 →
      s.beginReq r = (s, s.symCheck r.desc r.master r.keeper r.mailbox, r))

/-- R244 to R247: a stream never gives a nonce twice: each issue moves its counter on, past its reservation only after the vault holds the next one, and a
failed reservation gives none; an authenticated decrypt whose tag fails yields no output, and none of its output passes before its last segment. R241,
R252 to R257: an engine runs the best of its requests a segment at a time, not another P-521 operation before one in progress has ended; the last
segment ends the request: a hash of one part gives SHA-512 of its data, RANDOM the bytes that the DRBG generates, a MAC verify 0 or 0x0A06. -/
def Obligations.NoncesAreFreshAndCipherResponsesComplete : Prop :=
  (∀ (s t : State) (id : Nat) (ok : Bool) (n : Bytes), s.issueNonce id ok = (t, some n) →
      n = s.nonceBytes id (s.nonceStream id).next ∧ (t.nonceStream id).next = (s.nonceStream id).next + 1
        ∧ ((s.nonceStream id).next < (s.nonceStream id).hi → t.vault = s.vault)
        ∧ ((s.nonceStream id).hi ≤ (s.nonceStream id).next → t.nonceLimit id = (s.nonceStream id).hi + 65536
            ∧ (t.nonceStream id).hi = (s.nonceStream id).hi + 65536))
  ∧ (∀ (s : State) (id : Nat), (s.nonceStream id).hi ≤ (s.nonceStream id).next → (s.issueNonce id false).2 = none
      ∧ (s.issueNonce id false).1.vault = s.vault ∧ (s.issueNonce id false).1.get F.SYM_REASON_REASON = 0x0A1A)
  ∧ (∀ d x key : Bytes, dMode d = 1 ∨ dMode d = 2 → (runDecrypt d x key).1 = 0 ∨ runDecrypt d x key = (0x0A06, []))
  ∧ (∀ (s : State) (r : SymReq), r.mailbox = false → ∃ x, (s.finishReq r).sym.last = some x ∧ (le x.resp 0 2 = 0 ∨ x.out = []))
  ∧ (∀ r : SymReq, buffered r.desc = true → r.done ≤ segmentsOf r.desc → r.passed = 0)
  ∧ (∀ (s : State) (l : List (Fin 7 × Nat)), s.sym.queue = [] → exec (.cipherResponse l) s = .next s)
  ∧ (∀ (s : State) (e : Fin 7) (r : SymReq), s.pickOn (engineCode e) = some r → r.begun = true → r.left ≤ 1 →
      exec (.cipherResponse [(e, 1)]) s = .next ((s.countSegment (engineCode e) r.cls).finishReq r))
  ∧ (∀ (s : State) (e : Fin 7) (r : SymReq), s.pickOn (engineCode e) = some r → r.begun = true → 1 < r.left →
      SymReq.failed { r with left := r.left - 1 } = false → SymReq.passed { r with left := r.left - 1 } ≤ r.written →
      exec (.cipherResponse [(e, 1)]) s = .next ((s.countSegment (engineCode e) r.cls).putReq { r with left := r.left - 1 }))
  ∧ (∀ (s : State) (e : Nat) (r x : SymReq), (s.ready e).find? (fun r => r.begun && opQueue (dOp r.desc) == 3) = some r → s.pickOn e = some x → x = r)
  ∧ (∀ (s : State) (r : SymReq), dOp r.desc = 0x10 → dSingle r.desc = true → r.slot = 0xFF → s.sym.ctx.length = 32 →
      s.symProcess r = ((s, 0, Crypto.sha512 (reqData r.desc r.input), []), 0xFF))
  ∧ (∀ (s : State) (r : SymReq), dOp r.desc = 0x30 → dFlag r.desc 3 = false →
      s.symProcess r = ((s.fresh (dLen r.desc), 0, s.drawn (dLen r.desc), []), 0xFF))
  ∧ (∀ (s : State) (r : SymReq), dOp r.desc = 0x04 → s.symProcess r = ((s,
        if (Crypto.cmac r.key (reqData r.desc r.input)).take (dTag r.desc) = padTo (dTag r.desc) (reqTail r.desc r.input) then 0 else 0x0A06, [], []), 0xFF))
  ∧ (∀ (r : SymReq) (l : List SymReq), bestReq l = some r → r ∈ l ∧ ∀ x ∈ l, r.cls ≤ x.cls)

/-- R256 to R258, R260: a pipeline's fault reruns its segment on the other, is counted and journaled with 0x0A0F; its third within 24 h fails it with
0x0A10 and moves its requests; a failed SHA-512 or P-521 engine passes to firmware; three bad batches fail the entropy source, and a passing retry
brings it back; the DRBG reseeds each 10 s awake. -/
def Obligations.CipherEnginesAndEntropyFail : Prop :=
  (∀ (s : State) (p : Fin 2), s.enabled .sym = true → s.engineFailed p.val = false → (s.pipeFaults p.val).length < 2 →
      exec (.pipelineFault p) s = .next (((((({ s with sym := { s.sym with faults := s.sym.faults.set p.val (s.pipeFaults p.val ++ [s.mt]) } }).rerunSegment
        p.val).event F.SYM_EVT_PIPE_FAULT).bump F.SYM_CNT_PIPE_FAULT).reason .sym 0x0A0F).journal 0x0A01 0x0A0F .sym 0 (toLE 1 p.val)))
  ∧ (∀ (s : State) (p : Nat) (r : SymReq), s.pickOn p = some r → s.engineFailed (1 - p) = false →
      s.rerunSegment p = s.putReq { r with engine := 1 - p })
  ∧ (∀ (s : State) (p : Fin 2), s.enabled .sym = true → s.sym.failed = [false, false, false, false] → (s.pipeFaults p.val).length = 2 →
      completes (.pipelineFault p) s (fun t => t.engineFailed p.val = true ∧ t.flag (F.SYM_PIPEn_STAT_FAILED p.val) = true
        ∧ t.get F.SYM_REASON_REASON = 0x0A10 ∧ t.get F.SYM_EVT_ENGINE_FAILED = 1 ∧ (∀ r ∈ t.sym.queue, r.engine ≠ p.val)
        ∧ t.sym.queue.length = s.sym.queue.length ∧ Nat.testBit (t.reg R.PWR_RED_STAT) 2 = true))
  ∧ (∀ s : State, s.enabled .sym = true → s.sym.failed = [false, false, false, false] → completes (.engineFault true) s (fun t =>
        t.engineFailed 3 = true ∧ t.flag F.SYM_STAT_SHA_FB = true ∧ t.flag F.SYM_STAT_SHA_OK = false ∧ t.get F.SYM_REASON_REASON = 0x0A13
        ∧ (∀ r ∈ t.sym.queue, r.engine ≠ 2) ∧ t = { s with regs := t.regs, sym := t.sym }))
  ∧ (∀ s : State, s.enabled .sym = true → s.sym.failed = [false, false, false, false] → completes (.engineFault false) s (fun t =>
        t.engineFailed 2 = true ∧ t.flag F.SYM_STAT_PK_FB = true ∧ t.flag F.SYM_STAT_PK_OK = false ∧ t.get F.SYM_REASON_REASON = 0x0A12
        ∧ t = { s with regs := t.regs, sym := t.sym }))
  ∧ (∀ (s : State) (l : List Bool), s.enabled .sym = true → s.entropyFailed = false → l ≠ [] → proportion l = false →
      (repetition l s.sym.rctLast s.sym.rctRun false).2.2 = false →
      exec (.entropyBatch l) s = .next { s with sym := { s.sym with
        rctLast := (repetition l s.sym.rctLast s.sym.rctRun false).1, rctRun := (repetition l s.sym.rctLast s.sym.rctRun false).2.1
        batches := 0, passMt := s.mt, firstSeed := true, seed := if s.sym.firstSeed then some (conditioned l) else s.sym.seed } })
  ∧ (∀ (s : State) (l : List Bool), s.enabled .sym = true → s.entropyFailed = false → l ≠ [] → 2 ≤ s.sym.batches →
      ((repetition l s.sym.rctLast s.sym.rctRun false).2.2 = true ∨ proportion l = true) → completes (.entropyBatch l) s (fun t =>
        t.flag F.SYM_ENT_FAILED = true ∧ t.flag F.SYM_STAT_ENT_OK = false ∧ t.get F.SYM_EVT_ENT_FAILED = 1 ∧ t.get F.SYM_REASON_REASON = 0x0A0E
        ∧ Nat.testBit (t.reg R.PWR_RED_STAT) 16 = true ∧ t.sym.batches = 0 ∧ t.sym.retryMt = s.mt ∧ t.sym.seed = s.sym.seed
        ∧ t = { s with regs := t.regs, sym := t.sym }))
  ∧ (∀ s : State, s.enabled .sym = true → s.entropyFailed = true → completes (.entRetry true) s (fun t => t.flag F.SYM_ENT_FAILED = false
        ∧ t.flag F.SYM_STAT_ENT_OK = true ∧ Nat.testBit (t.reg R.PWR_RED_STAT) 16 = false
        ∧ t.sym = { s.sym with batches := 0, passMt := s.mt, retryMt := s.mt } ∧ t = { s with regs := t.regs, sym := t.sym }))
  ∧ (∀ (s : State) (b : Bool), s.sym.retryMt + 60000000 ≤ s.mt → exec (.entropyRetry b) s = exec (.entRetry b) s)
  ∧ (∀ (s : State) (b : Bool), s.mt < s.sym.retryMt + 60000000 → exec (.entropyRetry b) s = .next s)
  ∧ (∀ s : State, s.flag F.SYM_STAT_DRBG_OK = true → s.entropyFailed = false → s.island 8 = 2 → s.sym.seedMt + 10000000 ≤ s.mt →
      exec .drbgReseed s = .next (({ s with
        draws := s.draws + 1
        sym := { s.sym with seedMt := s.mt, seed := none, drbgKey := (Crypto.drbgReseed s.drbg s.seedNow).1
                            drbgV := (Crypto.drbgReseed s.drbg s.seedNow).2 } }).setReg R.SYM_DRBG 0))

/-- R279, R280: CHALLENGE draws 16 bytes of the DRBG, also while the entropy source is failed (an ordinary generate, R257, R258), and keeps them with
their MT; they expire after 120 s; in FIELD every check of an authorisation consumes the challenge and answers the first reason of Table 10-6 that
applies. R282: INTEGRATE, FIELD and RETIRE write the transition record and start the blow of their fuse; the answer comes with the read-back. RETIRE
zeroises first. -/
def Obligations.DealerAuthorisationAndLifecycle : Prop :=
  (∀ s : State, s.mbReady 0x0B01 [] → s.inService = true →
      exec .challenge s = .next (({ (s.begun 0x0B01 []).fresh 16 with
        keys := { s.keys with challenge := some (s.drawn 16, s.mt) } }).finish 0 (s.drawn 16)))
  ∧ (∀ (s : State) (c : Bytes) (x : Nat), s.keys.challenge = some (c, x) → x + 120000000 ≤ s.mt →
      exec .challengeExpiry s = .next { s with keys := { s.keys with challenge := none } })
  ∧ (∀ (s : State) (c : Bytes) (x : Nat), s.keys.challenge = some (c, x) → s.mt < x + 120000000 → exec .challengeExpiry s = .next s)
  ∧ (∀ (s : State) (scope : Nat) (input auth : Bytes), s.lifecycle = 3 →
      (s.checkAuth scope input auth).1.keys = { s.keys with challenge := none }
      ∧ ((s.checkAuth scope input auth).2 = 0 ↔ s.authReason scope input auth = 0)
      ∧ (s.checkAuth scope input auth).2 = s.authReason scope input auth
      ∧ (s.checkAuth scope input auth).1.vault = s.vault ∧ (s.checkAuth scope input auth).1.fuses = s.fuses)
  ∧ (∀ (s : State) (scope : Nat) (input auth : Bytes), s.keys.challenge = none → s.authReason scope input auth = 0x0B10)
  ∧ (∀ (s : State) (h : Bytes), s.mbReady 0x0B02 h → h.length = 32 → allZero h = false → s.lifecycle = 1 →
      exec (.integrate h) s = .next (({ s.begun 0x0B02 h with
        fuses := { s.fuses with custHash := h }
        vault := { s.vault with transition := some 1 }
        keys := { s.keys with blow := some (.lifecycle 1), blowReset := true, blowOp := some (0x0B02, 0) } }).event F.KEY_EVT_LC_PENDING))
  ∧ (∀ s : State, s.mbReady 0x0B03 [] → s.lifecycle = 2 → s.get F.SYS_STAT_LKG = 0 →
      (s.keyRec? 4 0).isSome = true → (s.keyRec? 5 0).isSome = true →
      exec .field s = .next (({ s.begun 0x0B03 [] with
        vault := { s.vault with transition := some 2 }
        keys := { s.keys with blow := some (.lifecycle 2), blowReset := true, blowOp := some (0x0B03, 0) } }).event F.KEY_EVT_LC_PENDING))
  ∧ (∀ s : State, s.mbReady 0x0B03 [] → s.lifecycle = 2 → s.keyRec? 4 0 = none →
      exec .field s = .next (((s.begun 0x0B03 []).reason .key 0x0B08).finish 0x0B08 []))
  ∧ (∀ s : State, s.mbReady 0x0B04 [] → s.lifecycle = 2 →
      completes (.retire []) s (fun t => t.vault.transition = some 3 ∧ t.keys.blow = some (.lifecycle 3) ∧ t.keys.blowReset = true
        ∧ t.vault.keyring = none ∧ t.vault.slots = List.replicate 64 Slot.empty
        ∧ t.sym.ctx = List.replicate 32 none ∧ t.keys.derived = false ∧ t.get F.KEY_EVT_ZEROISED = 1 ∧ t.get F.KEY_EVT_LC_PENDING = 1
        ∧ t.fuses = s.fuses ∧ t.vault.deviceTag = s.vault.deviceTag ∧ t.vault.ksn = s.vault.ksn ∧ t.vault.pctr = s.vault.pctr
        ∧ t.vault.floor = s.vault.floor ∧ t.vault.chain = s.vault.chain ∧ t.nor = s.nor ∧ t.nand = s.nand ∧ t.update = s.update))

/-- R266, R282, R290: a fuse reads blown when either element does. At the read-back a transition takes effect and its record is cleared, an epoch advance
leaves the nonces and the keyring's boot epoch to begin again; neither element blown ends the operation with 0x0B1C and no fuse changed. -/
def Obligations.FuseBlowTakesEffectAtReadBack : Prop :=
  (∀ f : Fuse, f.blown = (f.a || f.b))
  ∧ (∀ (s : State) (b : Bool) (op x : Nat), s.keys.blow = some (.lifecycle 2) → s.keys.blowReset = true →
      s.keys.blowOp = some (op, x) → s.keys.alarmWait = none → s.keys.deferred = [] →
      completes (.fuseBlowDone true b) s (fun t =>
        t.fuses = { s.fuses with lc := s.fuses.lc.set 2 ((s.fuses.lc.getD 2 .intact).join true b) }
        ∧ t.vault.transition = none ∧ t.vault.fieldMt = some s.mt ∧ t.keys.blow = none ∧ t.hif.executing = none
        ∧ t.vault.keyring = s.vault.keyring ∧ t.update = s.update ∧ t.nor = s.nor))
  ∧ (∀ (s : State) (b : Bool), s.keys.blow = some .epoch → s.keys.alarmWait = none → s.keys.deferred = [] →
      completes (.fuseBlowDone b true) s (fun t =>
        t.fuses = { s.fuses with epoch := s.fuses.epoch.set s.fuses.epochNo ((s.fuses.epoch.getD s.fuses.epochNo .intact).join b true) }
        ∧ t.vault = { s.vault with bootEpoch := 0, nonceHi := [] }
        ∧ t.keys = { s.keys with blow := none, blowReset := false, blowOp := none }
        ∧ keepsRegs s t [R.KEY_STAT] ∧ t = { s with regs := t.regs, fuses := t.fuses, vault := t.vault, keys := t.keys }))
  ∧ (∀ (s : State) (k : Blow), s.keys.blow = some k → s.keys.alarmWait = none → s.keys.deferred = [] →
      exec (.fuseBlowDone false false) s = .next ((({ s with
        keys := { s.keys with blow := none, blowReset := false, blowOp := none } }).reason .key 0x0B1C).finish 0x0B1C []))
  ∧ (∀ (s : State) (a b : Bool), s.keys.blow = none → exec (.fuseBlowDone a b) s = .next s)

/-- R281: a sealed import unwraps the key under the key that the exchange with KXK derives, and commits it in place of the old one of its kind; one that
does not unwrap is refused with 0x0B18 and changes no key. R273, R274, R277: a key command commits a new generation: the number after the one in
force, at the fuse epoch and the same security version, with the key added, taken out or replaced. A generated or rotated key comes from the DRBG with
prediction resistance; an exported one is wrapped whole, with zeros added in front up to a multiple of 8 bytes (log entry 169). -/
def Obligations.KeysAreImportedAndCommitted : Prop :=
  (∀ (s : State) (sealed : Bytes) (kxk : KeyRec), sealed.length = 172 → s.lifecycle = 2 → s.keys.lockEnd = none → s.keys.prep = .none →
    s.get F.SYM_ENT_FAILED = 0 → s.keyRec? 6 kxkIndex = some kxk → Crypto.onCurve (sealed.take 132) = true → s.vaultUp = true →
    s.ring.length < 512 →
    (s.mbReady 0x0B05 sealed → completes (.importTransport sealed []) s (fun t =>
      (match Crypto.kwUnwrap (Crypto.kdf (Crypto.ecdh kxk.key (sealed.take 132)) "IMPORT" (toBE 4 s.vault.deviceTag ++ toLE 1 4)) (sealed.drop 132) with
        | some k => t.vault.keyring = some (sealGeneration s.nextGen s.fuses.epochNo s.ringS
              (s.ring.filter (fun x => x.kind != 4) ++ [⟨4, 0, s.nextGen, attrTransport, k, []⟩])) ∧ t.get F.KEY_EVT_IMPORT = 1 ∧ t.get F.KEY_EVT_COMMIT = 1
        | none => t.vault.keyring = s.vault.keyring ∧ t.get F.KEY_REASON_REASON = 0x0B18)
      ∧ t.hif.executing = none ∧ t.fuses = s.fuses ∧ t.vault.slots = s.vault.slots))
    ∧ (s.mbReady 0x0B06 sealed → completes (.importAttest sealed []) s (fun t =>
      (match Crypto.kwUnwrap (Crypto.kdf (Crypto.ecdh kxk.key (sealed.take 132)) "IMPORT" (toBE 4 s.vault.deviceTag ++ toLE 1 5)) (sealed.drop 132) with
        | some k => t.vault.keyring = some (sealGeneration s.nextGen s.fuses.epochNo s.ringS
              (s.ring.filter (fun x => x.kind != 5) ++ [⟨5, 0, s.nextGen, attrAttest, k, []⟩])) ∧ t.get F.KEY_EVT_IMPORT = 1 ∧ t.get F.KEY_EVT_COMMIT = 1
        | none => t.vault.keyring = s.vault.keyring ∧ t.get F.KEY_REASON_REASON = 0x0B18)
      ∧ t.hif.executing = none ∧ t.fuses = s.fuses ∧ t.vault.slots = s.vault.slots)))
  ∧ (∀ (s : State) (kind : BitVec 8) (attr : Word), s.mbReady 0x0B07 (toLE 1 kind.toNat ++ toLE 4 attr.toNat) →
      (kind.toNat = 6 ∨ kind.toNat = 7) → s.inService = true → attrPermitted attr.toNat = true → s.prepReason = 0 →
      s.get F.SYM_ENT_FAILED = 0 → s.ring.length < 512 → s.vaultUp = true →
      completes (.keyGenerate kind attr) s (fun t =>
        t.vault.keyring = some (sealGeneration s.nextGen s.fuses.epochNo s.ringS (s.ring ++ [(s.newKey kind.toNat
            (freeIndex s.ring kind.toNat 512 (if kind.toNat = 6 then 3 else 0)) attr.toNat).1]))
        ∧ t.get F.KEY_EVT_COMMIT = 1 ∧ t.hif.executing = none ∧ t.fuses = s.fuses ∧ t.update = s.update ∧ t.vault.slots = s.vault.slots))
  ∧ (∀ (s : State) (h : Word) (k : KeyRec), s.mbReady 0x0B09 (toLE 4 h.toNat) → s.inService = true → s.prepReason = 0 →
      s.hostKey h.toNat = .ok k → s.ring.length ≤ 512 → s.vaultUp = true →
      completes (.keyDestroy h) s (fun t =>
        t.vault.keyring = some (sealGeneration s.nextGen s.fuses.epochNo s.ringS
            (s.ring.filter (fun x => !(x.kind == k.kind && x.index == k.index))))
        ∧ t.get F.KEY_EVT_COMMIT = 1 ∧ t.hif.executing = none ∧ t.fuses = s.fuses ∧ t.update = s.update ∧ t.vault.slots = s.vault.slots))
  ∧ (∀ (s : State) (h : Word) (k : KeyRec), s.mbReady 0x0B0A (toLE 4 h.toNat) → s.inService = true → s.prepReason = 0 →
      s.get F.SYM_ENT_FAILED = 0 → s.hostKey h.toNat = .ok k → s.ring.length < 512 → s.vaultUp = true →
      completes (.keyRotate h) s (fun t =>
        t.vault.keyring = some (sealGeneration s.nextGen s.fuses.epochNo s.ringS
            (s.ring.filter (fun x => !(x.kind == k.kind && x.index == k.index)) ++ [(s.newKey k.kind k.index (k.attr / 2 * 2)).1]))
        ∧ t.get F.KEY_EVT_COMMIT = 1 ∧ t.hif.executing = none ∧ t.fuses = s.fuses ∧ t.update = s.update ∧ t.vault.slots = s.vault.slots))
  ∧ (∀ (s : State) (h w : Word) (k u : KeyRec), s.mbReady 0x0B08 (toLE 4 h.toNat ++ toLE 4 w.toNat) → s.inService = true →
      s.keys.lockEnd = none → s.keyByHandle h.toNat = .ok k → s.keyByHandle w.toNat = .ok u → Nat.testBit k.attr 1 = true →
      keyAdmission u.attr 4 false s.lifecycle 6 = 0 →
      exec (.keyExport h w) s = .next ((s.begun 0x0B08 (toLE 4 h.toNat ++ toLE 4 w.toNat)).finish 0 (Crypto.kwWrap u.key (kwPadded k.key))))
  ∧ (∀ (s : State) (h : Word) (k : KeyRec), s.mbReady 0x0B0B (toLE 4 h.toNat) → s.inService = true → s.keys.lockEnd = none →
      s.keyByHandle h.toNat = .ok k → exec (.keyAttrRead h) s = .next ((s.begun 0x0B0B (toLE 4 h.toNat)).finish 0 (toLE 4 k.attr)))
  ∧ (∀ (s : State) (h : Word), s.mbReady 0x0B0B (toLE 4 h.toNat) → s.inService = true → s.keys.lockEnd = none →
      s.keyRec? (h.toNat / 2 ^ 28) (h.toNat / 2 ^ 16 % 4096) = none →
      exec (.keyAttrRead h) s = .next (((s.begun 0x0B0B (toLE 4 h.toNat)).reason .key 0x0B01).finish 0x0B01 []))

/-- R271, R283 to R285: form A answers the 48 bytes and their CMAC under AS; form B is signed by DIK outside FIELD, refused with 0x0B1A in FIELD and with
0x0A0D while the entropy source is failed (R258); the stored statements and the certificate are read out; an ECDH secret goes after 1 s. -/
def Obligations.AttestationAnswers : Prop :=
  (∀ (s : State) (c : Bytes) (k : KeyRec), s.mbReady 0x0B0C c → c.length = 16 → s.inService = true → s.keys.lockEnd = none →
      s.keyRec? 5 0 = some k →
      exec (.attestA c) s = .next (({ s.begun 0x0B0C c with vault := { s.vault with tamperSince := false } }).finish 0
        ((s.begun 0x0B0C c).formA ++ padTo 16 (Crypto.cmac k.key (toLE 1 0x30 ++ c ++ (s.begun 0x0B0C c).formA)))))
  ∧ (∀ s : State, s.formA.length = 48 ∧ le s.formA 0 4 = s.vault.deviceTag % 2 ^ 32 ∧ u8 s.formA 4 = s.lifecycle % 256 ∧ u8 s.formA 5 = s.fuses.epochNo % 256)
  ∧ (∀ (s : State) (h : Word) (c : Bytes), s.mbReady 0x0B0D (toLE 4 h.toNat ++ c) → c.length = 16 → s.lifecycle ≠ 3 → s.lifecycle ≠ 0 →
      s.lifecycle ≠ 5 → h.toNat / 2 ^ 28 = 9 → s.get F.SYM_ENT_FAILED = 0 →
      exec (.statementB h c) s = .next (
        let x := (s.begun 0x0B0D (toLE 4 h.toNat ++ c)).statement h.toNat 0 c dikPublic
        x.2.finish 0 x.1))
  ∧ (∀ (s : State) (h : Word) (c : Bytes), s.mbReady 0x0B0D (toLE 4 h.toNat ++ c) → c.length = 16 → s.lifecycle ≠ 3 → s.lifecycle ≠ 0 →
      s.lifecycle ≠ 5 → h.toNat / 2 ^ 28 = 9 → s.get F.SYM_ENT_FAILED = 1 →
      exec (.statementB h c) s = .next (((s.begun 0x0B0D (toLE 4 h.toNat ++ c)).reason .key 0x0A0D).finish 0x0A0D []))
  ∧ (∀ (s : State) (h : Word) (c : Bytes), s.mbReady 0x0B0D (toLE 4 h.toNat ++ c) → c.length = 16 → s.lifecycle = 3 →
      exec (.statementB h c) s = .next (((s.begun 0x0B0D (toLE 4 h.toNat ++ c)).reason .key 0x0B1A).finish 0x0B1A []))
  ∧ (∀ s : State, s.mbReady 0x0B0E [] → s.lifecycle ≠ 0 → s.vault.statements ≠ [] →
      exec .statementsRead s = .next ((s.begun 0x0B0E []).finish 0 s.vault.statements.flatten))
  ∧ (∀ s : State, s.mbReady 0x0B0F [] → s.lifecycle ≠ 0 → s.vault.certStored = true →
      exec .dikCertRead s = .next ((s.begun 0x0B0F []).finish 0 (padTo 132 dikPublic ++ toLE 2 Config.dikCert.length ++ Config.dikCert)))
  ∧ (∀ (s : State) (h x : Nat), s.keys.secrets = [(h, x)] → x + 1000000 ≤ s.mt →
      exec .ecdhSecretWipe s = .next { s with keys := { s.keys with secrets := [] }
                                              sym := { s.sym with store := s.sym.store.filter (fun k => !([h].contains (handleOf k))) } })
  ∧ (∀ (s : State) (h x : Nat), s.keys.secrets = [(h, x)] → s.mt < x + 1000000 → exec .ecdhSecretWipe s = .next s)

/-- R286 to R291: an alarm is latched with its class, PT and MT, and during a fuse blow its response waits (R266); a T2 alarm locks the keyring for 10 s;
a T3 alarm zeroises, starts the blow of the next epoch fuse and leads to RECOVERY; the service port opens without authorisation in PROVISIONED and
INTEGRATION, with a DEBUG vote on every island, and is refused at epoch 15 in FIELD. -/
def Obligations.TamperAlarmsAndServicePort : Prop :=
  (∀ (s : State) (c : Bool), s.armed = true → 6 ≤ s.phase → s.keys.blow = none →
      (s.pilot.t1Times.filter (fun (x : Word) => (s.pilot.pt - x).toNat ≤ 1966080)).length < s.secLE 0x0F 2 1 16 →
      exec (.t1Alarm c) s = .next (
        let u := ({ s with pilot := { s.pilot with
            t1Times := s.pilot.t1Times.filter (fun (x : Word) => (s.pilot.pt - x).toNat ≤ 1966080) ++ [s.pilot.pt] } }).latchAlarm 1 (if c then 0x0F02 else 0x0F01)
        ((u.alarmEntry 1 (if c then 0x0F02 else 0x0F01)).alarmWake).t1Response))
  ∧ (∀ (s : State) (code : Nat), code < 65536 →
      (s.latchAlarm 1 code).get F.TAM_EVT_T1 = 1 ∧ (s.latchAlarm 1 code).reg R.TAM_LAST_PT = s.pilot.pt.toNat
        ∧ (s.latchAlarm 1 code).reg R.TAM_LAST_MT = s.mt % 2 ^ 32 ∧ (s.latchAlarm 1 code).get F.TAM_REASON_REASON = code
        ∧ (s.latchAlarm 1 code).get F.TAM_CNT_T1 = min (s.get F.TAM_CNT_T1 + 1) (2 ^ (F.TAM_CNT_T1.hi + 1 - F.TAM_CNT_T1.lo) - 1)
        ∧ (s.latchAlarm 1 code).vault = { s.vault with tamperSince := true })
  ∧ (∀ (s : State) (l : Bool), s.armed = true → 6 ≤ s.phase → s.keys.blow = none →
      completes (.t2Alarm l) s (fun t => t.keys.lockEnd = some (s.mt + 10000000) ∧ t.get F.KEY_STAT_RING_LOCKED = 1
        ∧ t.fuses = s.fuses ∧ t.vault.keyring = s.vault.keyring ∧ t.update = s.update))
  ∧ (∀ (s : State) (l : Bool) (k : Blow), s.armed = true → s.keys.blow = some k →
      exec (.t2Alarm l) s = .next ((s.latchAlarm 2 (if l then 0x0F04 else 0x0F03)).awaitBlow (.alarm 2 (if l then 0x0F04 else 0x0F03))))
  ∧ (∀ (s : State) (x : Nat), s.keys.lockEnd = some x → x ≤ s.mt →
      completes .keyringLockEnd s (fun t => t.keys = { s.keys with lockEnd := none } ∧ t.get F.KEY_STAT_RING_LOCKED = 0
        ∧ t.get F.TAM_EVT_LOCK_END = 1 ∧ keepsFields s t [F.KEY_STAT_RING_LOCKED, F.TAM_EVT_LOCK_END]
        ∧ t = { s with regs := t.regs, keys := t.keys }))
  ∧ (∀ s : State, s.armed = true → s.pilot.t3Active = false → s.keys.alarmWait = none → s.keys.blow = none → s.lifecycle ≠ 0 → s.lifecycle ≠ 5 →
      s.fuses.epochNo < 15 →
      completes (.t3Alarm .lampshade) s (fun t => t.keys.blow = some .epoch ∧ t.pilot.t3Active = true ∧ t.phase = 0xF
        ∧ t.vault.keyring = none ∧ t.vault.slots = List.replicate 64 Slot.empty
        ∧ t.tag.password = none ∧ t.tag.key = none ∧ t.reg R.SYS_EN_MAP = 0 ∧ t.get F.SYS_START_START_REASON = 0x0F05
        ∧ t.fuses = s.fuses ∧ t.vault.deviceTag = s.vault.deviceTag ∧ t.vault.chain = s.vault.chain ∧ t.nor = s.nor))
  ∧ (∀ (s : State) (auth : Bytes), s.pilot.svcOpen = false → s.keys.blow = none → (s.lifecycle = 1 ∨ s.lifecycle = 2) →
      completes (.svcUnlock auth) s (fun t => t.pilot = { s.pilot with svcOpen := true } ∧ t.get F.TAM_STAT_SVC_OPEN = 1
        ∧ (∀ i ∈ [1, 2, 3, 4, 5, 6, 8, 9, 10, 11, 12, 13, 14], t.votes i = s.votes i ||| 2 ^ 8)
        ∧ t = { s with regs := t.regs, pilot := t.pilot }))
  ∧ (∀ (s : State) (auth : Bytes), s.pilot.svcOpen = false → s.keys.blow = none → s.lifecycle = 3 → s.fuses.epochNo = 15 →
      exec (.svcUnlock auth) s = .next ((s.event F.TAM_EVT_SVC_REFUSED).reason .tam 0x0F0B))
  ∧ (∀ s : State, s.pilot.svcOpen = true →
      completes .svcClose s (fun t => t.pilot = { s.pilot with svcOpen := false } ∧ t.get F.TAM_STAT_SVC_OPEN = 0
        ∧ (∀ i ∈ [1, 2, 3, 4, 5, 6, 8, 9, 10, 11, 12, 13, 14], Nat.testBit (t.votes i) 8 = false)
        ∧ t = { s with regs := t.regs, pilot := t.pilot }))

/-- R323, R325, R326: a failed die shows in its register, in STO_STAT and in PWR_RED_STAT; the failure of the second one takes the NAND down with 0x0C04
and the vault port takes over. A failed block is retired from its die; the 64th within 24 h fails the die. R299, R300: a vault bank that fails leaves
the other in use with 0x0C01, and the keyring reports 0x0B0A; a failed controller leaves vault-only operation with 0x0C05, and STO stays enabled. -/
def Obligations.DieVaultAndControllerFailures : Prop :=
  (∀ (s : State) (d : Fin 2), s.nand.dies.length = 2 → (s.die d.val).failed = false → (s.die (1 - d.val)).failed = false →
      completes (.dieFail d) s (fun t => (t.die d.val).failed = true ∧ (t.die (1 - d.val)).failed = false
        ∧ t.get (F.STO_DIEn_STAT_FAILED d.val) = 1 ∧ t.get (F.STO_DIEn_STAT_UP d.val) = 0
        ∧ t.get (if d.val = 0 then F.STO_STAT_DIE0_OK else F.STO_STAT_DIE1_OK) = 0 ∧ t.get F.STO_EVT_MEDIA_FAIL = 1
        ∧ Nat.testBit (t.reg R.PWR_RED_STAT) 5 = true ∧ t.get F.PWR_EVT_RED_LOSS = 1
        ∧ t.fuses = s.fuses ∧ t.update = s.update ∧ t.nor = s.nor ∧ t.vault.keyring = s.vault.keyring ∧ t.vault.slots = s.vault.slots))
  ∧ (∀ (s : State) (d : Fin 2), s.nand.dies.length = 2 → (s.die d.val).failed = false → (s.die (1 - d.val)).failed = true →
      completes (.dieFail d) s (fun t => (t.die d.val).failed = true ∧ t.get F.STO_REASON_REASON = 0x0C04
        ∧ t.get F.STO_STAT_VAULT_PORT = 1 ∧ t.get F.STO_EVT_MEDIA_FAIL = 1 ∧ t.nandUp = false
        ∧ keepsRegs s t [R.STO_EVT, R.STO_REASON, R.STO_STAT, R.STO_DIEn_STAT d.val]
        ∧ t = { s with regs := t.regs, nand := { s.nand with dies := t.nand.dies } }))
  ∧ (∀ (s : State) (d : Fin 2), (s.die d.val).failed = true → exec (.dieFail d) s = .next s)
  ∧ (∀ (s : State) (d : Fin 2), s.nand.dies.length = 2 → (s.die d.val).failed = false → 257 ≤ (s.die d.val).spare →
      (s.die d.val).spare < 2 ^ 14 → (s.die d.val).retired + 1 < 2 ^ 14 →
      ((s.die d.val).times.filter (fun x => s.mt < x + dayUs)).length < 63 →
      completes (.blockRetired d) s (fun t => (t.die d.val).failed = false
        ∧ (t.die d.val).retired = (s.die d.val).retired + 1 ∧ (t.die d.val).spare = (s.die d.val).spare - 1
        ∧ t.get (F.STO_DIEn_STAT_RETIRED d.val) = (s.die d.val).retired + 1
        ∧ t.get (F.STO_DIEn_STAT_SPARE d.val) = (s.die d.val).spare - 1
        ∧ t.get F.STO_REASON_REASON = 0x0C06 ∧ t.get F.STO_EVT_BLOCK_RETIRED = 1
        ∧ keepsRegs s t [R.STO_EVT, R.STO_REASON, R.STO_DIEn_STAT d.val]
        ∧ t = { s with regs := t.regs, nand := { s.nand with dies := t.nand.dies } }))
  ∧ (∀ (s : State) (b : Fin 2), s.vault.bank0Failed = false → s.vault.bank1Failed = false →
      completes (.vaultBankFail b true) s (fun t => t.vaultUp = true
        ∧ (if b.val = 0 then t.vault.bank0Failed else t.vault.bank1Failed) = true
        ∧ t.get (if b.val = 0 then F.STO_STAT_BANK0_OK else F.STO_STAT_BANK1_OK) = 0
        ∧ t.get F.STO_REASON_REASON = 0x0C01 ∧ t.get F.STO_EVT_MEDIA_FAIL = 1
        ∧ t.get F.KEY_REASON_REASON = 0x0B0A ∧ t.get F.KEY_EVT_BANK_FAIL = 1
        ∧ Nat.testBit (t.reg R.PWR_RED_STAT) 4 = true ∧ t.get F.PWR_EVT_RED_LOSS = 1
        ∧ keepsRegs s t [R.STO_EVT, R.STO_STAT, R.STO_REASON, R.KEY_EVT, R.KEY_REASON, R.PWR_RED_STAT, R.PWR_EVT]
        ∧ t = { s with regs := t.regs, vault := { s.vault with bank0Failed := t.vault.bank0Failed, bank1Failed := t.vault.bank1Failed } }))
  ∧ (∀ (s : State) (b : Fin 2), (if b.val = 0 then s.vault.bank0Failed else s.vault.bank1Failed) = false →
      ((s.vault.bankErrs.getD b.val []).filter (fun x => s.mt < x + dayUs)) = [] →
      exec (.vaultBankFail b false) s = .next { s with vault := { s.vault with bankErrs := s.vault.bankErrs.set b.val [s.mt] } })
  ∧ (∀ s : State, s.vault.ctrlFailed = false → completes .controllerFail s (fun t => t.vault.ctrlFailed = true ∧ t.nandUp = false
        ∧ t.get F.STO_STAT_CTRL_OK = 0 ∧ t.get F.STO_STAT_VAULT_PORT = 1 ∧ t.get F.STO_EVT_MEDIA_FAIL = 1
        ∧ t.get F.STO_REASON_REASON = 0x0C05 ∧ t.enabled .sto = s.enabled .sto
        ∧ keepsRegs s t [R.STO_STAT, R.STO_EVT, R.STO_REASON]
        ∧ t = { s with regs := t.regs, vault := { s.vault with ctrlFailed := true } }))

/-- R310, R311: a commit takes the next SEQ, links to the chain before it, extends the chain by SHA-512 over the chain value and the entry's 128 bytes,
and writes the head record copy with the lower sequence number. R312: before STO is enabled the event is latched instead. R312, R315, Table 16-6:
HOST_NOTE commits an entry of TYPE 0x1001 with HOST set and answers its SEQ; JOURNAL_DRAIN programs the oldest complete page and frees its staging
slots once it has its turn on the die (R305); STO_JRNL_ACK is taken when its high word is written. R314: the oldest checkpoint due is signed by the
journal key over its body and stored; STO_CKPT and STO_EVT show it. It waits without the key, the NAND, entropy for the signature, or its turn on a
die (R305). The index of the journal key is the model's (log entry 21). -/
def Obligations.JournalCommitsDrainsAndCheckpoints : Prop :=
  (∀ (s : State) (type reason flags : Nat) (u : Subsys) (body : Bytes), s.enabled .sto = true → s.vaultUp = true →
      let t := s.journal type reason u flags body
      let e : JEntry := ⟨s.vault.nextSeq, s.mt, s.ntPair.1, s.ntPair.2, type, reason, subId u, flags, s.vault.chain.take 16, padTo 80 body⟩
      t.vault.nextSeq = s.vault.nextSeq + 1 ∧ t.vault.chain = Crypto.sha512 (s.vault.chain ++ e.bytes)
        ∧ t.vault.headSeqs = s.vault.headSeqs.write s.vault.nextSeq
        ∧ (s.vault.staging.kept.length < 256 → s.vault.staging.gap = none →
            t.vault.staging = { s.vault.staging with kept := s.vault.staging.kept ++ [⟨e, t.vault.chain⟩] })
        ∧ ((s.vault.nextSeq + 1) % 4096 = 0 → t.sto.ckptDue = s.sto.ckptDue ++ [((s.vault.nextSeq + 1) / 4096 - 1, t.vault.chain)])
        ∧ ((s.vault.nextSeq + 1) % 4096 ≠ 0 → t.sto.ckptDue = s.sto.ckptDue)
        ∧ t.fuses = s.fuses ∧ t.update = s.update ∧ t.nor = s.nor ∧ t.keys = s.keys ∧ t.vault.keyring = s.vault.keyring
        ∧ t.vault.slots = s.vault.slots ∧ t.hif = s.hif ∧ t.pending = s.pending ∧ t.mt = s.mt)
  ∧ (∀ (s : State) (type reason flags : Nat) (u : Subsys) (body : Bytes), s.enabled .sto = false →
      s.journal type reason u flags body
        = { s with sto := { s.sto with latched := s.sto.latched ++ [⟨type, reason, subId u, flags, s.mt, body⟩] } })
  ∧ (∀ (s : State) (data : Bytes), s.mbReady 0x0C05 data → 1 ≤ data.length → data.length ≤ 80 →
      exec (.hostNote data) s = .next (((s.begun 0x0C05 data).journal 0x1001 0 .sto 2 data).finish 0 (toLE 8 s.vault.nextSeq)))
  ∧ (∀ (s : State) (k : Nat), s.oldestPage = some k → s.pageComplete k = true → s.nandUp = true → s.enabled .sto = true →
      s.flag F.PWR_STAT_BROWNOUT = false → s.dieTurn (s.pageDie k) 2 = true →
      exec (.journalDrain true) s = .next ((s.served (s.pageDie k) 2).drainPage.commitPoint.touch))
  ∧ (∀ (s : State) (k : Nat) (b : Bool), s.oldestPage = some k → s.dieTurn (s.pageDie k) 2 = false → exec (.journalDrain b) s = .next s)
  ∧ (∀ (s : State) (k : Nat), s.oldestPage = some k → s.pageComplete k = true → s.nandUp = true → s.vault.staging.gap = none →
      s.drainPage.vault.staging.kept = (s.vault.staging.kept ++ s.vault.staging.ring).filter (fun x => !(x.entry.seq / 32 == k))
      ∧ (∀ x ∈ pageEntries s.vault.staging k, x.entry ∈ s.drainPage.nand.journal)
      ∧ s.drainPage.nand.written = s.nand.written + 4096 ∧ s.drainPage.regs = s.regs ∧ s.drainPage.vault.chain = s.vault.chain)
  ∧ (∀ (s : State) (hi : Word), completes (.jrnlAck hi) s (fun t =>
        t.vault = { s.vault with ack := s.reg R.STO_JRNL_ACK_LO + hi.toNat * 2 ^ 32 } ∧ t.reg R.STO_JRNL_ACK_HI = hi.toNat
        ∧ keepsRegs s t [R.STO_JRNL_ACK_HI, R.STO_STAT, R.STO_EVT, R.STO_REASON] ∧ t = { s with regs := t.regs, vault := t.vault }))
  ∧ (∀ (s : State) (i : Nat) (h : Bytes) (rest : List (Nat × Bytes)) (jk : KeyRec), s.sto.ckptDue = (i, h) :: rest →
      s.keyRec? 6 jkIndex = some jk → s.nandUp = true → s.enabled .sto = true → s.flag F.SYM_ENT_FAILED = false →
      s.diesUp.all (fun d => s.dieTurn d 2) = true → s.nand.ckpts.length < 131072 → i < 2 ^ 32 → s.flag F.PWR_STAT_BROWNOUT = false →
      completes .checkpoint s (fun t => t.sto.ckptDue = rest ∧ t.reg R.STO_CKPT = i ∧ t.get F.STO_EVT_CHECKPOINT = 1
        ∧ t.nand.ckpts = s.nand.ckpts ++ [⟨i, s.ckptBody i h jk.pub
            ++ (s.sign jk.key (Crypto.sha512 (s.ckptBody i h jk.pub))).1 ++ zeros 60⟩]
        ∧ keepsRegs s t [R.STO_CKPT, R.STO_EVT, R.SYM_DRBG]
        ∧ t.nand.journal = s.nand.journal ∧ t.nand.captures = s.nand.captures ∧ t.nand.streams = s.nand.streams
        ∧ t.vault = { s.vault with mapDeltas := s.vault.mapDeltas + 1 }
        ∧ t = { s with regs := t.regs, draws := t.draws, sym := t.sym, nand := t.nand, sto := t.sto, vault := t.vault }))
  ∧ (∀ s : State, s.diesUp.all (fun d => s.dieTurn d 2) = false → exec .checkpoint s = .next s)
  ∧ (∀ s : State, s.keyRec? 6 jkIndex = none → exec .checkpoint s = .next s)
  ∧ (∀ s : State, s.nandUp = false → exec .checkpoint s = .next s)

/-- R270, R305, R319: LOAD takes the content that stands committed at that moment and clears STO_WIN_STAT; a LOAD while one runs changes nothing. The load
takes its slot in the NAND queue, where a request of a lower class waits for those of higher classes, 32 of them in a row at most. At the load's end
READY, VALID in units of 8 bytes and REASON show. Regions sealed above the running SV do not open. R316, R317: an analysis that ends gives an
unprogrammed capture its trailer; a capture with a trailer is programmed into region 5, which drops its oldest frame that is not pinned when it is
full; a pin needs a kept capture and a place under PIN_MAX. -/
def Obligations.StorageWindowAndCaptures : Prop :=
  (∀ s : State, s.sto.window.loading = false → s.sto.queue = [] → completes .load s (fun t => t.reg R.STO_WIN_STAT = 0
        ∧ t.sto = { s.sto with
            queue := if s.takes .load then [] else [.load]
            window := ⟨true,
              (s.windowLoad (s.get F.STO_WIN_CTL_STREAM) (s.reg R.STO_WIN_POS_LO + s.reg R.STO_WIN_POS_HI * 2 ^ 32) (s.reg R.STO_WIN_POS_LO)
                (s.reg R.STO_WIN_POS_HI)).1,
              (s.windowLoad (s.get F.STO_WIN_CTL_STREAM) (s.reg R.STO_WIN_POS_LO + s.reg R.STO_WIN_POS_HI * 2 ^ 32) (s.reg R.STO_WIN_POS_LO)
                (s.reg R.STO_WIN_POS_HI)).2⟩ }
        ∧ keepsRegs s t [R.STO_WIN_STAT] ∧ t.nand = { s.nand with dies := t.nand.dies }
        ∧ t = { s with regs := t.regs, sto := t.sto, nand := t.nand }))
  ∧ (∀ s : State, s.sto.window.loading = false → completes .load s (fun t => t.reg R.STO_WIN_STAT = 0 ∧ t.sto.window = ⟨true,
            (s.windowLoad (s.get F.STO_WIN_CTL_STREAM) (s.reg R.STO_WIN_POS_LO + s.reg R.STO_WIN_POS_HI * 2 ^ 32) (s.reg R.STO_WIN_POS_LO)
              (s.reg R.STO_WIN_POS_HI)).1,
            (s.windowLoad (s.get F.STO_WIN_CTL_STREAM) (s.reg R.STO_WIN_POS_LO + s.reg R.STO_WIN_POS_HI * 2 ^ 32) (s.reg R.STO_WIN_POS_LO)
              (s.reg R.STO_WIN_POS_HI)).2⟩))
  ∧ (∀ s : State, s.sto.window.loading = true → exec .load s = .next s)
  ∧ (∀ s : State, s.sto.window.loading = true → s.sto.queue.contains .load = false → s.sto.window.bytes.length ≤ 131072 →
      s.sto.window.reason < 2 ^ 16 →
      completes .winReady s (fun t => t.get F.STO_WIN_STAT_READY = 1 ∧ t.get F.STO_WIN_STAT_VALID = s.sto.window.bytes.length / 8
        ∧ t.get F.STO_WIN_STAT_REASON = s.sto.window.reason ∧ t.get F.STO_EVT_WIN_READY = 1
        ∧ t.sto = { s.sto with window := { s.sto.window with loading := false } }
        ∧ keepsRegs s t [R.STO_WIN_STAT, R.STO_EVT] ∧ t = { s with regs := t.regs, sto := t.sto }))
  ∧ (∀ s : State, s.sto.queue.contains .load = true → exec .winReady s = .next s)
  ∧ (∀ (s : State) (n pos lo hi : Nat), s.nandUp = true → s.sys.sv < s.nand.sealS → n ≠ 1 → s.windowLoad n pos lo hi = (0x0B07, []))
  ∧ (∀ s : State, s.nand.sealS ≤ s.sys.sv → s.vault.nextSeq ≤ s.reg R.STO_WIN_POS_LO + s.reg R.STO_WIN_POS_HI * 2 ^ 32 →
      s.windowLoad 0 (s.reg R.STO_WIN_POS_LO + s.reg R.STO_WIN_POS_HI * 2 ^ 32) (s.reg R.STO_WIN_POS_LO) (s.reg R.STO_WIN_POS_HI) = (0x0C10, []))
  ∧ (∀ (s : State) (r : StoReq) (d k : Nat), s.takes r = true → d ∈ s.reqDies r → k < s.reqClassSto r → s.waits d k = true →
      32 ≤ s.runsOf d (s.reqClassSto r))
  ∧ (∀ (s : State) (d c k : Nat), k < c → c < 6 → s.waits d c = true → d < s.nand.dies.length →
      (s.served d k).runsOf d c = s.runsOf d c + 1 ∧ (s.served d c).runsOf d c = 0)
  ∧ (∀ (s : State) (n : BitVec 32), exec (.analysisDone n) s = .next { s with sto := { s.sto with
      pendingCaps := s.sto.pendingCaps.map (fun c => if c.number = n.toNat && c.trailer.isNone then
        { c with trailer := some (padTo 256 (toLE 8 c.added ++ toLE 8 s.mt)) } else c) } })
  ∧ (∀ (s : State) (c : Capture) (rest : List Capture), s.sto.pendingCaps = c :: rest → c.trailer.isSome = true → s.nandUp = true →
      s.enabled .sto = true → s.flag F.PWR_STAT_BROWNOUT = false → s.nand.captures.length < s.captureCap →
      s.dieTurn c.die 3 = true →
      completes (.captureProgram true) s (fun t => t.sto = { s.sto with pendingCaps := rest }
        ∧ t.nand = { s.nand with captures := s.nand.captures ++ [c], written := s.nand.written + 40960, dies := t.nand.dies }
        ∧ t.vault = { s.vault with mapDeltas := s.vault.mapDeltas + 10 }
        ∧ keepsRegs s t [R.STO_CAP_OLD] ∧ t = { s with regs := t.regs, sto := t.sto, nand := t.nand, vault := t.vault }))
  ∧ (∀ (s : State) (n : BitVec 32), s.mbReady 0x0C03 (toLE 4 n.toNat) → s.hasCapture n.toNat = true →
      ((s.nand.captures ++ s.sto.pendingCaps).any (fun c => c.number == n.toNat && c.pinned)) = false →
      ((s.nand.captures ++ s.sto.pendingCaps).filter (·.pinned)).length < s.pinMax →
      exec (.capturePin n) s = .next (((s.begun 0x0C03 (toLE 4 n.toNat)).setPin n.toNat true).finish 0 []))
  ∧ (∀ (s : State) (n : BitVec 32), s.mbReady 0x0C03 (toLE 4 n.toNat) → s.hasCapture n.toNat = false →
      exec (.capturePin n) s = .next (((s.begun 0x0C03 (toLE 4 n.toNat)).reason .sto 0x0C0F).finish 0x0C0F []))
  ∧ (∀ (s : State) (n : BitVec 32), s.mbReady 0x0C03 (toLE 4 n.toNat) → s.hasCapture n.toNat = true →
      ((s.nand.captures ++ s.sto.pendingCaps).any (fun c => c.number == n.toNat && c.pinned)) = false →
      s.pinMax ≤ ((s.nand.captures ++ s.sto.pendingCaps).filter (·.pinned)).length →
      exec (.capturePin n) s = .next (((s.begun 0x0C03 (toLE 4 n.toNat)).reason .sto 0x0C16).finish 0x0C16 []))
  ∧ (∀ (s : State) (n : BitVec 32), s.mbReady 0x0C04 (toLE 4 n.toNat) → s.hasCapture n.toNat = true →
      exec (.captureUnpin n) s = .next (((s.begun 0x0C04 (toLE 4 n.toNat)).setPin n.toNat false).finish 0 []))
  ∧ (∀ (s : State) (n : Nat) (b : Bool), ∀ c ∈ (s.setPin n b).nand.captures, c.number = n → c.pinned = b)

/-- R318, R324: a host stream takes a record under the next number and answers it, at once or when the append has its slot in the NAND queue; a full
stream of MODE 1 refuses with 0x0C0B; a trim removes the records before the one named where its section permits it. -/
def Obligations.HostStreamsAppendAndTrim : Prop :=
  (∀ (s : State) (k : BitVec 8) (data : Bytes) (env : Env) (q m : Nat) (tr : Bool), s.mbReady 0x0C01 (toLE 1 k.toNat ++ data) →
      1 ≤ data.length → data.length ≤ 4080 → s.streamDef k.toNat = some (q, m, tr) → s.nandUp = true → s.heldNow = false →
      (s.stream k.toNat).records.length < s.streamCap q → s.takes (.append k.toNat data true) = true → env.storeOk = true →
      k.toNat < s.nand.streams.length →
      completes (.streamAppend k data env) s (fun t =>
        t.nand.streams = s.nand.streams.set k.toNat
          ⟨(s.stream k.toNat).next + 1, (s.stream k.toNat).records ++ [⟨(s.stream k.toNat).next, data, s.wearDie⟩]⟩
        ∧ t.nand.written = s.nand.written + 4096 ∧ t.hif.executing = none
        ∧ t.hif = (((s.begun 0x0C01 (toLE 1 k.toNat ++ data)).putFlag F.STO_STAT_HELD false).finish 0 (toLE 8 (s.stream k.toNat).next)).hif
        ∧ t.sto = { s.sto with hostUntil := s.mt + (data.length + s.hostRate - 1) / s.hostRate }
        ∧ t.nand.journal = s.nand.journal ∧ t.nand.captures = s.nand.captures ∧ t.nand.ckpts = s.nand.ckpts
        ∧ t.vault = { s.vault with mapDeltas := s.vault.mapDeltas + 1 } ∧ t.fuses = s.fuses ∧ t.update = s.update ∧ t.keys = s.keys))
  ∧ (∀ (s : State) (k : BitVec 8) (data : Bytes) (env : Env) (q m : Nat) (tr : Bool), s.mbReady 0x0C01 (toLE 1 k.toNat ++ data) →
      1 ≤ data.length → data.length ≤ 4080 → s.streamDef k.toNat = some (q, m, tr) → s.nandUp = true → s.heldNow = false →
      (s.stream k.toNat).records.length < s.streamCap q → s.takes (.append k.toNat data env.storeOk) = false →
      exec (.streamAppend k data env) s = .next (
        let u := (s.begun 0x0C01 (toLE 1 k.toNat ++ data)).putFlag F.STO_STAT_HELD false
        { u with sto := { u.sto with queue := u.sto.queue ++ [.append k.toNat data env.storeOk] } }))
  ∧ (∀ (s : State) (k : BitVec 8) (data : Bytes) (env : Env) (q : Nat) (tr : Bool), s.mbReady 0x0C01 (toLE 1 k.toNat ++ data) →
      1 ≤ data.length → data.length ≤ 4080 → s.streamDef k.toNat = some (q, 1, tr) → s.nandUp = true → s.heldNow = false →
      s.streamCap q ≤ (s.stream k.toNat).records.length →
      exec (.streamAppend k data env) s = .next
        ((((s.begun 0x0C01 (toLE 1 k.toNat ++ data)).putFlag F.STO_STAT_HELD false).reason .sto 0x0C0B).finish 0x0C0B []))
  ∧ (∀ (s : State) (k : BitVec 8) (r : BitVec 64) (q m : Nat), s.mbReady 0x0C02 (toLE 1 k.toNat ++ toLE 8 r.toNat) →
      s.streamDef k.toNat = some (q, m, true) → r.toNat ≤ (s.stream k.toNat).next →
      exec (.streamTrim k r) s = .next (((s.begun 0x0C02 (toLE 1 k.toNat ++ toLE 8 r.toNat)).setStream k.toNat
        ⟨(s.stream k.toNat).next, (s.stream k.toNat).records.filter (fun x => r.toNat ≤ x.number)⟩).finish 0
        (toLE 8 ((((s.stream k.toNat).records.filter (fun x => r.toNat ≤ x.number)).head?.map (·.number)).getD (s.stream k.toNat).next))))
  ∧ (∀ (s : State) (k : BitVec 8) (r : BitVec 64) (q m : Nat), s.mbReady 0x0C02 (toLE 1 k.toNat ++ toLE 8 r.toNat) →
      s.streamDef k.toNat = some (q, m, false) →
      exec (.streamTrim k r) s = .next (((s.begun 0x0C02 (toLE 1 k.toNat ++ toLE 8 r.toNat)).reason .sto 0x0C17).finish 0x0C17 []))

/-- R67, R308, R309: when VBAT falls below the power-fail threshold, a fuse blow in progress is completed; a sequence that VHOLD carries saves the exact
MT, the clean marker and STO_HOLDUP; one that it does not leaves no clean marker, and may leave torn pages and a head record one entry behind (R306,
R307). What the media hold survives; every register is at reset. R305, R320 to R322, R364: a scrub pass starts on request; a slice, once it has its
slot of the NAND queue, counts the blocks refreshed for age, reports a lost page with 0x0C08 and ends its pass; garbage collection gains an erased
block, and rises to the class of the drain below 64 of them; the MT reservation is written as MT plus 16,777,216 us when due, in STANDBY under a vote
for the storage island, and a failed write is reported with 0x040C and retried in 1 s. -/
def Obligations.PowerFailAndScrub : Prop :=
  (∀ (s : State) (mv us : BitVec 16), s.pilot.vbatUp = true →
      completes (.powerFail none mv us) s (fun t => t.vault.clean = true ∧ t.vault.savedMt = s.vault.savedMt.write s.mt
        ∧ t.vault.holdup = mv.toNat * 0x10000 + us.toNat ∧ t.fuses = s.completeBlow.fuses ∧ t.regs = [] ∧ t.pilot = Pilot.reset
        ∧ t.hif = Hif.reset ∧ t.keys = Keys.reset ∧ t.sys = Sys.reset ∧ t.nor = s.nor ∧ t.tag = s.tag ∧ t.update = s.update
        ∧ t.vault.keyring = s.vault.keyring ∧ t.vault.slots = s.vault.slots ∧ t.vault.staging = s.vault.staging
        ∧ t.pending = s.pending ∧ t.mt = s.mt))
  ∧ (∀ (s : State) (mv us : BitVec 16) (cut : PowerCut), s.pilot.vbatUp = true →
      completes (.powerFail (some cut) mv us) s (fun t => t.vault.clean = false ∧ t.vault.savedMt = s.vault.savedMt
        ∧ t.nand = { s.nand with dies := t.nand.dies } ∧ (cut.headOld = false → t.vault.chain = s.vault.chain ∧ t.vault.nextSeq = s.vault.nextSeq)
        ∧ t.fuses = s.completeBlow.fuses ∧ t.regs = [] ∧ t.vault.staging = s.vault.staging))
  ∧ (∀ (s : State) (cut : Option PowerCut) (mv us : BitVec 16), s.pilot.vbatUp = false → exec (.powerFail cut mv us) s = .next s)
  ∧ (∀ s : State, exec .scrubNow s = .next { s with sto := { s.sto with scrubPos := some 0 } })
  ∧ (∀ (s : State) (aged : Nat), s.nandWrites = true → s.sto.queue = [] → s.takes (.slice [] aged true) = true →
      s.sto.scrubPos.isSome = true →
      completes (.scrubRefreshDue [] ⟨aged, []⟩ true) s (fun t =>
        t.get F.STO_CNT_REFRESHED = min (s.get F.STO_CNT_REFRESHED + aged) (2 ^ (F.STO_CNT_REFRESHED.hi + 1 - F.STO_CNT_REFRESHED.lo) - 1)
        ∧ t.sto = { s.sto with scrubPos := none, scrubMt := s.mt } ∧ keepsFields s t [F.STO_CNT_REFRESHED]
        ∧ t.nand = { s.nand with dies := t.nand.dies, mapFolded := s.nand.mapFolded + s.vault.mapDeltas }
        ∧ t.vault = { s.vault with mapDeltas := 0 }
        ∧ t = { s with regs := t.regs, sto := t.sto, nand := t.nand, vault := t.vault }))
  ∧ (∀ (s : State) (p : Nat), s.nandWrites = true → s.sto.queue = [] → s.takes (.slice [.lost p] 0 true) = true →
      s.sto.scrubPos.isSome = true →
      exec (.scrubRefreshDue [.lost p] ⟨0, []⟩ true) s = .next
        (let u := (((((s.servedOn s.diesUp 5).foldMap.bumpBy F.STO_CNT_REFRESHED 0).reason .sto 0x0C08).event F.STO_EVT_PAGE_LOST)).stoEvent
            0x0C08 0 p p
         { u with sto := { u.sto with scrubPos := none, scrubMt := u.mt } }))
  ∧ (∀ (s : State) (pages : List PageFact) (b : ScrubBlocks) (ends : Bool), s.nandWrites = false →
      exec (.scrubRefreshDue pages b ends) s = .next s)
  ∧ (∀ (s : State) (pages : List PageFact) (aged : Nat) (ends : Bool), s.nandWrites = true → s.sto.queue = [] →
      s.takes (.slice pages aged ends) = false →
      exec (.scrubRefreshDue pages ⟨aged, []⟩ ends) s = .next { s with sto := { s.sto with queue := [.slice pages aged ends] } })
  ∧ (∀ (s : State) (d : Fin 2), d.val < s.nand.dies.length →
      ((s.serve (.collect d.val)).die d.val).erased = (s.die d.val).erased + 1
      ∧ ((s.serve (.collect d.val)).die d.val).erases = (s.die d.val).erases + 1)
  ∧ (∀ (s : State) (d : Nat), s.reqClassSto (.collect d) = 2 ↔ (s.die d).erased < 64)
  ∧ (∀ s : State, s.sto.mtRes ≤ s.mt + 8388608 → 6 ≤ s.phase → s.vaultUp = true → s.pwr.standby = false →
      exec (.mtReservation true) s = .next { s with
        vault := { s.vault with savedMt := s.vault.savedMt.write (s.mt + 16777216) }
        sto := { s.sto with mtRes := s.mt + 16777216, resvRetry := none } })
  ∧ (∀ s : State, s.sto.mtRes ≤ s.mt + 8388608 → 6 ≤ s.phase → s.vaultUp = true → s.pwr.standby = true →
      completes (.mtReservation true) s (fun t => t.vault = { s.vault with savedMt := s.vault.savedMt.write (s.mt + 16777216) }
        ∧ t.sto = { s.sto with mtRes := s.mt + 16777216, resvRetry := none } ∧ t.votes 11 = s.votes 11 / 2 * 2))
  ∧ (∀ s : State, s.sto.mtRes ≤ s.mt + 8388608 → 6 ≤ s.phase → s.pwr.standby = false →
      completes (.mtReservation false) s (fun t => t.get F.TIM_REASON_REASON = 0x040C ∧ t.get F.TIM_EVT_RESV_FAIL = 1
        ∧ t.sto = { s.sto with resvRetry := some (s.mt + 1000000) } ∧ keepsRegs s t [R.TIM_REASON, R.TIM_EVT]
        ∧ t = { s with regs := t.regs, sto := t.sto }))
  ∧ (∀ (s : State) (r : Nat), s.sto.resvRetry = some r → r ≤ s.mt → s.vaultUp = true → s.pwr.standby = false →
      exec (.mtReservationRetry true) s = .next { s with
        vault := { s.vault with savedMt := s.vault.savedMt.write (s.mt + 16777216) }
        sto := { s.sto with mtRes := s.mt + 16777216, resvRetry := none } })

/-- R89 to R91, R93: an authorised LEARN_OPEN opens the session for 1 to 64 tokens and returns the new KSN; LEARN_COMMIT writes the generation that holds
the new keys and puts the new set in force, its slots ACTIVE with CTR 0 and every other slot empty, or waits up to 200 ms for sessions in flight; each
of these two restarts the 30 min, refused or not; LEARN_ABANDON and 30 min without a learning command discard the session. -/
def Obligations.LearningOpensCommitsAndEnds : Prop :=
  (∀ (s : State) (n : BitVec 8) (auth : Bytes), s.mbReady 0x0801 (toLE 1 n.toNat ++ auth) →
      let b := s.begun 0x0801 (toLE 1 n.toNat ++ auth)
      let a := (b.checkAuth 0 (toLE 1 n.toNat) auth).1
      b.inService = true → auth.length = b.authLen → b.tok.learn = none → (b.checkAuth 0 (toLE 1 n.toNat) auth).2 = 0 →
      1 ≤ n.toNat → n.toNat ≤ 64 → a.vault.ksn ≠ 0xFFFF → a.prepReason = 0 →
      exec (.learnOpen n auth) s = .next (((({ a with keys := { a.keys with prep := .learning } }.setLearn
        (some ⟨n.toNat, [], a.mt, none⟩)).refreshKeys).reason .tok 0).finish 0 (toLE 2 (a.vault.ksn + 1))))
  ∧ (∀ (s : State) (n : BitVec 8) (auth : Bytes), s.mbReady 0x0801 (toLE 1 n.toNat ++ auth) →
      let b := s.begun 0x0801 (toLE 1 n.toNat ++ auth)
      b.inService = true → auth.length = b.authLen → b.tok.learn.isSome = true →
      exec (.learnOpen n auth) s = .next ((b.touchLearn.reason .tok 0x0810).finish 0x0810 []))
  ∧ (∀ (s : State) (env : Env) (l : Learn), s.mbReady 0x0803 [] →
      let b := (s.begun 0x0803 []).touchLearn
      let c := { b with keys := { b.keys with prep := .none }, tok := { b.tok with commitWait := none } }.commitGen (b.ring.filter (fun (r : KeyRec) => r.kind != 2) ++ learnedKeys b.nextGen 0 l.tokens) env.commitOk
      b.tok.learn = some l → l.tokens ≠ [] → b.tok.requests = [] → b.rng.sessions = [] → c.2 = 0 →
      exec (.learnCommit env) s = .next (((((({ c.1 with
          vault := { c.1.vault with ksn := b.vault.ksn + 1, slots := l.tokens.map learnedSlot ++ List.replicate (64 - l.tokens.length) Slot.empty }
          tok := { c.1.tok with resync := [], accepted := [], confirms := [] } }.setLearn none).refreshSet.refreshKeys).event
            F.TOK_EVT_LEARN_DONE).reason .tok 0).keyEvent 0x0803 0).finish 0 (toLE 2 (b.vault.ksn + 1) ++ toLE 1 l.tokens.length)))
  ∧ (∀ (s : State) (env : Env) (l : Learn), s.mbReady 0x0803 [] →
      let b := (s.begun 0x0803 []).touchLearn
      b.tok.learn = some l → l.tokens ≠ [] → (b.tok.requests ≠ [] ∨ b.rng.sessions ≠ []) →
      exec (.learnCommit env) s = .next { b with tok := { b.tok with commitWait := some (s.mt + 200000), commitOk := env.commitOk } })
  ∧ (∀ (s : State) (env : Env) (l : Learn), s.mbReady 0x0803 [] →
      let b := (s.begun 0x0803 []).touchLearn
      b.tok.learn = some l → l.tokens = [] → exec (.learnCommit env) s = .next ((b.reason .tok 0x081A).finish 0x081A []))
  ∧ (∀ s : State, s.mbReady 0x0804 [] → s.tok.learn.isSome = true →
      exec .learnAbandon s = .next (((s.begun 0x0804 []).dropLearn.reason .tok 0).finish 0 []))
  ∧ (∀ s : State, s.mbReady 0x0804 [] → s.tok.learn = none →
      exec .learnAbandon s = .next (((s.begun 0x0804 []).reason .tok 0x0811).finish 0x0811 []))
  ∧ (∀ s : State, s.dropLearn.tok.learn = none ∧ s.dropLearn.keys.prep = .none ∧ s.dropLearn.tok.commitWait = none)
  ∧ (∀ (s : State) (l : Learn), s.tok.learn = some l → l.lastMt + 1800000000 ≤ s.mt → exec .learnTimeout s = .next (s.dropLearn.reason .tok 0x081C))
  ∧ (∀ (s : State) (l : Learn), s.tok.learn = some l → s.mt < l.lastMt + 1800000000 → exec .learnTimeout s = .next s)
  ∧ (∀ s : State, s.tok.learn = none → exec .learnTimeout s = .next s)
  ∧ State.reset.newKsn = 1
  ∧ (∀ (s : State) (n : BitVec 8) (auth : Bytes), s.mbReady 0x0801 (toLE 1 n.toNat ++ auth) →
      let b := s.begun 0x0801 (toLE 1 n.toNat ++ auth)
      let a := (b.checkAuth 0 (toLE 1 n.toNat) auth).1
      b.inService = true → auth.length = b.authLen → b.tok.learn = none → (b.checkAuth 0 (toLE 1 n.toNat) auth).2 = 0 →
      1 ≤ n.toNat → n.toNat ≤ 64 → a.vault.ksn = 0xFFFF →
      exec (.learnOpen n auth) s = .next ((a.reason .tok 0x081B).finish 0x081B []))

/-- R92, R192, Table 4-8: LEARN_TOKEN checks its record and raises the exchange at the coil, or at the reader for class C; the answer to the TID read
brings KEYLOAD with a fresh key; a KEYACK within 500 ms whose MAC passes writes the slot after the turnaround calibration, any other ends the step
with 0x0815. The key is drawn with prediction resistance, and not at all while the entropy source is failed (0x0A0D, R258). -/
def Obligations.TokensLearnTheirKeys : Prop :=
  (∀ (s : State) (record : Bytes) (cards : CardField), s.mbReady 0x0802 record → s.tok.learn = none →
      exec (.learnToken record cards) s = .next (((s.begun 0x0802 record).reason .tok 0x0811).finish 0x0811 []))
  ∧ (∀ (s : State) (record : Bytes) (cards : CardField) (l : Learn), s.mbReady 0x0802 record → (s.begun 0x0802 record).tok.learn = some l →
      exec (.learnToken record cards) s = .next (let b := s.begun 0x0802 record
        let s1 := { b with tok := { b.tok with learn := some { l with lastMt := b.mt } } }
        match b.learnBegin record with
        | .error e => (s1.reason .tok e).finish e []
        | .ok x =>
          let u := s1.setLearn (some { l with lastMt := b.mt, current := some x })
          let r : LfReq := { code := 0x0B, cls := lfClass 0x0B true, lft := true, trig := false, host := false, learn := true, confirm := none }
          if x.cls ≠ 2 then
            (if (u.raiseRequest r).2 = 0 then (u.raiseRequest r).1 else (s1.reason .tok (u.raiseRequest r).2).finish (u.raiseRequest r).2 [])
          else if u.enabled .nfc = false then (s1.reason .tok 0x0131).finish 0x0131 []
          else if u.readerUp = false then (s1.reason .tok 0x0814).finish 0x0814 []
          else if u.readerBlocked ≠ 0 then ((s1.pollDeferred u.readerBlocked).reason .tok u.readerBlocked).finish u.readerBlocked []
          else if (u.resolve cards).1 = [] then (s1.reason .tok 0x0814).finish 0x0814 []
          else u.startDetection cards true))
  ∧ (∀ (s : State) (l : Learn) (x : LearnStep) (arsp : Bytes), s.tok.learn = some l → l.current = some x → x.loaded = false →
      arsp.length = 18 → u8 arsp 0 = 0x34 → be arsp 2 4 = x.tid → allZero (slice arsp 10 8) = true → s.get F.SYM_ENT_FAILED = 0 →
      s.learnRead arsp = ((s.freshPr 32).tokSent (if x.cls = 2 then s.keyload x (s.drawnPr 32) else withCrc (s.keyload x (s.drawnPr 32)))).setLearn
        (some { l with current := some { x with ts := [], sk := s.drawnPr 32, loaded := true, sentMt := s.mt } }))
  ∧ (∀ (s : State) (l : Learn) (x : LearnStep) (arsp : Bytes), s.tok.learn = some l → l.current = some x → x.loaded = false →
      arsp.length = 18 → u8 arsp 0 = 0x34 → be arsp 2 4 = x.tid → allZero (slice arsp 10 8) = true → s.get F.SYM_ENT_FAILED = 1 →
      s.learnRead arsp = s.endLearnStep 0x0A0D [])
  ∧ (∀ (s : State) (frame arsp b : Bytes) (exchanges : List CalExchange) (l : Learn) (x : LearnStep) (t : State) (turn : Nat),
      s.tok.learn = some l → l.current = some x → x.loaded = true → (if x.cls = 2 then some frame else crcGood frame) = some b →
      b.length = 13 → u8 b 0 = 0x32 → be b 1 4 = x.tid → slice b 5 8 = s.learnMac x 0x11 [] 8 → s.mt ≤ x.sentMt + 500000 →
      s.learnTurn x arsp exchanges = (t, .ok turn) → t.vaultUp = true →
      exec (.keyackReceive frame arsp exchanges) s = .next ((t.setLearn (some { l with
        tokens := l.tokens ++ [⟨x.tid, x.typeId, x.cls, turn, x.sk⟩] })).commitPoint.endLearnStep 0 (toLE 1 t.learnSlot)))
  ∧ (∀ (s : State) (x : LearnStep) (arsp : Bytes) (exchanges : List CalExchange), s.typeRanges x.typeId = false →
      s.learnTurn x arsp exchanges = (s, .ok 0))
  ∧ (∀ (s : State) (x : LearnStep) (arsp : Bytes) (exchanges : List CalExchange) (turn : Nat) (t : State),
      s.learnTurn x arsp exchanges = (t, .ok turn) →
      s.typeRanges x.typeId = false ∨ (s.enabled .rng = true ∧ 8110 ≤ turn ∧ turn ≤ 8274))
  ∧ (∀ (s : State) (frame arsp : Bytes) (exchanges : List CalExchange) (l : Learn) (x : LearnStep), s.tok.learn = some l → l.current = some x →
      x.loaded = true → x.cls ≠ 2 → crcGood frame = none → exec (.keyackReceive frame arsp exchanges) s = .next (s.endLearnStep 0x0815 []))
  ∧ (∀ (s : State) (l : Learn) (x : LearnStep), s.tok.learn = some l → l.current = some x → x.loaded = true → x.sentMt + 500000 ≤ s.mt →
      exec .keyackTimeout s = .next (s.endLearnStep 0x0815 []))

/-- R361: SNAP captures the four bases of one instant into TIM_SNAP0 to TIM_SNAP7, and nothing else changes. R366 to R368: in NT_MODE 0 the host loads,
steps and keeps NT; in NT_MODE 1 a load, a step and an increment are refused with 0x0403. A value out of its range is refused with 0x040F or 0x0402. -/
def Obligations.HostTimeSnapshotsAndNetworkTime : Prop :=
  (∀ s : State, completes .snap s (fun t =>
        (∀ k : Fin 8, t.reg (R.TIM_SNAPn k.val) = le s.snapRecord (4 * k.val) 4)
        ∧ keepsRegs s t ((List.range 8).map R.TIM_SNAPn) ∧ t = { s with regs := t.regs }))
  ∧ (∀ s : State, s.snapRecord.length = 32 ∧ le s.snapRecord 0 8 = s.mt % 2 ^ 64 ∧ le s.snapRecord 16 4 = s.tim.nt % 10 ^ 9
        ∧ le s.snapRecord 20 4 = s.pilot.pt.toNat ∧ le s.snapRecord 24 6 = s.tim.rt.toNat)
  ∧ (∀ s : State, s.ntMode ≠ 1 → s.reg R.TIM_NT_SET_NS < 10 ^ 9 → completes .ntSet s (fun t =>
        t.tim.nt = (s.reg R.TIM_NT_SET_S_LO + s.reg R.TIM_NT_SET_S_HI % 0x10000 * 2 ^ 32) * 10 ^ 9 + s.reg R.TIM_NT_SET_NS
        ∧ t.tim.ntFrac = 0 ∧ t.tim.lastSync = s.mt ∧ t.get F.TIM_STAT_NT_STATE = 2 ∧ t = { s with regs := t.regs, tim := t.tim }))
  ∧ (∀ s : State, s.ntMode ≠ 1 → completes .ntStep s (fun t =>
        t.tim.nt = (((s.tim.nt : Int) + signed 32 (s.reg R.TIM_NT_OFFSET)).toNat) % (2 ^ 48 * 10 ^ 9)
        ∧ t.tim.lastSync = s.mt ∧ t.get F.TIM_STAT_NT_STATE = 2 ∧ t = { s with regs := t.regs, tim := t.tim }))
  ∧ (∀ s : State, s.ntMode ≠ 1 → completes .hostSync s (fun t =>
        t.tim = { s.tim with lastSync := s.mt } ∧ t.get F.TIM_STAT_NT_STATE = 2
        ∧ keepsFields s t [F.TIM_STAT_NT_STATE, F.TIM_EVT_NT_STATE] ∧ t = { s with regs := t.regs, tim := t.tim }))
  ∧ (∀ (s : State) (i : BitVec 8), s.ntMode ≠ 1 →
      24 * 2 ^ 32 ≤ i.toNat * 2 ^ 32 + s.reg R.TIM_NT_INC_FRAC → i.toNat * 2 ^ 32 + s.reg R.TIM_NT_INC_FRAC ≤ 26 * 2 ^ 32 →
      completes (.ntIncWrite i) s (fun t => t.tim = { s.tim with inc := i.toNat * 2 ^ 32 + s.reg R.TIM_NT_INC_FRAC }
        ∧ t.get F.TIM_NT_INC_INT_INT = i.toNat ∧ keepsFields s t [F.TIM_NT_INC_INT_INT] ∧ t = { s with regs := t.regs, tim := t.tim }))
  ∧ (∀ (s : State) (i : BitVec 8), s.ntMode ≠ 1 →
      (i.toNat * 2 ^ 32 + s.reg R.TIM_NT_INC_FRAC < 24 * 2 ^ 32 ∨ 26 * 2 ^ 32 < i.toNat * 2 ^ 32 + s.reg R.TIM_NT_INC_FRAC) →
      exec (.ntIncWrite i) s = .next (s.reason .tim 0x0402))
  ∧ (∀ s : State, s.ntMode ≠ 1 → 10 ^ 9 ≤ s.reg R.TIM_NT_SET_NS → exec .ntSet s = .next (s.reason .tim 0x040F))
  ∧ (∀ (s : State) (i : BitVec 8), s.ntMode = 1 → exec .ntSet s = .next (s.reason .tim 0x0403)
        ∧ exec .ntStep s = .next (s.reason .tim 0x0403) ∧ exec (.ntIncWrite i) s = .next (s.reason .tim 0x0403)
        ∧ exec .hostSync s = .next s)

/-- R367, R368, R362: NT falls from HOLD to FREE once HOLD_S has passed (0x0407), from SYNC to HOLD when Sync is missed (0x0406); a failed 32.768 kHz
oscillator leaves PT derived from the RC with 0x040D and group 14 reduced. R370, R371: the end station takes the master of the lowest priority vector,
steps NT when the offset exceeds STEP_NS and else follows its bounded loop (whose gains are a free value, log entry 7), answers and sends Pdelay, and
reports a link delay above its limit with 0x040A. -/
def Obligations.NetworkTimeFollowsAndFallsBack : Prop :=
  (∀ s : State, s.get F.TIM_STAT_NT_STATE = 3 → s.tim.holdSince + s.holdUs ≤ s.mt + s.tim.holdSpent →
      completes .holdExpiry s (fun t => t.get F.TIM_STAT_NT_STATE = 1 ∧ t.get F.TIM_REASON_REASON = 0x0407
        ∧ t.get F.TIM_EVT_HOLD_END = 1 ∧ t.get F.TIM_EVT_NT_STATE = 1
        ∧ keepsFields s t [F.TIM_STAT_NT_STATE, F.TIM_REASON_REASON, F.TIM_EVT_HOLD_END, F.TIM_EVT_NT_STATE] ∧ t = { s with regs := t.regs }))
  ∧ (∀ s : State, s.get F.TIM_STAT_NT_STATE = 3 → s.mt + s.tim.holdSpent < s.tim.holdSince + s.holdUs → exec .holdExpiry s = .next s)
  ∧ (∀ s : State, s.ntMode = 1 → s.get F.TIM_STAT_NT_STATE = 2 → s.tim.lastSync + s.syncUs ≤ s.mt →
      completes .syncTimeout s (fun t => t.get F.TIM_STAT_NT_STATE = 3 ∧ t.get F.TIM_REASON_REASON = 0x0406
        ∧ t.get F.TIM_EVT_SYNC_LOST = 1 ∧ t.get F.TIM_EVT_NT_STATE = 1
        ∧ t.get F.TIM_GPTP_CNT_LOST = min (s.get F.TIM_GPTP_CNT_LOST + 1) 255
        ∧ t.tim = { s.tim with holdSince := s.mt, holdSpent := 0, good := 0 }
        ∧ keepsFields s t [F.TIM_STAT_NT_STATE, F.TIM_REASON_REASON, F.TIM_EVT_SYNC_LOST, F.TIM_EVT_NT_STATE, F.TIM_GPTP_CNT_LOST]
        ∧ t = { s with regs := t.regs, tim := t.tim }))
  ∧ (∀ s : State, completes .ptOscFail s (fun t => t.tim = { s.tim with ptRc := true } ∧ t.get F.TIM_STAT_PT_RC = 1
        ∧ t.get F.TIM_EVT_PT_OSC_FAIL = 1 ∧ t.get F.TIM_REASON_REASON = 0x040D ∧ Nat.testBit (t.reg R.PWR_RED_STAT) 14 = true
        ∧ t.get F.PWR_EVT_RED_LOSS = 1
        ∧ keepsRegs s t [R.TIM_STAT, R.TIM_EVT, R.TIM_REASON, R.PWR_RED_STAT, R.PWR_EVT] ∧ t = { s with regs := t.regs, tim := t.tim }))
  ∧ (∀ (s : State) (m v : Nat), s.gptpRuns = true → (s.tim.master = none ∨ v < s.tim.masterVec ∨ s.tim.master = some m) →
      exec (.announce m v) s = .next { s with tim := { s.tim with master := some m, masterVec := v } })
  ∧ (∀ (s : State) (m v : Nat), s.gptpRuns = true → s.tim.master.isSome = true → s.tim.masterVec ≤ v → s.tim.master ≠ some m →
      exec (.announce m v) s = .next s)
  ∧ (∀ (s : State) (st og m : Nat) (c : Int), s.gptpRuns = true → s.tim.master = some m →
      let o : Int := (st : Int) - ((og : Int) + c + s.tim.delay)
      (s.secLE 0x0C 0x0C 4 1000 < o.natAbs → completes (.followUp st og c m) s (fun t =>
        t.tim.nt = (((s.tim.nt : Int) - o).toNat) % (2 ^ 48 * 10 ^ 9) ∧ t.get F.TIM_EVT_STEP = 1 ∧ t.get F.TIM_REASON_REASON = 0x040B
        ∧ t.get F.TIM_GPTP_CNT_STEPS = min (s.get F.TIM_GPTP_CNT_STEPS + 1) 255 ∧ t.tim.lastSync = s.mt ∧ t.tim.rate = 0
        ∧ t.reg R.TIM_GPTP_OFFSET = clip32 o ∧ t = { s with regs := t.regs, tim := t.tim }))
      ∧ (o.natAbs ≤ s.secLE 0x0C 0x0C 4 1000 → completes (.followUp st og c m) s (fun t =>
        t.tim = { s.tim with lastSync := s.mt, rate := (Config.servo s.tim.rate o).1
                             inc := (25 * 2 ^ 32 + clipPpm (Config.servo s.tim.rate o).2).toNat
                             good := if o.natAbs ≤ s.secLE 0x0C 8 4 50 then s.tim.good + 1 else 0 }
        ∧ t.reg R.TIM_GPTP_OFFSET = clip32 o ∧ t.get F.TIM_GPTP_CNT_SYNCS = min (s.get F.TIM_GPTP_CNT_SYNCS + 1) 65535
        ∧ (o.natAbs ≤ s.secLE 0x0C 8 4 50 → 3 ≤ s.tim.good → t.get F.TIM_STAT_NT_STATE = 2)
        ∧ keepsFields s t [F.TIM_GPTP_OFFSET_O, F.TIM_GPTP_CNT_SYNCS, F.TIM_STAT_NT_STATE, F.TIM_EVT_NT_STATE]
        ∧ t = { s with regs := t.regs, tim := t.tim })))
  ∧ (∀ (s : State) (m q : Nat), s.gptpRuns = true →
      exec (.pdelayReq m q) s = .next { s with tim := { s.tim with sent := [(0x3, q, m), (0xA, q, m)] } })
  ∧ (∀ s : State, s.gptpRuns = true → s.tim.pdelayMt + s.pdelayUs ≤ s.mt →
      exec .pdelayReqSend s = .next { s with tim := { s.tim with
        pdelaySeq := (s.tim.pdelaySeq + 1) % 65536, pdelayMt := s.mt, sent := [(0x2, (s.tim.pdelaySeq + 1) % 65536, 0)] } })
  ∧ (∀ (s : State) (m d : Nat), s.gptpRuns = true → s.tim.master = some m → d ≤ s.secLE 0x0C 4 4 100000 → d < 2 ^ 32 →
      completes (.pdelayResp m s.tim.pdelaySeq d) s (fun t => t.tim = { s.tim with delay := d, asCapable := true }
        ∧ t.reg R.TIM_GPTP_DELAY = d ∧ t.get F.TIM_STAT_AS_CAPABLE = 1 ∧ keepsFields s t [F.TIM_GPTP_DELAY_DELAY, F.TIM_STAT_AS_CAPABLE]
        ∧ t = { s with regs := t.regs, tim := t.tim }))
  ∧ (∀ (s : State) (m d : Nat), s.gptpRuns = true → s.tim.master = some m → s.secLE 0x0C 4 4 100000 < d →
      s.get F.TIM_STAT_NT_STATE ≠ 2 →
      completes (.pdelayResp m s.tim.pdelaySeq d) s (fun t => t.tim = { s.tim with delay := d, asCapable := false }
        ∧ t.get F.TIM_STAT_AS_CAPABLE = 0 ∧ t.get F.TIM_EVT_NOT_AS_CAPABLE = 1 ∧ t.get F.TIM_REASON_REASON = 0x040A
        ∧ t = { s with regs := t.regs, tim := t.tim }))

/-- R374, R375: a pulse unit armed at a START ahead of its base by less than 2^31 waits for that edge; a START not ahead is refused with 0x0401, a WIDTH
outside its range with 0x040F. At its grid point the output goes active and the next edge is a PERIOD later; WIDTH after it the output goes inactive.
ARMED stands while the unit waits for START or between pulses. R372, R373: the oldest queued frame of a port leaves when it is sent, and a tagged one
puts its stamp at the end of the port's queue; POP removes the head and does nothing on an empty queue; OVF and LOST clear together. A full queue
drops the entry with OVF, LOST and 0x0409. -/
def Obligations.PulsesAndTransmitStamps : Prop :=
  (∀ (s : State) (u : Fin 4), s.enabled .tim = true → s.get (F.TIM_PULSEn_CTL_EN u.val) = 0 → s.tim.pulses.length = 4 →
      s.get (F.TIM_PULSEn_CTL_BASE u.val) = 1 →
      1 ≤ s.reg (R.TIM_PULSEn_WIDTH u.val) → s.reg (R.TIM_PULSEn_WIDTH u.val) < s.reg (R.TIM_PULSEn_PERIOD u.val) →
      let d := (s.reg (R.TIM_PULSEn_START u.val) + 2 ^ 32 - s.mt % 2 ^ 32) % 2 ^ 32
      (1 ≤ d → d < 2 ^ 31 → completes (.pulseArm u) s (fun t => t.get (F.TIM_PULSEn_CTL_EN u.val) = 1
          ∧ t.get (F.TIM_PULSEn_CTL_ARMED u.val) = 1 ∧ (t.pulse u.val).next = s.mt + d ∧ (t.pulse u.val).t0 = s.mt + d
          ∧ (t.pulse u.val).high = none ∧ keepsRegs s t [R.TIM_PULSEn_CTL u.val, R.TIM_STAT]
          ∧ t = { s with regs := t.regs, tim := { s.tim with pulses := t.tim.pulses } }))
      ∧ ((d = 0 ∨ 2 ^ 31 ≤ d) → exec (.pulseArm u) s = .next (s.reason .tim 0x0401)))
  ∧ (∀ (s : State) (u : Fin 4), s.enabled .tim = true → s.get (F.TIM_PULSEn_CTL_EN u.val) = 0 → s.islandFailed 13 = false →
      (s.reg (R.TIM_PULSEn_PERIOD u.val) ≤ s.reg (R.TIM_PULSEn_WIDTH u.val) ∨ s.reg (R.TIM_PULSEn_WIDTH u.val) = 0) →
      exec (.pulseArm u) s = .next (s.reason .tim 0x040F))
  ∧ (∀ (s : State) (u : Fin 4), s.get (F.TIM_PULSEn_CTL_EN u.val) = 1 → s.tim.pulses.length = 4 → (s.pulse u.val).high = none →
      s.reached u.val (s.pulse u.val).next = true →
      completes (.pulseEdge u) s (fun t => (t.pulse u.val).high = some ((s.pulse u.val).next + s.reg (R.TIM_PULSEn_WIDTH u.val))
        ∧ (t.pulse u.val).level = s.flag (F.TIM_PULSEn_CTL_POL u.val)
        ∧ (t.pulse u.val).next = (s.pulse u.val).next + s.reg (R.TIM_PULSEn_PERIOD u.val)
        ∧ t.get (F.TIM_PULSEn_CTL_ARMED u.val) = 0 ∧ keepsFields s t [F.TIM_PULSEn_CTL_ARMED u.val]
        ∧ t = { s with regs := t.regs, tim := { s.tim with pulses := t.tim.pulses } }))
  ∧ (∀ (s : State) (u : Fin 4) (f : Nat), s.get (F.TIM_PULSEn_CTL_EN u.val) = 1 → s.tim.pulses.length = 4 →
      (s.pulse u.val).high = some f → s.reached u.val f = true → s.get (F.TIM_PULSEn_CTL_MODE u.val) = 1 →
      completes (.pulseEdge u) s (fun t => (t.pulse u.val).high = none ∧ (t.pulse u.val).level = !s.flag (F.TIM_PULSEn_CTL_POL u.val)
        ∧ (t.pulse u.val).next = (s.pulse u.val).next
        ∧ t.get (F.TIM_PULSEn_CTL_ARMED u.val) = 1 ∧ keepsFields s t [F.TIM_PULSEn_CTL_ARMED u.val] ∧ t = { s with regs := t.regs, tim := { s.tim with pulses := t.tim.pulses } }))
  ∧ (∀ (s : State) (u : Fin 4) (f : Nat), s.get (F.TIM_PULSEn_CTL_EN u.val) = 1 → (s.pulse u.val).high = some f →
      s.reached u.val f = true → s.get (F.TIM_PULSEn_CTL_MODE u.val) = 0 →
      completes (.pulseEdge u) s (fun t => t.get (F.TIM_PULSEn_CTL_EN u.val) = 0 ∧ t.get (F.TIM_PULSEn_CTL_ARMED u.val) = 0
        ∧ t.get F.TIM_EVT_PULSE_DONE = 1 ∧ t = { s with regs := t.regs, tim := { s.tim with pulses := t.tim.pulses } }))
  ∧ (∀ (s : State) (p : Fin 3) (f : TxFrame) (rest : List TxFrame) (g : Nat), s.hif.txq = f :: rest → f.port = framePort p.val →
      f.tag = some g → s.tim.queues.length = 3 → (s.stampQueue p.val).length < 16 → s.stampsOn p.val = true →
      completes (.txStampEntry p true) s (fun t => t.hif = { s.hif with txq := rest }
        ∧ t.stampQueue p.val = s.stampQueue p.val ++ [⟨g, s.stampFlags false, s.tim.nt / 10 ^ 9, s.tim.nt % 10 ^ 9⟩]
        ∧ t = { s with hif := t.hif, tim := { s.tim with queues := t.tim.queues } }))
  ∧ (∀ (s : State) (p : Fin 3) (f : TxFrame) (rest : List TxFrame), s.hif.txq = f :: rest → f.port = framePort p.val → f.tag = none →
      exec (.txStampEntry p true) s = .next { s with hif := { s.hif with txq := rest } }
      ∧ exec (.txStampEntry p false) s = .next (({ s with hif := { s.hif with txq := rest } }).reason .hif 0x1011))
  ∧ (∀ (s : State) (p : Nat) (e : TxStamp), 16 ≤ (s.stampQueue p).length → p < 3 →
      (s.addStamp p e).get (F.TIM_TXTSp_STAT_OVF p) = 1 ∧ (s.addStamp p e).get F.TIM_REASON_REASON = 0x0409
        ∧ (s.addStamp p e).get F.TIM_EVT_TXTS_OVF = 1 ∧ (s.addStamp p e).tim = s.tim)
  ∧ (∀ (s : State) (p : Fin 3), s.tim.queues.length = 3 → completes (.pop p) s (fun t => t.stampQueue p.val = (s.stampQueue p.val).drop 1
        ∧ (∀ q : Fin 3, q ≠ p → t.stampQueue q.val = s.stampQueue q.val) ∧ t = { s with tim := { s.tim with queues := t.tim.queues } }))
  ∧ (∀ (s : State) (p : Fin 3), completes (.ovfClear p) s (fun t => t.get (F.TIM_TXTSp_STAT_OVF p.val) = 0
        ∧ t.get (F.TIM_TXTSp_STAT_LOST p.val) = 0 ∧ keepsFields s t [F.TIM_TXTSp_STAT_OVF p.val, F.TIM_TXTSp_STAT_LOST p.val]
        ∧ t = { s with regs := t.regs }))

/-- R169, R382 to R387: a vote on an island that is not in RUN begins its restore, unless its drop is past its point of no return; a restored island takes
the state its votes ask for; the last vote withdrawn lets the island doze and drop to NAP unless a transaction or a transfer holds it, and a vote that
comes too late restores it from there; a restore past twice its Max restarts the island once. R392, Table 1-1: an island takes the level of its work,
or the one asked where Table 14-6 gives none, within its range and under the governor's cap, and VCORE follows the highest; one that does not settle
stays at the higher level with 0x0314. R382: the failure of an island or of its power switch marks it FAILED with its reason and takes down what needs
it. -/
def Obligations.VotesHoldIslandsAndLevels : Prop :=
  (∀ (s : State) (c : Fin 9) (i : Fin 15), s.mayHold c.val i.val = true → s.pwr.standby = false → s.pwr.entry = none → s.pwr.doze = [] →
      s.islandFailed i.val = false → (s.island i.val = 0 ∨ s.island i.val = 1) → s.noReturn i.val = false →
      s.pwr.restoring.any (fun r => r.1 == i.val) = false → i.val ≠ 1 → i.val ≠ 2 →
      completes (.voteRaise c i false) s (fun t => t.votes i.val = s.votes i.val ||| 2 ^ c.val
        ∧ t.pwr = { s.pwr with
            restoring := s.pwr.restoring ++ [(i.val, s.mt)], dropping := s.pwr.dropping.filter (fun d => d.1 != i.val) }
        ∧ keepsRegs s t [R.PWR_VOTEn i.val] ∧ t = { s with regs := t.regs, pwr := t.pwr }))
  ∧ (∀ (s : State) (c : Fin 9) (i : Fin 15), s.mayHold c.val i.val = true → s.pwr.standby = false → s.pwr.entry = none → s.pwr.doze = [] →
      (s.noReturn i.val = true ∨ s.island i.val = 2) → i.val ≠ 1 → i.val ≠ 2 →
      completes (.voteRaise c i false) s (fun t => t.votes i.val = s.votes i.val ||| 2 ^ c.val
        ∧ keepsRegs s t [R.PWR_VOTEn i.val] ∧ t = { s with regs := t.regs }))
  ∧ (∀ (s : State) (c : Fin 9) (i : Fin 15) (d : Bool), s.mayHold c.val i.val = false → exec (.voteRaise c i d) s = .next s)
  ∧ (∀ (s : State) (c : Fin 9) (i : Fin 15), c.val ≠ 3 → s.pwr.doze = [] → s.votes i.val = 2 ^ c.val →
      s.islandFailed i.val = false → i.val ≠ 0 → i.val ≠ 7 → s.island i.val ≠ 0 → s.dropMt i.val = none → s.held i.val = false →
      s.get F.PWR_STBY_LAST_REASON = 0 →
      completes (.voteWithdraw c i) s (fun t => t.votes i.val = 0 ∧ t.island i.val = 1
        ∧ t.pwr = { s.pwr with
            restoring := s.pwr.restoring.filter (fun r => r.1 != i.val), dropping := s.pwr.dropping ++ [(i.val, s.mt)] }
        ∧ keepsRegs s t [R.PWR_VOTEn i.val, R.PWR_ISL_STATE, R.RF_STAT] ∧ t = { s with regs := t.regs, pwr := t.pwr }))
  ∧ (∀ (s : State) (c : Fin 9) (i : Fin 15), c.val ≠ 3 → s.pwr.doze = [] → s.votes i.val = 2 ^ c.val → i.val ≠ 7 →
      s.held i.val = true → s.get F.PWR_STBY_LAST_REASON = 0 →
      completes (.voteWithdraw c i) s (fun t => t.votes i.val = 0 ∧ t.island i.val = s.island i.val
        ∧ keepsRegs s t [R.PWR_VOTEn i.val] ∧ t = { s with regs := t.regs }))
  ∧ (∀ (s : State) (i : Fin 15), s.votes i.val = 0 → s.held i.val = false → s.islandFailed i.val = false → i.val ≠ 7 → i.val ≠ 1 + s.activePair →
      (s.dropped i.val).island i.val = 0 ∧ (s.dropped i.val).dropMt i.val = none)
  ∧ (∀ (s : State) (i : Fin 15) (ppm : BitVec 16), s.pwr.restoring.any (fun r => r.1 == i.val) = true →
      i.val ≠ 0 → i.val ≠ 7 → i.val ≠ 13 → (i.val < 3 ∨ 6 < i.val) → (i.val = 9 → s.enabled .rf = false) → i.val ≠ 1 + s.activePair →
      completes (.islandRestored i ppm) s (fun t => t.island i.val = (if s.runVotes i.val = 0 ∧ s.held i.val = false then 1 else 2)
        ∧ t.pwr = { s.pwr with restoring := s.pwr.restoring.filter (fun r => r.1 != i.val), restarts := s.pwr.restarts.erase i.val }
        ∧ keepsRegs s t [R.PWR_ISL_STATE] ∧ t = { s with regs := t.regs, pwr := t.pwr }))
  ∧ (∀ (s : State) (i : Fin 15) (ppm : BitVec 16), s.pwr.restoring.any (fun r => r.1 == i.val) = true → i.val = 1 + s.activePair →
      completes (.islandRestored i ppm) s (fun t => t.island i.val = (if s.runVotes i.val = 0 ∧ s.held i.val = false then 1 else 2)
        ∧ (s.pwr.xtalRun = true → t.get F.TIM_PT_CAL_PPM = ppm.toNat ∧ t.tim = { s.tim with calMt := some s.mt })
        ∧ keepsRegs s t [R.PWR_ISL_STATE, R.TIM_PT_CAL]))
  ∧ (∀ (s : State) (i : Fin 15) (m : Nat), s.pwr.restoring.find? (fun r => r.1 == i.val) = some (i.val, m) →
      m + 2 * maxRestoreUs i.val (s.island i.val == 1) ≤ s.mt → s.pwr.restarts.contains i.val = false →
      exec (.restoreTimeout i) s = .next { s with pwr := { s.pwr with
        restoring := s.pwr.restoring.filter (fun r => r.1 != i.val) ++ [(i.val, s.mt)], restarts := s.pwr.restarts ++ [i.val] } })
  ∧ (∀ (s : State) (i : Fin 15) (l : Fin 4) (lo hi : Nat), levelRange i.val = some (lo, hi) → s.islandFailed i.val = false →
      completes (.levelChange i l true) s (fun t => t.level i.val = max lo (min (min ((s.workLevel i.val).getD l.val) hi) (s.levelCap i.val))
        ∧ (∀ k, k < 15 → k ≠ i.val → t.level k = s.level k) ∧ keepsRegs s t [R.PWR_ISL_PL]
        ∧ t.pwr = { s.pwr with vcore := [1, 2, 3, 4, 5, 6, 11].foldl (fun m k => max m (t.level k)) 0 }
        ∧ t = { s with regs := t.regs, pwr := t.pwr }))
  ∧ (∀ (s : State) (i : Fin 15) (l : Fin 4) (lo hi : Nat), levelRange i.val = some (lo, hi) → s.islandFailed i.val = false →
      completes (.levelChange i l false) s (fun t =>
        t.level i.val = max (max lo (min (min ((s.workLevel i.val).getD l.val) hi) (s.levelCap i.val))) (s.level i.val) ∧ t.get F.PWR_REASON_REASON = 0x0314
        ∧ keepsRegs s t [R.PWR_ISL_PL, R.PWR_REASON] ∧ t = { s with regs := t.regs, pwr := t.pwr }))
  ∧ (∀ (s : State) (i : Fin 15) (l : Fin 4) (b : Bool), levelRange i.val = none → exec (.levelChange i l b) s = .next s)
  ∧ (∀ s : State, s.islandFailed 9 = false → s.enabled .rf = true → s.enabled .sys = true →
      completes (.islandFailed 9 true) s (fun t => t.island 9 = 3 ∧ t.enabled .rf = false ∧ t.get F.PWR_EVT_ISLAND_FAILED = 1
        ∧ Nat.testBit (t.get F.PWR_FAILED_MAP) 9 = true ∧ t.get F.PWR_REASON_REASON = 0x0310 ∧ t.fuses = s.fuses))
  ∧ (∀ (s : State) (i : Fin 15) (b : Bool), s.islandFailed i.val = true → exec (.islandFailed i b) s = .next s)

/-- R388, R389: after its idle time the device begins an entry into STANDBY: the tiles, NFC, radio and LF drop first, the others one by one, the active
pair last, and with its drop the device is in STANDBY. A vote of a client 4 to 8 on an addressed island abandons the entry with 0x0301, a transfer
that lasts past its wait with 0x0302; a vote of clients 0 to 2, or work, ends it (log entry 171); work, an update or a phase other than 0xA forbid it. -/
def Obligations.StandbyIsEnteredOrAbandoned : Prop :=
  (∀ s : State, s.phase = 0xA → s.pwr.standby = false → s.pwr.entry = none → s.atWork = false → s.updBusy = false →
      s.pwr.idleSince + 1000 * s.setting 0x0301 1000 ≤ s.mt → s.pwr.askAgain ≤ s.mt →
      (∀ i, s.held i = false) → (∀ i, i < 15 → s.votes i < 8) →
      completes .standbyEntry s (fun t => t.pwr.standby = false ∧ t.pwr.entry = some ⟨s.mt, 0⟩
        ∧ (∀ i ∈ [3, 4, 5, 6, 12, 9, 10], t.votes i = 0
            ∧ (s.islandFailed i = false → s.island i ≠ 0 → t.island i = 1 ∨ s.dropMt i ≠ none))
        ∧ (∀ i ∈ [1, 2, 8, 11, 13, 14], t.votes i = s.votes i ∧ t.island i = s.island i)
        ∧ t.fuses = s.fuses ∧ t.vault = s.vault ∧ t.keys = s.keys ∧ t.sys = s.sys))
  ∧ (∀ (s : State) (e : StbyEntry) (i : Nat), s.pwr.entry = some e → s.atWork = false → e.pos < 5 → s.laterIslands[e.pos]? = some i →
      e.startMt + 10 * (e.pos + 1) ≤ s.mt → s.held i = false → s.votes i < 8 →
      s.dueEntry.votes i = 0 ∧ s.dueEntry.pwr.entry = some ⟨e.startMt, e.pos + 1⟩ ∧ s.dueEntry.fuses = s.fuses ∧ s.dueEntry.vault = s.vault)
  ∧ (∀ (s : State) (e : StbyEntry), s.pwr.entry = some e → s.atWork = false → e.pos = 5 → e.startMt + 60 ≤ s.mt →
      (∀ i, s.held i = false) → (∀ i, i < 15 → i ≠ 1 + s.activePair → s.votes i = 0) → s.votes (1 + s.activePair) < 8 →
      s.dueEntry.votes (1 + s.activePair) = 0 ∧ s.dueEntry.pwr.entry = some ⟨e.startMt, 6⟩)
  ∧ (∀ (s : State) (e : StbyEntry), s.pwr.entry = some e → e.pos = 6 → s.votes (1 + s.activePair) = 0 → s.held (1 + s.activePair) = false →
      (s.dropped (1 + s.activePair)).pwr.standby = true ∧ (s.dropped (1 + s.activePair)).pwr.entry = none
        ∧ (s.dropped (1 + s.activePair)).reg R.PWR_STBY_LAST = 0)
  ∧ (∀ (s : State) (e : StbyEntry), s.pwr.entry = some e → s.atWork = true → s.dueEntry = s.endEntry)
  ∧ (∀ s : State, (s.phase ≠ 0xA ∨ s.pwr.standby = true ∨ s.pwr.entry.isSome = true ∨ s.atWork = true ∨ s.updBusy = true ∨ s.mt < s.pwr.askAgain
        ∨ s.mt < s.pwr.idleSince + 1000 * s.setting 0x0301 1000) → exec .standbyEntry s = .next s)
  ∧ (∀ (s : State) (code i c : Nat), code < 2 ^ 16 → i < 15 → c < 16 → (s.abandonEntry code i c).pwr.entry = none
        ∧ (s.abandonEntry code i c).get F.PWR_STBY_LAST_REASON = code ∧ (s.abandonEntry code i c).get F.PWR_STBY_LAST_ISLAND = i
        ∧ (s.abandonEntry code i c).get F.PWR_STBY_LAST_CLIENT = c ∧ (s.abandonEntry code i c).get F.PWR_EVT_STBY_ABORT = 1
        ∧ (s.abandonEntry code i c).get F.PWR_REASON_REASON = code)
  ∧ (∀ (s : State) (e : StbyEntry) (c i : Nat), s.pwr.entry = some e → c ≤ 2 → s.voteInEntry c i = s.endEntry)
  ∧ (∀ (s : State) (e : StbyEntry) (c i : Nat), s.pwr.entry = some e → 4 ≤ c →
      (i ∈ firstIslands ∨ i ∈ s.laterIslands.take e.pos ∨ e.pos = 6) → s.voteInEntry c i = s.abandonEntry 0x0301 i c)
  ∧ (∀ (s : State) (e : StbyEntry) (i : Nat), s.pwr.entry = some e → e.startMt + 1000 * s.setting 0x0302 10 ≤ s.mt →
      (firstIslands ++ s.laterIslands ++ [1 + s.activePair]).find? s.held = some i → exec .stbyWaitTimeout s = .next (s.abandonEntry 0x0302 i 3))
  ∧ (∀ s : State, s.pwr.entry = none → exec .stbyWaitTimeout s = .next s)

/-- R393, Table 14-7: the governor engages with 0x0303 at TJ 122 degrees C or after 1 s above GOV_ENTER_C; engaged, it takes a step more each 100 ms above
GOV_W_CW, and 0x0304 tells that its last step is released. The estimates stand in PWR_STAT and PWR_POWER each time. R67, R394: below 6.0 V BROWNOUT
begins with 0x0306 and only pauses a start; above 60.5 V OVERVOLT begins with 0x0307; a supply within its window ends both and goes on with the start.
R363, R399, R400: the loss of the crystal passes the reference to the RC with 0x0308; a retry that fails stands as 0x0309 and counts; one that passes
waits for quiet air and then gives 0x030A; in STANDBY each 600 s the oscillator is measured. -/
def Obligations.GovernorSupplyAndCrystal : Prop :=
  (∀ (s : State) (tj : BitVec 8) (mw pk : BitVec 16), s.section? 2 = none → completes (.governorTick tj mw pk) s (fun t =>
        t.get F.PWR_STAT_TJ = tj.toNat ∧ t.get F.PWR_POWER_MEAN_MW = mw.toNat
        ∧ t.get F.PWR_POWER_PEAK_MW = max pk.toNat (s.get F.PWR_POWER_PEAK_MW)
        ∧ keepsFields s t [F.PWR_STAT_TJ, F.PWR_STAT_TA_EST, F.PWR_POWER_MEAN_MW, F.PWR_POWER_PEAK_MW] ∧ t = { s with regs := t.regs }))
  ∧ (∀ (s : State) (tj : BitVec 8) (mw pk : BitVec 16), (s.section? 2).isSome = true → s.flag F.PWR_STAT_GOV = false → 122 ≤ tj.toInt →
      completes (.governorTick tj mw pk) s (fun t => t.flag F.PWR_STAT_GOV = true ∧ t.get F.PWR_EVT_GOV_ON = 1
        ∧ t.get F.PWR_REASON_REASON = 0x0303 ∧ t.pwr.govNext = s.mt + 100000 ∧ t = { s with regs := t.regs, pwr := t.pwr }))
  ∧ (∀ (s : State) (tj : BitVec 8) (mw pk : BitVec 16), (s.section? 2).isSome = true → s.flag F.PWR_STAT_GOV = true →
      10 * s.secLE 2 4 1 0 < mw.toNat → s.pwr.govNext ≤ s.mt → s.get F.PWR_STAT_GOV_STEP < 3 →
      completes (.governorTick tj mw pk) s (fun t => t.get F.PWR_STAT_GOV_STEP = s.get F.PWR_STAT_GOV_STEP + 1
        ∧ t.pwr.govNext = s.mt + 100000 ∧ t.flag F.PWR_STAT_GOV = true ∧ t.fuses = s.fuses ∧ t.sys = s.sys))
  ∧ (∀ (s : State) (mv : BitVec 16), s.pilot.vbatUp = true → mv.toNat < 6000 → s.flag F.PWR_STAT_BROWNOUT = false → 2 ≤ s.phase → s.phase ≤ 9 →
      completes (.brownout mv) s (fun t => t.flag F.PWR_STAT_BROWNOUT = true ∧ t.get F.PWR_EVT_BROWNOUT = 1
        ∧ t.get F.PWR_REASON_REASON = 0x0306 ∧ t.sys = { s.sys with pausedIn := some s.phase } ∧ t.get F.PWR_VBAT_NOW_MV = mv.toNat
        ∧ t = { s with regs := t.regs, pwr := { s.pwr with brownMt := s.mt }, sys := t.sys }))
  ∧ (∀ (s : State) (mv : BitVec 16), s.pilot.vbatUp = true → mv.toNat < 6000 → s.flag F.PWR_STAT_BROWNOUT = false → s.phase = 0xA →
      s.islandFailed 9 = false →
      completes (.brownout mv) s (fun t => t.flag F.PWR_STAT_BROWNOUT = true ∧ t.island 9 = 0 ∧ t.rf.onAir = none ∧ t.pwr.restoring = []
        ∧ t.pwr.dropping = [] ∧ t.pwr.entry = none ∧ t.fuses = s.fuses))
  ∧ (∀ (s : State) (mv : BitVec 16), s.pilot.vbatUp = true → 60500 < mv.toNat → s.flag F.PWR_STAT_OVERVOLT = false → s.lf.hold = none →
      completes (.overvolt mv) s (fun t => t.flag F.PWR_STAT_OVERVOLT = true ∧ t.get F.PWR_EVT_OVERVOLT = 1
        ∧ t.get F.PWR_REASON_REASON = 0x0307 ∧ t = { s with regs := t.regs }))
  ∧ (∀ (s : State) (mv : BitVec 16), s.pilot.vbatUp = true → 6200 ≤ mv.toNat → mv.toNat ≤ 58000 → s.flag F.PWR_STAT_BROWNOUT = false →
      completes (.supplyReturn mv) s (fun t => t.flag F.PWR_STAT_OVERVOLT = false ∧ t.flag F.PWR_STAT_BROWNOUT = false
        ∧ t.sys = { s.sys with pausedIn := none } ∧ t.rel = s.rel ∧ t.pwr = s.pwr))
  ∧ (∀ (s : State) (mv : BitVec 16), s.pilot.vbatUp = false →
      exec (.brownout mv) s = .next s ∧ exec (.overvolt mv) s = .next s ∧ exec (.supplyReturn mv) s = .next s)
  ∧ (∀ s : State, s.pwr.xtalRun = true → s.onRc = false → s.nfc.detection = none → s.enabled .rf = false → s.enabled .rng = false →
      completes .crystalLoss s (fun t => t.flag F.PWR_STAT_REF_RC = true ∧ t.flag F.PWR_STAT_XTAL_OK = false ∧ t.get F.PWR_EVT_XTAL_LOST = 1
        ∧ Nat.testBit (t.reg R.PWR_RED_STAT) 12 = true ∧ t.flag F.TIM_STAT_REF_RC = true ∧ t.pwr.xtalRun = false ∧ t.fuses = s.fuses))
  ∧ (∀ s : State, (s.pwr.xtalRun = false ∨ s.onRc = true) → exec .crystalLoss s = .next s)
  ∧ (∀ s : State, s.onRc = true → completes (.xtalRetry false) s (fun t => t.flag F.PWR_XTAL_RETRYING = false
        ∧ t.get F.PWR_REASON_REASON = 0x0309 ∧ t.pwr = { s.pwr with retryMt := s.mt }
        ∧ keepsFields s t [F.PWR_XTAL_RETRYING, F.PWR_XTAL_RETRIES, F.PWR_REASON_REASON] ∧ t = { s with regs := t.regs, pwr := t.pwr }))
  ∧ (∀ s : State, s.onRc = true → s.airQuiet = false → exec (.xtalRetry true) s
      = .next (({ s with pwr := { s.pwr with retryMt := s.mt } }).putFlag F.PWR_XTAL_RETRYING true))
  ∧ (∀ s : State, s.onRc = true → s.airQuiet = true → completes (.xtalRetry true) s (fun t => t.flag F.PWR_STAT_REF_RC = false
        ∧ t.flag F.PWR_STAT_XTAL_OK = true ∧ t.get F.PWR_EVT_XTAL_BACK = 1 ∧ t.pwr.xtalRun = true
        ∧ Nat.testBit (t.reg R.PWR_RED_STAT) 12 = false ∧ t.fuses = s.fuses))
  ∧ (∀ s : State, s.onRc = true → s.flag F.PWR_XTAL_RETRYING = false → s.pwr.standby = false → s.pwr.retryMt + 1000000 * s.setting 0x0303 10 ≤ s.mt →
      ∀ b, exec (.crystalRetry b) s = exec (.xtalRetry b) s)
  ∧ (∀ s : State, s.flag F.PWR_XTAL_RETRYING = false → s.pwr.standby = false → s.mt < s.pwr.retryMt + 1000000 * s.setting 0x0303 10 →
      ∀ b, exec (.crystalRetry b) s = .next s)
  ∧ (∀ (s : State) (p : BitVec 16) (env : Env), s.pwr.standby = true → s.tim.calMt.getD 0 + 600000000 ≤ s.mt → s.onRc = false →
      completes (.oscCalibration p env) s (fun t => t.get F.TIM_PT_CAL_PPM = p.toNat ∧ t.tim = { s.tim with calMt := some s.mt }
        ∧ keepsFields s t [F.TIM_PT_CAL_PPM] ∧ t = { s with regs := t.regs, tim := t.tim }))

/-- R25, R28, R29, R77, R395, R396: a fault of the active pair promotes a current standby pair, loads a sound spare to promote it where there is none, and
else restarts the block; a fault of the standby pair puts it under test; a tested pair becomes a spare that loads or is retired for life; a loaded
pair becomes the standby pair. -/
def Obligations.PairsTakeOverAndRetire : Prop :=
  (∀ s : State, s.phase = 0xA → s.activePair = 0 → s.fuses.retireA = false → s.net.promoteWait = false → s.net.heldOut.length < 2 →
      s.update.state = .idle → s.standbyReady = true → s.islandFailed 7 = false → exec (.pairFault false) s = .next ((s.noteFault 0).promote))
  ∧ (∀ s : State, s.activePair = 0 → s.update.state = .idle → s.tok.learn = none → s.rel.pairing = none → s.keys.prep = .none →
      s.promote.activePair = 1 ∧ s.promote.get F.PWR_EVT_TAKEOVER = 1 ∧ s.promote.get F.PWR_PAIR_A_STATE = 2
      ∧ s.promote.get F.PWR_PAIR_STANDBY_READY = 0 ∧ s.promote.fuses = s.fuses)
  ∧ (∀ s : State, s.phase = 0xA → s.activePair = 0 → s.fuses.retireA = false → s.net.promoteWait = false → s.net.heldOut.length < 2 →
      s.update.state = .idle → s.standbyReady = false → s.net.loading = none → s.net.spareOk = false → s.pilot.vbatUp = true → s.keys.blow = none →
      exec (.pairFault false) s = .next ((s.noteFault 0).restart 4))
  ∧ (∀ s : State, s.phase = 0xA → s.activePair = 0 → s.fuses.retireA = false → s.net.promoteWait = false → s.net.heldOut.length < 2 →
      s.update.state = .idle → s.standbyReady = false → s.net.loading = none → s.net.spareOk = true →
      exec (.pairFault false) s = .next (let u := s.noteFault 0
        { u with net := { u.net with promoteWait := true } }.loadStandby))
  ∧ (∀ s : State, s.phase = 0xA → s.activePair = 0 → s.fuses.retireB = false → s.standbyReady = true → s.net.promoteWait = false →
      s.update.state = .idle → s.islandFailed 2 = false →
      completes (.pairFault true) s (fun t => t.get F.PWR_PAIR_B_STATE = 2 ∧ t.get F.PWR_PAIR_STANDBY_READY = 0 ∧ t.net.testing = some true
        ∧ t.get F.PWR_REASON_REASON = 0x030E ∧ t.activePair = 0 ∧ t.vault = s.vault ∧ t = { s with regs := t.regs, net := t.net }))
  ∧ (∀ s : State, s.island (1 + s.activePair) ≠ 2 → exec .heartbeatTimeout s = .next s)
  ∧ (∀ s : State, s.island 1 = 2 → s.activePair = 0 → exec .heartbeatTimeout s = exec (.pairFault false) s)
  ∧ (∀ s : State, s.net.testing = some true → s.net.heldOut.length < 2 → completes (.pairTestDone false) s (fun t => t.fuses.retireB = true
        ∧ t.fuses.retireA = s.fuses.retireA ∧ t.get F.PWR_PAIR_B_STATE = 3 ∧ t.votes 2 = 0 ∧ t.island 2 = 0
        ∧ t.get F.PWR_REASON_REASON = 0x030D ∧ t.get F.PWR_EVT_PAIR_RETIRED = 1 ∧ t.net.testing = none
        ∧ t = { s with regs := t.regs, net := t.net, fuses := t.fuses }))
  ∧ (∀ s : State, s.net.testing = some true → s.net.heldOut.length < 2 → s.pairFaults 1 ≤ 1 → exec (.pairTestDone true) s
      = .next ((({ s with net := { s.net with testing := none, spareOk := true } }).reason .pwr 0x030C).loadStandby))
  ∧ (∀ s : State, s.net.loading = some true → s.net.promoteWait = false → s.update.state = .idle → s.phase = 0xA → s.islandFailed 7 = false →
      s.standbyPartsOk = true →
      completes (.standbyPairReady true) s (fun t => t.standbyReady = true ∧ t.get F.PWR_PAIR_B_STATE = 1 ∧ t.island 2 = 2
        ∧ Nat.testBit (t.votes 2) 2 = true ∧ t.net = { s.net with loading := none, appliedNo := s.net.commitNo, cmdApplied := s.net.cmdAt, records := [] }
        ∧ t = { s with regs := t.regs, net := t.net }))

/-- R93, R334 to R342, Table 12-11: a sense above the threshold of an armed reader, once per LPCD_PERIOD_MS, and a POLL start a detection event; on the RC
it is not begun (0x0D01), while an external field is present (0x0D02) or a key set waits for its commit it is held; a lower sense moves the baseline
by 1/64, and one without an answer shows the tag sub-domain failed (0x0D0D); the reader is armed again after CARD_REARM_MS; an ARSP of the selected
card is judged on the NFC path, and the event goes on to the next card or ends after CARD_MAX with 0x0D07. -/
def Obligations.CardsAreDetectedAndJudged : Prop :=
  (∀ (s : State) (f : CardField), s.readerUp = true → s.readerBlocked = 0 → s.tok.commitWait = none →
      exec (.poll f) s = .next ((if s.pwr.standby then s.raiseVote 0 (1 + s.activePair) false else s).startDetection f false))
  ∧ (∀ (s : State) (f : CardField), s.readerUp = true → s.readerBlocked = 0 → s.tok.commitWait.isSome = true →
      exec (.poll f) s = .next { s with nfc := { s.nfc with held := some f } })
  ∧ (∀ (s : State) (f : CardField), s.readerUp = true → s.onRc = false → s.extField = true →
      exec (.poll f) s = .next
        (((({ s with nfc := { s.nfc with held := some f } }).reason .nfc 0x0D02).event F.NFC_EVT_DEFERRED).bump F.NFC_RDR_CNT_DEFERRED))
  ∧ (∀ (s : State) (f : CardField), s.readerUp = true → s.onRc = true → exec (.poll f) s = .next (s.reason .nfc 0x0D01))
  ∧ (∀ (s : State) (detuning : Nat) (f : CardField), s.readerUp = true → s.tag.works = true → s.readerBlocked = 0 → s.tok.commitWait = none →
      (s.pwr.standby = false ∨ Nat.testBit (u8 s.nfcSec 8) 2 = true) → s.senseDue = true →
      u8 s.nfcSec 6 * 64 + s.nfc.baseline < detuning * 64 → s.nfc.armed = true →
      exec (.lpcdSense (some detuning) f) s = .next (let u := { s with nfc := { s.nfc with sensePt := s.pilot.pt } }
        (if u.pwr.standby then u.raiseVote 0 (1 + u.activePair) false else u).startDetection f false))
  ∧ (∀ (s : State) (detuning : Nat) (f : CardField), s.readerUp = true → s.tag.works = true → s.onRc = false →
      (s.pwr.standby = false ∨ Nat.testBit (u8 s.nfcSec 8) 2 = true) → s.senseDue = true →
      detuning * 64 < u8 s.nfcSec 6 * 64 + s.nfc.baseline → s.nfc.baseline ≤ detuning * 64 → s.nfc.below = none →
      exec (.lpcdSense (some detuning) f) s = .next { s with nfc := { s.nfc with
        sensePt := s.pilot.pt, below := some s.mt, baseline := s.nfc.baseline + (detuning * 64 - s.nfc.baseline) / 64 } })
  ∧ (∀ (s : State) (f : CardField), s.readerUp = true → s.tag.works = true → s.onRc = false → s.pwr.standby = false → s.senseDue = true →
      exec (.lpcdSense none f) s = .next (({ s with tag := { s.tag with works := false, tagMode := false } }).reason .nfc 0x0D0D))
  ∧ (∀ (s : State) (detuning : Option Nat) (f : CardField), s.senseDue = false → exec (.lpcdSense detuning f) s = .next s)
  ∧ (∀ (s : State) (t : Nat), s.nfc.detection = none → s.nfc.below = some t → t + 1000 * s.setting 0x0D02 200 ≤ s.mt →
      exec .cardRearm s = .next { s with nfc := { s.nfc with armed := true } })
  ∧ (∀ s : State, s.nfc.below = none → exec .cardRearm s = .next s)
  ∧ (∀ (s : State) (d : Detection) (frame : Bytes) (level : BitVec 8), s.nfc.detection = some d → d.cards ≠ [] → d.learn = false →
      frame.length = 18 → u8 frame 0 = 0x34 →
      let s1 := (s.event F.NFC_EVT_CARD_ARSP).bump F.NFC_RDR_CNT_CARDS
      let j := s1.judgeArsp 3 0x04 d.c frame d.id 0x0D
      exec (.cardArsp frame level) s = .next (
        if u8 s.nfcSec 2 ≤ d.arsps + 1 then (j.1.lastCard (d.cards.headD ⟨0, [], 0, 0, 0⟩) j.2).endDetection 0x0D07
        else (j.1.lastCard (d.cards.headD ⟨0, [], 0, 0, 0⟩) j.2).selectCard { d with cards := d.cards.drop 1, arsps := d.arsps + 1 }))
  ∧ (∀ (s : State) (d : Detection) (frame : Bytes) (level : BitVec 8) (l : Learn) (x : LearnStep), s.nfc.detection = some d → d.cards ≠ [] →
      d.learn = true → s.tok.learn = some l → l.current = some x → x.loaded = false → frame.length = 18 → u8 frame 0 = 0x34 →
      be frame 2 4 = x.tid → allZero (slice frame 10 8) = true → level.toNat < u8 s.nfcSec 9 →
      exec (.cardArsp frame level) s = .next ((((s.event F.NFC_EVT_CARD_ARSP).bump F.NFC_RDR_CNT_CARDS).lastCard
        (d.cards.headD ⟨0, [], 0, 0, 0⟩) 0).endLearnStep 0x081F []))
  ∧ (∀ (s : State) (d : Detection) (c : Card) (cs : List Card), s.nfc.detection = some d → d.cards = c :: cs → d.learn = false →
      d.startMt + 500000 ≤ s.mt →
      exec (.cardTimeout false) s
        = .next ((((s.lastCard c 0x0D05).event F.NFC_EVT_CARD_FAIL).reason .nfc 0x0D05).selectCard { d with cards := cs }))
  ∧ (∀ (s : State) (d : Detection) (c : Card) (cs : List Card), s.nfc.detection = some d → d.cards = c :: cs → d.learn = false →
      exec (.cardTimeout true) s
        = .next ((((s.lastCard c 0x0D06).event F.NFC_EVT_CARD_FAIL).reason .nfc 0x0D06).selectCard { d with cards := cs }))

/-- R343 to R347, R351, Table 12-6: a field after at least 5 ms without one draws a fresh UID; the selected tag answers its commands, reads and writes
under the access rights of its state, and authenticates by password or key, whose eighth failure locks the method; a field too weak for a write is
answered 0x03. The drawn bytes are free values (log entry 6). -/
def Obligations.TagAnswersTheField : Prop :=
  (∀ (s : State) (fl : BitVec 4), s.tag.works = true → s.pilot.vbatUp = false → 6 ≤ fl.toNat → s.tag.field = false → s.nfc.detection = none →
      (s.tag.fieldEnd = 0 ∨ s.tag.fieldEnd + 5000 ≤ s.mt) →
      exec (.fieldEntry fl) s = .next { s with tag := { s.tag with
        field := true, level := fl.toNat, uid := 0x08 :: s.tagNoise 3, noise := s.tag.noise + 1, selected := false, app := .opened } })
  ∧ (∀ (s : State) (fl : BitVec 4), s.tag.works = true → s.pilot.vbatUp = true → fl.toNat < 2 → exec (.fieldEntry fl) s = .next s)
  ∧ (∀ (s : State) (deselect : Bool), s.tag.field = true → completes (.fieldLoss deselect) s (fun t => t.tag.selected = false
      ∧ t.tag.app = .opened ∧ t.tag.rc = [] ∧ t.tag.tc = [] ∧ t.tag.field = deselect ∧ t.tag.mem = s.tag.mem ∧ t.tag.uid = s.tag.uid
      ∧ t = { s with tag := t.tag }))
  ∧ (∀ (s : State) (fl : BitVec 4), s.tag.field = true → s.tagPowered fl.toNat = true → s.tag.tagMode = true →
      exec (.tagAnticollision fl) s = .next { s with tag := { s.tag with
        selected := true, app := .opened, level := fl.toNat
        lastAnswer := [0x04, 0x00] ++ s.tag.uid ++ [s.tag.uid.foldl (fun x b => x ^^^ b) 0] ++ [0x20] ++ tagAts ++ crcA tagAts } })
  ∧ (∀ (s : State) (fl : BitVec 4) (args : Bytes) (micros : BitVec 16), s.tag.field = true → s.tag.selected = true → s.tagPowered fl.toNat = true →
      s.tag.tagMode = true → s.tag.app ≠ .keyWait →
      let s1 := { s with tag := { s.tag with level := fl.toNat, ownEnd := s.mt + micros.toNat } }
      let b := le args 0 2
      let n := le args 2 1
      (args = [] → exec (.getInfo fl args micros) s = .next (getInfo s1))
      ∧ (args ≠ [] → exec (.getInfo fl args micros) s = .next (s1.tagAnswer 0x07 []))
      ∧ (args = [] → exec (.logout fl args micros) s = .next (
          (if s.tag.secured then { s1 with tag := { s1.tag with app := .opened, selected := false } } else s1).tagAnswer 0x00 []))
      ∧ (args.length = 3 → 1 ≤ n → n ≤ 15 → b + n ≤ 512 → (∀ i < n, s.tag.fieldRead (b + i) = true) → s.tag.reserved s.mt = false →
          exec (.read fl args micros) s = .next (s1.tagAnswer 0x00 (s.tag.blocks b n)))
      ∧ (args.length = 3 → 1 ≤ n → n ≤ 15 → b + n ≤ 512 → (∃ i < n, s.tag.fieldRead (b + i) = false) →
          exec (.read fl args micros) s = .next (s1.tagAnswer 0x02 []))
      ∧ (args.length = 18 → 272 ≤ b → b ≤ 399 → s.tag.app = .securedK → s.tag.reserved s.mt = false → s.tagWeak fl.toNat = false →
          exec (.write fl args micros) s = .next ((s1.tagPut b (padTo 16 (args.drop 2))).tagAnswer 0x00 []))
      ∧ (args.length = 18 → b < 272 → s.tagWeak fl.toNat = false → exec (.write fl args micros) s = .next (s1.tagAnswer 0x02 []))
      ∧ (args.length = 18 → 512 ≤ b → s.tagWeak fl.toNat = false → exec (.write fl args micros) s = .next (s1.tagAnswer 0x04 []))
      ∧ (args.length = 8 → s.tag.app = .opened → s.tag.pwdFail < 8 → s.tag.password = some args → s.tagWeak fl.toNat = false →
          exec (.pwdAuth fl args micros) s
            = .next ((({ s1 with tag := { s1.tag with app := .securedP, pwdFail := 0 } }).event F.NFC_EVT_TAG_SECURED).tagAnswer 0x00 []))
      ∧ (args.length = 8 → s.tag.app = .opened → s.tag.pwdFail = 7 → s.tag.password ≠ none → s.tag.password ≠ some args →
          s.tagWeak fl.toNat = false →
          exec (.pwdAuth fl args micros) s
            = .next (((({ s1 with tag := { s1.tag with pwdFail := 8 } }).event F.NFC_EVT_METHOD_LOCK).reason .nfc 0x0D0B).tagAnswer 0x05 []))
      ∧ (args.length = 8 → s.tag.app = .opened → 8 ≤ s.tag.pwdFail → s.tagWeak fl.toNat = false →
          exec (.pwdAuth fl args micros) s = .next (s1.tagAnswer 0x06 []))
      ∧ (s.tagWeak fl.toNat = true → exec (.write fl args micros) s = .next ((s1.bump F.NFC_TAG_CNT_WEAK).tagAnswer 0x03 [])
          ∧ exec (.pwdAuth fl args micros) s = .next ((s1.bump F.NFC_TAG_CNT_WEAK).tagAnswer 0x03 []))
      ∧ (args.length = 16 → s.tag.app = .opened → s.tag.keyFail < 8 → s.tag.key.isSome = true →
          exec (.authBegin fl args micros) s = .next (({ s1 with tag := { s1.tag with
            app := .keyWait, rc := args, tc := s.tagNoise 16, noise := s.tag.noise + 1 } }).tagAnswer 0x00 (s.tagNoise 16))))
  ∧ (∀ (s : State) (fl : BitVec 4) (args : Bytes) (micros : BitVec 16), s.tag.field = true → s.tag.selected = true → s.tagPowered fl.toNat = true →
      s.tag.tagMode = true → s.tag.app = .keyWait → args.length = 16 →
      let s1 := { s with tag := { s.tag with level := fl.toNat, ownEnd := s.mt + micros.toNat } }
      (s.tagWeak fl.toNat = false → args = s.tag.authMac 0x51 s.tag.rc s.tag.tc →
        exec (.authEnd fl args micros) s
          = .next ((({ s1 with tag := { s1.tag with app := .securedK, keyFail := 0 } }).event F.NFC_EVT_TAG_SECURED).tagAnswer 0x00
            (s.tag.authMac 0x52 s.tag.tc s.tag.rc)))
      ∧ (s.tagWeak fl.toNat = false → s.tag.keyFail < 7 →
        exec (.authEnd fl args micros) s
          = .next (if args = s.tag.authMac 0x51 s.tag.rc s.tag.tc
            then (({ s1 with tag := { s1.tag with app := .securedK, keyFail := 0 } }).event F.NFC_EVT_TAG_SECURED).tagAnswer 0x00
              (s.tag.authMac 0x52 s.tag.tc s.tag.rc)
            else ({ s1 with tag := { s1.tag with app := .opened, rc := [], tc := [], keyFail := s.tag.keyFail + 1 } }).tagAnswer 0x05 []))
      ∧ (s.tagWeak fl.toNat = true →
        exec (.authEnd fl args micros) s = .next ((s1.bump F.NFC_TAG_CNT_WEAK).tagAnswer 0x03 []))
      ∧ exec (.read fl args micros) s = .next ({ s1 with tag := { s1.tag with app := .opened, rc := [], tc := [] } }.tagAnswer 0x05 []))

/-- R348, R352, R353, R356: the wired side reads, writes and reserves the tag memory while the field side does not hold it, is refused with 0x0D08 and
counted while it does, and with 0x0D0F after its reservation ran out; passwords, keys and locks are set by the host. -/
def Obligations.WiredSideSharesTagMemory : Prop :=
  (∀ (s : State) (p : Bytes), s.mbReady 0x0D01 p → p.length = 8 → (s.begun 0x0D01 p).endReservation.wiredRefusal = 0 →
      let b := (s.begun 0x0D01 p).endReservation
      exec (.tagSetPwd p) s = .next ({ b with tag := { b.tag with password := if allZero p then none else some p } }.finish 0 []))
  ∧ (∀ (s : State) (p : Bytes), s.mbReady 0x0D01 p → p.length = 8 → s.tag.works = true → s.mt < s.tag.ownEnd →
      exec (.tagSetPwd p) s = .next ((((s.begun 0x0D01 p).endReservation.bump F.NFC_TAG_CNT_BUSY).reason .nfc 0x0D08).finish 0x0D08 []))
  ∧ (∀ (s : State) (p : Bytes), s.mbReady 0x0D01 p → p.length = 8 → s.tag.works = true → s.tag.ownEnd ≤ s.mt → s.tag.resEnd = none →
      s.tag.resOver = true → exec (.tagSetPwd p) s = .next (((s.begun 0x0D01 p).reason .nfc 0x0D0F).finish 0x0D0F []))
  ∧ (∀ (s : State) (k : Bytes), s.mbReady 0x0D02 k → k.length = 32 → (s.begun 0x0D02 k).endReservation.wiredRefusal = 0 →
      let b := (s.begun 0x0D02 k).endReservation
      exec (.tagSetKey k) s = .next ({ b with tag := { b.tag with key := some k } }.finish 0 []))
  ∧ (∀ (s : State) (block : BitVec 16) (count : BitVec 8), s.mbReady 0x0D03 (toLE 2 block.toNat ++ toLE 1 count.toNat) →
      let b := (s.begun 0x0D03 (toLE 2 block.toNat ++ toLE 1 count.toNat)).endReservation
      b.wiredRefusal = 0 → 1 ≤ count.toNat → count.toNat ≤ 32 → block.toNat + count.toNat ≤ 496 →
      exec (.tagRead block count) s = .next (b.finish 0 (s.tag.blocks block.toNat count.toNat)))
  ∧ (∀ (s : State) (block : BitVec 16) (count : BitVec 8), s.mbReady 0x0D03 (toLE 2 block.toNat ++ toLE 1 count.toNat) →
      let b := (s.begun 0x0D03 (toLE 2 block.toNat ++ toLE 1 count.toNat)).endReservation
      b.wiredRefusal = 0 → (count.toNat = 0 ∨ 32 < count.toNat ∨ 496 < block.toNat + count.toNat) →
      exec (.tagRead block count) s = .next ((b.reason .nfc 0x0D0E).finish 0x0D0E []))
  ∧ (∀ (s : State) (block : BitVec 16) (count : BitVec 8) (data : Bytes),
      s.mbReady 0x0D04 (toLE 2 block.toNat ++ toLE 1 count.toNat ++ data) →
      let b := (s.begun 0x0D04 (toLE 2 block.toNat ++ toLE 1 count.toNat ++ data)).endReservation
      data.length = 16 * count.toNat → b.wiredRefusal = 0 → 1 ≤ count.toNat → count.toNat ≤ 32 →
      (272 ≤ block.toNat → block.toNat + count.toNat ≤ 496 →
        exec (.tagWrite block count data) s = .next ((b.tagPut block.toNat data).finish 0 []))
      ∧ (block.toNat < 272 → exec (.tagWrite block count data) s = .next ((b.reason .nfc 0x0D0A).finish 0x0D0A [])))
  ∧ (∀ (s : State) (ms : BitVec 8), s.mbReady 0x0D05 (toLE 1 ms.toNat) → 1 ≤ ms.toNat → ms.toNat ≤ 50 → s.tag.works = true →
      let b := s.begun 0x0D05 (toLE 1 ms.toNat)
      (s.tag.field = false → exec (.tagReserve ms) s = .next ({ b with tag := { b.tag with
        resEnd := some (s.mt + 1000 * ms.toNat), resOver := false } }.finish 0 []))
      ∧ (s.tag.field = true → exec (.tagReserve ms) s = .next ((b.reason .nfc 0x0D09).finish 0x0D09 [])))
  ∧ (∀ (s : State) (e : Nat), s.mbReady 0x0D06 [] → s.tag.resEnd = some e → s.mt < e →
      let b := s.begun 0x0D06 []
      exec .tagRelease s = .next ({ b with tag := { b.tag with resEnd := none } }.finish 0 []))
  ∧ (∀ (s : State) (e : Nat), s.tag.resEnd = some e → e ≤ s.mt →
      exec .reservationEnd s = .next { s with tag := { s.tag with resEnd := none, resOver := true } })
  ∧ (∀ s : State, s.tag.works = true → s.tag.ownEnd ≤ s.mt → exec .clrLocks s = .next { s with tag := { s.tag with pwdFail := 0, keyFail := 0 } })
  ∧ (∀ s : State, s.tag.works = true → s.mt < s.tag.ownEnd →
      exec .clrLocks s = .next ((s.bump F.NFC_TAG_CNT_BUSY).reason .nfc 0x0D08))
  ∧ (∀ s : State, s.tagWriter = true → s.tag.retryMt + 1000 ≤ s.mt → exec .tagUpdateRetry s = .next s.flushTag)
  ∧ (∀ s : State, (s.tagWriter = false ∨ s.mt < s.tag.retryMt + 1000) → exec .tagUpdateRetry s = .next s)
  ∧ (∀ (s : State) (block : Nat) (bs : Bytes) (n : Nat), (n < 16 * block ∨ 16 * block + bs.length ≤ n) →
      sparseGet tagDefault (s.tagPut block bs).tag.mem n = sparseGet tagDefault s.tag.mem n)

/-- R407 to R413, Tables 15-2, 15-3, 15-8: UPD_BEGIN with a manifest that passes checks 1 to 6 opens the download at NEXT 1, the same manifest resumes it;
a chunk in order that matches its digest advances NEXT, one before NEXT is acknowledged, one after it is refused with 0x0E08, a bad one with 0x0E09;
the last chunk starts verification, which makes the slot VERIFIED and the update READY, or empties the slot. -/
def Obligations.DownloadsVerifyBeforeReady : Prop :=
  (∀ (s : State) (m : Bytes) (env : Env), s.mbReady 0x0E01 m →
      let b := s.begun 0x0E01 m
      let t := 1 - b.update.running
      let s1 := (b.setFwSlot t ⟨.loading, u8 m 6, [], m⟩).program (1 + t) 0 16
      let s2 := { s1 with update := { s1.update with state := .download, next := 1, target := t, reason := 0, confirmNext := false }
                          nand := { s1.nand with written := s1.nand.written + 65536 } }
      let s3 := ((s2.updEntry 0x0001 t 0).downloadEnd).reason .upd 0
      m.length = 65536 → b.update.state = .idle → b.nandUp = true → env.storeOk = true →
      exec (.updBegin m env) s = .next (if b.mfCheck m = 0 then s3.finish 0 s3.nextOut
        else (b.reason .upd (b.mfCheck m)).finish (b.mfCheck m) []))
  ∧ (∀ (s : State) (m : Bytes) (env : Env), s.mbReady 0x0E01 m →
      let b := s.begun 0x0E01 m
      m.length = 65536 → b.update.state = .idle → b.mfCheck m ≠ 0 → b.mfCheck m < 0x10000 →
      exec (.updBegin m env) s = .next ((b.reason .upd (b.mfCheck m)).finish (b.mfCheck m) []))
  ∧ (∀ (s : State) (m : Bytes) (env : Env), s.mbReady 0x0E01 m →
      let b := s.begun 0x0E01 m
      m.length = 65536 → b.update.state = .download → manifest (b.fwSlot b.update.target).image = m →
      exec (.updBegin m env) s = .next (b.finish 0 (toLE 2 b.update.next)))
  ∧ (∀ (s : State) (m : Bytes), (mfConsistent m = false ∨ s.mfSigned m = false ∨ u8 m 6 < s.update.floor ∨ u8 m 6 < s.ringS) → s.mfCheck m ≠ 0)
  ∧ (∀ (s : State) (index : BitVec 32) (data : Bytes) (env : Env), s.mbReady 0x0E02 (toLE 4 index.toNat ++ data) →
      let b := s.begun 0x0E02 (toLE 4 index.toNat ++ data)
      let t := b.update.target
      let x := b.fwSlot t
      let s1 := (b.setFwSlot t { x with image := x.image ++ data }).program (1 + t) 0 16
      let s2 := { s1 with update := { s1.update with next := index.toNat + 1 }
                          nand := { s1.nand with written := s1.nand.written + 65536 } }
      let s3 := (s2.event F.UPD_EVT_CHUNK).downloadEnd
      data.length ≤ 65536 → b.update.state = .download → index.toNat = b.update.next →
      data.length = min 65536 (mfLen (manifest x.image) - 65536 * index.toNat) → b.nandUp = true → env.storeOk = true →
      exec (.updChunk index data env) s = .next (if chunkMatches (manifest x.image) index.toNat data = true then s3.finish 0 s3.nextOut
        else (((b.bump F.UPD_CNT_CHUNK_REFUSED).event F.UPD_EVT_CHUNK).reason .upd 0x0E09).finish 0x0E09 []))
  ∧ (∀ (s : State) (index : BitVec 32) (data : Bytes) (env : Env), s.mbReady 0x0E02 (toLE 4 index.toNat ++ data) →
      let b := s.begun 0x0E02 (toLE 4 index.toNat ++ data)
      let u := fun (code : Nat) => ((b.bump F.UPD_CNT_CHUNK_REFUSED).event F.UPD_EVT_CHUNK).reason .upd code
      data.length ≤ 65536 → b.update.state = .download →
      (index.toNat < b.update.next → exec (.updChunk index data env) s = .next (b.finish 0 (toLE 2 b.update.next)))
      ∧ (b.update.next < index.toNat → exec (.updChunk index data env) s = .next ((u 0x0E08).finish 0x0E08 (toLE 2 b.update.next)))
      ∧ (index.toNat = b.update.next →
          data.length ≠ min 65536 (mfLen (manifest (b.fwSlot b.update.target).image) - 65536 * index.toNat) →
          exec (.updChunk index data env) s = .next ((u 0x0E09).finish 0x0E09 [])))
  ∧ (∀ (s : State) (index : BitVec 32) (data : Bytes) (env : Env), s.mbReady 0x0E02 (toLE 4 index.toNat ++ data) →
      let b := s.begun 0x0E02 (toLE 4 index.toNat ++ data)
      data.length ≤ 65536 → b.update.state ≠ .download → exec (.updChunk index data env) s = .next ((b.reason .upd 0x0E0C).finish 0x0E0C []))
  ∧ (∀ (s : State) (env : Env), s.update.state = .verify → s.phase = 0xA →
      let t := s.update.target
      let x := s.fwSlot t
      let c := s.verifyCode env.storeOk
      let s0 := { s with upd := { s.upd with verified := mfChunks x.image } }
      let s1 := (s0.setFwSlot t { x with role := .verified, meas := Crypto.sha512 x.image }).updTo .ready
      let s2 := (s0.setFwSlot t ⟨.empty, x.sv, [], []⟩).updTo .idle
      exec (.verifyDone env) s = .next (if c = 0
        then (({ s1 with update := { s1.update with confirmNext := s.sys.fw == FwRun.recovery } }.event
          F.UPD_EVT_VERIFIED).reason .upd 0).updEntry 0x0003 t 0
        else (({ s2 with update := { s2.update with reason := c } }.event F.UPD_EVT_VERIFIED).reason .upd c).updEntry 0x0004 t c))
  ∧ (∀ s : State, s.verifyCode false ≠ 0)

/-- R414 to R417, R425, Sequence 15-1: UPD_ACTIVATE in READY loads the standby pair and waits for a quiescent point, 0x0E0E after ACT_WAIT_S; at that
point the pairs change roles, the target image runs on TRIAL and the old one is its fallback; with RESET the trial record goes first and the device
resets; without a standby pair it is refused with 0x0E10. -/
def Obligations.ActivationHandsOver : Prop :=
  (∀ s : State, s.mbReady 0x0E03 [0] →
      let b := s.begun 0x0E03 [0]
      b.update.state = .ready → b.standbyReady = true → b.sys.fw ≠ .recovery →
      exec (.updActivate false) s = .next ((b.startActivation.reason .upd 0).finish 0 []))
  ∧ (∀ s : State, s.mbReady 0x0E03 [0] →
      let b := s.begun 0x0E03 [0]
      b.update.state = .ready → b.standbyReady = false → exec (.updActivate false) s = .next ((b.reason .upd 0x0E10).finish 0x0E10 []))
  ∧ (∀ (s : State) (reset : Bool), s.mbReady 0x0E03 [byte (bit reset)] →
      let b := s.begun 0x0E03 [byte (bit reset)]
      b.update.state ≠ .ready → exec (.updActivate reset) s = .next ((b.reason .upd 0x0E0C).finish 0x0E0C []))
  ∧ (∀ s : State, s.mbReady 0x0E03 [1] →
      let b := s.begun 0x0E03 [1]
      let t := b.update.target
      let f := b.bankFor (manifest (b.fwSlot t).image)
      let s2 := ((b.setRole t .trial).setRole b.update.running .fallback).updTo .trial
      b.update.state = .ready → b.update.confirmNext = false →
      exec (.updActivate true) s = .next (({ s2 with update := { s2.update with trials := 0, cold := false } }.swapBank f.1 f.2 t).finishReset 3 []))
  ∧ (∀ s : State, s.startActivation.update.state = .activate ∧ s.startActivation.upd.step = 2 ∧ s.startActivation.upd.standbySlot = s.update.target
      ∧ s.startActivation.net.loading = some (s.activePair == 0))
  ∧ (∀ s : State, s.upd.step = 4 → s.quiescent = true → s.upd.reverting = false → s.update.state = .activate →
      exec .quiescentPoint s = .next s.handover)
  ∧ (∀ s : State, s.upd.step = 4 → s.quiescent = true → s.upd.reverting = true → s.standbyReady = true →
      exec .quiescentPoint s = .next s.revertHandover)
  ∧ (∀ s : State, s.quiescent = false → exec .quiescentPoint s = .next s)
  ∧ (∀ s : State, s.update.target < 2 → s.update.running < 2 → s.update.target ≠ s.update.running → s.update.slots.length = 2 →
      s.handover.update.running = s.update.target ∧ s.handover.update.state = .trial ∧ s.handover.update.trials = 0
      ∧ (s.handover.fwSlot s.update.target).role = .trial ∧ (s.handover.fwSlot s.update.running).role = .fallback
      ∧ s.handover.upd.reloads = [1, 2, 3, 4, 5] ∧ s.handover.fuses = s.fuses ∧ s.handover.vault.keyring = s.vault.keyring)
  ∧ (∀ s : State, s.upd.step = 4 → s.upd.waited = false → s.upd.stepMt + 1000000 * s.setting 0x0E01 60 ≤ s.mt →
      exec .actWaitTimeout s = .next (({ s with upd := { s.upd with waited := true } }.event F.UPD_EVT_WAITING).reason .upd 0x0E0E))
  ∧ (∀ s : State, s.upd.step = 4 → s.mt < s.upd.stepMt + 1000000 * s.setting 0x0E01 60 → exec .actWaitTimeout s = .next s)

/-- R418, R419, R421, R422, R424, Table 15-5: satellites reload one after the other, each under its condition and 1 ms after the one before; a reload that
fails twice reverts a trial with 0x0E17; UPD_CONFIRM makes the trial image the running one and raises the floor, UPD_REVERT goes back to the fallback
image, UPD_ABORT empties the target slot. The forward reseal commits the keyring at SV and relocates the blocks one by one (their count and pace: log
entry 172). -/
def Obligations.TrialsConfirmOrRevert : Prop :=
  (∀ (s : State) (n : Nat) (rest : List Nat), s.upd.reloads = n :: rest → s.upd.loading = none → s.upd.reverting = false → s.satReady n = true →
      (s.upd.endMt = 0 ∨ s.upd.endMt + 1000 ≤ s.mt) → s.islandFailed (satIsland n) = false →
      exec .satelliteReload s = .next (
        let u := { s with upd := { s.upd with loading := some n, tried := false } }.servedOn s.diesUp 1
        if n = 1 then u.putFlag F.STO_STAT_VAULT_PORT true else u))
  ∧ (∀ (s : State) (n : Nat) (rest : List Nat), s.upd.reloads = n :: rest → s.satReady n = false → exec .satelliteReload s = .next s)
  ∧ (∀ s : State, s.upd.reloads = [] → exec .satelliteReload s = .next s)
  ∧ (∀ (s : State) (n : Nat), s.upd.loading = some n → n ≠ 1 → s.update.state = .trial → 2 ≤ s.upd.reloads.length →
      exec (.reloadDone true) s = .next { s with upd := { s.upd with
        loading := none, tried := false, endMt := s.mt, reloads := s.upd.reloads.drop 1, done := s.upd.done ++ [n] } })
  ∧ (∀ (s : State) (n : Nat), s.upd.loading = some n → s.upd.tried = false →
      exec (.reloadDone false) s = .next { s with upd := { s.upd with tried := true } })
  ∧ (∀ (s : State) (n : Nat), s.upd.loading = some n → n ≠ 1 → s.upd.tried = true → s.update.state = .trial →
      exec (.reloadDone false) s = .next { s with upd := { s.upd with
        loading := none, tried := false, endMt := s.mt, reloads := [], done := s.upd.done ++ [n], step := 4, stepMt := s.mt, waited := false
        reverting := true, why := 0x0E17 } })
  ∧ (∀ (s : State) (env : Env), s.mbReady 0x0E04 [] →
      let b := s.begun 0x0E04 []
      let r := b.update.running
      let s1 := (({ b with update := { b.update with floor := max b.update.floor (b.fwSlot r).sv, trials := 0 } }.setRole r .running).setRole
        (1 - r) .previous).updTo .idle
      let s2 := ({ s1 with vault := { s1.vault with fallback := none }, upd := { s1.upd with step := 0, reverting := false } }).copyBank
      let s4 := ((if s2.standbyReady then s2.standbyLoads r else s2).event F.UPD_EVT_CONFIRMED).updEntry 0x0008 r 0
      b.update.state = .trial → b.nandUp = true → env.storeOk = true →
      exec (.updConfirm env) s = .next ((if s4.update.cold then (s4.reason .upd 0).forwardReseal
        else { s4 with update := { s4.update with pending := true } }.reason .upd 0x0E16).finish 0 []))
  ∧ (∀ (s : State) (env : Env), s.mbReady 0x0E04 [] → s.update.state ≠ .trial →
      exec (.updConfirm env) s = .next (((s.begun 0x0E04 []).reason .upd 0x0E0C).finish 0x0E0C []))
  ∧ (∀ s : State, s.mbReady 0x0E05 [] →
      let b := s.begun 0x0E05 []
      b.update.state = .trial → b.standbyReady = true →
      exec .updRevert s = .next ({ b with upd := { b.upd with
        step := 4, stepMt := b.mt, waited := false, reverting := true, why := 0x0E13 } }.finish 0 []))
  ∧ (∀ s : State, s.mbReady 0x0E05 [] → s.update.state ≠ .trial →
      exec .updRevert s = .next (((s.begun 0x0E05 []).reason .upd 0x0E0C).finish 0x0E0C []))
  ∧ (∀ s : State, s.mbReady 0x0E06 [] →
      let b := s.begun 0x0E06 []
      let s2 := ((b.updEntry 0x000A b.update.target 0x0E18).setFwSlot b.update.target ⟨.empty, 0, [], []⟩).updTo .idle
      (b.update.state = .download ∨ b.update.state = .verify ∨ b.update.state = .ready) →
      exec .updAbort s = .next (({ s2 with update := { s2.update with confirmNext := false, next := 0 } }.reason .upd 0x0E18).finish 0 []))
  ∧ (∀ (s : State) (why f t : Nat), s.slotIn .fallback = some f → s.slotIn .trial = some t → s.update.slots.length = 2 →
      (s.doRevert why).update.running = f ∧ ((s.doRevert why).fwSlot f).role = .running ∧ ((s.doRevert why).fwSlot t).role = .previous
      ∧ (s.doRevert why).update.state = .idle ∧ (s.doRevert why).get F.UPD_REASON_REASON = why % 65536)
  ∧ (∀ (s : State) (g : Generation), s.vaultUp = true → s.nandUp = true → s.vault.keyring = some g → g.s < s.sys.sv →
      s.forwardReseal.vault.keyring = some (sealGeneration (g.number + 1) g.epoch s.sys.sv g.records)
      ∧ s.forwardReseal.update = { s.update with
          pending := false, resealing := true, blocks := if s.update.resealing then s.update.blocks else 0 })
  ∧ (∀ s : State, s.update.resealing = true → resealBlocks ≤ s.update.blocks →
      s.dueReseal.update.resealing = false ∧ s.dueReseal.nand.sealS = max s.nand.sealS s.sys.sv ∧ s.dueReseal.get F.UPD_EVT_RESEALED = 1)
  ∧ (∀ s : State, s.update.resealing = true → s.update.blocks < resealBlocks → s.pwr.standby = false → s.nandWrites = true → s.sto.resealAt ≤ s.mt →
      s.sto.queue = [] → s.takes .reseal = true → s.dueReseal.update = { s.update with blocks := s.update.blocks + 1 }
      ∧ s.dueReseal.sto.resealAt = s.mt + 32768 ∧ s.dueReseal.vault = s.vault ∧ s.dueReseal.regs = s.regs)

/-- R432 to R439, Table 16-4: a frame that passes its checks executes, is counted and stored under its TAG; one with a bad CRC is rejected with 0x1001 and
a reserved OP with 0x1004; RESULT sends the stored response of a TAG again, and a repeat of the frame just executed is answered from the store without
executing. -/
def Obligations.SpiFramesAreCheckedAndAnswered : Prop :=
  (∀ (s : State) (tag : BitVec 4) (addr : BitVec 24) (crc : Word), s.spiReceives = true → rangeCheck addr.toNat 1 = 0 →
      s.hif.lastFrame ≠ some (spiHeader 0 tag.toNat addr.toNat, crc) → crc = spiCrc [spiHeader 0 tag.toNat addr.toNat, 1] →
      exec (.spiNop 0 tag addr 1 crc) s
        = .next (s.spiDone s.intPend tag.toNat (spiHeader 0 tag.toNat addr.toNat, crc) (spiResponse tag.toNat 0 0 [])))
  ∧ (∀ (s : State) (op tag : BitVec 4) (addr : BitVec 24) (len crc : Word), s.spiReceives = true → 4 ≤ op.toNat →
      s.hif.lastFrame ≠ some (spiHeader op.toNat tag.toNat addr.toNat, crc) → crc = spiCrc [spiHeader op.toNat tag.toNat addr.toNat, len] →
      exec (.spiNop op tag addr len crc) s = .next (s.spiReject s.intPend tag.toNat 0x1004))
  ∧ (∀ (s : State) (tag : BitVec 4) (addr : BitVec 24) (len crc : Word), s.spiReceives = true →
      s.hif.lastFrame ≠ some (spiHeader 1 tag.toNat addr.toNat, crc) → crc ≠ spiCrc [spiHeader 1 tag.toNat addr.toNat, len] →
      exec (.spiRead tag addr len crc) s = .next (s.spiReject s.intPend tag.toNat 0x1001))
  ∧ (∀ (s : State) (tag : BitVec 4) (addr : BitVec 24) (len crc : Word), s.spiReceives = true → 1 ≤ len.toNat → len.toNat ≤ 1024 →
      s.hif.lastFrame ≠ some (spiHeader 1 tag.toNat addr.toNat, crc) → crc = spiCrc [spiHeader 1 tag.toNat addr.toNat, len] →
      s.accessCheck false addr.toNat len.toNat = 0 →
      exec (.spiRead tag addr len crc) s = .next (let r := readWords len.toNat addr.toNat s
        r.1.spiDone s.intPend tag.toNat (spiHeader 1 tag.toNat addr.toNat, crc) (spiResponse tag.toNat 0 0 r.2)))
  ∧ (∀ (s : State) (tag : BitVec 4) (addr : BitVec 24) (len crc : Word), s.spiReceives = true → 1 ≤ len.toNat → len.toNat ≤ 1024 →
      s.hif.lastFrame ≠ some (spiHeader 1 tag.toNat addr.toNat, crc) → crc = spiCrc [spiHeader 1 tag.toNat addr.toNat, len] →
      s.accessCheck false addr.toNat len.toNat ≠ 0 →
      exec (.spiRead tag addr len crc) s = .next (s.spiReject s.intPend tag.toNat (s.accessCheck false addr.toNat len.toNat)))
  ∧ (∀ (s : State) (tag : BitVec 4) (addr : BitVec 24) (len crc : Word) (data : List Word) (env : Env), s.spiReceives = true →
      1 ≤ len.toNat → len.toNat ≤ 1024 → data.length = len.toNat →
      s.hif.lastFrame ≠ some (spiHeader 2 tag.toNat addr.toNat, crc) → crc = spiCrc (spiHeader 2 tag.toNat addr.toNat :: len :: data) →
      s.accessCheck true addr.toNat len.toNat = 0 → (writeWords env (data.map BitVec.toNat) addr.toNat s).2 = false →
      exec (.spiWrite tag addr len data crc env) s = .next ((writeWords env (data.map BitVec.toNat) addr.toNat s).1.spiDone s.intPend
        tag.toNat (spiHeader 2 tag.toNat addr.toNat, crc) (spiResponse tag.toNat 0 0 [])))
  ∧ (∀ (s : State) (tag : BitVec 4) (addr : BitVec 24) (crc : Word) (k : Nat) (r : List Word), s.spiReceives = true →
      rangeCheck addr.toNat 1 = 0 → s.hif.lastFrame ≠ some (spiHeader 3 tag.toNat addr.toNat, crc) →
      crc = spiCrc [spiHeader 3 tag.toNat addr.toNat, 1] → s.hif.stored.find? (fun x => x.1 == tag.toNat) = some (k, r) →
      exec (.spiResult tag addr 1 crc) s = .next (s.spiDone s.intPend tag.toNat (spiHeader 3 tag.toNat addr.toNat, crc) r))
  ∧ (∀ (s : State) (tag : BitVec 4) (addr : BitVec 24) (crc : Word), s.spiReceives = true → rangeCheck addr.toNat 1 = 0 →
      s.hif.lastFrame ≠ some (spiHeader 3 tag.toNat addr.toNat, crc) → crc = spiCrc [spiHeader 3 tag.toNat addr.toNat, 1] → s.hif.stored = [] →
      exec (.spiResult tag addr 1 crc) s = .next (s.spiReject s.intPend tag.toNat 0x1006))
  ∧ (∀ (s : State) (tag : BitVec 4) (addr : BitVec 24) (len crc : Word) (data : List Word) (env : Env) (k : Nat) (r : List Word),
      s.spiReceives = true → spiCount len.toNat ≤ data.length → s.hif.lastFrame = some (spiHeader 2 tag.toNat addr.toNat, crc) →
      s.hif.stored.find? (fun x => x.1 == tag.toNat) = some (k, r) →
      exec (.spiWrite tag addr len data crc env) s
        = .next { s with hif := { s.hif with spiOut := BitVec.ofNat 32 s.intPend :: r } })
  ∧ (∀ (s : State) (tag : BitVec 4) (addr : BitVec 24) (len crc : Word) (data : List Word) (env : Env),
      s.spiReceives = true → len.toNat ≤ 1024 → data.length < len.toNat → exec (.spiWrite tag addr len data crc env) s = .next s)
  ∧ (∀ (s : State) (tag : BitVec 4) (addr : BitVec 24) (len crc : Word) (data : List Word) (env : Env), s.spiReceives = true →
      spiCount len.toNat ≤ data.length → s.hif.lastFrame ≠ some (spiHeader 2 tag.toNat addr.toNat, crc) →
      (crc ≠ spiCrc (spiHeader 2 tag.toNat addr.toNat :: len :: data) →
        exec (.spiWrite tag addr len data crc env) s = .next (s.spiReject s.intPend tag.toNat 0x1001))
      ∧ (crc = spiCrc (spiHeader 2 tag.toNat addr.toNat :: len :: data) → s.frameCheck 2 tag.toNat addr.toNat len.toNat ≠ 0 →
        exec (.spiWrite tag addr len data crc env) s
          = .next (s.spiReject s.intPend tag.toNat (s.frameCheck 2 tag.toNat addr.toNat len.toNat))))
  ∧ (∀ (s : State) (w : Bool) (tag addr len : Nat), s.frameCheck (if w then 2 else 1) tag addr len
      = if spiCount len = 0 ∨ 1024 < spiCount len then 0x1002 else if addr % 4 ≠ 0 then 0x1003
        else match regionOf addr with
          | none => 0x1005
          | some g =>
            if regionOf (addr + 4 * spiCount len - 1) ≠ some g then 0x1005
            else if s.accessOk w g (accessWords addr (spiCount len)) = false then 0x0131
            else if w = true ∧ g = .mbIn ∧ s.flag F.HIF_MB_IN_STAT_IN_FREE = false then 0x1007
            else if w = false ∧ g = .window ∧ s.sto.window.loading = true then 0x0C0E else 0)
  ∧ (∀ (s : State) (pend tag code : Nat), (s.spiReject pend tag code).hif.stored = s.hif.stored
      ∧ keepsFields s (s.spiReject pend tag code) [F.HIF_SPI_CNT_REJECTED, F.HIF_SPI_CNT_CRC_ERR, F.HIF_REASON_REASON, F.HIF_EVT_SPI_ERR]
      ∧ s.spiReject pend tag code = { s with regs := (s.spiReject pend tag code).regs, hif := (s.spiReject pend tag code).hif })

/-- R5, R6, R459: a host write gives an RW field its value, clears the written ones of a W1C field and leaves every other field as it stands; a read
clears the RC fields of its register and no other register; SYS_RESET resets with its key and does nothing without it. -/
def Obligations.RegistersKeepTheirAccessTypes : Prop :=
  (∀ (off old v : Nat) (r : RegRow), regRow? off = some r → ∀ f ∈ r.fields, bits (writtenWord r old v) f.hi f.lo
      = (match f.access with
        | .rw => bits v f.hi f.lo
        | .w1c => bits old f.hi f.lo - (bits old f.hi f.lo &&& bits v f.hi f.lo)
        | .ro => bits old f.hi f.lo | .wo => bits old f.hi f.lo | .rc => bits old f.hi f.lo))
  ∧ (∀ (s : State) (addr : BitVec 24) (v : Word) (n : Nat), s.phase = 0xA → rangeCheck addr.toNat 1 = 0 → regionOf addr.toNat = some (.block n) →
      exec (.registerWrite addr v) s = .next (writePlain addr.toNat v.toNat s))
  ∧ (∀ (s : State) (v : Nat) (u : Subsys) (e m : Nat), evtRegs u = some (e, m) → writePlain e v s = s.writeFields e v
      ∧ writePlain m v s = s.writeFields m v)
  ∧ (∀ (s : State) (addr : BitVec 24) (v : Word), s.phase = 1 → addr.toNat < 0xF000 → addr.toNat % 0x1000 ≠ 0 → addr.toNat ≠ R.SYS_RESET →
      exec (.registerWrite addr v) s = .next s)
  ∧ (∀ (s : State) (off off2 : Nat), off ≠ off2 → (s.clearRead off).reg off2 = s.reg off2)
  ∧ (∀ (s : State) (v : Word), v.toNat / 2 ^ 16 = 0x5A5A → Nat.testBit v.toNat 0 = true → exec (.sysReset v) s = .next (s.resetSource 3))
  ∧ (∀ (s : State) (v : Word), v.toNat / 2 ^ 16 ≠ 0x5A5A → exec (.sysReset v) s = .next s)

/-- R5, R6, R66, R266, R366, R374, R459, Table 3-2: where the phase admits the access, a write of a register without behaviour of its own stores the word
of its access types and changes nothing else; the registers with a rule of their own follow it; a write of SYS_RESET with its key and its bit resets
from source 3, once no fuse blow runs, and leaves the state as it was without them. What the write of a WO or an enable bit does stands apart, in the
rows that name it. LF_CHn_CTL stands at 0x3040 and RF_CHn_CTL at 0x4048, 16 bytes apart. -/
def Obligations.RegisterWritesAndSysResetComplete : Prop :=
  (∀ (s : State) (addr : BitVec 24) (v : Word) (r : RegRow), s.writeAdmitted addr.toNat = true → fieldsOnly addr.toNat = true →
      regRow? addr.toNat = some r →
      exec (.registerWrite addr v) s = .next (s.setReg addr.toNat (writtenWord r (s.reg addr.toNat) v.toNat)))
  ∧ (∀ (s : State) (addr : BitVec 24) (v : Word), s.writeAdmitted addr.toNat = true → fieldsOnly addr.toNat = true →
      regRow? addr.toNat = none → exec (.registerWrite addr v) s = .next s)
  ∧ (∀ (s : State) (addr : BitVec 24) (v : Word), s.writeAdmitted addr.toNat = false → exec (.registerWrite addr v) s = .next s)
  ∧ (∀ (s : State) (addr : BitVec 24) (v : Word), s.writeAdmitted addr.toNat = true →
      addr.toNat % 0x1000 = 0 → addr.toNat ∉ [R.PWR_CTL, R.LF_CTL, R.RF_CTL, R.NFC_CTL] → exec (.registerWrite addr v) s = .next s)
  ∧ (∀ (s : State) (addr : BitVec 24) (v : Word), s.writeAdmitted addr.toNat = true → addr.toNat = R.TIM_NT_SET_S_HI →
      exec (.registerWrite addr v) s = .next (s.setReg R.TIM_NT_SET_S_HI (v.toNat % 2 ^ 16)))
  ∧ (∀ (s : State) (addr : BitVec 24) (v : Word), s.writeAdmitted addr.toNat = true → addr.toNat = R.TIM_NT_INC_FRAC → s.ntMode ≠ 1 →
      exec (.registerWrite addr v) s = .next (s.setReg R.TIM_NT_INC_FRAC v.toNat))
  ∧ (∀ (s : State) (addr : BitVec 24) (v : Word), s.writeAdmitted addr.toNat = true → addr.toNat = R.TIM_NT_INC_FRAC → s.ntMode = 1 →
      exec (.registerWrite addr v) s = .next (s.reason .tim 0x0403))
  ∧ (∀ (s : State) (addr : BitVec 24) (v : Word), s.writeAdmitted addr.toNat = true → addr.toNat = R.TIM_NT_INC_INT →
      exec (.registerWrite addr v) s = exec (.ntIncWrite (BitVec.ofNat 8 v.toNat)) s)
  ∧ (∀ (s : State) (addr : BitVec 24) (v : Word), s.writeAdmitted addr.toNat = true → addr.toNat = R.STO_JRNL_ACK_HI →
      exec (.registerWrite addr v) s = exec (.jrnlAck v) s)
  ∧ (∀ (s : State) (addr : BitVec 24) (v : Word), s.writeAdmitted addr.toNat = true → addr.toNat = R.STO_WIN_CTL →
      completes (.registerWrite addr v) s (fun t =>
        t.get F.STO_WIN_CTL_STREAM = (if bits v.toNat 4 0 ≤ 3 ∨ 16 ≤ bits v.toNat 4 0 then bits v.toNat 4 0 else s.get F.STO_WIN_CTL_STREAM)
        ∧ keepsFields s t [F.STO_WIN_CTL_STREAM] ∧ t = { s with regs := t.regs }))
  ∧ (∀ (s : State) (addr : BitVec 24) (v : Word), s.writeAdmitted addr.toNat = true → addr.toNat = R.RF_TEST →
      completes (.registerWrite addr v) s (fun t =>
        t.get F.RF_TEST_MODE = (if bits v.toNat 27 24 ≤ 5 then bits v.toNat 27 24 else s.get F.RF_TEST_MODE)
        ∧ t.reg R.RF_TEST % 2 ^ 24 = v.toNat % 2 ^ 24 ∧ keepsRegs s t [R.RF_TEST] ∧ t = { s with regs := t.regs }))
  ∧ (∀ (s : State) (addr : BitVec 24) (v : Word) (u : Fin 4), s.writeAdmitted addr.toNat = true → s.get (F.TIM_PULSEn_CTL_EN u.val) = 0 →
      (addr.toNat = R.TIM_PULSEn_START u.val ∨ addr.toNat = R.TIM_PULSEn_PERIOD u.val ∨ addr.toNat = R.TIM_PULSEn_WIDTH u.val) →
      exec (.registerWrite addr v) s = .next (s.setReg addr.toNat v.toNat))
  ∧ (∀ (s : State) (addr : BitVec 24) (v : Word) (u : Fin 4), s.writeAdmitted addr.toNat = true → s.get (F.TIM_PULSEn_CTL_EN u.val) = 1 →
      (addr.toNat = R.TIM_PULSEn_START u.val ∨ addr.toNat = R.TIM_PULSEn_PERIOD u.val ∨ addr.toNat = R.TIM_PULSEn_WIDTH u.val) →
      exec (.registerWrite addr v) s = .next (s.reason .tim 0x0404))
  ∧ (∀ (s : State) (addr : BitVec 24) (v : Word) (u : Fin 4), s.writeAdmitted addr.toNat = true → addr.toNat = R.TIM_PULSEn_CTL u.val →
      s.get (F.TIM_PULSEn_CTL_EN u.val) = 0 → u.val < s.tim.pulses.length →
      completes (.registerWrite addr v) s (fun t => t.get (F.TIM_PULSEn_CTL_POL u.val) = bits v.toNat 6 6
        ∧ t.get (F.TIM_PULSEn_CTL_MODE u.val) = bits v.toNat 3 3
        ∧ t.get (F.TIM_PULSEn_CTL_BASE u.val) = (if bits v.toNat 5 4 = 3 then s.get (F.TIM_PULSEn_CTL_BASE u.val) else bits v.toNat 5 4)
        ∧ (t.pulse u.val).level = !Nat.testBit v.toNat 6
        ∧ keepsFields s t [F.TIM_PULSEn_CTL_POL u.val, F.TIM_PULSEn_CTL_MODE u.val, F.TIM_PULSEn_CTL_BASE u.val]
        ∧ t = { s with regs := t.regs, tim := { s.tim with pulses := t.tim.pulses } }))
  ∧ (∀ (s : State) (addr : BitVec 24) (v : Word) (u : Fin 4), s.writeAdmitted addr.toNat = true → addr.toNat = R.TIM_PULSEn_CTL u.val →
      s.get (F.TIM_PULSEn_CTL_EN u.val) = 1 →
      exec (.registerWrite addr v) s = .next
        (let s1 := if bits v.toNat 6 3 = bits (s.reg (R.TIM_PULSEn_CTL u.val)) 6 3 then s else s.reason .tim 0x0404
         if Nat.testBit v.toNat 0 then s1 else s1.stopPulse u.val))
  ∧ (∀ (s : State) (addr : BitVec 24) (v : Word), s.writeAdmitted addr.toNat = true →
      (addr.toNat = R.PWR_CTL → exec (.registerWrite addr v) s = .next (hostHold (Nat.testBit v.toNat 2) s))
      ∧ (addr.toNat = R.LF_CTL → exec (.registerWrite addr v) s = .next (candleHold (Nat.testBit v.toNat 1) s))
      ∧ (addr.toNat = R.RF_CTL → exec (.registerWrite addr v) s = .next (sniffHold (Nat.testBit v.toNat 1) s)))
  ∧ (∀ (s : State) (addr : BitVec 24) (v : Word), s.writeAdmitted addr.toNat = true → addr.toNat = R.NFC_CTL →
      exec (.registerWrite addr v) s = .next
        (if Nat.testBit v.toNat 1 = s.flag F.NFC_CTL_READER_OFF then s else readerOff (Nat.testBit v.toNat 1) s))
  ∧ (∀ (s : State) (addr : BitVec 24) (v : Word) (c : Fin 8), s.writeAdmitted addr.toNat = true → addr.toNat = 0x3040 + 16 * c.val →
      exec (.registerWrite addr v) s = .next
        (if Nat.testBit v.toNat 0 = s.flag (F.LF_CHn_CTL_OFF c.val) then s else lfChannelOff c.val (Nat.testBit v.toNat 0) s))
  ∧ (∀ (s : State) (addr : BitVec 24) (v : Word) (c : Fin 4), s.writeAdmitted addr.toNat = true → addr.toNat = 0x4048 + 16 * c.val →
      exec (.registerWrite addr v) s = .next
        (if Nat.testBit v.toNat 0 = s.flag (F.RF_CHn_CTL_OFF c.val) then s else chainOff c.val (Nat.testBit v.toNat 0) s))
  ∧ (∀ (s : State) (v : Word), v.toNat / 2 ^ 16 = 0x5A5A → Nat.testBit v.toNat 0 = true → s.pilot.vbatUp = true → s.keys.blow = none →
      completes (.sysReset v) s (fun t => t = s.restart 3 ∧ t.get F.SYS_STAT_RESET_CAUSE = 3 ∧ t.reg R.SYS_EN_MAP = 0
        ∧ t.phase = (if s.pwr.xtalRun = true then 3 else 2) ∧ t.hif = Hif.reset ∧ t.rel = Rel.reset
        ∧ t.fuses = s.fuses ∧ t.nand = s.nand ∧ t.nor = s.nor ∧ t.tag = s.tag ∧ t.update = s.update ∧ t.mt = s.mt
        ∧ t.pending = s.pending ∧ t.pilot.pt = s.pilot.pt))
  ∧ (∀ (s : State) (v : Word), v.toNat / 2 ^ 16 = 0x5A5A → Nat.testBit v.toNat 0 = true → s.pilot.vbatUp = true → s.keys.blow.isSome = true →
      exec (.sysReset v) s = .next (s.awaitBlow (.reset 3)))
  ∧ (∀ (s : State) (v : Word), (v.toNat / 2 ^ 16 ≠ 0x5A5A ∨ Nat.testBit v.toNat 0 = false ∨ s.pilot.vbatUp = false) →
      exec (.sysReset v) s = .next s)

/-- R78, R266, R440 to R447: a segment handed over by HIF_MB_RING or carried by a bus joins its message in sequence (the byte order of SEG on T1S: log
entry 148), in phases 1 to 8 once it is served from the latch; a complete message waits its turn, at most 8 of them; MB_EXECUTE runs the one at the
head, once no fuse blow runs, and answers it; OUT_ACK releases the response, MB_ABORT answers the waiting SPI commands with 0x1014; a bus response
held for 10 s is dropped with 0x100D. R442, R446, R447: REG_READ and REG_WRITE reach the words of the host address map under the checks of a frame,
RESET with its key answers and resets once the answer is delivered, ECHO returns its input; a command that finds another executing joins the queue. -/
def Obligations.MailboxMessagesRun : Prop :=
  (∀ (s : State) (w : Word), s.flag F.HIF_MB_IN_STAT_IN_FREE = false →
      exec (.hifMbRing w) s = .next ((s.reason .hif 0x1007).event F.HIF_EVT_MB_REFUSED))
  ∧ (∀ (s : State) (w : Word), s.flag F.HIF_MB_IN_STAT_IN_FREE = true → s.partial? .spi = none →
      let n := bits w.toNat 31 16
      let m := padTo n s.hif.inBuf
      let s1 := { s.putFlag F.HIF_MB_IN_STAT_IN_FREE false with hif := { s.hif with inFreeAt := s.mt + min 120 (Config.inCopyUs s.mt n) } }
      16 ≤ n → n ≤ 32768 → Nat.testBit w.toNat 1 = true → Nat.testBit w.toNat 0 = true → n = 16 + msgInLen m →
      exec (.hifMbRing w) s = .next ((s1.setPartial .spi none).enqueue ⟨.spi, m, 0⟩))
  ∧ (∀ (s : State) (c : MbCmd), s.hif.queue.length < 8 → s.enqueue c
      = { s with hif := { s.hif with queue := s.hif.queue ++ [c] } }.put F.HIF_STAT_MB_QUEUED (s.hif.queue.length + 1))
  ∧ (∀ (s : State) (c : MbCmd), 8 ≤ s.hif.queue.length →
      s.enqueue c = ((s.reason .hif 0x1008).event F.HIF_EVT_MB_REFUSED).answer c 0x1008 [])
  ∧ (∀ (s : State) (t : Transport) (payload : Bytes) (src : Nat), (t = .can0 ∨ t = .can1) → s.latching = false → s.mbReceives t = true →
      payload.length = 64 →
      exec (.mailboxSegment t payload src) s = .next (s.segment t (Nat.testBit (u8 payload 0) 7) (Nat.testBit (u8 payload 0) 6)
        (u8 payload 0 % 64) (payload.drop 1) 0))
  ∧ (∀ (s : State) (payload : Bytes) (src : Nat), s.latching = false → s.mbReceives .t1s = true → 3 ≤ payload.length → payload.length ≤ 1500 →
      exec (.mailboxSegment .t1s payload src) s = .next (s.segment .t1s (Nat.testBit (be payload 0 2) 15) (Nat.testBit (be payload 0 2) 14)
        (be payload 0 2 % 2 ^ 14) (payload.drop 2) src))
  ∧ (∀ (s : State) (t : Transport) (payload : Bytes) (src : Nat), s.latching = true → t ≠ .spi →
      exec (.mailboxSegment t payload src) s = .next (s.latch (.segment t payload src)))
  ∧ (∀ (s : State) (t : Transport) (seq : Nat) (last : Bool) (seg : Bytes) (src : Nat) (p : Partial), s.partial? t = some p →
      (seq ≠ p.seq → s.segment t false last seq seg src = (s.setPartial t none).refuseMessage)
      ∧ (seq = p.seq → (p.bytes ++ seg).length < 16 → s.segment t false false seq seg src
          = s.setPartial t (some { p with bytes := p.bytes ++ seg, seq := (p.seq + 1) % seqModulus t })))
  ∧ (∀ (s : State) (t : Transport) (seq : Nat) (last : Bool) (seg : Bytes) (src : Nat), s.partial? t = none →
      s.segment t false last seq seg src = s.refuseMessage)
  ∧ (∀ (s : State) (env : Env) (c : MbCmd) (rest : List MbCmd), s.hif.queue = c :: rest → s.hif.executing = none →
      s.flag F.PWR_STAT_BROWNOUT = false → s.hif.resetWait = none → s.keys.blow = none →
      let s1 := { s with hif := { s.hif with queue := rest } }.put F.HIF_STAT_MB_QUEUED rest.length
      exec (.mbExecute env) s = .next (if s1.groupOk c then s1.runAs c (opOf (msgOpcode c.message) (msgInput c.message) env)
        else s1.answer c 0x100B []))
  ∧ (∀ (s : State) (env : Env), (s.hif.executing.isSome = true ∨ s.keys.blow.isSome = true) → exec (.mbExecute env) s = .next s)
  ∧ (∀ (s : State) (op n : Nat), knownOpcode op = true → s.phase = 0xB → provisionedOk op = false → s.mbGate op n = 0x1015)
  ∧ (∀ (s : State) (op n : Nat), knownOpcode op = false → s.mbGate op n = 0x100A)
  ∧ (∀ s : State, s.flag F.HIF_MB_OUT_STAT_VALID = true → s.hif.resetWait = none →
      exec .outAck s = .next ({ s.setReg R.HIF_MB_OUT_STAT 0 with hif := { s.hif with outBuf := [] } }.placeOut))
  ∧ (∀ s : State, completes .mbAbort s (fun t => t.hif.queue = s.hif.queue.filter (fun c => c.transport != .spi)
      ∧ t.hif.executing = s.hif.executing))
  ∧ (∀ s : State, s.hif.resetWait = none → s.hif.busResp.any (fun r => decide (r.readyMt + 10000000 ≤ s.mt)) = true →
      exec .responseDrop s = .next (({ s with hif := { s.hif with
        busResp := s.hif.busResp.filter (fun r => !decide (r.readyMt + 10000000 ≤ s.mt)) } }.reason .hif 0x100D).event F.HIF_EVT_RESP_DROPPED))
  ∧ (∀ (s : State) (w : ResetWait) (t : Nat), s.hif.resetWait = some w → w.transport = .spi → w.placedMt = some t → t + 100000 ≤ s.mt →
      exec .responseDelivered s = .next (s.resetSource w.source))
  ∧ (∀ s : State, s.hif.resetWait = none → exec .responseDelivered s = .next s)
  ∧ (∀ s : State, s.hif.busResp.any (fun r => decide (r.readyMt + 10000000 ≤ s.mt)) = false → exec .responseDrop s = .next s)
  ∧ (∀ (s : State) (t : Transport) (src : Nat) (m : Bytes), t ≠ .spi → s.busUp t = false → s.deliver t src m
      = { s with hif := { s.hif with busResp := s.hif.busResp ++ [⟨t, m, s.mt, src⟩] } })
  ∧ (∀ (s : State) (src : Nat) (m : Bytes), s.deliver .spi src m = { s with hif := { s.hif with spiResp := s.hif.spiResp ++ [m] } }.placeOut)
  ∧ (∀ (s : State) (addr count : Word), s.mbReady 0x0101 (toLE 4 addr.toNat ++ toLE 4 count.toNat) →
      let b := s.begun 0x0101 (toLE 4 addr.toNat ++ toLE 4 count.toNat)
      1 ≤ count.toNat → count.toNat ≤ 1024 → b.accessCheck false addr.toNat count.toNat = 0 →
      exec (.regRead addr count) s = .next (let r := readWords count.toNat addr.toNat b
        r.1.finish 0 (r.2.flatMap (fun v => toLE 4 v))))
  ∧ (∀ (s : State) (addr : Word) (values : List Word) (env : Env),
      s.mbReady 0x0102 (toLE 4 addr.toNat ++ toLE 4 values.length ++ wordsToBytes values) →
      let b := s.begun 0x0102 (toLE 4 addr.toNat ++ toLE 4 values.length ++ wordsToBytes values)
      let w := writeWords env (values.map BitVec.toNat) addr.toNat b
      1 ≤ values.length → values.length ≤ 1024 → b.accessCheck true addr.toNat values.length = 0 → w.2 = false →
      exec (.regWrite addr values env) s = .next (w.1.finish 0 []))
  ∧ (∀ s : State, s.mbReady 0x0103 (toLE 4 0x5A5A) → exec (.reset 0x5A5A) s = .next ((s.begun 0x0103 (toLE 4 0x5A5A)).finishReset 3 []))
  ∧ (∀ (s : State) (key : Word), s.mbReady 0x0103 (toLE 4 key.toNat) → key.toNat ≠ 0x5A5A →
      exec (.reset key) s = .next ((s.begun 0x0103 (toLE 4 key.toNat)).finish 0x100C []))
  ∧ (∀ (s : State) (data : Bytes), s.mbReady 0x0104 data → exec (.echo data) s = .next ((s.begun 0x0104 data).finish 0 data))
  ∧ (∀ (s : State) (data : Bytes), data.length ≤ 66560 → s.hif.executing.isSome = true → s.hif.queue.length < 8 →
      exec (.echo data) s = .next (s.enqueue (mbCommand 0x0104 data)))

/-- R448 to R453, Table 16-8: FRAME_SEND queues a frame for a port that is up, with a tag where a stamp is asked; a frame received in phases 1 to 8 is
latched (R78), later ones that a filter admits wait in a queue that FRAME_RECV empties and that drops what does not fit with 0x1016; bus-off abandons
the queued frames with 0x1012 until its recovery, a lost beacon falls back with 0x1013, and a wake raises the votes of a link wake. -/
def Obligations.FramesPassTheBuses : Prop :=
  (∀ (s : State) (b : Bytes), s.mbReady 0x1001 b →
      let t := s.begun 0x1001 b
      let p := u8 b 0
      let flags := u8 b 1
      let n := le b 2 2
      b.length = 16 + n → flags < 8 → allZero (slice b 0x0E 2) = true → p ≤ 2 → t.linkOn p = true → t.busUp (portTransport p) = true →
      frameLenOk p flags n = true → t.frameReserved p flags (le b 4 4) = false → t.onRc = false →
      exec (.frameSend b) s = .next ({ t with hif := { t.hif with txq := t.hif.txq
        ++ [(⟨p, flags, le b 4 4, beNat (slice b 8 6), if p = 2 then padTo (max 46 n) (b.drop 16) else b.drop 16, none⟩ : TxFrame)] } }.finish 0 [0, 0, 0, 0]))
  ∧ (∀ (s : State) (b : Bytes), s.mbReady 0x1001 b →
      let t := s.begun 0x1001 b
      b.length = 16 + le b 2 2 → u8 b 1 < 16 → allZero (slice b 0x0E 2) = true →
      (2 < u8 b 0 ∨ t.linkOn (u8 b 0) = false ∨ t.busUp (portTransport (u8 b 0)) = false) →
      exec (.frameSend b) s = .next ((t.reason .hif 0x100E).finish 0x100E []))
  ∧ (∀ (s : State) (max : BitVec 16), s.mbReady 0x1002 (toLE 2 max.toNat) →
      let b := s.begun 0x1002 (toLE 2 max.toNat)
      let rs := takeRecords 66556 max.toNat b.hif.rxq
      exec (.frameRecv max) s = .next (({ b with hif := { b.hif with rxq := b.hif.rxq.drop rs.length } }.put F.HIF_RXQ_RECORDS
        (b.hif.rxq.drop rs.length).length).finish 0 (toLE 2 rs.length ++ toLE 2 0 ++ rs.flatMap (fun (r : RxRec) => r.bytes))))
  ∧ (∀ (room n : Nat) (l : List RxRec), takeRecords room n l <+: l ∧ (takeRecords room n l).length ≤ n
      ∧ ((takeRecords room n l).flatMap (fun (r : RxRec) => r.bytes)).length ≤ room)
  ∧ (∀ (s : State) (rec : Bytes), 1 ≤ s.phase → s.phase ≤ 8 → exec (.busFrameReceive rec) s
      = .next { s with sys := { s.sys with latched := s.sys.latched ++ [⟨.bus rec, s.pilot.pt.toNat, s.mt⟩] } })
  ∧ (∀ (s : State) (rec : Bytes), s.phase = 0xA → s.island 13 = 2 → exec (.busFrameReceive rec) s = .next (s.takeFrame rec))
  ∧ (∀ (s : State) (rec : Bytes), s.phase = 0xA → s.island 13 ≠ 2 → exec (.busFrameReceive rec) s = .next s)
  ∧ (∀ (s : State) (rec : Bytes), s.filters.any (fun x => filterHits x (u8 rec 0) (u8 rec 1) (le rec 4 4)) = false → s.takeFrame rec = s)
  ∧ (∀ (s : State) (rec : Bytes), s.enabled .hif = true → u8 rec 0 ≤ 2 → s.busUp (portTransport (u8 rec 0)) = true →
      s.frameReserved (u8 rec 0) (u8 rec 1) (le rec 4 4) = false →
      s.filters.any (fun x => filterHits x (u8 rec 0) (u8 rec 1) (le rec 4 4)) = true →
      let n := le rec 2 2
      let r : RxRec := ⟨rec.take 8 ++ padTo 6 (slice rec 8 6) ++ zeros 2 ++ s.rxStamp (u8 rec 0) ++ padTo ((n + 3) / 4 * 4) (padTo n (rec.drop 0x1C))⟩
      let used := s.hif.rxq.foldl (fun m x => m + x.bytes.length) 0
      (131072 < used + r.bytes.length → s.takeFrame rec = (s.bump F.HIF_RXQ_LOST).reason .hif 0x1016)
      ∧ (used + r.bytes.length ≤ 131072 → s.takeFrame rec = ({ s with hif := { s.hif with rxq := s.hif.rxq ++ [r] } }.put F.HIF_RXQ_RECORDS
          (s.hif.rxq ++ [r]).length).event F.HIF_EVT_RX_FRAME))
  ∧ (∀ (s : State) (c : Fin 2), s.flag (upField c.val) = true → s.flag (busOffField c.val) = false → s.hif.txq = [] →
      let t := ((((((s.putFlag (busOffField c.val) true).put (F.HIF_CANc_STAT_STATE c.val) 3).bump (F.HIF_CANc_STAT_BUSOFF_CNT c.val)).redLoss
        13).event F.HIF_EVT_BUS_OFF).reason .hif 0x1012)
      exec (.busOff c) s = .next (if t.canFlag c.val 4 then { t with hif := { t.hif with recovering := t.hif.recovering ++ [c.val] } } else t))
  ∧ (∀ (s : State) (c : Fin 2), s.flag (busOffField c.val) = true → s.hif.recovering = [] →
      exec (.canRecover c) s = .next { s with hif := { s.hif with recovering := [c.val] } })
  ∧ (∀ (s : State) (c : Fin 2), s.flag (busOffField c.val) = false → exec (.canRecover c) s = .next s)
  ∧ (∀ (s : State) (c : Fin 2), s.hif.recovering.contains c.val = true → s.hif.busResp = [] →
      completes (.busOffRecovery c) s (fun t => t.flag (busOffField c.val) = false ∧ t.get (F.HIF_CANc_STAT_STATE c.val) = 1
        ∧ t.get (F.HIF_CANc_STAT_TEC c.val) = 0 ∧ t.get (F.HIF_CANc_STAT_REC c.val) = 0
        ∧ t.hif.recovering = s.hif.recovering.filter (· != c.val) ∧ t.hif.txq = s.hif.txq))
  ∧ (∀ s : State, s.flag F.HIF_STAT_PLCA_ACTIVE = true → s.flag F.HIF_T1S_STAT_COORD = false → exec .beaconLost s
      = .next ((((s.putFlag F.HIF_STAT_PLCA_ACTIVE false).putFlag F.HIF_T1S_STAT_PLCA_ACTIVE false).bump F.HIF_T1S_STAT_BEACON_LOST).reason
          .hif 0x1013))
  ∧ (∀ s : State, s.flag F.HIF_T1S_STAT_COORD = true → exec .beaconLost s = .next s)
  ∧ (∀ s : State, s.flag F.HIF_STAT_T1S_UP = true → u8 s.linksSec 0x38 = 1 → exec .beaconReceive s
      = .next ((s.putFlag F.HIF_STAT_PLCA_ACTIVE true).putFlag F.HIF_T1S_STAT_PLCA_ACTIVE true))
  ∧ (∀ (s : State) (p : Fin 3), s.linkOn p.val = true → (if p.val = 2 then Nat.testBit (u8 s.linksSec 0x3E) 0 else s.canFlag p.val 3) = true →
      s.pwr.standby = true →
      exec (.busWake p) s = .next ((s.raiseVote 0 13 false).raiseVote 0 (1 + s.activePair) false).touch)
  ∧ (∀ (s : State) (p : Fin 3), s.linkOn p.val = false → exec (.busWake p) s = .next s)
  ∧ (∀ s : State, s.pwr.standby = true →
      exec .spiCsWake s = .next ((s.raiseVote 0 13 false).raiseVote 0 (1 + s.activePair) false).touch)
  ∧ (∀ s : State, s.pwr.standby = false → s.island 13 ≠ 0 → exec .spiCsWake s = .next s)

/-- R48, R49, R55, R58, R59: CFG_WRITE_OPEN erases the copy not selected; each chunk in order is programmed and the last one answers with the result of
the checks, a fault exposed earlier ends the write; the copies left unchecked are judged after READY, and phase 9 may end with them; a setting is read
with its limits and written within them where the host may write it. -/
def Obligations.ImagesAndSettingsAreWritten : Prop :=
  (∀ (s : State) (n : BitVec 32) (off size : Nat), s.mbReady 0x0201 (toLE 4 n.toNat) →
      let b := s.begun 0x0201 (toLE 4 n.toNat)
      b.sys.cfgWrite = none → b.nor.fitted = true → b.copySlot b.targetCopy = some (off, size) → 336 ≤ n.toNat → n.toNat ≤ imageMax → n.toNat ≤ size →
      exec (.cfgWriteOpen n) s = .next ({ b with
          nor := { b.nor with cells := norErase b.nor.cells off size }
          sys := { b.sys with cfgWrite := some ⟨n.toNat, b.targetCopy, []⟩ } }.finish 0 (toLE 1 b.targetCopy)))
  ∧ (∀ (s : State) (n : BitVec 32), s.mbReady 0x0201 (toLE 4 n.toNat) → s.sys.cfgWrite.isSome = true →
      exec (.cfgWriteOpen n) s = .next (((s.begun 0x0201 (toLE 4 n.toNat)).reason .cfg 0x0211).finish 0x0211 []))
  ∧ (∀ (s : State) (index : BitVec 32) (data : Bytes) (env : Env) (w : CfgWrite) (off size : Nat), s.mbReady 0x0202 (toLE 4 index.toNat ++ data) →
      let b := s.begun 0x0202 (toLE 4 index.toNat ++ data)
      let n := w.bytes.length / 65536
      let w1 : CfgWrite := { w with bytes := w.bytes ++ data }
      let s1 := { b with nor := { b.nor with cells := norWrite b.nor.cells (off + w.bytes.length) data }, sys := { b.sys with cfgWrite := some w1 } }
      let code := match s1.candidate (norRead s1.nor.cells off w.len) size env.vioHigh with | .ok _ => 0 | .error e => e
      b.sys.cfgWrite = some w → index.toNat = n → data.length = min 65536 (w.len - w.bytes.length) → b.copySlot w.target = some (off, size) →
      env.nor0 = true → env.nor1 = true →
      (b.exposed w1 size = 0 → w1.bytes.length < w.len →
        exec (.cfgWriteChunk index data env) s = .next ((s1.setReg R.SYS_CFG_PROG ((n + 1) * 100 / ((w.len + 65535) / 65536) * 2 ^ 24
          + (n + 1))).finish 0 (toLE 4 (n + 1))))
      ∧ (b.exposed w1 size = 0 → w.len ≤ w1.bytes.length → code < 0x10000 →
        exec (.cfgWriteChunk index data env) s = .next ((s1.endCfgWrite code).finish code (toLE 4 (n + 1))))
      ∧ (b.exposed w1 size ≠ 0 → b.exposed w1 size < 0x10000 →
        exec (.cfgWriteChunk index data env) s = .next (({ b with nor := { b.nor with
          cells := norErase b.nor.cells off size } }.endCfgWrite (b.exposed w1 size)).finish (b.exposed w1 size) [])))
  ∧ (∀ (s : State) (env : Env) (k : Nat), s.sys.readySeen = true → s.sys.unchecked = [k] →
      exec (.imgChecked env) s = .next (({ s.copyReason k (match s.judgeCopy k env with | .ok _ => 0 | .error e => e) with
        sys := { s.sys with unchecked := [] } }.event F.SYS_EVT_IMG_CHECKED).finishNine))
  ∧ (∀ (s : State) (env : Env), s.sys.unchecked = [] → exec (.imgChecked env) s = .next s.finishNine)
  ∧ (∀ (s : State) (id : BitVec 16) (r : SettingRec), s.mbReady 0x0203 (toLE 2 id.toNat) →
      let b := s.begun 0x0203 (toLE 2 id.toNat)
      b.settingList.find? (fun r => r.id == id.toNat) = some r →
      exec (.settingRead id) s = .next (b.finish 0 (toLE 4 (b.setting id.toNat r.dflt) ++ toLE 4 r.lo ++ toLE 4 r.hi ++ toLE 2 r.flags)))
  ∧ (∀ (s : State) (id : BitVec 16), s.mbReady 0x0203 (toLE 2 id.toNat) →
      let b := s.begun 0x0203 (toLE 2 id.toNat)
      b.settingList.find? (fun r => r.id == id.toNat) = none →
      exec (.settingRead id) s = .next ((b.reason .cfg 0x022C).finish 0x022C []))
  ∧ (∀ (s : State) (id : BitVec 16) (v : Word) (r : SettingRec) (k : SettingsBank), s.mbReady 0x0204 (toLE 2 id.toNat ++ toLE 4 v.toNat) →
      let b := s.begun 0x0204 (toLE 2 id.toNat ++ toLE 4 v.toNat)
      b.settingList.find? (fun r => r.id == id.toNat) = some r → b.vault.bank = some k →
      let w := { b with vault := { b.vault with bank := some (k.set id.toNat v.toNat) }
                        upd := { b.upd with newBank := b.upd.newBank.map (fun (n : SettingsBank) => n.set id.toNat v.toNat) } }
      (Nat.testBit r.flags 0 = true → settingLe r r.lo v.toNat = true → settingLe r v.toNat r.hi = true →
        exec (.settingWrite id v) s = .next ((if Nat.testBit r.flags 2 && decide (b.setting id.toNat r.dflt ≠ v.toNat)
          then w.settingEntry id.toNat (b.setting id.toNat r.dflt) v.toNat 1 else w).commitPoint.finish 0 []))
      ∧ (Nat.testBit r.flags 0 = true → settingLe r v.toNat r.hi = false →
        exec (.settingWrite id v) s = .next ((b.reason .cfg 0x022A).finish 0x022A []))
      ∧ (Nat.testBit r.flags 0 = false → exec (.settingWrite id v) s = .next ((b.reason .cfg 0x022B).finish 0x022B [])))
end

