-- ==== Sys2Proof/Laws/Bytes.lean ====
section
/-! SUPPORT. Byte strings: lengths, numbers written and read back, slices of what was put together, frames with their CRC-16. -/
namespace Sys2Proof.Machine

open Sys2Proof

@[simp] theorem length_toLE (n v : Nat) : (toLE n v).length = n := by
  induction n generalizing v with
  | zero => rfl
  | succ n ih => simp [toLE, ih]

@[simp] theorem length_toBE (n v : Nat) : (toBE n v).length = n := by simp [toBE]

@[simp] theorem length_zeros (n : Nat) : (zeros n).length = n := by simp [zeros]

@[simp] theorem length_padTo (n : Nat) (b : Bytes) : (padTo n b).length = n := by simp [padTo]; omega

theorem padTo_self (b : Bytes) : padTo b.length b = b := by simp [padTo, zeros]

/-- The value of the bytes of a number. -/
theorem leNat_toLE (n v : Nat) : leNat (toLE n v) = v % 256 ^ n := by
  induction n generalizing v with
  | zero => simp [toLE, leNat, Nat.mod_one]
  | succ n ih =>
    have hb : (byte v).toNat = v % 256 := by simp [byte, BitVec.toNat_ofNat]
    rw [toLE, leNat, ih, hb, pow_succ', Nat.mod_mul]

/-- A number that fits its bytes, written least significant byte first, reads back. -/
theorem leNat_toLE_lt (n v : Nat) (h : v < 2 ^ (8 * n)) : leNat (toLE n v) = v := by
  rw [leNat_toLE, Nat.mod_eq_of_lt]
  rwa [show (256 : Nat) = 2 ^ 8 by rfl, ← pow_mul]

/-- A number written most significant byte first reads back. -/
theorem beNat_toBE (n v : Nat) (h : v < 2 ^ (8 * n)) : beNat (toBE n v) = v := by
  simp [beNat, toBE, leNat_toLE_lt n v h]

/-- A byte string's value lies within its bytes. -/
theorem leNat_lt (b : Bytes) : leNat b < 2 ^ (8 * b.length) := by
  induction b with
  | nil => simp [leNat]
  | cons x xs ih =>
    have hx := x.isLt
    have e : 2 ^ (8 * (xs.length + 1)) = 256 * 2 ^ (8 * xs.length) := by rw [Nat.mul_add, pow_add]; norm_num; ring
    simp only [leNat, List.length_cons, e]
    have : x.toNat < 256 := hx
    nlinarith

theorem beNat_lt (b : Bytes) : beNat b < 2 ^ (8 * b.length) := by simpa [beNat] using leNat_lt b.reverse

/-- The slice that follows a string of known length. -/
theorem slice_append (a b c : Bytes) (k n : Nat) (hk : a.length = k) (hn : b.length = n) : slice (a ++ (b ++ c)) k n = b := by
  subst hk hn; simp [slice]

/-- A slice within the first part. -/
theorem slice_left (a b : Bytes) (k n : Nat) (h : k + n ≤ a.length) : slice (a ++ b) k n = slice a k n := by
  unfold slice
  rw [List.drop_append_of_le_length (by omega), List.take_append_of_le_length (by simp; omega)]

theorem be_left (a b : Bytes) (k n : Nat) (h : k + n ≤ a.length) : be (a ++ b) k n = be a k n := by simp [be, slice_left a b k n h]

theorem u8_left (a b : Bytes) (k : Nat) (h : k + 1 ≤ a.length) : u8 (a ++ b) k = u8 a k := by simp [u8, le, slice_left a b k 1 h]

/-- R98: a frame with its own CRC-16 is good and carries its bytes. -/
theorem crcGood_withCrc (b : Bytes) : crcGood (withCrc b) = some b := by
  have e : (withCrc b).take ((withCrc b).length - 2) = b := by simp [withCrc]
  have c : be (withCrc b) b.length 2 = (crc16 b).toNat := by
    have := slice_append b (toBE 2 (crc16 b).toNat) [] b.length 2 rfl (by simp)
    rw [List.append_nil] at this
    rw [withCrc, be, this]
    exact beNat_toBE 2 _ (by simpa using (crc16 b).isLt)
  have l : 2 ≤ (withCrc b).length := by simp [withCrc]
  simp only [crcGood, e, c]
  simp [l]

@[simp] theorem length_withCrc (b : Bytes) : (withCrc b).length = b.length + 2 := by simp [withCrc]

/-- The MAC of a slot has the length it is cut to. -/
theorem length_slotMac (s : State) (d slot tid : Nat) (body : Bytes) (n : Nat) (h : n ≤ 16) : (s.slotMac d slot tid body n).length = n := by
  simp [State.slotMac]; omega

end Sys2Proof.Machine
end

