-- ==== Sys2Proof/Laws/State.lean ====
section
/-! SUPPORT. One lemma per field per register update: an update of a register, a field, a flag, an event, a counter, a reason or an
enable leaves every other part of the state as it stands. -/
namespace Sys2Proof.Machine

open Sys2Proof

@[simp] theorem State.setReg_pending (s : State) (off v : Nat) : (s.setReg off v).pending = s.pending := rfl
@[simp] theorem State.setReg_mt (s : State) (off v : Nat) : (s.setReg off v).mt = s.mt := rfl
@[simp] theorem State.setReg_draws (s : State) (off v : Nat) : (s.setReg off v).draws = s.draws := rfl
@[simp] theorem State.setReg_fuses (s : State) (off v : Nat) : (s.setReg off v).fuses = s.fuses := rfl
@[simp] theorem State.setReg_vault (s : State) (off v : Nat) : (s.setReg off v).vault = s.vault := rfl
@[simp] theorem State.setReg_nand (s : State) (off v : Nat) : (s.setReg off v).nand = s.nand := rfl
@[simp] theorem State.setReg_update (s : State) (off v : Nat) : (s.setReg off v).update = s.update := rfl
@[simp] theorem State.setReg_nor (s : State) (off v : Nat) : (s.setReg off v).nor = s.nor := rfl
@[simp] theorem State.setReg_tag (s : State) (off v : Nat) : (s.setReg off v).tag = s.tag := rfl
@[simp] theorem State.setReg_pilot (s : State) (off v : Nat) : (s.setReg off v).pilot = s.pilot := rfl
@[simp] theorem State.setReg_sys (s : State) (off v : Nat) : (s.setReg off v).sys = s.sys := rfl
@[simp] theorem State.setReg_net (s : State) (off v : Nat) : (s.setReg off v).net = s.net := rfl
@[simp] theorem State.setReg_pwr (s : State) (off v : Nat) : (s.setReg off v).pwr = s.pwr := rfl
@[simp] theorem State.setReg_tim (s : State) (off v : Nat) : (s.setReg off v).tim = s.tim := rfl
@[simp] theorem State.setReg_sto (s : State) (off v : Nat) : (s.setReg off v).sto = s.sto := rfl
@[simp] theorem State.setReg_keys (s : State) (off v : Nat) : (s.setReg off v).keys = s.keys := rfl
@[simp] theorem State.setReg_upd (s : State) (off v : Nat) : (s.setReg off v).upd = s.upd := rfl
@[simp] theorem State.setReg_hif (s : State) (off v : Nat) : (s.setReg off v).hif = s.hif := rfl
@[simp] theorem State.setReg_tok (s : State) (off v : Nat) : (s.setReg off v).tok = s.tok := rfl
@[simp] theorem State.setReg_lf (s : State) (off v : Nat) : (s.setReg off v).lf = s.lf := rfl
@[simp] theorem State.setReg_rf (s : State) (off v : Nat) : (s.setReg off v).rf = s.rf := rfl
@[simp] theorem State.setReg_rng (s : State) (off v : Nat) : (s.setReg off v).rng = s.rng := rfl
@[simp] theorem State.setReg_rel (s : State) (off v : Nat) : (s.setReg off v).rel = s.rel := rfl
@[simp] theorem State.setReg_sym (s : State) (off v : Nat) : (s.setReg off v).sym = s.sym := rfl
@[simp] theorem State.setReg_nfc (s : State) (off v : Nat) : (s.setReg off v).nfc = s.nfc := rfl

@[simp] theorem State.put_pending (s : State) (f : Field) (v : Nat) : (s.put f v).pending = s.pending := rfl
@[simp] theorem State.put_mt (s : State) (f : Field) (v : Nat) : (s.put f v).mt = s.mt := rfl
@[simp] theorem State.put_draws (s : State) (f : Field) (v : Nat) : (s.put f v).draws = s.draws := rfl
@[simp] theorem State.put_fuses (s : State) (f : Field) (v : Nat) : (s.put f v).fuses = s.fuses := rfl
@[simp] theorem State.put_vault (s : State) (f : Field) (v : Nat) : (s.put f v).vault = s.vault := rfl
@[simp] theorem State.put_nand (s : State) (f : Field) (v : Nat) : (s.put f v).nand = s.nand := rfl
@[simp] theorem State.put_update (s : State) (f : Field) (v : Nat) : (s.put f v).update = s.update := rfl
@[simp] theorem State.put_nor (s : State) (f : Field) (v : Nat) : (s.put f v).nor = s.nor := rfl
@[simp] theorem State.put_tag (s : State) (f : Field) (v : Nat) : (s.put f v).tag = s.tag := rfl
@[simp] theorem State.put_pilot (s : State) (f : Field) (v : Nat) : (s.put f v).pilot = s.pilot := rfl
@[simp] theorem State.put_sys (s : State) (f : Field) (v : Nat) : (s.put f v).sys = s.sys := rfl
@[simp] theorem State.put_net (s : State) (f : Field) (v : Nat) : (s.put f v).net = s.net := rfl
@[simp] theorem State.put_pwr (s : State) (f : Field) (v : Nat) : (s.put f v).pwr = s.pwr := rfl
@[simp] theorem State.put_tim (s : State) (f : Field) (v : Nat) : (s.put f v).tim = s.tim := rfl
@[simp] theorem State.put_sto (s : State) (f : Field) (v : Nat) : (s.put f v).sto = s.sto := rfl
@[simp] theorem State.put_keys (s : State) (f : Field) (v : Nat) : (s.put f v).keys = s.keys := rfl
@[simp] theorem State.put_upd (s : State) (f : Field) (v : Nat) : (s.put f v).upd = s.upd := rfl
@[simp] theorem State.put_hif (s : State) (f : Field) (v : Nat) : (s.put f v).hif = s.hif := rfl
@[simp] theorem State.put_tok (s : State) (f : Field) (v : Nat) : (s.put f v).tok = s.tok := rfl
@[simp] theorem State.put_lf (s : State) (f : Field) (v : Nat) : (s.put f v).lf = s.lf := rfl
@[simp] theorem State.put_rf (s : State) (f : Field) (v : Nat) : (s.put f v).rf = s.rf := rfl
@[simp] theorem State.put_rng (s : State) (f : Field) (v : Nat) : (s.put f v).rng = s.rng := rfl
@[simp] theorem State.put_rel (s : State) (f : Field) (v : Nat) : (s.put f v).rel = s.rel := rfl
@[simp] theorem State.put_sym (s : State) (f : Field) (v : Nat) : (s.put f v).sym = s.sym := rfl
@[simp] theorem State.put_nfc (s : State) (f : Field) (v : Nat) : (s.put f v).nfc = s.nfc := rfl

@[simp] theorem State.putFlag_pending (s : State) (f : Field) (b : Bool) : (s.putFlag f b).pending = s.pending := rfl
@[simp] theorem State.putFlag_mt (s : State) (f : Field) (b : Bool) : (s.putFlag f b).mt = s.mt := rfl
@[simp] theorem State.putFlag_draws (s : State) (f : Field) (b : Bool) : (s.putFlag f b).draws = s.draws := rfl
@[simp] theorem State.putFlag_fuses (s : State) (f : Field) (b : Bool) : (s.putFlag f b).fuses = s.fuses := rfl
@[simp] theorem State.putFlag_vault (s : State) (f : Field) (b : Bool) : (s.putFlag f b).vault = s.vault := rfl
@[simp] theorem State.putFlag_nand (s : State) (f : Field) (b : Bool) : (s.putFlag f b).nand = s.nand := rfl
@[simp] theorem State.putFlag_update (s : State) (f : Field) (b : Bool) : (s.putFlag f b).update = s.update := rfl
@[simp] theorem State.putFlag_nor (s : State) (f : Field) (b : Bool) : (s.putFlag f b).nor = s.nor := rfl
@[simp] theorem State.putFlag_tag (s : State) (f : Field) (b : Bool) : (s.putFlag f b).tag = s.tag := rfl
@[simp] theorem State.putFlag_pilot (s : State) (f : Field) (b : Bool) : (s.putFlag f b).pilot = s.pilot := rfl
@[simp] theorem State.putFlag_sys (s : State) (f : Field) (b : Bool) : (s.putFlag f b).sys = s.sys := rfl
@[simp] theorem State.putFlag_net (s : State) (f : Field) (b : Bool) : (s.putFlag f b).net = s.net := rfl
@[simp] theorem State.putFlag_pwr (s : State) (f : Field) (b : Bool) : (s.putFlag f b).pwr = s.pwr := rfl
@[simp] theorem State.putFlag_tim (s : State) (f : Field) (b : Bool) : (s.putFlag f b).tim = s.tim := rfl
@[simp] theorem State.putFlag_sto (s : State) (f : Field) (b : Bool) : (s.putFlag f b).sto = s.sto := rfl
@[simp] theorem State.putFlag_keys (s : State) (f : Field) (b : Bool) : (s.putFlag f b).keys = s.keys := rfl
@[simp] theorem State.putFlag_upd (s : State) (f : Field) (b : Bool) : (s.putFlag f b).upd = s.upd := rfl
@[simp] theorem State.putFlag_hif (s : State) (f : Field) (b : Bool) : (s.putFlag f b).hif = s.hif := rfl
@[simp] theorem State.putFlag_tok (s : State) (f : Field) (b : Bool) : (s.putFlag f b).tok = s.tok := rfl
@[simp] theorem State.putFlag_lf (s : State) (f : Field) (b : Bool) : (s.putFlag f b).lf = s.lf := rfl
@[simp] theorem State.putFlag_rf (s : State) (f : Field) (b : Bool) : (s.putFlag f b).rf = s.rf := rfl
@[simp] theorem State.putFlag_rng (s : State) (f : Field) (b : Bool) : (s.putFlag f b).rng = s.rng := rfl
@[simp] theorem State.putFlag_rel (s : State) (f : Field) (b : Bool) : (s.putFlag f b).rel = s.rel := rfl
@[simp] theorem State.putFlag_sym (s : State) (f : Field) (b : Bool) : (s.putFlag f b).sym = s.sym := rfl
@[simp] theorem State.putFlag_nfc (s : State) (f : Field) (b : Bool) : (s.putFlag f b).nfc = s.nfc := rfl

@[simp] theorem State.event_pending (s : State) (f : Field) : (s.event f).pending = s.pending := rfl
@[simp] theorem State.event_mt (s : State) (f : Field) : (s.event f).mt = s.mt := rfl
@[simp] theorem State.event_draws (s : State) (f : Field) : (s.event f).draws = s.draws := rfl
@[simp] theorem State.event_fuses (s : State) (f : Field) : (s.event f).fuses = s.fuses := rfl
@[simp] theorem State.event_vault (s : State) (f : Field) : (s.event f).vault = s.vault := rfl
@[simp] theorem State.event_nand (s : State) (f : Field) : (s.event f).nand = s.nand := rfl
@[simp] theorem State.event_update (s : State) (f : Field) : (s.event f).update = s.update := rfl
@[simp] theorem State.event_nor (s : State) (f : Field) : (s.event f).nor = s.nor := rfl
@[simp] theorem State.event_tag (s : State) (f : Field) : (s.event f).tag = s.tag := rfl
@[simp] theorem State.event_pilot (s : State) (f : Field) : (s.event f).pilot = s.pilot := rfl
@[simp] theorem State.event_sys (s : State) (f : Field) : (s.event f).sys = s.sys := rfl
@[simp] theorem State.event_net (s : State) (f : Field) : (s.event f).net = s.net := rfl
@[simp] theorem State.event_pwr (s : State) (f : Field) : (s.event f).pwr = s.pwr := rfl
@[simp] theorem State.event_tim (s : State) (f : Field) : (s.event f).tim = s.tim := rfl
@[simp] theorem State.event_sto (s : State) (f : Field) : (s.event f).sto = s.sto := rfl
@[simp] theorem State.event_keys (s : State) (f : Field) : (s.event f).keys = s.keys := rfl
@[simp] theorem State.event_upd (s : State) (f : Field) : (s.event f).upd = s.upd := rfl
@[simp] theorem State.event_hif (s : State) (f : Field) : (s.event f).hif = s.hif := rfl
@[simp] theorem State.event_tok (s : State) (f : Field) : (s.event f).tok = s.tok := rfl
@[simp] theorem State.event_lf (s : State) (f : Field) : (s.event f).lf = s.lf := rfl
@[simp] theorem State.event_rf (s : State) (f : Field) : (s.event f).rf = s.rf := rfl
@[simp] theorem State.event_rng (s : State) (f : Field) : (s.event f).rng = s.rng := rfl
@[simp] theorem State.event_rel (s : State) (f : Field) : (s.event f).rel = s.rel := rfl
@[simp] theorem State.event_sym (s : State) (f : Field) : (s.event f).sym = s.sym := rfl
@[simp] theorem State.event_nfc (s : State) (f : Field) : (s.event f).nfc = s.nfc := rfl

@[simp] theorem State.bumpBy_pending (s : State) (f : Field) (n : Nat) : (s.bumpBy f n).pending = s.pending := rfl
@[simp] theorem State.bumpBy_mt (s : State) (f : Field) (n : Nat) : (s.bumpBy f n).mt = s.mt := rfl
@[simp] theorem State.bumpBy_draws (s : State) (f : Field) (n : Nat) : (s.bumpBy f n).draws = s.draws := rfl
@[simp] theorem State.bumpBy_fuses (s : State) (f : Field) (n : Nat) : (s.bumpBy f n).fuses = s.fuses := rfl
@[simp] theorem State.bumpBy_vault (s : State) (f : Field) (n : Nat) : (s.bumpBy f n).vault = s.vault := rfl
@[simp] theorem State.bumpBy_nand (s : State) (f : Field) (n : Nat) : (s.bumpBy f n).nand = s.nand := rfl
@[simp] theorem State.bumpBy_update (s : State) (f : Field) (n : Nat) : (s.bumpBy f n).update = s.update := rfl
@[simp] theorem State.bumpBy_nor (s : State) (f : Field) (n : Nat) : (s.bumpBy f n).nor = s.nor := rfl
@[simp] theorem State.bumpBy_tag (s : State) (f : Field) (n : Nat) : (s.bumpBy f n).tag = s.tag := rfl
@[simp] theorem State.bumpBy_pilot (s : State) (f : Field) (n : Nat) : (s.bumpBy f n).pilot = s.pilot := rfl
@[simp] theorem State.bumpBy_sys (s : State) (f : Field) (n : Nat) : (s.bumpBy f n).sys = s.sys := rfl
@[simp] theorem State.bumpBy_net (s : State) (f : Field) (n : Nat) : (s.bumpBy f n).net = s.net := rfl
@[simp] theorem State.bumpBy_pwr (s : State) (f : Field) (n : Nat) : (s.bumpBy f n).pwr = s.pwr := rfl
@[simp] theorem State.bumpBy_tim (s : State) (f : Field) (n : Nat) : (s.bumpBy f n).tim = s.tim := rfl
@[simp] theorem State.bumpBy_sto (s : State) (f : Field) (n : Nat) : (s.bumpBy f n).sto = s.sto := rfl
@[simp] theorem State.bumpBy_keys (s : State) (f : Field) (n : Nat) : (s.bumpBy f n).keys = s.keys := rfl
@[simp] theorem State.bumpBy_upd (s : State) (f : Field) (n : Nat) : (s.bumpBy f n).upd = s.upd := rfl
@[simp] theorem State.bumpBy_hif (s : State) (f : Field) (n : Nat) : (s.bumpBy f n).hif = s.hif := rfl
@[simp] theorem State.bumpBy_tok (s : State) (f : Field) (n : Nat) : (s.bumpBy f n).tok = s.tok := rfl
@[simp] theorem State.bumpBy_lf (s : State) (f : Field) (n : Nat) : (s.bumpBy f n).lf = s.lf := rfl
@[simp] theorem State.bumpBy_rf (s : State) (f : Field) (n : Nat) : (s.bumpBy f n).rf = s.rf := rfl
@[simp] theorem State.bumpBy_rng (s : State) (f : Field) (n : Nat) : (s.bumpBy f n).rng = s.rng := rfl
@[simp] theorem State.bumpBy_rel (s : State) (f : Field) (n : Nat) : (s.bumpBy f n).rel = s.rel := rfl
@[simp] theorem State.bumpBy_sym (s : State) (f : Field) (n : Nat) : (s.bumpBy f n).sym = s.sym := rfl
@[simp] theorem State.bumpBy_nfc (s : State) (f : Field) (n : Nat) : (s.bumpBy f n).nfc = s.nfc := rfl

@[simp] theorem State.bump_pending (s : State) (f : Field) : (s.bump f).pending = s.pending := rfl
@[simp] theorem State.bump_mt (s : State) (f : Field) : (s.bump f).mt = s.mt := rfl
@[simp] theorem State.bump_draws (s : State) (f : Field) : (s.bump f).draws = s.draws := rfl
@[simp] theorem State.bump_fuses (s : State) (f : Field) : (s.bump f).fuses = s.fuses := rfl
@[simp] theorem State.bump_vault (s : State) (f : Field) : (s.bump f).vault = s.vault := rfl
@[simp] theorem State.bump_nand (s : State) (f : Field) : (s.bump f).nand = s.nand := rfl
@[simp] theorem State.bump_update (s : State) (f : Field) : (s.bump f).update = s.update := rfl
@[simp] theorem State.bump_nor (s : State) (f : Field) : (s.bump f).nor = s.nor := rfl
@[simp] theorem State.bump_tag (s : State) (f : Field) : (s.bump f).tag = s.tag := rfl
@[simp] theorem State.bump_pilot (s : State) (f : Field) : (s.bump f).pilot = s.pilot := rfl
@[simp] theorem State.bump_sys (s : State) (f : Field) : (s.bump f).sys = s.sys := rfl
@[simp] theorem State.bump_net (s : State) (f : Field) : (s.bump f).net = s.net := rfl
@[simp] theorem State.bump_pwr (s : State) (f : Field) : (s.bump f).pwr = s.pwr := rfl
@[simp] theorem State.bump_tim (s : State) (f : Field) : (s.bump f).tim = s.tim := rfl
@[simp] theorem State.bump_sto (s : State) (f : Field) : (s.bump f).sto = s.sto := rfl
@[simp] theorem State.bump_keys (s : State) (f : Field) : (s.bump f).keys = s.keys := rfl
@[simp] theorem State.bump_upd (s : State) (f : Field) : (s.bump f).upd = s.upd := rfl
@[simp] theorem State.bump_hif (s : State) (f : Field) : (s.bump f).hif = s.hif := rfl
@[simp] theorem State.bump_tok (s : State) (f : Field) : (s.bump f).tok = s.tok := rfl
@[simp] theorem State.bump_lf (s : State) (f : Field) : (s.bump f).lf = s.lf := rfl
@[simp] theorem State.bump_rf (s : State) (f : Field) : (s.bump f).rf = s.rf := rfl
@[simp] theorem State.bump_rng (s : State) (f : Field) : (s.bump f).rng = s.rng := rfl
@[simp] theorem State.bump_rel (s : State) (f : Field) : (s.bump f).rel = s.rel := rfl
@[simp] theorem State.bump_sym (s : State) (f : Field) : (s.bump f).sym = s.sym := rfl
@[simp] theorem State.bump_nfc (s : State) (f : Field) : (s.bump f).nfc = s.nfc := rfl

@[simp] theorem State.reason_pending (s : State) (u : Subsys) (code : Nat) : (s.reason u code).pending = s.pending := rfl
@[simp] theorem State.reason_mt (s : State) (u : Subsys) (code : Nat) : (s.reason u code).mt = s.mt := rfl
@[simp] theorem State.reason_draws (s : State) (u : Subsys) (code : Nat) : (s.reason u code).draws = s.draws := rfl
@[simp] theorem State.reason_fuses (s : State) (u : Subsys) (code : Nat) : (s.reason u code).fuses = s.fuses := rfl
@[simp] theorem State.reason_vault (s : State) (u : Subsys) (code : Nat) : (s.reason u code).vault = s.vault := rfl
@[simp] theorem State.reason_nand (s : State) (u : Subsys) (code : Nat) : (s.reason u code).nand = s.nand := rfl
@[simp] theorem State.reason_update (s : State) (u : Subsys) (code : Nat) : (s.reason u code).update = s.update := rfl
@[simp] theorem State.reason_nor (s : State) (u : Subsys) (code : Nat) : (s.reason u code).nor = s.nor := rfl
@[simp] theorem State.reason_tag (s : State) (u : Subsys) (code : Nat) : (s.reason u code).tag = s.tag := rfl
@[simp] theorem State.reason_pilot (s : State) (u : Subsys) (code : Nat) : (s.reason u code).pilot = s.pilot := rfl
@[simp] theorem State.reason_sys (s : State) (u : Subsys) (code : Nat) : (s.reason u code).sys = s.sys := rfl
@[simp] theorem State.reason_net (s : State) (u : Subsys) (code : Nat) : (s.reason u code).net = s.net := rfl
@[simp] theorem State.reason_pwr (s : State) (u : Subsys) (code : Nat) : (s.reason u code).pwr = s.pwr := rfl
@[simp] theorem State.reason_tim (s : State) (u : Subsys) (code : Nat) : (s.reason u code).tim = s.tim := rfl
@[simp] theorem State.reason_sto (s : State) (u : Subsys) (code : Nat) : (s.reason u code).sto = s.sto := rfl
@[simp] theorem State.reason_keys (s : State) (u : Subsys) (code : Nat) : (s.reason u code).keys = s.keys := rfl
@[simp] theorem State.reason_upd (s : State) (u : Subsys) (code : Nat) : (s.reason u code).upd = s.upd := rfl
@[simp] theorem State.reason_hif (s : State) (u : Subsys) (code : Nat) : (s.reason u code).hif = s.hif := rfl
@[simp] theorem State.reason_tok (s : State) (u : Subsys) (code : Nat) : (s.reason u code).tok = s.tok := rfl
@[simp] theorem State.reason_lf (s : State) (u : Subsys) (code : Nat) : (s.reason u code).lf = s.lf := rfl
@[simp] theorem State.reason_rf (s : State) (u : Subsys) (code : Nat) : (s.reason u code).rf = s.rf := rfl
@[simp] theorem State.reason_rng (s : State) (u : Subsys) (code : Nat) : (s.reason u code).rng = s.rng := rfl
@[simp] theorem State.reason_rel (s : State) (u : Subsys) (code : Nat) : (s.reason u code).rel = s.rel := rfl
@[simp] theorem State.reason_sym (s : State) (u : Subsys) (code : Nat) : (s.reason u code).sym = s.sym := rfl
@[simp] theorem State.reason_nfc (s : State) (u : Subsys) (code : Nat) : (s.reason u code).nfc = s.nfc := rfl

@[simp] theorem State.setEnabled_pending (s : State) (u : Subsys) (b : Bool) : (s.setEnabled u b).pending = s.pending := rfl
@[simp] theorem State.setEnabled_mt (s : State) (u : Subsys) (b : Bool) : (s.setEnabled u b).mt = s.mt := rfl
@[simp] theorem State.setEnabled_draws (s : State) (u : Subsys) (b : Bool) : (s.setEnabled u b).draws = s.draws := rfl
@[simp] theorem State.setEnabled_fuses (s : State) (u : Subsys) (b : Bool) : (s.setEnabled u b).fuses = s.fuses := rfl
@[simp] theorem State.setEnabled_vault (s : State) (u : Subsys) (b : Bool) : (s.setEnabled u b).vault = s.vault := rfl
@[simp] theorem State.setEnabled_nand (s : State) (u : Subsys) (b : Bool) : (s.setEnabled u b).nand = s.nand := rfl
@[simp] theorem State.setEnabled_update (s : State) (u : Subsys) (b : Bool) : (s.setEnabled u b).update = s.update := rfl
@[simp] theorem State.setEnabled_nor (s : State) (u : Subsys) (b : Bool) : (s.setEnabled u b).nor = s.nor := rfl
@[simp] theorem State.setEnabled_tag (s : State) (u : Subsys) (b : Bool) : (s.setEnabled u b).tag = s.tag := rfl
@[simp] theorem State.setEnabled_pilot (s : State) (u : Subsys) (b : Bool) : (s.setEnabled u b).pilot = s.pilot := rfl
@[simp] theorem State.setEnabled_sys (s : State) (u : Subsys) (b : Bool) : (s.setEnabled u b).sys = s.sys := rfl
@[simp] theorem State.setEnabled_net (s : State) (u : Subsys) (b : Bool) : (s.setEnabled u b).net = s.net := rfl
@[simp] theorem State.setEnabled_pwr (s : State) (u : Subsys) (b : Bool) : (s.setEnabled u b).pwr = s.pwr := rfl
@[simp] theorem State.setEnabled_tim (s : State) (u : Subsys) (b : Bool) : (s.setEnabled u b).tim = s.tim := rfl
@[simp] theorem State.setEnabled_sto (s : State) (u : Subsys) (b : Bool) : (s.setEnabled u b).sto = s.sto := rfl
@[simp] theorem State.setEnabled_keys (s : State) (u : Subsys) (b : Bool) : (s.setEnabled u b).keys = s.keys := rfl
@[simp] theorem State.setEnabled_upd (s : State) (u : Subsys) (b : Bool) : (s.setEnabled u b).upd = s.upd := rfl
@[simp] theorem State.setEnabled_hif (s : State) (u : Subsys) (b : Bool) : (s.setEnabled u b).hif = s.hif := rfl
@[simp] theorem State.setEnabled_tok (s : State) (u : Subsys) (b : Bool) : (s.setEnabled u b).tok = s.tok := rfl
@[simp] theorem State.setEnabled_lf (s : State) (u : Subsys) (b : Bool) : (s.setEnabled u b).lf = s.lf := rfl
@[simp] theorem State.setEnabled_rf (s : State) (u : Subsys) (b : Bool) : (s.setEnabled u b).rf = s.rf := rfl
@[simp] theorem State.setEnabled_rng (s : State) (u : Subsys) (b : Bool) : (s.setEnabled u b).rng = s.rng := rfl
@[simp] theorem State.setEnabled_rel (s : State) (u : Subsys) (b : Bool) : (s.setEnabled u b).rel = s.rel := rfl
@[simp] theorem State.setEnabled_sym (s : State) (u : Subsys) (b : Bool) : (s.setEnabled u b).sym = s.sym := rfl
@[simp] theorem State.setEnabled_nfc (s : State) (u : Subsys) (b : Bool) : (s.setEnabled u b).nfc = s.nfc := rfl

@[simp] theorem State.setPhase_pending (s : State) (p : Nat) : (s.setPhase p).pending = s.pending := rfl
@[simp] theorem State.setPhase_mt (s : State) (p : Nat) : (s.setPhase p).mt = s.mt := rfl
@[simp] theorem State.setPhase_draws (s : State) (p : Nat) : (s.setPhase p).draws = s.draws := rfl
@[simp] theorem State.setPhase_fuses (s : State) (p : Nat) : (s.setPhase p).fuses = s.fuses := rfl
@[simp] theorem State.setPhase_vault (s : State) (p : Nat) : (s.setPhase p).vault = s.vault := rfl
@[simp] theorem State.setPhase_nand (s : State) (p : Nat) : (s.setPhase p).nand = s.nand := rfl
@[simp] theorem State.setPhase_update (s : State) (p : Nat) : (s.setPhase p).update = s.update := rfl
@[simp] theorem State.setPhase_nor (s : State) (p : Nat) : (s.setPhase p).nor = s.nor := rfl
@[simp] theorem State.setPhase_tag (s : State) (p : Nat) : (s.setPhase p).tag = s.tag := rfl
@[simp] theorem State.setPhase_pilot (s : State) (p : Nat) : (s.setPhase p).pilot = s.pilot := rfl
@[simp] theorem State.setPhase_sys (s : State) (p : Nat) : (s.setPhase p).sys = s.sys := rfl
@[simp] theorem State.setPhase_net (s : State) (p : Nat) : (s.setPhase p).net = s.net := rfl
@[simp] theorem State.setPhase_pwr (s : State) (p : Nat) : (s.setPhase p).pwr = s.pwr := rfl
@[simp] theorem State.setPhase_tim (s : State) (p : Nat) : (s.setPhase p).tim = s.tim := rfl
@[simp] theorem State.setPhase_sto (s : State) (p : Nat) : (s.setPhase p).sto = s.sto := rfl
@[simp] theorem State.setPhase_keys (s : State) (p : Nat) : (s.setPhase p).keys = s.keys := rfl
@[simp] theorem State.setPhase_upd (s : State) (p : Nat) : (s.setPhase p).upd = s.upd := rfl
@[simp] theorem State.setPhase_hif (s : State) (p : Nat) : (s.setPhase p).hif = s.hif := rfl
@[simp] theorem State.setPhase_tok (s : State) (p : Nat) : (s.setPhase p).tok = s.tok := rfl
@[simp] theorem State.setPhase_lf (s : State) (p : Nat) : (s.setPhase p).lf = s.lf := rfl
@[simp] theorem State.setPhase_rf (s : State) (p : Nat) : (s.setPhase p).rf = s.rf := rfl
@[simp] theorem State.setPhase_rng (s : State) (p : Nat) : (s.setPhase p).rng = s.rng := rfl
@[simp] theorem State.setPhase_rel (s : State) (p : Nat) : (s.setPhase p).rel = s.rel := rfl
@[simp] theorem State.setPhase_sym (s : State) (p : Nat) : (s.setPhase p).sym = s.sym := rfl
@[simp] theorem State.setPhase_nfc (s : State) (p : Nat) : (s.setPhase p).nfc = s.nfc := rfl

@[simp] theorem State.setVote_pending (s : State) (c i : Nat) (b : Bool) : (s.setVote c i b).pending = s.pending := rfl
@[simp] theorem State.setVote_mt (s : State) (c i : Nat) (b : Bool) : (s.setVote c i b).mt = s.mt := rfl
@[simp] theorem State.setVote_draws (s : State) (c i : Nat) (b : Bool) : (s.setVote c i b).draws = s.draws := rfl
@[simp] theorem State.setVote_fuses (s : State) (c i : Nat) (b : Bool) : (s.setVote c i b).fuses = s.fuses := rfl
@[simp] theorem State.setVote_vault (s : State) (c i : Nat) (b : Bool) : (s.setVote c i b).vault = s.vault := rfl
@[simp] theorem State.setVote_nand (s : State) (c i : Nat) (b : Bool) : (s.setVote c i b).nand = s.nand := rfl
@[simp] theorem State.setVote_update (s : State) (c i : Nat) (b : Bool) : (s.setVote c i b).update = s.update := rfl
@[simp] theorem State.setVote_nor (s : State) (c i : Nat) (b : Bool) : (s.setVote c i b).nor = s.nor := rfl
@[simp] theorem State.setVote_tag (s : State) (c i : Nat) (b : Bool) : (s.setVote c i b).tag = s.tag := rfl
@[simp] theorem State.setVote_pilot (s : State) (c i : Nat) (b : Bool) : (s.setVote c i b).pilot = s.pilot := rfl
@[simp] theorem State.setVote_sys (s : State) (c i : Nat) (b : Bool) : (s.setVote c i b).sys = s.sys := rfl
@[simp] theorem State.setVote_net (s : State) (c i : Nat) (b : Bool) : (s.setVote c i b).net = s.net := rfl
@[simp] theorem State.setVote_pwr (s : State) (c i : Nat) (b : Bool) : (s.setVote c i b).pwr = s.pwr := rfl
@[simp] theorem State.setVote_tim (s : State) (c i : Nat) (b : Bool) : (s.setVote c i b).tim = s.tim := rfl
@[simp] theorem State.setVote_sto (s : State) (c i : Nat) (b : Bool) : (s.setVote c i b).sto = s.sto := rfl
@[simp] theorem State.setVote_keys (s : State) (c i : Nat) (b : Bool) : (s.setVote c i b).keys = s.keys := rfl
@[simp] theorem State.setVote_upd (s : State) (c i : Nat) (b : Bool) : (s.setVote c i b).upd = s.upd := rfl
@[simp] theorem State.setVote_hif (s : State) (c i : Nat) (b : Bool) : (s.setVote c i b).hif = s.hif := rfl
@[simp] theorem State.setVote_tok (s : State) (c i : Nat) (b : Bool) : (s.setVote c i b).tok = s.tok := rfl
@[simp] theorem State.setVote_lf (s : State) (c i : Nat) (b : Bool) : (s.setVote c i b).lf = s.lf := rfl
@[simp] theorem State.setVote_rf (s : State) (c i : Nat) (b : Bool) : (s.setVote c i b).rf = s.rf := rfl
@[simp] theorem State.setVote_rng (s : State) (c i : Nat) (b : Bool) : (s.setVote c i b).rng = s.rng := rfl
@[simp] theorem State.setVote_rel (s : State) (c i : Nat) (b : Bool) : (s.setVote c i b).rel = s.rel := rfl
@[simp] theorem State.setVote_sym (s : State) (c i : Nat) (b : Bool) : (s.setVote c i b).sym = s.sym := rfl
@[simp] theorem State.setVote_nfc (s : State) (c i : Nat) (b : Bool) : (s.setVote c i b).nfc = s.nfc := rfl

@[simp] theorem State.redLoss_pending (s : State) (g : Nat) : (s.redLoss g).pending = s.pending := rfl
@[simp] theorem State.redLoss_mt (s : State) (g : Nat) : (s.redLoss g).mt = s.mt := rfl
@[simp] theorem State.redLoss_draws (s : State) (g : Nat) : (s.redLoss g).draws = s.draws := rfl
@[simp] theorem State.redLoss_fuses (s : State) (g : Nat) : (s.redLoss g).fuses = s.fuses := rfl
@[simp] theorem State.redLoss_vault (s : State) (g : Nat) : (s.redLoss g).vault = s.vault := rfl
@[simp] theorem State.redLoss_nand (s : State) (g : Nat) : (s.redLoss g).nand = s.nand := rfl
@[simp] theorem State.redLoss_update (s : State) (g : Nat) : (s.redLoss g).update = s.update := rfl
@[simp] theorem State.redLoss_nor (s : State) (g : Nat) : (s.redLoss g).nor = s.nor := rfl
@[simp] theorem State.redLoss_tag (s : State) (g : Nat) : (s.redLoss g).tag = s.tag := rfl
@[simp] theorem State.redLoss_pilot (s : State) (g : Nat) : (s.redLoss g).pilot = s.pilot := rfl
@[simp] theorem State.redLoss_sys (s : State) (g : Nat) : (s.redLoss g).sys = s.sys := rfl
@[simp] theorem State.redLoss_net (s : State) (g : Nat) : (s.redLoss g).net = s.net := rfl
@[simp] theorem State.redLoss_pwr (s : State) (g : Nat) : (s.redLoss g).pwr = s.pwr := rfl
@[simp] theorem State.redLoss_tim (s : State) (g : Nat) : (s.redLoss g).tim = s.tim := rfl
@[simp] theorem State.redLoss_sto (s : State) (g : Nat) : (s.redLoss g).sto = s.sto := rfl
@[simp] theorem State.redLoss_keys (s : State) (g : Nat) : (s.redLoss g).keys = s.keys := rfl
@[simp] theorem State.redLoss_upd (s : State) (g : Nat) : (s.redLoss g).upd = s.upd := rfl
@[simp] theorem State.redLoss_hif (s : State) (g : Nat) : (s.redLoss g).hif = s.hif := rfl
@[simp] theorem State.redLoss_tok (s : State) (g : Nat) : (s.redLoss g).tok = s.tok := rfl
@[simp] theorem State.redLoss_lf (s : State) (g : Nat) : (s.redLoss g).lf = s.lf := rfl
@[simp] theorem State.redLoss_rf (s : State) (g : Nat) : (s.redLoss g).rf = s.rf := rfl
@[simp] theorem State.redLoss_rng (s : State) (g : Nat) : (s.redLoss g).rng = s.rng := rfl
@[simp] theorem State.redLoss_rel (s : State) (g : Nat) : (s.redLoss g).rel = s.rel := rfl
@[simp] theorem State.redLoss_sym (s : State) (g : Nat) : (s.redLoss g).sym = s.sym := rfl
@[simp] theorem State.redLoss_nfc (s : State) (g : Nat) : (s.redLoss g).nfc = s.nfc := rfl

@[simp] theorem State.redClear_pending (s : State) (g : Nat) : (s.redClear g).pending = s.pending := rfl
@[simp] theorem State.redClear_mt (s : State) (g : Nat) : (s.redClear g).mt = s.mt := rfl
@[simp] theorem State.redClear_draws (s : State) (g : Nat) : (s.redClear g).draws = s.draws := rfl
@[simp] theorem State.redClear_fuses (s : State) (g : Nat) : (s.redClear g).fuses = s.fuses := rfl
@[simp] theorem State.redClear_vault (s : State) (g : Nat) : (s.redClear g).vault = s.vault := rfl
@[simp] theorem State.redClear_nand (s : State) (g : Nat) : (s.redClear g).nand = s.nand := rfl
@[simp] theorem State.redClear_update (s : State) (g : Nat) : (s.redClear g).update = s.update := rfl
@[simp] theorem State.redClear_nor (s : State) (g : Nat) : (s.redClear g).nor = s.nor := rfl
@[simp] theorem State.redClear_tag (s : State) (g : Nat) : (s.redClear g).tag = s.tag := rfl
@[simp] theorem State.redClear_pilot (s : State) (g : Nat) : (s.redClear g).pilot = s.pilot := rfl
@[simp] theorem State.redClear_sys (s : State) (g : Nat) : (s.redClear g).sys = s.sys := rfl
@[simp] theorem State.redClear_net (s : State) (g : Nat) : (s.redClear g).net = s.net := rfl
@[simp] theorem State.redClear_pwr (s : State) (g : Nat) : (s.redClear g).pwr = s.pwr := rfl
@[simp] theorem State.redClear_tim (s : State) (g : Nat) : (s.redClear g).tim = s.tim := rfl
@[simp] theorem State.redClear_sto (s : State) (g : Nat) : (s.redClear g).sto = s.sto := rfl
@[simp] theorem State.redClear_keys (s : State) (g : Nat) : (s.redClear g).keys = s.keys := rfl
@[simp] theorem State.redClear_upd (s : State) (g : Nat) : (s.redClear g).upd = s.upd := rfl
@[simp] theorem State.redClear_hif (s : State) (g : Nat) : (s.redClear g).hif = s.hif := rfl
@[simp] theorem State.redClear_tok (s : State) (g : Nat) : (s.redClear g).tok = s.tok := rfl
@[simp] theorem State.redClear_lf (s : State) (g : Nat) : (s.redClear g).lf = s.lf := rfl
@[simp] theorem State.redClear_rf (s : State) (g : Nat) : (s.redClear g).rf = s.rf := rfl
@[simp] theorem State.redClear_rng (s : State) (g : Nat) : (s.redClear g).rng = s.rng := rfl
@[simp] theorem State.redClear_rel (s : State) (g : Nat) : (s.redClear g).rel = s.rel := rfl
@[simp] theorem State.redClear_sym (s : State) (g : Nat) : (s.redClear g).sym = s.sym := rfl
@[simp] theorem State.redClear_nfc (s : State) (g : Nat) : (s.redClear g).nfc = s.nfc := rfl

@[simp] theorem State.program_pending (s : State) (region d n : Nat) : (s.program region d n).pending = s.pending := by rfl
@[simp] theorem State.program_mt (s : State) (region d n : Nat) : (s.program region d n).mt = s.mt := by rfl
@[simp] theorem State.program_draws (s : State) (region d n : Nat) : (s.program region d n).draws = s.draws := by rfl
@[simp] theorem State.program_regs (s : State) (region d n : Nat) : (s.program region d n).regs = s.regs := by rfl
@[simp] theorem State.program_fuses (s : State) (region d n : Nat) : (s.program region d n).fuses = s.fuses := by rfl
@[simp] theorem State.program_update (s : State) (region d n : Nat) : (s.program region d n).update = s.update := by rfl
@[simp] theorem State.program_nor (s : State) (region d n : Nat) : (s.program region d n).nor = s.nor := by rfl
@[simp] theorem State.program_tag (s : State) (region d n : Nat) : (s.program region d n).tag = s.tag := by rfl
@[simp] theorem State.program_pilot (s : State) (region d n : Nat) : (s.program region d n).pilot = s.pilot := by rfl
@[simp] theorem State.program_sys (s : State) (region d n : Nat) : (s.program region d n).sys = s.sys := by rfl
@[simp] theorem State.program_net (s : State) (region d n : Nat) : (s.program region d n).net = s.net := by rfl
@[simp] theorem State.program_pwr (s : State) (region d n : Nat) : (s.program region d n).pwr = s.pwr := by rfl
@[simp] theorem State.program_tim (s : State) (region d n : Nat) : (s.program region d n).tim = s.tim := by rfl
@[simp] theorem State.program_sto (s : State) (region d n : Nat) : (s.program region d n).sto = s.sto := by rfl
@[simp] theorem State.program_keys (s : State) (region d n : Nat) : (s.program region d n).keys = s.keys := by rfl
@[simp] theorem State.program_upd (s : State) (region d n : Nat) : (s.program region d n).upd = s.upd := by rfl
@[simp] theorem State.program_hif (s : State) (region d n : Nat) : (s.program region d n).hif = s.hif := by rfl
@[simp] theorem State.program_tok (s : State) (region d n : Nat) : (s.program region d n).tok = s.tok := by rfl
@[simp] theorem State.program_lf (s : State) (region d n : Nat) : (s.program region d n).lf = s.lf := by rfl
@[simp] theorem State.program_rf (s : State) (region d n : Nat) : (s.program region d n).rf = s.rf := by rfl
@[simp] theorem State.program_rng (s : State) (region d n : Nat) : (s.program region d n).rng = s.rng := by rfl
@[simp] theorem State.program_rel (s : State) (region d n : Nat) : (s.program region d n).rel = s.rel := by rfl
@[simp] theorem State.program_sym (s : State) (region d n : Nat) : (s.program region d n).sym = s.sym := by rfl
@[simp] theorem State.program_nfc (s : State) (region d n : Nat) : (s.program region d n).nfc = s.nfc := by rfl
@[simp] theorem State.touch_pending (s : State) : s.touch.pending = s.pending := rfl
@[simp] theorem State.touch_mt (s : State) : s.touch.mt = s.mt := rfl
@[simp] theorem State.touch_draws (s : State) : s.touch.draws = s.draws := rfl
@[simp] theorem State.touch_regs (s : State) : s.touch.regs = s.regs := rfl
@[simp] theorem State.touch_fuses (s : State) : s.touch.fuses = s.fuses := rfl
@[simp] theorem State.touch_vault (s : State) : s.touch.vault = s.vault := rfl
@[simp] theorem State.touch_nand (s : State) : s.touch.nand = s.nand := rfl
@[simp] theorem State.touch_update (s : State) : s.touch.update = s.update := rfl
@[simp] theorem State.touch_nor (s : State) : s.touch.nor = s.nor := rfl
@[simp] theorem State.touch_tag (s : State) : s.touch.tag = s.tag := rfl
@[simp] theorem State.touch_pilot (s : State) : s.touch.pilot = s.pilot := rfl
@[simp] theorem State.touch_sys (s : State) : s.touch.sys = s.sys := rfl
@[simp] theorem State.touch_net (s : State) : s.touch.net = s.net := rfl
@[simp] theorem State.touch_tim (s : State) : s.touch.tim = s.tim := rfl
@[simp] theorem State.touch_sto (s : State) : s.touch.sto = s.sto := rfl
@[simp] theorem State.touch_keys (s : State) : s.touch.keys = s.keys := rfl
@[simp] theorem State.touch_upd (s : State) : s.touch.upd = s.upd := rfl
@[simp] theorem State.touch_hif (s : State) : s.touch.hif = s.hif := rfl
@[simp] theorem State.touch_tok (s : State) : s.touch.tok = s.tok := rfl
@[simp] theorem State.touch_lf (s : State) : s.touch.lf = s.lf := rfl
@[simp] theorem State.touch_rf (s : State) : s.touch.rf = s.rf := rfl
@[simp] theorem State.touch_rng (s : State) : s.touch.rng = s.rng := rfl
@[simp] theorem State.touch_rel (s : State) : s.touch.rel = s.rel := rfl
@[simp] theorem State.touch_sym (s : State) : s.touch.sym = s.sym := rfl
@[simp] theorem State.touch_nfc (s : State) : s.touch.nfc = s.nfc := rfl
@[simp] theorem State.commitPoint_pending (s : State) : s.commitPoint.pending = s.pending := rfl
@[simp] theorem State.commitPoint_mt (s : State) : s.commitPoint.mt = s.mt := rfl
@[simp] theorem State.commitPoint_draws (s : State) : s.commitPoint.draws = s.draws := rfl
@[simp] theorem State.commitPoint_regs (s : State) : s.commitPoint.regs = s.regs := rfl
@[simp] theorem State.commitPoint_fuses (s : State) : s.commitPoint.fuses = s.fuses := rfl
@[simp] theorem State.commitPoint_vault (s : State) : s.commitPoint.vault = s.vault := rfl
@[simp] theorem State.commitPoint_nand (s : State) : s.commitPoint.nand = s.nand := rfl
@[simp] theorem State.commitPoint_update (s : State) : s.commitPoint.update = s.update := rfl
@[simp] theorem State.commitPoint_nor (s : State) : s.commitPoint.nor = s.nor := rfl
@[simp] theorem State.commitPoint_tag (s : State) : s.commitPoint.tag = s.tag := rfl
@[simp] theorem State.commitPoint_pilot (s : State) : s.commitPoint.pilot = s.pilot := rfl
@[simp] theorem State.commitPoint_sys (s : State) : s.commitPoint.sys = s.sys := rfl
@[simp] theorem State.commitPoint_pwr (s : State) : s.commitPoint.pwr = s.pwr := rfl
@[simp] theorem State.commitPoint_tim (s : State) : s.commitPoint.tim = s.tim := rfl
@[simp] theorem State.commitPoint_sto (s : State) : s.commitPoint.sto = s.sto := rfl
@[simp] theorem State.commitPoint_keys (s : State) : s.commitPoint.keys = s.keys := rfl
@[simp] theorem State.commitPoint_upd (s : State) : s.commitPoint.upd = s.upd := rfl
@[simp] theorem State.commitPoint_hif (s : State) : s.commitPoint.hif = s.hif := rfl
@[simp] theorem State.commitPoint_tok (s : State) : s.commitPoint.tok = s.tok := rfl
@[simp] theorem State.commitPoint_lf (s : State) : s.commitPoint.lf = s.lf := rfl
@[simp] theorem State.commitPoint_rf (s : State) : s.commitPoint.rf = s.rf := rfl
@[simp] theorem State.commitPoint_rng (s : State) : s.commitPoint.rng = s.rng := rfl
@[simp] theorem State.commitPoint_rel (s : State) : s.commitPoint.rel = s.rel := rfl
@[simp] theorem State.commitPoint_sym (s : State) : s.commitPoint.sym = s.sym := rfl
@[simp] theorem State.commitPoint_nfc (s : State) : s.commitPoint.nfc = s.nfc := rfl

end Sys2Proof.Machine
end

