-- ==== Sys2Proof/Laws/Frames.lean ====
section
/-! SUPPORT. What the shared operations leave unchanged, field by field, so that no later proof unfolds them: the status copy and the tail
mirror, the journal, READY and the down map, the mailbox's answers, votes and islands. -/
namespace Sys2Proof.Machine

open Sys2Proof

@[simp] theorem State.statusCopy_pending (s : State) : s.statusCopy.pending = s.pending := by
  unfold State.statusCopy; try dsimp only
  (repeat' split) <;> simp [State.tagPut]
@[simp] theorem State.statusCopy_mt (s : State) : s.statusCopy.mt = s.mt := by
  unfold State.statusCopy; try dsimp only
  (repeat' split) <;> simp [State.tagPut]
@[simp] theorem State.statusCopy_draws (s : State) : s.statusCopy.draws = s.draws := by
  unfold State.statusCopy; try dsimp only
  (repeat' split) <;> simp [State.tagPut]
@[simp] theorem State.statusCopy_regs (s : State) : s.statusCopy.regs = s.regs := by
  unfold State.statusCopy; try dsimp only
  (repeat' split) <;> simp [State.tagPut]
@[simp] theorem State.statusCopy_fuses (s : State) : s.statusCopy.fuses = s.fuses := by
  unfold State.statusCopy; try dsimp only
  (repeat' split) <;> simp [State.tagPut]
@[simp] theorem State.statusCopy_vault (s : State) : s.statusCopy.vault = s.vault := by
  unfold State.statusCopy; try dsimp only
  (repeat' split) <;> simp [State.tagPut]
@[simp] theorem State.statusCopy_nand (s : State) : s.statusCopy.nand = s.nand := by
  unfold State.statusCopy; try dsimp only
  (repeat' split) <;> simp [State.tagPut]
@[simp] theorem State.statusCopy_update (s : State) : s.statusCopy.update = s.update := by
  unfold State.statusCopy; try dsimp only
  (repeat' split) <;> simp [State.tagPut]
@[simp] theorem State.statusCopy_nor (s : State) : s.statusCopy.nor = s.nor := by
  unfold State.statusCopy; try dsimp only
  (repeat' split) <;> simp [State.tagPut]
@[simp] theorem State.statusCopy_pilot (s : State) : s.statusCopy.pilot = s.pilot := by
  unfold State.statusCopy; try dsimp only
  (repeat' split) <;> simp [State.tagPut]
@[simp] theorem State.statusCopy_sys (s : State) : s.statusCopy.sys = s.sys := by
  unfold State.statusCopy; try dsimp only
  (repeat' split) <;> simp [State.tagPut]
@[simp] theorem State.statusCopy_net (s : State) : s.statusCopy.net = s.net := by
  unfold State.statusCopy; try dsimp only
  (repeat' split) <;> simp [State.tagPut]
@[simp] theorem State.statusCopy_pwr (s : State) : s.statusCopy.pwr = s.pwr := by
  unfold State.statusCopy; try dsimp only
  (repeat' split) <;> simp [State.tagPut]
@[simp] theorem State.statusCopy_tim (s : State) : s.statusCopy.tim = s.tim := by
  unfold State.statusCopy; try dsimp only
  (repeat' split) <;> simp [State.tagPut]
@[simp] theorem State.statusCopy_sto (s : State) : s.statusCopy.sto = s.sto := by
  unfold State.statusCopy; try dsimp only
  (repeat' split) <;> simp [State.tagPut]
@[simp] theorem State.statusCopy_keys (s : State) : s.statusCopy.keys = s.keys := by
  unfold State.statusCopy; try dsimp only
  (repeat' split) <;> simp [State.tagPut]
@[simp] theorem State.statusCopy_upd (s : State) : s.statusCopy.upd = s.upd := by
  unfold State.statusCopy; try dsimp only
  (repeat' split) <;> simp [State.tagPut]
@[simp] theorem State.statusCopy_hif (s : State) : s.statusCopy.hif = s.hif := by
  unfold State.statusCopy; try dsimp only
  (repeat' split) <;> simp [State.tagPut]
@[simp] theorem State.statusCopy_tok (s : State) : s.statusCopy.tok = s.tok := by
  unfold State.statusCopy; try dsimp only
  (repeat' split) <;> simp [State.tagPut]
@[simp] theorem State.statusCopy_lf (s : State) : s.statusCopy.lf = s.lf := by
  unfold State.statusCopy; try dsimp only
  (repeat' split) <;> simp [State.tagPut]
@[simp] theorem State.statusCopy_rf (s : State) : s.statusCopy.rf = s.rf := by
  unfold State.statusCopy; try dsimp only
  (repeat' split) <;> simp [State.tagPut]
@[simp] theorem State.statusCopy_rng (s : State) : s.statusCopy.rng = s.rng := by
  unfold State.statusCopy; try dsimp only
  (repeat' split) <;> simp [State.tagPut]
@[simp] theorem State.statusCopy_rel (s : State) : s.statusCopy.rel = s.rel := by
  unfold State.statusCopy; try dsimp only
  (repeat' split) <;> simp [State.tagPut]
@[simp] theorem State.statusCopy_sym (s : State) : s.statusCopy.sym = s.sym := by
  unfold State.statusCopy; try dsimp only
  (repeat' split) <;> simp [State.tagPut]
@[simp] theorem State.statusCopy_nfc (s : State) : s.statusCopy.nfc = s.nfc := by
  unfold State.statusCopy; try dsimp only
  (repeat' split) <;> simp [State.tagPut]

@[simp] theorem State.tailPut_pending (s : State) (seq : Nat) (e : Bytes) : (s.tailPut seq e).pending = s.pending := by
  unfold State.tailPut; try dsimp only
  (repeat' split) <;> simp [State.tagPut]
@[simp] theorem State.tailPut_mt (s : State) (seq : Nat) (e : Bytes) : (s.tailPut seq e).mt = s.mt := by
  unfold State.tailPut; try dsimp only
  (repeat' split) <;> simp [State.tagPut]
@[simp] theorem State.tailPut_draws (s : State) (seq : Nat) (e : Bytes) : (s.tailPut seq e).draws = s.draws := by
  unfold State.tailPut; try dsimp only
  (repeat' split) <;> simp [State.tagPut]
@[simp] theorem State.tailPut_fuses (s : State) (seq : Nat) (e : Bytes) : (s.tailPut seq e).fuses = s.fuses := by
  unfold State.tailPut; try dsimp only
  (repeat' split) <;> simp [State.tagPut]
@[simp] theorem State.tailPut_vault (s : State) (seq : Nat) (e : Bytes) : (s.tailPut seq e).vault = s.vault := by
  unfold State.tailPut; try dsimp only
  (repeat' split) <;> simp [State.tagPut]
@[simp] theorem State.tailPut_nand (s : State) (seq : Nat) (e : Bytes) : (s.tailPut seq e).nand = s.nand := by
  unfold State.tailPut; try dsimp only
  (repeat' split) <;> simp [State.tagPut]
@[simp] theorem State.tailPut_update (s : State) (seq : Nat) (e : Bytes) : (s.tailPut seq e).update = s.update := by
  unfold State.tailPut; try dsimp only
  (repeat' split) <;> simp [State.tagPut]
@[simp] theorem State.tailPut_nor (s : State) (seq : Nat) (e : Bytes) : (s.tailPut seq e).nor = s.nor := by
  unfold State.tailPut; try dsimp only
  (repeat' split) <;> simp [State.tagPut]
@[simp] theorem State.tailPut_pilot (s : State) (seq : Nat) (e : Bytes) : (s.tailPut seq e).pilot = s.pilot := by
  unfold State.tailPut; try dsimp only
  (repeat' split) <;> simp [State.tagPut]
@[simp] theorem State.tailPut_sys (s : State) (seq : Nat) (e : Bytes) : (s.tailPut seq e).sys = s.sys := by
  unfold State.tailPut; try dsimp only
  (repeat' split) <;> simp [State.tagPut]
@[simp] theorem State.tailPut_net (s : State) (seq : Nat) (e : Bytes) : (s.tailPut seq e).net = s.net := by
  unfold State.tailPut; try dsimp only
  (repeat' split) <;> simp [State.tagPut]
@[simp] theorem State.tailPut_pwr (s : State) (seq : Nat) (e : Bytes) : (s.tailPut seq e).pwr = s.pwr := by
  unfold State.tailPut; try dsimp only
  (repeat' split) <;> simp [State.tagPut]
@[simp] theorem State.tailPut_tim (s : State) (seq : Nat) (e : Bytes) : (s.tailPut seq e).tim = s.tim := by
  unfold State.tailPut; try dsimp only
  (repeat' split) <;> simp [State.tagPut]
@[simp] theorem State.tailPut_sto (s : State) (seq : Nat) (e : Bytes) : (s.tailPut seq e).sto = s.sto := by
  unfold State.tailPut; try dsimp only
  (repeat' split) <;> simp [State.tagPut]
@[simp] theorem State.tailPut_keys (s : State) (seq : Nat) (e : Bytes) : (s.tailPut seq e).keys = s.keys := by
  unfold State.tailPut; try dsimp only
  (repeat' split) <;> simp [State.tagPut]
@[simp] theorem State.tailPut_upd (s : State) (seq : Nat) (e : Bytes) : (s.tailPut seq e).upd = s.upd := by
  unfold State.tailPut; try dsimp only
  (repeat' split) <;> simp [State.tagPut]
@[simp] theorem State.tailPut_hif (s : State) (seq : Nat) (e : Bytes) : (s.tailPut seq e).hif = s.hif := by
  unfold State.tailPut; try dsimp only
  (repeat' split) <;> simp [State.tagPut]
@[simp] theorem State.tailPut_tok (s : State) (seq : Nat) (e : Bytes) : (s.tailPut seq e).tok = s.tok := by
  unfold State.tailPut; try dsimp only
  (repeat' split) <;> simp [State.tagPut]
@[simp] theorem State.tailPut_lf (s : State) (seq : Nat) (e : Bytes) : (s.tailPut seq e).lf = s.lf := by
  unfold State.tailPut; try dsimp only
  (repeat' split) <;> simp [State.tagPut]
@[simp] theorem State.tailPut_rf (s : State) (seq : Nat) (e : Bytes) : (s.tailPut seq e).rf = s.rf := by
  unfold State.tailPut; try dsimp only
  (repeat' split) <;> simp [State.tagPut]
@[simp] theorem State.tailPut_rng (s : State) (seq : Nat) (e : Bytes) : (s.tailPut seq e).rng = s.rng := by
  unfold State.tailPut; try dsimp only
  (repeat' split) <;> simp [State.tagPut]
@[simp] theorem State.tailPut_rel (s : State) (seq : Nat) (e : Bytes) : (s.tailPut seq e).rel = s.rel := by
  unfold State.tailPut; try dsimp only
  (repeat' split) <;> simp [State.tagPut]
@[simp] theorem State.tailPut_sym (s : State) (seq : Nat) (e : Bytes) : (s.tailPut seq e).sym = s.sym := by
  unfold State.tailPut; try dsimp only
  (repeat' split) <;> simp [State.tagPut]
@[simp] theorem State.tailPut_nfc (s : State) (seq : Nat) (e : Bytes) : (s.tailPut seq e).nfc = s.nfc := by
  unfold State.tailPut; try dsimp only
  (repeat' split) <;> simp [State.tagPut]

@[simp] theorem State.tailMirror_pending (s : State) (seq : Nat) (e : Bytes) : (s.tailMirror seq e).pending = s.pending := by
  unfold State.tailMirror; try dsimp only
  (repeat' split) <;> simp
@[simp] theorem State.tailMirror_mt (s : State) (seq : Nat) (e : Bytes) : (s.tailMirror seq e).mt = s.mt := by
  unfold State.tailMirror; try dsimp only
  (repeat' split) <;> simp
@[simp] theorem State.tailMirror_draws (s : State) (seq : Nat) (e : Bytes) : (s.tailMirror seq e).draws = s.draws := by
  unfold State.tailMirror; try dsimp only
  (repeat' split) <;> simp
@[simp] theorem State.tailMirror_fuses (s : State) (seq : Nat) (e : Bytes) : (s.tailMirror seq e).fuses = s.fuses := by
  unfold State.tailMirror; try dsimp only
  (repeat' split) <;> simp
@[simp] theorem State.tailMirror_vault (s : State) (seq : Nat) (e : Bytes) : (s.tailMirror seq e).vault = s.vault := by
  unfold State.tailMirror; try dsimp only
  (repeat' split) <;> simp
@[simp] theorem State.tailMirror_nand (s : State) (seq : Nat) (e : Bytes) : (s.tailMirror seq e).nand = s.nand := by
  unfold State.tailMirror; try dsimp only
  (repeat' split) <;> simp
@[simp] theorem State.tailMirror_update (s : State) (seq : Nat) (e : Bytes) : (s.tailMirror seq e).update = s.update := by
  unfold State.tailMirror; try dsimp only
  (repeat' split) <;> simp
@[simp] theorem State.tailMirror_nor (s : State) (seq : Nat) (e : Bytes) : (s.tailMirror seq e).nor = s.nor := by
  unfold State.tailMirror; try dsimp only
  (repeat' split) <;> simp
@[simp] theorem State.tailMirror_pilot (s : State) (seq : Nat) (e : Bytes) : (s.tailMirror seq e).pilot = s.pilot := by
  unfold State.tailMirror; try dsimp only
  (repeat' split) <;> simp
@[simp] theorem State.tailMirror_sys (s : State) (seq : Nat) (e : Bytes) : (s.tailMirror seq e).sys = s.sys := by
  unfold State.tailMirror; try dsimp only
  (repeat' split) <;> simp
@[simp] theorem State.tailMirror_net (s : State) (seq : Nat) (e : Bytes) : (s.tailMirror seq e).net = s.net := by
  unfold State.tailMirror; try dsimp only
  (repeat' split) <;> simp
@[simp] theorem State.tailMirror_pwr (s : State) (seq : Nat) (e : Bytes) : (s.tailMirror seq e).pwr = s.pwr := by
  unfold State.tailMirror; try dsimp only
  (repeat' split) <;> simp
@[simp] theorem State.tailMirror_tim (s : State) (seq : Nat) (e : Bytes) : (s.tailMirror seq e).tim = s.tim := by
  unfold State.tailMirror; try dsimp only
  (repeat' split) <;> simp
@[simp] theorem State.tailMirror_sto (s : State) (seq : Nat) (e : Bytes) : (s.tailMirror seq e).sto = s.sto := by
  unfold State.tailMirror; try dsimp only
  (repeat' split) <;> simp
@[simp] theorem State.tailMirror_keys (s : State) (seq : Nat) (e : Bytes) : (s.tailMirror seq e).keys = s.keys := by
  unfold State.tailMirror; try dsimp only
  (repeat' split) <;> simp
@[simp] theorem State.tailMirror_upd (s : State) (seq : Nat) (e : Bytes) : (s.tailMirror seq e).upd = s.upd := by
  unfold State.tailMirror; try dsimp only
  (repeat' split) <;> simp
@[simp] theorem State.tailMirror_hif (s : State) (seq : Nat) (e : Bytes) : (s.tailMirror seq e).hif = s.hif := by
  unfold State.tailMirror; try dsimp only
  (repeat' split) <;> simp
@[simp] theorem State.tailMirror_tok (s : State) (seq : Nat) (e : Bytes) : (s.tailMirror seq e).tok = s.tok := by
  unfold State.tailMirror; try dsimp only
  (repeat' split) <;> simp
@[simp] theorem State.tailMirror_lf (s : State) (seq : Nat) (e : Bytes) : (s.tailMirror seq e).lf = s.lf := by
  unfold State.tailMirror; try dsimp only
  (repeat' split) <;> simp
@[simp] theorem State.tailMirror_rf (s : State) (seq : Nat) (e : Bytes) : (s.tailMirror seq e).rf = s.rf := by
  unfold State.tailMirror; try dsimp only
  (repeat' split) <;> simp
@[simp] theorem State.tailMirror_rng (s : State) (seq : Nat) (e : Bytes) : (s.tailMirror seq e).rng = s.rng := by
  unfold State.tailMirror; try dsimp only
  (repeat' split) <;> simp
@[simp] theorem State.tailMirror_rel (s : State) (seq : Nat) (e : Bytes) : (s.tailMirror seq e).rel = s.rel := by
  unfold State.tailMirror; try dsimp only
  (repeat' split) <;> simp
@[simp] theorem State.tailMirror_sym (s : State) (seq : Nat) (e : Bytes) : (s.tailMirror seq e).sym = s.sym := by
  unfold State.tailMirror; try dsimp only
  (repeat' split) <;> simp
@[simp] theorem State.tailMirror_nfc (s : State) (seq : Nat) (e : Bytes) : (s.tailMirror seq e).nfc = s.nfc := by
  unfold State.tailMirror; try dsimp only
  (repeat' split) <;> simp

@[simp] theorem State.dropIntervals_pending (s : State) : s.dropIntervals.pending = s.pending := by
  unfold State.dropIntervals; try dsimp only
  (repeat' split) <;> simp
@[simp] theorem State.dropIntervals_mt (s : State) : s.dropIntervals.mt = s.mt := by
  unfold State.dropIntervals; try dsimp only
  (repeat' split) <;> simp
@[simp] theorem State.dropIntervals_draws (s : State) : s.dropIntervals.draws = s.draws := by
  unfold State.dropIntervals; try dsimp only
  (repeat' split) <;> simp
@[simp] theorem State.dropIntervals_regs (s : State) : s.dropIntervals.regs = s.regs := by
  unfold State.dropIntervals; try dsimp only
  (repeat' split) <;> simp
@[simp] theorem State.dropIntervals_fuses (s : State) : s.dropIntervals.fuses = s.fuses := by
  unfold State.dropIntervals; try dsimp only
  (repeat' split) <;> simp
@[simp] theorem State.dropIntervals_vault (s : State) : s.dropIntervals.vault = s.vault := by
  unfold State.dropIntervals; try dsimp only
  (repeat' split) <;> simp
@[simp] theorem State.dropIntervals_update (s : State) : s.dropIntervals.update = s.update := by
  unfold State.dropIntervals; try dsimp only
  (repeat' split) <;> simp
@[simp] theorem State.dropIntervals_nor (s : State) : s.dropIntervals.nor = s.nor := by
  unfold State.dropIntervals; try dsimp only
  (repeat' split) <;> simp
@[simp] theorem State.dropIntervals_tag (s : State) : s.dropIntervals.tag = s.tag := by
  unfold State.dropIntervals; try dsimp only
  (repeat' split) <;> simp
@[simp] theorem State.dropIntervals_pilot (s : State) : s.dropIntervals.pilot = s.pilot := by
  unfold State.dropIntervals; try dsimp only
  (repeat' split) <;> simp
@[simp] theorem State.dropIntervals_sys (s : State) : s.dropIntervals.sys = s.sys := by
  unfold State.dropIntervals; try dsimp only
  (repeat' split) <;> simp
@[simp] theorem State.dropIntervals_net (s : State) : s.dropIntervals.net = s.net := by
  unfold State.dropIntervals; try dsimp only
  (repeat' split) <;> simp
@[simp] theorem State.dropIntervals_pwr (s : State) : s.dropIntervals.pwr = s.pwr := by
  unfold State.dropIntervals; try dsimp only
  (repeat' split) <;> simp
@[simp] theorem State.dropIntervals_tim (s : State) : s.dropIntervals.tim = s.tim := by
  unfold State.dropIntervals; try dsimp only
  (repeat' split) <;> simp
@[simp] theorem State.dropIntervals_sto (s : State) : s.dropIntervals.sto = s.sto := by
  unfold State.dropIntervals; try dsimp only
  (repeat' split) <;> simp
@[simp] theorem State.dropIntervals_keys (s : State) : s.dropIntervals.keys = s.keys := by
  unfold State.dropIntervals; try dsimp only
  (repeat' split) <;> simp
@[simp] theorem State.dropIntervals_upd (s : State) : s.dropIntervals.upd = s.upd := by
  unfold State.dropIntervals; try dsimp only
  (repeat' split) <;> simp
@[simp] theorem State.dropIntervals_hif (s : State) : s.dropIntervals.hif = s.hif := by
  unfold State.dropIntervals; try dsimp only
  (repeat' split) <;> simp
@[simp] theorem State.dropIntervals_tok (s : State) : s.dropIntervals.tok = s.tok := by
  unfold State.dropIntervals; try dsimp only
  (repeat' split) <;> simp
@[simp] theorem State.dropIntervals_lf (s : State) : s.dropIntervals.lf = s.lf := by
  unfold State.dropIntervals; try dsimp only
  (repeat' split) <;> simp
@[simp] theorem State.dropIntervals_rf (s : State) : s.dropIntervals.rf = s.rf := by
  unfold State.dropIntervals; try dsimp only
  (repeat' split) <;> simp
@[simp] theorem State.dropIntervals_rng (s : State) : s.dropIntervals.rng = s.rng := by
  unfold State.dropIntervals; try dsimp only
  (repeat' split) <;> simp
@[simp] theorem State.dropIntervals_rel (s : State) : s.dropIntervals.rel = s.rel := by
  unfold State.dropIntervals; try dsimp only
  (repeat' split) <;> simp
@[simp] theorem State.dropIntervals_sym (s : State) : s.dropIntervals.sym = s.sym := by
  unfold State.dropIntervals; try dsimp only
  (repeat' split) <;> simp
@[simp] theorem State.dropIntervals_nfc (s : State) : s.dropIntervals.nfc = s.nfc := by
  unfold State.dropIntervals; try dsimp only
  (repeat' split) <;> simp

@[simp] theorem State.drainPage_pending (s : State) : s.drainPage.pending = s.pending := by
  unfold State.drainPage
  split
  · rfl
  · split
    · rfl
    · dsimp only
      simp
@[simp] theorem State.drainPage_mt (s : State) : s.drainPage.mt = s.mt := by
  unfold State.drainPage
  split
  · rfl
  · split
    · rfl
    · dsimp only
      simp
@[simp] theorem State.drainPage_draws (s : State) : s.drainPage.draws = s.draws := by
  unfold State.drainPage
  split
  · rfl
  · split
    · rfl
    · dsimp only
      simp
@[simp] theorem State.drainPage_regs (s : State) : s.drainPage.regs = s.regs := by
  unfold State.drainPage
  split
  · rfl
  · split
    · rfl
    · dsimp only
      simp
@[simp] theorem State.drainPage_fuses (s : State) : s.drainPage.fuses = s.fuses := by
  unfold State.drainPage
  split
  · rfl
  · split
    · rfl
    · dsimp only
      simp
@[simp] theorem State.drainPage_update (s : State) : s.drainPage.update = s.update := by
  unfold State.drainPage
  split
  · rfl
  · split
    · rfl
    · dsimp only
      simp
@[simp] theorem State.drainPage_nor (s : State) : s.drainPage.nor = s.nor := by
  unfold State.drainPage
  split
  · rfl
  · split
    · rfl
    · dsimp only
      simp
@[simp] theorem State.drainPage_tag (s : State) : s.drainPage.tag = s.tag := by
  unfold State.drainPage
  split
  · rfl
  · split
    · rfl
    · dsimp only
      simp
@[simp] theorem State.drainPage_pilot (s : State) : s.drainPage.pilot = s.pilot := by
  unfold State.drainPage
  split
  · rfl
  · split
    · rfl
    · dsimp only
      simp
@[simp] theorem State.drainPage_sys (s : State) : s.drainPage.sys = s.sys := by
  unfold State.drainPage
  split
  · rfl
  · split
    · rfl
    · dsimp only
      simp
@[simp] theorem State.drainPage_net (s : State) : s.drainPage.net = s.net := by
  unfold State.drainPage
  split
  · rfl
  · split
    · rfl
    · dsimp only
      simp
@[simp] theorem State.drainPage_pwr (s : State) : s.drainPage.pwr = s.pwr := by
  unfold State.drainPage
  split
  · rfl
  · split
    · rfl
    · dsimp only
      simp
@[simp] theorem State.drainPage_tim (s : State) : s.drainPage.tim = s.tim := by
  unfold State.drainPage
  split
  · rfl
  · split
    · rfl
    · dsimp only
      simp
@[simp] theorem State.drainPage_sto (s : State) : s.drainPage.sto = s.sto := by
  unfold State.drainPage
  split
  · rfl
  · split
    · rfl
    · dsimp only
      simp
@[simp] theorem State.drainPage_keys (s : State) : s.drainPage.keys = s.keys := by
  unfold State.drainPage
  split
  · rfl
  · split
    · rfl
    · dsimp only
      simp
@[simp] theorem State.drainPage_upd (s : State) : s.drainPage.upd = s.upd := by
  unfold State.drainPage
  split
  · rfl
  · split
    · rfl
    · dsimp only
      simp
@[simp] theorem State.drainPage_hif (s : State) : s.drainPage.hif = s.hif := by
  unfold State.drainPage
  split
  · rfl
  · split
    · rfl
    · dsimp only
      simp
@[simp] theorem State.drainPage_tok (s : State) : s.drainPage.tok = s.tok := by
  unfold State.drainPage
  split
  · rfl
  · split
    · rfl
    · dsimp only
      simp
@[simp] theorem State.drainPage_lf (s : State) : s.drainPage.lf = s.lf := by
  unfold State.drainPage
  split
  · rfl
  · split
    · rfl
    · dsimp only
      simp
@[simp] theorem State.drainPage_rf (s : State) : s.drainPage.rf = s.rf := by
  unfold State.drainPage
  split
  · rfl
  · split
    · rfl
    · dsimp only
      simp
@[simp] theorem State.drainPage_rng (s : State) : s.drainPage.rng = s.rng := by
  unfold State.drainPage
  split
  · rfl
  · split
    · rfl
    · dsimp only
      simp
@[simp] theorem State.drainPage_rel (s : State) : s.drainPage.rel = s.rel := by
  unfold State.drainPage
  split
  · rfl
  · split
    · rfl
    · dsimp only
      simp
@[simp] theorem State.drainPage_sym (s : State) : s.drainPage.sym = s.sym := by
  unfold State.drainPage
  split
  · rfl
  · split
    · rfl
    · dsimp only
      simp
@[simp] theorem State.drainPage_nfc (s : State) : s.drainPage.nfc = s.nfc := by
  unfold State.drainPage
  split
  · rfl
  · split
    · rfl
    · dsimp only
      simp

@[simp] theorem State.refreshWarn_pending (s : State) : s.refreshWarn.pending = s.pending := by
  unfold State.refreshWarn; try dsimp only
  (repeat' split) <;> simp
@[simp] theorem State.refreshWarn_mt (s : State) : s.refreshWarn.mt = s.mt := by
  unfold State.refreshWarn; try dsimp only
  (repeat' split) <;> simp
@[simp] theorem State.refreshWarn_draws (s : State) : s.refreshWarn.draws = s.draws := by
  unfold State.refreshWarn; try dsimp only
  (repeat' split) <;> simp
@[simp] theorem State.refreshWarn_fuses (s : State) : s.refreshWarn.fuses = s.fuses := by
  unfold State.refreshWarn; try dsimp only
  (repeat' split) <;> simp
@[simp] theorem State.refreshWarn_vault (s : State) : s.refreshWarn.vault = s.vault := by
  unfold State.refreshWarn; try dsimp only
  (repeat' split) <;> simp
@[simp] theorem State.refreshWarn_nand (s : State) : s.refreshWarn.nand = s.nand := by
  unfold State.refreshWarn; try dsimp only
  (repeat' split) <;> simp
@[simp] theorem State.refreshWarn_update (s : State) : s.refreshWarn.update = s.update := by
  unfold State.refreshWarn; try dsimp only
  (repeat' split) <;> simp
@[simp] theorem State.refreshWarn_nor (s : State) : s.refreshWarn.nor = s.nor := by
  unfold State.refreshWarn; try dsimp only
  (repeat' split) <;> simp
@[simp] theorem State.refreshWarn_tag (s : State) : s.refreshWarn.tag = s.tag := by
  unfold State.refreshWarn; try dsimp only
  (repeat' split) <;> simp
@[simp] theorem State.refreshWarn_pilot (s : State) : s.refreshWarn.pilot = s.pilot := by
  unfold State.refreshWarn; try dsimp only
  (repeat' split) <;> simp
@[simp] theorem State.refreshWarn_sys (s : State) : s.refreshWarn.sys = s.sys := by
  unfold State.refreshWarn; try dsimp only
  (repeat' split) <;> simp
@[simp] theorem State.refreshWarn_net (s : State) : s.refreshWarn.net = s.net := by
  unfold State.refreshWarn; try dsimp only
  (repeat' split) <;> simp
@[simp] theorem State.refreshWarn_pwr (s : State) : s.refreshWarn.pwr = s.pwr := by
  unfold State.refreshWarn; try dsimp only
  (repeat' split) <;> simp
@[simp] theorem State.refreshWarn_tim (s : State) : s.refreshWarn.tim = s.tim := by
  unfold State.refreshWarn; try dsimp only
  (repeat' split) <;> simp
@[simp] theorem State.refreshWarn_sto (s : State) : s.refreshWarn.sto = s.sto := by
  unfold State.refreshWarn; try dsimp only
  (repeat' split) <;> simp
@[simp] theorem State.refreshWarn_keys (s : State) : s.refreshWarn.keys = s.keys := by
  unfold State.refreshWarn; try dsimp only
  (repeat' split) <;> simp
@[simp] theorem State.refreshWarn_upd (s : State) : s.refreshWarn.upd = s.upd := by
  unfold State.refreshWarn; try dsimp only
  (repeat' split) <;> simp
@[simp] theorem State.refreshWarn_hif (s : State) : s.refreshWarn.hif = s.hif := by
  unfold State.refreshWarn; try dsimp only
  (repeat' split) <;> simp
@[simp] theorem State.refreshWarn_tok (s : State) : s.refreshWarn.tok = s.tok := by
  unfold State.refreshWarn; try dsimp only
  (repeat' split) <;> simp
@[simp] theorem State.refreshWarn_lf (s : State) : s.refreshWarn.lf = s.lf := by
  unfold State.refreshWarn; try dsimp only
  (repeat' split) <;> simp
@[simp] theorem State.refreshWarn_rf (s : State) : s.refreshWarn.rf = s.rf := by
  unfold State.refreshWarn; try dsimp only
  (repeat' split) <;> simp
@[simp] theorem State.refreshWarn_rng (s : State) : s.refreshWarn.rng = s.rng := by
  unfold State.refreshWarn; try dsimp only
  (repeat' split) <;> simp
@[simp] theorem State.refreshWarn_rel (s : State) : s.refreshWarn.rel = s.rel := by
  unfold State.refreshWarn; try dsimp only
  (repeat' split) <;> simp
@[simp] theorem State.refreshWarn_sym (s : State) : s.refreshWarn.sym = s.sym := by
  unfold State.refreshWarn; try dsimp only
  (repeat' split) <;> simp
@[simp] theorem State.refreshWarn_nfc (s : State) : s.refreshWarn.nfc = s.nfc := by
  unfold State.refreshWarn; try dsimp only
  (repeat' split) <;> simp

@[simp] theorem State.commitEntry_pending (s : State) (type reason src flags mt : Nat) (body : Bytes) : (s.commitEntry type reason src flags mt body).pending = s.pending := by
  unfold State.commitEntry; try dsimp only
  (repeat' split) <;> simp
@[simp] theorem State.commitEntry_mt (s : State) (type reason src flags mt : Nat) (body : Bytes) : (s.commitEntry type reason src flags mt body).mt = s.mt := by
  unfold State.commitEntry; try dsimp only
  (repeat' split) <;> simp
@[simp] theorem State.commitEntry_draws (s : State) (type reason src flags mt : Nat) (body : Bytes) : (s.commitEntry type reason src flags mt body).draws = s.draws := by
  unfold State.commitEntry; try dsimp only
  (repeat' split) <;> simp
@[simp] theorem State.commitEntry_fuses (s : State) (type reason src flags mt : Nat) (body : Bytes) : (s.commitEntry type reason src flags mt body).fuses = s.fuses := by
  unfold State.commitEntry; try dsimp only
  (repeat' split) <;> simp
@[simp] theorem State.commitEntry_update (s : State) (type reason src flags mt : Nat) (body : Bytes) : (s.commitEntry type reason src flags mt body).update = s.update := by
  unfold State.commitEntry; try dsimp only
  (repeat' split) <;> simp
@[simp] theorem State.commitEntry_nor (s : State) (type reason src flags mt : Nat) (body : Bytes) : (s.commitEntry type reason src flags mt body).nor = s.nor := by
  unfold State.commitEntry; try dsimp only
  (repeat' split) <;> simp
@[simp] theorem State.commitEntry_pilot (s : State) (type reason src flags mt : Nat) (body : Bytes) : (s.commitEntry type reason src flags mt body).pilot = s.pilot := by
  unfold State.commitEntry; try dsimp only
  (repeat' split) <;> simp
@[simp] theorem State.commitEntry_sys (s : State) (type reason src flags mt : Nat) (body : Bytes) : (s.commitEntry type reason src flags mt body).sys = s.sys := by
  unfold State.commitEntry; try dsimp only
  (repeat' split) <;> simp
@[simp] theorem State.commitEntry_pwr (s : State) (type reason src flags mt : Nat) (body : Bytes) : (s.commitEntry type reason src flags mt body).pwr = s.pwr := by
  unfold State.commitEntry; try dsimp only
  (repeat' split) <;> simp
@[simp] theorem State.commitEntry_tim (s : State) (type reason src flags mt : Nat) (body : Bytes) : (s.commitEntry type reason src flags mt body).tim = s.tim := by
  unfold State.commitEntry; try dsimp only
  (repeat' split) <;> simp
@[simp] theorem State.commitEntry_keys (s : State) (type reason src flags mt : Nat) (body : Bytes) : (s.commitEntry type reason src flags mt body).keys = s.keys := by
  unfold State.commitEntry; try dsimp only
  (repeat' split) <;> simp
@[simp] theorem State.commitEntry_upd (s : State) (type reason src flags mt : Nat) (body : Bytes) : (s.commitEntry type reason src flags mt body).upd = s.upd := by
  unfold State.commitEntry; try dsimp only
  (repeat' split) <;> simp
@[simp] theorem State.commitEntry_hif (s : State) (type reason src flags mt : Nat) (body : Bytes) : (s.commitEntry type reason src flags mt body).hif = s.hif := by
  unfold State.commitEntry; try dsimp only
  (repeat' split) <;> simp
@[simp] theorem State.commitEntry_tok (s : State) (type reason src flags mt : Nat) (body : Bytes) : (s.commitEntry type reason src flags mt body).tok = s.tok := by
  unfold State.commitEntry; try dsimp only
  (repeat' split) <;> simp
@[simp] theorem State.commitEntry_lf (s : State) (type reason src flags mt : Nat) (body : Bytes) : (s.commitEntry type reason src flags mt body).lf = s.lf := by
  unfold State.commitEntry; try dsimp only
  (repeat' split) <;> simp
@[simp] theorem State.commitEntry_rf (s : State) (type reason src flags mt : Nat) (body : Bytes) : (s.commitEntry type reason src flags mt body).rf = s.rf := by
  unfold State.commitEntry; try dsimp only
  (repeat' split) <;> simp
@[simp] theorem State.commitEntry_rng (s : State) (type reason src flags mt : Nat) (body : Bytes) : (s.commitEntry type reason src flags mt body).rng = s.rng := by
  unfold State.commitEntry; try dsimp only
  (repeat' split) <;> simp
@[simp] theorem State.commitEntry_rel (s : State) (type reason src flags mt : Nat) (body : Bytes) : (s.commitEntry type reason src flags mt body).rel = s.rel := by
  unfold State.commitEntry; try dsimp only
  (repeat' split) <;> simp
@[simp] theorem State.commitEntry_sym (s : State) (type reason src flags mt : Nat) (body : Bytes) : (s.commitEntry type reason src flags mt body).sym = s.sym := by
  unfold State.commitEntry; try dsimp only
  (repeat' split) <;> simp
@[simp] theorem State.commitEntry_nfc (s : State) (type reason src flags mt : Nat) (body : Bytes) : (s.commitEntry type reason src flags mt body).nfc = s.nfc := by
  unfold State.commitEntry; try dsimp only
  (repeat' split) <;> simp

@[simp] theorem State.journal_pending (s : State) (type reason : Nat) (u : Subsys) (flags : Nat) (body : Bytes) : (s.journal type reason u flags body).pending = s.pending := by
  unfold State.journal; try dsimp only
  (repeat' split) <;> simp
@[simp] theorem State.journal_mt (s : State) (type reason : Nat) (u : Subsys) (flags : Nat) (body : Bytes) : (s.journal type reason u flags body).mt = s.mt := by
  unfold State.journal; try dsimp only
  (repeat' split) <;> simp
@[simp] theorem State.journal_draws (s : State) (type reason : Nat) (u : Subsys) (flags : Nat) (body : Bytes) : (s.journal type reason u flags body).draws = s.draws := by
  unfold State.journal; try dsimp only
  (repeat' split) <;> simp
@[simp] theorem State.journal_fuses (s : State) (type reason : Nat) (u : Subsys) (flags : Nat) (body : Bytes) : (s.journal type reason u flags body).fuses = s.fuses := by
  unfold State.journal; try dsimp only
  (repeat' split) <;> simp
@[simp] theorem State.journal_update (s : State) (type reason : Nat) (u : Subsys) (flags : Nat) (body : Bytes) : (s.journal type reason u flags body).update = s.update := by
  unfold State.journal; try dsimp only
  (repeat' split) <;> simp
@[simp] theorem State.journal_nor (s : State) (type reason : Nat) (u : Subsys) (flags : Nat) (body : Bytes) : (s.journal type reason u flags body).nor = s.nor := by
  unfold State.journal; try dsimp only
  (repeat' split) <;> simp
@[simp] theorem State.journal_pilot (s : State) (type reason : Nat) (u : Subsys) (flags : Nat) (body : Bytes) : (s.journal type reason u flags body).pilot = s.pilot := by
  unfold State.journal; try dsimp only
  (repeat' split) <;> simp
@[simp] theorem State.journal_sys (s : State) (type reason : Nat) (u : Subsys) (flags : Nat) (body : Bytes) : (s.journal type reason u flags body).sys = s.sys := by
  unfold State.journal; try dsimp only
  (repeat' split) <;> simp
@[simp] theorem State.journal_pwr (s : State) (type reason : Nat) (u : Subsys) (flags : Nat) (body : Bytes) : (s.journal type reason u flags body).pwr = s.pwr := by
  unfold State.journal; try dsimp only
  (repeat' split) <;> simp
@[simp] theorem State.journal_tim (s : State) (type reason : Nat) (u : Subsys) (flags : Nat) (body : Bytes) : (s.journal type reason u flags body).tim = s.tim := by
  unfold State.journal; try dsimp only
  (repeat' split) <;> simp
@[simp] theorem State.journal_keys (s : State) (type reason : Nat) (u : Subsys) (flags : Nat) (body : Bytes) : (s.journal type reason u flags body).keys = s.keys := by
  unfold State.journal; try dsimp only
  (repeat' split) <;> simp
@[simp] theorem State.journal_upd (s : State) (type reason : Nat) (u : Subsys) (flags : Nat) (body : Bytes) : (s.journal type reason u flags body).upd = s.upd := by
  unfold State.journal; try dsimp only
  (repeat' split) <;> simp
@[simp] theorem State.journal_hif (s : State) (type reason : Nat) (u : Subsys) (flags : Nat) (body : Bytes) : (s.journal type reason u flags body).hif = s.hif := by
  unfold State.journal; try dsimp only
  (repeat' split) <;> simp
@[simp] theorem State.journal_tok (s : State) (type reason : Nat) (u : Subsys) (flags : Nat) (body : Bytes) : (s.journal type reason u flags body).tok = s.tok := by
  unfold State.journal; try dsimp only
  (repeat' split) <;> simp
@[simp] theorem State.journal_lf (s : State) (type reason : Nat) (u : Subsys) (flags : Nat) (body : Bytes) : (s.journal type reason u flags body).lf = s.lf := by
  unfold State.journal; try dsimp only
  (repeat' split) <;> simp
@[simp] theorem State.journal_rf (s : State) (type reason : Nat) (u : Subsys) (flags : Nat) (body : Bytes) : (s.journal type reason u flags body).rf = s.rf := by
  unfold State.journal; try dsimp only
  (repeat' split) <;> simp
@[simp] theorem State.journal_rng (s : State) (type reason : Nat) (u : Subsys) (flags : Nat) (body : Bytes) : (s.journal type reason u flags body).rng = s.rng := by
  unfold State.journal; try dsimp only
  (repeat' split) <;> simp
@[simp] theorem State.journal_rel (s : State) (type reason : Nat) (u : Subsys) (flags : Nat) (body : Bytes) : (s.journal type reason u flags body).rel = s.rel := by
  unfold State.journal; try dsimp only
  (repeat' split) <;> simp
@[simp] theorem State.journal_sym (s : State) (type reason : Nat) (u : Subsys) (flags : Nat) (body : Bytes) : (s.journal type reason u flags body).sym = s.sym := by
  unfold State.journal; try dsimp only
  (repeat' split) <;> simp
@[simp] theorem State.journal_nfc (s : State) (type reason : Nat) (u : Subsys) (flags : Nat) (body : Bytes) : (s.journal type reason u flags body).nfc = s.nfc := by
  unfold State.journal; try dsimp only
  (repeat' split) <;> simp

@[simp] theorem State.firstReady_pending (s : State) : s.firstReady.pending = s.pending := by
  unfold State.firstReady; try dsimp only
  (repeat' split) <;> simp
@[simp] theorem State.firstReady_mt (s : State) : s.firstReady.mt = s.mt := by
  unfold State.firstReady; try dsimp only
  (repeat' split) <;> simp
@[simp] theorem State.firstReady_draws (s : State) : s.firstReady.draws = s.draws := by
  unfold State.firstReady; try dsimp only
  (repeat' split) <;> simp
@[simp] theorem State.firstReady_fuses (s : State) : s.firstReady.fuses = s.fuses := by
  unfold State.firstReady; try dsimp only
  (repeat' split) <;> simp
@[simp] theorem State.firstReady_nand (s : State) : s.firstReady.nand = s.nand := by
  unfold State.firstReady; try dsimp only
  (repeat' split) <;> simp
@[simp] theorem State.firstReady_update (s : State) : s.firstReady.update = s.update := by
  unfold State.firstReady; try dsimp only
  (repeat' split) <;> simp
@[simp] theorem State.firstReady_nor (s : State) : s.firstReady.nor = s.nor := by
  unfold State.firstReady; try dsimp only
  (repeat' split) <;> simp
@[simp] theorem State.firstReady_tag (s : State) : s.firstReady.tag = s.tag := by
  unfold State.firstReady; try dsimp only
  (repeat' split) <;> simp
@[simp] theorem State.firstReady_net (s : State) : s.firstReady.net = s.net := by
  unfold State.firstReady; try dsimp only
  (repeat' split) <;> simp
@[simp] theorem State.firstReady_pwr (s : State) : s.firstReady.pwr = s.pwr := by
  unfold State.firstReady; try dsimp only
  (repeat' split) <;> simp
@[simp] theorem State.firstReady_tim (s : State) : s.firstReady.tim = s.tim := by
  unfold State.firstReady; try dsimp only
  (repeat' split) <;> simp
@[simp] theorem State.firstReady_sto (s : State) : s.firstReady.sto = s.sto := by
  unfold State.firstReady; try dsimp only
  (repeat' split) <;> simp
@[simp] theorem State.firstReady_keys (s : State) : s.firstReady.keys = s.keys := by
  unfold State.firstReady; try dsimp only
  (repeat' split) <;> simp
@[simp] theorem State.firstReady_upd (s : State) : s.firstReady.upd = s.upd := by
  unfold State.firstReady; try dsimp only
  (repeat' split) <;> simp
@[simp] theorem State.firstReady_hif (s : State) : s.firstReady.hif = s.hif := by
  unfold State.firstReady; try dsimp only
  (repeat' split) <;> simp
@[simp] theorem State.firstReady_tok (s : State) : s.firstReady.tok = s.tok := by
  unfold State.firstReady; try dsimp only
  (repeat' split) <;> simp
@[simp] theorem State.firstReady_lf (s : State) : s.firstReady.lf = s.lf := by
  unfold State.firstReady; try dsimp only
  (repeat' split) <;> simp
@[simp] theorem State.firstReady_rf (s : State) : s.firstReady.rf = s.rf := by
  unfold State.firstReady; try dsimp only
  (repeat' split) <;> simp
@[simp] theorem State.firstReady_rng (s : State) : s.firstReady.rng = s.rng := by
  unfold State.firstReady; try dsimp only
  (repeat' split) <;> simp
@[simp] theorem State.firstReady_rel (s : State) : s.firstReady.rel = s.rel := by
  unfold State.firstReady; try dsimp only
  (repeat' split) <;> simp
@[simp] theorem State.firstReady_sym (s : State) : s.firstReady.sym = s.sym := by
  unfold State.firstReady; try dsimp only
  (repeat' split) <;> simp
@[simp] theorem State.firstReady_nfc (s : State) : s.firstReady.nfc = s.nfc := by
  unfold State.firstReady; try dsimp only
  (repeat' split) <;> simp

@[simp] theorem State.refresh_pending (s : State) : s.refresh.pending = s.pending := by
  unfold State.refresh; try dsimp only
  (repeat' split) <;> simp
@[simp] theorem State.refresh_mt (s : State) : s.refresh.mt = s.mt := by
  unfold State.refresh; try dsimp only
  (repeat' split) <;> simp
@[simp] theorem State.refresh_draws (s : State) : s.refresh.draws = s.draws := by
  unfold State.refresh; try dsimp only
  (repeat' split) <;> simp
@[simp] theorem State.refresh_fuses (s : State) : s.refresh.fuses = s.fuses := by
  unfold State.refresh; try dsimp only
  (repeat' split) <;> simp
@[simp] theorem State.refresh_nand (s : State) : s.refresh.nand = s.nand := by
  unfold State.refresh; try dsimp only
  (repeat' split) <;> simp
@[simp] theorem State.refresh_update (s : State) : s.refresh.update = s.update := by
  unfold State.refresh; try dsimp only
  (repeat' split) <;> simp
@[simp] theorem State.refresh_nor (s : State) : s.refresh.nor = s.nor := by
  unfold State.refresh; try dsimp only
  (repeat' split) <;> simp
@[simp] theorem State.refresh_net (s : State) : s.refresh.net = s.net := by
  unfold State.refresh; try dsimp only
  (repeat' split) <;> simp
@[simp] theorem State.refresh_pwr (s : State) : s.refresh.pwr = s.pwr := by
  unfold State.refresh; try dsimp only
  (repeat' split) <;> simp
@[simp] theorem State.refresh_tim (s : State) : s.refresh.tim = s.tim := by
  unfold State.refresh; try dsimp only
  (repeat' split) <;> simp
@[simp] theorem State.refresh_sto (s : State) : s.refresh.sto = s.sto := by
  unfold State.refresh; try dsimp only
  (repeat' split) <;> simp
@[simp] theorem State.refresh_keys (s : State) : s.refresh.keys = s.keys := by
  unfold State.refresh; try dsimp only
  (repeat' split) <;> simp
@[simp] theorem State.refresh_upd (s : State) : s.refresh.upd = s.upd := by
  unfold State.refresh; try dsimp only
  (repeat' split) <;> simp
@[simp] theorem State.refresh_hif (s : State) : s.refresh.hif = s.hif := by
  unfold State.refresh; try dsimp only
  (repeat' split) <;> simp
@[simp] theorem State.refresh_tok (s : State) : s.refresh.tok = s.tok := by
  unfold State.refresh; try dsimp only
  (repeat' split) <;> simp
@[simp] theorem State.refresh_lf (s : State) : s.refresh.lf = s.lf := by
  unfold State.refresh; try dsimp only
  (repeat' split) <;> simp
@[simp] theorem State.refresh_rf (s : State) : s.refresh.rf = s.rf := by
  unfold State.refresh; try dsimp only
  (repeat' split) <;> simp
@[simp] theorem State.refresh_rng (s : State) : s.refresh.rng = s.rng := by
  unfold State.refresh; try dsimp only
  (repeat' split) <;> simp
@[simp] theorem State.refresh_rel (s : State) : s.refresh.rel = s.rel := by
  unfold State.refresh; try dsimp only
  (repeat' split) <;> simp
@[simp] theorem State.refresh_sym (s : State) : s.refresh.sym = s.sym := by
  unfold State.refresh; try dsimp only
  (repeat' split) <;> simp
@[simp] theorem State.refresh_nfc (s : State) : s.refresh.nfc = s.nfc := by
  unfold State.refresh; try dsimp only
  (repeat' split) <;> simp

@[simp] theorem State.placeOut_pending (s : State) : s.placeOut.pending = s.pending := by
  unfold State.placeOut; try dsimp only
  (repeat' split) <;> simp
@[simp] theorem State.placeOut_mt (s : State) : s.placeOut.mt = s.mt := by
  unfold State.placeOut; try dsimp only
  (repeat' split) <;> simp
@[simp] theorem State.placeOut_draws (s : State) : s.placeOut.draws = s.draws := by
  unfold State.placeOut; try dsimp only
  (repeat' split) <;> simp
@[simp] theorem State.placeOut_fuses (s : State) : s.placeOut.fuses = s.fuses := by
  unfold State.placeOut; try dsimp only
  (repeat' split) <;> simp
@[simp] theorem State.placeOut_vault (s : State) : s.placeOut.vault = s.vault := by
  unfold State.placeOut; try dsimp only
  (repeat' split) <;> simp
@[simp] theorem State.placeOut_nand (s : State) : s.placeOut.nand = s.nand := by
  unfold State.placeOut; try dsimp only
  (repeat' split) <;> simp
@[simp] theorem State.placeOut_update (s : State) : s.placeOut.update = s.update := by
  unfold State.placeOut; try dsimp only
  (repeat' split) <;> simp
@[simp] theorem State.placeOut_nor (s : State) : s.placeOut.nor = s.nor := by
  unfold State.placeOut; try dsimp only
  (repeat' split) <;> simp
@[simp] theorem State.placeOut_tag (s : State) : s.placeOut.tag = s.tag := by
  unfold State.placeOut; try dsimp only
  (repeat' split) <;> simp
@[simp] theorem State.placeOut_pilot (s : State) : s.placeOut.pilot = s.pilot := by
  unfold State.placeOut; try dsimp only
  (repeat' split) <;> simp
@[simp] theorem State.placeOut_sys (s : State) : s.placeOut.sys = s.sys := by
  unfold State.placeOut; try dsimp only
  (repeat' split) <;> simp
@[simp] theorem State.placeOut_net (s : State) : s.placeOut.net = s.net := by
  unfold State.placeOut; try dsimp only
  (repeat' split) <;> simp
@[simp] theorem State.placeOut_pwr (s : State) : s.placeOut.pwr = s.pwr := by
  unfold State.placeOut; try dsimp only
  (repeat' split) <;> simp
@[simp] theorem State.placeOut_tim (s : State) : s.placeOut.tim = s.tim := by
  unfold State.placeOut; try dsimp only
  (repeat' split) <;> simp
@[simp] theorem State.placeOut_sto (s : State) : s.placeOut.sto = s.sto := by
  unfold State.placeOut; try dsimp only
  (repeat' split) <;> simp
@[simp] theorem State.placeOut_keys (s : State) : s.placeOut.keys = s.keys := by
  unfold State.placeOut; try dsimp only
  (repeat' split) <;> simp
@[simp] theorem State.placeOut_upd (s : State) : s.placeOut.upd = s.upd := by
  unfold State.placeOut; try dsimp only
  (repeat' split) <;> simp
@[simp] theorem State.placeOut_tok (s : State) : s.placeOut.tok = s.tok := by
  unfold State.placeOut; try dsimp only
  (repeat' split) <;> simp
@[simp] theorem State.placeOut_lf (s : State) : s.placeOut.lf = s.lf := by
  unfold State.placeOut; try dsimp only
  (repeat' split) <;> simp
@[simp] theorem State.placeOut_rf (s : State) : s.placeOut.rf = s.rf := by
  unfold State.placeOut; try dsimp only
  (repeat' split) <;> simp
@[simp] theorem State.placeOut_rng (s : State) : s.placeOut.rng = s.rng := by
  unfold State.placeOut; try dsimp only
  (repeat' split) <;> simp
@[simp] theorem State.placeOut_rel (s : State) : s.placeOut.rel = s.rel := by
  unfold State.placeOut; try dsimp only
  (repeat' split) <;> simp
@[simp] theorem State.placeOut_sym (s : State) : s.placeOut.sym = s.sym := by
  unfold State.placeOut; try dsimp only
  (repeat' split) <;> simp
@[simp] theorem State.placeOut_nfc (s : State) : s.placeOut.nfc = s.nfc := by
  unfold State.placeOut; try dsimp only
  (repeat' split) <;> simp

@[simp] theorem State.deliver_pending (s : State) (t : Transport) (src : Nat) (m : Bytes) : (s.deliver t src m).pending = s.pending := by
  unfold State.deliver; try dsimp only
  (repeat' split) <;> simp
@[simp] theorem State.deliver_mt (s : State) (t : Transport) (src : Nat) (m : Bytes) : (s.deliver t src m).mt = s.mt := by
  unfold State.deliver; try dsimp only
  (repeat' split) <;> simp
@[simp] theorem State.deliver_draws (s : State) (t : Transport) (src : Nat) (m : Bytes) : (s.deliver t src m).draws = s.draws := by
  unfold State.deliver; try dsimp only
  (repeat' split) <;> simp
@[simp] theorem State.deliver_fuses (s : State) (t : Transport) (src : Nat) (m : Bytes) : (s.deliver t src m).fuses = s.fuses := by
  unfold State.deliver; try dsimp only
  (repeat' split) <;> simp
@[simp] theorem State.deliver_vault (s : State) (t : Transport) (src : Nat) (m : Bytes) : (s.deliver t src m).vault = s.vault := by
  unfold State.deliver; try dsimp only
  (repeat' split) <;> simp
@[simp] theorem State.deliver_nand (s : State) (t : Transport) (src : Nat) (m : Bytes) : (s.deliver t src m).nand = s.nand := by
  unfold State.deliver; try dsimp only
  (repeat' split) <;> simp
@[simp] theorem State.deliver_update (s : State) (t : Transport) (src : Nat) (m : Bytes) : (s.deliver t src m).update = s.update := by
  unfold State.deliver; try dsimp only
  (repeat' split) <;> simp
@[simp] theorem State.deliver_nor (s : State) (t : Transport) (src : Nat) (m : Bytes) : (s.deliver t src m).nor = s.nor := by
  unfold State.deliver; try dsimp only
  (repeat' split) <;> simp
@[simp] theorem State.deliver_tag (s : State) (t : Transport) (src : Nat) (m : Bytes) : (s.deliver t src m).tag = s.tag := by
  unfold State.deliver; try dsimp only
  (repeat' split) <;> simp
@[simp] theorem State.deliver_pilot (s : State) (t : Transport) (src : Nat) (m : Bytes) : (s.deliver t src m).pilot = s.pilot := by
  unfold State.deliver; try dsimp only
  (repeat' split) <;> simp
@[simp] theorem State.deliver_sys (s : State) (t : Transport) (src : Nat) (m : Bytes) : (s.deliver t src m).sys = s.sys := by
  unfold State.deliver; try dsimp only
  (repeat' split) <;> simp
@[simp] theorem State.deliver_net (s : State) (t : Transport) (src : Nat) (m : Bytes) : (s.deliver t src m).net = s.net := by
  unfold State.deliver; try dsimp only
  (repeat' split) <;> simp
@[simp] theorem State.deliver_pwr (s : State) (t : Transport) (src : Nat) (m : Bytes) : (s.deliver t src m).pwr = s.pwr := by
  unfold State.deliver; try dsimp only
  (repeat' split) <;> simp
@[simp] theorem State.deliver_tim (s : State) (t : Transport) (src : Nat) (m : Bytes) : (s.deliver t src m).tim = s.tim := by
  unfold State.deliver; try dsimp only
  (repeat' split) <;> simp
@[simp] theorem State.deliver_sto (s : State) (t : Transport) (src : Nat) (m : Bytes) : (s.deliver t src m).sto = s.sto := by
  unfold State.deliver; try dsimp only
  (repeat' split) <;> simp
@[simp] theorem State.deliver_keys (s : State) (t : Transport) (src : Nat) (m : Bytes) : (s.deliver t src m).keys = s.keys := by
  unfold State.deliver; try dsimp only
  (repeat' split) <;> simp
@[simp] theorem State.deliver_upd (s : State) (t : Transport) (src : Nat) (m : Bytes) : (s.deliver t src m).upd = s.upd := by
  unfold State.deliver; try dsimp only
  (repeat' split) <;> simp
@[simp] theorem State.deliver_tok (s : State) (t : Transport) (src : Nat) (m : Bytes) : (s.deliver t src m).tok = s.tok := by
  unfold State.deliver; try dsimp only
  (repeat' split) <;> simp
@[simp] theorem State.deliver_lf (s : State) (t : Transport) (src : Nat) (m : Bytes) : (s.deliver t src m).lf = s.lf := by
  unfold State.deliver; try dsimp only
  (repeat' split) <;> simp
@[simp] theorem State.deliver_rf (s : State) (t : Transport) (src : Nat) (m : Bytes) : (s.deliver t src m).rf = s.rf := by
  unfold State.deliver; try dsimp only
  (repeat' split) <;> simp
@[simp] theorem State.deliver_rng (s : State) (t : Transport) (src : Nat) (m : Bytes) : (s.deliver t src m).rng = s.rng := by
  unfold State.deliver; try dsimp only
  (repeat' split) <;> simp
@[simp] theorem State.deliver_rel (s : State) (t : Transport) (src : Nat) (m : Bytes) : (s.deliver t src m).rel = s.rel := by
  unfold State.deliver; try dsimp only
  (repeat' split) <;> simp
@[simp] theorem State.deliver_sym (s : State) (t : Transport) (src : Nat) (m : Bytes) : (s.deliver t src m).sym = s.sym := by
  unfold State.deliver; try dsimp only
  (repeat' split) <;> simp
@[simp] theorem State.deliver_nfc (s : State) (t : Transport) (src : Nat) (m : Bytes) : (s.deliver t src m).nfc = s.nfc := by
  unfold State.deliver; try dsimp only
  (repeat' split) <;> simp

@[simp] theorem State.answer_pending (s : State) (c : MbCmd) (reason : Nat) (out : Bytes) : (s.answer c reason out).pending = s.pending := by
  unfold State.answer; try dsimp only
  (repeat' split) <;> simp
@[simp] theorem State.answer_mt (s : State) (c : MbCmd) (reason : Nat) (out : Bytes) : (s.answer c reason out).mt = s.mt := by
  unfold State.answer; try dsimp only
  (repeat' split) <;> simp
@[simp] theorem State.answer_draws (s : State) (c : MbCmd) (reason : Nat) (out : Bytes) : (s.answer c reason out).draws = s.draws := by
  unfold State.answer; try dsimp only
  (repeat' split) <;> simp
@[simp] theorem State.answer_fuses (s : State) (c : MbCmd) (reason : Nat) (out : Bytes) : (s.answer c reason out).fuses = s.fuses := by
  unfold State.answer; try dsimp only
  (repeat' split) <;> simp
@[simp] theorem State.answer_vault (s : State) (c : MbCmd) (reason : Nat) (out : Bytes) : (s.answer c reason out).vault = s.vault := by
  unfold State.answer; try dsimp only
  (repeat' split) <;> simp
@[simp] theorem State.answer_nand (s : State) (c : MbCmd) (reason : Nat) (out : Bytes) : (s.answer c reason out).nand = s.nand := by
  unfold State.answer; try dsimp only
  (repeat' split) <;> simp
@[simp] theorem State.answer_update (s : State) (c : MbCmd) (reason : Nat) (out : Bytes) : (s.answer c reason out).update = s.update := by
  unfold State.answer; try dsimp only
  (repeat' split) <;> simp
@[simp] theorem State.answer_nor (s : State) (c : MbCmd) (reason : Nat) (out : Bytes) : (s.answer c reason out).nor = s.nor := by
  unfold State.answer; try dsimp only
  (repeat' split) <;> simp
@[simp] theorem State.answer_tag (s : State) (c : MbCmd) (reason : Nat) (out : Bytes) : (s.answer c reason out).tag = s.tag := by
  unfold State.answer; try dsimp only
  (repeat' split) <;> simp
@[simp] theorem State.answer_pilot (s : State) (c : MbCmd) (reason : Nat) (out : Bytes) : (s.answer c reason out).pilot = s.pilot := by
  unfold State.answer; try dsimp only
  (repeat' split) <;> simp
@[simp] theorem State.answer_sys (s : State) (c : MbCmd) (reason : Nat) (out : Bytes) : (s.answer c reason out).sys = s.sys := by
  unfold State.answer; try dsimp only
  (repeat' split) <;> simp
@[simp] theorem State.answer_net (s : State) (c : MbCmd) (reason : Nat) (out : Bytes) : (s.answer c reason out).net = s.net := by
  unfold State.answer; try dsimp only
  (repeat' split) <;> simp
@[simp] theorem State.answer_pwr (s : State) (c : MbCmd) (reason : Nat) (out : Bytes) : (s.answer c reason out).pwr = s.pwr := by
  unfold State.answer; try dsimp only
  (repeat' split) <;> simp
@[simp] theorem State.answer_tim (s : State) (c : MbCmd) (reason : Nat) (out : Bytes) : (s.answer c reason out).tim = s.tim := by
  unfold State.answer; try dsimp only
  (repeat' split) <;> simp
@[simp] theorem State.answer_sto (s : State) (c : MbCmd) (reason : Nat) (out : Bytes) : (s.answer c reason out).sto = s.sto := by
  unfold State.answer; try dsimp only
  (repeat' split) <;> simp
@[simp] theorem State.answer_keys (s : State) (c : MbCmd) (reason : Nat) (out : Bytes) : (s.answer c reason out).keys = s.keys := by
  unfold State.answer; try dsimp only
  (repeat' split) <;> simp
@[simp] theorem State.answer_upd (s : State) (c : MbCmd) (reason : Nat) (out : Bytes) : (s.answer c reason out).upd = s.upd := by
  unfold State.answer; try dsimp only
  (repeat' split) <;> simp
@[simp] theorem State.answer_tok (s : State) (c : MbCmd) (reason : Nat) (out : Bytes) : (s.answer c reason out).tok = s.tok := by
  unfold State.answer; try dsimp only
  (repeat' split) <;> simp
@[simp] theorem State.answer_lf (s : State) (c : MbCmd) (reason : Nat) (out : Bytes) : (s.answer c reason out).lf = s.lf := by
  unfold State.answer; try dsimp only
  (repeat' split) <;> simp
@[simp] theorem State.answer_rf (s : State) (c : MbCmd) (reason : Nat) (out : Bytes) : (s.answer c reason out).rf = s.rf := by
  unfold State.answer; try dsimp only
  (repeat' split) <;> simp
@[simp] theorem State.answer_rng (s : State) (c : MbCmd) (reason : Nat) (out : Bytes) : (s.answer c reason out).rng = s.rng := by
  unfold State.answer; try dsimp only
  (repeat' split) <;> simp
@[simp] theorem State.answer_rel (s : State) (c : MbCmd) (reason : Nat) (out : Bytes) : (s.answer c reason out).rel = s.rel := by
  unfold State.answer; try dsimp only
  (repeat' split) <;> simp
@[simp] theorem State.answer_sym (s : State) (c : MbCmd) (reason : Nat) (out : Bytes) : (s.answer c reason out).sym = s.sym := by
  unfold State.answer; try dsimp only
  (repeat' split) <;> simp
@[simp] theorem State.answer_nfc (s : State) (c : MbCmd) (reason : Nat) (out : Bytes) : (s.answer c reason out).nfc = s.nfc := by
  unfold State.answer; try dsimp only
  (repeat' split) <;> simp

@[simp] theorem State.finish_pending (s : State) (reason : Nat) (out : Bytes) : (s.finish reason out).pending = s.pending := by
  unfold State.finish; try dsimp only
  (repeat' split) <;> simp
@[simp] theorem State.finish_mt (s : State) (reason : Nat) (out : Bytes) : (s.finish reason out).mt = s.mt := by
  unfold State.finish; try dsimp only
  (repeat' split) <;> simp
@[simp] theorem State.finish_draws (s : State) (reason : Nat) (out : Bytes) : (s.finish reason out).draws = s.draws := by
  unfold State.finish; try dsimp only
  (repeat' split) <;> simp
@[simp] theorem State.finish_fuses (s : State) (reason : Nat) (out : Bytes) : (s.finish reason out).fuses = s.fuses := by
  unfold State.finish; try dsimp only
  (repeat' split) <;> simp
@[simp] theorem State.finish_vault (s : State) (reason : Nat) (out : Bytes) : (s.finish reason out).vault = s.vault := by
  unfold State.finish; try dsimp only
  (repeat' split) <;> simp
@[simp] theorem State.finish_nand (s : State) (reason : Nat) (out : Bytes) : (s.finish reason out).nand = s.nand := by
  unfold State.finish; try dsimp only
  (repeat' split) <;> simp
@[simp] theorem State.finish_update (s : State) (reason : Nat) (out : Bytes) : (s.finish reason out).update = s.update := by
  unfold State.finish; try dsimp only
  (repeat' split) <;> simp
@[simp] theorem State.finish_nor (s : State) (reason : Nat) (out : Bytes) : (s.finish reason out).nor = s.nor := by
  unfold State.finish; try dsimp only
  (repeat' split) <;> simp
@[simp] theorem State.finish_tag (s : State) (reason : Nat) (out : Bytes) : (s.finish reason out).tag = s.tag := by
  unfold State.finish; try dsimp only
  (repeat' split) <;> simp
@[simp] theorem State.finish_pilot (s : State) (reason : Nat) (out : Bytes) : (s.finish reason out).pilot = s.pilot := by
  unfold State.finish; try dsimp only
  (repeat' split) <;> simp
@[simp] theorem State.finish_sys (s : State) (reason : Nat) (out : Bytes) : (s.finish reason out).sys = s.sys := by
  unfold State.finish; try dsimp only
  (repeat' split) <;> simp
@[simp] theorem State.finish_net (s : State) (reason : Nat) (out : Bytes) : (s.finish reason out).net = s.net := by
  unfold State.finish; try dsimp only
  (repeat' split) <;> simp
@[simp] theorem State.finish_pwr (s : State) (reason : Nat) (out : Bytes) : (s.finish reason out).pwr = s.pwr := by
  unfold State.finish; try dsimp only
  (repeat' split) <;> simp
@[simp] theorem State.finish_tim (s : State) (reason : Nat) (out : Bytes) : (s.finish reason out).tim = s.tim := by
  unfold State.finish; try dsimp only
  (repeat' split) <;> simp
@[simp] theorem State.finish_sto (s : State) (reason : Nat) (out : Bytes) : (s.finish reason out).sto = s.sto := by
  unfold State.finish; try dsimp only
  (repeat' split) <;> simp
@[simp] theorem State.finish_keys (s : State) (reason : Nat) (out : Bytes) : (s.finish reason out).keys = s.keys := by
  unfold State.finish; try dsimp only
  (repeat' split) <;> simp
@[simp] theorem State.finish_upd (s : State) (reason : Nat) (out : Bytes) : (s.finish reason out).upd = s.upd := by
  unfold State.finish; try dsimp only
  (repeat' split) <;> simp
@[simp] theorem State.finish_tok (s : State) (reason : Nat) (out : Bytes) : (s.finish reason out).tok = s.tok := by
  unfold State.finish; try dsimp only
  (repeat' split) <;> simp
@[simp] theorem State.finish_lf (s : State) (reason : Nat) (out : Bytes) : (s.finish reason out).lf = s.lf := by
  unfold State.finish; try dsimp only
  (repeat' split) <;> simp
@[simp] theorem State.finish_rf (s : State) (reason : Nat) (out : Bytes) : (s.finish reason out).rf = s.rf := by
  unfold State.finish; try dsimp only
  (repeat' split) <;> simp
@[simp] theorem State.finish_rng (s : State) (reason : Nat) (out : Bytes) : (s.finish reason out).rng = s.rng := by
  unfold State.finish; try dsimp only
  (repeat' split) <;> simp
@[simp] theorem State.finish_rel (s : State) (reason : Nat) (out : Bytes) : (s.finish reason out).rel = s.rel := by
  unfold State.finish; try dsimp only
  (repeat' split) <;> simp
@[simp] theorem State.finish_sym (s : State) (reason : Nat) (out : Bytes) : (s.finish reason out).sym = s.sym := by
  unfold State.finish; try dsimp only
  (repeat' split) <;> simp
@[simp] theorem State.finish_nfc (s : State) (reason : Nat) (out : Bytes) : (s.finish reason out).nfc = s.nfc := by
  unfold State.finish; try dsimp only
  (repeat' split) <;> simp

@[simp] theorem State.enqueue_pending (s : State) (c : MbCmd) : (s.enqueue c).pending = s.pending := by
  unfold State.enqueue; try dsimp only
  (repeat' split) <;> simp
@[simp] theorem State.enqueue_mt (s : State) (c : MbCmd) : (s.enqueue c).mt = s.mt := by
  unfold State.enqueue; try dsimp only
  (repeat' split) <;> simp
@[simp] theorem State.enqueue_draws (s : State) (c : MbCmd) : (s.enqueue c).draws = s.draws := by
  unfold State.enqueue; try dsimp only
  (repeat' split) <;> simp
@[simp] theorem State.enqueue_fuses (s : State) (c : MbCmd) : (s.enqueue c).fuses = s.fuses := by
  unfold State.enqueue; try dsimp only
  (repeat' split) <;> simp
@[simp] theorem State.enqueue_vault (s : State) (c : MbCmd) : (s.enqueue c).vault = s.vault := by
  unfold State.enqueue; try dsimp only
  (repeat' split) <;> simp
@[simp] theorem State.enqueue_nand (s : State) (c : MbCmd) : (s.enqueue c).nand = s.nand := by
  unfold State.enqueue; try dsimp only
  (repeat' split) <;> simp
@[simp] theorem State.enqueue_update (s : State) (c : MbCmd) : (s.enqueue c).update = s.update := by
  unfold State.enqueue; try dsimp only
  (repeat' split) <;> simp
@[simp] theorem State.enqueue_nor (s : State) (c : MbCmd) : (s.enqueue c).nor = s.nor := by
  unfold State.enqueue; try dsimp only
  (repeat' split) <;> simp
@[simp] theorem State.enqueue_tag (s : State) (c : MbCmd) : (s.enqueue c).tag = s.tag := by
  unfold State.enqueue; try dsimp only
  (repeat' split) <;> simp
@[simp] theorem State.enqueue_pilot (s : State) (c : MbCmd) : (s.enqueue c).pilot = s.pilot := by
  unfold State.enqueue; try dsimp only
  (repeat' split) <;> simp
@[simp] theorem State.enqueue_sys (s : State) (c : MbCmd) : (s.enqueue c).sys = s.sys := by
  unfold State.enqueue; try dsimp only
  (repeat' split) <;> simp
@[simp] theorem State.enqueue_net (s : State) (c : MbCmd) : (s.enqueue c).net = s.net := by
  unfold State.enqueue; try dsimp only
  (repeat' split) <;> simp
@[simp] theorem State.enqueue_pwr (s : State) (c : MbCmd) : (s.enqueue c).pwr = s.pwr := by
  unfold State.enqueue; try dsimp only
  (repeat' split) <;> simp
@[simp] theorem State.enqueue_tim (s : State) (c : MbCmd) : (s.enqueue c).tim = s.tim := by
  unfold State.enqueue; try dsimp only
  (repeat' split) <;> simp
@[simp] theorem State.enqueue_sto (s : State) (c : MbCmd) : (s.enqueue c).sto = s.sto := by
  unfold State.enqueue; try dsimp only
  (repeat' split) <;> simp
@[simp] theorem State.enqueue_keys (s : State) (c : MbCmd) : (s.enqueue c).keys = s.keys := by
  unfold State.enqueue; try dsimp only
  (repeat' split) <;> simp
@[simp] theorem State.enqueue_upd (s : State) (c : MbCmd) : (s.enqueue c).upd = s.upd := by
  unfold State.enqueue; try dsimp only
  (repeat' split) <;> simp
@[simp] theorem State.enqueue_tok (s : State) (c : MbCmd) : (s.enqueue c).tok = s.tok := by
  unfold State.enqueue; try dsimp only
  (repeat' split) <;> simp
@[simp] theorem State.enqueue_lf (s : State) (c : MbCmd) : (s.enqueue c).lf = s.lf := by
  unfold State.enqueue; try dsimp only
  (repeat' split) <;> simp
@[simp] theorem State.enqueue_rf (s : State) (c : MbCmd) : (s.enqueue c).rf = s.rf := by
  unfold State.enqueue; try dsimp only
  (repeat' split) <;> simp
@[simp] theorem State.enqueue_rng (s : State) (c : MbCmd) : (s.enqueue c).rng = s.rng := by
  unfold State.enqueue; try dsimp only
  (repeat' split) <;> simp
@[simp] theorem State.enqueue_rel (s : State) (c : MbCmd) : (s.enqueue c).rel = s.rel := by
  unfold State.enqueue; try dsimp only
  (repeat' split) <;> simp
@[simp] theorem State.enqueue_sym (s : State) (c : MbCmd) : (s.enqueue c).sym = s.sym := by
  unfold State.enqueue; try dsimp only
  (repeat' split) <;> simp
@[simp] theorem State.enqueue_nfc (s : State) (c : MbCmd) : (s.enqueue c).nfc = s.nfc := by
  unfold State.enqueue; try dsimp only
  (repeat' split) <;> simp

@[simp] theorem State.refuseMessage_pending (s : State) : s.refuseMessage.pending = s.pending := by
  unfold State.refuseMessage; try dsimp only
  (repeat' split) <;> simp
@[simp] theorem State.refuseMessage_mt (s : State) : s.refuseMessage.mt = s.mt := by
  unfold State.refuseMessage; try dsimp only
  (repeat' split) <;> simp
@[simp] theorem State.refuseMessage_draws (s : State) : s.refuseMessage.draws = s.draws := by
  unfold State.refuseMessage; try dsimp only
  (repeat' split) <;> simp
@[simp] theorem State.refuseMessage_fuses (s : State) : s.refuseMessage.fuses = s.fuses := by
  unfold State.refuseMessage; try dsimp only
  (repeat' split) <;> simp
@[simp] theorem State.refuseMessage_vault (s : State) : s.refuseMessage.vault = s.vault := by
  unfold State.refuseMessage; try dsimp only
  (repeat' split) <;> simp
@[simp] theorem State.refuseMessage_nand (s : State) : s.refuseMessage.nand = s.nand := by
  unfold State.refuseMessage; try dsimp only
  (repeat' split) <;> simp
@[simp] theorem State.refuseMessage_update (s : State) : s.refuseMessage.update = s.update := by
  unfold State.refuseMessage; try dsimp only
  (repeat' split) <;> simp
@[simp] theorem State.refuseMessage_nor (s : State) : s.refuseMessage.nor = s.nor := by
  unfold State.refuseMessage; try dsimp only
  (repeat' split) <;> simp
@[simp] theorem State.refuseMessage_tag (s : State) : s.refuseMessage.tag = s.tag := by
  unfold State.refuseMessage; try dsimp only
  (repeat' split) <;> simp
@[simp] theorem State.refuseMessage_pilot (s : State) : s.refuseMessage.pilot = s.pilot := by
  unfold State.refuseMessage; try dsimp only
  (repeat' split) <;> simp
@[simp] theorem State.refuseMessage_sys (s : State) : s.refuseMessage.sys = s.sys := by
  unfold State.refuseMessage; try dsimp only
  (repeat' split) <;> simp
@[simp] theorem State.refuseMessage_net (s : State) : s.refuseMessage.net = s.net := by
  unfold State.refuseMessage; try dsimp only
  (repeat' split) <;> simp
@[simp] theorem State.refuseMessage_pwr (s : State) : s.refuseMessage.pwr = s.pwr := by
  unfold State.refuseMessage; try dsimp only
  (repeat' split) <;> simp
@[simp] theorem State.refuseMessage_tim (s : State) : s.refuseMessage.tim = s.tim := by
  unfold State.refuseMessage; try dsimp only
  (repeat' split) <;> simp
@[simp] theorem State.refuseMessage_sto (s : State) : s.refuseMessage.sto = s.sto := by
  unfold State.refuseMessage; try dsimp only
  (repeat' split) <;> simp
@[simp] theorem State.refuseMessage_keys (s : State) : s.refuseMessage.keys = s.keys := by
  unfold State.refuseMessage; try dsimp only
  (repeat' split) <;> simp
@[simp] theorem State.refuseMessage_upd (s : State) : s.refuseMessage.upd = s.upd := by
  unfold State.refuseMessage; try dsimp only
  (repeat' split) <;> simp
@[simp] theorem State.refuseMessage_hif (s : State) : s.refuseMessage.hif = s.hif := by
  unfold State.refuseMessage; try dsimp only
  (repeat' split) <;> simp
@[simp] theorem State.refuseMessage_tok (s : State) : s.refuseMessage.tok = s.tok := by
  unfold State.refuseMessage; try dsimp only
  (repeat' split) <;> simp
@[simp] theorem State.refuseMessage_lf (s : State) : s.refuseMessage.lf = s.lf := by
  unfold State.refuseMessage; try dsimp only
  (repeat' split) <;> simp
@[simp] theorem State.refuseMessage_rf (s : State) : s.refuseMessage.rf = s.rf := by
  unfold State.refuseMessage; try dsimp only
  (repeat' split) <;> simp
@[simp] theorem State.refuseMessage_rng (s : State) : s.refuseMessage.rng = s.rng := by
  unfold State.refuseMessage; try dsimp only
  (repeat' split) <;> simp
@[simp] theorem State.refuseMessage_rel (s : State) : s.refuseMessage.rel = s.rel := by
  unfold State.refuseMessage; try dsimp only
  (repeat' split) <;> simp
@[simp] theorem State.refuseMessage_sym (s : State) : s.refuseMessage.sym = s.sym := by
  unfold State.refuseMessage; try dsimp only
  (repeat' split) <;> simp
@[simp] theorem State.refuseMessage_nfc (s : State) : s.refuseMessage.nfc = s.nfc := by
  unfold State.refuseMessage; try dsimp only
  (repeat' split) <;> simp

@[simp] theorem State.setIsland_pending (s : State) (i v : Nat) : (s.setIsland i v).pending = s.pending := by
  unfold State.setIsland; try dsimp only
  (repeat' split) <;> simp
@[simp] theorem State.setIsland_mt (s : State) (i v : Nat) : (s.setIsland i v).mt = s.mt := by
  unfold State.setIsland; try dsimp only
  (repeat' split) <;> simp
@[simp] theorem State.setIsland_draws (s : State) (i v : Nat) : (s.setIsland i v).draws = s.draws := by
  unfold State.setIsland; try dsimp only
  (repeat' split) <;> simp
@[simp] theorem State.setIsland_fuses (s : State) (i v : Nat) : (s.setIsland i v).fuses = s.fuses := by
  unfold State.setIsland; try dsimp only
  (repeat' split) <;> simp
@[simp] theorem State.setIsland_vault (s : State) (i v : Nat) : (s.setIsland i v).vault = s.vault := by
  unfold State.setIsland; try dsimp only
  (repeat' split) <;> simp
@[simp] theorem State.setIsland_nand (s : State) (i v : Nat) : (s.setIsland i v).nand = s.nand := by
  unfold State.setIsland; try dsimp only
  (repeat' split) <;> simp
@[simp] theorem State.setIsland_update (s : State) (i v : Nat) : (s.setIsland i v).update = s.update := by
  unfold State.setIsland; try dsimp only
  (repeat' split) <;> simp
@[simp] theorem State.setIsland_nor (s : State) (i v : Nat) : (s.setIsland i v).nor = s.nor := by
  unfold State.setIsland; try dsimp only
  (repeat' split) <;> simp
@[simp] theorem State.setIsland_tag (s : State) (i v : Nat) : (s.setIsland i v).tag = s.tag := by
  unfold State.setIsland; try dsimp only
  (repeat' split) <;> simp
@[simp] theorem State.setIsland_pilot (s : State) (i v : Nat) : (s.setIsland i v).pilot = s.pilot := by
  unfold State.setIsland; try dsimp only
  (repeat' split) <;> simp
@[simp] theorem State.setIsland_sys (s : State) (i v : Nat) : (s.setIsland i v).sys = s.sys := by
  unfold State.setIsland; try dsimp only
  (repeat' split) <;> simp
@[simp] theorem State.setIsland_net (s : State) (i v : Nat) : (s.setIsland i v).net = s.net := by
  unfold State.setIsland; try dsimp only
  (repeat' split) <;> simp
@[simp] theorem State.setIsland_pwr (s : State) (i v : Nat) : (s.setIsland i v).pwr = s.pwr := by
  unfold State.setIsland; try dsimp only
  (repeat' split) <;> simp
@[simp] theorem State.setIsland_tim (s : State) (i v : Nat) : (s.setIsland i v).tim = s.tim := by
  unfold State.setIsland; try dsimp only
  (repeat' split) <;> simp
@[simp] theorem State.setIsland_sto (s : State) (i v : Nat) : (s.setIsland i v).sto = s.sto := by
  unfold State.setIsland; try dsimp only
  (repeat' split) <;> simp
@[simp] theorem State.setIsland_keys (s : State) (i v : Nat) : (s.setIsland i v).keys = s.keys := by
  unfold State.setIsland; try dsimp only
  (repeat' split) <;> simp
@[simp] theorem State.setIsland_upd (s : State) (i v : Nat) : (s.setIsland i v).upd = s.upd := by
  unfold State.setIsland; try dsimp only
  (repeat' split) <;> simp
@[simp] theorem State.setIsland_hif (s : State) (i v : Nat) : (s.setIsland i v).hif = s.hif := by
  unfold State.setIsland; try dsimp only
  (repeat' split) <;> simp
@[simp] theorem State.setIsland_tok (s : State) (i v : Nat) : (s.setIsland i v).tok = s.tok := by
  unfold State.setIsland; try dsimp only
  (repeat' split) <;> simp
@[simp] theorem State.setIsland_lf (s : State) (i v : Nat) : (s.setIsland i v).lf = s.lf := by
  unfold State.setIsland; try dsimp only
  (repeat' split) <;> simp
@[simp] theorem State.setIsland_rf (s : State) (i v : Nat) : (s.setIsland i v).rf = s.rf := by
  unfold State.setIsland; try dsimp only
  (repeat' split) <;> simp
@[simp] theorem State.setIsland_rng (s : State) (i v : Nat) : (s.setIsland i v).rng = s.rng := by
  unfold State.setIsland; try dsimp only
  (repeat' split) <;> simp
@[simp] theorem State.setIsland_rel (s : State) (i v : Nat) : (s.setIsland i v).rel = s.rel := by
  unfold State.setIsland; try dsimp only
  (repeat' split) <;> simp
@[simp] theorem State.setIsland_sym (s : State) (i v : Nat) : (s.setIsland i v).sym = s.sym := by
  unfold State.setIsland; try dsimp only
  (repeat' split) <;> simp
@[simp] theorem State.setIsland_nfc (s : State) (i v : Nat) : (s.setIsland i v).nfc = s.nfc := by
  unfold State.setIsland; try dsimp only
  (repeat' split) <;> simp

@[simp] theorem State.ntNap_pending (s : State) : s.ntNap.pending = s.pending := rfl
@[simp] theorem State.ntNap_mt (s : State) : s.ntNap.mt = s.mt := rfl
@[simp] theorem State.ntNap_draws (s : State) : s.ntNap.draws = s.draws := rfl
@[simp] theorem State.ntNap_regs (s : State) : s.ntNap.regs = s.regs := rfl
@[simp] theorem State.ntNap_fuses (s : State) : s.ntNap.fuses = s.fuses := rfl
@[simp] theorem State.ntNap_vault (s : State) : s.ntNap.vault = s.vault := rfl
@[simp] theorem State.ntNap_nand (s : State) : s.ntNap.nand = s.nand := rfl
@[simp] theorem State.ntNap_update (s : State) : s.ntNap.update = s.update := rfl
@[simp] theorem State.ntNap_nor (s : State) : s.ntNap.nor = s.nor := rfl
@[simp] theorem State.ntNap_tag (s : State) : s.ntNap.tag = s.tag := rfl
@[simp] theorem State.ntNap_pilot (s : State) : s.ntNap.pilot = s.pilot := rfl
@[simp] theorem State.ntNap_sys (s : State) : s.ntNap.sys = s.sys := rfl
@[simp] theorem State.ntNap_net (s : State) : s.ntNap.net = s.net := rfl
@[simp] theorem State.ntNap_pwr (s : State) : s.ntNap.pwr = s.pwr := rfl
@[simp] theorem State.ntNap_sto (s : State) : s.ntNap.sto = s.sto := rfl
@[simp] theorem State.ntNap_keys (s : State) : s.ntNap.keys = s.keys := rfl
@[simp] theorem State.ntNap_upd (s : State) : s.ntNap.upd = s.upd := rfl
@[simp] theorem State.ntNap_hif (s : State) : s.ntNap.hif = s.hif := rfl
@[simp] theorem State.ntNap_tok (s : State) : s.ntNap.tok = s.tok := rfl
@[simp] theorem State.ntNap_lf (s : State) : s.ntNap.lf = s.lf := rfl
@[simp] theorem State.ntNap_rf (s : State) : s.ntNap.rf = s.rf := rfl
@[simp] theorem State.ntNap_rng (s : State) : s.ntNap.rng = s.rng := rfl
@[simp] theorem State.ntNap_rel (s : State) : s.ntNap.rel = s.rel := rfl
@[simp] theorem State.ntNap_sym (s : State) : s.ntNap.sym = s.sym := rfl
@[simp] theorem State.ntNap_nfc (s : State) : s.ntNap.nfc = s.nfc := rfl

@[simp] theorem State.followShared_pending (s : State) : s.followShared.pending = s.pending := by
  unfold State.followShared; try dsimp only
  (repeat' split) <;> simp
@[simp] theorem State.followShared_mt (s : State) : s.followShared.mt = s.mt := by
  unfold State.followShared; try dsimp only
  (repeat' split) <;> simp
@[simp] theorem State.followShared_draws (s : State) : s.followShared.draws = s.draws := by
  unfold State.followShared; try dsimp only
  (repeat' split) <;> simp
@[simp] theorem State.followShared_fuses (s : State) : s.followShared.fuses = s.fuses := by
  unfold State.followShared; try dsimp only
  (repeat' split) <;> simp
@[simp] theorem State.followShared_vault (s : State) : s.followShared.vault = s.vault := by
  unfold State.followShared; try dsimp only
  (repeat' split) <;> simp
@[simp] theorem State.followShared_nand (s : State) : s.followShared.nand = s.nand := by
  unfold State.followShared; try dsimp only
  (repeat' split) <;> simp
@[simp] theorem State.followShared_update (s : State) : s.followShared.update = s.update := by
  unfold State.followShared; try dsimp only
  (repeat' split) <;> simp
@[simp] theorem State.followShared_nor (s : State) : s.followShared.nor = s.nor := by
  unfold State.followShared; try dsimp only
  (repeat' split) <;> simp
@[simp] theorem State.followShared_tag (s : State) : s.followShared.tag = s.tag := by
  unfold State.followShared; try dsimp only
  (repeat' split) <;> simp
@[simp] theorem State.followShared_pilot (s : State) : s.followShared.pilot = s.pilot := by
  unfold State.followShared; try dsimp only
  (repeat' split) <;> simp
@[simp] theorem State.followShared_sys (s : State) : s.followShared.sys = s.sys := by
  unfold State.followShared; try dsimp only
  (repeat' split) <;> simp
@[simp] theorem State.followShared_net (s : State) : s.followShared.net = s.net := by
  unfold State.followShared; try dsimp only
  (repeat' split) <;> simp
@[simp] theorem State.followShared_pwr (s : State) : s.followShared.pwr = s.pwr := by
  unfold State.followShared; try dsimp only
  (repeat' split) <;> simp
@[simp] theorem State.followShared_tim (s : State) : s.followShared.tim = s.tim := by
  unfold State.followShared; try dsimp only
  (repeat' split) <;> simp
@[simp] theorem State.followShared_sto (s : State) : s.followShared.sto = s.sto := by
  unfold State.followShared; try dsimp only
  (repeat' split) <;> simp
@[simp] theorem State.followShared_keys (s : State) : s.followShared.keys = s.keys := by
  unfold State.followShared; try dsimp only
  (repeat' split) <;> simp
@[simp] theorem State.followShared_upd (s : State) : s.followShared.upd = s.upd := by
  unfold State.followShared; try dsimp only
  (repeat' split) <;> simp
@[simp] theorem State.followShared_hif (s : State) : s.followShared.hif = s.hif := by
  unfold State.followShared; try dsimp only
  (repeat' split) <;> simp
@[simp] theorem State.followShared_tok (s : State) : s.followShared.tok = s.tok := by
  unfold State.followShared; try dsimp only
  (repeat' split) <;> simp
@[simp] theorem State.followShared_lf (s : State) : s.followShared.lf = s.lf := by
  unfold State.followShared; try dsimp only
  (repeat' split) <;> simp
@[simp] theorem State.followShared_rf (s : State) : s.followShared.rf = s.rf := by
  unfold State.followShared; try dsimp only
  (repeat' split) <;> simp
@[simp] theorem State.followShared_rng (s : State) : s.followShared.rng = s.rng := by
  unfold State.followShared; try dsimp only
  (repeat' split) <;> simp
@[simp] theorem State.followShared_rel (s : State) : s.followShared.rel = s.rel := by
  unfold State.followShared; try dsimp only
  (repeat' split) <;> simp
@[simp] theorem State.followShared_sym (s : State) : s.followShared.sym = s.sym := by
  unfold State.followShared; try dsimp only
  (repeat' split) <;> simp
@[simp] theorem State.followShared_nfc (s : State) : s.followShared.nfc = s.nfc := by
  unfold State.followShared; try dsimp only
  (repeat' split) <;> simp

@[simp] theorem State.voteless_pending (s : State) (i : Nat) : (s.voteless i).pending = s.pending := by
  unfold State.voteless; try dsimp only
  (repeat' split) <;> simp [State.synLock, State.rfState]
@[simp] theorem State.voteless_mt (s : State) (i : Nat) : (s.voteless i).mt = s.mt := by
  unfold State.voteless; try dsimp only
  (repeat' split) <;> simp [State.synLock, State.rfState]
@[simp] theorem State.voteless_draws (s : State) (i : Nat) : (s.voteless i).draws = s.draws := by
  unfold State.voteless; try dsimp only
  (repeat' split) <;> simp [State.synLock, State.rfState]
@[simp] theorem State.voteless_fuses (s : State) (i : Nat) : (s.voteless i).fuses = s.fuses := by
  unfold State.voteless; try dsimp only
  (repeat' split) <;> simp [State.synLock, State.rfState]
@[simp] theorem State.voteless_vault (s : State) (i : Nat) : (s.voteless i).vault = s.vault := by
  unfold State.voteless; try dsimp only
  (repeat' split) <;> simp [State.synLock, State.rfState]
@[simp] theorem State.voteless_nand (s : State) (i : Nat) : (s.voteless i).nand = s.nand := by
  unfold State.voteless; try dsimp only
  (repeat' split) <;> simp [State.synLock, State.rfState]
@[simp] theorem State.voteless_update (s : State) (i : Nat) : (s.voteless i).update = s.update := by
  unfold State.voteless; try dsimp only
  (repeat' split) <;> simp [State.synLock, State.rfState]
@[simp] theorem State.voteless_nor (s : State) (i : Nat) : (s.voteless i).nor = s.nor := by
  unfold State.voteless; try dsimp only
  (repeat' split) <;> simp [State.synLock, State.rfState]
@[simp] theorem State.voteless_tag (s : State) (i : Nat) : (s.voteless i).tag = s.tag := by
  unfold State.voteless; try dsimp only
  (repeat' split) <;> simp [State.synLock, State.rfState]
@[simp] theorem State.voteless_pilot (s : State) (i : Nat) : (s.voteless i).pilot = s.pilot := by
  unfold State.voteless; try dsimp only
  (repeat' split) <;> simp [State.synLock, State.rfState]
@[simp] theorem State.voteless_sys (s : State) (i : Nat) : (s.voteless i).sys = s.sys := by
  unfold State.voteless; try dsimp only
  (repeat' split) <;> simp [State.synLock, State.rfState]
@[simp] theorem State.voteless_net (s : State) (i : Nat) : (s.voteless i).net = s.net := by
  unfold State.voteless; try dsimp only
  (repeat' split) <;> simp [State.synLock, State.rfState]
@[simp] theorem State.voteless_pwr (s : State) (i : Nat) : (s.voteless i).pwr = s.pwr := by
  unfold State.voteless; try dsimp only
  (repeat' split) <;> simp [State.synLock, State.rfState]
@[simp] theorem State.voteless_tim (s : State) (i : Nat) : (s.voteless i).tim = s.tim := by
  unfold State.voteless; try dsimp only
  (repeat' split) <;> simp [State.synLock, State.rfState]
@[simp] theorem State.voteless_sto (s : State) (i : Nat) : (s.voteless i).sto = s.sto := by
  unfold State.voteless; try dsimp only
  (repeat' split) <;> simp [State.synLock, State.rfState]
@[simp] theorem State.voteless_keys (s : State) (i : Nat) : (s.voteless i).keys = s.keys := by
  unfold State.voteless; try dsimp only
  (repeat' split) <;> simp [State.synLock, State.rfState]
@[simp] theorem State.voteless_upd (s : State) (i : Nat) : (s.voteless i).upd = s.upd := by
  unfold State.voteless; try dsimp only
  (repeat' split) <;> simp [State.synLock, State.rfState]
@[simp] theorem State.voteless_hif (s : State) (i : Nat) : (s.voteless i).hif = s.hif := by
  unfold State.voteless; try dsimp only
  (repeat' split) <;> simp [State.synLock, State.rfState]
@[simp] theorem State.voteless_tok (s : State) (i : Nat) : (s.voteless i).tok = s.tok := by
  unfold State.voteless; try dsimp only
  (repeat' split) <;> simp [State.synLock, State.rfState]
@[simp] theorem State.voteless_lf (s : State) (i : Nat) : (s.voteless i).lf = s.lf := by
  unfold State.voteless; try dsimp only
  (repeat' split) <;> simp [State.synLock, State.rfState]
@[simp] theorem State.voteless_rf (s : State) (i : Nat) : (s.voteless i).rf = s.rf := by
  unfold State.voteless; try dsimp only
  (repeat' split) <;> simp [State.synLock, State.rfState]
@[simp] theorem State.voteless_rng (s : State) (i : Nat) : (s.voteless i).rng = s.rng := by
  unfold State.voteless; try dsimp only
  (repeat' split) <;> simp [State.synLock, State.rfState]
@[simp] theorem State.voteless_rel (s : State) (i : Nat) : (s.voteless i).rel = s.rel := by
  unfold State.voteless; try dsimp only
  (repeat' split) <;> simp [State.synLock, State.rfState]
@[simp] theorem State.voteless_sym (s : State) (i : Nat) : (s.voteless i).sym = s.sym := by
  unfold State.voteless; try dsimp only
  (repeat' split) <;> simp [State.synLock, State.rfState]
@[simp] theorem State.voteless_nfc (s : State) (i : Nat) : (s.voteless i).nfc = s.nfc := by
  unfold State.voteless; try dsimp only
  (repeat' split) <;> simp [State.synLock, State.rfState]

@[simp] theorem State.islandTo_pending (s : State) (i v : Nat) : (s.islandTo i v).pending = s.pending := by
  unfold State.islandTo; try dsimp only
  (repeat' split) <;> simp
@[simp] theorem State.islandTo_mt (s : State) (i v : Nat) : (s.islandTo i v).mt = s.mt := by
  unfold State.islandTo; try dsimp only
  (repeat' split) <;> simp
@[simp] theorem State.islandTo_draws (s : State) (i v : Nat) : (s.islandTo i v).draws = s.draws := by
  unfold State.islandTo; try dsimp only
  (repeat' split) <;> simp
@[simp] theorem State.islandTo_fuses (s : State) (i v : Nat) : (s.islandTo i v).fuses = s.fuses := by
  unfold State.islandTo; try dsimp only
  (repeat' split) <;> simp
@[simp] theorem State.islandTo_vault (s : State) (i v : Nat) : (s.islandTo i v).vault = s.vault := by
  unfold State.islandTo; try dsimp only
  (repeat' split) <;> simp
@[simp] theorem State.islandTo_nand (s : State) (i v : Nat) : (s.islandTo i v).nand = s.nand := by
  unfold State.islandTo; try dsimp only
  (repeat' split) <;> simp
@[simp] theorem State.islandTo_update (s : State) (i v : Nat) : (s.islandTo i v).update = s.update := by
  unfold State.islandTo; try dsimp only
  (repeat' split) <;> simp
@[simp] theorem State.islandTo_nor (s : State) (i v : Nat) : (s.islandTo i v).nor = s.nor := by
  unfold State.islandTo; try dsimp only
  (repeat' split) <;> simp
@[simp] theorem State.islandTo_tag (s : State) (i v : Nat) : (s.islandTo i v).tag = s.tag := by
  unfold State.islandTo; try dsimp only
  (repeat' split) <;> simp
@[simp] theorem State.islandTo_pilot (s : State) (i v : Nat) : (s.islandTo i v).pilot = s.pilot := by
  unfold State.islandTo; try dsimp only
  (repeat' split) <;> simp
@[simp] theorem State.islandTo_sys (s : State) (i v : Nat) : (s.islandTo i v).sys = s.sys := by
  unfold State.islandTo; try dsimp only
  (repeat' split) <;> simp
@[simp] theorem State.islandTo_net (s : State) (i v : Nat) : (s.islandTo i v).net = s.net := by
  unfold State.islandTo; try dsimp only
  (repeat' split) <;> simp
@[simp] theorem State.islandTo_pwr (s : State) (i v : Nat) : (s.islandTo i v).pwr = s.pwr := by
  unfold State.islandTo; try dsimp only
  (repeat' split) <;> simp
@[simp] theorem State.islandTo_sto (s : State) (i v : Nat) : (s.islandTo i v).sto = s.sto := by
  unfold State.islandTo; try dsimp only
  (repeat' split) <;> simp
@[simp] theorem State.islandTo_keys (s : State) (i v : Nat) : (s.islandTo i v).keys = s.keys := by
  unfold State.islandTo; try dsimp only
  (repeat' split) <;> simp
@[simp] theorem State.islandTo_upd (s : State) (i v : Nat) : (s.islandTo i v).upd = s.upd := by
  unfold State.islandTo; try dsimp only
  (repeat' split) <;> simp
@[simp] theorem State.islandTo_hif (s : State) (i v : Nat) : (s.islandTo i v).hif = s.hif := by
  unfold State.islandTo; try dsimp only
  (repeat' split) <;> simp
@[simp] theorem State.islandTo_tok (s : State) (i v : Nat) : (s.islandTo i v).tok = s.tok := by
  unfold State.islandTo; try dsimp only
  (repeat' split) <;> simp
@[simp] theorem State.islandTo_lf (s : State) (i v : Nat) : (s.islandTo i v).lf = s.lf := by
  unfold State.islandTo; try dsimp only
  (repeat' split) <;> simp
@[simp] theorem State.islandTo_rf (s : State) (i v : Nat) : (s.islandTo i v).rf = s.rf := by
  unfold State.islandTo; try dsimp only
  (repeat' split) <;> simp
@[simp] theorem State.islandTo_rng (s : State) (i v : Nat) : (s.islandTo i v).rng = s.rng := by
  unfold State.islandTo; try dsimp only
  (repeat' split) <;> simp
@[simp] theorem State.islandTo_rel (s : State) (i v : Nat) : (s.islandTo i v).rel = s.rel := by
  unfold State.islandTo; try dsimp only
  (repeat' split) <;> simp
@[simp] theorem State.islandTo_sym (s : State) (i v : Nat) : (s.islandTo i v).sym = s.sym := by
  unfold State.islandTo; try dsimp only
  (repeat' split) <;> simp
@[simp] theorem State.islandTo_nfc (s : State) (i v : Nat) : (s.islandTo i v).nfc = s.nfc := by
  unfold State.islandTo; try dsimp only
  (repeat' split) <;> simp

@[simp] theorem State.beginDrop_pending (s : State) (i : Nat) : (s.beginDrop i).pending = s.pending := by
  unfold State.beginDrop; try dsimp only
  (repeat' split) <;> simp
@[simp] theorem State.beginDrop_mt (s : State) (i : Nat) : (s.beginDrop i).mt = s.mt := by
  unfold State.beginDrop; try dsimp only
  (repeat' split) <;> simp
@[simp] theorem State.beginDrop_draws (s : State) (i : Nat) : (s.beginDrop i).draws = s.draws := by
  unfold State.beginDrop; try dsimp only
  (repeat' split) <;> simp
@[simp] theorem State.beginDrop_fuses (s : State) (i : Nat) : (s.beginDrop i).fuses = s.fuses := by
  unfold State.beginDrop; try dsimp only
  (repeat' split) <;> simp
@[simp] theorem State.beginDrop_vault (s : State) (i : Nat) : (s.beginDrop i).vault = s.vault := by
  unfold State.beginDrop; try dsimp only
  (repeat' split) <;> simp
@[simp] theorem State.beginDrop_nand (s : State) (i : Nat) : (s.beginDrop i).nand = s.nand := by
  unfold State.beginDrop; try dsimp only
  (repeat' split) <;> simp
@[simp] theorem State.beginDrop_update (s : State) (i : Nat) : (s.beginDrop i).update = s.update := by
  unfold State.beginDrop; try dsimp only
  (repeat' split) <;> simp
@[simp] theorem State.beginDrop_nor (s : State) (i : Nat) : (s.beginDrop i).nor = s.nor := by
  unfold State.beginDrop; try dsimp only
  (repeat' split) <;> simp
@[simp] theorem State.beginDrop_tag (s : State) (i : Nat) : (s.beginDrop i).tag = s.tag := by
  unfold State.beginDrop; try dsimp only
  (repeat' split) <;> simp
@[simp] theorem State.beginDrop_pilot (s : State) (i : Nat) : (s.beginDrop i).pilot = s.pilot := by
  unfold State.beginDrop; try dsimp only
  (repeat' split) <;> simp
@[simp] theorem State.beginDrop_sys (s : State) (i : Nat) : (s.beginDrop i).sys = s.sys := by
  unfold State.beginDrop; try dsimp only
  (repeat' split) <;> simp
@[simp] theorem State.beginDrop_net (s : State) (i : Nat) : (s.beginDrop i).net = s.net := by
  unfold State.beginDrop; try dsimp only
  (repeat' split) <;> simp
@[simp] theorem State.beginDrop_sto (s : State) (i : Nat) : (s.beginDrop i).sto = s.sto := by
  unfold State.beginDrop; try dsimp only
  (repeat' split) <;> simp
@[simp] theorem State.beginDrop_keys (s : State) (i : Nat) : (s.beginDrop i).keys = s.keys := by
  unfold State.beginDrop; try dsimp only
  (repeat' split) <;> simp
@[simp] theorem State.beginDrop_upd (s : State) (i : Nat) : (s.beginDrop i).upd = s.upd := by
  unfold State.beginDrop; try dsimp only
  (repeat' split) <;> simp
@[simp] theorem State.beginDrop_hif (s : State) (i : Nat) : (s.beginDrop i).hif = s.hif := by
  unfold State.beginDrop; try dsimp only
  (repeat' split) <;> simp
@[simp] theorem State.beginDrop_tok (s : State) (i : Nat) : (s.beginDrop i).tok = s.tok := by
  unfold State.beginDrop; try dsimp only
  (repeat' split) <;> simp
@[simp] theorem State.beginDrop_lf (s : State) (i : Nat) : (s.beginDrop i).lf = s.lf := by
  unfold State.beginDrop; try dsimp only
  (repeat' split) <;> simp
@[simp] theorem State.beginDrop_rf (s : State) (i : Nat) : (s.beginDrop i).rf = s.rf := by
  unfold State.beginDrop; try dsimp only
  (repeat' split) <;> simp
@[simp] theorem State.beginDrop_rng (s : State) (i : Nat) : (s.beginDrop i).rng = s.rng := by
  unfold State.beginDrop; try dsimp only
  (repeat' split) <;> simp
@[simp] theorem State.beginDrop_rel (s : State) (i : Nat) : (s.beginDrop i).rel = s.rel := by
  unfold State.beginDrop; try dsimp only
  (repeat' split) <;> simp
@[simp] theorem State.beginDrop_sym (s : State) (i : Nat) : (s.beginDrop i).sym = s.sym := by
  unfold State.beginDrop; try dsimp only
  (repeat' split) <;> simp
@[simp] theorem State.beginDrop_nfc (s : State) (i : Nat) : (s.beginDrop i).nfc = s.nfc := by
  unfold State.beginDrop; try dsimp only
  (repeat' split) <;> simp

@[simp] theorem State.settle_pending (s : State) (i : Nat) : (s.settle i).pending = s.pending := by
  unfold State.settle; try dsimp only
  (repeat' split) <;> simp
@[simp] theorem State.settle_mt (s : State) (i : Nat) : (s.settle i).mt = s.mt := by
  unfold State.settle; try dsimp only
  (repeat' split) <;> simp
@[simp] theorem State.settle_draws (s : State) (i : Nat) : (s.settle i).draws = s.draws := by
  unfold State.settle; try dsimp only
  (repeat' split) <;> simp
@[simp] theorem State.settle_fuses (s : State) (i : Nat) : (s.settle i).fuses = s.fuses := by
  unfold State.settle; try dsimp only
  (repeat' split) <;> simp
@[simp] theorem State.settle_vault (s : State) (i : Nat) : (s.settle i).vault = s.vault := by
  unfold State.settle; try dsimp only
  (repeat' split) <;> simp
@[simp] theorem State.settle_nand (s : State) (i : Nat) : (s.settle i).nand = s.nand := by
  unfold State.settle; try dsimp only
  (repeat' split) <;> simp
@[simp] theorem State.settle_update (s : State) (i : Nat) : (s.settle i).update = s.update := by
  unfold State.settle; try dsimp only
  (repeat' split) <;> simp
@[simp] theorem State.settle_nor (s : State) (i : Nat) : (s.settle i).nor = s.nor := by
  unfold State.settle; try dsimp only
  (repeat' split) <;> simp
@[simp] theorem State.settle_tag (s : State) (i : Nat) : (s.settle i).tag = s.tag := by
  unfold State.settle; try dsimp only
  (repeat' split) <;> simp
@[simp] theorem State.settle_pilot (s : State) (i : Nat) : (s.settle i).pilot = s.pilot := by
  unfold State.settle; try dsimp only
  (repeat' split) <;> simp
@[simp] theorem State.settle_sys (s : State) (i : Nat) : (s.settle i).sys = s.sys := by
  unfold State.settle; try dsimp only
  (repeat' split) <;> simp
@[simp] theorem State.settle_net (s : State) (i : Nat) : (s.settle i).net = s.net := by
  unfold State.settle; try dsimp only
  (repeat' split) <;> simp
@[simp] theorem State.settle_sto (s : State) (i : Nat) : (s.settle i).sto = s.sto := by
  unfold State.settle; try dsimp only
  (repeat' split) <;> simp
@[simp] theorem State.settle_keys (s : State) (i : Nat) : (s.settle i).keys = s.keys := by
  unfold State.settle; try dsimp only
  (repeat' split) <;> simp
@[simp] theorem State.settle_upd (s : State) (i : Nat) : (s.settle i).upd = s.upd := by
  unfold State.settle; try dsimp only
  (repeat' split) <;> simp
@[simp] theorem State.settle_hif (s : State) (i : Nat) : (s.settle i).hif = s.hif := by
  unfold State.settle; try dsimp only
  (repeat' split) <;> simp
@[simp] theorem State.settle_tok (s : State) (i : Nat) : (s.settle i).tok = s.tok := by
  unfold State.settle; try dsimp only
  (repeat' split) <;> simp
@[simp] theorem State.settle_lf (s : State) (i : Nat) : (s.settle i).lf = s.lf := by
  unfold State.settle; try dsimp only
  (repeat' split) <;> simp
@[simp] theorem State.settle_rf (s : State) (i : Nat) : (s.settle i).rf = s.rf := by
  unfold State.settle; try dsimp only
  (repeat' split) <;> simp
@[simp] theorem State.settle_rng (s : State) (i : Nat) : (s.settle i).rng = s.rng := by
  unfold State.settle; try dsimp only
  (repeat' split) <;> simp
@[simp] theorem State.settle_rel (s : State) (i : Nat) : (s.settle i).rel = s.rel := by
  unfold State.settle; try dsimp only
  (repeat' split) <;> simp
@[simp] theorem State.settle_sym (s : State) (i : Nat) : (s.settle i).sym = s.sym := by
  unfold State.settle; try dsimp only
  (repeat' split) <;> simp
@[simp] theorem State.settle_nfc (s : State) (i : Nat) : (s.settle i).nfc = s.nfc := by
  unfold State.settle; try dsimp only
  (repeat' split) <;> simp

@[simp] theorem State.beginRestore_pending (s : State) (i : Nat) : (s.beginRestore i).pending = s.pending := by
  unfold State.beginRestore; try dsimp only
  (repeat' split) <;> simp
@[simp] theorem State.beginRestore_mt (s : State) (i : Nat) : (s.beginRestore i).mt = s.mt := by
  unfold State.beginRestore; try dsimp only
  (repeat' split) <;> simp
@[simp] theorem State.beginRestore_draws (s : State) (i : Nat) : (s.beginRestore i).draws = s.draws := by
  unfold State.beginRestore; try dsimp only
  (repeat' split) <;> simp
@[simp] theorem State.beginRestore_fuses (s : State) (i : Nat) : (s.beginRestore i).fuses = s.fuses := by
  unfold State.beginRestore; try dsimp only
  (repeat' split) <;> simp
@[simp] theorem State.beginRestore_vault (s : State) (i : Nat) : (s.beginRestore i).vault = s.vault := by
  unfold State.beginRestore; try dsimp only
  (repeat' split) <;> simp
@[simp] theorem State.beginRestore_nand (s : State) (i : Nat) : (s.beginRestore i).nand = s.nand := by
  unfold State.beginRestore; try dsimp only
  (repeat' split) <;> simp
@[simp] theorem State.beginRestore_update (s : State) (i : Nat) : (s.beginRestore i).update = s.update := by
  unfold State.beginRestore; try dsimp only
  (repeat' split) <;> simp
@[simp] theorem State.beginRestore_nor (s : State) (i : Nat) : (s.beginRestore i).nor = s.nor := by
  unfold State.beginRestore; try dsimp only
  (repeat' split) <;> simp
@[simp] theorem State.beginRestore_tag (s : State) (i : Nat) : (s.beginRestore i).tag = s.tag := by
  unfold State.beginRestore; try dsimp only
  (repeat' split) <;> simp
@[simp] theorem State.beginRestore_pilot (s : State) (i : Nat) : (s.beginRestore i).pilot = s.pilot := by
  unfold State.beginRestore; try dsimp only
  (repeat' split) <;> simp
@[simp] theorem State.beginRestore_sys (s : State) (i : Nat) : (s.beginRestore i).sys = s.sys := by
  unfold State.beginRestore; try dsimp only
  (repeat' split) <;> simp
@[simp] theorem State.beginRestore_net (s : State) (i : Nat) : (s.beginRestore i).net = s.net := by
  unfold State.beginRestore; try dsimp only
  (repeat' split) <;> simp
@[simp] theorem State.beginRestore_tim (s : State) (i : Nat) : (s.beginRestore i).tim = s.tim := by
  unfold State.beginRestore; try dsimp only
  (repeat' split) <;> simp
@[simp] theorem State.beginRestore_sto (s : State) (i : Nat) : (s.beginRestore i).sto = s.sto := by
  unfold State.beginRestore; try dsimp only
  (repeat' split) <;> simp
@[simp] theorem State.beginRestore_keys (s : State) (i : Nat) : (s.beginRestore i).keys = s.keys := by
  unfold State.beginRestore; try dsimp only
  (repeat' split) <;> simp
@[simp] theorem State.beginRestore_upd (s : State) (i : Nat) : (s.beginRestore i).upd = s.upd := by
  unfold State.beginRestore; try dsimp only
  (repeat' split) <;> simp
@[simp] theorem State.beginRestore_hif (s : State) (i : Nat) : (s.beginRestore i).hif = s.hif := by
  unfold State.beginRestore; try dsimp only
  (repeat' split) <;> simp
@[simp] theorem State.beginRestore_tok (s : State) (i : Nat) : (s.beginRestore i).tok = s.tok := by
  unfold State.beginRestore; try dsimp only
  (repeat' split) <;> simp
@[simp] theorem State.beginRestore_lf (s : State) (i : Nat) : (s.beginRestore i).lf = s.lf := by
  unfold State.beginRestore; try dsimp only
  (repeat' split) <;> simp
@[simp] theorem State.beginRestore_rf (s : State) (i : Nat) : (s.beginRestore i).rf = s.rf := by
  unfold State.beginRestore; try dsimp only
  (repeat' split) <;> simp
@[simp] theorem State.beginRestore_rng (s : State) (i : Nat) : (s.beginRestore i).rng = s.rng := by
  unfold State.beginRestore; try dsimp only
  (repeat' split) <;> simp
@[simp] theorem State.beginRestore_rel (s : State) (i : Nat) : (s.beginRestore i).rel = s.rel := by
  unfold State.beginRestore; try dsimp only
  (repeat' split) <;> simp
@[simp] theorem State.beginRestore_sym (s : State) (i : Nat) : (s.beginRestore i).sym = s.sym := by
  unfold State.beginRestore; try dsimp only
  (repeat' split) <;> simp
@[simp] theorem State.beginRestore_nfc (s : State) (i : Nat) : (s.beginRestore i).nfc = s.nfc := by
  unfold State.beginRestore; try dsimp only
  (repeat' split) <;> simp

@[simp] theorem State.endEntry_pending (s : State) : s.endEntry.pending = s.pending := rfl
@[simp] theorem State.endEntry_mt (s : State) : s.endEntry.mt = s.mt := rfl
@[simp] theorem State.endEntry_draws (s : State) : s.endEntry.draws = s.draws := rfl
@[simp] theorem State.endEntry_regs (s : State) : s.endEntry.regs = s.regs := rfl
@[simp] theorem State.endEntry_fuses (s : State) : s.endEntry.fuses = s.fuses := rfl
@[simp] theorem State.endEntry_vault (s : State) : s.endEntry.vault = s.vault := rfl
@[simp] theorem State.endEntry_nand (s : State) : s.endEntry.nand = s.nand := rfl
@[simp] theorem State.endEntry_update (s : State) : s.endEntry.update = s.update := rfl
@[simp] theorem State.endEntry_nor (s : State) : s.endEntry.nor = s.nor := rfl
@[simp] theorem State.endEntry_tag (s : State) : s.endEntry.tag = s.tag := rfl
@[simp] theorem State.endEntry_pilot (s : State) : s.endEntry.pilot = s.pilot := rfl
@[simp] theorem State.endEntry_sys (s : State) : s.endEntry.sys = s.sys := rfl
@[simp] theorem State.endEntry_net (s : State) : s.endEntry.net = s.net := rfl
@[simp] theorem State.endEntry_tim (s : State) : s.endEntry.tim = s.tim := rfl
@[simp] theorem State.endEntry_sto (s : State) : s.endEntry.sto = s.sto := rfl
@[simp] theorem State.endEntry_keys (s : State) : s.endEntry.keys = s.keys := rfl
@[simp] theorem State.endEntry_upd (s : State) : s.endEntry.upd = s.upd := rfl
@[simp] theorem State.endEntry_hif (s : State) : s.endEntry.hif = s.hif := rfl
@[simp] theorem State.endEntry_tok (s : State) : s.endEntry.tok = s.tok := rfl
@[simp] theorem State.endEntry_lf (s : State) : s.endEntry.lf = s.lf := rfl
@[simp] theorem State.endEntry_rf (s : State) : s.endEntry.rf = s.rf := rfl
@[simp] theorem State.endEntry_rng (s : State) : s.endEntry.rng = s.rng := rfl
@[simp] theorem State.endEntry_rel (s : State) : s.endEntry.rel = s.rel := rfl
@[simp] theorem State.endEntry_sym (s : State) : s.endEntry.sym = s.sym := rfl
@[simp] theorem State.endEntry_nfc (s : State) : s.endEntry.nfc = s.nfc := rfl

@[simp] theorem State.abandonEntry_pending (s : State) (code island client : Nat) : (s.abandonEntry code island client).pending = s.pending := by
  unfold State.abandonEntry; try dsimp only
  (repeat' split) <;> simp
@[simp] theorem State.abandonEntry_mt (s : State) (code island client : Nat) : (s.abandonEntry code island client).mt = s.mt := by
  unfold State.abandonEntry; try dsimp only
  (repeat' split) <;> simp
@[simp] theorem State.abandonEntry_draws (s : State) (code island client : Nat) : (s.abandonEntry code island client).draws = s.draws := by
  unfold State.abandonEntry; try dsimp only
  (repeat' split) <;> simp
@[simp] theorem State.abandonEntry_fuses (s : State) (code island client : Nat) : (s.abandonEntry code island client).fuses = s.fuses := by
  unfold State.abandonEntry; try dsimp only
  (repeat' split) <;> simp
@[simp] theorem State.abandonEntry_vault (s : State) (code island client : Nat) : (s.abandonEntry code island client).vault = s.vault := by
  unfold State.abandonEntry; try dsimp only
  (repeat' split) <;> simp
@[simp] theorem State.abandonEntry_nand (s : State) (code island client : Nat) : (s.abandonEntry code island client).nand = s.nand := by
  unfold State.abandonEntry; try dsimp only
  (repeat' split) <;> simp
@[simp] theorem State.abandonEntry_update (s : State) (code island client : Nat) : (s.abandonEntry code island client).update = s.update := by
  unfold State.abandonEntry; try dsimp only
  (repeat' split) <;> simp
@[simp] theorem State.abandonEntry_nor (s : State) (code island client : Nat) : (s.abandonEntry code island client).nor = s.nor := by
  unfold State.abandonEntry; try dsimp only
  (repeat' split) <;> simp
@[simp] theorem State.abandonEntry_tag (s : State) (code island client : Nat) : (s.abandonEntry code island client).tag = s.tag := by
  unfold State.abandonEntry; try dsimp only
  (repeat' split) <;> simp
@[simp] theorem State.abandonEntry_pilot (s : State) (code island client : Nat) : (s.abandonEntry code island client).pilot = s.pilot := by
  unfold State.abandonEntry; try dsimp only
  (repeat' split) <;> simp
@[simp] theorem State.abandonEntry_sys (s : State) (code island client : Nat) : (s.abandonEntry code island client).sys = s.sys := by
  unfold State.abandonEntry; try dsimp only
  (repeat' split) <;> simp
@[simp] theorem State.abandonEntry_net (s : State) (code island client : Nat) : (s.abandonEntry code island client).net = s.net := by
  unfold State.abandonEntry; try dsimp only
  (repeat' split) <;> simp
@[simp] theorem State.abandonEntry_tim (s : State) (code island client : Nat) : (s.abandonEntry code island client).tim = s.tim := by
  unfold State.abandonEntry; try dsimp only
  (repeat' split) <;> simp
@[simp] theorem State.abandonEntry_sto (s : State) (code island client : Nat) : (s.abandonEntry code island client).sto = s.sto := by
  unfold State.abandonEntry; try dsimp only
  (repeat' split) <;> simp
@[simp] theorem State.abandonEntry_keys (s : State) (code island client : Nat) : (s.abandonEntry code island client).keys = s.keys := by
  unfold State.abandonEntry; try dsimp only
  (repeat' split) <;> simp
@[simp] theorem State.abandonEntry_upd (s : State) (code island client : Nat) : (s.abandonEntry code island client).upd = s.upd := by
  unfold State.abandonEntry; try dsimp only
  (repeat' split) <;> simp
@[simp] theorem State.abandonEntry_hif (s : State) (code island client : Nat) : (s.abandonEntry code island client).hif = s.hif := by
  unfold State.abandonEntry; try dsimp only
  (repeat' split) <;> simp
@[simp] theorem State.abandonEntry_tok (s : State) (code island client : Nat) : (s.abandonEntry code island client).tok = s.tok := by
  unfold State.abandonEntry; try dsimp only
  (repeat' split) <;> simp
@[simp] theorem State.abandonEntry_lf (s : State) (code island client : Nat) : (s.abandonEntry code island client).lf = s.lf := by
  unfold State.abandonEntry; try dsimp only
  (repeat' split) <;> simp
@[simp] theorem State.abandonEntry_rf (s : State) (code island client : Nat) : (s.abandonEntry code island client).rf = s.rf := by
  unfold State.abandonEntry; try dsimp only
  (repeat' split) <;> simp
@[simp] theorem State.abandonEntry_rng (s : State) (code island client : Nat) : (s.abandonEntry code island client).rng = s.rng := by
  unfold State.abandonEntry; try dsimp only
  (repeat' split) <;> simp
@[simp] theorem State.abandonEntry_rel (s : State) (code island client : Nat) : (s.abandonEntry code island client).rel = s.rel := by
  unfold State.abandonEntry; try dsimp only
  (repeat' split) <;> simp
@[simp] theorem State.abandonEntry_sym (s : State) (code island client : Nat) : (s.abandonEntry code island client).sym = s.sym := by
  unfold State.abandonEntry; try dsimp only
  (repeat' split) <;> simp
@[simp] theorem State.abandonEntry_nfc (s : State) (code island client : Nat) : (s.abandonEntry code island client).nfc = s.nfc := by
  unfold State.abandonEntry; try dsimp only
  (repeat' split) <;> simp

@[simp] theorem State.voteInEntry_pending (s : State) (c i : Nat) : (s.voteInEntry c i).pending = s.pending := by
  unfold State.voteInEntry; try dsimp only
  (repeat' split) <;> simp
@[simp] theorem State.voteInEntry_mt (s : State) (c i : Nat) : (s.voteInEntry c i).mt = s.mt := by
  unfold State.voteInEntry; try dsimp only
  (repeat' split) <;> simp
@[simp] theorem State.voteInEntry_draws (s : State) (c i : Nat) : (s.voteInEntry c i).draws = s.draws := by
  unfold State.voteInEntry; try dsimp only
  (repeat' split) <;> simp
@[simp] theorem State.voteInEntry_fuses (s : State) (c i : Nat) : (s.voteInEntry c i).fuses = s.fuses := by
  unfold State.voteInEntry; try dsimp only
  (repeat' split) <;> simp
@[simp] theorem State.voteInEntry_vault (s : State) (c i : Nat) : (s.voteInEntry c i).vault = s.vault := by
  unfold State.voteInEntry; try dsimp only
  (repeat' split) <;> simp
@[simp] theorem State.voteInEntry_nand (s : State) (c i : Nat) : (s.voteInEntry c i).nand = s.nand := by
  unfold State.voteInEntry; try dsimp only
  (repeat' split) <;> simp
@[simp] theorem State.voteInEntry_update (s : State) (c i : Nat) : (s.voteInEntry c i).update = s.update := by
  unfold State.voteInEntry; try dsimp only
  (repeat' split) <;> simp
@[simp] theorem State.voteInEntry_nor (s : State) (c i : Nat) : (s.voteInEntry c i).nor = s.nor := by
  unfold State.voteInEntry; try dsimp only
  (repeat' split) <;> simp
@[simp] theorem State.voteInEntry_tag (s : State) (c i : Nat) : (s.voteInEntry c i).tag = s.tag := by
  unfold State.voteInEntry; try dsimp only
  (repeat' split) <;> simp
@[simp] theorem State.voteInEntry_pilot (s : State) (c i : Nat) : (s.voteInEntry c i).pilot = s.pilot := by
  unfold State.voteInEntry; try dsimp only
  (repeat' split) <;> simp
@[simp] theorem State.voteInEntry_sys (s : State) (c i : Nat) : (s.voteInEntry c i).sys = s.sys := by
  unfold State.voteInEntry; try dsimp only
  (repeat' split) <;> simp
@[simp] theorem State.voteInEntry_net (s : State) (c i : Nat) : (s.voteInEntry c i).net = s.net := by
  unfold State.voteInEntry; try dsimp only
  (repeat' split) <;> simp
@[simp] theorem State.voteInEntry_tim (s : State) (c i : Nat) : (s.voteInEntry c i).tim = s.tim := by
  unfold State.voteInEntry; try dsimp only
  (repeat' split) <;> simp
@[simp] theorem State.voteInEntry_sto (s : State) (c i : Nat) : (s.voteInEntry c i).sto = s.sto := by
  unfold State.voteInEntry; try dsimp only
  (repeat' split) <;> simp
@[simp] theorem State.voteInEntry_keys (s : State) (c i : Nat) : (s.voteInEntry c i).keys = s.keys := by
  unfold State.voteInEntry; try dsimp only
  (repeat' split) <;> simp
@[simp] theorem State.voteInEntry_upd (s : State) (c i : Nat) : (s.voteInEntry c i).upd = s.upd := by
  unfold State.voteInEntry; try dsimp only
  (repeat' split) <;> simp
@[simp] theorem State.voteInEntry_hif (s : State) (c i : Nat) : (s.voteInEntry c i).hif = s.hif := by
  unfold State.voteInEntry; try dsimp only
  (repeat' split) <;> simp
@[simp] theorem State.voteInEntry_tok (s : State) (c i : Nat) : (s.voteInEntry c i).tok = s.tok := by
  unfold State.voteInEntry; try dsimp only
  (repeat' split) <;> simp
@[simp] theorem State.voteInEntry_lf (s : State) (c i : Nat) : (s.voteInEntry c i).lf = s.lf := by
  unfold State.voteInEntry; try dsimp only
  (repeat' split) <;> simp
@[simp] theorem State.voteInEntry_rf (s : State) (c i : Nat) : (s.voteInEntry c i).rf = s.rf := by
  unfold State.voteInEntry; try dsimp only
  (repeat' split) <;> simp
@[simp] theorem State.voteInEntry_rng (s : State) (c i : Nat) : (s.voteInEntry c i).rng = s.rng := by
  unfold State.voteInEntry; try dsimp only
  (repeat' split) <;> simp
@[simp] theorem State.voteInEntry_rel (s : State) (c i : Nat) : (s.voteInEntry c i).rel = s.rel := by
  unfold State.voteInEntry; try dsimp only
  (repeat' split) <;> simp
@[simp] theorem State.voteInEntry_sym (s : State) (c i : Nat) : (s.voteInEntry c i).sym = s.sym := by
  unfold State.voteInEntry; try dsimp only
  (repeat' split) <;> simp
@[simp] theorem State.voteInEntry_nfc (s : State) (c i : Nat) : (s.voteInEntry c i).nfc = s.nfc := by
  unfold State.voteInEntry; try dsimp only
  (repeat' split) <;> simp

@[simp] theorem State.raiseVote_pending (s : State) (c i : Nat) (doze : Bool) : (s.raiseVote c i doze).pending = s.pending := by
  unfold State.raiseVote; try dsimp only
  (repeat' split) <;> simp
@[simp] theorem State.raiseVote_mt (s : State) (c i : Nat) (doze : Bool) : (s.raiseVote c i doze).mt = s.mt := by
  unfold State.raiseVote; try dsimp only
  (repeat' split) <;> simp
@[simp] theorem State.raiseVote_draws (s : State) (c i : Nat) (doze : Bool) : (s.raiseVote c i doze).draws = s.draws := by
  unfold State.raiseVote; try dsimp only
  (repeat' split) <;> simp
@[simp] theorem State.raiseVote_fuses (s : State) (c i : Nat) (doze : Bool) : (s.raiseVote c i doze).fuses = s.fuses := by
  unfold State.raiseVote; try dsimp only
  (repeat' split) <;> simp
@[simp] theorem State.raiseVote_vault (s : State) (c i : Nat) (doze : Bool) : (s.raiseVote c i doze).vault = s.vault := by
  unfold State.raiseVote; try dsimp only
  (repeat' split) <;> simp
@[simp] theorem State.raiseVote_nand (s : State) (c i : Nat) (doze : Bool) : (s.raiseVote c i doze).nand = s.nand := by
  unfold State.raiseVote; try dsimp only
  (repeat' split) <;> simp
@[simp] theorem State.raiseVote_update (s : State) (c i : Nat) (doze : Bool) : (s.raiseVote c i doze).update = s.update := by
  unfold State.raiseVote; try dsimp only
  (repeat' split) <;> simp
@[simp] theorem State.raiseVote_nor (s : State) (c i : Nat) (doze : Bool) : (s.raiseVote c i doze).nor = s.nor := by
  unfold State.raiseVote; try dsimp only
  (repeat' split) <;> simp
@[simp] theorem State.raiseVote_tag (s : State) (c i : Nat) (doze : Bool) : (s.raiseVote c i doze).tag = s.tag := by
  unfold State.raiseVote; try dsimp only
  (repeat' split) <;> simp
@[simp] theorem State.raiseVote_pilot (s : State) (c i : Nat) (doze : Bool) : (s.raiseVote c i doze).pilot = s.pilot := by
  unfold State.raiseVote; try dsimp only
  (repeat' split) <;> simp
@[simp] theorem State.raiseVote_sys (s : State) (c i : Nat) (doze : Bool) : (s.raiseVote c i doze).sys = s.sys := by
  unfold State.raiseVote; try dsimp only
  (repeat' split) <;> simp
@[simp] theorem State.raiseVote_net (s : State) (c i : Nat) (doze : Bool) : (s.raiseVote c i doze).net = s.net := by
  unfold State.raiseVote; try dsimp only
  (repeat' split) <;> simp
@[simp] theorem State.raiseVote_tim (s : State) (c i : Nat) (doze : Bool) : (s.raiseVote c i doze).tim = s.tim := by
  unfold State.raiseVote; try dsimp only
  (repeat' split) <;> simp
@[simp] theorem State.raiseVote_sto (s : State) (c i : Nat) (doze : Bool) : (s.raiseVote c i doze).sto = s.sto := by
  unfold State.raiseVote; try dsimp only
  (repeat' split) <;> simp
@[simp] theorem State.raiseVote_keys (s : State) (c i : Nat) (doze : Bool) : (s.raiseVote c i doze).keys = s.keys := by
  unfold State.raiseVote; try dsimp only
  (repeat' split) <;> simp
@[simp] theorem State.raiseVote_upd (s : State) (c i : Nat) (doze : Bool) : (s.raiseVote c i doze).upd = s.upd := by
  unfold State.raiseVote; try dsimp only
  (repeat' split) <;> simp
@[simp] theorem State.raiseVote_hif (s : State) (c i : Nat) (doze : Bool) : (s.raiseVote c i doze).hif = s.hif := by
  unfold State.raiseVote; try dsimp only
  (repeat' split) <;> simp
@[simp] theorem State.raiseVote_tok (s : State) (c i : Nat) (doze : Bool) : (s.raiseVote c i doze).tok = s.tok := by
  unfold State.raiseVote; try dsimp only
  (repeat' split) <;> simp
@[simp] theorem State.raiseVote_rf (s : State) (c i : Nat) (doze : Bool) : (s.raiseVote c i doze).rf = s.rf := by
  unfold State.raiseVote; try dsimp only
  (repeat' split) <;> simp
@[simp] theorem State.raiseVote_rng (s : State) (c i : Nat) (doze : Bool) : (s.raiseVote c i doze).rng = s.rng := by
  unfold State.raiseVote; try dsimp only
  (repeat' split) <;> simp
@[simp] theorem State.raiseVote_rel (s : State) (c i : Nat) (doze : Bool) : (s.raiseVote c i doze).rel = s.rel := by
  unfold State.raiseVote; try dsimp only
  (repeat' split) <;> simp
@[simp] theorem State.raiseVote_sym (s : State) (c i : Nat) (doze : Bool) : (s.raiseVote c i doze).sym = s.sym := by
  unfold State.raiseVote; try dsimp only
  (repeat' split) <;> simp
@[simp] theorem State.raiseVote_nfc (s : State) (c i : Nat) (doze : Bool) : (s.raiseVote c i doze).nfc = s.nfc := by
  unfold State.raiseVote; try dsimp only
  (repeat' split) <;> simp

/-- Where no island has come to be FAILED, the consequences of a failure change nothing. -/
theorem State.failHooks_same (old s : State) (h : s.regs = old.regs) : old.failHooks s = s := by
  have e : ∀ i, s.islandFailed i = old.islandFailed i := by intro i; simp [State.islandFailed, State.island, State.reg, h]
  have e2 : ∀ u, s.enabled u = old.enabled u := by intro i; simp [State.enabled, State.reg, h]
  have e3 : (List.range 15).filter (fun i => !old.islandFailed i && s.islandFailed i) = [] := by
    rw [List.filter_eq_nil_iff]; intro a _; rw [e]; cases old.islandFailed a <;> simp
  unfold State.failHooks
  simp only [e3, List.foldl_nil, List.isEmpty_nil, if_true]
  rw [e2]
  cases old.enabled .tok <;> simp

end Sys2Proof.Machine
end

