-- ==== Sys2Proof/Laws/Memory.lean ====
section
/-! SUPPORT. The laws of the sparse memories: a read after a write to the same address gives the value written, a write leaves every
other address alone, and every write keeps the canonical form. -/
namespace Sys2Proof.Machine

open Sys2Proof

/-- An erased address reads as the default. -/
theorem sparseGet_erase {β : Type} (d : Nat → β) (m : List (Nat × β)) (a b : Nat) :
    sparseGet d (sparseErase m a) b = if b = a then d a else sparseGet d m b := by
  induction m with
  | nil => by_cases h : b = a <;> simp [sparseErase, sparseGet, h]
  | cons x m ih =>
    obtain ⟨k, v⟩ := x
    by_cases hk : k = a
    · subst hk
      by_cases hb : b = k
      · subst hb
        simpa [sparseErase] using ih
      · simp [sparseErase, ih, hb, sparseGet, Ne.symm hb]
    · by_cases hb : k = b
      · subst hb
        simp [sparseErase, hk, sparseGet]
      · simp [sparseErase, hk, sparseGet, hb, ih]

/-- An address inserted into a list that does not hold it reads as the value inserted; the others are untouched. -/
theorem sparseGet_insert {β : Type} (d : Nat → β) (m : List (Nat × β)) (a : Nat) (v : β) (b : Nat)
    (h : ∀ x ∈ m, x.1 ≠ a) :
    sparseGet d (sparseInsert m a v) b = if b = a then v else sparseGet d m b := by
  induction m with
  | nil => simp [sparseInsert, sparseGet, eq_comm]
  | cons x m ih =>
    obtain ⟨k, w⟩ := x
    have hk : k ≠ a := h (k, w) (by simp)
    have hm : ∀ x ∈ m, x.1 ≠ a := fun x hx => h x (by simp [hx])
    by_cases hl : a < k
    · by_cases hb : b = a
      · simp [sparseInsert, hl, sparseGet, hb]
      · simp [sparseInsert, hl, sparseGet, hb, Ne.symm hb]
    · by_cases hb : b = a
      · subst hb
        simp [sparseInsert, hl, sparseGet, hk, ih hm]
      · simp [sparseInsert, hl, sparseGet, ih hm, hb]

/-- Erasing leaves no entry of the address. -/
theorem sparseErase_absent {β : Type} (m : List (Nat × β)) (a : Nat) : ∀ x ∈ sparseErase m a, x.1 ≠ a := by
  induction m with
  | nil => simp [sparseErase]
  | cons y m ih =>
    obtain ⟨k, v⟩ := y
    by_cases hk : k = a
    · simpa [sparseErase, hk] using ih
    · intro x hx
      simp only [sparseErase, hk, if_false, List.mem_cons] at hx
      rcases hx with rfl | hx
      · exact hk
      · exact ih x hx

/-- A write erases the address, and lists it again unless the value is the default. -/
theorem sparsePut_eq {β : Type} [DecidableEq β] (d : Nat → β) (m : List (Nat × β)) (a : Nat) (v : β) :
    sparsePut d m a v = if v = d a then sparseErase m a else sparseInsert (sparseErase m a) a v := by
  unfold sparsePut
  cases sparseErase m a <;> rfl

/-- A read after a write: the written value at its address, what was there elsewhere. -/
theorem sparseGet_put {β : Type} [DecidableEq β] (d : Nat → β) (m : List (Nat × β)) (a : Nat) (v : β) (b : Nat) :
    sparseGet d (sparsePut d m a v) b = if b = a then v else sparseGet d m b := by
  rw [sparsePut_eq]
  split
  · next h => rw [sparseGet_erase, h]
  · rw [sparseGet_insert _ _ _ _ _ (sparseErase_absent m a), sparseGet_erase]
    by_cases hb : b = a <;> simp [hb]

/-- Whether every address of a list lies above a bound. -/
def aboveAll {β : Type} (lo : Option Nat) (m : List (Nat × β)) : Prop := ∀ l, lo = some l → ∀ x ∈ m, l < x.1

/-- The canonical form read off its head. -/
theorem sparseWf_cons {β : Type} [DecidableEq β] (d : Nat → β) (lo : Option Nat) (k : Nat) (v : β) (m : List (Nat × β)) :
    sparseWf d lo ((k, v) :: m) = true ↔ (∀ l, lo = some l → l < k) ∧ v ≠ d k ∧ sparseWf d (some k) m = true := by
  cases lo <;> simp [sparseWf, and_assoc]

/-- A list in canonical form lies above its bound. -/
theorem sparseWf_above {β : Type} [DecidableEq β] (d : Nat → β) (m : List (Nat × β)) (l : Nat)
    (h : sparseWf d (some l) m = true) : ∀ x ∈ m, l < x.1 := by
  induction m generalizing l with
  | nil => simp
  | cons y m ih =>
    obtain ⟨k, v⟩ := y
    rw [sparseWf_cons] at h
    have hk := h.1 l rfl
    intro x hx
    rcases List.mem_cons.mp hx with rfl | hx
    · exact hk
    · exact lt_trans hk (ih k h.2.2 x hx)

/-- A lower bound may be lowered. -/
theorem sparseWf_mono {β : Type} [DecidableEq β] (d : Nat → β) (m : List (Nat × β)) (l k : Nat) (hl : l ≤ k)
    (h : sparseWf d (some k) m = true) : sparseWf d (some l) m = true := by
  cases m with
  | nil => rfl
  | cons y m =>
    obtain ⟨j, v⟩ := y
    rw [sparseWf_cons] at h ⊢
    exact ⟨fun x hx => by cases hx; exact lt_of_le_of_lt hl (h.1 k rfl), h.2⟩

/-- Keeping only some entries keeps the canonical form. -/
theorem sparseFilter_wf {β : Type} [DecidableEq β] (d : Nat → β) (p : Nat × β → Bool) (m : List (Nat × β)) (lo : Option Nat)
    (h : sparseWf d lo m = true) : sparseWf d lo (m.filter p) = true := by
  induction m generalizing lo with
  | nil => simpa using h
  | cons y m ih =>
    obtain ⟨k, v⟩ := y
    rw [sparseWf_cons] at h
    rw [List.filter_cons]
    split
    · exact (sparseWf_cons d lo k v _).mpr ⟨h.1, h.2.1, ih _ h.2.2⟩
    · cases lo with
      | none =>
        cases hm : m.filter p with
        | nil => rfl
        | cons z zs =>
          have := ih _ h.2.2
          rw [hm] at this
          obtain ⟨j, w⟩ := z
          rw [sparseWf_cons] at this ⊢
          exact ⟨by simp, this.2⟩
      | some l => exact sparseWf_mono d _ l k (le_of_lt (h.1 l rfl)) (ih _ h.2.2)

/-- Erasing keeps the canonical form. -/
theorem sparseErase_wf {β : Type} [DecidableEq β] (d : Nat → β) (m : List (Nat × β)) (lo : Option Nat) (a : Nat)
    (h : sparseWf d lo m = true) : sparseWf d lo (sparseErase m a) = true := by
  induction m generalizing lo with
  | nil => rfl
  | cons y m ih =>
    obtain ⟨k, v⟩ := y
    rw [sparseWf_cons] at h
    by_cases hk : k = a
    · simp only [sparseErase, hk, if_true]
      have h2 := ih (some k) h.2.2
      cases lo with
      | none =>
        cases hm : sparseErase m a with
        | nil => rfl
        | cons z zs =>
          obtain ⟨j, w⟩ := z
          rw [hm, sparseWf_cons] at h2
          rw [sparseWf_cons]
          exact ⟨by simp, h2.2⟩
      | some l => exact sparseWf_mono d _ l k (le_of_lt (h.1 l rfl)) h2
    · simp only [sparseErase, hk, if_false]
      rw [sparseWf_cons]
      exact ⟨h.1, h.2.1, ih (some k) h.2.2⟩

/-- Inserting a value that is no default at an absent address keeps the canonical form. -/
theorem sparseInsert_wf {β : Type} [DecidableEq β] (d : Nat → β) (m : List (Nat × β)) (lo : Option Nat) (a : Nat) (v : β)
    (hv : v ≠ d a) (ha : ∀ x ∈ m, x.1 ≠ a) (hlo : ∀ l, lo = some l → l < a) (h : sparseWf d lo m = true) :
    sparseWf d lo (sparseInsert m a v) = true := by
  induction m generalizing lo with
  | nil =>
    simp only [sparseInsert]
    rw [sparseWf_cons]
    exact ⟨hlo, hv, rfl⟩
  | cons y m ih =>
    obtain ⟨k, w⟩ := y
    rw [sparseWf_cons] at h
    by_cases hl : a < k
    · simp only [sparseInsert, hl, if_true]
      rw [sparseWf_cons, sparseWf_cons]
      exact ⟨hlo, hv, fun l hx => by cases hx; exact hl, h.2⟩
    · simp only [sparseInsert, hl, if_false]
      have hk : k ≠ a := ha (k, w) (by simp)
      rw [sparseWf_cons]
      refine ⟨h.1, h.2.1, ih (some k) (fun x hx => ha x (by simp [hx])) (fun l hx => ?_) h.2.2⟩
      cases hx
      omega

/-- Erasing keeps every address above a bound that held. -/
theorem sparseErase_mem {β : Type} (m : List (Nat × β)) (a : Nat) (x : Nat × β) (h : x ∈ sparseErase m a) : x ∈ m := by
  induction m with
  | nil => simp [sparseErase] at h
  | cons y m ih =>
    obtain ⟨k, v⟩ := y
    by_cases hk : k = a
    · simp only [sparseErase, hk, if_true] at h
      exact List.mem_cons_of_mem _ (ih h)
    · simp only [sparseErase, hk, if_false, List.mem_cons] at h
      rcases h with rfl | h
      · simp
      · exact List.mem_cons_of_mem _ (ih h)

/-- A write keeps the canonical form. -/
theorem sparsePut_wf {β : Type} [DecidableEq β] (d : Nat → β) (m : List (Nat × β)) (a : Nat) (v : β)
    (h : sparseWf d none m = true) : sparseWf d none (sparsePut d m a v) = true := by
  rw [sparsePut_eq]
  split
  · exact sparseErase_wf d m none a h
  · next hv =>
    exact sparseInsert_wf d _ none a v hv (sparseErase_absent m a) (by simp) (sparseErase_wf d m none a h)

/-- Writing consecutive values keeps the canonical form. -/
theorem sparsePutAll_wf {β : Type} [DecidableEq β] (d : Nat → β) (m : List (Nat × β)) (a : Nat) (vs : List β)
    (h : sparseWf d none m = true) : sparseWf d none (sparsePutAll d m a vs) = true := by
  induction vs generalizing m a with
  | nil => exact h
  | cons v vs ih => exact ih _ _ (sparsePut_wf d m a v h)

/-- What stands at an address after consecutive values are written. -/
theorem sparseGet_putAll {β : Type} [DecidableEq β] (d : Nat → β) (m : List (Nat × β)) (a : Nat) (vs : List β) (b : Nat) :
    sparseGet d (sparsePutAll d m a vs) b
      = if h : a ≤ b ∧ b < a + vs.length then vs[b - a]'(by omega) else sparseGet d m b := by
  induction vs generalizing m a with
  | nil => simp [sparsePutAll]
  | cons v vs ih =>
    simp only [sparsePutAll, ih, sparseGet_put, List.length_cons]
    by_cases h1 : b = a
    · subst h1
      simp
    · by_cases h2 : a + 1 ≤ b ∧ b < a + 1 + vs.length
      · have h3 : a ≤ b ∧ b < a + (vs.length + 1) := by omega
        obtain ⟨n, hn⟩ : ∃ n, b - a = n + 1 := ⟨b - a - 1, by omega⟩
        have hn' : b - (a + 1) = n := by omega
        simp [h2, h3, hn, hn']
      · have h3 : ¬ (a ≤ b ∧ b < a + (vs.length + 1)) := by omega
        rw [dif_neg h2, dif_neg h3, if_neg h1]

end Sys2Proof.Machine
end

