-- ==== Sys2Proof/Laws/Registers.lean ====
section
/-! SUPPORT. The laws of the registers: what a register or a field reads after a write of the same or of another, as rewriting rules on
`State.regs`. The normal form of a register value is `wordAt r off` and of a field `fieldAt r f`, over the register list `r`. -/
namespace Sys2Proof.Machine

open Sys2Proof

/-- The word of a register in a register list. -/
def wordAt (r : List (Nat × Word)) (off : Nat) : Nat := (sparseGet regReset r off).toNat

/-- The value of a field in a register list. -/
def fieldAt (r : List (Nat × Word)) (f : Field) : Nat := bits (wordAt r f.off) f.hi f.lo

/-- A register list with one word written. -/
def setWord (r : List (Nat × Word)) (off v : Nat) : List (Nat × Word) := sparsePut regReset r off (BitVec.ofNat 32 v)

/-- A register list with one field written. -/
def setField (r : List (Nat × Word)) (f : Field) (v : Nat) : List (Nat × Word) :=
  setWord r f.off (insertField (wordAt r f.off) f.hi f.lo v)

/-- A register of a state, over its register list. -/
theorem State.reg_eq (s : State) (off : Nat) : s.reg off = wordAt s.regs off := rfl

/-- A field of a state, over its register list. -/
theorem State.get_eq (s : State) (f : Field) : s.get f = fieldAt s.regs f := rfl

/-- A one-bit field of a state, over its register list. -/
theorem State.flag_eq (s : State) (f : Field) : s.flag f = (fieldAt s.regs f == 1) := rfl

/-- Writing a register changes the register list only. -/
theorem State.setReg_eq (s : State) (off v : Nat) : s.setReg off v = { s with regs := setWord s.regs off v } := rfl

/-- Writing a field changes the register list only. -/
theorem State.put_eq (s : State) (f : Field) (v : Nat) : s.put f v = { s with regs := setField s.regs f v } := rfl

/-- Writing a one-bit field changes the register list only. -/
theorem State.putFlag_eq (s : State) (f : Field) (b : Bool) : s.putFlag f b = { s with regs := setField s.regs f (bit b) } := rfl

/-- Raising an event changes the register list only. -/
theorem State.event_eq (s : State) (f : Field) : s.event f = { s with regs := setField s.regs f 1 } := rfl

/-- Counting changes the register list only. -/
theorem State.bumpBy_eq (s : State) (f : Field) (n : Nat) :
    s.bumpBy f n = { s with regs := setField s.regs f (min (fieldAt s.regs f + n) (2 ^ (f.hi + 1 - f.lo) - 1)) } := rfl

/-- Counting one changes the register list only. -/
theorem State.bump_eq (s : State) (f : Field) :
    s.bump f = { s with regs := setField s.regs f (min (fieldAt s.regs f + 1) (2 ^ (f.hi + 1 - f.lo) - 1)) } := rfl

/-- Setting a reason changes the register list only. -/
theorem State.reason_eq (s : State) (u : Subsys) (c : Nat) :
    s.reason u c = { s with regs := setField s.regs (reasonField u) c } := rfl

/-- An enable bit, over the register list. -/
theorem State.enabled_eq (s : State) (u : Subsys) : s.enabled u = Nat.testBit (wordAt s.regs R.SYS_EN_MAP) (subId u) := rfl

/-- Setting an enable bit changes the register list only. -/
theorem State.setEnabled_eq (s : State) (u : Subsys) (b : Bool) :
    s.setEnabled u b = { s with regs := setWord s.regs R.SYS_EN_MAP (setBit (wordAt s.regs R.SYS_EN_MAP) (subId u) b) } := rfl

/-- A register word is below 2^32. -/
theorem wordAt_lt (r : List (Nat × Word)) (off : Nat) : wordAt r off < 2 ^ 32 := (sparseGet regReset r off).isLt

/-- A register after a write of a register. -/
theorem wordAt_setWord (r : List (Nat × Word)) (off v p : Nat) :
    wordAt (setWord r off v) p = if p = off then v % 2 ^ 32 else wordAt r p := by
  unfold wordAt setWord
  rw [sparseGet_put]
  split <;> simp [BitVec.toNat_ofNat]

/-- A register after a write of itself. -/
@[simp] theorem wordAt_setWord_same (r : List (Nat × Word)) (off v : Nat) : wordAt (setWord r off v) off = v % 2 ^ 32 := by
  rw [wordAt_setWord, if_pos rfl]

/-- A register after a write of another. -/
theorem wordAt_setWord_other (r : List (Nat × Word)) (off v p : Nat) (h : p ≠ off) : wordAt (setWord r off v) p = wordAt r p := by
  rw [wordAt_setWord, if_neg h]

/-- A register after a field of another is written. -/
theorem wordAt_setField_other (r : List (Nat × Word)) (f : Field) (v p : Nat) (h : p ≠ f.off) :
    wordAt (setField r f v) p = wordAt r p := wordAt_setWord_other _ _ _ _ h

/-- A register after one of its own fields is written. -/
theorem wordAt_setField_same (r : List (Nat × Word)) (f : Field) (v : Nat) :
    wordAt (setField r f v) f.off = insertField (wordAt r f.off) f.hi f.lo v % 2 ^ 32 := wordAt_setWord_same _ _ _

/-- A field after a write of another register. -/
theorem fieldAt_setWord_other (r : List (Nat × Word)) (off v : Nat) (f : Field) (h : f.off ≠ off) :
    fieldAt (setWord r off v) f = fieldAt r f := by
  rw [fieldAt, fieldAt, wordAt_setWord_other _ _ _ _ h]

/-- A field after a write of its register. -/
theorem fieldAt_setWord_same (r : List (Nat × Word)) (v : Nat) (f : Field) :
    fieldAt (setWord r f.off v) f = bits (v % 2 ^ 32) f.hi f.lo := by
  rw [fieldAt, wordAt_setWord_same]

/-- A field after a field of another register is written. -/
theorem fieldAt_setField_other (r : List (Nat × Word)) (f g : Field) (v : Nat) (h : g.off ≠ f.off) :
    fieldAt (setField r f v) g = fieldAt r g := fieldAt_setWord_other _ _ _ _ h

/-- Bits below bit 32 do not see what lies above it. -/
theorem bits_mod32 (v hi lo : Nat) (h : hi < 32) : bits (v % 2 ^ 32) hi lo = bits v hi lo := by
  unfold bits
  by_cases hl : lo ≤ hi
  · have e : (2 : Nat) ^ 32 = 2 ^ lo * (2 ^ (hi + 1 - lo) * 2 ^ (31 - hi)) := by
      rw [← pow_add, ← pow_add]
      congr 1
      omega
    rw [e, Nat.mod_mul_right_div_self, Nat.mod_mul_right_mod]
  · have e : hi + 1 - lo = 0 := by omega
    simp [e, Nat.mod_one]

/-- The word with a field replaced, its parts in descending order. -/
theorem insertField_parts (w hi lo v : Nat) :
    insertField w hi lo v = w / 2 ^ (hi + 1) * 2 ^ (hi + 1) + v % 2 ^ (hi + 1 - lo) * 2 ^ lo + w % 2 ^ lo := by
  unfold insertField
  omega

/-- The inserted field read back. -/
theorem bits_insertField_same (w hi lo v : Nat) (h : lo ≤ hi) : bits (insertField w hi lo v) hi lo = v % 2 ^ (hi + 1 - lo) := by
  rw [insertField_parts]
  unfold bits
  have hp : 0 < (2 : Nat) ^ lo := by positivity
  have e : (2 : Nat) ^ (hi + 1) = 2 ^ lo * 2 ^ (hi + 1 - lo) := by
    rw [← pow_add]
    congr 1
    omega
  have h1 : w / 2 ^ (hi + 1) * 2 ^ (hi + 1) + v % 2 ^ (hi + 1 - lo) * 2 ^ lo + w % 2 ^ lo
      = w % 2 ^ lo + 2 ^ lo * (w / 2 ^ (hi + 1) * 2 ^ (hi + 1 - lo) + v % 2 ^ (hi + 1 - lo)) := by
    rw [e]
    ring
  rw [h1, Nat.add_mul_div_left _ _ hp, Nat.div_eq_of_lt (Nat.mod_lt _ hp), Nat.zero_add, Nat.add_comm,
    Nat.add_mul_mod_self_right, Nat.mod_mod]

/-- Bits above or below the inserted field. -/
theorem bits_insertField_other (w hi lo v h' l' : Nat) (h : lo ≤ hi) (hd : h' < lo ∨ hi < l') :
    bits (insertField w hi lo v) h' l' = bits w h' l' := by
  rw [insertField_parts]
  unfold bits
  have hp : 0 < (2 : Nat) ^ lo := by positivity
  rcases hd with hd | hd
  · by_cases hl : l' ≤ h'
    · have e1 : (2 : Nat) ^ (hi + 1) = 2 ^ lo * 2 ^ (hi + 1 - lo) := by
        rw [← pow_add]; congr 1; omega
      have e2 : (2 : Nat) ^ lo = 2 ^ l' * (2 ^ (h' + 1 - l') * 2 ^ (lo - 1 - h')) := by
        rw [← pow_add, ← pow_add]; congr 1; omega
      have hm : (w / 2 ^ (hi + 1) * 2 ^ (hi + 1) + v % 2 ^ (hi + 1 - lo) * 2 ^ lo + w % 2 ^ lo) % 2 ^ lo = w % 2 ^ lo := by
        have : w / 2 ^ (hi + 1) * 2 ^ (hi + 1) + v % 2 ^ (hi + 1 - lo) * 2 ^ lo + w % 2 ^ lo
            = w % 2 ^ lo + 2 ^ lo * (w / 2 ^ (hi + 1) * 2 ^ (hi + 1 - lo) + v % 2 ^ (hi + 1 - lo)) := by
          rw [e1]; ring
        rw [this, Nat.add_mul_mod_self_left, Nat.mod_mod]
      have key : ∀ x : Nat, x / 2 ^ l' % 2 ^ (h' + 1 - l') = x % 2 ^ lo / 2 ^ l' % 2 ^ (h' + 1 - l') := by
        intro x
        rw [e2, Nat.mod_mul_right_div_self, Nat.mod_mul_right_mod]
      rw [key, hm, ← key]
    · have e : h' + 1 - l' = 0 := by omega
      simp [e, Nat.mod_one]
  · have e2 : (2 : Nat) ^ l' = 2 ^ (hi + 1) * 2 ^ (l' - (hi + 1)) := by
      rw [← pow_add]; congr 1; omega
    have hq : (w / 2 ^ (hi + 1) * 2 ^ (hi + 1) + v % 2 ^ (hi + 1 - lo) * 2 ^ lo + w % 2 ^ lo) / 2 ^ (hi + 1)
        = w / 2 ^ (hi + 1) := by
      have e1 : (2 : Nat) ^ (hi + 1) = 2 ^ (hi + 1 - lo) * 2 ^ lo := by
        rw [← pow_add]; congr 1; omega
      have hb : v % 2 ^ (hi + 1 - lo) * 2 ^ lo + w % 2 ^ lo < 2 ^ (hi + 1) := by
        have a1 : v % 2 ^ (hi + 1 - lo) < 2 ^ (hi + 1 - lo) := Nat.mod_lt _ (by positivity)
        have a2 : w % 2 ^ lo < 2 ^ lo := Nat.mod_lt _ hp
        rw [e1]
        nlinarith
      rw [Nat.add_assoc, Nat.add_comm, Nat.add_mul_div_right _ _ (by positivity), Nat.div_eq_of_lt hb, Nat.zero_add]
    rw [e2, ← Nat.div_div_eq_div_mul, hq, Nat.div_div_eq_div_mul]

/-- A field after it is written. -/
theorem fieldAt_setField_same (r : List (Nat × Word)) (f : Field) (v : Nat) (h1 : f.lo ≤ f.hi) (h2 : f.hi < 32) :
    fieldAt (setField r f v) f = v % 2 ^ (f.hi + 1 - f.lo) := by
  rw [fieldAt, wordAt_setField_same, bits_mod32 _ _ _ h2, bits_insertField_same _ _ _ _ h1]

/-- A field after another field of its register is written. -/
theorem fieldAt_setField_apart (r : List (Nat × Word)) (f g : Field) (v : Nat) (ho : g.off = f.off) (h1 : f.lo ≤ f.hi)
    (h2 : g.hi < 32) (hd : g.hi < f.lo ∨ f.hi < g.lo) : fieldAt (setField r f v) g = fieldAt r g := by
  rw [fieldAt, ho, wordAt_setField_same, bits_mod32 _ _ _ h2, bits_insertField_other _ _ _ _ _ _ h1 hd, fieldAt, ho]

/-- A register write keeps the canonical form of the registers. -/
theorem setWord_wf (r : List (Nat × Word)) (off v : Nat) (h : sparseWf regReset none r = true) :
    sparseWf regReset none (setWord r off v) = true := sparsePut_wf _ _ _ _ h

/-- A field write keeps the canonical form of the registers. -/
theorem setField_wf (r : List (Nat × Word)) (f : Field) (v : Nat) (h : sparseWf regReset none r = true) :
    sparseWf regReset none (setField r f v) = true := setWord_wf _ _ _ h

end Sys2Proof.Machine
end

