-- ==== Sys2Proof/Laws/Mailbox.lean ====
section
/-! SUPPORT. The laws of the mailbox: little-endian fields of a message, and what a mailbox command does once its checks pass. -/
namespace Sys2Proof.Machine

open Sys2Proof

/-- OPCODE of a message that `mkMessage` makes. -/
theorem msgOpcode_mkMessage (op tag : Nat) (x : Bytes) : msgOpcode (mkMessage op tag x) = op % 65536 := by
  have h : slice (mkMessage op tag x) 0 2 = toLE 2 op := by
    simp [slice, mkMessage]
  rw [msgOpcode, le, h, leNat_toLE]
  norm_num

/-- The input of a message that `mkMessage` makes. -/
theorem msgInput_mkMessage (op tag : Nat) (x : Bytes) : msgInput (mkMessage op tag x) = x := by
  have h : mkMessage op tag x = (toLE 2 op ++ toLE 2 0 ++ toLE 4 tag ++ toLE 4 x.length ++ toLE 4 0) ++ x := rfl
  have hl : (toLE 2 op ++ toLE 2 0 ++ toLE 4 tag ++ toLE 4 x.length ++ toLE 4 0).length = 16 := by simp
  rw [msgInput, h, ← hl, List.drop_left]

/-- A mailbox command whose checks pass runs its operation at once, and is answered unless the answer comes later. -/
theorem mailboxCommand_runs (opcode : Nat) (input : Bytes) (op : State → MbRes) (s : State) (ho : opcode < 65536)
    (h : s.mbReady opcode input) :
    mailboxCommand opcode input op s
      = if (op (s.begun opcode input)).2.1 = mbDeferred then (op (s.begun opcode input)).1
        else (op (s.begun opcode input)).1.finish (op (s.begun opcode input)).2.1 (op (s.begun opcode input)).2.2 := by
  obtain ⟨h1, h2, h3, h4, h5, h6⟩ := h
  have hg : (s.begun opcode input).mbGate (msgOpcode (mkMessage opcode 0 input)) (msgInput (mkMessage opcode 0 input)).length = 0 := by
    rw [msgOpcode_mkMessage, msgInput_mkMessage, Nat.mod_eq_of_lt ho, h6]
  have e : mailboxCommand opcode input op s = s.runAs (mbCommand opcode input) op := by
    simp only [mailboxCommand, h1, h2, h3, h4]
    rw [if_neg (by omega)]
    rfl
  have eb : (({ s with hif := { s.hif with executing := some (mbCommand opcode input) } }).putFlag F.HIF_STAT_MB_EXEC true).touch
      = s.begun opcode input := by
    simp only [State.touch, State.begun, State.putFlag_eq]
  rw [e]
  simp only [State.runAs, eb]
  rw [if_neg (by simpa [mbCommand] using hg)]

/-- A mailbox command that its operation answers at once. -/
theorem mailboxCommand_answers (opcode : Nat) (input : Bytes) (op : State → MbRes) (s t : State) (r : Nat) (out : Bytes)
    (ho : opcode < 65536) (h : s.mbReady opcode input) (he : op (s.begun opcode input) = (t, r, out)) (hr : r < 65536) :
    mailboxCommand opcode input op s = t.finish r out := by
  have hd : r ≠ mbDeferred := Nat.ne_of_lt hr
  rw [mailboxCommand_runs opcode input op s ho h, he]
  exact if_neg hd

/-- A mailbox command whose answer comes with a later event. -/
theorem mailboxCommand_defers (opcode : Nat) (input : Bytes) (op : State → MbRes) (s t : State) (out : Bytes)
    (ho : opcode < 65536) (h : s.mbReady opcode input) (he : op (s.begun opcode input) = (t, mbDeferred, out)) :
    mailboxCommand opcode input op s = t := by
  rw [mailboxCommand_runs opcode input op s ho h, he]
  exact if_pos rfl

end Sys2Proof.Machine
end

