-- ==== Sys2Proof/Machine/Balls.lean ====
section
/-! DEFINITION. What the digital output balls of Table 17-3 (R463) show, read off the state: READY, INT_N, LOCKREL_H, LOCKREL_L,
PULSE0 to PULSE3 and FEC0 to FEC3. They add no state; the electrical level of a ball is out of scope. -/

namespace Sys2Proof.Machine

open Sys2Proof

/-- READY stands high (R75). -/
def State.readyBall (s : State) : Bool := s.flag F.SYS_STAT_READY

/-- INT_N stands low: it is inactive in every reset and with VBAT absent (R456). -/
def State.intLow (s : State) : Bool := s.pilot.vbatUp && s.intAsserted

/-- LOCKREL_H and LOCKREL_L conduct (R223). -/
def State.lockrelBalls (s : State) : Bool × Bool := (s.flag F.REL_STAT_OUT_H, s.flag F.REL_STAT_OUT_L)

/-- The levels of PULSE0 to PULSE3 (R374). -/
def State.pulseBalls (s : State) : List Bool := s.tim.pulses.map (fun u => u.level)

/-- The nibbles of FEC_MAP, by their place (R180). -/
inductive FecDir
  | idle | rxSub | txSub | rx24 | tx24
  deriving DecidableEq, Repr

/-- The place of a nibble in FEC_MAP. -/
def fecPlace : FecDir → Nat
  | .idle => 0 | .rxSub => 1 | .txSub => 2 | .rx24 => 3 | .tx24 => 4

/-- The directions that the FEC balls take in a sequencer state of Table 6-4, in the order of the moments: a sweep and the flicker
rounds send, then receive (R180). A test takes the direction of its MODE. -/
def fecDirs (state mode : Nat) : List FecDir :=
  match state with
  | 3 | 4 => [.rxSub]
  | 5 => [.tx24]
  | 6 => [.rx24]
  | 7 | 8 => [.tx24, .rx24]
  | 0xA => [if mode ≤ 2 then .txSub else if mode ≤ 4 then .tx24 else .rx24]
  | _ => [.idle]

/-- The nibbles on FEC0 to FEC3 (bit k for FECk): FEC_MAP's for the direction while RF is enabled, else low (R463). -/
def State.fecBalls (s : State) : List Nat :=
  if s.enabled .rf then
    (fecDirs (s.get F.RF_STAT_STATE) (s.get F.RF_TEST_MODE)).map (fun d => s.secLE 5 8 4 0 / 16 ^ fecPlace d % 16)
  else [0]

end Sys2Proof.Machine
end

