-- ==== Sys2Proof/Tests/Slice0.lean ====
section
/-! SUPPORT. For each clause of each statement a concrete state and operands that meet its hypotheses together, the ill-formed terms that
WellFormed refuses, and values worked by hand or in the specification. -/

set_option maxRecDepth 16000

namespace Sys2Proof.Tests

open Sys2Proof Sys2Proof.Machine

/-! ## States that the witnesses start from -/

/-- A state with register fields set. -/
def fx (s : State) (l : List (Field × Nat)) : State := l.foldl (fun t x => t.put x.1 x.2) s

/-- LF_CHANNELS with 8 channels, 1 pattern of channel 0, one measurement burst and wake records of REQUEST 1 on every even input. -/
def lfBytes : Bytes :=
  toLE 1 0 ++ toLE 1 1 ++ toLE 1 1 ++ toLE 1 0xFF ++ toLE 4 125000 ++ toLE 2 0 ++ toLE 2 500 ++ padTo 0x4C []
    ++ (List.range 12).flatMap (fun (n : Nat) => toLE 1 (1 - n % 2) ++ padTo 2 [] ++ toLE 1 1 ++ padTo 4 [])
    ++ toLE 1 1 ++ toLE 1 0 ++ toLE 1 100 ++ padTo 25 [] ++ toLE 1 0

/-- TOKEN_TYPES with one type and the plans of the requests 0 to 11. -/
def typeBytes : Bytes :=
  toLE 1 1 ++ toLE 1 12 ++ padTo 6 [] ++ toLE 1 1 ++ toLE 1 0 ++ toLE 1 3 ++ padTo 5 []
    ++ (List.range 12).flatMap (fun (n : Nat) => toLE 1 n ++ padTo 3 [])

/-- POLICY with the release outputs fitted, a proof current of 100 mA and one rule that starts for every token. -/
def policyBytes : Bytes :=
  toLE 1 1 ++ toLE 1 0 ++ toLE 1 2 ++ padTo 5 [] ++ toLE 2 100 ++ padTo 6 [] ++ toLE 1 0xFF ++ toLE 1 1 ++ toLE 1 0xFF ++ toLE 1 0xFF ++ padTo 4 []

/-- PARTNERS with one role on CAN0, REQUIRED and STATUS_SRC, found on T1S as well. -/
def partnerBytes : Bytes := toLE 1 1 ++ toLE 1 0 ++ toLE 2 1 ++ padTo 12 [] ++ toLE 1 0 ++ toLE 1 0 ++ toLE 1 3 ++ padTo 13 []

/-- An ACTIVE slot of class F. -/
def slotF : Slot := { Slot.empty with state := 1, cls := 1, typeId := 1, tid := 77, ctr := 5 }

/-- A key of kind 7 that admits every master. -/
def hostKey : KeyRec := ⟨7, 0, 1, 0xFFFFFFFE, zeros 32, []⟩

/-- A state in READY with every subsystem enabled, in INTEGRATION, with a token in slot 0 and an image with LF channels and token types. -/
def up : State :=
  { State.reset with
    mt := 1000000000000
    regs := [(R.SYS_STAT, 10 * 2 ^ 20), (R.SYS_EN_MAP, 0x1FFFE), (R.PWR_ISL_STATE, 0x2AAAAAAA)]
    fuses := { Fuses.reset with lc := [.done, .done, .intact, .intact] }
    vault := { Vault.reset with
      standMt := 1000000000000
      slots := slotF :: List.replicate 63 .empty
      keyring := some ⟨1, 0, 0, [⟨2, 0, 1, 0, zeros 32, []⟩, ⟨3, 0, 1, 0, zeros 32, zeros 8⟩, ⟨6, 0, 1, 0, [], []⟩, ⟨6, 1, 1, 0, [], []⟩,
        ⟨6, 2, 1, 0, [], []⟩, ⟨4, 0, 1, 0, [], []⟩, ⟨5, 0, 1, 0, [], []⟩, ⟨6, 5, 1, 0xFFFFFFFE, [], []⟩, hostKey], [], []⟩ }
    pilot := { Pilot.reset with vbatUp := true }
    sys := { Sys.reset with fw := .slot, hasImage := true, nineDone := true, sections := [⟨3, 0, lfBytes⟩, ⟨8, 0, policyBytes⟩, ⟨9, 0, typeBytes⟩, ⟨10, 0, partnerBytes⟩] } }

/-- The start phase `n`. -/
def ph (n : Nat) : State := fx up [(F.SYS_STAT_START_PHASE, n)]

/-- The outside world of a start: what is measured is good. -/
def env : Env :=
  { vioHigh := true, norDir := true, nor0 := true, nor1 := true, storeOk := true, commitOk := true, lfMeas := [], dieTemp := 25, xtalOk := true, entOk := true
    rfCal := ⟨[], ⟨0, 0, false, 0, []⟩, 0, 0, 0⟩, symTest := ⟨true, true, true, true, true⟩, cards := ⟨[], []⟩ }

/-- A packet of one data word with the right trailer. -/
def pkt (header : Nat) : Packet :=
  let p : Packet := ⟨BitVec.ofNat 64 header, [0], 0, .plain⟩
  { p with trailer := BitVec.ofNat 64 (crc32c (pktCovered p)).toNat }

/-- A request on the air. -/
def hold (p : HoldPhase) : Hold := { newHold (hostReq false) 0 with phase := p }

/-- The state with a request on the air. -/
def air (h : Hold) : State := { up with lf := { Lf.reset with hold := some h } }

/-- A session of the token in slot 0. -/
def sess : Sess :=
  { number := 1, req := 0, code := 0x0B, slot := 0, tid := 77, ksn := 0, turn := 8192, prio := 0, entry := true, ranges := true, c := zeros 16
    field := 0, afield := 0, status := 0, pattern := 0, pos := 0, s0 := 0, begun := false, rtS := 0, csent := 0, chains := 15
    oneSyn := false, delays := [0, 0, 0, 0], points := [], srep := none, macBad := false, rounds := [], raw := [], readings := none, scales := []
    drift := none, reason := 0, stage := .air, bytes := [], settings := [] }

/-- The radio and the LF channels work. -/
def live (s : State) : State :=
  fx s [(F.RF_STAT_SUB_OK, 1), (F.RF_STAT_TX24_OK, 1), (F.LF_STAT_VANT_OK, 1), (F.RF_CHn_STAT_UP 0, 1)]

/-- The lifecycle FIELD. -/
def field : State := { up with fuses := { Fuses.reset with lc := [.done, .done, .done, .intact] } }

/-- The state without keys, and with two streams: one with trim, one that is full. -/
def bare : State := { up with vault := { up.vault with keyring := some ⟨1, 0, 0, [], [], []⟩ } }
def streams : State :=
  { up with sys := { up.sys with sections := up.sys.sections ++ [⟨13, 0, toLE 1 2 ++ toLE 1 1 ++ zeros 6 ++ toLE 2 1 ++ toLE 1 0 ++ toLE 1 1 ++ zeros 4
    ++ toLE 2 0 ++ toLE 1 1 ++ toLE 1 0 ++ zeros 4⟩] } }


theorem generationOk_seal (n e k : Nat) (l : List KeyRec) : generationOk (sealGeneration n e k l) = true := by
  simp [generationOk, sealGeneration]

theorem slotRuns_factory (s : State) (k : Nat) (h : s.fwSlot k = ⟨.running, Config.factorySv, [], Config.factoryFirmware⟩) (hf : s.update.floor = 0) :
    s.slotRuns k true = true := by
  simp [State.slotRuns, h, hf, State.firmwareOk]

/-- An RPT of the token in slot 0 with its MAC. -/
def rpt : Bytes := (toBE 1 0 ++ toBE 1 1 ++ zeros 3) ++ up.slotMac 0x06 0 77 (zeros 16 ++ toBE 1 1 ++ zeros 3) 4

/-- The radio receives for a job. -/
def hears (j : RadioJob) (s : State) : State := { s with rf := { s.rf with onAir := some ⟨.rxSub 8, 0, 0, 0, j⟩ } }

/-- The state in which it comes. -/
def atRpt : State := hears .reports (live { air (hold .report) with rng := { Rng.reset with sessions := [sess] } })

theorem rpt_fits : slice rpt (2 + 3 * atRpt.nMeas) 4
    = atRpt.slotMac 0x06 sess.slot sess.tid (sess.c ++ toBE 1 atRpt.nMeas ++ slice rpt 2 (3 * atRpt.nMeas)) 4 := by
  have n : atRpt.nMeas = 1 := by decide
  have b : slice rpt 2 3 = zeros 3 := by rw [rpt, slice_left _ _ _ _ (by decide)]; decide
  rw [n]
  show slice rpt 5 4 = _
  rw [show 3 * 1 = 3 from rfl, b]
  have := slice_append (toBE 1 0 ++ toBE 1 1 ++ zeros 3) (up.slotMac 0x06 0 77 (zeros 16 ++ toBE 1 1 ++ zeros 3) 4) [] 5 4 (by decide)
    (length_slotMac _ _ _ _ _ _ (by decide))
  rw [List.append_nil] at this
  rw [rpt, this]
  rfl

theorem rpt_frame : (withCrc rpt).length = 8 + 3 * atRpt.nMeas := by
  have n : atRpt.nMeas = 1 := by decide
  rw [n, length_withCrc, rpt, List.length_append, length_slotMac _ _ _ _ _ _ (by decide)]
  decide

theorem rpt_head : u8 rpt 0 = sess.slot ∧ u8 rpt 1 = atRpt.nMeas := by
  constructor <;> (rw [rpt, u8_left _ _ _ (by decide)]; decide)

/-- An LF return of the token in slot 0 with its MAC. -/
def ret : Bytes := toBE 1 128 ++ toBE 1 0 ++ toBE 1 9 ++ up.slotMac 0x03 0 77 ([] ++ toBE 1 9 ++ toBE 1 0) 8

/-- The state in which it comes. -/
def atRet : State := live (air (hold .returns))

theorem ret_head (k : Nat) (h : k < 3) : u8 ret k = u8 (toBE 1 128 ++ toBE 1 0 ++ toBE 1 9) k := u8_left _ _ _ (by simpa using h)

theorem ret_fits : slice ret 3 8
    = atRet.slotMac 0x03 (u8 ret 0 % 64) (atRet.slot (u8 ret 0 % 64)).tid ((hold .returns).c ++ toBE 1 (u8 ret 2) ++ toBE 1 (u8 ret 1)) 8 := by
  rw [ret_head 0 (by decide), ret_head 1 (by decide), ret_head 2 (by decide)]
  have := slice_append (toBE 1 128 ++ toBE 1 0 ++ toBE 1 9) (up.slotMac 0x03 0 77 ([] ++ toBE 1 9 ++ toBE 1 0) 8) [] 3 8 (by decide)
    (length_slotMac _ _ _ _ _ _ (by decide))
  rw [List.append_nil] at this
  rw [ret, this]
  rfl

theorem ret_take : ret = (withCrc ret).take 11 := by
  have : ret.length = 11 := by
    rw [ret, List.length_append, length_slotMac _ _ _ _ _ _ (by decide)]; decide
  rw [withCrc, List.take_left' this]

theorem ret_heard : (atRet.strongest [⟨0, 1, withCrc ret⟩]).1 = some (withCrc ret) := by
  have e : atRet.chLive 0 = true := by decide
  simp [State.strongest, e, crcGood_withCrc]

theorem ret_frame : (withCrc ret).length = 13 := by
  rw [length_withCrc, ret, List.length_append, length_slotMac _ _ _ _ _ _ (by decide)]
  decide

/-- A press of the token in slot 0 with its MAC. -/
def press : Bytes := toBE 1 0xC0 ++ toBE 4 0 ++ toBE 2 0 ++ toBE 4 77 ++ toBE 4 6 ++ toBE 1 1 ++ up.slotMac 0x02 0 77 (toBE 4 6 ++ toBE 1 1) 4

/-- The bytes before its MAC. -/
def pressHead : Bytes := toBE 1 0xC0 ++ toBE 4 0 ++ toBE 2 0 ++ toBE 4 77 ++ toBE 4 6 ++ toBE 1 1

theorem press_slice (k n : Nat) (h : k + n ≤ 16) : slice press k n = slice pressHead k n := slice_left pressHead _ _ _ (by simpa [pressHead] using h)

theorem press_be (k n : Nat) (h : k + n ≤ 16) : be press k n = be pressHead k n := by rw [be, press_slice k n h, be]

theorem press_fits : slice press 16 4 = up.slotMac 0x02 0 (be press 7 4) (slice press 11 5) 4 := by
  rw [press_be 7 4 (by decide), press_slice 11 5 (by decide)]
  have := slice_append pressHead (up.slotMac 0x02 0 77 (toBE 4 6 ++ toBE 1 1) 4) [] 16 4 (by decide) (length_slotMac _ _ _ _ _ _ (by decide))
  rw [List.append_nil] at this
  exact this.trans (by rfl)

theorem press_u8 : u8 press 15 = 1 := by rw [u8, le, press_slice 15 1 (by decide)]; decide

/-- A session whose SREP echoes another bit than was sent. -/
theorem relay_echo : (up.computeFull { sess with csent := 1 } (zeros 163) ⟨0, []⟩).relay = true := by
  simp only [State.computeFull, State.computeFrom]
  rw [show ((List.range 32).any (fun i => Nat.testBit (be (zeros 163) 146 4) i != Nat.testBit 1 i && !Nat.testBit (be (zeros 163) 150 4) i)) = true by decide]
  simp [bit]

/-- A session whose first round answers before it was asked. -/
def early : Sess := { sess with rounds := [[⟨0, 0, 90, 0, false, 0⟩]] }

theorem early_wrong (e : Bool) : (classify early.chains early.turn early.delays e [⟨0, 0, 90, 0, false, 0⟩]).cls = .wrong := by
  cases e <;> decide +kernel

theorem early_counts (kr : Bytes) (e : Nat) : countClass .wrong (classifyAll early.chains early.turn early.delays kr e early.rounds) ≠ 0 := by
  unfold countClass classifyAll
  rw [Ne, List.length_eq_zero_iff, List.filter_eq_nil_iff]
  intro h
  have := h _ (List.mem_map.mpr ⟨0, by decide, rfl⟩)
  exact this (by simpa [early] using early_wrong _)

/-- A start release at step 4. -/
def rst : RelStart :=
  { step := 4, code := 1, slot := 0, zone := 0xFF, profile := 0, path := 0, onMt := 0, grantMt := 0, grantOn := true, sends := 0, acks := []
    flags := 0, pull := true, mt := 0, seq := 0 }

/-- The state in which it runs. -/
def rel (st : RelStart) : State := { up with rel := { Rel.reset with start := some st, held := true } }

/-- A message of the partner of role 0 passes its check where its PCTR does. -/
theorem partner_passes (s : State) (d off : Nat) (body : Bytes) (k : KeyRec) (hk : s.partnerKey 0 = some k) (hb : body.length = 24)
    (ho : off + 4 ≤ 24) (hp : ¬ be body off 4 ≤ s.vault.pctr.getD 0 0) : s.msgCheck 0 d off (s.partnerMsg d k.key body) = 0 := by
  have p : padTo 24 body = body := by rw [← hb]; exact padTo_self body
  have t : (s.partnerMsg d k.key body).take 24 = body := by simp only [State.partnerMsg, p]; rw [← hb, List.take_left]
  have l : (s.partnerMsg d k.key body).length = 32 := by simp [State.partnerMsg]
  have e : be (s.partnerMsg d k.key body) off 4 = be body off 4 := by simp only [State.partnerMsg, p]; exact be_left _ _ _ _ (by omega)
  simp only [State.msgCheck, hk, State.partnerMac, t, l, e]
  simp only [beq_self_eq_true, Bool.and_self, Bool.not_true, Bool.false_eq_true, if_false, if_neg hp]

/-- The 24 bytes of a GRANT_ACK with RESULT `r`, and of a STATUS. -/
def ackBody (r : Nat) : Bytes := toBE 1 0x52 ++ toBE 1 0 ++ zeros 8 ++ toBE 4 1 ++ toBE 1 r ++ zeros 9
def statusBody : Bytes := toBE 1 0x53 ++ toBE 1 0 ++ zeros 4 ++ toBE 4 1 ++ zeros 14

theorem msg_u8 (s : State) (d k : Nat) (key body : Bytes) (hb : body.length = 24) (hk : k < 24) : u8 (s.partnerMsg d key body) k = u8 body k := by
  have p : padTo 24 body = body := by rw [← hb]; exact padTo_self body
  simp only [State.partnerMsg, p]; exact u8_left _ _ _ (by omega)

theorem msg_be (s : State) (d k n : Nat) (key body : Bytes) (hb : body.length = 24) (hk : k + n ≤ 24) :
    be (s.partnerMsg d key body) k n = be body k n := by
  have p : padTo 24 body = body := by rw [← hb]; exact padTo_self body
  simp only [State.partnerMsg, p]; exact be_left _ _ _ _ (by omega)

theorem msg_role (s : State) (d : Nat) (key body : Bytes) (hb : body.length = 24) (h0 : u8 body 1 = 0) (hn : (decide (0 < s.nRole)) = true)
    (hp : (s.rolePorts 0).contains 0 = true) (hr : ((0 : Word).toNat == s.roleRx 0) = true) (he : s.enabled .rel = true)
    (hl : s.ringLocked = false) : s.msgRole 0 0 (s.partnerMsg d key body) = some 0 := by
  simp at hn
  simp only [State.msgRole, msg_u8 s d 1 key body hb (by decide), h0, hp, he, hl, if_neg (show ¬ (0 : Nat) = 2 by decide), hr]
  simp [hn]

/-- The reporting partner: standstill on CAN0 that is up. -/
def still : State := fx { up with rel := { Rel.reset with roles := List.replicate 8 ⟨false, true, some up.mt⟩, stillMt := some 0 } } [(F.HIF_STAT_CAN0_UP, 1)]

/-- The PID of a partner by its key, and the partner as discovery has heard it. -/
def pidOf : BitVec 64 := BitVec.ofNat 64 (beNat ((Crypto.sha512 (zeros 132)).take 8))
def heard : Disc := ⟨pidOf.toNat, 0, 0, zeros 132, 0, up.mt⟩

theorem low64 (b : Bytes) : beNat (b.take 8) = (BitVec.ofNat 64 (beNat (b.take 8))).toNat := by
  have h := beNat_lt (b.take 8)
  have l : (b.take 8).length ≤ 8 := List.length_take_le _ _
  generalize beNat (b.take 8) = x at h
  have : x < 2 ^ 64 := lt_of_lt_of_le h (Nat.pow_le_pow_right (by decide) (by omega))
  rw [BitVec.toNat_ofNat, Nat.mod_eq_of_lt this]

theorem pidOf_value : beNat ((Crypto.sha512 heard.key).take 8) = pidOf.toNat := low64 _

/-- The state in which it is paired. -/
def atPair : State := { up with hif := { Hif.reset with disc := [heard] } }

theorem heard_found (mt kind : Nat) (h1 : mt ≤ up.mt + 60000000) (h2 : kind = 0) :
    [heard].find? (fun d => d.pid == pidOf.toNat && decide (mt ≤ d.mt + 60000000) && d.kind == kind
      && beNat ((Crypto.sha512 d.key).take 8) == pidOf.toNat) = some heard := by
  subst h2
  rw [List.find?_cons_of_pos]
  show (pidOf.toNat == pidOf.toNat && decide (mt ≤ up.mt + 60000000) && (0 : Nat) == 0 && beNat ((Crypto.sha512 heard.key).take 8) == pidOf.toNat) = true
  rw [pidOf_value, decide_eq_true h1]
  simp

/-- A descriptor of one part: operation, mode, tag length, key, context slot, lengths of AAD and data. -/
def desc (op mode tag key ctx aad len : Nat) : Bytes :=
  toLE 1 op ++ toLE 1 mode ++ toLE 1 tag ++ toLE 1 3 ++ toLE 4 key ++ toLE 1 ctx ++ zeros 3 ++ toLE 4 aad ++ toLE 4 len ++ zeros 44

/-- The handles of the keys of kinds 7 and 6. -/
def h7 : Nat := 7 * 2 ^ 28 + 1
def h6 : Nat := 6 * 2 ^ 28 + 5 * 2 ^ 16 + 1

/-- A saved context in every slot. -/
def full (m : Nat) (k : Bool) : State := { up with sym := { Sym.reset with ctx := List.replicate 32 (some ⟨m, k, 0x10, 0, 0, [], [], [], 0, none⟩) } }

/-- A request in the queue whose last segment is next. -/
def waiting (op : Nat) (key engine : Nat) : SymReq :=
  { desc := desc op (if op = 4 then 3 else 0) (if op = 4 then 16 else 0) key 0xFF 0 16, input := [], master := 4, keeper := false, cls := 3, arrival := 0
    engine := engine, nonce := [], slot := 0xFF, mailbox := false, left := 1, begun := true, key := [], written := 0, resvOk := true }

/-- The state in which it waits. -/
def asked (r : SymReq) : State := { up with sym := { Sym.reset with queue := [r] } }

/-- The base point of P-521 and a wrapped key. -/
def sealedG : Bytes := Crypto.pointBytes (Crypto.pGx, Crypto.pGy) ++ zeros 40

/-- PROVISIONED, and the last epoch in FIELD. -/
def provisioned : State := { up with fuses := Fuses.reset }
def lastEpoch : State := { field with fuses := { field.fuses with epoch := List.replicate 15 .done } }

/-- A capture. -/
def cap : Capture := ⟨7, 1, 0, 0, [], 0, some [], false, 0⟩

/-- A die, and the two with the first failed. -/
def aDie : Die := Nand.reset.dies.headD ⟨false, 7168, 0, [], 64, 0, 0, [0, 0, 0], 0, []⟩
def oneDie : List Die := [{ aDie with failed := true }, aDie]

/-- A journal entry staged. -/
def staged : Staged := ⟨⟨0, 0, 0, 0, 0x0801, 0, 8, 0, [], []⟩, []⟩

/-- The die of the complete page serves a lower class next. -/
def drainWaits : State :=
  { up with nand := { Nand.reset with dies := [{ aDie with runs := [0, 0, 0, 0, 32, 0] }, aDie] }
            vault := { up.vault with staging := ⟨[staged], none, []⟩, nextSeq := 32 }
            sto := { Storage.reset with queue := [.load] } }

/-- The step of a token of class F, its key loaded, and its session. -/
def lstep : LearnStep := ⟨77, 9, 1, [], zeros 32, true, up.mt⟩
def lsess : Learn := ⟨1, [], up.mt, some lstep⟩

/-- The state in which it is learned. -/
def learning (l : Learn) : State := { up with tok := { Tok.reset with learn := some l } }

/-- A KEYACK with its MAC. -/
def ackHead : Bytes := toBE 1 0x32 ++ toBE 4 77
def ack : Bytes := ackHead ++ (learning lsess).learnMac lstep 0x11 [] 8

theorem ack_mac : ((learning lsess).learnMac lstep 0x11 [] 8).length = 8 := by simp [State.learnMac]

theorem ack_fits : slice ack 5 8 = (learning lsess).learnMac lstep 0x11 [] 8 := by
  have := slice_append ackHead ((learning lsess).learnMac lstep 0x11 [] 8) [] 5 8 (by decide) ack_mac
  rwa [List.append_nil] at this

theorem ack_length : ack.length = 13 := by rw [ack, List.length_append, ack_mac]; decide
theorem ack_head : u8 ack 0 = 0x32 ∧ be ack 1 4 = 77 :=
  ⟨by rw [ack, u8_left _ _ _ (by decide)]; decide, by rw [ack, be_left _ _ _ _ (by decide)]; decide⟩

/-- A TIME section with the NT_MODE given. -/
def timeBytes (mode : Nat) : Bytes := toLE 1 mode ++ [0, 0, 3] ++ toLE 4 800 ++ zeros 10 ++ toLE 1 7 ++ zeros 13
def timed (mode : Nat) (t : Tim) : State :=
  { up with tim := t, sys := { up.sys with sections := up.sys.sections ++ [⟨0x0C, 0, timeBytes mode⟩] } }

/-- The T1S link is up and NT follows it. -/
def linked (t : Tim) : State := fx (timed 1 t) [(F.HIF_STAT_T1S_UP, 1)]

/-- A unit enabled on the base MT. -/
def pulsing (mode : Nat) (p : Pulse) : State :=
  fx { up with tim := { Tim.reset with pulses := List.replicate 4 p } }
    [(F.TIM_PULSEn_CTL_EN 0, 1), (F.TIM_PULSEn_CTL_BASE 0, 1), (F.TIM_PULSEn_CTL_MODE 0, mode)]

/-- A power state of the device with a vote of one client on an island. -/
def voted (s : State) (c i : Nat) : State := fx s [(F.PWR_VOTEn_CLIENTS i, 2 ^ c)]

/-- The state with pair B as standby, with the islands given in NAP. -/
def off : State := up.setReg R.PWR_ISL_STATE 0
def power (x : Power) : State := { off with pwr := x }

/-- No island is held where no transaction, packet, transfer, job or release is open. -/
theorem free_held (s : State) (h1 : s.net.openTx = []) (h2 : s.net.ports = []) (h3 : s.pwr.transfers = [])
    (h4 : ∀ k < 4, (s.tile k).job = none ∧ (s.tile k).slice = none) (h5 : s.rel.start = none) : ∀ i, s.held i = false := by
  intro i
  by_cases h : 3 ≤ i ∧ i ≤ 6
  · have := h4 (i - 3) (by omega)
    simp [State.held, h1, h2, h3, h5, this.1, this.2]
  · have h' : (decide (3 ≤ i) && decide (i ≤ 6)) = false := by rw [← Bool.decide_and]; exact decide_eq_false h
    simp [State.held, h1, h2, h3, h5, h']

/-- READY, with pair B as a current standby. -/
def ready : State := fx up [(F.PWR_PAIR_STANDBY_READY, 1)]

/-- READY on the RC. -/
def onRc : State := fx up [(F.PWR_STAT_REF_RC, 1)]

/-- The governor's section: a mean limit of 10 mW times 10. -/
def governed (l : List (Field × Nat)) : State :=
  fx { up with sys := { up.sys with sections := up.sys.sections ++ [⟨2, 0, zeros 4 ++ toLE 1 10 ++ zeros 11⟩] } } l

/-- The NFC section: both reader types, LPCD_DELTA 10. -/
def nfcState (t : Tag) : State :=
  { up with tag := t, sys := { up.sys with sections := up.sys.sections ++ [⟨0x0E, 0, [3, 0, 0, 0, 0, 0, 10, 0, 7, 5] ++ zeros 22⟩] } }
def sense (n : Nfc) : State := { nfcState Tag.reset with nfc := n }

/-- A detection of one card, a learning one, and an ARSP. -/
def card : Card := ⟨0, zeros 4, 0, 0, 0⟩
def det (learn : Bool) : Detection := ⟨[card], 0, 0, zeros 16, 0, learn, up.mt - 500000⟩
def cardStep : LearnStep := ⟨77, 9, 1, [], zeros 32, false, up.mt⟩
def cardLearn : Learn := ⟨1, [], up.mt, some cardStep⟩
def arsp : Bytes := [0x34, 0] ++ toBE 4 77 ++ zeros 12

/-- The tag in the field, selected, in tag mode. -/
def fieldTag : Tag := { Tag.reset with field := true, selected := true, tagMode := true }

/-- The tag after AUTH_BEGIN. -/
def waitTag : Tag := { fieldTag with app := .keyWait }

/-- A manifest's length of zeros, the update state given with it in the target slot, and a small image in that slot. -/
def big : Bytes := List.replicate 65536 0
theorem big_length : big.length = 65536 := List.length_replicate
def updating (v : UpdState) (x : Bytes) : State :=
  { up with update := { Update.reset with state := v, next := 2, target := 1, slots := [⟨.running, 1, [], []⟩, ⟨.loading, 1, [], x⟩] } }
def trialling (u : UpdRun) : State := { updating .trial [] with upd := u }

theorem big_fits_idle : (updating .idle []).mbReady 0x0E01 big :=
  ⟨rfl, rfl, by decide, rfl, by rw [big_length]; decide, by rw [big_length]; decide⟩
theorem big_fits_download : (updating .download big).mbReady 0x0E01 big :=
  ⟨rfl, rfl, by decide, rfl, by rw [big_length]; decide, by rw [big_length]; decide⟩

theorem big_check (s : State) : s.mfCheck big = 0x0E02 := by
  have h0 : le big 0 4 = 0 := by decide
  have h : mfConsistent big = false := by simp [mfConsistent, h0]
  simp [State.mfCheck, h]

theorem big_manifest : manifest big = big := List.take_of_length_le (Nat.le_of_eq big_length)

/-- The head of a manifest of an image that ends 4 bytes into chunk 2. -/
def mfHead : Bytes := zeros 12 ++ toLE 4 131076

/-- The generation in force. -/
def upGen : Generation := up.vault.keyring.getD (sealGeneration 1 0 0 [])

/-- The bytes of HOST_LINKS: all links, all carry the mailbox, all awake, one filter. -/
def linkBytes : Bytes :=
  [7, 7, 0, 0, 0, 7, 1, 0] ++ zeros 16 ++ padTo 16 (zeros 9 ++ [8]) ++ padTo 16 (zeros 9 ++ [8]) ++ [1, 0, 0, 0, 0, 0, 1, 0] ++ zeros 8 ++ zeros 24

/-- The links are up. -/
def hosted (h : Hif) : State :=
  fx { up with hif := h, sys := { up.sys with sections := up.sys.sections ++ [⟨0x0B, 0, linkBytes⟩] } }
    [(F.HIF_STAT_CAN0_UP, 1), (F.HIF_STAT_CAN1_UP, 1), (F.HIF_STAT_T1S_UP, 1)]

/-- An ECHO command on a transport. -/
def echo (t : Transport) : MbCmd := ⟨t, mkMessage 0x0104 0 [], 0⟩

/-- The state with 2 discovery entries' paths: CAN0 up for the partners of the image. -/
def discState (h : Hif) : State :=
  fx { up with hif := h } [(F.HIF_STAT_CAN0_UP, 1)]

/-- The same with discovery on T1S alone. -/
def discT1s : State :=
  fx { up with sys := { up.sys with sections := [⟨10, 0, toLE 1 1 ++ toLE 1 3 ++ toLE 2 1 ++ padTo 12 [] ++ toLE 1 0 ++ toLE 1 0 ++ toLE 1 3 ++ padTo 13 []⟩] } }
    [(F.HIF_STAT_T1S_UP, 1)]

/-- A frame of 4 bytes to CAN0, and a received one with its head. -/
def canFrame : Bytes := [0, 0, 4, 0] ++ toLE 4 5 ++ zeros 8 ++ [1, 2, 3, 4]
def heardFrame : Bytes := [0, 0, 4, 0] ++ toLE 4 5 ++ zeros 20 ++ [1, 2, 3, 4]

/-- The head of a discovery message. -/
def hello : Bytes := [0x61, 0, 1, 0, 9] ++ zeros 143

/-- A directory of 3 slots in the NOR. -/
def dirBody : Bytes := toLE 4 0x5249444E ++ toLE 4 1 ++ toLE 4 0x20000 ++ toLE 4 0x10000 ++ toLE 4 0x30000 ++ toLE 4 0x10000 ++ toLE 4 0x40000 ++ toLE 4 0x10000
def dirBytes : Bytes := dirBody ++ toLE 4 (crc32c dirBody).toNat
def writing (w : Option CfgWrite) : State :=
  { up with nor := { Nor.reset with cells := norWrite [] 0 dirBytes }, sys := { up.sys with cfgWrite := w } }

/-- A setting of the values 1 to 9 that the host may write, and one that it may not. -/
def tuned (flags : Nat) : State :=
  { up with sys := { up.sys with sections := up.sys.sections ++ [⟨0x11, 0, toLE 2 0x0301 ++ toLE 2 flags ++ toLE 4 5 ++ toLE 4 1 ++ toLE 4 9⟩] }
            vault := { up.vault with bank := some ⟨1, [(0x0301, 5)]⟩ } }
theorem hosted_rxq (h : Hif) : (hosted h).hif.rxq = h.rxq := rfl
theorem full_queue : (hosted { Hif.reset with rxq := [⟨List.replicate 131072 0⟩] }).hif.rxq.foldl (fun m x => m + x.bytes.length) 0 = 131072 := by
  simp only [hosted_rxq, List.foldl, List.length_replicate, Nat.zero_add]
theorem big_chunk : (writing (some ⟨70000, 1, []⟩)).mbReady 0x0202 (toLE 4 (0 : BitVec 32).toNat ++ big) := by
  have h : (toLE 4 (0 : BitVec 32).toNat ++ big).length = 65540 := by rw [List.length_append, big_length]; decide
  exact ⟨rfl, rfl, by decide, rfl, by rw [h]; decide, by rw [h]; decide⟩
theorem big_exposed : ((writing (some ⟨70000, 1, []⟩)).begun 0x0202 (toLE 4 (0 : BitVec 32).toNat ++ big)).exposed ⟨70000, 1, big⟩ 0x10000 = 0 := by
  have h : headerCode big 0x10000 = 0x0201 := by simp [headerCode, show le big 0 4 = 0 by decide]
  simp [State.exposed, h]
def setRec (flags : Nat) : SettingRec := ⟨0x0301, flags, 5, 1, 9⟩
/-- Each clause of StepRunsTheFrontCommandAndCompletes (its part 1) has a state and operands that meet its hypotheses together. -/
theorem witness_StepRunsTheFrontCommandAndCompletes_1 :
    (∃ (s : State), s.pending = []) :=
  ⟨State.reset, by decide⟩

/-- Each clause of CommandsLeaveTheQueue has a state and operands that meet its hypotheses together. -/
theorem witness_CommandsLeaveTheQueue :
    (∃ (c : Instr) (s : State) (t : State), exec c s = .next t) :=
  ⟨.disableWrite .cfg, up, _, rfl⟩

/-- Each clause of FusesAreNeverUndone has a state and operands that meet its hypotheses together. -/
theorem witness_FusesAreNeverUndone :
    (∃ (s : State) (t : State), step s = .next t) :=
  ⟨up, _, rfl⟩

/-- Each clause of StepsKeepTheMemoriesCanonical has a state and operands that meet its hypotheses together. -/
theorem witness_StepsKeepTheMemoriesCanonical :
    (∃ (s : State) (t : State), s.canonical = true ∧ step s = .next t) :=
  ⟨up, _, by decide, rfl⟩

/-- Each clause of ResetIsAShippedPart has a state and operands that meet its hypotheses together. -/
theorem witness_ResetIsAShippedPart :
    (∃ (off : Nat) (r : RegRow), regRow? off = some r) :=
  ⟨0x10, _, rfl⟩

/-- Each clause of PacketJudgedAtDestination has a state and operands that meet its hypotheses together. -/
theorem witness_PacketJudgedAtDestination :
    (∃ (s : State) (x : Send) (ring : Fin 2) (c : Nat), s.oneHop x ring ∧ s.portOpen x ∧ pktGood (s.portPacket x) = true ∧ (x.op = 0 ∨ x.op = 1) ∧ s.packetRefusal (s.portPacket x) = c ∧ c ≠ 0)
    ∧ (∃ (s : State) (x : Send) (ring : Fin 2), s.oneHop x ring ∧ s.portOpen x ∧ pktGood (s.portPacket x) = true ∧ s.packetRefusal (s.portPacket x) = 0 ∧ x.op = 1 ∧ s.destOf (s.portPacket x) ≠ 14 ∧ s.inSram (s.destOf (s.portPacket x)) (x.offset.toNat / 8) (s.portPacket x).data.length = true)
    ∧ (∃ (s : State) (x : Send) (ring : Fin 2), s.oneHop x ring ∧ s.portOpen x ∧ pktGood (s.portPacket x) = true ∧ s.packetRefusal (s.portPacket x) = 0 ∧ x.op = 0 ∧ s.inSram (s.destOf (s.portPacket x)) (x.offset.toNat / 8) (s.portPacket x).data.length = true)
    ∧ (∃ (s : State) (x : Send) (ring : Fin 2) (noise : List (BitVec 64)), s.oneHop x ring ∧ pktGood (noisyPacket (s.portPacket x) noise) = false ∧ s.ringFailed (1 - ring.val) (s.destOf (s.portPacket x)) = false)
    ∧ (∃ (s : State) (x : Send) (ring : Fin 2), s.oneHop x ring ∧ pktGood (s.portPacket x) = true ∧ s.destOf (s.portPacket x) ≠ 0 ∧ s.island (s.destOf (s.portPacket x)) < 2)
    ∧ (∃ (s : State) (p : Packet), s.islandFailed (s.destOf p) = true) :=
  ⟨⟨up, ⟨9, 10, false, false, 1, 1, 9, 0, [5], .vaultKeyring⟩, 0, 0x0121, by decide⟩,
    ⟨up, ⟨1, 2, false, false, 2, 1, 9, 0x80000, [5], .plain⟩, 0, by decide⟩,
    ⟨up, { (⟨1, 2, false, false, 2, 1, 9, 0x80000, [5], .plain⟩ : Send) with op := 0 }, 0, by decide⟩,
    ⟨up, ⟨1, 2, false, false, 2, 1, 9, 0x80000, [5], .plain⟩, 0, [1], by decide⟩,
    ⟨up.setIsland 9 0, ⟨8, 9, false, false, 2, 1, 9, 0, [5], .plain⟩, 0, by decide⟩,
    ⟨fx up [(⟨R.PWR_ISL_STATE, 23, 22⟩, 3)], pkt (11 * 2 ^ 60 + 4 * 2 ^ 52 + 3 * 2 ^ 49), by decide⟩⟩

/-- Each clause of CommitPointsAndPuppeteers (its part 1) has a state and operands that meet its hypotheses together. -/
theorem witness_CommitPointsAndPuppeteers_1 :
    (∃ (s : State) (n : Nat) (rest : List Nat), s.get F.PWR_PAIR_STANDBY_READY = 1 ∧ s.net.records = n :: rest)
    ∧ (∃ (s : State), s.get F.PWR_PAIR_STANDBY_READY = 0) :=
  ⟨⟨fx { up with net := { Net.reset with records := [4, 5] } } [(F.PWR_PAIR_STANDBY_READY, 1)], 4, [5], by decide⟩,
    ⟨up, by decide⟩⟩

/-- Each clause of CommitPointsAndPuppeteers (its part 2) has a state and operands that meet its hypotheses together. -/
theorem witness_CommitPointsAndPuppeteers_2 :
    (∃ (s : State) (c : Fin 3), s.net.heldOut.contains c.val = false) :=
  ⟨up, 0, by decide⟩

/-- Each clause of JobsRunOnTiles (its part 1) has a state and operands that meet its hypotheses together. -/
theorem witness_JobsRunOnTiles_1 :
    (∃ (l : List TileJob) (j : TileJob), nextJob l = some j)
    ∧ (∃ (s : State) (tile : Fin 4) (k : Nat) (j : TileJob), s.net.tiles.length = 4 ∧ (s.tile tile.val).failed = false ∧ (s.tile tile.val).job = none ∧ (s.tile tile.val).slice = none ∧ s.freeTile = some k ∧ nextJob s.net.jobs = some j)
    ∧ (∃ (s : State) (tile : Fin 4) (b : BackKind), s.net.tiles.length = 4 ∧ (s.tile tile.val).slice = some b ∧ s.net.jobs = [] ∧ 1 ≤ s.get F.PWR_STAT_GOV_STEP)
    ∧ (∃ (s : State) (tile : Fin 4) (c : Nat) (k : Nat) (j : TileJob), s.net.tiles.length = 4 ∧ (s.tile tile.val).slice = some (.analysis c) ∧ (s.setTile tile.val { s.tile tile.val with slice := none }).freeTile = some k ∧ nextJob s.net.jobs = some j ∧ s.votes (3 + tile.val) ≠ 0 ∧ s.runVotes (3 + tile.val) ≠ 0) :=
  ⟨⟨[⟨1, 0, 0, .keeper⟩], ⟨1, 0, 0, .keeper⟩, by decide⟩,
    ⟨{ up with net := { Net.reset with jobs := [⟨1, 0, 0, .keeper⟩] } }, 0, 0, ⟨1, 0, 0, .keeper⟩, by decide⟩,
    ⟨fx ({ up with net := { Net.reset with tiles := [{ Tile.reset with slice := some (.calibration []) }, .reset, .reset, .reset] } }) [(F.PWR_STAT_GOV_STEP, 1)], 0, .calibration [], by decide⟩,
    ⟨fx ({ up with net := { Net.reset with tiles := [{ Tile.reset with slice := some (.analysis 4) }, .reset, .reset, .reset], jobs := [⟨1, 0, 0, .keeper⟩] } }) [(F.PWR_VOTEn_CLIENTS 3, 1)], 0, 4, 0, ⟨1, 0, 0, .keeper⟩, by decide⟩⟩

/-- Each clause of ResetSourcesRestartTheBlock has a state and operands that meet its hypotheses together. -/
theorem witness_ResetSourcesRestartTheBlock :
    (∃ (s : State), s.pilot.vbatUp = false)
    ∧ (∃ (s : State), s.pilot.vbatUp = true)
    ∧ (∃ (s : State) (n : Nat), s.pilot.vbatUp = true ∧ 10 ≤ n)
    ∧ (∃ (n : Nat), n < 2)
    ∧ (∃ (s : State) (m : Nat), s.pilot.vbatUp = true ∧ s.net.restartAt = some m ∧ m ≤ s.mt)
    ∧ (∃ (s : State), s.net.restartAt = none)
    ∧ (∃ (s : State), s.pilot.vbatUp = true ∧ s.recovery = true ∧ s.sys.cause = some .alarm ∧ 327680 ≤ (s.pilot.pt - BitVec.ofNat 32 s.sys.recPt).toNat ∧ s.pilot.selfRestarts < 3)
    ∧ (∃ (s : State), 3 ≤ s.pilot.selfRestarts)
    ∧ (∃ (s : State), s.pilot.vbatUp = true ∧ s.keys.blow = none)
    ∧ (∃ (s : State), s.pilot.vbatUp = true ∧ s.keys.blow.isSome = true)
    ∧ (∃ (n : Nat), 1 ≤ n ∧ n < 8) :=
  ⟨⟨State.reset, by decide⟩,
    ⟨up, by decide⟩,
    ⟨up, 10, by decide⟩,
    ⟨1, by decide⟩,
    ⟨{ up with net := { Net.reset with restartAt := some up.mt } }, up.mt, by decide⟩,
    ⟨up, by decide⟩,
    ⟨{ ph 15 with sys := { up.sys with cause := some .alarm }, pilot := { up.pilot with pt := 327680, selfRestarts := 2 } }, by decide⟩,
    ⟨{ up with pilot := { up.pilot with selfRestarts := 3 } }, by decide⟩,
    ⟨up, by decide⟩,
    ⟨{ up with keys := { Keys.reset with blow := some .epoch } }, by decide⟩,
    ⟨7, by decide⟩⟩

/-- Each clause of StartChoosesReferencePairAndFirmware has a state and operands that meet its hypotheses together. -/
theorem witness_StartChoosesReferencePairAndFirmware :
    (∃ (s : State), s.mayPhase 2 = true)
    ∧ (∃ (s : State), s.mayPhase 2 = true)
    ∧ (∃ (s : State), s.mayPhase 3 = true ∧ s.keys.blow = none)
    ∧ (∃ (s : State), s.mayPhase 3 = true ∧ s.keys.blow = none)
    ∧ (∃ (s : State) (a : Bool) (b : Bool), s.mayPhase 3 = true ∧ s.keys.blow = none ∧ s.fuses.state ≠ 0 ∧ s.fuses.state ≠ 5 ∧ s.vault.transition = none ∧ (s.choosePair a b).isSome = true)
    ∧ (∃ (s : State), s.fuses.retireA = false)
    ∧ (∃ (s : State), s.fuses.retireB = false ∧ s.fuses.retireA = false)
    ∧ (∃ (s : State) (rb : Bool), s.mayPhase 4 = true ∧ (((((if (s.repairStaging.openMeta).2 then (s.repairStaging.openMeta).1.repairNand else (s.repairStaging.openMeta).1).startIslands [8, 11]).takeConfirmed).countTrial)).slotRuns (((((((if (s.repairStaging.openMeta).2 then (s.repairStaging.openMeta).1.repairNand else (s.repairStaging.openMeta).1).startIslands [8, 11]).takeConfirmed).countTrial)).slotIn .trial).getD (((((((if (s.repairStaging.openMeta).2 then (s.repairStaging.openMeta).1.repairNand else (s.repairStaging.openMeta).1).startIslands [8, 11]).takeConfirmed).countTrial)).slotIn .running).getD (((((if (s.repairStaging.openMeta).2 then (s.repairStaging.openMeta).1.repairNand else (s.repairStaging.openMeta).1).startIslands [8, 11]).takeConfirmed).countTrial)).update.running)) ((s.repairStaging.openMeta).2 && (((((if (s.repairStaging.openMeta).2 then (s.repairStaging.openMeta).1.repairNand else (s.repairStaging.openMeta).1).startIslands [8, 11]).takeConfirmed).countTrial)).nandUp && (if (((((((if (s.repairStaging.openMeta).2 then (s.repairStaging.openMeta).1.repairNand else (s.repairStaging.openMeta).1).startIslands [8, 11]).takeConfirmed).countTrial)).slotIn .trial).getD (((((((if (s.repairStaging.openMeta).2 then (s.repairStaging.openMeta).1.repairNand else (s.repairStaging.openMeta).1).startIslands [8, 11]).takeConfirmed).countTrial)).slotIn .running).getD (((((if (s.repairStaging.openMeta).2 then (s.repairStaging.openMeta).1.repairNand else (s.repairStaging.openMeta).1).startIslands [8, 11]).takeConfirmed).countTrial)).update.running)) = 0 then true else rb)) = true)
    ∧ (∃ (s : State), s.mayPhase 3 = false)
    ∧ (∃ (s : State), s.mayPhase 3 = false ∧ s.mayPhase 4 = false) :=
  ⟨⟨ph 2, by decide⟩,
    ⟨ph 2, by decide⟩,
    ⟨ph 3, by decide⟩,
    ⟨ph 3, by decide⟩,
    ⟨ph 3, true, true, by decide⟩,
    ⟨up, by decide⟩,
    ⟨up, by decide⟩,
    ⟨ph 4, true, rfl, slotRuns_factory _ 0 rfl rfl⟩,
    ⟨up, by decide⟩,
    ⟨up, by decide⟩⟩

/-- Each clause of StartDerivesKeysAndEnablesTheImmobiliserPath has a state and operands that meet its hypotheses together. -/
theorem witness_StartDerivesKeysAndEnablesTheImmobiliserPath :
    (∃ (s : State) (g : Generation), s.mayPhase 5 = true ∧ s.vaultUp = true ∧ s.vault.keyring = some g ∧ g.epoch = s.fuses.epochNo ∧ generationOk g = true ∧ s.sys.fw = .slot ∧ s.ringS ≤ s.sys.sv ∧ (s.fuses.state = 2 ∨ s.fuses.state = 3) ∧ s.vault.bootEpoch + 1 < 2 ^ 24)
    ∧ (∃ (s : State), s.mayPhase 5 = true ∧ s.sys.fw = .slot)
    ∧ (∃ (s : State), s.mayPhase 6 = true)
    ∧ (∃ (s : State), s.mayPhase 7 = true)
    ∧ (∃ (s : State), s.mayPhase 7 = true)
    ∧ (∃ (s : State), s.mayPhase 8 = true)
    ∧ (∃ (s : State) (env : Env) (u : Subsys), s.subCheck (s.selected env.vioHigh) false s.enabled u = 0 ∧ u ∈ [.sys, .cfg, .pwr, .tam, .hif, .upd])
    ∧ (∃ (s : State) (env : Env) (u : Subsys), s.subCheck (s.selected env.vioHigh) false s.enabled u ≠ 0) :=
  ⟨⟨{ ph 5 with vault := { up.vault with keyring := some (sealGeneration 1 0 0 []) }, sys := { up.sys with sv := 1 } }, _, by decide, by decide, rfl, by decide, generationOk_seal _ _ _ _, by decide⟩,
    ⟨ph 5, by decide⟩,
    ⟨ph 6, by decide⟩,
    ⟨ph 7, by decide⟩,
    ⟨ph 7, by decide⟩,
    ⟨ph 8, by decide⟩,
    ⟨up, env, .cfg, by decide⟩,
    ⟨up, env, .nfc, by decide⟩⟩

/-- Each clause of StartCompletesAndEnableWritesAreChecked (its part 1) has a state and operands that meet its hypotheses together. -/
theorem witness_StartCompletesAndEnableWritesAreChecked_1 :
    (∃ (s : State), s.mayPhase 9 = true ∧ s.sys.nineDone = false)
    ∧ (∃ (s : State), s.sys.nineDone = true)
    ∧ (∃ (s : State), s.phase = 9 ∧ s.sys.nineDone = true ∧ s.net.loading = none ∧ (s.sys.readySeen = false ∨ s.sys.unchecked = []))
    ∧ (∃ (s : State), (s.net.loading.isSome = true ∨ (s.sys.readySeen = true ∧ s.sys.unchecked ≠ []))) :=
  ⟨⟨{ ph 9 with sys := Sys.reset }, by decide⟩,
    ⟨up, by decide⟩,
    ⟨ph 9, by decide⟩,
    ⟨{ up with net := { Net.reset with loading := some true } }, by decide⟩⟩

/-- Each clause of StartCompletesAndEnableWritesAreChecked (its part 2) has a state and operands that meet its hypotheses together. -/
theorem witness_StartCompletesAndEnableWritesAreChecked_2 :
    (∃ (s : State) (u : Subsys), s.phase = 0xA ∧ s.enabled u = false ∧ s.sys.checks.contains u = false)
    ∧ (∃ (s : State) (u : Subsys), s.phase = 0xA ∧ (s.enabled u = true ∨ s.sys.checks.contains u = true))
    ∧ (∃ (s : State), 3 ≤ s.phase ∧ s.phase ≤ 9 ∧ s.sys.nineDone = false)
    ∧ (∃ (s : State) (u : Subsys), s.phase = 0xA ∧ u ∈ immobiliserPath)
    ∧ (∃ (s : State) (u : Subsys), s.phase = 0xA ∧ u ∈ phaseNine ∧ s.sys.checks.contains u = true)
    ∧ (∃ (s : State), s.phase = 0xA ∧ s.sys.checks.contains .upd = false ∧ s.enabled .upd = true)
    ∧ (∃ (s : State) (u : Subsys) (rest : List Subsys), s.sys.checks = u :: rest)
    ∧ (∃ (s : State), s.sys.checks = []) :=
  ⟨⟨fx up [(⟨R.SYS_EN_MAP, 14, 14⟩, 0)], .upd, by decide⟩,
    ⟨up, .upd, by decide⟩,
    ⟨{ ph 9 with sys := Sys.reset }, by decide⟩,
    ⟨up, .tok, by decide⟩,
    ⟨{ up with sys := { up.sys with checks := [.upd] } }, .upd, by decide⟩,
    ⟨up, by decide⟩,
    ⟨{ up with sys := { up.sys with checks := [.upd] } }, .upd, [], by decide⟩,
    ⟨up, by decide⟩⟩

/-- Each clause of RequestsTakeTheLfAir has a state and operands that meet its hypotheses together. -/
theorem witness_RequestsTakeTheLfAir :
    (∃ (s : State), s.mbReady 0x0501 [] ∧ s.enabled .tok = true ∧ (s.planOf 0x0B).isSome = true ∧ s.lf.queue.length < 8)
    ∧ (∃ (s : State), s.mbReady 0x0502 [] ∧ s.enabled .tok = true ∧ s.lf.queue.length < 8)
    ∧ (∃ (s : State), s.mbReady 0x0502 [] ∧ s.enabled .tok = false)
    ∧ (∃ (s : State) (r : LfReq), s.lf.hold = none ∧ s.lf.freeAt ≤ s.mt ∧ s.enabled .lf = true ∧ s.enabled .tok = true ∧ s.flag F.PWR_STAT_BROWNOUT = false ∧ s.tok.commitWait = none ∧ s.reloadsAir = false ∧ (nextLf (s.lf.queue.filter (fun r => r.lft || s.radioSettled)) = some r) ∧ r.lft = true ∧ r.learn = false)
    ∧ (∃ (s : State) (r : LfReq) (p : Nat × Nat), s.lf.hold = none ∧ s.lf.freeAt ≤ s.mt ∧ s.enabled .lf = true ∧ s.enabled .tok = true ∧ s.flag F.PWR_STAT_BROWNOUT = false ∧ s.tok.commitWait = none ∧ s.reloadsAir = false ∧ (nextLf (s.lf.queue.filter (fun r => r.lft || s.radioSettled)) = some r) ∧ r.lft = false ∧ s.lfOnlyNow false = false ∧ s.planOf r.code = some p ∧ s.patChannels p.1 ≠ [])
    ∧ (∃ (s : State), s.lf.hold = none ∧ s.lf.queue = [])
    ∧ (∃ (s : State), s.lf.hold = none ∧ (s.candleRuns = false ∨ s.pollDue = false))
    ∧ (∃ (s : State), s.lf.hold = none ∧ s.candleRuns = true ∧ s.pollDue = true ∧ s.lf.queue ≠ [])
    ∧ (∃ (s : State) (p : Nat × Nat), s.lf.hold = none ∧ s.candleRuns = true ∧ s.pollDue = true ∧ s.lf.queue = [] ∧ s.lf.freeAt ≤ s.mt ∧ s.flag F.PWR_STAT_BROWNOUT = false ∧ s.tok.commitWait = none ∧ s.reloadsAir = false ∧ s.plan 0 = some p ∧ s.lfOnlyNow true = false ∧ framesFit p.1 [(s.mt, wakePieces)] s = true ∧ s.patChannels p.1 ≠ [])
    ∧ (∃ (q : List LfReq) (r : LfReq), nextLf q = some r)
    ∧ (∃ (q : List LfReq), q ≠ [])
    ∧ (∃ (s : State) (r : LfReq), 8 ≤ s.lf.queue.length)
    ∧ (∃ (s : State) (r : LfReq), s.lf.queue.length < 8)
    ∧ (∃ (s : State), s.dueHold.lf.hold.isSome = true) :=
  ⟨⟨up, by decide⟩,
    ⟨up, by decide⟩,
    ⟨fx up [(⟨R.SYS_EN_MAP, 8, 8⟩, 0)], by decide⟩,
    ⟨live { up with lf := { Lf.reset with queue := [hostReq true] } }, hostReq true, by decide⟩,
    ⟨live { up with lf := { Lf.reset with queue := [hostReq false] } }, hostReq false, (0, 0), by decide⟩,
    ⟨up, by decide⟩,
    ⟨fx up [(F.LF_CTL_CANDLE_HOLD, 1)], by decide, by decide⟩,
    ⟨live { up with lf := { Lf.reset with queue := [hostReq false] } }, by decide⟩,
    ⟨live up, (0, 0), by decide +kernel⟩,
    ⟨[hostReq false, hostReq true], hostReq true, by decide⟩,
    ⟨[hostReq false], by decide⟩,
    ⟨{ up with lf := { Lf.reset with queue := List.replicate 8 (hostReq false) } }, hostReq true, by decide⟩,
    ⟨{ up with lf := { Lf.reset with queue := List.replicate 7 (hostReq false) } }, hostReq true, by decide⟩,
    ⟨air (hold .answers), by decide⟩⟩

/-- Each clause of RoundsAndLfReturnsAreJudged (its part 1) has a state and operands that meet its hypotheses together. -/
theorem witness_RoundsAndLfReturnsAreJudged_1 :
    (∃ (s : State) (k : Fin 8) (q : SlotSignal) (f : Bytes) (b : Bytes) (h : Hold), s.lf.hold = some h ∧ h.phase = .answers ∧ s.subListens = true ∧ s.onRadio .answers = true ∧ (h.req.code ≠ 0 ∨ s.slotEnergy (q.windows.take 7) = true) ∧ f.length = 9 ∧ crcGood f = some b ∧ u8 b 0 / 64 = 1 ∧ h.collided.contains k.val = false ∧ (h.answers.any (fun a => a.rslot == k.val) = false))
    ∧ (∃ (s : State) (k : Fin 8) (q : SlotSignal) (h : Hold), s.lf.hold = some h ∧ h.phase = .answers ∧ s.subListens = true ∧ s.onRadio .answers = true ∧ (h.req.code ≠ 0 ∨ s.slotEnergy (q.windows.take 7) = true) ∧ h.collided.contains k.val = false ∧ (h.answers.any (fun a => a.rslot == k.val) = false))
    ∧ (∃ (s : State) (k : Fin 8) (q : SlotSignal) (h : Hold), s.lf.hold = some h ∧ h.phase = .answers ∧ s.subListens = true ∧ s.onRadio .answers = true ∧ (h.req.code ≠ 0 ∨ s.slotEnergy (q.windows.take 7) = true) ∧ (h.collided.contains k.val = true ∨ h.answers.any (fun a => a.rslot == k.val) = true))
    ∧ (∃ (s : State), (s.subListens = false ∨ s.onRadio .answers = false))
    ∧ (∃ (s : State) (h : Hold), s.lf.hold = some h ∧ h.phase = .answers ∧ h.answers = [] ∧ h.collided = [])
    ∧ (∃ (s : State) (h : Hold), s.lf.hold = some h ∧ h.phase = .answers ∧ s.listing h ≠ [] ∧ h.answers.length + h.collided.length < 8 ∧ h.req.code ≠ 0)
    ∧ (∃ (s : State) (h : Hold), s.flag F.RF_STAT_TX24_OK = true ∧ s.islandFailed 7 = false ∧ s.enabled .rf = true ∧ s.rf.queue = [] ∧ s.onRc = false ∧ (s.rtPast (s.rtAt (h.wakeEnd + 47000)) ≤ 409600 ∨ 2 ^ 47 ≤ s.rtPast (s.rtAt (h.wakeEnd + 47000))))
    ∧ (∃ (s : State) (pos : Fin 8) (f : Bytes) (b : Bytes) (h : Hold) (m : Member), s.lf.hold = some h ∧ h.members[pos.val]? = some m ∧ crcGood f = some b ∧ h.phase = .cry ∧ h.chalOut = 1 ∧ s.subListens = true ∧ s.onRadio .crys = true ∧ f.length = 17 ∧ u8 b 0 = 128 + m.slot ∧ m.cry = 0)
    ∧ (∃ (f : Bytes), crcGood f = none)
    ∧ (∃ (s : State) (h : Hold), s.lf.hold = some h ∧ (∀ m ∈ h.members, m.cry = 0 ∨ m.cry = 4) ∧ h.phase = .cry ∧ (s.rng.sessions.any (fun x => x.req == h.id) = true) ∧ s.nMeas ≠ 0 ∧ s.rng.onAir = none ∧ h.req.code ≠ 0 ∧ (h.pattern :: s.measPats).any (fun p => (s.patChannels p).isEmpty) = false)
    ∧ (∃ (s : State) (pos : Fin 8) (f : Bytes) (b : Bytes) (h : Hold) (x : Sess), s.lf.hold = some h ∧ crcGood f = some b ∧ (s.rng.sessions.find? (fun x => x.req == h.id && x.pos == pos.val) = some x) ∧ h.phase = .report ∧ s.subListens = true ∧ s.onRadio .reports = true ∧ h.reports.contains pos.val = false ∧ u8 b 0 = x.slot ∧ u8 b 1 = s.nMeas ∧ f.length = 8 + 3 * s.nMeas ∧ slice b (2 + 3 * s.nMeas) 4 = s.slotMac 0x06 x.slot x.tid (x.c ++ toBE 1 s.nMeas ++ slice b 2 (3 * s.nMeas)) 4)
    ∧ (∃ (f : Bytes), crcGood f = none) :=
  ⟨⟨hears .answers (live (air (hold .answers))), 0, ⟨[], 0⟩, withCrc (toBE 1 64 ++ zeros 6), toBE 1 64 ++ zeros 6, hold .answers, by decide⟩,
    ⟨hears .answers (live (air (hold .answers))), 0, ⟨[], 0⟩, hold .answers, by decide⟩,
    ⟨hears .answers (live (air { hold .answers with collided := [0] })), 0, ⟨[], 0⟩, { hold .answers with collided := [0] }, by decide⟩,
    ⟨up, by decide⟩,
    ⟨live (air (hold .answers)), hold .answers, by decide⟩,
    ⟨live (air { hold .answers with answers := [⟨0, 77, 0, 0⟩] }), { hold .answers with answers := [⟨0, 77, 0, 0⟩] }, by decide⟩,
    ⟨live up, { hold .answers with wakeEnd := up.mt }, by decide⟩,
    ⟨hears .crys (live (air { hold .cry with members := [⟨0, 77, 0, 0, 0, 0, 0, 0, none⟩], chalOut := 1 })), 0, withCrc (toBE 1 128 ++ zeros 14), toBE 1 128 ++ zeros 14, { hold .cry with members := [⟨0, 77, 0, 0, 0, 0, 0, 0, none⟩], chalOut := 1 }, ⟨0, 77, 0, 0, 0, 0, 0, 0, none⟩, by decide⟩,
    ⟨[], by decide⟩,
    ⟨live { air (hold .cry) with rng := { Rng.reset with sessions := [sess] } }, hold .cry, by decide⟩,
    ⟨atRpt, 0, withCrc rpt, rpt, hold .report, sess, by decide, crcGood_withCrc _, by decide, by decide, by decide, by decide, by decide, rpt_head.1, rpt_head.2, rpt_frame, rpt_fits⟩,
    ⟨[], by decide⟩⟩

/-- Each clause of RoundsAndLfReturnsAreJudged (its part 2) has a state and operands that meet its hypotheses together. -/
theorem witness_RoundsAndLfReturnsAreJudged_2 :
    (∃ (s : State) (k : Fin 4) (hd : List Heard) (h : Hold), s.lf.hold = some h ∧ h.phase = .returns ∧ h.returned.contains k.val = false ∧ h.collided.contains k.val = false ∧ s.strongest hd = (none, true))
    ∧ (∃ (s : State) (hd : List Heard), s.strongest hd = (none, false))
    ∧ (∃ (s : State) (k : Fin 4) (hd : List Heard) (f : Bytes) (b : Bytes) (h : Hold), s.lf.hold = some h ∧ h.phase = .returns ∧ h.returned.contains k.val = false ∧ h.collided.contains k.val = false ∧ (s.strongest hd).1 = some f ∧ f.length = 13 ∧ b = f.take 11 ∧ u8 b 0 / 64 = 2 ∧ (s.slot (u8 b 0 % 64)).state = 0)
    ∧ (∃ (s : State) (k : Fin 4) (hd : List Heard) (f : Bytes) (b : Bytes) (h : Hold), s.lf.hold = some h ∧ h.phase = .returns ∧ h.returned.contains k.val = false ∧ h.collided.contains k.val = false ∧ (s.strongest hd).1 = some f ∧ f.length = 13 ∧ b = f.take 11 ∧ u8 b 0 / 64 = 2 ∧ (s.slot (u8 b 0 % 64)).state ≠ 0 ∧ (h.members.any (fun m => m.slot == (u8 b 0 % 64)) = false) ∧ s.slotCheck 0 (u8 b 0 % 64) = 0 ∧ slice b 3 8 = s.slotMac 0x03 (u8 b 0 % 64) (s.slot (u8 b 0 % 64)).tid (h.c ++ toBE 1 (u8 b 2) ++ toBE 1 (u8 b 1)) 8)
    ∧ (∃ (s : State) (a : Heard) (b : Heard) (x : Bytes) (y : Bytes), a.ch < 8 ∧ b.ch < 8 ∧ s.chLive a.ch = true ∧ s.chLive b.ch = true ∧ crcGood a.frame = some x ∧ crcGood b.frame = some y ∧ b.strength < a.strength)
    ∧ (∃ (s : State) (hd : List Heard), (∀ x ∈ hd, s.chLive x.ch = false)) :=
  ⟨⟨live (air (hold .returns)), 0, [⟨0, 1, []⟩], hold .returns, by decide⟩,
    ⟨up, [], by decide⟩,
    ⟨live (air (hold .returns)), 0, [⟨0, 1, withCrc (toBE 1 129 ++ zeros 10)⟩], withCrc (toBE 1 129 ++ zeros 10), toBE 1 129 ++ zeros 10, hold .returns, by decide⟩,
    ⟨atRet, 0, [⟨0, 1, withCrc ret⟩], withCrc ret, ret, hold .returns, by decide, by decide, by decide, by decide, ret_heard, ret_frame, ret_take, by rw [ret_head 0 (by decide)]; decide, by rw [ret_head 0 (by decide)]; decide, by decide, by rw [ret_head 0 (by decide)]; decide, ret_fits⟩,
    ⟨live up, ⟨0, 2, withCrc []⟩, ⟨1, 1, withCrc []⟩, [], [], by decide⟩,
    ⟨State.reset, [⟨0, 1, []⟩], by decide⟩⟩

/-- Each clause of RemoteKeylessCountersDecide has a state and operands that meet its hypotheses together. -/
theorem witness_RemoteKeylessCountersDecide :
    (∃ (s : State) (n : Nat) (ctr : Nat), s.tok.accepted = [] ∧ ctr ≤ (s.slot n).ctr)
    ∧ (∃ (s : State) (n : Nat) (ctr : Nat), (s.slot n).ctr < ctr ∧ ctr ≤ (s.slot n).ctr + 256 ∧ s.vaultUp = true)
    ∧ (∃ (s : State) (n : Nat) (ctr : Nat), (s.slot n).ctr + 256 < ctr ∧ ctr ≤ (s.slot n).ctr + 65536 ∧ s.tok.resync = [])
    ∧ (∃ (s : State) (n : Nat) (ctr : Nat), (s.slot n).ctr + 65536 < ctr)
    ∧ (∃ (s : State) (f : Bytes) (b : Bytes), crcGood f = some b ∧ s.island 9 = 2 ∧ s.subListens = true ∧ s.copyCut = false ∧ f.length = 22 ∧ u8 b 0 / 64 = 3 ∧ s.rf.detect = none ∧ be b 1 4 ≠ s.vault.deviceTag)
    ∧ (∃ (s : State) (f : Bytes) (b : Bytes), crcGood f = some b ∧ s.island 9 = 2 ∧ s.subListens = true ∧ s.copyCut = false ∧ f.length = 22 ∧ u8 b 0 / 64 = 3 ∧ s.rf.detect = none ∧ be b 1 4 = s.vault.deviceTag ∧ s.enabled .tok = true)
    ∧ (∃ (s : State), (s.subListens = false ∨ s.copyCut = true))
    ∧ (∃ (s : State) (b : Bytes), be b 5 2 ≠ s.vault.ksn)
    ∧ (∃ (s : State) (b : Bytes) (n : Nat), be b 5 2 = s.vault.ksn ∧ s.pathLocked 1 = false ∧ s.slotOfTid (be b 7 4) = some n ∧ s.slotCheck 1 n = 0 ∧ slice b 16 4 = s.slotMac 0x02 n (be b 7 4) (slice b 11 5) 4 ∧ s.rkeCounter n (be b 11 4) (u8 b 15) = (0, false))
    ∧ (∃ (s : State) (k : Fin 64) (c : Nat × Nat × Nat), (s.tok.confirms.find? (fun c => c.1 == k.val && decide (c.2.2 + 1000000 ≤ s.mt)) = some c))
    ∧ (∃ (s : State), s.tok.confirms = []) :=
  ⟨⟨up, 0, 5, by decide⟩,
    ⟨up, 0, 261, by decide⟩,
    ⟨up, 0, 65541, by decide⟩,
    ⟨up, 0, 65542, by decide⟩,
    ⟨live up, withCrc (toBE 1 192 ++ toBE 4 1 ++ zeros 15), toBE 1 192 ++ toBE 4 1 ++ zeros 15, by decide⟩,
    ⟨live up, withCrc (toBE 1 192 ++ zeros 19), toBE 1 192 ++ zeros 19, by decide⟩,
    ⟨State.reset, by decide⟩,
    ⟨up, zeros 6 ++ toBE 1 1, by decide⟩,
    ⟨up, press, 0, by rw [press_be 5 2 (by decide)]; decide, by decide, by rw [press_be 7 4 (by decide)]; decide, by decide, press_fits, by rw [press_be 11 4 (by decide), press_u8]; decide⟩,
    ⟨{ up with tok := { Tok.reset with confirms := [(0, 1, up.mt - 1000000)] } }, 0, (0, 1, up.mt - 1000000), by decide⟩,
    ⟨up, by decide⟩⟩

/-- Each clause of SlotsLockAndSuspend has a state and operands that meet its hypotheses together. -/
theorem witness_SlotsLockAndSuspend :
    (∃ (x : Slot) (mt : Nat), x.locked = false ∧ (recentFails x.fails mt).length = 7)
    ∧ (∃ (x : Slot) (mt : Nat), x.locked = true ∧ mt < x.lockEnd)
    ∧ (∃ (x : Slot) (mt : Nat), x.locked = false ∧ (recentFails x.fails mt).length < 7)
    ∧ (∃ (s : State) (i : Fin 68), i.val < 64 ∧ s.vault.slots.length = 64 ∧ (s.slot i.val).locked = true ∧ (s.slot i.val).lockEnd ≤ s.mt)
    ∧ (∃ (s : State) (i : Fin 68), 64 ≤ i.val ∧ (s.pathRec (i.val - 64)).locked = true ∧ (s.pathRec (i.val - 64)).lockEnd ≤ s.mt)
    ∧ (∃ (s : State) (i : Fin 68), i.val < 64 ∧ (s.slot i.val).locked = false)
    ∧ (∃ (s : State) (i : Fin 68), 64 ≤ i.val ∧ (s.pathRec (i.val - 64)).locked = false)
    ∧ (∃ (s : State) (n : BitVec 8), s.mbReady 0x0805 (toLE 1 n.toNat) ∧ n.toNat ≤ 63 ∧ (s.slot n.toNat).state = 1)
    ∧ (∃ (s : State) (n : BitVec 8), s.mbReady 0x0806 (toLE 1 n.toNat) ∧ n.toNat ≤ 63 ∧ (s.slot n.toNat).state = 2)
    ∧ (∃ (s : State) (n : BitVec 8), s.mbReady 0x0806 (toLE 1 n.toNat) ∧ (s.slot n.toNat).state ≠ 2) :=
  ⟨⟨{ slotF with fails := List.replicate 7 5 }, 0, by decide⟩,
    ⟨{ slotF with locked := true, lockEnd := 1 }, 0, by decide⟩,
    ⟨{ slotF with fails := List.replicate 6 5 }, 0, by decide⟩,
    ⟨up.setSlot 63 { slotF with locked := true, lockEnd := up.mt }, 63, by decide⟩,
    ⟨up.setPath 3 { PathRec.clear with locked := true, lockEnd := up.mt }, 67, by decide⟩,
    ⟨up, 0, by decide⟩,
    ⟨up, 64, by decide⟩,
    ⟨up, 0, by decide⟩,
    ⟨up.setSlot 63 { slotF with state := 2 }, 63, by decide⟩,
    ⟨up, 0, by decide⟩⟩

/-- Each clause of WakeInputsAndLftExchanges (its part 1) has a state and operands that meet its hypotheses together. -/
theorem witness_WakeInputsAndLftExchanges_1 :
    (∃ (s : State) (w : Fin 12), u8 (s.wakeRec w.val) 0 ≠ 0 ∧ 1 ≤ s.phase ∧ s.phase ≤ 8)
    ∧ (∃ (s : State) (w : Fin 12), u8 (s.wakeRec w.val) 0 ≠ 0 ∧ s.phase = 0xA)
    ∧ (∃ (s : State) (w : Fin 12), u8 (s.wakeRec w.val) 0 = 0 ∧ s.sys.hasImage = true)
    ∧ (∃ (s : State) (w : Nat), (s.lf.masks.any (fun m => m.1 == w) = true))
    ∧ (∃ (s : State) (w : Nat), u8 (s.wakeRec w) 0 ≠ 0 ∧ s.lf.masks = [] ∧ s.lf.edges = [] ∧ 1 ≤ s.setting 0x050A 20 ∧ u8 (s.wakeRec w) 3 ≠ 0xFE ∧ s.hasRequest (u8 (s.wakeRec w) 3) = false ∧ s.enabled .tok = true ∧ (s.planOf (u8 (s.wakeRec w) 3)).isSome = true ∧ s.lf.queue.length < 8 ∧ w < 12)
    ∧ (∃ (s : State) (w : Fin 12) (e : Word), s.lf.masks = [(w.val, e)] ∧ (s.pilot.pt - e).toNat < 2 ^ 31)
    ∧ (∃ (s : State), s.lf.masks = [])
    ∧ (∃ (s : State), s.rel.held = false) :=
  ⟨⟨ph 8, 0, by decide⟩,
    ⟨up, 0, by decide⟩,
    ⟨up, 1, by decide⟩,
    ⟨{ up with lf := { Lf.reset with masks := [(0, 0)] } }, 0, by decide⟩,
    ⟨up, 10, by decide⟩,
    ⟨{ up with lf := { Lf.reset with masks := [(0, 0)] } }, 0, 0, by decide⟩,
    ⟨up, by decide⟩,
    ⟨up, by decide⟩⟩

/-- Each clause of WakeInputsAndLftExchanges (its part 2) has a state and operands that meet its hypotheses together. -/
theorem witness_WakeInputsAndLftExchanges_2 :
    (∃ (s : State) (f : Bytes) (h : Hold), s.lf.hold = some h ∧ h.phase = .lft ∧ h.req.learn = false ∧ crcGood f = none)
    ∧ (∃ (s : State) (f : Bytes) (b : Bytes) (h : Hold), s.lf.hold = some h ∧ h.phase = .lft ∧ h.req.learn = false ∧ crcGood f = some b ∧ b.length = 18 ∧ u8 b 0 = 0x34)
    ∧ (∃ (s : State), s.lf.hold = none)
    ∧ (∃ (s : State) (h : Hold), s.lf.hold = some h ∧ h.phase = .lft ∧ h.req.learn = false ∧ h.tries < 3)
    ∧ (∃ (s : State) (h : Hold), s.lf.hold = some h ∧ h.phase = .lft ∧ h.req.learn = false ∧ 3 ≤ h.tries ∧ h.badCrc = false)
    ∧ (∃ (s : State) (h : Hold), s.lf.hold = some h ∧ h.phase = .lft ∧ h.req.learn = false ∧ 3 ≤ h.tries ∧ h.badCrc = true)
    ∧ (∃ (why : Nat), why ≠ 0 ∧ why < 2 ^ 16)
    ∧ (∃ (s : State) (path : Nat) (arsp : Bytes), s.pathLocked path = false ∧ s.slotOfTid (be arsp 2 4) = none) :=
  ⟨⟨air (hold .lft), [], hold .lft, by decide⟩,
    ⟨air (hold .lft), withCrc (toBE 1 0x34 ++ zeros 17), toBE 1 0x34 ++ zeros 17, hold .lft, by decide⟩,
    ⟨up, by decide⟩,
    ⟨air { hold .lft with tries := 2 }, { hold .lft with tries := 2 }, by decide⟩,
    ⟨air { hold .lft with tries := 3 }, { hold .lft with tries := 3 }, by decide⟩,
    ⟨air { hold .lft with tries := 3, badCrc := true }, { hold .lft with tries := 3, badCrc := true }, by decide⟩,
    ⟨0xFFFF, by decide⟩,
    ⟨up, 0, [], by decide⟩⟩

/-- Each clause of LfChannelFaultsAndCalibration has a state and operands that meet its hypotheses together. -/
theorem witness_LfChannelFaultsAndCalibration :
    (∃ (s : State) (c : Fin 8), Nat.testBit (u8 s.lfSec 3) c.val = true ∧ s.enabled .lf = true ∧ s.lfQuiet = true)
    ∧ (∃ (s : State) (c : Fin 8), Nat.testBit (u8 s.lfSec 3) c.val = true ∧ s.enabled .lf = true ∧ s.lfQuiet = false)
    ∧ (∃ (s : State) (q : BitVec 8), (s.lf.recal = true ∨ s.lf.calMt + 86400000000 ≤ s.mt ∨ 20 ≤ (signed 8 q.toNat - s.lf.calTemp).natAbs) ∧ s.lfQuiet = true ∧ s.pwr.standby = false)
    ∧ (∃ (s : State) (q : BitVec 8), (s.lfQuiet = false ∨ s.pwr.standby = true ∨ (s.lf.recal = false ∧ s.mt < s.lf.calMt + 86400000000 ∧ (signed 8 q.toNat - s.lf.calTemp).natAbs < 20)))
    ∧ (∃ (s : State) (c : Fin 8), s.chLive c.val = true ∧ s.gateDrive = false ∧ s.flag (F.LF_CHn_STAT_LEG_B_FAIL c.val) = false)
    ∧ (∃ (s : State) (c : Fin 8), s.chLive c.val = true)
    ∧ (∃ (s : State) (c : Fin 8), s.chLive c.val = false)
    ∧ (∃ (s : State) (c : Fin 8) (a : Nat), s.chLive c.val = true ∧ s.lf.frames = [⟨c.val, a, false⟩] ∧ a ≤ s.mt)
    ∧ (∃ (s : State) (c : Fin 8) (a : Nat) (b : Nat) (d : Nat), s.chLive c.val = true ∧ s.lf.frames = [⟨c.val, a, true⟩, ⟨c.val, b, true⟩, ⟨c.val, d, false⟩] ∧ a ≤ s.mt ∧ b ≤ s.mt ∧ d ≤ s.mt)
    ∧ (∃ (s : State) (c : Fin 8), (s.lf.frames.any (fun f => f.ch == c.val && decide (f.startMt ≤ s.mt)) = false))
    ∧ (∃ (s : State), s.flag F.LF_STAT_OVERTEMP = false)
    ∧ (∃ (s : State), s.gateDrive = false ∧ s.enabled .lf = true)
    ∧ (∃ (s : State), s.gateDrive = false ∧ s.enabled .lf = true ∧ s.flag F.LF_STAT_VANT_OK = false ∧ s.lf.vantMt + 1000000 ≤ s.mt)
    ∧ (∃ (s : State), s.gateDrive = true) :=
  ⟨⟨up, 7, by decide⟩,
    ⟨{ up with lf := { Lf.reset with queue := [hostReq false] } }, 7, by decide⟩,
    ⟨{ up with lf := { Lf.reset with recal := true } }, 0, by decide⟩,
    ⟨{ up with lf := { Lf.reset with queue := [hostReq false] } }, 0, by decide⟩,
    ⟨up, 0, by decide⟩,
    ⟨up, 0, by decide⟩,
    ⟨fx up [(F.LF_CHn_STAT_FAILED 0, 1)], 0, by decide⟩,
    ⟨{ up with lf := { Lf.reset with frames := [⟨0, 5, false⟩] } }, 0, 5, by decide⟩,
    ⟨{ up with lf := { Lf.reset with frames := [⟨0, 5, true⟩, ⟨0, 6, true⟩, ⟨0, 7, false⟩] } }, 0, 5, 6, 7, by decide⟩,
    ⟨up, 0, by decide⟩,
    ⟨up, by decide⟩,
    ⟨up, by decide⟩,
    ⟨fx up [(F.LF_STAT_VANT_OK, 0)], by decide⟩,
    ⟨{ up with sys := { up.sys with sections := [⟨3, 0, toLE 1 1⟩] } }, by decide⟩⟩

/-- Each clause of RadioRunsItsQueueAndCalibrates (its part 1) has a state and operands that meet its hypotheses together. -/
theorem witness_RadioRunsItsQueueAndCalibrates_1 :
    (∃ (s : State) (op : RadioOp) (st : BitVec 48), s.enabled .rf = true ∧ s.onRc = false ∧ s.rf.queue.length < 16 ∧ s.rf.cal = none ∧ s.rf.onAir.isSome = true ∧ (s.rtPast st.toNat ≤ 409600 ∨ 2 ^ 47 ≤ s.rtPast st.toNat) ∧ (opSends op = false ∨ s.flag F.RF_STAT_TX24_OK = true) ∧ (op ≠ .sweep ∨ s.subPositions = []))
    ∧ (∃ (s : State) (op : RadioOp), s.enabled .rf = true ∧ s.onRc = false ∧ s.rf.queue.length = 16 ∧ (opSends op = false ∨ s.flag F.RF_STAT_TX24_OK = true) ∧ (op ≠ .sweep ∨ s.subPositions = []))
    ∧ (∃ (s : State) (op : RadioOp) (st : BitVec 48), s.enabled .rf = true ∧ s.onRc = false ∧ s.rf.queue.length < 16 ∧ 409600 < s.rtPast st.toNat ∧ s.rtPast st.toNat < 2 ^ 47 ∧ (opSends op = false ∨ s.flag F.RF_STAT_TX24_OK = true) ∧ (op ≠ .sweep ∨ s.subPositions = []))
    ∧ (∃ (s : State) (st : BitVec 48) (a : Nat) (b : Nat), s.subPositions = [(a, b)] ∧ a ≤ s.mt ∧ s.mt < b + 80 ∧ s.rtPast st.toNat = 0)
    ∧ (∃ (s : State) (c : RadioCmd) (rest : List RadioCmd), s.rf.onAir = none ∧ s.rf.queue = c :: rest ∧ c.job = .plain ∧ s.upd.loading = none ∧ s.rtReached c.start = true)
    ∧ (∃ (s : State) (c : RadioCmd) (rest : List RadioCmd), s.rf.onAir = none ∧ s.rf.queue = c :: rest ∧ s.rtReached c.start = false)
    ∧ (∃ (s : State) (c : RadioCmd) (rest : List RadioCmd) (f : Bytes) (h : Hold), s.rf.onAir = none ∧ s.rf.queue = c :: rest ∧ c.op = .tx24 ∧ c.job = .chal f ∧ s.upd.loading = none ∧ s.rtReached c.start = true ∧ s.lf.hold = some h)
    ∧ (∃ (s : State), s.rf.onAir.isSome = true)
    ∧ (∃ (s : State) (c : RadioCmd) (n : Nat), s.rf.onAir = some c ∧ c.op = .rxSub n ∧ (c.job = .plain ∨ c.job = .answers ∨ c.job = .crys ∨ c.job = .reports))
    ∧ (∃ (s : State), s.rf.onAir = none)
    ∧ (∃ (s : State) (c : RadioCmd) (rest : List RadioCmd), s.get F.RF_STAT_STATE = 2 ∧ s.rf.queue = c :: rest ∧ s.rf.misses = [0, 0] ∧ c.op = .tx24 ∧ c.job = .plain ∧ s.rf.takeover = false)
    ∧ (∃ (s : State), s.get F.RF_STAT_STATE ≠ 2)
    ∧ (∃ (s : State) (c : RadioCmd), s.rf.onAir = some c ∧ c.op = .tx24 ∧ c.job = .plain ∧ s.flag F.RF_STAT_TEST_ON = false ∧ s.rng.onAir = none ∧ s.rf.takeover = false)
    ∧ (∃ (s : State), s.rf.onAir = none ∧ s.flag F.RF_STAT_TEST_ON = false) :=
  ⟨⟨live { up with rf := { Rf.reset with onAir := some ⟨.tx24, 0, 0, 0, .plain⟩, queue := List.replicate 15 ⟨.tx24, 0, 0, 0, .plain⟩ } }, .tx24, 1, by decide⟩,
    ⟨live { up with rf := { Rf.reset with queue := List.replicate 16 ⟨.tx24, 0, 0, 0, .plain⟩ } }, .tx24, by decide⟩,
    ⟨live { up with tim := { Tim.reset with rt := 409601 } }, .tx24, 0, by decide⟩,
    ⟨live (air { hold .answers with wakeEnd := up.mt - 2000 }), 0, up.mt, up.mt + 44000, by decide⟩,
    ⟨{ up with rf := { Rf.reset with queue := [⟨.tx24, 0, 0, 0, .plain⟩] } }, ⟨.tx24, 0, 0, 0, .plain⟩, [], by decide⟩,
    ⟨{ up with rf := { Rf.reset with queue := [⟨.tx24, 1, 0, 0, .plain⟩] } }, ⟨.tx24, 1, 0, 0, .plain⟩, [], by decide⟩,
    ⟨{ air (hold .cry) with rf := { Rf.reset with queue := [⟨.tx24, 0, 0, 0, .chal []⟩] } }, ⟨.tx24, 0, 0, 0, .chal []⟩, [], [], hold .cry, by decide⟩,
    ⟨{ up with rf := { Rf.reset with onAir := some ⟨.tx24, 0, 0, 0, .plain⟩ } }, by decide⟩,
    ⟨{ up with rf := { Rf.reset with onAir := some ⟨.rxSub 8, 0, 0, 0, .answers⟩ } }, ⟨.rxSub 8, 0, 0, 0, .answers⟩, 8, by decide⟩,
    ⟨up, by decide⟩,
    ⟨fx ({ up with rf := { Rf.reset with queue := [⟨.tx24, 0, 0, 0, .plain⟩] } }) [(F.RF_STAT_STATE, 2)], ⟨.tx24, 0, 0, 0, .plain⟩, [], by decide⟩,
    ⟨up, by decide⟩,
    ⟨{ up with rf := { Rf.reset with onAir := some ⟨.tx24, 0, 0, 0, .plain⟩ } }, ⟨.tx24, 0, 0, 0, .plain⟩, by decide⟩,
    ⟨up, by decide⟩⟩

/-- Each clause of RkeSniffDetectsAndAdapts has a state and operands that meet its hypotheses together. -/
theorem witness_RkeSniffDetectsAndAdapts :
    (∃ (s : State) (w : List (BitVec 8)), s.subListens = true ∧ s.flag F.RF_CTL_SNIFF_HOLD = false ∧ s.setting 0x0602 0 = 0 ∧ s.votes 9 = 0 ∧ s.lf.hold = none ∧ s.rf.detect = none ∧ s.flag F.PWR_STAT_BROWNOUT = false ∧ s.sniffDue = true ∧ energyIn (signed 8 (s.get F.RF_SNIFF_STAT_THR)) s.extSub 0 w = false)
    ∧ (∃ (s : State) (w : List (BitVec 8)), s.subListens = true ∧ s.flag F.RF_CTL_SNIFF_HOLD = false ∧ s.setting 0x0602 0 = 0 ∧ s.votes 9 = 0 ∧ s.lf.hold = none ∧ s.rf.detect = none ∧ s.flag F.PWR_STAT_BROWNOUT = false ∧ s.sniffDue = true ∧ energyIn (signed 8 (s.get F.RF_SNIFF_STAT_THR)) s.extSub 0 w = true)
    ∧ (∃ (s : State), (s.flag F.RF_CTL_SNIFF_HOLD = true ∨ s.sniffDue = false))
    ∧ (∃ (s : State) (x : Nat), s.rf.detect = some x ∧ x + 330000 ≤ s.mt ∧ s.rf.falses = [])
    ∧ (∃ (s : State) (x : Nat), s.rf.detect = some x ∧ s.mt < x + 330000)
    ∧ (∃ (s : State), s.flag F.RF_SNIFF_STAT_RAISED = true ∧ 600 * 32768 ≤ (s.pilot.pt - s.rf.raisedPt).toNat)
    ∧ (∃ (s : State), s.flag F.RF_SNIFF_STAT_RAISED = false) :=
  ⟨⟨live { up with pilot := { up.pilot with pt := 5000 } }, [], by decide⟩,
    ⟨live { up with pilot := { up.pilot with pt := 5000 } }, [0x70, 0x70, 0x70, 0x70], by decide⟩,
    ⟨fx up [(F.RF_CTL_SNIFF_HOLD, 1)], by decide⟩,
    ⟨{ up with rf := { Rf.reset with detect := some (up.mt - 330000) } }, up.mt - 330000, by decide⟩,
    ⟨{ up with rf := { Rf.reset with detect := some up.mt } }, up.mt, by decide⟩,
    ⟨fx { up with pilot := { up.pilot with pt := 600 * 32768 } } [(F.RF_SNIFF_STAT_RAISED, 1)], by decide⟩,
    ⟨up, by decide⟩⟩

/-- Each clause of RadioRunsItsQueueAndCalibrates (its part 2) has a state and operands that meet its hypotheses together. -/
theorem witness_RadioRunsItsQueueAndCalibrates_2 :
    (∃ (s : State), s.enabled .rf = true ∧ s.rf.cal = none ∧ s.rf.queue = [] ∧ s.rf.onAir = none ∧ s.lf.hold = none ∧ s.flag F.RF_STAT_TEST_ON = false ∧ s.rf.test = false ∧ s.rf.lent = false ∧ s.upd.loading = none ∧ s.onRc = false)
    ∧ (∃ (s : State), s.enabled .rf = false)
    ∧ (∃ (s : State) (q : BitVec 8), s.enabled .rf = true ∧ s.rf.cal = none ∧ s.setting 0x0603 15 ≤ (signed 8 q.toNat - signed 8 (s.get F.RF_TEMP_CAL_T)).natAbs)
    ∧ (∃ (s : State), s.enabled .rf = false)
    ∧ (∃ (s : State) (c : RadioCal), s.rf.cal = some c ∧ c.running = true ∧ s.upd.loading = none ∧ c.oscOnly = none ∧ c.step < 7)
    ∧ (∃ (s : State) (c : RadioCal), s.rf.cal = some c ∧ c.running = true ∧ s.upd.loading = none ∧ c.oscOnly = none ∧ 7 ≤ c.step)
    ∧ (∃ (s : State), s.rf.cal = none)
    ∧ (∃ (s : State), s.enabled .rf = true ∧ s.lf.hold.isSome = true)
    ∧ (∃ (s : State) (v : Word), s.enabled .rf = true ∧ s.lf.hold = none ∧ s.rf.cal = none ∧ s.rf.onAir = none ∧ s.rf.queue = [] ∧ 1 ≤ bits v.toNat 27 24 ∧ bits v.toNat 27 24 ≤ 5 ∧ s.flag F.RF_STAT_TX24_OK = true)
    ∧ (∃ (s : State) (v : Word), s.enabled .rf = true ∧ s.lf.hold = none ∧ (bits v.toNat 27 24 = 3 ∨ bits v.toNat 27 24 = 4) ∧ s.flag F.RF_STAT_TX24_OK = false)
    ∧ (∃ (s : State), s.flag F.RF_STAT_TEST_ON = true ∧ s.rf.queue = [] ∧ s.rf.cal = none ∧ s.rf.lent = false ∧ s.votes 9 ≠ 0) :=
  ⟨⟨up, by decide⟩,
    ⟨fx up [(⟨R.SYS_EN_MAP, 6, 6⟩, 0)], by decide⟩,
    ⟨up, 15, by decide⟩,
    ⟨fx up [(⟨R.SYS_EN_MAP, 6, 6⟩, 0)], by decide⟩,
    ⟨{ up with rf := { Rf.reset with cal := some ⟨1, 6, true, none⟩ } }, ⟨1, 6, true, none⟩, by decide⟩,
    ⟨{ up with rf := { Rf.reset with cal := some ⟨1, 7, true, none⟩ } }, ⟨1, 7, true, none⟩, by decide⟩,
    ⟨up, by decide⟩,
    ⟨air (hold .answers), by decide⟩,
    ⟨live up, 5 * 2 ^ 24, by decide⟩,
    ⟨up, 3 * 2 ^ 24, by decide⟩,
    ⟨fx up [(F.RF_STAT_TEST_ON, 1), (F.PWR_VOTEn_CLIENTS 9, 1)], by decide⟩⟩

/-- Each clause of ExchangesStartAndRelayFindingsWithholdThePosition (its part 1) has a state and operands that meet its hypotheses together. -/
theorem witness_ExchangesStartAndRelayFindingsWithholdThePosition_1 :
    (∃ (s : State) (pos : Fin 8) (h : Hold) (x : Sess), s.lf.hold = some h ∧ (∀ m ∈ h.members, m.cry = 0 ∨ m.cry = 4) ∧ (s.rng.sessions.find? (fun x => x.req == h.id && x.pos == pos.val) = some x) ∧ h.phase = .cry ∧ x.entry = true ∧ x.begun = false ∧ s.canRange = true ∧ (s.recentStarts s.tim.rt.toNat).length < 8 ∧ (s.queueExchange x.number s.tim.rt.toNat).2 = true)
    ∧ (∃ (s : State) (pos : Fin 8) (h : Hold) (x : Sess), s.lf.hold = some h ∧ (∀ m ∈ h.members, m.cry = 0 ∨ m.cry = 4) ∧ (s.rng.sessions.find? (fun x => x.req == h.id && x.pos == pos.val) = some x) ∧ h.phase = .cry ∧ x.entry = true ∧ x.begun = false ∧ s.canRange = true ∧ 16 ≤ (s.recentStarts s.tim.rt.toNat).length)
    ∧ (∃ (s : State), s.lf.hold = none)
    ∧ (∃ (s : State) (pos : Fin 8) (frame : Bytes) (h : Hold) (x : Sess), s.lf.hold = some h ∧ (s.rng.sessions.find? (fun x => x.req == h.id && x.pos == pos.val) = some x) ∧ s.rng.onAir = some x.number ∧ s.onRadio (.srep x.number) = true ∧ crcGood frame = none)
    ∧ (∃ (s : State) (pos : Fin 8) (frame : Bytes) (b : Bytes) (h : Hold) (x : Sess), s.lf.hold = some h ∧ (s.rng.sessions.find? (fun x => x.req == h.id && x.pos == pos.val) = some x) ∧ s.rng.onAir = some x.number ∧ s.onRadio (.srep x.number) = true ∧ crcGood frame = some b ∧ frame.length = 165 ∧ u8 b 0 = 0x42 ∧ u8 b 1 = x.slot)
    ∧ (∃ (s : State) (c : RadioCmd) (rest : List RadioCmd) (n : Nat), s.rf.onAir = none ∧ s.rf.queue = c :: rest ∧ c.op = .sweep ∧ c.job = .sweep n ∧ s.upd.loading = none ∧ s.rtReached c.start = true) :=
  ⟨⟨live { air { hold .cry with members := [] } with rng := { Rng.reset with sessions := [sess], starts := List.replicate 7 0 } }, 0, hold .cry, sess, by decide⟩,
    ⟨live { air { hold .cry with members := [] } with rng := { Rng.reset with sessions := [sess], starts := List.replicate 16 0 } }, 0, hold .cry, sess, by decide⟩,
    ⟨up, by decide⟩,
    ⟨{ live { air { hold .cry with members := [] } with rng := { Rng.reset with sessions := [sess], onAir := some 1 } } with rf := { Rf.reset with onAir := some ⟨.rx24, 0, 0, 0, .srep 1⟩ } }, 0, [], hold .cry, sess, by decide⟩,
    ⟨{ live { air { hold .cry with members := [] } with rng := { Rng.reset with sessions := [sess], onAir := some 1 } } with rf := { Rf.reset with onAir := some ⟨.rx24, 0, 0, 0, .srep 1⟩ } }, 0, withCrc (toBE 1 0x42 ++ zeros 162), toBE 1 0x42 ++ zeros 162, hold .cry, sess, by decide, by decide, by decide, by decide, crcGood_withCrc _, by rw [length_withCrc]; decide, by decide, by decide⟩,
    ⟨{ up with rf := { Rf.reset with queue := [⟨.sweep, 0, 0, 0, .sweep 1⟩] }, rng := { Rng.reset with sessions := [sess] } }, ⟨.sweep, 0, 0, 0, .sweep 1⟩, [], 1, by decide⟩⟩

/-- Each clause of ExchangesStartAndRelayFindingsWithholdThePosition (its part 2) has a state and operands that meet its hypotheses together. -/
theorem witness_ExchangesStartAndRelayFindingsWithholdThePosition_2 :
    (∃ (s : State) (x : Sess) (b : Bytes) (d : Dsp), (s.computeFull x b d).relay = true)
    ∧ (∃ (s : State) (x : Sess) (b : Bytes), (countClass .wrong (classifyAll x.chains x.turn x.delays (s.slotMac 0x07 x.slot x.tid x.c 16) (be b 146 4) x.rounds) ≠ 0 ∨ 4 ≤ countClass .late (classifyAll x.chains x.turn x.delays (s.slotMac 0x07 x.slot x.tid x.c 16) (be b 146 4) x.rounds)))
    ∧ (∃ (m : Nat) (n : Nat), m ≤ n) :=
  ⟨⟨up, { sess with csent := 1 }, zeros 163, ⟨0, []⟩, relay_echo⟩,
    ⟨up, early, [], Or.inl (early_counts _ _)⟩,
    ⟨0, 0, by decide⟩⟩

/-- Each clause of JobsRunOnTiles (its part 2) has a state and operands that meet its hypotheses together. -/
theorem witness_JobsRunOnTiles_2 :
    (∃ (s : State) (n : Word) (x : Sess), s.lf.hold = none ∧ s.sess? n.toNat = some x ∧ x.stage = .air ∧ s.noTile = false ∧ s.freeTile = none)
    ∧ (∃ (s : State) (n : Word) (x : Sess), s.lf.hold = none ∧ s.sess? n.toNat = some x ∧ x.stage = .air ∧ s.noTile = true)
    ∧ (∃ (s : State) (n : Word), s.lf.hold = none ∧ s.sess? n.toNat = none)
    ∧ (∃ (s : State) (n : Word) (x : Sess) (k : Nat), s.tileOf n.toNat = some k ∧ s.sess? n.toNat = some x ∧ x.srep = none ∧ x.reason = 0 ∧ x.ranges = true)
    ∧ (∃ (s : State) (n : Word), s.tileOf n.toNat = none)
    ∧ (∃ (s : State) (k : Fin 4) (j : Nat), s.net.tiles.length = 4 ∧ (s.tile k.val).failed = false ∧ j < 4 ∧ j ≠ k.val ∧ (s.tile j).failed = false ∧ s.islandFailed (3 + j) = false)
    ∧ (∃ (s : State) (k : Fin 4), (s.tile k.val).failed = true) :=
  ⟨⟨{ up with rng := { Rng.reset with sessions := [sess] }, net := { Net.reset with tiles := List.replicate 4 { Tile.reset with slice := some (.calibration []) } } }, 1, sess, by decide⟩,
    ⟨{ up with rng := { Rng.reset with sessions := [sess] }, net := { Net.reset with tiles := List.replicate 4 { Tile.reset with failed := true } } }, 1, sess, by decide⟩,
    ⟨up, 0, by decide⟩,
    ⟨{ up with rng := { Rng.reset with sessions := [{ sess with stage := .job }] }, net := { Net.reset with tiles := [.reset, .reset, .reset, { Tile.reset with job := some ⟨1, 0, 0, .keeper⟩ }] } }, 1, { sess with stage := .job }, 3, by decide⟩,
    ⟨up, 0, by decide⟩,
    ⟨up, 0, 3, by decide⟩,
    ⟨{ up with net := { Net.reset with tiles := List.replicate 4 { Tile.reset with failed := true } } }, 3, by decide⟩⟩

/-- Each clause of DriftBanksAndCaptures has a state and operands that meet its hypotheses together. -/
theorem witness_DriftBanksAndCaptures :
    (∃ (s : State) (b : Fin 4), s.net.banksOut.getD b.val true = false ∧ (s.net.bankErrs.getD b.val []).filter (fun t => s.mt ≤ t + 86400000000) = [])
    ∧ (∃ (s : State) (b : Fin 4) (e : Nat), s.net.banksOut = List.replicate 4 false ∧ (s.net.bankErrs.getD b.val []).filter (fun t => s.mt ≤ t + 86400000000) = [e])
    ∧ (∃ (s : State) (b : Fin 4), s.net.banksOut.getD b.val true = true)
    ∧ (∃ (s : State) (w : CapWait) (rest : List CapWait), s.sto.waiting = w :: rest ∧ s.sto.pendingCaps.length < s.capturePlaces ∧ s.enabled .sto = true ∧ s.nandUp = true)
    ∧ (∃ (s : State), s.sto.waiting = []) :=
  ⟨⟨up, 3, by decide⟩,
    ⟨{ up with net := { Net.reset with bankErrs := List.replicate 4 [up.mt] } }, 3, up.mt, by decide⟩,
    ⟨{ up with net := { Net.reset with banksOut := List.replicate 4 true } }, 3, by decide⟩,
    ⟨{ up with sto := { Storage.reset with waiting := [⟨1, 0, []⟩] } }, ⟨1, 0, []⟩, [], by decide⟩,
    ⟨up, by decide⟩⟩

/-- Each clause of PolicyDeniesAndReleaseRelocks (its part 1) has a state and operands that meet its hypotheses together. -/
theorem witness_PolicyDeniesAndReleaseRelocks_1 :
    (∃ (s : State) (code : Nat) (i : PolicyIn), (s.policy code i).1 ≠ 0)
    ∧ (∃ (s : State) (code : Nat) (i : PolicyIn), (∀ r ∈ s.rules, ruleFits r code i = false))
    ∧ (∃ (i : PolicyIn), i.path = 0 ∧ Nat.testBit i.flags 4 = true)
    ∧ (∃ (s : State) (code : Nat) (i : PolicyIn), (s.policy code i).1 = 0) :=
  ⟨⟨up, 1, ⟨0, 0, 1, 0, 0, 0, 0xFF, 0xFFFF, 0, 0⟩, by decide⟩,
    ⟨up, 1, ⟨0, 0, 9, 0, 0, 0, 0xFF, 0xFFFF, 0, 0⟩, by decide⟩,
    ⟨⟨0, 0, 1, 0, 0, 16, 0xFF, 0xFFFF, 0, 0⟩, by decide⟩,
    ⟨up, 1, ⟨0, 0, 1, 0, 3, 0, 0xFF, 0xFFFF, 0, 0⟩, by decide⟩⟩

/-- Each clause of StartReleaseRunsItsSteps has a state and operands that meet its hypotheses together. -/
theorem witness_StartReleaseRunsItsSteps :
    (∃ (s : State) (st : RelStart) (t : OffTest), s.enabled .rel = true ∧ s.outUsed = true ∧ 2 ≤ s.island 14 ∧ s.rel.start = some st ∧ st.step = 2 ∧ t.openLoad = false ∧ t.hGround = false ∧ t.lSupply = false ∧ s.flag F.PWR_STAT_OVERVOLT = false ∧ s.flag F.PWR_STAT_BROWNOUT = false)
    ∧ (∃ (s : State) (st : RelStart) (t : OffTest), s.enabled .rel = true ∧ s.outUsed = true ∧ 2 ≤ s.island 14 ∧ s.rel.start = some st ∧ st.step = 2 ∧ t.openLoad = true)
    ∧ (∃ (s : State) (st : RelStart), s.rel.chanH ≤ s.rel.cmdNo ∧ s.rel.chanL ≤ s.rel.cmdNo ∧ s.rel.cmdNo + 1 < 2 ^ 32)
    ∧ (∃ (s : State) (op : Nat), op < 3 ∧ s.rel.chanH ≤ s.rel.cmdNo ∧ s.rel.chanL ≤ s.rel.cmdNo ∧ s.rel.cmdNo + 1 < 2 ^ 32)
    ∧ (∃ (s : State) (w : Nat), (relNumber w ≤ s.rel.chanH ∨ relNumber w ≤ s.rel.chanL ∨ w ≠ relWord (relNumber w) (relOp w)))
    ∧ (∃ (s : State) (st : RelStart) (ma : BitVec 16), s.rel.tripMt = none ∧ s.rel.hotMt = none ∧ s.rel.start = some st ∧ st.step = 4 ∧ st.sends = 0 ∧ s.flag F.REL_STAT_OUT_L = true ∧ st.onMt + 5000 ≤ s.mt ∧ le s.policySec 8 2 ≤ ma.toNat)
    ∧ (∃ (s : State) (st : RelStart) (ma : BitVec 16), s.rel.tripMt = none ∧ s.rel.hotMt = none ∧ s.rel.start = some st ∧ st.step = 4 ∧ s.rel.chanH ≤ s.rel.cmdNo ∧ s.rel.chanL ≤ s.rel.cmdNo ∧ s.rel.cmdNo + 1 < 2 ^ 32 ∧ s.flag F.REL_STAT_OUT_L = true ∧ st.onMt + 5000 ≤ s.mt ∧ ma.toNat < le s.policySec 8 2)
    ∧ (∃ (s : State) (st : RelStart), s.allAcked [] = false)
    ∧ (∃ (s : State) (st : RelStart), s.rel.tripMt = none ∧ s.rel.start = some st ∧ st.pull = true ∧ st.grantOn = true ∧ 6 ≤ st.step ∧ st.onMt + le s.policySec 6 2 * 1000 ≤ s.mt)
    ∧ (∃ (s : State) (st : RelStart), s.flag F.REL_STAT_OUT_H = true ∧ s.rel.retried = false ∧ s.rel.start = some st)
    ∧ (∃ (s : State), s.flag F.REL_STAT_OUT_H = false ∧ s.flag F.REL_STAT_OUT_L = false)
    ∧ (∃ (s : State), s.flag F.REL_STAT_OUT_H = false ∧ s.flag F.REL_STAT_OUT_L = false)
    ∧ (∃ (s : State) (st : RelStart) (m : Nat), s.rel.hotMt = some m ∧ m + 1000000 ≤ s.mt ∧ s.rel.start = some st ∧ st.step = 4 ∧ s.flag F.REL_STAT_OUT_L = false) :=
  ⟨⟨rel { rst with step := 2 }, { rst with step := 2 }, ⟨false, false, false, false, false⟩, by decide⟩,
    ⟨rel { rst with step := 2 }, { rst with step := 2 }, ⟨true, false, false, false, false⟩, by decide⟩,
    ⟨up, rst, by decide⟩,
    ⟨up, 2, by decide⟩,
    ⟨up, 0, by decide⟩,
    ⟨fx (rel { rst with step := 4 }) [(F.REL_STAT_OUT_L, 1)], { rst with step := 4 }, 100, by decide⟩,
    ⟨fx (rel { rst with step := 4 }) [(F.REL_STAT_OUT_L, 1)], { rst with step := 4 }, 99, by decide⟩,
    ⟨up, rst, by decide⟩,
    ⟨rel { rst with step := 6 }, { rst with step := 6 }, by decide⟩,
    ⟨fx (rel { rst with step := 4 }) [(F.REL_STAT_OUT_H, 1)], { rst with step := 4 }, by decide⟩,
    ⟨up, by decide⟩,
    ⟨up, by decide⟩,
    ⟨{ up with rel := { Rel.reset with start := some rst, hotMt := some (up.mt - 1000000) } }, rst, up.mt - 1000000, by decide⟩⟩

/-- Each clause of PartnersAnswerGrants has a state and operands that meet its hypotheses together. -/
theorem witness_PartnersAnswerGrants :
    (∃ (s : State) (p : Fin 3) (id : Word) (msg : Bytes) (r : Nat) (st : RelStart), s.msgRole p.val id msg = some r ∧ s.latching = false ∧ u8 msg 0 = 0x52 ∧ s.msgCheck r 0x21 10 msg = 0 ∧ s.rel.start = some st ∧ be msg 2 4 = s.vault.deviceTag ∧ be msg 6 4 = st.seq ∧ st.step = 6 ∧ st.grantOn = true ∧ u8 msg 14 = 0 ∧ s.allAcked (st.acks ++ [r]) = true ∧ st.acks.contains r = false)
    ∧ (∃ (s : State) (p : Fin 3) (id : Word) (msg : Bytes) (r : Nat) (st : RelStart), s.msgRole p.val id msg = some r ∧ s.latching = false ∧ u8 msg 0 = 0x52 ∧ s.msgCheck r 0x21 10 msg = 0 ∧ s.rel.start = some st ∧ be msg 2 4 = s.vault.deviceTag ∧ be msg 6 4 = st.seq ∧ st.step = 6 ∧ st.grantOn = true ∧ u8 msg 14 ≠ 0)
    ∧ (∃ (s : State) (p : Fin 3) (id : Word) (msg : Bytes) (r : Nat), s.msgRole p.val id msg = some r ∧ s.latching = false ∧ u8 msg 0 = 0x52 ∧ s.msgCheck r 0x21 10 msg ≠ 0)
    ∧ (∃ (s : State) (p : Fin 3) (id : Word) (msg : Bytes), s.msgRole p.val id msg = none ∧ s.latching = false)
    ∧ (∃ (s : State), s.latching = true)
    ∧ (∃ (s : State) (st : RelStart), s.rel.start = some st ∧ st.step = 6 ∧ st.sends < 3 ∧ s.flag F.PWR_STAT_BROWNOUT = false ∧ st.grantMt + 100000 * st.sends ≤ s.mt)
    ∧ (∃ (s : State) (st : RelStart), s.rel.start = some st ∧ st.step = 6 ∧ st.sends = 3 ∧ st.grantOn = true ∧ s.flag F.PWR_STAT_BROWNOUT = false ∧ st.grantMt + 300000 ≤ s.mt)
    ∧ (∃ (s : State) (p : Fin 3) (id : Word) (msg : Bytes) (r : Nat), s.msgRole p.val id msg = some r ∧ s.latching = false ∧ u8 msg 0 = 0x53 ∧ s.rel.pairing = none ∧ s.msgCheck r 0x22 6 msg = 0 ∧ be msg 2 4 = s.vault.deviceTag)
    ∧ (∃ (s : State) (p : Fin 3) (id : Word) (msg : Bytes) (r : Nat), s.msgRole p.val id msg = some r ∧ s.latching = false ∧ u8 msg 0 = 0x53 ∧ s.rel.pairing = none ∧ s.msgCheck r 0x22 6 msg ≠ 0)
    ∧ (∃ (s : State) (r : Fin 8) (m : Nat), (s.roleWork r.val).mt = some m ∧ m + 300000 < s.mt)
    ∧ (∃ (s : State) (r : Fin 8) (m : Nat), (s.roleWork r.val).mt = some m ∧ s.mt ≤ m + 300000) :=
  ⟨⟨rel { rst with step := 6 }, 0, 0, (rel { rst with step := 6 }).partnerMsg 0x21 (zeros 32) (ackBody 0), 0, { rst with step := 6 }, msg_role _ _ _ _ (by decide) (by decide) (by decide) (by decide) (by decide) (by decide) (by decide), by decide, by rw [msg_u8 _ _ _ _ _ (by decide) (by decide)]; decide, partner_passes (rel { rst with step := 6 }) 0x21 10 (ackBody 0) ⟨3, 0, 1, 0, zeros 32, zeros 8⟩ (by decide) (by decide) (by decide) (by decide), by decide, by rw [msg_be _ _ _ _ _ _ (by decide) (by decide)]; decide, by rw [msg_be _ _ _ _ _ _ (by decide) (by decide)]; decide, by decide, by decide, by rw [msg_u8 _ _ _ _ _ (by decide) (by decide)]; decide, by decide, by decide⟩,
    ⟨rel { rst with step := 6 }, 0, 0, (rel { rst with step := 6 }).partnerMsg 0x21 (zeros 32) (ackBody 1), 0, { rst with step := 6 }, msg_role _ _ _ _ (by decide) (by decide) (by decide) (by decide) (by decide) (by decide) (by decide), by decide, by rw [msg_u8 _ _ _ _ _ (by decide) (by decide)]; decide, partner_passes (rel { rst with step := 6 }) 0x21 10 (ackBody 1) ⟨3, 0, 1, 0, zeros 32, zeros 8⟩ (by decide) (by decide) (by decide) (by decide), by decide, by rw [msg_be _ _ _ _ _ _ (by decide) (by decide)]; decide, by rw [msg_be _ _ _ _ _ _ (by decide) (by decide)]; decide, by decide, by decide, by rw [msg_u8 _ _ _ _ _ (by decide) (by decide)]; decide⟩,
    ⟨up, 0, 0, toBE 1 0x52, 0, by decide⟩,
    ⟨up, 0, 0, [0x52, 9], by decide⟩,
    ⟨ph 5, by decide⟩,
    ⟨rel { rst with step := 6, sends := 2 }, { rst with step := 6, sends := 2 }, by decide⟩,
    ⟨rel { rst with step := 6, sends := 3 }, { rst with step := 6, sends := 3 }, by decide⟩,
    ⟨up, 0, 0, up.partnerMsg 0x22 (zeros 32) statusBody, 0, msg_role _ _ _ _ (by decide) (by decide) (by decide) (by decide) (by decide) (by decide) (by decide), by decide, by rw [msg_u8 _ _ _ _ _ (by decide) (by decide)]; decide, by decide, partner_passes up 0x22 6 statusBody ⟨3, 0, 1, 0, zeros 32, zeros 8⟩ (by decide) (by decide) (by decide) (by decide), by rw [msg_be _ _ _ _ _ _ (by decide) (by decide)]; decide⟩,
    ⟨up, 0, 0, toBE 1 0x53, 0, by decide⟩,
    ⟨{ up with rel := { Rel.reset with roles := List.replicate 8 ⟨false, true, some 5⟩ } }, 7, 5, by decide⟩,
    ⟨{ up with rel := { Rel.reset with roles := List.replicate 8 ⟨false, true, some (up.mt - 300000)⟩ } }, 7, up.mt - 300000, by decide⟩⟩

/-- Each clause of PolicyDeniesAndReleaseRelocks (its part 2) has a state and operands that meet its hypotheses together. -/
theorem witness_PolicyDeniesAndReleaseRelocks_2 :
    (∃ (s : State) (m : Nat), s.refreshRel.rel.stillMt = some m ∧ s.rel.held = true ∧ max m s.rel.delayMt + s.setting 0x0902 30 * 1000000 ≤ s.mt ∧ s.refreshRel.relockCause (s.setting 0x0902 30 * 1000000) = true)
    ∧ (∃ (s : State), s.rel.held = false)
    ∧ (∃ (s : State), s.rel.chanH ≤ s.rel.cmdNo ∧ s.rel.chanL ≤ s.rel.cmdNo ∧ s.rel.cmdNo + 1 < 2 ^ 32)
    ∧ (∃ (s : State), s.standstill = false)
    ∧ (∃ (s : State), s.standstill = true ∧ s.rel.held = false)
    ∧ (∃ (s : State), s.standstill = true ∧ s.rel.held = true) :=
  ⟨⟨{ still with rel := { still.rel with held := true } }, 0, by decide⟩,
    ⟨up, by decide⟩,
    ⟨up, by decide⟩,
    ⟨up, by decide⟩,
    ⟨still, by decide⟩,
    ⟨{ still with rel := { still.rel with held := true } }, by decide⟩⟩

/-- Each clause of PartnersArePairedAndDiscovered (its part 1) has a state and operands that meet its hypotheses together. -/
theorem witness_PartnersArePairedAndDiscovered_1 :
    (∃ (s : State) (role : BitVec 8) (pid : BitVec 64) (auth : Bytes), s.mbReady 0x0901 (toLE 1 role.toNat ++ toBE 8 pid.toNat ++ auth) ∧ auth.length = (s.begun 0x0901 (toLE 1 role.toNat ++ toBE 8 pid.toNat ++ auth)).authLen ∧ ((s.begun 0x0901 (toLE 1 role.toNat ++ toBE 8 pid.toNat ++ auth)).checkAuth 1 (toLE 1 role.toNat ++ toBE 8 pid.toNat) auth).2 ≠ 0)
    ∧ (∃ (s : State) (role : BitVec 8) (pid : BitVec 64) (auth : Bytes) (d : Disc) (px : KeyRec), s.mbReady 0x0901 (toLE 1 role.toNat ++ toBE 8 pid.toNat ++ auth) ∧ auth.length = (s.begun 0x0901 (toLE 1 role.toNat ++ toBE 8 pid.toNat ++ auth)).authLen ∧ ((s.begun 0x0901 (toLE 1 role.toNat ++ toBE 8 pid.toNat ++ auth)).checkAuth 1 (toLE 1 role.toNat ++ toBE 8 pid.toNat) auth).2 = 0 ∧ ((s.begun 0x0901 (toLE 1 role.toNat ++ toBE 8 pid.toNat ++ auth)).checkAuth 1 (toLE 1 role.toNat ++ toBE 8 pid.toNat) auth).1.ringLocked = false ∧ ((s.begun 0x0901 (toLE 1 role.toNat ++ toBE 8 pid.toNat ++ auth)).checkAuth 1 (toLE 1 role.toNat ++ toBE 8 pid.toNat) auth).1.keys.prep = .none ∧ ((s.begun 0x0901 (toLE 1 role.toNat ++ toBE 8 pid.toNat ++ auth)).checkAuth 1 (toLE 1 role.toNat ++ toBE 8 pid.toNat) auth).1.entropyFailed = false ∧ ((((s.begun 0x0901 (toLE 1 role.toNat ++ toBE 8 pid.toNat ++ auth)).checkAuth 1 (toLE 1 role.toNat ++ toBE 8 pid.toNat) auth).1.announceOn true).hif.disc ++ (((s.begun 0x0901 (toLE 1 role.toNat ++ toBE 8 pid.toNat ++ auth)).checkAuth 1 (toLE 1 role.toNat ++ toBE 8 pid.toNat) auth).1.announceOn true).hif.discPaired).find? (fun d => d.pid == pid.toNat && decide ((((s.begun 0x0901 (toLE 1 role.toNat ++ toBE 8 pid.toNat ++ auth)).checkAuth 1 (toLE 1 role.toNat ++ toBE 8 pid.toNat) auth).1.announceOn true).mt ≤ d.mt + 60000000) && d.kind == (((s.begun 0x0901 (toLE 1 role.toNat ++ toBE 8 pid.toNat ++ auth)).checkAuth 1 (toLE 1 role.toNat ++ toBE 8 pid.toNat) auth).1.announceOn true).roleKind role.toNat && beNat ((Crypto.sha512 d.key).take 8) == pid.toNat) = some d ∧ (((s.begun 0x0901 (toLE 1 role.toNat ++ toBE 8 pid.toNat ++ auth)).checkAuth 1 (toLE 1 role.toNat ++ toBE 8 pid.toNat) auth).1.announceOn true).keyRec? 6 pxkIndex = some px ∧ role.toNat < (((s.begun 0x0901 (toLE 1 role.toNat ++ toBE 8 pid.toNat ++ auth)).checkAuth 1 (toLE 1 role.toNat ++ toBE 8 pid.toNat) auth).1.announceOn true).nRole)
    ∧ (∃ (s : State) (p : Pairing), s.rel.pairing = some p ∧ p.mt + 5000000 ≤ s.mt)
    ∧ (∃ (s : State), s.rel.pairing = none)
    ∧ (∃ (s : State) (role : BitVec 8) (auth : Bytes), s.mbReady 0x0902 (toLE 1 role.toNat ++ auth) ∧ auth.length = (s.begun 0x0902 (toLE 1 role.toNat ++ auth)).authLen ∧ ((s.begun 0x0902 (toLE 1 role.toNat ++ auth)).checkAuth 2 (toLE 1 role.toNat) auth).2 = 0 ∧ ((s.begun 0x0902 (toLE 1 role.toNat ++ auth)).checkAuth 2 (toLE 1 role.toNat) auth).1.ringLocked = false ∧ ((s.begun 0x0902 (toLE 1 role.toNat ++ auth)).checkAuth 2 (toLE 1 role.toNat) auth).1.keys.prep = .none ∧ ((s.begun 0x0902 (toLE 1 role.toNat ++ auth)).checkAuth 2 (toLE 1 role.toNat) auth).1.rolePaired role.toNat = false)
    ∧ (∃ (s : State) (role : BitVec 8) (auth : Bytes), s.mbReady 0x0902 (toLE 1 role.toNat ++ auth) ∧ auth.length = (s.begun 0x0902 (toLE 1 role.toNat ++ auth)).authLen ∧ ((s.begun 0x0902 (toLE 1 role.toNat ++ auth)).checkAuth 2 (toLE 1 role.toNat) auth).2 = 0 ∧ ((s.begun 0x0902 (toLE 1 role.toNat ++ auth)).checkAuth 2 (toLE 1 role.toNat) auth).1.ringLocked = false ∧ ((s.begun 0x0902 (toLE 1 role.toNat ++ auth)).checkAuth 2 (toLE 1 role.toNat) auth).1.keys.prep = .none ∧ ((s.begun 0x0902 (toLE 1 role.toNat ++ auth)).checkAuth 2 (toLE 1 role.toNat) auth).1.rolePaired role.toNat = true ∧ (((s.begun 0x0902 (toLE 1 role.toNat ++ auth)).checkAuth 2 (toLE 1 role.toNat) auth).1.commitGen (((s.begun 0x0902 (toLE 1 role.toNat ++ auth)).checkAuth 2 (toLE 1 role.toNat) auth).1.ring.filter (fun x => !(x.kind == 3 && x.index == role.toNat))) true).2 = 0) :=
  ⟨⟨field, 0, 0, zeros 496, by decide⟩,
    ⟨atPair, 0, pidOf, [], heard, ⟨6, 2, 1, 0, [], []⟩, by decide, by decide, by decide, by decide, by decide, by decide, heard_found _ _ (by decide) (by decide), by decide, by decide⟩,
    ⟨{ up with rel := { Rel.reset with pairing := some ⟨0, 0, [], [], 0, up.mt - 5000000⟩ } }, ⟨0, 0, [], [], 0, up.mt - 5000000⟩, by decide⟩,
    ⟨up, by decide⟩,
    ⟨up, 1, [], by decide⟩,
    ⟨up, 0, [], by decide⟩⟩

/-- Each clause of CipherRequestsJoinOrAreRefused (its part 1) has a state and operands that meet its hypotheses together. -/
theorem witness_CipherRequestsJoinOrAreRefused_1 :
    (∃ (s : State) (m : BitVec 4) (k : Bool) (d : Bytes), s.symAdmits m.toNat k (withOp 0x02 d) false)
    ∧ (∃ (s : State) (m : BitVec 4) (k : Bool) (d : Bytes), s.symAdmits m.toNat k (withOp 0x03 d) false)
    ∧ (∃ (s : State) (m : BitVec 4) (k : Bool) (d : Bytes), s.symAdmits m.toNat k (withOp 0x04 d) false)
    ∧ (∃ (s : State) (m : BitVec 4) (k : Bool) (d : Bytes), s.symAdmits m.toNat k (withOp 0x05 d) false)
    ∧ (∃ (s : State) (m : BitVec 4) (k : Bool) (d : Bytes), s.symAdmits m.toNat k (withOp 0x06 d) false)
    ∧ (∃ (s : State) (m : BitVec 4) (k : Bool) (d : Bytes), s.symAdmits m.toNat k (withOp 0x07 d) false)
    ∧ (∃ (s : State) (m : BitVec 4) (k : Bool) (d : Bytes), s.symAdmits m.toNat k (withOp 0x10 d) false)
    ∧ (∃ (s : State) (m : BitVec 4) (k : Bool) (d : Bytes), s.symAdmits m.toNat k (withOp 0x20 d) false)
    ∧ (∃ (s : State) (m : BitVec 4) (k : Bool) (d : Bytes), s.symAdmits m.toNat k (withOp 0x21 d) false)
    ∧ (∃ (s : State) (m : BitVec 4) (k : Bool) (d : Bytes), s.symAdmits m.toNat k (withOp 0x22 d) false)
    ∧ (∃ (s : State) (m : BitVec 4) (k : Bool) (d : Bytes), s.symAdmits m.toNat k (withOp 0x23 d) false)
    ∧ (∃ (s : State) (m : BitVec 4) (k : Bool) (d : Bytes), s.symAdmits m.toNat k (withOp 0x30 d) false)
    ∧ (∃ (s : State) (m : BitVec 4) (k : Bool) (d : Bytes), s.symAdmits m.toNat k (withOp 0x41 d) false)
    ∧ (∃ (s : State) (m : BitVec 4) (k : Bool) (d : Bytes), s.symAdmits m.toNat k (withOp 0x42 d) false)
    ∧ (∃ (s : State) (m : BitVec 4) (k : Bool) (d : Bytes), s.symAdmits m.toNat k (withOp 0x40 d) false)
    ∧ (∃ (s : State) (m : BitVec 4) (k : Bool) (d : Bytes), s.symAdmits m.toNat k (withOp 0x01 d) false)
    ∧ (∃ (s : State) (input : Bytes), s.mbReady 0x0A01 input ∧ 64 ≤ input.length ∧ (input.drop 64).length = srcLen (input.take 64) ∧ (s.begun 0x0A01 input).symAdmits 4 false (input.take 64) true) :=
  ⟨⟨up, 4, false, desc 2 0 0 h7 0xFF 0 16, by decide⟩,
    ⟨up, 4, false, desc 3 3 16 h7 0xFF 0 16, by decide⟩,
    ⟨up, 4, false, desc 4 3 16 h7 0xFF 0 16, by decide⟩,
    ⟨up, 1, true, desc 5 3 0 h7 0xFF 0 16, by decide⟩,
    ⟨up, 4, false, desc 6 4 0 h7 0xFF 0 16, by decide⟩,
    ⟨up, 4, false, desc 7 4 0 h7 0xFF 0 24, by decide⟩,
    ⟨up, 4, false, desc 0x10 0 0 0 0xFF 0 0, by decide⟩,
    ⟨up, 4, false, desc 0x20 0 0 0 0xFF 0 0, by decide⟩,
    ⟨up, 4, false, desc 0x21 0 0 h6 0xFF 0 64, by decide⟩,
    ⟨up, 4, false, desc 0x22 0 0 0 0xFF 0 328, by decide⟩,
    ⟨up, 4, false, desc 0x23 0 0 h6 0xFF 0 132, by decide⟩,
    ⟨up, 4, false, desc 0x30 0 0 0 0xFF 0 512, by decide⟩,
    ⟨up, 4, false, desc 0x41 0 0 0 0xFF 0 288, by decide⟩,
    ⟨full 4 false, 4, false, desc 0x42 0 0 0 31 0 0, by decide⟩,
    ⟨full 1 true, 1, true, desc 0x40 0 0 0 0 0 0, by decide⟩,
    ⟨up, 4, false, desc 1 1 16 h7 0xFF 0 16, by decide⟩,
    ⟨up, desc 0x30 0 0 0 0xFF 0 16, by decide⟩⟩

/-- Each clause of CipherRequestsJoinOrAreRefused (its part 2) has a state and operands that meet its hypotheses together. -/
theorem witness_CipherRequestsJoinOrAreRefused_2 :
    (∃ (s : State) (m : BitVec 4) (k : Bool) (d : Bytes) (c : Nat), s.portRefusal m.toNat k = 0 ∧ s.symCheck (withOp 0x02 d) m.toNat k false = c ∧ c ≠ 0 ∧ c ≠ 0x0A06 ∧ c ≠ 0x0A07 ∧ c ≠ 0x0A09)
    ∧ (∃ (s : State), s.islandFailed 8 = true)
    ∧ (∃ (d : Bytes) (b : Bool), descValid d b = false)
    ∧ (∃ (s : State) (d : Bytes), descValid d false = true ∧ dOp d = 0x30 ∧ dFlag d 0 = true ∧ dFlag d 1 = true ∧ dFlag d 3 = true ∧ lenOk d true = true ∧ s.entropyFailed = true)
    ∧ (∃ (s : State) (r : SymReq), s.symCheck r.desc r.master r.keeper r.mailbox ≠ 0) :=
  ⟨⟨up, 4, false, desc 2 0 0 h7 0xFF 0 0, 0x0A02, by decide⟩,
    ⟨fx up [(⟨R.PWR_ISL_STATE, 17, 16⟩, 3)], by decide⟩,
    ⟨[], true, by decide⟩,
    ⟨fx up [(F.SYM_ENT_FAILED, 1)], (desc 0x30 0 0 0 0xFF 0 16).set 3 11, by decide⟩,
    ⟨up, { waiting 0x10 0 2 with desc := [] }, by decide⟩⟩

/-- Each clause of NoncesAreFreshAndCipherResponsesComplete (its part 1) has a state and operands that meet its hypotheses together. -/
theorem witness_NoncesAreFreshAndCipherResponsesComplete_1 :
    (∃ (s : State) (t : State) (id : Nat) (ok : Bool) (n : Bytes), s.issueNonce id ok = (t, some n))
    ∧ (∃ (s : State) (t : State) (id : Nat) (ok : Bool) (n : Bytes), s.issueNonce id ok = (t, some n) ∧ (s.nonceStream id).next < (s.nonceStream id).hi)
    ∧ (∃ (s : State) (t : State) (id : Nat) (ok : Bool) (n : Bytes), s.issueNonce id ok = (t, some n) ∧ (s.nonceStream id).hi ≤ (s.nonceStream id).next)
    ∧ (∃ (s : State) (id : Nat), (s.nonceStream id).hi ≤ (s.nonceStream id).next)
    ∧ (∃ (d : Bytes), (dMode d = 1 ∨ dMode d = 2))
    ∧ (∃ (r : SymReq), r.mailbox = false)
    ∧ (∃ (r : SymReq), buffered r.desc = true ∧ r.done ≤ segmentsOf r.desc) :=
  ⟨⟨{ up with sym := { Sym.reset with streams := [⟨0, 0, 1⟩] } }, _, 0, true, _, rfl⟩,
    ⟨{ up with sym := { Sym.reset with streams := [⟨0, 0, 1⟩] } }, _, 0, true, _, rfl, by decide⟩,
    ⟨up, _, 0, true, _, rfl, by decide⟩,
    ⟨up, 0, by decide⟩,
    ⟨desc 2 1 16 0 0 0 0, by decide⟩,
    ⟨waiting 0x10 0 2, by decide⟩,
    ⟨{ waiting 0x10 0 2 with desc := desc 7 0 0 0 0 0 16, left := 3 }, by decide⟩⟩

/-- Each clause of NoncesAreFreshAndCipherResponsesComplete (its part 2) has a state and operands that meet its hypotheses together. -/
theorem witness_NoncesAreFreshAndCipherResponsesComplete_2 :
    (∃ (s : State), s.sym.queue = [])
    ∧ (∃ (s : State) (e : Fin 7) (r : SymReq), s.pickOn (engineCode e) = some r ∧ r.begun = true ∧ r.left ≤ 1)
    ∧ (∃ (s : State) (e : Fin 7) (r : SymReq), s.pickOn (engineCode e) = some r ∧ r.begun = true ∧ 1 < r.left ∧ SymReq.failed { r with left := r.left - 1 } = false ∧ SymReq.passed { r with left := r.left - 1 } ≤ r.written)
    ∧ (∃ (s : State) (e : Nat) (r : SymReq) (x : SymReq), (s.ready e).find? (fun r => r.begun && opQueue (dOp r.desc) == 3) = some r ∧ s.pickOn e = some x)
    ∧ (∃ (s : State) (r : SymReq), dOp r.desc = 0x10 ∧ dSingle r.desc = true ∧ r.slot = 0xFF ∧ s.sym.ctx.length = 32)
    ∧ (∃ (r : SymReq), dOp r.desc = 0x30 ∧ dFlag r.desc 3 = false)
    ∧ (∃ (r : SymReq), dOp r.desc = 0x04)
    ∧ (∃ (r : SymReq) (l : List SymReq), bestReq l = some r) :=
  ⟨⟨up, by decide⟩,
    ⟨asked (waiting 0x10 0 2), 2, waiting 0x10 0 2, by decide⟩,
    ⟨asked { waiting 0x10 0 2 with left := 2 }, 2, { waiting 0x10 0 2 with left := 2 }, by decide⟩,
    ⟨asked (waiting 0x20 0 3), 3, waiting 0x20 0 3, waiting 0x20 0 3, by decide⟩,
    ⟨up, waiting 0x10 0 2, by decide⟩,
    ⟨waiting 0x30 0 5, by decide⟩,
    ⟨waiting 4 h7 0, by decide⟩,
    ⟨waiting 0x10 0 2, [waiting 0x10 0 2], by decide⟩⟩

/-- Each clause of CipherEnginesAndEntropyFail has a state and operands that meet its hypotheses together. -/
theorem witness_CipherEnginesAndEntropyFail :
    (∃ (s : State) (p : Fin 2), s.enabled .sym = true ∧ s.engineFailed p.val = false ∧ (s.pipeFaults p.val).length < 2)
    ∧ (∃ (s : State) (p : Nat) (r : SymReq), s.pickOn p = some r ∧ s.engineFailed (1 - p) = false)
    ∧ (∃ (s : State) (p : Fin 2), s.enabled .sym = true ∧ s.sym.failed = [false, false, false, false] ∧ (s.pipeFaults p.val).length = 2)
    ∧ (∃ (s : State), s.enabled .sym = true ∧ s.sym.failed = [false, false, false, false])
    ∧ (∃ (s : State), s.enabled .sym = true ∧ s.sym.failed = [false, false, false, false])
    ∧ (∃ (s : State) (l : List Bool), s.enabled .sym = true ∧ s.entropyFailed = false ∧ l ≠ [] ∧ proportion l = false ∧ (repetition l s.sym.rctLast s.sym.rctRun false).2.2 = false)
    ∧ (∃ (s : State) (l : List Bool), s.enabled .sym = true ∧ s.entropyFailed = false ∧ l ≠ [] ∧ 2 ≤ s.sym.batches ∧ ((repetition l s.sym.rctLast s.sym.rctRun false).2.2 = true ∨ proportion l = true))
    ∧ (∃ (s : State), s.enabled .sym = true ∧ s.entropyFailed = true)
    ∧ (∃ (s : State), s.sym.retryMt + 60000000 ≤ s.mt)
    ∧ (∃ (s : State), s.mt < s.sym.retryMt + 60000000)
    ∧ (∃ (s : State), s.flag F.SYM_STAT_DRBG_OK = true ∧ s.entropyFailed = false ∧ s.island 8 = 2 ∧ s.sym.seedMt + 10000000 ≤ s.mt) :=
  ⟨⟨{ up with sym := { Sym.reset with faults := [[up.mt], [up.mt]] } }, 1, by decide⟩,
    ⟨asked (waiting 4 h7 1), 1, waiting 4 h7 1, by decide⟩,
    ⟨{ up with sym := { Sym.reset with faults := [[up.mt, up.mt], [up.mt, up.mt]] } }, 1, by decide⟩,
    ⟨up, by decide⟩,
    ⟨up, by decide⟩,
    ⟨up, [true, false], by decide⟩,
    ⟨{ up with sym := { Sym.reset with batches := 2, rctLast := some true, rctRun := 40 } }, [true], by decide⟩,
    ⟨fx up [(F.SYM_ENT_FAILED, 1)], by decide⟩,
    ⟨{ up with sym := { Sym.reset with retryMt := up.mt - 60000000 } }, by decide⟩,
    ⟨{ up with sym := { Sym.reset with retryMt := up.mt } }, by decide⟩,
    ⟨fx up [(F.SYM_STAT_DRBG_OK, 1)], by decide⟩⟩

/-- Each clause of DealerAuthorisationAndLifecycle (its part 1) has a state and operands that meet its hypotheses together. -/
theorem witness_DealerAuthorisationAndLifecycle_1 :
    (∃ (s : State), s.mbReady 0x0B01 [] ∧ s.inService = true)
    ∧ (∃ (s : State) (c : Bytes) (x : Nat), s.keys.challenge = some (c, x) ∧ x + 120000000 ≤ s.mt)
    ∧ (∃ (s : State) (c : Bytes) (x : Nat), s.keys.challenge = some (c, x) ∧ s.mt < x + 120000000)
    ∧ (∃ (s : State), s.lifecycle = 3)
    ∧ (∃ (s : State), s.keys.challenge = none) :=
  ⟨⟨up, by decide⟩,
    ⟨{ up with keys := { Keys.reset with challenge := some ([], up.mt - 120000000) } }, [], up.mt - 120000000, by decide⟩,
    ⟨{ up with keys := { Keys.reset with challenge := some ([], up.mt) } }, [], up.mt, by decide⟩,
    ⟨field, by decide⟩,
    ⟨up, by decide⟩⟩

/-- Each clause of DealerAuthorisationAndLifecycle (its part 2) has a state and operands that meet its hypotheses together. -/
theorem witness_DealerAuthorisationAndLifecycle_2 :
    (∃ (s : State) (h : Bytes), s.mbReady 0x0B02 h ∧ h.length = 32 ∧ allZero h = false ∧ s.lifecycle = 1)
    ∧ (∃ (s : State), s.mbReady 0x0B03 [] ∧ s.lifecycle = 2 ∧ s.get F.SYS_STAT_LKG = 0 ∧ (s.keyRec? 4 0).isSome = true ∧ (s.keyRec? 5 0).isSome = true)
    ∧ (∃ (s : State), s.mbReady 0x0B03 [] ∧ s.lifecycle = 2 ∧ s.keyRec? 4 0 = none)
    ∧ (∃ (s : State), s.mbReady 0x0B04 [] ∧ s.lifecycle = 2) :=
  ⟨⟨provisioned, List.replicate 32 1, by decide⟩,
    ⟨up, by decide⟩,
    ⟨bare, by decide⟩,
    ⟨up, by decide⟩⟩

/-- Each clause of FuseBlowTakesEffectAtReadBack has a state and operands that meet its hypotheses together. -/
theorem witness_FuseBlowTakesEffectAtReadBack :
    (∃ (s : State) (op : Nat) (x : Nat), s.keys.blow = some (.lifecycle 2) ∧ s.keys.blowReset = true ∧ s.keys.blowOp = some (op, x) ∧ s.keys.alarmWait = none ∧ s.keys.deferred = [])
    ∧ (∃ (s : State), s.keys.blow = some .epoch ∧ s.keys.alarmWait = none ∧ s.keys.deferred = [])
    ∧ (∃ (s : State) (k : Blow), s.keys.blow = some k ∧ s.keys.alarmWait = none ∧ s.keys.deferred = [])
    ∧ (∃ (s : State), s.keys.blow = none) :=
  ⟨⟨{ up with keys := { Keys.reset with blow := some (.lifecycle 2), blowReset := true, blowOp := some (0x0B03, 0) } }, 0x0B03, 0, by decide⟩,
    ⟨{ up with keys := { Keys.reset with blow := some .epoch } }, by decide⟩,
    ⟨{ up with keys := { Keys.reset with blow := some (.lifecycle 2) } }, .lifecycle 2, by decide⟩,
    ⟨up, by decide⟩⟩

/-- Each clause of KeysAreImportedAndCommitted (its part 2) has a state and operands that meet its hypotheses together. -/
theorem witness_KeysAreImportedAndCommitted_2 :
    (∃ (s : State) (kind : BitVec 8) (attr : Word), s.mbReady 0x0B07 (toLE 1 kind.toNat ++ toLE 4 attr.toNat) ∧ (kind.toNat = 6 ∨ kind.toNat = 7) ∧ s.inService = true ∧ attrPermitted attr.toNat = true ∧ s.prepReason = 0 ∧ s.get F.SYM_ENT_FAILED = 0 ∧ s.ring.length < 512 ∧ s.vaultUp = true)
    ∧ (∃ (s : State) (h : Word) (k : KeyRec), s.mbReady 0x0B09 (toLE 4 h.toNat) ∧ s.inService = true ∧ s.prepReason = 0 ∧ s.hostKey h.toNat = .ok k ∧ s.ring.length ≤ 512 ∧ s.vaultUp = true)
    ∧ (∃ (s : State) (h : Word) (k : KeyRec), s.mbReady 0x0B0A (toLE 4 h.toNat) ∧ s.inService = true ∧ s.prepReason = 0 ∧ s.get F.SYM_ENT_FAILED = 0 ∧ s.hostKey h.toNat = .ok k ∧ s.ring.length < 512 ∧ s.vaultUp = true)
    ∧ (∃ (s : State) (h : Word) (w : Word) (k : KeyRec) (u : KeyRec), s.mbReady 0x0B08 (toLE 4 h.toNat ++ toLE 4 w.toNat) ∧ s.inService = true ∧ s.keys.lockEnd = none ∧ s.keyByHandle h.toNat = .ok k ∧ s.keyByHandle w.toNat = .ok u ∧ Nat.testBit k.attr 1 = true ∧ keyAdmission u.attr 4 false s.lifecycle 6 = 0)
    ∧ (∃ (s : State) (h : Word) (k : KeyRec), s.mbReady 0x0B0B (toLE 4 h.toNat) ∧ s.inService = true ∧ s.keys.lockEnd = none ∧ s.keyByHandle h.toNat = .ok k)
    ∧ (∃ (s : State) (h : Word), s.mbReady 0x0B0B (toLE 4 h.toNat) ∧ s.inService = true ∧ s.keys.lockEnd = none ∧ s.keyRec? (h.toNat / 2 ^ 28) (h.toNat / 2 ^ 16 % 4096) = none) :=
  ⟨⟨up, 6, 0x00104000, by decide⟩,
    ⟨up, (BitVec.ofNat 32 (7 * 2 ^ 28 + 1)), hostKey, by decide, by decide, by decide, rfl, by decide⟩,
    ⟨up, (BitVec.ofNat 32 (7 * 2 ^ 28 + 1)), hostKey, by decide, by decide, by decide, by decide, rfl, by decide⟩,
    ⟨up, (BitVec.ofNat 32 (7 * 2 ^ 28 + 1)), (BitVec.ofNat 32 (7 * 2 ^ 28 + 1)), hostKey, hostKey, by decide, by decide, by decide, rfl, rfl, by decide⟩,
    ⟨up, (BitVec.ofNat 32 (7 * 2 ^ 28 + 1)), hostKey, by decide, by decide, by decide, rfl⟩,
    ⟨up, 0, by decide⟩⟩

/-- Each clause of KeysAreImportedAndCommitted (its part 1) has a state and operands that meet its hypotheses together. -/
theorem witness_KeysAreImportedAndCommitted_1 :
    (∃ (s : State) (sealed : Bytes) (kxk : KeyRec), sealed.length = 172 ∧ s.lifecycle = 2 ∧ s.keys.lockEnd = none ∧ s.keys.prep = .none ∧ s.get F.SYM_ENT_FAILED = 0 ∧ s.keyRec? 6 kxkIndex = some kxk ∧ Crypto.onCurve (sealed.take 132) = true ∧ s.vaultUp = true ∧ s.ring.length < 512)
    ∧ (∃ (s : State) (sealed : Bytes) (kxk : KeyRec), sealed.length = 172 ∧ s.lifecycle = 2 ∧ s.keys.lockEnd = none ∧ s.keys.prep = .none ∧ s.get F.SYM_ENT_FAILED = 0 ∧ s.keyRec? 6 kxkIndex = some kxk ∧ Crypto.onCurve (sealed.take 132) = true ∧ s.vaultUp = true ∧ s.ring.length < 512 ∧ s.mbReady 0x0B05 sealed)
    ∧ (∃ (s : State) (sealed : Bytes) (kxk : KeyRec), sealed.length = 172 ∧ s.lifecycle = 2 ∧ s.keys.lockEnd = none ∧ s.keys.prep = .none ∧ s.get F.SYM_ENT_FAILED = 0 ∧ s.keyRec? 6 kxkIndex = some kxk ∧ Crypto.onCurve (sealed.take 132) = true ∧ s.vaultUp = true ∧ s.ring.length < 512 ∧ s.mbReady 0x0B06 sealed) :=
  ⟨⟨up, sealedG, ⟨6, 1, 1, 0, [], []⟩, by decide⟩,
    ⟨up, sealedG, ⟨6, 1, 1, 0, [], []⟩, by decide⟩,
    ⟨up, sealedG, ⟨6, 1, 1, 0, [], []⟩, by decide⟩⟩

/-- Each clause of AttestationAnswers has a state and operands that meet its hypotheses together. -/
theorem witness_AttestationAnswers :
    (∃ (s : State) (c : Bytes) (k : KeyRec), s.mbReady 0x0B0C c ∧ c.length = 16 ∧ s.inService = true ∧ s.keys.lockEnd = none ∧ s.keyRec? 5 0 = some k)
    ∧ (∃ (s : State) (h : Word) (c : Bytes), s.mbReady 0x0B0D (toLE 4 h.toNat ++ c) ∧ c.length = 16 ∧ s.lifecycle ≠ 3 ∧ s.lifecycle ≠ 0 ∧ s.lifecycle ≠ 5 ∧ h.toNat / 2 ^ 28 = 9 ∧ s.get F.SYM_ENT_FAILED = 0)
    ∧ (∃ (s : State) (h : Word) (c : Bytes), s.mbReady 0x0B0D (toLE 4 h.toNat ++ c) ∧ c.length = 16 ∧ s.lifecycle ≠ 3 ∧ s.lifecycle ≠ 0 ∧ s.lifecycle ≠ 5 ∧ h.toNat / 2 ^ 28 = 9 ∧ s.get F.SYM_ENT_FAILED = 1)
    ∧ (∃ (s : State) (h : Word) (c : Bytes), s.mbReady 0x0B0D (toLE 4 h.toNat ++ c) ∧ c.length = 16 ∧ s.lifecycle = 3)
    ∧ (∃ (s : State), s.mbReady 0x0B0E [] ∧ s.lifecycle ≠ 0 ∧ s.vault.statements ≠ [])
    ∧ (∃ (s : State), s.mbReady 0x0B0F [] ∧ s.lifecycle ≠ 0 ∧ s.vault.certStored = true)
    ∧ (∃ (s : State) (h : Nat) (x : Nat), s.keys.secrets = [(h, x)] ∧ x + 1000000 ≤ s.mt)
    ∧ (∃ (s : State) (h : Nat) (x : Nat), s.keys.secrets = [(h, x)] ∧ s.mt < x + 1000000) :=
  ⟨⟨up, zeros 16, ⟨5, 0, 1, 0, [], []⟩, by decide⟩,
    ⟨up, (BitVec.ofNat 32 (9 * 2 ^ 28)), zeros 16, by decide⟩,
    ⟨fx up [(F.SYM_ENT_FAILED, 1)], (BitVec.ofNat 32 (9 * 2 ^ 28)), zeros 16, by decide⟩,
    ⟨field, 0, zeros 16, by decide⟩,
    ⟨{ up with vault := { up.vault with statements := [[]] } }, by decide⟩,
    ⟨up, by decide⟩,
    ⟨{ up with keys := { Keys.reset with secrets := [(0, up.mt - 1000000)] } }, 0, up.mt - 1000000, by decide⟩,
    ⟨{ up with keys := { Keys.reset with secrets := [(0, up.mt)] } }, 0, up.mt, by decide⟩⟩

/-- Each clause of TamperAlarmsAndServicePort has a state and operands that meet its hypotheses together. -/
theorem witness_TamperAlarmsAndServicePort :
    (∃ (s : State), s.armed = true ∧ 6 ≤ s.phase ∧ s.keys.blow = none ∧ (s.pilot.t1Times.filter (fun (x : Word) => (s.pilot.pt - x).toNat ≤ 1966080)).length < s.secLE 0x0F 2 1 16)
    ∧ (∃ (code : Nat), code < 65536)
    ∧ (∃ (s : State), s.armed = true ∧ 6 ≤ s.phase ∧ s.keys.blow = none)
    ∧ (∃ (s : State) (k : Blow), s.armed = true ∧ s.keys.blow = some k)
    ∧ (∃ (s : State) (x : Nat), s.keys.lockEnd = some x ∧ x ≤ s.mt)
    ∧ (∃ (s : State), s.armed = true ∧ s.pilot.t3Active = false ∧ s.keys.alarmWait = none ∧ s.keys.blow = none ∧ s.lifecycle ≠ 0 ∧ s.lifecycle ≠ 5 ∧ s.fuses.epochNo < 15)
    ∧ (∃ (s : State), s.pilot.svcOpen = false ∧ s.keys.blow = none ∧ (s.lifecycle = 1 ∨ s.lifecycle = 2))
    ∧ (∃ (s : State), s.pilot.svcOpen = false ∧ s.keys.blow = none ∧ s.lifecycle = 3 ∧ s.fuses.epochNo = 15)
    ∧ (∃ (s : State), s.pilot.svcOpen = true) :=
  ⟨⟨up, by decide⟩,
    ⟨65535, by decide⟩,
    ⟨up, by decide⟩,
    ⟨{ up with keys := { Keys.reset with blow := some .epoch } }, .epoch, by decide⟩,
    ⟨{ up with keys := { Keys.reset with lockEnd := some up.mt } }, up.mt, by decide⟩,
    ⟨up, by decide⟩,
    ⟨up, by decide⟩,
    ⟨lastEpoch, by decide⟩,
    ⟨{ up with pilot := { up.pilot with svcOpen := true } }, by decide⟩⟩

/-- Each clause of DieVaultAndControllerFailures (its part 1) has a state and operands that meet its hypotheses together. -/
theorem witness_DieVaultAndControllerFailures_1 :
    (∃ (s : State) (d : Fin 2), s.nand.dies.length = 2 ∧ (s.die d.val).failed = false ∧ (s.die (1 - d.val)).failed = false)
    ∧ (∃ (s : State) (d : Fin 2), s.nand.dies.length = 2 ∧ (s.die d.val).failed = false ∧ (s.die (1 - d.val)).failed = true)
    ∧ (∃ (s : State) (d : Fin 2), (s.die d.val).failed = true)
    ∧ (∃ (s : State) (d : Fin 2), s.nand.dies.length = 2 ∧ (s.die d.val).failed = false ∧ 257 ≤ (s.die d.val).spare ∧ (s.die d.val).spare < 2 ^ 14 ∧ (s.die d.val).retired + 1 < 2 ^ 14 ∧ ((s.die d.val).times.filter (fun x => s.mt < x + dayUs)).length < 63) :=
  ⟨⟨up, 1, by decide⟩,
    ⟨{ up with nand := { Nand.reset with dies := oneDie } }, 1, by decide⟩,
    ⟨{ up with nand := { Nand.reset with dies := oneDie } }, 0, by decide⟩,
    ⟨{ up with nand := { Nand.reset with dies := [aDie, { aDie with spare := 257, retired := 16382 }] } }, 1, by decide⟩⟩

/-- Each clause of DieVaultAndControllerFailures (its part 2) has a state and operands that meet its hypotheses together. -/
theorem witness_DieVaultAndControllerFailures_2 :
    (∃ (s : State), s.vault.bank0Failed = false ∧ s.vault.bank1Failed = false)
    ∧ (∃ (s : State) (b : Fin 2), (if b.val = 0 then s.vault.bank0Failed else s.vault.bank1Failed) = false ∧ ((s.vault.bankErrs.getD b.val []).filter (fun x => s.mt < x + dayUs)) = [])
    ∧ (∃ (s : State), s.vault.ctrlFailed = false) :=
  ⟨⟨up, by decide⟩,
    ⟨up, 0, by decide⟩,
    ⟨up, by decide⟩⟩

/-- Each clause of JournalCommitsDrainsAndCheckpoints (its part 1) has a state and operands that meet its hypotheses together. -/
theorem witness_JournalCommitsDrainsAndCheckpoints_1 :
    (∃ (s : State) (u : Subsys), s.enabled .sto = true ∧ s.vaultUp = true)
    ∧ (∃ (s : State) (u : Subsys), s.enabled .sto = true ∧ s.vaultUp = true ∧ s.vault.staging.kept.length < 256 ∧ s.vault.staging.gap = none)
    ∧ (∃ (s : State) (u : Subsys), s.enabled .sto = true ∧ s.vaultUp = true ∧ (s.vault.nextSeq + 1) % 4096 = 0)
    ∧ (∃ (s : State), s.enabled .sto = true ∧ s.vaultUp = true ∧ (s.vault.nextSeq + 1) % 4096 ≠ 0)
    ∧ (∃ (s : State) (u : Subsys), s.enabled .sto = false) :=
  ⟨⟨up, .tok, by decide⟩,
    ⟨up, .tok, by decide⟩,
    ⟨{ up with vault := { up.vault with nextSeq := 4095 } }, .tok, by decide⟩,
    ⟨up, by decide⟩,
    ⟨fx up [(⟨R.SYS_EN_MAP, 12, 12⟩, 0)], .tok, by decide⟩⟩

/-- Each clause of JournalCommitsDrainsAndCheckpoints (its part 2) has a state and operands that meet its hypotheses together. -/
theorem witness_JournalCommitsDrainsAndCheckpoints_2 :
    (∃ (s : State) (data : Bytes), s.mbReady 0x0C05 data ∧ 1 ≤ data.length ∧ data.length ≤ 80)
    ∧ (∃ (s : State) (k : Nat), s.oldestPage = some k ∧ s.pageComplete k = true ∧ s.nandUp = true ∧ s.enabled .sto = true ∧ s.flag F.PWR_STAT_BROWNOUT = false ∧ s.dieTurn (s.pageDie k) 2 = true)
    ∧ (∃ (s : State) (k : Nat), s.oldestPage = some k ∧ s.dieTurn (s.pageDie k) 2 = false)
    ∧ (∃ (s : State) (k : Nat), s.oldestPage = some k ∧ s.pageComplete k = true ∧ s.nandUp = true ∧ s.vault.staging.gap = none) :=
  ⟨⟨up, zeros 80, by decide⟩,
    ⟨{ up with vault := { up.vault with staging := ⟨[staged], none, []⟩, nextSeq := 32 } }, 0, by decide⟩,
    ⟨drainWaits, 0, by decide⟩,
    ⟨{ up with vault := { up.vault with staging := ⟨[staged], none, []⟩, nextSeq := 32 } }, 0, by decide⟩⟩

/-- Each clause of JournalCommitsDrainsAndCheckpoints (its part 3) has a state and operands that meet its hypotheses together. -/
theorem witness_JournalCommitsDrainsAndCheckpoints_3 :
    (∃ (s : State) (i : Nat) (h : Bytes) (rest : List (Nat × Bytes)) (jk : KeyRec), s.sto.ckptDue = (i, h) :: rest ∧ s.keyRec? 6 jkIndex = some jk ∧ s.nandUp = true ∧ s.enabled .sto = true ∧ s.flag F.SYM_ENT_FAILED = false ∧ (s.diesUp.all (fun d => s.dieTurn d 2) = true) ∧ s.nand.ckpts.length < 131072 ∧ i < 2 ^ 32 ∧ s.flag F.PWR_STAT_BROWNOUT = false)
    ∧ (∃ (s : State), (s.diesUp.all (fun d => s.dieTurn d 2) = false))
    ∧ (∃ (s : State), s.keyRec? 6 jkIndex = none)
    ∧ (∃ (s : State), s.nandUp = false) :=
  ⟨⟨{ up with sto := { Storage.reset with ckptDue := [(3, [])] } }, 3, [], [], ⟨6, 0, 1, 0, [], []⟩, by decide⟩,
    ⟨drainWaits, by decide⟩,
    ⟨bare, by decide⟩,
    ⟨{ up with vault := { up.vault with ctrlFailed := true } }, by decide⟩⟩

/-- Each clause of StorageWindowAndCaptures (its part 2) has a state and operands that meet its hypotheses together. -/
theorem witness_StorageWindowAndCaptures_2 :
    (∃ (s : State) (c : Capture) (rest : List Capture), s.sto.pendingCaps = c :: rest ∧ c.trailer.isSome = true ∧ s.nandUp = true ∧ s.enabled .sto = true ∧ s.flag F.PWR_STAT_BROWNOUT = false ∧ s.nand.captures.length < s.captureCap ∧ s.dieTurn c.die 3 = true)
    ∧ (∃ (s : State) (n : BitVec 32), s.mbReady 0x0C03 (toLE 4 n.toNat) ∧ s.hasCapture n.toNat = true ∧ ((s.nand.captures ++ s.sto.pendingCaps).any (fun c => c.number == n.toNat && c.pinned)) = false ∧ ((s.nand.captures ++ s.sto.pendingCaps).filter (·.pinned)).length < s.pinMax)
    ∧ (∃ (s : State) (n : BitVec 32), s.mbReady 0x0C03 (toLE 4 n.toNat) ∧ s.hasCapture n.toNat = false)
    ∧ (∃ (s : State) (n : BitVec 32), s.mbReady 0x0C03 (toLE 4 n.toNat) ∧ s.hasCapture n.toNat = true ∧ ((s.nand.captures ++ s.sto.pendingCaps).any (fun c => c.number == n.toNat && c.pinned)) = false ∧ s.pinMax ≤ ((s.nand.captures ++ s.sto.pendingCaps).filter (·.pinned)).length)
    ∧ (∃ (s : State) (n : BitVec 32), s.mbReady 0x0C04 (toLE 4 n.toNat) ∧ s.hasCapture n.toNat = true)
    ∧ (∃ (s : State) (n : Nat) (b : Bool), (∀ c ∈ (s.setPin n b).nand.captures, c.number = n)) :=
  ⟨⟨{ up with sto := { Storage.reset with pendingCaps := [cap] } }, cap, [], by decide⟩,
    ⟨{ up with nand := { Nand.reset with captures := [cap] } }, 7, by decide⟩,
    ⟨up, 0, by decide⟩,
    ⟨{ streams with nand := { Nand.reset with captures := [cap, { cap with number := 8, pinned := true }] } }, 7, by decide⟩,
    ⟨{ up with nand := { Nand.reset with captures := [cap] } }, 7, by decide⟩,
    ⟨{ up with nand := { Nand.reset with captures := [cap] } }, 7, true, by decide⟩⟩

/-- Each clause of HostStreamsAppendAndTrim has a state and operands that meet its hypotheses together. -/
theorem witness_HostStreamsAppendAndTrim :
    (∃ (s : State) (k : BitVec 8) (data : Bytes) (env : Env) (q : Nat) (m : Nat) (tr : Bool), s.mbReady 0x0C01 (toLE 1 k.toNat ++ data) ∧ 1 ≤ data.length ∧ data.length ≤ 4080 ∧ s.streamDef k.toNat = some (q, m, tr) ∧ s.nandUp = true ∧ s.heldNow = false ∧ (s.stream k.toNat).records.length < s.streamCap q ∧ s.takes (.append k.toNat data true) = true ∧ env.storeOk = true ∧ k.toNat < s.nand.streams.length)
    ∧ (∃ (s : State) (k : BitVec 8) (data : Bytes) (env : Env) (q : Nat) (m : Nat) (tr : Bool), s.mbReady 0x0C01 (toLE 1 k.toNat ++ data) ∧ 1 ≤ data.length ∧ data.length ≤ 4080 ∧ s.streamDef k.toNat = some (q, m, tr) ∧ s.nandUp = true ∧ s.heldNow = false ∧ (s.stream k.toNat).records.length < s.streamCap q ∧ s.takes (.append k.toNat data env.storeOk) = false)
    ∧ (∃ (s : State) (k : BitVec 8) (data : Bytes) (q : Nat) (tr : Bool), s.mbReady 0x0C01 (toLE 1 k.toNat ++ data) ∧ 1 ≤ data.length ∧ data.length ≤ 4080 ∧ s.streamDef k.toNat = some (q, 1, tr) ∧ s.nandUp = true ∧ s.heldNow = false ∧ s.streamCap q ≤ (s.stream k.toNat).records.length)
    ∧ (∃ (s : State) (k : BitVec 8) (r : BitVec 64) (q : Nat) (m : Nat), s.mbReady 0x0C02 (toLE 1 k.toNat ++ toLE 8 r.toNat) ∧ s.streamDef k.toNat = some (q, m, true) ∧ r.toNat ≤ (s.stream k.toNat).next)
    ∧ (∃ (s : State) (k : BitVec 8) (r : BitVec 64) (q : Nat) (m : Nat), s.mbReady 0x0C02 (toLE 1 k.toNat ++ toLE 8 r.toNat) ∧ s.streamDef k.toNat = some (q, m, false)) :=
  ⟨⟨streams, 0, [1], env, 1, 0, true, by decide⟩,
    ⟨{ streams with sto := { Storage.reset with hostUntil := streams.mt + 1 } }, 0, [1], env, 1, 0, true, by decide⟩,
    ⟨streams, 1, [1], 0, false, by decide⟩,
    ⟨streams, 0, 0, 1, 0, by decide⟩,
    ⟨streams, 1, 0, 0, 1, by decide⟩⟩

/-- Each clause of StorageWindowAndCaptures (its part 1) has a state and operands that meet its hypotheses together. -/
theorem witness_StorageWindowAndCaptures_1 :
    (∃ (s : State), s.sto.window.loading = false ∧ s.sto.queue = [])
    ∧ (∃ (s : State), s.sto.window.loading = false)
    ∧ (∃ (s : State), s.sto.window.loading = true)
    ∧ (∃ (s : State), s.sto.window.loading = true ∧ s.sto.queue.contains .load = false ∧ s.sto.window.bytes.length ≤ 131072 ∧ s.sto.window.reason < 2 ^ 16)
    ∧ (∃ (s : State), s.sto.queue.contains .load = true)
    ∧ (∃ (s : State) (n : Nat), s.nandUp = true ∧ s.sys.sv < s.nand.sealS ∧ n ≠ 1)
    ∧ (∃ (s : State), s.nand.sealS ≤ s.sys.sv ∧ s.vault.nextSeq ≤ s.reg R.STO_WIN_POS_LO + s.reg R.STO_WIN_POS_HI * 2 ^ 32)
    ∧ (∃ (s : State) (r : StoReq) (d : Nat) (k : Nat), s.takes r = true ∧ d ∈ s.reqDies r ∧ k < s.reqClassSto r ∧ s.waits d k = true)
    ∧ (∃ (s : State) (d : Nat) (c : Nat) (k : Nat), k < c ∧ c < 6 ∧ s.waits d c = true ∧ d < s.nand.dies.length) :=
  ⟨⟨up, by decide⟩,
    ⟨up, by decide⟩,
    ⟨{ up with sto := { Storage.reset with window := ⟨true, 0, []⟩ } }, by decide⟩,
    ⟨{ up with sto := { Storage.reset with window := ⟨true, 0xFFFF, []⟩ } }, by decide⟩,
    ⟨{ up with sto := { Storage.reset with queue := [.load] } }, by decide⟩,
    ⟨{ up with nand := { Nand.reset with sealS := 255 } }, 0, by decide⟩,
    ⟨{ up with vault := { up.vault with nextSeq := 0 } }, by decide⟩,
    ⟨{ up with nand := { Nand.reset with dies := [{ aDie with runs := [0, 0, 0, 0, 32, 0] }, { aDie with runs := [0, 0, 0, 0, 32, 0] }] }, vault := drainWaits.vault }, .load, 0, 2, by decide⟩,
    ⟨{ up with sto := { Storage.reset with queue := [.load] } }, 0, 4, 2, by decide⟩⟩

/-- Each clause of PowerFailAndScrub (its part 2) has a state and operands that meet its hypotheses together. -/
theorem witness_PowerFailAndScrub_2 :
    (∃ (s : State) (aged : Nat), s.nandWrites = true ∧ s.sto.queue = [] ∧ s.takes (.slice [] aged true) = true ∧ s.sto.scrubPos.isSome = true)
    ∧ (∃ (s : State) (p : Nat), s.nandWrites = true ∧ s.sto.queue = [] ∧ s.takes (.slice [.lost p] 0 true) = true ∧ s.sto.scrubPos.isSome = true)
    ∧ (∃ (s : State), s.nandWrites = false)
    ∧ (∃ (s : State) (pages : List PageFact) (aged : Nat) (ends : Bool), s.nandWrites = true ∧ s.sto.queue = [] ∧ s.takes (.slice pages aged ends) = false)
    ∧ (∃ (s : State) (d : Fin 2), d.val < s.nand.dies.length)
    ∧ (∃ (s : State), s.sto.mtRes ≤ s.mt + 8388608 ∧ 6 ≤ s.phase ∧ s.vaultUp = true ∧ s.pwr.standby = false)
    ∧ (∃ (s : State), s.sto.mtRes ≤ s.mt + 8388608 ∧ 6 ≤ s.phase ∧ s.vaultUp = true ∧ s.pwr.standby = true)
    ∧ (∃ (s : State), s.sto.mtRes ≤ s.mt + 8388608 ∧ 6 ≤ s.phase ∧ s.pwr.standby = false)
    ∧ (∃ (s : State) (r : Nat), s.sto.resvRetry = some r ∧ r ≤ s.mt ∧ s.vaultUp = true ∧ s.pwr.standby = false) :=
  ⟨⟨{ up with sto := { Storage.reset with scrubPos := some 0 } }, 0, by decide⟩,
    ⟨{ up with sto := { Storage.reset with scrubPos := some 0 } }, 0, by decide⟩,
    ⟨{ up with vault := { up.vault with ctrlFailed := true } }, by decide⟩,
    ⟨{ up with vault := { up.vault with staging := ⟨[staged], none, []⟩, nextSeq := 32 } }, [], 0, true, by decide⟩,
    ⟨up, 0, by decide⟩,
    ⟨up, by decide⟩,
    ⟨{ up with pwr := { up.pwr with standby := true } }, by decide⟩,
    ⟨up, by decide⟩,
    ⟨{ up with sto := { Storage.reset with resvRetry := some up.mt } }, up.mt, by decide⟩⟩

/-- Each clause of PowerFailAndScrub (its part 1) has a state and operands that meet its hypotheses together. -/
theorem witness_PowerFailAndScrub_1 :
    (∃ (s : State), s.pilot.vbatUp = true)
    ∧ (∃ (s : State), s.pilot.vbatUp = true)
    ∧ (∃ (s : State), s.pilot.vbatUp = false) :=
  ⟨⟨up, by decide⟩,
    ⟨up, by decide⟩,
    ⟨State.reset, by decide⟩⟩

/-- Each clause of LearningOpensCommitsAndEnds has a state and operands that meet its hypotheses together. -/
theorem witness_LearningOpensCommitsAndEnds :
    (∃ (s : State) (n : BitVec 8) (auth : Bytes), s.mbReady 0x0801 (toLE 1 n.toNat ++ auth) ∧ (s.begun 0x0801 (toLE 1 n.toNat ++ auth)).inService = true ∧ auth.length = (s.begun 0x0801 (toLE 1 n.toNat ++ auth)).authLen ∧ (s.begun 0x0801 (toLE 1 n.toNat ++ auth)).tok.learn = none ∧ ((s.begun 0x0801 (toLE 1 n.toNat ++ auth)).checkAuth 0 (toLE 1 n.toNat) auth).2 = 0 ∧ 1 ≤ n.toNat ∧ n.toNat ≤ 64 ∧ (((s.begun 0x0801 (toLE 1 n.toNat ++ auth)).checkAuth 0 (toLE 1 n.toNat) auth).1).vault.ksn ≠ 0xFFFF ∧ (((s.begun 0x0801 (toLE 1 n.toNat ++ auth)).checkAuth 0 (toLE 1 n.toNat) auth).1).prepReason = 0)
    ∧ (∃ (s : State) (n : BitVec 8) (auth : Bytes), s.mbReady 0x0801 (toLE 1 n.toNat ++ auth) ∧ (s.begun 0x0801 (toLE 1 n.toNat ++ auth)).inService = true ∧ auth.length = (s.begun 0x0801 (toLE 1 n.toNat ++ auth)).authLen ∧ (s.begun 0x0801 (toLE 1 n.toNat ++ auth)).tok.learn.isSome = true)
    ∧ (∃ (s : State) (env : Env) (l : Learn), s.mbReady 0x0803 [] ∧ ((s.begun 0x0803 []).touchLearn).tok.learn = some l ∧ l.tokens ≠ [] ∧ ((s.begun 0x0803 []).touchLearn).tok.requests = [] ∧ ((s.begun 0x0803 []).touchLearn).rng.sessions = [] ∧ ({ ((s.begun 0x0803 []).touchLearn) with keys := { ((s.begun 0x0803 []).touchLearn).keys with prep := .none }, tok := { ((s.begun 0x0803 []).touchLearn).tok with commitWait := none } }.commitGen (((s.begun 0x0803 []).touchLearn).ring.filter (fun (r : KeyRec) => r.kind != 2) ++ learnedKeys ((s.begun 0x0803 []).touchLearn).nextGen 0 l.tokens) env.commitOk).2 = 0)
    ∧ (∃ (s : State) (l : Learn), s.mbReady 0x0803 [] ∧ ((s.begun 0x0803 []).touchLearn).tok.learn = some l ∧ l.tokens ≠ [] ∧ (((s.begun 0x0803 []).touchLearn).tok.requests ≠ [] ∨ ((s.begun 0x0803 []).touchLearn).rng.sessions ≠ []))
    ∧ (∃ (s : State) (l : Learn), s.mbReady 0x0803 [] ∧ ((s.begun 0x0803 []).touchLearn).tok.learn = some l ∧ l.tokens = [])
    ∧ (∃ (s : State), s.mbReady 0x0804 [] ∧ s.tok.learn.isSome = true)
    ∧ (∃ (s : State), s.mbReady 0x0804 [] ∧ s.tok.learn = none)
    ∧ (∃ (s : State) (l : Learn), s.tok.learn = some l ∧ l.lastMt + 1800000000 ≤ s.mt)
    ∧ (∃ (s : State) (l : Learn), s.tok.learn = some l ∧ s.mt < l.lastMt + 1800000000)
    ∧ (∃ (s : State), s.tok.learn = none)
    ∧ (∃ (s : State) (n : BitVec 8) (auth : Bytes), s.mbReady 0x0801 (toLE 1 n.toNat ++ auth) ∧ (s.begun 0x0801 (toLE 1 n.toNat ++ auth)).inService = true ∧ auth.length = (s.begun 0x0801 (toLE 1 n.toNat ++ auth)).authLen ∧ (s.begun 0x0801 (toLE 1 n.toNat ++ auth)).tok.learn = none ∧ ((s.begun 0x0801 (toLE 1 n.toNat ++ auth)).checkAuth 0 (toLE 1 n.toNat) auth).2 = 0 ∧ 1 ≤ n.toNat ∧ n.toNat ≤ 64 ∧ (((s.begun 0x0801 (toLE 1 n.toNat ++ auth)).checkAuth 0 (toLE 1 n.toNat) auth).1).vault.ksn = 0xFFFF) :=
  ⟨⟨up, 64, [], by decide⟩,
    ⟨learning lsess, 64, [], by decide⟩,
    ⟨learning ({ lsess with tokens := [⟨5, 1, 1, 0, zeros 32⟩] }), env, { lsess with tokens := [⟨5, 1, 1, 0, zeros 32⟩] }, by decide⟩,
    ⟨{ learning { lsess with tokens := [⟨5, 1, 1, 0, zeros 32⟩] } with tok := { (learning { lsess with tokens := [⟨5, 1, 1, 0, zeros 32⟩] }).tok with requests := [⟨0, 0, 0, false, 0, [], false, none⟩] } }, { lsess with tokens := [⟨5, 1, 1, 0, zeros 32⟩] }, by decide⟩,
    ⟨learning (lsess), lsess, by decide⟩,
    ⟨learning lsess, by decide⟩,
    ⟨up, by decide⟩,
    ⟨learning ({ lsess with lastMt := up.mt - 1800000000 }), { lsess with lastMt := up.mt - 1800000000 }, by decide⟩,
    ⟨learning (lsess), lsess, by decide⟩,
    ⟨up, by decide⟩,
    ⟨{ up with vault := { up.vault with ksn := 0xFFFF } }, 64, [], by decide⟩⟩

/-- Each clause of TokensLearnTheirKeys has a state and operands that meet its hypotheses together. -/
theorem witness_TokensLearnTheirKeys :
    (∃ (s : State) (record : Bytes), s.mbReady 0x0802 record ∧ s.tok.learn = none)
    ∧ (∃ (s : State) (record : Bytes) (l : Learn), s.mbReady 0x0802 record ∧ (s.begun 0x0802 record).tok.learn = some l)
    ∧ (∃ (s : State) (l : Learn) (x : LearnStep) (arsp : Bytes), s.tok.learn = some l ∧ l.current = some x ∧ x.loaded = false ∧ arsp.length = 18 ∧ u8 arsp 0 = 0x34 ∧ be arsp 2 4 = x.tid ∧ allZero (slice arsp 10 8) = true ∧ s.get F.SYM_ENT_FAILED = 0)
    ∧ (∃ (s : State) (l : Learn) (x : LearnStep) (arsp : Bytes), s.tok.learn = some l ∧ l.current = some x ∧ x.loaded = false ∧ arsp.length = 18 ∧ u8 arsp 0 = 0x34 ∧ be arsp 2 4 = x.tid ∧ allZero (slice arsp 10 8) = true ∧ s.get F.SYM_ENT_FAILED = 1)
    ∧ (∃ (s : State) (frame : Bytes) (arsp : Bytes) (b : Bytes) (exchanges : List CalExchange) (l : Learn) (x : LearnStep) (t : State) (turn : Nat), s.tok.learn = some l ∧ l.current = some x ∧ x.loaded = true ∧ (if x.cls = 2 then some frame else crcGood frame) = some b ∧ b.length = 13 ∧ u8 b 0 = 0x32 ∧ be b 1 4 = x.tid ∧ slice b 5 8 = s.learnMac x 0x11 [] 8 ∧ s.mt ≤ x.sentMt + 500000 ∧ s.learnTurn x arsp exchanges = (t, .ok turn) ∧ t.vaultUp = true)
    ∧ (∃ (s : State) (x : LearnStep), s.typeRanges x.typeId = false)
    ∧ (∃ (s : State) (x : LearnStep) (arsp : Bytes) (exchanges : List CalExchange) (turn : Nat) (t : State), s.learnTurn x arsp exchanges = (t, .ok turn))
    ∧ (∃ (s : State) (frame : Bytes) (l : Learn) (x : LearnStep), s.tok.learn = some l ∧ l.current = some x ∧ x.loaded = true ∧ x.cls ≠ 2 ∧ crcGood frame = none)
    ∧ (∃ (s : State) (l : Learn) (x : LearnStep), s.tok.learn = some l ∧ l.current = some x ∧ x.loaded = true ∧ x.sentMt + 500000 ≤ s.mt) :=
  ⟨⟨up, zeros 56, by decide⟩,
    ⟨learning (lsess), zeros 56, lsess, by decide⟩,
    ⟨learning ({ lsess with current := some { lstep with loaded := false } }), { lsess with current := some { lstep with loaded := false } }, { lstep with loaded := false }, toBE 1 0x34 ++ zeros 1 ++ toBE 4 77 ++ zeros 12, by decide⟩,
    ⟨fx (learning { lsess with current := some { lstep with loaded := false } }) [(F.SYM_ENT_FAILED, 1)], { lsess with current := some { lstep with loaded := false } }, { lstep with loaded := false }, toBE 1 0x34 ++ zeros 1 ++ toBE 4 77 ++ zeros 12, by decide⟩,
    ⟨learning (lsess), withCrc ack, [], ack, [], lsess, lstep, learning lsess, 0, by decide, by decide, by decide, (if_neg (by decide)).trans (crcGood_withCrc _), ack_length, ack_head.1, ack_head.2, ack_fits, by decide, rfl, by decide⟩,
    ⟨up, lstep, by decide⟩,
    ⟨up, lstep, [], [], 0, _, rfl⟩,
    ⟨learning (lsess), [], lsess, lstep, by decide⟩,
    ⟨learning ({ lsess with current := some { lstep with sentMt := up.mt - 500000 } }), { lsess with current := some { lstep with sentMt := up.mt - 500000 } }, { lstep with sentMt := up.mt - 500000 }, by decide⟩⟩

/-- Each clause of HostTimeSnapshotsAndNetworkTime (its part 1) has a state and operands that meet its hypotheses together. -/
theorem witness_HostTimeSnapshotsAndNetworkTime_1 :
    (∃ (s : State), s.ntMode ≠ 1 ∧ s.reg R.TIM_NT_SET_NS < 10 ^ 9)
    ∧ (∃ (s : State), s.ntMode ≠ 1)
    ∧ (∃ (s : State), s.ntMode ≠ 1)
    ∧ (∃ (s : State) (i : BitVec 8), s.ntMode ≠ 1 ∧ 24 * 2 ^ 32 ≤ i.toNat * 2 ^ 32 + s.reg R.TIM_NT_INC_FRAC ∧ i.toNat * 2 ^ 32 + s.reg R.TIM_NT_INC_FRAC ≤ 26 * 2 ^ 32)
    ∧ (∃ (s : State) (i : BitVec 8), s.ntMode ≠ 1 ∧ (i.toNat * 2 ^ 32 + s.reg R.TIM_NT_INC_FRAC < 24 * 2 ^ 32 ∨ 26 * 2 ^ 32 < i.toNat * 2 ^ 32 + s.reg R.TIM_NT_INC_FRAC))
    ∧ (∃ (s : State), s.ntMode ≠ 1 ∧ 10 ^ 9 ≤ s.reg R.TIM_NT_SET_NS)
    ∧ (∃ (s : State), s.ntMode = 1) :=
  ⟨⟨up, by decide⟩,
    ⟨up, by decide⟩,
    ⟨up, by decide⟩,
    ⟨up, 25, by decide⟩,
    ⟨up, 0, by decide⟩,
    ⟨up.setReg R.TIM_NT_SET_NS 1000000000, by decide⟩,
    ⟨timed 1 Tim.reset, by decide⟩⟩

/-- Each clause of NetworkTimeFollowsAndFallsBack (its part 1) has a state and operands that meet its hypotheses together. -/
theorem witness_NetworkTimeFollowsAndFallsBack_1 :
    (∃ (s : State), s.get F.TIM_STAT_NT_STATE = 3 ∧ s.tim.holdSince + s.holdUs ≤ s.mt + s.tim.holdSpent)
    ∧ (∃ (s : State), s.get F.TIM_STAT_NT_STATE = 3 ∧ s.mt + s.tim.holdSpent < s.tim.holdSince + s.holdUs)
    ∧ (∃ (s : State), s.ntMode = 1 ∧ s.get F.TIM_STAT_NT_STATE = 2 ∧ s.tim.lastSync + s.syncUs ≤ s.mt) :=
  ⟨⟨fx up [(F.TIM_STAT_NT_STATE, 3)], by decide⟩,
    ⟨fx { up with tim := { Tim.reset with holdSince := 1000000000000 } } [(F.TIM_STAT_NT_STATE, 3)], by decide⟩,
    ⟨fx (timed 1 Tim.reset) [(F.TIM_STAT_NT_STATE, 2)], by decide⟩⟩

/-- Each clause of NetworkTimeFollowsAndFallsBack (its part 2) has a state and operands that meet its hypotheses together. -/
theorem witness_NetworkTimeFollowsAndFallsBack_2 :
    (∃ (s : State) (m : Nat) (v : Nat), s.gptpRuns = true ∧ (s.tim.master = none ∨ v < s.tim.masterVec ∨ s.tim.master = some m))
    ∧ (∃ (s : State) (m : Nat) (v : Nat), s.gptpRuns = true ∧ s.tim.master.isSome = true ∧ s.tim.masterVec ≤ v ∧ s.tim.master ≠ some m)
    ∧ (∃ (s : State) (m : Nat) (c : Int), s.gptpRuns = true ∧ s.tim.master = some m)
    ∧ (∃ (s : State) (st : Nat) (og : Nat) (m : Nat) (c : Int), s.gptpRuns = true ∧ s.tim.master = some m ∧ s.secLE 0x0C 0x0C 4 1000 < ((st : Int) - ((og : Int) + c + s.tim.delay) : Int).natAbs)
    ∧ (∃ (s : State) (st : Nat) (og : Nat) (m : Nat) (c : Int), s.gptpRuns = true ∧ s.tim.master = some m ∧ ((st : Int) - ((og : Int) + c + s.tim.delay) : Int).natAbs ≤ s.secLE 0x0C 0x0C 4 1000)
    ∧ (∃ (s : State), s.gptpRuns = true)
    ∧ (∃ (s : State), s.gptpRuns = true ∧ s.tim.pdelayMt + s.pdelayUs ≤ s.mt)
    ∧ (∃ (s : State) (m : Nat) (d : Nat), s.gptpRuns = true ∧ s.tim.master = some m ∧ d ≤ s.secLE 0x0C 4 4 100000 ∧ d < 2 ^ 32)
    ∧ (∃ (s : State) (m : Nat) (d : Nat), s.gptpRuns = true ∧ s.tim.master = some m ∧ s.secLE 0x0C 4 4 100000 < d ∧ s.get F.TIM_STAT_NT_STATE ≠ 2) :=
  ⟨⟨linked { Tim.reset with master := some 1 }, 1, 0, by decide⟩,
    ⟨linked { Tim.reset with master := some 1 }, 2, 0, by decide⟩,
    ⟨linked { Tim.reset with master := some 1 }, 1, 0, by decide⟩,
    ⟨linked { Tim.reset with master := some 1 }, 2000, 0, 1, 0, by decide⟩,
    ⟨linked { Tim.reset with master := some 1 }, 0, 0, 1, 0, by decide⟩,
    ⟨linked { Tim.reset with master := some 1 }, by decide⟩,
    ⟨linked Tim.reset, by decide⟩,
    ⟨linked { Tim.reset with master := some 1 }, 1, 0, by decide⟩,
    ⟨linked { Tim.reset with master := some 1 }, 1, 801, by decide⟩⟩

/-- Each clause of PulsesAndTransmitStamps (its part 1) has a state and operands that meet its hypotheses together. -/
theorem witness_PulsesAndTransmitStamps_1 :
    (∃ (s : State) (u : Fin 4), s.enabled .tim = true ∧ s.get (F.TIM_PULSEn_CTL_EN u.val) = 0 ∧ s.tim.pulses.length = 4 ∧ s.get (F.TIM_PULSEn_CTL_BASE u.val) = 1 ∧ 1 ≤ s.reg (R.TIM_PULSEn_WIDTH u.val) ∧ s.reg (R.TIM_PULSEn_WIDTH u.val) < s.reg (R.TIM_PULSEn_PERIOD u.val))
    ∧ (∃ (s : State) (u : Fin 4), s.enabled .tim = true ∧ s.get (F.TIM_PULSEn_CTL_EN u.val) = 0 ∧ s.tim.pulses.length = 4 ∧ s.get (F.TIM_PULSEn_CTL_BASE u.val) = 1 ∧ 1 ≤ s.reg (R.TIM_PULSEn_WIDTH u.val) ∧ s.reg (R.TIM_PULSEn_WIDTH u.val) < s.reg (R.TIM_PULSEn_PERIOD u.val) ∧ 1 ≤ ((s.reg (R.TIM_PULSEn_START u.val) + 2 ^ 32 - s.mt % 2 ^ 32) % 2 ^ 32) ∧ ((s.reg (R.TIM_PULSEn_START u.val) + 2 ^ 32 - s.mt % 2 ^ 32) % 2 ^ 32) < 2 ^ 31)
    ∧ (∃ (s : State) (u : Fin 4), s.enabled .tim = true ∧ s.get (F.TIM_PULSEn_CTL_EN u.val) = 0 ∧ s.tim.pulses.length = 4 ∧ s.get (F.TIM_PULSEn_CTL_BASE u.val) = 1 ∧ 1 ≤ s.reg (R.TIM_PULSEn_WIDTH u.val) ∧ s.reg (R.TIM_PULSEn_WIDTH u.val) < s.reg (R.TIM_PULSEn_PERIOD u.val) ∧ (((s.reg (R.TIM_PULSEn_START u.val) + 2 ^ 32 - s.mt % 2 ^ 32) % 2 ^ 32) = 0 ∨ 2 ^ 31 ≤ ((s.reg (R.TIM_PULSEn_START u.val) + 2 ^ 32 - s.mt % 2 ^ 32) % 2 ^ 32)))
    ∧ (∃ (s : State) (u : Fin 4), s.enabled .tim = true ∧ s.get (F.TIM_PULSEn_CTL_EN u.val) = 0 ∧ s.islandFailed 13 = false ∧ (s.reg (R.TIM_PULSEn_PERIOD u.val) ≤ s.reg (R.TIM_PULSEn_WIDTH u.val) ∨ s.reg (R.TIM_PULSEn_WIDTH u.val) = 0))
    ∧ (∃ (s : State) (u : Fin 4), s.get (F.TIM_PULSEn_CTL_EN u.val) = 1 ∧ s.tim.pulses.length = 4 ∧ (s.pulse u.val).high = none ∧ s.reached u.val (s.pulse u.val).next = true)
    ∧ (∃ (s : State) (u : Fin 4) (f : Nat), s.get (F.TIM_PULSEn_CTL_EN u.val) = 1 ∧ s.tim.pulses.length = 4 ∧ (s.pulse u.val).high = some f ∧ s.reached u.val f = true ∧ s.get (F.TIM_PULSEn_CTL_MODE u.val) = 1)
    ∧ (∃ (s : State) (u : Fin 4) (f : Nat), s.get (F.TIM_PULSEn_CTL_EN u.val) = 1 ∧ (s.pulse u.val).high = some f ∧ s.reached u.val f = true ∧ s.get (F.TIM_PULSEn_CTL_MODE u.val) = 0) :=
  ⟨⟨((fx up [(F.TIM_PULSEn_CTL_BASE 0, 1)]).setReg (R.TIM_PULSEn_WIDTH 0) 1).setReg (R.TIM_PULSEn_PERIOD 0) 2, 0, by decide⟩,
    ⟨((fx up [(F.TIM_PULSEn_CTL_BASE 0, 1)]).setReg (R.TIM_PULSEn_WIDTH 0) 1).setReg (R.TIM_PULSEn_PERIOD 0) 2, 0, by decide⟩,
    ⟨(((fx up [(F.TIM_PULSEn_CTL_BASE 0, 1)]).setReg (R.TIM_PULSEn_WIDTH 0) 1).setReg (R.TIM_PULSEn_PERIOD 0) 2).setReg (R.TIM_PULSEn_START 0) (1000000000000 % 2 ^ 32), 0, by decide⟩,
    ⟨up, 0, by decide⟩,
    ⟨pulsing 0 ⟨0, 0, none, false, false⟩, 0, by decide⟩,
    ⟨pulsing 1 ⟨0, 0, some 0, true, false⟩, 0, 0, by decide⟩,
    ⟨pulsing 0 ⟨0, 0, some 0, true, false⟩, 0, 0, by decide⟩⟩

/-- Each clause of PulsesAndTransmitStamps (its part 2) has a state and operands that meet its hypotheses together. -/
theorem witness_PulsesAndTransmitStamps_2 :
    (∃ (s : State) (p : Fin 3) (f : TxFrame) (rest : List TxFrame) (g : Nat), s.hif.txq = f :: rest ∧ f.port = framePort p.val ∧ f.tag = some g ∧ s.tim.queues.length = 3 ∧ (s.stampQueue p.val).length < 16 ∧ s.stampsOn p.val = true)
    ∧ (∃ (s : State) (p : Fin 3) (f : TxFrame) (rest : List TxFrame), s.hif.txq = f :: rest ∧ f.port = framePort p.val ∧ f.tag = none)
    ∧ (∃ (s : State) (p : Nat), 16 ≤ (s.stampQueue p).length ∧ p < 3)
    ∧ (∃ (s : State), s.tim.queues.length = 3) :=
  ⟨⟨{ up with hif := { Hif.reset with txq := [⟨framePort 0, 0, 0, 0, [], some 1⟩] } }, 0, ⟨framePort 0, 0, 0, 0, [], some 1⟩, [], 1, by decide⟩,
    ⟨{ up with hif := { Hif.reset with txq := [⟨framePort 0, 0, 0, 0, [], none⟩] } }, 0, ⟨framePort 0, 0, 0, 0, [], none⟩, [], by decide⟩,
    ⟨{ up with tim := { Tim.reset with queues := List.replicate 3 (List.replicate 16 ⟨0, 0, 0, 0⟩) } }, 0, by decide⟩,
    ⟨up, by decide⟩⟩

/-- Each clause of VotesHoldIslandsAndLevels (its part 1) has a state and operands that meet its hypotheses together. -/
theorem witness_VotesHoldIslandsAndLevels_1 :
    (∃ (s : State) (c : Fin 9) (i : Fin 15), s.mayHold c.val i.val = true ∧ s.pwr.standby = false ∧ s.pwr.entry = none ∧ s.pwr.doze = [] ∧ s.islandFailed i.val = false ∧ (s.island i.val = 0 ∨ s.island i.val = 1) ∧ s.noReturn i.val = false ∧ (s.pwr.restoring.any (fun r => r.1 == i.val) = false) ∧ i.val ≠ 1 ∧ i.val ≠ 2)
    ∧ (∃ (s : State) (c : Fin 9) (i : Fin 15), s.mayHold c.val i.val = true ∧ s.pwr.standby = false ∧ s.pwr.entry = none ∧ s.pwr.doze = [] ∧ (s.noReturn i.val = true ∨ s.island i.val = 2) ∧ i.val ≠ 1 ∧ i.val ≠ 2)
    ∧ (∃ (s : State) (c : Fin 9) (i : Fin 15), s.mayHold c.val i.val = false)
    ∧ (∃ (s : State) (c : Fin 9) (i : Fin 15), c.val ≠ 3 ∧ s.pwr.doze = [] ∧ s.votes i.val = 2 ^ c.val ∧ s.islandFailed i.val = false ∧ i.val ≠ 0 ∧ i.val ≠ 7 ∧ s.island i.val ≠ 0 ∧ s.dropMt i.val = none ∧ s.held i.val = false ∧ s.get F.PWR_STBY_LAST_REASON = 0)
    ∧ (∃ (s : State) (c : Fin 9) (i : Fin 15), c.val ≠ 3 ∧ s.pwr.doze = [] ∧ s.votes i.val = 2 ^ c.val ∧ i.val ≠ 7 ∧ s.held i.val = true ∧ s.get F.PWR_STBY_LAST_REASON = 0)
    ∧ (∃ (s : State) (i : Fin 15), s.votes i.val = 0 ∧ s.held i.val = false ∧ s.islandFailed i.val = false ∧ i.val ≠ 7 ∧ i.val ≠ 1 + s.activePair)
    ∧ (∃ (s : State) (i : Fin 15) (ppm : BitVec 16), (s.pwr.restoring.any (fun r => r.1 == i.val) = true) ∧ i.val ≠ 0 ∧ i.val ≠ 7 ∧ i.val ≠ 13 ∧ (i.val < 3 ∨ 6 < i.val) ∧ (i.val = 9 → s.enabled .rf = false) ∧ i.val ≠ 1 + s.activePair)
    ∧ (∃ (s : State) (i : Fin 15) (ppm : BitVec 16), (s.pwr.restoring.any (fun r => r.1 == i.val) = true) ∧ i.val = 1 + s.activePair)
    ∧ (∃ (s : State) (i : Fin 15) (m : Nat), (s.pwr.restoring.find? (fun r => r.1 == i.val) = some (i.val, m)) ∧ m + 2 * maxRestoreUs i.val (s.island i.val == 1) ≤ s.mt ∧ s.pwr.restarts.contains i.val = false) :=
  ⟨⟨off, 0, 3, by decide⟩,
    ⟨{ off with pwr := { Power.reset with dropping := [(3, up.mt - 10)] } }, 0, 3, by decide⟩,
    ⟨up, 6, 3, by decide⟩,
    ⟨voted up 1 3, 1, 3, by decide⟩,
    ⟨voted { up with pwr := { Power.reset with transfers := [(3, 4)] } } 1 3, 1, 3, by decide⟩,
    ⟨{ up with pwr := { Power.reset with dropping := [(3, 0)] } }, 3, by decide⟩,
    ⟨voted { off with pwr := { Power.reset with restoring := [(8, 0)] } } 1 8, 8, 0, by decide⟩,
    ⟨voted { off with pwr := { Power.reset with restoring := [(1, 0)], xtalRun := true } } 1 1, 1, 7, by decide⟩,
    ⟨{ off with pwr := { Power.reset with restoring := [(3, 0)] } }, 3, 0, by decide⟩⟩

/-- Each clause of StandbyIsEnteredOrAbandoned has a state and operands that meet its hypotheses together. -/
theorem witness_StandbyIsEnteredOrAbandoned :
    (∃ (s : State), s.phase = 0xA ∧ s.pwr.standby = false ∧ s.pwr.entry = none ∧ s.atWork = false ∧ s.updBusy = false ∧ s.pwr.idleSince + 1000 * s.setting 0x0301 1000 ≤ s.mt ∧ s.pwr.askAgain ≤ s.mt ∧ (∀ i, s.held i = false) ∧ (∀ i, i < 15 → s.votes i < 8))
    ∧ (∃ (s : State) (e : StbyEntry) (i : Nat), s.pwr.entry = some e ∧ s.atWork = false ∧ e.pos < 5 ∧ s.laterIslands[e.pos]? = some i ∧ e.startMt + 10 * (e.pos + 1) ≤ s.mt ∧ s.held i = false ∧ s.votes i < 8)
    ∧ (∃ (s : State) (e : StbyEntry), s.pwr.entry = some e ∧ s.atWork = false ∧ e.pos = 5 ∧ e.startMt + 60 ≤ s.mt ∧ (∀ i, s.held i = false) ∧ (∀ i, i < 15 → i ≠ 1 + s.activePair → s.votes i = 0) ∧ s.votes (1 + s.activePair) < 8)
    ∧ (∃ (s : State) (e : StbyEntry), s.pwr.entry = some e ∧ e.pos = 6 ∧ s.votes (1 + s.activePair) = 0 ∧ s.held (1 + s.activePair) = false)
    ∧ (∃ (s : State) (e : StbyEntry), s.pwr.entry = some e ∧ s.atWork = true)
    ∧ (∃ (s : State), (s.phase ≠ 0xA ∨ s.pwr.standby = true ∨ s.pwr.entry.isSome = true ∨ s.atWork = true ∨ s.updBusy = true ∨ s.mt < s.pwr.askAgain ∨ s.mt < s.pwr.idleSince + 1000 * s.setting 0x0301 1000))
    ∧ (∃ (code : Nat) (i : Nat) (c : Nat), code < 2 ^ 16 ∧ i < 15 ∧ c < 16)
    ∧ (∃ (s : State) (e : StbyEntry) (c : Nat), s.pwr.entry = some e ∧ c ≤ 2)
    ∧ (∃ (s : State) (e : StbyEntry) (c : Nat) (i : Nat), s.pwr.entry = some e ∧ 4 ≤ c ∧ (i ∈ firstIslands ∨ i ∈ s.laterIslands.take e.pos ∨ e.pos = 6))
    ∧ (∃ (s : State) (e : StbyEntry) (i : Nat), s.pwr.entry = some e ∧ e.startMt + 1000 * s.setting 0x0302 10 ≤ s.mt ∧ (firstIslands ++ s.laterIslands ++ [1 + s.activePair]).find? s.held = some i)
    ∧ (∃ (s : State), s.pwr.entry = none) :=
  ⟨⟨up, by decide, by decide, by decide, by decide, by decide, by decide, by decide, free_held _ rfl rfl rfl (by decide) rfl, by decide⟩,
    ⟨{ up with pwr := { Power.reset with entry := some ⟨0, 0⟩ } }, ⟨0, 0⟩, 8, by decide⟩,
    ⟨{ up with pwr := { Power.reset with entry := some ⟨0, 5⟩ } }, ⟨0, 5⟩, by decide, by decide, by decide, by decide, free_held _ rfl rfl rfl (by decide) rfl, by decide, by decide⟩,
    ⟨{ up with pwr := { Power.reset with entry := some ⟨0, 6⟩, dropping := [(1, 0)] } }, ⟨0, 6⟩, by decide⟩,
    ⟨{ { up with pwr := { Power.reset with entry := some ⟨0, 5⟩ } } with hif := { Hif.reset with executing := some (mbCommand 0 []) } }, ⟨0, 5⟩, by decide⟩,
    ⟨State.reset, by decide⟩,
    ⟨0, 0, 0, by decide⟩,
    ⟨{ up with pwr := { Power.reset with entry := some ⟨0, 0⟩ } }, ⟨0, 0⟩, 2, by decide⟩,
    ⟨{ up with pwr := { Power.reset with entry := some ⟨0, 0⟩ } }, ⟨0, 0⟩, 4, 10, by decide⟩,
    ⟨{ up with pwr := { Power.reset with entry := some ⟨0, 0⟩, transfers := [(3, 4)] } }, ⟨0, 0⟩, 3, by decide⟩,
    ⟨up, by decide⟩⟩

/-- Each clause of VotesHoldIslandsAndLevels (its part 2) has a state and operands that meet its hypotheses together. -/
theorem witness_VotesHoldIslandsAndLevels_2 :
    (∃ (s : State) (i : Fin 15) (lo : Nat) (hi : Nat), levelRange i.val = some (lo, hi) ∧ s.islandFailed i.val = false)
    ∧ (∃ (s : State) (i : Fin 15) (lo : Nat) (hi : Nat), levelRange i.val = some (lo, hi) ∧ s.islandFailed i.val = false)
    ∧ (∃ (i : Fin 15), levelRange i.val = none)
    ∧ (∃ (s : State), s.islandFailed 9 = false ∧ s.enabled .rf = true ∧ s.enabled .sys = true)
    ∧ (∃ (s : State) (i : Fin 15), s.islandFailed i.val = true) :=
  ⟨⟨up, 3, 0, 3, by decide⟩,
    ⟨up, 3, 0, 3, by decide⟩,
    ⟨0, by decide⟩,
    ⟨up, by decide⟩,
    ⟨up.setIsland 3 3, 3, by decide⟩⟩

/-- Each clause of GovernorSupplyAndCrystal (its part 1) has a state and operands that meet its hypotheses together. -/
theorem witness_GovernorSupplyAndCrystal_1 :
    (∃ (s : State), s.section? 2 = none)
    ∧ (∃ (s : State) (tj : BitVec 8), (s.section? 2).isSome = true ∧ s.flag F.PWR_STAT_GOV = false ∧ 122 ≤ tj.toInt)
    ∧ (∃ (s : State) (mw : BitVec 16), (s.section? 2).isSome = true ∧ s.flag F.PWR_STAT_GOV = true ∧ 10 * s.secLE 2 4 1 0 < mw.toNat ∧ s.pwr.govNext ≤ s.mt ∧ s.get F.PWR_STAT_GOV_STEP < 3) :=
  ⟨⟨up, by decide⟩,
    ⟨governed [], 122, by decide⟩,
    ⟨governed [(F.PWR_STAT_GOV, 1)], 1000, by decide⟩⟩

/-- Each clause of GovernorSupplyAndCrystal (its part 2) has a state and operands that meet its hypotheses together. -/
theorem witness_GovernorSupplyAndCrystal_2 :
    (∃ (s : State) (mv : BitVec 16), s.pilot.vbatUp = true ∧ mv.toNat < 6000 ∧ s.flag F.PWR_STAT_BROWNOUT = false ∧ 2 ≤ s.phase ∧ s.phase ≤ 9)
    ∧ (∃ (s : State) (mv : BitVec 16), s.pilot.vbatUp = true ∧ mv.toNat < 6000 ∧ s.flag F.PWR_STAT_BROWNOUT = false ∧ s.phase = 0xA ∧ s.islandFailed 9 = false)
    ∧ (∃ (s : State) (mv : BitVec 16), s.pilot.vbatUp = true ∧ 60500 < mv.toNat ∧ s.flag F.PWR_STAT_OVERVOLT = false ∧ s.lf.hold = none)
    ∧ (∃ (s : State) (mv : BitVec 16), s.pilot.vbatUp = true ∧ 6200 ≤ mv.toNat ∧ mv.toNat ≤ 58000 ∧ s.flag F.PWR_STAT_BROWNOUT = false)
    ∧ (∃ (s : State), s.pilot.vbatUp = false) :=
  ⟨⟨ph 3, 0, by decide⟩,
    ⟨up, 0, by decide⟩,
    ⟨up, 60501, by decide⟩,
    ⟨up, 12000, by decide⟩,
    ⟨State.reset, by decide⟩⟩

/-- Each clause of GovernorSupplyAndCrystal (its part 3) has a state and operands that meet its hypotheses together. -/
theorem witness_GovernorSupplyAndCrystal_3 :
    (∃ (s : State), s.pwr.xtalRun = true ∧ s.onRc = false ∧ s.nfc.detection = none ∧ s.enabled .rf = false ∧ s.enabled .rng = false)
    ∧ (∃ (s : State), (s.pwr.xtalRun = false ∨ s.onRc = true))
    ∧ (∃ (s : State), s.onRc = true)
    ∧ (∃ (s : State), s.onRc = true ∧ s.airQuiet = false)
    ∧ (∃ (s : State), s.onRc = true ∧ s.airQuiet = true)
    ∧ (∃ (s : State), s.onRc = true ∧ s.flag F.PWR_XTAL_RETRYING = false ∧ s.pwr.standby = false ∧ s.pwr.retryMt + 1000000 * s.setting 0x0303 10 ≤ s.mt)
    ∧ (∃ (s : State), s.flag F.PWR_XTAL_RETRYING = false ∧ s.pwr.standby = false ∧ s.mt < s.pwr.retryMt + 1000000 * s.setting 0x0303 10)
    ∧ (∃ (s : State), s.pwr.standby = true ∧ s.tim.calMt.getD 0 + 600000000 ≤ s.mt ∧ s.onRc = false) :=
  ⟨⟨fx { up with pwr := { Power.reset with xtalRun := true } } [(⟨R.SYS_EN_MAP, 16, 1⟩, 0x02)], by decide⟩,
    ⟨onRc, by decide⟩,
    ⟨onRc, by decide⟩,
    ⟨{ onRc with lf := { Lf.reset with hold := some (hold .answers) } }, by decide⟩,
    ⟨onRc, by decide⟩,
    ⟨onRc, by decide⟩,
    ⟨{ up with pwr := { Power.reset with retryMt := 1000000000000 } }, by decide⟩,
    ⟨{ up with pwr := { Power.reset with standby := true } }, by decide⟩⟩

/-- Each clause of PairsTakeOverAndRetire has a state and operands that meet its hypotheses together. -/
theorem witness_PairsTakeOverAndRetire :
    (∃ (s : State), s.phase = 0xA ∧ s.activePair = 0 ∧ s.fuses.retireA = false ∧ s.net.promoteWait = false ∧ s.net.heldOut.length < 2 ∧ s.update.state = .idle ∧ s.standbyReady = true ∧ s.islandFailed 7 = false)
    ∧ (∃ (s : State), s.activePair = 0 ∧ s.update.state = .idle ∧ s.tok.learn = none ∧ s.rel.pairing = none ∧ s.keys.prep = .none)
    ∧ (∃ (s : State), s.phase = 0xA ∧ s.activePair = 0 ∧ s.fuses.retireA = false ∧ s.net.promoteWait = false ∧ s.net.heldOut.length < 2 ∧ s.update.state = .idle ∧ s.standbyReady = false ∧ s.net.loading = none ∧ s.net.spareOk = false ∧ s.pilot.vbatUp = true ∧ s.keys.blow = none)
    ∧ (∃ (s : State), s.phase = 0xA ∧ s.activePair = 0 ∧ s.fuses.retireA = false ∧ s.net.promoteWait = false ∧ s.net.heldOut.length < 2 ∧ s.update.state = .idle ∧ s.standbyReady = false ∧ s.net.loading = none ∧ s.net.spareOk = true)
    ∧ (∃ (s : State), s.phase = 0xA ∧ s.activePair = 0 ∧ s.fuses.retireB = false ∧ s.standbyReady = true ∧ s.net.promoteWait = false ∧ s.update.state = .idle ∧ s.islandFailed 2 = false)
    ∧ (∃ (s : State), s.island (1 + s.activePair) ≠ 2)
    ∧ (∃ (s : State), s.island 1 = 2 ∧ s.activePair = 0)
    ∧ (∃ (s : State), s.net.testing = some true ∧ s.net.heldOut.length < 2)
    ∧ (∃ (s : State), s.net.testing = some true ∧ s.net.heldOut.length < 2 ∧ s.pairFaults 1 ≤ 1)
    ∧ (∃ (s : State), s.net.loading = some true ∧ s.net.promoteWait = false ∧ s.update.state = .idle ∧ s.phase = 0xA ∧ s.islandFailed 7 = false ∧ s.standbyPartsOk = true) :=
  ⟨⟨ready, by decide⟩,
    ⟨up, by decide⟩,
    ⟨up, by decide⟩,
    ⟨{ up with net := { Net.reset with spareOk := true } }, by decide⟩,
    ⟨ready, by decide⟩,
    ⟨off, by decide⟩,
    ⟨up, by decide⟩,
    ⟨{ ready with net := { Net.reset with testing := some true } }, by decide⟩,
    ⟨{ ready with net := { Net.reset with testing := some true } }, by decide⟩,
    ⟨{ { ready with net := { Net.reset with loading := some true } } with update := { up.update with slots := [⟨.running, 0, [], []⟩] } }, by decide⟩⟩

/-- Each clause of CardsAreDetectedAndJudged has a state and operands that meet its hypotheses together. -/
theorem witness_CardsAreDetectedAndJudged :
    (∃ (s : State) (f : CardField), s.readerUp = true ∧ s.readerBlocked = 0 ∧ s.tok.commitWait = none)
    ∧ (∃ (s : State) (f : CardField), s.readerUp = true ∧ s.readerBlocked = 0 ∧ s.tok.commitWait.isSome = true)
    ∧ (∃ (s : State) (f : CardField), s.readerUp = true ∧ s.onRc = false ∧ s.extField = true)
    ∧ (∃ (s : State) (f : CardField), s.readerUp = true ∧ s.onRc = true)
    ∧ (∃ (s : State) (detuning : Nat) (f : CardField), s.readerUp = true ∧ s.tag.works = true ∧ s.readerBlocked = 0 ∧ s.tok.commitWait = none ∧ (s.pwr.standby = false ∨ Nat.testBit (u8 s.nfcSec 8) 2 = true) ∧ s.senseDue = true ∧ u8 s.nfcSec 6 * 64 + s.nfc.baseline < detuning * 64 ∧ s.nfc.armed = true)
    ∧ (∃ (s : State) (detuning : Nat) (f : CardField), s.readerUp = true ∧ s.tag.works = true ∧ s.onRc = false ∧ (s.pwr.standby = false ∨ Nat.testBit (u8 s.nfcSec 8) 2 = true) ∧ s.senseDue = true ∧ detuning * 64 < u8 s.nfcSec 6 * 64 + s.nfc.baseline ∧ s.nfc.baseline ≤ detuning * 64 ∧ s.nfc.below = none)
    ∧ (∃ (s : State) (f : CardField), s.readerUp = true ∧ s.tag.works = true ∧ s.onRc = false ∧ s.pwr.standby = false ∧ s.senseDue = true)
    ∧ (∃ (s : State) (detuning : Option Nat) (f : CardField), s.senseDue = false)
    ∧ (∃ (s : State) (t : Nat), s.nfc.detection = none ∧ s.nfc.below = some t ∧ t + 1000 * s.setting 0x0D02 200 ≤ s.mt)
    ∧ (∃ (s : State), s.nfc.below = none)
    ∧ (∃ (s : State) (d : Detection) (frame : Bytes) (level : BitVec 8), s.nfc.detection = some d ∧ d.cards ≠ [] ∧ d.learn = false ∧ frame.length = 18 ∧ u8 frame 0 = 0x34)
    ∧ (∃ (s : State) (d : Detection) (frame : Bytes) (level : BitVec 8) (l : Learn) (x : LearnStep), s.nfc.detection = some d ∧ d.cards ≠ [] ∧ d.learn = true ∧ s.tok.learn = some l ∧ l.current = some x ∧ x.loaded = false ∧ frame.length = 18 ∧ u8 frame 0 = 0x34 ∧ be frame 2 4 = x.tid ∧ allZero (slice frame 10 8) = true ∧ level.toNat < u8 s.nfcSec 9)
    ∧ (∃ (s : State) (d : Detection) (c : Card) (cs : List Card), s.nfc.detection = some d ∧ d.cards = c :: cs ∧ d.learn = false ∧ d.startMt + 500000 ≤ s.mt)
    ∧ (∃ (s : State) (d : Detection) (c : Card) (cs : List Card), s.nfc.detection = some d ∧ d.cards = c :: cs ∧ d.learn = false) :=
  ⟨⟨nfcState Tag.reset, ⟨[], []⟩, by decide⟩,
    ⟨{ up with tok := { Tok.reset with commitWait := some 0 } }, ⟨[], []⟩, by decide⟩,
    ⟨nfcState { Tag.reset with field := true }, ⟨[], []⟩, by decide⟩,
    ⟨fx up [(F.PWR_STAT_REF_RC, 1)], ⟨[], []⟩, by decide⟩,
    ⟨sense { Nfc.reset with armed := true, sensePt := up.pilot.pt - 20000 }, 11, ⟨[], []⟩, by decide⟩,
    ⟨sense { Nfc.reset with sensePt := up.pilot.pt - 16384 }, 0, ⟨[], []⟩, by decide⟩,
    ⟨sense { Nfc.reset with sensePt := up.pilot.pt - 16384 }, ⟨[], []⟩, by decide⟩,
    ⟨sense { Nfc.reset with sensePt := up.pilot.pt - 16383 }, none, ⟨[], []⟩, by decide⟩,
    ⟨sense { Nfc.reset with below := some 0 }, 0, by decide⟩,
    ⟨up, by decide⟩,
    ⟨sense { Nfc.reset with detection := some (det false) }, det false, arsp, 0, by decide⟩,
    ⟨{ sense { Nfc.reset with detection := some (det true) } with tok := { Tok.reset with learn := some cardLearn } }, det true, arsp, 0, cardLearn, cardStep, by decide⟩,
    ⟨sense { Nfc.reset with detection := some (det false) }, det false, card, [], by decide⟩,
    ⟨sense { Nfc.reset with detection := some (det false) }, det false, card, [], by decide⟩⟩

/-- Each clause of TagAnswersTheField has a state and operands that meet its hypotheses together. -/
theorem witness_TagAnswersTheField :
    (∃ (s : State) (fl : BitVec 4), s.tag.works = true ∧ s.pilot.vbatUp = false ∧ 6 ≤ fl.toNat ∧ s.tag.field = false ∧ s.nfc.detection = none ∧ (s.tag.fieldEnd = 0 ∨ s.tag.fieldEnd + 5000 ≤ s.mt))
    ∧ (∃ (s : State) (fl : BitVec 4), s.tag.works = true ∧ s.pilot.vbatUp = true ∧ fl.toNat < 2)
    ∧ (∃ (s : State), s.tag.field = true)
    ∧ (∃ (s : State) (fl : BitVec 4), s.tag.field = true ∧ s.tagPowered fl.toNat = true ∧ s.tag.tagMode = true)
    ∧ (∃ (s : State) (fl : BitVec 4), s.tag.field = true ∧ s.tag.selected = true ∧ s.tagPowered fl.toNat = true ∧ s.tag.tagMode = true ∧ s.tag.app ≠ .keyWait)
    ∧ (∃ (s : State) (fl : BitVec 4) (args : Bytes), s.tag.field = true ∧ s.tag.selected = true ∧ s.tagPowered fl.toNat = true ∧ s.tag.tagMode = true ∧ s.tag.app ≠ .keyWait ∧ args = [])
    ∧ (∃ (s : State) (fl : BitVec 4) (args : Bytes), s.tag.field = true ∧ s.tag.selected = true ∧ s.tagPowered fl.toNat = true ∧ s.tag.tagMode = true ∧ s.tag.app ≠ .keyWait ∧ args ≠ [])
    ∧ (∃ (s : State) (fl : BitVec 4) (args : Bytes), s.tag.field = true ∧ s.tag.selected = true ∧ s.tagPowered fl.toNat = true ∧ s.tag.tagMode = true ∧ s.tag.app ≠ .keyWait ∧ args = [])
    ∧ (∃ (s : State) (fl : BitVec 4) (args : Bytes), s.tag.field = true ∧ s.tag.selected = true ∧ s.tagPowered fl.toNat = true ∧ s.tag.tagMode = true ∧ s.tag.app ≠ .keyWait ∧ args.length = 3 ∧ 1 ≤ (le args 2 1) ∧ (le args 2 1) ≤ 15 ∧ (le args 0 2) + (le args 2 1) ≤ 512 ∧ (∀ i < (le args 2 1), s.tag.fieldRead ((le args 0 2) + i) = true) ∧ s.tag.reserved s.mt = false)
    ∧ (∃ (s : State) (fl : BitVec 4) (args : Bytes), s.tag.field = true ∧ s.tag.selected = true ∧ s.tagPowered fl.toNat = true ∧ s.tag.tagMode = true ∧ s.tag.app ≠ .keyWait ∧ args.length = 3 ∧ 1 ≤ (le args 2 1) ∧ (le args 2 1) ≤ 15 ∧ (le args 0 2) + (le args 2 1) ≤ 512 ∧ (∃ i < (le args 2 1), s.tag.fieldRead ((le args 0 2) + i) = false))
    ∧ (∃ (s : State) (fl : BitVec 4) (args : Bytes), s.tag.field = true ∧ s.tag.selected = true ∧ s.tagPowered fl.toNat = true ∧ s.tag.tagMode = true ∧ s.tag.app ≠ .keyWait ∧ args.length = 18 ∧ 272 ≤ (le args 0 2) ∧ (le args 0 2) ≤ 399 ∧ s.tag.app = .securedK ∧ s.tag.reserved s.mt = false ∧ s.tagWeak fl.toNat = false)
    ∧ (∃ (s : State) (fl : BitVec 4) (args : Bytes), s.tag.field = true ∧ s.tag.selected = true ∧ s.tagPowered fl.toNat = true ∧ s.tag.tagMode = true ∧ s.tag.app ≠ .keyWait ∧ args.length = 18 ∧ (le args 0 2) < 272 ∧ s.tagWeak fl.toNat = false)
    ∧ (∃ (s : State) (fl : BitVec 4) (args : Bytes), s.tag.field = true ∧ s.tag.selected = true ∧ s.tagPowered fl.toNat = true ∧ s.tag.tagMode = true ∧ s.tag.app ≠ .keyWait ∧ args.length = 18 ∧ 512 ≤ (le args 0 2) ∧ s.tagWeak fl.toNat = false)
    ∧ (∃ (s : State) (fl : BitVec 4) (args : Bytes), s.tag.field = true ∧ s.tag.selected = true ∧ s.tagPowered fl.toNat = true ∧ s.tag.tagMode = true ∧ s.tag.app ≠ .keyWait ∧ args.length = 8 ∧ s.tag.app = .opened ∧ s.tag.pwdFail < 8 ∧ s.tag.password = some args ∧ s.tagWeak fl.toNat = false)
    ∧ (∃ (s : State) (fl : BitVec 4) (args : Bytes), s.tag.field = true ∧ s.tag.selected = true ∧ s.tagPowered fl.toNat = true ∧ s.tag.tagMode = true ∧ s.tag.app ≠ .keyWait ∧ args.length = 8 ∧ s.tag.app = .opened ∧ s.tag.pwdFail = 7 ∧ s.tag.password ≠ none ∧ s.tag.password ≠ some args ∧ s.tagWeak fl.toNat = false)
    ∧ (∃ (s : State) (fl : BitVec 4) (args : Bytes), s.tag.field = true ∧ s.tag.selected = true ∧ s.tagPowered fl.toNat = true ∧ s.tag.tagMode = true ∧ s.tag.app ≠ .keyWait ∧ args.length = 8 ∧ s.tag.app = .opened ∧ 8 ≤ s.tag.pwdFail ∧ s.tagWeak fl.toNat = false)
    ∧ (∃ (s : State) (fl : BitVec 4) (args : Bytes), s.tag.field = true ∧ s.tag.selected = true ∧ s.tagPowered fl.toNat = true ∧ s.tag.tagMode = true ∧ s.tag.app ≠ .keyWait ∧ s.tagWeak fl.toNat = true)
    ∧ (∃ (s : State) (fl : BitVec 4) (args : Bytes), s.tag.field = true ∧ s.tag.selected = true ∧ s.tagPowered fl.toNat = true ∧ s.tag.tagMode = true ∧ s.tag.app ≠ .keyWait ∧ args.length = 16 ∧ s.tag.app = .opened ∧ s.tag.keyFail < 8 ∧ s.tag.key.isSome = true)
    ∧ (∃ (s : State) (fl : BitVec 4) (args : Bytes), s.tag.field = true ∧ s.tag.selected = true ∧ s.tagPowered fl.toNat = true ∧ s.tag.tagMode = true ∧ s.tag.app = .keyWait ∧ args.length = 16)
    ∧ (∃ (s : State) (fl : BitVec 4) (args : Bytes), s.tag.field = true ∧ s.tag.selected = true ∧ s.tagPowered fl.toNat = true ∧ s.tag.tagMode = true ∧ s.tag.app = .keyWait ∧ args.length = 16 ∧ s.tagWeak fl.toNat = false ∧ args = s.tag.authMac 0x51 s.tag.rc s.tag.tc)
    ∧ (∃ (s : State) (fl : BitVec 4) (args : Bytes), s.tag.field = true ∧ s.tag.selected = true ∧ s.tagPowered fl.toNat = true ∧ s.tag.tagMode = true ∧ s.tag.app = .keyWait ∧ args.length = 16 ∧ s.tagWeak fl.toNat = false ∧ s.tag.keyFail < 7)
    ∧ (∃ (s : State) (fl : BitVec 4) (args : Bytes), s.tag.field = true ∧ s.tag.selected = true ∧ s.tagPowered fl.toNat = true ∧ s.tag.tagMode = true ∧ s.tag.app = .keyWait ∧ args.length = 16 ∧ s.tagWeak fl.toNat = true) :=
  ⟨⟨State.reset, 6, by decide⟩,
    ⟨up, 0, by decide⟩,
    ⟨nfcState { Tag.reset with field := true }, by decide⟩,
    ⟨nfcState fieldTag, 6, by decide⟩,
    ⟨nfcState fieldTag, 6, by decide⟩,
    ⟨nfcState fieldTag, 6, [], by decide⟩,
    ⟨nfcState fieldTag, 6, [1], by decide⟩,
    ⟨nfcState fieldTag, 6, [], by decide⟩,
    ⟨nfcState fieldTag, 6, [4, 0, 1], by decide⟩,
    ⟨nfcState fieldTag, 6, [16, 0, 1], by decide⟩,
    ⟨nfcState { fieldTag with app := .securedK }, 6, [16, 1] ++ zeros 16, by decide⟩,
    ⟨nfcState fieldTag, 6, zeros 18, by decide⟩,
    ⟨nfcState fieldTag, 6, [0, 2] ++ zeros 16, by decide⟩,
    ⟨nfcState { fieldTag with password := some (zeros 8) }, 6, zeros 8, by decide⟩,
    ⟨nfcState { fieldTag with password := some (zeros 8), pwdFail := 7 }, 6, 1 :: zeros 7, by decide⟩,
    ⟨nfcState { fieldTag with pwdFail := 8 }, 6, zeros 8, by decide⟩,
    ⟨{ nfcState { fieldTag with wrLevel := 15 } with pilot := Pilot.reset }, 6, [], by decide⟩,
    ⟨nfcState { fieldTag with key := some (zeros 32) }, 6, zeros 16, by decide⟩,
    ⟨nfcState waitTag, 6, zeros 16, by decide⟩,
    ⟨nfcState waitTag, 6, waitTag.authMac 0x51 [] [], rfl, rfl, rfl, rfl, rfl, by simp [Tag.authMac], rfl, rfl⟩,
    ⟨nfcState waitTag, 6, zeros 16, by decide⟩,
    ⟨{ nfcState { waitTag with wrLevel := 15 } with pilot := Pilot.reset }, 6, zeros 16, by decide⟩⟩

/-- Each clause of WiredSideSharesTagMemory has a state and operands that meet its hypotheses together. -/
theorem witness_WiredSideSharesTagMemory :
    (∃ (s : State) (p : Bytes), s.mbReady 0x0D01 p ∧ p.length = 8 ∧ (s.begun 0x0D01 p).endReservation.wiredRefusal = 0)
    ∧ (∃ (s : State) (p : Bytes), s.mbReady 0x0D01 p ∧ p.length = 8 ∧ s.tag.works = true ∧ s.mt < s.tag.ownEnd)
    ∧ (∃ (s : State) (p : Bytes), s.mbReady 0x0D01 p ∧ p.length = 8 ∧ s.tag.works = true ∧ s.tag.ownEnd ≤ s.mt ∧ s.tag.resEnd = none ∧ s.tag.resOver = true)
    ∧ (∃ (s : State) (k : Bytes), s.mbReady 0x0D02 k ∧ k.length = 32 ∧ (s.begun 0x0D02 k).endReservation.wiredRefusal = 0)
    ∧ (∃ (s : State) (block : BitVec 16) (count : BitVec 8), s.mbReady 0x0D03 (toLE 2 block.toNat ++ toLE 1 count.toNat) ∧ ((s.begun 0x0D03 (toLE 2 block.toNat ++ toLE 1 count.toNat)).endReservation).wiredRefusal = 0 ∧ 1 ≤ count.toNat ∧ count.toNat ≤ 32 ∧ block.toNat + count.toNat ≤ 496)
    ∧ (∃ (s : State) (block : BitVec 16) (count : BitVec 8), s.mbReady 0x0D03 (toLE 2 block.toNat ++ toLE 1 count.toNat) ∧ ((s.begun 0x0D03 (toLE 2 block.toNat ++ toLE 1 count.toNat)).endReservation).wiredRefusal = 0 ∧ (count.toNat = 0 ∨ 32 < count.toNat ∨ 496 < block.toNat + count.toNat))
    ∧ (∃ (s : State) (block : BitVec 16) (count : BitVec 8) (data : Bytes), s.mbReady 0x0D04 (toLE 2 block.toNat ++ toLE 1 count.toNat ++ data) ∧ data.length = 16 * count.toNat ∧ ((s.begun 0x0D04 (toLE 2 block.toNat ++ toLE 1 count.toNat ++ data)).endReservation).wiredRefusal = 0 ∧ 1 ≤ count.toNat ∧ count.toNat ≤ 32)
    ∧ (∃ (s : State) (block : BitVec 16) (count : BitVec 8) (data : Bytes), s.mbReady 0x0D04 (toLE 2 block.toNat ++ toLE 1 count.toNat ++ data) ∧ data.length = 16 * count.toNat ∧ ((s.begun 0x0D04 (toLE 2 block.toNat ++ toLE 1 count.toNat ++ data)).endReservation).wiredRefusal = 0 ∧ 1 ≤ count.toNat ∧ count.toNat ≤ 32 ∧ 272 ≤ block.toNat ∧ block.toNat + count.toNat ≤ 496)
    ∧ (∃ (s : State) (block : BitVec 16) (count : BitVec 8) (data : Bytes), s.mbReady 0x0D04 (toLE 2 block.toNat ++ toLE 1 count.toNat ++ data) ∧ data.length = 16 * count.toNat ∧ ((s.begun 0x0D04 (toLE 2 block.toNat ++ toLE 1 count.toNat ++ data)).endReservation).wiredRefusal = 0 ∧ 1 ≤ count.toNat ∧ count.toNat ≤ 32 ∧ block.toNat < 272)
    ∧ (∃ (s : State) (ms : BitVec 8), s.mbReady 0x0D05 (toLE 1 ms.toNat) ∧ 1 ≤ ms.toNat ∧ ms.toNat ≤ 50 ∧ s.tag.works = true)
    ∧ (∃ (s : State) (ms : BitVec 8), s.mbReady 0x0D05 (toLE 1 ms.toNat) ∧ 1 ≤ ms.toNat ∧ ms.toNat ≤ 50 ∧ s.tag.works = true ∧ s.tag.field = false)
    ∧ (∃ (s : State) (ms : BitVec 8), s.mbReady 0x0D05 (toLE 1 ms.toNat) ∧ 1 ≤ ms.toNat ∧ ms.toNat ≤ 50 ∧ s.tag.works = true ∧ s.tag.field = true)
    ∧ (∃ (s : State) (e : Nat), s.mbReady 0x0D06 [] ∧ s.tag.resEnd = some e ∧ s.mt < e)
    ∧ (∃ (s : State) (e : Nat), s.tag.resEnd = some e ∧ e ≤ s.mt)
    ∧ (∃ (s : State), s.tag.works = true ∧ s.tag.ownEnd ≤ s.mt)
    ∧ (∃ (s : State), s.tag.works = true ∧ s.mt < s.tag.ownEnd)
    ∧ (∃ (s : State), s.tagWriter = true ∧ s.tag.retryMt + 1000 ≤ s.mt)
    ∧ (∃ (s : State), (s.tagWriter = false ∨ s.mt < s.tag.retryMt + 1000))
    ∧ (∃ (block : Nat) (bs : Bytes) (n : Nat), (n < 16 * block ∨ 16 * block + bs.length ≤ n)) :=
  ⟨⟨up, zeros 8, by decide⟩,
    ⟨nfcState { Tag.reset with ownEnd := 2000000000000 }, zeros 8, by decide⟩,
    ⟨nfcState { Tag.reset with resOver := true }, zeros 8, by decide⟩,
    ⟨up, zeros 32, by decide⟩,
    ⟨up, 0, 1, by decide⟩,
    ⟨up, 0, 0, by decide⟩,
    ⟨up, 0, 1, zeros 16, by decide⟩,
    ⟨up, 300, 1, zeros 16, by decide⟩,
    ⟨up, 0, 1, zeros 16, by decide⟩,
    ⟨up, 1, by decide⟩,
    ⟨up, 1, by decide⟩,
    ⟨nfcState fieldTag, 1, by decide⟩,
    ⟨nfcState { Tag.reset with resEnd := some 2000000000000 }, 2000000000000, by decide⟩,
    ⟨nfcState { Tag.reset with resEnd := some 0 }, 0, by decide⟩,
    ⟨up, by decide⟩,
    ⟨nfcState { Tag.reset with ownEnd := 2000000000000 }, by decide⟩,
    ⟨up, by decide⟩,
    ⟨nfcState { Tag.reset with retryMt := up.mt }, by decide⟩,
    ⟨1, [], 0, by decide⟩⟩

/-- Each clause of DownloadsVerifyBeforeReady has a state and operands that meet its hypotheses together. -/
theorem witness_DownloadsVerifyBeforeReady :
    (∃ (s : State) (m : Bytes) (env : Env), s.mbReady 0x0E01 m ∧ m.length = 65536 ∧ (s.begun 0x0E01 m).update.state = .idle ∧ (s.begun 0x0E01 m).nandUp = true ∧ env.storeOk = true)
    ∧ (∃ (s : State) (m : Bytes), s.mbReady 0x0E01 m ∧ m.length = 65536 ∧ (s.begun 0x0E01 m).update.state = .idle ∧ (s.begun 0x0E01 m).mfCheck m ≠ 0 ∧ (s.begun 0x0E01 m).mfCheck m < 0x10000)
    ∧ (∃ (s : State) (m : Bytes), s.mbReady 0x0E01 m ∧ m.length = 65536 ∧ (s.begun 0x0E01 m).update.state = .download ∧ manifest ((s.begun 0x0E01 m).fwSlot (s.begun 0x0E01 m).update.target).image = m)
    ∧ (∃ (s : State) (m : Bytes), (mfConsistent m = false ∨ s.mfSigned m = false ∨ u8 m 6 < s.update.floor ∨ u8 m 6 < s.ringS))
    ∧ (∃ (s : State) (index : BitVec 32) (data : Bytes) (env : Env), s.mbReady 0x0E02 (toLE 4 index.toNat ++ data) ∧ data.length ≤ 65536 ∧ (s.begun 0x0E02 (toLE 4 index.toNat ++ data)).update.state = .download ∧ index.toNat = (s.begun 0x0E02 (toLE 4 index.toNat ++ data)).update.next ∧ data.length = min 65536 (mfLen (manifest ((s.begun 0x0E02 (toLE 4 index.toNat ++ data)).fwSlot ((s.begun 0x0E02 (toLE 4 index.toNat ++ data)).update.target)).image) - 65536 * index.toNat) ∧ (s.begun 0x0E02 (toLE 4 index.toNat ++ data)).nandUp = true ∧ env.storeOk = true)
    ∧ (∃ (s : State) (index : BitVec 32) (data : Bytes), s.mbReady 0x0E02 (toLE 4 index.toNat ++ data) ∧ data.length ≤ 65536 ∧ (s.begun 0x0E02 (toLE 4 index.toNat ++ data)).update.state = .download)
    ∧ (∃ (s : State) (index : BitVec 32) (data : Bytes), s.mbReady 0x0E02 (toLE 4 index.toNat ++ data) ∧ data.length ≤ 65536 ∧ (s.begun 0x0E02 (toLE 4 index.toNat ++ data)).update.state = .download ∧ index.toNat < (s.begun 0x0E02 (toLE 4 index.toNat ++ data)).update.next)
    ∧ (∃ (s : State) (index : BitVec 32) (data : Bytes), s.mbReady 0x0E02 (toLE 4 index.toNat ++ data) ∧ data.length ≤ 65536 ∧ (s.begun 0x0E02 (toLE 4 index.toNat ++ data)).update.state = .download ∧ (s.begun 0x0E02 (toLE 4 index.toNat ++ data)).update.next < index.toNat)
    ∧ (∃ (s : State) (index : BitVec 32) (data : Bytes), s.mbReady 0x0E02 (toLE 4 index.toNat ++ data) ∧ data.length ≤ 65536 ∧ (s.begun 0x0E02 (toLE 4 index.toNat ++ data)).update.state = .download ∧ index.toNat = (s.begun 0x0E02 (toLE 4 index.toNat ++ data)).update.next ∧ data.length ≠ min 65536 (mfLen (manifest ((s.begun 0x0E02 (toLE 4 index.toNat ++ data)).fwSlot (s.begun 0x0E02 (toLE 4 index.toNat ++ data)).update.target).image) - 65536 * index.toNat))
    ∧ (∃ (s : State) (index : BitVec 32) (data : Bytes), s.mbReady 0x0E02 (toLE 4 index.toNat ++ data) ∧ data.length ≤ 65536 ∧ (s.begun 0x0E02 (toLE 4 index.toNat ++ data)).update.state ≠ .download)
    ∧ (∃ (s : State), s.update.state = .verify ∧ s.phase = 0xA) :=
  ⟨⟨updating .idle [], big, env, big_fits_idle, big_length, rfl, rfl, rfl⟩,
    ⟨updating .idle [], big, big_fits_idle, big_length, rfl, by rw [big_check]; decide, by rw [big_check]; decide⟩,
    ⟨updating .download big, big, big_fits_download, big_length, rfl, big_manifest⟩,
    ⟨up, [], by decide⟩,
    ⟨updating .download mfHead, 2, zeros 4, env, by decide⟩,
    ⟨updating .download mfHead, 0, [1], by decide⟩,
    ⟨updating .download mfHead, 0, [1], by decide⟩,
    ⟨updating .download mfHead, 3, [1], by decide⟩,
    ⟨updating .download mfHead, 2, [1], by decide⟩,
    ⟨up, 0, [1], by decide⟩,
    ⟨updating .verify [], by decide⟩⟩

/-- Each clause of ActivationHandsOver has a state and operands that meet its hypotheses together. -/
theorem witness_ActivationHandsOver :
    (∃ (s : State), s.mbReady 0x0E03 [0] ∧ (s.begun 0x0E03 [0]).update.state = .ready ∧ (s.begun 0x0E03 [0]).standbyReady = true ∧ (s.begun 0x0E03 [0]).sys.fw ≠ .recovery)
    ∧ (∃ (s : State), s.mbReady 0x0E03 [0] ∧ (s.begun 0x0E03 [0]).update.state = .ready ∧ (s.begun 0x0E03 [0]).standbyReady = false)
    ∧ (∃ (s : State) (reset : Bool), s.mbReady 0x0E03 [byte (bit reset)] ∧ (s.begun 0x0E03 [byte (bit reset)]).update.state ≠ .ready)
    ∧ (∃ (s : State), s.mbReady 0x0E03 [1] ∧ (s.begun 0x0E03 [1]).update.state = .ready ∧ (s.begun 0x0E03 [1]).update.confirmNext = false)
    ∧ (∃ (s : State), s.upd.step = 4 ∧ s.quiescent = true ∧ s.upd.reverting = false ∧ s.update.state = .activate)
    ∧ (∃ (s : State), s.upd.step = 4 ∧ s.quiescent = true ∧ s.upd.reverting = true ∧ s.standbyReady = true)
    ∧ (∃ (s : State), s.quiescent = false)
    ∧ (∃ (s : State), s.update.target < 2 ∧ s.update.running < 2 ∧ s.update.target ≠ s.update.running ∧ s.update.slots.length = 2)
    ∧ (∃ (s : State), s.upd.step = 4 ∧ s.upd.waited = false ∧ s.upd.stepMt + 1000000 * s.setting 0x0E01 60 ≤ s.mt)
    ∧ (∃ (s : State), s.upd.step = 4 ∧ s.mt < s.upd.stepMt + 1000000 * s.setting 0x0E01 60) :=
  ⟨⟨fx (updating .ready []) [(F.PWR_PAIR_STANDBY_READY, 1)], by decide⟩,
    ⟨updating .ready [], by decide⟩,
    ⟨up, true, by decide⟩,
    ⟨updating .ready [], by decide⟩,
    ⟨{ updating .activate [] with upd := { UpdRun.reset with step := 4 } }, by decide⟩,
    ⟨fx { updating .activate [] with upd := { UpdRun.reset with step := 4, reverting := true } } [(F.PWR_PAIR_STANDBY_READY, 1)], by decide⟩,
    ⟨air (hold .answers), by decide⟩,
    ⟨updating .activate [], by decide⟩,
    ⟨{ updating .activate [] with upd := { UpdRun.reset with step := 4 } }, by decide⟩,
    ⟨{ updating .activate [] with upd := { UpdRun.reset with step := 4, stepMt := 1000000000000 } }, by decide⟩⟩

/-- Each clause of TrialsConfirmOrRevert has a state and operands that meet its hypotheses together. -/
theorem witness_TrialsConfirmOrRevert :
    (∃ (s : State) (n : Nat) (rest : List Nat), s.upd.reloads = n :: rest ∧ s.upd.loading = none ∧ s.upd.reverting = false ∧ s.satReady n = true ∧ (s.upd.endMt = 0 ∨ s.upd.endMt + 1000 ≤ s.mt) ∧ s.islandFailed (satIsland n) = false)
    ∧ (∃ (s : State) (n : Nat) (rest : List Nat), s.upd.reloads = n :: rest ∧ s.satReady n = false)
    ∧ (∃ (s : State), s.upd.reloads = [])
    ∧ (∃ (s : State) (n : Nat), s.upd.loading = some n ∧ n ≠ 1 ∧ s.update.state = .trial ∧ 2 ≤ s.upd.reloads.length)
    ∧ (∃ (s : State) (n : Nat), s.upd.loading = some n ∧ s.upd.tried = false)
    ∧ (∃ (s : State) (n : Nat), s.upd.loading = some n ∧ n ≠ 1 ∧ s.upd.tried = true ∧ s.update.state = .trial)
    ∧ (∃ (s : State) (env : Env), s.mbReady 0x0E04 [] ∧ (s.begun 0x0E04 []).update.state = .trial ∧ (s.begun 0x0E04 []).nandUp = true ∧ env.storeOk = true)
    ∧ (∃ (s : State), s.mbReady 0x0E04 [] ∧ s.update.state ≠ .trial)
    ∧ (∃ (s : State), s.mbReady 0x0E05 [] ∧ (s.begun 0x0E05 []).update.state = .trial ∧ (s.begun 0x0E05 []).standbyReady = true)
    ∧ (∃ (s : State), s.mbReady 0x0E05 [] ∧ s.update.state ≠ .trial)
    ∧ (∃ (s : State), s.mbReady 0x0E06 [] ∧ ((s.begun 0x0E06 []).update.state = .download ∨ (s.begun 0x0E06 []).update.state = .verify ∨ (s.begun 0x0E06 []).update.state = .ready))
    ∧ (∃ (s : State) (f : Nat) (t : Nat), s.slotIn .fallback = some f ∧ s.slotIn .trial = some t ∧ s.update.slots.length = 2)
    ∧ (∃ (s : State) (g : Generation), s.vaultUp = true ∧ s.nandUp = true ∧ s.vault.keyring = some g ∧ g.s < s.sys.sv)
    ∧ (∃ (s : State), s.update.resealing = true ∧ resealBlocks ≤ s.update.blocks)
    ∧ (∃ (s : State), s.update.resealing = true ∧ s.update.blocks < resealBlocks ∧ s.pwr.standby = false ∧ s.nandWrites = true ∧ s.sto.resealAt ≤ s.mt ∧ s.sto.queue = [] ∧ s.takes .reseal = true) :=
  ⟨⟨trialling { UpdRun.reset with reloads := [2] }, 2, [], by decide⟩,
    ⟨{ air (hold .answers) with upd := { UpdRun.reset with reloads := [2] } }, 2, [], by decide⟩,
    ⟨up, by decide⟩,
    ⟨trialling { UpdRun.reset with loading := some 2, reloads := [2, 3] }, 2, by decide⟩,
    ⟨trialling { UpdRun.reset with loading := some 2 }, 2, by decide⟩,
    ⟨trialling { UpdRun.reset with loading := some 2, tried := true }, 2, by decide⟩,
    ⟨trialling UpdRun.reset, env, by decide⟩,
    ⟨up, by decide⟩,
    ⟨fx (trialling UpdRun.reset) [(F.PWR_PAIR_STANDBY_READY, 1)], by decide⟩,
    ⟨up, by decide⟩,
    ⟨updating .verify [], by decide⟩,
    ⟨{ up with update := { Update.reset with slots := [⟨.fallback, 1, [], []⟩, ⟨.trial, 1, [], []⟩] } }, 0, 1, by decide⟩,
    ⟨{ up with sys := { up.sys with sv := 255 } }, upGen, by decide, by decide, rfl, by decide⟩,
    ⟨{ up with update := { Update.reset with resealing := true, blocks := resealBlocks } }, by decide⟩,
    ⟨{ up with update := { Update.reset with resealing := true } }, by decide⟩⟩

/-- Each clause of SpiFramesAreCheckedAndAnswered has a state and operands that meet its hypotheses together. -/
theorem witness_SpiFramesAreCheckedAndAnswered :
    (∃ (s : State) (tag : BitVec 4) (addr : BitVec 24) (crc : Word), s.spiReceives = true ∧ rangeCheck addr.toNat 1 = 0 ∧ s.hif.lastFrame ≠ some (spiHeader 0 tag.toNat addr.toNat, crc) ∧ crc = spiCrc [spiHeader 0 tag.toNat addr.toNat, 1])
    ∧ (∃ (s : State) (op : BitVec 4) (tag : BitVec 4) (addr : BitVec 24) (len : Word) (crc : Word), s.spiReceives = true ∧ 4 ≤ op.toNat ∧ s.hif.lastFrame ≠ some (spiHeader op.toNat tag.toNat addr.toNat, crc) ∧ crc = spiCrc [spiHeader op.toNat tag.toNat addr.toNat, len])
    ∧ (∃ (s : State) (tag : BitVec 4) (addr : BitVec 24) (len : Word) (crc : Word), s.spiReceives = true ∧ s.hif.lastFrame ≠ some (spiHeader 1 tag.toNat addr.toNat, crc) ∧ crc ≠ spiCrc [spiHeader 1 tag.toNat addr.toNat, len])
    ∧ (∃ (s : State) (tag : BitVec 4) (addr : BitVec 24) (len : Word) (crc : Word), s.spiReceives = true ∧ 1 ≤ len.toNat ∧ len.toNat ≤ 1024 ∧ s.hif.lastFrame ≠ some (spiHeader 1 tag.toNat addr.toNat, crc) ∧ crc = spiCrc [spiHeader 1 tag.toNat addr.toNat, len] ∧ s.accessCheck false addr.toNat len.toNat = 0)
    ∧ (∃ (s : State) (tag : BitVec 4) (addr : BitVec 24) (len : Word) (crc : Word), s.spiReceives = true ∧ 1 ≤ len.toNat ∧ len.toNat ≤ 1024 ∧ s.hif.lastFrame ≠ some (spiHeader 1 tag.toNat addr.toNat, crc) ∧ crc = spiCrc [spiHeader 1 tag.toNat addr.toNat, len] ∧ s.accessCheck false addr.toNat len.toNat ≠ 0)
    ∧ (∃ (s : State) (tag : BitVec 4) (addr : BitVec 24) (len : Word) (crc : Word) (data : List Word) (env : Env), s.spiReceives = true ∧ 1 ≤ len.toNat ∧ len.toNat ≤ 1024 ∧ data.length = len.toNat ∧ s.hif.lastFrame ≠ some (spiHeader 2 tag.toNat addr.toNat, crc) ∧ crc = spiCrc (spiHeader 2 tag.toNat addr.toNat :: len :: data) ∧ s.accessCheck true addr.toNat len.toNat = 0 ∧ (writeWords env (data.map BitVec.toNat) addr.toNat s).2 = false)
    ∧ (∃ (s : State) (tag : BitVec 4) (addr : BitVec 24) (crc : Word) (k : Nat) (r : List Word), s.spiReceives = true ∧ rangeCheck addr.toNat 1 = 0 ∧ s.hif.lastFrame ≠ some (spiHeader 3 tag.toNat addr.toNat, crc) ∧ crc = spiCrc [spiHeader 3 tag.toNat addr.toNat, 1] ∧ (s.hif.stored.find? (fun x => x.1 == tag.toNat) = some (k, r)))
    ∧ (∃ (s : State) (tag : BitVec 4) (addr : BitVec 24) (crc : Word), s.spiReceives = true ∧ rangeCheck addr.toNat 1 = 0 ∧ s.hif.lastFrame ≠ some (spiHeader 3 tag.toNat addr.toNat, crc) ∧ crc = spiCrc [spiHeader 3 tag.toNat addr.toNat, 1] ∧ s.hif.stored = [])
    ∧ (∃ (s : State) (tag : BitVec 4) (addr : BitVec 24) (len : Word) (crc : Word) (data : List Word) (k : Nat) (r : List Word), s.spiReceives = true ∧ spiCount len.toNat ≤ data.length ∧ s.hif.lastFrame = some (spiHeader 2 tag.toNat addr.toNat, crc) ∧ (s.hif.stored.find? (fun x => x.1 == tag.toNat) = some (k, r)))
    ∧ (∃ (s : State) (len : Word) (data : List Word), s.spiReceives = true ∧ len.toNat ≤ 1024 ∧ data.length < len.toNat)
    ∧ (∃ (s : State) (tag : BitVec 4) (addr : BitVec 24) (len : Word) (crc : Word) (data : List Word), s.spiReceives = true ∧ spiCount len.toNat ≤ data.length ∧ s.hif.lastFrame ≠ some (spiHeader 2 tag.toNat addr.toNat, crc))
    ∧ (∃ (s : State) (tag : BitVec 4) (addr : BitVec 24) (len : Word) (crc : Word) (data : List Word), s.spiReceives = true ∧ spiCount len.toNat ≤ data.length ∧ s.hif.lastFrame ≠ some (spiHeader 2 tag.toNat addr.toNat, crc) ∧ crc ≠ spiCrc (spiHeader 2 tag.toNat addr.toNat :: len :: data))
    ∧ (∃ (s : State) (tag : BitVec 4) (addr : BitVec 24) (len : Word) (crc : Word) (data : List Word), s.spiReceives = true ∧ spiCount len.toNat ≤ data.length ∧ s.hif.lastFrame ≠ some (spiHeader 2 tag.toNat addr.toNat, crc) ∧ crc = spiCrc (spiHeader 2 tag.toNat addr.toNat :: len :: data) ∧ s.frameCheck 2 tag.toNat addr.toNat len.toNat ≠ 0) :=
  ⟨⟨up, 0, 0, spiCrc (spiHeader 0 0 0 :: 1 :: []), by decide⟩,
    ⟨up, 4, 0, 0, 0, spiCrc (spiHeader 4 0 0 :: 0 :: []), by decide⟩,
    ⟨up, 0, 0, 0, 0, by decide⟩,
    ⟨up, 0, 0, 1, spiCrc (spiHeader 1 0 0 :: 1 :: []), by decide⟩,
    ⟨up, 0, 2, 1, spiCrc (spiHeader 1 0 2 :: 1 :: []), by decide⟩,
    ⟨up, 0, 0x10000, 1, spiCrc (spiHeader 2 0 0x10000 :: 1 :: [5]), [5], env, by decide⟩,
    ⟨hosted { Hif.reset with stored := [(0, [])] }, 0, 0, spiCrc (spiHeader 3 0 0 :: 1 :: []), 0, [], by decide⟩,
    ⟨up, 0, 0, spiCrc (spiHeader 3 0 0 :: 1 :: []), by decide⟩,
    ⟨hosted { Hif.reset with lastFrame := some (spiHeader 2 0 0, 0), stored := [(0, [])] }, 0, 0, 1, 0, [0], 0, [], by decide⟩,
    ⟨up, 1, [], by decide⟩,
    ⟨up, 0, 0, 1, 0, [0], by decide⟩,
    ⟨up, 0, 0, 1, 0, [0], by decide⟩,
    ⟨up, 0, 2, 1, spiCrc (spiHeader 2 0 2 :: 1 :: [0]), [0], by decide⟩⟩

/-- Each clause of RegistersKeepTheirAccessTypes has a state and operands that meet its hypotheses together. -/
theorem witness_RegistersKeepTheirAccessTypes :
    (∃ (off : Nat) (r : RegRow), regRow? off = some r)
    ∧ (∃ (s : State) (addr : BitVec 24) (n : Nat), s.phase = 0xA ∧ rangeCheck addr.toNat 1 = 0 ∧ regionOf addr.toNat = some (.block n))
    ∧ (∃ (u : Subsys) (e : Nat) (m : Nat), evtRegs u = some (e, m))
    ∧ (∃ (s : State) (addr : BitVec 24), s.phase = 1 ∧ addr.toNat < 0xF000 ∧ addr.toNat % 0x1000 ≠ 0 ∧ addr.toNat ≠ R.SYS_RESET)
    ∧ (∃ (off : Nat) (off2 : Nat), off ≠ off2)
    ∧ (∃ (v : Word), v.toNat / 2 ^ 16 = 0x5A5A ∧ Nat.testBit v.toNat 0 = true)
    ∧ (∃ (v : Word), v.toNat / 2 ^ 16 ≠ 0x5A5A) :=
  ⟨⟨R.SYS_CTL, _, rfl⟩,
    ⟨up, 0, 0, by decide⟩,
    ⟨.sys, 0x40, 0x44, by decide⟩,
    ⟨ph 1, 4, by decide⟩,
    ⟨0, 4, by decide⟩,
    ⟨0x5A5A0001, by decide⟩,
    ⟨0, by decide⟩⟩

/-- Each clause of RegisterWritesAndSysResetComplete has a state and operands that meet its hypotheses together. -/
theorem witness_RegisterWritesAndSysResetComplete :
    (∃ (s : State) (addr : BitVec 24) (r : RegRow), s.writeAdmitted addr.toNat = true ∧ fieldsOnly addr.toNat = true ∧ regRow? addr.toNat = some r)
    ∧ (∃ (s : State) (addr : BitVec 24), s.writeAdmitted addr.toNat = true ∧ fieldsOnly addr.toNat = true ∧ regRow? addr.toNat = none)
    ∧ (∃ (s : State) (addr : BitVec 24), s.writeAdmitted addr.toNat = false)
    ∧ (∃ (s : State) (addr : BitVec 24), s.writeAdmitted addr.toNat = true ∧ addr.toNat % 0x1000 = 0 ∧ addr.toNat ∉ [R.PWR_CTL, R.LF_CTL, R.RF_CTL, R.NFC_CTL])
    ∧ (∃ (s : State) (addr : BitVec 24), s.writeAdmitted addr.toNat = true ∧ addr.toNat = R.TIM_NT_SET_S_HI)
    ∧ (∃ (s : State) (addr : BitVec 24), s.writeAdmitted addr.toNat = true ∧ addr.toNat = R.TIM_NT_INC_FRAC ∧ s.ntMode ≠ 1)
    ∧ (∃ (s : State) (addr : BitVec 24), s.writeAdmitted addr.toNat = true ∧ addr.toNat = R.TIM_NT_INC_FRAC ∧ s.ntMode = 1)
    ∧ (∃ (s : State) (addr : BitVec 24), s.writeAdmitted addr.toNat = true ∧ addr.toNat = R.TIM_NT_INC_INT)
    ∧ (∃ (s : State) (addr : BitVec 24), s.writeAdmitted addr.toNat = true ∧ addr.toNat = R.STO_JRNL_ACK_HI)
    ∧ (∃ (s : State) (addr : BitVec 24), s.writeAdmitted addr.toNat = true ∧ addr.toNat = R.STO_WIN_CTL)
    ∧ (∃ (s : State) (addr : BitVec 24), s.writeAdmitted addr.toNat = true ∧ addr.toNat = R.RF_TEST)
    ∧ (∃ (s : State) (addr : BitVec 24) (u : Fin 4), s.writeAdmitted addr.toNat = true ∧ s.get (F.TIM_PULSEn_CTL_EN u.val) = 0 ∧ (addr.toNat = R.TIM_PULSEn_START u.val ∨ addr.toNat = R.TIM_PULSEn_PERIOD u.val ∨ addr.toNat = R.TIM_PULSEn_WIDTH u.val))
    ∧ (∃ (s : State) (addr : BitVec 24) (u : Fin 4), s.writeAdmitted addr.toNat = true ∧ s.get (F.TIM_PULSEn_CTL_EN u.val) = 1 ∧ (addr.toNat = R.TIM_PULSEn_START u.val ∨ addr.toNat = R.TIM_PULSEn_PERIOD u.val ∨ addr.toNat = R.TIM_PULSEn_WIDTH u.val))
    ∧ (∃ (s : State) (addr : BitVec 24) (u : Fin 4), s.writeAdmitted addr.toNat = true ∧ addr.toNat = R.TIM_PULSEn_CTL u.val ∧ s.get (F.TIM_PULSEn_CTL_EN u.val) = 0 ∧ u.val < s.tim.pulses.length)
    ∧ (∃ (s : State) (addr : BitVec 24) (u : Fin 4), s.writeAdmitted addr.toNat = true ∧ addr.toNat = R.TIM_PULSEn_CTL u.val ∧ s.get (F.TIM_PULSEn_CTL_EN u.val) = 1)
    ∧ (∃ (s : State) (addr : BitVec 24), s.writeAdmitted addr.toNat = true)
    ∧ (∃ (s : State) (addr : BitVec 24), s.writeAdmitted addr.toNat = true ∧ addr.toNat = R.PWR_CTL)
    ∧ (∃ (s : State) (addr : BitVec 24), s.writeAdmitted addr.toNat = true ∧ addr.toNat = R.LF_CTL)
    ∧ (∃ (s : State) (addr : BitVec 24), s.writeAdmitted addr.toNat = true ∧ addr.toNat = R.RF_CTL)
    ∧ (∃ (s : State) (addr : BitVec 24), s.writeAdmitted addr.toNat = true ∧ addr.toNat = R.NFC_CTL)
    ∧ (∃ (s : State) (addr : BitVec 24) (c : Fin 8), s.writeAdmitted addr.toNat = true ∧ addr.toNat = 0x3040 + 16 * c.val)
    ∧ (∃ (s : State) (addr : BitVec 24) (c : Fin 4), s.writeAdmitted addr.toNat = true ∧ addr.toNat = 0x4048 + 16 * c.val)
    ∧ (∃ (s : State) (v : Word), v.toNat / 2 ^ 16 = 0x5A5A ∧ Nat.testBit v.toNat 0 = true ∧ s.pilot.vbatUp = true ∧ s.keys.blow = none)
    ∧ (∃ (s : State) (v : Word), v.toNat / 2 ^ 16 = 0x5A5A ∧ Nat.testBit v.toNat 0 = true ∧ s.pilot.vbatUp = true ∧ s.keys.blow.isSome = true)
    ∧ (∃ (s : State) (v : Word), (v.toNat / 2 ^ 16 ≠ 0x5A5A ∨ Nat.testBit v.toNat 0 = false ∨ s.pilot.vbatUp = false)) :=
  ⟨⟨up, 0x44, _, by decide, by decide, rfl⟩,
    ⟨up, 0xFF0, by decide⟩,
    ⟨ph 1, 0x44, by decide⟩,
    ⟨up, 0xA000, by decide⟩,
    ⟨up, BitVec.ofNat 24 R.TIM_NT_SET_S_HI, by decide⟩,
    ⟨up, BitVec.ofNat 24 R.TIM_NT_INC_FRAC, by decide⟩,
    ⟨{ up with sys := { up.sys with sections := up.sys.sections ++ [⟨12, 0, 1 :: zeros 23⟩] } }, BitVec.ofNat 24 R.TIM_NT_INC_FRAC, by decide⟩,
    ⟨up, BitVec.ofNat 24 R.TIM_NT_INC_INT, by decide⟩,
    ⟨up, BitVec.ofNat 24 R.STO_JRNL_ACK_HI, by decide⟩,
    ⟨up, BitVec.ofNat 24 R.STO_WIN_CTL, by decide⟩,
    ⟨up, BitVec.ofNat 24 R.RF_TEST, by decide⟩,
    ⟨up, BitVec.ofNat 24 (R.TIM_PULSEn_START 0), 0, by decide⟩,
    ⟨fx up [(F.TIM_PULSEn_CTL_EN 0, 1)], BitVec.ofNat 24 (R.TIM_PULSEn_START 0), 0, by decide⟩,
    ⟨up, BitVec.ofNat 24 (R.TIM_PULSEn_CTL 0), 0, by decide⟩,
    ⟨fx up [(F.TIM_PULSEn_CTL_EN 0, 1)], BitVec.ofNat 24 (R.TIM_PULSEn_CTL 0), 0, by decide⟩,
    ⟨up, BitVec.ofNat 24 R.PWR_CTL, by decide⟩,
    ⟨up, BitVec.ofNat 24 R.PWR_CTL, by decide⟩,
    ⟨up, BitVec.ofNat 24 R.LF_CTL, by decide⟩,
    ⟨up, BitVec.ofNat 24 R.RF_CTL, by decide⟩,
    ⟨up, BitVec.ofNat 24 R.NFC_CTL, by decide⟩,
    ⟨up, 0x3040, 0, by decide⟩,
    ⟨up, 0x4048, 0, by decide⟩,
    ⟨up, 0x5A5A0001, by decide⟩,
    ⟨{ up with keys := { Keys.reset with blow := some .epoch } }, 0x5A5A0001, by decide⟩,
    ⟨up, 0, by decide⟩⟩

/-- Each clause of MailboxMessagesRun (its part 1) has a state and operands that meet its hypotheses together. -/
theorem witness_MailboxMessagesRun_1 :
    (∃ (s : State), s.flag F.HIF_MB_IN_STAT_IN_FREE = false)
    ∧ (∃ (s : State) (w : Word), s.flag F.HIF_MB_IN_STAT_IN_FREE = true ∧ s.partial? .spi = none ∧ 16 ≤ (bits w.toNat 31 16) ∧ (bits w.toNat 31 16) ≤ 32768 ∧ Nat.testBit w.toNat 1 = true ∧ Nat.testBit w.toNat 0 = true ∧ (bits w.toNat 31 16) = 16 + msgInLen (padTo (bits w.toNat 31 16) s.hif.inBuf))
    ∧ (∃ (s : State) (c : MbCmd), s.hif.queue.length < 8)
    ∧ (∃ (s : State) (c : MbCmd), 8 ≤ s.hif.queue.length)
    ∧ (∃ (s : State) (t : Transport) (payload : Bytes), (t = .can0 ∨ t = .can1) ∧ s.latching = false ∧ s.mbReceives t = true ∧ payload.length = 64)
    ∧ (∃ (s : State) (payload : Bytes), s.latching = false ∧ s.mbReceives .t1s = true ∧ 3 ≤ payload.length ∧ payload.length ≤ 1500)
    ∧ (∃ (s : State) (t : Transport), s.latching = true ∧ t ≠ .spi)
    ∧ (∃ (s : State) (t : Transport) (p : Partial), s.partial? t = some p)
    ∧ (∃ (s : State) (t : Transport) (seq : Nat) (p : Partial), s.partial? t = some p ∧ seq ≠ p.seq)
    ∧ (∃ (s : State) (t : Transport) (seq : Nat) (seg : Bytes) (p : Partial), s.partial? t = some p ∧ seq = p.seq ∧ (p.bytes ++ seg).length < 16)
    ∧ (∃ (s : State) (t : Transport), s.partial? t = none)
    ∧ (∃ (s : State) (c : MbCmd) (rest : List MbCmd), s.hif.queue = c :: rest ∧ s.hif.executing = none ∧ s.flag F.PWR_STAT_BROWNOUT = false ∧ s.hif.resetWait = none ∧ s.keys.blow = none)
    ∧ (∃ (s : State), (s.hif.executing.isSome = true ∨ s.keys.blow.isSome = true))
    ∧ (∃ (s : State) (op : Nat), knownOpcode op = true ∧ s.phase = 0xB ∧ provisionedOk op = false)
    ∧ (∃ (op : Nat), knownOpcode op = false)
    ∧ (∃ (s : State), s.flag F.HIF_MB_OUT_STAT_VALID = true ∧ s.hif.resetWait = none)
    ∧ (∃ (s : State), s.hif.resetWait = none ∧ (s.hif.busResp.any (fun r => decide (r.readyMt + 10000000 ≤ s.mt)) = true))
    ∧ (∃ (s : State) (w : ResetWait) (t : Nat), s.hif.resetWait = some w ∧ w.transport = .spi ∧ w.placedMt = some t ∧ t + 100000 ≤ s.mt)
    ∧ (∃ (s : State), s.hif.resetWait = none)
    ∧ (∃ (s : State), (s.hif.busResp.any (fun r => decide (r.readyMt + 10000000 ≤ s.mt)) = false))
    ∧ (∃ (s : State) (t : Transport), t ≠ .spi ∧ s.busUp t = false) :=
  ⟨⟨fx up [(F.HIF_MB_IN_STAT_IN_FREE, 0)], by decide⟩,
    ⟨{ up with hif := { Hif.reset with inBuf := mkMessage 0x0104 0 [] } }, BitVec.ofNat 32 (16 * 2 ^ 16 + 3), by decide⟩,
    ⟨up, echo .spi, by decide⟩,
    ⟨hosted { Hif.reset with queue := List.replicate 8 (echo .spi) }, echo .spi, by decide⟩,
    ⟨hosted Hif.reset, .can0, zeros 64, by decide⟩,
    ⟨hosted Hif.reset, zeros 3, by decide⟩,
    ⟨ph 3, .can0, by decide⟩,
    ⟨hosted { Hif.reset with partials := [(.can0, ⟨[], 1, 0⟩)] }, .can0, ⟨[], 1, 0⟩, by decide⟩,
    ⟨hosted { Hif.reset with partials := [(.can0, ⟨[], 1, 0⟩)] }, .can0, 0, ⟨[], 1, 0⟩, by decide⟩,
    ⟨hosted { Hif.reset with partials := [(.can0, ⟨[], 1, 0⟩)] }, .can0, 1, [], ⟨[], 1, 0⟩, by decide⟩,
    ⟨up, .can0, by decide⟩,
    ⟨hosted { Hif.reset with queue := [echo .spi] }, echo .spi, [], by decide⟩,
    ⟨hosted { Hif.reset with executing := some (echo .spi) }, by decide⟩,
    ⟨ph 0xB, 0x0C01, by decide⟩,
    ⟨0, by decide⟩,
    ⟨fx up [(F.HIF_MB_OUT_STAT_VALID, 1)], by decide⟩,
    ⟨hosted { Hif.reset with busResp := [⟨.can0, [], 0, 0⟩] }, by decide⟩,
    ⟨hosted { Hif.reset with resetWait := some ⟨3, .spi, 0, some 0⟩ }, ⟨3, .spi, 0, some 0⟩, 0, by decide⟩,
    ⟨up, by decide⟩,
    ⟨up, by decide⟩,
    ⟨up, .can0, by decide⟩⟩

/-- Each clause of MailboxMessagesRun (its part 2) has a state and operands that meet its hypotheses together. -/
theorem witness_MailboxMessagesRun_2 :
    (∃ (s : State) (addr : Word) (count : Word), s.mbReady 0x0101 (toLE 4 addr.toNat ++ toLE 4 count.toNat) ∧ 1 ≤ count.toNat ∧ count.toNat ≤ 1024 ∧ (s.begun 0x0101 (toLE 4 addr.toNat ++ toLE 4 count.toNat)).accessCheck false addr.toNat count.toNat = 0)
    ∧ (∃ (s : State) (addr : Word) (values : List Word) (env : Env), s.mbReady 0x0102 (toLE 4 addr.toNat ++ toLE 4 values.length ++ wordsToBytes values) ∧ 1 ≤ values.length ∧ values.length ≤ 1024 ∧ (s.begun 0x0102 (toLE 4 addr.toNat ++ toLE 4 values.length ++ wordsToBytes values)).accessCheck true addr.toNat values.length = 0 ∧ (writeWords env (values.map BitVec.toNat) addr.toNat (s.begun 0x0102 (toLE 4 addr.toNat ++ toLE 4 values.length ++ wordsToBytes values))).2 = false)
    ∧ (∃ (s : State), s.mbReady 0x0103 (toLE 4 0x5A5A))
    ∧ (∃ (s : State) (key : Word), s.mbReady 0x0103 (toLE 4 key.toNat) ∧ key.toNat ≠ 0x5A5A)
    ∧ (∃ (s : State) (data : Bytes), s.mbReady 0x0104 data)
    ∧ (∃ (s : State) (data : Bytes), data.length ≤ 66560 ∧ s.hif.executing.isSome = true ∧ s.hif.queue.length < 8) :=
  ⟨⟨up, 0, 1, by decide⟩,
    ⟨up, 0x10000, [5], env, by decide⟩,
    ⟨up, by decide⟩,
    ⟨up, 0, by decide⟩,
    ⟨up, [], by decide⟩,
    ⟨hosted { Hif.reset with executing := some (echo .spi) }, [], by decide⟩⟩

/-- Each clause of FramesPassTheBuses has a state and operands that meet its hypotheses together. -/
theorem witness_FramesPassTheBuses :
    (∃ (s : State) (b : Bytes), s.mbReady 0x1001 b ∧ b.length = 16 + (le b 2 2) ∧ (u8 b 1) < 8 ∧ allZero (slice b 0x0E 2) = true ∧ (u8 b 0) ≤ 2 ∧ (s.begun 0x1001 b).linkOn (u8 b 0) = true ∧ (s.begun 0x1001 b).busUp (portTransport (u8 b 0)) = true ∧ frameLenOk (u8 b 0) (u8 b 1) (le b 2 2) = true ∧ (s.begun 0x1001 b).frameReserved (u8 b 0) (u8 b 1) (le b 4 4) = false ∧ (s.begun 0x1001 b).onRc = false)
    ∧ (∃ (s : State) (b : Bytes), s.mbReady 0x1001 b ∧ b.length = 16 + le b 2 2 ∧ u8 b 1 < 16 ∧ allZero (slice b 0x0E 2) = true ∧ (2 < u8 b 0 ∨ (s.begun 0x1001 b).linkOn (u8 b 0) = false ∨ (s.begun 0x1001 b).busUp (portTransport (u8 b 0)) = false))
    ∧ (∃ (s : State) (max : BitVec 16), s.mbReady 0x1002 (toLE 2 max.toNat))
    ∧ (∃ (s : State), 1 ≤ s.phase ∧ s.phase ≤ 8)
    ∧ (∃ (s : State), s.phase = 0xA ∧ s.island 13 = 2)
    ∧ (∃ (s : State), s.phase = 0xA ∧ s.island 13 ≠ 2)
    ∧ (∃ (s : State) (rec : Bytes), (s.filters.any (fun x => filterHits x (u8 rec 0) (u8 rec 1) (le rec 4 4)) = false))
    ∧ (∃ (s : State) (rec : Bytes), s.enabled .hif = true ∧ u8 rec 0 ≤ 2 ∧ s.busUp (portTransport (u8 rec 0)) = true ∧ s.frameReserved (u8 rec 0) (u8 rec 1) (le rec 4 4) = false ∧ (s.filters.any (fun x => filterHits x (u8 rec 0) (u8 rec 1) (le rec 4 4)) = true))
    ∧ (∃ (s : State) (rec : Bytes), s.enabled .hif = true ∧ u8 rec 0 ≤ 2 ∧ s.busUp (portTransport (u8 rec 0)) = true ∧ s.frameReserved (u8 rec 0) (u8 rec 1) (le rec 4 4) = false ∧ (s.filters.any (fun x => filterHits x (u8 rec 0) (u8 rec 1) (le rec 4 4)) = true) ∧ 131072 < (s.hif.rxq.foldl (fun m x => m + x.bytes.length) 0) + (⟨rec.take 8 ++ padTo 6 (slice rec 8 6) ++ zeros 2 ++ s.rxStamp (u8 rec 0) ++ padTo (((le rec 2 2) + 3) / 4 * 4) (padTo (le rec 2 2) (rec.drop 0x1C))⟩ : RxRec).bytes.length)
    ∧ (∃ (s : State) (rec : Bytes), s.enabled .hif = true ∧ u8 rec 0 ≤ 2 ∧ s.busUp (portTransport (u8 rec 0)) = true ∧ s.frameReserved (u8 rec 0) (u8 rec 1) (le rec 4 4) = false ∧ (s.filters.any (fun x => filterHits x (u8 rec 0) (u8 rec 1) (le rec 4 4)) = true) ∧ (s.hif.rxq.foldl (fun m x => m + x.bytes.length) 0) + (⟨rec.take 8 ++ padTo 6 (slice rec 8 6) ++ zeros 2 ++ s.rxStamp (u8 rec 0) ++ padTo (((le rec 2 2) + 3) / 4 * 4) (padTo (le rec 2 2) (rec.drop 0x1C))⟩ : RxRec).bytes.length ≤ 131072)
    ∧ (∃ (s : State) (c : Fin 2), s.flag (upField c.val) = true ∧ s.flag (busOffField c.val) = false ∧ s.hif.txq = [])
    ∧ (∃ (s : State) (c : Fin 2), s.flag (busOffField c.val) = true ∧ s.hif.recovering = [])
    ∧ (∃ (s : State) (c : Fin 2), s.flag (busOffField c.val) = false)
    ∧ (∃ (s : State) (c : Fin 2), s.hif.recovering.contains c.val = true ∧ s.hif.busResp = [])
    ∧ (∃ (s : State), s.flag F.HIF_STAT_PLCA_ACTIVE = true ∧ s.flag F.HIF_T1S_STAT_COORD = false)
    ∧ (∃ (s : State), s.flag F.HIF_T1S_STAT_COORD = true)
    ∧ (∃ (s : State), s.flag F.HIF_STAT_T1S_UP = true ∧ u8 s.linksSec 0x38 = 1)
    ∧ (∃ (s : State) (p : Fin 3), s.linkOn p.val = true ∧ (if p.val = 2 then Nat.testBit (u8 s.linksSec 0x3E) 0 else s.canFlag p.val 3) = true ∧ s.pwr.standby = true)
    ∧ (∃ (s : State) (p : Fin 3), s.linkOn p.val = false)
    ∧ (∃ (s : State), s.pwr.standby = true)
    ∧ (∃ (s : State), s.pwr.standby = false ∧ s.island 13 ≠ 0) :=
  ⟨⟨hosted Hif.reset, canFrame, by decide⟩,
    ⟨up, zeros 16, by decide⟩,
    ⟨up, 0, by decide⟩,
    ⟨ph 1, by decide⟩,
    ⟨up, by decide⟩,
    ⟨off, by decide⟩,
    ⟨up, [], by decide⟩,
    ⟨hosted Hif.reset, heardFrame, by decide⟩,
    ⟨hosted { Hif.reset with rxq := [⟨List.replicate 131072 0⟩] }, heardFrame, by decide, by decide, by decide, by decide, by decide, by rw [full_queue]; decide⟩,
    ⟨hosted Hif.reset, heardFrame, by decide⟩,
    ⟨hosted Hif.reset, 0, by decide⟩,
    ⟨fx up [(F.HIF_STAT_CAN0_BUSOFF, 1)], 0, by decide⟩,
    ⟨up, 0, by decide⟩,
    ⟨hosted { Hif.reset with recovering := [0] }, 0, by decide⟩,
    ⟨fx up [(F.HIF_STAT_PLCA_ACTIVE, 1)], by decide⟩,
    ⟨fx up [(F.HIF_T1S_STAT_COORD, 1)], by decide⟩,
    ⟨hosted Hif.reset, by decide⟩,
    ⟨{ hosted Hif.reset with pwr := { Power.reset with standby := true } }, 0, by decide⟩,
    ⟨up, 0, by decide⟩,
    ⟨{ up with pwr := { Power.reset with standby := true } }, by decide⟩,
    ⟨up, by decide⟩⟩

/-- Each clause of PartnersArePairedAndDiscovered (its part 2) has a state and operands that meet its hypotheses together. -/
theorem witness_PartnersArePairedAndDiscovered_2 :
    (∃ (s : State) (payload : Bytes), s.latching = false ∧ s.discPorts.contains 2 = true ∧ s.portUp 2 = true ∧ 148 ≤ payload.length)
    ∧ (∃ (s : State), s.latching = true)
    ∧ (∃ (s : State) (port : Fin 3), s.latching = false ∧ s.discPorts.contains port.val = false)
    ∧ (∃ (s : State) (port : Fin 3) (payload : Bytes), s.latching = false ∧ s.discPorts.contains port.val = true ∧ s.portUp port.val = true ∧ port.val ≠ 2 ∧ payload.length = 64 ∧ u8 payload 0 ≤ 2)
    ∧ (∃ (s : State) (m : Bytes), u8 m 0 = 0x61 ∧ u8 m 2 = 1 ∧ s.pidPaired (be m 4 8) = false)
    ∧ (∃ (s : State) (m : Bytes), u8 m 0 = 0x61 ∧ u8 m 2 = 1 ∧ s.pidPaired (be m 4 8) = true)
    ∧ (∃ (s : State) (k : KeyRec), s.island 13 = 2 ∧ s.discPorts.any s.portUp = true ∧ s.keyRec? 6 pxkIndex = some k ∧ s.hif.announceMt + 2000000 ≤ s.mt)
    ∧ (∃ (s : State) (k : KeyRec), s.island 13 = 2 ∧ s.discPorts.any s.portUp = true ∧ s.keyRec? 6 pxkIndex = some k ∧ s.hif.linkUp = true)
    ∧ (∃ (s : State), s.hif.query = false ∧ s.mt < s.hif.announceMt + 2000000)
    ∧ (∃ (s : State), s.mbReady 0x0903 []) :=
  ⟨⟨discT1s, zeros 148, by decide⟩,
    ⟨ph 3, by decide⟩,
    ⟨up, 1, by decide⟩,
    ⟨discState Hif.reset, 0, zeros 64, by decide⟩,
    ⟨up, hello, by decide⟩,
    ⟨up, [0x61, 0, 1] ++ zeros 145, by decide⟩,
    ⟨discState Hif.reset, ⟨6, 2, 1, 0, [], []⟩, by decide⟩,
    ⟨discState { Hif.reset with linkUp := true }, ⟨6, 2, 1, 0, [], []⟩, by decide⟩,
    ⟨discState { Hif.reset with announceMt := 1000000000000 }, by decide⟩,
    ⟨up, by decide⟩⟩

/-- Each clause of ImagesAndSettingsAreWritten has a state and operands that meet its hypotheses together. -/
theorem witness_ImagesAndSettingsAreWritten :
    (∃ (s : State) (n : BitVec 32) (off : Nat) (size : Nat), s.mbReady 0x0201 (toLE 4 n.toNat) ∧ (s.begun 0x0201 (toLE 4 n.toNat)).sys.cfgWrite = none ∧ (s.begun 0x0201 (toLE 4 n.toNat)).nor.fitted = true ∧ (s.begun 0x0201 (toLE 4 n.toNat)).copySlot (s.begun 0x0201 (toLE 4 n.toNat)).targetCopy = some (off, size) ∧ 336 ≤ n.toNat ∧ n.toNat ≤ imageMax ∧ n.toNat ≤ size)
    ∧ (∃ (s : State) (n : BitVec 32), s.mbReady 0x0201 (toLE 4 n.toNat) ∧ s.sys.cfgWrite.isSome = true)
    ∧ (∃ (s : State) (index : BitVec 32) (data : Bytes) (env : Env) (w : CfgWrite) (off : Nat) (size : Nat), s.mbReady 0x0202 (toLE 4 index.toNat ++ data) ∧ (s.begun 0x0202 (toLE 4 index.toNat ++ data)).sys.cfgWrite = some w ∧ index.toNat = (w.bytes.length / 65536) ∧ data.length = min 65536 (w.len - w.bytes.length) ∧ (s.begun 0x0202 (toLE 4 index.toNat ++ data)).copySlot w.target = some (off, size) ∧ env.nor0 = true ∧ env.nor1 = true)
    ∧ (∃ (s : State) (index : BitVec 32) (data : Bytes) (env : Env) (w : CfgWrite) (off : Nat) (size : Nat), s.mbReady 0x0202 (toLE 4 index.toNat ++ data) ∧ (s.begun 0x0202 (toLE 4 index.toNat ++ data)).sys.cfgWrite = some w ∧ index.toNat = (w.bytes.length / 65536) ∧ data.length = min 65536 (w.len - w.bytes.length) ∧ (s.begun 0x0202 (toLE 4 index.toNat ++ data)).copySlot w.target = some (off, size) ∧ env.nor0 = true ∧ env.nor1 = true ∧ (s.begun 0x0202 (toLE 4 index.toNat ++ data)).exposed ({ w with bytes := w.bytes ++ data } : CfgWrite) size = 0 ∧ ({ w with bytes := w.bytes ++ data } : CfgWrite).bytes.length < w.len)
    ∧ (∃ (s : State) (index : BitVec 32) (data : Bytes) (env : Env) (w : CfgWrite) (off : Nat) (size : Nat), s.mbReady 0x0202 (toLE 4 index.toNat ++ data) ∧ (s.begun 0x0202 (toLE 4 index.toNat ++ data)).sys.cfgWrite = some w ∧ index.toNat = (w.bytes.length / 65536) ∧ data.length = min 65536 (w.len - w.bytes.length) ∧ (s.begun 0x0202 (toLE 4 index.toNat ++ data)).copySlot w.target = some (off, size) ∧ env.nor0 = true ∧ env.nor1 = true ∧ (s.begun 0x0202 (toLE 4 index.toNat ++ data)).exposed ({ w with bytes := w.bytes ++ data } : CfgWrite) size = 0 ∧ w.len ≤ ({ w with bytes := w.bytes ++ data } : CfgWrite).bytes.length ∧ (match ({ (s.begun 0x0202 (toLE 4 index.toNat ++ data)) with nor := { (s.begun 0x0202 (toLE 4 index.toNat ++ data)).nor with cells := norWrite (s.begun 0x0202 (toLE 4 index.toNat ++ data)).nor.cells (off + w.bytes.length) data }, sys := { (s.begun 0x0202 (toLE 4 index.toNat ++ data)).sys with cfgWrite := some ({ w with bytes := w.bytes ++ data } : CfgWrite) } }).candidate (norRead ({ (s.begun 0x0202 (toLE 4 index.toNat ++ data)) with nor := { (s.begun 0x0202 (toLE 4 index.toNat ++ data)).nor with cells := norWrite (s.begun 0x0202 (toLE 4 index.toNat ++ data)).nor.cells (off + w.bytes.length) data }, sys := { (s.begun 0x0202 (toLE 4 index.toNat ++ data)).sys with cfgWrite := some ({ w with bytes := w.bytes ++ data } : CfgWrite) } }).nor.cells off w.len) size env.vioHigh with | .ok _ => 0 | .error e => e) < 0x10000)
    ∧ (∃ (s : State) (index : BitVec 32) (data : Bytes) (env : Env) (w : CfgWrite) (off : Nat) (size : Nat), s.mbReady 0x0202 (toLE 4 index.toNat ++ data) ∧ (s.begun 0x0202 (toLE 4 index.toNat ++ data)).sys.cfgWrite = some w ∧ index.toNat = (w.bytes.length / 65536) ∧ data.length = min 65536 (w.len - w.bytes.length) ∧ (s.begun 0x0202 (toLE 4 index.toNat ++ data)).copySlot w.target = some (off, size) ∧ env.nor0 = true ∧ env.nor1 = true ∧ (s.begun 0x0202 (toLE 4 index.toNat ++ data)).exposed ({ w with bytes := w.bytes ++ data } : CfgWrite) size ≠ 0 ∧ (s.begun 0x0202 (toLE 4 index.toNat ++ data)).exposed ({ w with bytes := w.bytes ++ data } : CfgWrite) size < 0x10000)
    ∧ (∃ (s : State) (k : Nat), s.sys.readySeen = true ∧ s.sys.unchecked = [k])
    ∧ (∃ (s : State), s.sys.unchecked = [])
    ∧ (∃ (s : State) (id : BitVec 16) (r : SettingRec), s.mbReady 0x0203 (toLE 2 id.toNat) ∧ ((s.begun 0x0203 (toLE 2 id.toNat)).settingList.find? (fun r => r.id == id.toNat) = some r))
    ∧ (∃ (s : State) (id : BitVec 16), s.mbReady 0x0203 (toLE 2 id.toNat) ∧ ((s.begun 0x0203 (toLE 2 id.toNat)).settingList.find? (fun r => r.id == id.toNat) = none))
    ∧ (∃ (s : State) (id : BitVec 16) (v : Word) (r : SettingRec) (k : SettingsBank), s.mbReady 0x0204 (toLE 2 id.toNat ++ toLE 4 v.toNat) ∧ ((s.begun 0x0204 (toLE 2 id.toNat ++ toLE 4 v.toNat)).settingList.find? (fun r => r.id == id.toNat) = some r) ∧ (s.begun 0x0204 (toLE 2 id.toNat ++ toLE 4 v.toNat)).vault.bank = some k)
    ∧ (∃ (s : State) (id : BitVec 16) (v : Word) (r : SettingRec) (k : SettingsBank), s.mbReady 0x0204 (toLE 2 id.toNat ++ toLE 4 v.toNat) ∧ ((s.begun 0x0204 (toLE 2 id.toNat ++ toLE 4 v.toNat)).settingList.find? (fun r => r.id == id.toNat) = some r) ∧ (s.begun 0x0204 (toLE 2 id.toNat ++ toLE 4 v.toNat)).vault.bank = some k ∧ Nat.testBit r.flags 0 = true ∧ settingLe r r.lo v.toNat = true ∧ settingLe r v.toNat r.hi = true)
    ∧ (∃ (s : State) (id : BitVec 16) (v : Word) (r : SettingRec) (k : SettingsBank), s.mbReady 0x0204 (toLE 2 id.toNat ++ toLE 4 v.toNat) ∧ ((s.begun 0x0204 (toLE 2 id.toNat ++ toLE 4 v.toNat)).settingList.find? (fun r => r.id == id.toNat) = some r) ∧ (s.begun 0x0204 (toLE 2 id.toNat ++ toLE 4 v.toNat)).vault.bank = some k ∧ Nat.testBit r.flags 0 = true ∧ settingLe r v.toNat r.hi = false)
    ∧ (∃ (s : State) (id : BitVec 16) (v : Word) (r : SettingRec) (k : SettingsBank), s.mbReady 0x0204 (toLE 2 id.toNat ++ toLE 4 v.toNat) ∧ ((s.begun 0x0204 (toLE 2 id.toNat ++ toLE 4 v.toNat)).settingList.find? (fun r => r.id == id.toNat) = some r) ∧ (s.begun 0x0204 (toLE 2 id.toNat ++ toLE 4 v.toNat)).vault.bank = some k ∧ Nat.testBit r.flags 0 = false) :=
  ⟨⟨writing none, 336, 0x30000, 0x10000, by decide⟩,
    ⟨writing (some ⟨336, 1, []⟩), 0, by decide⟩,
    ⟨writing (some ⟨336, 1, []⟩), 0, zeros 336, env, ⟨336, 1, []⟩, 0x30000, 0x10000, by decide⟩,
    ⟨writing (some ⟨70000, 1, []⟩), 0, big, env, ⟨70000, 1, []⟩, 0x30000, 0x10000, big_chunk, rfl, rfl, by rw [big_length]; decide, by decide, rfl, rfl, by rw [List.nil_append]; exact big_exposed, by rw [List.nil_append, big_length]; decide⟩,
    ⟨writing (some ⟨336, 1, []⟩), 0, zeros 336, env, ⟨336, 1, []⟩, 0x30000, 0x10000, by decide⟩,
    ⟨writing (some ⟨336, 1, []⟩), 0, toLE 4 0x4E594E58 ++ toLE 4 1 ++ toLE 4 64 ++ zeros 324, env, ⟨336, 1, []⟩, 0x30000, 0x10000, by decide⟩,
    ⟨{ up with sys := { up.sys with readySeen := true, unchecked := [1] } }, 1, by decide⟩,
    ⟨up, by decide⟩,
    ⟨tuned 1, 0x0301, setRec 1, by decide⟩,
    ⟨up, 0, by decide⟩,
    ⟨tuned 1, 0x0301, 5, setRec 1, ⟨1, [(0x0301, 5)]⟩, by decide⟩,
    ⟨tuned 1, 0x0301, 5, setRec 1, ⟨1, [(0x0301, 5)]⟩, by decide⟩,
    ⟨tuned 1, 0x0301, 10, setRec 1, ⟨1, [(0x0301, 5)]⟩, by decide⟩,
    ⟨tuned 0, 0x0301, 5, setRec 0, ⟨1, [(0x0301, 5)]⟩, by decide⟩⟩


/-! ## Ill-formed terms, one for each check of WellFormed -/

theorem test_nop_with_read_op : wellFormed (.spiNop 1 0 0 1 0) = false ∧ wellFormed (.spiNop 2 0 0 1 0) = false
    ∧ wellFormed (.spiNop 3 0 0 1 0) = false ∧ wellFormed (.spiNop 0 0 0 1 0) = true ∧ wellFormed (.spiNop 4 0 0 1 0) = true := by decide
theorem test_frame_of_1025_words : wellFormed (.spiWrite 0 0 0 (List.replicate 1025 0) 0 env) = false := by
  rw [wellFormed, List.length_replicate]; decide
theorem test_register_write_of_1025_words : wellFormed (.regWrite 0 (List.replicate 1025 0) env) = false := by
  rw [wellFormed, List.length_replicate]; decide
theorem test_message_of_66561_bytes : wellFormed (.echo (List.replicate 66561 0)) = false := by
  rw [wellFormed, fitsMessage, List.length_replicate]; decide
theorem test_segment_over_spi : wellFormed (.mailboxSegment .spi [0] 0) = false := by decide
theorem test_segment_of_1501_bytes : wellFormed (.mailboxSegment .t1s (List.replicate 1501 0) 0) = false := by
  rw [wellFormed, List.length_replicate]; decide
theorem test_frame_record_of_27_bytes : wellFormed (.busFrameReceive (zeros 27)) = false ∧ wellFormed (.busFrameReceive (zeros 28)) = true := by
  decide

/-! ## Worked values -/

/-- The check values of the 2 CRCs over the digits 1 to 9, computed by hand from the generator and initial values of R434 and R98. -/
theorem test_crc32c_of_digits : crc32c [0x31, 0x32, 0x33, 0x34, 0x35, 0x36, 0x37, 0x38, 0x39] = 0xE3069283 := by decide
theorem test_crc16_of_digits : crc16 [0x31, 0x32, 0x33, 0x34, 0x35, 0x36, 0x37, 0x38, 0x39] = 0x29B1 := by decide

/-- The worked example of 04_tokens.md: L is 4096; CTR 4497 is refused with 0x080B, CTR 4498 pressed 3 s later is accepted, its copies are
repeats, and a replayed 4497 is refused with 0x0809. -/
def pressed (ctr : Nat) (t : Tok) : State := { up with tok := t, vault := { up.vault with slots := { slotF with ctr := ctr } :: List.replicate 63 .empty } }
theorem test_press_far_ahead : (pressed 4096 Tok.reset).rkeCounter 0 4497 1 = (0x080B, false) := by decide
theorem test_press_after_it : (pressed 4096 { Tok.reset with resync := [(0, 4497, up.mt - 3000000)] }).rkeCounter 0 4498 1 = (0, true) := by decide
theorem test_replayed_press : (pressed 4498 Tok.reset).rkeCounter 0 4497 1 = (0x0809, false) := by decide

/-- The worked example of 01_architecture.md (Table 1-7): of the jobs J1 (door), J2 (RKE), J3 (cab interior) and J4 (start request), J4 goes first,
then J3, J1 and J2. -/
theorem test_tile_jobs_in_order :
    let j1 : TileJob := ⟨1, 3, 1, .service⟩
    let j2 : TileJob := ⟨2, 4, 2, .service⟩
    let j3 : TileJob := ⟨3, 2, 3, .service⟩
    let j4 : TileJob := ⟨4, 1, 4, .service⟩
    nextJob [j1, j2, j3, j4] = some j4 ∧ nextJob [j1, j2, j3] = some j3 ∧ nextJob [j1, j2] = some j1 := by decide

/-- No word spells a command, and the fetch helper leaves the state as it is (log entry 1). -/
theorem test_no_word_spells_a_command : decodeTableWord 32 0x12345678 = none ∧ up.withFetchWord 32 0x12345678 = up := ⟨rfl, rfl⟩

/-- The balls right after reset: READY low, INT_N inactive, both release switches off, FEC low (Table 17-3). -/
theorem test_balls_at_reset : State.reset.readyBall = false ∧ State.reset.intLow = false ∧ State.reset.lockrelBalls = (false, false)
    ∧ State.reset.fecBalls = [0] := by decide

/-- A test of MODE 3 drives the TX24 pattern, the highest nibble of FEC_MAP (Tables 6-7 and 6-9). -/
theorem test_fec_in_a_test : fecDirs 0xA 3 = [.tx24] ∧ fecPlace .tx24 = 4 := by decide
end Sys2Proof.Tests
end

section
/-! SUPPORT. What a host write of one register does (R5, R6, R459, Table 3-2): which accesses the phase admits, the rule of each register that has
one of its own, and the reset that SYS_RESET and every other reset source shares (R66). -/
namespace Sys2Proof.Machine

open Sys2Proof

/-! ## Which writes are admitted -/

/-- The address map below 0xF000 is the register blocks. -/
theorem regionOf_block {addr : Nat} (h : addr < 0xF000) : regionOf addr = some (.block (addr / 0x1000)) := if_pos h

/-- Above the register blocks no address is a register. -/
theorem regionOf_ne_block {addr : Nat} (h : ¬ addr < 0xF000) (n : Nat) : regionOf addr ≠ some (.block n) := by
  unfold regionOf
  rw [if_neg h]
  split_ifs <;> simp

/-- An admitted write takes effect on the fields of its register. -/
theorem registerWrite_of_admitted {s : State} {addr : Nat} (h : s.writeAdmitted addr = true) (v : Nat) :
    registerWrite addr v s = writePlain addr v s := by
  simp only [State.writeAdmitted, Bool.and_eq_true, beq_iff_eq, decide_eq_true_eq] at h
  obtain ⟨⟨⟨hrange, hblock⟩, hphase⟩, henable⟩ := h
  simp [registerWrite, hrange, regionOf_block hblock, hphase, henable]

/-- A write that is not admitted has no effect. -/
theorem registerWrite_of_not_admitted {s : State} {addr : Nat} (h : s.writeAdmitted addr = false) (v : Nat) :
    registerWrite addr v s = s := by
  unfold registerWrite
  split_ifs with hrange
  · rfl
  · by_cases hblock : addr < 0xF000
    · have hno : (s.accessOk true (.block (addr / 0x1000)) [addr] && !s.enableOnly addr) = false := by
        simpa [State.writeAdmitted, not_not.mp hrange, hblock] using h
      simp [regionOf_block hblock, hno]
    · split
      · next n hn => exact absurd hn (regionOf_ne_block hblock n)
      · rfl

/-- The address of an admitted write is aligned to a word. -/
theorem aligned_of_writeAdmitted {s : State} {addr : Nat} (h : s.writeAdmitted addr = true) : addr % 4 = 0 := by
  by_contra hmis
  simp [State.writeAdmitted, rangeCheck, hmis] at h

/-- REGISTER_WRITE where the phase admits the access. -/
theorem exec_registerWrite {s : State} {addr : BitVec 24} (h : s.writeAdmitted addr.toNat = true) (v : Word) :
    exec (.registerWrite addr v) s = .next (writePlain addr.toNat v.toNat s) :=
  congrArg Host.Outcome.next (registerWrite_of_admitted h v.toNat)

/-- REGISTER_WRITE where the phase does not admit the access. -/
theorem exec_registerWrite_refused {s : State} {addr : BitVec 24} (h : s.writeAdmitted addr.toNat = false) (v : Word) :
    exec (.registerWrite addr v) s = .next s :=
  congrArg Host.Outcome.next (registerWrite_of_not_admitted h v.toNat)

/-! ## Registers and fields after a write -/

theorem State.reg_lt (s : State) (off : Nat) : s.reg off < 2 ^ 32 := wordAt_lt _ _

theorem State.reg_setReg_same (s : State) (off v : Nat) : (s.setReg off v).reg off = v % 2 ^ 32 := wordAt_setWord_same _ _ _

theorem State.reg_setReg_other (s : State) {off off2 : Nat} (h : off2 ≠ off) (v : Nat) : (s.setReg off v).reg off2 = s.reg off2 :=
  wordAt_setWord_other _ _ _ _ h

theorem State.reg_put_same (s : State) (f : Field) (v : Nat) :
    (s.put f v).reg f.off = insertField (s.reg f.off) f.hi f.lo v % 2 ^ 32 := wordAt_setField_same _ _ _

theorem State.reg_put_other (s : State) {f : Field} {off : Nat} (h : off ≠ f.off) (v : Nat) : (s.put f v).reg off = s.reg off :=
  wordAt_setField_other _ _ _ _ h

theorem State.get_setReg_other (s : State) {off : Nat} {f : Field} (h : f.off ≠ off) (v : Nat) : (s.setReg off v).get f = s.get f :=
  fieldAt_setWord_other _ _ _ _ h

theorem State.get_put_same (s : State) (f : Field) (v : Nat) (h1 : f.lo ≤ f.hi) (h2 : f.hi < 32) :
    (s.put f v).get f = v % 2 ^ (f.hi + 1 - f.lo) := fieldAt_setField_same _ _ _ h1 h2

/-- A write of a field leaves the fields of other registers and the fields apart from it in its own. -/
theorem State.get_put_apart (s : State) (f g : Field) (v : Nat) (h1 : f.lo ≤ f.hi) (h2 : g.hi < 32)
    (h : g.off ≠ f.off ∨ g.hi < f.lo ∨ f.hi < g.lo) : (s.put f v).get g = s.get g := by
  by_cases ho : g.off = f.off
  · exact fieldAt_setField_apart _ _ _ _ ho h1 h2 (h.resolve_left (not_not.mpr ho))
  · exact fieldAt_setField_other _ _ _ _ ho

/-- The value of a field is below the size of the field. -/
theorem bits_mod_self (v hi lo : Nat) : bits v hi lo % 2 ^ (hi + 1 - lo) = bits v hi lo := Nat.mod_mod _ _

theorem keepsFields_refl (s : State) (l : List Field) : keepsFields s s l := fun _ _ _ => rfl

/-- A further write of a field of the list keeps every field outside it. -/
theorem keepsFields_put {s t : State} {l : List Field} (h : keepsFields s t l) {f : Field} (hf : f ∈ l) (hlo : f.lo ≤ f.hi) (v : Nat) :
    keepsFields s (t.put f v) l := by
  intro g hg hapart
  rw [State.get_put_apart t f g v hlo hg (hapart f hf), h g hg hapart]

/-! ## The rule of each register -/

theorem writePlain_pwrCtl (v : Nat) (s : State) : writePlain R.PWR_CTL v s = hostHold (Nat.testBit v 2) s := rfl

theorem writePlain_lfCtl (v : Nat) (s : State) : writePlain R.LF_CTL v s = candleHold (Nat.testBit v 1) s := rfl

theorem writePlain_rfCtl (v : Nat) (s : State) : writePlain R.RF_CTL v s = sniffHold (Nat.testBit v 1) s := rfl

theorem writePlain_nfcCtl (v : Nat) (s : State) : writePlain R.NFC_CTL v s
    = if Nat.testBit v 1 = s.flag F.NFC_CTL_READER_OFF then s else readerOff (Nat.testBit v 1) s := by
  simp [writePlain]

theorem writePlain_ntIncInt (v : Nat) (s : State) : writePlain R.TIM_NT_INC_INT v s = ntIncWrite (v % 256) s := by
  simp [writePlain, R.TIM_NT_INC_INT]

/-- NT_INC_WRITE is the write of the low 8 bits. -/
theorem exec_ntIncWrite (v : Word) (s : State) : exec (.ntIncWrite (BitVec.ofNat 8 v.toNat)) s = .next (ntIncWrite (v.toNat % 256) s) :=
  congrArg (fun n => Host.Outcome.next (ntIncWrite n s)) (BitVec.toNat_ofNat _ _)

theorem writePlain_ntSetHigh (v : Nat) (s : State) :
    writePlain R.TIM_NT_SET_S_HI v s = s.setReg R.TIM_NT_SET_S_HI (v % 2 ^ 16) := by
  simp [writePlain, R.TIM_NT_SET_S_HI]

theorem writePlain_jrnlAckHigh (v : Nat) (s : State) : writePlain R.STO_JRNL_ACK_HI v s = jrnlAck v s := by
  simp [writePlain, R.STO_JRNL_ACK_HI]

theorem writePlain_ntIncFrac (v : Nat) (s : State) : writePlain R.TIM_NT_INC_FRAC v s
    = if s.ntMode = 1 then s.reason .tim 0x0403 else s.writeFields R.TIM_NT_INC_FRAC v := by
  simp [writePlain, R.TIM_NT_INC_FRAC]

theorem writePlain_stoWinCtl (v : Nat) (s : State) : writePlain R.STO_WIN_CTL v s
    = if bits v 4 0 ≤ 3 ∨ 16 ≤ bits v 4 0 then s.put F.STO_WIN_CTL_STREAM (bits v 4 0) else s := by
  simp [writePlain, R.STO_WIN_CTL]

/-- A CTL register without a hold bit of its own has no field that a write of its fields changes. -/
theorem writePlain_blockStart {off : Nat} (h0 : off % 0x1000 = 0) (hne : off ∉ [R.PWR_CTL, R.LF_CTL, R.RF_CTL, R.NFC_CTL]) (v : Nat)
    (s : State) : writePlain off v s = s := by
  simp only [List.mem_cons, List.not_mem_nil, or_false, not_or] at hne
  simp [writePlain, h0, hne]

theorem writePlain_lfChannel {c : Nat} (hc : c < 8) (v : Nat) (s : State) : writePlain (0x3040 + 16 * c) v s
    = if Nat.testBit v 0 = s.flag (F.LF_CHn_CTL_OFF c) then s else lfChannelOff c (Nat.testBit v 0) s := by
  interval_cases c <;> simp [writePlain]

theorem writePlain_rfChain {c : Nat} (hc : c < 4) (v : Nat) (s : State) : writePlain (0x4048 + 16 * c) v s
    = if Nat.testBit v 0 = s.flag (F.RF_CHn_CTL_OFF c) then s else chainOff c (Nat.testBit v 0) s := by
  interval_cases c <;> simp [writePlain]

theorem writePlain_pulseCtl {u : Nat} (hu : u < 4) (v : Nat) (s : State) : writePlain (R.TIM_PULSEn_CTL u) v s = pulseCtl u v s := by
  interval_cases u <;> rfl

/-- START, PERIOD and WIDTH stand behind the CTL of their unit. -/
theorem writePlain_pulseWord {u off : Nat} (hu : u < 4)
    (h : off = R.TIM_PULSEn_START u ∨ off = R.TIM_PULSEn_PERIOD u ∨ off = R.TIM_PULSEn_WIDTH u) (v : Nat) (s : State) :
    writePlain off v s = pulseWord u off v s := by
  rcases h with rfl | rfl | rfl <;> interval_cases u <;> rfl

/-- A register without behaviour of its own takes the values of its fields. -/
theorem writePlain_fieldsOnly {off : Nat} (h : fieldsOnly off = true) (v : Nat) (s : State) : writePlain off v s = s.writeFields off v := by
  simp only [fieldsOnly, Bool.and_eq_true, Bool.not_eq_true', bne_iff_ne, ne_eq, Bool.and_eq_false_iff, decide_eq_false_iff_not,
    beq_eq_false_iff_ne, List.contains_eq_mem, List.mem_cons, List.not_mem_nil, or_false, not_or] at h
  obtain ⟨⟨⟨⟨hctl, hlf⟩, hrf⟩, hpulse⟩, hown⟩ := h
  have hlf' : ¬ ((0x3040 ≤ off ∧ off < 0x30C0) ∧ off % 16 = 0) := by omega
  have hrf' : ¬ ((0x4048 ≤ off ∧ off < 0x4088) ∧ off % 16 = 8) := by omega
  have hpulse' : ¬ ((0x2080 ≤ off ∧ off < 0x20C0) ∧ off % 4 = 0) := by omega
  have hhold : off ≠ R.PWR_CTL ∧ off ≠ R.LF_CTL ∧ off ≠ R.RF_CTL ∧ off ≠ R.NFC_CTL := by
    refine ⟨?_, ?_, ?_, ?_⟩ <;> rintro rfl <;> exact hctl rfl
  simp only [writePlain, hhold, hctl, hown, if_false, Bool.and_eq_true, decide_eq_true_eq, hlf', hrf', hpulse', false_and]

theorem State.writeFields_row {s : State} {off : Nat} {r : RegRow} (h : regRow? off = some r) (v : Nat) :
    s.writeFields off v = s.setReg off (writtenWord r (s.reg off) v) := by
  simp [State.writeFields, h]

theorem State.writeFields_none {s : State} {off : Nat} (h : regRow? off = none) (v : Nat) : s.writeFields off v = s := by
  simp [State.writeFields, h]

/-! ## The increment of NT -/

theorem writtenWord_of_oneField {r : RegRow} {hi lo : Nat} (h : r.fields = [⟨hi, lo, .rw⟩]) (old v : Nat) :
    writtenWord r old v = insertField old hi lo (bits v hi lo) := by
  rw [writtenWord, h]
  rfl

/-- A field of 32 bits is its word. -/
theorem insertField_whole {old v : Nat} (ho : old < 2 ^ 32) (hv : v < 2 ^ 32) : insertField old 31 0 (bits v 31 0) = v := by
  simp only [insertField, bits, Nat.reduceAdd, Nat.reduceSub, pow_zero, Nat.div_one, Nat.mod_one]
  omega

theorem regRow_ntIncFrac : regRow? R.TIM_NT_INC_FRAC = some ⟨"TIM_NT_INC_FRAC", R.TIM_NT_INC_FRAC, [], 0, [⟨31, 0, .rw⟩]⟩ := by
  decide

/-- FRAC fills its register (R366). -/
theorem State.writeFields_ntIncFrac (s : State) {v : Nat} (hv : v < 2 ^ 32) :
    s.writeFields R.TIM_NT_INC_FRAC v = s.setReg R.TIM_NT_INC_FRAC v := by
  rw [State.writeFields_row regRow_ntIncFrac, writtenWord_of_oneField rfl, insertField_whole (s.reg_lt _) hv]

/-! ## STO_WIN_CTL and RF_TEST -/

/-- STREAM takes a region or a stream; the encodings between them are reserved and leave it (R5). -/
theorem writePlain_stoWinCtl_spec (v : Nat) (s : State) :
    (writePlain R.STO_WIN_CTL v s).get F.STO_WIN_CTL_STREAM
      = (if bits v 4 0 ≤ 3 ∨ 16 ≤ bits v 4 0 then bits v 4 0 else s.get F.STO_WIN_CTL_STREAM)
    ∧ keepsFields s (writePlain R.STO_WIN_CTL v s) [F.STO_WIN_CTL_STREAM]
    ∧ writePlain R.STO_WIN_CTL v s = { s with regs := (writePlain R.STO_WIN_CTL v s).regs } := by
  rw [writePlain_stoWinCtl]
  split
  · refine ⟨?_, keepsFields_put (keepsFields_refl s _) (List.mem_singleton_self _) (by decide) _, rfl⟩
    rw [State.get_put_same _ _ _ (by decide) (by decide)]
    exact bits_mod_self v 4 0
  · exact ⟨rfl, keepsFields_refl s _, rfl⟩

/-- RF_TEST with the bits below MODE written and MODE as it stood. -/
def State.rfTestLow (s : State) (v : Nat) : State := s.setReg R.RF_TEST (v % 2 ^ 24 + s.get F.RF_TEST_MODE * 2 ^ 24)

theorem writePlain_rfTest (v : Nat) (s : State) : writePlain R.RF_TEST v s
    = if bits v 27 24 ≤ 5 then (s.rfTestLow v).put F.RF_TEST_MODE (bits v 27 24) else s.rfTestLow v := rfl

theorem State.rfTestLow_reg (s : State) (v : Nat) :
    (s.rfTestLow v).reg R.RF_TEST = (v % 2 ^ 24 + s.get F.RF_TEST_MODE * 2 ^ 24) % 2 ^ 32 := State.reg_setReg_same _ _ _

theorem State.rfTestLow_low (s : State) (v : Nat) : (s.rfTestLow v).reg R.RF_TEST % 2 ^ 24 = v % 2 ^ 24 := by
  rw [State.rfTestLow_reg]
  omega

theorem State.rfTestLow_mode (s : State) (v : Nat) : (s.rfTestLow v).get F.RF_TEST_MODE = s.get F.RF_TEST_MODE := by
  have hm : s.get F.RF_TEST_MODE < 2 ^ 4 := Nat.mod_lt _ (by decide)
  rw [State.get, State.rfTestLow_reg]
  show _ / 2 ^ 24 % 2 ^ 4 = _
  omega

theorem State.rfTestLow_keeps (s : State) (v : Nat) : keepsRegs s (s.rfTestLow v) [R.RF_TEST] := fun _ ho =>
  State.reg_setReg_other _ (List.mem_singleton.not.mp ho) _

/-- MODE lies above the low bits of RF_TEST. -/
theorem State.rfTest_low_put_mode (s : State) (k : Nat) :
    (s.put F.RF_TEST_MODE k).reg R.RF_TEST % 2 ^ 24 = s.reg R.RF_TEST % 2 ^ 24 := by
  rw [State.reg_put_same s F.RF_TEST_MODE k]
  show insertField (s.reg R.RF_TEST) 27 24 k % 2 ^ 32 % 2 ^ 24 = _
  simp only [insertField, Nat.reduceAdd, Nat.reduceSub]
  omega

/-- MODE takes an encoding up to 5 (R5), the bits below it take the written values, nothing else changes. -/
theorem writePlain_rfTest_spec (v : Nat) (s : State) :
    (writePlain R.RF_TEST v s).get F.RF_TEST_MODE = (if bits v 27 24 ≤ 5 then bits v 27 24 else s.get F.RF_TEST_MODE)
    ∧ (writePlain R.RF_TEST v s).reg R.RF_TEST % 2 ^ 24 = v % 2 ^ 24
    ∧ keepsRegs s (writePlain R.RF_TEST v s) [R.RF_TEST]
    ∧ writePlain R.RF_TEST v s = { s with regs := (writePlain R.RF_TEST v s).regs } := by
  rw [writePlain_rfTest]
  split
  · refine ⟨?_, ?_, fun off ho => ?_, rfl⟩
    · rw [State.get_put_same _ _ _ (by decide) (by decide)]
      exact bits_mod_self v 27 24
    · rw [State.rfTest_low_put_mode, State.rfTestLow_low]
    · rw [State.reg_put_other _ (List.mem_singleton.not.mp ho), s.rfTestLow_keeps v off ho]
  · exact ⟨s.rfTestLow_mode v, s.rfTestLow_low v, s.rfTestLow_keeps v, rfl⟩

/-! ## The PULSE units (R374) -/

/-- A one-bit field read as a truth value. -/
theorem State.flag_of_get {s : State} {f : Field} {n : Nat} (h : s.get f = n) : s.flag f = (n == 1) := by rw [State.flag, h]

theorem pulseWord_of_disabled {u : Nat} {s : State} (h : s.get (F.TIM_PULSEn_CTL_EN u) = 0) (off v : Nat) :
    pulseWord u off v s = s.setReg off v := by
  rw [pulseWord, State.flag_of_get h]
  rfl

theorem pulseWord_of_enabled {u : Nat} {s : State} (h : s.get (F.TIM_PULSEn_CTL_EN u) = 1) (off v : Nat) :
    pulseWord u off v s = s.reason .tim 0x0404 := by
  rw [pulseWord, State.flag_of_get h]
  rfl

/-- The fields of PULSEn_CTL that a disabled unit takes from a written word; BASE 3 is reserved (R5). -/
def State.takePulseFields (s : State) (u v : Nat) : State :=
  let s1 := (s.put (F.TIM_PULSEn_CTL_POL u) (bits v 6 6)).put (F.TIM_PULSEn_CTL_MODE u) (bits v 3 3)
  if bits v 5 4 = 3 then s1 else s1.put (F.TIM_PULSEn_CTL_BASE u) (bits v 5 4)

theorem State.takePulseFields_regs_only (s : State) (u v : Nat) :
    s.takePulseFields u v = { s with regs := (s.takePulseFields u v).regs } := by
  unfold State.takePulseFields
  dsimp only
  split <;> rfl

theorem State.takePulseFields_keeps (s : State) (u v : Nat) :
    keepsFields s (s.takePulseFields u v) [F.TIM_PULSEn_CTL_POL u, F.TIM_PULSEn_CTL_MODE u, F.TIM_PULSEn_CTL_BASE u] := by
  have hpol : keepsFields s (s.put (F.TIM_PULSEn_CTL_POL u) (bits v 6 6)) _ :=
    keepsFields_put (keepsFields_refl s [F.TIM_PULSEn_CTL_POL u, F.TIM_PULSEn_CTL_MODE u, F.TIM_PULSEn_CTL_BASE u]) (by simp) le_rfl _
  have hmode : keepsFields s ((s.put (F.TIM_PULSEn_CTL_POL u) (bits v 6 6)).put (F.TIM_PULSEn_CTL_MODE u) (bits v 3 3)) _ :=
    keepsFields_put hpol (by simp) le_rfl _
  unfold State.takePulseFields
  dsimp only
  split
  · exact hmode
  · exact keepsFields_put hmode (by simp) (Nat.le_succ 4) _

theorem State.takePulseFields_values (s : State) (u v : Nat) :
    (s.takePulseFields u v).get (F.TIM_PULSEn_CTL_POL u) = bits v 6 6
    ∧ (s.takePulseFields u v).get (F.TIM_PULSEn_CTL_MODE u) = bits v 3 3
    ∧ (s.takePulseFields u v).get (F.TIM_PULSEn_CTL_BASE u)
      = (if bits v 5 4 = 3 then s.get (F.TIM_PULSEn_CTL_BASE u) else bits v 5 4) := by
  have hpol : bits v 6 6 % 2 = bits v 6 6 := bits_mod_self v 6 6
  have hmode : bits v 3 3 % 2 = bits v 3 3 := bits_mod_self v 3 3
  have hbase : bits v 5 4 % 4 = bits v 5 4 := bits_mod_self v 5 4
  unfold State.takePulseFields
  dsimp only
  split <;> simp [State.get_put_same, State.get_put_apart, hpol, hmode, hbase]

theorem State.pulse_setPulse_same {s : State} {u : Nat} (h : u < s.tim.pulses.length) (p : Pulse) : (s.setPulse u p).pulse u = p := by
  simp [State.pulse, State.setPulse, h]

/-- A disabled unit takes the written fields and the inactive level of its polarity. -/
theorem pulseCtl_of_disabled {u : Nat} {s : State} (h : s.get (F.TIM_PULSEn_CTL_EN u) = 0) (v : Nat) :
    pulseCtl u v s = (s.takePulseFields u v).setPulse u { (s.takePulseFields u v).pulse u with level := !Nat.testBit v 6 } := by
  rw [pulseCtl, State.flag_of_get h]
  rfl

/-- An enabled unit refuses other fields with 0x0404 and stops with EN = 0. -/
theorem pulseCtl_of_enabled {u : Nat} {s : State} (h : s.get (F.TIM_PULSEn_CTL_EN u) = 1) (v : Nat) :
    pulseCtl u v s = (let s1 := if bits v 6 3 = bits (s.reg (R.TIM_PULSEn_CTL u)) 6 3 then s else s.reason .tim 0x0404
      if Nat.testBit v 0 then s1 else s1.stopPulse u) := by
  simp only [pulseCtl, State.flag_of_get h, beq_iff_eq]
  rfl

theorem pulseCtl_of_disabled_spec {u : Nat} {s : State} (h : s.get (F.TIM_PULSEn_CTL_EN u) = 0) (hu : u < s.tim.pulses.length) (v : Nat) :
    (pulseCtl u v s).get (F.TIM_PULSEn_CTL_POL u) = bits v 6 6
    ∧ (pulseCtl u v s).get (F.TIM_PULSEn_CTL_MODE u) = bits v 3 3
    ∧ (pulseCtl u v s).get (F.TIM_PULSEn_CTL_BASE u) = (if bits v 5 4 = 3 then s.get (F.TIM_PULSEn_CTL_BASE u) else bits v 5 4)
    ∧ ((pulseCtl u v s).pulse u).level = !Nat.testBit v 6
    ∧ keepsFields s (pulseCtl u v s) [F.TIM_PULSEn_CTL_POL u, F.TIM_PULSEn_CTL_MODE u, F.TIM_PULSEn_CTL_BASE u]
    ∧ pulseCtl u v s = { s with regs := (pulseCtl u v s).regs, tim := { s.tim with pulses := (pulseCtl u v s).tim.pulses } } := by
  obtain ⟨hpol, hmode, hbase⟩ := s.takePulseFields_values u v
  have hkeeps := s.takePulseFields_keeps u v
  have hregs := s.takePulseFields_regs_only u v
  rw [pulseCtl_of_disabled h]
  generalize s.takePulseFields u v = t at hpol hmode hbase hkeeps hregs
  have htim : t.tim = s.tim := by rw [hregs]
  refine ⟨hpol, hmode, hbase, ?_, hkeeps, ?_⟩
  · rw [State.pulse_setPulse_same (htim ▸ hu)]
  · generalize t.regs = r at hregs
    subst hregs
    rfl

/-! ## The restart that every reset source shares (R66) -/

theorem State.setPhase_phase (s : State) {p : Nat} (h : p < 16) : (s.setPhase p).phase = p := by
  rw [State.phase, State.setPhase, State.get_setReg_other _ (by decide), State.get_put_same _ _ _ (by decide) (by decide)]
  exact Nat.mod_eq_of_lt h

theorem State.setPhase_resetCause (s : State) (p : Nat) :
    (s.setPhase p).get F.SYS_STAT_RESET_CAUSE = s.get F.SYS_STAT_RESET_CAUSE := by
  rw [State.setPhase, State.get_setReg_other _ (by decide), State.get_put_apart _ _ _ _ (by decide) (by decide) (by decide)]

theorem State.setPhase_enMap (s : State) (p : Nat) : (s.setPhase p).reg R.SYS_EN_MAP = s.reg R.SYS_EN_MAP := by
  rw [State.setPhase, State.reg_setReg_other _ (by decide), State.reg_put_other _ (by decide)]

/-- Phase 2 is skipped when the crystal runs through the reset. -/
theorem State.restart_phase (s : State) (source : Nat) :
    (s.restart source).phase = if decide (source ≠ 1) && s.pwr.xtalRun then 3 else 2 := by
  unfold State.restart
  exact State.setPhase_phase _ (by split <;> decide)

theorem State.restart_resetCause (s : State) {source : Nat} (h : source < 16) :
    (s.restart source).get F.SYS_STAT_RESET_CAUSE = source := by
  have hput : ∀ t : State, (t.put F.SYS_STAT_RESET_CAUSE source).armMonitors.get F.SYS_STAT_RESET_CAUSE = source := fun t => by
    rw [State.armMonitors, State.get_setReg_other _ (by decide), State.get_put_same _ _ _ (by decide) (by decide)]
    exact Nat.mod_eq_of_lt h
  rw [State.restart, State.setPhase_resetCause]
  split
  · rw [State.putFlag, State.get_put_apart _ _ _ _ (by decide) (by decide) (by decide), hput]
  · exact hput _

/-- No subsystem is enabled after a reset. -/
theorem State.restart_enMap (s : State) (source : Nat) : (s.restart source).reg R.SYS_EN_MAP = 0 := by
  have hreset : State.reset.reg R.SYS_EN_MAP = 0 := by decide
  have hput : ∀ t : State, (t.put F.SYS_STAT_RESET_CAUSE source).armMonitors.reg R.SYS_EN_MAP = t.reg R.SYS_EN_MAP := fun t => by
    rw [State.armMonitors, State.reg_setReg_other _ (by decide), State.reg_put_other _ (by decide)]
  rw [State.restart, State.setPhase_enMap]
  split
  · rw [State.putFlag, State.reg_put_other _ (by decide), hput]
    exact hreset
  · rw [hput]
    exact hreset

/-! What a restart keeps (R66) and what it clears. Each register write is taken off by its own law: `rfl` on the whole restart makes the
kernel compare the register lists as well. -/

@[simp] theorem State.restart_pending (s : State) (source : Nat) : (s.restart source).pending = s.pending := by
  rw [State.restart, State.setPhase_pending, apply_ite State.pending, State.putFlag_pending, ite_self, State.armMonitors, State.setReg_pending,
    State.put_pending]
@[simp] theorem State.restart_mt (s : State) (source : Nat) : (s.restart source).mt = s.mt := by
  rw [State.restart, State.setPhase_mt, apply_ite State.mt, State.putFlag_mt, ite_self, State.armMonitors, State.setReg_mt,
    State.put_mt]
@[simp] theorem State.restart_fuses (s : State) (source : Nat) : (s.restart source).fuses = s.fuses := by
  rw [State.restart, State.setPhase_fuses, apply_ite State.fuses, State.putFlag_fuses, ite_self, State.armMonitors, State.setReg_fuses,
    State.put_fuses]
@[simp] theorem State.restart_nand (s : State) (source : Nat) : (s.restart source).nand = s.nand := by
  rw [State.restart, State.setPhase_nand, apply_ite State.nand, State.putFlag_nand, ite_self, State.armMonitors, State.setReg_nand,
    State.put_nand]
@[simp] theorem State.restart_nor (s : State) (source : Nat) : (s.restart source).nor = s.nor := by
  rw [State.restart, State.setPhase_nor, apply_ite State.nor, State.putFlag_nor, ite_self, State.armMonitors, State.setReg_nor,
    State.put_nor]
@[simp] theorem State.restart_tag (s : State) (source : Nat) : (s.restart source).tag = s.tag := by
  rw [State.restart, State.setPhase_tag, apply_ite State.tag, State.putFlag_tag, ite_self, State.armMonitors, State.setReg_tag,
    State.put_tag]
@[simp] theorem State.restart_update (s : State) (source : Nat) : (s.restart source).update = s.update := by
  rw [State.restart, State.setPhase_update, apply_ite State.update, State.putFlag_update, ite_self, State.armMonitors, State.setReg_update,
    State.put_update]
@[simp] theorem State.restart_hif (s : State) (source : Nat) : (s.restart source).hif = Hif.reset := by
  rw [State.restart, State.setPhase_hif, apply_ite State.hif, State.putFlag_hif, ite_self, State.armMonitors, State.setReg_hif,
    State.put_hif]
  rfl
@[simp] theorem State.restart_rel (s : State) (source : Nat) : (s.restart source).rel = Rel.reset := by
  rw [State.restart, State.setPhase_rel, apply_ite State.rel, State.putFlag_rel, ite_self, State.armMonitors, State.setReg_rel,
    State.put_rel]
  rfl

/-- A reset other than a power-on leaves PT running. -/
theorem State.restart_pt (s : State) {source : Nat} (h : source ≠ 1) : (s.restart source).pilot.pt = s.pilot.pt := by
  rw [State.restart, State.setPhase_pilot]
  split <;> simp [h, State.armMonitors]

/-! ## SYS_RESET (R459) -/

theorem resetKey_iff (v : Nat) : resetKey v = true ↔ v / 2 ^ 16 = 0x5A5A ∧ Nat.testBit v 0 = true := by simp [resetKey]

theorem exec_sysReset_of_key {v : Word} (hkey : v.toNat / 2 ^ 16 = 0x5A5A) (hbit : Nat.testBit v.toNat 0 = true) (s : State) :
    exec (.sysReset v) s = .next (s.resetSource 3) :=
  congrArg Host.Outcome.next (if_pos ((resetKey_iff _).mpr ⟨hkey, hbit⟩))

theorem exec_sysReset_of_not_key {v : Word} (h : resetKey v.toNat = false) (s : State) : exec (.sysReset v) s = .next s :=
  congrArg Host.Outcome.next (if_neg (Bool.eq_false_iff.mp h))

theorem State.resetSource_of_no_vbat {s : State} (h : s.pilot.vbatUp = false) (source : Nat) : s.resetSource source = s := by
  simp [State.resetSource, h]

theorem State.resetSource_of_no_wait {s : State} {source : Nat} (hv : s.pilot.vbatUp = true) (hw : s.resetWaits source = false) :
    s.resetSource source = s.restart source := by
  simp [State.resetSource, hv, hw]

theorem State.resetSource_of_wait {s : State} {source : Nat} (hv : s.pilot.vbatUp = true) (hw : s.resetWaits source = true) :
    s.resetSource source = s.awaitBlow (.reset source) := by
  simp [State.resetSource, hv, hw]

/-- A reset that the host asks for waits exactly while a fuse blow runs (R266). -/
theorem State.resetWaits_three (s : State) : s.resetWaits 3 = s.keys.blow.isSome := by simp [State.resetWaits]

/-! ## The obligations -/

/-- A register of the shipped part reads the reset value of its row (R7). -/
theorem State.reset_reg {off : Nat} {r : RegRow} (h : regRow? off = some r) : State.reset.reg off = r.reset % 2 ^ 32 := by
  show (regReset off).toNat = _
  rw [regReset, h]
  exact BitVec.toNat_ofNat _ _

/-- Settles O5: the registers by `State.reset_reg`, the rest by evaluating the state after reset. -/
theorem resetIsAShippedPart : Obligations.ResetIsAShippedPart :=
  ⟨fun _ _ h => State.reset_reg h, by decide, rfl, by decide, rfl, rfl, rfl, rfl, rfl, rfl⟩

/-- Settles O57: an admitted write is `writePlain`, whose rule for each register stands above; SYS_RESET is the restart of source 3. -/
theorem registerWritesAndSysResetComplete : Obligations.RegisterWritesAndSysResetComplete := by
  unfold Obligations.RegisterWritesAndSysResetComplete
  refine ⟨?fields, ?noRow, ?refused, ?blockStart, ?ntSetHigh, ?ntFrac, ?ntFracRefused, ?ntInt, ?jrnlAck, ?stoWin, ?rfTest, ?pulseWord,
    ?pulseWordRefused, ?pulseCtl, ?pulseCtlEnabled, ?holds, ?reader, ?lfChannel, ?rfChain, ?reset, ?resetWaits, ?noReset⟩
  case fields =>
    intro s addr v r hadm hf hrow
    rw [exec_registerWrite hadm, writePlain_fieldsOnly hf, State.writeFields_row hrow]
  case noRow =>
    intro s addr v hadm hf hrow
    rw [exec_registerWrite hadm, writePlain_fieldsOnly hf, State.writeFields_none hrow]
  case refused => exact fun s addr v hno => exec_registerWrite_refused hno v
  case blockStart =>
    intro s addr v hadm h0 hne
    rw [exec_registerWrite hadm, writePlain_blockStart h0 hne]
  case ntSetHigh =>
    intro s addr v hadm ha
    rw [exec_registerWrite hadm, ha, writePlain_ntSetHigh]
  case ntFrac =>
    intro s addr v hadm ha hm
    rw [exec_registerWrite hadm, ha, writePlain_ntIncFrac, if_neg hm, State.writeFields_ntIncFrac s v.isLt]
  case ntFracRefused =>
    intro s addr v hadm ha hm
    rw [exec_registerWrite hadm, ha, writePlain_ntIncFrac, if_pos hm]
  case ntInt =>
    intro s addr v hadm ha
    rw [exec_registerWrite hadm, ha, writePlain_ntIncInt, exec_ntIncWrite]
  case jrnlAck =>
    intro s addr v hadm ha
    rw [exec_registerWrite hadm, ha, writePlain_jrnlAckHigh]
    rfl
  case stoWin =>
    intro s addr v hadm ha
    exact ⟨_, exec_registerWrite hadm v, ha ▸ writePlain_stoWinCtl_spec v.toNat s⟩
  case rfTest =>
    intro s addr v hadm ha
    exact ⟨_, exec_registerWrite hadm v, ha ▸ writePlain_rfTest_spec v.toNat s⟩
  case pulseWord =>
    intro s addr v u hadm hen ha
    rw [exec_registerWrite hadm, writePlain_pulseWord u.isLt ha, pulseWord_of_disabled hen]
  case pulseWordRefused =>
    intro s addr v u hadm hen ha
    rw [exec_registerWrite hadm, writePlain_pulseWord u.isLt ha, pulseWord_of_enabled hen]
  case pulseCtl =>
    intro s addr v u hadm ha hen hu
    refine ⟨pulseCtl u.val v.toNat s, ?_, pulseCtl_of_disabled_spec hen hu v.toNat⟩
    rw [exec_registerWrite hadm, ha, writePlain_pulseCtl u.isLt]
  case pulseCtlEnabled =>
    intro s addr v u hadm ha hen
    rw [exec_registerWrite hadm, ha, writePlain_pulseCtl u.isLt, pulseCtl_of_enabled hen]
  case holds =>
    intro s addr v hadm
    rw [exec_registerWrite hadm]
    refine ⟨fun ha => ?_, fun ha => ?_, fun ha => ?_⟩
    · rw [ha, writePlain_pwrCtl]
    · rw [ha, writePlain_lfCtl]
    · rw [ha, writePlain_rfCtl]
  case reader =>
    intro s addr v hadm ha
    rw [exec_registerWrite hadm, ha, writePlain_nfcCtl]
  case lfChannel =>
    intro s addr v c hadm ha
    rw [exec_registerWrite hadm, ha, writePlain_lfChannel c.isLt]
  case rfChain =>
    intro s addr v c hadm ha
    rw [exec_registerWrite hadm, ha, writePlain_rfChain c.isLt]
  case reset =>
    intro s v hkey hbit hvbat hblow
    have hwait : s.resetWaits 3 = false := by rw [State.resetWaits_three, hblow]; rfl
    refine ⟨s.restart 3, ?_, rfl, s.restart_resetCause (by decide), s.restart_enMap 3, ?_, by simp, by simp, by simp, by simp, by simp,
      by simp, by simp, by simp, by simp, s.restart_pt (by decide)⟩
    · rw [exec_sysReset_of_key hkey hbit, State.resetSource_of_no_wait hvbat hwait]
    · exact s.restart_phase 3
  case resetWaits =>
    intro s v hkey hbit hvbat hblow
    rw [exec_sysReset_of_key hkey hbit, State.resetSource_of_wait hvbat (s.resetWaits_three.trans hblow)]
  case noReset =>
    intro s v h
    by_cases hkey : resetKey v.toNat = true
    · obtain ⟨hword, hbit⟩ := (resetKey_iff _).mp hkey
      have hvbat : s.pilot.vbatUp = false := (h.resolve_left (not_not.mpr hword)).resolve_left (by rw [hbit]; decide)
      rw [exec_sysReset_of_key hword hbit, State.resetSource_of_no_vbat hvbat]
    · exact exec_sysReset_of_not_key (Bool.eq_false_iff.mpr hkey) s

end Sys2Proof.Machine
end

section
/-! SUPPORT. Commit points and the controllers of the puppeteer (R27 to R29). -/
namespace Sys2Proof.Machine

open Sys2Proof

theorem execHandoverRecord_of_current {s : State} (h : s.standbyReady = true) {n : Nat} {rest : List Nat} (hr : s.net.records = n :: rest) :
    execHandoverRecord s = .next { s with net := { s.net with records := rest, appliedNo := n, cmdApplied := s.net.cmdAt } } := by
  simp [execHandoverRecord, h, hr]

theorem execHandoverRecord_of_not_current {s : State} (h : s.standbyReady = false) : execHandoverRecord s = .next s := by
  simp [execHandoverRecord, h]

/-- A controller that was not yet held out joins those that are, and group 8 is reduced. -/
theorem puppeteerOutvote_heldOut {s : State} {c : Nat} (h : s.net.heldOut.contains c = false) : puppeteerOutvote c false s
    = ((((({ s with net := { s.net with heldOut := s.net.heldOut ++ [c] } }).event F.PWR_EVT_PUPPET).reason .pwr 0x030F).redLoss 8).journal
        0x0301 0x030F .pwr 0 (toLE 1 c)) := by
  simp only [puppeteerOutvote, h, Bool.false_eq_true, if_false]

/-- Settles O7: a commit point and a reload are their definitions, the rest follows from whether the standby pair is current. -/
theorem commitPointsAndPuppeteers : Obligations.CommitPointsAndPuppeteers := by
  refine ⟨fun s => rfl, fun s n rest hready hrec => ?_, fun s hnot => ?_, fun s c => ⟨rfl, fun hc => ?_⟩⟩
  · exact execHandoverRecord_of_current (State.flag_of_get hready) hrec
  · exact execHandoverRecord_of_not_current (State.flag_of_get hnot)
  · exact congrArg Host.Outcome.next (puppeteerOutvote_heldOut hc)

end Sys2Proof.Machine
end

section
/-! SUPPORT. The way of one packet over a quiet network (R16 to R18), and what its destination's port does with it (R19 to R24): it is judged,
sent again, or held while the island restores. -/
namespace Sys2Proof.Machine

open Sys2Proof

/-! ## A packet from its source to its destination (R16 to R18) -/

theorem toNat_mkHeader (dest src master : Nat) (keeper : Bool) (tc len op tag offset : Nat) :
    (mkHeader dest src master keeper tc len op tag offset).toNat
      = dest % 16 * 2 ^ 60 + src % 16 * 2 ^ 56 + master % 16 * 2 ^ 52 + bit keeper * 2 ^ 51 + tc % 4 * 2 ^ 49 + len % 32 * 2 ^ 44
        + op % 16 * 2 ^ 40 + tag % 256 * 2 ^ 32 + offset % 2 ^ 32 := by
  have hk : bit keeper < 2 := by cases keeper <;> decide
  rw [mkHeader, BitVec.toNat_ofNat]
  omega

/-- The fields of a packet's header by which it finds its way and is answered (Table 1-2). -/
theorem pktField_mkPacket (dest src master : Nat) (keeper : Bool) (tc op tag offset : Nat) (data : List (BitVec 64)) (target : Target) :
    let p := mkPacket dest src master keeper tc op tag offset data target
    pktField p 59 56 = src % 16 ∧ pktField p 50 49 = tc % 4 ∧ pktField p 43 40 = op % 16 ∧ pktField p 39 32 = tag % 256
      ∧ pktField p 31 0 = offset % 2 ^ 32 := by
  have hk : bit keeper < 2 := by cases keeper <;> decide
  simp only [mkPacket, pktField, bits, toNat_mkHeader, Nat.reduceAdd, Nat.reduceSub]
  omega

@[simp] theorem State.portPacket_src (s : State) (x : Send) : pktField (s.portPacket x) 59 56 = x.src.val := by
  obtain ⟨hsrc, -, -, -, -⟩ := pktField_mkPacket x.dest.val x.src.val _ _ x.tc.val x.op.toNat x.tag.toNat x.offset.toNat x.data x.target
  exact hsrc.trans (Nat.mod_eq_of_lt (by omega))

@[simp] theorem State.portPacket_tc (s : State) (x : Send) : pktField (s.portPacket x) 50 49 = x.tc.val := by
  obtain ⟨-, htc, -, -, -⟩ := pktField_mkPacket x.dest.val x.src.val _ _ x.tc.val x.op.toNat x.tag.toNat x.offset.toNat x.data x.target
  exact htc.trans (Nat.mod_eq_of_lt (by omega))

@[simp] theorem State.portPacket_op (s : State) (x : Send) : pktField (s.portPacket x) 43 40 = x.op.toNat := by
  obtain ⟨-, -, hop, -, -⟩ := pktField_mkPacket x.dest.val x.src.val _ _ x.tc.val x.op.toNat x.tag.toNat x.offset.toNat x.data x.target
  exact hop.trans (Nat.mod_eq_of_lt (by omega))

@[simp] theorem State.portPacket_tag (s : State) (x : Send) : pktField (s.portPacket x) 39 32 = x.tag.toNat := by
  obtain ⟨-, -, -, htag, -⟩ := pktField_mkPacket x.dest.val x.src.val _ _ x.tc.val x.op.toNat x.tag.toNat x.offset.toNat x.data x.target
  exact htag.trans (Nat.mod_eq_of_lt (by omega))

@[simp] theorem State.portPacket_offset (s : State) (x : Send) : pktField (s.portPacket x) 31 0 = x.offset.toNat := by
  obtain ⟨-, -, -, -, hoff⟩ := pktField_mkPacket x.dest.val x.src.val _ _ x.tc.val x.op.toNat x.tag.toNat x.offset.toNat x.data x.target
  exact hoff.trans (Nat.mod_eq_of_lt (by omega))

theorem noisyPacket_nil (p : Packet) : noisyPacket p [] = p := by
  simp [noisyPacket, addNoise]

/-- The packet of a send on its way: at its source, on its ring. -/
def State.underWay (s : State) (x : Send) (ring : Fin 2) : Waiting :=
  ⟨s.portPacket x, s.portPacket x, x.src.val, s.destOf (s.portPacket x), ring.val, x.src.val, ring.val, false⟩

theorem State.send_oneHop {s : State} {x : Send} {ring : Fin 2} (h : s.oneHop x ring) :
    s.send x = { s with net := { s.net with waiting := [s.underWay x ring] } } := by
  obtain ⟨hquiet, hprom, hring, -⟩ := h
  simp [State.send, State.launch, State.underWay, hquiet, hprom, hring]

/-- A link with one packet forwards its class. -/
theorem nextClass_single (runs : List Nat) {w : Waiting} (h : w.cls < 4) : nextClass runs [w] = some w.cls := by
  generalize hc : w.cls = c at h
  by_cases hstarved : 16 ≤ runs.getD c 0 <;> interval_cases c <;> simp_all [nextClass]

/-- What a packet under way leaves of the network behind it: the counters of its link and the transactions change, and it is no longer waiting. -/
def State.passed (s : State) (runs : List (List Nat)) (open_ : List OpenTx) : State :=
  { s with net := { s.net with waiting := [], runs := runs, openTx := open_ } }

theorem State.headerLeaves_openTx (s : State) (w : Waiting) :
    ∃ open_, s.headerLeaves w = { s with net := { s.net with openTx := open_ } } := by
  unfold State.headerLeaves
  dsimp only
  split
  · exact ⟨_, rfl⟩
  · exact ⟨s.net.openTx, rfl⟩

/-- A router with one packet to forward, whose destination is the next node, delivers it with the errors of the passage. -/
theorem State.forward_single {s : State} {w : Waiting} {t : Turn} (hs : s.net.waiting = [w]) (hcls : w.cls < 4) (hring : w.ring = t.ring.val)
    (hnode : w.node = t.node.val) (hdst : nextNode w.ring w.node = w.dst) :
    ∃ runs open_, s.forward t = (s.passed runs open_, some { w with packet := noisyPacket w.packet t.noise, node := w.dst }) := by
  obtain ⟨open_, hopen⟩ := s.headerLeaves_openTx w
  have hclass : ∀ runs, nextClass runs [w] = some w.cls := fun runs => nextClass_single runs hcls
  refine ⟨(s.forward t).1.net.runs, open_, ?_⟩
  simp only [State.forward, hs, List.filter_cons, hring, hnode, beq_self_eq_true, Bool.and_self, if_true, List.filter_nil, hclass,
    List.find?_cons, List.eraseP_cons]
  rw [hring, hnode] at hdst
  rw [if_pos hdst, hopen, hdst]
  rfl

theorem State.moment_single {s t : State} {w : Waiting} {x : Turn} (h : s.forward x = (t, some w)) : s.moment [x] = t.arrive w := by
  simp [State.moment, h, arrivalOrder, placeArrival]

/-- A packet on a quiet network that goes to the next node arrives there, with the errors of the passage. -/
theorem packetReceive_oneHop {s : State} {x : Send} {ring : Fin 2} (h : s.oneHop x ring) (noise : List (BitVec 64)) :
    ∃ runs open_, packetReceive [x] [] [⟨ring, x.src, noise⟩] s = (s.passed runs open_).arrive
      { s.underWay x ring with packet := noisyPacket (s.portPacket x) noise, node := s.destOf (s.portPacket x) } := by
  have hsend := State.send_oneHop h
  obtain ⟨-, -, -, hnext⟩ := h
  have hcls : (s.underWay x ring).cls < 4 := by
    show pktField (s.portPacket x) 50 49 < 4
    rw [State.portPacket_tc]
    exact x.tc.isLt
  obtain ⟨runs, open_, hforward⟩ := State.forward_single (s := s.send x) (t := ⟨ring, x.src, noise⟩)
    (congrArg (fun t => t.net.waiting) hsend) hcls rfl rfl hnext
  refine ⟨runs, open_, (State.moment_single hforward).trans ?_⟩
  rw [hsend]
  rfl

/-- A packet without an error, for a port that is open, is judged at once. -/
theorem State.arrive_judged {s : State} {w : Waiting} (hgood : pktGood w.packet = true) (hprom : s.net.promoteWait = false)
    (hopen : s.destOf w.packet = 0 ∨ 2 ≤ s.island (s.destOf w.packet)) : s.arrive w = s.acceptPacket w.packet := by
  have hport : (decide (s.destOf w.packet ≠ 0) && decide (s.island (s.destOf w.packet) < 2)) = false := by
    rcases hopen with h0 | hrun
    · simp [h0]
    · simp [Nat.not_lt.mpr hrun]
  simp only [State.arrive, hgood, hprom, hport, Bool.not_true, Bool.and_false, Bool.false_eq_true, if_false]

/-- A packet without an error whose port is open is judged with the network as its way left it. -/
theorem packetReceive_judged {s : State} {x : Send} {ring : Fin 2} (hhop : s.oneHop x ring) (hopen : s.portOpen x)
    (hgood : pktGood (s.portPacket x) = true) :
    ∃ runs open_, packetReceive [x] [] [⟨ring, x.src, []⟩] s = (s.passed runs open_).acceptPacket (s.portPacket x) := by
  obtain ⟨runs, open_, hrun⟩ := packetReceive_oneHop hhop []
  rw [noisyPacket_nil] at hrun
  obtain ⟨-, hprom, -, -⟩ := hhop
  exact ⟨runs, open_, hrun.trans (State.arrive_judged hgood hprom hopen)⟩

/-! ## The judgement (R24) -/

/-- The working state of the network once a packet is accepted at its island: the last one there, and no reason stands. -/
def State.accepting (s : State) (p : Packet) : State :=
  { s with net := { s.net with accepted := s.net.accepted.filter (fun x => x.1 != s.destOf p) ++ [(s.destOf p, p)], lastError := 0 } }

theorem State.acceptPacket_refused {s : State} {p : Packet} (hop : pktField p 43 40 = 0 ∨ pktField p 43 40 = 1) (hsrc : pktField p 59 56 ≤ 14)
    (hno : s.packetRefusal p ≠ 0) : s.acceptPacket p
      = ({ s with net := { s.net with lastError := s.packetRefusal p } }).portAnswer (s.destOf p) p 0xF [BitVec.ofNat 64 (s.packetRefusal p)] := by
  rcases hop with hop | hop <;> simp [State.acceptPacket, hop, knownOp, isAnswer, hno, hsrc]

theorem State.acceptPacket_write {s : State} {p : Packet} (hop : pktField p 43 40 = 1) (hyes : s.packetRefusal p = 0) (hd : s.destOf p ≠ 14)
    (hin : s.inSram (s.destOf p) (pktField p 31 0 / 8) p.data.length = true) : s.acceptPacket p
      = ((s.accepting p).sramWrite (s.destOf p) (pktField p 31 0 / 8) p.data).portAnswer (s.destOf p) p 3 [0] := by
  simp only [State.acceptPacket, hop, hyes]
  exact (if_neg (by decide)).trans <| (if_neg (by decide)).trans <| (if_neg (by decide)).trans <|
    (if_neg (by simp [hd])).trans <| (if_neg (by simp)).trans (if_pos hin)

theorem State.acceptPacket_read {s : State} {p : Packet} (hop : pktField p 43 40 = 0) (hyes : s.packetRefusal p = 0)
    (hin : s.inSram (s.destOf p) (pktField p 31 0 / 8) p.data.length = true) : s.acceptPacket p
      = (s.accepting p).portAnswer (s.destOf p) p 2 (s.sramRead (s.destOf p) (pktField p 31 0 / 8) p.data.length) := by
  simp only [State.acceptPacket, hop, hyes]
  exact (if_neg (by decide)).trans <| (if_neg (by decide)).trans <| (if_neg (by decide)).trans <| (if_neg (by simp)).trans (if_pos hin)

/-! ## Arrivals that are not judged (R19, R20) -/

/-- A packet with an error is sent again once, from its source, on the other ring while that one reaches its destination. -/
theorem State.arrive_resent {s : State} {w : Waiting} (hbad : pktGood w.packet = false) (hfirst : w.again = false)
    (hring : s.ringFailed (1 - w.ring) w.dst = false) : s.arrive w = { s with net := { s.net with
      waiting := s.net.waiting ++ [{ w with packet := w.orig, node := w.src, ring := 1 - w.ring, again := true }] } } := by
  simp only [State.arrive, hbad, hfirst, hring, Bool.not_false, if_true, Bool.false_eq_true, if_false]

/-- A packet for an island that sleeps waits at its port while the island restores. -/
theorem State.arrive_held {s : State} {w : Waiting} (hgood : pktGood w.packet = true) (hprom : s.net.promoteWait = false)
    (hd : s.destOf w.packet ≠ 0) (hsleep : s.island (s.destOf w.packet) < 2) : s.arrive w
      = ({ s with net := { s.net with ports := s.net.ports ++ [(s.destOf w.packet, w.packet)] } }).restoreFor (s.destOf w.packet) := by
  have hport : (decide (s.destOf w.packet ≠ 0) && decide (s.island (s.destOf w.packet) < 2)) = true := by simp [hd, hsleep]
  simp only [State.arrive, hgood, hprom, hport, Bool.not_true, Bool.and_false, Bool.false_eq_true, if_false, if_true]

@[simp] theorem State.beginRestore_regs (s : State) (i : Nat) : (s.beginRestore i).regs = s.regs := by
  unfold State.beginRestore
  dsimp only
  split_ifs <;> rfl

theorem State.restoreFor_regs (s : State) (i : Nat) : (s.restoreFor i).regs = s.regs := by
  rw [State.restoreFor, apply_ite State.regs, State.beginRestore_regs, ite_self]

theorem State.restoreFor_net (s : State) (i : Nat) : (s.restoreFor i).net = s.net := by
  rw [State.restoreFor, apply_ite State.net, State.beginRestore_net, ite_self]

/-- A packet at its port holds its island (R19). -/
theorem State.held_of_port {s : State} {i : Nat} (h : s.net.ports.any (fun x => x.1 == i) = true) : s.held i = true := by
  simp only [State.held, h, Bool.or_true, Bool.true_or]

/-- A packet at its port holds its island, so the restore that it asks for begins whatever the votes are. -/
theorem State.restoreFor_of_port {s : State} {i : Nat} (hi : 3 ≤ i) (hsleep : s.island i < 2) (hrest : s.pwr.restoring = [])
    (hdrop : s.pwr.dropping = []) (hport : s.net.ports.any (fun x => x.1 == i) = true) :
    (s.restoreFor i).pwr.restoring = [(i, s.mt)] := by
  have hfailed : s.islandFailed i = false := by simp only [State.islandFailed, beq_eq_false_iff_ne]; omega
  have hreturn : s.noReturn i = false := by simp [State.noReturn, State.dropMt, hdrop]
  have hpair : (decide (s.island i = 2) || (decide (i = 1) || decide (i = 2)) && decide (s.get (pairField (i - 1)) = 3)) = false := by
    simp only [Bool.or_eq_false_iff, Bool.and_eq_false_iff, decide_eq_false_iff_not]
    omega
  rw [State.restoreFor, if_neg (by omega)]
  simp only [State.beginRestore, hfailed, hreturn, hpair, hrest, hdrop, State.held_of_port, hport, List.any_nil, List.filter_nil,
    List.nil_append, Bool.or_self, Bool.not_true, Bool.and_false, Bool.false_eq_true, if_false]

/-! ## The obligation -/

/-- The answer that R24 gives to a packet, as it leaves its island. -/
def State.answerPacket (s : State) (p : Packet) (op : Nat) (data : List (BitVec 64)) : Packet :=
  mkPacket (pktField p 59 56) (s.destOf p) (pktField p 55 52) (decide (pktField p 51 51 = 1)) (pktField p 50 49) op (pktField p 39 32)
    (pktField p 31 0) data .plain

theorem State.answerPacket_portPacket (s : State) (x : Send) (op : Nat) (data : List (BitVec 64)) : s.answerPacket (s.portPacket x) op data
    = mkPacket x.src.val (s.destOf (s.portPacket x)) (pktField (s.portPacket x) 55 52) (decide (pktField (s.portPacket x) 51 51 = 1)) x.tc.val
        op x.tag.toNat x.offset.toNat data .plain := by
  simp [State.answerPacket]

section
variable {sends : List Send} {moments : List (List Turn)} {arrival : List Turn} {s : State} {p : Packet} {runs : List (List Nat)}
  {open_ : List OpenTx}

theorem exec_packetReceive_of_regs {t : State} (h : packetReceive sends moments arrival s = t) (hregs : t.regs = s.regs) :
    exec (.packetReceive sends moments arrival) s = .next t := by
  subst h
  exact congrArg Host.Outcome.next (State.failHooks_same _ _ hregs)

theorem completes_refused (hrun : packetReceive sends moments arrival s = (s.passed runs open_).acceptPacket p)
    (hop : pktField p 43 40 = 0 ∨ pktField p 43 40 = 1) (hsrc : pktField p 59 56 ≤ 14) {c : Nat} (hc : s.packetRefusal p = c) (hno : c ≠ 0) :
    completes (.packetReceive sends moments arrival) s (fun t => t.net.lastError = c
      ∧ t.net.waiting.map (fun w => w.packet) = [s.answerPacket p 0xF [BitVec.ofNat 64 c]]
      ∧ t = { s with net := { s.net with waiting := t.net.waiting, runs := t.net.runs, openTx := t.net.openTx, lastError := c } }) := by
  have hc' : (s.passed runs open_).packetRefusal p = c := hc
  rw [State.acceptPacket_refused hop hsrc (hc' ▸ hno), hc'] at hrun
  exact ⟨_, exec_packetReceive_of_regs hrun rfl, rfl, rfl, rfl⟩

theorem completes_written (hrun : packetReceive sends moments arrival s = (s.passed runs open_).acceptPacket p)
    (hop : pktField p 43 40 = 1) (hyes : s.packetRefusal p = 0) (hd : s.destOf p ≠ 14)
    (hin : s.inSram (s.destOf p) (pktField p 31 0 / 8) p.data.length = true) :
    completes (.packetReceive sends moments arrival) s (fun t =>
      t.net.sram = sparsePutAll sramDefault s.net.sram (sramKey (s.destOf p) (pktField p 31 0 / 8)) p.data
      ∧ t.net.waiting.map (fun w => w.packet) = [s.answerPacket p 3 [0]]
      ∧ t = { s with net := { s.net with waiting := t.net.waiting, runs := t.net.runs, openTx := t.net.openTx, accepted := t.net.accepted
                                         sram := t.net.sram, lastError := 0 } }) := by
  rw [State.acceptPacket_write (s := s.passed runs open_) hop hyes hd hin] at hrun
  exact ⟨_, exec_packetReceive_of_regs hrun rfl, rfl, rfl, rfl⟩

theorem completes_read (hrun : packetReceive sends moments arrival s = (s.passed runs open_).acceptPacket p)
    (hop : pktField p 43 40 = 0) (hyes : s.packetRefusal p = 0)
    (hin : s.inSram (s.destOf p) (pktField p 31 0 / 8) p.data.length = true) :
    completes (.packetReceive sends moments arrival) s (fun t =>
      t.net.waiting.map (fun w => w.packet) = [s.answerPacket p 2 (s.sramRead (s.destOf p) (pktField p 31 0 / 8) p.data.length)]
      ∧ t = { s with net := { s.net with waiting := t.net.waiting, runs := t.net.runs, openTx := t.net.openTx, accepted := t.net.accepted
                                         lastError := 0 } }) := by
  rw [State.acceptPacket_read (s := s.passed runs open_) hop hyes hin] at hrun
  exact ⟨_, exec_packetReceive_of_regs hrun rfl, rfl, rfl⟩

theorem completes_resent {w : Waiting} (hrun : packetReceive sends moments arrival s = (s.passed runs open_).arrive w)
    (hbad : pktGood w.packet = false) (hfirst : w.again = false) (hring : s.ringFailed (1 - w.ring) w.dst = false) :
    completes (.packetReceive sends moments arrival) s (fun t =>
      t.net.waiting = [{ w with packet := w.orig, node := w.src, ring := 1 - w.ring, again := true }]
      ∧ t = { s with net := { s.net with waiting := t.net.waiting, runs := t.net.runs, openTx := t.net.openTx } }) := by
  rw [State.arrive_resent (s := s.passed runs open_) hbad hfirst hring] at hrun
  exact ⟨_, exec_packetReceive_of_regs hrun rfl, rfl, rfl⟩

theorem completes_held {w : Waiting} (hrun : packetReceive sends moments arrival s = (s.passed runs open_).arrive w)
    (hgood : pktGood w.packet = true) (hprom : s.net.promoteWait = false) (hd : s.destOf w.packet ≠ 0)
    (hsleep : s.island (s.destOf w.packet) < 2) :
    completes (.packetReceive sends moments arrival) s (fun t =>
      t.net.ports = s.net.ports ++ [(s.destOf w.packet, w.packet)] ∧ t.net.accepted = s.net.accepted
      ∧ (s.pwr.restoring = [] → s.pwr.dropping = [] → 3 ≤ s.destOf w.packet → t.pwr.restoring = [(s.destOf w.packet, s.mt)])) := by
  rw [State.arrive_held (s := s.passed runs open_) hgood hprom hd hsleep] at hrun
  refine ⟨_, exec_packetReceive_of_regs hrun (State.restoreFor_regs _ _), ?_, ?_, fun hrest hdrop h3 => ?_⟩
  · rw [State.restoreFor_net]
    rfl
  · rw [State.restoreFor_net]
    rfl
  · exact State.restoreFor_of_port h3 hsleep hrest hdrop (by simp)

end

/-- Settles O6: by the way of a lone packet (`packetReceive_oneHop`) and what its destination's port does with it. -/
theorem packetJudgedAtDestination : Obligations.PacketJudgedAtDestination := by
  refine ⟨?refused, ?write, ?read, ?resent, ?held, ?failed⟩
  case refused =>
    intro s x ring c hhop hopen hgood hop hc hno
    obtain ⟨runs, open_, hrun⟩ := packetReceive_judged hhop hopen hgood
    have hop' : pktField (s.portPacket x) 43 40 = 0 ∨ pktField (s.portPacket x) 43 40 = 1 := by
      rw [State.portPacket_op]
      exact hop.imp (congrArg BitVec.toNat) (congrArg BitVec.toNat)
    have hdone := completes_refused hrun hop' (by rw [State.portPacket_src]; omega) hc hno
    rwa [State.answerPacket_portPacket] at hdone
  case write =>
    intro s x ring hhop hopen hgood hyes hop hd hin
    obtain ⟨runs, open_, hrun⟩ := packetReceive_judged hhop hopen hgood
    have hop' : pktField (s.portPacket x) 43 40 = 1 := by rw [State.portPacket_op, hop]; rfl
    have hdone := completes_written hrun hop' hyes hd (by rwa [State.portPacket_offset])
    rwa [State.answerPacket_portPacket, State.portPacket_offset] at hdone
  case read =>
    intro s x ring hhop hopen hgood hyes hop hin
    obtain ⟨runs, open_, hrun⟩ := packetReceive_judged hhop hopen hgood
    have hop' : pktField (s.portPacket x) 43 40 = 0 := by rw [State.portPacket_op, hop]; rfl
    have hdone := completes_read hrun hop' hyes (by rwa [State.portPacket_offset])
    rwa [State.answerPacket_portPacket, State.portPacket_offset] at hdone
  case resent =>
    intro s x ring noise hhop hbad hring
    obtain ⟨runs, open_, hrun⟩ := packetReceive_oneHop hhop noise
    exact completes_resent hrun hbad rfl hring
  case held =>
    intro s x ring hhop hgood hd hsleep
    obtain ⟨runs, open_, hrun⟩ := packetReceive_oneHop hhop []
    obtain ⟨-, hprom, -, -⟩ := hhop
    rw [noisyPacket_nil] at hrun
    exact completes_held hrun hgood hprom hd hsleep
  case failed =>
    intro s p h
    simp [State.packetRefusal, h]

end Sys2Proof.Machine
end

section
/-! SUPPORT. Tiles, the jobs that wait for them and background work (R33 to R35, R215): which job goes first, what placing changes, and what the
commands that free or lose a tile do with it. -/
namespace Sys2Proof.Machine

open Sys2Proof

/-! ## The order of the jobs (R33) -/

theorem jobBefore_iff (a b : TileJob) : jobBefore a b = true ↔ a.prio < b.prio ∨ (a.prio = b.prio ∧ a.arrival < b.arrival) := by
  simp [jobBefore]

theorem not_jobBefore_iff (a b : TileJob) : jobBefore a b = false ↔ b.prio < a.prio ∨ (b.prio = a.prio ∧ b.arrival ≤ a.arrival) := by
  rw [← Bool.not_eq_true, jobBefore_iff]
  omega

theorem nextJob_eq_none {l : List TileJob} : nextJob l = none ↔ l = [] := by
  cases l with
  | nil => simp [nextJob]
  | cons i l =>
    cases hk : nextJob l with
    | none => simp [nextJob, hk]
    | some k => cases hki : jobBefore k i <;> simp [nextJob, hk, hki]

/-- The job placed next waits, and no other that waits goes before it. -/
theorem nextJob_first {l : List TileJob} {j : TileJob} (h : nextJob l = some j) : j ∈ l ∧ ∀ x ∈ l, jobBefore x j = false := by
  induction l generalizing j with
  | nil => simp [nextJob] at h
  | cons i l ih =>
    simp only [List.mem_cons, forall_eq_or_imp, not_jobBefore_iff] at ih ⊢
    cases hk : nextJob l with
    | none =>
      obtain rfl := nextJob_eq_none.mp hk
      obtain rfl : i = j := by simpa [nextJob] using h
      simp
    | some k =>
      obtain ⟨hmem, hfirst⟩ := ih hk
      simp only [nextJob, hk] at h
      split at h
      · next hki =>
        cases h
        rw [jobBefore_iff] at hki
        exact ⟨.inr hmem, by omega, hfirst⟩
      · next hki =>
        cases h
        rw [Bool.not_eq_true, not_jobBefore_iff] at hki
        refine ⟨.inl rfl, by omega, fun x hx => ?_⟩
        have := hfirst x hx
        omega

/-! ## Placing (R33, R34, R215) -/

/-- What placing work on tiles changes: tiles, waiting jobs, background work and SRAM; a tile that is not idle stays as it is. -/
def State.placedOver (s t : State) : Prop :=
  t = { s with net := { s.net with tiles := t.net.tiles, jobs := t.net.jobs, background := t.net.background, sram := t.net.sram } }
    ∧ ∀ k, (s.tile k).idle = false → t.tile k = s.tile k

theorem State.placedOver_refl (s : State) : s.placedOver s := ⟨rfl, fun _ _ => rfl⟩

theorem State.placedOver_trans {s t u : State} (h1 : s.placedOver t) (h2 : t.placedOver u) : s.placedOver u := by
  obtain ⟨hst, htile⟩ := h1
  obtain ⟨htu, hutile⟩ := h2
  refine ⟨?_, fun k hk => ?_⟩
  · rw [htu, hst]
  · rw [hutile k (by rw [htile k hk, hk]), htile k hk]

theorem State.placedOver_regs {s t : State} (h : s.placedOver t) : t.regs = s.regs := by
  obtain ⟨hst, -⟩ := h
  rw [hst]

theorem State.placedOver_pwr {s t : State} (h : s.placedOver t) : t.pwr = s.pwr := by
  obtain ⟨hst, -⟩ := h
  rw [hst]

theorem State.freeTile_spec {s : State} {k : Nat} (h : s.freeTile = some k) : k < 4 ∧ (s.tile k).idle = true ∧ s.island (3 + k) = 2 := by
  have hmem := List.mem_of_find?_eq_some h
  have hfree := List.find?_some h
  simp only [Bool.and_eq_true, beq_iff_eq] at hfree
  refine ⟨?_, hfree⟩
  simp at hmem
  omega

/-- A tile that readies itself for a world changes no more than its SRAM. -/
theorem State.tileWorld_eq (s : State) (n : Nat) (w : World) :
    s.tileWorld n w = { s with net := { s.net with sram := (s.tileWorld n w).net.sram } } := by
  unfold State.tileWorld
  split <;> rfl

theorem State.tile_setTile_same {s : State} {k : Nat} (h : k < s.net.tiles.length) (x : Tile) : (s.setTile k x).tile k = x := by
  simp [State.tile, State.setTile, h]

theorem State.tile_setTile_other (s : State) {k n : Nat} (h : n ≠ k) (x : Tile) : (s.setTile k x).tile n = s.tile n := by
  simp [State.tile, State.setTile, h.symm]

/-- An idle tile takes work of a world. -/
def State.tileTakes (s : State) (k : Nat) (w : World) (x : Tile) : State := (s.tileWorld k w).setTile k x

theorem State.placedOver_tileTakes {s : State} {k : Nat} (h : (s.tile k).idle = true) (w : World) (x : Tile) :
    s.placedOver (s.tileTakes k w x) := by
  rw [State.tileTakes, State.tileWorld_eq]
  refine ⟨rfl, fun n hn => ?_⟩
  have hne : n ≠ k := by
    rintro rfl
    simp [h] at hn
  exact s.tile_setTile_other hne x

/-- What still waits is no matter of the tiles. -/
theorem State.placedOver_waiting {s t : State} (h : s.placedOver t) (jobs : List TileJob) (back : List BackKind) :
    s.placedOver { t with net := { t.net with jobs := jobs, background := back } } := by
  obtain ⟨hst, htile⟩ := h
  exact ⟨by rw [hst], htile⟩

/-- The state once the job `j` has gone to the tile `k`. -/
def State.jobPlaced (s : State) (k : Nat) (j : TileJob) : State :=
  let s1 := s.tileTakes k j.world ((s.tile k).take j)
  { s1 with net := { s1.net with jobs := s1.net.jobs.erase j } }

theorem placeJobs_succ {s : State} {k : Nat} {j : TileJob} (hk : s.freeTile = some k) (hj : nextJob s.net.jobs = some j) (n : Nat) :
    placeJobs (n + 1) s = placeJobs n (s.jobPlaced k j) := by
  rw [placeJobs, hk, hj]
  rfl

theorem State.placedOver_jobPlaced {s : State} {k : Nat} (h : (s.tile k).idle = true) (j : TileJob) : s.placedOver (s.jobPlaced k j) :=
  State.placedOver_waiting (State.placedOver_tileTakes h _ _) _ _

theorem State.jobPlaced_tile {s : State} {k : Nat} (h : k < s.net.tiles.length) (j : TileJob) :
    (s.jobPlaced k j).tile k = (s.tile k).take j := by
  rw [State.jobPlaced, State.tileTakes, State.tileWorld_eq]
  exact State.tile_setTile_same h _

theorem placeJobs_of_no_tile {s : State} (h : s.freeTile = none) (n : Nat) : placeJobs n s = s := by
  cases n <;> simp [placeJobs, h]

theorem placeJobs_of_no_job {s : State} (h : s.net.jobs = []) (n : Nat) : placeJobs n s = s := by
  cases n with
  | zero => rfl
  | succ n => cases hk : s.freeTile <;> simp [placeJobs, h, hk, nextJob]

theorem placeJobs_placedOver (n : Nat) (s : State) : s.placedOver (placeJobs n s) := by
  induction n generalizing s with
  | zero => exact s.placedOver_refl
  | succ n ih =>
    cases hk : s.freeTile with
    | none =>
      rw [placeJobs_of_no_tile hk]
      exact s.placedOver_refl
    | some k =>
      cases hj : nextJob s.net.jobs with
      | none =>
        rw [placeJobs_of_no_job (nextJob_eq_none.mp hj)]
        exact s.placedOver_refl
      | some j =>
        obtain ⟨-, hidle, -⟩ := State.freeTile_spec hk
        rw [placeJobs_succ hk hj]
        exact State.placedOver_trans (State.placedOver_jobPlaced hidle j) (ih _)

theorem placeBackground_of_not_ok {s : State} (h : s.backgroundOk = false) : placeBackground s = s := by
  simp [placeBackground, h]

theorem placeBackground_placedOver (s : State) : s.placedOver (placeBackground s) := by
  unfold placeBackground
  split
  · exact s.placedOver_refl
  · split
    · next k b rest hk hb =>
      obtain ⟨-, hidle, -⟩ := State.freeTile_spec hk
      exact State.placedOver_waiting (State.placedOver_tileTakes hidle _ _) _ _
    · exact s.placedOver_refl

/-- Placing jobs and then background work. -/
theorem placed_placedOver (s : State) (n : Nat) : s.placedOver (placeBackground (placeJobs n s)) :=
  State.placedOver_trans (placeJobs_placedOver n s) (placeBackground_placedOver _)

/-- The first job that waits goes to the lowest free tile and stays there, whatever is placed after it. -/
theorem placed_first {s : State} (hlen : s.net.tiles.length = 4) {k : Nat} {j : TileJob} (hk : s.freeTile = some k)
    (hj : nextJob s.net.jobs = some j) (n : Nat) : (placeBackground (placeJobs (n + 1) s)).tile k = (s.tile k).take j := by
  obtain ⟨hk4, -, -⟩ := State.freeTile_spec hk
  have htakes := State.jobPlaced_tile (hlen ▸ hk4) j
  obtain ⟨-, hstays⟩ := placed_placedOver (s.jobPlaced k j) n
  rw [placeJobs_succ hk hj, hstays k (by rw [htakes]; simp [Tile.idle, Tile.take]), htakes]

/-! ## Registers that an operation keeps -/

theorem State.regsOnly_put {s t : State} (h : t = { s with regs := t.regs }) (f : Field) (v : Nat) :
    t.put f v = { s with regs := (t.put f v).regs } := congrArg (fun u : State => { u with regs := (t.put f v).regs }) h

theorem State.regsNet_trans {s t u : State} (h1 : t = { s with regs := t.regs, net := t.net }) (h2 : u = { t with regs := u.regs, net := u.net }) :
    u = { s with regs := u.regs, net := u.net } := by
  rw [h2, h1]

theorem keepsRegs_refl (s : State) (l : List Nat) : keepsRegs s s l := fun _ _ => rfl

theorem keepsRegs_put {s t : State} {l : List Nat} (h : keepsRegs s t l) {f : Field} (hf : f.off ∈ l) (v : Nat) : keepsRegs s (t.put f v) l := by
  intro off ho
  rw [State.reg_put_other t (fun e => ho (by rwa [e])), h off ho]

theorem State.foldl_setReg_eq (l : List Nat) (a v : Nat → Nat) (s : State) :
    l.foldl (fun t n => t.setReg (a n) (v n)) s = { s with regs := (l.foldl (fun t n => t.setReg (a n) (v n)) s).regs } := by
  induction l generalizing s with
  | nil => rfl
  | cons n l ih =>
    rw [List.foldl_cons, ih]
    rfl

theorem State.reg_foldl_setReg_other (l : List Nat) (a v : Nat → Nat) (s : State) {off : Nat} (h : ∀ n ∈ l, off ≠ a n) :
    (l.foldl (fun t n => t.setReg (a n) (v n)) s).reg off = s.reg off := by
  induction l generalizing s with
  | nil => rfl
  | cons n l ih =>
    rw [List.forall_mem_cons] at h
    rw [List.foldl_cons, ih _ h.2, State.reg_setReg_other _ h.1]

theorem State.reg_foldl_setReg_mem {l : List Nat} {a : Nat → Nat} (ha : Function.Injective a) (v : Nat → Nat) (s : State) {m : Nat} (h : m ∈ l) :
    (l.foldl (fun t n => t.setReg (a n) (v n)) s).reg (a m) = v m % 2 ^ 32 := by
  induction l generalizing s with
  | nil => simp at h
  | cons n l ih =>
    rw [List.foldl_cons]
    by_cases hl : m ∈ l
    · exact ih _ hl
    · obtain rfl : m = n := (List.mem_cons.mp h).resolve_right hl
      rw [State.reg_foldl_setReg_other _ _ _ _ (fun k hk hkm => hl (by rwa [ha hkm])), State.reg_setReg_same]

/-! ## Drift offsets (R200) -/

theorem State.showOffsets_eq (s : State) : s.showOffsets = { s with regs := s.showOffsets.regs } := State.foldl_setReg_eq _ _ _ s

theorem State.showOffsets_reg_other (s : State) {off : Nat} (h : ∀ n < 8, off ≠ 0x5060 + 4 * n) : s.showOffsets.reg off = s.reg off :=
  State.reg_foldl_setReg_other _ _ _ s (fun n hn => h n (List.mem_range.mp hn))

theorem State.offsetSample_net (s : State) (r : List Rat) : (s.offsetSample r).net = s.net := by
  unfold State.offsetSample
  dsimp only
  rw [State.showOffsets_eq]
  split <;> rfl

theorem State.offsetSample_govStep (s : State) (r : List Rat) : (s.offsetSample r).get F.PWR_STAT_GOV_STEP = s.get F.PWR_STAT_GOV_STEP := by
  unfold State.offsetSample
  dsimp only
  rw [State.get, State.showOffsets_reg_other _ (by decide)]
  split <;> rfl

/-! ## Where nothing settles, is held up or waits -/

/-- An island with a vote for RUN stays as it is. -/
theorem State.settle_of_runVotes {s : State} {i : Nat} (h7 : i ≠ 7) (hv : s.votes i ≠ 0) (hr : s.runVotes i ≠ 0) : s.settle i = s := by
  simp [State.settle, h7, hv, hr]

theorem State.dueHold_of_none {s : State} (h : s.lf.hold = none) : s.dueHold = s := by
  simp only [State.dueHold, h]

theorem State.jobReady_of_none {s : State} (h : s.lf.hold = none) (x : Sess) : s.jobReady x = true := by
  simp [State.jobReady, h]

theorem tileFree_places {s : State} {tile : Fin 4} (hf : (s.tile tile.val).failed = false) (hj : (s.tile tile.val).job = none)
    (hs : (s.tile tile.val).slice = none) : exec (.tileFree tile) s = .next (placeBackground (placeJobs 4 s)) := by
  refine congrArg Host.Outcome.next ?_
  simp [hf, hj, hs]

theorem tileFault_of_failed {s : State} {k : Nat} (h : (s.tile k).failed = true) : tileFault k s = s := by
  simp [tileFault, h]

theorem rangingJobDone_of_no_tile {s : State} {n : Nat} (h : s.tileOf n = none) (d : Dsp) : rangingJobDone n d s = s := by
  simp [rangingJobDone, h]

theorem rangingJobEnter_of_no_session {s : State} {n : Nat} (hold : s.lf.hold = none) (h : s.sess? n = none) : rangingJobEnter n s = s := by
  simp [rangingJobEnter, State.dueHold_of_none hold, h]

theorem rangingJobEnter_of_no_tile {s : State} {n : Nat} {x : Sess} (hold : s.lf.hold = none) (hx : s.sess? n = some x) (hair : x.stage = .air)
    (hno : s.noTile = true) : rangingJobEnter n s = s.endMode4 x := by
  simp [rangingJobEnter, State.dueHold_of_none hold, State.jobReady_of_none hold, hx, hair, hno]

theorem rangingJobEnter_waits {s : State} {n : Nat} {x : Sess} (hold : s.lf.hold = none) (hx : s.sess? n = some x) (hair : x.stage = .air)
    (hsome : s.noTile = false) (hfree : s.freeTile = none) : rangingJobEnter n s = (let u := s.updSess n (fun y => { y with stage := .job })
      State.wakeTiles { u with net := { s.net with jobs := s.net.jobs ++ [⟨n, x.prio, s.net.arrival, .keeper⟩], arrival := s.net.arrival + 1 } }) := by
  simp only [rangingJobEnter, State.dueHold_of_none hold, State.jobReady_of_none hold, hx, hair, hsome]
  exact congrArg State.wakeTiles (placeJobs_of_no_tile (by exact hfree) 4)

/-- A session without an exchange result ends by its LF vectors. -/
theorem rangingJobDone_without_result {s : State} {n : Nat} {d : Dsp} {x : Sess} {k : Nat} (hk : s.tileOf n = some k) (hx : s.sess? n = some x)
    (hrep : x.srep = none) (hreason : x.reason = 0) (hranges : x.ranges = true) :
    rangingJobDone n d s = (let s1 := s.setTile k { s.tile k with job := none }
      (placeBackground (placeJobs 4 (s1.endSession x
        (({ s1 with sys := { s1.sys with settingsUse := some x.settings } }).computeLf x 0x0703)))).settle (3 + k)) := by
  simp only [rangingJobDone, hk, hx, hrep, hreason, hranges, Option.isSome_none, Bool.and_false, Bool.false_and, Bool.false_eq_true, if_false]
  rfl

/-- While the governor stops background work and no job waits, nothing is placed. -/
theorem placed_of_nothing {s : State} (hj : s.net.jobs = []) (hgov : 1 ≤ s.get F.PWR_STAT_GOV_STEP) (n : Nat) :
    placeBackground (placeJobs n s) = s := by
  rw [placeJobs_of_no_job hj, placeBackground_of_not_ok (decide_eq_false (by omega))]

/-- The state in which the work of a tile ends its slice. -/
def State.sliceFreed (s : State) (tile : Nat) : State := s.setTile tile { s.tile tile with slice := none }

theorem backgroundSliceEnd_calibrated {s : State} {tile : Nat} {r : List Rat} (h : (s.tile tile).slice = some (.calibration r)) :
    backgroundSliceEnd tile true s = (placeBackground (placeJobs 4 ((s.sliceFreed tile).offsetSample r))).settle (3 + tile) := by
  simp only [backgroundSliceEnd, h]
  rfl

theorem backgroundSliceEnd_analysed {s : State} {tile c : Nat} (h : (s.tile tile).slice = some (.analysis c)) :
    backgroundSliceEnd tile true s = (placeBackground (placeJobs 4 (s.sliceFreed tile))).settle (3 + tile) := by
  simp only [backgroundSliceEnd, h]
  rfl

/-- Unfinished work waits again ahead of the rest. -/
def State.sliceWaits (s : State) (tile : Nat) (b : BackKind) : State := { s with net := { s.net with
  tiles := s.net.tiles.set tile { s.tile tile with slice := none }, background := b :: s.net.background } }

theorem backgroundSliceEnd_unfinished {s : State} {tile : Nat} {b : BackKind} (h : (s.tile tile).slice = some b) :
    backgroundSliceEnd tile false s = (placeBackground (placeJobs 4 (s.sliceWaits tile b))).settle (3 + tile) := by
  simp only [backgroundSliceEnd, h]
  rfl

theorem State.reg_of_regs {s t : State} (h : t.regs = s.regs) (off : Nat) : t.reg off = s.reg off := by simp only [State.reg, h]

theorem State.get_of_regs {s t : State} (h : t.regs = s.regs) (f : Field) : t.get f = s.get f := by simp only [State.get, State.reg, h]

theorem State.votes_of_regs {s t : State} (h : t.regs = s.regs) (i : Nat) : t.votes i = s.votes i := by
  simp only [State.votes, State.get, State.reg, h]

theorem State.runVotes_of_regs {s t : State} (h : t.regs = s.regs) (hp : t.pwr = s.pwr) (i : Nat) : t.runVotes i = s.runVotes i := by
  simp only [State.runVotes, State.votes_of_regs h, hp]

/-! ## A failed tile (R35) -/

theorem State.refreshRng_eq (s : State) : s.refreshRng = { s with regs := s.refreshRng.regs } := by
  simp only [State.refreshRng, State.putFlag]
  exact State.regsOnly_put (State.regsOnly_put (State.regsOnly_put (State.regsOnly_put (State.regsOnly_put (State.regsOnly_put rfl
    _ _) _ _) _ _) _ _) _ _) _ _

@[simp] theorem State.refreshRng_net (s : State) : s.refreshRng.net = s.net := by
  simp only [State.refreshRng, State.put_net, State.putFlag_net]

theorem State.refreshRng_keeps (s : State) : keepsRegs s s.refreshRng [F.RNG_STAT_CHAINS.off] := by
  simp only [State.refreshRng, State.putFlag]
  exact keepsRegs_put (keepsRegs_put (keepsRegs_put (keepsRegs_put (keepsRegs_put (keepsRegs_put (keepsRegs_refl s _)
    (by decide) _) (by decide) _) (by decide) _) (by decide) _) (by decide) _) (by decide) _

theorem State.refreshRng_reg (s : State) {off : Nat} (h : off ≠ F.RNG_STAT_CHAINS.off) : s.refreshRng.reg off = s.reg off :=
  s.refreshRng_keeps off (List.mem_singleton.not.mpr h)

theorem State.refreshRng_get (s : State) {f : Field} (h : f.off ≠ F.RNG_STAT_CHAINS.off) : s.refreshRng.get f = s.get f := by
  rw [State.get, s.refreshRng_reg h, State.get]

/-- A group that loses a copy shows in PWR_RED_STAT (R398). -/
theorem State.redLoss_bit (s : State) {g : Nat} (hg : g < 32) : Nat.testBit ((s.redLoss g).reg R.PWR_RED_STAT) g = true := by
  rw [State.redLoss, State.event, State.reg_put_other _ (by decide), State.reg_setReg_same, Nat.testBit_mod_two_pow]
  simp [hg]

theorem State.redLoss_reg_other (s : State) {off : Nat} (h : off ∉ [R.PWR_RED_STAT, R.PWR_EVT]) (g : Nat) :
    (s.redLoss g).reg off = s.reg off := by
  simp only [List.mem_cons, List.not_mem_nil, or_false, not_or] at h
  obtain ⟨hred, hevt⟩ := h
  rw [State.redLoss, State.event, State.reg_put_other _ hevt, State.reg_setReg_other _ hred]

/-- The other tile that works keeps RNG up. -/
theorem State.noTile_false {s : State} (hlen : s.net.tiles.length = 4) {j : Nat} (hj : j < 4) (hworks : (s.tile j).failed = false)
    (hisl : s.islandFailed (3 + j) = false) : s.noTile = false := by
  have hjlen : j < s.net.tiles.length := hlen ▸ hj
  have htile : s.tile j = s.net.tiles[j] := by simp [State.tile, hjlen]
  have htiles : s.net.tiles.all (·.failed) = false :=
    List.all_eq_false.mpr ⟨s.net.tiles[j], List.getElem_mem hjlen, by rw [← htile, hworks]; decide⟩
  have hislands : (s.islandFailed 3 && s.islandFailed 4 && s.islandFailed 5 && s.islandFailed 6) = false := by
    interval_cases j <;> simp [hisl]
  rw [State.noTile, htiles, hislands]
  rfl

/-- A tile that fails: its job goes back to those that wait, ahead of them, and so does its background work. -/
def State.tileBack (s : State) (k : Nat) : State :=
  let back := match (s.tile k).slice with | some b => [b] | none => []
  let s1 := s.setTile k { s.tile k with failed := true, job := none, slice := none }
  { s1 with net := { s1.net with
    jobs := match (s.tile k).job with | some j => j :: s1.net.jobs | none => s1.net.jobs
    background := back ++ s1.net.background } }

/-- The fault of a tile before what waits is placed again. -/
def State.tileFails (s : State) (k : Nat) : State :=
  let s3 := ((s.tileBack k).event F.RNG_EVT_TILE_FAIL).redLoss 1
  if (s.tile k).job.isSome then s3.reason .rng 0x0716 else s3

theorem State.tileFails_tiles (s : State) (k : Nat) :
    (s.tileFails k).net.tiles = s.net.tiles.set k { s.tile k with failed := true, job := none, slice := none } := by
  unfold State.tileFails
  split <;> rfl

theorem State.tileFails_regsNet (s : State) (k : Nat) : s.tileFails k = { s with regs := (s.tileFails k).regs, net := (s.tileFails k).net } := by
  have hloss := State.regsNet_trans (s := s) (t := s.tileBack k) (u := ((s.tileBack k).event F.RNG_EVT_TILE_FAIL).redLoss 1) rfl rfl
  unfold State.tileFails
  dsimp only
  split
  · exact State.regsNet_trans hloss rfl
  · exact hloss

/-- A failed tile is reported, and its group is reduced. -/
theorem State.tileFails_shows (s : State) (k : Nat) : (s.tileFails k).get F.RNG_EVT_TILE_FAIL = 1
    ∧ Nat.testBit ((s.tileFails k).reg R.PWR_RED_STAT) 1 = true ∧ (s.tileFails k).reg R.PWR_ISL_STATE = s.reg R.PWR_ISL_STATE := by
  have hevent : (((s.tileBack k).event F.RNG_EVT_TILE_FAIL).redLoss 1).get F.RNG_EVT_TILE_FAIL = 1 := by
    rw [State.get, State.redLoss_reg_other _ (by decide), ← State.get, State.event, State.get_put_same _ _ _ (by decide) (by decide)]
    rfl
  have hred := ((s.tileBack k).event F.RNG_EVT_TILE_FAIL).redLoss_bit (g := 1) (by decide)
  have hisl : (((s.tileBack k).event F.RNG_EVT_TILE_FAIL).redLoss 1).reg R.PWR_ISL_STATE = s.reg R.PWR_ISL_STATE := by
    rw [State.redLoss_reg_other _ (by decide), State.event, State.reg_put_other _ (by decide)]
    rfl
  unfold State.tileFails
  dsimp only
  split
  · refine ⟨?_, ?_, ?_⟩
    · rw [State.reason, State.get_put_apart _ _ _ _ (by decide) (by decide) (by decide), hevent]
    · rw [State.reason, State.reg_put_other _ (by decide), hred]
    · rw [State.reason, State.reg_put_other _ (by decide), hisl]
  · exact ⟨hevent, hred, hisl⟩

theorem tileFault_of_works {s : State} {k : Nat} (h : (s.tile k).failed = false) (hsome : (s.tileFails k).noTile = false) :
    tileFault k s = (placeBackground (placeJobs 4 (s.tileFails k))).refreshRng := by
  simp only [tileFault, h, Bool.false_eq_true, if_false]
  exact congrArg State.refreshRng (if_neg (by rw [Bool.not_eq_true]; exact hsome))

/-! ## The obligation -/

/-- Settles O8: the first placement gives the first job the lowest free tile, and every later one leaves the tiles at work alone
(`placed_first`, `placed_placedOver`). -/
theorem jobsRunOnTiles : Obligations.JobsRunOnTiles := by
  refine ⟨fun l j => nextJob_first, ?free, ?sliceEnd, ?analysis, ?enter, ?enterNoTile, ?enterNone, ?done, ?doneNone, ?fault, ?failed⟩
  case free =>
    intro s tile k j hlen hf hj hs hk hnext
    obtain ⟨-, -, hrun⟩ := State.freeTile_spec hk
    have htile := placed_first hlen hk hnext 3
    obtain ⟨hframe, -⟩ := placed_placedOver s 4
    exact ⟨_, tileFree_places hf hj hs, by rw [htile]; rfl, by rw [htile]; rfl, hrun, hframe⟩
  case sliceEnd =>
    intro s tile b hlen hb hj hgov
    refine ⟨congrArg Host.Outcome.next ?_, congrArg Host.Outcome.next ?_⟩
    · cases b with
      | calibration r =>
        rw [backgroundSliceEnd_calibrated hb, placed_of_nothing]
        · rfl
        · rw [State.offsetSample_net]; exact hj
        · rw [State.offsetSample_govStep]; exact hgov
      | analysis c =>
        rw [backgroundSliceEnd_analysed hb, placed_of_nothing]
        · rfl
        · exact hj
        · exact hgov
    · rw [backgroundSliceEnd_unfinished hb, placed_of_nothing]
      · rfl
      · exact hj
      · exact hgov
  case analysis =>
    intro s tile c k j hlen hb hk hnext hv hr
    have hlen' : (s.sliceFreed tile.val).net.tiles.length = 4 := by simpa [State.sliceFreed, State.setTile] using hlen
    have htile := placed_first (s := s.sliceFreed tile.val) hlen' hk hnext 3
    have hplaced := placed_placedOver (s.sliceFreed tile.val) 4
    have ⟨hframe, _⟩ := hplaced
    refine ⟨_, congrArg Host.Outcome.next ?_, by rw [htile]; rfl, hframe⟩
    have hregs : (placeBackground (placeJobs 4 (s.sliceFreed tile.val))).regs = s.regs := (State.placedOver_regs hplaced).trans rfl
    have hpwr : (placeBackground (placeJobs 4 (s.sliceFreed tile.val))).pwr = s.pwr := (State.placedOver_pwr hplaced).trans rfl
    rw [backgroundSliceEnd_analysed hb, State.settle_of_runVotes (by omega)]
    · rwa [State.votes_of_regs hregs]
    · rwa [State.runVotes_of_regs hregs hpwr]
  case enter =>
    exact fun s n x hold hx hair hsome hfree => congrArg Host.Outcome.next (rangingJobEnter_waits hold hx hair hsome hfree)
  case enterNoTile =>
    exact fun s n x hold hx hair hno => congrArg Host.Outcome.next (rangingJobEnter_of_no_tile hold hx hair hno)
  case enterNone =>
    exact fun s n hold h => congrArg Host.Outcome.next (rangingJobEnter_of_no_session hold h)
  case done =>
    exact fun s n d x k hk hx hrep hreason hranges => congrArg Host.Outcome.next (rangingJobDone_without_result hk hx hrep hreason hranges)
  case doneNone =>
    exact fun s n d h => congrArg Host.Outcome.next (rangingJobDone_of_no_tile h d)
  case fault =>
    intro s k j hlen hf hj hjk hworks hisl
    have hplaced := placed_placedOver (s.tileFails k.val) 4
    have ⟨hframe, hstays⟩ := hplaced
    obtain ⟨hevent, hred, hisland⟩ := s.tileFails_shows k.val
    have htile : (s.tileFails k.val).tile k.val = { s.tile k.val with failed := true, job := none, slice := none } := by
      rw [State.tile, State.tileFails_tiles]
      simp [hlen]
    have hother : (s.tileFails k.val).tile j = s.tile j := by
      rw [State.tile, State.tileFails_tiles]
      simp [State.tile, hjk.symm]
    have hsome : (s.tileFails k.val).noTile = false :=
      State.noTile_false (by rw [State.tileFails_tiles]; simpa using hlen) hj (by rw [hother, hworks])
        (by rw [State.islandFailed, State.island, hisland]; exact hisl)
    have hregs := State.placedOver_regs hplaced
    refine ⟨_, congrArg Host.Outcome.next (tileFault_of_works hf hsome), ?_⟩
    generalize placeBackground (placeJobs 4 (s.tileFails k.val)) = u at hframe hstays hregs
    refine ⟨?_, ?_, ?_, ?_⟩
    · rw [State.tile, State.refreshRng_net, ← State.tile, hstays k.val (by rw [htile]; rfl), htile]
    · rw [State.refreshRng_get _ (by decide), State.get_of_regs hregs, hevent]
    · rw [State.refreshRng_reg _ (by decide), State.reg_of_regs hregs, hred]
    · exact State.regsNet_trans (s.tileFails_regsNet k.val) (State.regsNet_trans (by rw [hframe]) u.refreshRng_eq)
  case failed => exact fun s k h => congrArg Host.Outcome.next (tileFault_of_failed h)

end Sys2Proof.Machine
end
section
/-! SUPPORT. Drift offsets, banks of shared memory and captures (R32, R200, R316, R317): what a journal entry changes, what sessions that end or
begin again change, and what the three commands do. -/
namespace Sys2Proof.Machine

open Sys2Proof

/-! ## What the end of a session changes (R209) -/

/-- The registers in which the state of the air and of RNG shows: LF_STAT, RF_STAT and RNG_STAT. -/
def airRegs : List Nat := [F.LF_STAT_BUSY.off, R.RF_STAT, F.RNG_STAT_CHAINS.off]

/-- What sessions that end, or begin again, may change in a state: the registers of the air, waiting jobs and tiles, and the working state of their
islands; no fuse, nothing of the vault or of the update. -/
def State.sessionWork (s t : State) : Prop :=
  keepsRegs s t airRegs ∧ t.net = { s.net with jobs := t.net.jobs, tiles := t.net.tiles } ∧ t.fuses = s.fuses ∧ t.vault = s.vault
    ∧ t.update = s.update

theorem State.sessionWork_refl (s : State) : s.sessionWork s := ⟨keepsRegs_refl s _, rfl, rfl, rfl, rfl⟩

theorem State.sessionWork_trans {s t u : State} (h1 : s.sessionWork t) (h2 : t.sessionWork u) : s.sessionWork u := by
  obtain ⟨hregs, hnet, hfuses, hvault, hupd⟩ := h1
  obtain ⟨hregs', hnet', hfuses', hvault', hupd'⟩ := h2
  exact ⟨fun off ho => (hregs' off ho).trans (hregs off ho), by rw [hnet', hnet], hfuses'.trans hfuses, hvault'.trans hvault, hupd'.trans hupd⟩

theorem State.sessionWork_put {s t : State} (h : s.sessionWork t) {f : Field} (hf : f.off ∈ airRegs) (v : Nat) : s.sessionWork (t.put f v) := by
  obtain ⟨hregs, hrest⟩ := h
  exact ⟨keepsRegs_put hregs hf v, hrest⟩

theorem State.sessionWork_foldl {β : Type} {l : List β} {f : State → β → State} (hf : ∀ (s : State) (x : β), s.sessionWork (f s x)) (s : State) :
    s.sessionWork (l.foldl f s) := by
  induction l generalizing s with
  | nil => exact s.sessionWork_refl
  | cons x l ih => exact State.sessionWork_trans (hf s x) (ih _)

theorem State.sessionWork_refreshRng (s : State) : s.sessionWork s.refreshRng := by
  simp only [State.refreshRng, State.putFlag]
  exact State.sessionWork_put (State.sessionWork_put (State.sessionWork_put (State.sessionWork_put (State.sessionWork_put (State.sessionWork_put
    s.sessionWork_refl (by decide) _) (by decide) _) (by decide) _) (by decide) _) (by decide) _) (by decide) _

theorem State.sessionWork_dropSess (s : State) (n : Nat) : s.sessionWork (s.dropSess n) := by
  unfold State.dropSess
  refine State.sessionWork_trans ?_ (State.sessionWork_refreshRng _)
  exact ⟨fun _ _ => rfl, rfl, rfl, rfl, rfl⟩

theorem State.sessionWork_rfIdle (s : State) : s.sessionWork s.rfIdle := by
  unfold State.rfIdle
  split_ifs
  · exact State.sessionWork_put s.sessionWork_refl (by decide) _
  · exact State.sessionWork_put s.sessionWork_refl (by decide) _
  · exact State.sessionWork_put (State.sessionWork_put (State.sessionWork_put s.sessionWork_refl (by decide) _) (by decide) _) (by decide) _
  · exact State.sessionWork_put s.sessionWork_refl (by decide) _

theorem State.sessionWork_setHold (s : State) (h : Option Hold) : s.sessionWork (s.setHold h) :=
  State.sessionWork_put (t := { s with lf := { s.lf with hold := h } }) s.sessionWork_refl (by decide) _

theorem State.sessionWork_dropOnAir (s : State) : s.sessionWork s.dropOnAir := by
  unfold State.dropOnAir
  split
  · split
    · exact s.sessionWork_refl
    · exact State.sessionWork_rfIdle { s with rf := { s.rf with onAir := none } }
  · exact s.sessionWork_refl

theorem State.sessionWork_restartRequests (s : State) (ids : List Nat) : s.sessionWork (s.restartRequests ids) := by
  unfold State.restartRequests
  refine State.sessionWork_trans ?_ (State.sessionWork_refreshRng _)
  have hdrop := State.sessionWork_foldl (fun t (x : Sess) => t.sessionWork_dropSess x.number) s (l := s.rng.sessions.filter (fun x => ids.contains x.req))
  have hair : ∀ t : State, t.sessionWork (((t.setHold none).dropQueued).dropOnAir) := fun t =>
    State.sessionWork_trans (t.sessionWork_setHold none) (State.sessionWork_dropOnAir _)
  dsimp only
  split_ifs
  · exact State.sessionWork_trans hdrop (hair _)
  · exact hdrop

/-! ## What a journal entry changes (R311 to R315) -/

/-- The registers in which a journal entry shows: STO_STAT, STO_EVT, STO_REASON and NFC_TAG_STAT. -/
def entryRegs : List Nat := [R.STO_STAT, R.STO_EVT, F.STO_REASON_REASON.off, F.NFC_TAG_STAT_TAIL_SLOT.off]

theorem State.refreshWarn_keeps (s : State) : keepsRegs s s.refreshWarn entryRegs := by
  unfold State.refreshWarn
  dsimp only
  split
  · exact keepsRegs_put (keepsRegs_put (keepsRegs_put (keepsRegs_refl s _) (by decide) _) (by decide) _) (by decide) _
  · exact keepsRegs_put (keepsRegs_refl s _) (by decide) _

theorem State.tailMirror_keeps (s : State) (seq : Nat) (e : Bytes) : keepsRegs s (s.tailMirror seq e) entryRegs := by
  unfold State.tailMirror State.tailPut
  split_ifs
  · exact keepsRegs_refl s _
  · exact keepsRegs_refl s _
  · exact keepsRegs_put (t := s.tagPut _ _) (keepsRegs_refl s _) (by decide) _

/-- Two contents of the vault that differ in the journal alone: staging, sequence number, chain, head records and map deltas. -/
def sameRecords (v w : Vault) : Prop :=
  w = { v with staging := w.staging, mapDeltas := w.mapDeltas, nextSeq := w.nextSeq, chain := w.chain, chainPrev := w.chainPrev
               headSeqs := w.headSeqs }

theorem sameRecords_refl (v : Vault) : sameRecords v v := rfl

theorem sameRecords_trans {u v w : Vault} (h1 : sameRecords u v) (h2 : sameRecords v w) : sameRecords u w := by
  unfold sameRecords at *
  rw [h2, h1]

theorem State.program_vault (s : State) (region d n : Nat) :
    (s.program region d n).vault = { s.vault with mapDeltas := s.vault.mapDeltas + n } := rfl

theorem State.drainPage_records (s : State) : sameRecords s.vault s.drainPage.vault := by
  unfold State.drainPage
  split
  · exact sameRecords_refl _
  · split
    · exact sameRecords_refl _
    · dsimp only
      rw [State.program_vault, State.dropIntervals_vault]
      rfl

/-- What a journal entry changes but the NAND and the tag: the registers in which it shows, the journal in the vault, what storage has due. -/
def State.entryWork (s t : State) : Prop :=
  keepsRegs s t entryRegs ∧ sameRecords s.vault t.vault ∧ t.sto = { s.sto with ckptDue := t.sto.ckptDue, latched := t.sto.latched }

theorem State.entryWork_trans {s t u : State} (h1 : s.entryWork t) (h2 : t.entryWork u) : s.entryWork u := by
  obtain ⟨hregs, hvault, hsto⟩ := h1
  obtain ⟨hregs', hvault', hsto'⟩ := h2
  exact ⟨fun off ho => (hregs' off ho).trans (hregs off ho), sameRecords_trans hvault hvault', by rw [hsto', hsto]⟩

/-- An operation on the registers of an entry alone. -/
theorem State.entryWork_of_regs {s t : State} (hregs : keepsRegs s t entryRegs) (hvault : t.vault = s.vault) (hsto : t.sto = s.sto) :
    s.entryWork t := ⟨hregs, by rw [hvault]; exact sameRecords_refl _, by rw [hsto]⟩

theorem State.drainPage_work (s : State) : s.entryWork s.drainPage :=
  ⟨fun off _ => State.reg_of_regs s.drainPage_regs off, s.drainPage_records, by rw [s.drainPage_sto]⟩

theorem State.commitEntry_work (s : State) (type reason src flags mt : Nat) (body : Bytes) :
    s.entryWork (s.commitEntry type reason src flags mt body) := by
  have hshow : ∀ (t : State) (seq : Nat) (e : Bytes), t.entryWork ((t.refreshWarn.tailMirror seq e).statusCopy) := fun t seq e =>
    State.entryWork_trans (State.entryWork_of_regs t.refreshWarn_keeps t.refreshWarn_vault t.refreshWarn_sto)
      (State.entryWork_trans (State.entryWork_of_regs (State.tailMirror_keeps _ seq e) (by simp) (by simp))
        (State.entryWork_of_regs (fun off _ => State.reg_of_regs (State.statusCopy_regs _) off) (by simp) (by simp)))
  have hgap : ∀ t : State, t.entryWork ((t.event F.STO_EVT_GAP).reason .sto 0x0C09) := fun t =>
    State.entryWork_of_regs (keepsRegs_put (keepsRegs_put (keepsRegs_refl t _) (by decide) _) (by decide) _) rfl rfl
  have hdrain : ∀ b : Bool, s.entryWork (if b then s.drainPage else s) := fun b => by
    cases b
    · exact ⟨fun _ _ => rfl, sameRecords_refl _, rfl⟩
    · exact s.drainPage_work
  have hdrained := hdrain (decide (256 ≤ s.vault.staging.kept.length) && s.vault.staging.gap.isNone && s.nandUp)
  unfold State.commitEntry
  dsimp only
  generalize (if (decide (256 ≤ s.vault.staging.kept.length) && s.vault.staging.gap.isNone && s.nandUp) = true then s.drainPage else s) = d at *
  refine State.entryWork_trans ?_ (hshow _ _ _)
  split
  · refine State.entryWork_trans ?_ (hgap _)
    exact State.entryWork_trans hdrained ⟨fun _ _ => rfl, rfl, rfl⟩
  · exact State.entryWork_trans hdrained ⟨fun _ _ => rfl, rfl, rfl⟩

theorem State.journal_work (s : State) (type reason : Nat) (u : Subsys) (flags : Nat) (body : Bytes) :
    s.entryWork (s.journal type reason u flags body) := by
  unfold State.journal
  split
  · exact s.commitEntry_work ..
  · exact ⟨fun _ _ => rfl, sameRecords_refl _, rfl⟩

/-! ## DRIFT_RESET (R200) -/

theorem roundRat_zero : roundRat 0 = 0 := by
  have hfloor : ⌊(0 : ℚ) + 1 / 2⌋ = 0 := by norm_num
  exact hfloor

/-- Offsets of 0 show as 0. -/
theorem State.showOffsets_zero {s : State} (h : s.rng.drift = List.replicate 32 0) {n : Nat} (hn : n < 8) :
    s.showOffsets.reg (0x5060 + 4 * n) = 0 := by
  have hzero : ∀ k, s.rng.drift.getD k 0 = 0 := fun k => by
    rw [h, List.getD_eq_getElem?_getD, List.getElem?_replicate]
    split <;> rfl
  have hval : s.showOffsets.reg (0x5060 + 4 * n)
      = leNat ((List.range 4).map (fun k => byte (unsigned 8 (roundRat (s.rng.drift.getD (4 * n + k) 0))))) % 2 ^ 32 :=
    State.reg_foldl_setReg_mem (a := fun n => 0x5060 + 4 * n) (fun m n h => by simpa using h) _ s (List.mem_range.mpr hn)
  rw [hval]
  simp only [hzero, roundRat_zero]
  rfl

/-- The state in which the offsets and the samples are 0. -/
def State.driftCleared (s : State) : State :=
  let running := s.net.tiles.filterMap (fun t => t.job.map (·.session))
  { s with
    rng := { s.rng with
      drift := List.replicate 32 0, samples := 0
      sessions := s.rng.sessions.map (fun (x : Sess) => if running.contains x.number && x.drift.isNone then { x with drift := some s.rng.drift } else x) }
    vault := { s.vault with drift := List.replicate 32 0 } }

theorem driftReset_eq (s : State) : driftReset s = (s.driftCleared.showOffsets).journal 0x0703 0 .rng 0 [] := rfl

theorem State.showOffsets_rng (s : State) : s.showOffsets.rng = s.rng := by rw [s.showOffsets_eq]

theorem State.showOffsets_vault (s : State) : s.showOffsets.vault = s.vault := by rw [s.showOffsets_eq]

theorem State.showOffsets_fuses (s : State) : s.showOffsets.fuses = s.fuses := by rw [s.showOffsets_eq]

/-- The registers of the offsets are none of a journal entry. -/
theorem offsetRegs_not_entryRegs {n : Nat} (hn : n < 8) : 0x5060 + 4 * n ∉ entryRegs :=
  (by decide : ∀ n < 8, 0x5060 + 4 * n ∉ entryRegs) n hn

theorem driftReset_zero (s : State) : (driftReset s).rng.drift = List.replicate 32 0 ∧ (driftReset s).vault.drift = List.replicate 32 0
    ∧ (driftReset s).rng.samples = 0 ∧ (∀ n, n < 8 → (driftReset s).reg (0x5060 + 4 * n) = 0) ∧ (driftReset s).fuses = s.fuses
    ∧ (driftReset s).vault.keyring = s.vault.keyring := by
  obtain ⟨hregs, hvault, -⟩ := s.driftCleared.showOffsets.journal_work 0x0703 0 .rng 0 []
  rw [State.showOffsets_vault] at hvault
  have hrng : (driftReset s).rng = s.driftCleared.rng := by rw [driftReset_eq, State.journal_rng, State.showOffsets_rng]
  rw [← driftReset_eq] at hregs hvault
  refine ⟨by rw [hrng]; rfl, by rw [hvault]; rfl, by rw [hrng]; rfl, fun n hn => ?_, ?_, by rw [hvault]; rfl⟩
  · rw [hregs _ (offsetRegs_not_entryRegs hn), State.showOffsets_zero rfl hn]
  · rw [driftReset_eq, State.journal_fuses, State.showOffsets_fuses]
    rfl

/-! ## A bank of shared memory (R32) -/

theorem shmemDoubleBitError_out {s : State} {b : Nat} (h : s.net.banksOut.getD b true = true) : shmemDoubleBitError b s = s := by
  simp only [shmemDoubleBitError, h, if_true]

theorem shmemDoubleBitError_first {s : State} {b : Nat} (h : s.net.banksOut.getD b true = false)
    (hnone : (s.net.bankErrs.getD b []).filter (fun t => s.mt ≤ t + 86400000000) = []) :
    shmemDoubleBitError b s = { s with net := { s.net with bankErrs := s.net.bankErrs.set b [s.mt] } } := by
  simp only [shmemDoubleBitError, h, hnone, List.nil_append, List.length_singleton, Bool.false_eq_true, if_false]
  rfl

/-- The first bank that is mapped out: the free pool and the storage buffers give way, and what the bank held is rebuilt. -/
def State.bankOut (s : State) (b : Nat) (errs : List Nat) : State :=
  let s2 : State := { s with net := { s.net with
    bankErrs := s.net.bankErrs.set b errs, banksOut := s.net.banksOut.set b true, freePool := 0, buffers := 192, records := []
    rebuilt := s.net.rebuilt + 1 } }
  (((s2.rebuildBank).redLoss 6).putFlag F.STO_STAT_BUF_REDUCED true).reason .sto 0x0C11

theorem shmemDoubleBitError_second {s : State} {b : Nat} (hb : b < 4) (hall : s.net.banksOut = List.replicate 4 false) {e : Nat}
    (hone : (s.net.bankErrs.getD b []).filter (fun t => s.mt ≤ t + 86400000000) = [e]) :
    ∃ lost, shmemDoubleBitError b s = (s.bankOut b [e, s.mt]).restartRequests lost := by
  have hin : s.net.banksOut.getD b true = false := by
    rw [hall]
    interval_cases b <;> rfl
  have hfirst : s.net.banksOut.any id = false := by rw [hall]; rfl
  refine ⟨((s.bankOut b [e, s.mt]).rng.sessions.filter (fun x => x.entry && (!true || Config.captureBank x.number % 4 == b))).map (·.req), ?_⟩
  simp only [shmemDoubleBitError, hin, hone, hfirst]
  rfl

/-- What shows of the first bank that is mapped out. -/
theorem State.bankOut_shown (s : State) (b : Nat) (errs : List Nat) :
    (s.bankOut b errs).flag F.STO_STAT_BUF_REDUCED = true ∧ (s.bankOut b errs).get F.STO_REASON_REASON = 0x0C11
      ∧ Nat.testBit ((s.bankOut b errs).reg R.PWR_RED_STAT) 6 = true := by
  unfold State.bankOut
  dsimp only
  generalize State.rebuildBank _ = r
  refine ⟨?_, ?_, ?_⟩
  · rw [State.flag, State.reason, State.get_put_apart _ _ _ _ (by decide) (by decide) (by decide), State.putFlag,
      State.get_put_same _ _ _ (by decide) (by decide)]
    rfl
  · exact State.get_put_same _ _ _ (by decide) (by decide)
  · rw [State.reason, State.reg_put_other _ (by decide), State.putFlag, State.reg_put_other _ (by decide)]
    exact r.redLoss_bit (by decide)

theorem shmemDoubleBitError_second_spec {s : State} {b : Nat} (hb : b < 4) (hall : s.net.banksOut = List.replicate 4 false) {e : Nat}
    (hone : (s.net.bankErrs.getD b []).filter (fun t => s.mt ≤ t + 86400000000) = [e]) :
    let t := shmemDoubleBitError b s
    t.net.banksOut = s.net.banksOut.set b true ∧ t.net.freePool = 0 ∧ t.net.buffers = 192 ∧ t.net.captureBufs = s.net.captureBufs
      ∧ t.flag F.STO_STAT_BUF_REDUCED = true ∧ t.get F.STO_REASON_REASON = 0x0C11 ∧ Nat.testBit (t.reg R.PWR_RED_STAT) 6 = true
      ∧ t.fuses = s.fuses ∧ t.vault = s.vault := by
  obtain ⟨lost, hlost⟩ := shmemDoubleBitError_second hb hall hone
  obtain ⟨hregs, hnet, hfuses, hvault, -⟩ := (s.bankOut b [e, s.mt]).sessionWork_restartRequests lost
  obtain ⟨hflag, hreason, hred⟩ := s.bankOut_shown b [e, s.mt]
  rw [← hlost] at hregs hnet hfuses hvault
  dsimp only
  refine ⟨by rw [hnet]; rfl, by rw [hnet]; rfl, by rw [hnet]; rfl, by rw [hnet]; rfl, ?_, ?_, ?_, hfuses, hvault⟩
  · rw [← hflag, State.flag, State.flag, State.get, State.get, hregs _ (by decide)]
  · rw [← hreason, State.get, State.get, hregs _ (by decide)]
  · rw [hregs _ (by decide), hred]

/-! ## CAPTURE_ACCEPT (R316, R317) -/

theorem captureAccept_of_none {s : State} (h : s.sto.waiting = []) : captureAccept s = s := by
  simp only [captureAccept, h]

theorem State.dropSess_sto (s : State) (n : Nat) : (s.dropSess n).sto = s.sto := by
  rw [State.dropSess, State.refreshRng_eq]
  rfl

/-- A session that is dropped is gone. -/
theorem State.dropSess_gone (s : State) {n : Nat} {y : Sess} (hy : y ∈ (s.dropSess n).rng.sessions) : y.number ≠ n := by
  rw [State.dropSess, State.refreshRng_eq] at hy
  simpa using (List.mem_filter.mp hy).2

/-- A capture that takes a buffer: it waits for the NAND, the vault counts it, the journal takes an entry. -/
theorem State.acceptCapture_spec (s : State) (w : CapWait) :
    (s.acceptCapture w).sto.waiting = s.sto.waiting ∧ (s.acceptCapture w).sto.pendingCaps.length = s.sto.pendingCaps.length + 1
      ∧ (s.acceptCapture w).vault.captureNo = s.vault.captureNo + 1 ∧ (s.acceptCapture w).fuses = s.fuses := by
  unfold State.acceptCapture
  dsimp only
  generalize hbase : ({ s with vault := _, sto := _ } : State) = base
  generalize toLE 4 _ ++ toLE 4 _ ++ _ = body
  obtain ⟨-, hvault, hsto⟩ := base.journal_work 0x0702 0 .rng (bit (Nat.testBit (u8 w.bytes 7) 4)) body
  have hfuses := base.journal_fuses 0x0702 0 .rng (bit (Nat.testBit (u8 w.bytes 7) 4)) body
  generalize base.journal _ _ _ _ _ = j at *
  simp only [State.setReg_sto, State.setReg_vault, State.setReg_fuses]
  rw [hvault, hsto, hfuses, ← hbase]
  exact ⟨rfl, List.length_append, rfl, rfl⟩

/-- The state in which the oldest waiting capture has a buffer and its session has ended, before its analysis looks for a tile. -/
def State.captured (s : State) (w : CapWait) (rest : List CapWait) : State :=
  let s1 := ({ s with sto := { s.sto with waiting := rest } }).acceptCapture w
  ((s1.event F.RNG_EVT_CAPTURED).bump F.RNG_RELAY_CNT_CAPTURED).dropSess w.session

theorem captureAccept_of_place {s : State} {w : CapWait} {rest : List CapWait} (hw : s.sto.waiting = w :: rest)
    (hplace : s.sto.pendingCaps.length < s.capturePlaces) (hen : s.enabled .sto = true) (hup : s.nandUp = true) :
    captureAccept s = placeBackground { s.captured w rest with net := { (s.captured w rest).net with
      background := (s.captured w rest).net.background ++ [.analysis s.vault.captureNo] } } := by
  have hfree : ¬ s.capturePlaces ≤ s.sto.pendingCaps.length := by omega
  simp only [captureAccept, hw, hfree, hen, hup, decide_false, Bool.not_true, Bool.or_false, Bool.false_eq_true, if_false]
  rfl

theorem State.captured_spec (s : State) (w : CapWait) (rest : List CapWait) :
    (s.captured w rest).sto.waiting = rest ∧ (s.captured w rest).vault.captureNo = s.vault.captureNo + 1
      ∧ (s.captured w rest).sto.pendingCaps.length = s.sto.pendingCaps.length + 1 ∧ (s.captured w rest).get F.RNG_EVT_CAPTURED = 1
      ∧ (∀ y ∈ (s.captured w rest).rng.sessions, y.number ≠ w.session) ∧ (s.captured w rest).fuses = s.fuses := by
  obtain ⟨hwait, hcaps, hno, hfuses⟩ := ({ s with sto := { s.sto with waiting := rest } } : State).acceptCapture_spec w
  refine ⟨?_, ?_, ?_, ?_, fun y hy => State.dropSess_gone _ hy, ?_⟩
  all_goals
    unfold State.captured
    generalize State.acceptCapture _ w = a at *
    obtain ⟨hregs', -, hfuses', hvault', -⟩ := ((a.event F.RNG_EVT_CAPTURED).bump F.RNG_RELAY_CNT_CAPTURED).sessionWork_dropSess w.session
    dsimp only at *
  · rw [State.dropSess_sto, State.bump_sto, State.event_sto, hwait]
  · rw [hvault', State.bump_vault, State.event_vault, hno]
  · rw [State.dropSess_sto, State.bump_sto, State.event_sto, hcaps]
  · rw [State.get, hregs' _ (by decide), ← State.get, State.bump, State.bumpBy,
      State.get_put_apart _ _ _ _ (by decide) (by decide) (by decide), State.event, State.get_put_same _ _ _ (by decide) (by decide)]
    rfl
  · rw [hfuses', State.bump_fuses, State.event_fuses, hfuses]

theorem State.placedOver_rest {s t : State} (h : s.placedOver t) :
    t.regs = s.regs ∧ t.sto = s.sto ∧ t.vault = s.vault ∧ t.rng = s.rng ∧ t.fuses = s.fuses := by
  obtain ⟨h, -⟩ := h
  rw [h]
  exact ⟨rfl, rfl, rfl, rfl, rfl⟩

/-- Background work that joins the queue and looks for a tile leaves the rest. -/
theorem State.analysisWaits_rest (s : State) (b : BackKind) :
    let t := placeBackground { s with net := { s.net with background := s.net.background ++ [b] } }
    t.regs = s.regs ∧ t.sto = s.sto ∧ t.vault = s.vault ∧ t.rng = s.rng ∧ t.fuses = s.fuses :=
  State.placedOver_rest (placeBackground_placedOver { s with net := { s.net with background := s.net.background ++ [b] } })

theorem captureAccept_spec {s : State} {w : CapWait} {rest : List CapWait} (hw : s.sto.waiting = w :: rest)
    (hplace : s.sto.pendingCaps.length < s.capturePlaces) (hen : s.enabled .sto = true) (hup : s.nandUp = true) :
    (captureAccept s).sto.waiting = rest ∧ (captureAccept s).vault.captureNo = s.vault.captureNo + 1
      ∧ (captureAccept s).sto.pendingCaps.length = s.sto.pendingCaps.length + 1 ∧ (captureAccept s).get F.RNG_EVT_CAPTURED = 1
      ∧ (∀ y ∈ (captureAccept s).rng.sessions, y.number ≠ w.session) ∧ (captureAccept s).fuses = s.fuses := by
  have hspec := s.captured_spec w rest
  rw [captureAccept_of_place hw hplace hen hup]
  generalize s.captured w rest = c at *
  obtain ⟨hregs, hsto, hvault, hrng, hfuses⟩ := c.analysisWaits_rest (.analysis s.vault.captureNo)
  rw [State.get_of_regs hregs, hsto, hvault, hrng, hfuses]
  exact hspec

/-! ## The obligation -/

/-- Settles O22: a journal entry and dropped sessions leave the offsets, the banks and the captures as the command set them
(`State.journal_work`, `State.sessionWork_restartRequests`). -/
theorem driftBanksAndCaptures : Obligations.DriftBanksAndCaptures := by
  refine ⟨?drift, ?first, ?second, ?out, ?capture, ?noCapture⟩
  case drift => exact fun s => ⟨_, rfl, driftReset_zero s⟩
  case first => exact fun s b hin hnone => congrArg Host.Outcome.next (shmemDoubleBitError_first hin hnone)
  case second => exact fun s b e hall hone => ⟨_, rfl, shmemDoubleBitError_second_spec b.isLt hall hone⟩
  case out => exact fun s b hout => congrArg Host.Outcome.next (shmemDoubleBitError_out hout)
  case capture => exact fun s w rest hw hplace hen hup => ⟨_, rfl, captureAccept_spec hw hplace hen hup⟩
  case noCapture => exact fun s h => congrArg Host.Outcome.next (captureAccept_of_none h)

end Sys2Proof.Machine
end
section
/-! SUPPORT. Core pairs (R25, R28, R29, R395, R396): what the fault of a pair, its test and its retirement do, and what a promotion leaves of the
pairs' registers. -/
namespace Sys2Proof.Machine

open Sys2Proof

/-! ## Islands and votes -/

/-- An island that is set has the state it is set to. -/
theorem State.island_setIsland_same (s : State) {i : Nat} (hi : 1 ≤ i) (hi' : i < 15) (v : Nat) : (s.setIsland i v).island i = v % 4 := by
  rw [State.setIsland, if_neg (by omega), State.island, State.reg_setReg_same, bits_mod32 _ _ _ (by omega), bits_insertField_same _ _ _ _ (by omega)]
  rw [show 2 * i + 1 + 1 - 2 * i = 2 by omega]
  rfl

theorem State.island_setIsland_other (s : State) {i j : Nat} (hi : i < 15) (hij : i ≠ j) (v : Nat) : (s.setIsland j v).island i = s.island i := by
  unfold State.setIsland
  split
  · rfl
  · rw [State.island, State.reg_setReg_same, bits_mod32 _ _ _ (by omega), bits_insertField_other _ _ _ _ _ _ (by omega) (by omega), State.island]

theorem State.setIsland_regsOnly (s : State) (i v : Nat) : s.setIsland i v = { s with regs := (s.setIsland i v).regs } := by
  unfold State.setIsland
  split <;> rfl

theorem State.reg_setIsland_other (s : State) {off : Nat} (h : off ≠ R.PWR_ISL_STATE) (i v : Nat) : (s.setIsland i v).reg off = s.reg off := by
  unfold State.setIsland
  split
  · rfl
  · exact State.reg_setReg_other _ h _

theorem State.get_setIsland_other (s : State) {f : Field} (h : f.off ≠ R.PWR_ISL_STATE) (i v : Nat) : (s.setIsland i v).get f = s.get f := by
  rw [State.get, s.reg_setIsland_other h, State.get]

theorem State.island_put (s : State) {f : Field} (h : R.PWR_ISL_STATE ≠ f.off) (v i : Nat) : (s.put f v).island i = s.island i := by
  rw [State.island, State.reg_put_other _ h, State.island]

/-- Following its users, shared memory's state alone is set. -/
theorem State.followShared_cases (s : State) : s.followShared = s ∨ ∃ v, s.followShared = s.setIsland 7 v := by
  unfold State.followShared
  dsimp only
  split_ifs
  · exact .inl rfl
  · exact .inr ⟨_, rfl⟩
  · exact .inr ⟨_, rfl⟩
  · exact .inr ⟨_, rfl⟩

/-- Following its users, shared memory leaves all but its own state. -/
theorem State.followShared_frame (s : State) : s.followShared = { s with regs := s.followShared.regs }
    ∧ (∀ off, off ≠ R.PWR_ISL_STATE → s.followShared.reg off = s.reg off) ∧ ∀ i, i < 15 → i ≠ 7 → s.followShared.island i = s.island i := by
  obtain h | ⟨v, h⟩ := s.followShared_cases
  · rw [h]
    exact ⟨rfl, fun _ _ => rfl, fun _ _ _ => rfl⟩
  · rw [h]
    exact ⟨s.setIsland_regsOnly 7 v, fun off ho => s.reg_setIsland_other ho 7 v, fun i hi h7 => s.island_setIsland_other hi h7 v⟩

/-! ## A fault of a pair (R25) -/

theorem State.finishNine_of_phase {s : State} (h : s.phase ≠ 9) : s.finishNine = s := by
  simp only [State.finishNine, h, ne_eq, not_false_eq_true, decide_true, Bool.true_or, if_true]

/-- The fault of an active pair that takes part, with its handling left to R395. -/
theorem pairFault_of_active {s : State} (hphase : s.phase = 0xA) (hact : s.activePair = 0) (hret : s.fuses.retireA = false)
    (hwait : s.net.promoteWait = false) : pairFault 0 s = (s.noteFault 0).activeFault := by
  have hr : s.fuses.retired 0 = false := hret
  simp [pairFault, hphase, hact, hr, hwait]

theorem pairFault_of_standby {s : State} (hphase : s.phase = 0xA) (hact : s.activePair = 0) (hret : s.fuses.retireB = false)
    (hready : s.standbyReady = true) : pairFault 1 s = (s.noteFault 1).standbyFault 1 := by
  have hr : s.fuses.retired 1 = false := hret
  simp [pairFault, hphase, hact, hr, hready]

theorem State.puppeteerLost_of_lt {s : State} (h : s.net.heldOut.length < 2) : s.puppeteerLost = false := by
  simp only [State.puppeteerLost, decide_eq_false_iff_not]
  omega

theorem State.activeFault_of_ready {s : State} (hheld : s.net.heldOut.length < 2) (hidle : s.update.state = .idle) (hready : s.standbyReady = true)
    (h7 : s.islandFailed 7 = false) : s.activeFault = s.promote := by
  simp [State.activeFault, State.puppeteerLost_of_lt hheld, hidle, hready, h7]

theorem State.activeFault_of_spare {s : State} (hheld : s.net.heldOut.length < 2) (hidle : s.update.state = .idle) (hready : s.standbyReady = false)
    (hload : s.net.loading = none) (hspare : s.net.spareOk = true) :
    s.activeFault = { s with net := { s.net with promoteWait := true } }.loadStandby := by
  simp [State.activeFault, State.puppeteerLost_of_lt hheld, hidle, hready, hload, hspare]

theorem State.activeFault_of_none {s : State} (hheld : s.net.heldOut.length < 2) (hidle : s.update.state = .idle) (hready : s.standbyReady = false)
    (hload : s.net.loading = none) (hspare : s.net.spareOk = false) : s.activeFault = s.resetSource 4 := by
  simp [State.activeFault, State.puppeteerLost_of_lt hheld, hidle, hready, hload, hspare]

/-! ## A fault of the standby pair -/

/-- The state in which a pair fails as the standby pair: it is not current, and its vote is withdrawn. -/
def State.standbyDown (s : State) (b : Nat) : State := ((s.put (pairField b) 2).putFlag F.PWR_PAIR_STANDBY_READY false).setVote 2 (1 + b) false

/-- A pair that failed as the standby pair, with the test that its island allows; its redundancy is lost. -/
def State.standbyTested (s : State) (b : Nat) (test : Option Bool) : State :=
  let s1 := s.standbyDown b
  ({ s1 with net := { s1.net with testing := test, loading := none, records := [], spareOk := false } }.redLoss 0).reason .pwr 0x030E

/-- The redundancy loss and the reason leave all but the registers. -/
theorem State.redLoss_reason_regsNet (s : State) (g code : Nat) :
    (s.redLoss g).reason .pwr code = { s with regs := ((s.redLoss g).reason .pwr code).regs, net := s.net } := rfl

theorem pairField_one : pairField 1 = F.PWR_PAIR_B_STATE := rfl

theorem State.get_withNet (s : State) (n : Net) (f : Field) : ({ s with net := n } : State).get f = s.get f := rfl

theorem State.get_redLoss_other (s : State) {f : Field} (h : f.off ∉ [R.PWR_RED_STAT, R.PWR_EVT]) (g : Nat) : (s.redLoss g).get f = s.get f := by
  rw [State.get, s.redLoss_reg_other h, State.get]

theorem State.standbyTested_phase (s : State) (test : Option Bool) : (s.standbyTested 1 test).phase = s.phase := by
  simp (disch := decide) only [State.phase, State.standbyTested, State.standbyDown, pairField_one, State.reason, State.putFlag,
    State.setVote, State.get_put_apart, State.get_redLoss_other, State.get_withNet, reasonField]

theorem standbyFault_tested (s : State) (b : Nat) {t : State}
    (ht : t = s.standbyTested b (if s.islandFailed (1 + b) then none else some (b == 1))) :
    s.standbyFault b = if s.net.promoteWait then t.resetSource 4
      else (if t.update.state = .activate then
        { t.abandonActivation with upd := { UpdRun.reset with standbySlot := t.upd.standbySlot } } else t).finishNine := by
  rw [ht]
  rfl

theorem standbyFault_eq {s : State} (hphase : s.phase = 0xA) (hwait : s.net.promoteWait = false)
    (hidle : s.update.state = .idle) (h2 : s.islandFailed 2 = false) : s.standbyFault 1 = s.standbyTested 1 (some true) := by
  have htest : s.standbyTested 1 (some true) = s.standbyTested 1 (if s.islandFailed (1 + 1) then none else some (1 == 1)) := by
    rw [if_neg (by rw [h2]; decide)]
    rfl
  have hact : ¬ (s.standbyTested 1 (some true)).update.state = .activate := by
    rw [show (s.standbyTested 1 (some true)).update = s.update from rfl, hidle]
    decide
  rw [standbyFault_tested s 1 htest, hwait, if_neg (by decide), if_neg hact]
  exact State.finishNine_of_phase (by rw [State.standbyTested_phase, hphase]; decide)

theorem standbyTested_spec {s : State} (hact : s.activePair = 0) :
    let t := s.standbyTested 1 (some true)
    t.get F.PWR_PAIR_B_STATE = 2 ∧ t.get F.PWR_PAIR_STANDBY_READY = 0 ∧ t.net.testing = some true
      ∧ t.get F.PWR_REASON_REASON = 0x030E ∧ t.activePair = 0 ∧ t.vault = s.vault ∧ t = { s with regs := t.regs, net := t.net } := by
  have hframe : s.standbyTested 1 (some true) = { s with
      regs := (s.standbyTested 1 (some true)).regs
      net := { s.net with testing := some true, loading := none, records := [], spareOk := false } } :=
    State.redLoss_reason_regsNet _ 0 0x030E
  refine ⟨?_, ?_, by rw [hframe], ?_, ?_, by rw [hframe], by rw [hframe]⟩
  all_goals
    simp (disch := decide) only [State.activePair, State.standbyTested, State.standbyDown, pairField_one, State.reason, State.putFlag,
      State.setVote, State.get_put_apart, State.get_put_same, State.get_redLoss_other, State.get_withNet, reasonField]
  · rfl
  · rfl
  · rfl
  · exact hact

/-! ## Tests, retirement and the standby pair (R77, R396) -/

theorem heartbeatTimeout_of_down {s : State} (h : s.island (1 + s.activePair) ≠ 2) : exec .heartbeatTimeout s = .next s := 
  congrArg Host.Outcome.next (if_neg h)

theorem heartbeatTimeout_of_up {s : State} (h : s.island 1 = 2) (hact : s.activePair = 0) : exec .heartbeatTimeout s = exec (.pairFault false) s := by
  refine congrArg Host.Outcome.next ?_
  rw [hact, if_pos h]
  rfl

theorem pairTestDone_of_pass {s : State} (htest : s.net.testing = some true) (hheld : s.net.heldOut.length < 2) (hfaults : s.pairFaults 1 ≤ 1) :
    pairTestDone true s = (({ s with net := { s.net with testing := none, spareOk := true } }).reason .pwr 0x030C).loadStandby := by
  have hb : s.pairFaults (bit true) ≤ 1 := hfaults
  simp only [pairTestDone, htest, State.puppeteerLost_of_lt hheld, hb, decide_true, Bool.and_self, Bool.false_eq_true, if_false, if_true]

theorem pairTestDone_of_fail {s : State} (htest : s.net.testing = some true) (hheld : s.net.heldOut.length < 2) :
    pairTestDone false s = s.retirePair 1 := by
  simp only [pairTestDone, htest, State.puppeteerLost_of_lt hheld, Bool.false_and, Bool.false_eq_true, if_false]
  rfl

theorem State.retirePair_regs (s : State) : s.retirePair 1 = { s with
    regs := (s.retirePair 1).regs
    fuses := { s.fuses with retireB := true }
    net := { s.net with testing := none, spareOk := false } } := by
  rw [State.retirePair, State.setIsland_regsOnly]
  rfl

theorem State.retirePair_spec (s : State) :
    let t := s.retirePair 1
    t.fuses.retireB = true
        ∧ t.fuses.retireA = s.fuses.retireA ∧ t.get F.PWR_PAIR_B_STATE = 3 ∧ t.votes 2 = 0 ∧ t.island 2 = 0
        ∧ t.get F.PWR_REASON_REASON = 0x030D ∧ t.get F.PWR_EVT_PAIR_RETIRED = 1 ∧ t.net.testing = none
        ∧ t = { s with regs := t.regs, net := t.net, fuses := t.fuses } := by
  have hframe := s.retirePair_regs
  refine ⟨by rw [hframe], by rw [hframe], ?_, ?_, ?_, ?_, ?_, by rw [hframe], by rw [hframe]⟩
  all_goals
    simp (disch := decide) only [State.votes, State.retirePair, pairField_one, State.reason, State.event, State.get_put_apart, State.get_put_same,
      State.get_setIsland_other, State.island_put, State.island_setIsland_same, reasonField,
      Nat.reduceAdd, Nat.reduceSub, Nat.reducePow, Nat.reduceMod]

/-- The net state of a block whose standby pair is current. -/
def State.standbyNet (s : State) : Net := { s.net with loading := none, appliedNo := s.net.commitNo, cmdApplied := s.net.cmdAt, records := [] }

/-- The state in which pair B is the standby pair, before shared memory follows it. -/
def State.standbyB (s : State) : State :=
  let s1 := (((s.put F.PWR_PAIR_B_STATE 1).putFlag F.PWR_PAIR_STANDBY_READY true).redClear 0).setVote 2 2 true
  ({ s1 with net := s.standbyNet }).setIsland 2 2

theorem State.becomesStandby_one (s : State) : s.becomesStandby 1 = (s.standbyB.followShared).finishNine := by
  rfl

theorem State.standbyB_frame (s : State) : s.standbyB = { s with regs := s.standbyB.regs, net := s.standbyNet } := by
  rw [State.standbyB, State.setIsland_regsOnly]
  rfl

theorem testBit_setBit_mod (w : Nat) {n m : Nat} (h : n < m) : Nat.testBit (setBit w n true % 2 ^ m) n = true := by
  simp [setBit, Nat.testBit_mod_two_pow, h]

/-- What shows of the pair that becomes the standby pair. -/
theorem State.standbyB_shown (s : State) : s.standbyB.get F.PWR_PAIR_STANDBY_READY = 1 ∧ s.standbyB.get F.PWR_PAIR_B_STATE = 1
    ∧ s.standbyB.island 2 = 2 ∧ Nat.testBit (s.standbyB.votes 2) 2 = true ∧ s.standbyB.phase = s.phase := by
  refine ⟨?_, ?_, ?_, ?_, ?_⟩
  all_goals
    simp (disch := decide) only [State.votes, State.phase, State.standbyB, State.redClear, State.setVote, State.putFlag, State.get_put_apart,
      State.get_put_same, State.get_setReg_other, State.get_setIsland_other, State.island_setIsland_same, State.get_withNet, bit, if_true,
      Nat.reduceAdd, Nat.reduceSub, Nat.reducePow, Nat.reduceMod]
  · exact (testBit_setBit_mod (s.get (F.PWR_VOTEn_CLIENTS 2)) (n := 2) (m := 9) (by decide))

/-- Pair B becomes the standby pair, but for the state of shared memory. -/
theorem State.becomesStandby_spec {s : State} (hphase : s.phase = 0xA) :
    let t := s.becomesStandby 1
    t.standbyReady = true ∧ t.get F.PWR_PAIR_B_STATE = 1 ∧ t.island 2 = 2 ∧ Nat.testBit (t.votes 2) 2 = true ∧ t.net = s.standbyNet
      ∧ t = { s with regs := t.regs, net := t.net } := by
  obtain ⟨hrest, hregs, hisl⟩ := s.standbyB.followShared_frame
  obtain ⟨hready, hstate, h2, hvote, hp⟩ := s.standbyB_shown
  have hget : ∀ f : Field, f.off ≠ R.PWR_ISL_STATE → s.standbyB.followShared.get f = s.standbyB.get f := fun f hf => by
    rw [State.get, hregs _ hf, State.get]
  have hnine : s.becomesStandby 1 = s.standbyB.followShared := by
    refine s.becomesStandby_one.trans (State.finishNine_of_phase ?_)
    rw [State.phase, hget _ (by decide), ← State.phase, hp, hphase]
    decide
  have hnet : s.standbyB.followShared.net = s.standbyNet := by rw [hrest, s.standbyB_frame]
  dsimp only
  rw [hnine]
  refine ⟨?_, ?_, ?_, ?_, hnet, ?_⟩
  · rw [State.standbyReady, State.flag, hget _ (by decide), hready]
    rfl
  · rw [hget _ (by decide), hstate]
  · rw [hisl 2 (by decide) (by decide), h2]
  · rw [State.votes, hget _ (by decide), ← State.votes, hvote]
  · rw [hnet, hrest, s.standbyB_frame]

theorem standbyPairReady_eq {s : State} (hload : s.net.loading = some true) (hwait : s.net.promoteWait = false) (hidle : s.update.state = .idle)
    (hphase : s.phase = 0xA) (hparts : s.standbyPartsOk = true) : standbyPairReady true s = s.becomesStandby 1 := by
  have hupd : (s.becomesStandby 1).update.state = .idle := by
    obtain ⟨-, -, -, -, -, hrest⟩ := State.becomesStandby_spec hphase
    rw [hrest, hidle]
  have hb : s.becomesStandby (bit true) = s.becomesStandby 1 := rfl
  simp [standbyPairReady, hload, hparts, hwait, hb, hupd]

/-! ## What a takeover leaves of the pairs (R28) -/

/-- The registers in which a promotion shows: PWR_PAIR and PWR_EVT. -/
def pairRegs : List Nat := [F.PWR_PAIR_ACTIVE.off, R.PWR_EVT]

/-- The pairs' registers, the fuses and the update stay as they are. -/
def State.pairKept (s t : State) : Prop := (∀ off ∈ pairRegs, t.reg off = s.reg off) ∧ t.fuses = s.fuses ∧ t.update = s.update

theorem State.pairKept_refl (s : State) : s.pairKept s := ⟨fun _ _ => rfl, rfl, rfl⟩

theorem State.pairKept.trans {s t u : State} (h1 : s.pairKept t) (h2 : t.pairKept u) : s.pairKept u := by
  obtain ⟨hregs, hfuses, hupd⟩ := h1
  obtain ⟨hregs', hfuses', hupd'⟩ := h2
  exact ⟨fun off ho => (hregs' off ho).trans (hregs off ho), hfuses'.trans hfuses, hupd'.trans hupd⟩

theorem State.pairKept.setReg {s t : State} (h : s.pairKept t) {off : Nat} (hoff : off ∉ pairRegs) (v : Nat) : s.pairKept (t.setReg off v) := by
  obtain ⟨hregs, hrest⟩ := h
  exact ⟨fun o ho => (State.reg_setReg_other _ (fun e => hoff (by rwa [← e])) _).trans (hregs o ho), hrest⟩

theorem State.pairKept.put {s t : State} (h : s.pairKept t) {f : Field} (hf : f.off ∉ pairRegs) (v : Nat) : s.pairKept (t.put f v) :=
  h.setReg hf _

theorem State.pairKept.withPwr {s t : State} (h : s.pairKept t) (p : Power) : s.pairKept { t with pwr := p } := h

theorem State.pairKept.withNet {s t : State} (h : s.pairKept t) (n : Net) : s.pairKept { t with net := n } := h

theorem State.pairKept.withRel {s t : State} (h : s.pairKept t) (r : Rel) : s.pairKept { t with rel := r } := h

theorem State.pairKept.withTok {s t : State} (h : s.pairKept t) (k : Tok) : s.pairKept { t with tok := k } := h

theorem State.pairKept.withNfc {s t : State} (h : s.pairKept t) (n : Nfc) : s.pairKept { t with nfc := n } := h

theorem State.pairKept.of_regs {s t : State} (hregs : t.regs = s.regs) (hfuses : t.fuses = s.fuses) (hupd : t.update = s.update) :
    s.pairKept t := ⟨fun off _ => State.reg_of_regs hregs off, hfuses, hupd⟩

theorem State.pairKept.foldl {β : Type} {l : List β} {f : State → β → State} (hf : ∀ (s : State) (x : β), s.pairKept (f s x)) {s t : State}
    (h : s.pairKept t) : s.pairKept (l.foldl f t) := by
  induction l generalizing t with
  | nil => exact h
  | cons x l ih => exact ih (h.trans (hf t x))

theorem State.reason_pairKept (s : State) {u : Subsys} (hu : (reasonField u).off ∉ pairRegs) (code : Nat) : s.pairKept (s.reason u code) :=
  s.pairKept_refl.put hu _

theorem State.pairKept_of_sessionWork {s t : State} (h : s.sessionWork t) : s.pairKept t := by
  obtain ⟨hregs, -, hfuses, -, hupd⟩ := h
  exact ⟨fun off ho => hregs off ((by decide : ∀ off ∈ pairRegs, off ∉ airRegs) off ho), hfuses, hupd⟩

theorem State.journal_pairKept (s : State) (type reason : Nat) (u : Subsys) (flags : Nat) (body : Bytes) :
    s.pairKept (s.journal type reason u flags body) := by
  obtain ⟨hregs, -⟩ := s.journal_work type reason u flags body
  exact ⟨fun off ho => hregs off ((by decide : ∀ off ∈ pairRegs, off ∉ entryRegs) off ho), by simp, by simp⟩

/-! ### Votes and islands -/

theorem State.setIsland_pairKept (s : State) (i v : Nat) : s.pairKept (s.setIsland i v) := by
  rw [State.setIsland]
  split
  · exact s.pairKept_refl
  · exact s.pairKept_refl.setReg (by decide) _

theorem State.followShared_pairKept (s : State) : s.pairKept s.followShared := by
  obtain h | ⟨v, h⟩ := s.followShared_cases <;> rw [h]
  · exact s.pairKept_refl
  · exact s.setIsland_pairKept 7 v

theorem State.setVote_pairKept (s : State) (c i : Nat) (b : Bool) : s.pairKept (s.setVote c i b) := by
  have hoff : 0x1040 + 4 * i ∉ [0x1020, 0x100C] := by
    simp only [List.mem_cons, List.not_mem_nil, or_false]
    omega
  exact s.pairKept_refl.put hoff _

theorem State.voteless_pairKept (s : State) (i : Nat) : s.pairKept (s.voteless i) := by
  unfold State.voteless
  split
  · exact ((s.pairKept_refl.put (by decide) _).put (by decide) _).put (by decide) _
  · exact s.pairKept_refl

theorem State.islandTo_pairKept (s : State) (i v : Nat) : s.pairKept (s.islandTo i v) := by
  unfold State.islandTo
  dsimp only
  split_ifs
  · exact s.setIsland_pairKept i v
  · exact (s.setIsland_pairKept i v).trans (State.voteless_pairKept _ i)
  · exact s.setIsland_pairKept i v

theorem State.beginDrop_pairKept (s : State) (i : Nat) : s.pairKept (s.beginDrop i) := by
  have hdown : ∀ t : State, t.pairKept (((t.islandTo i 1).voteless i).followShared) := fun t =>
    ((t.islandTo_pairKept i 1).trans (State.voteless_pairKept _ i)).trans (State.followShared_pairKept _)
  unfold State.beginDrop
  dsimp only
  split_ifs
  · exact s.pairKept_refl
  · exact hdown _

theorem State.settle_pairKept (s : State) (i : Nat) : s.pairKept (s.settle i) := by
  unfold State.settle
  split_ifs
  · exact s.pairKept_refl
  · exact s.followShared_pairKept
  · exact s.pairKept_refl
  · exact s.beginDrop_pairKept i
  · exact (s.islandTo_pairKept i 1).trans (State.followShared_pairKept _)
  · exact s.pairKept_refl

theorem State.withdrawVote_pairKept (s : State) (c i : Nat) : s.pairKept (s.withdrawVote c i) := by
  have hvote : ∀ t : State, t.pairKept ((t.setVote c i false).settle i) := fun t =>
    (t.setVote_pairKept c i false).trans (State.settle_pairKept _ i)
  unfold State.withdrawVote
  dsimp only
  split_ifs
  · exact State.pairKept.withPwr (hvote _) _
  · exact hvote _
  · exact State.pairKept.withPwr (hvote _) _
  · exact hvote _

theorem State.swapPairVotes_pairKept (s : State) : s.pairKept s.swapPairVotes := by
  have hvotes := (s.pairKept_refl.put (f := F.PWR_VOTEn_CLIENTS 1) (by decide) (s.votes 2)).put (f := F.PWR_VOTEn_CLIENTS 2) (by decide)
    (s.votes 1)
  unfold State.swapPairVotes
  dsimp only
  exact hvotes.withPwr _

theorem levelChange_pairKept (i level : Nat) (settles : Bool) (s : State) : s.pairKept (levelChange i level settles s) := by
  unfold levelChange
  split
  · exact s.pairKept_refl
  · dsimp only
    split_ifs
    · exact s.pairKept_refl
    · exact (s.pairKept_refl.setReg (by decide) _).withPwr _
    · exact ((s.pairKept_refl.setReg (by decide) _).withPwr _).trans (State.reason_pairKept _ (by decide) _)

/-! ### Requests of the ciphers (R249) -/

theorem State.wipeReq_pairKept (s : State) (r : SymReq) : s.pairKept (s.wipeReq r) := by
  have hdst : s.pairKept (s.putDst r.desc 0 (zeros r.written)) := by
    unfold State.putDst State.sramPutBytes
    dsimp only
    split_ifs
    · exact s.pairKept_refl
    · exact s.pairKept_refl
  unfold State.wipeReq
  dsimp only
  split
  · exact hdst
  · exact hdst

theorem State.symTakeover_pairKept (s : State) (master : Nat) : s.pairKept (s.symTakeover master) := by
  have hdrop : s.pairKept (s.symDrop (fun r => r.master == master)) :=
    State.pairKept.foldl State.wipeReq_pairKept
      (t := { s with sym := { s.sym with queue := s.sym.queue.filter (fun r => !(r.master == master)) } }) s.pairKept_refl
  unfold State.symTakeover
  dsimp only
  split
  · exact State.pairKept.put hdrop (by decide) _
  · exact hdrop

/-! ### Commands, learning and pairing -/

theorem State.answer_pairKept (s : State) (c : MbCmd) (reason : Nat) (out : Bytes) : s.pairKept (s.answer c reason out) := by
  have hdeliver : ∀ (t : State) (tr : Transport) (src : Nat) (m : Bytes), t.pairKept (t.deliver tr src m) := fun t tr src m => by
    unfold State.deliver
    split
    · unfold State.placeOut
      split
      · exact t.pairKept_refl
      · split
        · exact t.pairKept_refl
        · exact (t.pairKept_refl.setReg (by decide) _).put (by decide) _
    · split <;> exact t.pairKept_refl
  have hreason : s.pairKept (if reason / 256 = 16 then s.reason .hif reason else s) := by
    split
    · exact s.reason_pairKept (by decide) _
    · exact s.pairKept_refl
  exact ((hreason.trans (hdeliver _ _ _ _)).setReg (by decide) _).put (by decide) _

theorem State.finish_pairKept (s : State) (reason : Nat) (out : Bytes) : s.pairKept (s.finish reason out) := by
  unfold State.finish
  split
  · exact s.pairKept_refl
  · exact State.pairKept.trans (t := ({ s with hif := { s.hif with executing := none } } : State).putFlag F.HIF_STAT_MB_EXEC false)
      (s.pairKept_refl.put (by decide) _) (State.answer_pairKept _ _ _ _)

theorem State.requeue_pairKept (s : State) : s.pairKept s.requeue := by
  unfold State.requeue
  split
  · exact s.pairKept_refl
  · exact (s.pairKept_refl.put (by decide) _).put (by decide) _

theorem State.showLearn_pairKept (s : State) : s.pairKept s.showLearn := by
  unfold State.showLearn
  split
  · exact (s.pairKept_refl.put (by decide) _).setReg (by decide) _
  · exact (s.pairKept_refl.put (by decide) _).setReg (by decide) _

theorem State.endLearnCard_pairKept (s : State) : s.pairKept s.endLearnCard := by
  unfold State.endLearnCard
  split_ifs
  · exact State.withdrawVote_pairKept { s with nfc := { s.nfc with detection := none, armed := false, below := none } } 0 12
  · exact s.pairKept_refl

theorem State.setHold_pairKept (s : State) (h : Option Hold) : s.pairKept (s.setHold h) := State.pairKept_of_sessionWork (s.sessionWork_setHold h)

theorem State.setLearn_pairKept (s : State) (l : Option Learn) : s.pairKept (s.setLearn l) :=
  State.showLearn_pairKept { s with tok := { s.tok with learn := l } }

theorem State.learnAgain_pairKept (s : State) : s.pairKept s.learnAgain := by
  have hcard : ∀ l, s.pairKept (s.setLearn l).endLearnCard := fun l => (s.setLearn_pairKept l).trans (State.endLearnCard_pairKept _)
  unfold State.learnAgain
  dsimp only
  split_ifs
  · exact s.pairKept_refl
  · exact ((hcard _).trans (State.setHold_pairKept _ none)).trans (State.requeue_pairKept _)
  · exact (hcard _).trans (State.requeue_pairKept _)

theorem State.refreshKeys_pairKept (s : State) : s.pairKept s.refreshKeys := by
  have hshown := (((((s.pairKept_refl.put (f := F.KEY_RECS_USED) (by decide) s.ring.length).put (f := F.KEY_RECS_FREE) (by decide)
    (512 - s.ring.length)).put (f := F.KEY_STAT_AS_OK) (by decide) (bit (s.keyRec? 5 0).isSome)).put (f := F.KEY_STAT_TK_OK) (by decide)
    (bit (s.keyRec? 4 0).isSome)).put (f := F.KEY_STAT_PREP) (by decide) (bit (s.keys.prep != .none)))
  unfold State.refreshKeys
  dsimp only
  split
  · exact (hshown.setReg (by decide) _).put (by decide) _
  · exact (hshown.setReg (by decide) _).put (by decide) _

theorem State.dropPairing_pairKept (s : State) : s.pairKept s.dropPairing := by
  unfold State.dropPairing
  split
  · exact State.refreshKeys_pairKept { s with keys := { s.keys with prep := .none }, rel := { s.rel with pairing := none } }
  · exact s.pairKept_refl

theorem State.generated_pairKept (s : State) (n : Nat) (pr : Bool) : s.pairKept (s.generated n pr) := by
  unfold State.generated
  dsimp only
  split
  · exact s.pairKept_refl.setReg (by decide) _
  · exact s.pairKept_refl.setReg (by decide) _

/-! ### Decisions on requests (R218 to R223) -/

theorem State.relLast_pairKept (s : State) (action code reason : Nat) : s.pairKept (s.relLast action code reason) :=
  s.pairKept_refl.setReg (by decide) _

theorem State.relRefuse_pairKept (s : State) (code reason : Nat) : s.pairKept (s.relRefuse code reason) :=
  (((s.relLast_pairKept 0 code reason).put (by decide) _).put (by decide) _).trans (State.reason_pairKept _ (by decide) _)

theorem State.decide_pairKept (s : State) (action code slot : Nat) : s.pairKept (s.decide_ action code slot) := by
  have hevent : s.pairKept ((s.relLast action code 0).event F.REL_EVT_DECISION) := (s.relLast_pairKept action code 0).put (by decide) _
  unfold State.decide_
  dsimp only
  split
  · exact hevent
  · exact hevent.withRel _

theorem State.journalRel_pairKept (s : State) (action code profile reason flags : Nat) :
    s.pairKept (s.journalRel action code profile reason flags) := s.journal_pairKept _ _ _ _ _

theorem State.nextSeq_pairKept (s : State) : s.pairKept s.nextSeq.1 :=
  State.pairKept.setReg (t := { s with vault := { s.vault with grantSeq := (s.vault.grantSeq + 1) % 2 ^ 32 } }) s.pairKept_refl (by decide) _

theorem State.sendRole_pairKept (s : State) (r : Nat) (msg : Bytes) : s.pairKept (s.sendRole r msg) := by
  unfold State.sendRole State.sendRoleTo
  split
  · exact s.pairKept_refl
  · exact s.pairKept_refl.withRel _

theorem State.sendGrants_pairKept (s : State) (st : RelStart) : s.pairKept (s.sendGrants st) := by
  unfold State.sendGrants
  refine State.pairKept.foldl (fun t r => ?_) (s.pairKept_refl.withRel _)
  split
  · exact t.pairKept_refl
  · exact t.sendRole_pairKept r _

theorem State.endGrant_pairKept (s : State) (ok : Bool) (code slot : Nat) : s.pairKept (s.endGrant ok code slot) := by
  unfold State.endGrant
  split
  · exact (s.pairKept_refl.put (by decide) _).trans (State.journalRel_pairKept _ _ _ _ _ _)
  · exact ((((s.pairKept_refl.put (by decide) _).put (by decide) _).put (by decide) _).trans (State.reason_pairKept _ (by decide) _)).trans
      (State.journalRel_pairKept _ _ _ _ _ _)

theorem State.grantStep_pairKept (s : State) (st : RelStart) : s.pairKept (s.grantStep st) := by
  unfold State.grantStep
  dsimp only
  have hsent : ∀ x, s.pairKept (s.nextSeq.1.sendGrants x) := fun x => s.nextSeq_pairKept.trans (State.sendGrants_pairKept _ x)
  split
  · exact ((hsent _).withRel _).put (by decide) _
  · exact ((hsent _).withRel _).trans (State.endGrant_pairKept _ _ _ _)

theorem State.setStart_pairKept (s : State) (x : Option RelStart) : s.pairKept (s.setStart x) := by
  unfold State.setStart
  dsimp only
  split
  · exact (s.pairKept_refl.withRel _).trans (State.settle_pairKept _ 14)
  · exact s.pairKept_refl.withRel _

theorem State.restoreFor_pairKept (s : State) (i : Nat) : s.pairKept (s.restoreFor i) := by
  refine State.pairKept.of_regs (s.restoreFor_regs i) ?_ ?_
  · rw [State.restoreFor, apply_ite State.fuses, State.beginRestore_fuses, ite_self]
  · rw [State.restoreFor, apply_ite State.update, State.beginRestore_update, ite_self]

theorem State.startRelease_pairKept (s : State) (code path : Nat) (o : TokOut) (profile : Nat) :
    s.pairKept (s.startRelease code path o profile) := by
  have hlast : s.pairKept (({ s with rel := { s.rel with delayMt := s.mt } } : State).relLast 4 code 0) :=
    (s.pairKept_refl.withRel _).trans (State.relLast_pairKept _ 4 code 0)
  have hrefused : s.pairKept (({ s with rel := { s.rel with delayMt := s.mt } } : State).relRefuse code 0x090C) :=
    (s.pairKept_refl.withRel _).trans (State.relRefuse_pairKept _ code 0x090C)
  unfold State.startRelease
  dsimp only
  generalize (match s.rel.start with | some x => _ | none => _ : Bool) = busy
  split_ifs
  · exact hlast
  · exact hrefused.trans (State.journalRel_pairKept _ _ _ _ _ _)
  · split
    · exact (hlast.trans (State.grantStep_pairKept _ _)).trans (State.setStart_pairKept _ _)
    · exact hlast.trans (State.grantStep_pairKept _ _)
  · exact hlast.trans (State.grantStep_pairKept _ _)
  · exact ((hlast.withRel _).trans (State.setStart_pairKept _ _)).trans (State.restoreFor_pairKept _ 14)

theorem State.decideStart_pairKept (s : State) (rq : Request) : s.pairKept (s.decideStart rq) := by
  unfold State.decideStart
  dsimp only
  split
  · exact (s.pairKept_refl.setReg (by decide) _).trans (State.startRelease_pairKept _ _ _ _ _)
  · exact s.pairKept_refl.setReg (by decide) _

theorem State.performRequest_pairKept (s : State) (rq : Request) : s.pairKept (s.performRequest rq) := by
  unfold State.performRequest
  split
  · exact s.decideStart_pairKept rq
  · exact s.decide_pairKept _ _ _
  · split
    · exact s.pairKept_refl
    · exact s.relRefuse_pairKept _ _

theorem State.retireSpent_pairKept (s : State) (path n : Nat) : s.pairKept (s.retireSpent path n) := by
  unfold State.retireSpent
  dsimp only
  split
  · exact State.pairKept.trans (t := (s.setSlot n { s.slot n with state := 3 }).event F.TOK_EVT_RETIRED)
      (s.pairKept_refl.put (by decide) _) (State.journal_pairKept _ _ _ _ _ _)
  · exact s.pairKept_refl

theorem State.rkeOut_pairKept (s : State) (slot action reason : Nat) : s.pairKept (s.rkeOut slot action reason) := by
  unfold State.rkeOut
  dsimp only
  split
  · exact (s.journalRel_pairKept _ _ _ _ _).trans (State.decide_pairKept _ _ _ _)
  · exact (s.journalRel_pairKept _ _ _ _ _).trans (State.relRefuse_pairKept _ _ _)

theorem State.confirmOut_pairKept (s : State) (slot action : Nat) (out : Nat × Nat) : s.pairKept (s.confirmOut slot action out) := by
  unfold State.confirmOut
  split
  · exact s.pairKept_refl
  · exact ((s.pairKept_refl.withTok _).trans (State.rkeOut_pairKept _ _ _ _)).trans (State.retireSpent_pairKept _ _ _)

theorem State.releaseIdle_pairKept (s : State) : s.pairKept s.releaseIdle := by
  unfold State.releaseIdle
  split
  · exact (s.withdrawVote_pairKept 0 9).trans (State.withdrawVote_pairKept _ 0 10)
  · exact s.pairKept_refl

theorem State.concludeRequest_pairKept (s : State) (id reason : Nat) : s.pairKept (s.concludeRequest id reason) := by
  unfold State.concludeRequest
  split
  · exact s.pairKept_refl
  · next rq _ =>
    split
    · exact s.pairKept_refl
    · have hgone : s.pairKept { s with tok := { s.tok with requests := s.tok.requests.filter (fun q => q.id != id) } } := s.pairKept_refl.withTok _
      generalize ({ s with tok := { s.tok with requests := s.tok.requests.filter (fun q => q.id != id) } } : State) = s1 at *
      have hdone : s.pairKept (match rq.confirm with
          | some (slot, action) => s1.confirmOut slot action (0, 0x090A)
          | none => if s1.enabled .rel then s1.performRequest rq else s1) := by
        split
        · exact hgone.trans (State.confirmOut_pairKept _ _ _ _)
        · split
          · exact hgone.trans (State.performRequest_pairKept _ _)
          · exact hgone
      dsimp only
      split
      · exact (hdone.trans (State.finish_pairKept _ _ _)).trans (State.releaseIdle_pairKept _)
      · exact hdone.trans (State.releaseIdle_pairKept _)

/-! ### The reader (R337) -/

theorem State.endDetection_pairKept (s : State) (code : Nat) : s.pairKept (s.endDetection code) := by
  have hvote : s.pairKept (({ s with nfc := { s.nfc with detection := none, armed := false, below := none } } : State).withdrawVote 0 12) :=
    (s.pairKept_refl.withNfc _).trans (State.withdrawVote_pairKept _ 0 12)
  generalize hs1 : ({ s with nfc := { s.nfc with detection := none, armed := false, below := none } } : State).withdrawVote 0 12 = s1 at hvote
  have hwhy : s.pairKept (if code ≠ 0 then s1.reason .nfc code else s1) := by
    split
    · exact hvote.trans (State.reason_pairKept _ (by decide) _)
    · exact hvote
  have hmax : ∀ t, s.pairKept t → s.pairKept (if code = 0x0D07 then t.event F.NFC_EVT_CARD_MAX else t) := fun t ht => by
    split
    · exact ht.put (by decide) _
    · exact ht
  unfold State.endDetection
  split
  · exact s.pairKept_refl
  · dsimp only
    rw [hs1]
    split
    · exact hmax _ hwhy
    · refine (hmax _ hwhy).trans ?_
      exact (State.pairKept_refl _).withTok _ |>.trans (State.concludeRequest_pairKept _ _ _)

theorem State.selectCard_pairKept (s : State) (d : Detection) : s.pairKept (s.selectCard d) := by
  have hfresh : s.pairKept (if d.learn then s else s.fresh 16) := by
    split
    · exact s.pairKept_refl
    · exact s.generated_pairKept 16 false
  unfold State.selectCard
  split
  · exact (s.pairKept_refl.withNfc _).trans (State.endDetection_pairKept _ _)
  · exact (hfresh.withNfc _).withTok _

theorem State.readerRestart_pairKept (s : State) : s.pairKept s.readerRestart := by
  unfold State.readerRestart
  split
  · exact s.pairKept_refl
  · split
    · exact s.pairKept_refl
    · exact s.selectCard_pairKept _

/-! ### Packets for the active pair (R20) -/

theorem State.switches_pairKept (s : State) (op : Nat) : s.pairKept (s.switches op) := by
  unfold State.switches
  split_ifs
  · exact ((s.pairKept_refl.put (by decide) _).put (by decide) _).put (by decide) _
  · exact s.pairKept_refl.put (by decide) _
  · exact ((s.pairKept_refl.put (by decide) _).put (by decide) _).put (by decide) _
  · exact s.pairKept_refl

theorem State.channelsTake_pairKept (s : State) (w : Nat) : s.pairKept (s.channelsTake w) := by
  unfold State.channelsTake
  split
  · exact (s.switches_pairKept _).withRel _
  · exact s.pairKept_refl

theorem State.closeTx_pairKept (s : State) (tag src : Nat) : s.pairKept (s.closeTx tag src) := by
  unfold State.closeTx
  split
  · exact s.pairKept_refl
  · exact ((s.pairKept_refl.withNet _).trans (State.settle_pairKept _ _)).trans (State.settle_pairKept _ _)

theorem State.portAnswer_pairKept (s : State) (d : Nat) (p : Packet) (op : Nat) (data : List (BitVec 64)) :
    s.pairKept (s.portAnswer d p op data) := by
  unfold State.portAnswer State.launch
  exact s.pairKept_refl.withNet _

theorem State.sramWrite_pairKept (s : State) (i word : Nat) (ws : List (BitVec 64)) : s.pairKept (s.sramWrite i word ws) :=
  s.pairKept_refl.withNet _

theorem State.acceptPacket_pairKept (s : State) (p : Packet) : s.pairKept (s.acceptPacket p) := by
  have hrefused : ∀ code, s.pairKept { s with net := { s.net with lastError := code } } := fun _ => s.pairKept_refl.withNet _
  unfold State.acceptPacket
  dsimp only
  generalize (if isAnswer (pktField p 43 40) then 0 else s.packetRefusal p) = code
  split
  · exact s.pairKept_refl
  · split
    · split
      · exact (hrefused _).trans (State.portAnswer_pairKept _ _ _ _ _)
      · exact hrefused _
    · generalize hs1 : ({ s with net := _ } : State) = s1
      have htaken : s.pairKept s1 := by
        rw [← hs1]
        exact s.pairKept_refl.withNet _
      split
      · exact htaken.trans (State.closeTx_pairKept _ _ _)
      · split
        · exact (htaken.trans (State.channelsTake_pairKept _ _)).trans (State.portAnswer_pairKept _ _ _ _ _)
        · split
          · exact htaken.trans (State.portAnswer_pairKept _ _ _ _ _)
          · split
            · exact (htaken.trans (State.sramWrite_pairKept _ _ _ _)).trans (State.portAnswer_pairKept _ _ _ _ _)
            · exact htaken

theorem State.deliver15_pairKept (s : State) : s.pairKept s.deliver15 :=
  State.pairKept.foldl State.acceptPacket_pairKept (s.pairKept_refl.withNet _)

/-- The work that a promoted pair takes up leaves the pairs. -/
theorem State.resumeWork_pairKept (s : State) : s.pairKept s.resumeWork := by
  have htaken : s.pairKept { s with
      net := { s.net with records := [], commitNo := s.net.appliedNo, cmdAt := s.net.cmdApplied }
      rel := { s.rel with cmdNo := s.net.cmdApplied } } := s.pairKept_refl
  unfold State.resumeWork
  dsimp only
  generalize ({ s with net := _, rel := _ } : State) = s1 at *
  have hlearn := htaken.trans s1.learnAgain_pairKept
  generalize s1.learnAgain = s2 at *
  have hpair : s.pairKept (if s2.pairsNow then s2.requeue else s2).dropPairing := by
    split
    · exact (hlearn.trans s2.requeue_pairKept).trans (State.dropPairing_pairKept _)
    · exact hlearn.trans s2.dropPairing_pairKept
  generalize (if s2.pairsNow then s2.requeue else s2).dropPairing = s3 at *
  split
  · exact State.pairKept.trans (t := { s3 with rf := { s3.rf with takeover := true } }) hpair (State.readerRestart_pairKept _)
  · exact (hpair.trans (State.pairKept_of_sessionWork (s3.sessionWork_restartRequests _))).trans (State.readerRestart_pairKept _)

/-! ## A promotion (R28) -/

theorem State.pairKept.get {s t : State} (h : s.pairKept t) {f : Field} (hf : f.off ∈ pairRegs) : t.get f = s.get f := by
  obtain ⟨hregs, -⟩ := h
  rw [State.get, hregs _ hf, State.get]

theorem State.pairKept.fuses_eq {s t : State} (h : s.pairKept t) : t.fuses = s.fuses := by
  obtain ⟨-, hfuses, -⟩ := h
  exact hfuses

theorem State.pairKept.update_eq {s t : State} (h : s.pairKept t) : t.update = s.update := by
  obtain ⟨-, -, hupd⟩ := h
  exact hupd

/-- A takeover as the registers show it: pair `a` is out of service, the pairs stand without redundancy. -/
def State.showTakeover (s : State) (a mt : Nat) : State :=
  let s1 := (s.put (pairField a) 2).putFlag F.PWR_PAIR_STANDBY_READY false
  let s2 := ((s1.bump F.PWR_PAIR_TAKEOVERS).setReg R.PWR_TAKEOVER_MT (mt % 2 ^ 32)).event F.PWR_EVT_TAKEOVER
  ((s2.reason .pwr 0x030B).redLoss 0).reason .pwr 0x030E

/-- The pair that gave the service up comes under test; nothing loads and nothing waits for a promotion. -/
def State.underTest (s : State) (test : Option Bool) : State :=
  { s with net := { s.net with testing := test, loading := none, promoteWait := false, spareOk := false } }

theorem State.underTest_get (s : State) (test : Option Bool) (f : Field) : (s.underTest test).get f = s.get f := rfl

theorem State.underTest_fuses (s : State) (test : Option Bool) : (s.underTest test).fuses = s.fuses := rfl

theorem State.underTest_update (s : State) (test : Option Bool) : (s.underTest test).update = s.update := rfl

/-- The state in which the roles of the pairs have changed, before the promoted pair resumes the work. -/
def State.takenOver (s : State) : State :=
  (s.swapRoles.showTakeover s.activePair s.mt).underTest (if s.islandFailed (1 + s.activePair) then none else some (s.activePair == 1))

/-- A promotion is the change of the roles, the work resumed, and a revert where the running image is on trial. -/
theorem State.promote_eq (s : State) {u : State} (hu : u = (levelChange (2 - s.activePair) 3 true s.takenOver.resumeWork).deliver15) :
    s.promote = if u.update.state = .trial then u.doRevert 0x0E14 else u := by
  rw [hu]
  rfl

/-- The roles that a promotion from pair A gives. -/
theorem State.swapRoles_pairKept {s : State} (hact : s.activePair = 0) :
    (((s.put F.PWR_PAIR_ACTIVE 1).put F.SYS_STAT_ACTIVE_PAIR 1).put F.PWR_PAIR_B_STATE 0).pairKept s.swapRoles := by
  unfold State.swapRoles
  dsimp only
  rw [hact]
  exact (State.swapPairVotes_pairKept _).trans (State.symTakeover_pairKept _ _)

theorem State.get_redLoss_apart (s : State) {f : Field} (hred : f.off ≠ R.PWR_RED_STAT) (hf : f.hi < 32) (hapart : f.hi < 11 ∨ 11 < f.lo)
    (g : Nat) : (s.redLoss g).get f = s.get f := by
  rw [State.redLoss, State.event, State.get_put_apart _ _ _ _ (by decide) hf (.inr hapart), State.get_setReg_other _ hred]

theorem State.showTakeover_shown (s : State) (mt : Nat) : (s.showTakeover 0 mt).get F.PWR_PAIR_ACTIVE = s.get F.PWR_PAIR_ACTIVE
    ∧ (s.showTakeover 0 mt).get F.PWR_EVT_TAKEOVER = 1 ∧ (s.showTakeover 0 mt).get F.PWR_PAIR_A_STATE = 2
    ∧ (s.showTakeover 0 mt).get F.PWR_PAIR_STANDBY_READY = 0 := by
  have hpair : pairField 0 = F.PWR_PAIR_A_STATE := rfl
  refine ⟨?_, ?_, ?_, ?_⟩
  all_goals
    simp (disch := decide) only [State.showTakeover, hpair, State.reason, State.event, State.bump, State.bumpBy, State.putFlag, State.get_put_apart,
      State.get_put_same, State.get_setReg_other, State.get_redLoss_other,
      State.get_redLoss_apart, reasonField, bit, Bool.false_eq_true, if_false, Nat.reduceAdd,
      Nat.reduceSub, Nat.reducePow, Nat.reduceMod]

theorem State.showTakeover_rest (s : State) (a mt : Nat) :
    (s.showTakeover a mt).fuses = s.fuses ∧ (s.showTakeover a mt).update = s.update := by
  simp only [State.showTakeover, State.reason_fuses, State.redLoss_fuses, State.event_fuses, State.setReg_fuses, State.bump_fuses,
    State.putFlag_fuses, State.put_fuses, State.reason_update, State.redLoss_update, State.event_update, State.setReg_update, State.bump_update,
    State.putFlag_update, State.put_update, and_self]

theorem State.takenOver_shown {s : State} (hact : s.activePair = 0) :
    s.takenOver.get F.PWR_PAIR_ACTIVE = 1 ∧ s.takenOver.get F.PWR_EVT_TAKEOVER = 1 ∧ s.takenOver.get F.PWR_PAIR_A_STATE = 2
      ∧ s.takenOver.get F.PWR_PAIR_STANDBY_READY = 0 ∧ s.takenOver.fuses = s.fuses ∧ s.takenOver.update = s.update := by
  have hroles := State.swapRoles_pairKept hact
  obtain ⟨hactive, hevent, ha, hready⟩ := s.swapRoles.showTakeover_shown s.mt
  have hnew : s.swapRoles.get F.PWR_PAIR_ACTIVE = 1 := by
    rw [hroles.get (by decide), State.get_put_apart _ _ _ _ (by decide) (by decide) (by decide),
      State.get_put_apart _ _ _ _ (by decide) (by decide) (by decide), State.get_put_same _ _ _ (by decide) (by decide)]
    rfl
  have hfuses : s.swapRoles.fuses = s.fuses :=
    hroles.fuses_eq.trans ((State.put_fuses _ _ _).trans ((State.put_fuses _ _ _).trans (State.put_fuses _ _ _)))
  have hupd : s.swapRoles.update = s.update :=
    hroles.update_eq.trans ((State.put_update _ _ _).trans ((State.put_update _ _ _).trans (State.put_update _ _ _)))
  obtain ⟨hfuses', hupd'⟩ := s.swapRoles.showTakeover_rest 0 s.mt
  rw [State.takenOver, hact]
  exact ⟨(State.underTest_get _ _ _).trans (hactive.trans hnew), (State.underTest_get _ _ _).trans hevent, (State.underTest_get _ _ _).trans ha,
    (State.underTest_get _ _ _).trans hready, (State.underTest_fuses _ _).trans (hfuses'.trans hfuses),
    (State.underTest_update _ _).trans (hupd'.trans hupd)⟩

theorem State.promote_spec {s : State} (hact : s.activePair = 0) (hidle : s.update.state = .idle) :
    s.promote.activePair = 1 ∧ s.promote.get F.PWR_EVT_TAKEOVER = 1 ∧ s.promote.get F.PWR_PAIR_A_STATE = 2
      ∧ s.promote.get F.PWR_PAIR_STANDBY_READY = 0 ∧ s.promote.fuses = s.fuses := by
  obtain ⟨hactive, hevent, ha, hready, hfuses, hupd⟩ := State.takenOver_shown hact
  have hkept := (s.takenOver.resumeWork_pairKept.trans (levelChange_pairKept (2 - s.activePair) 3 true _)).trans (State.deliver15_pairKept _)
  have hget : ∀ f : Field, f.off ∈ pairRegs → _ := fun _ hf => hkept.get hf
  have hrun : ¬ (levelChange (2 - s.activePair) 3 true s.takenOver.resumeWork).deliver15.update.state = .trial := by
    rw [hkept.update_eq, hupd, hidle]
    decide
  rw [(s.promote_eq rfl).trans (if_neg hrun), State.activePair]
  exact ⟨(hget _ (by decide)).trans hactive, (hget _ (by decide)).trans hevent, (hget _ (by decide)).trans ha,
    (hget _ (by decide)).trans hready, hkept.fuses_eq.trans hfuses⟩

/-! ## The obligation -/

/-- Settles O48: of all that a promotion resumes, nothing writes the pairs' registers, the fuses or the update (`State.resumeWork_pairKept`,
`State.deliver15_pairKept`); the other clauses follow the branches of R395 and R396. -/
theorem pairsTakeOverAndRetire : Obligations.PairsTakeOverAndRetire := by
  refine ⟨?ready, ?promoted, ?none, ?spare, ?standby, ?down, ?up, ?retired, ?passed, ?current⟩
  case ready =>
    intro s hphase hact hret hwait hheld hidle hready h7
    exact congrArg Host.Outcome.next ((pairFault_of_active hphase hact hret hwait).trans
      (State.activeFault_of_ready (s := s.noteFault 0) hheld hidle hready h7))
  case promoted => exact fun s hact hidle _ _ _ => State.promote_spec hact hidle
  case none =>
    intro s hphase hact hret hwait hheld hidle hready hload hspare hup hblow
    have hnow : s.resetWaits 4 = false := Bool.and_false _
    exact congrArg Host.Outcome.next ((pairFault_of_active hphase hact hret hwait).trans
      ((State.activeFault_of_none (s := s.noteFault 0) hheld hidle hready hload hspare).trans (State.resetSource_of_no_wait hup hnow)))
  case spare =>
    intro s hphase hact hret hwait hheld hidle hready hload hspare
    exact congrArg Host.Outcome.next ((pairFault_of_active hphase hact hret hwait).trans
      (State.activeFault_of_spare (s := s.noteFault 0) hheld hidle hready hload hspare))
  case standby =>
    intro s hphase hact hret hready hwait hidle h2
    exact ⟨_, congrArg Host.Outcome.next (pairFault_of_standby hphase hact hret hready), by
      rw [standbyFault_eq (s := s.noteFault 1) hphase hwait hidle h2]
      exact standbyTested_spec (s := s.noteFault 1) hact⟩
  case down => exact fun s => heartbeatTimeout_of_down
  case up => exact fun s => heartbeatTimeout_of_up
  case retired =>
    exact fun s htest hheld => ⟨_, congrArg Host.Outcome.next (pairTestDone_of_fail htest hheld), s.retirePair_spec⟩
  case passed => exact fun s htest hheld hfaults => congrArg Host.Outcome.next (pairTestDone_of_pass htest hheld hfaults)
  case current =>
    exact fun s hload hwait hidle hphase h7 hparts => 
      ⟨_, congrArg Host.Outcome.next (standbyPairReady_eq hload hwait hidle hphase hparts), State.becomesStandby_spec hphase⟩

end Sys2Proof.Machine
end
section
/-! SUPPORT. Writing a configuration image (R58, R59), the background checks of the copies left unchecked (R55), and reading and writing
settings (R48, R49): what each operation answers, branch by branch. -/
namespace Sys2Proof.Machine

open Sys2Proof

/-- A mailbox command that can run at once is answered with what its operation yields. -/
theorem next_mailboxCommand {opcode r : Nat} {input out : Bytes} {op : State → MbRes} {s t : State} (h : s.mbReady opcode input)
    (he : op (s.begun opcode input) = (t, r, out)) (hr : r < 65536 := by decide) (ho : opcode < 65536 := by decide) :
    (.next (mailboxCommand opcode input op s) : Out) = .next (t.finish r out) :=
  congrArg Host.Outcome.next (mailboxCommand_answers opcode input op s t r out ho h he hr)

/-! ## Writing an image (R58, R59) -/

/-- The configuration write after its next chunk. -/
def CfgWrite.received (w : CfgWrite) (data : Bytes) : CfgWrite := { w with bytes := w.bytes ++ data }

/-- The state in which the next chunk of the write `w` is programmed into the slot at `off`. -/
def State.chunkProgrammed (s : State) (w : CfgWrite) (off : Nat) (data : Bytes) : State :=
  { s with
    nor := { s.nor with cells := norWrite s.nor.cells (off + w.bytes.length) data }
    sys := { s.sys with cfgWrite := some (w.received data) } }

theorem cfgWriteOpenOp_of_idle {s : State} {len off size : Nat} (hidle : s.sys.cfgWrite = none) (hfit : s.nor.fitted = true)
    (hslot : s.copySlot s.targetCopy = some (off, size)) (hmin : 336 ≤ len) (hmax : len ≤ imageMax) (hsize : len ≤ size) :
    cfgWriteOpenOp len s = mbOk { s with
      nor := { s.nor with cells := norErase s.nor.cells off size }
      sys := { s.sys with cfgWrite := some ⟨len, s.targetCopy, []⟩ } } (toLE 1 s.targetCopy) := by
  simp [cfgWriteOpenOp, hidle, hfit, hslot, Nat.not_lt.mpr hmin, Nat.not_lt.mpr hmax, Nat.not_lt.mpr hsize]

theorem cfgWriteOpenOp_of_running {s : State} (hrun : s.sys.cfgWrite.isSome = true) (len : Nat) :
    cfgWriteOpenOp len s = mbFail s .cfg 0x0211 := if_pos hrun

/-- Both copies of the NOR answer, so the copy that is written does. -/
theorem copyAnswers {env : Env} (h0 : env.nor0 = true) (h1 : env.nor1 = true) (k : Nat) :
    (if k = 0 then env.nor0 else env.nor1) = true := by
  rw [h0, h1, ite_self]

/-- A chunk in its order exposes a fault, is programmed, or is programmed as the last one. -/
theorem cfgWriteChunkOp_in_order {s : State} {w : CfgWrite} {index off size : Nat} {data : Bytes} {env : Env}
    (hw : s.sys.cfgWrite = some w) (hindex : index = w.bytes.length / 65536) (hlen : data.length = min 65536 (w.len - w.bytes.length))
    (hslot : s.copySlot w.target = some (off, size)) (h0 : env.nor0 = true) (h1 : env.nor1 = true) :
    let n := w.bytes.length / 65536
    let bad := s.exposed (w.received data) size
    let s1 := s.chunkProgrammed w off data
    let code := match s1.candidate (norRead s1.nor.cells off w.len) size env.vioHigh with | .ok _ => 0 | .error e => e
    cfgWriteChunkOp index data env s
      = if bad ≠ 0 then ({ s with nor := { s.nor with cells := norErase s.nor.cells off size } }.endCfgWrite bad, bad, [])
        else if (w.received data).bytes.length < w.len then
          mbOk (s1.setReg R.SYS_CFG_PROG ((n + 1) * 100 / ((w.len + 65535) / 65536) * 2 ^ 24 + (n + 1))) (toLE 4 (n + 1))
        else (s1.endCfgWrite code, code, toLE 4 (n + 1)) := by
  simp only [cfgWriteChunkOp, hw, hindex, hlen, hslot, copyAnswers h0 h1, ne_eq, not_true_eq_false, decide_false, Bool.or_self, Bool.not_true,
    Bool.false_eq_true, if_false]
  rfl

/-! ## The copies left unchecked (R55) -/

theorem imgChecked_of_none {s : State} (h : s.sys.unchecked = []) (env : Env) : imgChecked env s = s := by
  simp [imgChecked, h]

theorem imgChecked_of_one {s : State} {k : Nat} (hready : s.sys.readySeen = true) (h : s.sys.unchecked = [k]) (env : Env) :
    imgChecked env s = { s.copyReason k (match s.judgeCopy k env with | .ok _ => 0 | .error e => e) with
      sys := { s.sys with unchecked := [] } }.event F.SYS_EVT_IMG_CHECKED := by
  have hdue : ¬ (!s.sys.readySeen || s.sys.unchecked.isEmpty) = true := by simp [hready, h]
  rw [imgChecked, if_neg hdue, h]
  rfl

/-! ## Settings (R48, R49) -/

/-- The state in which a setting has its new value, in the bank and in the new bank of an activation. -/
def State.settingStored (s : State) (k : SettingsBank) (id v : Nat) : State :=
  { s with
    vault := { s.vault with bank := some (k.set id v) }
    upd := { s.upd with newBank := s.upd.newBank.map (fun (n : SettingsBank) => n.set id v) } }

theorem settingReadOp_of_unlisted {s : State} {id : Nat} (h : s.settingList.find? (fun r => r.id == id) = none) :
    settingReadOp id s = mbFail s .cfg 0x022C := by
  simp only [settingReadOp, h]

section
variable {s : State} {id v : Nat} {r : SettingRec} (h : s.settingList.find? (fun r => r.id == id) = some r)
include h

theorem settingReadOp_of_listed :
    settingReadOp id s = mbOk s (toLE 4 (s.setting id r.dflt) ++ toLE 4 r.lo ++ toLE 4 r.hi ++ toLE 2 r.flags) := by
  simp only [settingReadOp, h]

theorem settingWriteOp_of_writable {k : SettingsBank} (hbank : s.vault.bank = some k) (hwr : Nat.testBit r.flags 0 = true)
    (hlo : settingLe r r.lo v = true) (hhi : settingLe r v r.hi = true) :
    settingWriteOp id v s = mbOk (if Nat.testBit r.flags 2 && decide (s.setting id r.dflt ≠ v)
      then (s.settingStored k id v).settingEntry id (s.setting id r.dflt) v 1 else s.settingStored k id v).commitPoint [] := by
  simp only [settingWriteOp, h, hbank, hwr, hlo, hhi, Bool.not_true, Bool.and_self, Bool.false_eq_true, if_false]
  rfl

theorem settingWriteOp_of_read_only (hwr : Nat.testBit r.flags 0 = false) : settingWriteOp id v s = mbFail s .cfg 0x022B := by
  simp only [settingWriteOp, h, hwr, Bool.not_false, if_true]

theorem settingWriteOp_of_above (hwr : Nat.testBit r.flags 0 = true) (hhi : settingLe r v r.hi = false) :
    settingWriteOp id v s = mbFail s .cfg 0x022A := by
  simp only [settingWriteOp, h, hwr, hhi, Bool.and_false, Bool.not_true, Bool.not_false, Bool.false_eq_true, if_false, if_true]

end

/-! ## The obligation -/

/-- Settles O60: each command answers at once with what its operation yields, and the operation's answer is its branch above. -/
theorem imagesAndSettingsAreWritten : Obligations.ImagesAndSettingsAreWritten := by
  refine ⟨?opens, ?busy, ?chunk, ?checked, ?unchecked, ?read, ?unlisted, ?write⟩
  case opens =>
    exact fun s n off size hmb hidle hfit hslot hmin hmax hsize =>
      next_mailboxCommand hmb (cfgWriteOpenOp_of_idle hidle hfit hslot hmin hmax hsize)
  case busy => exact fun s n hmb hrun => next_mailboxCommand hmb (cfgWriteOpenOp_of_running (s := s.begun _ _) hrun _)
  case chunk =>
    intro s index data env w off size hmb b n w1 s1 code hw hindex hlen hslot h0 h1
    have hop := cfgWriteChunkOp_in_order hw hindex hlen hslot h0 h1
    refine ⟨fun hclean hmore => ?_, fun hclean hlast hcode => ?_, fun hbad hcode => ?_⟩
    · exact next_mailboxCommand hmb (hop.trans ((if_neg (not_not.mpr hclean)).trans (if_pos hmore)))
    · exact next_mailboxCommand hmb (hop.trans ((if_neg (not_not.mpr hclean)).trans (if_neg hlast.not_gt))) hcode
    · exact next_mailboxCommand hmb (hop.trans (if_pos hbad)) hcode
  case checked =>
    exact fun s env k hready hone => congrArg (fun t : State => Host.Outcome.next t.finishNine) (imgChecked_of_one hready hone env)
  case unchecked =>
    exact fun s env hnone => congrArg (fun t : State => Host.Outcome.next t.finishNine) (imgChecked_of_none hnone env)
  case read => exact fun s id r hmb hlisted => next_mailboxCommand hmb (settingReadOp_of_listed hlisted)
  case unlisted => exact fun s id hmb hnone => next_mailboxCommand hmb (settingReadOp_of_unlisted hnone)
  case write =>
    intro s id v r k hmb b hlisted hbank w
    refine ⟨fun hwr hlo hhi => ?_, fun hwr hhi => ?_, fun hwr => ?_⟩
    · exact next_mailboxCommand hmb (settingWriteOp_of_writable hlisted hbank hwr hlo hhi)
    · exact next_mailboxCommand hmb (settingWriteOp_of_above hlisted hwr hhi)
    · exact next_mailboxCommand hmb (settingWriteOp_of_read_only hlisted hwr)

end Sys2Proof.Machine
end

section
/-! SUPPORT. The reset sources (R66, Table 3-1): when each restarts the block. -/
namespace Sys2Proof.Machine

open Sys2Proof

/-! ## When each reset source acts -/

theorem powerOn_of_down {s : State} (h : s.pilot.vbatUp = false) : powerOn s = s.restart 1 := by simp [powerOn, h]

theorem powerOn_of_up {s : State} (h : s.pilot.vbatUp = true) : powerOn s = s := by simp [powerOn, h]

/-- RST_N and the puppeteer reset at once, a fuse blow or not (R266). -/
theorem State.resetSource_at_once {s : State} {source : Nat} (hv : s.pilot.vbatUp = true) (h3 : source ≠ 3) (h7 : source ≠ 7) :
    s.resetSource source = s.restart source :=
  State.resetSource_of_no_wait hv (by simp [State.resetWaits, h3, h7])

theorem rstNReset_of_long {n : Nat} (h : 10 ≤ n) (s : State) : rstNReset n s = s.resetSource 2 := by simp [rstNReset, h]

theorem rstNReset_of_short {n : Nat} (h : n < 2) (s : State) : rstNReset n s = s := by
  have hlong : ¬ 10 ≤ n := by omega
  have hopen : ¬ 2 ≤ n := by omega
  simp [rstNReset, hlong, hopen]

theorem puppeteerRestart_of_due {s : State} {m : Nat} (h : s.net.restartAt = some m) (hm : m ≤ s.mt) :
    puppeteerRestart s = s.resetSource 4 := by
  simp only [puppeteerRestart, h, if_pos hm]

theorem puppeteerRestart_of_none {s : State} (h : s.net.restartAt = none) : puppeteerRestart s = s := by
  simp only [puppeteerRestart, h]

theorem selfRestart_of_due {s : State} (hrec : s.recovery = true) (hcause : s.sys.cause = some .alarm)
    (hdue : 327680 ≤ (s.pilot.pt - BitVec.ofNat 32 s.sys.recPt).toNat) (hcount : s.pilot.selfRestarts < 3) :
    selfRestart s = ({ s with pilot := { s.pilot with selfRestarts := s.pilot.selfRestarts + 1 } }).resetSource 5 := by
  simp only [selfRestart, hrec, hcause, hdue, hcount, decide_true, Bool.and_self, if_true]

theorem selfRestart_of_spent {s : State} (h : 3 ≤ s.pilot.selfRestarts) : selfRestart s = s := by
  simp [selfRestart, h.not_gt]

/-- A reset that the service port asks for waits exactly while a fuse blow runs (R266). -/
theorem State.resetWaits_seven (s : State) : s.resetWaits 7 = s.keys.blow.isSome := by simp [State.resetWaits]

/-! ## What the restart makes of the vault and the pilot -/

theorem State.restart_vault (s : State) (source : Nat) : (s.restart source).vault = { s.vault with alternate := none } := by
  rw [State.restart, State.setPhase_vault, apply_ite State.vault, State.putFlag_vault, ite_self, State.armMonitors, State.setReg_vault,
    State.put_vault]

/-- A power-on starts PT at 0. -/
theorem State.restart_pt_powerOn (s : State) : (s.restart 1).pilot.pt = 0 := by
  rw [State.restart, State.setPhase_pilot]
  simp [State.armMonitors, Pilot.reset]

/-! ## The obligation -/

/-- Settles O9: each source that acts runs `State.resetSource`, which restarts the block at once unless a fuse blow holds it. -/
theorem resetSourcesRestartTheBlock : Obligations.ResetSourcesRestartTheBlock := by
  refine ⟨?powerOn, ?powered, ?rstN, ?glitch, ?puppeteer, ?noHalt, ?self, ?spent, ?port, ?portWaits, ?restart⟩
  case powerOn => exact fun s h => congrArg Host.Outcome.next (powerOn_of_down h)
  case powered => exact fun s h => congrArg Host.Outcome.next (powerOn_of_up h)
  case rstN =>
    exact fun s n hv hn => congrArg Host.Outcome.next
      ((rstNReset_of_long hn s).trans (State.resetSource_at_once hv (by decide) (by decide)))
  case glitch => exact fun s n hn => congrArg Host.Outcome.next (rstNReset_of_short hn s)
  case puppeteer =>
    exact fun s m hv hat hm => congrArg Host.Outcome.next
      ((puppeteerRestart_of_due hat hm).trans (State.resetSource_at_once hv (by decide) (by decide)))
  case noHalt => exact fun s h => congrArg Host.Outcome.next (puppeteerRestart_of_none h)
  case self =>
    exact fun s hv hrec hcause hdue hcount => congrArg Host.Outcome.next
      ((selfRestart_of_due hrec hcause hdue hcount).trans (State.resetSource_at_once hv (by decide) (by decide)))
  case spent => exact fun s h => congrArg Host.Outcome.next (selfRestart_of_spent h)
  case port =>
    exact fun s hv hblow => congrArg Host.Outcome.next
      (State.resetSource_of_no_wait hv (s.resetWaits_seven.trans (by rw [hblow]; rfl)))
  case portWaits =>
    exact fun s hv hblow => congrArg Host.Outcome.next (State.resetSource_of_wait hv (s.resetWaits_seven.trans hblow))
  case restart =>
    intro s n _ hlt
    refine ⟨s.restart_resetCause (by omega), s.restart_enMap n, ?_, by simp, s.restart_vault n, by simp, by simp, by simp, by simp, by simp,
      by simp, by simp, by simp, ?_⟩
    · simp only [s.restart_phase, Bool.and_eq_true, decide_eq_true_eq]
    · split
      · next h1 => rw [h1, s.restart_pt_powerOn]
      · next h1 => exact s.restart_pt h1

end Sys2Proof.Machine
end

section
/-! SUPPORT. The check of SYM runs the self-tests of R259 first, and what they find stands whether or not the check passes. -/
namespace Sys2Proof.Machine

open Sys2Proof

/-- Self-tests in which the DRBG alone fails its known-answer test. -/
def drbgFails : SymTest := ⟨true, true, true, false, true⟩

/-- A measured environment whose only fault is those self-tests. -/
def drbgFailsEnv : Env :=
  { vioHigh := true, norDir := true, nor0 := true, nor1 := true, storeOk := true, commitOk := true, lfMeas := [], dieTemp := 25
    xtalOk := true, entOk := true, rfCal := ⟨[], ⟨0, 0, false, 0, []⟩, 0, 0, 0⟩, symTest := drbgFails, cards := ⟨[], []⟩ }

theorem State.symSelfTest_drbgFails (s : State) : s.symSelfTest drbgFails = { s with sym := { s.sym with drbgBad := true } } := by
  simp only [State.symSelfTest, drbgFails, Bool.true_or, if_true, Bool.not_false, Bool.or_true]

/-- A refused check of SYM leaves what its self-tests found. -/
theorem State.checkNow_sym_refused {s : State} {env : Env} {code : Nat}
    (h : (s.symSelfTest env.symTest).subCheck ((s.symSelfTest env.symTest).selected env.vioHigh) false (s.symSelfTest env.symTest).enabled .sym
      = code) (hcode : code ≠ 0) : s.checkNow env .sym = (s.symSelfTest env.symTest).reason .sym code := by
  simp only [State.checkNow, if_true, h, if_neg hcode]

/-- Refutes O11, by its last clause at SYM: on the shipped part, where PWR is not yet enabled, the check of SYM is refused with 0x0223; a
self-test that finds the DRBG bad marks it so (R259), while the clause leaves everything but the reason as it stands. -/
theorem not_startDerivesKeysAndEnablesTheImmobiliserPath : ¬ Obligations.StartDerivesKeysAndEnablesTheImmobiliserPath := by
  rintro ⟨-, -, -, -, -, -, -, hrefused⟩
  have hclause := hrefused State.reset drbgFailsEnv .sym (by decide)
  have hmodel : State.reset.checkNow drbgFailsEnv .sym = (State.reset.symSelfTest drbgFails).reason .sym 0x0223 :=
    State.checkNow_sym_refused (by decide) (by decide)
  have hbad : (State.reset.checkNow drbgFailsEnv .sym).sym.drbgBad = true := by rw [hmodel, State.symSelfTest_drbgFails]; rfl
  rw [hclause] at hbad
  exact absurd hbad (by decide)

end Sys2Proof.Machine
end

section
/-! SUPPORT. Start phases 2 to 4 (R68 to R70): what the steps of a start leave of the registers, which core pair phase 3 takes, and the
slot that phase 4 runs. -/
namespace Sys2Proof.Machine

open Sys2Proof

/-! ## What the steps of a start leave of the registers -/

theorem State.setPhase_reg_other (s : State) {off : Nat} (h : off ∉ [R.SYS_STAT, R.SYS_START_PROG]) (p : Nat) :
    (s.setPhase p).reg off = s.reg off := by
  simp only [List.mem_cons, List.not_mem_nil, or_false, not_or] at h
  obtain ⟨hstat, hprog⟩ := h
  rw [State.setPhase, State.reg_setReg_other _ hprog, State.reg_put_other _ hstat]

theorem State.setPhase_get_other (s : State) {f : Field} (h : f.off ∉ [R.SYS_STAT, R.SYS_START_PROG]) (p : Nat) :
    (s.setPhase p).get f = s.get f := by
  rw [State.get, s.setPhase_reg_other h, State.get]

theorem State.regsOnly_trans {s t u : State} (h1 : t = { s with regs := t.regs }) (h2 : u = { t with regs := u.regs }) :
    u = { s with regs := u.regs } := by
  rw [h2, h1]

/-- Operations that change the registers alone, one after another. -/
theorem State.regsOnly_foldl {β : Type} {f : State → β → State} (hf : ∀ (s : State) (x : β), f s x = { s with regs := (f s x).regs })
    (l : List β) (s : State) : l.foldl f s = { s with regs := (l.foldl f s).regs } := by
  induction l generalizing s with
  | nil => rfl
  | cons x l ih =>
    rw [List.foldl_cons, ih]
    exact congrArg (fun u : State => { u with regs := (l.foldl f (f s x)).regs }) (hf s x)

/-- An island that comes to RUN for a start. -/
def State.startIsland (s : State) (i : Nat) : State :=
  if s.islandFailed i then s else ((s.setIsland i 2).setVote 1 i true).followShared

theorem State.startIslands_eq (s : State) (l : List Nat) : s.startIslands l = l.foldl State.startIsland s := rfl

theorem State.startIsland_regsOnly (s : State) (i : Nat) : s.startIsland i = { s with regs := (s.startIsland i).regs } := by
  obtain ⟨hframe, -⟩ := ((s.setIsland i 2).setVote 1 i true).followShared_frame
  unfold State.startIsland
  split
  · rfl
  · refine hframe.trans ?_
    rw [State.setVote, State.put_eq, s.setIsland_regsOnly i 2]

theorem State.startIsland_reg_other (s : State) {off i : Nat} (h : off ≠ R.PWR_ISL_STATE) (hv : off ≠ (F.PWR_VOTEn_CLIENTS i).off) :
    (s.startIsland i).reg off = s.reg off := by
  obtain ⟨-, hregs, -⟩ := ((s.setIsland i 2).setVote 1 i true).followShared_frame
  unfold State.startIsland
  split
  · rfl
  · rw [hregs off h, State.setVote, State.reg_put_other _ hv, State.reg_setIsland_other _ h]

theorem State.startIslands_regsOnly (s : State) (l : List Nat) : s.startIslands l = { s with regs := (s.startIslands l).regs } :=
  State.regsOnly_foldl State.startIsland_regsOnly l s

theorem State.startIslands_reg_other (s : State) {l : List Nat} {off : Nat} (h : off ≠ R.PWR_ISL_STATE)
    (hv : ∀ i ∈ l, off ≠ (F.PWR_VOTEn_CLIENTS i).off) : (s.startIslands l).reg off = s.reg off := by
  rw [State.startIslands_eq]
  induction l generalizing s with
  | nil => rfl
  | cons i l ih =>
    rw [List.foldl_cons, ih _ (fun j hj => hv j (List.mem_cons_of_mem i hj)), s.startIsland_reg_other h (hv i List.mem_cons_self)]

theorem State.startIslands_get_other (s : State) {l : List Nat} {f : Field} (h : f.off ≠ R.PWR_ISL_STATE)
    (hv : ∀ i ∈ l, f.off ≠ (F.PWR_VOTEn_CLIENTS i).off) : (s.startIslands l).get f = s.get f := by
  rw [State.get, s.startIslands_reg_other h hv, State.get]

theorem State.startReason_shown (s : State) (code : Nat) : (s.startReason code).get F.SYS_START_START_REASON = code % 2 ^ 16 := by
  rw [State.startReason, State.reason, State.get_put_apart _ _ _ _ (by decide) (by decide) (by decide),
    State.get_put_same _ _ _ (by decide) (by decide)]
  rfl

theorem State.startReason_reg_other (s : State) {off : Nat} (h : off ∉ [F.SYS_START_START_REASON.off, F.SYS_REASON_REASON.off]) (code : Nat) :
    (s.startReason code).reg off = s.reg off := by
  simp only [List.mem_cons, List.not_mem_nil, or_false, not_or] at h
  obtain ⟨hstart, hreason⟩ := h
  rw [State.startReason, State.reason, State.reg_put_other _ hreason, State.reg_put_other _ hstart]

theorem State.startReason_get_other (s : State) {f : Field} (h : f.off ∉ [F.SYS_START_START_REASON.off, F.SYS_REASON_REASON.off]) (code : Nat) :
    (s.startReason code).get f = s.get f := by
  rw [State.get, s.startReason_reg_other h, State.get]

/-! ## READY and the down map follow (R75, R76) -/

/-- A register as one field. -/
def wholeReg (off : Nat) : Field := ⟨off, 31, 0⟩

theorem State.reg_eq_get (s : State) (off : Nat) : s.reg off = s.get (wholeReg off) := by
  have hlt := s.reg_lt off
  simp only [State.get, bits, wholeReg, pow_zero, Nat.div_one]
  exact (Nat.mod_eq_of_lt hlt).symm

/-- A write of a register of the list keeps every field outside it. -/
theorem keepsFields_setReg {s t : State} {l : List Field} (h : keepsFields s t l) {off : Nat} (hl : wholeReg off ∈ l) (v : Nat) :
    keepsFields s (t.setReg off v) l := by
  intro f hf hapart
  rw [← h f hf hapart]
  by_cases hoff : f.off = off
  · have hempty : f.hi + 1 - f.lo = 0 := by
      rcases hapart _ hl with hne | hlow | hhigh
      · exact absurd hoff hne
      · exact absurd hlow (Nat.not_lt_zero _)
      · have hlo : 31 < f.lo := hhigh
        omega
    simp only [State.get, bits, hempty, pow_zero, Nat.mod_one]
  · exact State.get_setReg_other _ hoff _

theorem keepsFields_ite {s t u : State} {l : List Field} {c : Prop} [Decidable c] (ht : keepsFields s t l) (hu : keepsFields s u l) :
    keepsFields s (if c then t else u) l := by
  split
  · exact ht
  · exact hu

theorem keepsFields_of_regs {s t u : State} {l : List Field} (h : keepsFields s t l) (hregs : u.regs = t.regs) : keepsFields s u l :=
  fun f hf hapart => (State.get_of_regs hregs f).trans (h f hf hapart)

/-- A register outside the list of fields reads as before. -/
theorem keepsFields.reg {s t : State} {l : List Field} (h : keepsFields s t l) {off : Nat} (hoff : ∀ g ∈ l, off ≠ g.off) : t.reg off = s.reg off := by
  rw [State.reg_eq_get, State.reg_eq_get]
  exact h _ (by decide : (31 : Nat) < 32) (fun g hg => .inl (hoff g hg))

/-- The fields that `State.refresh` brings up to date. -/
def readyFields : List Field :=
  [wholeReg R.SYS_DOWN_MAP, F.SYS_STAT_READY, F.SYS_EVT_READY_CHG, F.SYS_STAT_DEGRADED, F.SYS_EVT_DEGRADED_CHG,
    wholeReg R.SYS_START_PT, wholeReg R.SYS_IMG_FLOOR]

theorem keepsFields_firstReady {s t : State} (h : keepsFields s t readyFields) : keepsFields s t.firstReady readyFields := by
  unfold State.firstReady
  split
  · exact h
  · exact keepsFields_setReg (keepsFields_setReg (keepsFields_of_regs h rfl) (by decide) _) (by decide) _

theorem State.refresh_keeps (s : State) : keepsFields s s.refresh readyFields := by
  have hflag : ∀ {t : State} {f e : Field} (b : Bool), keepsFields s t readyFields → f ∈ readyFields → f.lo ≤ f.hi → e ∈ readyFields →
      e.lo ≤ e.hi → keepsFields s ((t.putFlag f b).event e) readyFields := fun b ht hf hlo he hlo' =>
    keepsFields_put (keepsFields_put ht hf hlo _) he hlo' _
  have hdown := keepsFields_setReg (keepsFields_refl s readyFields) (off := R.SYS_DOWN_MAP) (by decide) s.downNow
  have hready := keepsFields_ite (c := (s.readyNow != s.flag F.SYS_STAT_READY) = true)
    (hflag s.readyNow hdown (f := F.SYS_STAT_READY) (e := F.SYS_EVT_READY_CHG) (by decide) (by decide) (by decide) (by decide)) hdown
  have hdeg := keepsFields_ite (c := (decide (s.downNow ≠ 0) != s.flag F.SYS_STAT_DEGRADED) = true)
    (hflag (decide (s.downNow ≠ 0)) hready (f := F.SYS_STAT_DEGRADED) (e := F.SYS_EVT_DEGRADED_CHG) (by decide) (by decide) (by decide) (by decide))
    hready
  have hfirst := keepsFields_ite (c := s.readyNow = true) (keepsFields_firstReady hdeg) hdeg
  unfold State.refresh
  exact keepsFields_ite (keepsFields_of_regs hfirst (by simp)) hfirst

theorem State.refresh_phase (s : State) : s.refresh.phase = s.phase := s.refresh_keeps _ (by decide) (by decide)

/-! ## Phase 2 (R68) -/

theorem reference_of_crystal {s : State} (h : s.mayPhase 2 = true) :
    reference true s = (({ s with pwr := { s.pwr with xtalRun := true } }).putFlag F.PWR_STAT_XTAL_OK true).setPhase 3 := by
  simp only [reference, h, Bool.not_true, Bool.false_eq_true, if_false, if_true]

/-- The state in which the RC is the reference, with 0x0132. -/
def State.rcChosen (s : State) : State :=
  let s1 := (({ s with pwr := { s.pwr with xtalRun := false, retryMt := s.mt } }).putFlag F.PWR_STAT_REF_RC true).startReason 0x0132
  ((s1.putFlag F.RF_STAT_REF_RC true).putFlag F.TIM_STAT_REF_RC true).redLoss 12

theorem reference_of_rc {s : State} (h : s.mayPhase 2 = true) : reference false s = s.rcChosen.setPhase 3 := by
  simp only [reference, h, Bool.not_true, Bool.false_eq_true, if_false]
  rfl

theorem State.flag_of_one {s : State} {f : Field} (h : s.get f = 1) : s.flag f = true := by rw [State.flag, h]; rfl

theorem State.rcChosen_shown (s : State) : s.rcChosen.get F.PWR_STAT_REF_RC = 1 ∧ s.rcChosen.get F.RF_STAT_REF_RC = 1
    ∧ s.rcChosen.get F.TIM_STAT_REF_RC = 1 ∧ s.rcChosen.get F.SYS_START_START_REASON = 0x0132
    ∧ Nat.testBit (s.rcChosen.reg R.PWR_RED_STAT) 12 = true ∧ s.rcChosen.get F.PWR_EVT_RED_LOSS = 1 := by
  refine ⟨?_, ?_, ?_, ?_, State.redLoss_bit _ (by decide), State.get_put_same _ _ _ (by decide) (by decide)⟩
  all_goals
    simp (disch := decide) only [State.rcChosen, State.putFlag, State.get_redLoss_other, State.get_put_apart, State.get_put_same,
      State.startReason_get_other, State.startReason_shown]
  all_goals rfl

theorem State.rcChosen_frame (s : State) :
    s.rcChosen = { s with regs := s.rcChosen.regs, pwr := { s.pwr with xtalRun := false, retryMt := s.mt } } := by
  simp only [State.rcChosen, State.startReason, State.reason, State.redLoss, State.event, State.putFlag, State.put_eq, State.setReg_eq]

theorem State.setPhase_eq (s : State) (p : Nat) : s.setPhase p = { s with regs := (s.setPhase p).regs } := rfl

/-! ## Phase 3 (R69) -/

/-- No core pair passes. -/
theorem State.choosePair_none (s : State) : s.choosePair false false = none := rfl

/-- What phase 3 shows once a pair is chosen: the active pair, the states of both, and whether the other can stand by. -/
def State.pairShown (s : State) (a stateA stateB : Nat) (spare : Bool) : State :=
  let s1 := ((s.put F.PWR_PAIR_ACTIVE a).put F.SYS_STAT_ACTIVE_PAIR a).putFlag F.PWR_PAIR_STANDBY_READY false
  let s2 := (s1.put F.PWR_PAIR_A_STATE stateA).put F.PWR_PAIR_B_STATE stateB
  { s2 with net := { s2.net with spareOk := spare } }

/-- The pair chosen runs: a pair that failed its self-test shows as 0x013B, a missing spare as a redundancy loss. -/
def State.pairRuns (s : State) (a : Nat) (failed spare : Bool) : State :=
  let s1 := if failed then s.startReason 0x013B else s
  (if spare then s1 else s1.redLoss 0).startIslands [1 + a]

theorem State.pairRuns_regsOnly (s : State) (a : Nat) (failed spare : Bool) :
    s.pairRuns a failed spare = { s with regs := (s.pairRuns a failed spare).regs } := by
  have hreason : (if failed then s.startReason 0x013B else s) = { s with regs := (if failed then s.startReason 0x013B else s).regs } := by
    cases failed <;> rfl
  have hloss : ∀ t : State, (if spare then t else t.redLoss 0) = { t with regs := (if spare then t else t.redLoss 0).regs } := fun t => by
    cases spare <;> rfl
  exact State.regsOnly_trans (State.regsOnly_trans hreason (hloss _)) (State.startIslands_regsOnly _ _)

/-- A pair's registers stand apart from what running it changes. -/
theorem State.pairRuns_get_other (s : State) {a : Nat} {f : Field} (hisl : f.off ≠ R.PWR_ISL_STATE) (hvote : f.off ≠ (F.PWR_VOTEn_CLIENTS (1 + a)).off)
    (hred : f.off ∉ [R.PWR_RED_STAT, R.PWR_EVT]) (hreason : f.off ∉ [F.SYS_START_START_REASON.off, F.SYS_REASON_REASON.off]) (failed spare : Bool) :
    (s.pairRuns a failed spare).get f = s.get f := by
  rw [State.pairRuns, State.startIslands_get_other _ hisl (fun i hi => by rw [List.mem_singleton.mp hi]; exact hvote)]
  cases failed <;> cases spare <;> simp [State.get_redLoss_other, State.startReason_get_other, hred, hreason]

/-- PWR_PAIR's state of a pair in phase 3: active, retired, or one that may yet stand by (log entry 147). -/
def pairState (retired active : Bool) : Nat := if active then 0 else if retired then 3 else 2

/-- Phase 3 with pair `a` in use, given which pairs may run and whether one failed its self-test. -/
def State.pairChosen (s : State) (a : Nat) (failed spare : Bool) : State :=
  (s.pairShown a (pairState s.fuses.retireA (a == 0)) (pairState s.fuses.retireB (a == 1)) spare).pairRuns a failed spare

theorem State.choosePair_eq (s : State) (passA passB : Bool) : s.choosePair passA passB
    = if !(passA && !s.fuses.retireA) && !(passB && !s.fuses.retireB) then none
      else some (s.pairChosen (if passA && !s.fuses.retireA then 0 else 1) ((!passA && !s.fuses.retireA) || (!passB && !s.fuses.retireB))
        ((passA && !s.fuses.retireA) && (passB && !s.fuses.retireB))) := by
  simp only [State.choosePair, State.pairChosen, State.pairShown, State.pairRuns, pairState]

theorem State.pairShown_regsNet (s : State) (a stateA stateB : Nat) (spare : Bool) : s.pairShown a stateA stateB spare
    = { s with regs := (s.pairShown a stateA stateB spare).regs, net := { s.net with spareOk := spare } } := by
  simp only [State.pairShown, State.putFlag, State.put_eq]

theorem State.pairChosen_regsNet (s : State) (a : Nat) (failed spare : Bool) :
    s.pairChosen a failed spare = { s with regs := (s.pairChosen a failed spare).regs, net := (s.pairChosen a failed spare).net } := by
  rw [State.pairChosen, State.pairRuns_regsOnly, State.pairShown_regsNet]

theorem State.choosePair_regsNet {s p : State} {passA passB : Bool} (h : s.choosePair passA passB = some p) :
    p = { s with regs := p.regs, net := p.net } := by
  rw [State.choosePair_eq] at h
  split at h
  · exact absurd h (by simp)
  · rw [← Option.some.inj h]
    exact s.pairChosen_regsNet _ _ _

/-- Pair A is taken where it passes. -/
theorem State.choosePair_of_A {s : State} (h : s.fuses.retireA = false) (passB : Bool) :
    s.choosePair true passB = some (s.pairChosen 0 (!passB && !s.fuses.retireB) (passB && !s.fuses.retireB)) := by
  rw [State.choosePair_eq, h]
  simp

/-- Pair B is taken where pair A failed its self-test. -/
theorem State.choosePair_of_B {s : State} (hA : s.fuses.retireA = false) (hB : s.fuses.retireB = false) :
    s.choosePair false true = some (s.pairChosen 1 true false) := by
  rw [State.choosePair_eq, hA, hB]
  rfl

theorem State.pairChosen_A_shown (s : State) (failed spare : Bool) :
    let p := s.pairChosen 0 failed spare
    p.get F.PWR_PAIR_ACTIVE = 0 ∧ p.get F.PWR_PAIR_A_STATE = 0 ∧ p.get F.SYS_STAT_ACTIVE_PAIR = 0 := by
  refine ⟨?_, ?_, ?_⟩
  all_goals
    simp (disch := decide) only [State.pairChosen, State.pairShown, State.pairRuns_get_other, State.putFlag, State.get_withNet,
      State.get_put_apart, State.get_put_same]
  all_goals rfl

theorem State.pairChosen_B_shown (s : State) :
    let p := s.pairChosen 1 true false
    p.get F.PWR_PAIR_ACTIVE = 1 ∧ p.get F.PWR_PAIR_B_STATE = 0 ∧ p.get F.SYS_START_START_REASON = 0x013B
      ∧ Nat.testBit (p.reg R.PWR_RED_STAT) 0 = true := by
  refine ⟨?_, ?_, ?_, ?_⟩
  · simp (disch := decide) only [State.pairChosen, State.pairShown, State.pairRuns_get_other, State.putFlag, State.get_withNet,
      State.get_put_apart, State.get_put_same]
    rfl
  · simp (disch := decide) only [State.pairChosen, State.pairShown, State.pairRuns_get_other, State.putFlag, State.get_withNet,
      State.get_put_same]
    rfl
  · rw [State.pairChosen, State.pairRuns, State.startIslands_get_other _ (by decide) (by decide)]
    exact (State.get_redLoss_other _ (by decide) 0).trans (State.startReason_shown _ _)
  · rw [State.pairChosen, State.pairRuns, State.startIslands_reg_other _ (by decide) (by decide)]
    exact State.redLoss_bit _ (by decide)

theorem State.finishTransition_of_none {s : State} (h : s.vault.transition = none) : s.finishTransition = s := by
  simp only [State.finishTransition, h]

section
variable {s : State} (hphase : s.mayPhase 3 = true) (hblow : s.keys.blow = none)
include hphase hblow

theorem fusesAndMemory_of_bad_bank (passA passB : Bool) : fusesAndMemory false passA passB s = s.enterRecovery .fuseEcc 0x0136 := by
  simp [fusesAndMemory, hphase, hblow]

theorem fusesAndMemory_of_no_pair : fusesAndMemory true false false s = (s.halt 0x013C true).refresh := by
  simp [fusesAndMemory, hphase, hblow, State.choosePair_none]

/-- In PROVISIONED to FIELD the start goes on to phase 4. -/
theorem fusesAndMemory_of_pair {passA passB : Bool} {p : State} (hp : s.choosePair passA passB = some p) (h0 : s.fuses.state ≠ 0)
    (h5 : s.fuses.state ≠ 5) (htrans : s.vault.transition = none) :
    fusesAndMemory true passA passB s = (p.refreshKeyStat.setPhase 4).refresh := by
  have hframe := State.choosePair_regsNet hp
  have hvault : p.vault.transition = none := by rw [hframe]; exact htrans
  have hfuses : p.refreshKeyStat.fuses = s.fuses := by
    rw [State.refreshKeyStat, State.put_fuses, State.putFlag_fuses, State.put_fuses, hframe]
  simp [fusesAndMemory, hphase, hblow, hp, State.finishTransition_of_none hvault, hfuses, h0, h5]

end

theorem fusesAndMemory_of_other_phase {s : State} (h : s.mayPhase 3 = false) (eccOk passA passB : Bool) :
    fusesAndMemory eccOk passA passB s = s := by simp [fusesAndMemory, h]

/-! ## Phase 4 (R70) -/

theorem firmware_of_other_phase {s : State} (h : s.mayPhase 4 = false) (readA readB readRecovery : Bool) :
    firmware readA readB readRecovery s = s := by simp [firmware, h]

/-- A slot that starts runs as the firmware, in phase 5. -/
theorem State.startSlot_phase (s : State) (k : Nat) : (s.startSlot k).phase = 5 := State.setPhase_phase _ (by decide)

/-! ## The obligation -/

/-- Settles O10: phase 2 by `State.rcChosen_shown`, phase 3 by the equation of `choosePair`, phase 4 by the branch of the slot chosen. -/
theorem startChoosesReferencePairAndFirmware : Obligations.StartChoosesReferencePairAndFirmware := by
  refine ⟨?crystal, ?rc, ?badBank, ?noPair, ?pair, ?pairA, ?pairB, ?slot, ?other⟩
  case crystal =>
    intro s hphase
    refine ⟨_, congrArg Host.Outcome.next (reference_of_crystal hphase), State.setPhase_phase _ (by decide), ?_, rfl, ?_, rfl⟩
    · refine State.flag_of_one ((State.setPhase_get_other _ (by decide) 3).trans ?_)
      exact State.get_put_same _ _ _ (by decide) (by decide)
    · intro off hoff
      simp only [List.mem_cons, List.not_mem_nil, or_false, not_or] at hoff
      obtain ⟨hstat, hprog, hpwr⟩ := hoff
      rw [State.setPhase_reg_other _ (by simp [hstat, hprog]), State.putFlag, State.reg_put_other _ hpwr, State.reg, State.reg]
  case rc =>
    intro s hphase
    obtain ⟨hpwr, hrf, htim, hreason, hred, hevt⟩ := s.rcChosen_shown
    have hget : ∀ {f : Field} {n : Nat}, f.off ∉ [R.SYS_STAT, R.SYS_START_PROG] → s.rcChosen.get f = n → (s.rcChosen.setPhase 3).get f = n :=
      fun hf h => (State.setPhase_get_other _ hf 3).trans h
    refine ⟨_, congrArg Host.Outcome.next (reference_of_rc hphase), State.setPhase_phase _ (by decide), State.flag_of_one (hget (by decide) hpwr),
      State.flag_of_one (hget (by decide) hrf), State.flag_of_one (hget (by decide) htim), hget (by decide) hreason, ?_,
      hget (by decide) hevt, ?_, ?_⟩
    · rw [State.setPhase_reg_other _ (by decide)]
      exact hred
    · rw [State.setPhase_pwr, s.rcChosen_frame]
    · rw [State.setPhase_eq, s.rcChosen_frame]
  case badBank => exact fun s a b hphase hblow => congrArg Host.Outcome.next (fusesAndMemory_of_bad_bank hphase hblow a b)
  case noPair => exact fun s hphase hblow => congrArg Host.Outcome.next (fusesAndMemory_of_no_pair hphase hblow)
  case pair =>
    intro s a b hphase hblow h0 h5 htrans hsome
    obtain ⟨p, hp⟩ := Option.isSome_iff_exists.mp hsome
    rw [hp, Option.getD_some]
    refine ⟨congrArg Host.Outcome.next (fusesAndMemory_of_pair hphase hblow hp h0 h5 htrans), ?_⟩
    rw [State.refresh_phase, State.setPhase_phase _ (by decide)]
  case pairA =>
    intro s b hA
    obtain ⟨hact, hstate, hshown⟩ := s.pairChosen_A_shown (!b && !s.fuses.retireB) (b && !s.fuses.retireB)
    rw [State.choosePair_of_A hA]
    exact ⟨rfl, hact, hstate, hshown, s.pairChosen_regsNet _ _ _⟩
  case pairB =>
    intro s hB hA
    obtain ⟨hact, hstate, hreason, hred⟩ := s.pairChosen_B_shown
    rw [State.choosePair_of_B hA hB]
    exact ⟨rfl, hact, hstate, hreason, hred, s.pairChosen_regsNet _ _ _⟩
  case slot =>
    intro s rb rr hphase o s1 c hruns
    refine ⟨congrArg Host.Outcome.next ?_, s1.startSlot_phase c, rfl⟩
    unfold firmware
    rw [if_neg (by rw [hphase]; decide)]
    exact if_pos hruns
  case other =>
    exact fun s e a b c h3 => ⟨congrArg Host.Outcome.next (fusesAndMemory_of_other_phase h3 e a b),
      fun h4 => congrArg Host.Outcome.next (firmware_of_other_phase h4 a b c)⟩

end Sys2Proof.Machine
end

section
/-! SUPPORT. The end of a start and the enable writes (R60 to R62, R77): what the work of the other subsystems leaves of SYS, and what a disable
and the end of phase 9 do. -/
namespace Sys2Proof.Machine

open Sys2Proof

/-! ## What the work of the other subsystems leaves of SYS -/

/-- The registers of the SYS block, what the start has done and means to enable, the fuses and the update stay as they are. -/
def State.sysKept (s t : State) : Prop :=
  (∀ off, off < 0x1000 → t.reg off = s.reg off) ∧ t.sys.nineDone = s.sys.nineDone ∧ t.sys.meant = s.sys.meant ∧ t.fuses = s.fuses
    ∧ t.update = s.update

theorem State.sysKept_refl (s : State) : s.sysKept s := ⟨fun _ _ => rfl, rfl, rfl, rfl, rfl⟩

namespace State.sysKept
variable {s t u : State} (h : s.sysKept t)
include h

theorem trans (h' : t.sysKept u) : s.sysKept u := by
  obtain ⟨hregs, hnine, hmeant, hfuses, hupd⟩ := h
  obtain ⟨hregs', hnine', hmeant', hfuses', hupd'⟩ := h'
  exact ⟨fun off ho => (hregs' off ho).trans (hregs off ho), hnine'.trans hnine, hmeant'.trans hmeant, hfuses'.trans hfuses, hupd'.trans hupd⟩

theorem setReg {off : Nat} (hoff : 0x1000 ≤ off) (v : Nat) : s.sysKept (t.setReg off v) := by
  obtain ⟨hregs, hrest⟩ := h
  exact ⟨fun o ho => (State.reg_setReg_other _ (by omega) _).trans (hregs o ho), hrest⟩

theorem put {f : Field} (hf : 0x1000 ≤ f.off) (v : Nat) : s.sysKept (t.put f v) := h.setReg hf _

theorem bump {f : Field} (hf : 0x1000 ≤ f.off) : s.sysKept (t.bump f) := h.put hf _

theorem event {f : Field} (hf : 0x1000 ≤ f.off) : s.sysKept (t.event f) := h.put hf _

theorem reason {x : Subsys} (hx : 0x1000 ≤ (reasonField x).off) (code : Nat) : s.sysKept (t.reason x code) := h.put hx _

theorem withSettings (v : Option (List (Nat × Nat))) : s.sysKept { t with sys := { t.sys with settingsUse := v } } := h

theorem withPwr (p : Power) : s.sysKept { t with pwr := p } := h

theorem withNet (n : Net) : s.sysKept { t with net := n } := h

theorem withTim (x : Tim) : s.sysKept { t with tim := x } := h

theorem withHif (x : Hif) : s.sysKept { t with hif := x } := h

theorem withTok (k : Tok) : s.sysKept { t with tok := k } := h

theorem withLf (x : Lf) : s.sysKept { t with lf := x } := h

theorem withRf (x : Rf) : s.sysKept { t with rf := x } := h

theorem withRng (x : Rng) : s.sysKept { t with rng := x } := h

theorem withRel (r : Rel) : s.sysKept { t with rel := r } := h

theorem withNfc (n : Nfc) : s.sysKept { t with nfc := n } := h

theorem withVault (v : Vault) : s.sysKept { t with vault := v } := h

theorem ite {c : Prop} [Decidable c] (hu : s.sysKept u) : s.sysKept (if c then t else u) := by
  split
  · exact h
  · exact hu

theorem foldl {β : Type} {l : List β} {f : State → β → State} (hf : ∀ (t : State) (x : β), s.sysKept t → s.sysKept (f t x)) :
    s.sysKept (l.foldl f t) := by
  induction l generalizing t with
  | nil => exact h
  | cons x l ih => exact ih (hf t x h)

theorem journal (type reason : Nat) (x : Subsys) (flags : Nat) (body : Bytes) : s.sysKept (t.journal type reason x flags body) := by
  obtain ⟨hregs, -⟩ := t.journal_work type reason x flags body
  have hlow : ∀ off ∈ entryRegs, 0x1000 ≤ off := by decide
  exact h.trans ⟨fun off ho => hregs off (fun hmem => absurd (hlow off hmem) (by omega)), by simp, by simp, by simp, by simp⟩

/-! ### Votes and islands -/

theorem setIsland (i v : Nat) : s.sysKept (t.setIsland i v) := by
  unfold State.setIsland
  split
  · exact h
  · exact h.setReg (by decide) _

theorem followShared : s.sysKept t.followShared := by
  obtain hsame | ⟨v, hset⟩ := t.followShared_cases
  · rwa [hsame]
  · rw [hset]
    exact h.setIsland 7 v

theorem setVote (c i : Nat) (b : Bool) : s.sysKept (t.setVote c i b) :=
  h.put (show 0x1000 ≤ 0x1040 + 4 * i by omega) _

theorem voteless (i : Nat) : s.sysKept (t.voteless i) := by
  unfold State.voteless
  split
  · exact ((h.put (by decide) _).put (by decide) _).put (by decide) _
  · exact h

theorem islandTo (i v : Nat) : s.sysKept (t.islandTo i v) := by
  have hset := h.setIsland i v
  unfold State.islandTo
  dsimp only
  split_ifs
  · exact hset.withTim _
  · exact hset.voteless i
  · exact hset

theorem beginDrop (i : Nat) : s.sysKept (t.beginDrop i) := by
  have hdown : ∀ u : State, s.sysKept u → s.sysKept (((u.islandTo i 1).voteless i).followShared) := fun u hu =>
    ((hu.islandTo i 1).voteless i).followShared
  unfold State.beginDrop
  dsimp only
  split_ifs
  · exact h.withPwr _
  · exact hdown _ (h.withPwr _)

theorem settle (i : Nat) : s.sysKept (t.settle i) := by
  unfold State.settle
  split_ifs
  · exact h
  · exact h.followShared
  · exact h
  · exact h.beginDrop i
  · exact (h.islandTo i 1).followShared
  · exact h

theorem withdrawVote (c i : Nat) : s.sysKept (t.withdrawVote c i) := by
  have hvote : ∀ (u : State) (p : Power), s.sysKept u → s.sysKept ((({ u with pwr := p } : State).setVote c i false).settle i) :=
    fun u p hu => ((hu.withPwr p).setVote c i false).settle i
  unfold State.withdrawVote
  dsimp only
  split_ifs
  · exact (hvote _ _ (h.withPwr _)).withPwr _
  · exact hvote _ _ (h.withPwr _)
  · exact (hvote _ _ h).withPwr _
  · exact hvote _ _ h

/-! ### Commands and learning -/

theorem deliver (tr : Transport) (src : Nat) (m : Bytes) : s.sysKept (t.deliver tr src m) := by
  have hplace : ∀ u : State, s.sysKept u → s.sysKept u.placeOut := fun u hu => by
    unfold State.placeOut
    split
    · exact hu
    · split
      · exact hu
      · exact ((hu.withHif _).setReg (by decide) _).put (by decide) _
  unfold State.deliver
  split
  · exact hplace _ (h.withHif _)
  · split
    · exact h.withHif _
    · exact h.withHif _

theorem finish (reason : Nat) (out : Bytes) : s.sysKept (t.finish reason out) := by
  have hnote : ∀ u : State, s.sysKept u → s.sysKept (if reason / 256 = 16 then u.reason .hif reason else u) := fun u hu =>
    (hu.reason (by decide) reason).ite hu
  unfold State.finish
  split
  · exact h
  · unfold State.answer
    exact (((hnote _ ((h.withHif _).put (by decide) _)).deliver _ _ _).setReg (by decide) _).put (by decide) _

theorem setLearn (l : Option Learn) : s.sysKept (t.setLearn l) := by
  unfold State.setLearn State.showLearn
  split
  · exact ((h.withTok _).put (by decide) _).setReg (by decide) _
  · exact ((h.withTok _).put (by decide) _).setReg (by decide) _

theorem endLearnCard : s.sysKept t.endLearnCard := by
  unfold State.endLearnCard
  split_ifs
  · exact (h.withNfc _).withdrawVote 0 12
  · exact h

/-! ### The release and the decisions on requests (R218 to R223) -/

theorem relLast (action code reason : Nat) : s.sysKept (t.relLast action code reason) := h.setReg (by decide) _

theorem relRefuse (code reason : Nat) : s.sysKept (t.relRefuse code reason) :=
  (((h.relLast 0 code reason).put (by decide) _).put (by decide) _).reason (by decide) _

theorem decide_ (action code slot : Nat) : s.sysKept (t.decide_ action code slot) := by
  have hevent := (h.relLast action code 0).put (f := F.REL_EVT_DECISION) (by decide) 1
  unfold State.decide_
  dsimp only
  split
  · exact hevent
  · exact hevent.withRel _

theorem journalRel (action code profile reason flags : Nat) : s.sysKept (t.journalRel action code profile reason flags) := h.journal _ _ _ _ _

theorem sendGrants (st : RelStart) : s.sysKept (t.sendGrants st) := by
  unfold State.sendGrants
  refine State.sysKept.foldl (h.withRel _) (fun u r hu => ?_)
  split
  · exact hu
  · unfold State.sendRole State.sendRoleTo
    split
    · exact hu
    · exact hu.withRel _

theorem endGrant (ok : Bool) (code slot : Nat) : s.sysKept (t.endGrant ok code slot) := by
  unfold State.endGrant
  split
  · exact (h.put (by decide) _).journalRel _ _ _ _ _
  · exact ((((h.put (by decide) _).put (by decide) _).put (by decide) _).reason (by decide) _).journalRel _ _ _ _ _

theorem grantStep (st : RelStart) : s.sysKept (t.grantStep st) := by
  have hseq : s.sysKept t.nextSeq.1 := (h.withVault _).setReg (by decide) _
  unfold State.grantStep
  dsimp only
  split
  · exact ((hseq.sendGrants _).withRel _).put (by decide) _
  · exact ((hseq.sendGrants _).withRel _).endGrant _ _ _

theorem setStart (x : Option RelStart) : s.sysKept (t.setStart x) := by
  unfold State.setStart
  dsimp only
  split
  · exact (h.withRel _).settle 14
  · exact h.withRel _

theorem restoreFor (i : Nat) : s.sysKept (t.restoreFor i) := by
  refine h.trans ⟨fun off _ => State.reg_of_regs (t.restoreFor_regs i) off, ?_⟩
  unfold State.restoreFor
  split <;> simp

theorem startRelease (code path : Nat) (o : TokOut) (profile : Nat) : s.sysKept (t.startRelease code path o profile) := by
  have hlast := fun r => (h.withRel r).relLast 4 code 0
  have hrefused := fun r => (h.withRel r).relRefuse code 0x090C
  unfold State.startRelease
  dsimp only
  generalize (match t.rel.start with | some x => _ | none => _ : Bool) = busy
  split_ifs
  · exact hlast _
  · exact (hrefused _).journalRel _ _ _ _ _
  · split
    · exact ((hlast _).grantStep _).setStart _
    · exact (hlast _).grantStep _
  · exact (hlast _).grantStep _
  · exact (((hlast _).withRel _).setStart _).restoreFor 14

theorem performRequest (rq : Request) : s.sysKept (t.performRequest rq) := by
  unfold State.performRequest
  split
  · have hprofile := fun v => h.setReg (off := R.REL_PROFILE) (by decide) v
    unfold State.decideStart
    dsimp only
    split
    · exact (hprofile _).startRelease _ _ _ _
    · exact hprofile _
  · exact h.decide_ _ _ _
  · split
    · exact h
    · exact h.relRefuse _ _

theorem retireSpent (path n : Nat) : s.sysKept (t.retireSpent path n) := by
  unfold State.retireSpent State.setSlot
  dsimp only
  split
  · exact ((h.withVault _).put (by decide) _).journal _ _ _ _ _
  · exact h

theorem confirmOut (slot action : Nat) (out : Nat × Nat) : s.sysKept (t.confirmOut slot action out) := by
  unfold State.confirmOut
  split
  · exact h
  · refine State.sysKept.retireSpent ?_ _ _
    unfold State.rkeOut
    dsimp only
    split
    · exact ((h.withTok _).journalRel _ _ _ _ _).decide_ _ _ _
    · exact ((h.withTok _).journalRel _ _ _ _ _).relRefuse _ _

theorem releaseIdle : s.sysKept t.releaseIdle := by
  unfold State.releaseIdle
  split
  · exact (h.withdrawVote 0 9).withdrawVote 0 10
  · exact h

theorem concludeRequest (id reason : Nat) : s.sysKept (t.concludeRequest id reason) := by
  unfold State.concludeRequest
  split
  · exact h
  · next rq _ =>
    split
    · exact h
    · dsimp only
      generalize hs1 : ({ t with tok := { t.tok with requests := t.tok.requests.filter (fun q => q.id != id) } } : State) = s1
      have h1 : s.sysKept s1 := hs1 ▸ h.withTok _
      have hdone : s.sysKept (match rq.confirm with
          | some (slot, action) => s1.confirmOut slot action (0, 0x090A)
          | none => if s1.enabled .rel then s1.performRequest rq else s1) := by
        split
        · exact h1.confirmOut _ _ _
        · exact (h1.performRequest rq).ite h1
      exact ((hdone.finish _ _).ite hdone).releaseIdle

theorem closeRequest (id reason : Nat) : s.sysKept (t.closeRequest id reason) := by
  unfold State.closeRequest State.updRequest
  exact (h.withTok _).concludeRequest id reason

/-! ### Results, the air and the reader -/

theorem publish (c : Computed) (journalReason : Nat) : s.sysKept (t.publish c journalReason) := by
  have hshown : s.sysKept (t.showRes c.res) :=
    h.foldl (fun u n hu => hu.setReg (show 0x1000 ≤ R.RNG_LASTn n by simp only [R.RNG_LASTn]; omega) _)
  have hbound : ∀ u : State, s.sysKept u →
      s.sysKept (if Nat.testBit c.res.flags 1 then u else (u.bump F.RNG_CNT_NO_BOUND).event F.RNG_EVT_NO_BOUND) := fun u hu =>
    hu.ite ((hu.bump (by decide)).event (by decide))
  have hrelay : ∀ u : State, s.sysKept u → s.sysKept (if c.relay then (u.bump F.RNG_RELAY_CNT_RELAY).event F.RNG_EVT_RELAY else u) :=
    fun u hu => ((hu.bump (by decide)).event (by decide)).ite hu
  have hall := hrelay _ (hbound _ ((hshown.bump (f := F.RNG_CNT_SESSIONS) (by decide)).event (f := F.RNG_EVT_RESULT) (by decide)))
  unfold State.publish
  dsimp only
  split
  · exact (hall.setReg (by decide) _).journal _ _ _ _ _
  · exact hall.journal _ _ _ _ _

theorem judge (id : Nat) (i : PolicyIn) : s.sysKept (t.judge id i) := by
  unfold State.judge
  split
  · exact h
  · dsimp only
    split
    · split
      · exact ((h.withSettings none).withTok _).confirmOut _ _ _
      · exact (h.withSettings none).withTok _
    · exact ((h.withSettings none).withTok _).journalRel _ _ _ _ _

theorem lfResult (x : Hold) (m : Member) : s.sysKept (t.lfResult x m) := by
  unfold State.lfResult State.judgeRes State.updRequest
  dsimp only
  exact ((((h.publish _ _).withSettings _).judge _ _).withSettings none |>.withTok _).concludeRequest _ _

theorem setHold (x : Option Hold) : s.sysKept (t.setHold x) := by
  unfold State.setHold
  exact (h.withLf _).put (by decide) _

theorem dropQueued : s.sysKept t.dropQueued := by
  unfold State.dropQueued
  exact h.withRf _

theorem refuseAttempt (prox slot cls res req code : Nat) : s.sysKept (t.refuseAttempt prox slot cls res req code) := by
  unfold State.refuseAttempt State.lastRefuse
  exact (h.setReg (by decide) _).journal _ _ _ _ _

theorem roundResults (x : Hold) : s.sysKept (x.members.foldl (fun (u : State) m => u.lfResult x m)
    (t.showRound 1 x.returned.length x.collided.length true)) := by
  refine State.sysKept.foldl ?_ (fun u m hu => hu.lfResult x m)
  exact (((h.put (by decide) _).put (by decide) _).put (by decide) _).put (by decide) _

theorem touch : s.sysKept t.touch := by
  unfold State.touch
  exact h.withPwr _

theorem endHold (reason : Nat) : s.sysKept (t.endHold reason) := by
  unfold State.endHold
  split
  · exact h
  · next x _ =>
    have hround := (h.roundResults x).ite (c := x.phase = .returns) h
    dsimp only
    generalize (if x.phase = .returns then _ else t : State) = s0 at hround ⊢
    have hfree := (hround.setHold none).dropQueued
    generalize (s0.setHold none).dropQueued = s1 at hfree ⊢
    exact (((hfree.withLf _).refuseAttempt _ _ _ _ _ _).ite (hfree.withLf _) |>.closeRequest _ _).touch

theorem endLearnStep (code : Nat) (out : Bytes) : s.sysKept (t.endLearnStep code out) := by
  have hcard := fun l => (((h.setLearn l).reason (x := .tok) (by decide) code).finish code out).endLearnCard
  unfold State.endLearnStep
  dsimp only
  generalize hs1 : (((t.setLearn _).reason .tok code).finish code out).endLearnCard = s1
  have h1 : s.sysKept s1 := hs1 ▸ hcard _
  exact (h1.endHold 0).ite h1

theorem endDetection (code : Nat) : s.sysKept (t.endDetection code) := by
  have hnote : ∀ u : State, s.sysKept u → s.sysKept (if code ≠ 0 then u.reason .nfc code else u) := fun u hu =>
    (hu.reason (by decide) code).ite hu
  have hmax : ∀ u : State, s.sysKept u → s.sysKept (if code = 0x0D07 then u.event F.NFC_EVT_CARD_MAX else u) := fun u hu =>
    (hu.event (by decide)).ite hu
  unfold State.endDetection
  split
  · exact h
  · dsimp only
    split
    · exact hmax _ (hnote _ ((h.withNfc _).withdrawVote 0 12))
    · exact (hmax _ (hnote _ ((h.withNfc _).withdrawVote 0 12))).closeRequest _ 0

theorem readerStop : s.sysKept t.readerStop := by
  unfold State.readerStop
  split
  · exact h
  · split
    · exact h.endLearnStep _ _
    · exact h.endDetection 0

theorem refreshRng : s.sysKept t.refreshRng := by
  unfold State.refreshRng
  exact (((((h.put (by decide) _).put (by decide) _).put (by decide) _).put (by decide) _).put (by decide) _).put (by decide) _

theorem dropOnAir : s.sysKept t.dropOnAir := by
  have hidle : ∀ u : State, s.sysKept u → s.sysKept u.rfIdle := fun u hu => by
    unfold State.rfIdle
    split_ifs
    · exact hu.put (by decide) _
    · exact hu.put (by decide) _
    · exact ((hu.put (by decide) _).put (by decide) _).put (by decide) _
    · exact hu.put (by decide) _
  unfold State.dropOnAir
  split
  · split
    · exact h
    · exact hidle _ (h.withRf _)
  · exact h

theorem of_eq (hregs : u.regs = t.regs) (hsys : u.sys = t.sys) (hfuses : u.fuses = t.fuses) (hupd : u.update = t.update) : s.sysKept u :=
  h.trans ⟨fun off _ => State.reg_of_regs hregs off, by rw [hsys], by rw [hsys], hfuses, hupd⟩

theorem dropSess (n : Nat) : s.sysKept (t.dropSess n) := by
  unfold State.dropSess State.dropJobs
  exact ((h.withNet _).withRng _).refreshRng

theorem restartRequests (ids : List Nat) : s.sysKept (t.restartRequests ids) := by
  unfold State.restartRequests
  extract_lets mine s1 held again s2
  have h1 : s.sysKept s1 := h.foldl (fun u x hu => hu.dropSess x.number)
  have h2 : s.sysKept s2 := (h1.setHold none).dropQueued.dropOnAir.ite h1
  clear_value s2
  exact (h2.of_eq rfl rfl rfl rfl).refreshRng

/-! ### What goes with a subsystem that goes down (R62) -/

theorem dueTakeover : s.sysKept t.dueTakeover := by
  unfold State.dueTakeover State.restartSessions
  exact ((h.withRf _).restartRequests _).ite h

theorem endTest : s.sysKept t.endTest := by
  unfold State.endTest
  exact (((h.withRf _).put (by decide) _).put (by decide) _).ite h

theorem abortExchange : s.sysKept t.abortExchange := by
  unfold State.abortExchange
  split
  · exact h
  · exact ((((h.withRng _).withRf _).withRng _).event (by decide)).withNet _

theorem stopPulse (n : Nat) : s.sysKept (t.stopPulse n) := by
  have hctl : 0x1000 ≤ (F.TIM_PULSEn_CTL_EN n).off ∧ 0x1000 ≤ (F.TIM_PULSEn_CTL_ARMED n).off := by
    constructor <;> exact Nat.le_add_right_of_le (by decide)
  have hstill := ((h.put hctl.1 0).put hctl.2 0).put (f := F.TIM_STAT_PULSE_RUN) (by decide)
  unfold State.stopPulse
  dsimp only
  split
  · exact (hstill _).withTim _
  · exact ((hstill _).withTim _).setVote 6 13 false

theorem downHook (x : Subsys) : s.sysKept (t.downHook x) := by
  cases x with
  | rf => exact (((h.withRf _).endTest).put (by decide) _).readerStop.dueTakeover
  | rng => exact h.abortExchange.refreshRng
  | tim => exact h.foldl (fun u n hu => hu.stopPulse n)
  | nfc => exact h.readerStop
  | _ => exact h

theorem downHooks (old : State) : s.sysKept (old.downHooks t) := by
  unfold State.downHooks
  exact h.foldl (fun u x hu => (hu.downHook x).ite hu)

end State.sysKept

/-! ## What a disable does -/

theorem State.refresh_enMap (s : State) : s.refresh.reg R.SYS_EN_MAP = s.reg R.SYS_EN_MAP := s.refresh_keeps.reg (by decide)

theorem State.refresh_sys (s : State) : s.refresh.sys.nineDone = s.sys.nineDone ∧ s.refresh.sys.meant = s.sys.meant := by
  have hfirst : ∀ t : State, t.firstReady.sys.nineDone = t.sys.nineDone ∧ t.firstReady.sys.meant = t.sys.meant := fun t => by
    unfold State.firstReady
    split
    · exact ⟨rfl, rfl⟩
    · exact ⟨rfl, rfl⟩
  unfold State.refresh
  dsimp only
  split_ifs <;> simp [hfirst]

/-- A subsystem that loses a dependency goes down, or nothing happens. -/
def State.dropIfBroken (s : State) (u : Subsys) : State :=
  if s.enabled u && !((subDeps u).all s.enabled) then (s.setEnabled u false).reason u 0x0223 else s

theorem State.dropDependants_eq (s : State) : s.dropDependants = tableOrder.foldl State.dropIfBroken s := rfl

theorem State.dropIfBroken_regsOnly (s : State) (u : Subsys) : s.dropIfBroken u = { s with regs := (s.dropIfBroken u).regs } := by
  unfold State.dropIfBroken
  split <;> rfl

theorem State.dropDependants_regsOnly (s : State) : s.dropDependants = { s with regs := s.dropDependants.regs } :=
  State.regsOnly_foldl State.dropIfBroken_regsOnly tableOrder s

theorem State.enabled_of_reg {s t : State} (h : t.reg R.SYS_EN_MAP = s.reg R.SYS_EN_MAP) (u : Subsys) : t.enabled u = s.enabled u := by
  rw [State.enabled, h, State.enabled]

theorem testBit_setBit_false {m n k : Nat} (hk : k ≤ 32) (h : Nat.testBit m n = false ∨ n = k) : Nat.testBit (setBit m k false) n = false := by
  have hlt : 2 ^ k < 2 ^ 33 := Nat.pow_lt_pow_right (by decide) (by omega)
  have hmask : 0x1FFFFFFFF - 2 ^ k = 2 ^ 33 - (2 ^ k + 1) := by omega
  rw [setBit, if_neg Bool.false_ne_true, hmask, Nat.testBit_and, Nat.testBit_two_pow_sub_succ hlt]
  obtain hclear | rfl := h
  · rw [hclear, Bool.false_and]
  · rw [Nat.testBit_two_pow_self, Bool.not_true, Bool.and_false, Bool.and_false]

theorem State.setEnabled_false_stays {s : State} {u x : Subsys} (h : s.enabled u = false ∨ u = x) : (s.setEnabled x false).enabled u = false := by
  have hx : subId x ≤ 32 := by cases x <;> decide
  rw [State.enabled, State.setEnabled, State.reg_setReg_same, Nat.testBit_mod_two_pow, testBit_setBit_false hx (h.imp id (congrArg subId)),
    Bool.and_false]

theorem State.dropIfBroken_stays {s : State} {u : Subsys} (h : s.enabled u = false) (x : Subsys) : (s.dropIfBroken x).enabled u = false := by
  have hreason : ((s.setEnabled x false).reason x 0x0223).enabled u = (s.setEnabled x false).enabled u :=
    State.enabled_of_reg (State.reg_put_other _ (by cases x <;> decide) _) u
  unfold State.dropIfBroken
  split
  · rw [hreason, State.setEnabled_false_stays (.inl h)]
  · exact h

theorem State.dropDependants_stays {s : State} {u : Subsys} (h : s.enabled u = false) : s.dropDependants.enabled u = false := by
  rw [State.dropDependants_eq]
  induction tableOrder generalizing s with
  | nil => exact h
  | cons x l ih => exact ih (State.dropIfBroken_stays h x)

theorem State.disabled_of_sysKept {s t : State} {u : Subsys} (h : s.sysKept t) (hu : s.enabled u = false) : t.enabled u = false :=
  (State.enabled_of_reg (h.1 R.SYS_EN_MAP (by decide)) u).trans hu

/-! ## Enable and disable writes (R60 to R62) -/

/-- A subsystem that is no longer meant to be enabled. -/
def State.unmean (s : State) (u : Subsys) : State := { s with sys := { s.sys with meant := setBit s.sys.meant (subId u) false } }

/-- A disable of an enabled subsystem: it goes down, and with it what depends on it. -/
def State.takeDown (s : State) (u : Subsys) : State := s.downHooks ((((s.unmean u).setEnabled u false).dropDependants).refresh)

section
variable {s : State} {u : Subsys}

theorem State.not_holding (h : s.phase = 0xA) : s.holdsEnables = false := by simp [State.holdsEnables, h]

/-- The writes that a start holds (R61). -/
theorem writes_held (h3 : 3 ≤ s.phase) (h9 : s.phase ≤ 9) (hnine : s.sys.nineDone = false) :
    enableWrite u s = { s with sys := { s.sys with held := s.sys.held ++ [(u, true)] } }
      ∧ disableWrite u s = { s with sys := { s.sys with held := s.sys.held ++ [(u, false)] } } := by
  have hheld : s.holdsEnables = true := by simp [State.holdsEnables, h3, h9, hnine]
  have hstart : ¬ (s.phase < 3 || s.phase = 0xC || s.phase = 0xE) = true := by simp; omega
  exact ⟨by rw [enableWrite, if_neg hstart, if_pos hheld], by rw [disableWrite, if_neg hstart, if_pos hheld]⟩

theorem enableWrite_decided (h : s.phase = 0xA) : enableWrite u s
    = if s.enabled u || s.sys.checks.contains u then s else { s with sys := { s.sys with checks := s.sys.checks ++ [u] } } := by
  rw [enableWrite, if_neg (by simp [h]), if_neg (by simp [State.not_holding h])]

theorem disableWrite_decided (h : s.phase = 0xA) : disableWrite u s
    = if immobiliserPath.contains u then s.reason u 0x0227
      else if s.sys.checks.contains u then ({ s with sys := { s.sys with checks := s.sys.checks.erase u } }).reason u 0x0228
      else if !s.enabled u then (s.unmean u).refresh else s.takeDown u := by
  rw [disableWrite, if_neg (by simp [h]), if_neg (by simp [State.not_holding h])]
  rfl

end

/-- What a disable of an enabled subsystem leaves: it is down and not meant to be up. -/
theorem State.takeDown_spec (s : State) (u : Subsys) : (s.takeDown u).enabled u = false ∧ Nat.testBit (s.takeDown u).sys.meant (subId u) = false
    ∧ (s.takeDown u).sys.nineDone = s.sys.nineDone ∧ (s.takeDown u).fuses = s.fuses ∧ (s.takeDown u).update = s.update := by
  have hid : subId u ≤ 32 := by cases u <;> decide
  have hdown : ((s.unmean u).setEnabled u false).enabled u = false := State.setEnabled_false_stays (.inr rfl)
  have hmeans : Nat.testBit ((s.unmean u).setEnabled u false).sys.meant (subId u) = false := testBit_setBit_false hid (.inr rfl)
  have hkept : ((s.unmean u).setEnabled u false).sys.nineDone = s.sys.nineDone ∧ ((s.unmean u).setEnabled u false).fuses = s.fuses
      ∧ ((s.unmean u).setEnabled u false).update = s.update := ⟨rfl, rfl, rfl⟩
  unfold State.takeDown
  generalize (s.unmean u).setEnabled u false = s1 at hdown hmeans hkept ⊢
  obtain ⟨hnine₁, hfuses₁, hupd₁⟩ := hkept
  have hframe := s1.dropDependants_regsOnly
  have hsys : s1.dropDependants.sys = s1.sys := by rw [hframe]
  obtain ⟨hnine₂, hmeant₂⟩ := s1.dropDependants.refresh_sys
  have hhooks : s1.dropDependants.refresh.sysKept (s.downHooks s1.dropDependants.refresh) := (State.sysKept_refl _).downHooks s
  have hstays := State.disabled_of_sysKept hhooks
    ((State.enabled_of_reg s1.dropDependants.refresh_enMap u).trans (State.dropDependants_stays hdown))
  obtain ⟨-, hnine, hmeant, hfuses, hupd⟩ := hhooks
  refine ⟨hstays, ?_, ?_, ?_, ?_⟩
  · rw [hmeant, hmeant₂, hsys, hmeans]
  · rw [hnine, hnine₂, hsys, hnine₁]
  · rw [hfuses, State.refresh_fuses, hframe, hfuses₁]
  · rw [hupd, State.refresh_update, hframe, hupd₁]

theorem enableWrite_nineDone (s : State) (u : Subsys) : (enableWrite u s).sys.nineDone = s.sys.nineDone := by
  unfold enableWrite
  split_ifs <;> rfl

theorem disableWrite_nineDone (s : State) (u : Subsys) : (disableWrite u s).sys.nineDone = s.sys.nineDone := by
  obtain ⟨-, -, hdown, -⟩ := s.takeDown_spec u
  obtain ⟨hstill, -⟩ := (s.unmean u).refresh_sys
  unfold disableWrite
  split_ifs
  · rfl
  · rfl
  · rfl
  · rfl
  · exact hstill
  · exact hdown

theorem State.runHeld_nineDone (s : State) : s.runHeld.sys.nineDone = true := by
  have hrun : ∀ (l : List (Subsys × Bool)) (t : State), t.sys.nineDone = true →
      (l.foldl (fun (t : State) x => if x.2 then enableWrite x.1 t else disableWrite x.1 t) t).sys.nineDone = true := fun l => by
    induction l with
    | nil => exact fun t ht => ht
    | cons x l ih =>
      refine fun t ht => ih _ ?_
      dsimp only
      split
      · rw [enableWrite_nineDone, ht]
      · rw [disableWrite_nineDone, ht]
  exact hrun s.sys.held _ rfl

/-! ## The end of phase 9 (R77) -/

theorem State.withdrawVote_vault (s : State) (c i : Nat) : (s.withdrawVote c i).vault = s.vault := by
  unfold State.withdrawVote
  dsimp only
  split_ifs <;> simp

/-- The state in which phase 9 has ended, before the votes of the start are withdrawn. -/
def State.nineEnded (s : State) : State := ((s.setPhase 0xA).event F.SYS_EVT_START_DONE).touch

theorem State.finishNine_ends {s : State} (h9 : s.phase = 9) (hnine : s.sys.nineDone = true) (hloading : s.net.loading = none)
    (hchecked : s.sys.readySeen = false ∨ s.sys.unchecked = []) :
    ∃ l : List Nat, s.finishNine = l.foldl (fun (t : State) i => t.withdrawVote 1 i) s.nineEnded := by
  have hends : ¬ (s.phase ≠ 9 || !s.sys.nineDone || s.net.loading.isSome || (s.sys.readySeen && !s.sys.unchecked.isEmpty)) = true := by
    obtain h | h := hchecked <;> simp [h9, hnine, hloading, h]
  rw [State.finishNine, if_neg hends]
  exact ⟨_, rfl⟩

theorem State.finishNine_waits {s : State} (h : s.net.loading.isSome = true ∨ (s.sys.readySeen = true ∧ s.sys.unchecked ≠ [])) :
    s.finishNine = s := by
  rw [State.finishNine, if_pos]
  obtain hloading | ⟨hready, hsome⟩ := h
  · simp [hloading]
  · simp [hready, hsome]

theorem State.nineEnded_shown (s : State) : s.nineEnded.phase = 0xA ∧ s.nineEnded.get F.SYS_EVT_START_DONE = 1
    ∧ s.nineEnded.reg R.SYS_START_PROG = 0 ∧ s.nineEnded.reg R.SYS_EN_MAP = s.reg R.SYS_EN_MAP := by
  have hregs : s.nineEnded.regs = ((s.setPhase 0xA).put F.SYS_EVT_START_DONE 1).regs := by rw [State.nineEnded, State.touch, State.event]
  rw [State.phase, State.get_of_regs hregs, State.get_of_regs hregs, State.reg_of_regs hregs, State.reg_of_regs hregs,
    State.get_put_apart _ _ _ _ (by decide) (by decide) (by decide), State.get_put_same _ _ _ (by decide) (by decide),
    State.reg_put_other _ (by decide), State.reg_put_other _ (by decide)]
  refine ⟨s.setPhase_phase (by decide), rfl, ?_, s.setPhase_enMap _⟩
  rw [State.setPhase, State.reg_setReg_same]
  rfl

theorem State.get_of_reg {s t : State} {f : Field} (h : t.reg f.off = s.reg f.off) : t.get f = s.get f := by
  rw [State.get, h, State.get]

/-- What the end of phase 9 shows and keeps. -/
theorem State.finishNine_spec {s : State} (h9 : s.phase = 9) (hnine : s.sys.nineDone = true) (hloading : s.net.loading = none)
    (hchecked : s.sys.readySeen = false ∨ s.sys.unchecked = []) :
    s.finishNine.phase = 0xA ∧ s.finishNine.get F.SYS_EVT_START_DONE = 1 ∧ s.finishNine.reg R.SYS_START_PROG = 0
      ∧ s.finishNine.fuses = s.fuses ∧ s.finishNine.vault = s.vault ∧ s.finishNine.reg R.SYS_EN_MAP = s.reg R.SYS_EN_MAP := by
  obtain ⟨l, hends⟩ := State.finishNine_ends h9 hnine hloading hchecked
  obtain ⟨hphase, hevent, hprog, hmap⟩ := s.nineEnded_shown
  obtain ⟨hregs, -, -, hfuses, -⟩ : s.nineEnded.sysKept s.finishNine :=
    hends ▸ (State.sysKept_refl _).foldl (fun u i hu => hu.withdrawVote 1 i)
  have hvault : ∀ (l : List Nat) (t : State), (l.foldl (fun (t : State) i => t.withdrawVote 1 i) t).vault = t.vault := fun l => by
    induction l with
    | nil => exact fun _ => rfl
    | cons i l ih => exact fun t => (ih _).trans (t.withdrawVote_vault 1 i)
  refine ⟨(State.get_of_reg (hregs _ (by decide))).trans hphase, (State.get_of_reg (hregs _ (by decide))).trans hevent,
    (hregs _ (by decide)).trans hprog, hfuses, ?_, (hregs _ (by decide)).trans hmap⟩
  rw [hends, hvault]
  rfl

/-! ## O12 -/

theorem consistencyCheck_of_head {s : State} {u : Subsys} {rest : List Subsys} (h : s.sys.checks = u :: rest) (env : Env) :
    consistencyCheck env s = (let s1 := ({ s with sys := { s.sys with checks := rest } }).checkNow env u
      (if s1.enabled u then s1.mean u else s1).refresh) := by
  rw [consistencyCheck, h]

theorem consistencyCheck_of_none {s : State} (h : s.sys.checks = []) (env : Env) : consistencyCheck env s = s := by
  rw [consistencyCheck, h]

theorem completion_of_done {s : State} (h : s.sys.nineDone = true) (env : Env) : completion env s = s := by
  rw [completion, if_pos (by simp [h])]

theorem not_immobiliserPath {u : Subsys} (h : u ∈ phaseNine) : immobiliserPath.contains u = false := by
  revert h
  cases u <;> decide

/-- Settles O12: the writes go branch by branch, a disable keeps what the work of the other subsystems cannot touch, and phase 9 ends with the
votes of the start withdrawn. -/
theorem startCompletesAndEnableWritesAreChecked : Obligations.StartCompletesAndEnableWritesAreChecked := by
  unfold Obligations.StartCompletesAndEnableWritesAreChecked
  refine ⟨fun s env hmay hnine => ?_, fun s env hdone => congrArg Host.Outcome.next (completion_of_done hdone env),
    fun s h9 hnine hloading hchecked => State.finishNine_spec h9 hnine hloading hchecked, fun s hwaits => State.finishNine_waits hwaits,
    State.runHeld_nineDone, fun s u hphase hoff hnone => congrArg Host.Outcome.next ?_, fun s u hphase hdone => congrArg Host.Outcome.next ?_,
    fun s u h3 h9 hnine => ?_, fun s u hphase hpath => congrArg Host.Outcome.next ?_, fun s u hphase hnine hpending => congrArg Host.Outcome.next ?_,
    fun s hphase hnone hon => ⟨s.takeDown .upd, congrArg Host.Outcome.next ?_, ?_⟩,
    fun s env u rest hchecks => congrArg Host.Outcome.next (consistencyCheck_of_head hchecks env),
    fun s env hchecks => congrArg Host.Outcome.next (consistencyCheck_of_none hchecks env)⟩
  · refine congrArg Host.Outcome.next ?_
    rw [completion, if_neg (by simp [hmay, hnine])]
  · rw [enableWrite_decided hphase, if_neg (by simp only [hoff, hnone]; decide)]
  · rw [enableWrite_decided hphase, if_pos (by rw [Bool.or_eq_true]; exact hdone)]
  · obtain ⟨hon, hoff⟩ := writes_held (u := u) h3 h9 hnine
    exact ⟨congrArg Host.Outcome.next hon, congrArg Host.Outcome.next hoff⟩
  · rw [disableWrite_decided hphase, if_pos (List.contains_iff_mem.mpr hpath)]
  · rw [disableWrite_decided hphase, not_immobiliserPath hnine, if_neg Bool.false_ne_true, if_pos hpending]
  · rw [disableWrite_decided hphase, not_immobiliserPath (by decide), hnone, hon]
    rfl
  · obtain ⟨hdown, hmeant, -, hfuses, hupd⟩ := s.takeDown_spec .upd
    exact ⟨hdown, hmeant, hfuses, hupd⟩

end Sys2Proof.Machine
end

section
/-! SUPPORT. Power failure, the NAND queue while nothing waits in it, scrub and the MT reservations (R67, R305 to R309, R320 to R322, R364). -/
namespace Sys2Proof.Machine

open Sys2Proof

/-! ## What the media keep of a power failure (R67, R308, R309) -/

theorem State.completeBlow_frame (s : State) : s.completeBlow = { s with
    fuses := s.completeBlow.fuses, keys := s.completeBlow.keys
    vault := { s.vault with bootEpoch := s.completeBlow.vault.bootEpoch, nonceHi := s.completeBlow.vault.nonceHi } } := by
  unfold State.completeBlow
  split
  · rfl
  · next b _ => cases b <;> rfl

theorem State.storeCapture_frame (s : State) (c : Capture) : s.storeCapture c = { s with
    regs := (s.storeCapture c).regs, nand := (s.storeCapture c).nand
    vault := { s.vault with mapDeltas := s.vault.mapDeltas + 10 } } := by
  unfold State.storeCapture
  dsimp only
  split <;> rfl

/-- The capture that a carried power failure programs. -/
def State.lastCapture (s : State) : State :=
  match s.sto.pendingCaps with
  | c :: _ => if s.nandUp then s.storeCapture { c with trailer := some (c.trailer.getD (zeros 256)) } else s
  | [] => s

theorem State.lastCapture_frame (s : State) : s.lastCapture = { s with
    regs := s.lastCapture.regs, nand := s.lastCapture.nand, vault := { s.vault with mapDeltas := s.lastCapture.vault.mapDeltas } } := by
  unfold State.lastCapture
  split
  · split
    · rw [State.storeCapture_frame]
    · rfl
  · rfl

theorem State.powerFailSave_eq (s : State) (mv us : Nat) : s.powerFailSave mv us = { s.lastCapture with vault := { s.lastCapture.vault with
    savedMt := s.lastCapture.vault.savedMt.write s.lastCapture.mt, clean := true, holdup := mv * 0x10000 + us % 0x10000
    lostCaps := s.lastCapture.vault.lostCaps ++ (s.sto.pendingCaps.drop (if s.nandUp then 1 else 0)).map (·.number) } } := rfl

theorem powerFail_carried {s : State} (h : s.pilot.vbatUp = true) (mv us : Nat) :
    powerFail none mv us s = (s.completeBlow.powerFailSave mv us).off := by
  simp only [powerFail, h, Bool.not_true, Bool.false_eq_true, if_false]

theorem powerFail_cut {s : State} (h : s.pilot.vbatUp = true) (c : PowerCut) (mv us : Nat) :
    powerFail (some c) mv us s = (({ s.completeBlow with vault := { s.completeBlow.vault with
      clean := false,
      lostCaps := s.completeBlow.vault.lostCaps ++ s.completeBlow.sto.pendingCaps.map (fun (x : Capture) => x.number) } }).leaveCut c).off := by
  simp only [powerFail, h, Bool.not_true, Bool.false_eq_true, if_false]

theorem powerFail_down {s : State} (h : s.pilot.vbatUp = false) (cut : Option PowerCut) (mv us : Nat) : powerFail cut mv us s = s := by
  simp only [powerFail, h, Bool.not_false, if_true]

/-- What a power failure that VHOLD carries leaves. -/
theorem powerFail_saves (s : State) (mv : Nat) {us : Nat} (hus : us < 0x10000) :
    let t := (s.completeBlow.powerFailSave mv us).off
    t.vault.clean = true ∧ t.vault.savedMt = s.vault.savedMt.write s.mt ∧ t.vault.holdup = mv * 0x10000 + us ∧ t.fuses = s.completeBlow.fuses
      ∧ t.regs = [] ∧ t.pilot = Pilot.reset ∧ t.hif = Hif.reset ∧ t.keys = Keys.reset ∧ t.sys = Sys.reset ∧ t.nor = s.nor ∧ t.tag = s.tag
      ∧ t.update = s.update ∧ t.vault.keyring = s.vault.keyring ∧ t.vault.slots = s.vault.slots ∧ t.vault.staging = s.vault.staging
      ∧ t.pending = s.pending ∧ t.mt = s.mt := by
  rw [State.powerFailSave_eq, Nat.mod_eq_of_lt hus, State.lastCapture_frame, State.completeBlow_frame]
  exact ⟨rfl, rfl, rfl, rfl, rfl, rfl, rfl, rfl, rfl, rfl, rfl, rfl, rfl, rfl, rfl, rfl, rfl⟩

theorem State.cutHead_frame (s : State) : s.cutHead = { s with vault := { s.vault with
    nextSeq := s.cutHead.vault.nextSeq, chain := s.cutHead.vault.chain } } := by
  unfold State.cutHead
  split
  · split <;> rfl
  · rfl

/-- What a power failure that VHOLD does not carry leaves. -/
theorem powerFail_cuts (s : State) (cut : PowerCut) (lost : List Nat) :
    let t := (({ s.completeBlow with vault := { s.completeBlow.vault with
      clean := false, lostCaps := lost } } : State).leaveCut cut).off
    t.vault.clean = false ∧ t.vault.savedMt = s.vault.savedMt ∧ t.nand = { s.nand with dies := t.nand.dies }
      ∧ (cut.headOld = false → t.vault.chain = s.vault.chain ∧ t.vault.nextSeq = s.vault.nextSeq) ∧ t.fuses = s.completeBlow.fuses ∧ t.regs = []
      ∧ t.vault.staging = s.vault.staging := by
  rw [State.leaveCut, State.completeBlow_frame]
  dsimp only
  cases hold : cut.headOld with
  | false => exact ⟨rfl, rfl, rfl, fun _ => ⟨rfl, rfl⟩, rfl, rfl, rfl⟩
  | true =>
    rw [if_pos rfl, State.cutHead_frame]
    exact ⟨rfl, rfl, rfl, fun h => absurd h (by decide), rfl, rfl, rfl⟩

/-! ## The NAND queue while nothing waits in it (R305) -/

/-- A die without its turns (R305). -/
def Die.turnless (x : Die) : Die := { x with runs := [] }

@[simp] theorem Die.turnless_failed (x : Die) : x.turnless.failed = x.failed := rfl
@[simp] theorem Die.turnless_erased (x : Die) : x.turnless.erased = x.erased := rfl
@[simp] theorem Die.turnless_erases (x : Die) : x.turnless.erases = x.erases := rfl

/-- What serving leaves: everything but the turns of the dies. -/
def State.servedKept (s t : State) : Prop :=
  t = { s with nand := { s.nand with dies := t.nand.dies } } ∧ t.nand.dies.map Die.turnless = s.nand.dies.map Die.turnless

theorem State.servedKept_refl (s : State) : s.servedKept s := ⟨rfl, rfl⟩

theorem State.servedKept.trans {s t u : State} (h : s.servedKept t) (h' : t.servedKept u) : s.servedKept u := by
  obtain ⟨hframe, hdies⟩ := h
  obtain ⟨hframe', hdies'⟩ := h'
  refine ⟨?_, hdies'.trans hdies⟩
  rw [hframe', hframe]

theorem State.served_servedKept (s : State) (d c : Nat) : s.servedKept (s.served d c) := by
  refine ⟨rfl, ?_⟩
  rw [State.served, State.setDie, State.die, List.map_set]
  by_cases hd : d < s.nand.dies.length
  · have hmap : d < (s.nand.dies.map Die.turnless).length := by rwa [List.length_map]
    rw [List.getD_eq_getElem _ _ hd]
    refine (congrArg ((s.nand.dies.map Die.turnless).set d) ?_).trans (List.set_getElem_self hmap)
    rw [List.getElem_map]
    rfl
  · rw [List.set_eq_of_length_le (by simpa using hd)]

theorem State.servedOn_servedKept (s : State) (dies : List Nat) (c : Nat) : s.servedKept (s.servedOn dies c) := by
  unfold State.servedOn
  induction dies generalizing s with
  | nil => exact s.servedKept_refl
  | cons d dies ih => exact (s.served_servedKept d c).trans (ih _)

theorem State.servedKept.nandWrites {s t : State} (h : s.servedKept t) : t.nandWrites = s.nandWrites := by
  obtain ⟨hframe, hdies⟩ := h
  have hall : t.nand.dies.all (·.failed) = s.nand.dies.all (·.failed) := by
    simpa only [List.all_map, Function.comp_def, Die.turnless_failed] using congrArg (fun l : List Die => l.all (·.failed)) hdies
  have hregs : t.regs = s.regs := by rw [hframe]
  have hvault : t.vault = s.vault := by rw [hframe]
  have hupd : t.upd = s.upd := by rw [hframe]
  simp only [State.nandWrites, State.nandUp, hall, hvault, hupd, State.enabled, State.flag, State.get, State.reg, hregs]

/-- A state whose NAND queue holds one request. -/
def State.withQueued (s : State) (r : StoReq) : State := { s with sto := { s.sto with queue := [r] } }

/-- A slice that waits alone waits for no class above its own. -/
theorem State.waits_slice_alone {s : State} (h : s.sto.queue = []) {k : Nat} (hk : k < 5) (d : Nat) (pages : List PageFact)
    (aged : Nat) (ends : Bool) :
    (s.withQueued (.slice pages aged ends)).waits d k = s.waits d k := by
  have hclass : (5 == k) = false := by rw [beq_eq_false_iff_ne]; omega
  have hqueue : (s.withQueued (.slice pages aged ends)).sto.queue.any (fun r => (s.withQueued (.slice pages aged ends)).reqClassSto r == k
      && ((s.withQueued (.slice pages aged ends)).reqDies r).contains d && (s.withQueued (.slice pages aged ends)).rateFree r) = false := by
    simp [State.withQueued, State.reqClassSto, hclass]
  rw [State.waits, hqueue, State.waits, h]
  rfl

theorem State.dieTurn_lowest (s : State) (d : Nat) : s.dieTurn d 5
    = (decide (32 ≤ s.runsOf d 5) || (!s.waits d 0 && (!s.waits d 1 && (!s.waits d 2 && (!s.waits d 3 && !s.waits d 4))))) := by
  simp [State.dieTurn, List.range_succ]

/-- A slice that waits alone takes its slots as if it did not wait. -/
theorem State.takes_slice_alone {s : State} (h : s.sto.queue = []) (pages : List PageFact) (aged : Nat) (ends : Bool) :
    (s.withQueued (.slice pages aged ends)).takes (.slice pages aged ends) = s.takes (.slice pages aged ends) := by
  have hturn : ∀ d, (s.withQueued (.slice pages aged ends)).dieTurn d 5 = s.dieTurn d 5 := fun d => by
    simp only [State.dieTurn_lowest, State.waits_slice_alone h (by decide : 0 < 5), State.waits_slice_alone h (by decide : 1 < 5),
      State.waits_slice_alone h (by decide : 2 < 5), State.waits_slice_alone h (by decide : 3 < 5), State.waits_slice_alone h (by decide : 4 < 5)]
    rfl
  exact congrArg (fun f => s.diesUp.all f) (funext hturn)

theorem State.request_eq {s : State} (h : s.sto.queue = []) (r : StoReq) : s.request r = stoTurns 1 (s.withQueued r) := by
  rw [State.request, h]
  rfl

theorem State.request_of_taken {s : State} {r : StoReq} (h : s.sto.queue = []) (ht : (s.withQueued r).takes r = true) :
    s.request r = s.serve r := by
  have hfind : (s.withQueued r).sto.queue.find? (s.withQueued r).takes = some r := by
    rw [show (s.withQueued r).sto.queue = [r] from rfl, List.find?_cons_of_pos ht]
  have hempty : [r].erase r = s.sto.queue := by rw [List.erase_cons_head, h]
  rw [State.request_eq h, stoTurns, hfind]
  dsimp only
  rw [show (s.withQueued r).sto.queue = [r] from rfl, hempty]
  rfl

theorem State.request_of_waiting {s : State} {r : StoReq} (h : s.sto.queue = []) (ht : (s.withQueued r).takes r = false) :
    s.request r = s.withQueued r := by
  have hfind : (s.withQueued r).sto.queue.find? (s.withQueued r).takes = none := by
    rw [show (s.withQueued r).sto.queue = [r] from rfl, List.find?_cons_of_neg (by rw [ht]; decide), List.find?_nil]
  rw [State.request_eq h, stoTurns, hfind]

/-! ## Scrub slices and garbage collection (R320 to R322) -/

/-- The state in which a slice begins: every die in use has served it. -/
def State.sliceStart (s : State) : State := s.servedOn s.diesUp 5

theorem State.serve_slice (s : State) (pages : List PageFact) (aged : Nat) (ends : Bool) : s.serve (.slice pages aged ends)
    = if s.sliceStart.nandWrites then s.sliceStart.scrubSlice pages aged ends else s.sliceStart := rfl

theorem scrubRefresh_alone {s : State} (hw : s.nandWrites = true) (pages : List PageFact) (aged : Nat) (ends : Bool) :
    scrubRefresh pages ⟨aged, []⟩ ends s = s.request (.slice pages aged ends) := by
  rw [scrubRefresh, hw]
  rfl

/-- A slice whose slots are free ends the pass that runs. -/
theorem scrubRefresh_ends {s : State} {pages : List PageFact} {aged : Nat} (hw : s.nandWrites = true) (hq : s.sto.queue = [])
    (ht : s.takes (.slice pages aged true) = true) (hpass : s.sto.scrubPos.isSome = true) :
    scrubRefresh pages ⟨aged, []⟩ true s = (let u := pages.foldl scrubPage (s.sliceStart.foldMap.bumpBy F.STO_CNT_REFRESHED aged)
      { u with sto := { u.sto with scrubPos := none, scrubMt := u.mt } }) := by
  have hkept : s.servedKept s.sliceStart := s.servedOn_servedKept s.diesUp 5
  have hsto : s.sliceStart.sto = s.sto := by
    obtain ⟨hframe, -⟩ := hkept
    rw [hframe]
  have hdue : ¬ (!(s.sliceStart.sto.scrubPos.isSome
      || decide (s.sliceStart.sto.scrubMt + s.sliceStart.setting 0x0C01 7 * dayUs ≤ s.sliceStart.mt))) = true := by
    rw [hsto, hpass]
    simp
  rw [scrubRefresh_alone hw, State.request_of_taken hq ((State.takes_slice_alone hq _ _ _).trans ht), State.serve_slice, hkept.nandWrites, hw,
    if_pos rfl, State.scrubSlice, if_neg hdue, if_pos rfl]

theorem scrubRefresh_waits {s : State} {pages : List PageFact} {aged : Nat} {ends : Bool} (hw : s.nandWrites = true) (hq : s.sto.queue = [])
    (ht : s.takes (.slice pages aged ends) = false) :
    scrubRefresh pages ⟨aged, []⟩ ends s = s.withQueued (.slice pages aged ends) := by
  rw [scrubRefresh_alone hw, State.request_of_waiting hq ((State.takes_slice_alone hq _ _ _).trans ht)]

theorem scrubRefresh_down {s : State} (hw : s.nandWrites = false) (pages : List PageFact) (b : ScrubBlocks) (ends : Bool) :
    scrubRefresh pages b ends s = s := by
  rw [scrubRefresh, hw]
  rfl

/-- What a slice without pages leaves: the blocks it refreshed, the map folded, the pass ended. -/
theorem State.sliceStart_aged (s : State) (aged : Nat) :
    let u := s.sliceStart.foldMap.bumpBy F.STO_CNT_REFRESHED aged
    let t : State := { u with sto := { u.sto with scrubPos := none, scrubMt := u.mt } }
    t.get F.STO_CNT_REFRESHED = min (s.get F.STO_CNT_REFRESHED + aged) (2 ^ (F.STO_CNT_REFRESHED.hi + 1 - F.STO_CNT_REFRESHED.lo) - 1)
      ∧ t.sto = { s.sto with scrubPos := none, scrubMt := s.mt } ∧ keepsFields s t [F.STO_CNT_REFRESHED]
      ∧ t.nand = { s.nand with dies := t.nand.dies, mapFolded := s.nand.mapFolded + s.vault.mapDeltas }
      ∧ t.vault = { s.vault with mapDeltas := 0 } ∧ t = { s with regs := t.regs, sto := t.sto, nand := t.nand, vault := t.vault } := by
  obtain ⟨hframe, -⟩ : s.servedKept s.sliceStart := s.servedOn_servedKept s.diesUp 5
  intro u t
  have hregs : t.regs = (s.put F.STO_CNT_REFRESHED (min (s.get F.STO_CNT_REFRESHED + aged) 255)).regs := by
    simp only [t, u]
    rw [hframe]
    rfl
  refine ⟨?_, ?_, ?_, ?_, ?_, ?_⟩
  · rw [State.get_of_regs hregs, State.get_put_same _ _ _ (by decide) (by decide)]
    exact Nat.mod_eq_of_lt (Nat.lt_of_le_of_lt (Nat.min_le_right _ _) (by decide))
  · simp only [t, u]
    rw [hframe]
    rfl
  · exact keepsFields_of_regs (keepsFields_put (keepsFields_refl s _) (by decide) (by decide) _) hregs
  · simp only [t, u]
    rw [hframe]
    rfl
  · simp only [t, u]
    rw [hframe]
    rfl
  · simp only [t, u]
    rw [hframe]
    rfl

theorem State.die_setDie_same (s : State) {d : Nat} (h : d < s.nand.dies.length) (x : Die) : (s.setDie d x).die d = x := by
  simp [State.die, State.setDie, h]

theorem State.servedKept.die {s t : State} (h : s.servedKept t) (d : Nat) : (t.die d).turnless = (s.die d).turnless := by
  obtain ⟨-, hdies⟩ := h
  exact (List.getD_map _ _ Die.turnless).symm.trans ((congrArg (fun l : List Die => l.getD d _) hdies).trans (List.getD_map _ _ Die.turnless))

theorem State.servedKept.length {s t : State} (h : s.servedKept t) : t.nand.dies.length = s.nand.dies.length := by
  obtain ⟨-, hdies⟩ := h
  simpa only [List.length_map] using congrArg List.length hdies

/-- Garbage collection gains an erased block (R323). -/
theorem State.serve_collect (s : State) {d : Nat} (h : d < s.nand.dies.length) :
    ((s.serve (.collect d)).die d).erased = (s.die d).erased + 1 ∧ ((s.serve (.collect d)).die d).erases = (s.die d).erases + 1 := by
  obtain ⟨t, hserve, hkept⟩ : ∃ t : State, s.serve (.collect d) = t.collectBlock d ∧ s.servedKept t := ⟨_, rfl, s.servedOn_servedKept _ _⟩
  have herased : (t.die d).erased = (s.die d).erased := by simpa using congrArg Die.erased (hkept.die d)
  have herases : (t.die d).erases = (s.die d).erases := by simpa using congrArg Die.erases (hkept.die d)
  rw [hserve, State.collectBlock, State.die_setDie_same _ (by rwa [hkept.length])]
  exact ⟨congrArg (· + 1) herased, congrArg (· + 1) herases⟩

theorem State.reqClassSto_collect (s : State) (d : Nat) : s.reqClassSto (.collect d) = 2 ↔ (s.die d).erased < 64 := by
  rw [State.reqClassSto]
  split
  · next h => exact ⟨fun _ => h, fun _ => rfl⟩
  · next h => exact ⟨fun h5 => absurd h5 (by decide), fun hlow => absurd hlow h⟩

/-! ## The MT reservation (R364) -/

theorem State.reserveMt_ok {s : State} (h : s.vaultUp = true) : s.reserveMt true = { s with
    vault := { s.vault with savedMt := s.vault.savedMt.write (s.mt + 16777216) }
    sto := { s.sto with mtRes := s.mt + 16777216, resvRetry := none } } := by
  simp only [State.reserveMt, h, Bool.and_self, if_true]

theorem State.reserveMt_failed (s : State) : s.reserveMt false
    = (({ s with sto := { s.sto with resvRetry := some (s.mt + 1000000) } }).reason .tim 0x040C).event F.TIM_EVT_RESV_FAIL := rfl

theorem State.reserveVoted_awake {s : State} (h : s.pwr.standby = false) (ok : Bool) : s.reserveVoted ok = s.reserveMt ok := by
  simp only [State.reserveVoted, h, Bool.false_eq_true, if_false]

theorem mtReservation_due {s : State} (hdue : s.sto.mtRes ≤ s.mt + 8388608) (hphase : 6 ≤ s.phase) (ok : Bool) :
    exec (.mtReservation ok) s = .next (s.reserveVoted ok) := by
  have hnow : ¬ (s.mt + 8388608 < s.sto.mtRes || s.phase < 6) = true := by simp; omega
  exact congrArg Host.Outcome.next (if_neg hnow)

theorem mtReservationRetry_due {s : State} {r : Nat} (hretry : s.sto.resvRetry = some r) (hdue : r ≤ s.mt) (ok : Bool) :
    exec (.mtReservationRetry ok) s = .next (s.reserveVoted ok) := by
  refine congrArg Host.Outcome.next ?_
  rw [hretry]
  exact if_pos hdue

/-- What a failed reservation write shows. -/
theorem State.reserveMt_failed_spec (s : State) :
    (s.reserveMt false).get F.TIM_REASON_REASON = 0x040C ∧ (s.reserveMt false).get F.TIM_EVT_RESV_FAIL = 1
      ∧ (s.reserveMt false).sto = { s.sto with resvRetry := some (s.mt + 1000000) } ∧ keepsRegs s (s.reserveMt false) [R.TIM_REASON, R.TIM_EVT]
      ∧ s.reserveMt false = { s with regs := (s.reserveMt false).regs, sto := (s.reserveMt false).sto } := by
  rw [State.reserveMt_failed]
  refine ⟨?_, State.get_put_same _ _ _ (by decide) (by decide), rfl, ?_, rfl⟩
  · exact (State.get_put_apart _ _ _ _ (by decide) (by decide) (by decide)).trans (State.get_put_same _ _ _ (by decide) (by decide))
  · exact keepsRegs_put (keepsRegs_put (keepsRegs_refl s _) (by decide) _) (by decide) _

/-! ### The reservation in STANDBY: a vote for the storage island -/

theorem State.activePair_lt (s : State) : s.activePair < 2 := Nat.mod_lt _ (by decide)

theorem State.votes_of_reg {s t : State} {i : Nat} (h : t.reg (0x1040 + 4 * i) = s.reg (0x1040 + 4 * i)) : t.votes i = s.votes i := by
  rw [State.votes, State.get, State.votes, State.get, show (F.PWR_VOTEn_CLIENTS i).off = 0x1040 + 4 * i from rfl, h]

theorem State.setVote_votes_same (s : State) (c i : Nat) (b : Bool) : (s.setVote c i b).votes i = setBit (s.votes i) c b % 2 ^ 9 :=
  State.get_put_same _ _ _ (by decide : (0 : Nat) ≤ 8) (by decide : (8 : Nat) < 32)

theorem State.voteInEntry_regs (s : State) {c : Nat} (h : c ≤ 2) (i : Nat) : (s.voteInEntry c i).regs = s.regs := by
  unfold State.voteInEntry
  split
  · rfl
  · rw [if_pos h, State.endEntry_regs]

/-- The votes on the storage island stand. -/
def State.storageVotesKept (s t : State) : Prop := t.votes 11 = s.votes 11

theorem State.followShared_storageVotes (s : State) : s.storageVotesKept s.followShared := by
  obtain ⟨-, hregs, -⟩ := s.followShared_frame
  exact State.votes_of_reg (hregs _ (by decide))

theorem State.voteless_storageVotes (s : State) (i : Nat) : s.storageVotesKept (s.voteless i) := by
  unfold State.storageVotesKept State.voteless
  split
  · refine State.votes_of_reg ?_
    rw [State.rfState, State.synLock, State.synLock, State.putFlag, State.putFlag, State.reg_put_other _ (by decide),
      State.reg_put_other _ (by decide), State.reg_put_other _ (by decide)]
  · rfl

theorem State.islandTo_doze_storageVotes (s : State) (i : Nat) : s.storageVotesKept (s.islandTo i 1) := by
  have hdoze : s.islandTo i 1 = s.setIsland i 1 := by simp [State.islandTo]
  rw [State.storageVotesKept, hdoze]
  exact State.votes_of_reg (s.reg_setIsland_other (by decide) i 1)

theorem State.beginDrop_storageVotes (s : State) (i : Nat) : s.storageVotesKept (s.beginDrop i) := by
  have hdown : ∀ t : State, t.storageVotesKept (((t.islandTo i 1).voteless i).followShared) := fun t =>
    ((State.followShared_storageVotes _).trans (State.voteless_storageVotes _ i)).trans (t.islandTo_doze_storageVotes i)
  unfold State.beginDrop
  dsimp only
  split_ifs
  · exact State.votes_of_regs rfl 11
  · exact (hdown _).trans (State.votes_of_regs rfl 11)

theorem State.settle_storageVotes (s : State) (i : Nat) : s.storageVotesKept (s.settle i) := by
  unfold State.settle
  split_ifs
  · rfl
  · exact s.followShared_storageVotes
  · rfl
  · exact s.beginDrop_storageVotes i
  · exact (State.followShared_storageVotes _).trans (s.islandTo_doze_storageVotes i)
  · rfl

theorem State.withdrawVote_storageVotes (s : State) : (s.withdrawVote 0 11).votes 11 = setBit (s.votes 11) 0 false % 2 ^ 9 := by
  have hsettled : ∀ p : Power, ((({ s with pwr := p } : State).setVote 0 11 false).settle 11).votes 11 = setBit (s.votes 11) 0 false % 2 ^ 9 :=
    fun p => (State.settle_storageVotes _ 11).trans (State.setVote_votes_same _ 0 11 false)
  unfold State.withdrawVote
  dsimp only
  rw [if_neg (by decide : ¬ (0 : Nat) = 3)]
  split
  · exact (State.votes_of_regs rfl 11).trans (hsettled _)
  · exact hsettled _

theorem State.withdrawVote_sto (s : State) (c i : Nat) : (s.withdrawVote c i).sto = s.sto := by
  unfold State.withdrawVote
  dsimp only
  split_ifs <;> simp

/-- The active pair's vote on the storage island, which is neither its own island nor that of the standby pair. -/
theorem State.raiseVote_storage (s : State) : (s.raiseVote 0 11 false).votes 11 = setBit (s.votes 11) 0 true % 2 ^ 9 := by
  have hmay : s.mayHold 0 11 = true := rfl
  have hown : ∀ t : State, ¬ 11 = 1 + t.activePair := fun t h => by
    have hlt := t.activePair_lt
    omega
  have hraised : ∀ p : Power, (((({ s with pwr := p } : State).setVote 0 11 true).beginRestore 11).voteInEntry 0 11).votes 11
      = setBit (s.votes 11) 0 true % 2 ^ 9 := fun p => by
    rw [State.votes_of_regs (State.voteInEntry_regs _ (by decide) 11), State.votes_of_regs (State.beginRestore_regs _ 11)]
    exact State.setVote_votes_same _ 0 11 true
  unfold State.raiseVote
  rw [hmay, if_neg (by decide)]
  extract_lets rest pwr1 s1 s2 pwr2 lf2 s3
  have hvoted : s3.votes 11 = setBit (s.votes 11) 0 true % 2 ^ 9 := by
    simp only [s3]
    split
    · exact (State.votes_of_reg (State.reg_put_other _ (f := F.PWR_EVT_STBY_EXIT) (by decide) 1)).trans (hraised _)
    · exact hraised _
  rw [if_neg (by simp [hown])]
  exact hvoted

theorem testBit_setBit_other {m n k : Nat} (b : Bool) (hn : n < 33) (hk : n ≠ k) (hk33 : k < 33) :
    Nat.testBit (setBit m k b) n = Nat.testBit m n := by
  have hpow : Nat.testBit (2 ^ k) n = false := Nat.testBit_two_pow_of_ne (Ne.symm hk)
  have hlt : 2 ^ k < 2 ^ 33 := Nat.pow_lt_pow_right (by decide) hk33
  cases b with
  | true => rw [setBit, if_pos rfl, Nat.testBit_or, hpow, Bool.or_false]
  | false =>
    have hmask : 0x1FFFFFFFF - 2 ^ k = 2 ^ 33 - (2 ^ k + 1) := by omega
    rw [setBit, if_neg Bool.false_ne_true, hmask, Nat.testBit_and, Nat.testBit_two_pow_sub_succ hlt, hpow, decide_eq_true hn, Bool.not_false,
      Bool.and_true, Bool.and_true]

/-- A vote of client 0 that is raised and withdrawn leaves the votes of the others. -/
theorem votes_without_first {v : Nat} (h : v < 2 ^ 9) : setBit (setBit v 0 true % 2 ^ 9) 0 false % 2 ^ 9 = v / 2 * 2 := by
  refine Nat.eq_of_testBit_eq (fun i => ?_)
  rw [Nat.testBit_mod_two_pow]
  cases i with
  | zero =>
    rw [testBit_setBit_false (by decide) (.inr rfl)]
    simp
  | succ i =>
    have hhalf : Nat.testBit (v / 2 * 2) (i + 1) = Nat.testBit v (i + 1) := by
      rw [Nat.testBit_succ, Nat.testBit_succ, Nat.mul_div_cancel _ (by decide)]
    by_cases hi : i + 1 < 9
    · rw [decide_eq_true hi, Bool.true_and, hhalf, testBit_setBit_other _ (by omega) (by omega) (by decide), Nat.testBit_mod_two_pow,
        decide_eq_true hi, Bool.true_and, testBit_setBit_other _ (by omega) (by omega) (by decide)]
    · rw [decide_eq_false hi, Bool.false_and, hhalf]
      exact (Nat.testBit_lt_two_pow (Nat.lt_of_lt_of_le h (Nat.pow_le_pow_right (by decide) (by omega)))).symm

/-- In STANDBY a reservation is written under the active pair's vote for the storage island. -/
theorem State.reserveVoted_standby {s : State} (h : s.pwr.standby = true) (hup : s.vaultUp = true) :
    (s.reserveVoted true).vault = { s.vault with savedMt := s.vault.savedMt.write (s.mt + 16777216) }
      ∧ (s.reserveVoted true).sto = { s.sto with mtRes := s.mt + 16777216, resvRetry := none }
      ∧ (s.reserveVoted true).votes 11 = s.votes 11 / 2 * 2 := by
  have hraised := s.raiseVote_storage
  have hmt := s.raiseVote_mt 0 11 false
  have hvault := s.raiseVote_vault 0 11 false
  have hsto := s.raiseVote_sto 0 11 false
  rw [State.reserveVoted, if_pos h]
  generalize s.raiseVote 0 11 false = u at hraised hmt hvault hsto ⊢
  have huup : u.vaultUp = true := by rw [State.vaultUp, hvault, ← State.vaultUp, hup]
  have hvotes : s.votes 11 < 2 ^ 9 := Nat.mod_lt _ (by decide)
  have hreserved : (u.reserveMt true).votes 11 = u.votes 11 := by
    rw [State.reserveMt_ok huup]
    exact State.votes_of_regs rfl 11
  rw [State.withdrawVote_vault, State.withdrawVote_sto, State.withdrawVote_storageVotes, hreserved, hraised, votes_without_first hvotes,
    State.reserveMt_ok huup, hmt, hvault, hsto]
  exact ⟨rfl, rfl, rfl⟩

/-! ## O39 -/

/-- Settles O39: each sequence rewritten to the state it leaves; a slice that waits alone has its slot exactly when it has it unqueued, and the vote
of a reservation in STANDBY leaves those of the other clients. -/
theorem powerFailAndScrub : Obligations.PowerFailAndScrub := by
  unfold Obligations.PowerFailAndScrub
  refine ⟨fun s mv us hup => ⟨_, congrArg Host.Outcome.next (powerFail_carried hup _ _), powerFail_saves s _ us.isLt⟩,
    fun s mv us cut hup => ⟨_, congrArg Host.Outcome.next (powerFail_cut hup cut _ _), powerFail_cuts s cut _⟩,
    fun s cut mv us hdown => congrArg Host.Outcome.next (powerFail_down hdown cut _ _), fun _ => rfl,
    fun s aged hw hq ht hpass => ⟨_, congrArg Host.Outcome.next (scrubRefresh_ends hw hq ht hpass), s.sliceStart_aged aged⟩,
    fun s p hw hq ht hpass => congrArg Host.Outcome.next (scrubRefresh_ends hw hq ht hpass),
    fun s pages b ends hw => congrArg Host.Outcome.next (scrubRefresh_down hw pages b ends),
    fun s pages aged ends hw hq ht => congrArg Host.Outcome.next (scrubRefresh_waits hw hq ht), fun s d hd => s.serve_collect hd,
    fun s d => s.reqClassSto_collect d, fun s hdue hphase hup hawake => ?_, fun s hdue hphase hup hstandby => ?_, fun s hdue hphase hawake => ?_,
    fun s r hretry hdue hup hawake => ?_⟩
  · rw [mtReservation_due hdue hphase, State.reserveVoted_awake hawake, State.reserveMt_ok hup]
  · exact ⟨_, mtReservation_due hdue hphase true, State.reserveVoted_standby hstandby hup⟩
  · refine ⟨_, mtReservation_due hdue hphase false, ?_⟩
    rw [State.reserveVoted_awake hawake]
    exact s.reserveMt_failed_spec
  · rw [mtReservationRetry_due hretry hdue, State.reserveVoted_awake hawake, State.reserveMt_ok hup]

end Sys2Proof.Machine
end

section
/-! SUPPORT. Lockout and suspension of slots (R95, R114): what a counted failure makes of a slot's record, when a lock has run out, and what moves a
slot between ACTIVE and SUSPENDED. -/
namespace Sys2Proof.Machine

open Sys2Proof

/-! ## The failures of a slot (R114) -/

theorem lockUs_pos {level : Nat} (h : 1 ≤ level) : 0 < lockUs level := by
  unfold lockUs
  split <;> omega

/-- A failure of this instant is one of the last 10 min. -/
theorem recentFails_now (fails : List Nat) (mt : Nat) : recentFails (recentFails fails mt ++ [mt]) mt = recentFails fails mt ++ [mt] := by
  simp [recentFails, tenMin]

theorem Slot.settle_of_unlocked {x : Slot} (h : x.locked = false) (mt : Nat) : x.settle mt = x := by simp [Slot.settle, h]

theorem Slot.settle_during_lock {x : Slot} {mt : Nat} (h : mt < x.lockEnd) : x.settle mt = x := by
  have hend : ¬ x.lockEnd ≤ mt := by omega
  simp [Slot.settle, hend]

theorem Slot.settle_after_lock {x : Slot} {mt : Nat} (h : x.locked = true) (hend : x.lockEnd ≤ mt) :
    x.settle mt = { x with locked := false, fails := [], held := 0 } := by simp [Slot.settle, h, hend]

theorem PathRec.settle_of_unlocked {x : PathRec} (h : x.locked = false) (mt : Nat) : x.settle mt = x := by simp [PathRec.settle, h]

theorem PathRec.settle_after_lock {x : PathRec} {mt : Nat} (h : x.locked = true) (hend : x.lockEnd ≤ mt) :
    x.settle mt = { x with locked := false, fails := [], held := 0 } := by simp [PathRec.settle, h, hend]

theorem Slot.fail_during_lock {x : Slot} {mt : Nat} (h : x.locked = true) (hend : mt < x.lockEnd) : x.fail mt = x := by
  rw [Slot.fail, Slot.settle_during_lock hend, if_pos h]

theorem Slot.fail_eighth {x : Slot} {mt : Nat} (h : x.locked = false) (h7 : (recentFails x.fails mt).length = 7) :
    x.fail mt = { x with
      fails := recentFails x.fails mt ++ [mt], locked := true, level := min 5 (x.level + 1), held := 8
      lockEnd := mt + lockUs (min 5 (x.level + 1)) } := by
  simp [Slot.fail, Slot.settle_of_unlocked h, h, h7]

theorem Slot.fail_before_eighth {x : Slot} {mt : Nat} (h : x.locked = false) (h7 : (recentFails x.fails mt).length < 7) :
    x.fail mt = { x with fails := recentFails x.fails mt ++ [mt] } := by
  have h8 : ¬ 8 ≤ (recentFails x.fails mt ++ [mt]).length := by simp; omega
  simp only [Slot.fail, Slot.settle_of_unlocked h, h, if_neg h8]
  rfl

/-- While a lock lasts the count is the one with which it began. -/
theorem Slot.count_during_lock {x : Slot} {mt : Nat} (h : x.locked = true) (hend : mt < x.lockEnd) : x.count mt = x.held := by
  simp [Slot.count, Slot.settle_during_lock hend, h]

theorem Slot.count_of_unlocked {x : Slot} (h : x.locked = false) (mt : Nat) : x.count mt = (recentFails x.fails mt).length := by
  simp [Slot.count, Slot.settle_of_unlocked h, h]

/-! ## Lock expiry and the age of failures (R114) -/

theorem lockExpiry_slot {s : State} {i : Nat} (hi : i < 64) : lockExpiry i s = s.setSlot i ((s.slot i).settle s.mt) := if_pos hi

theorem lockExpiry_path {s : State} {i : Nat} (hi : 64 ≤ i) : lockExpiry i s = s.setPath (i - 64) ((s.pathRec (i - 64)).settle s.mt) :=
  if_neg (by omega)

theorem failureAgeOut_slot {s : State} {i : Nat} (hi : i < 64) (h : (s.slot i).locked = false) :
    failureAgeOut i s = s.setSlot i { s.slot i with fails := recentFails (s.slot i).fails s.mt } := by
  simp [failureAgeOut, hi, Slot.settle_of_unlocked h, h]

theorem failureAgeOut_path {s : State} {i : Nat} (hi : 64 ≤ i) (h : (s.pathRec (i - 64)).locked = false) :
    failureAgeOut i s = s.setPath (i - 64) { s.pathRec (i - 64) with fails := recentFails (s.pathRec (i - 64)).fails s.mt } := by
  have hi' : ¬ i < 64 := by omega
  simp [failureAgeOut, hi', PathRec.settle_of_unlocked h, h]

/-! ## Suspend and resume (R95) -/

theorem slotStateOp_moves {source target n : Nat} {s : State} (hn : n ≤ 63) (h : (s.slot n).state = source) :
    slotStateOp source target n s
      = (let u := s.setSlot n { s.slot n with state := target }
        mbOk (u.journal 0x0801 (if target = 2 then 0x0802 else 0) .tok 0 (u.authBody 0 n (s.slot n).tid (s.slot n).ctr 0xFF)) (toLE 1 target)) := by
  rw [slotStateOp, if_neg (by simp [h]; omega)]

theorem slotStateOp_refuses {source n : Nat} {s : State} (h : (s.slot n).state ≠ source) (target : Nat) :
    slotStateOp source target n s = mbRefuse s 0x081D := by
  rw [slotStateOp, if_pos (by simp [h])]

/-! ## O16 -/

/-- Settles O16: the eighth failure is the one that finds seven recent ones; a lock ends by `settle`; the two commands share one operation. -/
theorem slotsLockAndSuspend : Obligations.SlotsLockAndSuspend := by
  unfold Obligations.SlotsLockAndSuspend
  refine ⟨fun x mt h h7 => ?_, fun x mt => Slot.fail_during_lock, fun x mt h h7 => ?_,
    fun s i hi _ hl hend => congrArg Host.Outcome.next ((lockExpiry_slot hi).trans (by rw [Slot.settle_after_lock hl hend])),
    fun s i hi hl hend => congrArg Host.Outcome.next ((lockExpiry_path hi).trans (by rw [PathRec.settle_after_lock hl hend])),
    fun s i hi h => congrArg Host.Outcome.next (failureAgeOut_slot hi h), fun s i hi h => congrArg Host.Outcome.next (failureAgeOut_path hi h),
    fun s n hready hn h => next_mailboxCommand hready (slotStateOp_moves hn h),
    fun s n hready hn h => next_mailboxCommand hready (slotStateOp_moves hn h),
    fun s n hready h => next_mailboxCommand hready (slotStateOp_refuses (s := s.begun 0x0806 _) h 1)⟩
  · have hlock := lockUs_pos (level := min 5 (x.level + 1)) (by omega)
    rw [Slot.fail_eighth h h7]
    exact ⟨rfl, rfl, rfl, Slot.count_during_lock rfl (Nat.lt_add_of_pos_right hlock)⟩
  · have hfail := Slot.fail_before_eighth h h7
    have hopen : (x.fail mt).locked = false := by rw [hfail]; exact h
    have hfails : (x.fail mt).fails = recentFails x.fails mt ++ [mt] := by rw [hfail]
    refine ⟨hopen, ?_⟩
    rw [Slot.count_of_unlocked hopen, hfails, recentFails_now, List.length_append, List.length_singleton]

end Sys2Proof.Machine
end

section
/-! SUPPORT. The learning session (R89 to R91, R93): what opens it, how its commit takes force or waits, and what ends it. -/
namespace Sys2Proof.Machine

open Sys2Proof

/-! ## What shows a session -/

theorem State.showLearn_regsOnly (s : State) : s.showLearn = { s with regs := s.showLearn.regs } := by
  unfold State.showLearn
  split
  · rfl
  · rfl

theorem State.setLearn_frame (s : State) (l : Option Learn) :
    s.setLearn l = { s with regs := (s.setLearn l).regs, tok := { s.tok with learn := l } } := State.showLearn_regsOnly _

@[simp] theorem State.refreshKeys_tok (s : State) : s.refreshKeys.tok = s.tok := by
  unfold State.refreshKeys
  dsimp only
  split <;> simp

@[simp] theorem State.refreshKeys_keys (s : State) : s.refreshKeys.keys = s.keys := by
  unfold State.refreshKeys
  dsimp only
  split <;> simp

/-! ## LEARN_OPEN (R89, R91) -/

theorem State.touchLearn_of_none {s : State} (h : s.tok.learn = none) : s.touchLearn = s := by
  have hsame : s.tok.learn.map (fun (l : Learn) => { l with lastMt := s.mt }) = s.tok.learn := by rw [h]; rfl
  rw [State.touchLearn, hsame]

/-- An open session refuses another, whatever the authorisation. -/
theorem learnOpenOp_of_open {s : State} {auth : Bytes} (hserv : s.inService = true) (hlen : auth.length = s.authLen)
    (hopen : s.tok.learn.isSome = true) (n : Nat) : learnOpenOp n auth s = mbFail s.touchLearn .tok 0x0810 := by
  have hserv' : s.touchLearn.inService = true := hserv
  have hlen' : auth.length = s.touchLearn.authLen := hlen
  have hopen' : s.touchLearn.tok.learn.isSome = true := by simpa [State.touchLearn] using hopen
  simp [learnOpenOp, hserv', hlen', hopen']

section
variable {s : State} {n : Nat} {auth : Bytes} (hserv : s.inService = true) (hlen : auth.length = s.authLen) (hnone : s.tok.learn = none)
  (hauth : (s.checkAuth 0 (toLE 1 n) auth).2 = 0) (h1 : 1 ≤ n) (h64 : n ≤ 64)
include hserv hlen hnone hauth h1 h64

/-- What an authorised LEARN_OPEN for a number of tokens within its range still turns on: the last KSN, and a generation in preparation. -/
theorem learnOpenOp_authorised : learnOpenOp n auth s = (let t := (s.checkAuth 0 (toLE 1 n) auth).1
    if t.vault.ksn = 0xFFFF then mbFail t .tok 0x081B
    else if t.prepReason ≠ 0 then mbFail t .tok t.prepReason
    else mbOk (((({ t with keys := { t.keys with prep := .learning } }).setLearn (some ⟨n, [], t.mt, none⟩)).refreshKeys).reason .tok 0)
      (toLE 2 t.newKsn)) := by
  have h0 : ¬ n = 0 := by omega
  have h64' : ¬ 64 < n := by omega
  simp [learnOpenOp, State.touchLearn_of_none hnone, hserv, hlen, hnone, hauth, h0, h64']

theorem learnOpenOp_opens (hksn : (s.checkAuth 0 (toLE 1 n) auth).1.vault.ksn ≠ 0xFFFF)
    (hprep : (s.checkAuth 0 (toLE 1 n) auth).1.prepReason = 0) : learnOpenOp n auth s = (let t := (s.checkAuth 0 (toLE 1 n) auth).1
    mbOk (((({ t with keys := { t.keys with prep := .learning } }).setLearn (some ⟨n, [], t.mt, none⟩)).refreshKeys).reason .tok 0)
      (toLE 2 (t.vault.ksn + 1))) := by
  rw [learnOpenOp_authorised hserv hlen hnone hauth h1 h64]
  dsimp only
  rw [if_neg hksn, if_neg (not_not.mpr hprep)]
  rfl

theorem learnOpenOp_of_last_ksn (hksn : (s.checkAuth 0 (toLE 1 n) auth).1.vault.ksn = 0xFFFF) :
    learnOpenOp n auth s = mbFail (s.checkAuth 0 (toLE 1 n) auth).1 .tok 0x081B := by
  rw [learnOpenOp_authorised hserv hlen hnone hauth h1 h64]
  exact if_pos hksn

end

/-! ## LEARN_COMMIT (R90, R93) -/

/-- A set whose generation was written takes force: its keys, its slots and the next KSN. -/
theorem State.commitSet_written {s : State} {l : Learn} {ok : Bool} {c : State × Nat}
    (hc : c = { s with keys := { s.keys with prep := .none }, tok := { s.tok with commitWait := none } }.commitGen
      (s.ring.filter (fun (r : KeyRec) => r.kind != 2) ++ learnedKeys s.nextGen 0 l.tokens) ok) (h0 : c.2 = 0) :
    s.commitSet l ok = mbOk ((((((({ c.1 with
        vault := { c.1.vault with ksn := s.vault.ksn + 1, slots := l.tokens.map learnedSlot ++ List.replicate (64 - l.tokens.length) Slot.empty }
        tok := { c.1.tok with resync := [], accepted := [], confirms := [] } }).setLearn none).refreshSet).refreshKeys).event
          F.TOK_EVT_LEARN_DONE).reason .tok 0).keyEvent 0x0803 0) (toLE 2 (s.vault.ksn + 1) ++ toLE 1 l.tokens.length) := by
  subst hc
  exact if_neg (not_not.mpr h0)

section
variable {s : State} {l : Learn} (hlearn : s.touchLearn.tok.learn = some l)
include hlearn

theorem learnCommitOp_of_no_tokens (hempty : l.tokens = []) (ok : Bool) : learnCommitOp ok s = mbFail s.touchLearn .tok 0x081A := by
  simp [learnCommitOp, hlearn, hempty]

theorem learnCommitOp_at_once (htokens : l.tokens ≠ []) (hreq : s.tok.requests = []) (hsess : s.rng.sessions = []) (ok : Bool) :
    learnCommitOp ok s = s.touchLearn.commitSet l ok := by
  have hreq' : s.touchLearn.tok.requests = [] := hreq
  have hsess' : s.touchLearn.rng.sessions = [] := hsess
  simp [learnCommitOp, hlearn, htokens, hreq', hsess']

/-- A commit waits for the sessions in flight. -/
theorem learnCommitOp_waits (htokens : l.tokens ≠ []) (hflight : s.tok.requests ≠ [] ∨ s.rng.sessions ≠ []) (ok : Bool) :
    learnCommitOp ok s = ({ s.touchLearn with tok := { s.touchLearn.tok with commitWait := some (s.mt + 200000), commitOk := ok } },
      mbDeferred, []) := by
  have hwait : ¬ (s.touchLearn.tok.requests = [] ∧ s.touchLearn.rng.sessions = []) := not_and_or.mpr hflight
  simp only [learnCommitOp, hlearn, List.isEmpty_iff, htokens, Bool.and_eq_true, hwait, if_false]
  rfl

end

/-! ## The end of a session (R90) -/

theorem State.dropLearn_ends (s : State) :
    s.dropLearn.tok.learn = none ∧ s.dropLearn.keys.prep = .none ∧ s.dropLearn.tok.commitWait = none := by
  unfold State.dropLearn
  dsimp only
  generalize s.endLearnCard = u
  rw [State.event_tok, State.event_keys, State.refreshKeys_tok, State.refreshKeys_keys, State.setLearn_frame]
  refine ⟨rfl, ?_, ?_⟩
  · dsimp only
    split <;> rfl
  · dsimp only
    split <;> rfl

theorem learnAbandonOp_of_open {s : State} (h : s.tok.learn.isSome = true) : learnAbandonOp s = mbOk (s.dropLearn.reason .tok 0) [] := by
  rw [learnAbandonOp, if_neg (by simpa [Option.isSome_iff_ne_none] using h)]

theorem learnAbandonOp_of_none {s : State} (h : s.tok.learn = none) : learnAbandonOp s = mbFail s .tok 0x0811 := by
  rw [learnAbandonOp, if_pos (by rw [h]; rfl)]

theorem learnTimeout_of_none {s : State} (h : s.tok.learn = none) : learnTimeout s = s := by rw [learnTimeout, h]

section
variable {s : State} {l : Learn} (hlearn : s.tok.learn = some l)
include hlearn

theorem learnTimeout_due (h : l.lastMt + 1800000000 ≤ s.mt) : learnTimeout s = s.dropLearn.reason .tok 0x081C := by
  rw [learnTimeout, hlearn]
  exact if_neg (Nat.not_lt.mpr h)

theorem learnTimeout_early (h : s.mt < l.lastMt + 1800000000) : learnTimeout s = s := by
  rw [learnTimeout, hlearn]
  exact if_pos h

end

/-! ## O40 -/

/-- Settles O40: each command answered branch by branch; a command that touches an open session leaves its tokens, and no session is touched where
none is open. -/
theorem learningOpensCommitsAndEnds : Obligations.LearningOpensCommitsAndEnds := by
  unfold Obligations.LearningOpensCommitsAndEnds
  refine ⟨fun s n auth hready hserv hlen hnone hauth h1 h64 hksn hprep =>
      next_mailboxCommand hready (learnOpenOp_opens hserv hlen hnone hauth h1 h64 hksn hprep),
    fun s n auth hready hserv hlen hopen => next_mailboxCommand hready (learnOpenOp_of_open hserv hlen hopen _),
    fun s env l hready hlearn htokens hreq hsess hc =>
      next_mailboxCommand hready ((learnCommitOp_at_once hlearn htokens hreq hsess _).trans (State.commitSet_written rfl hc)),
    fun s env l hready hlearn htokens hflight =>
      congrArg Host.Outcome.next (mailboxCommand_defers _ _ _ _ _ _ (by decide) hready (learnCommitOp_waits hlearn htokens hflight _)),
    fun s env l hready hlearn hempty => next_mailboxCommand hready (learnCommitOp_of_no_tokens hlearn hempty _),
    fun s hready hopen => next_mailboxCommand hready (learnAbandonOp_of_open (s := s.begun 0x0804 []) hopen),
    fun s hready hnone => next_mailboxCommand hready (learnAbandonOp_of_none (s := s.begun 0x0804 []) hnone),
    State.dropLearn_ends, fun s l hlearn hdue => congrArg Host.Outcome.next (learnTimeout_due hlearn hdue),
    fun s l hlearn hearly => congrArg Host.Outcome.next (learnTimeout_early hlearn hearly),
    fun s hnone => congrArg Host.Outcome.next (learnTimeout_of_none hnone), rfl,
    fun s n auth hready hserv hlen hnone hauth h1 h64 hksn =>
      next_mailboxCommand hready (learnOpenOp_of_last_ksn hserv hlen hnone hauth h1 h64 hksn)⟩

end Sys2Proof.Machine
end

section
/-! SUPPORT. A token of a learning session (R92, R192, R258, Sequence 4-1): where LEARN_TOKEN reads its TID, what the answer to the TID read brings,
and how a KEYACK ends the step. -/
namespace Sys2Proof.Machine

open Sys2Proof

/-! ## Answers of an operation -/

/-- What a mailbox command leaves of what its operation yields: the answer at once, or with a later event. -/
def answered (r : MbRes) : State := if r.2.1 = mbDeferred then r.1 else r.1.finish r.2.1 r.2.2

theorem mailboxCommand_answered {opcode : Nat} {input : Bytes} {s : State} (h : s.mbReady opcode input) (op : State → MbRes)
    (ho : opcode < 65536 := by decide) : mailboxCommand opcode input op s = answered (op (s.begun opcode input)) :=
  mailboxCommand_runs opcode input op s ho h

theorem answered_fail {code : Nat} (h : code < 65536) (s : State) (u : Subsys) :
    answered (mbFail s u code) = (s.reason u code).finish code [] := if_neg (Nat.ne_of_lt h)

theorem answered_deferred (s : State) : answered (s, mbDeferred, []) = s := if_pos rfl

/-! ## Reasons are 16-bit codes, none the mark of a deferral -/

theorem State.learnBegin_error_lt {s : State} {record : Bytes} {e : Nat} (h : s.learnBegin record = .error e) : e < 65536 := by
  unfold State.learnBegin at h
  dsimp only at h
  repeat' split at h
  all_goals cases h
  all_goals decide

theorem State.pushLf_code_lt (s : State) (r : LfReq) : (s.pushLf r).2 < 65536 := by
  unfold State.pushLf
  split <;> simp

theorem State.raiseRequest_code_lt (s : State) (r : LfReq) : (s.raiseRequest r).2 < 65536 := by
  unfold State.raiseRequest
  split
  · simp
  · split
    · simp
    · exact s.pushLf_code_lt r

theorem State.readerBlocked_lt (s : State) : s.readerBlocked < 65536 := by
  unfold State.readerBlocked
  split_ifs <;> decide

/-! ## LEARN_TOKEN (R92) -/

theorem State.touchLearn_of_open {s : State} {l : Learn} (h : s.tok.learn = some l) :
    s.touchLearn = { s with tok := { s.tok with learn := some { l with lastMt := s.mt } } } := by
  rw [State.touchLearn, h]
  rfl

/-- The TID read at the LFT coil as a request for the air. -/
def learnReq : LfReq :=
  { code := 0x0B, cls := lfClass 0x0B true, lft := true, trig := false, host := false, learn := true, confirm := none }

/-- The session with the step of a token under way. -/
def State.learning (s : State) (l : Learn) (x : LearnStep) : State :=
  s.touchLearn.setLearn (some { l with lastMt := s.mt, current := some x })

theorem learnTokenOp_of_error {s : State} {record : Bytes} {e : Nat} (h : s.learnBegin record = .error e) (f : CardField) :
    learnTokenOp record f s = mbFail s.touchLearn .tok e := by rw [learnTokenOp, h]

theorem learnTokenOp_of_none {s : State} (h : s.tok.learn = none) (record : Bytes) (f : CardField) :
    learnTokenOp record f s = mbFail s .tok 0x0811 := by
  have herror : s.learnBegin record = .error 0x0811 := by simp [State.learnBegin, h]
  rw [learnTokenOp_of_error herror, State.touchLearn_of_none h]

section
variable {s : State} {l : Learn} {x : LearnStep} {record : Bytes} (hlearn : s.tok.learn = some l) (hx : s.learnBegin record = .ok x)
include hlearn hx

/-- A token of class F or T is read at the coil. -/
theorem learnTokenOp_at_coil (hcls : x.cls ≠ 2) (f : CardField) : answered (learnTokenOp record f s)
    = (let q := (s.learning l x).raiseRequest learnReq
      if q.2 = 0 then q.1 else (s.touchLearn.reason .tok q.2).finish q.2 []) := by
  have hop : learnTokenOp record f s = (let q := (s.learning l x).raiseRequest learnReq
      if q.2 ≠ 0 then mbFail s.touchLearn .tok q.2 else (q.1, mbDeferred, [])) := by
    rw [learnTokenOp, hx, State.learning, State.touchLearn_of_open hlearn]
    exact if_pos hcls
  rw [hop]
  dsimp only
  rw [apply_ite answered, answered_fail (State.raiseRequest_code_lt _ _), answered_deferred, ite_not]

/-- A token of class C is read at the reader antenna. -/
theorem learnTokenOp_at_reader (hcls : x.cls = 2) (f : CardField) : answered (learnTokenOp record f s)
    = (let s1 := s.touchLearn
      let u := s.learning l x
      if u.enabled .nfc = false then (s1.reason .tok 0x0131).finish 0x0131 []
      else if u.readerUp = false then (s1.reason .tok 0x0814).finish 0x0814 []
      else if u.readerBlocked ≠ 0 then ((s1.pollDeferred u.readerBlocked).reason .tok u.readerBlocked).finish u.readerBlocked []
      else if (u.resolve f).1 = [] then (s1.reason .tok 0x0814).finish 0x0814 []
      else u.startDetection f true) := by
  have hop : learnTokenOp record f s = (let s1 := s.touchLearn
      let u := s.learning l x
      if !u.enabled .nfc then mbFail s1 .tok 0x0131
      else if !u.readerUp then mbFail s1 .tok 0x0814
      else if u.readerBlocked ≠ 0 then mbFail (s1.pollDeferred u.readerBlocked) .tok u.readerBlocked
      else if (u.resolve f).1.isEmpty then mbFail s1 .tok 0x0814
      else (u.startDetection f true, mbDeferred, [])) := by
    rw [learnTokenOp, hx, State.learning, State.touchLearn_of_open hlearn]
    exact if_neg (not_not.mpr hcls)
  rw [hop]
  simp only [apply_ite answered, answered_fail (by decide : 0x0131 < 65536), answered_fail (by decide : 0x0814 < 65536),
    answered_fail (State.readerBlocked_lt _), answered_deferred, Bool.not_eq_true', List.isEmpty_iff]

end

/-! ## The TID read (R92, R258) -/

section
variable {s : State} {l : Learn} {x : LearnStep} {arsp : Bytes} (hlearn : s.tok.learn = some l) (hx : l.current = some x)
  (hloaded : x.loaded = false) (hlen : arsp.length = 18) (htype : u8 arsp 0 = 0x34) (htid : be arsp 2 4 = x.tid)
  (hcrypto : allZero (slice arsp 10 8) = true)
include hlearn hx

theorem State.learnStep_of_current : s.learnStep = some x := by rw [State.learnStep, hlearn]; exact hx

include hloaded hlen htype htid hcrypto

/-- The answer to the TID read turns on the entropy source alone. -/
theorem State.learnRead_of_answer : s.learnRead arsp = if s.entropyFailed then s.endLearnStep 0x0A0D [] else
    ((s.freshPr 32).tokSent (if x.cls = 2 then s.keyload x (s.drawnPr 32) else withCrc (s.keyload x (s.drawnPr 32)))).setLearn
      (some { l with current := some { x with ts := [], sk := s.drawnPr 32, loaded := true, sentMt := s.mt } }) := by
  simp [State.learnRead, hlearn, State.learnStep_of_current hlearn hx, hloaded, hlen, htype, htid, hcrypto]

end

/-! ## KEYACK (R92, R192) -/

section
variable {s : State} {l : Learn} {x : LearnStep} (hlearn : s.tok.learn = some l) (hx : l.current = some x) (hloaded : x.loaded = true)
include hlearn hx hloaded

/-- A KEYACK as it is verified: its form, its TID, its MAC, within 500 ms of the KEYLOAD. -/
theorem keyackReceive_good {frame arsp b : Bytes} {exchanges : List CalExchange} {t : State} {turn : Nat}
    (hbody : (if x.cls = 2 then some frame else crcGood frame) = some b) (hlen : b.length = 13) (htype : u8 b 0 = 0x32) (htid : be b 1 4 = x.tid)
    (hmac : slice b 5 8 = s.learnMac x 0x11 [] 8) (htime : s.mt ≤ x.sentMt + 500000) (hturn : s.learnTurn x arsp exchanges = (t, .ok turn))
    (hup : t.vaultUp = true) : keyackReceive frame arsp exchanges s = (t.setLearn (some { l with
      tokens := l.tokens ++ [⟨x.tid, x.typeId, x.cls, turn, x.sk⟩] })).commitPoint.endLearnStep 0 (toLE 1 t.learnSlot) := by
  simp [keyackReceive, hlearn, State.learnStep_of_current hlearn hx, hloaded, hbody, hlen, htype, htid, hmac, htime, hturn, hup]

theorem keyackReceive_bad_crc {frame : Bytes} (hcls : x.cls ≠ 2) (hcrc : crcGood frame = none) (arsp : Bytes) (exchanges : List CalExchange) :
    keyackReceive frame arsp exchanges s = s.endLearnStep 0x0815 [] := by
  simp [keyackReceive, hlearn, State.learnStep_of_current hlearn hx, hloaded, hcls, hcrc]

theorem keyackTimeout_due (hdue : x.sentMt + 500000 ≤ s.mt) : keyackTimeout s = s.endLearnStep 0x0815 [] := by
  simp [keyackTimeout, State.learnStep_of_current hlearn hx, hloaded, hdue]

end

theorem State.learnTurn_without_ranging {s : State} {x : LearnStep} (h : s.typeRanges x.typeId = false) (arsp : Bytes)
    (exchanges : List CalExchange) : s.learnTurn x arsp exchanges = (s, .ok 0) := by simp [State.learnTurn, h]

/-- A calibrated turnaround is one of a type with RANGING, within its range. -/
theorem State.learnTurn_ok {s t : State} {x : LearnStep} {arsp : Bytes} {exchanges : List CalExchange} {turn : Nat}
    (h : s.learnTurn x arsp exchanges = (t, .ok turn)) :
    s.typeRanges x.typeId = false ∨ (s.enabled .rng = true ∧ 8110 ≤ turn ∧ turn ≤ 8274) := by
  cases hranges : s.typeRanges x.typeId with
  | false => exact .inl rfl
  | true =>
    cases hrng : s.enabled .rng with
    | false => simp [State.learnTurn, hranges, hrng] at h
    | true =>
      simp only [State.learnTurn, hranges, hrng, Bool.not_true, Bool.false_eq_true, if_false] at h
      split_ifs at h <;> simp only [Prod.mk.injEq, reduceCtorEq, and_false, Except.ok.injEq] at h
      all_goals
        rename_i hrange
        obtain ⟨-, rfl⟩ := h
        simp only [Bool.or_eq_true, decide_eq_true_eq, not_or, not_lt] at hrange
        exact .inr ⟨rfl, hrange⟩

/-! ## O41 -/

/-- Settles O41: LEARN_TOKEN by what its record says and where its token is read; the TID read by the entropy source; a KEYACK by what verifies it. -/
theorem tokensLearnTheirKeys : Obligations.TokensLearnTheirKeys := by
  unfold Obligations.TokensLearnTheirKeys
  refine ⟨fun s record f hready hnone => next_mailboxCommand hready (learnTokenOp_of_none (s := s.begun 0x0802 record) hnone record f),
    fun s record f l hready hlearn => congrArg Host.Outcome.next ((mailboxCommand_answered hready _).trans ?_),
    fun s l x arsp hlearn hx hloaded hlen htype htid hcrypto hgood =>
      (State.learnRead_of_answer hlearn hx hloaded hlen htype htid hcrypto).trans (if_neg ?_),
    fun s l x arsp hlearn hx hloaded hlen htype htid hcrypto hbad =>
      (State.learnRead_of_answer hlearn hx hloaded hlen htype htid hcrypto).trans (if_pos (State.flag_of_one hbad)),
    fun s frame arsp b exchanges l x t turn hlearn hx hloaded hbody hlen htype htid hmac htime hturn hup =>
      congrArg Host.Outcome.next (keyackReceive_good hlearn hx hloaded hbody hlen htype htid hmac htime hturn hup),
    fun s x arsp exchanges h => State.learnTurn_without_ranging h arsp exchanges, fun s x arsp exchanges turn t => State.learnTurn_ok,
    fun s frame arsp exchanges l x hlearn hx hloaded hcls hcrc =>
      congrArg Host.Outcome.next (keyackReceive_bad_crc hlearn hx hloaded hcls hcrc arsp exchanges),
    fun s l x hlearn hx hloaded hdue => congrArg Host.Outcome.next (keyackTimeout_due hlearn hx hloaded hdue)⟩
  · have htouched := State.touchLearn_of_open hlearn
    dsimp only
    cases hbegin : (s.begun 0x0802 record).learnBegin record with
    | error e => rw [learnTokenOp_of_error hbegin, answered_fail (State.learnBegin_error_lt hbegin), htouched]
    | ok x =>
      dsimp only
      by_cases hcls : x.cls = 2
      · rw [learnTokenOp_at_reader hlearn hbegin hcls, if_neg (not_not.mpr hcls), State.learning, htouched]
      · rw [learnTokenOp_at_coil hlearn hbegin hcls, if_pos hcls, State.learning, htouched]
        rfl
  · rw [State.entropyFailed, State.flag, hgood]
    decide

end Sys2Proof.Machine
end

section
/-! SUPPORT. The reader (R93, R334 to R342, Table 12-11): when a detection event starts, is held or is not begun, what a sense makes of the reader,
and how an event goes on from card to card. -/
namespace Sys2Proof.Machine

open Sys2Proof

/-! ## What keeps the reader from raising its field (R334) -/

theorem State.readerBlocked_on_rc {s : State} (h : s.onRc = true) : s.readerBlocked = 0x0D01 := if_pos h

theorem State.readerBlocked_by_field {s : State} (hrc : s.onRc = false) (hext : s.extField = true) : s.readerBlocked = 0x0D02 := by
  simp [State.readerBlocked, hrc, hext]

theorem State.onRc_of_readerBlocked {s : State} (h : s.readerBlocked = 0) : s.onRc = false := by
  by_contra hrc
  rw [State.readerBlocked_on_rc (by simpa using hrc)] at h
  cases h

/-! ## Detection (R93, R334, R335) -/

theorem State.detect_starts {s : State} (hfree : s.readerBlocked = 0) (hwait : s.tok.commitWait = none) (f : CardField) :
    s.detect f = (if s.pwr.standby then s.raiseVote 0 (1 + s.activePair) false else s).startDetection f false := by
  simp [State.detect, hfree, hwait]

theorem State.detect_held_by_commit {s : State} (hfree : s.readerBlocked = 0) (hwait : s.tok.commitWait.isSome = true) (f : CardField) :
    s.detect f = { s with nfc := { s.nfc with held := some f } } := by
  simp [State.detect, hfree, hwait]

theorem State.detect_held_by_field {s : State} (h : s.readerBlocked = 0x0D02) (f : CardField) :
    s.detect f = ({ s with nfc := { s.nfc with held := some f } }).pollDeferred 0x0D02 := if_pos h

theorem State.detect_on_rc {s : State} (h : s.readerBlocked = 0x0D01) (f : CardField) : s.detect f = s.reason .nfc 0x0D01 := by
  simp [State.detect, h, State.pollDeferred]

theorem poll_of_up {s : State} (h : s.readerUp = true) (f : CardField) : poll f s = s.detect f := by simp [poll, h]

/-! ## A sense (R336, R337, Table 12-11) -/

theorem lpcdSense_of_not_due {s : State} (h : s.senseDue = false) (detuning : Option Nat) (f : CardField) : lpcdSense detuning f s = s := by
  simp [lpcdSense, h]

/-- The baseline follows a detuning that is not below it. -/
theorem baseline_follows {baseline detuning : Nat} (h : baseline ≤ detuning * 64) :
    ((baseline : Int) + ((detuning : Int) * 64 - baseline) / 64).toNat = baseline + (detuning * 64 - baseline) / 64 := by omega

theorem State.not_asleep {s : State} (h : s.pwr.standby = false ∨ Nat.testBit (u8 s.nfcSec 8) 2 = true) :
    (s.pwr.standby && !Nat.testBit (u8 s.nfcSec 8) 2) = false := by
  rcases h with h | h <;> simp [h]

/-- The reader as a sense with a detuning, at its PT, finds it. -/
def State.sensed (s : State) : State := { s with nfc := { s.nfc with sensePt := s.pilot.pt } }

section
variable {s : State} (hup : s.readerUp = true) (hworks : s.tag.works = true) (hrc : s.onRc = false)
  (hawake : s.pwr.standby = false ∨ Nat.testBit (u8 s.nfcSec 8) 2 = true) (hdue : s.senseDue = true)
include hup hworks hrc hawake hdue

theorem lpcdSense_without_answer (f : CardField) : lpcdSense none f s
    = ({ s with tag := { s.tag with works := false, tagMode := false } }).reason .nfc 0x0D0D := by
  simp [lpcdSense, hup, hworks, hrc, State.not_asleep hawake, hdue, State.setTag]

theorem lpcdSense_above {detuning : Nat} (h : u8 s.nfcSec 6 * 64 + s.nfc.baseline < detuning * 64) (harmed : s.nfc.armed = true)
    (f : CardField) : lpcdSense (some detuning) f s = s.sensed.detect f := by
  have habove : u8 s.nfcSec 6 * 64 < detuning * 64 - s.nfc.baseline := by omega
  simp [lpcdSense, hup, hworks, hrc, State.not_asleep hawake, hdue, harmed, habove, State.sensed]

theorem lpcdSense_below {detuning : Nat} (h : detuning * 64 < u8 s.nfcSec 6 * 64 + s.nfc.baseline) (hbase : s.nfc.baseline ≤ detuning * 64)
    (hbelow : s.nfc.below = none) (f : CardField) : lpcdSense (some detuning) f s = { s with nfc := { s.nfc with
      sensePt := s.pilot.pt, below := some s.mt, baseline := s.nfc.baseline + (detuning * 64 - s.nfc.baseline) / 64 } } := by
  have hnot : ¬ u8 s.nfcSec 6 * 64 < detuning * 64 - s.nfc.baseline := by omega
  have hlow : detuning * 64 - s.nfc.baseline < u8 s.nfcSec 6 * 64 := by omega
  simp [lpcdSense, hup, hworks, hrc, State.not_asleep hawake, hdue, hnot, hlow, hbelow, baseline_follows hbase]

end

theorem execCardRearm_due {s : State} {t : Nat} (hnone : s.nfc.detection = none) (hbelow : s.nfc.below = some t)
    (hdue : t + 1000 * s.setting 0x0D02 200 ≤ s.mt) : execCardRearm s = .next { s with nfc := { s.nfc with armed := true } } := by
  simp [execCardRearm, hnone, hbelow, hdue]

theorem execCardRearm_of_none {s : State} (hbelow : s.nfc.below = none) : execCardRearm s = .next s := by simp [execCardRearm, hbelow]

/-! ## Cards of a detection event (R338) -/

/-- The form of an ARSP (Table 4-8). -/
abbrev arspForm (frame : Bytes) : Prop := frame.length = 18 ∧ u8 frame 0 = 0x34

section
variable {s : State} {d : Detection} {c : Card} {cs : List Card} (hd : s.nfc.detection = some d) (hcards : d.cards = c :: cs)
include hd hcards

theorem cardArsp_judged (hlearn : d.learn = false) {frame : Bytes} (hform : arspForm frame) (level : Nat) : cardArsp frame level s =
    (let j := ((s.event F.NFC_EVT_CARD_ARSP).bump F.NFC_RDR_CNT_CARDS).judgeArsp 3 0x04 d.c frame d.id 0x0D
    if u8 s.nfcSec 2 ≤ d.arsps + 1 then (j.1.lastCard c j.2).endDetection 0x0D07
    else (j.1.lastCard c j.2).selectCard { d with cards := cs, arsps := d.arsps + 1 }) := by
  obtain ⟨hlen, htype⟩ := hform
  simp [cardArsp, hd, hcards, hlearn, hlen, htype, State.nextCard]

/-- The TID read of a learning step over a field too weak for KEYLOAD. -/
theorem cardArsp_too_weak (hlearn : d.learn = true) {x : LearnStep} (hx : s.learnStep = some x) (hloaded : x.loaded = false) {frame : Bytes}
    (hform : arspForm frame) (htid : be frame 2 4 = x.tid) (hcrypto : allZero (slice frame 10 8) = true) {level : Nat}
    (hweak : level < u8 s.nfcSec 9) : cardArsp frame level s
      = (((s.event F.NFC_EVT_CARD_ARSP).bump F.NFC_RDR_CNT_CARDS).lastCard c 0).endLearnStep 0x081F [] := by
  obtain ⟨hlen, htype⟩ := hform
  simp [cardArsp, hd, hcards, hlearn, hx, hloaded, hlen, htype, htid, hcrypto, hweak]

/-- A card that times out is passed over after its 500 ms, one with a protocol error at once. -/
theorem cardTimeout_next (hlearn : d.learn = false) {protocol : Bool} (hdue : protocol = true ∨ d.startMt + 500000 ≤ s.mt) :
    cardTimeout protocol s = (let why := if protocol then 0x0D06 else 0x0D05
      (((s.lastCard c why).event F.NFC_EVT_CARD_FAIL).reason .nfc why).selectCard { d with cards := cs }) := by
  have hnow : ¬ (!protocol && decide (s.mt < d.startMt + 500000)) = true := by
    rcases hdue with rfl | hdue
    · simp
    · simp [hdue]
  simp [cardTimeout, hd, hcards, hlearn, hnow, State.nextCard]

end

/-! ## O49 -/

/-- Settles O49: POLL and a sense above the threshold both detect; a sense is judged by its detuning, and a card by its answer. -/
theorem cardsAreDetectedAndJudged : Obligations.CardsAreDetectedAndJudged := by
  unfold Obligations.CardsAreDetectedAndJudged
  refine ⟨fun s f hup hfree hwait => congrArg Host.Outcome.next ((poll_of_up hup f).trans (State.detect_starts hfree hwait f)),
    fun s f hup hfree hwait => congrArg Host.Outcome.next ((poll_of_up hup f).trans (State.detect_held_by_commit hfree hwait f)),
    fun s f hup hrc hext =>
      congrArg Host.Outcome.next ((poll_of_up hup f).trans (State.detect_held_by_field (State.readerBlocked_by_field hrc hext) f)),
    fun s f hup hrc => congrArg Host.Outcome.next ((poll_of_up hup f).trans (State.detect_on_rc (State.readerBlocked_on_rc hrc) f)),
    fun s detuning f hup hworks hfree hwait hawake hdue habove harmed => congrArg Host.Outcome.next
      ((lpcdSense_above hup hworks (State.onRc_of_readerBlocked hfree) hawake hdue habove harmed f).trans
        (State.detect_starts (s := s.sensed) hfree hwait f)),
    fun s detuning f hup hworks hrc hawake hdue hlow hbase hbelow =>
      congrArg Host.Outcome.next (lpcdSense_below hup hworks hrc hawake hdue hlow hbase hbelow f),
    fun s f hup hworks hrc hawake hdue => congrArg Host.Outcome.next (lpcdSense_without_answer hup hworks hrc (.inl hawake) hdue f),
    fun s detuning f hdue => congrArg Host.Outcome.next (lpcdSense_of_not_due hdue detuning f),
    fun s t => execCardRearm_due, fun s => execCardRearm_of_none, fun s d frame level hd hcards hlearn hlen htype => ?_,
    fun s d frame level l x hd hcards hlearn hl hx hloaded hlen htype htid hcrypto hweak => ?_,
    fun s d c cs hd hcards hlearn hdue => congrArg Host.Outcome.next (cardTimeout_next hd hcards hlearn (protocol := false) (.inr hdue)),
    fun s d c cs hd hcards hlearn => congrArg Host.Outcome.next (cardTimeout_next hd hcards hlearn (protocol := true) (.inl rfl))⟩
  · obtain ⟨c, cs, hcs⟩ := List.exists_cons_of_ne_nil hcards
    simp only [hcs, List.headD_cons, List.drop_succ_cons, List.drop_zero]
    exact congrArg Host.Outcome.next (cardArsp_judged hd hcs hlearn ⟨hlen, htype⟩ level.toNat)
  · obtain ⟨c, cs, hcs⟩ := List.exists_cons_of_ne_nil hcards
    simp only [hcs, List.headD_cons]
    exact congrArg Host.Outcome.next
      (cardArsp_too_weak hd hcs hlearn (State.learnStep_of_current hl hx) hloaded ⟨hlen, htype⟩ htid hcrypto hweak)

end Sys2Proof.Machine
end

section
/-! SUPPORT. The rounds of a passive request (R103 to R107, R130, R136): what an answer, a round's end, a cryptogram and a report do, and what CHAL and
LMEAS put on the air. -/
namespace Sys2Proof.Machine

open Sys2Proof

/-! ## Answers in their response slots (R104, R145, R162) -/

theorem ansReceive_of_deaf {s : State} (hdeaf : s.subListens = false ∨ s.onRadio .answers = false) (k : Nat) (frame : Option Bytes)
    (signal : SlotSignal) : ansReceive k frame signal s = s := by
  unfold ansReceive
  split
  · rfl
  · rcases hdeaf with hdeaf | hdeaf <;> simp [hdeaf]

section
variable {s : State} {h : Hold} {k : Nat} {signal : SlotSignal} (hphase : h.phase = .answers) (hsub : s.subListens = true)
  (hradio : s.onRadio .answers = true) (hstays : h.req.code ≠ 0 ∨ s.slotEnergy (signal.windows.take 7) = true)
include hphase hsub hradio hstays

/-- The receiver takes what the slot brings. -/
theorem ansReceive_listens : ¬ (h.phase ≠ .answers || !s.subListens || !s.onRadio .answers
    || (h.req.code = 0 && !s.slotEnergy (signal.windows.take 7))) = true := by
  rcases hstays with hstays | hstays <;> simp [hphase, hsub, hradio, hstays]

variable (hhold : s.lf.hold = some h)
include hhold

theorem ansReceive_valid {f b : Bytes} (hlen : f.length = 9) (hcrc : crcGood f = some b) (htype : u8 b 0 / 64 = 1)
    (hfree : (h.collided.contains k || h.answers.any (fun a => a.rslot == k)) = false) : ansReceive k (some f) signal s
      = (s.setHold (some { h with answers := h.answers ++ [⟨k, be b 1 4, u8 b 5, u8 b 6⟩] })).lastRssi signal.rssi.toNat := by
  have hgood : (crcGood f).filter (fun b => u8 b 0 / 64 == 1) = some b := by rw [hcrc]; exact if_pos (by simp [htype])
  simp only [ansReceive, hhold, if_neg (ansReceive_listens hphase hsub hradio hstays), hlen, if_true, hgood, hfree]

theorem ansReceive_no_frame (hfree : (h.collided.contains k || h.answers.any (fun a => a.rslot == k)) = false) :
    ansReceive k none signal s
      = if s.slotEnergy signal.windows then s.setHold (some { h with collided := h.collided ++ [k] }) else s := by
  simp only [ansReceive, hhold, if_neg (ansReceive_listens hphase hsub hradio hstays), hfree]

theorem ansReceive_taken (htaken : (h.collided.contains k || h.answers.any (fun a => a.rslot == k)) = true) (frame : Option Bytes) :
    ansReceive k frame signal s = s.setHold (some { h with
      answers := h.answers.filter (fun a => a.rslot != k), collided := h.collided.filter (fun j => j != k) ++ [k] }) := by
  simp only [ansReceive, hhold, if_neg (ansReceive_listens hphase hsub hradio hstays), htaken]

end

/-! ## The end of a round (R105, Table 4-9) -/

theorem State.listing_of_no_answers (s : State) {h : Hold} (hnone : h.answers = []) : s.listing h = [] := by
  simp [State.listing, hnone]

section
variable {s : State} {h : Hold} (hhold : s.lf.hold = some h) (hphase : h.phase = .answers) (meas : List (Nat × Nat)) (floor : Nat)
include hhold hphase

theorem roundClose_silent (hanswers : h.answers = []) (hcoll : h.collided = []) : roundClose meas floor s
    = ((s.showRound (min 3 h.round) 0 0 false).put F.RF_RSSI_FLOOR floor).endRound 0x0820 := by
  simp [roundClose, hhold, hphase, State.listing_of_no_answers s hanswers, hanswers, hcoll]

theorem roundClose_lists (hlisted : s.listing h ≠ []) (hroom : h.answers.length + h.collided.length < 8) (hcode : h.req.code ≠ 0) :
    roundClose meas floor s = ((s.showRound (min 3 h.round) h.answers.length h.collided.length false).put F.RF_RSSI_FLOOR floor).sendChal h
      (s.listing h) meas := by
  have hfull : ¬ h.answers.length + h.collided.length = 8 := Nat.ne_of_lt hroom
  simp [roundClose, hhold, hphase, hlisted, hroom, hfull, hcode]

end

/-! ## The sequencer's queue (R167 to R169) -/

/-- What the sequencer changes as it takes a command: registers, and the working state of RF. -/
def State.radioOnly (s t : State) : Prop := t = { s with regs := t.regs, rf := t.rf }

theorem State.radioOnly_refl (s : State) : s.radioOnly s := rfl

theorem State.radioOnly.put {s t : State} (h : s.radioOnly t) (f : Field) (v : Nat) : s.radioOnly (t.put f v) := by
  unfold State.radioOnly at *
  rw [h]
  rfl

theorem State.radioOnly.withRf {s t : State} (h : s.radioOnly t) (x : Rf) : s.radioOnly { t with rf := x } := by
  unfold State.radioOnly at *
  rw [h]

theorem State.abandonCal_radioOnly (s : State) : s.radioOnly s.abandonCal := by
  unfold State.abandonCal
  split
  · split
    · exact s.radioOnly_refl
    · exact (((((s.radioOnly_refl.withRf _).put _ _).put _ _).put _ _).put _ _).put _ _
  · exact s.radioOnly_refl

theorem State.abandonCal_queue (s : State) : s.abandonCal.rf.queue = s.rf.queue := by
  unfold State.abandonCal
  split
  · split
    · rfl
    · simp
  · rfl

theorem State.queueRadio_radioOnly (s : State) (c : RadioCmd) : s.radioOnly (s.queueRadio c).1 := by
  unfold State.queueRadio
  dsimp only
  split
  · exact s.radioOnly_refl
  · split
    · exact ((s.radioOnly_refl.put _ _).put _ _).put _ _
    · split
      · exact ((s.radioOnly_refl.put _ _).put _ _).put _ _
      · dsimp only
        split
        · exact (s.abandonCal_radioOnly.withRf _).put _ _
        · exact s.abandonCal_radioOnly.withRf _

/-- A command that the queue takes stands last in it. -/
theorem State.queueRadio_joins {s : State} {c : RadioCmd} (hrf : s.enabled .rf = true) (hrc : s.onRc = false) (hroom : s.rf.queue.length < 16)
    (htime : s.rtPast c.start ≤ 409600 ∨ 2 ^ 47 ≤ s.rtPast c.start) : (s.queueRadio c).1.rf.queue = s.rf.queue ++ [c] := by
  have hintime : ¬ (409600 < s.rtPast c.start && decide (s.rtPast c.start < 2 ^ 47)) = true := by
    simp only [Bool.and_eq_true, decide_eq_true_eq]
    omega
  have hfull : ¬ 16 ≤ s.rf.queue.length := Nat.not_le.mpr hroom
  unfold State.queueRadio
  dsimp only
  rw [if_neg (by simp [hrf, hrc]), if_neg hfull, if_neg hintime, s.abandonCal_queue]
  dsimp only
  split
  · rw [State.rfState, State.put_rf]
  · rfl

/-- A command takes no other out of the queue. -/
theorem State.queueRadio_queue (s : State) (c : RadioCmd) : ∃ l, (s.queueRadio c).1.rf.queue = s.rf.queue ++ l := by
  unfold State.queueRadio
  dsimp only
  split
  · exact ⟨[], (List.append_nil _).symm⟩
  · split
    · exact ⟨[], (List.append_nil _).symm⟩
    · split
      · exact ⟨[], (List.append_nil _).symm⟩
      · refine ⟨[c], ?_⟩
        rw [s.abandonCal_queue]
        dsimp only
        split
        · rw [State.rfState, State.put_rf]
        · rfl

/-! ## CHAL (R105, R168) -/

theorem State.generated_frame (s : State) (n : Nat) (pr : Bool) : s.generated n pr
    = { s with draws := (s.generated n pr).draws, regs := (s.generated n pr).regs, sym := (s.generated n pr).sym } := by
  unfold State.generated
  dsimp only
  split
  · rfl
  · rfl

theorem State.generated_regs (s : State) (n : Nat) (pr : Bool) : keepsRegs s (s.generated n pr) [R.SYM_DRBG] := fun off hoff => by
  have hne : off ≠ R.SYM_DRBG := by simpa using hoff
  unfold State.generated
  dsimp only
  split
  · exact State.reg_setReg_other _ hne _
  · exact State.reg_setReg_other _ hne _

/-- The listed tokens as the round's members. -/
def listedMembers (l : List (Answer × Nat)) : List Member := l.map (fun p => ⟨p.2, p.1.tid, p.1.field, 0, 0, 0, 0, 0, none⟩)

/-- The state in which CHAL joins the queue: the challenge is drawn, and the round waits for the cryptograms of its members. -/
def State.chalDrawn (s : State) (h : Hold) (l : List (Answer × Nat)) : State :=
  (s.fresh 16).setHold (some { h with phase := .cry, members := listedMembers l, c := s.drawn 16
                                      chalEnd := h.wakeEnd + 47000 + 256 + 8 * l.length, chalOut := 0, why := 0x0820 })

/-- CHAL as a command of the sequencer. -/
def State.chalCmd (s : State) (h : Hold) (l : List (Answer × Nat)) : RadioCmd :=
  ⟨.tx24, s.rtAt (h.wakeEnd + 47000), 40960 * (256 + 8 * l.length), s.secLE 5 2 1 0,
    .chal (s.chal h.round (s.drawn 16) (l.map (fun p => p.1.rslot)))⟩

theorem State.chalDrawn_frame (s : State) (h : Hold) (l : List (Answer × Nat)) : s.chalDrawn h l = { s with
    draws := (s.chalDrawn h l).draws, regs := (s.chalDrawn h l).regs, sym := (s.chalDrawn h l).sym, lf := (s.chalDrawn h l).lf } := by
  have hfresh := s.generated_frame 16 false
  unfold State.chalDrawn State.fresh
  generalize s.generated 16 false = u at hfresh ⊢
  rw [hfresh]
  rfl

theorem State.chalDrawn_reg (s : State) (h : Hold) (l : List (Answer × Nat)) {off : Nat} (hoff : off ∉ R.SYM_DRBG :: airRegs) :
    (s.chalDrawn h l).reg off = s.reg off := by
  obtain ⟨hair, -⟩ := (s.fresh 16).sessionWork_setHold (some { h with
    phase := .cry, members := listedMembers l, c := s.drawn 16, chalEnd := h.wakeEnd + 47000 + 256 + 8 * l.length, chalOut := 0, why := 0x0820 })
  simp only [List.mem_cons, not_or] at hoff
  obtain ⟨hdrbg, hoff⟩ := hoff
  exact (hair off (by simpa [airRegs] using hoff)).trans (s.generated_regs 16 false off (by simpa using hdrbg))

theorem State.chalDrawn_rtAt (s : State) (h : Hold) (l : List (Answer × Nat)) : (s.chalDrawn h l).rtAt = s.rtAt := by
  rw [State.chalDrawn_frame]
  rfl

theorem State.chalDrawn_secLE (s : State) (h : Hold) (l : List (Answer × Nat)) : (s.chalDrawn h l).secLE = s.secLE := by
  rw [State.chalDrawn_frame]
  rfl

section
variable {s : State} (htx : s.flag F.RF_STAT_TX24_OK = true) (hradio : s.islandFailed 7 = false)
include htx hradio

theorem State.sendChal_of_radio (h : Hold) (l : List (Answer × Nat)) (meas : List (Nat × Nat)) : s.sendChal h l meas
    = (((s.chalDrawn h l).queueRadio (s.chalCmd h l)).1.queueWindow l.length (h.wakeEnd + 47000 + 256 + 8 * l.length + 1450)
        (9000 * l.length) .crys).commitPoint := by
  rw [State.chalCmd, ← s.chalDrawn_rtAt h l, ← s.chalDrawn_secLE h l]
  unfold State.sendChal
  rw [if_neg (by simp [htx, hradio])]
  simp only [List.length_map]
  rfl

theorem State.sendChal_hold (h : Hold) (l : List (Answer × Nat)) (meas : List (Nat × Nat)) :
    (s.sendChal h l meas).lf.hold = some { h with
      phase := .cry, members := listedMembers l, c := s.drawn 16, chalEnd := h.wakeEnd + 47000 + 256 + 8 * l.length, chalOut := 0
      why := 0x0820 } := by
  rw [State.sendChal_of_radio htx hradio, State.commitPoint_lf, State.queueWindow, State.queueRadio_radioOnly, State.queueRadio_radioOnly]
  rfl

/-- CHAL is at the head of a queue that was empty. -/
theorem State.sendChal_queued (hrf : s.enabled .rf = true) (hempty : s.rf.queue = []) (hrc : s.onRc = false) {h : Hold}
    (htime : s.rtPast (s.rtAt (h.wakeEnd + 47000)) ≤ 409600 ∨ 2 ^ 47 ≤ s.rtPast (s.rtAt (h.wakeEnd + 47000))) (l : List (Answer × Nat))
    (meas : List (Nat × Nat)) : (s.sendChal h l meas).rf.queue.head? = some (s.chalCmd h l) := by
  have hframe := s.chalDrawn_frame h l
  have hrf' : (s.chalDrawn h l).enabled .rf = true := by rw [State.enabled, s.chalDrawn_reg h l (by decide), ← State.enabled, hrf]
  have hrc' : (s.chalDrawn h l).onRc = false := by
    rw [State.onRc, State.flag, State.get, s.chalDrawn_reg h l (by decide), ← State.get, ← State.flag, ← State.onRc, hrc]
  have hempty' : (s.chalDrawn h l).rf.queue = [] := by rw [hframe]; exact hempty
  have htime' : (s.chalDrawn h l).rtPast (s.chalCmd h l).start ≤ 409600 ∨ 2 ^ 47 ≤ (s.chalDrawn h l).rtPast (s.chalCmd h l).start := by
    rw [hframe]; exact htime
  have hjoined := State.queueRadio_joins hrf' hrc' (by rw [hempty']; decide) htime'
  obtain ⟨rest, hrest⟩ := State.queueRadio_queue ((s.chalDrawn h l).queueRadio (s.chalCmd h l)).1 ⟨.rxSub l.length,
    ((s.chalDrawn h l).queueRadio (s.chalCmd h l)).1.rtAt (h.wakeEnd + 47000 + 256 + 8 * l.length + 1450), 40960 * (9000 * l.length), 0, .crys⟩
  rw [State.sendChal_of_radio htx hradio, State.commitPoint_rf, State.queueWindow, hrest, hjoined, hempty']
  rfl

end

/-! ## Cryptograms (R106, R110) -/

theorem cryReceive_of_bad_crc {frame : Bytes} (hcrc : crcGood frame = none) (pos rssi : Nat) (s : State) : cryReceive pos frame rssi s = s := by
  unfold cryReceive
  split
  · rfl
  · simp [hcrc]

/-- A cryptogram in its position waits for the answers that share its TID. -/
theorem cryReceive_good {s : State} {h : Hold} {m : Member} {pos : Nat} {frame b : Bytes} (hhold : s.lf.hold = some h)
    (hm : h.members[pos]? = some m) (hcrc : crcGood frame = some b) (hphase : h.phase = .cry) (hsent : h.chalOut = 1)
    (hsub : s.subListens = true) (hradio : s.onRadio .crys = true) (hlen : frame.length = 17) (hslot : u8 b 0 = 128 + m.slot) (hfirst : m.cry = 0)
    (rssi : Nat) : cryReceive pos frame rssi s
      = (let ok := slice b 7 8 == s.slotMac 0x01 m.slot m.tid (h.c ++ toBE 1 (u8 b 1) ++ toBE 1 (u8 b 2) ++ toBE 4 (be b 3 4)) 8
        let s1 := (s.updMember pos (fun y => { y with
          status := u8 b 1, field := u8 b 2, ctr := be b 3 4
          cry := if s.slotCheck 0 m.slot ≠ 0 then 3 else if ok then 1 else 2, why := s.slotCheck 0 m.slot })).lastRssi rssi
        if (s1.members.filter (fun y => y.tid == m.tid)).all (fun y => y.cry != 0) then s1.judgeGroup m.tid else s1) := by
  have hgo : ¬ (h.phase ≠ .cry || h.chalOut ≠ 1 || !s.subListens || !s.onRadio .crys || frame.length ≠ 17 || u8 b 0 ≠ 128 + m.slot
      || m.cry ≠ 0) = true := by simp [hphase, hsent, hsub, hradio, hlen, hslot, hfirst]
  unfold cryReceive
  rw [hhold]
  dsimp only
  rw [hm, hcrc]
  exact if_neg hgo

theorem State.closeCrys_of_judged {s : State} {h : Hold} (hhold : s.lf.hold = some h) (hjudged : ∀ m ∈ h.members, m.cry = 0 ∨ m.cry = 4) :
    s.closeCrys = s := by
  have hopen : s.members.filter (fun m => 1 ≤ m.cry && m.cry ≤ 3) = [] := by
    rw [State.members, hhold, List.filter_eq_nil_iff]
    intro m hm
    rcases hjudged m hm with hcry | hcry <;> simp [hcry]
  rw [State.closeCrys, hopen]
  rfl

/-! ## LMEAS (R107, R129) -/

/-- What a frame on the LF air changes: registers, and the working state of LF. -/
def State.airOnly (s t : State) : Prop := t = { s with regs := t.regs, lf := t.lf }

namespace State.airOnly

variable {s t u : State} (h : s.airOnly t)
include h

theorem put (f : Field) (v : Nat) : s.airOnly (t.put f v) := by
  unfold State.airOnly at *
  rw [h]
  rfl

theorem withLf (x : Lf) : s.airOnly { t with lf := x } := by
  unfold State.airOnly at *
  rw [h]

theorem trans (h' : t.airOnly u) : s.airOnly u := by
  unfold State.airOnly at *
  rw [h', h]

theorem ite {c : Prop} [Decidable c] (hu : s.airOnly u) : s.airOnly (if c then t else u) := by
  split
  · exact h
  · exact hu

theorem foldl {β : Type} {l : List β} {f : State → β → State} (hf : ∀ (t : State) (x : β), s.airOnly t → s.airOnly (f t x)) :
    s.airOnly (l.foldl f t) := by
  induction l generalizing t with
  | nil => exact h
  | cons x l ih => exact ih (hf t x h)

theorem measPats : t.measPats = s.measPats := by
  rw [h]
  rfl

theorem addUses (p start : Nat) (ps : List Piece) (k2 : Rat) : s.airOnly (t.addUses p start ps k2) := by
  unfold State.addUses
  split
  · exact h
  · exact h.withLf _

theorem lfMeasured (p c : Nat) (meas : List (Nat × Nat)) : s.airOnly (t.lfMeasured p c meas) := by
  unfold State.lfMeasured
  dsimp only
  split
  · exact h.withLf _
  · exact ((h.withLf _).put _ _).put _ _

theorem sendLf (p start : Nat) (ps : List Piece) (meas : List (Nat × Nat)) : s.airOnly (t.sendLf p start ps meas).1 := by
  have hmeasured := (h.addUses p start ps (t.thermalScale p start ps (t.capScale p))).foldl (l := t.patChannels p)
    (f := fun t c => t.lfMeasured p c meas) (fun _ c hu => hu.lfMeasured p c meas)
  have hcounted := (hmeasured.foldl (l := t.patChannels p) (f := fun t c => t.bump (F.LF_CHn_FCNT_SCALED c)) (fun _ _ hu => hu.put _ _)).ite
    (c := t.thermalScale p start ps (t.capScale p) < 1) hmeasured
  exact ((hcounted.put _ _).put _ _).ite hcounted

end State.airOnly

theorem State.airOnly_refl (s : State) : s.airOnly s := rfl

theorem sendBursts_airOnly {s t : State} (h : s.airOnly t) (meas : List (Nat × Nat)) (ps : List Nat) (start : Nat) :
    s.airOnly (sendBursts meas ps start t).1 := by
  induction ps generalizing start t with
  | nil => exact h
  | cons p ps ih => exact ih (h.sendLf p start burstPieces meas) _

/-- Each burst has its scale. -/
theorem length_sendBursts (meas : List (Nat × Nat)) (ps : List Nat) (start : Nat) (s : State) :
    (sendBursts meas ps start s).2.length = ps.length := by
  induction ps generalizing start s with
  | nil => rfl
  | cons p ps ih => exact congrArg Nat.succ (ih _ _)

theorem State.updSess_foldl_frame (l : List Sess) (f : Sess → Sess) (s : State) :
    l.foldl (fun (t : State) x => t.updSess x.number f) s = { s with rng := (l.foldl (fun (t : State) x => t.updSess x.number f) s).rng } := by
  induction l generalizing s with
  | nil => rfl
  | cons x l ih => exact ih (s.updSess x.number f)

/-- The header and the bursts on the air: the state after them, and their scales. -/
def State.measured (s : State) (h : Hold) (meas : List (Nat × Nat)) : State × List Rat :=
  let s1 := ((s.frameOn ((h.pattern :: s.measPats).flatMap s.patChannels).eraseDups s.mt).sendLf h.pattern s.mt headPieces meas).1
  sendBursts meas s1.measPats (s.mt + 5500) s1

theorem State.measured_airOnly (s : State) (h : Hold) (meas : List (Nat × Nat)) : s.airOnly (s.measured h meas).1 :=
  sendBursts_airOnly ((s.airOnly_refl.withLf _).sendLf _ _ _ _) _ _ _

theorem State.measured_scales (s : State) (h : Hold) (meas : List (Nat × Nat)) : (s.measured h meas).2.length = s.measPats.length :=
  (length_sendBursts _ _ _ _).trans (congrArg List.length ((s.airOnly_refl.withLf _).sendLf _ _ _ _).measPats)

/-- The sessions of the request take the scales, and the window of the reports joins the queue. -/
def State.reportsAwaited (s : State) (h : Hold) (fin : Nat) (sent : State × List Rat) : State :=
  let s3 := (s.rng.sessions.filter (fun x => x.req == h.id)).foldl
    (fun (t : State) x => t.updSess x.number (fun y => { y with scales := sent.2 })) sent.1
  ((s3.setHold (some { h with phase := .report, scales := sent.2, lmeasEnd := some fin })).queueWindow h.members.length (fin + 1000)
    (h.members.length * (5300 + 1200 * s.nMeas)) .reports).commitPoint

theorem lmeas_sends {s : State} {h : Hold} (hhold : s.lf.hold = some h) (hjudged : ∀ m ∈ h.members, m.cry = 0 ∨ m.cry = 4) (hphase : h.phase = .cry)
    (hmine : s.rng.sessions.any (fun x => x.req == h.id) = true) (hmeas : s.nMeas ≠ 0) (hair : s.rng.onAir = none) (hcode : h.req.code ≠ 0)
    (hworks : (h.pattern :: s.measPats).any (fun p => (s.patChannels p).isEmpty) = false) (meas : List (Nat × Nat)) :
    lmeas meas s = s.reportsAwaited h (s.mt + 5250 + 750 * s.nMeas) (s.measured h meas) := by
  have hsome : (s.rng.sessions.filter (fun x => x.req == h.id)).isEmpty = false := by
    obtain ⟨x, hx, hreq⟩ := List.any_eq_true.mp hmine
    exact List.isEmpty_eq_false_iff.mpr (List.ne_nil_of_mem (List.mem_filter.mpr ⟨hx, hreq⟩))
  have hgo : ¬ (h.phase ≠ .cry || (s.rng.sessions.filter (fun x => x.req == h.id)).isEmpty || s.nMeas = 0 || s.rng.onAir.isSome) = true := by
    rw [hsome]
    simp [hphase, hmeas, hair]
  unfold lmeas
  rw [State.closeCrys_of_judged hhold hjudged]
  dsimp only
  rw [hhold]
  dsimp only
  rw [if_neg hgo, if_neg (by rw [hworks]; decide), if_neg hcode]
  rfl

theorem State.reportsAwaited_spec {s : State} {sent : State × List Rat} (hsent : s.airOnly sent.1) (h : Hold) (fin : Nat) :
    (s.reportsAwaited h fin sent).lf.hold = some { h with phase := .report, scales := sent.2, lmeasEnd := some fin }
      ∧ s.reportsAwaited h fin sent = { s with
          regs := (s.reportsAwaited h fin sent).regs, lf := (s.reportsAwaited h fin sent).lf, rng := (s.reportsAwaited h fin sent).rng
          rf := (s.reportsAwaited h fin sent).rf, net := (s.reportsAwaited h fin sent).net } := by
  unfold State.reportsAwaited
  dsimp only
  rw [State.queueWindow, State.queueRadio_radioOnly, State.updSess_foldl_frame, hsent]
  exact ⟨rfl, rfl⟩

/-! ## Field reports (R107, R136) -/

theorem rptReceive_of_bad_crc {frame : Bytes} (hcrc : crcGood frame = none) (pos : Nat) (s : State) : rptReceive pos frame s = s := by
  simp [rptReceive, hcrc]

theorem rptReceive_good {s : State} {h : Hold} {x : Sess} {pos : Nat} {frame b : Bytes} (hhold : s.lf.hold = some h)
    (hcrc : crcGood frame = some b) (hx : s.rng.sessions.find? (fun x => x.req == h.id && x.pos == pos) = some x) (hphase : h.phase = .report)
    (hsub : s.subListens = true) (hradio : s.onRadio .reports = true) (hfirst : h.reports.contains pos = false) (hslot : u8 b 0 = x.slot)
    (hn : u8 b 1 = s.nMeas) (hlen : frame.length = 8 + 3 * s.nMeas)
    (hmac : slice b (2 + 3 * s.nMeas) 4 = s.slotMac 0x06 x.slot x.tid (x.c ++ toBE 1 s.nMeas ++ slice b 2 (3 * s.nMeas)) 4) :
    rptReceive pos frame s = (((s.setHold (some { h with reports := h.reports ++ [pos] })).updSess x.number
      (fun y => { y with readings := some (readings3 s.nMeas (b.drop 2)) })).commitPoint) := by
  have hgo : ¬ (h.phase ≠ .report || !s.subListens || !s.onRadio .reports || h.reports.contains pos || u8 b 0 ≠ x.slot || u8 b 1 ≠ s.nMeas
      || frame.length ≠ 8 + 3 * u8 b 1) = true := by
    rw [hfirst]
    simp [hphase, hsub, hradio, hslot, hn, hlen]
  unfold rptReceive
  rw [hhold, hcrc]
  dsimp only
  rw [hx]
  dsimp only
  rw [if_neg hgo, hn, if_pos hmac]

end Sys2Proof.Machine
end

section
/-! SUPPORT. LF-only returns (R88, R108, R130): which of the carriers of a return slot counts, and what a return does. -/
namespace Sys2Proof.Machine

open Sys2Proof

/-! ## The strongest carrier (R108, R130) -/

theorem State.strongest_of_none_live {s : State} {heard : List Heard} (h : ∀ x ∈ heard, s.chLive x.ch = false) :
    s.strongest heard = (none, false) := by
  have hnone : heard.filter (fun x => x.ch < 8 && s.chLive x.ch) = [] := List.filter_eq_nil_iff.mpr fun x hx => by simp [h x hx]
  simp [State.strongest, hnone]

/-- Of two good frames the stronger one counts, whichever is heard first. -/
theorem State.strongest_of_two {s : State} {a b : Heard} {x y : Bytes} (ha : a.ch < 8) (hb : b.ch < 8) (hla : s.chLive a.ch = true)
    (hlb : s.chLive b.ch = true) (hx : crcGood a.frame = some x) (hy : crcGood b.frame = some y) (hlt : b.strength < a.strength) :
    s.strongest [a, b] = (some a.frame, true) ∧ s.strongest [b, a] = (some a.frame, true) := by
  have hnot : ¬ a.strength < b.strength := by omega
  have hne : ¬ b.strength = a.strength := by omega
  simp [State.strongest, ha, hb, hla, hlb, hx, hy, hlt, hnot, hne]

/-! ## What an accepted return leaves (R88, R108) -/

theorem State.slot_setSlot (s : State) (n : Nat) (x : Slot) : (s.setSlot n x).slot n = if n < s.vault.slots.length then x else s.slot n := by
  unfold State.setSlot State.slot
  split
  · rename_i hn
    simp [hn]
  · rename_i hn
    simp [hn]

@[simp] theorem State.authSucceed_fuses (s : State) (path n : Nat) : (s.authSucceed path n).fuses = s.fuses := by
  simp [State.authSucceed, State.standZero, State.setPath, State.setSlot]

theorem State.authSucceed_vault (s : State) (path n : Nat) : (s.authSucceed path n).vault = { s.vault with
    slots := s.vault.slots.set n { s.slot n with
      fails := [], level := 0, held := 0, conflict := (s.slot n).conflict && decide (path ≤ 1) }
    paths := (s.authSucceed path n).vault.paths, standMt := (s.authSucceed path n).vault.standMt } := by
  simp [State.authSucceed, State.standZero, State.setPath, State.setSlot]

theorem State.authSucceed_ctr (s : State) (path n : Nat) : ((s.authSucceed path n).slot n).ctr = (s.slot n).ctr := by
  rw [State.slot, State.authSucceed_vault]
  exact (congrArg Slot.ctr (s.slot_setSlot n _)).trans (by split <;> rfl)

theorem State.journal_slot (s : State) (type reason : Nat) (u : Subsys) (flags : Nat) (body : Bytes) (n : Nat) :
    (s.journal type reason u flags body).slot n = s.slot n := by
  obtain ⟨-, hvault, -⟩ := s.journal_work type reason u flags body
  rw [State.slot, hvault]
  rfl

theorem State.journal_keyring (s : State) (type reason : Nat) (u : Subsys) (flags : Nat) (body : Bytes) :
    (s.journal type reason u flags body).vault.keyring = s.vault.keyring := by
  obtain ⟨-, hvault, -⟩ := s.journal_work type reason u flags body
  rw [hvault]

/-- A return accepted: the authentication and its entry, a number of a session, a member of the request that waits to be judged. -/
def State.returnJoined (s : State) (h : Hold) (k n field status : Nat) : State :=
  let x := s.slot n
  let num := (s.rng.last + 1) % 2 ^ 32
  let s1 := s.setHold (some { h with returned := h.returned ++ [k] })
  let s2 := (s1.authSucceed 0 n).journalAuth 0 n x.tid x.ctr h.req.code
  let s3 := ({ s2 with rng := { s2.rng with last := num } }).updRequest h.id (fun r => { r with waiting := r.waiting + 1 })
  s3.setHold (some { h with
    returned := h.returned ++ [k], members := h.members ++ [⟨n, x.tid, field, status, field, x.ctr, 4, 0, some num⟩] })

/-- An accepted return takes the next number and joins the request; its slot's counter and the keys stay. -/
theorem State.returnJoined_spec (s : State) (h : Hold) (k n field status : Nat) :
    (s.returnJoined h k n field status).rng.last = (s.rng.last + 1) % 2 ^ 32
      ∧ (s.returnJoined h k n field status).lf.hold = some { h with
          returned := h.returned ++ [k]
          members := h.members ++ [⟨n, (s.slot n).tid, field, status, field, (s.slot n).ctr, 4, 0, some ((s.rng.last + 1) % 2 ^ 32)⟩] }
      ∧ ((s.returnJoined h k n field status).slot n).ctr = (s.slot n).ctr ∧ (s.returnJoined h k n field status).fuses = s.fuses
      ∧ (s.returnJoined h k n field status).vault.keyring = s.vault.keyring := by
  unfold State.returnJoined
  dsimp only
  generalize hs1 : s.setHold (some { h with returned := h.returned ++ [k] }) = s1
  have hslot : s1.slot n = s.slot n := by rw [← hs1]; rfl
  have hfuses : s1.fuses = s.fuses := by rw [← hs1]; rfl
  have hring : s1.vault.keyring = s.vault.keyring := by rw [← hs1]; rfl
  generalize hs2 : (s1.authSucceed 0 n).journalAuth 0 n (s.slot n).tid (s.slot n).ctr h.req.code = s2
  have hctr2 : (s2.slot n).ctr = (s.slot n).ctr := by rw [← hs2, State.journalAuth, State.journal_slot, State.authSucceed_ctr, hslot]
  have hfuses2 : s2.fuses = s.fuses := by rw [← hs2, State.journalAuth, State.journal_fuses, State.authSucceed_fuses, hfuses]
  have hring2 : s2.vault.keyring = s.vault.keyring := by rw [← hs2, State.journalAuth, State.journal_keyring, State.authSucceed_vault, ← hring]
  exact ⟨rfl, rfl, hctr2, hfuses2, hring2⟩

section
variable {s : State} {h : Hold} {k : Nat} {heard : List Heard}

theorem lfReturnReceive_of_silence (hsilent : s.strongest heard = (none, false)) : lfReturnReceive k heard s = s := by
  unfold lfReturnReceive
  split
  · rfl
  · simp [hsilent]

variable (hphase : h.phase = .returns) (hret : h.returned.contains k = false) (hcoll : h.collided.contains k = false)
include hphase hret hcoll

/-- The return slot is still to be taken. -/
theorem return_slot_open : ¬ (h.phase ≠ .returns || h.returned.contains k || h.collided.contains k) = true := by
  rw [hret, hcoll]
  simp [hphase]

variable (hhold : s.lf.hold = some h)
include hhold

theorem lfReturnReceive_collided (hnone : s.strongest heard = (none, true)) :
    lfReturnReceive k heard s = s.setHold (some { h with collided := h.collided ++ [k] }) := by
  simp only [lfReturnReceive, hhold, if_neg (return_slot_open hphase hret hcoll), hnone]

section
variable {f b : Bytes} (hf : (s.strongest heard).1 = some f) (hlen : f.length = 13) (hb : b = f.take 11) (htype : u8 b 0 / 64 = 2)
include hf hlen hb htype

theorem lfReturnReceive_unknown (hstate : (s.slot (u8 b 0 % 64)).state = 0) : lfReturnReceive k heard s
    = (((s.setHold (some { h with returned := h.returned ++ [k] })).refuseAttempt 0 0xFF 0 0 h.req.code 0x0801).holdWhy 0x0801) := by
  have hbody : f.take (f.length - 2) = b := by rw [hlen, hb]
  obtain ⟨any, hs⟩ : ∃ any, s.strongest heard = (some f, any) := ⟨_, Prod.ext hf rfl⟩
  simp only [lfReturnReceive, hhold, if_neg (return_slot_open hphase hret hcoll), hs, hbody]
  rw [if_neg (by simp [hlen, htype]), if_pos hstate]

/-- The return of a token that is not yet a member of the request. -/
theorem lfReturnReceive_joins (hstate : (s.slot (u8 b 0 % 64)).state ≠ 0) (hnew : h.members.any (fun m => m.slot == u8 b 0 % 64) = false)
    (hcheck : s.slotCheck 0 (u8 b 0 % 64) = 0) (hmac : slice b 3 8 = s.slotMac 0x03 (u8 b 0 % 64) (s.slot (u8 b 0 % 64)).tid
      (h.c ++ toBE 1 (u8 b 2) ++ toBE 1 (u8 b 1)) 8) :
    lfReturnReceive k heard s = s.returnJoined h k (u8 b 0 % 64) (u8 b 1) (u8 b 2) := by
  have hbody : f.take (f.length - 2) = b := by rw [hlen, hb]
  obtain ⟨any, hs⟩ : ∃ any, s.strongest heard = (some f, any) := ⟨_, Prod.ext hf rfl⟩
  simp only [lfReturnReceive, hhold, if_neg (return_slot_open hphase hret hcoll), hs, hbody]
  rw [if_neg (by simp [hlen, htype]), if_neg hstate, if_neg (not_not.mpr hcheck), if_neg (not_not.mpr hmac), if_neg (by rw [hnew]; decide)]
  rfl

end

end

/-! ## O14 -/

/-- Settles O14: each frame of a round by what makes it valid in its position; CHAL and LMEAS by what they put on the air; a return by the strongest
carrier and its slot. -/
theorem roundsAndLfReturnsAreJudged : Obligations.RoundsAndLfReturnsAreJudged := by
  unfold Obligations.RoundsAndLfReturnsAreJudged
  refine ⟨fun s k q f b h hhold hphase hsub hradio hstays hlen hcrc htype hcoll hans => ⟨_, congrArg Host.Outcome.next
      (ansReceive_valid hphase hsub hradio hstays hhold hlen hcrc htype (by rw [hcoll, hans]; rfl)), rfl, ?_, rfl⟩,
    fun s k q h hhold hphase hsub hradio hstays hcoll hans => congrArg Host.Outcome.next
      (ansReceive_no_frame hphase hsub hradio hstays hhold (by rw [hcoll, hans]; rfl)),
    fun s k q f h hhold hphase hsub hradio hstays htaken => congrArg Host.Outcome.next
      (ansReceive_taken hphase hsub hradio hstays hhold (Bool.or_eq_true_iff.mpr htaken) f),
    fun s k q f hdeaf => congrArg Host.Outcome.next (ansReceive_of_deaf hdeaf k.val f q),
    fun s meas fl h hhold hphase hans hcoll => congrArg Host.Outcome.next (roundClose_silent hhold hphase meas fl.toNat hans hcoll),
    fun s meas fl h hhold hphase hlisted hroom hcode =>
      congrArg Host.Outcome.next (roundClose_lists hhold hphase meas fl.toNat hlisted hroom hcode),
    fun s h l meas htx hradio hrf hempty hrc htime => ⟨listedMembers l, by simp [listedMembers], State.sendChal_hold htx hradio h l meas,
      State.sendChal_queued htx hradio hrf hempty hrc htime l meas⟩,
    fun s pos f b q h m hhold hm hcrc hphase hsent hsub hradio hlen hslot hfirst => congrArg Host.Outcome.next
      (cryReceive_good hhold hm hcrc hphase hsent hsub hradio hlen hslot hfirst q.toNat),
    fun s pos f q hcrc => congrArg Host.Outcome.next (cryReceive_of_bad_crc hcrc pos.val q.toNat s),
    fun s meas h hhold hjudged hphase hmine hmeas hair hcode hworks => ⟨_, congrArg Host.Outcome.next
      (lmeas_sends hhold hjudged hphase hmine hmeas hair hcode hworks meas), _, s.measured_scales h meas,
      State.reportsAwaited_spec (s.measured_airOnly h meas) h _⟩,
    fun s pos f b h x hhold hcrc hx hphase hsub hradio hfirst hslot hn hlen hmac => congrArg Host.Outcome.next
      (rptReceive_good hhold hcrc hx hphase hsub hradio hfirst hslot hn hlen hmac),
    fun s pos f hcrc => congrArg Host.Outcome.next (rptReceive_of_bad_crc hcrc pos.val s),
    fun s k hd h hhold hphase hret hcoll hnone => congrArg Host.Outcome.next (lfReturnReceive_collided hphase hret hcoll hhold hnone),
    fun s k hd hsilent => congrArg Host.Outcome.next (lfReturnReceive_of_silence hsilent),
    fun s k hd f b h hhold hphase hret hcoll hf hlen hb htype hstate => congrArg Host.Outcome.next
      (lfReturnReceive_unknown hphase hret hcoll hhold hf hlen hb htype hstate),
    fun s k hd f b h hhold hphase hret hcoll hf hlen hb htype hstate hnew hcheck hmac => ⟨_, congrArg Host.Outcome.next
      (lfReturnReceive_joins hphase hret hcoll hhold hf hlen hb htype hstate hnew hcheck hmac), s.returnJoined_spec h k.val _ _ _⟩,
    fun s a b x y ha hb hla hlb hx hy hlt => State.strongest_of_two ha hb hla hlb hx hy hlt, fun s hd hnone => State.strongest_of_none_live hnone⟩
  rw [State.lastRssi, State.get_put_same _ _ _ (by decide) (by decide)]
  exact Nat.mod_eq_of_lt q.rssi.isLt

end Sys2Proof.Machine
end

section
/-! SUPPORT. The queue for the LF air (R139 to R141, R150): which request is served next, what a request that joins the queue leaves as it is, and how
LF_REQUEST and LFT_EXCHANGE come to wait in it. -/
namespace Sys2Proof.Machine

open Sys2Proof

/-! ## The request served next (R140, R141) -/

theorem nextLf_isSome {q : List LfReq} (h : q ≠ []) : (nextLf q).isSome = true := by
  cases q with
  | nil => exact absurd rfl h
  | cons x q =>
    rw [nextLf]
    split
    · rfl
    · split <;> rfl

/-- Every request before the one served next is of a lower class, and none after it is of a higher one. -/
theorem nextLf_split {q : List LfReq} {r : LfReq} (h : nextLf q = some r) :
    ∃ a b, q = a ++ r :: b ∧ (∀ k ∈ a, r.cls < k.cls) ∧ ∀ k ∈ b, r.cls ≤ k.cls := by
  induction q generalizing r with
  | nil => cases h
  | cons x q ih =>
    rw [nextLf] at h
    cases hq : nextLf q with
    | none =>
      have hempty : q = [] := by_contra fun hne => by simpa [hq] using nextLf_isSome hne
      rw [hq] at h
      cases h
      exact ⟨[], [], by rw [hempty]; rfl, by simp, by simp⟩
    | some k =>
      obtain ⟨a, b, hsplit, ha, hb⟩ := ih hq
      rw [hq] at h
      dsimp only at h
      split at h
      · next hlt =>
        cases h
        exact ⟨x :: a, b, by rw [hsplit]; rfl, List.forall_mem_cons.mpr ⟨hlt, ha⟩, hb⟩
      · next hle =>
        cases h
        have hk : x.cls ≤ k.cls := Nat.not_lt.mp hle
        have hrest : ∀ j ∈ a ++ k :: b, k.cls ≤ j.cls :=
          List.forall_mem_append.mpr ⟨fun j hj => (ha j hj).le, List.forall_mem_cons.mpr ⟨le_rfl, hb⟩⟩
        exact ⟨[], q, rfl, by simp, fun j hj => hk.trans (hrest j (hsplit ▸ hj))⟩

/-- LFT exchanges and requests to start come first, doors and RKE confirmations next, then the host's requests and candle polls. -/
theorem lfClass_spec : lfClass 1 false = 1 ∧ (∀ code, lfClass code true = 1)
    ∧ (∀ code, 2 ≤ code → code ≤ 0x0A → lfClass code false = 2) ∧ lfClass 0x0B false = 3 ∧ lfClass 0 false = 4 := by
  refine ⟨rfl, fun _ => rfl, fun code hlo hhi => ?_, rfl, rfl⟩
  unfold lfClass
  rw [if_neg (by simp; omega), if_neg (by omega), if_neg (by omega)]

/-! ## What a request that joins the queue leaves as it is (R140, R141) -/

/-- The queue of the LF air, the work of the host interface, the fuses and the vault stay as they are. -/
def State.queueKept (s t : State) : Prop := t.lf.queue = s.lf.queue ∧ t.hif = s.hif ∧ t.fuses = s.fuses ∧ t.vault = s.vault

theorem State.queueKept_refl (s : State) : s.queueKept s := ⟨rfl, rfl, rfl, rfl⟩

theorem State.queueKept.trans {s t u : State} (h : s.queueKept t) (h' : t.queueKept u) : s.queueKept u := by
  obtain ⟨hqueue, hhif, hfuses, hvault⟩ := h
  obtain ⟨hqueue', hhif', hfuses', hvault'⟩ := h'
  exact ⟨hqueue'.trans hqueue, hhif'.trans hhif, hfuses'.trans hfuses, hvault'.trans hvault⟩

theorem State.rfIdle_radioOnly (s : State) : s.radioOnly s.rfIdle := by
  unfold State.rfIdle
  split_ifs
  · exact s.radioOnly_refl.put _ _
  · exact s.radioOnly_refl.put _ _
  · exact ((s.radioOnly_refl.put _ _).put _ _).put _ _
  · exact s.radioOnly_refl.put _ _

theorem State.radioOnly.trans {s t u : State} (h : s.radioOnly t) (h' : t.radioOnly u) : s.radioOnly u := by
  unfold State.radioOnly at *
  rw [h', h]

theorem State.dropOnAir_radioOnly (s : State) : s.radioOnly s.dropOnAir := by
  unfold State.dropOnAir
  split
  · split
    · exact s.radioOnly_refl
    · exact (s.radioOnly_refl.withRf _).trans (State.rfIdle_radioOnly _)
  · exact s.radioOnly_refl

/-- A candle poll that is cut leaves the waiting requests in their places. -/
theorem State.cutCandle_queueKept (s : State) : s.queueKept s.cutCandle := by
  unfold State.cutCandle
  split
  · exact s.queueKept_refl
  · dsimp only
    split
    · rw [State.dropOnAir_radioOnly]
      exact ⟨rfl, rfl, rfl, rfl⟩
    · exact s.queueKept_refl

/-- A vote changes of LF only the time awake of its calibration (R133). -/
theorem State.raiseVote_lf (s : State) (c i : Nat) (doze : Bool) :
    (s.raiseVote c i doze).lf = { s.lf with calMt := (s.raiseVote c i doze).lf.calMt } := by
  unfold State.raiseVote
  split
  · rfl
  · extract_lets rest pwr1 s1 s2 pwr2 lf2 s3
    have h2 : s2.lf = s.lf := by simp [s2, s1]
    have h3 : s3.lf = { s.lf with calMt := s3.lf.calMt } := by
      simp only [s3]
      split
      · simp [lf2, h2]
      · rw [h2]
    split
    · simpa using h3
    · exact h3

theorem State.raiseVote_queueKept (s : State) (c i : Nat) (doze : Bool) : s.queueKept (s.raiseVote c i doze) :=
  ⟨by rw [State.raiseVote_lf], by simp, by simp, by simp⟩

theorem State.airVotes_queueKept (s : State) (pair : Bool) : s.queueKept (s.airVotes pair) := by
  have hisl := (s.raiseVote_queueKept 0 10 false).trans (State.raiseVote_queueKept _ 0 9 false)
  unfold State.airVotes
  dsimp only
  split
  · exact hisl.trans (State.raiseVote_queueKept _ _ _ _)
  · exact hisl

theorem State.airVotes_lf (s : State) (pair : Bool) : ∃ m, (s.airVotes pair).lf = { s.lf with calMt := m } := by
  unfold State.airVotes
  dsimp only
  split
  · exact ⟨_, by rw [State.raiseVote_lf, State.raiseVote_lf, State.raiseVote_lf]⟩
  · exact ⟨_, by rw [State.raiseVote_lf, State.raiseVote_lf]⟩

/-! ## Joining the queue (R139, R140) -/

/-- The state with a request last in the queue. -/
def State.joined (s : State) (r : LfReq) : State := { s with lf := { s.lf with queue := s.lf.queue ++ [r] } }

theorem State.pushLf_full {s : State} (h : 8 ≤ s.lf.queue.length) (r : LfReq) :
    s.pushLf r = ((s.event F.LF_EVT_QUEUE_FULL).reason .lf 0x050B, 0x050B) := if_pos h

theorem State.pushLf_room {s : State} (h : s.lf.queue.length < 8) (r : LfReq) : ∃ t, s.pushLf r = (t, 0) ∧ (s.joined r).queueKept t := by
  refine ⟨(if r.cls < 4 then (s.joined r).cutCandle else s.joined r).touch, if_neg (Nat.not_le.mpr h), ?_⟩
  have hcut : (s.joined r).queueKept (if r.cls < 4 then (s.joined r).cutCandle else s.joined r) := by
    split
    · exact State.cutCandle_queueKept _
    · exact State.queueKept_refl _
  exact hcut

theorem State.raiseRequest_disabled {s : State} (h : s.enabled .tok = false) (r : LfReq) : s.raiseRequest r = (s, 0x0131) := by
  simp [State.raiseRequest, h]

/-- With TOK enabled, a plan for a passive request and room in the queue, a request joins it. -/
theorem State.raiseRequest_joins {s : State} {r : LfReq} (htok : s.enabled .tok = true) (hplan : r.lft = true ∨ (s.planOf r.code).isSome = true)
    (hroom : s.lf.queue.length < 8) : ∃ t, s.raiseRequest r = (t, 0) ∧ (s.joined r).queueKept t := by
  obtain ⟨t, hpush, hkept⟩ := State.pushLf_room hroom r
  have hplan' : ¬ (!r.lft && (s.planOf r.code).isNone) = true := by
    rcases hplan with h | h
    · simp [h]
    · simp [Option.isSome_iff_ne_none.mp h]
  refine ⟨if r.lft then t.raiseVote 0 10 false else t.airVotes true, ?_, ?_⟩
  · unfold State.raiseRequest
    rw [if_neg (by simp [htok]), if_neg hplan', hpush]
    rfl
  · split
    · exact hkept.trans (t.raiseVote_queueKept 0 10 false)
    · exact hkept.trans (t.airVotes_queueKept true)

/-! ## LF_REQUEST and LFT_EXCHANGE (R140, R150) -/

theorem State.begun_enabled (s : State) (opcode : Nat) (input : Bytes) (u : Subsys) : (s.begun opcode input).enabled u = s.enabled u :=
  State.enabled_of_reg (State.reg_put_other _ (by decide) _) u

theorem hostRequestOp_disabled {s : State} (h : s.enabled .tok = false) (lft : Bool) : hostRequestOp lft s = (s, 0x0131, []) := by
  unfold hostRequestOp
  rw [State.raiseRequest_disabled h]
  rfl

/-- A host command whose request joins the queue waits with it. -/
theorem hostRequest_waits {s : State} {opcode : Nat} {lft : Bool} (hready : s.mbReady opcode []) (htok : s.enabled .tok = true)
    (hplan : lft = true ∨ (s.planOf 0x0B).isSome = true) (hroom : s.lf.queue.length < 8) (ho : opcode < 65536 := by decide) :
    let t := mailboxCommand opcode [] (hostRequestOp lft) s
    t.lf.queue = s.lf.queue ++ [hostReq lft] ∧ t.hif.executing = some (mbCommand opcode []) ∧ t.fuses = s.fuses ∧ t.vault = s.vault := by
  obtain ⟨t, hraise, hqueue, hhif, hfuses, hvault⟩ := State.raiseRequest_joins (s := s.begun opcode []) (r := hostReq lft)
    ((s.begun_enabled opcode [] .tok).trans htok) hplan hroom
  have hwaits : hostRequestOp lft (s.begun opcode []) = (t, mbDeferred, []) := by
    unfold hostRequestOp
    rw [hraise]
    rfl
  dsimp only
  rw [mailboxCommand_defers opcode [] _ s t [] ho hready hwaits]
  exact ⟨hqueue, by rw [hhif]; rfl, hfuses, hvault⟩

end Sys2Proof.Machine
end

section
/-! SUPPORT. Taking the LF air (R103, R141, R144, R145, R149): what the radio gives up for it, what the wake frame and the candle schedule leave
as they are, and what a grant and a poll begin. -/
namespace Sys2Proof.Machine

open Sys2Proof

/-! ## Fields that stay as they are -/

theorem keepsFields.mono {s t : State} {l l' : List Field} (h : keepsFields s t l) (hl : l ⊆ l') : keepsFields s t l' :=
  fun f hf hapart => h f hf fun g hg => hapart g (hl hg)

theorem keepsFields.trans {s t u : State} {l : List Field} (h : keepsFields s t l) (h' : keepsFields t u l) : keepsFields s u l :=
  fun f hf hapart => (h' f hf hapart).trans (h f hf hapart)

theorem keepsFields.flag {s t : State} {l : List Field} (h : keepsFields s t l) {f : Field} (hf : f.hi < 32)
    (hapart : ∀ g ∈ l, f.off ≠ g.off ∨ f.hi < g.lo ∨ g.hi < f.lo) : t.flag f = s.flag f := by
  rw [State.flag, h f hf hapart, ← State.flag]

/-! ## What the radio gives up, and a window in its queue (R168, R175, R178) -/

/-- The fields that show a calibration or a test that ends, and a command that joins the radio's queue or is refused. -/
def radioFields : List Field :=
  [F.RF_STAT_STATE, F.RF_STAT_CAL_BUSY, F.RF_STAT_TEST_ON, F.RF_EVT_CAL_ABORT, F.RF_CNT_CAL_ABORT, F.RF_EVT_TEST_STOP, F.RF_EVT_QUEUE_FULL,
    F.RF_EVT_LATE, F.RF_CNT_LATE, F.RF_REASON_REASON]

section
variable {s t : State} (h : keepsFields s t radioFields)
include h

theorem keepsFields.radioPut {f : Field} (hf : f ∈ radioFields) (v : Nat) : keepsFields s (t.put f v) radioFields := by
  have hlo : ∀ f ∈ radioFields, f.lo ≤ f.hi := by decide
  exact keepsFields_put h hf (hlo f hf) v

theorem State.abandonCal_keeps : keepsFields s t.abandonCal radioFields := by
  unfold State.abandonCal
  split
  · split
    · exact h
    · exact (((((keepsFields_of_regs h rfl).radioPut (by decide) _).radioPut (by decide) _).radioPut (by decide) _).radioPut (by decide) _).radioPut
        (by decide) _
  · exact h

theorem State.endTest_keeps : keepsFields s t.endTest radioFields := by
  unfold State.endTest
  split
  · exact ((keepsFields_of_regs h rfl).radioPut (by decide) _).radioPut (by decide) _
  · exact h

theorem State.radioYields_keeps : keepsFields s t.radioYields radioFields := by
  have hended := State.endTest_keeps (State.abandonCal_keeps h)
  exact keepsFields_ite (hended.radioPut (by decide) _) hended

theorem State.queueRadio_keeps (c : RadioCmd) : keepsFields s (t.queueRadio c).1 radioFields := by
  unfold State.queueRadio
  dsimp only
  split
  · exact h
  · split
    · exact ((h.radioPut (by decide) _).radioPut (by decide) _).radioPut (by decide) _
    · split
      · exact ((h.radioPut (by decide) _).radioPut (by decide) _).radioPut (by decide) _
      · have hqueued := fun q => keepsFields_of_regs (u := { t.abandonCal with rf := q }) (State.abandonCal_keeps h) rfl
        exact keepsFields_ite ((hqueued _).radioPut (by decide) _) (hqueued _)

end

theorem State.radioYields_radioOnly (s : State) : s.radioOnly s.radioYields := by
  have hended : s.radioOnly s.abandonCal.endTest := by
    unfold State.endTest
    split
    · exact ((s.abandonCal_radioOnly.withRf _).put _ _).put _ _
    · exact s.abandonCal_radioOnly
  unfold State.radioYields
  dsimp only
  split
  · exact hended.put _ _
  · exact hended

@[simp] theorem State.radioYields_tok (s : State) : s.radioYields.tok = s.tok := by rw [State.radioYields_radioOnly]

/-! ## Frames on the LF air (R129, R132, R134) -/

/-- What a frame changes in the working state of LF: the carrier uses, the last frames and the channels' corrections. -/
def State.frameWork (s t : State) : Prop :=
  t.lf = { s.lf with uses := t.lf.uses, frames := t.lf.frames, corr := t.lf.corr, drive := t.lf.drive }

theorem State.frameWork_refl (s : State) : s.frameWork s := rfl

namespace State.frameWork
variable {s t u : State} (h : s.frameWork t)
include h

theorem trans (h' : t.frameWork u) : s.frameWork u := by
  unfold State.frameWork at *
  rw [h', h]

theorem foldl {β : Type} {l : List β} {f : State → β → State} (hf : ∀ (t : State) (x : β), t.frameWork (f t x)) :
    s.frameWork (l.foldl f t) := by
  induction l generalizing t with
  | nil => exact h
  | cons x l ih => exact ih (h.trans (hf t x))

end State.frameWork

theorem State.frameOn_frameWork (s : State) (chs : List Nat) (start : Nat) : s.frameWork (s.frameOn chs start) := rfl

theorem State.addUses_frameWork (s : State) (p start : Nat) (ps : List Piece) (k2 : Rat) : s.frameWork (s.addUses p start ps k2) := by
  unfold State.addUses
  split
  · exact s.frameWork_refl
  · rfl

theorem State.lfMeasured_frameWork (s : State) (p c : Nat) (meas : List (Nat × Nat)) : s.frameWork (s.lfMeasured p c meas) := by
  unfold State.lfMeasured
  dsimp only
  split
  · rfl
  · rfl

theorem State.sendLf_frameWork (s : State) (p start : Nat) (ps : List Piece) (meas : List (Nat × Nat)) :
    s.frameWork (s.sendLf p start ps meas).1 := by
  have hmeasured := (s.addUses_frameWork p start ps (s.thermalScale p start ps (s.capScale p))).foldl (l := s.patChannels p)
    (fun t c => t.lfMeasured_frameWork p c meas)
  have hcounted := hmeasured.foldl (l := s.patChannels p) (f := fun t c => t.bump (F.LF_CHn_FCNT_SCALED c)) (fun _ _ => rfl)
  unfold State.sendLf
  extract_lets chs cap k2 s2 s3
  have hs3 : s.frameWork s3 := by
    simp only [s3]
    split
    · exact hcounted
    · exact hmeasured
  split
  · exact hs3
  · exact hs3

/-! ## The wake frame of a first round (R103, R168) -/

/-- A request whose first wake frame is on the air. -/
def wakeHold (r : LfReq) (id p start : Nat) : Hold := { newHold r id with round := 1, pattern := p, wakeEnd := start + wakeUs }

/-- The wake frame is sent on pattern `p`, and the window of the response slots is commanded. -/
def State.woken (s : State) (r : LfReq) (id p start : Nat) (meas : List (Nat × Nat)) : State :=
  ((((s.frameOn (s.patChannels p) start).sendLf p start wakePieces meas).1.setHold (some (wakeHold r id p start))).queueWindow 8
    (start + wakeUs + 2000) 44000 .answers).commitPoint

theorem State.sendWake_first {s : State} {p : Nat} (h : s.patChannels p ≠ []) (r : LfReq) (id start : Nat) (meas : List (Nat × Nat)) :
    s.sendWake (newHold r id) p start false meas = s.woken r id p start meas := by
  have hround : ¬ ((newHold r id).req.code = 0 && (newHold r id).round ≠ 0) = true := by simp [newHold]
  unfold State.sendWake
  rw [if_neg (by simpa using h), if_neg hround]
  rfl

theorem State.flag_setHold_busy (s : State) (h : Hold) : (s.setHold (some h)).flag F.LF_STAT_BUSY = true :=
  State.flag_of_one (State.get_put_same _ _ _ (by decide) (by decide))

theorem State.woken_spec (s : State) (r : LfReq) (id p start : Nat) (meas : List (Nat × Nat)) :
    let t := s.woken r id p start meas
    t.lf.hold = some (wakeHold r id p start) ∧ t.lf.queue = s.lf.queue ∧ t.lf.pollMt = s.lf.pollMt ∧ t.tok = s.tok
      ∧ t.flag F.LF_STAT_BUSY = true := by
  have hframe := (s.frameOn_frameWork (s.patChannels p) start).trans (State.sendLf_frameWork _ p start wakePieces meas)
  have hair : s.airOnly ((s.frameOn (s.patChannels p) start).sendLf p start wakePieces meas).1 := (s.airOnly_refl.withLf _).sendLf _ _ _ _
  unfold State.woken
  generalize ((s.frameOn (s.patChannels p) start).sendLf p start wakePieces meas).1 = u at hframe hair ⊢
  unfold State.queueWindow
  generalize (⟨.rxSub 8, _, _, _, _⟩ : RadioCmd) = window
  have hkeeps := State.queueRadio_keeps (keepsFields_refl (u.setHold (some (wakeHold r id p start))) _) window
  have hradio := State.queueRadio_radioOnly (u.setHold (some (wakeHold r id p start))) window
  generalize ((u.setHold (some (wakeHold r id p start))).queueRadio window).1 = v at hradio hkeeps ⊢
  have hbusy : v.flag F.LF_STAT_BUSY = true := (hkeeps.flag (by decide) (by decide)).trans (u.flag_setHold_busy _)
  have hlf : v.lf = { u.lf with hold := some (wakeHold r id p start) } := by rw [hradio]; rfl
  have htok : v.tok = s.tok := by rw [hradio, State.setHold, State.putFlag, State.put_tok, hair]
  refine ⟨congrArg Lf.hold hlf, ?_, ?_, htok, hbusy⟩
  · rw [State.commitPoint_lf, hlf, hframe]
  · rw [State.commitPoint_lf, hlf, hframe]

/-! ## What the choice of a frame reads (R108, R134, R135) -/

/-- The fields that change on the way to a first frame: the radio's, the votes for its islands, the count of polls and the DRBG's. -/
def grantFields : List Field :=
  [wholeReg R.SYM_DRBG, F.LF_CANDLE_CNT_POLLS, F.PWR_VOTEn_CLIENTS 9, F.PWR_VOTEn_CLIENTS 10, F.PWR_EVT_STBY_EXIT] ++ radioFields

theorem State.lfSec_of_sys {s t : State} (h : t.sys = s.sys) : t.lfSec = s.lfSec := by
  unfold State.lfSec State.section?
  rw [h]

section
variable {s t : State} (h : keepsFields s t grantFields) (hsys : t.sys = s.sys)
include h

theorem State.enabled_of_grant (u : Subsys) : t.enabled u = s.enabled u := State.enabled_of_reg (h.reg (by decide)) u

include hsys

/-- A working channel stays one. -/
theorem State.chWorks_of_grant {c : Nat} (hc : c < 8) : t.chWorks c = s.chWorks c := by
  have hfailed : t.flag (F.LF_CHn_STAT_FAILED c) = s.flag (F.LF_CHn_STAT_FAILED c) := by
    refine h.flag (by decide : (1 : Nat) < 32) ?_
    interval_cases c <;> decide
  have hoff : t.flag (F.LF_CHn_CTL_OFF c) = s.flag (F.LF_CHn_CTL_OFF c) := by
    refine h.flag (by decide : (0 : Nat) < 32) ?_
    interval_cases c <;> decide
  have hvant : t.flag F.LF_STAT_VANT_OK = s.flag F.LF_STAT_VANT_OK := h.flag (by decide) (by decide)
  have hover : t.flag F.PWR_STAT_OVERVOLT = s.flag F.PWR_STAT_OVERVOLT := h.flag (by decide) (by decide)
  rw [State.chWorks, State.chWorks, State.gateDrive, State.gateDrive, State.enabled_of_grant h, hfailed, hoff, hvant, hover,
    State.lfSec_of_sys hsys]

theorem State.patChannels_of_grant (p : Nat) : t.patChannels p = s.patChannels p := by
  unfold State.patChannels State.patRec
  refine List.filter_congr fun c hc => ?_
  rw [State.lfSec_of_sys hsys, State.chWorks_of_grant h hsys (List.mem_range.mp hc)]

theorem State.thermalScale_of_grant (huses : t.lf.uses = s.lf.uses) (p start : Nat) (ps : List Piece) (k2 : Rat) :
    t.thermalScale p start ps k2 = s.thermalScale p start ps k2 := by
  have hframe : ∀ c k, t.frameUses p c start k ps = s.frameUses p c start k ps := fun c k => by
    simp only [State.frameUses, State.patAmp, State.patRec, State.imax, State.lfSec_of_sys hsys]
  have hgate : t.gateDrive = s.gateDrive := by rw [State.gateDrive, State.lfSec_of_sys hsys, ← State.gateDrive]
  unfold State.thermalScale
  rw [hgate, huses, State.patChannels_of_grant h hsys]
  simp only [hframe]

omit hsys in
theorem State.lfOnlyNow_of_grant (candle : Bool) : t.lfOnlyNow candle = s.lfOnlyNow candle := by
  have hrc : t.flag F.PWR_STAT_REF_RC = s.flag F.PWR_STAT_REF_RC := h.flag (by decide) (by decide)
  have hsub : t.flag F.RF_STAT_SUB_OK = s.flag F.RF_STAT_SUB_OK := h.flag (by decide) (by decide)
  have htx : t.flag F.RF_STAT_TX24_OK = s.flag F.RF_STAT_TX24_OK := h.flag (by decide) (by decide)
  have hisl : t.reg R.PWR_ISL_STATE = s.reg R.PWR_ISL_STATE := h.reg (by decide)
  simp only [State.lfOnlyNow, State.onRc, State.islandFailed, State.island, State.enabled_of_grant h, hrc, hsub, htx, hisl]

end

/-! ## A request that leaves the queue for the air (R141, R175, R178) -/

/-- The state without a request in the queue. -/
def State.dequeued (s : State) (r : LfReq) : State := { s with lf := { s.lf with queue := s.lf.queue.erase r } }

/-- A request has left the queue for the air: the radio gives up what it was at, and the request has its record. -/
def State.granted (s : State) (r : LfReq) : State :=
  ((s.dequeued r).radioYields.openRequest r.code (if r.lft then 2 else 0) r.host r.confirm).1

theorem State.granted_keeps (s : State) (r : LfReq) : keepsFields s (s.granted r) radioFields :=
  keepsFields_of_regs (State.radioYields_keeps (t := s.dequeued r) (keepsFields_of_regs (keepsFields_refl s _) rfl)) rfl

theorem State.granted_frame (s : State) (r : LfReq) : s.granted r = { s with
    regs := (s.granted r).regs, rf := (s.granted r).rf, lf := { s.lf with queue := s.lf.queue.erase r }
    tok := { s.tok with nextReq := s.tok.nextReq + 1, requests := (s.granted r).tok.requests } } := by
  have hradio := State.radioYields_radioOnly (s.dequeued r)
  unfold State.granted
  rw [hradio]
  rfl

/-! ## The start of an LFT exchange (R102, R149) -/

theorem State.startLft_spec {s : State} {h : Hold} (hlearn : h.req.learn = false) :
    let t := s.startLft h
    t.lf.hold = some { h with phase := .lft, c := s.drawn 16, tries := 1, badCrc := false } ∧ t.lf.queue = s.lf.queue
      ∧ t.tok.sent = s.areq (s.drawn 16) ∧ t.tok.nextReq = s.tok.nextReq ∧ t.sym = (s.fresh 16).sym ∧ t.flag F.LF_STAT_BUSY = true := by
  have hstart : s.startLft h = (((s.fresh 16).setHold (some { h with phase := .lft, c := s.drawn 16, tries := 1, badCrc := false })).tokSent
      (((s.fresh 16).setHold (some { h with phase := .lft, c := s.drawn 16, tries := 1, badCrc := false })).areq (s.drawn 16))).commitPoint := by
    unfold State.startLft
    rw [hlearn]
    rfl
  have hbusy := (s.fresh 16).flag_setHold_busy { h with phase := .lft, c := s.drawn 16, tries := 1, badCrc := false }
  have hfresh : s.fresh 16 = _ := s.generated_frame 16 false
  dsimp only
  rw [hstart]
  generalize s.fresh 16 = u at hfresh hbusy ⊢
  refine ⟨rfl, ?_, ?_, ?_, rfl, hbusy⟩
  all_goals
    rw [hfresh]
    rfl

theorem State.generated_sym (s : State) (n : Nat) (pr : Bool) : (s.generated n pr).sym
    = (let k := (Crypto.drbgGenerate (s.drbgReady pr) n).2
      if s.reseeds pr then { s.sym with drbgKey := k.1, drbgV := k.2, seedMt := s.mt, seed := none }
      else { s.sym with drbgKey := k.1, drbgV := k.2 }) := by
  unfold State.generated
  dsimp only
  split <;> rfl

/-- The radio's work for the air leaves the DRBG as it is. -/
theorem State.granted_drawn (s : State) (r : LfReq) (n : Nat) :
    (s.granted r).drawn n = s.drawn n ∧ ((s.granted r).fresh n).sym = (s.fresh n).sym := by
  have hkeeps := s.granted_keeps r
  have hframe := s.granted_frame r
  generalize s.granted r = u at hkeeps hframe ⊢
  have hsym : u.sym = s.sym := by rw [hframe]
  have hdraws : u.draws = s.draws := by rw [hframe]
  have hmt : u.mt = s.mt := by rw [hframe]
  have hcount : u.reg R.SYM_DRBG = s.reg R.SYM_DRBG := hkeeps.reg (by decide)
  have hfailed : u.flag F.SYM_ENT_FAILED = s.flag F.SYM_ENT_FAILED := hkeeps.flag (by decide) (by decide)
  have hreseeds : u.reseeds false = s.reseeds false := by rw [State.reseeds, hcount, hfailed, ← State.reseeds]
  have hready : u.drbgReady false = s.drbgReady false := by
    rw [State.drbgReady, State.drbgReady, hreseeds, State.drbg, State.drbg, State.seedNow, State.seedNow, hsym, hdraws]
  refine ⟨by rw [State.drawn, State.drawn, hready], ?_⟩
  rw [State.fresh, State.fresh, State.generated_sym, State.generated_sym, hready, hreseeds, hsym, hmt]

theorem State.granted_areq (s : State) (r : LfReq) (c : Bytes) : (s.granted r).areq c = s.areq c := by
  rw [State.granted_frame]
  rfl

/-! ## LF_AIR_GRANT (R103, R141) -/

theorem lfAirGrant_of_holding {s : State} (h : s.dueHold.lf.hold.isSome = true) (meas : List (Nat × Nat)) : lfAirGrant meas s = s.dueHold := by
  unfold lfAirGrant
  simp only [h, Bool.true_or, if_true]

theorem lfAirGrant_of_no_request {s : State} (hhold : s.lf.hold = none) (hqueue : s.lf.queue = []) (meas : List (Nat × Nat)) :
    lfAirGrant meas s = s := by
  unfold lfAirGrant
  rw [State.dueHold_of_none hhold]
  dsimp only
  rw [hqueue]
  exact ite_self s

section
variable {s : State} {r : LfReq} (hhold : s.lf.hold = none) (hfree : s.lf.freeAt ≤ s.mt) (hlf : s.enabled .lf = true) (htok : s.enabled .tok = true)
  (hpower : s.flag F.PWR_STAT_BROWNOUT = false) (hcommit : s.tok.commitWait = none) (hload : s.reloadsAir = false)
  (hnext : nextLf (s.lf.queue.filter (fun r => r.lft || s.radioSettled)) = some r) (meas : List (Nat × Nat))
include hhold hfree hlf htok hpower hcommit hload hnext

/-- The next request takes a free air: an LFT exchange begins with AREQ, a passive request with its wake frame. -/
theorem lfAirGrant_takes : lfAirGrant meas s = (if r.lft then (s.granted r).startLft (newHold r s.tok.nextReq) else
    (s.granted r).sendWake (newHold r s.tok.nextReq)
      (if (s.granted r).lfOnlyNow false then (((s.granted r).planOf r.code).getD (0, 0)).2 else (((s.granted r).planOf r.code).getD (0, 0)).1)
      (s.granted r).mt ((s.granted r).lfOnlyNow false) meas) := by
  have hid : (s.dequeued r).radioYields.tok.nextReq = s.tok.nextReq := by rw [State.radioYields_tok]; rfl
  rw [← hid]
  unfold lfAirGrant
  rw [State.dueHold_of_none hhold]
  dsimp only
  rw [if_neg (by simp [hhold, hfree, hlf, htok, hpower, hcommit, hload]), hnext]
  rfl

/-- Where the next request is an LFT exchange, AREQ with a fresh challenge goes out. -/
theorem lfAirGrant_lft (hlft : r.lft = true) (hlearn : r.learn = false) :
    let t := lfAirGrant meas s
    t.lf.hold = some { newHold r s.tok.nextReq with phase := .lft, c := s.drawn 16, tries := 1 } ∧ t.lf.queue = s.lf.queue.erase r
      ∧ t.tok.sent = s.areq (s.drawn 16) ∧ t.tok.nextReq = s.tok.nextReq + 1 ∧ t.sym = (s.fresh 16).sym ∧ t.flag F.LF_STAT_BUSY = true := by
  obtain ⟨hdrawn, hsym⟩ := s.granted_drawn r 16
  obtain ⟨hheld, hqueue, hsent, hcount, hseed, hbusy⟩ := State.startLft_spec (s := s.granted r) (h := newHold r s.tok.nextReq) hlearn
  dsimp only
  rw [lfAirGrant_takes hhold hfree hlf htok hpower hcommit hload hnext meas, if_pos hlft]
  rw [hdrawn] at hheld hsent
  exact ⟨hheld, by rw [hqueue, State.granted_frame], by rw [hsent, State.granted_areq], by rw [hcount, State.granted_frame],
    hseed.trans hsym, hbusy⟩

/-- Where the next request is passive and the radio works, its wake frame goes out on its plan's BROAD pattern. -/
theorem lfAirGrant_passive {p : Nat × Nat} (hlft : r.lft = false) (hradio : s.lfOnlyNow false = false) (hplan : s.planOf r.code = some p)
    (hworks : s.patChannels p.1 ≠ []) :
    let t := lfAirGrant meas s
    t.lf.hold = some (wakeHold r s.tok.nextReq p.1 s.mt) ∧ t.lf.queue = s.lf.queue.erase r ∧ t.tok.nextReq = s.tok.nextReq + 1
      ∧ t.flag F.LF_STAT_BUSY = true := by
  have hkeeps := (s.granted_keeps r).mono (List.subset_append_right _ _ : radioFields ⊆ grantFields)
  have hframe := s.granted_frame r
  have hgrant := lfAirGrant_takes hhold hfree hlf htok hpower hcommit hload hnext meas
  generalize s.granted r = u at hkeeps hframe hgrant ⊢
  have hsys : u.sys = s.sys := by rw [hframe]
  have hmt : u.mt = s.mt := by rw [hframe]
  have hplan' : u.planOf r.code = some p := by rw [← hplan, hframe]; rfl
  rw [hlft, if_neg Bool.false_ne_true, State.lfOnlyNow_of_grant hkeeps, hradio, if_neg Bool.false_ne_true, hplan', hmt, Option.getD_some,
    State.sendWake_first (by rwa [State.patChannels_of_grant hkeeps hsys])] at hgrant
  obtain ⟨hheld, hqueue, -, hcount, hbusy⟩ := u.woken_spec r s.tok.nextReq p.1 s.mt meas
  dsimp only
  rw [hgrant]
  exact ⟨hheld, by rw [hqueue, hframe], by rw [hcount, hframe], hbusy⟩

end

/-! ## The candle schedule (R144, R145) -/

/-- The interval is over: the jitter of the next one is drawn. -/
def State.pollDrawn (s : State) : State := { s.fresh 4 with lf := { s.lf with pollMt := s.mt, pollJit := beNat (s.drawn 4) } }

/-- A poll is counted and takes the air: the islands are voted for, the radio gives up what it was at, and the poll has its record. -/
def State.pollOpened (s : State) : State :=
  ((((s.bump F.LF_CANDLE_CNT_POLLS).airVotes false).touch).radioYields.openRequest 0 0 false none).1

theorem State.pollDrawn_frame (s : State) : s.pollDrawn = { s with
    draws := s.pollDrawn.draws, regs := s.pollDrawn.regs, sym := s.pollDrawn.sym
    lf := { s.lf with pollMt := s.mt, pollJit := beNat (s.drawn 4) } } := by
  have hfresh : s.fresh 4 = _ := s.generated_frame 4 false
  unfold State.pollDrawn
  rw [hfresh]

theorem State.pollDrawn_keeps (s : State) : keepsFields s s.pollDrawn [wholeReg R.SYM_DRBG] := by
  have hset : ∀ (t : State) (v : Nat), t.regs = s.regs → keepsFields s (t.setReg R.SYM_DRBG v) [wholeReg R.SYM_DRBG] := fun t v hregs =>
    keepsFields_setReg (keepsFields_of_regs (keepsFields_refl s _) hregs) (by simp) v
  refine keepsFields_of_regs (t := s.fresh 4) ?_ rfl
  unfold State.fresh State.generated
  dsimp only
  split
  · exact hset _ _ rfl
  · exact hset _ _ rfl

/-- A vote for one of the islands of the air shows in that island's votes, and in PWR_EVT where it ends STANDBY. -/
theorem State.raiseVote_keeps {s t : State} (h : keepsFields s t grantFields) {i : Nat} (hi : i = 9 ∨ i = 10) :
    keepsFields s (t.raiseVote 0 i false) grantFields := by
  have hown : ∀ u : State, ¬ i = 1 + u.activePair := fun u => by
    have hlt := u.activePair_lt
    omega
  have hvote : F.PWR_VOTEn_CLIENTS i ∈ grantFields := by
    rcases hi with rfl | rfl
    · decide
    · decide
  unfold State.raiseVote
  split
  · exact h
  · extract_lets rest pwr1 s1 s2 pwr2 lf2 s3
    have h1 : keepsFields s s1 grantFields := keepsFields_put (keepsFields_of_regs h rfl) hvote (Nat.zero_le _) _
    have h2 : keepsFields s s2 grantFields := keepsFields_of_regs h1 (by
      simp only [s2]
      rw [State.voteInEntry_regs _ (by decide), State.beginRestore_regs])
    have h3 : keepsFields s s3 grantFields :=
      keepsFields_ite (keepsFields_put (keepsFields_of_regs h2 rfl) (by decide) (by decide) _) h2
    rw [if_neg (by simp [hown])]
    exact h3

theorem State.airVotes_false_keeps {s t : State} (h : keepsFields s t grantFields) : keepsFields s (t.airVotes false) grantFields :=
  State.raiseVote_keeps (State.raiseVote_keeps h (.inr rfl)) (.inl rfl)

theorem State.pollOpened_keeps (s : State) : keepsFields s s.pollOpened grantFields := by
  have hcount : keepsFields s (s.bump F.LF_CANDLE_CNT_POLLS) grantFields := keepsFields_put (keepsFields_refl s _) (by decide) (by decide) _
  have hvotes : keepsFields s ((s.bump F.LF_CANDLE_CNT_POLLS).airVotes false).touch grantFields :=
    keepsFields_of_regs (State.airVotes_false_keeps hcount) rfl
  have hradio := State.radioYields_keeps (keepsFields_refl ((s.bump F.LF_CANDLE_CNT_POLLS).airVotes false).touch _)
  exact hvotes.trans (hradio.mono (List.subset_append_right _ _))

theorem State.pollOpened_rest (s : State) : s.pollOpened.sys = s.sys ∧ s.pollOpened.mt = s.mt ∧ s.pollOpened.lf.pollMt = s.lf.pollMt
    ∧ s.pollOpened.tok.nextReq = s.tok.nextReq + 1 := by
  have hradio := State.radioYields_radioOnly ((s.bump F.LF_CANDLE_CNT_POLLS).airVotes false).touch
  have hvotes : ((s.bump F.LF_CANDLE_CNT_POLLS).airVotes false).lf.pollMt = s.lf.pollMt := by
    obtain ⟨m, hm⟩ := State.airVotes_lf (s.bump F.LF_CANDLE_CNT_POLLS) false
    rw [hm]
    rfl
  unfold State.pollOpened
  rw [hradio]
  refine ⟨?_, ?_, hvotes, ?_⟩
  · simp [State.openRequest, State.airVotes]
  · simp [State.openRequest, State.airVotes]
  · simp [State.openRequest, State.airVotes]

/-- The poll of an interval that is over: it is skipped where the air is held, wanted or kept from it, or the budget is short, and else begins. -/
def State.pollNow (s : State) (p : Nat × Nat) (meas : List (Nat × Nat)) : State :=
  let only := s.lfOnlyNow true
  let pat := if only then p.2 else p.1
  if s.lf.hold.isSome || decide (s.mt < s.lf.freeAt) || !s.lf.queue.isEmpty || s.flag F.PWR_STAT_BROWNOUT || s.tok.commitWait.isSome
      || s.reloadsAir || !framesFit pat (pollFrames s.mt only) s then s.skipPoll
  else s.pollOpened.sendWake (newHold candleReq s.tok.nextReq) pat s.pollOpened.mt only meas

theorem State.pollNow_of_wanted {s : State} (h : s.lf.queue ≠ []) (p : Nat × Nat) (meas : List (Nat × Nat)) : s.pollNow p meas = s.skipPoll :=
  if_pos (by simp [h])

theorem State.pollNow_begins {s : State} {p : Nat × Nat} (hhold : s.lf.hold = none) (hqueue : s.lf.queue = []) (hfree : s.lf.freeAt ≤ s.mt)
    (hpower : s.flag F.PWR_STAT_BROWNOUT = false) (hcommit : s.tok.commitWait = none) (hload : s.reloadsAir = false)
    (hradio : s.lfOnlyNow true = false) (hfit : framesFit p.1 [(s.mt, wakePieces)] s = true) (hworks : s.patChannels p.1 ≠ [])
    (meas : List (Nat × Nat)) : s.pollNow p meas = s.pollOpened.woken candleReq s.tok.nextReq p.1 s.mt meas := by
  obtain ⟨hsys, hmt, -, -⟩ := s.pollOpened_rest
  have hfit' : framesFit p.1 (pollFrames s.mt false) s = true := hfit
  unfold State.pollNow
  rw [hradio]
  dsimp only
  rw [if_neg Bool.false_ne_true, if_neg (by simp [hhold, hqueue, hfree, hpower, hcommit, hload, hfit']), hmt,
    State.sendWake_first (by rwa [State.patChannels_of_grant s.pollOpened_keeps hsys])]

theorem candlePoll_of_waiting {s : State} (hhold : s.lf.hold = none) (h : s.candleRuns = false ∨ s.pollDue = false) (meas : List (Nat × Nat)) :
    candlePoll meas s = s := by
  unfold candlePoll
  rw [State.dueHold_of_none hhold]
  exact if_pos (by rcases h with h | h <;> simp [h])

section
variable {s : State} (hhold : s.lf.hold = none) (hruns : s.candleRuns = true) (hdue : s.pollDue = true) (meas : List (Nat × Nat))
include hhold hruns hdue

theorem candlePoll_due : candlePoll meas s = s.pollDrawn.pollNow ((s.plan 0).getD (0, 0)) meas := by
  have hid : ((s.pollDrawn.bump F.LF_CANDLE_CNT_POLLS).airVotes false).touch.radioYields.tok.nextReq = s.pollDrawn.tok.nextReq := by
    simp [State.airVotes]
  unfold candlePoll State.pollNow
  rw [State.dueHold_of_none hhold, ← hid]
  dsimp only
  rw [if_neg (by simp [hruns, hdue])]
  rfl

/-- Where a request waits for the air, the poll is skipped: its reason shows it, and the next interval has begun. -/
theorem candlePoll_skips (hqueue : s.lf.queue ≠ []) :
    let t := candlePoll meas s
    t.get F.LF_REASON_REASON = 0x050C ∧ t.lf = { s.lf with pollMt := s.mt, pollJit := beNat (s.drawn 4) }
      ∧ t = { s with regs := t.regs, draws := t.draws, sym := t.sym, lf := t.lf } := by
  have hframe := s.pollDrawn_frame
  have hwanted : s.pollDrawn.lf.queue ≠ [] := hqueue
  dsimp only
  rw [candlePoll_due hhold hruns hdue meas, State.pollNow_of_wanted hwanted]
  refine ⟨State.get_put_same _ _ _ (by decide) (by decide), rfl, ?_⟩
  generalize s.pollDrawn = d at hframe ⊢
  rw [hframe]
  rfl

/-- A poll takes a free air where the radio works and the budget allows its wake frame at full amplitude. -/
theorem candlePoll_polls {p : Nat × Nat} (hqueue : s.lf.queue = []) (hfree : s.lf.freeAt ≤ s.mt)
    (hpower : s.flag F.PWR_STAT_BROWNOUT = false) (hcommit : s.tok.commitWait = none) (hload : s.reloadsAir = false)
    (hplan : s.plan 0 = some p) (hradio : s.lfOnlyNow true = false) (hfit : framesFit p.1 [(s.mt, wakePieces)] s = true)
    (hworks : s.patChannels p.1 ≠ []) :
    let t := candlePoll meas s
    t.lf.hold = some (wakeHold candleReq s.tok.nextReq p.1 s.mt) ∧ t.tok.nextReq = s.tok.nextReq + 1 ∧ t.lf.pollMt = s.mt := by
  have hdrawn : keepsFields s s.pollDrawn grantFields := s.pollDrawn_keeps.mono (by simp [grantFields])
  have hpoll := candlePoll_due hhold hruns hdue meas
  have hframe := s.pollDrawn_frame
  rw [hplan, Option.getD_some] at hpoll
  dsimp only
  rw [hpoll]
  generalize s.pollDrawn = d at hdrawn hframe ⊢
  have hsys : d.sys = s.sys := by rw [hframe]
  have hmt : d.mt = s.mt := by rw [hframe]
  have htok : d.tok = s.tok := by rw [hframe]
  have hlf : d.lf = { s.lf with pollMt := s.mt, pollJit := beNat (s.drawn 4) } := by rw [hframe]
  have hload' : d.reloadsAir = false := by rw [← hload, hframe]; rfl
  have hfit' : framesFit p.1 [(d.mt, wakePieces)] d = true := by
    rw [← hfit, framesFit, framesFit, framesFit, framesFit, State.thermalScale_of_grant hdrawn hsys (by rw [hlf]), hmt]
  rw [State.pollNow_begins (by rwa [hlf]) (by rwa [hlf]) (by rwa [hlf, hmt]) (by rwa [hdrawn.flag (by decide) (by decide)]) (by rwa [htok]) hload'
    (by rwa [State.lfOnlyNow_of_grant hdrawn]) hfit' (by rwa [State.patChannels_of_grant hdrawn hsys]), htok, hmt]
  obtain ⟨hheld, -, hpollMt, hcount, -⟩ := d.pollOpened.woken_spec candleReq s.tok.nextReq p.1 s.mt meas
  obtain ⟨-, -, hpollMt', hcount'⟩ := d.pollOpened_rest
  exact ⟨hheld, by rw [hcount, hcount', htok], by rw [hpollMt, hpollMt', hlf]⟩

end

/-! ## O13 -/

/-- Settles O13: a request by its place in the queue, the air by the best request that waits for it, a poll by what holds the air when its interval is
over. -/
theorem requestsTakeTheLfAir : Obligations.RequestsTakeTheLfAir := by
  unfold Obligations.RequestsTakeTheLfAir
  refine ⟨?lfRequest, ?lftExchange, ?noTokens, ?lft, ?passive, ?idle, ?pollWaits, ?pollSkips, ?polls, lfClass_spec, fun q r => nextLf_split,
    fun q => nextLf_isSome, fun s r h => State.pushLf_full h r, ?room, ?held⟩
  case lfRequest => exact fun s hready htok hplan hroom => ⟨_, rfl, hostRequest_waits hready htok (.inr hplan) hroom⟩
  case lftExchange => exact fun s hready htok hroom => ⟨_, rfl, hostRequest_waits hready htok (.inl rfl) hroom⟩
  case noTokens =>
    exact fun s hready htok => next_mailboxCommand hready (hostRequestOp_disabled ((s.begun_enabled 0x0502 [] .tok).trans htok) true)
  case lft =>
    exact fun s meas r hhold hfree hlf htok hpower hcommit hload hnext hlft hlearn =>
      ⟨_, rfl, lfAirGrant_lft hhold hfree hlf htok hpower hcommit hload hnext meas hlft hlearn⟩
  case passive =>
    exact fun s meas r p hhold hfree hlf htok hpower hcommit hload hnext hlft hradio hplan hworks =>
      ⟨_, rfl, lfAirGrant_passive hhold hfree hlf htok hpower hcommit hload hnext meas hlft hradio hplan hworks⟩
  case idle => exact fun s meas hhold hqueue => congrArg Host.Outcome.next (lfAirGrant_of_no_request hhold hqueue meas)
  case pollWaits => exact fun s meas hhold hwait => congrArg Host.Outcome.next (candlePoll_of_waiting hhold hwait meas)
  case pollSkips =>
    intro s meas hhold hruns hdue hqueue
    obtain ⟨hreason, hlf, hframe⟩ := candlePoll_skips hhold hruns hdue meas hqueue
    exact ⟨_, rfl, hreason, by rw [hlf]; exact hhold, by rw [hlf], by rw [hlf], by rw [hlf], hframe⟩
  case polls =>
    exact fun s meas p hhold hruns hdue hqueue hfree hpower hcommit hload hplan hradio hfit hworks =>
      ⟨_, rfl, candlePoll_polls hhold hruns hdue meas hqueue hfree hpower hcommit hload hplan hradio hfit hworks⟩
  case room =>
    intro s r h
    obtain ⟨t, hpush, hqueue, -⟩ := State.pushLf_room h r
    rw [hpush]
    exact ⟨rfl, hqueue⟩
  case held => exact fun s meas h => congrArg Host.Outcome.next (lfAirGrant_of_holding h meas)

end Sys2Proof.Machine
end

section
/-! SUPPORT. The end of a full radio calibration (R174 to R176, Table 6-5): what its results leave of the radio's working state. -/
namespace Sys2Proof.Machine

open Sys2Proof

/-! ## What the findings of the chains change -/

/-- The phase points that a chain keeps from its calibration; chain 0 is the one the others are measured against (Table 6-5, calibration 6). -/
def chainPoints (n : Nat) (c : ChainFact) : List Int := if n = 0 then [] else c.points

/-- Of the radio's working state the findings of a fitted chain replace its phase points; those of one that is not fitted, nothing. -/
theorem State.calChain_rf (s : State) (n : Nat) (c : ChainFact) : (s.calChain n c).rf
    = if Nat.testBit s.chainMask n then { s.rf with points := s.rf.points.set n (chainPoints n c) } else s.rf := by
  unfold State.calChain
  cases hfitted : Nat.testBit s.chainMask n
  · rfl
  · simp only [Bool.not_true, Bool.false_eq_true, if_false, if_true, apply_ite State.rf, State.reason_rf, State.redLoss_rf, State.event_rf,
      State.put_rf, State.putFlag_rf, ite_self, chainPoints]

/-- The state once every chain has taken its findings, as a full calibration applies them first (R176). -/
def State.chainsMeasured (s : State) (f : CalFacts) : State :=
  (f.chains.zip (List.range 4)).foldl (fun (t : State) (p : ChainFact × Nat) => t.calChain p.2 p.1) s

/-! ## What the rest of the results changes -/

theorem State.refreshRng_rf (s : State) : s.refreshRng.rf = s.rf := by rw [s.refreshRng_eq]

theorem State.goDown_rf (s : State) (u : Subsys) (code : Nat) : (s.goDown u code).rf = s.rf := by
  rw [State.goDown, State.refresh_rf, State.dropDependants_regsOnly, State.reason_rf, State.setEnabled_rf]

theorem State.chainsChanged_rf (s : State) : s.chainsChanged.rf = s.rf := by
  simp only [State.chainsChanged, apply_ite State.rf, State.refreshRng_rf, State.goDown_rf, State.put_rf, ite_self]

/-- Applied results end the calibration and its period; the phase points stay as the chains' findings have set them. -/
theorem State.applyCal_rf (s : State) (cause : Nat) (f : CalFacts) :
    (s.applyCal cause f).rf = { (s.chainsMeasured f).rf with cal := none, runUs := 0 } := by
  simp only [State.applyCal, State.chainsChanged_rf, apply_ite State.rf, State.putFlag_rf, State.put_rf, State.bump_rf, State.event_rf,
    State.reason_rf, State.redClear_rf, ite_self]
  rfl

/-! ## O19 -/

/-- A part whose image fits all 4 receive chains (CHAINMASK 0xF of RF_BANDS). -/
def fourChains : State := { State.reset with sys := { State.reset.sys with sections := [⟨5, 0, [0, 0xF]⟩] } }

/-- A chain without a fault, 1 degree apart from chain 0 at each of the 9 points. -/
def soundChain : ChainFact := ⟨0, 60, false, 0, List.replicate 9 100⟩

/-- A calibration that finds 4 such chains. -/
def soundCal : CalFacts := ⟨List.replicate 4 soundChain, soundChain, 0, 0, 25⟩

theorem fourChains_soundCal_points :
    (fourChains.chainsMeasured soundCal).rf.points = [[], List.replicate 9 100, List.replicate 9 100, List.replicate 9 100] := by decide

/-- Refutes O19, by its clause on the results of a calibration: it leaves all of the radio's working state but `cal` and `runUs` as it stands, while
the results also hold the measured phases of chains 1 to 3 against chain 0 (Table 6-5, calibration 6), which replace the points kept before. -/
theorem not_radioRunsItsQueueAndCalibrates : ¬ Obligations.RadioRunsItsQueueAndCalibrates := by
  rintro ⟨-, -, -, -, -, -, -, -, -, -, -, -, -, -, -, -, -, -, -, -, -, happlied, -⟩
  have hclause : (fourChains.applyCal 4 soundCal).rf.points = List.replicate 4 [] := congrArg Rf.points (happlied fourChains 4 soundCal)
  have hmodel : (fourChains.applyCal 4 soundCal).rf.points = (fourChains.chainsMeasured soundCal).rf.points :=
    congrArg Rf.points (State.applyCal_rf ..)
  rw [hmodel, fourChains_soundCal_points] at hclause
  exact absurd hclause (by decide)

end Sys2Proof.Machine
end

section
/-! SUPPORT. The pilot island, which is always in RUN (R382): no drop brings it to NAP. -/
namespace Sys2Proof.Machine

open Sys2Proof

theorem State.islandTo_zero (s : State) (v : Nat) : s.islandTo 0 v = s := by simp [State.islandTo, State.setIsland, State.voteless]

theorem State.followShared_island_zero (s : State) : s.followShared.island 0 = s.island 0 := by
  obtain h | ⟨v, h⟩ := s.followShared_cases
  · rw [h]
  · rw [h, State.island_setIsland_other s (by decide) (by decide)]

/-- The state in which an island's drop stands no more. -/
def State.dropOver (s : State) (i : Nat) : State := { s with pwr := { s.pwr with dropping := s.pwr.dropping.filter (fun d => d.1 != i) } }

/-- The state once the end of a drop of the pilot island has its effect on shared memory. -/
def State.pilotDropOver (s : State) : State := if (s.dropOver 0).islandFailed 0 then s.dropOver 0 else (s.dropOver 0).followShared

theorem State.pilotDropOver_island_zero (s : State) : s.pilotDropOver.island 0 = s.island 0 := by
  unfold State.pilotDropOver
  split
  · rfl
  · exact (s.dropOver 0).followShared_island_zero

/-- The end of a drop at the pilot island begins a restore at most: the pilot goes to no other state, and no STANDBY begins with it. -/
theorem State.dropped_zero (s : State) : s.dropped 0
    = if s.pilotDropOver.votes 0 ≠ 0 || s.pilotDropOver.held 0 then s.pilotDropOver.beginRestore 0 else s.pilotDropOver := by
  have hpair : ∀ t : State, ¬ 0 = 1 + t.activePair := fun t => by omega
  simp only [State.dropped, State.islandTo_zero, hpair, decide_false, Bool.false_and, Bool.false_eq_true, if_false]
  rfl

theorem State.dropped_island_zero (s : State) : (s.dropped 0).island 0 = s.island 0 := by
  rw [State.dropped_zero]
  split
  · rw [State.island, State.reg_of_regs (State.beginRestore_regs ..)]
    exact s.pilotDropOver_island_zero
  · exact s.pilotDropOver_island_zero

/-- Refutes O45, by its clause on the end of a drop, at island 0: on the shipped part nothing votes for the pilot island or holds it, and the
clause has a drop bring it to NAP, while the pilot has no such state (R382): it stays in RUN. -/
theorem not_votesHoldIslandsAndLevels : ¬ Obligations.VotesHoldIslandsAndLevels := by
  rintro ⟨-, -, -, -, -, hdropped, -⟩
  have hnap : (State.reset.dropped 0).island 0 = 0 :=
    (hdropped State.reset 0 (by decide) (by decide) (by decide) (by decide) (by decide)).1
  rw [State.dropped_island_zero] at hnap
  exact absurd hnap (by decide)

end Sys2Proof.Machine
end

section
/-! SUPPORT. The policy (R218 to R220): which rule decides a token, and what refuses it. -/
namespace Sys2Proof.Machine

open Sys2Proof

/-- The policy on a token: a fitting rule that fails no condition decides it; else the first failing condition of a rule that fits refuses it, or the
want of a rule that fits. -/
theorem State.policy_cases (s : State) (code : Nat) (i : PolicyIn) :
    (∃ r ∈ s.rules, ruleFits r code i = true ∧ s.ruleFails r i = 0 ∧ s.policy code i = if u8 r 1 = 0 then (0, 0x0902) else (u8 r 1, 0))
    ∨ (∃ r ∈ s.rules, ruleFits r code i = true ∧ s.ruleFails r i ≠ 0 ∧ s.policy code i = (0, s.ruleFails r i))
    ∨ ((∀ r ∈ s.rules, ruleFits r code i = false) ∧ s.policy code i = (0, 0x0901)) := by
  unfold State.policy
  dsimp only
  rcases hfind : (s.rules.filter (fun r => ruleFits r code i)).find? (fun r => s.ruleFails r i == 0) with _ | r
  · rcases hfit : s.rules.filter (fun r => ruleFits r code i) with _ | ⟨r, rest⟩
    · exact .inr (.inr ⟨fun r hr => by simpa using List.filter_eq_nil_iff.mp hfit r hr, rfl⟩)
    · have hmem : r ∈ s.rules.filter (fun r => ruleFits r code i) := by rw [hfit]; exact List.mem_cons_self
      obtain ⟨hrule, hfits⟩ := List.mem_filter.mp hmem
      exact .inr (.inl ⟨r, hrule, hfits, by simpa using List.find?_eq_none.mp hfind r hmem, rfl⟩)
  · obtain ⟨hrule, hfits⟩ := List.mem_filter.mp (List.mem_of_find?_eq_some hfind)
    exact .inl ⟨r, hrule, hfits, by simpa using List.find?_some hfind, rfl⟩

theorem State.ruleFails_of_relay {i : PolicyIn} (hpath : i.path = 0) (hrelay : Nat.testBit i.flags 4 = true) (s : State) (r : Bytes) :
    s.ruleFails r i = 0x0903 := by simp [State.ruleFails, hpath, hrelay]

theorem State.policy_acts {s : State} {code : Nat} {i : PolicyIn} (h : (s.policy code i).1 ≠ 0) :
    ∃ r ∈ s.rules, ruleFits r code i = true ∧ s.ruleFails r i = 0 ∧ s.policy code i = (u8 r 1, 0) := by
  obtain ⟨r, hrule, hfits, hpass, hp⟩ | ⟨r, -, -, -, hp⟩ | ⟨-, hp⟩ := s.policy_cases code i
  · have hact : ¬ u8 r 1 = 0 := fun h0 => h (by rw [hp, if_pos h0])
    exact ⟨r, hrule, hfits, hpass, by rw [hp, if_neg hact]⟩
  · exact absurd (congrArg Prod.fst hp) h
  · exact absurd (congrArg Prod.fst hp) h

theorem State.policy_of_no_rule {s : State} {code : Nat} {i : PolicyIn} (h : ∀ r ∈ s.rules, ruleFits r code i = false) :
    s.policy code i = (0, 0x0901) := by
  have hnot : ∀ r ∈ s.rules, ruleFits r code i = true → False := fun r hr hf => by simp [h r hr] at hf
  obtain ⟨r, hr, hf, -⟩ | ⟨r, hr, hf, -⟩ | ⟨-, hp⟩ := s.policy_cases code i
  · exact (hnot r hr hf).elim
  · exact (hnot r hr hf).elim
  · exact hp

/-- A relay finding on the passive path fails condition 3 of every rule. -/
theorem State.policy_of_relay {i : PolicyIn} (hpath : i.path = 0) (hrelay : Nat.testBit i.flags 4 = true) (s : State) (code : Nat) :
    (s.policy code i).1 = 0 := by
  by_contra h
  obtain ⟨r, -, -, hpass, -⟩ := State.policy_acts h
  rw [State.ruleFails_of_relay hpath hrelay] at hpass
  exact absurd hpass (by decide)

theorem State.policy_refuses {s : State} {code : Nat} {i : PolicyIn} (h : (s.policy code i).1 = 0) : (s.policy code i).2 ≠ 0 := by
  obtain ⟨r, -, -, -, hp⟩ | ⟨r, -, -, hfails, hp⟩ | ⟨-, hp⟩ := s.policy_cases code i
  · split at hp
    · simp [hp]
    · next hact => exact absurd (by simpa [hp] using h) hact
  · simpa [hp] using hfails
  · simp [hp]

end Sys2Proof.Machine
end

section
/-! SUPPORT. What leaves the release block as it is: the votes on the islands and the journal (R310 to R315, R382, R384), through which a release
that ends works. -/
namespace Sys2Proof.Machine

open Sys2Proof

/-! ## The registers of votes and islands -/

theorem keepsRegs.trans {s t u : State} {l : List Nat} (h : keepsRegs s t l) (h' : keepsRegs t u l) : keepsRegs s u l :=
  fun off hoff => (h' off hoff).trans (h off hoff)

/-- The registers in which the state of an island shows: PWR_ISL_STATE, and RF_STAT for the receiver (R169, R382). -/
def islandRegs : List Nat := [R.PWR_ISL_STATE, R.RF_STAT]

theorem State.setIsland_keeps (s : State) (i v : Nat) : keepsRegs s (s.setIsland i v) islandRegs :=
  fun _ hoff => s.reg_setIsland_other (fun h => hoff (by rw [h]; decide)) i v

theorem State.followShared_keeps (s : State) : keepsRegs s s.followShared islandRegs := by
  obtain ⟨-, hregs, -⟩ := s.followShared_frame
  exact fun off hoff => hregs off fun h => hoff (by rw [h]; decide)

theorem State.voteless_keeps (s : State) (i : Nat) : keepsRegs s (s.voteless i) islandRegs := by
  unfold State.voteless
  split
  · exact keepsRegs_put (keepsRegs_put (keepsRegs_put (keepsRegs_refl s _) (by decide) _) (by decide) _) (by decide) _
  · exact keepsRegs_refl s _

theorem State.islandTo_keeps (s : State) (i v : Nat) : keepsRegs s (s.islandTo i v) islandRegs := by
  unfold State.islandTo
  dsimp only
  split_ifs
  · exact s.setIsland_keeps i v
  · exact (s.setIsland_keeps i v).trans (State.voteless_keeps _ i)
  · exact s.setIsland_keeps i v

theorem State.beginDrop_keeps (s : State) (i : Nat) : keepsRegs s (s.beginDrop i) islandRegs := by
  have hdown : ∀ t : State, keepsRegs t (((t.islandTo i 1).voteless i).followShared) islandRegs := fun t =>
    ((t.islandTo_keeps i 1).trans (State.voteless_keeps _ i)).trans (State.followShared_keeps _)
  unfold State.beginDrop
  dsimp only
  split_ifs
  · exact keepsRegs_refl s _
  · exact hdown _

theorem State.settle_keeps (s : State) (i : Nat) : keepsRegs s (s.settle i) islandRegs := by
  unfold State.settle
  split_ifs
  · exact keepsRegs_refl s _
  · exact s.followShared_keeps
  · exact keepsRegs_refl s _
  · exact s.beginDrop_keeps i
  · exact (s.islandTo_keeps i 1).trans (State.followShared_keeps _)
  · exact keepsRegs_refl s _

/-- A vote withdrawn from an island shows in the votes on it as well. -/
theorem State.withdrawVote_keeps (s : State) (c i : Nat) : keepsRegs s (s.withdrawVote c i) ((F.PWR_VOTEn_CLIENTS i).off :: islandRegs) := by
  have hvote : ∀ t : State, keepsRegs t ((t.setVote c i false).settle i) ((F.PWR_VOTEn_CLIENTS i).off :: islandRegs) := fun t =>
    (keepsRegs_put (keepsRegs_refl t _) List.mem_cons_self _).trans fun off hoff =>
      State.settle_keeps _ i off fun hmem => hoff (List.mem_cons_of_mem _ hmem)
  unfold State.withdrawVote
  dsimp only
  split_ifs
  · exact hvote _
  · exact hvote _
  · exact hvote _
  · exact hvote _

theorem State.withdrawVote_rel (s : State) (c i : Nat) : (s.withdrawVote c i).rel = s.rel := by
  unfold State.withdrawVote
  dsimp only
  split_ifs <;> simp

theorem State.withdrawVote_fuses (s : State) (c i : Nat) : (s.withdrawVote c i).fuses = s.fuses := by
  unfold State.withdrawVote
  dsimp only
  split_ifs <;> simp

/-! ## The release block -/

/-- The registers of REL, its working state, the fuses and the records of the vault stay as they are. -/
def State.relKept (s t : State) : Prop :=
  (∀ off, 0x7000 ≤ off → off < 0x8000 → t.reg off = s.reg off) ∧ t.rel = s.rel ∧ t.fuses = s.fuses ∧ sameRecords s.vault t.vault

theorem State.relKept_refl (s : State) : s.relKept s := ⟨fun _ _ _ => rfl, rfl, rfl, rfl⟩

/-- An operation on registers outside REL. -/
theorem State.relKept_of_keepsRegs {s t : State} {l : List Nat} (hregs : keepsRegs s t l) (hl : ∀ off ∈ l, ¬ (0x7000 ≤ off ∧ off < 0x8000))
    (hrel : t.rel = s.rel) (hfuses : t.fuses = s.fuses) (hvault : sameRecords s.vault t.vault) : s.relKept t :=
  ⟨fun off h1 h2 => hregs off fun hmem => hl off hmem ⟨h1, h2⟩, hrel, hfuses, hvault⟩

namespace State.relKept
variable {s t u : State} (h : s.relKept t)
include h

theorem trans (h' : t.relKept u) : s.relKept u := by
  obtain ⟨hregs, hrel, hfuses, hvault⟩ := h
  obtain ⟨hregs', hrel', hfuses', hvault'⟩ := h'
  exact ⟨fun off h1 h2 => (hregs' off h1 h2).trans (hregs off h1 h2), hrel'.trans hrel, hfuses'.trans hfuses, sameRecords_trans hvault hvault'⟩

theorem withRel (r : Rel) : State.relKept { s with rel := r } { t with rel := r } := by
  obtain ⟨hregs, -, hrest⟩ := h
  exact ⟨hregs, rfl, hrest⟩

theorem get {f : Field} (h1 : 0x7000 ≤ f.off) (h2 : f.off < 0x8000) : t.get f = s.get f := by
  obtain ⟨hregs, -⟩ := h
  exact State.get_of_reg (hregs _ h1 h2)

theorem flag {f : Field} (h1 : 0x7000 ≤ f.off) (h2 : f.off < 0x8000) : t.flag f = s.flag f := by
  rw [State.flag, h.get h1 h2, State.flag]

theorem rel_eq : t.rel = s.rel := by
  obtain ⟨-, hrel, -⟩ := h
  exact hrel

theorem fuses_eq : t.fuses = s.fuses := by
  obtain ⟨-, -, hfuses, -⟩ := h
  exact hfuses

/-- The partners' records in the vault: SEQ, and the counter of each role. -/
theorem partnerRecords : t.vault.grantSeq = s.vault.grantSeq ∧ t.vault.pctr = s.vault.pctr := by
  obtain ⟨-, -, -, hvault⟩ := h
  rw [sameRecords] at hvault
  rw [hvault]
  exact ⟨rfl, rfl⟩

end State.relKept

theorem State.settle_relKept (s : State) (i : Nat) : s.relKept (s.settle i) :=
  State.relKept_of_keepsRegs (s.settle_keeps i) (by decide) (s.settle_rel i) (s.settle_fuses i) (by rw [s.settle_vault]; rfl)

theorem State.withdrawVote_relKept (s : State) (c : Nat) {i : Nat} (hi : i < 15) : s.relKept (s.withdrawVote c i) := by
  refine State.relKept_of_keepsRegs (s.withdrawVote_keeps c i) ?_ (s.withdrawVote_rel c i) (s.withdrawVote_fuses c i)
    (by rw [s.withdrawVote_vault]; rfl)
  rw [List.forall_mem_cons]
  exact ⟨fun ⟨h1, _⟩ => absurd (show 0x7000 ≤ 0x1040 + 4 * i from h1) (by omega), by decide⟩

theorem State.releaseVoteOff_relKept (s : State) : s.relKept s.releaseVoteOff := by
  have hpair := s.activePair_lt
  exact (s.withdrawVote_relKept 5 (i := 14) (by decide)).trans (State.withdrawVote_relKept _ 5 (by omega))

theorem State.journalRel_relKept (s : State) (action code profile reason flags : Nat) :
    s.relKept (s.journalRel action code profile reason flags) := by
  obtain ⟨hregs, hvault, -⟩ := s.journal_work 0x0901 reason .rel flags
    (toLE 1 action ++ toLE 1 code ++ toLE 1 profile ++ toLE 4 s.vault.grantSeq ++ toLE 1 s.dmode)
  exact State.relKept_of_keepsRegs hregs (by decide) (State.journal_rel ..) (State.journal_fuses ..) hvault

/-- A change of the release in progress is its record, and what the release island follows when it ends. -/
theorem State.setStart_relKept (s : State) (x : Option RelStart) : State.relKept { s with rel := { s.rel with start := x } } (s.setStart x) := by
  unfold State.setStart
  dsimp only
  split
  · exact State.settle_relKept _ 14
  · exact State.relKept_refl _

end Sys2Proof.Machine
end

section
/-! SUPPORT. The relock (R225): how standstill is brought up to date, when a relock is due, and what it leaves once both channels have taken its
command (R28, R223). -/
namespace Sys2Proof.Machine

open Sys2Proof

/-! ## REL_STAT follows the partners and the inputs (R225) -/

/-- The registers that standstill is read from. -/
def stillRegs : List Nat := [F.LF_WAKE_STAT_LEVEL.off, F.HIF_STAT_T1S_UP.off, F.PWR_STAT_REF_RC.off]

theorem State.portUp_of_regs {s t : State} (hregs : ∀ off ∈ stillRegs, t.reg off = s.reg off) : t.portUp = s.portUp := by
  have hflag : ∀ f : Field, f.off ∈ stillRegs → t.get f = s.get f := fun f hf => State.get_of_reg (hregs _ hf)
  funext p
  simp only [State.portUp, State.busUp, State.flag, State.onRc, hflag F.HIF_STAT_T1S_UP (by decide), hflag F.HIF_STAT_CAN0_UP (by decide),
    hflag F.HIF_STAT_CAN0_BUSOFF (by decide), hflag F.HIF_STAT_CAN1_UP (by decide), hflag F.HIF_STAT_CAN1_BUSOFF (by decide),
    hflag F.PWR_STAT_REF_RC (by decide)]

/-- The roles, whose STATUS counts and where their links are, stand in the image. -/
theorem State.roles_of_sys {s t : State} (hsys : t.sys = s.sys) :
    t.roles = s.roles ∧ t.roleStatus = s.roleStatus ∧ t.rolePorts = s.rolePorts := by
  have hsec : t.partnersSec = s.partnersSec := by simp only [State.partnersSec, State.section?, hsys]
  have hrec : t.roleRec = s.roleRec := by
    funext r
    rw [State.roleRec, hsec, State.roleRec]
  refine ⟨by rw [State.roles, State.nRole, hsec, State.roles, State.nRole], ?_, ?_⟩
  · funext r
    rw [State.roleStatus, hrec, State.roleStatus]
  · funext r
    rw [State.rolePorts, State.roleLink, hrec, State.rolePorts, State.roleLink]

/-- What standstill is read from: the image, the reports of the roles, MT, the wake inputs, the links and the reference. -/
theorem State.standstill_of {s t : State} (hsys : t.sys = s.sys) (hroles : t.rel.roles = s.rel.roles) (hmt : t.mt = s.mt)
    (hregs : ∀ off ∈ stillRegs, t.reg off = s.reg off) : t.standstill = s.standstill := by
  obtain ⟨hall, hstatus, hports⟩ := State.roles_of_sys hsys
  have hpolicy : t.policySec = s.policySec := by simp only [State.policySec, State.section?, hsys]
  have hwork : t.roleWork = s.roleWork := by
    funext r
    rw [State.roleWork, hroles, State.roleWork]
  have hfresh : t.roleFresh = s.roleFresh := by
    funext r
    unfold State.roleFresh
    rw [hwork, hmt, hports, State.portUp_of_regs hregs]
  have hreported : t.stillStatus = s.stillStatus := by simp only [State.stillStatus, hall, hstatus, hwork, hfresh]
  have hinput : t.stillInput = s.stillInput := by
    rw [State.stillInput, hpolicy, State.get_of_reg (hregs F.LF_WAKE_STAT_LEVEL.off (by decide)), State.stillInput]
  rw [State.standstill, hpolicy, hreported, hinput, State.standstill]

theorem State.refreshRel_reg (s : State) {off : Nat} (h : off ≠ F.REL_STAT_STANDSTILL.off) : s.refreshRel.reg off = s.reg off :=
  State.reg_put_other _ h _

theorem State.refreshRel_standstill (s : State) : s.refreshRel.standstill = s.standstill :=
  State.standstill_of rfl rfl rfl fun _ hoff => s.refreshRel_reg (ne_of_mem_of_not_mem hoff (by decide))

/-! ## When a relock is due (R225) -/

theorem State.relockIfDue_due {s : State} {m : Nat} (hstill : s.refreshRel.rel.stillMt = some m) (hheld : s.rel.held = true)
    (hdelay : max m s.rel.delayMt + s.setting 0x0902 30 * 1000000 ≤ s.mt)
    (hcause : s.refreshRel.relockCause (s.setting 0x0902 30 * 1000000) = true) : s.relockIfDue = s.refreshRel.relockNow := by
  have hdue : (s.refreshRel.rel.held && decide (max m s.refreshRel.rel.delayMt + s.refreshRel.setting 0x0902 30 * 1000000 ≤ s.refreshRel.mt)
      && s.refreshRel.relockCause (s.refreshRel.setting 0x0902 30 * 1000000)) = true := by
    simp only [Bool.and_eq_true, decide_eq_true_eq]
    exact ⟨⟨hheld, hdelay⟩, hcause⟩
  simp only [State.relockIfDue, hstill, hdue, if_true]

theorem State.relockIfDue_not_held {s : State} (h : s.rel.held = false) : s.relockIfDue = s.refreshRel := by
  have hheld : s.refreshRel.rel.held = false := h
  unfold State.relockIfDue
  dsimp only
  split
  · simp [hheld]
  · rfl

theorem relock_of_moving {s : State} (h : s.standstill = false) : relock s = s.refreshRel.reason .rel 0x0910 := by
  simp [relock, s.refreshRel_standstill, h]

theorem relock_of_not_held {s : State} (hstill : s.standstill = true) (hheld : s.rel.held = false) : relock s = s.refreshRel := by
  have hheld' : s.refreshRel.rel.held = false := hheld
  simp [relock, s.refreshRel_standstill, hstill, hheld']

theorem relock_of_held {s : State} (hstill : s.standstill = true) (hheld : s.rel.held = true) :
    relock s = ({ s.refreshRel with rel := { s.refreshRel.rel with hostReq := true } } : State).relockIfDue := by
  have hheld' : s.refreshRel.rel.held = true := hheld
  simp [relock, s.refreshRel_standstill, hstill, hheld']

/-! ## The command word (R28, R223) -/

theorem crcTail_lt (n op : Nat) : (crc16 (toBE 4 n ++ toBE 2 op)).toNat < 2 ^ 16 := BitVec.isLt _

theorem relNumber_relWord {n : Nat} (hn : n < 2 ^ 32) (op : Nat) : relNumber (relWord n op) = n := by
  have hcrc := crcTail_lt n op
  unfold relNumber relWord
  omega

theorem relOp_relWord {op : Nat} (hop : op < 2 ^ 16) (n : Nat) : relOp (relWord n op) = op := by
  have hcrc := crcTail_lt n op
  unfold relOp relWord
  omega

theorem channelTakes_relWord {last n op : Nat} (hlast : last < n) (hn : n < 2 ^ 32) (hop : op < 2 ^ 16) : channelTakes last (relWord n op) = true := by
  simp [channelTakes, relNumber_relWord hn, relOp_relWord hop, hlast]

/-- The registers of a command that both channels take. -/
theorem State.relCommand_regs {s : State} {op : Nat} (hop : op < 2 ^ 16) (hH : s.rel.chanH ≤ s.rel.cmdNo) (hL : s.rel.chanL ≤ s.rel.cmdNo)
    (hn : s.rel.cmdNo + 1 < 2 ^ 32) : (s.relCommand op).regs = (s.switches op).regs := by
  have htakesH := channelTakes_relWord (Nat.lt_succ_of_le hH) hn hop
  have htakesL := channelTakes_relWord (Nat.lt_succ_of_le hL) hn hop
  simp only [State.relCommand, State.channelsTake, htakesH, htakesL, Bool.and_self, if_true, relOp_relWord hop]
  unfold State.switches
  split_ifs <;> rfl

/-! ## The relock (R225) -/

theorem State.switches_off_shown (s : State) : (s.switches relOff).get F.REL_STAT_OUT_H = 0 ∧ (s.switches relOff).get F.REL_STAT_OUT_L = 0 := by
  have hoff : s.switches relOff = ((s.put F.REL_STAT_OUT_H 0).put F.REL_STAT_OUT_L 0).put F.REL_STAT_PHASE 0 := rfl
  rw [hoff]
  constructor
  · rw [State.get_put_apart _ _ _ _ (by decide) (by decide) (by decide), State.get_put_apart _ _ _ _ (by decide) (by decide) (by decide),
      State.get_put_same _ _ _ (by decide) (by decide)]
    rfl
  · rw [State.get_put_apart _ _ _ _ (by decide) (by decide) (by decide), State.get_put_same _ _ _ (by decide) (by decide)]
    rfl

/-- A command to switch off that both channels take leaves both outputs off. -/
theorem State.outputsOff_shown {s : State} (hH : s.rel.chanH ≤ s.rel.cmdNo) (hL : s.rel.chanL ≤ s.rel.cmdNo) (hn : s.rel.cmdNo + 1 < 2 ^ 32) :
    s.outputsOff.get F.REL_STAT_OUT_H = 0 ∧ s.outputsOff.get F.REL_STAT_OUT_L = 0 := by
  have hregs := State.relCommand_regs (op := relOff) (by decide) hH hL hn
  obtain ⟨hoffH, hoffL⟩ := s.switches_off_shown
  rw [← State.get_of_regs hregs] at hoffH hoffL
  have hkept := (s.relCommand relOff).releaseVoteOff_relKept
  unfold State.outputsOff
  dsimp only
  split
  · exact ⟨hoffH, hoffL⟩
  · exact ⟨(hkept.get (by decide) (by decide)).trans hoffH, (hkept.get (by decide) (by decide)).trans hoffL⟩

/-- Sending a message changes what was sent last, no register. -/
theorem State.sendRole_regs (s : State) (r : Nat) (msg : Bytes) : (s.sendRole r msg).regs = s.regs := by
  unfold State.sendRole State.sendRoleTo
  split <;> rfl

theorem State.sendRevoke_keeps (s : State) : keepsRegs s s.sendRevoke [R.REL_SEQ] := by
  intro off hoff
  have hseq : s.nextSeq.1.reg off = s.reg off :=
    State.reg_setReg_other { s with vault := { s.vault with grantSeq := _ } } (fun h => hoff (List.mem_singleton.mpr h)) _
  unfold State.sendRevoke
  refine List.foldlRecOn (motive := fun t => State.reg t off = s.reg off) _ _ hseq fun t ht r _ => ?_
  split
  · exact ht
  · exact (State.reg_of_regs (t.sendRole_regs r _) off).trans ht

/-- REL_STAT and REL_EVT as a relock shows in them. -/
def State.relockShown (s : State) : State := (s.put F.REL_STAT_GRANT 0).event F.REL_EVT_RELOCKED

/-- A release that is over: its outputs are off, and a REVOKE that is due is sent. -/
def State.releaseOver (s : State) : State :=
  (({ s.relockShown with rel := { s.relockShown.rel with held := false, hostReq := false, tripMt := none } } : State).setStart
    none).journalRel 0 0xFF 0xFF 0 0

/-- A relock whose command the channels take sends REVOKE or not, and the release is over. -/
theorem State.relockNow_of_off {s : State} (hH : s.outputsOff.flag F.REL_STAT_OUT_H = false) (hL : s.outputsOff.flag F.REL_STAT_OUT_L = false) :
    s.relockNow = s.outputsOff.releaseOver ∨ s.relockNow = s.outputsOff.sendRevoke.releaseOver := by
  simp only [State.relockNow, hH, hL, Bool.or_self, Bool.false_eq_true, if_false]
  split_ifs
  · exact .inr rfl
  · exact .inl rfl

theorem State.relockShown_fields (s : State) : s.relockShown.get F.REL_STAT_OUT_H = s.get F.REL_STAT_OUT_H
    ∧ s.relockShown.get F.REL_STAT_OUT_L = s.get F.REL_STAT_OUT_L ∧ s.relockShown.get F.REL_STAT_GRANT = 0
    ∧ s.relockShown.get F.REL_EVT_RELOCKED = 1 := by
  have hevt : ∀ f : Field, f.off = R.REL_STAT → f.hi < 32 → s.relockShown.get f = (s.put F.REL_STAT_GRANT 0).get f := fun f hf hhi =>
    State.get_put_apart _ _ _ _ (by decide) hhi (.inl (by rw [hf]; decide))
  exact ⟨(hevt _ rfl (by decide)).trans (State.get_put_apart _ _ _ _ (by decide) (by decide) (by decide)),
    (hevt _ rfl (by decide)).trans (State.get_put_apart _ _ _ _ (by decide) (by decide) (by decide)),
    (hevt _ rfl (by decide)).trans (State.get_put_same _ _ _ (by decide) (by decide)), State.get_put_same _ _ _ (by decide) (by decide)⟩

theorem State.releaseOver_shown (s : State) : s.releaseOver.get F.REL_STAT_OUT_H = s.get F.REL_STAT_OUT_H
    ∧ s.releaseOver.get F.REL_STAT_OUT_L = s.get F.REL_STAT_OUT_L ∧ s.releaseOver.get F.REL_STAT_GRANT = 0 ∧ s.releaseOver.rel.held = false
    ∧ s.releaseOver.rel.start = none ∧ s.releaseOver.get F.REL_EVT_RELOCKED = 1 := by
  have hkept := (State.setStart_relKept { s.relockShown with
    rel := { s.relockShown.rel with held := false, hostReq := false, tripMt := none } } none).trans (State.journalRel_relKept _ 0 0xFF 0xFF 0 0)
  have hget : ∀ f : Field, 0x7000 ≤ f.off → f.off < 0x8000 → s.releaseOver.get f = s.relockShown.get f := fun f h1 h2 => hkept.get h1 h2
  obtain ⟨hH, hL, hgrant, hevt⟩ := s.relockShown_fields
  exact ⟨(hget _ (by decide) (by decide)).trans hH, (hget _ (by decide) (by decide)).trans hL, (hget _ (by decide) (by decide)).trans hgrant,
    congrArg Rel.held hkept.rel_eq, congrArg Rel.start hkept.rel_eq, (hget _ (by decide) (by decide)).trans hevt⟩

theorem State.relockNow_spec {s : State} (hH : s.rel.chanH ≤ s.rel.cmdNo) (hL : s.rel.chanL ≤ s.rel.cmdNo) (hn : s.rel.cmdNo + 1 < 2 ^ 32) :
    s.relockNow.flag F.REL_STAT_OUT_H = false ∧ s.relockNow.flag F.REL_STAT_OUT_L = false ∧ s.relockNow.get F.REL_STAT_GRANT = 0
      ∧ s.relockNow.rel.held = false ∧ s.relockNow.rel.start = none ∧ s.relockNow.get F.REL_EVT_RELOCKED = 1 := by
  obtain ⟨hoffH, hoffL⟩ := State.outputsOff_shown hH hL hn
  have hrevoke : ∀ f : Field, f.off = R.REL_STAT → s.outputsOff.sendRevoke.get f = s.outputsOff.get f := fun f hf =>
    State.get_of_reg (s.outputsOff.sendRevoke_keeps _ (by rw [hf]; decide))
  obtain hown | hsent := State.relockNow_of_off (State.flag_of_get hoffH) (State.flag_of_get hoffL)
  · rw [hown]
    obtain ⟨hshH, hshL, hrest⟩ := s.outputsOff.releaseOver_shown
    exact ⟨State.flag_of_get (hshH.trans hoffH), State.flag_of_get (hshL.trans hoffL), hrest⟩
  · rw [hsent]
    obtain ⟨hshH, hshL, hrest⟩ := s.outputsOff.sendRevoke.releaseOver_shown
    exact ⟨State.flag_of_get ((hshH.trans (hrevoke _ rfl)).trans hoffH), State.flag_of_get ((hshL.trans (hrevoke _ rfl)).trans hoffL), hrest⟩

/-! ## O23 -/

/-- Settles O23: the policy by the rule that decides a token, the relock by what is due once standstill is unbroken and by what its command leaves. -/
theorem policyDeniesAndReleaseRelocks : Obligations.PolicyDeniesAndReleaseRelocks := by
  unfold Obligations.PolicyDeniesAndReleaseRelocks
  exact ⟨fun _ _ _ => State.policy_acts, fun _ _ _ => State.policy_of_no_rule, fun s code _ hpath hrelay => State.policy_of_relay hpath hrelay s code,
    fun _ _ _ => State.policy_refuses,
    fun s m hstill hheld hdelay hcause => congrArg Host.Outcome.next (State.relockIfDue_due hstill hheld hdelay hcause),
    fun s hheld => congrArg Host.Outcome.next (State.relockIfDue_not_held hheld), fun s => State.relockNow_spec,
    fun s hmoving => congrArg Host.Outcome.next (relock_of_moving hmoving),
    fun s hstill hheld => congrArg Host.Outcome.next (relock_of_not_held hstill hheld),
    fun s hstill hheld => congrArg Host.Outcome.next (relock_of_held hstill hheld)⟩

end Sys2Proof.Machine
end

section
/-! SUPPORT. Partner messages (R227, R228): what an acknowledgement of a grant, the end of its wait and a STATUS do, and what is discarded. -/
namespace Sys2Proof.Machine

open Sys2Proof

/-! ## The end of a grant's wait (R227) -/

/-- A release in progress stays or is over. -/
theorem State.settleStart_relKept (s : State) :
    ∃ x, (x = none ∨ x = s.rel.start) ∧ State.relKept { s with rel := { s.rel with start := x } } s.settleStart := by
  unfold State.settleStart
  split
  · split
    · exact ⟨none, .inl rfl, s.setStart_relKept none⟩
    · exact ⟨s.rel.start, .inr rfl, s.relKept_refl⟩
  · exact ⟨s.rel.start, .inr rfl, s.relKept_refl⟩

/-- The registers that show how a wait ended: REL_STAT, and with a failure REL_EVT, REL_CNT and REL_REASON. -/
def State.grantShown (s : State) (ok : Bool) : State :=
  if ok then s.put F.REL_STAT_GRANT 2
  else (((s.put F.REL_STAT_GRANT 3).event F.REL_EVT_GRANT_FAIL).bump F.REL_CNT_GRANT_FAIL).reason .rel 0x090D

theorem State.grantShown_regsOnly (s : State) (ok : Bool) : s.grantShown ok = { s with regs := (s.grantShown ok).regs } := by
  cases ok <;> rfl

theorem State.endGrant_relKept (s : State) (ok : Bool) (code slot : Nat) : (s.grantShown ok).relKept (s.endGrant ok code slot) := by
  cases ok
  · exact State.journalRel_relKept _ _ _ _ _ _
  · exact State.journalRel_relKept _ _ _ _ _ _

theorem State.grantShown_accepted (s : State) : (s.grantShown true).get F.REL_STAT_GRANT = 2 := State.get_put_same _ _ _ (by decide) (by decide)

theorem State.grantShown_failed (s : State) : (s.grantShown false).get F.REL_STAT_GRANT = 3
    ∧ (s.grantShown false).get F.REL_REASON_REASON = 0x090D ∧ (s.grantShown false).get F.REL_EVT_GRANT_FAIL = 1 := by
  have hgrant := State.get_put_same s F.REL_STAT_GRANT 3 (by decide) (by decide)
  have hevt := State.get_put_same (s.put F.REL_STAT_GRANT 3) F.REL_EVT_GRANT_FAIL 1 (by decide) (by decide)
  refine ⟨.trans ?_ hgrant, State.get_put_same _ (reasonField .rel) 0x090D (by decide) (by decide), .trans ?_ hevt⟩
  · exact ((State.get_put_apart _ (reasonField .rel) _ _ (by decide) (by decide) (by decide)).trans
      (State.get_put_apart _ F.REL_CNT_GRANT_FAIL _ _ (by decide) (by decide) (by decide))).trans
      (State.get_put_apart _ F.REL_EVT_GRANT_FAIL _ _ (by decide) (by decide) (by decide))
  · exact (State.get_put_apart _ (reasonField .rel) _ _ (by decide) (by decide) (by decide)).trans
      (State.get_put_apart _ F.REL_CNT_GRANT_FAIL _ _ (by decide) (by decide) (by decide))

/-- The wait of a grant has ended, and the release in progress with it where nothing else of it is to come. -/
def State.waitOver (s : State) (ok : Bool) (st : RelStart) : State := (s.endGrant ok st.code st.slot).settleStart

theorem State.waitOver_relKept (s : State) (ok : Bool) (st : RelStart) :
    ∃ x, (x = none ∨ x = s.rel.start) ∧ State.relKept { s.grantShown ok with rel := { s.rel with start := x } } (s.waitOver ok st) := by
  have hgrant := s.endGrant_relKept ok st.code st.slot
  have hrel : (s.endGrant ok st.code st.slot).rel = s.rel := hgrant.rel_eq.trans (by rw [s.grantShown_regsOnly])
  obtain ⟨x, hx, hsettled⟩ := (s.endGrant ok st.code st.slot).settleStart_relKept
  rw [hrel] at hx hsettled
  exact ⟨x, hx, (hgrant.withRel _).trans hsettled⟩

/-- What the end of a wait leaves of the fuses and of the partners' records, and how it shows. -/
theorem State.waitOver_spec (s : State) (ok : Bool) (st : RelStart) :
    (s.waitOver ok st).vault.grantSeq = s.vault.grantSeq ∧ (s.waitOver ok st).vault.pctr = s.vault.pctr ∧ (s.waitOver ok st).fuses = s.fuses
      ∧ ((s.waitOver ok st).rel.start = none ∨ (s.waitOver ok st).rel.start = s.rel.start)
      ∧ ∀ f : Field, 0x7000 ≤ f.off → f.off < 0x8000 → (s.waitOver ok st).get f = (s.grantShown ok).get f := by
  obtain ⟨x, hx, hkept⟩ := s.waitOver_relKept ok st
  obtain ⟨hseq, hpctr⟩ := hkept.partnerRecords
  have hframe := s.grantShown_regsOnly ok
  have hvault : (s.grantShown ok).vault = s.vault := by rw [hframe]
  have hstart : (s.waitOver ok st).rel.start = x := congrArg Rel.start hkept.rel_eq
  refine ⟨hseq.trans (congrArg Vault.grantSeq hvault), hpctr.trans (congrArg Vault.pctr hvault), hkept.fuses_eq.trans (by rw [hframe]), ?_,
    fun f h1 h2 => hkept.get h1 h2⟩
  rwa [hstart]

theorem State.waitOver_accepted (s : State) (st : RelStart) : (s.waitOver true st).get F.REL_STAT_GRANT = 2 := by
  obtain ⟨-, -, -, -, hshown⟩ := s.waitOver_spec true st
  exact (hshown _ (by decide) (by decide)).trans s.grantShown_accepted

theorem State.waitOver_failed (s : State) (st : RelStart) : (s.waitOver false st).get F.REL_STAT_GRANT = 3
    ∧ (s.waitOver false st).get F.REL_REASON_REASON = 0x090D ∧ (s.waitOver false st).get F.REL_EVT_GRANT_FAIL = 1 := by
  obtain ⟨-, -, -, -, hshown⟩ := s.waitOver_spec false st
  obtain ⟨hgrant, hreason, hevt⟩ := s.grantShown_failed
  exact ⟨(hshown _ (by decide) (by decide)).trans hgrant, (hshown _ (by decide) (by decide)).trans hreason,
    (hshown _ (by decide) (by decide)).trans hevt⟩

/-! ## GRANT_ACK (R227, R228) -/

theorem grantAck_of_latching {s : State} (h : s.latching = true) (port : Nat) (ident : Word) (msg : Bytes) :
    grantAck port ident msg s = s.latch (.grantAck port ident.toNat msg) := if_pos h

theorem grantAck_of_no_role {s : State} {port : Nat} {ident : Word} {msg : Bytes} (hlatch : s.latching = false)
    (hrole : s.msgRole port ident msg = none) : grantAck port ident msg s = s := by
  simp only [grantAck, hlatch, grantAckNow, hrole, Bool.false_eq_true, if_false]

section
variable {s : State} {port : Nat} {ident : Word} {msg : Bytes} {r : Nat} (hlatch : s.latching = false)
  (hrole : s.msgRole port ident msg = some r) (htype : u8 msg 0 = 0x52)
include hlatch hrole htype

theorem grantAck_discarded (hcheck : s.msgCheck r 0x21 10 msg ≠ 0) : grantAck port ident msg s = s.badMsg r (s.msgCheck r 0x21 10 msg) := by
  simp [grantAck, hlatch, grantAckNow, hrole, htype, hcheck]

variable {st : RelStart} (hcheck : s.msgCheck r 0x21 10 msg = 0) (hstart : s.rel.start = some st) (htag : be msg 2 4 = s.vault.deviceTag)
  (hseq : be msg 6 4 = st.seq) (hstep : st.step = 6) (hon : st.grantOn = true)
include hcheck hstart htag hseq hstep hon

/-- The acknowledgement of the last REQUIRED role ends the wait. -/
theorem grantAck_accepts (hresult : u8 msg 14 = 0) (hall : s.allAcked (st.acks ++ [r]) = true) (hnew : st.acks.contains r = false) :
    grantAck port ident msg s
      = ((s.takePctr r (be msg 10 4)).setStart (some { st with acks := st.acks ++ [r], grantOn := false })).waitOver true st := by
  have hnew' : r ∉ st.acks := by simpa using hnew
  have hstart' : (s.takePctr r (be msg 10 4)).rel.start = some st := hstart
  have hall' : (s.takePctr r (be msg 10 4)).allAcked (st.acks ++ [r]) = true := hall
  simp [grantAck, hlatch, grantAckNow, hrole, htype, hcheck, hstart', htag, hseq, hstep, hon, hresult, hall', hnew', State.waitOver]

/-- A partner that refuses ends the wait. -/
theorem grantAck_refuses (hresult : u8 msg 14 ≠ 0) : grantAck port ident msg s
      = ((s.takePctr r (be msg 10 4)).setStart (some { st with grantOn := false, sends := 4 })).waitOver false st := by
  have hstart' : (s.takePctr r (be msg 10 4)).rel.start = some st := hstart
  simp [grantAck, hlatch, grantAckNow, hrole, htype, hcheck, hstart', htag, hseq, hstep, hon, hresult, State.waitOver]

end

/-! ## GRANT_TIMEOUT (R227) -/

section
variable {s : State} {st : RelStart} (hstart : s.rel.start = some st) (hstep : st.step = 6) (hbrown : s.flag F.PWR_STAT_BROWNOUT = false)
include hstart hstep hbrown

theorem grantTimeout_resends (hsends : st.sends < 3) (hdue : st.grantMt + 100000 * st.sends ≤ s.mt) :
    grantTimeout s = (s.sendGrants st).setStart (some { st with sends := st.sends + 1 }) := by
  have h4 : ¬ 4 ≤ st.sends := by omega
  simp [grantTimeout, hstart, hstep, hbrown, hsends, h4, Nat.not_lt.mpr hdue]

theorem grantTimeout_ends (hsends : st.sends = 3) (hon : st.grantOn = true) (hdue : st.grantMt + 300000 ≤ s.mt) :
    grantTimeout s = (s.setStart (some { st with sends := 4, grantOn := false })).waitOver false st := by
  have hnow : ¬ s.mt < st.grantMt + 100000 * st.sends := by omega
  simp [grantTimeout, hstart, hstep, hbrown, hsends, hon, Nat.not_lt.mpr hdue, State.waitOver]

end

/-! ## STATUS (R225, R228) -/

theorem status_of_latching {s : State} (h : s.latching = true) (port : Nat) (ident : Word) (msg : Bytes) (mac : Nat) :
    status port ident msg mac s = s.latch (.status port ident.toNat msg mac) := if_pos h

section
variable {s : State} {port : Nat} {ident : Word} {msg : Bytes} {r : Nat} (hlatch : s.latching = false)
  (hrole : s.msgRole port ident msg = some r) (htype : u8 msg 0 = 0x53) (hpair : s.rel.pairing = none)
include hlatch hrole htype hpair

theorem status_verified (hcheck : s.msgCheck r 0x22 6 msg = 0) (htag : be msg 2 4 = s.vault.deviceTag) (mac : Nat) :
    status port ident msg mac s = ((s.takeMac r port mac).takeStatus r msg).relockIfDue := by
  simp [status, hlatch, statusNow, hrole, htype, hpair, hcheck, htag]

theorem status_discarded (hcheck : s.msgCheck r 0x22 6 msg ≠ 0) (mac : Nat) :
    status port ident msg mac s = (s.badMsg r (s.msgCheck r 0x22 6 msg)).noStill r (s.roleWork r).mt := by
  simp [status, hlatch, statusNow, hrole, htype, hpair, hcheck]

end

theorem State.takeStatus_takes (s : State) (r : Nat) (msg : Bytes) :
    (s.takeStatus r msg).rel.roles = s.rel.roles.set r ⟨Nat.testBit (u8 msg 10) 0, Nat.testBit (u8 msg 10) 1, some s.mt⟩
      ∧ (s.takeStatus r msg).vault = { s.vault with pctr := s.vault.pctr.set r (be msg 6 4) } := ⟨rfl, rfl⟩

theorem statusStale_due {s : State} {r m : Nat} (hmt : (s.roleWork r).mt = some m) (hdue : m + 300000 < s.mt) :
    statusStale r s = s.noStill r none := by simp [statusStale, hmt, hdue]

theorem statusStale_fresh {s : State} {r m : Nat} (hmt : (s.roleWork r).mt = some m) (hfresh : s.mt ≤ m + 300000) : statusStale r s = s := by
  simp [statusStale, hmt, Nat.not_lt.mpr hfresh]

/-! ## O25 -/

/-- Settles O25: each message and each timer branch by branch; a wait ends through `State.waitOver`, whatever ends it. -/
theorem partnersAnswerGrants : Obligations.PartnersAnswerGrants := by
  unfold Obligations.PartnersAnswerGrants
  refine ⟨?_, ?_, fun s p id msg r hrole hlatch htype hcheck => congrArg Host.Outcome.next (grantAck_discarded hlatch hrole htype hcheck),
    fun s p id msg hrole hlatch => congrArg Host.Outcome.next (grantAck_of_no_role hlatch hrole),
    fun s p id msg mac hlatch => ⟨congrArg Host.Outcome.next (grantAck_of_latching hlatch p.val id msg),
      congrArg Host.Outcome.next (status_of_latching hlatch p.val id msg mac)⟩,
    fun s st hstart hstep hsends hbrown hdue => congrArg Host.Outcome.next (grantTimeout_resends hstart hstep hbrown hsends hdue), ?_,
    fun s p id msg mac r hrole hlatch htype hpair hcheck htag =>
      congrArg Host.Outcome.next (status_verified hlatch hrole htype hpair hcheck htag mac),
    fun s p id msg mac r hrole hlatch htype hpair hcheck => congrArg Host.Outcome.next (status_discarded hlatch hrole htype hpair hcheck mac),
    State.takeStatus_takes, fun s r m hmt hdue => congrArg Host.Outcome.next (statusStale_due hmt hdue),
    fun s r m hmt hfresh => congrArg Host.Outcome.next (statusStale_fresh hmt hfresh)⟩
  · intro s p id msg r st hrole hlatch htype hcheck hstart htag hseq hstep hon hresult hall hnew
    refine ⟨_, congrArg Host.Outcome.next (grantAck_accepts hlatch hrole htype hcheck hstart htag hseq hstep hon hresult hall hnew), ?_⟩
    obtain ⟨hgrantSeq, hpctr, hfuses, hover, -⟩ := ((s.takePctr r (be msg 10 4)).setStart
      (some { st with acks := st.acks ++ [r], grantOn := false })).waitOver_spec true st
    exact ⟨State.waitOver_accepted _ st, hpctr, hgrantSeq, hfuses, hover⟩
  · intro s p id msg r st hrole hlatch htype hcheck hstart htag hseq hstep hon hresult
    exact ⟨_, congrArg Host.Outcome.next (grantAck_refuses hlatch hrole htype hcheck hstart htag hseq hstep hon hresult),
      State.waitOver_failed _ st⟩
  · intro s st hstart hstep hsends hon hbrown hdue
    refine ⟨_, congrArg Host.Outcome.next (grantTimeout_ends hstart hstep hbrown hsends hon hdue), ?_⟩
    obtain ⟨hgrantSeq, -, hfuses, -⟩ := (s.setStart (some { st with sends := 4, grantOn := false })).waitOver_spec false st
    obtain ⟨hgrant, hreason, hevt⟩ := (s.setStart (some { st with sends := 4, grantOn := false })).waitOver_failed st
    exact ⟨hgrant, hreason, hevt, hgrantSeq, hfuses⟩

end Sys2Proof.Machine
end

section
/-! SUPPORT. Pairing and unpairing a role (R229, Sequence 8-2): what PAIR, its end without a STATUS, and UNPAIR do. -/
namespace Sys2Proof.Machine

open Sys2Proof

/-! ## What the steps of a pairing leave as it is -/

theorem State.refreshKeys_regsOnly (s : State) : s.refreshKeys = { s with regs := s.refreshKeys.regs } := by
  unfold State.refreshKeys
  dsimp only
  split <;> simp only [State.putFlag_eq, State.put_eq, State.setReg_eq]

/-- A check of an authorisation takes the challenge and shows in registers. -/
theorem State.checkAuth_frame (s : State) (scope : Nat) (input auth : Bytes) : (s.checkAuth scope input auth).1 = { s with
    regs := (s.checkAuth scope input auth).1.regs, keys := { s.keys with challenge := (s.checkAuth scope input auth).1.keys.challenge } } := by
  unfold State.checkAuth
  dsimp only
  split_ifs <;> rfl

theorem State.announceOn_frame (s : State) (query : Bool) : s.announceOn query = { s with hif := (s.announceOn query).hif } := by
  unfold State.announceOn
  split <;> rfl

theorem State.sendRoleTo_frame (s : State) (r mac : Nat) (msg : Bytes) :
    s.sendRoleTo r mac msg = { s with rel := { s.rel with sent := (s.sendRoleTo r mac msg).rel.sent } } := by
  unfold State.sendRoleTo
  split <;> rfl

theorem State.placeOut_executing (s : State) : s.placeOut.hif.executing = s.hif.executing := by
  unfold State.placeOut
  split
  · rfl
  · split <;> rfl

theorem State.deliver_executing (s : State) (t : Transport) (src : Nat) (m : Bytes) : (s.deliver t src m).hif.executing = s.hif.executing := by
  have hbus : ∀ t : Transport, (if s.busUp t then ({ s with hif := { s.hif with busSent := some (t, busPayloads t m) } } : State)
      else { s with hif := { s.hif with busResp := s.hif.busResp ++ [⟨t, m, s.mt, src⟩] } }).hif.executing = s.hif.executing := fun t => by
    split <;> rfl
  cases t
  · exact State.placeOut_executing _
  · exact hbus .can0
  · exact hbus .can1
  · exact hbus .t1s

/-- An answered command executes no longer. -/
theorem State.finish_executing (s : State) (reason : Nat) (out : Bytes) : (s.finish reason out).hif.executing = none := by
  unfold State.finish
  split
  · next h => exact h
  · unfold State.answer
    dsimp only [State.event_hif, State.setReg_hif]
    rw [State.deliver_executing]
    split <;> rfl

/-! ## PAIR (R229) -/

/-- The key that PAIR derives for a role and a partner heard in discovery. -/
def State.pairingKey (s : State) (role pid : Nat) (d : Disc) (px : KeyRec) : Bytes :=
  Crypto.kdf (Crypto.ecdh px.key d.key) "PART" (toBE 4 s.vault.deviceTag ++ toBE 8 pid ++ toBE 1 role)

/-- The state in which a pairing waits for the STATUS that answers its PING. -/
def State.pairingBegun (s : State) (role pid : Nat) (d : Disc) (px : KeyRec) : State :=
  let pk := s.pairingKey role pid d px
  let t := { s.nextSeq.1 with
    rel := { s.nextSeq.1.rel with pairing := some ⟨role, pid, d.key, pk, d.mac, s.mt⟩, sent := [] }
    keys := { s.nextSeq.1.keys with prep := .pairing } }
  t.refreshKeys.sendRoleTo role d.mac (t.partnerMsg 0x24 pk (t.msgHead 0x55 role s.nextSeq.2))

theorem State.pairingBegun_frame (s : State) (role pid : Nat) (d : Disc) (px : KeyRec) : s.pairingBegun role pid d px = { s with
    regs := (s.pairingBegun role pid d px).regs
    vault := { s.vault with grantSeq := (s.vault.grantSeq + 1) % 2 ^ 32 }
    rel := { s.rel with pairing := some ⟨role, pid, d.key, s.pairingKey role pid d px, d.mac, s.mt⟩
                        sent := (s.pairingBegun role pid d px).rel.sent }
    keys := { s.keys with prep := .pairing } } := by
  unfold State.pairingBegun
  dsimp only
  rw [State.sendRoleTo_frame, State.refreshKeys_regsOnly]
  rfl

/-- What a pairing that waits for its STATUS is, once PAIR is answered. -/
theorem State.pairingBegun_finished (s : State) (role pid : Nat) (d : Disc) (px : KeyRec) :
    ((s.pairingBegun role pid d px).finish 0 []).keys.prep = .pairing
      ∧ ((s.pairingBegun role pid d px).finish 0 []).vault.grantSeq = (s.vault.grantSeq + 1) % 2 ^ 32
      ∧ ((s.pairingBegun role pid d px).finish 0 []).rel.pairing = some ⟨role, pid, d.key, s.pairingKey role pid d px, d.mac, s.mt⟩
      ∧ ((s.pairingBegun role pid d px).finish 0 []).fuses = s.fuses
      ∧ ((s.pairingBegun role pid d px).finish 0 []).vault.keyring = s.vault.keyring := by
  rw [State.finish_keys, State.finish_vault, State.finish_rel, State.finish_fuses, s.pairingBegun_frame]
  exact ⟨rfl, rfl, rfl, rfl, rfl⟩

/-- The check of an authorisation and the announcement after it leave the fuses and the vault. -/
theorem State.authAnnounced_keeps (s : State) (scope : Nat) (input auth : Bytes) :
    ((s.checkAuth scope input auth).1.announceOn true).fuses = s.fuses
      ∧ ((s.checkAuth scope input auth).1.announceOn true).vault = s.vault := by
  rw [State.announceOn_frame, State.checkAuth_frame]
  exact ⟨rfl, rfl⟩

section
variable {s : State} {role pid : Nat} {auth : Bytes} (hlen : auth.length = s.authLen)
include hlen

theorem pairOp_unauthorised (hauth : (s.checkAuth 1 (toLE 1 role ++ toBE 8 pid) auth).2 ≠ 0) :
    pairOp role pid auth s = mbFail (s.checkAuth 1 (toLE 1 role ++ toBE 8 pid) auth).1 .rel 0x0911 := by
  simp [pairOp, hlen, hauth]

theorem pairOp_begins {a t : State} {d : Disc} {px : KeyRec} (ha : s.checkAuth 1 (toLE 1 role ++ toBE 8 pid) auth = (a, 0))
    (hring : a.ringLocked = false) (hprep : a.keys.prep = .none) (hentropy : a.entropyFailed = false) (ht : a.announceOn true = t)
    (hseen : (t.hif.disc ++ t.hif.discPaired).find? (fun d => d.pid == pid && decide (t.mt ≤ d.mt + 60000000) && d.kind == t.roleKind role
      && beNat ((Crypto.sha512 d.key).take 8) == pid) = some d)
    (hkey : t.keyRec? 6 pxkIndex = some px) (hrole : role < t.nRole) : pairOp role pid auth s = mbOk (t.pairingBegun role pid d px) [] := by
  have hrole' : ¬ t.nRole ≤ role := Nat.not_le.mpr hrole
  simp only [pairOp, hlen, ha, hring, hprep, hentropy, ht, hseen, hkey, hrole', not_true, ne_eq, if_false, Bool.false_eq_true, bne_self_eq_false]
  rfl

end

theorem pairTimeout_due {s : State} {p : Pairing} (hpair : s.rel.pairing = some p) (hdue : p.mt + 5000000 ≤ s.mt) : pairTimeout s
    = (({ s with rel := { s.rel with pairing := none }, keys := { s.keys with prep := .none } }).refreshKeys).reason .rel 0x0913 := by
  simp only [pairTimeout, hpair, Nat.not_lt.mpr hdue, if_false]

theorem pairTimeout_of_none {s : State} (hpair : s.rel.pairing = none) : pairTimeout s = s := by simp only [pairTimeout, hpair]

/-! ## UNPAIR (R229) -/

section
variable {s : State} {role : Nat} {auth : Bytes} {a : State} (hlen : auth.length = s.authLen) (ha : s.checkAuth 2 (toLE 1 role) auth = (a, 0))
  (hring : a.ringLocked = false) (hprep : a.keys.prep = .none)
include hlen ha hring hprep

theorem unpairOp_of_empty (hpaired : a.rolePaired role = false) : unpairOp role auth true s = mbOk a [] := by
  simp [unpairOp, hlen, ha, hring, hprep, hpaired]

theorem unpairOp_of_paired {c : State} (hpaired : a.rolePaired role = true)
    (hc : a.commitGen (a.ring.filter (fun x => !(x.kind == 3 && x.index == role))) true = (c, 0)) : unpairOp role auth true s
      = mbOk (((c.unpairDisc ((a.partnerKey role).map (·.pub))).keyEvent 0x0902 0).refreshRel) [] := by
  simp only [unpairOp, hlen, ha, hring, hprep, hpaired, hc, not_true, ne_eq, if_false, Bool.false_eq_true, bne_self_eq_false, Bool.not_true]

end

end Sys2Proof.Machine
end

section
/-! SUPPORT. Discovery of partners on the buses (R78, R454, R455, Table 16-11): which frames are taken, what a message with all its bytes does, and
when an announcement goes out. -/
namespace Sys2Proof.Machine

open Sys2Proof

/-! ## Frames (R78, R454) -/

theorem discoveryReceive_of_latching {s : State} (h : s.latching = true) (port : Nat) (payload : Bytes) (mac : Nat) :
    discoveryReceive port payload mac s = s.latch (.discovery port payload mac) := if_pos h

section
variable {s : State} {port : Nat} {payload : Bytes} (hlatch : s.latching = false)
include hlatch

theorem discoveryReceive_off_path (hports : s.discPorts.contains port = false) (mac : Nat) : discoveryReceive port payload mac s = s := by
  simp only [discoveryReceive, hlatch, discoveryNow, hports, Bool.not_false, Bool.true_or, if_true, Bool.false_eq_true, if_false]

variable (hports : s.discPorts.contains port = true) (hup : s.portUp port = true)
include hports hup

/-- A frame on a discovery path that is up. -/
theorem discoveryReceive_on_path (mac : Nat) : discoveryReceive port payload mac s
    = if port = 2 then (if payload.length < 148 then s else s.discMsg 2 mac (payload.take 148))
      else if payload.length ≠ 64 || 2 < u8 payload 0 then s else s.discPartIn port payload := by
  simp only [discoveryReceive, hlatch, discoveryNow, hports, hup, Bool.not_true, Bool.or_self, Bool.false_eq_true, if_false]

theorem discoveryReceive_on_t1s (hport : port = 2) (hlen : 148 ≤ payload.length) (mac : Nat) :
    discoveryReceive port payload mac s = s.discMsg 2 mac (payload.take 148) := by
  rw [discoveryReceive_on_path hlatch hports hup, if_pos hport, if_neg (Nat.not_lt.mpr hlen)]

theorem discoveryReceive_on_can (hport : port ≠ 2) (hlen : payload.length = 64) (hpart : u8 payload 0 ≤ 2) (mac : Nat) :
    discoveryReceive port payload mac s = s.discPartIn port payload := by
  have htaken : ¬ (payload.length ≠ 64 || 2 < u8 payload 0) = true := by simp [hlen, hpart]
  rw [discoveryReceive_on_path hlatch hports hup, if_neg hport, if_neg htaken]

end

/-! ## A message with all its bytes (R455, Table 16-11) -/

/-- The entry that a discovery message makes: its PID, KIND and key, where it came from, and when. -/
def State.discEntry (s : State) (port mac : Nat) (m : Bytes) : Disc := ⟨be m 4 8, u8 m 1, port, padTo 132 (m.drop 0x10), mac, s.mt⟩

/-- Whether the PID of an entry hashes from its key. -/
def Disc.keyed (d : Disc) : Prop := beNat ((Crypto.sha512 d.key).take 8) = d.pid

/-- The state in which a discovery message is counted and its QUERY noted. -/
def State.discCounted (s : State) (m : Bytes) : State :=
  let t := s.bump F.HIF_DISC_HEARD
  if Nat.testBit (u8 m 3) 0 then { t with hif := { t.hif with query := true } } else t

theorem State.discCounted_frame (s : State) (m : Bytes) : s.discCounted m = { s with
    regs := (s.discCounted m).regs, hif := { s.hif with query := s.hif.query || Nat.testBit (u8 m 3) 0 } } := by
  unfold State.discCounted
  dsimp only
  split
  · next h => rw [h, Bool.or_true]; rfl
  · next h => rw [Bool.eq_false_iff.mpr h, Bool.or_false]; rfl

/-- The list after an unpaired device is heard: at its end, the one heard least recently gone where there were 16 others. -/
def State.discListed (s : State) (d : Disc) : State :=
  let l := hear s.hif.disc d
  let t := ({ s with hif := { s.hif with disc := l.drop (l.length - 16) } } : State).put F.HIF_DISC_UNPAIRED (l.drop (l.length - 16)).length
  if !s.hif.disc.any (fun x => x.pid == d.pid) then t.event F.HIF_EVT_DISC_NEW else t

theorem State.discListed_hif (s : State) (d : Disc) : (s.discListed d).hif
    = { s.hif with disc := (hear s.hif.disc d).drop ((hear s.hif.disc d).length - 16) } := by
  unfold State.discListed
  dsimp only
  split <;> rfl

theorem length_heard_le (l : List Disc) (d : Disc) : ((hear l d).drop ((hear l d).length - 16)).length ≤ 16 := by
  rw [List.length_drop]
  omega

section
variable {s : State} {m : Bytes} (htype : u8 m 0 = 0x61) (hversion : u8 m 2 = 1) (port mac : Nat)
include htype hversion

theorem State.discMsg_unkeyed (h : ¬ (s.discEntry port mac m).keyed) : s.discMsg port mac m = s.reason .hif 0x1017 := by
  have hkey : beNat ((Crypto.sha512 (padTo 132 (m.drop 0x10))).take 8) ≠ be m 4 8 := h
  simp [State.discMsg, htype, hversion, hkey]

theorem State.discMsg_keyed (h : (s.discEntry port mac m).keyed) : s.discMsg port mac m = (let t := s.discCounted m
    if t.pidPaired (be m 4 8) then
      { t with hif := { t.hif with discPaired := hear t.hif.discPaired (s.discEntry port mac m) }
               rel := { t.rel with macs := t.learnMacs (s.discEntry port mac m) } }
    else t.discListed (s.discEntry port mac m)) := by
  have hkey : beNat ((Crypto.sha512 (padTo 132 (m.drop 0x10))).take 8) = be m 4 8 := h
  simp only [State.discMsg, htype, hversion, hkey, ne_eq, not_true, decide_false, Bool.or_self, Bool.false_eq_true, if_false]
  rfl

/-- A message of a paired partner is noted apart. -/
theorem State.discMsg_of_paired (h : (s.discEntry port mac m).keyed) (hpaired : s.pidPaired (be m 4 8) = true) :
    (s.discMsg port mac m).hif.discPaired = hear s.hif.discPaired (s.discEntry port mac m) ∧ (s.discMsg port mac m).hif.disc = s.hif.disc
      ∧ (s.discMsg port mac m).rel = { s.rel with macs := s.learnMacs (s.discEntry port mac m) } := by
  have hpaired' : (s.discCounted m).pidPaired (be m 4 8) = true := by rwa [s.discCounted_frame]
  rw [State.discMsg_keyed htype hversion port mac h]
  dsimp only
  rw [if_pos hpaired', s.discCounted_frame]
  exact ⟨rfl, rfl, rfl⟩

/-- A message of an unpaired device puts it at the end of the list, which holds 16 at most. -/
theorem State.discMsg_of_unpaired (h : (s.discEntry port mac m).keyed) (hpaired : s.pidPaired (be m 4 8) = false) :
    (s.discMsg port mac m).hif = { s.hif with
      query := s.hif.query || Nat.testBit (u8 m 3) 0
      disc := (hear s.hif.disc (s.discEntry port mac m)).drop ((hear s.hif.disc (s.discEntry port mac m)).length - 16) } := by
  have hpaired' : ¬ (s.discCounted m).pidPaired (be m 4 8) = true := by rw [s.discCounted_frame]; exact Bool.eq_false_iff.mp hpaired
  rw [State.discMsg_keyed htype hversion port mac h]
  dsimp only
  rw [if_neg hpaired', State.discListed_hif, s.discCounted_frame]

end

/-! ## Announcements and ageing (R455) -/

/-- An announcement from a state whose working state of HIF is `x`. -/
theorem State.announceOn_of_key {s : State} {k : KeyRec} (h : s.keyRec? 6 pxkIndex = some k) (x : Hif) (query : Bool) :
    ({ s with hif := x } : State).announceOn query = (
      let s1 := { s with hif := { x with announce := (x.announce + 1) % 2 ^ 32, announceMt := s.mt } }
      { s1 with hif := { s1.hif with discSent := (s.discPorts.filter s.portUp).flatMap (fun p => discFrames p (s1.discMessage query k.pub)) } }) := by
  have hkey : ({ s with hif := x } : State).keyRec? 6 pxkIndex = some k := h
  simp only [State.announceOn, hkey]
  rfl

section
variable {s : State} {k : KeyRec} (hlink : s.island 13 = 2) (hup : s.discPorts.any s.portUp = true) (hkey : s.keyRec? 6 pxkIndex = some k)
include hlink hup hkey

theorem discoveryAnnounce_due (hdue : s.hif.announceMt + 2000000 ≤ s.mt) : discoveryAnnounce false s = (
    let s1 := { s with hif := { s.hif with query := false, announce := (s.hif.announce + 1) % 2 ^ 32, announceMt := s.mt } }
    { s1 with hif := { s1.hif with discSent := (s.discPorts.filter s.portUp).flatMap (fun p => discFrames p (s1.discMessage false k.pub)) } }) := by
  have hgoes : discoveryAnnounce false s = ({ s with hif := { s.hif with query := false } } : State).announceOn false := by
    simp [discoveryAnnounce, hdue, hlink, hup]
  exact hgoes.trans (State.announceOn_of_key hkey _ false)

theorem discoveryAnnounce_at_link_up (hfresh : s.hif.linkUp = true) : discoveryAnnounce true s = (
    let s1 := { s with hif := { s.hif with query := false, linkUp := false, announce := (s.hif.announce + 1) % 2 ^ 32, announceMt := s.mt } }
    { s1 with hif := { s1.hif with discSent := (s.discPorts.filter s.portUp).flatMap (fun p => discFrames p (s1.discMessage true k.pub)) } }) := by
  have hgoes : discoveryAnnounce true s = ({ s with hif := { s.hif with query := false, linkUp := false } } : State).announceOn true := by
    simp [discoveryAnnounce, hfresh, hlink, hup]
  exact hgoes.trans (State.announceOn_of_key hkey _ true)

end

theorem discoveryAnnounce_early {s : State} (hquery : s.hif.query = false) (hearly : s.mt < s.hif.announceMt + 2000000) :
    discoveryAnnounce false s = s := by simp [discoveryAnnounce, hquery, hearly]

/-! ## O26 -/

/-- Settles O26: PAIR and UNPAIR answered branch by branch, a discovery message by whether its PID hashes from its key and is paired. -/
theorem partnersArePairedAndDiscovered : Obligations.PartnersArePairedAndDiscovered := by
  unfold Obligations.PartnersArePairedAndDiscovered
  refine ⟨fun s role pid auth hready hlen hauth => next_mailboxCommand hready (pairOp_unauthorised hlen hauth), ?_,
    fun s p hpair hdue => congrArg Host.Outcome.next (pairTimeout_due hpair hdue),
    fun s hpair => congrArg Host.Outcome.next (pairTimeout_of_none hpair),
    fun s role auth hready hlen hauth hring hprep hpaired =>
      next_mailboxCommand hready (unpairOp_of_empty hlen (Prod.ext rfl hauth) hring hprep hpaired),
    fun s role auth hready hlen hauth hring hprep hpaired hc =>
      next_mailboxCommand hready (unpairOp_of_paired hlen (Prod.ext rfl hauth) hring hprep hpaired (Prod.ext rfl hc)),
    fun s payload mac hlatch hports hup hlen => congrArg Host.Outcome.next (discoveryReceive_on_t1s hlatch hports hup rfl hlen mac),
    fun s port payload mac hlatch => congrArg Host.Outcome.next (discoveryReceive_of_latching hlatch port.val payload mac),
    fun s port payload mac hlatch hports => congrArg Host.Outcome.next (discoveryReceive_off_path hlatch hports mac),
    fun s port payload mac hlatch hports hup hport hlen hpart =>
      congrArg Host.Outcome.next (discoveryReceive_on_can hlatch hports hup hport hlen hpart mac), ?_, ?_,
    fun s k hlink hup hkey hdue => congrArg Host.Outcome.next (discoveryAnnounce_due hlink hup hkey hdue),
    fun s k hlink hup hkey hfresh => congrArg Host.Outcome.next (discoveryAnnounce_at_link_up hlink hup hkey hfresh),
    fun s hquery hearly => congrArg Host.Outcome.next (discoveryAnnounce_early hquery hearly), fun s => rfl,
    fun s hready => next_mailboxCommand hready rfl⟩
  · intro s role pid auth d px hready b a t hlen hauth hring hprep hentropy hseen hkey hrole
    refine ⟨_, next_mailboxCommand hready (pairOp_begins hlen (Prod.ext rfl hauth) hring hprep hentropy rfl hseen hkey hrole), ?_⟩
    obtain ⟨hfuses, hvault⟩ := State.authAnnounced_keeps b 1 (toLE 1 role.toNat ++ toBE 8 pid.toNat) auth
    obtain ⟨hprepared, hgrantSeq, hpairing, hfuses', hkeyring⟩ := t.pairingBegun_finished role.toNat pid.toNat d px
    exact ⟨hprepared, hgrantSeq, hpairing, State.finish_executing _ _ _, hfuses'.trans hfuses, hkeyring.trans (congrArg Vault.keyring hvault)⟩
  · intro s port mac m htype hversion hpaired d l
    split
    · next hkeyed =>
      have hhif := State.discMsg_of_unpaired htype hversion port mac hkeyed hpaired
      rw [hhif]
      exact ⟨rfl, rfl, length_heard_le _ _, rfl⟩
    · next hkeyed => exact State.discMsg_unkeyed htype hversion port mac hkeyed
  · intro s port mac m htype hversion hpaired d
    split
    · next hkeyed => exact State.discMsg_of_paired htype hversion port mac hkeyed hpaired
    · next hkeyed => exact State.discMsg_unkeyed htype hversion port mac hkeyed

end Sys2Proof.Machine
end

section
/-! SUPPORT. A cipher request as it arrives (R240, R242, R258): it joins the queue of its engine, or is answered at once with the first refusal. -/
namespace Sys2Proof.Machine

open Sys2Proof

/-! ## Admission (R240, R252) -/

theorem State.symSubmit_admitted {s : State} {m : Nat} {k b : Bool} {d : Bytes} (h : s.symAdmits m k d b) (x : Bytes) (ok : Bool) :
    s.symSubmit m k d x ok b = (s.symJoined m k d x b ok, none) := by
  obtain ⟨hport, hcheck, hroom⟩ := h
  simp only [State.symSubmit, hport, hcheck, hroom, ne_eq, not_true_eq_false, if_false, Bool.false_eq_true]
  rfl

theorem symRequest_admitted {s : State} {op m : Nat} {k : Bool} {d : Bytes} (h : s.symAdmits m k (withOp op d) false) (x : Bytes) (ok : Bool) :
    symRequest op m k d x ok s = s.symJoined m k (withOp op d) x false ok := by
  rw [symRequest, State.symSubmit_admitted h]

/-- The mailbox's request waits with its command. -/
theorem cipherOp_admitted {s : State} {input : Bytes} (hlen : 64 ≤ input.length) (hsrc : (input.drop 64).length = srcLen (input.take 64))
    (h : s.symAdmits 4 false (input.take 64) true) (ok : Bool) :
    cipherOp input ok s = (s.symJoined 4 false (input.take 64) (input.drop 64) true ok, mbDeferred, []) := by
  have hwhole : ¬ (input.length < 64 || (descValid (input.take 64) true && (input.drop 64).length ≠ srcLen (input.take 64))) = true := by
    simp [hsrc, hlen]
  simp only [cipherOp, if_neg hwhole, State.symSubmit_admitted h]

/-! ## Refusals (R242, R258) -/

/-- The refusals that leave no event, no count and no rotation mark. -/
theorem State.symNote_silent {c : Nat} (h9 : c ≠ 0x0A09) (h6 : c ≠ 0x0A06) (h7 : c ≠ 0x0A07) (s : State) (key : Nat) : s.symNote c key = s := by
  rw [State.symNote, if_neg h9, if_neg h6, if_neg h7]

/-- The first refusal that a request meets as it arrives, from the port or from a check; 0 for none. -/
def State.arrivalRefusal (s : State) (m : Nat) (k : Bool) (d : Bytes) : Nat :=
  if s.portRefusal m k ≠ 0 then s.portRefusal m k else s.symCheck d m k false

theorem State.arrivalRefusal_of_failed {s : State} (h : s.islandFailed 8 = true) (m : Nat) (k : Bool) (d : Bytes) :
    s.arrivalRefusal m k d = 0x0123 := by
  have hport : s.portRefusal m k = 0x0123 := if_pos h
  rw [State.arrivalRefusal, hport]
  rfl

theorem State.arrivalRefusal_of_check {s : State} {m c : Nat} {k : Bool} {d : Bytes} (hport : s.portRefusal m k = 0)
    (hcheck : s.symCheck d m k false = c) : s.arrivalRefusal m k d = c := by
  rw [State.arrivalRefusal, hport, if_neg (not_not.mpr rfl), hcheck]

theorem symRequest_refused {s : State} {op m c : Nat} {k : Bool} {d : Bytes} (h : s.arrivalRefusal m k (withOp op d) = c) (h0 : c ≠ 0)
    (h9 : c ≠ 0x0A09) (h6 : c ≠ 0x0A06) (h7 : c ≠ 0x0A07) (x : Bytes) (ok : Bool) :
    symRequest op m k d x ok s = { s with sym := { s.sym with last := some ⟨m, k, symResponse c 0xFF 0xFF 0 [] [], []⟩ } } := by
  rw [State.arrivalRefusal] at h
  simp only [symRequest, State.symSubmit, h, ne_eq, h0, not_false_eq_true, if_true, State.symNote_silent h9 h6 h7]

theorem State.symCheck_of_invalid {d : Bytes} {b : Bool} (h : descValid d b = false) (s : State) (m : Nat) (k : Bool) :
    s.symCheck d m k b = 0x0A01 := by
  rw [State.symCheck, h]
  rfl

/-- A RANDOM with prediction resistance passes every check of Table 9-5, and meets the failed source (R258). -/
theorem State.symCheck_random_pr {s : State} {d : Bytes} {k b : Bool} (hvalid : descValid d b = true) (hop : dOp d = 0x30)
    (hfirst : dFlag d 0 = true) (hlast : dFlag d 1 = true) (hpr : dFlag d 3 = true) (hlen : lenOk d k = true) (hfailed : s.entropyFailed = true)
    (m : Nat) : s.symCheck d m k b = 0x0A0D := by
  have hkey : s.keyRefusal d m k = 0 := by simp [State.keyRefusal, needsKey, hop]
  have hlong : tooLong d = false := by simp [tooLong, hop]
  have hpart : s.partOk d = true := by simp [State.partOk, hfirst]
  have hsingle : dSingle d = true := by simp [dSingle, hfirst, hlast]
  have hslot : s.slotRefusal d m k = 0 := by simp [State.slotRefusal, hop, hsingle]
  have hdraws : needsEntropy d k = true := by simp [needsEntropy, hop, hpr]
  simp [State.symCheck, hvalid, hkey, hlong, hlen, hpart, hsingle, hslot, hdraws, hfailed, hop, needsKey]

/-- What waits is checked again as it begins. -/
theorem State.beginReq_refused {s : State} {r : SymReq} (h : s.symCheck r.desc r.master r.keeper r.mailbox ≠ 0) :
    s.beginReq r = (s, s.symCheck r.desc r.master r.keeper r.mailbox, r) := if_pos h

/-! ## O27 -/

/-- Settles O27: every operation is submitted by `symRequest`, which joins what is admitted and answers the first refusal. -/
theorem cipherRequestsJoinOrAreRefused : Obligations.CipherRequestsJoinOrAreRefused := by
  unfold Obligations.CipherRequestsJoinOrAreRefused
  have joins : ∀ {s : State} {op m : Nat} {k : Bool} {d : Bytes} (x : Bytes) (ok : Bool), s.symAdmits m k (withOp op d) false →
      (.next (symRequest op m k d x ok s) : Out) = .next (s.symJoined m k (withOp op d) x false ok) :=
    fun x ok h => congrArg Host.Outcome.next (symRequest_admitted h x ok)
  refine ⟨fun s m k d x => ⟨joins x true, joins x true, joins x true, joins x true, joins x true, joins x true, joins x true, joins x true,
      joins x true, joins x true, joins x true, joins x true, joins x true, joins x true⟩,
    fun s m k d x ok => joins x ok, fun s m k d x ok => joins x ok, ?_, ?_, ?_,
    fun s d m k b h => State.symCheck_of_invalid h s m k, ?_, fun s r h => State.beginReq_refused h⟩
  · intro s input env hready hlen hsrc hadmits
    exact congrArg Host.Outcome.next (mailboxCommand_defers _ _ _ _ _ _ (by decide) hready (cipherOp_admitted hlen hsrc hadmits env.commitOk))
  · intro s m k d x c hport hcheck h0 h6 h7 h9
    exact congrArg Host.Outcome.next (symRequest_refused (State.arrivalRefusal_of_check hport hcheck) h0 h9 h6 h7 x true)
  · intro s m d x hfailed
    have hcode := State.arrivalRefusal_of_failed hfailed m.toNat true (withOp 0x30 d)
    exact congrArg Host.Outcome.next (symRequest_refused hcode (by decide) (by decide) (by decide) (by decide) x true)
  · intro s d m hvalid hop hfirst hlast hpr hlen hfailed
    exact State.symCheck_random_pr hvalid hop hfirst hlast hpr hlen hfailed m

end Sys2Proof.Machine
end

section
/-! SUPPORT. Hardware nonces (R244 to R246): what the issue of a nonce leaves of its stream and of the stream's reservation in the vault. -/
namespace Sys2Proof.Machine

open Sys2Proof

/-! ## Streams and their reservations -/

theorem State.nonceStream_id (s : State) (id : Nat) : (s.nonceStream id).id = id := by
  unfold State.nonceStream
  split
  · next x h => simpa using List.find?_some h
  · rfl

/-- What has been taken out under a number is not found under it. -/
theorem find?_filter_other {β : Type} (f : β → Nat) (n : Nat) (l : List β) :
    (l.filter (fun y => f y != n)).find? (fun y => f y == n) = none := by
  simp [List.find?_eq_none]

theorem State.nonceStream_setNonceStream (s : State) (x : NonceStream) : (s.setNonceStream x).nonceStream x.id = x := by
  have hfirst : (s.sym.streams.filter (fun y => y.id != x.id) ++ [x]).find? (fun y => y.id == x.id) = some x := by
    rw [List.find?_append, find?_filter_other, Option.none_or, List.find?_singleton, beq_self_eq_true, if_pos rfl]
  simp only [State.nonceStream, State.setNonceStream, hfirst]

/-- The state in which the vault holds the next reservation of a stream (R245). -/
def State.nonceReserved (s : State) (id : Nat) : State :=
  let s1 := { s with vault := { s.vault with
    nonceHi := s.vault.nonceHi.filter (fun (y : Nat × Nat) => y.1 != id) ++ [(id, (s.nonceStream id).hi + 65536)] } }
  s1.bump F.SYM_RESV_WRITES

theorem State.nonceLimit_nonceReserved (s : State) (id : Nat) : (s.nonceReserved id).nonceLimit id = (s.nonceStream id).hi + 65536 := by
  have hfirst : (s.vault.nonceHi.filter (fun y => y.1 != id) ++ [(id, (s.nonceStream id).hi + 65536)]).find? (fun y => y.1 == id)
      = some (id, (s.nonceStream id).hi + 65536) := by
    rw [List.find?_append, find?_filter_other, Option.none_or, List.find?_singleton, beq_self_eq_true, if_pos rfl]
  simp only [State.nonceLimit, State.nonceReserved, State.bump_vault, hfirst]

/-! ## The issue of a nonce -/

section
variable {s : State} {id : Nat}

theorem State.issueNonce_below (h : (s.nonceStream id).next < (s.nonceStream id).hi) (ok : Bool) : s.issueNonce id ok
    = (s.setNonceStream { s.nonceStream id with next := (s.nonceStream id).next + 1 }, some (s.nonceBytes id (s.nonceStream id).next)) :=
  if_pos h

variable (h : (s.nonceStream id).hi ≤ (s.nonceStream id).next)
include h

theorem State.issueNonce_reserves (hup : s.vaultUp = true) : s.issueNonce id true
    = ((s.nonceReserved id).setNonceStream ⟨id, (s.nonceStream id).next + 1, (s.nonceStream id).hi + 65536⟩,
        some (s.nonceBytes id (s.nonceStream id).next)) := by
  rw [State.issueNonce, if_neg (Nat.not_lt.mpr h), hup]
  rfl

/-- A reservation that is not written issues no nonce. -/
theorem State.issueNonce_unreserved {ok : Bool} (hfails : ok = false ∨ s.vaultUp = false) : s.issueNonce id ok
    = (((s.event F.SYM_EVT_RESV_FAIL).bump F.SYM_RESV_FAILS).reason .sym 0x0A1A, none) := by
  have hwrite : (!ok || !s.vaultUp) = true := by
    obtain rfl | hdown := hfails
    · rfl
    · rw [hdown, Bool.not_false, Bool.or_true]
  rw [State.issueNonce, if_neg (Nat.not_lt.mpr h), if_pos hwrite]

end

/-- R244, R245: a stream's counter moves on with each nonce, past its reservation only once the vault holds the next one. -/
theorem State.issueNonce_fresh {s t : State} {id : Nat} {ok : Bool} {n : Bytes} (h : s.issueNonce id ok = (t, some n)) :
    n = s.nonceBytes id (s.nonceStream id).next ∧ (t.nonceStream id).next = (s.nonceStream id).next + 1
      ∧ ((s.nonceStream id).next < (s.nonceStream id).hi → t.vault = s.vault)
      ∧ ((s.nonceStream id).hi ≤ (s.nonceStream id).next → t.nonceLimit id = (s.nonceStream id).hi + 65536
          ∧ (t.nonceStream id).hi = (s.nonceStream id).hi + 65536) := by
  by_cases hroom : (s.nonceStream id).next < (s.nonceStream id).hi
  · rw [State.issueNonce_below hroom] at h
    cases h
    have hput := s.nonceStream_setNonceStream { s.nonceStream id with next := (s.nonceStream id).next + 1 }
    rw [show ({ s.nonceStream id with next := (s.nonceStream id).next + 1 } : NonceStream).id = id from s.nonceStream_id id] at hput
    exact ⟨rfl, by rw [hput], fun _ => rfl, fun hfull => absurd hroom (Nat.not_lt.mpr hfull)⟩
  · have hfull := Nat.not_lt.mp hroom
    by_cases hwritten : ok = true ∧ s.vaultUp = true
    · obtain ⟨rfl, hup⟩ := hwritten
      rw [State.issueNonce_reserves hfull hup] at h
      cases h
      have hput := (s.nonceReserved id).nonceStream_setNonceStream ⟨id, (s.nonceStream id).next + 1, (s.nonceStream id).hi + 65536⟩
      exact ⟨rfl, by rw [hput], fun hbelow => absurd hbelow hroom, fun _ => ⟨s.nonceLimit_nonceReserved id, by rw [hput]⟩⟩
    · have hfails : ok = false ∨ s.vaultUp = false := by
        rwa [not_and_or, Bool.not_eq_true, Bool.not_eq_true] at hwritten
      rw [State.issueNonce_unreserved hfull hfails] at h
      cases h

theorem State.issueNonce_failed {s : State} {id : Nat} (h : (s.nonceStream id).hi ≤ (s.nonceStream id).next) :
    (s.issueNonce id false).2 = none ∧ (s.issueNonce id false).1.vault = s.vault
      ∧ (s.issueNonce id false).1.get F.SYM_REASON_REASON = 0x0A1A := by
  rw [State.issueNonce_unreserved h (.inl rfl)]
  exact ⟨rfl, rfl, State.get_put_same _ _ _ (by decide) (by decide)⟩

end Sys2Proof.Machine
end

section
/-! SUPPORT. The engines at work (R241, R247, R252 to R257): which request runs next, what a segment makes of it, and what a request yields. -/
namespace Sys2Proof.Machine

open Sys2Proof

/-! ## Which request runs (R252, R255) -/

theorem reqBefore_iff (a b : SymReq) : reqBefore a b = true ↔ a.cls < b.cls ∨ (a.cls = b.cls ∧ a.arrival < b.arrival) := by
  simp [reqBefore]

theorem bestReq_eq_none {l : List SymReq} : bestReq l = none ↔ l = [] := by
  cases l with
  | nil => simp [bestReq]
  | cons a l =>
    cases hb : bestReq l with
    | none => simp [bestReq, hb]
    | some b => cases hba : reqBefore b a <;> simp [bestReq, hb, hba]

/-- The request served next is one of those that can run, and none of these has a higher class. -/
theorem bestReq_least {l : List SymReq} {r : SymReq} (h : bestReq l = some r) : r ∈ l ∧ ∀ x ∈ l, r.cls ≤ x.cls := by
  induction l generalizing r with
  | nil => cases h
  | cons a l ih =>
    rw [List.forall_mem_cons]
    cases hb : bestReq l with
    | none =>
      obtain rfl := bestReq_eq_none.mp hb
      cases h
      exact ⟨List.mem_singleton_self _, le_rfl, by simp⟩
    | some b =>
      obtain ⟨hmem, hleast⟩ := ih hb
      simp only [bestReq, hb] at h
      split at h
      · next hbefore =>
        cases h
        rw [reqBefore_iff] at hbefore
        exact ⟨List.mem_cons_of_mem _ hmem, by omega, hleast⟩
      · next hafter =>
        cases h
        rw [reqBefore_iff] at hafter
        exact ⟨List.mem_cons_self, le_rfl, fun x hx => Nat.le_trans (by omega) (hleast x hx)⟩

/-- A P-521 operation in progress is not preempted. -/
theorem State.pickOn_running {s : State} {e : Nat} {r : SymReq}
    (h : (s.ready e).find? (fun r => r.begun && opQueue (dOp r.desc) == 3) = some r) : s.pickOn e = some r := by
  simp only [State.pickOn, h]

theorem State.pickOn_of_empty {s : State} (h : s.sym.queue = []) (e : Nat) : s.pickOn e = none := by
  have hready : s.ready e = [] := by rw [State.ready, h, List.filter_nil]
  simp [State.pickOn, hready, bestReq]

/-! ## The segments of a request (R241, R247, R252) -/

theorem State.turns_of_empty {s : State} (h : s.sym.queue = []) (e n : Nat) : State.turns e n s = s := by
  induction n with
  | zero => rfl
  | succ n ih =>
    have hturn : s.turn e = s := by rw [State.turn, State.pickOn_of_empty h]
    rw [State.turns, hturn, ih]

theorem cipherResponse_of_empty {s : State} (h : s.sym.queue = []) (l : List (Fin 7 × Nat)) : cipherResponse l s = s := by
  unfold cipherResponse
  induction l with
  | nil => rfl
  | cons x l ih => rw [List.foldl_cons, State.turns_of_empty h, ih]

/-- One segment on one engine, whose request has begun. -/
theorem cipherResponse_begun {s : State} {e : Fin 7} {r : SymReq} (hpick : s.pickOn (engineCode e) = some r) (hbegun : r.begun = true) :
    cipherResponse [(e, 1)] s = (s.countSegment (engineCode e) r.cls).segmentDone r := by
  have hturn : s.turn (engineCode e) = (s.countSegment (engineCode e) r.cls).segmentDone r := by
    simp only [State.turn, hpick, hbegun, if_true]
  exact hturn

section
variable (s : State) (r : SymReq) (n : Nat)

theorem State.runPart_left (key : Bytes) : s.runPart { r with left := n } key = s.runPart r key := rfl

theorem State.runExport_left : s.runExport { r with left := n } = s.runExport r := rfl

theorem State.runImport_left : s.runImport { r with left := n } = s.runImport r := rfl

theorem State.runP521_left (key : Bytes) : s.runP521 { r with left := n } key = s.runP521 r key := rfl

theorem State.symProcess_left : s.symProcess { r with left := n } = s.symProcess r := by
  simp only [State.symProcess, State.runPart_left, State.runExport_left, State.runImport_left, State.runP521_left]

/-- What a request yields and answers does not depend on the segments it has left. -/
theorem State.finishReq_left : s.finishReq { r with left := n } = s.finishReq r := by
  have hnonce : s.sentNonce { r with left := n } = s.sentNonce r := rfl
  have hdrop : s.dropReq { r with left := n } = s.dropReq r := rfl
  simp only [State.finishReq, State.symProcess_left, hnonce, hdrop]

end

theorem State.segmentDone_last {r : SymReq} (h : r.left ≤ 1) (s : State) : s.segmentDone r = s.finishReq r := by
  have hlast : (decide (r.left - 1 = 0) || SymReq.failed { r with left := r.left - 1 }) = true := by
    rw [decide_eq_true (Nat.sub_eq_zero_of_le h), Bool.true_or]
  exact (if_pos hlast).trans (s.finishReq_left r _)

/-- A segment before the last one, of which no further output passes. -/
theorem State.segmentDone_silent {r : SymReq} (hleft : 1 < r.left) (hgood : SymReq.failed { r with left := r.left - 1 } = false)
    (hpassed : SymReq.passed { r with left := r.left - 1 } ≤ r.written) (s : State) :
    s.segmentDone r = s.putReq { r with left := r.left - 1 } := by
  have hmore : ¬ (decide (r.left - 1 = 0) || SymReq.failed { r with left := r.left - 1 }) = true := by
    rw [hgood, Bool.or_false, decide_eq_true_eq]
    omega
  have hn : min (SymReq.passed { r with left := r.left - 1 }) (s.outputOf { r with left := r.left - 1 }).length ≤ r.written :=
    (Nat.min_le_left _ _).trans hpassed
  simp only [State.segmentDone, if_neg hmore, if_neg (Nat.not_lt.mpr hn), Nat.max_eq_left hn]

/-- Buffered output passes after the last segment, as it is copied (R247). -/
theorem SymReq.passed_of_buffered {r : SymReq} (hbuf : buffered r.desc = true) (hdone : r.done ≤ segmentsOf r.desc) : r.passed = 0 := by
  simp only [SymReq.passed, hbuf, if_true, Nat.sub_eq_zero_of_le hdone, Nat.mul_zero]

/-! ## The response (R241, Table 9-4) -/

theorem le_symResponse (code engine ctx n : Nat) (nonce tag : Bytes) : le (symResponse code engine ctx n nonce tag) 0 2 = code % 2 ^ 16 := by
  have hreason : slice (symResponse code engine ctx n nonce tag) 0 2 = toLE 2 code := by simp [slice, symResponse]
  rw [le, hreason, leNat_toLE]
  norm_num

/-- A response carries REASON 0, or no output. -/
theorem State.finishReq_last {r : SymReq} (h : r.mailbox = false) (s : State) :
    ∃ x, (s.finishReq r).sym.last = some x ∧ (le x.resp 0 2 = 0 ∨ x.out = []) := by
  simp only [State.finishReq, State.symRespond, h, Bool.false_eq_true, if_false]
  refine ⟨_, rfl, ?_⟩
  by_cases hcode : ((s.dropReq r).symProcess r).1.2.1 = 0
  · left
    dsimp only
    rw [le_symResponse, hcode, Nat.zero_mod]
  · exact .inr (if_neg hcode)

/-! ## What an operation yields (R247, R253, R257) -/

/-- An authenticated decrypt whose tag fails yields no output. -/
theorem runDecrypt_authenticated {d : Bytes} (h : dMode d = 1 ∨ dMode d = 2) (x key : Bytes) :
    (runDecrypt d x key).1 = 0 ∨ runDecrypt d x key = (0x0A06, []) := by
  obtain hgcm | hccm := h
  · simp only [runDecrypt, hgcm]
    split
    · exact .inl rfl
    · exact .inr rfl
  · simp only [runDecrypt, hccm]
    split
    · exact .inl rfl
    · exact .inr rfl

theorem State.symProcess_hash {s : State} {r : SymReq} (hop : dOp r.desc = 0x10) (hsingle : dSingle r.desc = true) (hslot : r.slot = 0xFF)
    (hctx : s.sym.ctx.length = 32) : s.symProcess r = ((s, 0, Crypto.sha512 (reqData r.desc r.input), []), 0xFF) := by
  have hlast : dFlag r.desc 1 = true := by
    rw [dSingle, Bool.and_eq_true] at hsingle
    obtain ⟨-, hlast⟩ := hsingle
    exact hlast
  have hnone : s.ctx 0xFF = none := by simp [State.ctx, hctx]
  have hmulti : multiOk 0x10 = true := rfl
  simp [State.symProcess, State.runPart, hop, hmulti, hlast, hslot, hnone, newCtx]

theorem State.symProcess_random {r : SymReq} (hop : dOp r.desc = 0x30) (hpr : dFlag r.desc 3 = false) (s : State) :
    s.symProcess r = ((s.fresh (dLen r.desc), 0, s.drawn (dLen r.desc), []), 0xFF) := by
  have hwhole : multiOk 0x30 = false := rfl
  simp only [State.symProcess, hwhole, hop, hpr, Bool.false_eq_true, if_false]
  rfl

theorem State.symProcess_macVerify {r : SymReq} (hop : dOp r.desc = 0x04) (s : State) : s.symProcess r = ((s,
    if (Crypto.cmac r.key (reqData r.desc r.input)).take (dTag r.desc) = padTo (dTag r.desc) (reqTail r.desc r.input) then 0 else 0x0A06,
    [], []), 0xFF) := by
  have hwhole : multiOk 0x04 = false := rfl
  simp only [State.symProcess, hwhole, hop, Bool.false_eq_true, if_false]

/-! ## O28 -/

/-- Settles O28: a nonce by whether its stream has reached its reservation, a segment by whether it is the last, a request by its operation. -/
theorem noncesAreFreshAndCipherResponsesComplete : Obligations.NoncesAreFreshAndCipherResponsesComplete := by
  unfold Obligations.NoncesAreFreshAndCipherResponsesComplete
  exact ⟨fun s t id ok n h => State.issueNonce_fresh h, fun s id h => State.issueNonce_failed h,
    fun d x key h => runDecrypt_authenticated h x key, fun s r h => State.finishReq_last h s,
    fun r hbuf hdone => SymReq.passed_of_buffered hbuf hdone,
    fun s l h => congrArg Host.Outcome.next (cipherResponse_of_empty h l),
    fun s e r hpick hbegun hleft =>
      congrArg Host.Outcome.next ((cipherResponse_begun hpick hbegun).trans (State.segmentDone_last hleft _)),
    fun s e r hpick hbegun hleft hgood hpassed =>
      congrArg Host.Outcome.next ((cipherResponse_begun hpick hbegun).trans (State.segmentDone_silent hleft hgood hpassed _)),
    fun s e r x hrunning hpick => Option.some.inj (hpick.symm.trans (State.pickOn_running hrunning)),
    fun s r hop hsingle hslot hctx => State.symProcess_hash hop hsingle hslot hctx,
    fun s r hop hpr => State.symProcess_random hop hpr s, fun s r hop => State.symProcess_macVerify hop s,
    fun r l h => bestReq_least h⟩

end Sys2Proof.Machine
end

section
/-! SUPPORT. Faults of the pipelines and of the SHA-512 and P-521 engines (R237, R260): what a failed engine shows, and where its requests go. -/
namespace Sys2Proof.Machine

open Sys2Proof

/-! ## Registers beside the working state of SYM -/

theorem State.get_withSym (s : State) (x : Sym) (f : Field) : ({ s with sym := x } : State).get f = s.get f := State.get_of_regs rfl f

theorem State.get_moveQueue (s : State) (pick : SymReq → Bool) (e : Nat) (f : Field) : (s.moveQueue pick e).get f = s.get f :=
  State.get_of_regs rfl f

/-! ## A failed pipeline (R260) -/

theorem State.moveQueue_regs (s : State) (pick : SymReq → Bool) (e : Nat) : (s.moveQueue pick e).regs = s.regs := rfl

theorem State.moveQueue_failed (s : State) (pick : SymReq → Bool) (e : Nat) : (s.moveQueue pick e).sym.failed = s.sym.failed := rfl

theorem State.moveQueue_length (s : State) (pick : SymReq → Bool) (e : Nat) : (s.moveQueue pick e).sym.queue.length = s.sym.queue.length :=
  List.length_map _

/-- What has moved has left its engine. -/
theorem State.moveQueue_leaves (s : State) {a b : Nat} (h : b ≠ a) :
    ∀ r ∈ (s.moveQueue (fun r => r.engine == a) b).sym.queue, r.engine ≠ a := by
  intro r hr
  obtain ⟨x, -, rfl⟩ := List.mem_map.mp hr
  split
  · exact h
  · next hx => simpa using hx

theorem State.failPipe_sym (s : State) (p : Nat) : (s.failPipe p).sym = { s.sym with failed := s.sym.failed.set p true } := by
  simp only [State.failPipe, State.redLoss_sym, State.reason_sym, State.event_sym, State.putFlag_sym]

theorem State.failPipe_shown (s : State) {p : Nat} (hp : p < 2) : (s.failPipe p).flag (F.SYM_PIPEn_STAT_FAILED p) = true
    ∧ (s.failPipe p).get F.SYM_REASON_REASON = 0x0A10 ∧ (s.failPipe p).get F.SYM_EVT_ENGINE_FAILED = 1
    ∧ Nat.testBit ((s.failPipe p).reg R.PWR_RED_STAT) 2 = true := by
  refine ⟨?_, ?_, ?_, State.redLoss_bit _ (by decide)⟩
  · interval_cases p <;>
      simp (disch := decide) only [State.flag, State.failPipe, State.event, State.putFlag, State.reason, reasonField, State.get_redLoss_other,
        State.get_put_apart, State.get_put_same, bit, if_true] <;> rfl
  · simp (disch := decide) only [State.failPipe, State.reason, reasonField, State.get_redLoss_other, State.get_put_same]
    rfl
  · simp (disch := decide) only [State.failPipe, State.event, State.reason, reasonField, State.get_redLoss_other, State.get_put_apart,
      State.get_put_same]
    rfl

/-! ## PIPELINE_FAULT (R260) -/

theorem State.rerunSegment_on_other {s : State} {p : Nat} {r : SymReq} (hpick : s.pickOn p = some r) (hother : s.engineFailed (1 - p) = false) :
    s.rerunSegment p = s.putReq { r with engine := 1 - p } := by
  simp only [State.rerunSegment, hpick, hother, Bool.false_eq_true, if_false]

theorem State.rerunSegment_keeps (s : State) (p : Nat) :
    (s.rerunSegment p).sym.failed = s.sym.failed ∧ (s.rerunSegment p).sym.queue.length = s.sym.queue.length := by
  unfold State.rerunSegment
  split
  · split
    · exact ⟨rfl, rfl⟩
    · exact ⟨rfl, List.length_map _⟩
  · exact ⟨rfl, rfl⟩

/-- The state in which a pipeline's fault is counted and journaled, its segment at the other pipeline. -/
def State.faultNoted (s : State) (p : Nat) : State :=
  let s1 := { s with sym := { s.sym with faults := s.sym.faults.set p (s.pipeFaults p ++ [s.mt]) } }
  ((((s1.rerunSegment p).event F.SYM_EVT_PIPE_FAULT).bump F.SYM_CNT_PIPE_FAULT).reason .sym 0x0A0F).journal 0x0A01 0x0A0F .sym 0 (toLE 1 p)

theorem State.faultNoted_keeps (s : State) (p : Nat) :
    (s.faultNoted p).sym.failed = s.sym.failed ∧ (s.faultNoted p).sym.queue.length = s.sym.queue.length := by
  simp only [State.faultNoted, State.journal_sym, State.reason_sym, State.bump_sym, State.event_sym]
  exact State.rerunSegment_keeps _ p

/-- The state in which a pipeline has failed after a fault, its requests at the other one. -/
def State.pipeFailed (s : State) (p : Nat) : State := ((s.faultNoted p).failPipe p).moveQueue (fun r => r.engine == p) (1 - p)

theorem State.pipeFailed_failed (s : State) (p : Nat) : (s.pipeFailed p).sym.failed = s.sym.failed.set p true := by
  obtain ⟨hfailed, -⟩ := s.faultNoted_keeps p
  rw [State.pipeFailed, State.moveQueue_failed, State.failPipe_sym, hfailed]

theorem State.pipeFailed_length (s : State) (p : Nat) : (s.pipeFailed p).sym.queue.length = s.sym.queue.length := by
  obtain ⟨-, hqueue⟩ := s.faultNoted_keeps p
  rw [State.pipeFailed, State.moveQueue_length, State.failPipe_sym, hqueue]

section
variable {s : State} {p : Nat} (hen : s.enabled .sym = true)
include hen

theorem pipelineFault_noted (hworks : s.engineFailed p = false) (hfew : (s.pipeFaults p).length < 2) : pipelineFault p s = s.faultNoted p := by
  have hbelow : (s.pipeFaults p ++ [s.mt]).length < 3 := by
    rw [List.length_append, List.length_singleton]
    omega
  simp only [pipelineFault, hen, hworks, hbelow, Bool.not_true, Bool.or_self, Bool.false_eq_true, if_false, if_true]
  rfl

/-- At the third fault within 24 h the pipeline fails; SYM goes down only where the other one has failed too. -/
theorem pipelineFault_full (hworks : s.engineFailed p = false) (hfull : 2 ≤ (s.pipeFaults p).length) : pipelineFault p s
    = if (s.pipeFailed p).engineFailed (1 - p) then ((s.pipeFailed p).symAbort (fun r => r.engine ≤ 1) 0x0A11).goDown .sym 0x0A11
      else s.pipeFailed p := by
  have hthree : ¬ (s.pipeFaults p ++ [s.mt]).length < 3 := by
    rw [List.length_append, List.length_singleton]
    omega
  simp only [pipelineFault, hen, hworks, hthree, Bool.not_true, Bool.or_self, Bool.false_eq_true, if_false]
  rfl

/-- The other pipeline, which works, takes the requests of the one that fails. -/
theorem pipeline_fails (hp : p < 2) (hall : s.sym.failed = [false, false, false, false]) (hthird : (s.pipeFaults p).length = 2) :
    let t := pipelineFault p s
    t.engineFailed p = true ∧ t.flag (F.SYM_PIPEn_STAT_FAILED p) = true ∧ t.get F.SYM_REASON_REASON = 0x0A10
      ∧ t.get F.SYM_EVT_ENGINE_FAILED = 1 ∧ (∀ r ∈ t.sym.queue, r.engine ≠ p) ∧ t.sym.queue.length = s.sym.queue.length
      ∧ Nat.testBit (t.reg R.PWR_RED_STAT) 2 = true := by
  have hworks : s.engineFailed p = false := by
    rw [State.engineFailed, hall]
    interval_cases p <;> rfl
  have hother : (s.pipeFailed p).engineFailed (1 - p) = false := by
    rw [State.engineFailed, s.pipeFailed_failed, hall]
    interval_cases p <;> rfl
  obtain ⟨hflag, hreason, hevent, hred⟩ := (s.faultNoted p).failPipe_shown hp
  dsimp only
  rw [pipelineFault_full hen hworks hthird.ge, if_neg (Bool.eq_false_iff.mp hother)]
  refine ⟨?_, ?_, ?_, ?_, State.moveQueue_leaves _ (by omega), s.pipeFailed_length p, ?_⟩
  · rw [State.engineFailed, s.pipeFailed_failed, hall]
    interval_cases p <;> rfl
  · rw [State.flag, State.pipeFailed, State.get_moveQueue, ← State.flag, hflag]
  · rw [State.pipeFailed, State.get_moveQueue, hreason]
  · rw [State.pipeFailed, State.get_moveQueue, hevent]
  · rw [State.pipeFailed, State.reg_of_regs (State.moveQueue_regs _ _ _), hred]

end

/-! ## ENGINE_FAULT (R260) -/

theorem State.failEngine_frame (s : State) (sha : Bool) :
    s.failEngine sha = { s with regs := (s.failEngine sha).regs, sym := (s.failEngine sha).sym } := by
  cases sha <;>
    simp only [State.failEngine, State.moveQueue, State.redLoss, State.reason, State.event, State.putFlag, State.put_eq, State.setReg_eq,
      Bool.false_eq_true, if_false, if_true]

theorem State.failEngine_failed (s : State) (sha : Bool) :
    (s.failEngine sha).sym.failed = s.sym.failed.set (if sha then 3 else 2) true := by
  cases sha <;> rfl

theorem State.failEngine_shown (s : State) (sha : Bool) :
    (s.failEngine sha).flag (if sha then F.SYM_STAT_SHA_FB else F.SYM_STAT_PK_FB) = true
      ∧ (s.failEngine sha).flag (if sha then F.SYM_STAT_SHA_OK else F.SYM_STAT_PK_OK) = false
      ∧ (s.failEngine sha).get F.SYM_REASON_REASON = if sha then 0x0A13 else 0x0A12 := by
  cases sha <;> refine ⟨?_, ?_, ?_⟩ <;>
    simp (disch := decide) only [State.flag, State.failEngine, State.putFlag, State.reason, reasonField, State.get_moveQueue,
      State.get_redLoss_other, State.get_put_apart, State.get_put_same, bit, if_true, Bool.false_eq_true, if_false] <;> rfl

theorem engineFault_fails {s : State} (hen : s.enabled .sym = true) (hall : s.sym.failed = [false, false, false, false]) (sha : Bool) :
    engineFault sha s = s.failEngine sha ∧ (s.failEngine sha).engineFailed (if sha then 3 else 2) = true := by
  rw [engineFault, hen, State.engineFailed, hall, State.engineFailed, State.failEngine_failed, hall]
  cases sha <;> exact ⟨rfl, rfl⟩

end Sys2Proof.Machine
end

section
/-! SUPPORT. The entropy source and the DRBG (R256 to R258): what a batch of samples, a retry and a reseed do. -/
namespace Sys2Proof.Machine

open Sys2Proof

/-! ## The source fails and comes back (R256, R258) -/

theorem State.entropyFail_frame (s : State) :
    s.entropyFail = { s with regs := s.entropyFail.regs, sym := { s.sym with retryMt := s.mt, batches := 0 } } := by
  simp only [State.entropyFail, State.redLoss, State.event, State.putFlag, State.put_eq, State.setReg_eq]

theorem State.entropyFail_shown (s : State) : s.entropyFail.flag F.SYM_ENT_FAILED = true ∧ s.entropyFail.flag F.SYM_STAT_ENT_OK = false
    ∧ s.entropyFail.get F.SYM_EVT_ENT_FAILED = 1 ∧ s.entropyFail.get F.SYM_REASON_REASON = s.get F.SYM_REASON_REASON
    ∧ Nat.testBit (s.entropyFail.reg R.PWR_RED_STAT) 16 = true := by
  refine ⟨?_, ?_, ?_, ?_, State.redLoss_bit _ (by decide)⟩ <;>
    simp (disch := decide) only [State.flag, State.entropyFail, State.event, State.putFlag, State.get_redLoss_other, State.get_put_apart,
      State.get_put_same, State.get_withSym, bit, if_true, Bool.false_eq_true, if_false] <;> rfl

theorem State.redClear_bit (s : State) {g : Nat} (hg : g < 32) : Nat.testBit ((s.redClear g).reg R.PWR_RED_STAT) g = false := by
  rw [State.redClear, State.reg_setReg_same, Nat.testBit_mod_two_pow, testBit_setBit_false (by omega) (.inr rfl), Bool.and_false]

/-- The state in which the source is in use again. -/
def State.entropyBack (s : State) : State :=
  let s1 := { s with sym := { s.sym with batches := 0, passMt := s.mt, retryMt := s.mt } }
  ((s1.putFlag F.SYM_ENT_FAILED false).putFlag F.SYM_STAT_ENT_OK true).redClear 16

theorem State.entropyRetried_ok {s : State} (hen : s.enabled .sym = true) (hfailed : s.entropyFailed = true) :
    s.entropyRetried true = s.entropyBack := by
  simp only [State.entropyRetried, hen, hfailed, Bool.not_true, Bool.or_self, Bool.false_eq_true, if_false]
  rfl

theorem State.entropyBack_shown (s : State) : s.entropyBack.flag F.SYM_ENT_FAILED = false ∧ s.entropyBack.flag F.SYM_STAT_ENT_OK = true
    ∧ Nat.testBit (s.entropyBack.reg R.PWR_RED_STAT) 16 = false := by
  refine ⟨?_, ?_, State.redClear_bit _ (by decide)⟩ <;>
    simp (disch := decide) only [State.flag, State.entropyBack, State.redClear, State.putFlag, State.get_setReg_other, State.get_put_apart,
      State.get_put_same, bit, if_true, Bool.false_eq_true, if_false] <;> rfl

/-! ## ENTROPY_BATCH (R256) -/

/-- The state after a batch that fails a health test is discarded. -/
def State.batchDiscarded (s : State) (l : List Bool) : State :=
  let x := repetition l s.sym.rctLast s.sym.rctRun false
  let s1 := { s with sym := { s.sym with rctLast := x.1, rctRun := x.2.1, batches := s.sym.batches + 1 } }
  let s2 := if x.2.2 then s1.bump F.SYM_ENT_RCT_FAIL else s1
  let s3 := if proportion l then s2.bump F.SYM_ENT_APT_FAIL else s2
  (s3.event F.SYM_EVT_ENT_HEALTH).reason .sym 0x0A0E

theorem State.batchDiscarded_frame (s : State) (l : List Bool) : s.batchDiscarded l = { s with
    regs := (s.batchDiscarded l).regs
    sym := { s.sym with
      rctLast := (repetition l s.sym.rctLast s.sym.rctRun false).1, rctRun := (repetition l s.sym.rctLast s.sym.rctRun false).2.1
      batches := s.sym.batches + 1 } } := by
  unfold State.batchDiscarded
  dsimp only
  split_ifs <;> rfl

theorem State.batchDiscarded_reason (s : State) (l : List Bool) : (s.batchDiscarded l).get F.SYM_REASON_REASON = 0x0A0E :=
  State.get_put_same _ _ _ (by decide) (by decide)

section
variable {s : State} {l : List Bool} (hen : s.enabled .sym = true) (hworks : s.entropyFailed = false) (hne : l ≠ [])
include hen hworks hne

theorem entropyBatch_passes (happ : proportion l = false) (hrep : (repetition l s.sym.rctLast s.sym.rctRun false).2.2 = false) :
    entropyBatch l s = { s with sym := { s.sym with
      rctLast := (repetition l s.sym.rctLast s.sym.rctRun false).1, rctRun := (repetition l s.sym.rctLast s.sym.rctRun false).2.1
      batches := 0, passMt := s.mt, firstSeed := true, seed := if s.sym.firstSeed then some (conditioned l) else s.sym.seed } } := by
  have hsome : l.isEmpty = false := by rwa [List.isEmpty_eq_false_iff]
  simp only [entropyBatch, hen, hworks, hsome, happ, hrep, Bool.not_true, Bool.not_false, Bool.or_self, Bool.and_self, Bool.false_eq_true,
    if_false, if_true]

/-- The third batch in a row that fails a health test fails the source. -/
theorem entropyBatch_third (hthird : 2 ≤ s.sym.batches)
    (hbad : (repetition l s.sym.rctLast s.sym.rctRun false).2.2 = true ∨ proportion l = true) :
    entropyBatch l s = (s.batchDiscarded l).entropyFail := by
  have hsome : l.isEmpty = false := by rwa [List.isEmpty_eq_false_iff]
  have hdiscard : (!(repetition l s.sym.rctLast s.sym.rctRun false).2.2 && !proportion l) = false := by
    obtain hrep | happ := hbad
    · rw [hrep, Bool.not_true, Bool.false_and]
    · rw [happ, Bool.not_true, Bool.and_false]
  have hthree : (decide (3 ≤ s.sym.batches + 1) || s.entropyLate) = true := by
    rw [decide_eq_true (by omega), Bool.true_or]
  simp only [entropyBatch, hen, hworks, hsome, hdiscard, hthree, Bool.not_true, Bool.or_self, Bool.false_eq_true, if_false, if_true]
  rfl

end

/-! ## DRBG_RESEED (R257) -/

theorem drbgReseed_due {s : State} (hok : s.flag F.SYM_STAT_DRBG_OK = true) (hworks : s.entropyFailed = false) (hrun : s.island 8 = 2)
    (hdue : s.sym.seedMt + 10000000 ≤ s.mt) : drbgReseed s = ({ s with
      draws := s.draws + 1
      sym := { s.sym with seedMt := s.mt, seed := none, drbgKey := (Crypto.drbgReseed s.drbg s.seedNow).1
                          drbgV := (Crypto.drbgReseed s.drbg s.seedNow).2 } }).setReg R.SYM_DRBG 0 := by
  simp only [drbgReseed, hok, hworks, hrun, Nat.not_lt.mpr hdue, Bool.not_true, ne_eq, not_true_eq_false, decide_false, Bool.or_self,
    Bool.false_eq_true, if_false]

/-! ## O29 -/

/-- Settles O29: a pipeline by the number of its faults, an engine on its first, the source by the batches that failed before. -/
theorem cipherEnginesAndEntropyFail : Obligations.CipherEnginesAndEntropyFail := by
  unfold Obligations.CipherEnginesAndEntropyFail
  refine ⟨fun s p hen hworks hfew => congrArg Host.Outcome.next (pipelineFault_noted hen hworks hfew),
    fun s p r hpick hother => State.rerunSegment_on_other hpick hother,
    fun s p hen hall hthird => ⟨_, rfl, pipeline_fails hen p.isLt hall hthird⟩, ?_, ?_,
    fun s l hen hworks hne happ hrep => congrArg Host.Outcome.next (entropyBatch_passes hen hworks hne happ hrep), ?_, ?_,
    fun s b hdue => congrArg Host.Outcome.next (if_pos hdue), fun s b hearly => congrArg Host.Outcome.next (if_neg (Nat.not_le.mpr hearly)),
    fun s hok hworks hrun hdue => congrArg Host.Outcome.next (drbgReseed_due hok hworks hrun hdue)⟩
  · intro s hen hall
    obtain ⟨hfault, hfailed⟩ := engineFault_fails hen hall true
    obtain ⟨hfirmware, hout, hreason⟩ := s.failEngine_shown true
    exact ⟨_, congrArg Host.Outcome.next hfault, hfailed, hfirmware, hout, hreason, State.moveQueue_leaves _ (by decide),
      s.failEngine_frame true⟩
  · intro s hen hall
    obtain ⟨hfault, hfailed⟩ := engineFault_fails hen hall false
    obtain ⟨hfirmware, hout, hreason⟩ := s.failEngine_shown false
    exact ⟨_, congrArg Host.Outcome.next hfault, hfailed, hfirmware, hout, hreason, s.failEngine_frame false⟩
  · intro s l hen hworks hne hthird hbad
    obtain ⟨hfailed, hout, hevent, hreason, hred⟩ := (s.batchDiscarded l).entropyFail_shown
    refine ⟨_, congrArg Host.Outcome.next (entropyBatch_third hen hworks hne hthird hbad), hfailed, hout, hevent,
      hreason.trans (s.batchDiscarded_reason l), hred, rfl, ?_, ?_, ?_⟩ <;> rw [State.entropyFail_frame, State.batchDiscarded_frame]
  · intro s hen hfailed
    obtain ⟨hback, hin, hred⟩ := s.entropyBack_shown
    exact ⟨_, congrArg Host.Outcome.next (State.entropyRetried_ok hen hfailed), hback, hin, hred, rfl, rfl⟩

end Sys2Proof.Machine
end

section
/-! SUPPORT. The fuse bank (Table 10-1) stays as it is through the work of
the shared operations, the islands, the mailbox and the network.
One lemma per operation says so, tagged for `simp`, so that the proof about a caller rewrites through the operations it calls. A lemma true by
unfolding is stated with `(rfl)`, and `simp` runs without implicit proofs where the states are large: the kernel then follows each rewriting step,
where it would otherwise compare two states by unfolding both. -/
namespace Sys2Proof.Machine

open Sys2Proof

/-! ## Shared operations -/

theorem foldl_fuses {α : Type} {f : State → α → State} (h : ∀ t x, (f t x).fuses = t.fuses) (l : List α) (s : State) :
    (l.foldl f s).fuses = s.fuses := by
  induction l generalizing s with
  | nil => rfl
  | cons x xs ih => exact (ih _).trans (h s x)

/-- A fold that carries a state beside other values leaves the fuses when each step does. -/
theorem foldl_fst_fuses {α β : Type} {f : State × β → α → State × β} (h : ∀ x a, (f x a).1.fuses = x.1.fuses) (l : List α)
    (x : State × β) : (l.foldl f x).1.fuses = x.1.fuses := by
  induction l generalizing x with
  | nil => rfl
  | cons a as ih => exact (ih _).trans (h x a)

@[simp] theorem State.generated_fuses (s : State) (n : Nat) (pr : Bool) : (s.generated n pr).fuses = s.fuses := by
  simp [State.generated, apply_ite State.fuses]

@[simp] theorem State.fresh_fuses (s : State) (n : Nat) : (s.fresh n).fuses = s.fuses := by simp [State.fresh]
@[simp] theorem State.freshPr_fuses (s : State) (n : Nat) : (s.freshPr n).fuses = s.fuses := by simp [State.freshPr]

@[simp] theorem State.signSecret_fuses (n : Nat) (s : State) : (s.signSecret n).2.fuses = s.fuses := by
  induction n generalizing s with
  | zero => rfl
  | succ n ih =>
    unfold State.signSecret
    dsimp only
    split
    · simp
    · exact (ih _).trans (by simp)

@[simp] theorem State.sign_fuses (s : State) (key digest : Bytes) : (s.sign key digest).2.fuses = s.fuses := by simp [State.sign]
@[simp] theorem State.tagPut_fuses (s : State) (block : Nat) (bs : Bytes) : (s.tagPut block bs).fuses = s.fuses := (rfl)
@[simp] theorem State.setDie_fuses (s : State) (d : Nat) (x : Die) : (s.setDie d x).fuses = s.fuses := (rfl)
@[simp] theorem State.latch_fuses (s : State) (k : LatchKind) : (s.latch k).fuses = s.fuses := (rfl)
@[simp] theorem State.refreshKeyStat_fuses (s : State) : s.refreshKeyStat.fuses = s.fuses := (rfl)
@[simp] theorem State.armMonitors_fuses (s : State) : s.armMonitors.fuses = s.fuses := by simp [State.armMonitors]

@[simp] theorem State.enterRecovery_fuses (s : State) (c : RecCause) (code : Nat) : (s.enterRecovery c code).fuses = s.fuses := by
  simp [State.enterRecovery]

/-! ## Islands and votes -/

@[simp] theorem State.dropDependants_fuses (s : State) : s.dropDependants.fuses = s.fuses := by
  simp [State.dropDependants, foldl_fuses, apply_ite State.fuses]

@[simp] theorem State.goDown_fuses (s : State) (u : Subsys) (code : Nat) : (s.goDown u code).fuses = s.fuses := by simp [State.goDown]
@[simp] theorem State.recheck_fuses (s : State) : s.recheck.fuses = s.fuses := by simp [State.recheck]

@[simp] theorem State.failIslandBy_fuses (s : State) (i : Nat) (switch : Bool) : (s.failIslandBy i switch).fuses = s.fuses := by
  simp [State.failIslandBy, State.linksDown, foldl_fuses, apply_ite State.fuses]

@[simp] theorem State.failIsland_fuses (s : State) (i : Nat) : (s.failIsland i).fuses = s.fuses := by simp [State.failIsland]
@[simp] theorem State.rfState_fuses (s : State) (n : Nat) : (s.rfState n).fuses = s.fuses := (rfl)
@[simp] theorem State.synLock_fuses (s : State) (n : Nat) (b : Bool) : (s.synLock n b).fuses = s.fuses := by simp [State.synLock]
@[simp] theorem State.rfIdle_fuses (s : State) : s.rfIdle.fuses = s.fuses := by simp [State.rfIdle, apply_ite State.fuses]

/-! ## The mailbox -/

@[simp] theorem mbRefuse_fuses (s : State) (code : Nat) : (mbRefuse s code).1.fuses = s.fuses := (rfl)
@[simp] theorem mbFail_fuses (s : State) (u : Subsys) (code : Nat) : (mbFail s u code).1.fuses = s.fuses := (rfl)
@[simp] theorem mbOk_fuses (s : State) (out : Bytes) : (mbOk s out).1.fuses = s.fuses := (rfl)

/-- A command that runs leaves the fuses as its operation does, or as they were. -/
theorem State.runAs_fuses_or (s : State) (c : MbCmd) (op : State → MbRes) :
    (s.runAs c op).fuses = s.fuses ∨ ∃ t : State, t.fuses = s.fuses ∧ (s.runAs c op).fuses = (op t).1.fuses := by
  unfold State.runAs
  dsimp only
  split
  · exact .inl (by split <;> simp)
  · refine .inr ⟨(({ s with hif := { s.hif with executing := some c } }).putFlag F.HIF_STAT_MB_EXEC true).touch, rfl, ?_⟩
    split
    · rfl
    · exact State.finish_fuses _ _ _

theorem State.runAs_fuses (s : State) (c : MbCmd) {op : State → MbRes} (h : ∀ t, (op t).1.fuses = t.fuses) :
    (s.runAs c op).fuses = s.fuses := by
  obtain hrun | ⟨t, ht, hrun⟩ := s.runAs_fuses_or c op
  · exact hrun
  · rw [hrun, h, ht]

theorem mailboxCommand_fuses (opcode : Nat) (input : Bytes) {op : State → MbRes} (h : ∀ t, (op t).1.fuses = t.fuses) (s : State) :
    (mailboxCommand opcode input op s).fuses = s.fuses := by
  unfold mailboxCommand
  (repeat' split) <;> simp [State.runAs_fuses _ _ h]

/-! ## The network and the pairs (chapter 1) -/

@[simp] theorem State.commitDue_fuses (s : State) : s.commitDue.fuses = s.fuses := by simp [State.commitDue, apply_ite State.fuses]

@[simp] theorem puppeteerOutvote_fuses (ctrl : Nat) (reloads : Bool) (s : State) : (puppeteerOutvote ctrl reloads s).fuses = s.fuses := by
  simp [puppeteerOutvote, apply_ite State.fuses]

@[simp] theorem State.setTile_fuses (s : State) (n : Nat) (t : Tile) : (s.setTile n t).fuses = s.fuses := (rfl)

@[simp] theorem State.tileWorld_fuses (s : State) (n : Nat) (w : World) : (s.tileWorld n w).fuses = s.fuses := by
  simp [State.tileWorld, State.wipeSram, apply_ite State.fuses]

@[simp] theorem placeJobs_fuses (n : Nat) (s : State) : (placeJobs n s).fuses = s.fuses := by
  induction n generalizing s with
  | zero => rfl
  | succ n ih =>
    unfold placeJobs
    split
    · exact (ih _).trans (by simp)
    · rfl

@[simp] theorem placeBackground_fuses (s : State) : (placeBackground s).fuses = s.fuses := by
  simp only [placeBackground]
  (repeat' split) <;> simp

end Sys2Proof.Machine
end

section
/-! SUPPORT. The fuse bank (Table 10-1) stays as it is through the work of
storage, time, power, the release channels, packets and cipher requests. -/
namespace Sys2Proof.Machine

open Sys2Proof

/-! ## Storage (chapter 11) -/

@[simp] theorem State.stoEvent_fuses (s : State) (code die first last : Nat) : (s.stoEvent code die first last).fuses = s.fuses := by
  simp [State.stoEvent]

@[simp] theorem State.lossEvent_fuses (s : State) (die : Nat) (positions : List Nat) : (s.lossEvent die positions).fuses = s.fuses := by
  unfold State.lossEvent
  (repeat' split) <;> simp

@[simp] theorem dieFail_fuses (d : Nat) (s : State) : (dieFail d s).fuses = s.fuses := by simp -implicitDefEqProofs [dieFail, apply_ite State.fuses]
@[simp] theorem blockRetired_fuses (d : Nat) (s : State) : (blockRetired d s).fuses = s.fuses := by simp [blockRetired, apply_ite State.fuses]

@[simp] theorem vaultBankFail_fuses (b : Nat) (retries : Bool) (s : State) : (vaultBankFail b retries s).fuses = s.fuses := by
  simp [vaultBankFail, apply_ite State.fuses]

@[simp] theorem State.served_fuses (s : State) (d c : Nat) : (s.served d c).fuses = s.fuses := by simp [State.served]

@[simp] theorem State.servedOn_fuses (s : State) (dies : List Nat) (c : Nat) : (s.servedOn dies c).fuses = s.fuses := by
  simp [State.servedOn, foldl_fuses]

@[simp] theorem State.collectBlock_fuses (s : State) (d : Nat) : (s.collectBlock d).fuses = s.fuses := (rfl)

@[simp] theorem journalDrain_fuses (programOk : Bool) (s : State) : (journalDrain programOk s).fuses = s.fuses := by
  simp only [journalDrain]
  (repeat' split) <;> simp

@[simp] theorem jrnlAck_fuses (hi : Nat) (s : State) : (jrnlAck hi s).fuses = s.fuses := by simp [jrnlAck]

@[simp] theorem checkpoint_fuses (s : State) : (checkpoint s).fuses = s.fuses := by
  simp only [checkpoint]
  (repeat' split) <;> simp

@[simp] theorem State.storeCapture_fuses (s : State) (c : Capture) : (s.storeCapture c).fuses = s.fuses := by
  simp only [State.storeCapture]
  (repeat' split) <;> simp

@[simp] theorem captureProgram_fuses (programOk : Bool) (s : State) : (captureProgram programOk s).fuses = s.fuses := by
  simp only [captureProgram]
  (repeat' split) <;> simp

@[simp] theorem State.setPin_fuses (s : State) (n : Nat) (b : Bool) : (s.setPin n b).fuses = s.fuses := by simp [State.setPin]

@[simp] theorem capturePinOp_fuses (n : Nat) (s : State) : (capturePinOp n s).1.fuses = s.fuses := by
  simp only [capturePinOp]
  (repeat' split) <;> simp

@[simp] theorem captureUnpinOp_fuses (n : Nat) (s : State) : (captureUnpinOp n s).1.fuses = s.fuses := by
  simp only [captureUnpinOp]
  (repeat' split) <;> simp

@[simp] theorem State.setStream_fuses (s : State) (k : Nat) (x : Stream) : (s.setStream k x).fuses = s.fuses := (rfl)

@[simp] theorem State.appendNow_fuses (s : State) (k : Nat) (data : Bytes) (storeOk : Bool) :
    (s.appendNow k data storeOk).1.fuses = s.fuses := by
  simp only [State.appendNow]
  (repeat' split) <;> simp

@[simp] theorem streamAppendOp_fuses (k : Nat) (data : Bytes) (storeOk : Bool) (s : State) :
    (streamAppendOp k data storeOk s).1.fuses = s.fuses := by
  simp only [streamAppendOp]
  (repeat' split) <;> simp

@[simp] theorem streamTrimOp_fuses (k record : Nat) (s : State) : (streamTrimOp k record s).1.fuses = s.fuses := by
  simp only [streamTrimOp]
  (repeat' split) <;> simp

@[simp] theorem hostNoteOp_fuses (data : Bytes) (s : State) : (hostNoteOp data s).1.fuses = s.fuses := by
  simp only [hostNoteOp]
  (repeat' split) <;> simp

@[simp] theorem scrubNow_fuses (s : State) : (scrubNow s).fuses = s.fuses := (rfl)

@[simp] theorem scrubPage_fuses (s : State) (p : PageFact) : (scrubPage s p).fuses = s.fuses := by
  simp only [scrubPage]
  (repeat' split) <;> simp

@[simp] theorem State.foldMap_fuses (s : State) : s.foldMap.fuses = s.fuses := (rfl)

@[simp] theorem State.scrubSlice_fuses (s : State) (pages : List PageFact) (aged : Nat) (passEnds : Bool) :
    (s.scrubSlice pages aged passEnds).fuses = s.fuses := by simp [State.scrubSlice, foldl_fuses, apply_ite State.fuses]

@[simp] theorem State.resealBlock_fuses (s : State) : s.resealBlock.fuses = s.fuses := by simp [State.resealBlock, foldl_fuses]

@[simp] theorem State.serve_fuses (s : State) (r : StoReq) : (s.serve r).fuses = s.fuses := by
  simp only [State.serve]
  (repeat' split) <;> simp

@[simp] theorem stoTurns_fuses (n : Nat) (s : State) : (stoTurns n s).fuses = s.fuses := by
  induction n generalizing s with
  | zero => rfl
  | succ n ih =>
    unfold stoTurns
    split
    · rfl
    · exact (ih _).trans (by simp)

@[simp] theorem State.dueStorage_fuses (s : State) : s.dueStorage.fuses = s.fuses := by simp [State.dueStorage]
@[simp] theorem State.request_fuses (s : State) (r : StoReq) : (s.request r).fuses = s.fuses := by simp [State.request]
@[simp] theorem load_fuses (s : State) : (load s).fuses = s.fuses := by simp [load, apply_ite State.fuses]
@[simp] theorem winReady_fuses (s : State) : (winReady s).fuses = s.fuses := by simp [winReady, apply_ite State.fuses]

@[simp] theorem scrubRefresh_fuses (pages : List PageFact) (blocks : ScrubBlocks) (passEnds : Bool) (s : State) :
    (scrubRefresh pages blocks passEnds s).fuses = s.fuses := by simp [scrubRefresh, foldl_fuses, apply_ite State.fuses]

@[simp] theorem State.powerFailSave_fuses (s : State) (millivolt micros : Nat) : (s.powerFailSave millivolt micros).fuses = s.fuses := by
  simp only [State.powerFailSave]
  (repeat' split) <;> simp

@[simp] theorem State.off_fuses (s : State) : s.off.fuses = s.fuses := (rfl)

@[simp] theorem State.leaveCut_fuses (s : State) (cut : PowerCut) : (s.leaveCut cut).fuses = s.fuses := by
  simp only [State.leaveCut, State.cutHead]
  (repeat' split) <;> simp

@[simp] theorem State.repairStaging_fuses (s : State) : s.repairStaging.fuses = s.fuses := by
  simp only [State.repairStaging]
  (repeat' split) <;> simp

@[simp] theorem State.repairNand_fuses (s : State) : s.repairNand.fuses = s.fuses := by simp [State.repairNand, apply_ite State.fuses]

@[simp] theorem State.stoEnabled_fuses (s : State) : s.stoEnabled.fuses = s.fuses := by
  simp [State.stoEnabled, State.flushLatched, State.showMedia, foldl_fuses, apply_ite State.fuses]

/-! ## Time (chapter 13) -/

@[simp] theorem State.setRegs_fuses (s : State) (off : Nat) (l : List Word) : (s.setRegs off l).fuses = s.fuses := by
  induction l generalizing s off with
  | nil => rfl
  | cons w ws ih => exact ih _ _

@[simp] theorem snap_fuses (s : State) : (snap s).fuses = s.fuses := by simp [snap]
@[simp] theorem State.setNtState_fuses (s : State) (n : Nat) : (s.setNtState n).fuses = s.fuses := by simp [State.setNtState, apply_ite State.fuses]
@[simp] theorem State.setPulse_fuses (s : State) (n : Nat) (p : Pulse) : (s.setPulse n p).fuses = s.fuses := (rfl)
@[simp] theorem State.stopPulse_fuses (s : State) (n : Nat) : (s.stopPulse n).fuses = s.fuses := by simp [State.stopPulse, apply_ite State.fuses]

@[simp] theorem State.loadNt_fuses (s : State) (ns : Nat) : (s.loadNt ns).fuses = s.fuses := by
  simp [State.loadNt, State.pulseStep, apply_ite State.fuses]

@[simp] theorem State.hostSynced_fuses (s : State) : s.hostSynced.fuses = s.fuses := by simp [State.hostSynced]
@[simp] theorem ntSet_fuses (s : State) : (ntSet s).fuses = s.fuses := by simp [ntSet, apply_ite State.fuses]
@[simp] theorem ntStep_fuses (s : State) : (ntStep s).fuses = s.fuses := by simp [ntStep, apply_ite State.fuses]
@[simp] theorem hostSync_fuses (s : State) : (hostSync s).fuses = s.fuses := by simp [hostSync, apply_ite State.fuses]
@[simp] theorem ntIncWrite_fuses (int : Nat) (s : State) : (ntIncWrite int s).fuses = s.fuses := by simp [ntIncWrite, apply_ite State.fuses]
@[simp] theorem holdExpiry_fuses (s : State) : (holdExpiry s).fuses = s.fuses := by simp [holdExpiry, apply_ite State.fuses]
@[simp] theorem State.enterHold_fuses (s : State) : s.enterHold.fuses = s.fuses := by simp [State.enterHold]
@[simp] theorem syncTimeout_fuses (s : State) : (syncTimeout s).fuses = s.fuses := by simp [syncTimeout, apply_ite State.fuses]

@[simp] theorem State.ntRestore_fuses (s : State) : s.ntRestore.fuses = s.fuses := by
  simp only [State.ntRestore]
  (repeat' split) <;> simp

@[simp] theorem followUp_fuses (stamp origin : Nat) (correction : Int) (source : Nat) (s : State) :
    (followUp stamp origin correction source s).fuses = s.fuses := by simp [followUp, apply_ite State.fuses]

@[simp] theorem announce_fuses (source vector : Nat) (s : State) : (announce source vector s).fuses = s.fuses := by
  simp [announce, apply_ite State.fuses]

@[simp] theorem pdelayResp_fuses (source sequence delay : Nat) (s : State) : (pdelayResp source sequence delay s).fuses = s.fuses := by
  simp [pdelayResp, apply_ite State.fuses]

@[simp] theorem State.startPulse_fuses (s : State) (n t0 next : Nat) (auto : Bool) : (s.startPulse n t0 next auto).fuses = s.fuses := by
  simp -implicitDefEqProofs [State.startPulse, apply_ite State.fuses]

@[simp] theorem pulseArm_fuses (n : Nat) (s : State) : (pulseArm n s).fuses = s.fuses := by simp [pulseArm, apply_ite State.fuses]

@[simp] theorem pulseEdge_fuses (n : Nat) (s : State) : (pulseEdge n s).fuses = s.fuses := by
  simp only [pulseEdge]
  (repeat' split) <;> simp

@[simp] theorem State.timEnabled_fuses (s : State) : s.timEnabled.fuses = s.fuses := by
  simp only [State.timEnabled, State.pulseRecord]
  (repeat' split) <;> simp [foldl_fuses, apply_ite State.fuses]

@[simp] theorem State.setStampQueue_fuses (s : State) (p : Nat) (q : List TxStamp) : (s.setStampQueue p q).fuses = s.fuses := (rfl)
@[simp] theorem pop_fuses (p : Nat) (s : State) : (pop p s).fuses = s.fuses := (rfl)
@[simp] theorem ovfClear_fuses (p : Nat) (s : State) : (ovfClear p s).fuses = s.fuses := (rfl)

@[simp] theorem txStampEntry_fuses (p : Nat) (sent : Bool) (s : State) : (txStampEntry p sent s).fuses = s.fuses := by
  unfold txStampEntry State.addStamp
  dsimp only
  (repeat' split) <;> simp

@[simp] theorem State.abandonFrames_fuses (s : State) (port : Nat) : (s.abandonFrames port).fuses = s.fuses := by
  simp [State.abandonFrames, foldl_fuses]

@[simp] theorem ptOscFail_fuses (s : State) : (ptOscFail s).fuses = s.fuses := by simp [ptOscFail]

/-! ## Power (chapter 14) -/

@[simp] theorem State.restoreFor_fuses (s : State) (i : Nat) : (s.restoreFor i).fuses = s.fuses := by simp [State.restoreFor, apply_ite State.fuses]
@[simp] theorem State.clientsWithdraw_fuses (s : State) (i : Nat) : (s.clientsWithdraw i).fuses = s.fuses := by simp [State.clientsWithdraw]

@[simp] theorem entryWalk_fuses (l : List Nat) (s : State) : (entryWalk l s).fuses = s.fuses := by
  induction l generalizing s with
  | nil => rfl
  | cons i is ih =>
    unfold entryWalk
    dsimp only
    split
    · simp
    · exact (ih _).trans (by simp)

@[simp] theorem State.dueEntry_fuses (s : State) : s.dueEntry.fuses = s.fuses := by
  simp only [State.dueEntry, State.finishEntry]
  (repeat' split) <;> simp

@[simp] theorem State.dueDrops_fuses (s : State) : s.dueDrops.fuses = s.fuses := by
  simp [State.dueDrops, State.dropped, foldl_fuses, apply_ite State.fuses]

@[simp] theorem standbyEntry_fuses (s : State) : (standbyEntry s).fuses = s.fuses := by simp [standbyEntry, apply_ite State.fuses]

@[simp] theorem stbyWaitTimeout_fuses (s : State) : (stbyWaitTimeout s).fuses = s.fuses := by
  simp only [stbyWaitTimeout]
  (repeat' split) <;> simp

@[simp] theorem islandRestored_fuses (i : Nat) (ppm : Nat) (s : State) : (islandRestored i ppm s).fuses = s.fuses := by
  simp [islandRestored, apply_ite State.fuses]

@[simp] theorem restoreTimeout_fuses (i : Nat) (s : State) : (restoreTimeout i s).fuses = s.fuses := by
  simp only [restoreTimeout]
  (repeat' split) <;> simp

@[simp] theorem levelChange_fuses (i level : Nat) (settles : Bool) (s : State) : (levelChange i level settles s).fuses = s.fuses := by
  simp only [levelChange]
  (repeat' split) <;> simp

@[simp] theorem State.reserveVoted_fuses (s : State) (ok : Bool) : (s.reserveVoted ok).fuses = s.fuses := by
  simp [State.reserveVoted, State.reserveMt, State.withdrawVote_fuses, apply_ite State.fuses]

@[simp] theorem State.noteVbat_fuses (s : State) (mv : Nat) : (s.noteVbat mv).fuses = s.fuses := by simp [State.noteVbat, apply_ite State.fuses]

/-! ## The channels of the release island (chapter 8) -/

@[simp] theorem State.switches_fuses (s : State) (op : Nat) : (s.switches op).fuses = s.fuses := by simp [State.switches, apply_ite State.fuses]

@[simp] theorem State.channelsTake_fuses (s : State) (w : Nat) : (s.channelsTake w).fuses = s.fuses := by
  simp [State.channelsTake, apply_ite State.fuses]

@[simp] theorem State.relCommand_fuses (s : State) (op : Nat) : (s.relCommand op).fuses = s.fuses := by simp [State.relCommand]
@[simp] theorem State.switchesDrop_fuses (s : State) : s.switchesDrop.fuses = s.fuses := (rfl)
@[simp] theorem State.releaseVoteOff_fuses (s : State) : s.releaseVoteOff.fuses = s.fuses := by simp [State.releaseVoteOff, State.withdrawVote_fuses]

/-! ## The way of a packet (chapter 1) -/

@[simp] theorem State.launch_fuses (s : State) (p : Packet) (src : Nat) : (s.launch p src).fuses = s.fuses := (rfl)

@[simp] theorem State.forward_fuses (s : State) (t : Turn) : (s.forward t).1.fuses = s.fuses := by
  simp only [State.forward, State.headerLeaves]
  (repeat' split) <;> simp

@[simp] theorem State.sramWrite_fuses (s : State) (i word : Nat) (ws : List (BitVec 64)) : (s.sramWrite i word ws).fuses = s.fuses := (rfl)

@[simp] theorem State.closeTx_fuses (s : State) (tag src : Nat) : (s.closeTx tag src).fuses = s.fuses := by
  simp only [State.closeTx]
  (repeat' split) <;> simp

@[simp] theorem State.acceptPacket_fuses (s : State) (p : Packet) : (s.acceptPacket p).fuses = s.fuses := by
  simp [State.acceptPacket, State.portAnswer, apply_ite State.fuses]

@[simp] theorem State.arrive_fuses (s : State) (w : Waiting) : (s.arrive w).fuses = s.fuses := by
  simp [State.arrive, State.segmentFailed, apply_ite State.fuses]

@[simp] theorem State.moment_fuses (s : State) (ts : List Turn) : (s.moment ts).fuses = s.fuses :=
  (foldl_fuses (fun t w => t.arrive_fuses w) _ _).trans (foldl_fst_fuses (fun x t => by simp) _ _)

@[simp] theorem packetReceive_fuses (sends : List Send) (moments : List (List Turn)) (arrival : List Turn) (s : State) :
    (packetReceive sends moments arrival s).fuses = s.fuses := by simp [packetReceive, State.send, foldl_fuses, apply_ite State.fuses]

@[simp] theorem State.deliverPort_fuses (s : State) (i : Nat) : (s.deliverPort i).fuses = s.fuses := by simp [State.deliverPort, foldl_fuses]
@[simp] theorem State.deliver15_fuses (s : State) : s.deliver15.fuses = s.fuses := by simp [State.deliver15, foldl_fuses]

/-! ## Cipher requests (chapter 9) -/

@[simp] theorem State.putDst_fuses (s : State) (d : Bytes) (at_ : Nat) (b : Bytes) : (s.putDst d at_ b).fuses = s.fuses := by
  simp [State.putDst, State.sramPutBytes, apply_ite State.fuses]

@[simp] theorem State.setCtx_fuses (s : State) (n : Nat) (c : Option Ctx) : (s.setCtx n c).fuses = s.fuses := (rfl)

@[simp] theorem State.symRespond_fuses (s : State) (master : Nat) (keeper mailbox : Bool) (reason : Nat) (resp out : Bytes) :
    (s.symRespond master keeper mailbox reason resp out).fuses = s.fuses := by simp [State.symRespond, apply_ite State.fuses]

@[simp] theorem State.wipeReq_fuses (s : State) (r : SymReq) : (s.wipeReq r).fuses = s.fuses := by simp [State.wipeReq, apply_ite State.fuses]
@[simp] theorem State.symDrop_fuses (s : State) (pick : SymReq → Bool) : (s.symDrop pick).fuses = s.fuses := by simp [State.symDrop, foldl_fuses]

@[simp] theorem State.symAbort_fuses (s : State) (pick : SymReq → Bool) (code : Nat) : (s.symAbort pick code).fuses = s.fuses := by
  simp [State.symAbort, foldl_fuses]

@[simp] theorem State.symTamper_fuses (s : State) : s.symTamper.fuses = s.fuses := by simp [State.symTamper]

end Sys2Proof.Machine
end

section
/-! SUPPORT. The fuse bank (Table 10-1) stays as it is through the work of
the keys, the radio sequencer, the token paths, the release and the vehicle buses. -/
namespace Sys2Proof.Machine

open Sys2Proof

/-! ## Keys and attestation (chapter 10) -/

@[simp] theorem State.refreshKeys_fuses (s : State) : s.refreshKeys.fuses = s.fuses := by
  simp only [State.refreshKeys]
  (repeat' split) <;> simp

@[simp] theorem State.commitGen_fuses (s : State) (recs : List KeyRec) (ok : Bool) : (s.commitGen recs ok).1.fuses = s.fuses := by
  simp only [State.commitGen]
  (repeat' split) <;> simp -implicitDefEqProofs

@[simp] theorem State.keyEvent_fuses (s : State) (code handle : Nat) : (s.keyEvent code handle).fuses = s.fuses := by simp [State.keyEvent]

@[simp] theorem State.checkAuth_fuses (s : State) (scope : Nat) (input auth : Bytes) : (s.checkAuth scope input auth).1.fuses = s.fuses := by
  simp only [State.checkAuth]
  (repeat' split) <;> simp

@[simp] theorem challengeOp_fuses (s : State) : (challengeOp s).1.fuses = s.fuses := by
  simp only [challengeOp]
  (repeat' split) <;> simp

@[simp] theorem State.zeroise_fuses (s0 : State) : s0.zeroise.fuses = s0.fuses := by simp [State.zeroise]

@[simp] theorem State.finishReset_fuses (s : State) (source : Nat) (out : Bytes) : (s.finishReset source out).fuses = s.fuses := by
  simp only [State.finishReset]
  (repeat' split) <;> simp

@[simp] theorem State.startBlow_fuses (s : State) (fuse opcode : Nat) : (s.startBlow fuse opcode).1.fuses = s.fuses := (rfl)

@[simp] theorem fieldOp_fuses (s : State) : (fieldOp s).1.fuses = s.fuses := by
  simp only [fieldOp]
  (repeat' split) <;> simp

@[simp] theorem retireOp_fuses (auth : Bytes) (s : State) : (retireOp auth s).1.fuses = s.fuses := by
  simp only [retireOp]
  (repeat' split) <;> simp

@[simp] theorem State.drawDeviceTag_fuses (s : State) : s.drawDeviceTag.fuses = s.fuses := by simp [State.drawDeviceTag, apply_ite State.fuses]

@[simp] theorem State.latchAlarm_fuses (s : State) (cls code : Nat) : (s.latchAlarm cls code).fuses = s.fuses := by
  unfold State.latchAlarm State.monitorTrips
  (repeat' split) <;> simp

@[simp] theorem State.t3Respond_fuses (s : State) (code : Nat) (cause : RecCause) : (s.t3Respond code cause).fuses = s.fuses := by
  simp [State.t3Respond]

@[simp] theorem State.alarmEntry_fuses (s : State) (cls code : Nat) : (s.alarmEntry cls code).fuses = s.fuses := by simp [State.alarmEntry]
@[simp] theorem State.alarmWake_fuses (s : State) : s.alarmWake.fuses = s.fuses := by simp [State.alarmWake, apply_ite State.fuses]

@[simp] theorem State.t3_fuses (s : State) (code : Nat) (cause : RecCause) : (s.t3 code cause).fuses = s.fuses := by
  simp [State.t3, apply_ite State.fuses]

@[simp] theorem State.awaitBlow_fuses (s : State) (d : Deferred) : (s.awaitBlow d).fuses = s.fuses := (rfl)
@[simp] theorem State.debugVotes_fuses (s : State) (b : Bool) : (s.debugVotes b).fuses = s.fuses := by simp [State.debugVotes]

@[simp] theorem svcUnlock_fuses (auth : Bytes) (s : State) : (svcUnlock auth s).fuses = s.fuses := by
  unfold svcUnlock State.openPort
  dsimp only
  (repeat' split) <;> simp

@[simp] theorem importOp_fuses (kind scope opcode : Nat) (sealed auth : Bytes) (commitOk : Bool) (s : State) :
    (importOp kind scope opcode sealed auth commitOk s).1.fuses = s.fuses := by
  simp only [importOp]
  (repeat' split) <;> simp

@[simp] theorem State.newKey_fuses (s : State) (kind index attr : Nat) : (s.newKey kind index attr).2.fuses = s.fuses := by simp [State.newKey]
@[simp] theorem State.nameRotate_fuses (s : State) (handle : Nat) : (s.nameRotate handle).fuses = s.fuses := (rfl)

@[simp] theorem keyGenerateOp_fuses (kind attr : Nat) (commitOk : Bool) (s : State) :
    (keyGenerateOp kind attr commitOk s).1.fuses = s.fuses := by
  simp only [keyGenerateOp]
  (repeat' split) <;> simp

@[simp] theorem keyExportOp_fuses (handle wrapping : Nat) (s : State) : (keyExportOp handle wrapping s).1.fuses = s.fuses := by
  simp only [keyExportOp]
  (repeat' split) <;> simp

@[simp] theorem keyDestroyOp_fuses (handle : Nat) (commitOk : Bool) (s : State) : (keyDestroyOp handle commitOk s).1.fuses = s.fuses := by
  simp only [keyDestroyOp]
  (repeat' split) <;> simp

@[simp] theorem keyRotateOp_fuses (handle : Nat) (commitOk : Bool) (s : State) : (keyRotateOp handle commitOk s).1.fuses = s.fuses := by
  simp only [keyRotateOp]
  (repeat' split) <;> simp

@[simp] theorem keyAttrReadOp_fuses (handle : Nat) (s : State) : (keyAttrReadOp handle s).1.fuses = s.fuses := by
  simp only [keyAttrReadOp]
  (repeat' split) <;> simp

@[simp] theorem State.markRotate_fuses (s : State) (handle : Nat) : (s.markRotate handle).fuses = s.fuses := by
  simp only [State.markRotate]
  (repeat' split) <;> simp

@[simp] theorem attestAOp_fuses (challenge : Bytes) (s : State) : (attestAOp challenge s).1.fuses = s.fuses := by
  simp only [attestAOp]
  (repeat' split) <;> simp

@[simp] theorem State.statement_fuses (s : State) (handle attr : Nat) (challenge pub : Bytes) :
    (s.statement handle attr challenge pub).2.fuses = s.fuses := by simp [State.statement]

@[simp] theorem statementBOp_fuses (handle : Nat) (challenge : Bytes) (s : State) : (statementBOp handle challenge s).1.fuses = s.fuses := by
  simp only [statementBOp]
  (repeat' split) <;> simp

@[simp] theorem statementsReadOp_fuses (s : State) : (statementsReadOp s).1.fuses = s.fuses := by
  simp only [statementsReadOp]
  (repeat' split) <;> simp

@[simp] theorem dikCertReadOp_fuses (s : State) : (dikCertReadOp s).1.fuses = s.fuses := by
  simp only [dikCertReadOp]
  (repeat' split) <;> simp

@[simp] theorem State.startupStatements_fuses (s : State) : s.startupStatements.fuses = s.fuses := by
  simp [State.startupStatements, apply_ite State.fuses]

/-! ## The radio sequencer (chapter 6) -/

@[simp] theorem State.abandonCal_fuses (s : State) : s.abandonCal.fuses = s.fuses := by
  simp only [State.abandonCal]
  (repeat' split) <;> simp

@[simp] theorem State.queueRadio_fuses (s : State) (c : RadioCmd) : (s.queueRadio c).1.fuses = s.fuses := by
  simp only [State.queueRadio]
  (repeat' split) <;> simp

@[simp] theorem State.queueWindow_fuses (s : State) (slots start us : Nat) (j : RadioJob) :
    (s.queueWindow slots start us j).fuses = s.fuses := by simp [State.queueWindow]

@[simp] theorem State.dropQueued_fuses (s : State) : s.dropQueued.fuses = s.fuses := (rfl)

@[simp] theorem State.dropOnAir_fuses (s : State) : s.dropOnAir.fuses = s.fuses := by
  simp only [State.dropOnAir]
  (repeat' split) <;> simp

@[simp] theorem State.paMeasure_fuses (s : State) : s.paMeasure.fuses = s.fuses := (rfl)
@[simp] theorem State.endTest_fuses (s : State) : s.endTest.fuses = s.fuses := by simp [State.endTest, apply_ite State.fuses]
@[simp] theorem State.radioYields_fuses (s : State) : s.radioYields.fuses = s.fuses := by simp [State.radioYields, apply_ite State.fuses]

/-! ## What every token path shares (chapters 4 and 5) -/

@[simp] theorem State.setSlot_fuses (s : State) (n : Nat) (x : Slot) : (s.setSlot n x).fuses = s.fuses := (rfl)
@[simp] theorem State.refreshSet_fuses (s : State) : s.refreshSet.fuses = s.fuses := (rfl)
@[simp] theorem State.setPath_fuses (s : State) (p : Nat) (x : PathRec) : (s.setPath p x).fuses = s.fuses := (rfl)
@[simp] theorem State.countSlot_fuses (s : State) (n : Nat) : (s.countSlot n).fuses = s.fuses := by simp [State.countSlot, apply_ite State.fuses]

@[simp] theorem State.lastRefuse_fuses (s : State) (path slot reason : Nat) : (s.lastRefuse path slot reason).fuses = s.fuses := by
  simp [State.lastRefuse]

@[simp] theorem State.refuseAttempt_fuses (s : State) (path slot tid ctr req reason : Nat) :
    (s.refuseAttempt path slot tid ctr req reason).fuses = s.fuses := by simp [State.refuseAttempt]

@[simp] theorem State.refuseUnknown_fuses (s : State) (path tid ctr req : Nat) : (s.refuseUnknown path tid ctr req).fuses = s.fuses := by
  simp [State.refuseUnknown, State.countPath, apply_ite State.fuses]

@[simp] theorem State.refuseMac_fuses (s : State) (path n tid ctr req : Nat) : (s.refuseMac path n tid ctr req).fuses = s.fuses := by
  simp [State.refuseMac]

@[simp] theorem State.failSlot_fuses (s : State) (path n : Nat) : (s.failSlot path n).fuses = s.fuses := by simp [State.failSlot]
@[simp] theorem State.standZero_fuses (s : State) : s.standZero.fuses = s.fuses := (rfl)

@[simp] theorem State.journalAuth_fuses (s : State) (path n tid ctr req : Nat) : (s.journalAuth path n tid ctr req).fuses = s.fuses := by
  simp [State.journalAuth]

@[simp] theorem State.acceptCtr_fuses (s : State) (n ctr : Nat) : (s.acceptCtr n ctr).fuses = s.fuses := (rfl)

@[simp] theorem State.retireSpent_fuses (s : State) (path n : Nat) : (s.retireSpent path n).fuses = s.fuses := by
  simp [State.retireSpent, apply_ite State.fuses]

@[simp] theorem State.replay_fuses (s : State) (n : Nat) : (s.replay n).fuses = s.fuses := (rfl)
@[simp] theorem State.refreshLf_fuses (s : State) : s.refreshLf.fuses = s.fuses := by simp -implicitDefEqProofs [State.refreshLf, foldl_fuses]

@[simp] theorem State.addUses_fuses (s : State) (p start : Nat) (ps : List Piece) (k2 : Rat) : (s.addUses p start ps k2).fuses = s.fuses := by
  simp [State.addUses, apply_ite State.fuses]

@[simp] theorem State.lfMeasured_fuses (s : State) (p c : Nat) (meas : List (Nat × Nat)) : (s.lfMeasured p c meas).fuses = s.fuses := by
  simp only [State.lfMeasured]
  (repeat' split) <;> simp

@[simp] theorem State.sendLf_fuses (s : State) (p start : Nat) (ps : List Piece) (meas : List (Nat × Nat)) :
    (s.sendLf p start ps meas).1.fuses = s.fuses := by simp -implicitDefEqProofs [State.sendLf, foldl_fuses, apply_ite State.fuses]

@[simp] theorem State.frameOn_fuses (s : State) (chs : List Nat) (start : Nat) : (s.frameOn chs start).fuses = s.fuses := (rfl)

@[simp] theorem State.showRound_fuses (s : State) (round valid collided : Nat) (lfOnly : Bool) :
    (s.showRound round valid collided lfOnly).fuses = s.fuses := (rfl)

@[simp] theorem State.setHold_fuses (s : State) (h : Option Hold) : (s.setHold h).fuses = s.fuses := (rfl)
@[simp] theorem State.dropJobs_fuses (s : State) (gone : Nat → Bool) : (s.dropJobs gone).fuses = s.fuses := by simp [State.dropJobs]

@[simp] theorem State.pushLf_fuses (s : State) (r : LfReq) : (s.pushLf r).1.fuses = s.fuses := by
  unfold State.pushLf State.cutCandle
  dsimp only
  (repeat' split) <;> simp

@[simp] theorem State.airVotes_fuses (s : State) (pair : Bool) : (s.airVotes pair).fuses = s.fuses := by simp [State.airVotes, apply_ite State.fuses]

@[simp] theorem State.releaseIdle_fuses (s : State) : s.releaseIdle.fuses = s.fuses := by
  simp [State.releaseIdle, State.withdrawVote_fuses, apply_ite State.fuses]

@[simp] theorem State.openRequest_fuses (s : State) (code path : Nat) (host : Bool) (confirm : Option (Nat × Nat)) :
    (s.openRequest code path host confirm).1.fuses = s.fuses := (rfl)

@[simp] theorem State.updRequest_fuses (s : State) (id : Nat) (f : Request → Request) : (s.updRequest id f).fuses = s.fuses := by
  simp [State.updRequest]

/-! ## The release (chapter 8) -/

@[simp] theorem State.refreshRel_fuses (s : State) : s.refreshRel.fuses = s.fuses := by simp [State.refreshRel]

@[simp] theorem State.sendRoleTo_fuses (s : State) (r mac : Nat) (msg : Bytes) : (s.sendRoleTo r mac msg).fuses = s.fuses := by
  simp [State.sendRoleTo, apply_ite State.fuses]

@[simp] theorem State.sendRole_fuses (s : State) (r : Nat) (msg : Bytes) : (s.sendRole r msg).fuses = s.fuses := by simp [State.sendRole]
@[simp] theorem State.nextSeq_fuses (s : State) : s.nextSeq.1.fuses = s.fuses := (rfl)

@[simp] theorem State.sendGrants_fuses (s : State) (st : RelStart) : (s.sendGrants st).fuses = s.fuses := by
  refine (foldl_fuses (fun t r => ?_) _ _).trans rfl
  split <;> simp

@[simp] theorem State.sendRevoke_fuses (s : State) : s.sendRevoke.fuses = s.fuses := by
  refine (foldl_fuses (fun t r => ?_) _ _).trans (by simp)
  split <;> simp

@[simp] theorem State.journalRel_fuses (s : State) (action code profile reason flags : Nat) :
    (s.journalRel action code profile reason flags).fuses = s.fuses := by simp [State.journalRel]

@[simp] theorem State.relLast_fuses (s : State) (action code reason : Nat) : (s.relLast action code reason).fuses = s.fuses := (rfl)
@[simp] theorem State.relRefuse_fuses (s : State) (code reason : Nat) : (s.relRefuse code reason).fuses = s.fuses := (rfl)
@[simp] theorem State.outputsOff_fuses (s : State) : s.outputsOff.fuses = s.fuses := by simp [State.outputsOff, apply_ite State.fuses]

@[simp] theorem State.setStart_fuses (s : State) (x : Option RelStart) : (s.setStart x).fuses = s.fuses := by
  simp [State.setStart, apply_ite State.fuses]

@[simp] theorem State.endGrant_fuses (s : State) (ok : Bool) (code slot : Nat) : (s.endGrant ok code slot).fuses = s.fuses := by
  simp [State.endGrant, apply_ite State.fuses]

@[simp] theorem State.grantStep_fuses (s : State) (st : RelStart) : (s.grantStep st).fuses = s.fuses := by
  simp [State.grantStep, apply_ite State.fuses]

@[simp] theorem State.failStart_fuses (s : State) (code slot reason : Nat) : (s.failStart code slot reason).fuses = s.fuses := by
  simp [State.failStart, apply_ite State.fuses]

@[simp] theorem State.pullIn_fuses (s : State) (st : RelStart) : (s.pullIn st).fuses = s.fuses := by
  simp [State.pullIn, State.outputsOn, apply_ite State.fuses]

@[simp] theorem State.startRelease_fuses (s : State) (code path : Nat) (o : TokOut) (profile : Nat) :
    (s.startRelease code path o profile).fuses = s.fuses := by
  simp only [State.startRelease]
  (repeat' split) <;> simp

@[simp] theorem State.noteTest_fuses (s : State) (t : OffTest) : (s.noteTest t).fuses = s.fuses := by simp [State.noteTest, apply_ite State.fuses]

@[simp] theorem offStateTest_fuses (t : OffTest) (s : State) : (offStateTest t s).fuses = s.fuses := by
  simp only [offStateTest]
  (repeat' split) <;> simp

@[simp] theorem State.dueRetry_fuses (s : State) : s.dueRetry.fuses = s.fuses := by
  simp only [State.dueRetry]
  (repeat' split) <;> simp

@[simp] theorem releaseCurrentCheck_fuses (ma : Nat) (s0 : State) : (releaseCurrentCheck ma s0).fuses = s0.fuses := by
  simp only [releaseCurrentCheck]
  (repeat' split) <;> simp

@[simp] theorem State.settleStart_fuses (s : State) : s.settleStart.fuses = s.fuses := by
  simp only [State.settleStart]
  (repeat' split) <;> simp

@[simp] theorem holdPwm_fuses (s0 : State) : (holdPwm s0).fuses = s0.fuses := by
  simp only [holdPwm]
  (repeat' split) <;> simp

@[simp] theorem overCurrentTrip_fuses (low : Bool) (s : State) : (overCurrentTrip low s).fuses = s.fuses := by
  simp [overCurrentTrip, apply_ite State.fuses]

@[simp] theorem releaseOvertemp_fuses (low cool : Bool) (s : State) : (releaseOvertemp low cool s).fuses = s.fuses := by
  simp only [releaseOvertemp]
  (repeat' split) <;> simp

@[simp] theorem State.relockIfDue_fuses (s0 : State) : s0.relockIfDue.fuses = s0.fuses := by
  simp only [State.relockIfDue, State.relockNow]
  (repeat' split) <;> simp -implicitDefEqProofs

@[simp] theorem relock_fuses (s : State) : (relock s).fuses = s.fuses := by simp -implicitDefEqProofs [relock, apply_ite State.fuses]
@[simp] theorem State.noStill_fuses (s : State) (r : Nat) (mt : Option Nat) : (s.noStill r mt).fuses = s.fuses := (rfl)
@[simp] theorem State.badMsg_fuses (s : State) (r reason : Nat) : (s.badMsg r reason).fuses = s.fuses := (rfl)
@[simp] theorem State.takePctr_fuses (s : State) (r v : Nat) : (s.takePctr r v).fuses = s.fuses := (rfl)

@[simp] theorem grantAckNow_fuses (port : Nat) (ident : Word) (msg : Bytes) (s : State) : (grantAckNow port ident msg s).fuses = s.fuses := by
  simp only [grantAckNow]
  (repeat' split) <;> simp

@[simp] theorem grantAck_fuses (port : Nat) (ident : Word) (msg : Bytes) (s : State) : (grantAck port ident msg s).fuses = s.fuses := by
  simp [grantAck, apply_ite State.fuses]

@[simp] theorem grantTimeout_fuses (s : State) : (grantTimeout s).fuses = s.fuses := by
  simp only [grantTimeout]
  (repeat' split) <;> simp

@[simp] theorem State.takeStatus_fuses (s : State) (r : Nat) (msg : Bytes) : (s.takeStatus r msg).fuses = s.fuses := by simp [State.takeStatus]

@[simp] theorem State.commitPairing_fuses (s : State) (p : Pairing) (pctr : Nat) : (s.commitPairing p pctr).1.fuses = s.fuses := by
  simp only [State.commitPairing]
  (repeat' split) <;> simp

@[simp] theorem State.takeMac_fuses (s : State) (r port mac : Nat) : (s.takeMac r port mac).fuses = s.fuses := by
  simp [State.takeMac, apply_ite State.fuses]

@[simp] theorem statusNow_fuses (port : Nat) (ident : Word) (msg : Bytes) (mac : Nat) (s : State) :
    (statusNow port ident msg mac s).fuses = s.fuses := by
  simp only [statusNow]
  (repeat' split) <;> simp

@[simp] theorem status_fuses (port : Nat) (ident : Word) (msg : Bytes) (mac : Nat) (s : State) :
    (status port ident msg mac s).fuses = s.fuses := by simp [status, apply_ite State.fuses]

@[simp] theorem statusStale_fuses (r : Nat) (s : State) : (statusStale r s).fuses = s.fuses := by
  simp only [statusStale]
  (repeat' split) <;> simp

@[simp] theorem State.announceOn_fuses (s : State) (query : Bool) : (s.announceOn query).fuses = s.fuses := by
  simp only [State.announceOn]
  (repeat' split) <;> simp

@[simp] theorem pairOp_fuses (role pid : Nat) (auth : Bytes) (s : State) : (pairOp role pid auth s).1.fuses = s.fuses := by
  simp only [pairOp]
  (repeat' split) <;> simp

@[simp] theorem pairTimeout_fuses (s : State) : (pairTimeout s).fuses = s.fuses := by
  simp only [pairTimeout]
  (repeat' split) <;> simp

@[simp] theorem State.unpairDisc_fuses (s : State) (pid : Option Bytes) : (s.unpairDisc pid).fuses = s.fuses := (rfl)

@[simp] theorem unpairOp_fuses (role : Nat) (auth : Bytes) (commitOk : Bool) (s : State) :
    (unpairOp role auth commitOk s).1.fuses = s.fuses := by
  simp only [unpairOp]
  (repeat' split) <;> simp

@[simp] theorem State.decide_fuses (s : State) (action code slot : Nat) : (s.decide_ action code slot).fuses = s.fuses := by
  simp -implicitDefEqProofs [State.decide_, apply_ite State.fuses]

@[simp] theorem State.rkeOut_fuses (s : State) (slot action reason : Nat) : (s.rkeOut slot action reason).fuses = s.fuses := by
  simp [State.rkeOut, apply_ite State.fuses]

@[simp] theorem State.confirmOut_fuses (s : State) (slot action : Nat) (out : Nat × Nat) : (s.confirmOut slot action out).fuses = s.fuses := by
  simp only [State.confirmOut]
  (repeat' split) <;> simp

@[simp] theorem State.judge_fuses (s : State) (id : Nat) (i : PolicyIn) : (s.judge id i).fuses = s.fuses := by
  simp only [State.judge]
  (repeat' split) <;> simp

@[simp] theorem State.performRequest_fuses (s : State) (rq : Request) : (s.performRequest rq).fuses = s.fuses := by
  simp only [State.performRequest, State.decideStart]
  (repeat' split) <;> simp

@[simp] theorem State.concludeRequest_fuses (s : State) (id reason : Nat) : (s.concludeRequest id reason).fuses = s.fuses := by
  simp only [State.concludeRequest]
  (repeat' split) <;> simp

@[simp] theorem State.closeRequest_fuses (s : State) (id reason : Nat) : (s.closeRequest id reason).fuses = s.fuses := by simp [State.closeRequest]
@[simp] theorem State.relEnabled_fuses (s : State) : s.relEnabled.fuses = s.fuses := (rfl)

/-! ## Vehicle buses (chapter 16) -/

@[simp] theorem State.flushHeld_fuses (s : State) (p : Nat) : (s.flushHeld p).fuses = s.fuses := by
  simp [State.flushHeld, foldl_fuses, apply_ite State.fuses]

@[simp] theorem State.refreshLinks_fuses (s : State) : s.refreshLinks.fuses = s.fuses := by
  simp [State.refreshLinks, State.setUp, State.withdrawVote_fuses, apply_ite State.fuses]

@[simp] theorem State.nextTag_fuses (s : State) (p : Nat) : (s.nextTag p).1.fuses = s.fuses := (rfl)

@[simp] theorem frameSendOp_fuses (b : Bytes) (s : State) : (frameSendOp b s).1.fuses = s.fuses := by
  simp only [frameSendOp]
  (repeat' split) <;> simp

@[simp] theorem frameRecvOp_fuses (max : Nat) (s : State) : (frameRecvOp max s).1.fuses = s.fuses := (rfl)

@[simp] theorem State.takeFrame_fuses (s : State) (rec : Bytes) : (s.takeFrame rec).fuses = s.fuses := by
  simp [State.takeFrame, apply_ite State.fuses]

@[simp] theorem busFrameReceive_fuses (rec : Bytes) (s : State) : (busFrameReceive rec s).fuses = s.fuses := by
  simp [busFrameReceive, apply_ite State.fuses]

@[simp] theorem State.setPartial_fuses (s : State) (t : Transport) (p : Option Partial) : (s.setPartial t p).fuses = s.fuses := by
  simp [State.setPartial]

@[simp] theorem State.joinSegment_fuses (s : State) (t : Transport) (p : Partial) (last : Bool) (seg : Bytes) :
    (s.joinSegment t p last seg).fuses = s.fuses := by simp [State.joinSegment, apply_ite State.fuses]

@[simp] theorem State.segment_fuses (s : State) (t : Transport) (first last : Bool) (seq : Nat) (seg : Bytes) (src : Nat) :
    (s.segment t first last seq seg src).fuses = s.fuses := by
  simp only [State.segment]
  (repeat' split) <;> simp

@[simp] theorem mailboxSegmentNow_fuses (t : Transport) (payload : Bytes) (src : Nat) (s : State) :
    (mailboxSegmentNow t payload src s).fuses = s.fuses := by simp [mailboxSegmentNow, apply_ite State.fuses]

@[simp] theorem mailboxSegment_fuses (t : Transport) (payload : Bytes) (src : Nat) (s : State) :
    (mailboxSegment t payload src s).fuses = s.fuses := by simp [mailboxSegment, apply_ite State.fuses]

@[simp] theorem busOff_fuses (c : Nat) (s : State) : (busOff c s).fuses = s.fuses := by simp [busOff, apply_ite State.fuses]
@[simp] theorem canRecover_fuses (c : Nat) (s : State) : (canRecover c s).fuses = s.fuses := by simp [canRecover, apply_ite State.fuses]
@[simp] theorem busOffRecovery_fuses (c : Nat) (s : State) : (busOffRecovery c s).fuses = s.fuses := by simp [busOffRecovery, apply_ite State.fuses]
@[simp] theorem beaconLost_fuses (s : State) : (beaconLost s).fuses = s.fuses := by simp [beaconLost, apply_ite State.fuses]
@[simp] theorem beaconReceive_fuses (s : State) : (beaconReceive s).fuses = s.fuses := by simp [beaconReceive, apply_ite State.fuses]
@[simp] theorem State.linkWake_fuses (s : State) : s.linkWake.fuses = s.fuses := by simp [State.linkWake, apply_ite State.fuses]
@[simp] theorem busWake_fuses (p : Nat) (s : State) : (busWake p s).fuses = s.fuses := by simp [busWake, apply_ite State.fuses]

@[simp] theorem State.discMsg_fuses (s : State) (port mac : Nat) (m : Bytes) : (s.discMsg port mac m).fuses = s.fuses := by
  simp [State.discMsg, apply_ite State.fuses]

@[simp] theorem discoveryNow_fuses (port : Nat) (payload : Bytes) (mac : Nat) (s : State) :
    (discoveryNow port payload mac s).fuses = s.fuses := by
  unfold discoveryNow State.discPartIn
  dsimp only
  (repeat' split) <;> simp

@[simp] theorem discoveryReceive_fuses (port : Nat) (payload : Bytes) (mac : Nat) (s : State) :
    (discoveryReceive port payload mac s).fuses = s.fuses := by simp [discoveryReceive, apply_ite State.fuses]

@[simp] theorem discoveryAnnounce_fuses (linkUp : Bool) (s : State) : (discoveryAnnounce linkUp s).fuses = s.fuses := by
  simp [discoveryAnnounce, apply_ite State.fuses]

@[simp] theorem discoveryAgeOut_fuses (s : State) : (discoveryAgeOut s).fuses = s.fuses := (rfl)
@[simp] theorem partnerListOp_fuses (s : State) : (partnerListOp s).1.fuses = s.fuses := (rfl)

end Sys2Proof.Machine
end

section
/-! SUPPORT. The fuse bank (Table 10-1) stays as it is through the work of
the cipher island, ranging and the tokens on the air. -/
namespace Sys2Proof.Machine

open Sys2Proof

/-! ## Nonces and contexts (chapter 9) -/

@[simp] theorem State.issueNonce_fuses (s : State) (id : Nat) (resvOk : Bool) : (s.issueNonce id resvOk).1.fuses = s.fuses := by
  simp only [State.issueNonce, State.setNonceStream]
  (repeat' split) <;> simp

@[simp] theorem State.symNote_fuses (s : State) (reason key : Nat) : (s.symNote reason key).fuses = s.fuses := by
  simp [State.symNote, apply_ite State.fuses]

@[simp] theorem State.symSubmit_fuses (s : State) (master : Nat) (keeper : Bool) (d input : Bytes) (resvOk mailbox : Bool) :
    (s.symSubmit master keeper d input resvOk mailbox).1.fuses = s.fuses := by
  simp only [State.symSubmit]
  (repeat' split) <;> simp

@[simp] theorem symRequest_fuses (op : Nat) (master : Nat) (keeper : Bool) (desc input : Bytes) (resvOk : Bool) (s : State) :
    (symRequest op master keeper desc input resvOk s).fuses = s.fuses := by simp [symRequest]

/-! ## The engines at work (chapter 9) -/

@[simp] theorem State.runPart_fuses (s : State) (r : SymReq) (key : Bytes) : (s.runPart r key).1.fuses = s.fuses := by
  simp only [State.runPart]
  (repeat' split) <;> simp

@[simp] theorem State.runExport_fuses (s : State) (r : SymReq) : (s.runExport r).1.fuses = s.fuses := by
  simp only [State.runExport]
  (repeat' split) <;> simp

@[simp] theorem State.runImport_fuses (s : State) (r : SymReq) : (s.runImport r).1.1.fuses = s.fuses := by
  simp only [State.runImport]
  (repeat' split) <;> simp

@[simp] theorem State.runP521_fuses (s : State) (r : SymReq) (key : Bytes) : (s.runP521 r key).1.fuses = s.fuses := by
  unfold State.runP521 State.storeKey
  dsimp only
  (repeat' split) <;> simp

@[simp] theorem State.symProcess_fuses (s : State) (r : SymReq) : (s.symProcess r).1.1.fuses = s.fuses := by
  simp only [State.symProcess]
  (repeat' split) <;> simp

@[simp] theorem State.countSegment_fuses (s : State) (e cls : Nat) : (s.countSegment e cls).fuses = s.fuses := by
  simp [State.countSegment, apply_ite State.fuses]

@[simp] theorem State.putReq_fuses (s : State) (r : SymReq) : (s.putReq r).fuses = s.fuses := by simp [State.putReq]
@[simp] theorem State.dropReq_fuses (s : State) (r : SymReq) : (s.dropReq r).fuses = s.fuses := (rfl)

@[simp] theorem State.beginReq_fuses (s : State) (r : SymReq) : (s.beginReq r).1.fuses = s.fuses := by
  unfold State.beginReq
  grind [State.issueNonce_fuses, State.setCtx_fuses]

@[simp] theorem State.refuseReq_fuses (s : State) (r : SymReq) (code : Nat) : (s.refuseReq r code).fuses = s.fuses := by simp [State.refuseReq]

@[simp] theorem State.segmentDone_fuses (s : State) (r : SymReq) : (s.segmentDone r).fuses = s.fuses := by
  simp [State.segmentDone, State.finishReq, apply_ite State.fuses]

@[simp] theorem State.turn_fuses (s : State) (e : Nat) : (s.turn e).fuses = s.fuses := by
  simp only [State.turn]
  (repeat' split) <;> simp

@[simp] theorem State.turns_fuses (e n : Nat) (s : State) : (State.turns e n s).fuses = s.fuses := by
  induction n generalizing s with
  | zero => rfl
  | succ n ih => exact (ih _).trans (by simp)

@[simp] theorem cipherResponse_fuses (turns : List (Fin 7 × Nat)) (s : State) : (cipherResponse turns s).fuses = s.fuses := by
  simp [cipherResponse, foldl_fuses]

/-! ## The rows of the cipher island (chapter 9) -/

@[simp] theorem cipherOp_fuses (input : Bytes) (resvOk : Bool) (s : State) : (cipherOp input resvOk s).1.fuses = s.fuses := by
  unfold cipherOp
  grind [State.symSubmit_fuses, mbRefuse]

@[simp] theorem State.moveQueue_fuses (s : State) (f : SymReq → Bool) (engine : Nat) : (s.moveQueue f engine).fuses = s.fuses := by
  simp [State.moveQueue]

@[simp] theorem State.rerunSegment_fuses (s : State) (p : Nat) : (s.rerunSegment p).fuses = s.fuses := by
  simp only [State.rerunSegment]
  (repeat' split) <;> simp

@[simp] theorem State.failPipe_fuses (s : State) (p : Nat) : (s.failPipe p).fuses = s.fuses := by simp [State.failPipe]
@[simp] theorem pipelineFault_fuses (p : Nat) (s : State) : (pipelineFault p s).fuses = s.fuses := by simp [pipelineFault, apply_ite State.fuses]

@[simp] theorem State.failEngine_fuses (s : State) (sha : Bool) : (s.failEngine sha).fuses = s.fuses := by
  simp [State.failEngine, apply_ite State.fuses]

@[simp] theorem engineFault_fuses (sha : Bool) (s : State) : (engineFault sha s).fuses = s.fuses := by simp [engineFault, apply_ite State.fuses]
@[simp] theorem State.entropyFail_fuses (s : State) : s.entropyFail.fuses = s.fuses := by simp [State.entropyFail]

@[simp] theorem entropyBatch_fuses (samples : List Bool) (s : State) : (entropyBatch samples s).fuses = s.fuses := by
  simp [entropyBatch, apply_ite State.fuses]

@[simp] theorem State.entropyRetried_fuses (s : State) (ok : Bool) : (s.entropyRetried ok).fuses = s.fuses := by
  simp [State.entropyRetried, apply_ite State.fuses]

@[simp] theorem drbgReseed_fuses (s : State) : (drbgReseed s).fuses = s.fuses := by simp [drbgReseed, apply_ite State.fuses]

@[simp] theorem State.symSelfTest_fuses (s : State) (x : SymTest) : (s.symSelfTest x).fuses = s.fuses := by
  simp [State.symSelfTest, apply_ite State.fuses]

@[simp] theorem State.symEnabled_fuses (s : State) : s.symEnabled.fuses = s.fuses := by simp [State.symEnabled, apply_ite State.fuses]

/-! ## Ranging (chapter 7) -/

@[simp] theorem State.refreshRng_fuses (s : State) : s.refreshRng.fuses = s.fuses := by simp [State.refreshRng]
@[simp] theorem State.updSess_fuses (s : State) (n : Nat) (f : Sess → Sess) : (s.updSess n f).fuses = s.fuses := by simp [State.updSess]
@[simp] theorem State.dropSess_fuses (s : State) (n : Nat) : (s.dropSess n).fuses = s.fuses := by simp [State.dropSess]

@[simp] theorem State.defer_fuses (s : State) (n code : Nat) : (s.defer n code).fuses = s.fuses := by
  simp only [State.defer]
  (repeat' split) <;> simp

@[simp] theorem State.reserve_fuses (s : State) (n prio : Nat) : (s.reserve n prio).fuses = s.fuses := by
  simp only [State.reserve]
  (repeat' split) <;> simp

@[simp] theorem State.updMember_fuses (s : State) (pos : Nat) (f : Member → Member) : (s.updMember pos f).fuses = s.fuses := by
  simp only [State.updMember]
  (repeat' split) <;> simp

@[simp] theorem State.holdWhy_fuses (s : State) (code : Nat) : (s.holdWhy code).fuses = s.fuses := by
  simp only [State.holdWhy]
  (repeat' split) <;> simp

@[simp] theorem State.judgeGroup_fuses (s : State) (tid : Nat) : (s.judgeGroup tid).fuses = s.fuses := by
  simp only [State.judgeGroup, State.judgeCry, State.openSession, State.conflict]
  (repeat' split) <;> simp [foldl_fuses, apply_ite State.fuses]

@[simp] theorem State.closeCrys_fuses (s : State) : s.closeCrys.fuses = s.fuses := by simp [State.closeCrys, foldl_fuses]

@[simp] theorem State.queueExchange_fuses (s : State) (n rt : Nat) : (s.queueExchange n rt).1.fuses = s.fuses := by
  simp only [State.queueExchange]
  (repeat' split) <;> simp

@[simp] theorem State.dropExchange_fuses (s : State) (n : Nat) : (s.dropExchange n).fuses = s.fuses := by simp [State.dropExchange]

@[simp] theorem exchangeStart_fuses (pos : Nat) (s0 : State) : (exchangeStart pos s0).fuses = s0.fuses := by
  simp only [exchangeStart]
  (repeat' split) <;> simp

@[simp] theorem State.abortExchange_fuses (s : State) : s.abortExchange.fuses = s.fuses := by
  simp only [State.abortExchange]
  (repeat' split) <;> simp

@[simp] theorem srepReceive_fuses (pos : Nat) (frame : Bytes) (rounds : List (List ChainHit)) (raw : Bytes) (s : State) :
    (srepReceive pos frame rounds raw s).fuses = s.fuses := by
  simp only [srepReceive]
  (repeat' split) <;> simp

@[simp] theorem State.publish_fuses (s : State) (c : Computed) (journalReason : Nat) : (s.publish c journalReason).fuses = s.fuses := by
  simp only [State.publish, State.showRes]
  (repeat' split) <;> simp -implicitDefEqProofs [foldl_fuses]

@[simp] theorem State.judgeRes_fuses (s : State) (req : Nat) (settings : List (Nat × Nat)) (cls status field : Nat) (r : Res) :
    (s.judgeRes req settings cls status field r).fuses = s.fuses := by simp [State.judgeRes]

@[simp] theorem State.endSession_fuses (s : State) (x : Sess) (c0 : Computed) : (s.endSession x c0).fuses = s.fuses := by
  simp only [State.endSession]
  (repeat' split) <;> simp -implicitDefEqProofs

@[simp] theorem State.endMode4_fuses (s : State) (x : Sess) : (s.endMode4 x).fuses = s.fuses := by simp [State.endMode4]

@[simp] theorem rangingJobDone_fuses (n : Nat) (d : Dsp) (s : State) : (rangingJobDone n d s).fuses = s.fuses := by
  simp only [rangingJobDone]
  (repeat' split) <;> simp

@[simp] theorem backgroundSliceEnd_fuses (tile : Nat) (finished : Bool) (s : State) : (backgroundSliceEnd tile finished s).fuses = s.fuses := by
  simp only [backgroundSliceEnd, State.offsetSample]
  (repeat' split) <;> simp [State.showOffsets_fuses]

@[simp] theorem driftReset_fuses (s : State) : (driftReset s).fuses = s.fuses := by simp [driftReset, State.showOffsets_fuses]

@[simp] theorem State.endHold_fuses (s : State) (reason : Nat) : (s.endHold reason).fuses = s.fuses := by
  unfold State.endHold State.lfResult
  (repeat' split) <;> simp [foldl_fuses]

@[simp] theorem State.dueHold_fuses (s0 : State) : s0.dueHold.fuses = s0.fuses := by
  simp only [State.dueHold, State.lfDoze]
  (repeat' split) <;> simp

@[simp] theorem rangingJobEnter_fuses (n : Nat) (s0 : State) : (rangingJobEnter n s0).fuses = s0.fuses := by
  unfold rangingJobEnter State.wakeTiles
  dsimp only
  (repeat' split) <;> simp [foldl_fuses]

@[simp] theorem State.restartRequests_fuses (s : State) (ids : List Nat) : (s.restartRequests ids).fuses = s.fuses := by
  simp [State.restartRequests, foldl_fuses, apply_ite State.fuses]

@[simp] theorem State.restartSessions_fuses (s : State) : s.restartSessions.fuses = s.fuses := by simp [State.restartSessions]

@[simp] theorem endWaiting_fuses (l : List Sess) (s : State) : (endWaiting l s).fuses = s.fuses := by
  induction l generalizing s with
  | nil => rfl
  | cons x xs ih => exact (ih _).trans (by split <;> simp)

@[simp] theorem tileFault_fuses (k : Nat) (s : State) : (tileFault k s).fuses = s.fuses := by simp [tileFault, apply_ite State.fuses]

@[simp] theorem shmemDoubleBitError_fuses (b : Nat) (s : State) : (shmemDoubleBitError b s).fuses = s.fuses := by
  simp [shmemDoubleBitError, State.rebuildBank, apply_ite State.fuses]

@[simp] theorem captureAccept_fuses (s : State) : (captureAccept s).fuses = s.fuses := by
  simp only [captureAccept, State.acceptCapture]
  (repeat' split) <;> simp

@[simp] theorem State.rngEnabled_fuses (s : State) : s.rngEnabled.fuses = s.fuses := by simp [State.rngEnabled, State.showOffsets_fuses]

/-! ## Tokens on the air (chapter 4) -/

@[simp] theorem State.raiseRequest_fuses (s : State) (r : LfReq) : (s.raiseRequest r).1.fuses = s.fuses := by
  simp only [State.raiseRequest]
  (repeat' split) <;> simp

@[simp] theorem hostRequestOp_fuses (lft : Bool) (s : State) : (hostRequestOp lft s).1.fuses = s.fuses := by
  simp only [hostRequestOp]
  (repeat' split) <;> simp

@[simp] theorem State.tokSent_fuses (s : State) (b : Bytes) : (s.tokSent b).fuses = s.fuses := (rfl)

@[simp] theorem State.sendWake_fuses (s : State) (h : Hold) (p start : Nat) (lfOnly : Bool) (meas : List (Nat × Nat)) :
    (s.sendWake h p start lfOnly meas).fuses = s.fuses := by simp [State.sendWake, apply_ite State.fuses]

@[simp] theorem State.startLft_fuses (s : State) (h : Hold) : (s.startLft h).fuses = s.fuses := by simp [State.startLft, apply_ite State.fuses]

@[simp] theorem lfAirGrant_fuses (meas : List (Nat × Nat)) (s0 : State) : (lfAirGrant meas s0).fuses = s0.fuses := by
  simp only [lfAirGrant]
  (repeat' split) <;> simp

@[simp] theorem State.skipPoll_fuses (s : State) : s.skipPoll.fuses = s.fuses := (rfl)

@[simp] theorem candlePoll_fuses (meas : List (Nat × Nat)) (s00 : State) : (candlePoll meas s00).fuses = s00.fuses := by
  simp [candlePoll, apply_ite State.fuses]

@[simp] theorem State.lastRssi_fuses (s : State) (v : Nat) : (s.lastRssi v).fuses = s.fuses := (rfl)

@[simp] theorem ansReceive_fuses (k : Nat) (frame : Option Bytes) (signal : SlotSignal) (s : State) :
    (ansReceive k frame signal s).fuses = s.fuses := by
  simp only [ansReceive]
  (repeat' split) <;> simp

@[simp] theorem State.endRound_fuses (s : State) (why : Nat) : (s.endRound why).fuses = s.fuses := by simp [State.endRound]

@[simp] theorem State.sendChal_fuses (s : State) (h : Hold) (listed : List (Answer × Nat)) (meas : List (Nat × Nat)) :
    (s.sendChal h listed meas).fuses = s.fuses := by simp [State.sendChal, apply_ite State.fuses]

@[simp] theorem State.nextRound_fuses (s : State) (h : Hold) (p : Nat) (meas : List (Nat × Nat)) : (s.nextRound h p meas).fuses = s.fuses := by
  simp [State.nextRound, apply_ite State.fuses]

@[simp] theorem roundClose_fuses (meas : List (Nat × Nat)) (floor : Nat) (s0 : State) : (roundClose meas floor s0).fuses = s0.fuses := by
  simp only [roundClose]
  (repeat' split) <;> simp -implicitDefEqProofs

@[simp] theorem cryReceive_fuses (pos : Nat) (frame : Bytes) (rssi : Nat) (s : State) : (cryReceive pos frame rssi s).fuses = s.fuses := by
  simp only [cryReceive]
  (repeat' split) <;> simp

@[simp] theorem sendBursts_fuses (meas : List (Nat × Nat)) (l : List Nat) (start : Nat) (s : State) :
    (sendBursts meas l start s).1.fuses = s.fuses := by
  induction l generalizing start s with
  | nil => rfl
  | cons p ps ih => exact (ih _ _).trans (s.sendLf_fuses _ _ _ _)

@[simp] theorem lmeas_fuses (meas : List (Nat × Nat)) (s0 : State) : (lmeas meas s0).fuses = s0.fuses := by
  simp only [lmeas]
  (repeat' split) <;> simp [foldl_fuses]

@[simp] theorem rptReceive_fuses (pos : Nat) (frame : Bytes) (s : State) : (rptReceive pos frame s).fuses = s.fuses := by
  simp only [rptReceive]
  (repeat' split) <;> simp

@[simp] theorem lfReturnReceive_fuses (k : Nat) (heard : List Heard) (s : State) : (lfReturnReceive k heard s).fuses = s.fuses := by
  simp only [lfReturnReceive]
  (repeat' split) <;> simp

@[simp] theorem State.rkeCommand_fuses (s : State) (n cmd : Nat) : (s.rkeCommand n cmd).fuses = s.fuses := by
  simp only [State.rkeCommand]
  (repeat' split) <;> simp

@[simp] theorem State.rkeAccept_fuses (s : State) (n tid ctr cmd : Nat) (resync : Bool) :
    (s.rkeAccept n tid ctr cmd resync).fuses = s.fuses := by simp [State.rkeAccept, apply_ite State.fuses]

@[simp] theorem State.judgeRke_fuses (s : State) (b : Bytes) : (s.judgeRke b).fuses = s.fuses := by
  simp only [State.judgeRke]
  (repeat' split) <;> simp

@[simp] theorem rkeFrame_fuses (frame : Bytes) (rssi : Nat) (s : State) : (rkeFrame frame rssi s).fuses = s.fuses := by
  simp only [rkeFrame]
  (repeat' split) <;> simp

@[simp] theorem rkeConfirmTimeout_fuses (slot : Nat) (s : State) : (rkeConfirmTimeout slot s).fuses = s.fuses := by
  simp only [rkeConfirmTimeout]
  (repeat' split) <;> simp

@[simp] theorem lockExpiry_fuses (i : Nat) (s : State) : (lockExpiry i s).fuses = s.fuses := by simp [lockExpiry, apply_ite State.fuses]
@[simp] theorem failureAgeOut_fuses (i : Nat) (s : State) : (failureAgeOut i s).fuses = s.fuses := by simp [failureAgeOut, apply_ite State.fuses]

@[simp] theorem slotStateOp_fuses (source target n : Nat) (s : State) : (slotStateOp source target n s).1.fuses = s.fuses := by
  simp only [slotStateOp]
  (repeat' split) <;> simp

end Sys2Proof.Machine
end

section
/-! SUPPORT. The fuse bank (Table 10-1) stays as it is through the work of
the radio, learning, the configuration image, the LF field and the contactless side. -/
namespace Sys2Proof.Machine

open Sys2Proof

/-! ## The radio (chapter 6) -/

@[simp] theorem radioCommand_fuses (op : RadioOp) (start ticks power : Nat) (s : State) :
    (radioCommand op start ticks power s).fuses = s.fuses := by simp [radioCommand, apply_ite State.fuses]

@[simp] theorem State.synOk_fuses (s : State) (n : Nat) : (s.synOk n).fuses = s.fuses := (rfl)

@[simp] theorem State.applyPower_fuses (s : State) (op : RadioOp) (power : Nat) : (s.applyPower op power).fuses = s.fuses := by
  simp only [State.applyPower]
  (repeat' split) <;> simp

@[simp] theorem State.jobStarts_fuses (s : State) (c : RadioCmd) : (s.jobStarts c).fuses = s.fuses := by
  simp only [State.jobStarts, State.tokSent24]
  (repeat' split) <;> simp

@[simp] theorem State.sweepStarts_fuses (s : State) (op : RadioOp) : (s.sweepStarts op).fuses = s.fuses := by
  simp [State.sweepStarts, apply_ite State.fuses]

@[simp] theorem State.goOnAir_fuses (s : State) (c : RadioCmd) (rest : List RadioCmd) : (s.goOnAir c rest).fuses = s.fuses := by
  simp [State.goOnAir, apply_ite State.fuses]

@[simp] theorem State.testOn_fuses (s : State) : s.testOn.fuses = s.fuses := by simp [State.testOn, apply_ite State.fuses]

@[simp] theorem lockDetect_fuses (s : State) : (lockDetect s).fuses = s.fuses := by
  simp only [lockDetect]
  (repeat' split) <;> simp

@[simp] theorem State.synFail_fuses (s : State) (n : Nat) : (s.synFail n).fuses = s.fuses := by simp [State.synFail, apply_ite State.fuses]

@[simp] theorem State.jobFails_fuses (s : State) (j : RadioJob) : (s.jobFails j).fuses = s.fuses := by
  simp only [State.jobFails]
  (repeat' split) <;> simp

@[simp] theorem State.dueTakeover_fuses (s : State) : s.dueTakeover.fuses = s.fuses := by simp [State.dueTakeover, apply_ite State.fuses]

@[simp] theorem lockTimeout_fuses (s : State) : (lockTimeout s).fuses = s.fuses := by
  simp only [lockTimeout]
  (repeat' split) <;> simp

@[simp] theorem lockLoss_fuses (s : State) : (lockLoss s).fuses = s.fuses := by
  simp only [lockLoss]
  (repeat' split) <;> simp -implicitDefEqProofs

@[simp] theorem windowEnd_fuses (floor : Nat) (s : State) : (windowEnd floor s).fuses = s.fuses := by
  simp only [windowEnd]
  (repeat' split) <;> simp

@[simp] theorem State.showThreshold_fuses (s : State) (raised : Bool) : (s.showThreshold raised).fuses = s.fuses := by simp [State.showThreshold]

@[simp] theorem rkeSniff_fuses (windows : List (BitVec 8)) (s : State) : (rkeSniff windows s).fuses = s.fuses := by
  simp [rkeSniff, apply_ite State.fuses]

@[simp] theorem falseDetection_fuses (s : State) : (falseDetection s).fuses = s.fuses := by
  simp only [falseDetection]
  (repeat' split) <;> simp -implicitDefEqProofs

@[simp] theorem sniffThresholdRestore_fuses (s : State) : (sniffThresholdRestore s).fuses = s.fuses := by
  simp [sniffThresholdRestore, apply_ite State.fuses]

@[simp] theorem sniffHold_fuses (b : Bool) (s : State) : (sniffHold b s).fuses = s.fuses := by simp [sniffHold, apply_ite State.fuses]
@[simp] theorem State.chainsChanged_fuses (s : State) : s.chainsChanged.fuses = s.fuses := by simp [State.chainsChanged, apply_ite State.fuses]

@[simp] theorem State.applyCal_fuses (s : State) (cause : Nat) (f : CalFacts) : (s.applyCal cause f).fuses = s.fuses := by
  simp [State.applyCal, State.calChain, foldl_fuses, apply_ite State.fuses]

@[simp] theorem State.calWanted_fuses (s : State) (cause : Nat) : (s.calWanted cause).fuses = s.fuses := by
  simp only [State.calWanted]
  (repeat' split) <;> simp

@[simp] theorem State.calBegin_fuses (s : State) : s.calBegin.fuses = s.fuses := by
  simp only [State.calBegin]
  (repeat' split) <;> simp

@[simp] theorem cal_fuses (s : State) : (cal s).fuses = s.fuses := by simp [cal, apply_ite State.fuses]

@[simp] theorem calDue_fuses (temp : Nat) (s0 : State) : (calDue temp s0).fuses = s0.fuses := by
  simp -implicitDefEqProofs [calDue, apply_ite State.fuses]

@[simp] theorem calStepEnd_fuses (last : Bool) (facts : CalFacts) (s0 : State) : (calStepEnd last facts s0).fuses = s0.fuses := by
  simp only [calStepEnd]
  (repeat' split) <;> simp

@[simp] theorem chainOff_fuses (n : Nat) (b : Bool) (s : State) : (chainOff n b s).fuses = s.fuses := by simp [chainOff, apply_ite State.fuses]
@[simp] theorem testStart_fuses (w : Nat) (s : State) : (testStart w s).fuses = s.fuses := by simp [testStart, apply_ite State.fuses]
@[simp] theorem testStop_fuses (s : State) : (testStop s).fuses = s.fuses := by simp [testStop]

@[simp] theorem State.rfEnabled_fuses (s : State) (cause : Nat) (f : CalFacts) : (s.rfEnabled cause f).fuses = s.fuses := by
  simp -implicitDefEqProofs [State.rfEnabled, apply_ite State.fuses]

/-! ## Learning (chapter 4) -/

@[simp] theorem State.setLearn_fuses (s : State) (l : Option Learn) : (s.setLearn l).fuses = s.fuses := by
  simp only [State.setLearn, State.showLearn]
  (repeat' split) <;> simp

@[simp] theorem State.touchLearn_fuses (s : State) : s.touchLearn.fuses = s.fuses := (rfl)

@[simp] theorem learnOpenOp_fuses (n : Nat) (auth : Bytes) (s0 : State) : (learnOpenOp n auth s0).1.fuses = s0.fuses := by
  simp only [learnOpenOp]
  (repeat' split) <;> simp

@[simp] theorem State.endLearnCard_fuses (s : State) : s.endLearnCard.fuses = s.fuses := by
  simp [State.endLearnCard, State.withdrawVote_fuses, apply_ite State.fuses]

@[simp] theorem State.dropLearn_fuses (s : State) : s.dropLearn.fuses = s.fuses := by simp [State.dropLearn, apply_ite State.fuses]

@[simp] theorem State.endLearnStep_fuses (s : State) (code : Nat) (out : Bytes) : (s.endLearnStep code out).fuses = s.fuses := by
  simp [State.endLearnStep, apply_ite State.fuses]

@[simp] theorem State.learnRead_fuses (s : State) (arsp : Bytes) : (s.learnRead arsp).fuses = s.fuses := by
  simp only [State.learnRead]
  (repeat' split) <;> simp

@[simp] theorem State.turnValues_fuses (x : LearnStep) (c kr : Bytes) (l : List CalExchange) (s : State) :
    (State.turnValues x c kr l s).2.fuses = s.fuses := by
  induction l generalizing s with
  | nil => rfl
  | cons e es ih =>
    unfold State.turnValues
    dsimp only
    split <;> exact (ih _).trans (by simp)

@[simp] theorem State.learnTurn_fuses (s : State) (x : LearnStep) (arsp : Bytes) (exchanges : List CalExchange) :
    (s.learnTurn x arsp exchanges).1.fuses = s.fuses := by
  simp only [State.learnTurn]
  (repeat' split) <;> simp

@[simp] theorem keyackReceive_fuses (frame arsp : Bytes) (exchanges : List CalExchange) (s : State) :
    (keyackReceive frame arsp exchanges s).fuses = s.fuses := by
  unfold keyackReceive
  have := s.learnTurn_fuses
  grind [State.endLearnStep_fuses, State.setLearn_fuses, State.commitPoint_fuses]

@[simp] theorem keyackTimeout_fuses (s : State) : (keyackTimeout s).fuses = s.fuses := by
  simp only [keyackTimeout]
  (repeat' split) <;> simp

@[simp] theorem State.commitSet_fuses (s : State) (l : Learn) (ok : Bool) : (s.commitSet l ok).1.fuses = s.fuses := by
  simp only [State.commitSet]
  (repeat' split) <;> simp

@[simp] theorem learnCommitOp_fuses (ok : Bool) (s0 : State) : (learnCommitOp ok s0).1.fuses = s0.fuses := by
  simp only [learnCommitOp]
  (repeat' split) <;> simp

@[simp] theorem State.dueCommit_fuses (s : State) : s.dueCommit.fuses = s.fuses := by
  simp only [State.dueCommit]
  (repeat' split) <;> simp

@[simp] theorem learnAbandonOp_fuses (s : State) : (learnAbandonOp s).1.fuses = s.fuses := by
  simp only [learnAbandonOp]
  (repeat' split) <;> simp -implicitDefEqProofs

@[simp] theorem learnTimeout_fuses (s : State) : (learnTimeout s).fuses = s.fuses := by
  simp only [learnTimeout]
  (repeat' split) <;> simp -implicitDefEqProofs

/-! ## The configuration image (chapter 2) -/

@[simp] theorem State.settingEntry_fuses (s : State) (id old new source : Nat) : (s.settingEntry id old new source).fuses = s.fuses := by
  simp [State.settingEntry]

@[simp] theorem State.copyBank_fuses (s : State) : s.copyBank.fuses = s.fuses := by
  simp only [State.copyBank]
  (repeat' split) <;> simp

@[simp] theorem reconcileOne_fuses (old : List (Nat × Nat)) (x : State × List (Nat × Nat)) (r : SettingRec) :
    (reconcileOne old x r).1.fuses = x.1.fuses := by
  unfold reconcileOne
  (repeat' split) <;> simp

@[simp] theorem State.reconcile_fuses (s : State) : s.reconcile.fuses = s.fuses := by
  unfold State.reconcile
  dsimp only
  (repeat' split) <;> simp -implicitDefEqProofs [foldl_fst_fuses]

@[simp] theorem settingReadOp_fuses (id : Nat) (s : State) : (settingReadOp id s).1.fuses = s.fuses := by
  simp only [settingReadOp]
  (repeat' split) <;> simp

@[simp] theorem settingWriteOp_fuses (id v : Nat) (s : State) : (settingWriteOp id v s).1.fuses = s.fuses := by
  simp only [settingWriteOp]
  (repeat' split) <;> simp

@[simp] theorem State.copyReason_fuses (s : State) (k code : Nat) : (s.copyReason k code).fuses = s.fuses := by simp [State.copyReason]

@[simp] theorem State.selectImage_fuses (s : State) (src : Nat) (img : Bytes) (secs : List Section) (unchecked : List Nat) :
    (s.selectImage src img secs unchecked).fuses = s.fuses := by simp [State.selectImage, foldl_fuses, apply_ite State.fuses]

@[simp] theorem State.startNote_fuses (s : State) (code : Nat) : (s.startNote code).fuses = s.fuses := (rfl)

@[simp] theorem tryCopies_fuses (env : Env) (l : List Nat) (s : State) : (tryCopies env l s).1.fuses = s.fuses := by
  induction l generalizing s with
  | nil => rfl
  | cons k rest ih =>
    unfold tryCopies
    split
    · simp
    · exact (ih _).trans (by simp)

@[simp] theorem State.chooseImage_fuses (s : State) (env : Env) : (s.chooseImage env).1.fuses = s.fuses := by
  simp only [State.chooseImage]
  (repeat' split) <;> simp

@[simp] theorem imgChecked_fuses (env : Env) (s : State) : (imgChecked env s).fuses = s.fuses := by
  simp [imgChecked, foldl_fuses, apply_ite State.fuses]

@[simp] theorem State.lkgRefresh_fuses (s : State) : s.lkgRefresh.fuses = s.fuses := by simp [State.lkgRefresh, apply_ite State.fuses]
@[simp] theorem State.endCfgWrite_fuses (s : State) (code : Nat) : (s.endCfgWrite code).fuses = s.fuses := (rfl)

@[simp] theorem cfgWriteOpenOp_fuses (len : Nat) (s : State) : (cfgWriteOpenOp len s).1.fuses = s.fuses := by
  simp only [cfgWriteOpenOp]
  (repeat' split) <;> simp

@[simp] theorem cfgWriteChunkOp_fuses (index : Nat) (data : Bytes) (env : Env) (s : State) :
    (cfgWriteChunkOp index data env s).1.fuses = s.fuses := by
  simp only [cfgWriteChunkOp]
  (repeat' split) <;> simp

/-! ## The LF field (chapter 5) -/

@[simp] theorem State.journalLf_fuses (s : State) (reason input value pt : Nat) : (s.journalLf reason input value pt).fuses = s.fuses := by
  simp [State.journalLf]

@[simp] theorem State.putInput_fuses (s : State) (f : Field) (w : Nat) (b : Bool) : (s.putInput f w b).fuses = s.fuses := by simp [State.putInput]

@[simp] theorem State.serveWakeAt_fuses (s : State) (w pt : Nat) (latched : Bool) : (s.serveWakeAt w pt latched).fuses = s.fuses := by
  simp -implicitDefEqProofs [State.serveWakeAt, apply_ite State.fuses]

@[simp] theorem wakeEdge_fuses (w : Nat) (s : State) : (wakeEdge w s).fuses = s.fuses := by simp [wakeEdge, State.serveWake, apply_ite State.fuses]
@[simp] theorem chatterUnmask_fuses (w : Nat) (s : State) : (chatterUnmask w s).fuses = s.fuses := by simp [chatterUnmask, apply_ite State.fuses]
@[simp] theorem wakeInputInactive_fuses (w : Nat) (s : State) : (wakeInputInactive w s).fuses = s.fuses := by simp [wakeInputInactive]
@[simp] theorem candleHold_fuses (b : Bool) (s : State) : (candleHold b s).fuses = s.fuses := by simp [candleHold, apply_ite State.fuses]

@[simp] theorem State.lftOutcome_fuses (s : State) (reason tries : Nat) : (s.lftOutcome reason tries).fuses = s.fuses := by
  simp [State.lftOutcome, apply_ite State.fuses]

@[simp] theorem State.judgeArsp_fuses (s : State) (path d : Nat) (c arsp : Bytes) (id code : Nat) :
    (s.judgeArsp path d c arsp id code).1.fuses = s.fuses := by
  simp only [State.judgeArsp]
  (repeat' split) <;> simp

@[simp] theorem lftUplinkReceive_fuses (frame : Bytes) (s : State) : (lftUplinkReceive frame s).fuses = s.fuses := by
  simp only [lftUplinkReceive]
  (repeat' split) <;> simp

@[simp] theorem lftRetry_fuses (s : State) : (lftRetry s).fuses = s.fuses := by
  simp only [lftRetry]
  (repeat' split) <;> simp

@[simp] theorem State.failChannel_fuses (s : State) (c code why : Nat) : (s.failChannel c code why).fuses = s.fuses := by simp [State.failChannel]

@[simp] theorem State.calLfChannel_fuses (s : State) (c : Nat) (m : Option (Nat × Nat)) : (s.calLfChannel c m).fuses = s.fuses := by
  simp only [State.calLfChannel]
  (repeat' split) <;> simp

@[simp] theorem State.calLf_fuses (s : State) (temp : Int) (meas : List (Option (Nat × Nat))) : (s.calLf temp meas).fuses = s.fuses := by
  simp [State.calLf, foldl_fuses]

@[simp] theorem recal_fuses (temp : Int) (meas : List (Option (Nat × Nat))) (s : State) : (recal temp meas s).fuses = s.fuses := by
  simp [recal, apply_ite State.fuses]

@[simp] theorem lfRecalDue_fuses (temp : Int) (meas : List (Option (Nat × Nat))) (s : State) : (lfRecalDue temp meas s).fuses = s.fuses := by
  simp [lfRecalDue, apply_ite State.fuses]

@[simp] theorem legFail_fuses (c : Nat) (legB : Bool) (s : State) : (legFail c legB s).fuses = s.fuses := by simp [legFail, apply_ite State.fuses]
@[simp] theorem openCoil_fuses (c : Nat) (s : State) : (openCoil c s).fuses = s.fuses := by simp [openCoil, apply_ite State.fuses]

@[simp] theorem outputShort_fuses (c : Nat) (s : State) : (outputShort c s).fuses = s.fuses := by
  simp only [outputShort]
  (repeat' split) <;> simp

@[simp] theorem driverOvertemp_fuses (hot : Bool) (s : State) : (driverOvertemp hot s).fuses = s.fuses := by
  simp [driverOvertemp, apply_ite State.fuses]

@[simp] theorem vantFault_fuses (centivolt : Nat) (s : State) : (vantFault centivolt s).fuses = s.fuses := by simp [vantFault, apply_ite State.fuses]

@[simp] theorem vantRetry_fuses (ok : Bool) (centivolt : Nat) (s : State) : (vantRetry ok centivolt s).fuses = s.fuses := by
  simp [vantRetry, apply_ite State.fuses]

@[simp] theorem lfChannelOff_fuses (c : Nat) (b : Bool) (s : State) : (lfChannelOff c b s).fuses = s.fuses := by
  simp [lfChannelOff, apply_ite State.fuses]

@[simp] theorem State.lfEnabled_fuses (s : State) (temp : Int) (meas : List (Option (Nat × Nat))) :
    (s.lfEnabled temp meas).fuses = s.fuses := by simp [State.lfEnabled]

/-! ## The reader and the tag (chapter 12) -/

@[simp] theorem State.setTag_fuses (s : State) (f : Tag → Tag) : (s.setTag f).fuses = s.fuses := (rfl)

@[simp] theorem State.pollDeferred_fuses (s : State) (why : Nat) : (s.pollDeferred why).fuses = s.fuses := by
  simp [State.pollDeferred, apply_ite State.fuses]

@[simp] theorem State.endDetection_fuses (s : State) (code : Nat) : (s.endDetection code).fuses = s.fuses := by
  simp only [State.endDetection]
  (repeat' split) <;> simp -implicitDefEqProofs [State.withdrawVote_fuses]

@[simp] theorem State.selectCard_fuses (s : State) (d : Detection) : (s.selectCard d).fuses = s.fuses := by
  simp only [State.selectCard]
  (repeat' split) <;> simp

@[simp] theorem State.startDetection_fuses (s : State) (f : CardField) (learn : Bool) : (s.startDetection f learn).fuses = s.fuses := by
  simp [State.startDetection, apply_ite State.fuses]

@[simp] theorem State.detect_fuses (s : State) (f : CardField) : (s.detect f).fuses = s.fuses := by simp [State.detect, apply_ite State.fuses]

@[simp] theorem State.dueCards_fuses (s : State) : s.dueCards.fuses = s.fuses := by
  simp only [State.dueCards]
  (repeat' split) <;> simp

@[simp] theorem lpcdSense_fuses (detuning : Option Nat) (f : CardField) (s : State) : (lpcdSense detuning f s).fuses = s.fuses := by
  simp only [lpcdSense]
  (repeat' split) <;> simp

@[simp] theorem poll_fuses (f : CardField) (s : State) : (poll f s).fuses = s.fuses := by simp [poll, apply_ite State.fuses]
@[simp] theorem State.lastCard_fuses (s : State) (c : Card) (why : Nat) : (s.lastCard c why).fuses = s.fuses := (rfl)
@[simp] theorem State.nextCard_fuses (s : State) (d : Detection) : (s.nextCard d).fuses = s.fuses := by simp [State.nextCard]

@[simp] theorem cardArsp_fuses (frame : Bytes) (level : Nat) (s : State) : (cardArsp frame level s).fuses = s.fuses := by
  simp only [cardArsp]
  (repeat' split) <;> simp -implicitDefEqProofs

@[simp] theorem cardTimeout_fuses (protocol : Bool) (s : State) : (cardTimeout protocol s).fuses = s.fuses := by
  simp only [cardTimeout]
  (repeat' split) <;> simp -implicitDefEqProofs

@[simp] theorem State.readerStop_fuses (s : State) : s.readerStop.fuses = s.fuses := by
  simp only [State.readerStop]
  (repeat' split) <;> simp

@[simp] theorem State.readerRestart_fuses (s : State) : s.readerRestart.fuses = s.fuses := by
  simp only [State.readerRestart]
  (repeat' split) <;> simp

@[simp] theorem learnTokenOp_fuses (record : Bytes) (f : CardField) (s : State) : (learnTokenOp record f s).1.fuses = s.fuses := by
  simp only [learnTokenOp]
  (repeat' split) <;> simp

@[simp] theorem State.flushTag_fuses (s : State) : s.flushTag.fuses = s.fuses := by simp [State.flushTag, foldl_fuses, apply_ite State.fuses]

@[simp] theorem fieldEntry_fuses (level : Nat) (s : State) : (fieldEntry level s).fuses = s.fuses := by
  simp [fieldEntry, State.withdrawVote_fuses, apply_ite State.fuses]

@[simp] theorem fieldLoss_fuses (deselect : Bool) (s : State) : (fieldLoss deselect s).fuses = s.fuses := by simp [fieldLoss, apply_ite State.fuses]

@[simp] theorem tagAnticollision_fuses (fl : Nat) (s : State) : (tagAnticollision fl s).fuses = s.fuses := by
  simp [tagAnticollision, apply_ite State.fuses]

@[simp] theorem State.tagAnswer_fuses (s : State) (status : Byte) (data : Bytes) : (s.tagAnswer status data).fuses = s.fuses := (rfl)

theorem State.tagFrame_fuses (s : State) (fl n micros : Nat) (args : Bytes) (authEnd writes : Bool) {run : State → State}
    (h : ∀ t, (run t).fuses = t.fuses) : (s.tagFrame fl n micros args authEnd writes run).fuses = s.fuses := by
  unfold State.tagFrame
  dsimp only
  (repeat' split) <;> simp [h]

@[simp] theorem getInfo_fuses (s : State) : (getInfo s).fuses = s.fuses := by
  simp only [getInfo]
  (repeat' split) <;> simp

@[simp] theorem tagFieldRead_fuses (args : Bytes) (s : State) : (tagFieldRead args s).fuses = s.fuses := by simp [tagFieldRead, apply_ite State.fuses]

@[simp] theorem tagFieldWrite_fuses (args : Bytes) (s : State) : (tagFieldWrite args s).fuses = s.fuses := by
  simp [tagFieldWrite, apply_ite State.fuses]

@[simp] theorem State.methodFailed_fuses (s : State) (key : Bool) : (s.methodFailed key).fuses = s.fuses := by
  simp [State.methodFailed, apply_ite State.fuses]

@[simp] theorem pwdAuth_fuses (args : Bytes) (s : State) : (pwdAuth args s).fuses = s.fuses := by
  simp only [pwdAuth]
  (repeat' split) <;> simp

@[simp] theorem authBegin_fuses (args : Bytes) (s : State) : (authBegin args s).fuses = s.fuses := by simp [authBegin, apply_ite State.fuses]
@[simp] theorem authEnd_fuses (args : Bytes) (s : State) : (authEnd args s).fuses = s.fuses := by simp [authEnd, apply_ite State.fuses]
@[simp] theorem logout_fuses (s : State) : (logout s).fuses = s.fuses := by simp [logout, apply_ite State.fuses]

@[simp] theorem State.endReservation_fuses (s : State) : s.endReservation.fuses = s.fuses := by
  simp only [State.endReservation]
  (repeat' split) <;> simp

theorem State.wired_fuses (s : State) {run : State → MbRes} (h : ∀ t, (run t).1.fuses = t.fuses) : (s.wired run).1.fuses = s.fuses := by
  unfold State.wired
  dsimp only
  (repeat' split) <;> simp [h]

@[simp] theorem tagSetPwdOp_fuses (p : Bytes) (s : State) : (tagSetPwdOp p s).1.fuses = s.fuses := by
  unfold tagSetPwdOp
  split
  · rfl
  · exact State.wired_fuses _ (by simp)

@[simp] theorem tagSetKeyOp_fuses (k : Bytes) (s : State) : (tagSetKeyOp k s).1.fuses = s.fuses := by
  unfold tagSetKeyOp
  split
  · rfl
  · exact State.wired_fuses _ (by simp)

@[simp] theorem tagReadOp_fuses (block count : Nat) (s : State) : (tagReadOp block count s).1.fuses = s.fuses := by
  refine State.wired_fuses _ fun t => ?_
  split <;> simp

@[simp] theorem tagWriteOp_fuses (block count : Nat) (data : Bytes) (s : State) : (tagWriteOp block count data s).1.fuses = s.fuses := by
  unfold tagWriteOp
  split
  · rfl
  · refine State.wired_fuses _ fun t => ?_
    (repeat' split) <;> simp

@[simp] theorem tagReserveOp_fuses (ms : Nat) (s : State) : (tagReserveOp ms s).1.fuses = s.fuses := by
  simp only [tagReserveOp]
  (repeat' split) <;> simp

@[simp] theorem tagReleaseOp_fuses (s0 : State) : (tagReleaseOp s0).1.fuses = s0.fuses := by
  simp only [tagReleaseOp]
  (repeat' split) <;> simp

@[simp] theorem clrLocks_fuses (s : State) : (clrLocks s).fuses = s.fuses := by simp [clrLocks, apply_ite State.fuses]

@[simp] theorem State.nfcEnabled_fuses (s : State) : s.nfcEnabled.fuses = s.fuses := by
  simp [State.nfcEnabled, State.writeIdentity, apply_ite State.fuses]

@[simp] theorem readerOff_fuses (b : Bool) (s : State) : (readerOff b s).fuses = s.fuses := by simp [readerOff, apply_ite State.fuses]

end Sys2Proof.Machine
end

section
/-! SUPPORT. The fuse bank (Table 10-1) stays as it is through the work of
updates, the start, the faults that reach across subsystems and the host interface. -/
namespace Sys2Proof.Machine

open Sys2Proof

/-! ## Updates (chapter 15) -/

@[simp] theorem State.setFwSlot_fuses (s : State) (k : Nat) (x : FwSlot) : (s.setFwSlot k x).fuses = s.fuses := (rfl)
@[simp] theorem State.setRole_fuses (s : State) (k : Nat) (r : SlotRole) : (s.setRole k r).fuses = s.fuses := (rfl)
@[simp] theorem State.updEntry_fuses (s : State) (code slot reason : Nat) : (s.updEntry code slot reason).fuses = s.fuses := by simp [State.updEntry]
@[simp] theorem State.updTo_fuses (s : State) (x : UpdState) : (s.updTo x).fuses = s.fuses := (rfl)
@[simp] theorem State.chunkRefused_fuses (s : State) (code : Nat) (out : Bytes) : (s.chunkRefused code out).1.fuses = s.fuses := (rfl)
@[simp] theorem State.downloadEnd_fuses (s : State) : s.downloadEnd.fuses = s.fuses := by simp [State.downloadEnd, apply_ite State.fuses]

@[simp] theorem updBeginOp_fuses (chunk0 : Bytes) (env : Env) (s : State) : (updBeginOp chunk0 env s).1.fuses = s.fuses := by
  simp only [updBeginOp]
  (repeat' split) <;> simp

@[simp] theorem updChunkOp_fuses (index : Nat) (data : Bytes) (env : Env) (s : State) : (updChunkOp index data env s).1.fuses = s.fuses := by
  simp only [updChunkOp]
  (repeat' split) <;> simp

@[simp] theorem verifyDone_fuses (rereadOk : Bool) (s : State) : (verifyDone rereadOk s).fuses = s.fuses := by
  simp [verifyDone, apply_ite State.fuses]

@[simp] theorem State.swapBank_fuses (s : State) (new : Option SettingsBank) (fresh : Bool) (slot : Nat) :
    (s.swapBank new fresh slot).fuses = s.fuses := by simp [State.swapBank, apply_ite State.fuses]

@[simp] theorem State.standbyLoads_fuses (s : State) (slot : Nat) : (s.standbyLoads slot).fuses = s.fuses := (rfl)
@[simp] theorem State.startActivation_fuses (s : State) : s.startActivation.fuses = s.fuses := by simp [State.startActivation]

@[simp] theorem State.activationCurrent_fuses (s : State) : s.activationCurrent.fuses = s.fuses := by
  simp [State.activationCurrent, apply_ite State.fuses]

@[simp] theorem updActivateOp_fuses (reset : Bool) (s : State) : (updActivateOp reset s).1.fuses = s.fuses := by
  simp only [updActivateOp]
  (repeat' split) <;> simp

@[simp] theorem State.swapRoles_fuses (s : State) : s.swapRoles.fuses = s.fuses := by
  simp [State.swapRoles, State.symTakeover, State.swapPairVotes, apply_ite State.fuses]

@[simp] theorem State.runSlot_fuses (s : State) (k : Nat) : (s.runSlot k).fuses = s.fuses := (rfl)
@[simp] theorem State.freezeDone_fuses (s : State) : s.freezeDone.fuses = s.fuses := (rfl)

@[simp] theorem State.doRevert_fuses (s : State) (why : Nat) : (s.doRevert why).fuses = s.fuses := by
  simp only [State.doRevert, State.restoreBank]
  (repeat' split) <;> simp [foldl_fuses]

@[simp] theorem quiescentPoint_fuses (s : State) : (quiescentPoint s).fuses = s.fuses := by
  simp [quiescentPoint, State.handover, State.revertHandover, apply_ite State.fuses]

@[simp] theorem actWaitTimeout_fuses (s : State) : (actWaitTimeout s).fuses = s.fuses := by simp [actWaitTimeout, apply_ite State.fuses]
@[simp] theorem State.startRevert_fuses (s : State) (why : Nat) : (s.startRevert why).fuses = s.fuses := (rfl)
@[simp] theorem State.dropActivation_fuses (s : State) : s.dropActivation.fuses = s.fuses := (rfl)
@[simp] theorem State.reloadsOver_fuses (s : State) : s.reloadsOver.fuses = s.fuses := by simp [State.reloadsOver, apply_ite State.fuses]

@[simp] theorem satelliteReload_fuses (s : State) : (satelliteReload s).fuses = s.fuses := by
  simp only [satelliteReload]
  (repeat' split) <;> simp

@[simp] theorem reloadDone_fuses (ok : Bool) (s : State) : (reloadDone ok s).fuses = s.fuses := by
  unfold reloadDone State.reloadEnd
  (repeat' split) <;> simp

@[simp] theorem State.dueReseal_fuses (s : State) : s.dueReseal.fuses = s.fuses := by simp [State.dueReseal, State.resealEnd, apply_ite State.fuses]
@[simp] theorem State.forwardReseal_fuses (s : State) : s.forwardReseal.fuses = s.fuses := by simp [State.forwardReseal, apply_ite State.fuses]

@[simp] theorem updConfirmOp_fuses (recordOk : Bool) (s : State) : (updConfirmOp recordOk s).1.fuses = s.fuses := by
  simp only [updConfirmOp]
  (repeat' split) <;> simp

@[simp] theorem updRevertOp_fuses (s : State) : (updRevertOp s).1.fuses = s.fuses := by
  simp only [updRevertOp]
  (repeat' split) <;> simp

@[simp] theorem updAbortOp_fuses (s : State) : (updAbortOp s).1.fuses = s.fuses := by
  simp only [updAbortOp]
  (repeat' split) <;> simp

/-! ## The start and the enables (chapters 2 and 3) -/

@[simp] theorem powerOn_fuses (s : State) : (powerOn s).fuses = s.fuses := by simp [powerOn, apply_ite State.fuses]

@[simp] theorem State.resetSource_fuses (s : State) (source : Nat) : (s.resetSource source).fuses = s.fuses := by
  simp [State.resetSource, apply_ite State.fuses]

@[simp] theorem rstNReset_fuses (lowUs : Nat) (s : State) : (rstNReset lowUs s).fuses = s.fuses := by simp [rstNReset, apply_ite State.fuses]

@[simp] theorem puppeteerRestart_fuses (s : State) : (puppeteerRestart s).fuses = s.fuses := by
  simp only [puppeteerRestart]
  (repeat' split) <;> simp

@[simp] theorem selfRestart_fuses (s : State) : (selfRestart s).fuses = s.fuses := by simp [selfRestart, apply_ite State.fuses]
@[simp] theorem State.startReason_fuses (s : State) (code : Nat) : (s.startReason code).fuses = s.fuses := (rfl)
@[simp] theorem State.halt_fuses (s : State) (code : Nat) (retry : Bool) : (s.halt code retry).fuses = s.fuses := by simp [State.halt]

@[simp] theorem State.startIslands_fuses (s : State) (l : List Nat) : (s.startIslands l).fuses = s.fuses := by
  simp [State.startIslands, foldl_fuses, apply_ite State.fuses]

@[simp] theorem reference_fuses (crystal : Bool) (s : State) : (reference crystal s).fuses = s.fuses := by
  simp -implicitDefEqProofs [reference, apply_ite State.fuses]

theorem State.choosePair_fuses {s t : State} {passA passB : Bool} (h : s.choosePair passA passB = some t) : t.fuses = s.fuses := by
  rw [State.choosePair_regsNet h]

@[simp] theorem State.openMeta_fuses (s : State) : s.openMeta.1.fuses = s.fuses := by
  simp only [State.openMeta]
  (repeat' split) <;> simp

@[simp] theorem State.takeConfirmed_fuses (s : State) : s.takeConfirmed.fuses = s.fuses := by simp [State.takeConfirmed, apply_ite State.fuses]

@[simp] theorem State.countTrial_fuses (s : State) : s.countTrial.fuses = s.fuses := by
  simp only [State.countTrial]
  (repeat' split) <;> simp

@[simp] theorem State.startSlot_fuses (s : State) (k : Nat) : (s.startSlot k).fuses = s.fuses := (rfl)

@[simp] theorem firmware_fuses (readA readB readRecovery : Bool) (s : State) : (firmware readA readB readRecovery s).fuses = s.fuses := by
  simp -implicitDefEqProofs [firmware, apply_ite State.fuses]

@[simp] theorem State.resumeMt_fuses (s : State) : s.resumeMt.fuses = s.fuses := (rfl)

@[simp] theorem keys_fuses (ringReadable : Bool) (s : State) : (keys ringReadable s).fuses = s.fuses := by
  simp only [keys]
  (repeat' split) <;> simp -implicitDefEqProofs

@[simp] theorem configuration_fuses (env : Env) (s : State) : (configuration env s).fuses = s.fuses := by simp [configuration, apply_ite State.fuses]

@[simp] theorem microcode_fuses (storage lf radio nfc : Bool) (s : State) : (microcode storage lf radio nfc s).fuses = s.fuses := by
  simp [microcode, apply_ite State.fuses]

@[simp] theorem State.enableHook_fuses (s : State) (env : Env) (u : Subsys) : (s.enableHook env u).fuses = s.fuses := by
  simp only [State.enableHook]
  (repeat' split) <;> simp [foldl_fuses]

@[simp] theorem State.checkNow_fuses (s : State) (env : Env) (u : Subsys) : (s.checkNow env u).fuses = s.fuses := by
  simp [State.checkNow, apply_ite State.fuses]

@[simp] theorem State.mean_fuses (s : State) (u : Subsys) : (s.mean u).fuses = s.fuses := (rfl)

theorem State.atTime_fuses (s : State) (pt mt : Nat) {f : State → State} (h : ∀ t, (f t).fuses = t.fuses) :
    (s.atTime pt mt f).fuses = s.fuses := h _

@[simp] theorem serveOne_fuses (k : LatchKind) (pt : Nat) (s : State) : (serveOne k pt s).fuses = s.fuses := by
  simp only [serveOne]
  (repeat' split) <;> simp

@[simp] theorem State.serveLatched_fuses (s : State) (mailbox : Bool) : (s.serveLatched mailbox).fuses = s.fuses :=
  foldl_fuses (fun _ _ => State.atTime_fuses _ _ _ (by simp)) _ _

@[simp] theorem immobiliserPath8_fuses (env : Env) (s : State) : (immobiliserPath8 env s).fuses = s.fuses := by
  simp [immobiliserPath8, State.bringUp, State.startEntry, foldl_fuses, apply_ite State.fuses]

@[simp] theorem State.downHook_fuses (s : State) (u : Subsys) : (s.downHook u).fuses = s.fuses := by
  simp only [State.downHook]
  (repeat' split) <;> simp

@[simp] theorem State.downHooks_fuses (old s : State) : (old.downHooks s).fuses = s.fuses := by
  simp [State.downHooks, foldl_fuses, apply_ite State.fuses]

@[simp] theorem enableWrite_fuses (u : Subsys) (s : State) : (enableWrite u s).fuses = s.fuses := by simp [enableWrite, apply_ite State.fuses]
@[simp] theorem disableWrite_fuses (u : Subsys) (s : State) : (disableWrite u s).fuses = s.fuses := by simp [disableWrite, apply_ite State.fuses]

@[simp] theorem consistencyCheck_fuses (env : Env) (s : State) : (consistencyCheck env s).fuses = s.fuses := by
  simp only [consistencyCheck]
  (repeat' split) <;> simp

@[simp] theorem State.reform_fuses (s : State) : s.reform.fuses = s.fuses := by simp [State.reform, apply_ite State.fuses]
@[simp] theorem State.flushAlarms_fuses (s : State) : s.flushAlarms.fuses = s.fuses := by simp [State.flushAlarms, foldl_fuses, apply_ite State.fuses]
@[simp] theorem State.startReseal_fuses (s : State) : s.startReseal.fuses = s.fuses := by simp [State.startReseal, apply_ite State.fuses]
@[simp] theorem State.loadStandby_fuses (s : State) : s.loadStandby.fuses = s.fuses := by simp [State.loadStandby, apply_ite State.fuses]

@[simp] theorem State.finishNine_fuses (s : State) : s.finishNine.fuses = s.fuses := by
  simp [State.finishNine, State.withdrawVote_fuses, foldl_fuses, apply_ite State.fuses]

@[simp] theorem State.runHeld_fuses (s : State) : s.runHeld.fuses = s.fuses := by simp [State.runHeld, foldl_fuses, apply_ite State.fuses]

@[simp] theorem completion_fuses (env : Env) (s : State) : (completion env s).fuses = s.fuses := by
  simp [completion, foldl_fuses, apply_ite State.fuses]

/-! ## Faults, alarms and supply conditions -/

@[simp] theorem State.tokLost_fuses (s : State) : s.tokLost.fuses = s.fuses := by simp [State.tokLost, apply_ite State.fuses]
@[simp] theorem State.releaseLost_fuses (s : State) : s.releaseLost.fuses = s.fuses := by simp [State.releaseLost]

@[simp] theorem State.islandLost_fuses (s : State) (i : Nat) : (s.islandLost i).fuses = s.fuses := by
  simp only [State.islandLost, State.lfLost, State.cipherLost]
  (repeat' split) <;> simp [foldl_fuses, apply_ite State.fuses]

@[simp] theorem State.failHooks_fuses (old s : State) : (old.failHooks s).fuses = s.fuses := by
  simp [State.failHooks, foldl_fuses, apply_ite State.fuses]

@[simp] theorem State.requeue_fuses (s : State) : s.requeue.fuses = s.fuses := by
  simp only [State.requeue]
  (repeat' split) <;> simp

@[simp] theorem State.dropPairing_fuses (s : State) : s.dropPairing.fuses = s.fuses := by simp [State.dropPairing, apply_ite State.fuses]

@[simp] theorem State.resumeWork_fuses (s : State) : s.resumeWork.fuses = s.fuses := by
  simp [State.resumeWork, State.learnAgain, apply_ite State.fuses]

@[simp] theorem State.promote_fuses (s : State) : s.promote.fuses = s.fuses := by simp [State.promote, apply_ite State.fuses]
@[simp] theorem State.abandonActivation_fuses (s : State) : s.abandonActivation.fuses = s.fuses := (rfl)

@[simp] theorem pairFault_fuses (b : Nat) (s : State) : (pairFault b s).fuses = s.fuses := by
  simp [pairFault, State.noteFault, State.activeFault, State.serviceStops, State.standbyFault, apply_ite State.fuses]

@[simp] theorem State.becomesStandby_fuses (s : State) (b : Nat) : (s.becomesStandby b).fuses = s.fuses := by simp [State.becomesStandby]

@[simp] theorem standbyPairReady_fuses (ok : Bool) (s : State) : (standbyPairReady ok s).fuses = s.fuses := by
  simp only [standbyPairReady]
  (repeat' split) <;> simp

@[simp] theorem islandFailed_fuses (i : Nat) (switch : Bool) (s : State) : (islandFailed i switch s).fuses = s.fuses := by
  simp [islandFailed, apply_ite State.fuses]

@[simp] theorem State.t1Response_fuses (s : State) : s.t1Response.fuses = s.fuses := by simp [State.t1Response, apply_ite State.fuses]

@[simp] theorem State.alarmRespond_fuses (s : State) (cls code : Nat) : (s.alarmRespond cls code).fuses = s.fuses := by
  simp [State.alarmRespond, State.dropDerived, State.t2Response, apply_ite State.fuses]

@[simp] theorem State.alarm_fuses (s : State) (cls code : Nat) : (s.alarm cls code).fuses = s.fuses := by simp [State.alarm, apply_ite State.fuses]
@[simp] theorem t1Alarm_fuses (clock : Bool) (s : State) : (t1Alarm clock s).fuses = s.fuses := by simp [t1Alarm, apply_ite State.fuses]
@[simp] theorem t3Alarm_fuses (source : T3Source) (s : State) : (t3Alarm source s).fuses = s.fuses := by simp [t3Alarm, apply_ite State.fuses]

@[simp] theorem handleDeferred_fuses (s : State) (d : Deferred) : (handleDeferred s d).fuses = s.fuses := by
  simp only [handleDeferred]
  (repeat' split) <;> simp

@[simp] theorem State.afterBlow_fuses (s : State) : s.afterBlow.fuses = s.fuses := by
  simp only [State.afterBlow]
  (repeat' split) <;> simp [foldl_fuses]

@[simp] theorem State.transitionDone_fuses (s : State) (opcode : Nat) : (s.transitionDone opcode).fuses = s.fuses := by
  simp [State.transitionDone, apply_ite State.fuses]

@[simp] theorem State.govStep_fuses (s : State) (n : Nat) : (s.govStep n).fuses = s.fuses := by
  simp [State.govStep, State.capLevel, State.txCap, apply_ite State.fuses]

@[simp] theorem State.govern_fuses (s : State) (ta : Int) (mW : Nat) : (s.govern ta mW).fuses = s.fuses := by
  simp only [State.govern]
  (repeat' split) <;> simp -implicitDefEqProofs

@[simp] theorem governorTick_fuses (tj mW peak : Nat) (s : State) : (governorTick tj mW peak s).fuses = s.fuses := by
  simp [governorTick, apply_ite State.fuses]

@[simp] theorem brownout_fuses (mv : Nat) (s : State) : (brownout mv s).fuses = s.fuses := by simp [brownout, State.brownNap, apply_ite State.fuses]

@[simp] theorem overvolt_fuses (mv : Nat) (s : State) : (overvolt mv s).fuses = s.fuses := by
  simp only [overvolt]
  (repeat' split) <;> simp

@[simp] theorem supplyReturn_fuses (mv : Nat) (s : State) : (supplyReturn mv s).fuses = s.fuses := by
  simp [supplyReturn, State.brownWake, apply_ite State.fuses]

@[simp] theorem crystalLoss_fuses (s : State) : (crystalLoss s).fuses = s.fuses := by
  simp -implicitDefEqProofs [crystalLoss, State.ntToRc, State.rfRefLost, apply_ite State.fuses]

@[simp] theorem State.crystalTried_fuses (s : State) (pass : Bool) : (s.crystalTried pass).fuses = s.fuses := by
  simp [State.crystalTried, State.crystalBack, apply_ite State.fuses]

@[simp] theorem crystalRetry_fuses (pass : Bool) (s : State) : (crystalRetry pass s).fuses = s.fuses := by simp [crystalRetry, apply_ite State.fuses]

@[simp] theorem oscCalibration_fuses (ppm : Nat) (env : Env) (s : State) : (oscCalibration ppm env s).fuses = s.fuses := by
  simp [oscCalibration, apply_ite State.fuses]

/-! ## The host interface (chapter 16) -/

@[simp] theorem State.readWord_fuses (s : State) (a : Nat) : (s.readWord a).1.fuses = s.fuses := by
  simp only [State.readWord, State.clearRead]
  (repeat' split) <;> simp

@[simp] theorem readWords_fuses (n a : Nat) (s : State) : (readWords n a s).1.fuses = s.fuses := by
  induction n generalizing a s with
  | zero => rfl
  | succ n ih => exact (ih _ _).trans (by simp)

@[simp] theorem State.writeFields_fuses (s : State) (off v : Nat) : (s.writeFields off v).fuses = s.fuses := by
  simp only [State.writeFields]
  (repeat' split) <;> simp

@[simp] theorem hostHold_fuses (b : Bool) (s : State) : (hostHold b s).fuses = s.fuses := by
  simp [hostHold, State.withdrawVote_fuses, apply_ite State.fuses]

@[simp] theorem pulseCtl_fuses (n v : Nat) (s : State) : (pulseCtl n v s).fuses = s.fuses := by simp [pulseCtl, apply_ite State.fuses]
@[simp] theorem pulseWord_fuses (n off v : Nat) (s : State) : (pulseWord n off v s).fuses = s.fuses := by simp [pulseWord, apply_ite State.fuses]
@[simp] theorem writePlain_fuses (off v : Nat) (s : State) : (writePlain off v s).fuses = s.fuses := by simp [writePlain, apply_ite State.fuses]
@[simp] theorem hifMbRing_fuses (w : Nat) (s : State) : (hifMbRing w s).fuses = s.fuses := by simp [hifMbRing, apply_ite State.fuses]
@[simp] theorem State.dueInFree_fuses (s : State) : s.dueInFree.fuses = s.fuses := by simp [State.dueInFree, apply_ite State.fuses]

@[simp] theorem outAck_fuses (s : State) : (outAck s).fuses = s.fuses := by
  unfold outAck State.ackReset
  dsimp only
  (repeat' split) <;> simp

@[simp] theorem mbAbort_fuses (s : State) : (mbAbort s).fuses = s.fuses := by simp [mbAbort, foldl_fuses]
@[simp] theorem sysReset_fuses (v : Nat) (s : State) : (sysReset v s).fuses = s.fuses := by simp [sysReset, apply_ite State.fuses]

@[simp] theorem State.writeEnable_fuses (s : State) (u : Subsys) (b : Bool) : (s.writeEnable u b).fuses = s.fuses := by
  simp [State.writeEnable, apply_ite State.fuses]

@[simp] theorem ctlActions_fuses (env : Env) (off v : Nat) (s : State) : (ctlActions env off v s).fuses = s.fuses := by
  simp only [ctlActions]
  (repeat' split) <;> simp

@[simp] theorem State.writeReg_fuses (s : State) (env : Env) (off v : Nat) : (s.writeReg env off v).fuses = s.fuses := by
  simp [State.writeReg, writeActions, apply_ite State.fuses]

@[simp] theorem State.writeWord_fuses (s : State) (env : Env) (a v : Nat) : (s.writeWord env a v).fuses = s.fuses := by
  unfold State.writeWord
  split
  · exact s.writeReg_fuses env a v
  · rfl
  · rfl

@[simp] theorem writeWords_fuses (env : Env) (l : List Nat) (a : Nat) (s : State) : (writeWords env l a s).1.fuses = s.fuses := by
  induction l generalizing a s with
  | nil => rfl
  | cons v vs ih =>
    unfold writeWords
    split
    · simp
    · exact (ih _ _).trans (by simp)

@[simp] theorem registerWrite_fuses (addr v : Nat) (s : State) : (registerWrite addr v s).fuses = s.fuses := by
  simp only [registerWrite]
  (repeat' split) <;> simp

@[simp] theorem State.miso_fuses (s : State) (pend : Nat) (r : List Word) : (s.miso pend r).fuses = s.fuses := (rfl)

@[simp] theorem State.spiReject_fuses (s : State) (pend tag code : Nat) : (s.spiReject pend tag code).fuses = s.fuses := by
  simp [State.spiReject, apply_ite State.fuses]

@[simp] theorem State.spiDone_fuses (s : State) (pend tag : Nat) (key : Word × Word) (r : List Word) :
    (s.spiDone pend tag key r).fuses = s.fuses := (rfl)

theorem State.spiExecute_fuses (s : State) {write : State → State × Bool} (h : ∀ t, (write t).1.fuses = t.fuses) (op tag addr len : Nat)
    (key : Word × Word) : (s.spiExecute write op tag addr len key).fuses = s.fuses := by
  unfold State.spiExecute
  dsimp only
  (repeat' split) <;> simp [h]

theorem spiFrame_fuses {write : State → State × Bool} (h : ∀ t, (write t).1.fuses = t.fuses) (op tag addr len : Nat) (data : List Word)
    (crc : Word) (s : State) : (spiFrame write op tag addr len data crc s).fuses = s.fuses := by
  unfold spiFrame
  dsimp only
  (repeat' split) <;> simp [State.spiExecute_fuses _ h]

@[simp] theorem noWrite_fuses (s : State) : (noWrite s).1.fuses = s.fuses := (rfl)

@[simp] theorem regReadOp_fuses (addr count : Nat) (s : State) : (regReadOp addr count s).1.fuses = s.fuses := by
  simp only [regReadOp]
  (repeat' split) <;> simp

@[simp] theorem regWriteOp_fuses (addr count : Nat) (values : List Nat) (env : Env) (s : State) :
    (regWriteOp addr count values env s).1.fuses = s.fuses := by
  simp only [regWriteOp]
  (repeat' split) <;> simp

@[simp] theorem resetOp_fuses (key : Nat) (s : State) : (resetOp key s).1.fuses = s.fuses := by
  simp only [resetOp]
  (repeat' split) <;> simp

@[simp] theorem echoOp_fuses (data : Bytes) (s : State) : (echoOp data s).1.fuses = s.fuses := (rfl)

theorem opLow_fuses (op : Nat) (x : Bytes) (env : Env) (s : State) : (opLow op x env s).1.fuses = s.fuses := by
  unfold opLow
  split <;> simp [mbRefuse]

theorem opHigh_fuses (op : Nat) (x : Bytes) (env : Env) (s : State) : (opHigh op x env s).1.fuses = s.fuses := by
  unfold opHigh
  split <;> simp [mbRefuse]

@[simp] theorem State.refuseCommand_fuses (s : State) (c : MbCmd) (code : Nat) : (s.refuseCommand c code).fuses = s.fuses := by
  simp [State.refuseCommand]

@[simp] theorem responseDrop_fuses (s : State) : (responseDrop s).fuses = s.fuses := by
  simp only [responseDrop]
  (repeat' split) <;> simp

@[simp] theorem responseDelivered_fuses (s : State) : (responseDelivered s).fuses = s.fuses := by
  simp only [responseDelivered]
  (repeat' split) <;> simp

@[simp] theorem idle_fuses (s : State) : (idle s).fuses = s.fuses := by simp [idle, tick, State.dueNow, apply_ite State.fuses]

end Sys2Proof.Machine
end

section
/-! SUPPORT. What is blown stays blown (R265, R266): the commands that write to the fuse bank only add to it. -/
namespace Sys2Proof.Machine

open Sys2Proof

theorem Fuse.kept_refl (f : Fuse) : f.kept f = true := by
  simp [Fuse.kept]

theorem Fuse.kept_join (f : Fuse) (a b : Bool) : f.kept (f.join a b) = true := by
  cases f with | mk x y => cases x <;> cases y <;> rfl

theorem Fuse.kept_done (f : Fuse) : f.kept .done = true := by
  simp [Fuse.kept, Fuse.done]

theorem fusesKept_refl (l : List Fuse) : fusesKept l l = true := by
  induction l with
  | nil => rfl
  | cons f fs ih => simp [fusesKept, Fuse.kept_refl, ih]

/-- Blowing one fuse of a bank keeps the bank, where that fuse is kept. -/
theorem fusesKept_set {l : List Fuse} {i : Nat} {g : Fuse} (h : (l.getD i .intact).kept g = true) : fusesKept l (l.set i g) = true := by
  induction l generalizing i with
  | nil => rfl
  | cons f fs ih =>
    cases i with
    | zero => simpa [fusesKept, fusesKept_refl] using h
    | succ i => simpa [fusesKept, Fuse.kept_refl] using ih (by simpa using h)

theorem Fuses.kept_refl (f : Fuses) : f.kept f = true := by
  simp [Fuses.kept, fusesKept_refl]

theorem Fuses.kept_of_eq {f g : Fuses} (h : g = f) : f.kept g = true := h ▸ f.kept_refl

theorem Fuses.kept_setLc (f : Fuses) {i : Nat} {g : Fuse} (h : (f.lc.getD i .intact).kept g = true) :
    f.kept { f with lc := f.lc.set i g } = true := by
  simp [Fuses.kept, fusesKept_refl, fusesKept_set h]

theorem Fuses.kept_setEpoch (f : Fuses) {i : Nat} {g : Fuse} (h : (f.epoch.getD i .intact).kept g = true) :
    f.kept { f with epoch := f.epoch.set i g } = true := by
  simp [Fuses.kept, fusesKept_refl, fusesKept_set h]

/-! ## The operations that blow a fuse -/

theorem State.finishTransition_kept (s : State) : s.fuses.kept s.finishTransition.fuses = true := by
  unfold State.finishTransition
  split
  · exact s.fuses.kept_refl
  · dsimp only
    (repeat' split) <;> simp [Fuses.kept_refl, Fuses.kept_setLc, Fuse.kept_done]

theorem State.retirePair_kept (s : State) (b : Nat) : s.fuses.kept (s.retirePair b).fuses = true := by
  simp only [State.retirePair, State.event_fuses, State.reason_fuses, State.setIsland_fuses, State.put_fuses]
  split <;> simp [Fuses.kept, fusesKept_refl]

theorem State.completeBlow_kept (s : State) : s.fuses.kept s.completeBlow.fuses = true := by
  unfold State.completeBlow
  split
  · exact s.fuses.kept_refl
  · next b _ =>
    cases b with
    | lifecycle i => exact s.fuses.kept_setLc (Fuse.kept_done _)
    | epoch => exact s.fuses.kept_setEpoch (Fuse.kept_done _)

theorem fusesAndMemory_kept (eccOk passA passB : Bool) (s : State) : s.fuses.kept (fusesAndMemory eccOk passA passB s).fuses = true := by
  unfold fusesAndMemory
  split
  · exact s.fuses.kept_refl
  split
  · exact Fuses.kept_of_eq (s.enterRecovery_fuses _ _)
  split
  · exact Fuses.kept_of_eq (by simp)
  · next s1 hpair =>
    have hkept := s1.finishTransition_kept
    rw [State.choosePair_fuses hpair] at hkept
    refine (congrArg (s.fuses.kept ·) ?_).trans hkept
    simp -implicitDefEqProofs [apply_ite State.fuses]

theorem pairTestDone_kept (pass : Bool) (s : State) : s.fuses.kept (pairTestDone pass s).fuses = true := by
  unfold pairTestDone
  split
  · exact s.fuses.kept_refl
  · dsimp only
    split
    · exact s.fuses.kept_refl
    · split
      · exact Fuses.kept_of_eq (by simp)
      · exact s.retirePair_kept _

theorem powerFail_kept (cut : Option PowerCut) (millivolt micros : Nat) (s : State) :
    s.fuses.kept (powerFail cut millivolt micros s).fuses = true := by
  unfold powerFail
  split
  · exact s.fuses.kept_refl
  · have hkept := s.completeBlow_kept
    dsimp only
    split <;> simpa using hkept

/-- INTEGRATE writes CUST_HASH; its fuse is blown with the read-back. -/
theorem integrateOp_kept (hash : Bytes) (s : State) : s.fuses.kept (integrateOp hash s).1.fuses = true := by
  simp only [integrateOp]
  (repeat' split) <;> simp [Fuses.kept, fusesKept_refl]

theorem fuseBlowDone_kept (readA readB : Bool) (s : State) : s.fuses.kept (fuseBlowDone readA readB s).fuses = true := by
  unfold fuseBlowDone
  split
  · exact s.fuses.kept_refl
  · dsimp only
    split
    · exact Fuses.kept_of_eq (by simp)
    · split
      · simpa using s.fuses.kept_setEpoch (Fuse.kept_join _ readA readB)
      · next i _ =>
        have hkept := s.fuses.kept_setLc (Fuse.kept_join (s.fuses.lc.getD i .intact) readA readB)
        (repeat' split) <;> simpa using hkept

/-! ## Commands -/

/-- Of the key commands INTEGRATE alone writes to the bank. -/
theorem opKey_kept (op : Nat) (x : Bytes) (env : Env) (s : State) : s.fuses.kept (opKey op x env s).1.fuses = true := by
  by_cases hop : op = 0x0B02
  · subst hop
    exact integrateOp_kept x s
  · refine Fuses.kept_of_eq ?_
    unfold opKey
    split <;> simp [mbRefuse] at hop ⊢

theorem opOf_kept (op : Nat) (x : Bytes) (env : Env) (s : State) : s.fuses.kept (opOf op x env s).1.fuses = true := by
  unfold opOf
  split
  · exact opKey_kept op x env s
  · split
    · exact Fuses.kept_of_eq (opLow_fuses op x env s)
    · exact Fuses.kept_of_eq (opHigh_fuses op x env s)

theorem State.runAs_kept {s : State} {f : Fuses} (hs : s.fuses = f) (c : MbCmd) {op : State → MbRes}
    (h : ∀ t : State, t.fuses.kept (op t).1.fuses = true) : f.kept (s.runAs c op).fuses = true := by
  obtain hrun | ⟨t, ht, hrun⟩ := s.runAs_fuses_or c op
  · exact Fuses.kept_of_eq (hrun.trans hs)
  · rw [hrun, ← hs, ← ht]
    exact h t

theorem mailboxCommand_kept (opcode : Nat) (input : Bytes) {op : State → MbRes} (h : ∀ t : State, t.fuses.kept (op t).1.fuses = true) (s : State) :
    s.fuses.kept (mailboxCommand opcode input op s).fuses = true := by
  unfold mailboxCommand
  dsimp only
  split
  · exact Fuses.kept_of_eq (by simp)
  · split
    · exact Fuses.kept_of_eq (by simp)
    · exact State.runAs_kept rfl _ h

theorem mbExecute_kept (env : Env) (s : State) : s.fuses.kept (mbExecute env s).fuses = true := by
  unfold mbExecute
  split
  · exact s.fuses.kept_refl
  · next c rest _ =>
    dsimp only
    split
    · exact s.fuses.kept_refl
    · split
      · exact Fuses.kept_of_eq (by simp)
      · refine State.runAs_kept ?_ c ?_
        · rfl
        · exact opOf_kept _ _ env

/-- Six commands can write to the fuse bank; every other one leaves it as it is. -/
theorem exec_kept {c : Instr} {s t : State} (h : exec c s = .next t) : s.fuses.kept t.fuses = true := by
  cases c <;> cases h
  case fusesAndMemory => exact fusesAndMemory_kept _ _ _ s
  case integrate => exact mailboxCommand_kept _ _ (integrateOp_kept _) s
  case fuseBlowDone => exact fuseBlowDone_kept _ _ s
  case pairTestDone => exact pairTestDone_kept _ s
  case powerFail => exact powerFail_kept _ _ _ s
  case mbExecute => exact mbExecute_kept _ s
  all_goals refine Fuses.kept_of_eq ?_
  all_goals (repeat' split) <;>
    simp [mailboxCommand_fuses, State.tagFrame_fuses, spiFrame_fuses, State.withdrawVote_fuses, apply_ite State.fuses]

/-! ## O3 -/

/-- Settles O3: a step is a tick, which leaves the fuses, or a command, which keeps what is blown (`exec_kept`). -/
theorem fusesAreNeverUndone : Obligations.FusesAreNeverUndone := by
  unfold Obligations.FusesAreNeverUndone
  intro s t h
  unfold step at h
  split at h
  · cases h
    exact Fuses.kept_of_eq (idle_fuses s)
  · next c rest _ => exact exec_kept (s := { s with pending := rest }) h

end Sys2Proof.Machine
end

section
/-! SUPPORT. The end of a fuse blow (R266, R282, R290): what the answer to a transition and its reset leave, and what each read-back does. -/
namespace Sys2Proof.Machine

open Sys2Proof

/-! ## What a fuse blow leaves behind it -/

/-- Nothing waits for the end of a fuse blow. -/
def State.blowAlone (s : State) : Prop := s.keys.alarmWait = none ∧ s.keys.deferred = []

theorem State.afterBlow_alone {s : State} (h : s.blowAlone) : s.afterBlow = s := by
  obtain ⟨halarm, hdeferred⟩ := h
  have hsame : { s with keys := { s.keys with deferred := [] } } = s := by rw [← hdeferred]
  unfold State.afterBlow
  split
  · dsimp only
    rw [hdeferred]
    exact hsame
  · next h => exact absurd (halarm.symm.trans h) (by simp)

/-- What the answer to a transition and its reset leave: the fuses, the records of the transition, the keyring, the update and the NOR, and what
waits for a blow. -/
def State.transitionKept (s t : State) : Prop :=
  t.fuses = s.fuses ∧ t.vault.transition = s.vault.transition ∧ t.vault.fieldMt = s.vault.fieldMt ∧ t.vault.keyring = s.vault.keyring
    ∧ t.update = s.update ∧ t.nor = s.nor ∧ t.keys.blow = s.keys.blow ∧ t.blowAlone

theorem State.transitionKept_trans {s t u : State} (h : s.transitionKept t) (h' : t.transitionKept u) : s.transitionKept u := by
  obtain ⟨hf, ht, hm, hk, hu, hn, hb, -⟩ := h
  obtain ⟨hf', ht', hm', hk', hu', hn', hb', halone⟩ := h'
  exact ⟨hf'.trans hf, ht'.trans ht, hm'.trans hm, hk'.trans hk, hu'.trans hu, hn'.trans hn, hb'.trans hb, halone⟩

theorem State.transitionKept.alone {s t : State} (h : s.transitionKept t) : t.blowAlone := by
  obtain ⟨-, -, -, -, -, -, -, halone⟩ := h
  exact halone

/-- An operation that touches neither the keys nor, of the vault, more than the journal. -/
theorem State.transitionKept_of_records {s t : State} (h : s.blowAlone) (hfuses : t.fuses = s.fuses) (hvault : sameRecords s.vault t.vault)
    (hupd : t.update = s.update) (hnor : t.nor = s.nor) (hkeys : t.keys = s.keys) : s.transitionKept t := by
  unfold sameRecords at hvault
  refine ⟨hfuses, ?_, ?_, ?_, hupd, hnor, by rw [hkeys], ?_⟩
  · rw [hvault]
  · rw [hvault]
  · rw [hvault]
  · rw [State.blowAlone, hkeys]
    exact h

theorem State.keyEvent_transitionKept {s : State} (h : s.blowAlone) (code handle : Nat) : s.transitionKept (s.keyEvent code handle) := by
  obtain ⟨-, hvault, -⟩ := s.journal_work 0x0B01 0 .key 0 (toLE 2 code ++ toLE 4 handle ++ toLE 1 s.lifecycle ++ toLE 1 s.fuses.epochNo)
  exact State.transitionKept_of_records h (State.keyEvent_fuses ..) hvault (State.journal_update ..) (State.journal_nor ..) (State.journal_keys ..)

theorem State.withdrawVote_keys (s : State) (c i : Nat) : (s.withdrawVote c i).keys = s.keys := by
  unfold State.withdrawVote
  dsimp only
  split_ifs <;> simp

theorem State.withdrawVote_nor (s : State) (c i : Nat) : (s.withdrawVote c i).nor = s.nor := by
  unfold State.withdrawVote
  dsimp only
  split_ifs <;> simp

theorem State.releaseLost_transitionKept {s : State} (h : s.blowAlone) : s.transitionKept s.releaseLost := by
  have hupd : ∀ (t : State) (c i : Nat), (t.withdrawVote c i).update = t.update := fun t c i => (t.withdrawVote_pairKept c i).2.2
  refine State.transitionKept_of_records h (State.releaseLost_fuses s) ?_ ?_ ?_ ?_
  · simp only [State.releaseLost, State.releaseVoteOff, State.withdrawVote_vault]
    rfl
  · simp only [State.releaseLost, State.releaseVoteOff, hupd]
    rfl
  · simp only [State.releaseLost, State.releaseVoteOff, State.withdrawVote_nor]
    rfl
  · simp only [State.releaseLost, State.releaseVoteOff, State.withdrawVote_keys]
    rfl

theorem State.firstReady_floor (s : State) : ∃ n, s.firstReady.vault = { s.vault with floor := n } := by
  unfold State.firstReady
  split
  · exact ⟨s.vault.floor, rfl⟩
  · exact ⟨_, rfl⟩

/-- READY and the maps touch of the vault no more than the rollback floor (R55). -/
theorem State.refresh_floor (s : State) : ∃ n, s.refresh.vault = { s.vault with floor := n } := by
  unfold State.refresh
  dsimp only
  rw [apply_ite State.vault, State.statusCopy_vault, ite_self]
  split
  · refine (State.firstReady_floor _).imp fun n hn => hn.trans ?_
    split_ifs <;> rfl
  · refine ⟨s.vault.floor, ?_⟩
    split_ifs <;> rfl

theorem State.refresh_transitionKept {s : State} (h : s.blowAlone) : s.transitionKept s.refresh := by
  obtain ⟨n, hvault⟩ := s.refresh_floor
  refine ⟨State.refresh_fuses s, by rw [hvault], by rw [hvault], by rw [hvault], State.refresh_update s, State.refresh_nor s,
    by rw [State.refresh_keys], ?_⟩
  rw [State.blowAlone, State.refresh_keys]
  exact h

theorem State.finishReset_transitionKept {s : State} (h : s.blowAlone) (source : Nat) (out : Bytes) :
    s.transitionKept (s.finishReset source out) := by
  have hkept : s.transitionKept (s.finish 0 out) := State.transitionKept_of_records h (State.finish_fuses ..)
    (by rw [State.finish_vault]; exact sameRecords_refl _) (State.finish_update ..) (State.finish_nor ..) (State.finish_keys ..)
  unfold State.finishReset
  split
  · exact State.transitionKept_of_records h rfl (sameRecords_refl _) rfl rfl rfl
  · exact hkept

/-- A restart is over with the operations in progress, and keeps what a blow leaves. -/
theorem State.restart_transitionKept {s : State} (h : s.blowAlone) {source : Nat} (hsource : source ≠ 1) :
    s.transitionKept (s.restart source) ∧ (s.restart source).hif.executing = none := by
  obtain ⟨halarm, hdeferred⟩ := h
  have hkeys : (s.restart source).keys = { Keys.reset with
      blow := s.keys.blow, blowReset := s.keys.blowReset, alarmWait := s.keys.alarmWait, deferred := s.keys.deferred.filter keptOverReset } := by
    unfold State.restart
    rw [if_neg hsource]
    dsimp only
    split_ifs <;> rfl
  refine ⟨⟨s.restart_fuses source, ?_, ?_, ?_, s.restart_update source, s.restart_nor source, by rw [hkeys], ?_⟩, by rw [s.restart_hif]; rfl⟩
  · rw [s.restart_vault]
  · rw [s.restart_vault]
  · rw [s.restart_vault]
  · rw [State.blowAlone, hkeys, halarm, hdeferred]
    exact ⟨rfl, rfl⟩

/-- Reset source 6 comes at once: no fuse blow makes it wait. -/
theorem State.resetWaits_six (s : State) : s.resetWaits 6 = false := by simp [State.resetWaits]

/-- A transition is answered and followed by its reset, or by the wait for the answer's delivery. -/
theorem State.transitionDone_transitionKept {s : State} (h : s.blowAlone) (opcode : Nat) :
    s.transitionKept (s.transitionDone opcode) ∧ (s.transitionDone opcode).hif.executing = none := by
  have hstat : s.transitionKept s.refreshKeyStat := ⟨rfl, rfl, rfl, rfl, rfl, rfl, rfl, h⟩
  have hevent := State.transitionKept_trans hstat (State.keyEvent_transitionKept (s := s.refreshKeyStat) h opcode 0)
  obtain ⟨u, hu, hrun⟩ : ∃ u, s.transitionKept u
      ∧ s.transitionDone opcode = if u.hif.executing.isSome then u.finishReset 6 [] else u.resetSource 6 := by
    have hlost := State.releaseLost_transitionKept hevent.alone
    refine ⟨_, ?_, rfl⟩
    split
    · exact State.transitionKept_trans hevent (State.transitionKept_trans hlost (State.refresh_transitionKept hlost.alone))
    · exact hevent
  rw [hrun]
  split
  · next hexec =>
    refine ⟨State.transitionKept_trans hu (State.finishReset_transitionKept hu.alone 6 []), ?_⟩
    obtain ⟨c, hc⟩ := Option.isSome_iff_exists.mp hexec
    simp only [State.finishReset, hc]
    exact u.finish_executing 0 []
  · next hexec =>
    rw [Option.not_isSome_iff_eq_none] at hexec
    cases hv : u.pilot.vbatUp with
    | false =>
      rw [State.resetSource_of_no_vbat hv]
      exact ⟨hu, hexec⟩
    | true =>
      rw [State.resetSource_of_no_wait hv u.resetWaits_six]
      obtain ⟨hkept, hdone⟩ := State.restart_transitionKept hu.alone (source := 6) (by decide)
      exact ⟨State.transitionKept_trans hu hkept, hdone⟩

/-! ## FUSE_BLOW_DONE (R266, R282, R290) -/

/-- The blow in progress is over. -/
def State.blowOver (s : State) : State := { s with keys := { s.keys with blow := none, blowReset := false, blowOp := none } }

/-- The lifecycle fuse of FIELD as it was read back, and the transition in effect. -/
def State.fieldReached (s : State) (readA readB : Bool) : State :=
  { s.blowOver with
    fuses := { s.fuses with lc := s.fuses.lc.set 2 ((s.fuses.lc.getD 2 .intact).join readA readB) }
    vault := { s.vault with transition := none, fieldMt := some s.mt } }

/-- The next epoch fuse as it was read back, and what begins again with the epoch. -/
def State.epochReached (s : State) (readA readB : Bool) : State :=
  { s.blowOver with
    fuses := { s.fuses with epoch := s.fuses.epoch.set s.fuses.epochNo ((s.fuses.epoch.getD s.fuses.epochNo .intact).join readA readB) }
    vault := { s.vault with bootEpoch := 0, nonceHi := [] } }

section
variable {s : State} {readA readB : Bool}

theorem fuseBlowDone_field (hread : (!readA && !readB) = false) (hblow : s.keys.blow = some (.lifecycle 2)) (hreset : s.keys.blowReset = true)
    {op x : Nat} (hop : s.keys.blowOp = some (op, x)) :
    fuseBlowDone readA readB s = ((s.fieldReached readA readB).transitionDone op).afterBlow := by
  simp only [fuseBlowDone, hblow, hread, hreset, hop]
  rfl

theorem fuseBlowDone_epoch (hread : (!readA && !readB) = false) (hblow : s.keys.blow = some .epoch) :
    fuseBlowDone readA readB s = (s.epochReached readA readB).refreshKeyStat.afterBlow := by
  simp only [fuseBlowDone, hblow, hread]
  rfl

theorem fuseBlowDone_intact {k : Blow} (hblow : s.keys.blow = some k) :
    fuseBlowDone false false s = ((s.blowOver.reason .key 0x0B1C).finish 0x0B1C []).afterBlow := by
  simp only [fuseBlowDone, hblow]
  rfl

theorem fuseBlowDone_of_no_blow (hblow : s.keys.blow = none) : fuseBlowDone readA readB s = s := by
  simp only [fuseBlowDone, hblow]

end

/-! ## O31 -/

/-- Settles O31: each read-back by what the blow was for; nothing waits for it, so its end is the last of it (`State.afterBlow_alone`). -/
theorem fuseBlowTakesEffectAtReadBack : Obligations.FuseBlowTakesEffectAtReadBack := by
  unfold Obligations.FuseBlowTakesEffectAtReadBack
  refine ⟨fun _ => rfl, ?_, ?_, ?_, fun s a b hblow => congrArg Host.Outcome.next (fuseBlowDone_of_no_blow hblow)⟩
  · intro s b op x hblow hreset hop halarm hdeferred
    have halone : (s.fieldReached true b).blowAlone := ⟨halarm, hdeferred⟩
    obtain ⟨⟨hfuses, htrans, hfield, hring, hupd, hnor, hover, hstill⟩, hdone⟩ := State.transitionDone_transitionKept halone op
    have hrun := (fuseBlowDone_field (readA := true) (readB := b) rfl hblow hreset hop).trans (State.afterBlow_alone hstill)
    exact ⟨_, congrArg Host.Outcome.next hrun, hfuses, htrans, hfield, hover, hdone, hring, hupd, hnor⟩
  · intro s b hblow halarm hdeferred
    have hread : (!b && !true) = false := by rw [Bool.not_true, Bool.and_false]
    have hrun := (fuseBlowDone_epoch hread hblow).trans (State.afterBlow_alone ⟨halarm, hdeferred⟩)
    refine ⟨_, congrArg Host.Outcome.next hrun, rfl, rfl, rfl, ?_, rfl⟩
    exact keepsRegs_put (keepsRegs_put (keepsRegs_put (keepsRegs_refl s _) (by decide) _) (by decide) _) (by decide) _
  · intro s k hblow halarm hdeferred
    refine congrArg Host.Outcome.next ((fuseBlowDone_intact hblow).trans (State.afterBlow_alone ?_))
    rw [State.blowAlone, State.finish_keys]
    exact ⟨halarm, hdeferred⟩

end Sys2Proof.Machine
end

section
/-! SUPPORT. Attestation (R271, R283 to R285): which branch each operation takes, in the state in which its mailbox command runs. -/
namespace Sys2Proof.Machine

open Sys2Proof

/-! ## The state in which a mailbox command runs -/

section
variable (s : State) (opcode : Nat) (input : Bytes)

@[simp] theorem State.begun_keys : (s.begun opcode input).keys = s.keys := (rfl)
@[simp] theorem State.begun_vault : (s.begun opcode input).vault = s.vault := (rfl)
@[simp] theorem State.begun_mt : (s.begun opcode input).mt = s.mt := (rfl)
@[simp] theorem State.begun_ring : (s.begun opcode input).ring = s.ring := (rfl)
@[simp] theorem State.begun_ringLocked : (s.begun opcode input).ringLocked = s.ringLocked := (rfl)
@[simp] theorem State.begun_keyRec? (kind index : Nat) : (s.begun opcode input).keyRec? kind index = s.keyRec? kind index := (rfl)
@[simp] theorem State.begun_keyByHandle (h : Nat) : (s.begun opcode input).keyByHandle h = s.keyByHandle h := (rfl)

theorem State.begun_get {f : Field} (h : f.off ≠ F.HIF_STAT_MB_EXEC.off) : (s.begun opcode input).get f = s.get f :=
  State.get_of_reg (State.reg_put_other _ h _)

@[simp] theorem State.begun_entropyFailed : (s.begun opcode input).entropyFailed = s.entropyFailed :=
  congrArg (· == 1) (s.begun_get opcode input (by decide))

@[simp] theorem State.begun_lifecycle : (s.begun opcode input).lifecycle = s.lifecycle := by
  have hphase : (s.begun opcode input).get F.SYS_STAT_START_PHASE = s.get F.SYS_STAT_START_PHASE := s.begun_get opcode input (by decide)
  have hfuses : (s.begun opcode input).fuses = s.fuses := rfl
  rw [State.lifecycle, State.recovery, hphase, hfuses, State.lifecycle, State.recovery]

@[simp] theorem State.begun_inService : (s.begun opcode input).inService = s.inService := by
  rw [State.inService, State.begun_lifecycle, State.inService]

end

theorem State.ringLocked_of_no_lock {s : State} (h : s.keys.lockEnd = none) : s.ringLocked = false := by
  rw [State.ringLocked, h]

theorem State.entropyFailed_of_get {s : State} {n : Nat} (h : s.get F.SYM_ENT_FAILED = n) : s.entropyFailed = (n == 1) := congrArg (· == 1) h

/-! ## Attestation (R283 to R285) -/

theorem attestAOp_of_key {s : State} {c : Bytes} {k : KeyRec} (hlen : c.length = 16) (hservice : s.inService = true)
    (hlock : s.ringLocked = false) (hkey : s.keyRec? 5 0 = some k) :
    attestAOp c s = mbOk { s with vault := { s.vault with tamperSince := false } }
      (s.formA ++ padTo 16 (Crypto.cmac k.key (toLE 1 0x30 ++ c ++ s.formA))) := by
  simp [attestAOp, hlen, hservice, hlock, hkey]

theorem statementBOp_of_dik {s : State} {h : Nat} {c : Bytes} (hlen : c.length = 16) (h3 : s.lifecycle ≠ 3) (h0 : s.lifecycle ≠ 0)
    (h5 : s.lifecycle ≠ 5) (hkind : h / 2 ^ 28 = 9) :
    statementBOp h c s = if s.entropyFailed then mbFail s .key 0x0A0D
      else mbOk (s.statement h 0 c dikPublic).2 (s.statement h 0 c dikPublic).1 := by
  simp only [statementBOp, if_neg (not_not.mpr hlen), if_neg h3, if_pos hkind, h0, h5, decide_false, Bool.or_self, Bool.false_eq_true, if_false]

theorem statementBOp_in_field {s : State} {h : Nat} {c : Bytes} (hlen : c.length = 16) (h3 : s.lifecycle = 3) :
    statementBOp h c s = mbFail s .key 0x0B1A := by
  rw [statementBOp, if_neg (not_not.mpr hlen), if_pos h3]

theorem statementsReadOp_of_stored {s : State} (h0 : s.lifecycle ≠ 0) (hstored : s.vault.statements ≠ []) :
    statementsReadOp s = mbOk s s.vault.statements.flatten := by
  simp [statementsReadOp, h0, hstored]

theorem dikCertReadOp_of_stored {s : State} (h0 : s.lifecycle ≠ 0) (hstored : s.vault.certStored = true) :
    dikCertReadOp s = mbOk s (padTo 132 dikPublic ++ toLE 2 Config.dikCert.length ++ Config.dikCert) := by
  simp [dikCertReadOp, h0, hstored]

/-- The part of the report after its first bytes, which every clause on form A leaves unread. -/
theorem State.formA_split (s : State) : ∃ rest : Bytes, rest.length = 42 ∧
    s.formA = toLE 4 s.vault.deviceTag ++ (toLE 1 s.lifecycle ++ (toLE 1 s.fuses.epochNo ++ rest)) := by
  refine ⟨_, ?_, by simp only [State.formA, List.append_assoc]; rfl⟩
  simp

theorem State.formA_layout (s : State) : s.formA.length = 48 ∧ le s.formA 0 4 = s.vault.deviceTag % 2 ^ 32 ∧ u8 s.formA 4 = s.lifecycle % 256
    ∧ u8 s.formA 5 = s.fuses.epochNo % 256 := by
  obtain ⟨rest, hrest, hsplit⟩ := s.formA_split
  have htag : slice s.formA 0 4 = toLE 4 s.vault.deviceTag := hsplit ▸ slice_append [] _ _ 0 4 rfl (length_toLE ..)
  have hlc : slice s.formA 4 1 = toLE 1 s.lifecycle := hsplit ▸ slice_append _ _ _ 4 1 (length_toLE ..) (length_toLE ..)
  have hepoch : slice s.formA 5 1 = toLE 1 s.fuses.epochNo := by
    rw [hsplit, ← List.append_assoc]
    exact slice_append _ _ _ 5 1 (by simp) (length_toLE ..)
  refine ⟨by simp [hsplit, hrest], ?_, ?_, ?_⟩
  · rw [le, htag, leNat_toLE, show (256 : Nat) ^ 4 = 2 ^ 32 by rfl]
  · rw [u8, le, hlc, leNat_toLE, pow_one]
  · rw [u8, le, hepoch, leNat_toLE, pow_one]

/-- Settles O33: each answer is the branch of its operation that the hypotheses pick, run as a mailbox command. -/
theorem attestationAnswers : Obligations.AttestationAnswers := by
  unfold Obligations.AttestationAnswers
  refine ⟨?formA, State.formA_layout, ?signed, ?noEntropy, ?field, ?statements, ?cert, ?wiped, ?kept⟩
  case formA =>
    intro s c k hready hlen hservice hlock hkey
    exact next_mailboxCommand hready (attestAOp_of_key (s := s.begun _ _) hlen (by simpa using hservice)
      (by simpa using State.ringLocked_of_no_lock hlock) hkey)
  case signed =>
    intro s h c hready hlen h3 h0 h5 hkind hentropy
    have hbranch := statementBOp_of_dik (s := s.begun 0x0B0D (toLE 4 h.toNat ++ c)) hlen
      (by simpa using h3) (by simpa using h0) (by simpa using h5) hkind
    exact next_mailboxCommand hready (hbranch.trans (if_neg (by simp [State.entropyFailed_of_get hentropy])))
  case noEntropy =>
    intro s h c hready hlen h3 h0 h5 hkind hentropy
    have hbranch := statementBOp_of_dik (s := s.begun 0x0B0D (toLE 4 h.toNat ++ c)) hlen
      (by simpa using h3) (by simpa using h0) (by simpa using h5) hkind
    exact next_mailboxCommand hready (hbranch.trans (if_pos (by simp [State.entropyFailed_of_get hentropy])))
  case field =>
    exact fun s h c hready hlen h3 => next_mailboxCommand hready (statementBOp_in_field (s := s.begun _ _) hlen (by simpa using h3))
  case statements =>
    exact fun s hready h0 hstored => next_mailboxCommand hready (statementsReadOp_of_stored (s := s.begun _ _) (by simpa using h0) hstored)
  case cert =>
    exact fun s hready h0 hstored => next_mailboxCommand hready (dikCertReadOp_of_stored (s := s.begun _ _) (by simpa using h0) hstored)
  case wiped =>
    intro s h x hsecret hdue
    refine congrArg Host.Outcome.next ?_
    simp [hsecret, hdue]
  case kept =>
    intro s h x hsecret hearly
    refine congrArg Host.Outcome.next ?_
    simp [hsecret, Nat.not_le.mpr hearly]
    rw [← hsecret]

end Sys2Proof.Machine
end

section
/-! SUPPORT. The dealer authorisation, the lifecycle commands and the zeroisation (R279 to R282, R290). -/
namespace Sys2Proof.Machine

open Sys2Proof

/-! ## CHALLENGE and authorisations (R279, R280) -/

theorem State.begun_reseeds (s : State) (opcode : Nat) (input : Bytes) (pr : Bool) : (s.begun opcode input).reseeds pr = s.reseeds pr := by
  have hreg : (s.begun opcode input).reg R.SYM_DRBG = s.reg R.SYM_DRBG := State.reg_put_other _ (by decide) _
  have hget : (s.begun opcode input).get F.SYM_ENT_FAILED = s.get F.SYM_ENT_FAILED := s.begun_get opcode input (by decide)
  rw [State.reseeds, State.flag, hreg, hget, State.reseeds, State.flag]

theorem State.begun_drbgReady (s : State) (opcode : Nat) (input : Bytes) (pr : Bool) : (s.begun opcode input).drbgReady pr = s.drbgReady pr := by
  have hdrbg : (s.begun opcode input).drbg = s.drbg := rfl
  have hseed : (s.begun opcode input).seedNow = s.seedNow := rfl
  rw [State.drbgReady, State.begun_reseeds, hdrbg, hseed, State.drbgReady]

@[simp] theorem State.begun_drawn (s : State) (opcode : Nat) (input : Bytes) (n : Nat) : (s.begun opcode input).drawn n = s.drawn n := by
  rw [State.drawn, State.begun_drbgReady, State.drawn]

@[simp] theorem State.begun_drawnPr (s : State) (opcode : Nat) (input : Bytes) (n : Nat) : (s.begun opcode input).drawnPr n = s.drawnPr n := by
  rw [State.drawnPr, State.begun_drbgReady, State.drawnPr]

theorem State.generated_keys (s : State) (n : Nat) (pr : Bool) : (s.generated n pr).keys = s.keys := by
  unfold State.generated
  dsimp only
  split <;> rfl

theorem State.generated_vault (s : State) (n : Nat) (pr : Bool) : (s.generated n pr).vault = s.vault := by
  unfold State.generated
  dsimp only
  split <;> rfl

theorem challengeOp_in_service {s : State} (h : s.inService = true) :
    challengeOp s = mbOk { s.fresh 16 with keys := { s.keys with challenge := some (s.drawn 16, s.mt) } } (s.drawn 16) := by
  have hkeys : (s.fresh 16).keys = s.keys := s.generated_keys 16 false
  simp only [challengeOp, h, Bool.not_true, Bool.false_eq_true, if_false, hkeys]

theorem State.authReason_of_no_challenge {s : State} (h : s.keys.challenge = none) (scope : Nat) (input auth : Bytes) :
    s.authReason scope input auth = 0x0B10 := by
  rw [State.authReason, h]

/-- In FIELD a check takes the challenge and answers the reason (R280). -/
theorem State.checkAuth_in_field {s : State} (h : s.lifecycle = 3) (scope : Nat) (input auth : Bytes) :
    (s.checkAuth scope input auth).1.keys = { s.keys with challenge := none }
      ∧ (s.checkAuth scope input auth).2 = s.authReason scope input auth
      ∧ (s.checkAuth scope input auth).1.vault = s.vault ∧ (s.checkAuth scope input auth).1.fuses = s.fuses := by
  rw [State.checkAuth, if_neg (not_not.mpr h)]
  by_cases hr : s.authReason scope input auth = 0
  · simp only [hr, if_true]
    exact ⟨rfl, trivial, rfl, rfl⟩
  · simp only [hr, if_false]
    exact ⟨rfl, trivial, rfl, rfl⟩

/-- Outside FIELD no authorisation is asked for. -/
theorem State.checkAuth_outside_field {s : State} (h : s.lifecycle ≠ 3) (scope : Nat) (input : Bytes) : s.checkAuth scope input [] = (s, 0) := by
  rw [State.checkAuth, if_pos h]
  rfl

/-! ## Lifecycle commands (R282) -/

theorem integrateOp_starts {s : State} {hash : Bytes} (hlen : hash.length = 32) (hzero : allZero hash = false) (h1 : s.lifecycle = 1)
    (hblow : s.keys.blow = none) :
    integrateOp hash s = ({ s with fuses := { s.fuses with custHash := hash } } : State).startBlow 1 0x0B02 := by
  simp [integrateOp, hlen, hzero, h1, hblow]

theorem fieldOp_starts {s : State} (h2 : s.lifecycle = 2) (hblow : s.keys.blow = none) (hlkg : s.get F.SYS_STAT_LKG = 0)
    (htransport : (s.keyRec? 4 0).isSome = true) (hattest : (s.keyRec? 5 0).isSome = true) : fieldOp s = s.startBlow 2 0x0B03 := by
  have hflag : s.flag F.SYS_STAT_LKG = false := by rw [State.flag, hlkg]; rfl
  simp [fieldOp, h2, hblow, hflag, Option.isNone_eq_false_iff.mpr htransport, Option.isNone_eq_false_iff.mpr hattest]

theorem fieldOp_without_transport {s : State} (h2 : s.lifecycle = 2) (h : s.keyRec? 4 0 = none) : fieldOp s = mbFail s .key 0x0B08 := by
  simp [fieldOp, h2, h]

theorem retireOp_starts {s : State} (h2 : s.lifecycle = 2) (hblow : s.keys.blow = none) :
    retireOp [] s = s.zeroise.startBlow 3 0x0B04 := by
  have hservice : s.inService = true := by simp [State.inService, h2]
  have hlen : s.authLen = 0 := by simp [State.authLen, h2]
  simp [retireOp, hservice, hlen, State.checkAuth_outside_field (s := s) (by omega), hblow]

/-! ## Zeroisation (R281, R290) -/

theorem State.putDst_frame (s : State) (d : Bytes) (n : Nat) (b : Bytes) :
    s.putDst d n b = { s with net := { s.net with sram := (s.putDst d n b).net.sram } } := by
  unfold State.putDst State.sramPutBytes
  dsimp only
  split <;> rfl

theorem State.wipeReq_frame (s : State) (r : SymReq) :
    s.wipeReq r = { s with sym := (s.wipeReq r).sym, net := { s.net with sram := (s.wipeReq r).net.sram } } := by
  unfold State.wipeReq
  rw [State.putDst_frame]
  dsimp only
  split <;> rfl

/-- A cipher request dropped leaves its result buffer wiped: outside the cipher island only island memory changes. -/
theorem State.symDrop_frame (s : State) (pick : SymReq → Bool) :
    s.symDrop pick = { s with sym := (s.symDrop pick).sym, net := { s.net with sram := (s.symDrop pick).net.sram } } := by
  have hfold : ∀ (l : List SymReq) (u : State),
      l.foldl State.wipeReq u
        = { u with sym := (l.foldl State.wipeReq u).sym, net := { u.net with sram := (l.foldl State.wipeReq u).net.sram } } := by
    intro l
    induction l with
    | nil => exact fun u => rfl
    | cons r l ih =>
      intro u
      rw [List.foldl_cons, ih, u.wipeReq_frame]
  rw [State.symDrop, hfold]

theorem keepsRegs_setReg {s t : State} {l : List Nat} (h : keepsRegs s t l) {off : Nat} (ho : off ∈ l) (v : Nat) : keepsRegs s (t.setReg off v) l :=
  fun p hp => (State.reg_setReg_other t (fun e => hp (by rwa [e])) v).trans (h p hp)

/-- The registers that show the keyring. -/
def ringRegs : List Nat := [F.KEY_RECS_USED.off, R.KEY_STAT, R.KEY_GEN]

theorem State.refreshKeys_keeps (s : State) : keepsRegs s s.refreshKeys ringRegs := by
  have hrecs := keepsRegs_put (keepsRegs_put (keepsRegs_refl s ringRegs) (f := F.KEY_RECS_USED) (by decide) s.ring.length)
    (f := F.KEY_RECS_FREE) (by decide) (512 - s.ring.length)
  have hshown := keepsRegs_put (keepsRegs_put (keepsRegs_put hrecs (f := F.KEY_STAT_AS_OK) (by decide) (bit (s.keyRec? 5 0).isSome))
    (f := F.KEY_STAT_TK_OK) (by decide) (bit (s.keyRec? 4 0).isSome)) (f := F.KEY_STAT_PREP) (by decide) (bit (s.keys.prep != .none))
  unfold State.refreshKeys
  dsimp only
  split <;> exact keepsRegs_put (keepsRegs_setReg hshown (by decide) _) (by decide) _

/-- The vault, the keys and the cipher contexts after a zeroisation, and what it leaves. -/
theorem State.zeroise_spec (s : State) :
    s.zeroise.vault = { s.vault with keyring := none, alternate := none, nonceHi := []
                                     slots := List.replicate 64 .empty, paths := List.replicate 4 .clear }
      ∧ s.zeroise.keys = { s.keys with derived := false, prep := .none, secrets := [] }
      ∧ s.zeroise.sym.ctx = List.replicate 32 none ∧ s.zeroise.get F.KEY_EVT_ZEROISED = 1
      ∧ s.zeroise = { s with regs := s.zeroise.regs, vault := s.zeroise.vault, keys := s.zeroise.keys, sym := s.zeroise.sym, tok := s.zeroise.tok
                             net := { s.net with sram := s.zeroise.net.sram } } := by
  have hget (u : State) : (u.event F.KEY_EVT_ZEROISED).refreshKeys.get F.KEY_EVT_ZEROISED = 1 :=
    (State.get_of_reg (State.refreshKeys_keeps _ _ (by decide))).trans (State.get_put_same u _ 1 (by decide) (by decide))
  have hframe := s.symDrop_frame (fun _ => true)
  unfold State.zeroise
  rw [hframe]
  refine ⟨?_, ?_, ?_, hget _, ?_⟩ <;> rw [State.refreshKeys_regsOnly] <;> rfl

section
variable (u : State) (fuse opcode : Nat)

theorem State.startBlow_vault : (u.startBlow fuse opcode).1.vault = { u.vault with transition := some fuse } := (rfl)
theorem State.startBlow_keys :
    (u.startBlow fuse opcode).1.keys = { u.keys with blow := some (.lifecycle fuse), blowReset := true, blowOp := some (opcode, 0) } := (rfl)
theorem State.startBlow_sym : (u.startBlow fuse opcode).1.sym = u.sym := (rfl)
theorem State.startBlow_nor : (u.startBlow fuse opcode).1.nor = u.nor := (rfl)
theorem State.startBlow_nand : (u.startBlow fuse opcode).1.nand = u.nand := (rfl)
theorem State.startBlow_update : (u.startBlow fuse opcode).1.update = u.update := (rfl)

theorem State.startBlow_pending : (u.startBlow fuse opcode).1.get F.KEY_EVT_LC_PENDING = 1 :=
  State.get_put_same _ _ 1 (by decide) (by decide)

theorem State.startBlow_zeroised : (u.startBlow fuse opcode).1.get F.KEY_EVT_ZEROISED = u.get F.KEY_EVT_ZEROISED :=
  State.get_put_apart { u with
    vault := { u.vault with transition := some fuse }
    keys := { u.keys with blow := some (.lifecycle fuse), blowReset := true, blowOp := some (opcode, 0) } } _ _ 1
    (by decide) (by decide) (by decide)

end

/-- What RETIRE leaves once it has zeroised and begun its blow. -/
theorem State.zeroise_startBlow (s : State) (fuse opcode : Nat) :
    let t := (s.zeroise.startBlow fuse opcode).1
    t.vault.transition = some fuse ∧ t.keys.blow = some (.lifecycle fuse) ∧ t.keys.blowReset = true
      ∧ t.vault.keyring = none ∧ t.vault.slots = List.replicate 64 .empty ∧ t.sym.ctx = List.replicate 32 none ∧ t.keys.derived = false
      ∧ t.get F.KEY_EVT_ZEROISED = 1 ∧ t.get F.KEY_EVT_LC_PENDING = 1 ∧ t.fuses = s.fuses ∧ t.vault.deviceTag = s.vault.deviceTag
      ∧ t.vault.ksn = s.vault.ksn ∧ t.vault.pctr = s.vault.pctr ∧ t.vault.floor = s.vault.floor ∧ t.vault.chain = s.vault.chain
      ∧ t.nor = s.nor ∧ t.nand = s.nand ∧ t.update = s.update := by
  obtain ⟨hvault, hkeys, hctx, hzeroised, hframe⟩ := s.zeroise_spec
  have hfuses : s.zeroise.fuses = s.fuses := by rw [hframe]
  have hnor : s.zeroise.nor = s.nor := by rw [hframe]
  have hnand : s.zeroise.nand = s.nand := by rw [hframe]
  have hupdate : s.zeroise.update = s.update := by rw [hframe]
  dsimp only
  rw [State.startBlow_pending, State.startBlow_zeroised, State.startBlow_vault, State.startBlow_keys, State.startBlow_sym, State.startBlow_nor,
    State.startBlow_nand, State.startBlow_update, State.startBlow_fuses, hvault, hkeys, hctx, hzeroised, hfuses, hnor, hnand, hupdate]
  exact ⟨rfl, rfl, rfl, rfl, rfl, rfl, rfl, rfl, rfl, rfl, rfl, rfl, rfl, rfl, rfl, rfl, rfl, rfl⟩

/-- Settles O30: each command is the branch of its operation that the hypotheses pick, run as a mailbox command. -/
theorem dealerAuthorisationAndLifecycle : Obligations.DealerAuthorisationAndLifecycle := by
  unfold Obligations.DealerAuthorisationAndLifecycle
  refine ⟨?challenge, ?expires, ?lasts, ?checked, ?unchallenged, ?integrate, ?field, ?noTransport, ?retire⟩
  case challenge =>
    intro s hready hservice
    have hop := challengeOp_in_service (s := s.begun 0x0B01 []) (by simpa using hservice)
    rw [State.begun_drawn] at hop
    exact next_mailboxCommand hready hop
  case expires =>
    intro s c x hc hdue
    refine congrArg Host.Outcome.next ?_
    simp only [hc, hdue, if_true]
  case lasts =>
    intro s c x hc hearly
    refine congrArg Host.Outcome.next ?_
    simp only [hc, Nat.not_le.mpr hearly, if_false]
  case checked =>
    intro s scope input auth h3
    obtain ⟨hkeys, hreason, hvault, hfuses⟩ := State.checkAuth_in_field h3 scope input auth
    exact ⟨hkeys, by rw [hreason], hreason, hvault, hfuses⟩
  case unchallenged => exact fun s scope input auth h => State.authReason_of_no_challenge h scope input auth
  case integrate =>
    intro s hash hready hlen hzero h1
    obtain ⟨-, -, -, hblow, -⟩ := id hready
    exact congrArg Host.Outcome.next (mailboxCommand_defers 0x0B02 hash _ s _ [] (by decide) hready
      (integrateOp_starts (s := s.begun 0x0B02 hash) hlen hzero (by simpa using h1) hblow))
  case field =>
    intro s hready h2 hlkg htransport hattest
    obtain ⟨-, -, -, hblow, -⟩ := id hready
    exact congrArg Host.Outcome.next (mailboxCommand_defers 0x0B03 [] _ s _ [] (by decide) hready
      (fieldOp_starts (s := s.begun 0x0B03 []) (by simpa using h2) hblow ((s.begun_get _ _ (by decide)).trans hlkg) htransport hattest))
  case noTransport =>
    exact fun s hready h2 h => next_mailboxCommand hready (fieldOp_without_transport (s := s.begun 0x0B03 []) (by simpa using h2) h)
  case retire =>
    intro s hready h2
    obtain ⟨-, -, -, hblow, -⟩ := id hready
    have hruns : mailboxCommand 0x0B04 [] (retireOp []) s = ((s.begun 0x0B04 []).zeroise.startBlow 3 0x0B04).1 :=
      mailboxCommand_defers 0x0B04 [] _ s _ [] (by decide) hready (retireOp_starts (s := s.begun 0x0B04 []) (by simpa using h2) hblow)
    exact ⟨_, congrArg Host.Outcome.next hruns, (s.begun 0x0B04 []).zeroise_startBlow 3 0x0B04⟩

end Sys2Proof.Machine
end

section
/-! SUPPORT. Key commands and sealed imports (R273, R274, R277, R281): what a commit leaves, and what the journal entry and the answer keep. -/
namespace Sys2Proof.Machine

open Sys2Proof

/-! ## What an answer leaves of the registers -/

/-- The registers that an answered mailbox command writes: the mailbox, its last answer and the host's reason. -/
def answerRegs : List Nat := [R.HIF_STAT, F.HIF_EVT_MB_DONE.off, R.HIF_MB_OUT_STAT, R.HIF_MB_LAST, F.HIF_REASON_REASON.off]

theorem State.placeOut_keeps (s : State) : keepsRegs s s.placeOut answerRegs := by
  unfold State.placeOut
  split
  · exact keepsRegs_refl s _
  · split
    · exact keepsRegs_refl s _
    · exact keepsRegs_put (keepsRegs_setReg (fun _ _ => rfl) (by decide) _) (by decide) _

theorem State.deliver_keeps (s : State) (t : Transport) (src : Nat) (m : Bytes) : keepsRegs s (s.deliver t src m) answerRegs := by
  have hbus : ∀ t : Transport, keepsRegs s (if s.busUp t then ({ s with hif := { s.hif with busSent := some (t, busPayloads t m) } } : State)
      else { s with hif := { s.hif with busResp := s.hif.busResp ++ [⟨t, m, s.mt, src⟩] } }) answerRegs := fun t => by
    split <;> exact fun _ _ => rfl
  cases t
  · exact State.placeOut_keeps { s with hif := { s.hif with spiResp := s.hif.spiResp ++ [m] } }
  · exact hbus .can0
  · exact hbus .can1
  · exact hbus .t1s

theorem State.answer_keeps (s : State) (c : MbCmd) (reason : Nat) (out : Bytes) : keepsRegs s (s.answer c reason out) answerRegs := by
  have hreason : keepsRegs s (if reason / 256 = 16 then s.reason .hif reason else s) answerRegs := by
    split
    · exact keepsRegs_put (keepsRegs_refl s _) (by decide) _
    · exact keepsRegs_refl s _
  unfold State.answer
  exact keepsRegs_put (keepsRegs_setReg (hreason.trans (State.deliver_keeps _ _ _ _)) (by decide) _) (by decide) _

theorem State.finish_keeps (s : State) (reason : Nat) (out : Bytes) : keepsRegs s (s.finish reason out) answerRegs := by
  unfold State.finish
  split
  · exact keepsRegs_refl s _
  · refine keepsRegs.trans ?_ (State.answer_keeps _ _ _ _)
    exact keepsRegs_put (t := { s with hif := { s.hif with executing := none } }) (fun _ _ => rfl) (by decide) _

/-! ## A committed generation of the keyring (R273) -/

/-- The fields on which the clauses about a key command read the outcome. -/
def keyOutcome : List Field := [F.KEY_EVT_COMMIT, F.KEY_EVT_IMPORT, F.KEY_REASON_REASON]

/-- Work after a commit that leaves the generation, the credentials and what the key command showed. -/
def State.ringKept (s t : State) : Prop :=
  t.vault.keyring = s.vault.keyring ∧ t.vault.slots = s.vault.slots ∧ t.fuses = s.fuses ∧ t.update = s.update ∧ ∀ f ∈ keyOutcome, t.get f = s.get f

theorem State.ringKept.trans {s t u : State} (h : s.ringKept t) (h' : t.ringKept u) : s.ringKept u := by
  obtain ⟨hring, hslots, hfuses, hupdate, hgets⟩ := h
  obtain ⟨hring', hslots', hfuses', hupdate', hgets'⟩ := h'
  exact ⟨hring'.trans hring, hslots'.trans hslots, hfuses'.trans hfuses, hupdate'.trans hupdate, fun f hf => (hgets' f hf).trans (hgets f hf)⟩

theorem State.finish_ringKept (s : State) (reason : Nat) (out : Bytes) : s.ringKept (s.finish reason out) := by
  refine ⟨by rw [State.finish_vault], by rw [State.finish_vault], State.finish_fuses .., State.finish_update .., fun f hf => ?_⟩
  exact State.get_of_reg (s.finish_keeps reason out _ ((by decide : ∀ f ∈ keyOutcome, f.off ∉ answerRegs) f hf))

theorem State.keyEvent_ringKept (s : State) (code handle : Nat) : s.ringKept (s.keyEvent code handle) := by
  obtain ⟨hregs, hvault, -⟩ := s.journal_work 0x0B01 0 .key 0 (toLE 2 code ++ toLE 4 handle ++ toLE 1 s.lifecycle ++ toLE 1 s.fuses.epochNo)
  refine ⟨State.journal_keyring .., by rw [State.keyEvent, hvault], State.journal_fuses .., State.journal_update .., fun f hf => ?_⟩
  exact State.get_of_reg (hregs _ ((by decide : ∀ f ∈ keyOutcome, f.off ∉ entryRegs) f hf))

theorem State.setReg_ringKept (s : State) {off : Nat} (h : ∀ f ∈ keyOutcome, f.off ≠ off) (v : Nat) : s.ringKept (s.setReg off v) :=
  ⟨rfl, rfl, rfl, rfl, fun f hf => State.get_setReg_other s (h f hf) v⟩

theorem State.nameRotate_ringKept (s : State) (handle : Nat) : s.ringKept (s.nameRotate handle) := by
  have hevent : s.ringKept (s.event F.KEY_EVT_ROTATE) :=
    ⟨rfl, rfl, rfl, rfl, fun f hf => State.get_put_apart s _ f 1 (by decide) ((by decide : ∀ f ∈ keyOutcome, f.hi < 32) f hf)
      ((by decide : ∀ f ∈ keyOutcome, f.off ≠ F.KEY_EVT_ROTATE.off ∨ f.hi < F.KEY_EVT_ROTATE.lo ∨ F.KEY_EVT_ROTATE.hi < f.lo) f hf)⟩
  exact hevent.trans (State.setReg_ringKept _ (by decide) handle)

/-- The next generation holds the records `recs`, and the commit shows. -/
def State.committed (s t : State) (recs : List KeyRec) : Prop :=
  t.vault.keyring = some (sealGeneration s.nextGen s.fuses.epochNo s.ringS recs) ∧ t.get F.KEY_EVT_COMMIT = 1
    ∧ t.fuses = s.fuses ∧ t.update = s.update ∧ t.vault.slots = s.vault.slots

theorem State.committed.kept {s t u : State} {recs : List KeyRec} (h : s.committed t recs) (hkept : t.ringKept u) : s.committed u recs := by
  obtain ⟨hring, hevent, hfuses, hupdate, hslots⟩ := h
  obtain ⟨hring', hslots', hfuses', hupdate', hgets⟩ := hkept
  exact ⟨hring'.trans hring, (hgets _ (by decide)).trans hevent, hfuses'.trans hfuses, hupdate'.trans hupdate, hslots'.trans hslots⟩

/-- A commit reads the keyring and the fuses alone. -/
theorem State.committed.of_eq {s s' t : State} {recs : List KeyRec} (h : s'.committed t recs) (hvault : s'.vault = s.vault)
    (hfuses : s'.fuses = s.fuses) (hupdate : s'.update = s.update) : s.committed t recs := by
  rw [State.committed, State.nextGen, State.ringS, hvault, hfuses, hupdate] at h
  exact h

/-- The next generation in force, the commit shown and the keyring's registers brought up. -/
def State.generationShown (s : State) (g : Generation) : State :=
  (({ s with vault := { s.vault with keyring := some g, alternate := none } } : State).event F.KEY_EVT_COMMIT).refreshKeys

theorem State.event_refreshKeys_commit (u : State) : (u.event F.KEY_EVT_COMMIT).refreshKeys.get F.KEY_EVT_COMMIT = 1 :=
  (State.get_of_reg (State.refreshKeys_keeps _ _ (by decide))).trans (State.get_put_same u _ 1 (by decide) (by decide))

theorem State.generationShown_event (s : State) (g : Generation) : (s.generationShown g).get F.KEY_EVT_COMMIT = 1 :=
  State.event_refreshKeys_commit _

theorem State.generationShown_frame (s : State) (g : Generation) : s.generationShown g = { s with
    regs := (s.generationShown g).regs, vault := { s.vault with keyring := some g, alternate := none } } := by
  unfold State.generationShown
  rw [State.refreshKeys_regsOnly]
  rfl

theorem State.commitGen_of_room {s : State} {recs : List KeyRec} (hroom : recs.length ≤ 512) (hup : s.vaultUp = true) :
    s.commitGen recs true = ((s.generationShown (sealGeneration s.nextGen s.fuses.epochNo s.ringS recs)).commitPoint, 0) := by
  rw [State.commitGen, if_neg (Nat.not_lt.mpr hroom), hup, if_neg (by decide)]
  rfl

section
variable (s : State) (g : Generation)

theorem State.generationShown_keyring : (s.generationShown g).commitPoint.vault.keyring = some g := by
  rw [State.commitPoint_vault, State.generationShown_frame]

theorem State.generationShown_slots : (s.generationShown g).commitPoint.vault.slots = s.vault.slots := by
  rw [State.commitPoint_vault, State.generationShown_frame]

theorem State.generationShown_fuses : (s.generationShown g).commitPoint.fuses = s.fuses := by
  rw [State.commitPoint_fuses, State.generationShown_frame]

theorem State.generationShown_update : (s.generationShown g).commitPoint.update = s.update := by
  rw [State.commitPoint_update, State.generationShown_frame]

theorem State.generationShown_point_event : (s.generationShown g).commitPoint.get F.KEY_EVT_COMMIT = 1 :=
  (State.get_of_regs (State.commitPoint_regs _) _).trans (s.generationShown_event g)

end

theorem State.commitGen_committed {s : State} {recs : List KeyRec} (hroom : recs.length ≤ 512) (hup : s.vaultUp = true) :
    ∃ t, s.commitGen recs true = (t, 0) ∧ s.committed t recs :=
  ⟨_, State.commitGen_of_room hroom hup, s.generationShown_keyring _, s.generationShown_point_event _, s.generationShown_fuses _,
    s.generationShown_update _, s.generationShown_slots _⟩

/-- A key drawn from the DRBG does not touch what a commit reads. -/
theorem State.committed_of_fresh {s t : State} {n : Nat} {recs : List KeyRec} (h : (s.freshPr n).committed t recs) : s.committed t recs :=
  h.of_eq (s.generated_vault n true) (s.freshPr_fuses n) (s.generated_pairKept n true).2.2

/-- A generation committed for the command that runs, once the command is answered. -/
theorem State.committed_answered {s t : State} {opcode : Nat} {input : Bytes} {recs : List KeyRec} (h : (s.begun opcode input).committed t recs)
    (out : Bytes) :
    (t.finish 0 out).vault.keyring = some (sealGeneration s.nextGen s.fuses.epochNo s.ringS recs) ∧ (t.finish 0 out).get F.KEY_EVT_COMMIT = 1
      ∧ (t.finish 0 out).hif.executing = none ∧ (t.finish 0 out).fuses = s.fuses ∧ (t.finish 0 out).update = s.update
      ∧ (t.finish 0 out).vault.slots = s.vault.slots := by
  have hbegun : s.committed t recs := h.of_eq rfl rfl rfl
  obtain ⟨hring, hevent, hfuses, hupdate, hslots⟩ := hbegun.kept (t.finish_ringKept 0 out)
  exact ⟨hring, hevent, State.finish_executing .., hfuses, hupdate, hslots⟩

/-! ## Key commands (R274, R277) -/

section
variable {s : State} {handle : Nat} {k : KeyRec}

theorem keyGenerateOp_commits {kind attr : Nat} (hkind : kind = 6 ∨ kind = 7) (hservice : s.inService = true) (hattr : attrPermitted attr = true)
    (hprep : s.prepReason = 0) (hentropy : s.entropyFailed = false) (hroom : s.ring.length < 512) (hup : s.vaultUp = true) :
    ∃ t out, keyGenerateOp kind attr true s = mbOk t out
      ∧ s.committed t (s.ring ++ [(s.newKey kind (freeIndex s.ring kind 512 (if kind = 6 then 3 else 0)) attr).1]) := by
  generalize hnew : s.newKey kind (freeIndex s.ring kind 512 (if kind = 6 then 3 else 0)) attr = x
  obtain ⟨r, u⟩ := x
  have hfresh : u = s.freshPr (if kind = 6 then 96 else 32) := (congrArg Prod.snd hnew).symm
  have hup' : u.vaultUp = true := by rw [hfresh, State.vaultUp, State.freshPr, State.generated_vault]; exact hup
  obtain ⟨t, hcommit, hdone⟩ := State.commitGen_committed (s := u) (recs := s.ring ++ [r]) (by simpa using hroom) hup'
  have hop : keyGenerateOp kind attr true s
      = mbOk ((if Nat.testBit attr 0 then t.nameRotate (handleOf r) else t).keyEvent 0x0B07 (handleOf r)) (toLE 4 (handleOf r) ++ r.pub) := by
    have hfits : ¬ ((decide (kind ≠ 6) && decide (kind ≠ 7)) = true) := by obtain rfl | rfl := hkind <;> simp
    simp only [keyGenerateOp, if_neg hfits, hservice, hattr, hprep, hentropy, hnew, hcommit, Bool.not_true, Bool.false_eq_true, ne_eq,
      not_true_eq_false,
      if_false]
  have hnamed : t.ringKept (if Nat.testBit attr 0 then t.nameRotate (handleOf r) else t) := by
    split
    · exact t.nameRotate_ringKept _
    · exact ⟨rfl, rfl, rfl, rfl, fun _ _ => rfl⟩
  exact ⟨_, _, hop, (State.committed_of_fresh (hfresh ▸ hdone)).kept (hnamed.trans (State.keyEvent_ringKept _ _ _))⟩

theorem keyDestroyOp_commits (hservice : s.inService = true) (hprep : s.prepReason = 0) (hkey : s.hostKey handle = .ok k)
    (hroom : s.ring.length ≤ 512) (hup : s.vaultUp = true) :
    ∃ t, keyDestroyOp handle true s = mbOk t [] ∧ s.committed t (s.ring.filter (fun x => !(x.kind == k.kind && x.index == k.index))) := by
  obtain ⟨t, hcommit, hdone⟩ := State.commitGen_committed (s := s) (recs := s.ring.filter (fun x => !(x.kind == k.kind && x.index == k.index)))
    ((List.length_filter_le _ _).trans hroom) hup
  have hop : keyDestroyOp handle true s = mbOk (t.keyEvent 0x0B09 handle) [] := by
    simp only [keyDestroyOp, hservice, hprep, hkey, hcommit, Bool.not_true, Bool.false_eq_true, ne_eq, not_true_eq_false, if_false]
  exact ⟨_, hop, hdone.kept (State.keyEvent_ringKept _ _ _)⟩

theorem keyRotateOp_commits (hservice : s.inService = true) (hprep : s.prepReason = 0) (hentropy : s.entropyFailed = false)
    (hkey : s.hostKey handle = .ok k) (hroom : s.ring.length < 512) (hup : s.vaultUp = true) :
    ∃ t out, keyRotateOp handle true s = mbOk t out ∧ s.committed t
      (s.ring.filter (fun x => !(x.kind == k.kind && x.index == k.index)) ++ [(s.newKey k.kind k.index (k.attr / 2 * 2)).1]) := by
  generalize hnew : s.newKey k.kind k.index (k.attr / 2 * 2) = x
  obtain ⟨r, u⟩ := x
  have hfresh : u = s.freshPr (if k.kind = 6 then 96 else 32) := (congrArg Prod.snd hnew).symm
  have hup' : u.vaultUp = true := by rw [hfresh, State.vaultUp, State.freshPr, State.generated_vault]; exact hup
  have hkept := List.length_filter_le (fun x : KeyRec => !(x.kind == k.kind && x.index == k.index)) s.ring
  obtain ⟨t, hcommit, hdone⟩ := State.commitGen_committed (s := u)
    (recs := s.ring.filter (fun x => !(x.kind == k.kind && x.index == k.index)) ++ [r])
    (by rw [List.length_append, List.length_singleton]; omega) hup'
  have hop : keyRotateOp handle true s = mbOk ((if t.reg R.KEY_ROT = handle then t.setReg R.KEY_ROT 0 else t).keyEvent 0x0B0A (handleOf r))
      (toLE 4 (handleOf r)) := by
    simp only [keyRotateOp, hservice, hprep, hentropy, hkey, hnew, hcommit, Bool.not_true, Bool.false_eq_true, ne_eq, not_true_eq_false, if_false]
  have hnamed : t.ringKept (if t.reg R.KEY_ROT = handle then t.setReg R.KEY_ROT 0 else t) := by
    split
    · exact t.setReg_ringKept (by decide) 0
    · exact ⟨rfl, rfl, rfl, rfl, fun _ _ => rfl⟩
  exact ⟨_, _, hop, (State.committed_of_fresh (hfresh ▸ hdone)).kept (hnamed.trans (State.keyEvent_ringKept _ _ _))⟩

theorem keyExportOp_wraps {wrapping : Nat} {w : KeyRec} (hservice : s.inService = true) (hlock : s.ringLocked = false)
    (hkey : s.keyByHandle handle = .ok k) (hwrap : s.keyByHandle wrapping = .ok w) (hexport : Nat.testBit k.attr 1 = true)
    (hadmit : keyAdmission w.attr 4 false s.lifecycle 6 = 0) :
    keyExportOp handle wrapping s = mbOk s (Crypto.kwWrap w.key (kwPadded k.key)) := by
  simp only [keyExportOp, hservice, hlock, hkey, hwrap, hexport, hadmit, Bool.not_true, Bool.false_eq_true, ne_eq, not_true_eq_false, if_false]

theorem keyAttrReadOp_reads (hservice : s.inService = true) (hlock : s.ringLocked = false) (hkey : s.keyByHandle handle = .ok k) :
    keyAttrReadOp handle s = mbOk s (toLE 4 k.attr) := by
  simp only [keyAttrReadOp, hservice, hlock, hkey, Bool.not_true, Bool.false_eq_true, if_false]

theorem keyAttrReadOp_of_no_record (hservice : s.inService = true) (hlock : s.ringLocked = false)
    (hnone : s.keyRec? (handle / 2 ^ 28) (handle / 2 ^ 16 % 4096) = none) : keyAttrReadOp handle s = mbFail s .key 0x0B01 := by
  have hkey : s.keyByHandle handle = .error 0x0B01 := by rw [State.keyByHandle, hnone]
  simp only [keyAttrReadOp, hservice, hlock, hkey, Bool.not_true, Bool.false_eq_true, if_false]

end

/-! ## Sealed imports (R281) -/

/-- The key that the exchange with KXK derives for an import of a kind. -/
def State.importKek (s : State) (kxk : KeyRec) (sealed : Bytes) (kind : Nat) : Bytes :=
  Crypto.kdf (Crypto.ecdh kxk.key (sealed.take 132)) "IMPORT" (toBE 4 s.vault.deviceTag ++ toLE 1 kind)

section
variable {s : State} {kind scope opcode : Nat} {sealed k : Bytes} {kxk : KeyRec}
variable (hlen : sealed.length = 172) (h2 : s.lifecycle = 2) (hlock : s.ringLocked = false) (hprep : s.keys.prep = .none)
variable (hkxk : s.keyRec? 6 kxkIndex = some kxk) (hcurve : Crypto.onCurve (sealed.take 132) = true)
include hlen h2 hlock hprep hkxk hcurve

theorem importOp_refuses (hwrapped : Crypto.kwUnwrap (s.importKek kxk sealed kind) (sealed.drop 132) = none) :
    importOp kind scope opcode sealed [] true s = mbFail s .key 0x0B18 := by
  have hservice : s.inService = true := by simp [State.inService, h2]
  have hauth : s.authLen = 0 := by simp [State.authLen, h2]
  rw [State.importKek] at hwrapped
  simp [importOp, hlen, hservice, hauth, State.checkAuth_outside_field (s := s) (by omega), hlock, hprep, hkxk, hcurve, hwrapped]

theorem importOp_commits (hup : s.vaultUp = true) (hroom : s.ring.length < 512)
    (hwrapped : Crypto.kwUnwrap (s.importKek kxk sealed kind) (sealed.drop 132) = some k) :
    ∃ t out, importOp kind scope opcode sealed [] true s = mbOk t out ∧ t.get F.KEY_EVT_IMPORT = 1
      ∧ s.committed t (s.ring.filter (fun x => x.kind != kind) ++ [⟨kind, 0, s.nextGen, if kind = 4 then attrTransport else attrAttest, k, []⟩]) := by
  have hservice : s.inService = true := by simp [State.inService, h2]
  have hauth : s.authLen = 0 := by simp [State.authLen, h2]
  have hkept := List.length_filter_le (fun x : KeyRec => x.kind != kind) s.ring
  rw [State.importKek] at hwrapped
  generalize hr : (⟨kind, 0, s.nextGen, if kind = 4 then attrTransport else attrAttest, k, []⟩ : KeyRec) = r
  obtain ⟨t, hcommit, hdone⟩ := State.commitGen_committed (s := s) (recs := s.ring.filter (fun x => x.kind != kind) ++ [r])
    (by rw [List.length_append, List.length_singleton]; omega) hup
  have hop : importOp kind scope opcode sealed [] true s = mbOk ((t.event F.KEY_EVT_IMPORT).keyEvent opcode (handleOf r)) (toLE 4 (handleOf r)) := by
    simp [importOp, hlen, hservice, hauth, State.checkAuth_outside_field (s := s) (by omega), hlock, hprep, hkxk, hcurve, hwrapped, hr, hcommit]
  obtain ⟨hring, hcommitted, hfuses, hupdate, hslots⟩ := hdone
  have hshown : s.committed (t.event F.KEY_EVT_IMPORT) (s.ring.filter (fun x => x.kind != kind) ++ [r]) :=
    ⟨hring, (State.get_put_apart t _ _ 1 (by decide) (by decide) (by decide)).trans hcommitted, hfuses, hupdate, hslots⟩
  have hentry := State.keyEvent_ringKept (t.event F.KEY_EVT_IMPORT) opcode (handleOf r)
  obtain ⟨-, -, -, -, hgets⟩ := id hentry
  exact ⟨_, _, hop, (hgets _ (by decide)).trans (State.get_put_same t _ 1 (by decide) (by decide)), hshown.kept hentry⟩

end

theorem State.begun_newKey (s : State) (opcode : Nat) (input : Bytes) (kind index attr : Nat) :
    ((s.begun opcode input).newKey kind index attr).1 = (s.newKey kind index attr).1 := by
  have hgen : (s.begun opcode input).nextGen = s.nextGen := rfl
  simp only [State.newKey, State.begun_drawnPr, hgen]

/-- A sealed import as its mailbox command ends it. -/
theorem import_ends {s : State} {sealed : Bytes} {kxk : KeyRec} (kind scope opcode : Nat) (hlen : sealed.length = 172) (h2 : s.lifecycle = 2)
    (hlock : s.keys.lockEnd = none) (hprep : s.keys.prep = .none) (hkxk : s.keyRec? 6 kxkIndex = some kxk)
    (hcurve : Crypto.onCurve (sealed.take 132) = true) (hup : s.vaultUp = true) (hroom : s.ring.length < 512) (hready : s.mbReady opcode sealed)
    (ho : opcode < 65536) :
    let t := mailboxCommand opcode (sealed ++ []) (importOp kind scope opcode sealed [] true) s
    (∀ k, Crypto.kwUnwrap (s.importKek kxk sealed kind) (sealed.drop 132) = some k →
        t.vault.keyring = some (sealGeneration s.nextGen s.fuses.epochNo s.ringS
          (s.ring.filter (fun x => x.kind != kind) ++ [⟨kind, 0, s.nextGen, if kind = 4 then attrTransport else attrAttest, k, []⟩]))
        ∧ t.get F.KEY_EVT_IMPORT = 1 ∧ t.get F.KEY_EVT_COMMIT = 1)
      ∧ (Crypto.kwUnwrap (s.importKek kxk sealed kind) (sealed.drop 132) = none →
        t.vault.keyring = s.vault.keyring ∧ t.get F.KEY_REASON_REASON = 0x0B18)
      ∧ t.hif.executing = none ∧ t.fuses = s.fuses ∧ t.vault.slots = s.vault.slots := by
  have h2' : (s.begun opcode sealed).lifecycle = 2 := by simpa using h2
  have hlock' : (s.begun opcode sealed).ringLocked = false := by simpa using State.ringLocked_of_no_lock hlock
  dsimp only
  rw [List.append_nil]
  cases hwrapped : Crypto.kwUnwrap (s.importKek kxk sealed kind) (sealed.drop 132) with
  | none =>
    rw [mailboxCommand_answers opcode sealed _ s _ 0x0B18 [] ho hready
      (importOp_refuses (s := s.begun opcode sealed) hlen h2' hlock' hprep hkxk hcurve hwrapped) (by decide)]
    obtain ⟨hring, hslots, hfuses, -, hgets⟩ := ((s.begun opcode sealed).reason .key 0x0B18).finish_ringKept 0x0B18 []
    refine ⟨fun k h => absurd h (by simp), fun _ => ⟨hring, (hgets _ (by decide)).trans ?_⟩, State.finish_executing .., hfuses, hslots⟩
    exact State.get_put_same (s.begun opcode sealed) F.KEY_REASON_REASON 0x0B18 (by decide) (by decide)
  | some k =>
    obtain ⟨t, out, hop, himport, hdone⟩ := importOp_commits (s := s.begun opcode sealed) (scope := scope) (opcode := opcode) hlen h2' hlock' hprep
      hkxk hcurve hup hroom hwrapped
    rw [mailboxCommand_answers opcode sealed _ s _ 0 out ho hready hop (by decide)]
    obtain ⟨hring, hevent, hover, hfuses, -, hslots⟩ := State.committed_answered hdone out
    obtain ⟨-, -, -, -, hgets⟩ := t.finish_ringKept 0 out
    refine ⟨fun k' h => ?_, fun h => absurd h (by simp), hover, hfuses, hslots⟩
    rw [← Option.some.inj h]
    exact ⟨hring, (hgets _ (by decide)).trans himport, hevent⟩

/-- Settles O32: a sealed import by what its unwrapping gives, each key command by the generation that its operation commits. -/
theorem keysAreImportedAndCommitted : Obligations.KeysAreImportedAndCommitted := by
  unfold Obligations.KeysAreImportedAndCommitted
  refine ⟨?sealed, ?generate, ?destroy, ?rotate, ?wraps, ?attr, ?noAttr⟩
  case sealed =>
    intro s sealed kxk hlen h2 hlock hprep _ hkxk hcurve hup hroom
    refine ⟨fun hready => ⟨_, rfl, ?_⟩, fun hready => ⟨_, rfl, ?_⟩⟩
    · obtain ⟨hsome, hnone, hrest⟩ := import_ends 4 3 0x0B05 hlen h2 hlock hprep hkxk hcurve hup hroom hready (by decide)
      refine ⟨?_, hrest⟩
      split
      · next k hk => exact hsome k hk
      · next hk => exact hnone hk
    · obtain ⟨hsome, hnone, hrest⟩ := import_ends 5 6 0x0B06 hlen h2 hlock hprep hkxk hcurve hup hroom hready (by decide)
      refine ⟨?_, hrest⟩
      split
      · next k hk => exact hsome k hk
      · next hk => exact hnone hk
  case generate =>
    intro s kind attr hready hkind hservice hattr hprep hentropy hroom hup
    obtain ⟨t, out, hop, hdone⟩ := keyGenerateOp_commits (s := s.begun 0x0B07 (toLE 1 kind.toNat ++ toLE 4 attr.toNat)) hkind
      (by simpa using hservice) hattr hprep (by simp [State.entropyFailed_of_get hentropy]) hroom hup
    rw [State.begun_newKey] at hdone
    exact ⟨_, next_mailboxCommand hready hop, State.committed_answered hdone out⟩
  case destroy =>
    intro s h k hready hservice hprep hkey hroom hup
    obtain ⟨t, hop, hdone⟩ := keyDestroyOp_commits (s := s.begun 0x0B09 (toLE 4 h.toNat)) (by simpa using hservice) hprep hkey hroom hup
    exact ⟨_, next_mailboxCommand hready hop, State.committed_answered hdone []⟩
  case rotate =>
    intro s h k hready hservice hprep hentropy hkey hroom hup
    obtain ⟨t, out, hop, hdone⟩ := keyRotateOp_commits (s := s.begun 0x0B0A (toLE 4 h.toNat)) (by simpa using hservice) hprep
      (by simp [State.entropyFailed_of_get hentropy]) hkey hroom hup
    rw [State.begun_newKey] at hdone
    exact ⟨_, next_mailboxCommand hready hop, State.committed_answered hdone out⟩
  case wraps =>
    intro s h w k u hready hservice hlock hkey hwrap hexport hadmit
    exact next_mailboxCommand hready (keyExportOp_wraps (s := s.begun _ (toLE 4 h.toNat ++ toLE 4 w.toNat)) (by simpa using hservice)
      (by simpa using State.ringLocked_of_no_lock hlock) hkey hwrap hexport (by simpa using hadmit))
  case attr =>
    intro s h k hready hservice hlock hkey
    exact next_mailboxCommand hready (keyAttrReadOp_reads (s := s.begun _ (toLE 4 h.toNat)) (by simpa using hservice)
      (by simpa using State.ringLocked_of_no_lock hlock) hkey)
  case noAttr =>
    intro s h hready hservice hlock hnone
    exact next_mailboxCommand hready (keyAttrReadOp_of_no_record (s := s.begun _ (toLE 4 h.toNat)) (by simpa using hservice)
      (by simpa using State.ringLocked_of_no_lock hlock) hnone)

end Sys2Proof.Machine
end

section
/-! SUPPORT. What the hooks of the subsystems that RECOVERY takes down leave as it is (R62, R72). -/
namespace Sys2Proof.Machine

open Sys2Proof

/-! ## What goes with the subsystems that RECOVERY takes down (R62) -/

/-- What the work of the air and its sessions leaves: the keys, the pilot, the vault, the tag, the NOR and the reader. -/
def State.offAir (s : State) : Keys × Pilot × Vault × Tag × Nor × Nfc := (s.keys, s.pilot, s.vault, s.tag, s.nor, s.nfc)

theorem State.put_offAir (s : State) (f : Field) (v : Nat) : (s.put f v).offAir = s.offAir := (rfl)
theorem State.setHold_offAir (s : State) (h : Option Hold) : (s.setHold h).offAir = s.offAir := (rfl)
theorem State.dropQueued_offAir (s : State) : s.dropQueued.offAir = s.offAir := (rfl)
theorem State.refreshRng_offAir (s : State) : s.refreshRng.offAir = s.offAir := (rfl)
theorem State.dropExchange_offAir (s : State) (n : Nat) : (s.dropExchange n).offAir = s.offAir := (rfl)
theorem State.commitPoint_offAir (s : State) : s.commitPoint.offAir = s.offAir := (rfl)
theorem State.updSess_offAir (s : State) (n : Nat) (f : Sess → Sess) : (s.updSess n f).offAir = s.offAir := (rfl)
theorem State.setPulse_offAir (s : State) (n : Nat) (p : Pulse) : (s.setPulse n p).offAir = s.offAir := (rfl)
theorem State.setVote_offAir (s : State) (c i : Nat) (b : Bool) : (s.setVote c i b).offAir = s.offAir := (rfl)

theorem State.dropSess_offAir (s : State) (n : Nat) : (s.dropSess n).offAir = s.offAir := by
  rw [State.dropSess, State.refreshRng_offAir]
  rfl

theorem foldl_same {β γ : Type} {f : State → β → State} (p : State → γ) (hf : ∀ (u : State) (x : β), p (f u x) = p u)
    (s : State) (l : List β) : p (l.foldl f s) = p s := by
  induction l generalizing s with
  | nil => rfl
  | cons x l ih => exact (ih (f s x)).trans (hf s x)

theorem State.endTest_offAir (s : State) : s.endTest.offAir = s.offAir := by
  unfold State.endTest
  split <;> rfl

theorem State.stopPulse_offAir (s : State) (n : Nat) : (s.stopPulse n).offAir = s.offAir := by
  unfold State.stopPulse
  dsimp only
  split
  · exact (State.setPulse_offAir _ n _).trans rfl
  · exact ((State.setVote_offAir _ 6 13 false).trans (State.setPulse_offAir _ n _)).trans rfl

theorem State.abortExchange_offAir (s : State) : s.abortExchange.offAir = s.offAir := by
  unfold State.abortExchange
  split
  · rfl
  · exact (State.commitPoint_offAir _).trans ((State.put_offAir _ _ 1).trans ((State.dropExchange_offAir _ _).trans (State.updSess_offAir _ _ _)))

theorem State.rfIdle_offAir (s : State) : s.rfIdle.offAir = s.offAir := by
  unfold State.rfIdle
  repeat' split
  all_goals rfl

theorem State.dropOnAir_offAir (s : State) : s.dropOnAir.offAir = s.offAir := by
  unfold State.dropOnAir
  split
  · split
    · rfl
    · exact (State.rfIdle_offAir _).trans rfl
  · rfl

theorem State.restartRequests_offAir (s : State) (ids : List Nat) : (s.restartRequests ids).offAir = s.offAir := by
  have hdrop := foldl_same State.offAir (fun u (x : Sess) => State.dropSess_offAir u x.number) s (s.rng.sessions.filter (fun x => ids.contains x.req))
  have hair (u : State) : (((u.setHold none).dropQueued).dropOnAir).offAir = u.offAir :=
    (State.dropOnAir_offAir _).trans ((State.dropQueued_offAir _).trans (State.setHold_offAir u none))
  have hnext (u : State) (lf : Lf) (tok : Tok) (sto : Storage) : ({ u with lf := lf, tok := tok, sto := sto } : State).refreshRng.offAir = u.offAir :=
    (State.refreshRng_offAir _).trans rfl
  rw [State.restartRequests]
  refine (hnext _ _ _ _).trans ?_
  split_ifs
  · exact (hair _).trans hdrop
  · exact hdrop

theorem State.dueTakeover_offAir (s : State) : s.dueTakeover.offAir = s.offAir := by
  unfold State.dueTakeover
  split
  · exact (State.restartRequests_offAir _ _).trans rfl
  · rfl

theorem State.readerStop_of_none {s : State} (h : s.nfc.detection = none) : s.readerStop = s := by rw [State.readerStop, h]

theorem State.nfc_of_offAir {s t : State} (h : t.offAir = s.offAir) : t.nfc = s.nfc := congrArg (fun x => x.2.2.2.2.2) h

/-- The hooks of a state in which no card is before the reader. What a reader would still end is the one work that goes beyond the air. -/
theorem State.downHook_offAir {s : State} (h : s.nfc.detection = none) (u : Subsys) : (s.downHook u).offAir = s.offAir := by
  cases u with
  | rf =>
    have hair (w : State) : (w.endTest.putFlag F.RF_STAT_CAL_BUSY false).offAir = w.offAir := (State.put_offAir _ _ _).trans (State.endTest_offAir w)
    rw [State.downHook, State.readerStop_of_none (by rw [State.nfc_of_offAir (hair _)]; exact h)]
    exact (State.dueTakeover_offAir _).trans ((hair _).trans rfl)
  | rng => exact (State.refreshRng_offAir _).trans (State.abortExchange_offAir s)
  | tim => exact foldl_same State.offAir (fun u n => State.stopPulse_offAir u n) s _
  | nfc => rw [State.downHook, State.readerStop_of_none h]
  | _ => rfl

theorem State.downHooks_offAir {s : State} (h : s.nfc.detection = none) (old : State) : (old.downHooks s).offAir = s.offAir := by
  have hfold : ∀ (l : List Subsys) (t : State), t.offAir = s.offAir →
      (l.foldl (fun (t : State) u => if old.enabled u && !s.enabled u then t.downHook u else t) t).offAir = s.offAir := by
    intro l
    induction l with
    | nil => exact fun t ht => ht
    | cons u l ih =>
      intro t ht
      refine ih _ ?_
      dsimp only
      split
      · exact (State.downHook_offAir (by rw [State.nfc_of_offAir ht]; exact h) u).trans ht
      · exact ht
  exact hfold phaseNine s rfl

end Sys2Proof.Machine
end

section
/-! SUPPORT. A T3 alarm: latched, answered by zeroisation and the next epoch blow, and followed by RECOVERY (R286 to R290). -/
namespace Sys2Proof.Machine

open Sys2Proof

/-! ## An alarm latched (R286, R289) -/

theorem State.monitorTrips_vault (s : State) (code : Nat) : (s.monitorTrips code).vault = s.vault := by
  unfold State.monitorTrips
  split <;> rfl

theorem State.monitorTrips_nor (s : State) (code : Nat) : (s.monitorTrips code).nor = s.nor := by
  unfold State.monitorTrips
  split <;> rfl

/-- An alarm of a class with its count and event; of the vault it marks the tamper record alone. -/
theorem State.latchAlarm_vault (s : State) (cls code : Nat) : (s.latchAlarm cls code).vault = { s.vault with tamperSince := true } := by
  have hmark (u : State) (h : u.vault = s.vault) : ({ u.vault with tamperSince := true } : Vault) = { s.vault with tamperSince := true } := by rw [h]
  refine hmark _ ((State.monitorTrips_vault _ code).trans ?_)
  split <;> rfl

theorem State.latchAlarm_nor (s : State) (cls code : Nat) : (s.latchAlarm cls code).nor = s.nor := by
  refine (State.monitorTrips_nor _ code).trans ?_
  split <;> rfl

theorem State.alarmWake_vault (s : State) : s.alarmWake.vault = s.vault := by
  rw [State.alarmWake, apply_ite State.vault, State.raiseVote_vault, State.raiseVote_vault, State.raiseVote_vault, ite_self]

theorem State.alarmWake_nor (s : State) : s.alarmWake.nor = s.nor := by
  rw [State.alarmWake, apply_ite State.nor, State.raiseVote_nor, State.raiseVote_nor, State.raiseVote_nor, ite_self]

/-! ## Cipher requests aborted by an alarm (R249) -/

theorem State.symRespond_vault (s : State) (master : Nat) (keeper mailbox : Bool) (reason : Nat) (resp out : Bytes) :
    (s.symRespond master keeper mailbox reason resp out).vault = s.vault := by
  rw [State.symRespond, apply_ite State.vault, State.finish_vault, ite_self]

theorem State.symRespond_nor (s : State) (master : Nat) (keeper mailbox : Bool) (reason : Nat) (resp out : Bytes) :
    (s.symRespond master keeper mailbox reason resp out).nor = s.nor := by
  rw [State.symRespond, apply_ite State.nor, State.finish_nor, ite_self]

theorem State.wipeReq_vault (s : State) (r : SymReq) : (s.wipeReq r).vault = s.vault := by rw [State.wipeReq_frame]
theorem State.wipeReq_nor (s : State) (r : SymReq) : (s.wipeReq r).nor = s.nor := by rw [State.wipeReq_frame]

theorem State.symTamper_vault (s : State) : s.symTamper.vault = s.vault := by
  rw [State.symTamper, State.event_vault, State.symAbort]
  exact (foldl_same State.vault (fun u r => (State.symRespond_vault ..).trans (u.wipeReq_vault r)) _ _).trans rfl

theorem State.symTamper_nor (s : State) : s.symTamper.nor = s.nor := by
  rw [State.symTamper, State.event_nor, State.symAbort]
  exact (foldl_same State.nor (fun u r => (State.symRespond_nor ..).trans (u.wipeReq_nor r)) _ _).trans rfl

/-! ## The T3 response (R289, R290) -/

/-- What a T3 alarm leaves behind: the blow it starts, its mark, the keys and credentials, the tag's secrets, what stays of the vault. -/
def State.zeroised (s : State) :
    Option Blow × Bool × Option Generation × List Slot × Nat × Bytes × Option Bytes × Option Bytes × Nor × Fuses :=
  (s.keys.blow, s.pilot.t3Active, s.vault.keyring, s.vault.slots, s.vault.deviceTag, s.vault.chain, s.tag.password, s.tag.key, s.nor, s.fuses)

theorem State.zeroised_of_offAir {s t : State} (h : t.offAir = s.offAir) (hfuses : t.fuses = s.fuses) : t.zeroised = s.zeroised := by
  obtain ⟨hkeys, hpilot, hvault, htag, hnor, -⟩ : t.keys = s.keys ∧ t.pilot = s.pilot ∧ t.vault = s.vault ∧ t.tag = s.tag ∧ t.nor = s.nor
      ∧ t.nfc = s.nfc := by simpa [State.offAir] using h
  rw [State.zeroised, hkeys, hpilot, hvault, htag, hnor, hfuses, State.zeroised]

theorem State.statusCopy_secrets (s : State) : s.statusCopy.tag.password = s.tag.password ∧ s.statusCopy.tag.key = s.tag.key := by
  unfold State.statusCopy
  split
  · exact ⟨rfl, rfl⟩
  · split
    · exact ⟨rfl, rfl⟩
    · constructor <;> simp only [State.tagPut]

theorem State.firstReady_t3Active (s : State) : s.firstReady.pilot.t3Active = s.pilot.t3Active := by
  unfold State.firstReady
  split <;> rfl

theorem State.refresh_t3Active (s : State) : s.refresh.pilot.t3Active = s.pilot.t3Active := by
  unfold State.refresh
  dsimp only
  rw [apply_ite State.pilot, State.statusCopy_pilot, ite_self]
  split
  · refine (State.firstReady_t3Active _).trans ?_
    split_ifs <;> rfl
  · split_ifs <;> rfl

theorem State.refresh_secrets (s : State) : s.refresh.tag.password = s.tag.password ∧ s.refresh.tag.key = s.tag.key := by
  have hcopied (c : Bool) (u : State) (h : u.tag = s.tag) : (if c then u.statusCopy else u).tag.password = s.tag.password
      ∧ (if c then u.statusCopy else u).tag.key = s.tag.key := by
    obtain ⟨hpassword, hkey⟩ := u.statusCopy_secrets
    rw [h] at hpassword hkey
    cases c
    · exact ⟨congrArg Tag.password h, congrArg Tag.key h⟩
    · exact ⟨hpassword, hkey⟩
  unfold State.refresh
  refine hcopied _ _ ?_
  rw [apply_ite State.tag, State.firstReady_tag, ite_self]
  split_ifs <;> rfl

theorem State.refresh_zeroised (s : State) : s.refresh.zeroised = s.zeroised := by
  obtain ⟨n, hvault⟩ := s.refresh_floor
  obtain ⟨hpassword, hkey⟩ : s.refresh.tag.password = s.tag.password ∧ s.refresh.tag.key = s.tag.key := s.refresh_secrets
  rw [State.zeroised, State.refresh_keys, State.refresh_t3Active, hvault, hpassword, hkey, State.refresh_nor, State.refresh_fuses, State.zeroised]

theorem State.finish_zeroised (s : State) (reason : Nat) (out : Bytes) : (s.finish reason out).zeroised = s.zeroised := by
  rw [State.zeroised, State.finish_keys, State.finish_pilot, State.finish_vault, State.finish_tag, State.finish_nor,
    State.finish_fuses, State.zeroised]

/-- RECOVERY with its registers, before READY and the maps follow. -/
def State.recoveryShown (s : State) (c : RecCause) (code : Nat) : State :=
  (((({ s with sys := { s.sys with cause := some c, recPt := s.pilot.pt.toNat, checks := [], held := [] } } : State).setReg R.SYS_EN_MAP 0).setPhase
    0xF).put F.SYS_START_START_REASON code).setReg R.REL_STAT 0

/-- What RECOVERY ends of the token paths, the air and the release. -/
def State.pathsEnded (s : State) : State :=
  { s with
      tok := { Tok.reset with lost := s.tok.lost || s.tok.learn.isSome }
      lf := { s.lf with hold := none, queue := [] }
      rng := { s.rng with sessions := [], onAir := none }
      net := { s.net with jobs := [] }
      rel := .reset
      nfc := { s.nfc with detection := none } }

theorem State.enterRecovery_eq (s : State) (c : RecCause) (code : Nat) :
    s.enterRecovery c code = (s.recoveryShown c code).pathsEnded.refreshKeyStat.refresh := (rfl)

theorem State.recoveryShown_zeroised (s : State) (c : RecCause) (code : Nat) : (s.recoveryShown c code).zeroised = s.zeroised := (rfl)
theorem State.pathsEnded_zeroised (s : State) : s.pathsEnded.zeroised = s.zeroised := (rfl)
theorem State.refreshKeyStat_zeroised (s : State) : s.refreshKeyStat.zeroised = s.zeroised := (rfl)

theorem State.enterRecovery_zeroised (s : State) (c : RecCause) (code : Nat) : (s.enterRecovery c code).zeroised = s.zeroised := by
  rw [State.enterRecovery_eq, State.refresh_zeroised, State.refreshKeyStat_zeroised, State.pathsEnded_zeroised, State.recoveryShown_zeroised]

theorem State.enterRecovery_detection (s : State) (c : RecCause) (code : Nat) : (s.enterRecovery c code).nfc.detection = none := by
  rw [State.enterRecovery_eq, State.refresh_nfc]
  rfl

theorem State.refreshKeyStat_keeps (s : State) : keepsRegs s s.refreshKeyStat [R.KEY_STAT] :=
  keepsRegs_put (keepsRegs_put (keepsRegs_put (keepsRegs_refl s _) (by decide) _) (by decide) _) (by decide) _

theorem State.recoveryShown_regs (s : State) (c : RecCause) {code : Nat} (hcode : code < 2 ^ 16) :
    (s.recoveryShown c code).phase = 0xF ∧ (s.recoveryShown c code).reg R.SYS_EN_MAP = 0
      ∧ (s.recoveryShown c code).get F.SYS_START_START_REASON = code := by
  have hphase (u : State) : (((u.setPhase 0xF).put F.SYS_START_START_REASON code).setReg R.REL_STAT 0).phase = 0xF :=
    (State.get_setReg_other _ (by decide) 0).trans ((State.get_put_apart _ _ _ code (by decide) (by decide) (by decide)).trans
      (u.setPhase_phase (by decide)))
  have hmap (u : State) : ((((u.setReg R.SYS_EN_MAP 0).setPhase 0xF).put F.SYS_START_START_REASON code).setReg R.REL_STAT 0).reg R.SYS_EN_MAP = 0 :=
    (State.reg_setReg_other _ (by decide) 0).trans ((State.reg_put_other _ (by decide) code).trans ((State.setPhase_enMap _ _).trans
      (State.reg_setReg_same u R.SYS_EN_MAP 0)))
  have hreason (u : State) : ((u.put F.SYS_START_START_REASON code).setReg R.REL_STAT 0).get F.SYS_START_START_REASON = code :=
    (State.get_setReg_other _ (by decide) 0).trans ((u.get_put_same _ code (by decide) (by decide)).trans (Nat.mod_eq_of_lt hcode))
  exact ⟨hphase _, hmap _, hreason _⟩

theorem State.pathsEnded_shown_reg (s : State) {off : Nat} (h : off ∉ [R.KEY_STAT]) : s.pathsEnded.refreshKeyStat.reg off = s.reg off :=
  s.pathsEnded.refreshKeyStat_keeps off h

theorem State.refresh_startReason (s : State) : s.refresh.get F.SYS_START_START_REASON = s.get F.SYS_START_START_REASON :=
  s.refresh_keeps _ (by decide) (by decide)

theorem State.enterRecovery_regs (s : State) (c : RecCause) {code : Nat} (hcode : code < 2 ^ 16) :
    (s.enterRecovery c code).phase = 0xF ∧ (s.enterRecovery c code).reg R.SYS_EN_MAP = 0
      ∧ (s.enterRecovery c code).get F.SYS_START_START_REASON = code := by
  obtain ⟨hphase, hmap, hreason⟩ := s.recoveryShown_regs c hcode
  rw [State.enterRecovery_eq, State.refresh_phase, State.refresh_enMap, State.refresh_startReason]
  generalize s.recoveryShown c code = u at *
  exact ⟨(State.get_of_reg (u.pathsEnded_shown_reg (by decide))).trans hphase, (u.pathsEnded_shown_reg (by decide)).trans hmap,
    (State.get_of_reg (u.pathsEnded_shown_reg (by decide))).trans hreason⟩

/-- The blow begun, the alarm's mark, its entry for later, and the tag's secrets gone. -/
def State.t3Begun (s : State) (blow : Blow) (entry : JLatched) : State :=
  { s with
    pilot := { s.pilot with t3Active := true }
    keys := { s.keys with blow := some blow, blowReset := false, blowOp := none, challenge := none, lockEnd := none }
    vault := { s.vault with tamperDue := s.vault.tamperDue ++ [entry] }
    tag := { s.tag with password := none, key := none, pwdFail := 0, keyFail := 0 } }

theorem State.t3Begun_zeroised (s : State) (blow : Blow) (entry : JLatched) : (s.t3Begun blow entry).zeroised
    = (some blow, true, s.vault.keyring, s.vault.slots, s.vault.deviceTag, s.vault.chain, none, none, s.nor, s.fuses) := (rfl)

/-- Before the epoch 15 the next epoch fuse begins to blow. -/
theorem State.t3Respond_eq {s : State} (hepoch : s.fuses.epochNo < 15) (code : Nat) (cause : RecCause) :
    ∃ entry, s.t3Respond code cause = ((s.symTamper.zeroise.t3Begun .epoch entry).finish 0x0A15 []).enterRecovery cause code := by
  have hlast : decide (s.fuses.epochNo = 15) = false := decide_eq_false (Nat.ne_of_lt hepoch)
  rw [State.t3Respond, hlast]
  exact ⟨_, rfl⟩

theorem State.t3Respond_zeroised {s : State} (hepoch : s.fuses.epochNo < 15) (code : Nat) (cause : RecCause) :
    (s.t3Respond code cause).zeroised
      = (some .epoch, true, none, List.replicate 64 .empty, s.vault.deviceTag, s.vault.chain, none, none, s.nor, s.fuses) := by
  obtain ⟨hvault, -, -, -, hframe⟩ := s.symTamper.zeroise_spec
  have hnor : s.symTamper.zeroise.nor = s.nor := (congrArg State.nor hframe).trans s.symTamper_nor
  have hfuses : s.symTamper.zeroise.fuses = s.fuses := (congrArg State.fuses hframe).trans s.symTamper_fuses
  rw [State.symTamper_vault] at hvault
  obtain ⟨entry, hrun⟩ := State.t3Respond_eq hepoch code cause
  rw [hrun, State.enterRecovery_zeroised, State.finish_zeroised, State.t3Begun_zeroised, hvault, hnor, hfuses]

theorem t3Alarm_recovers {s : State} (harmed : s.armed = true) (hactive : s.pilot.t3Active = false) (hwait : s.keys.alarmWait = none)
    (hblow : s.keys.blow = none) (h0 : s.lifecycle ≠ 0) (h5 : s.lifecycle ≠ 5) :
    t3Alarm .lampshade s = s.downHooks (((s.latchAlarm 3 0x0F05).alarmWake).t3Respond 0x0F05 s.t3Cause) := by
  simp only [t3Alarm, harmed, State.t3, hactive, hwait, hblow, h0, h5, Bool.not_true, Bool.or_self, Option.isSome_none, decide_false,
    Bool.false_eq_true, if_false]

/-- What a T3 alarm comes to, once the hooks of the subsystems it takes down have run. -/
theorem t3Alarm_spec {s : State} (harmed : s.armed = true) (hactive : s.pilot.t3Active = false) (hwait : s.keys.alarmWait = none)
    (hblow : s.keys.blow = none) (h0 : s.lifecycle ≠ 0) (h5 : s.lifecycle ≠ 5) (hepoch : s.fuses.epochNo < 15) :
    (t3Alarm .lampshade s).zeroised
        = (some .epoch, true, none, List.replicate 64 .empty, s.vault.deviceTag, s.vault.chain, none, none, s.nor, s.fuses)
      ∧ (t3Alarm .lampshade s).phase = 0xF ∧ (t3Alarm .lampshade s).reg R.SYS_EN_MAP = 0
      ∧ (t3Alarm .lampshade s).get F.SYS_START_START_REASON = 0x0F05 := by
  rw [t3Alarm_recovers harmed hactive hwait hblow h0 h5]
  have hwoken : ((s.latchAlarm 3 0x0F05).alarmWake).fuses = s.fuses := by rw [State.alarmWake_fuses, State.latchAlarm_fuses]
  have hleft := State.t3Respond_zeroised (s := (s.latchAlarm 3 0x0F05).alarmWake) (by rw [hwoken]; exact hepoch) 0x0F05 s.t3Cause
  rw [hwoken, State.alarmWake_vault, State.alarmWake_nor, State.latchAlarm_vault, State.latchAlarm_nor] at hleft
  obtain ⟨entry, hrun⟩ := State.t3Respond_eq (s := (s.latchAlarm 3 0x0F05).alarmWake) (by rw [hwoken]; exact hepoch) 0x0F05 s.t3Cause
  obtain ⟨hphase, hmap, hreason⟩ := State.enterRecovery_regs
    ((((s.latchAlarm 3 0x0F05).alarmWake).symTamper.zeroise.t3Begun .epoch entry).finish 0x0A15 []) s.t3Cause (code := 0x0F05) (by decide)
  have hcard := State.enterRecovery_detection
    ((((s.latchAlarm 3 0x0F05).alarmWake).symTamper.zeroise.t3Begun .epoch entry).finish 0x0A15 []) s.t3Cause 0x0F05
  rw [← hrun] at hphase hmap hreason hcard
  generalize ((s.latchAlarm 3 0x0F05).alarmWake).t3Respond 0x0F05 s.t3Cause = u at *
  obtain ⟨hregs, -, -, hfuses, -⟩ := (State.sysKept_refl u).downHooks s
  exact ⟨(State.zeroised_of_offAir (State.downHooks_offAir hcard s) hfuses).trans hleft, (State.get_of_reg (hregs _ (by decide))).trans hphase,
    (hregs _ (by decide)).trans hmap, (State.get_of_reg (hregs _ (by decide))).trans hreason⟩

end Sys2Proof.Machine
end

section
/-! SUPPORT. The generation of the keyring stays in force through what a T1 or T2 response ends (R288). -/
namespace Sys2Proof.Machine

open Sys2Proof

/-! ## The keyring through a T1 response (R288) -/

@[simp] theorem State.restoreFor_keyring (s : State) (i : Nat) : (s.restoreFor i).vault.keyring = s.vault.keyring := by
  simp [State.restoreFor, apply_ite State.vault]

@[simp] theorem State.retireSpent_keyring (s : State) (path n : Nat) : (s.retireSpent path n).vault.keyring = s.vault.keyring := by
  simp only [State.retireSpent]
  split
  · simp only [State.journal_keyring, State.event_vault, State.setSlot]
  · rfl

@[simp] theorem State.setHold_keyring (s : State) (h : Option Hold) : (s.setHold h).vault.keyring = s.vault.keyring := (rfl)

@[simp] theorem State.releaseIdle_keyring (s : State) : s.releaseIdle.vault.keyring = s.vault.keyring := by
  simp [State.releaseIdle, State.withdrawVote_vault, apply_ite State.vault]

@[simp] theorem State.nextSeq_keyring (s : State) : s.nextSeq.1.vault.keyring = s.vault.keyring := (rfl)

@[simp] theorem State.sendRoleTo_keyring (s : State) (r mac : Nat) (msg : Bytes) : (s.sendRoleTo r mac msg).vault.keyring = s.vault.keyring := by
  simp [State.sendRoleTo, apply_ite State.vault]

@[simp] theorem State.sendRole_keyring (s : State) (r : Nat) (msg : Bytes) : (s.sendRole r msg).vault.keyring = s.vault.keyring := by
  simp [State.sendRole]

@[simp] theorem State.sendGrants_keyring (s : State) (st : RelStart) : (s.sendGrants st).vault.keyring = s.vault.keyring := by
  refine (foldl_same (fun t => t.vault.keyring) (fun t r => ?_) _ _).trans rfl
  split <;> simp

@[simp] theorem State.journalRel_keyring (s : State) (action code profile reason flags : Nat) :
    (s.journalRel action code profile reason flags).vault.keyring = s.vault.keyring := State.journal_keyring ..

@[simp] theorem State.relLast_keyring (s : State) (action code reason : Nat) : (s.relLast action code reason).vault.keyring = s.vault.keyring := (rfl)
@[simp] theorem State.relRefuse_keyring (s : State) (code reason : Nat) : (s.relRefuse code reason).vault.keyring = s.vault.keyring := (rfl)

@[simp] theorem State.setStart_keyring (s : State) (x : Option RelStart) : (s.setStart x).vault.keyring = s.vault.keyring := by
  simp [State.setStart, apply_ite State.vault]

@[simp] theorem State.endGrant_keyring (s : State) (ok : Bool) (code slot : Nat) : (s.endGrant ok code slot).vault.keyring = s.vault.keyring := by
  simp [State.endGrant, apply_ite State.vault, apply_ite Vault.keyring]

@[simp] theorem State.grantStep_keyring (s : State) (st : RelStart) : (s.grantStep st).vault.keyring = s.vault.keyring := by
  simp [State.grantStep, apply_ite State.vault, apply_ite Vault.keyring]

@[simp] theorem State.startRelease_keyring (s : State) (code path : Nat) (o : TokOut) (profile : Nat) :
    (s.startRelease code path o profile).vault.keyring = s.vault.keyring := by
  simp only [State.startRelease]
  (repeat' split) <;> simp

@[simp] theorem State.decide_keyring (s : State) (action code slot : Nat) : (s.decide_ action code slot).vault.keyring = s.vault.keyring := by
  simp -implicitDefEqProofs [State.decide_, apply_ite State.vault]

@[simp] theorem State.rkeOut_keyring (s : State) (slot action reason : Nat) : (s.rkeOut slot action reason).vault.keyring = s.vault.keyring := by
  simp [State.rkeOut, apply_ite State.vault, apply_ite Vault.keyring]

@[simp] theorem State.confirmOut_keyring (s : State) (slot action : Nat) (out : Nat × Nat) :
    (s.confirmOut slot action out).vault.keyring = s.vault.keyring := by
  simp only [State.confirmOut]
  (repeat' split) <;> simp

@[simp] theorem State.performRequest_keyring (s : State) (rq : Request) : (s.performRequest rq).vault.keyring = s.vault.keyring := by
  simp only [State.performRequest, State.decideStart]
  (repeat' split) <;> simp

@[simp] theorem State.concludeRequest_keyring (s : State) (id reason : Nat) : (s.concludeRequest id reason).vault.keyring = s.vault.keyring := by
  simp only [State.concludeRequest]
  (repeat' split) <;> simp

@[simp] theorem State.updRequest_keyring (s : State) (id : Nat) (f : Request → Request) : (s.updRequest id f).vault.keyring = s.vault.keyring := by
  simp [State.updRequest]

@[simp] theorem State.closeRequest_keyring (s : State) (id reason : Nat) : (s.closeRequest id reason).vault.keyring = s.vault.keyring := by
  simp [State.closeRequest]

@[simp] theorem State.restartRequests_keyring (s : State) (ids : List Nat) : (s.restartRequests ids).vault.keyring = s.vault.keyring := by
  obtain ⟨-, -, -, hvault, -⟩ := s.sessionWork_restartRequests ids
  rw [hvault]

@[simp] theorem State.tokSent_keyring (s : State) (b : Bytes) : (s.tokSent b).vault.keyring = s.vault.keyring := (rfl)

@[simp] theorem State.setLearn_keyring (s : State) (l : Option Learn) : (s.setLearn l).vault.keyring = s.vault.keyring := by
  simp only [State.setLearn, State.showLearn]
  (repeat' split) <;> simp

@[simp] theorem State.refreshKeys_keyring (s : State) : s.refreshKeys.vault.keyring = s.vault.keyring := by
  simp only [State.refreshKeys]
  (repeat' split) <;> simp

@[simp] theorem State.endLearnCard_keyring (s : State) : s.endLearnCard.vault.keyring = s.vault.keyring := by
  simp [State.endLearnCard, State.withdrawVote_vault, apply_ite State.vault]

@[simp] theorem State.dropLearn_keyring (s : State) : s.dropLearn.vault.keyring = s.vault.keyring := by
  simp [State.dropLearn, apply_ite State.vault, apply_ite Vault.keyring]

@[simp] theorem State.endDetection_keyring (s : State) (code : Nat) : (s.endDetection code).vault.keyring = s.vault.keyring := by
  simp only [State.endDetection]
  (repeat' split) <;> simp -implicitDefEqProofs [State.withdrawVote_vault]

@[simp] theorem State.selectCard_keyring (s : State) (d : Detection) : (s.selectCard d).vault.keyring = s.vault.keyring := by
  simp only [State.selectCard]
  (repeat' split) <;> simp [State.fresh, State.generated_vault]

@[simp] theorem State.readerRestart_keyring (s : State) : s.readerRestart.vault.keyring = s.vault.keyring := by
  simp only [State.readerRestart]
  (repeat' split) <;> simp

@[simp] theorem State.dropPairing_keyring (s : State) : s.dropPairing.vault.keyring = s.vault.keyring := by
  simp [State.dropPairing, apply_ite State.vault, apply_ite Vault.keyring]

end Sys2Proof.Machine
end

section
/-! SUPPORT. The registers of an alarm, and the T1 and T2 responses (R286 to R289). -/
namespace Sys2Proof.Machine

open Sys2Proof

/-! ## The registers of an alarm (Table 10-7) -/

/-- The registers in which an alarm shows. -/
def alarmRegs : List Nat :=
  [R.TAM_LAST, R.TAM_LAST_PT, R.TAM_LAST_MT, R.TAM_STAT, F.TAM_EVT_T1.off, F.TAM_CNT_T1.off, F.TAM_CNT_T2.off, F.TAM_CNT_T3.off,
    F.TAM_REASON_REASON.off]

/-- The registers that the monitors' flags and the escalation are in. -/
def monitorRegs : List Nat := [R.TAM_STAT, F.TAM_EVT_ESCALATED.off]

theorem State.monitorTrips_keeps (s : State) (code : Nat) : keepsRegs s (s.monitorTrips code) monitorRegs := by
  unfold State.monitorTrips
  split
  case h_8 => exact keepsRegs_refl s _
  all_goals exact keepsRegs_put (keepsRegs_refl s _) (by decide) _

theorem State.monitorTrips_t1 (s : State) (code : Nat) : (s.monitorTrips code).get F.TAM_EVT_T1 = s.get F.TAM_EVT_T1 := by
  unfold State.monitorTrips
  split
  case h_8 => rfl
  all_goals exact State.get_put_apart s _ _ _ (by decide) (by decide) (by decide)

/-- The last alarm's class, PT and MT (TAM_LAST). -/
def State.alarmNoted (s : State) (cls code : Nat) : State :=
  ((s.setReg R.TAM_LAST (code * 0x10000 + cls * 0x100 + bit (s.island (1 + s.activePair) == 0))).setReg R.TAM_LAST_PT s.pilot.pt.toNat).setReg
    R.TAM_LAST_MT (s.mt % 2 ^ 32)

theorem State.alarmNoted_keeps (s : State) (cls code : Nat) : keepsRegs s (s.alarmNoted cls code) alarmRegs :=
  keepsRegs_setReg (keepsRegs_setReg (keepsRegs_setReg (keepsRegs_refl s _) (by decide) _) (by decide) _) (by decide) _

theorem State.latchAlarm_keeps (s : State) (cls code : Nat) : keepsRegs s (s.latchAlarm cls code) alarmRegs := by
  have hend (u : State) (h : keepsRegs s u alarmRegs) : keepsRegs s ((u.monitorTrips code).reason .tam code) alarmRegs :=
    keepsRegs_put (h.trans fun off ho => u.monitorTrips_keeps code off fun hm => ho ((by decide : ∀ m ∈ monitorRegs, m ∈ alarmRegs) off hm))
      (by decide) _
  have hnoted := s.alarmNoted_keeps cls code
  unfold State.latchAlarm
  refine (hend _ ?_ : keepsRegs s _ alarmRegs)
  split
  · exact keepsRegs_put (keepsRegs_put hnoted (f := F.TAM_EVT_T1) (by decide) _) (by decide) _
  · exact keepsRegs_put (keepsRegs_put hnoted (f := F.TAM_EVT_T2) (by decide) _) (by decide) _
  · exact keepsRegs_put (keepsRegs_put hnoted (f := F.TAM_EVT_T3) (by decide) _) (by decide) _

theorem State.latchAlarm_phase (s : State) (cls code : Nat) : (s.latchAlarm cls code).phase = s.phase :=
  State.get_of_reg (s.latchAlarm_keeps cls code _ (by decide))

section
variable (s : State) (code : Nat)

theorem State.latchAlarm_one_regs :
    (s.latchAlarm 1 code).regs = (((((s.alarmNoted 1 code).event F.TAM_EVT_T1).bump F.TAM_CNT_T1).monitorTrips code).reason .tam code).regs := (rfl)

theorem State.alarmCounted_reg {off : Nat} (hoff : off ∉ [F.TAM_EVT_T1.off, F.TAM_CNT_T1.off, R.TAM_STAT, F.TAM_REASON_REASON.off]) (u : State) :
    ((((u.event F.TAM_EVT_T1).bump F.TAM_CNT_T1).monitorTrips code).reason .tam code).reg off = u.reg off := by
  simp only [List.mem_cons, List.not_mem_nil, or_false, not_or] at hoff
  obtain ⟨hevt, hcnt, hstat, hreason⟩ := hoff
  have hmonitor : off ∉ monitorRegs := by simpa [monitorRegs] using ⟨hstat, hevt⟩
  exact (State.reg_put_other _ hreason _).trans ((State.monitorTrips_keeps _ code off hmonitor).trans
    ((State.reg_put_other _ hcnt _).trans (State.reg_put_other u hevt 1)))

/-- What the latching of a T1 alarm shows. -/
theorem State.latchAlarm_one (hcode : code < 65536) :
    (s.latchAlarm 1 code).get F.TAM_EVT_T1 = 1 ∧ (s.latchAlarm 1 code).reg R.TAM_LAST_PT = s.pilot.pt.toNat
      ∧ (s.latchAlarm 1 code).reg R.TAM_LAST_MT = s.mt % 2 ^ 32 ∧ (s.latchAlarm 1 code).get F.TAM_REASON_REASON = code
      ∧ (s.latchAlarm 1 code).get F.TAM_CNT_T1 = min (s.get F.TAM_CNT_T1 + 1) (2 ^ (F.TAM_CNT_T1.hi + 1 - F.TAM_CNT_T1.lo) - 1) := by
  have hregs := s.latchAlarm_one_regs code
  have hcounted (u : State) : ((u.monitorTrips code).reason .tam code).get F.TAM_CNT_T1 = u.get F.TAM_CNT_T1 :=
    State.get_of_reg ((State.reg_put_other _ (by decide) code).trans (u.monitorTrips_keeps code _ (by decide)))
  refine ⟨(State.get_of_regs hregs _).trans ?_, (State.reg_of_regs hregs _).trans ?_, (State.reg_of_regs hregs _).trans ?_,
    (State.get_of_regs hregs _).trans ?_, (State.get_of_regs hregs _).trans ?_⟩
  · have hcount (u : State) : (u.bump F.TAM_CNT_T1).get F.TAM_EVT_T1 = u.get F.TAM_EVT_T1 := State.get_of_reg (State.reg_put_other u (by decide) _)
    have hreason (u : State) : (u.reason .tam code).get F.TAM_EVT_T1 = u.get F.TAM_EVT_T1 := State.get_of_reg (State.reg_put_other u (by decide) _)
    rw [hreason, State.monitorTrips_t1, hcount]
    exact State.get_put_same _ _ 1 (by decide) (by decide)
  · rw [State.alarmCounted_reg code (by decide)]
    refine (State.reg_setReg_other _ (by decide) _).trans ((State.reg_setReg_same _ _ _).trans (Nat.mod_eq_of_lt s.pilot.pt.isLt))
  · rw [State.alarmCounted_reg code (by decide)]
    exact (State.reg_setReg_same _ _ _).trans (Nat.mod_mod _ _)
  · exact (State.get_put_same _ _ code (by decide) (by decide)).trans (Nat.mod_eq_of_lt hcode)
  · have hnoted : ((s.alarmNoted 1 code).event F.TAM_EVT_T1).get F.TAM_CNT_T1 = s.get F.TAM_CNT_T1 := by
      refine State.get_of_reg ((State.reg_put_other _ (by decide) 1).trans ?_)
      exact (State.reg_setReg_other _ (by decide) _).trans ((State.reg_setReg_other _ (by decide) _).trans (State.reg_setReg_other _ (by decide) _))
    rw [hcounted, State.bump, State.bumpBy, State.get_put_same _ _ _ (by decide) (by decide), hnoted]
    exact Nat.mod_eq_of_lt (Nat.lt_of_le_of_lt (Nat.min_le_right _ _) (Nat.sub_lt (Nat.two_pow_pos _) Nat.one_pos))

end

/-! ## The T1 and T2 responses (R288) -/

theorem State.latchAlarm_mt (s : State) (cls code : Nat) : (s.latchAlarm cls code).mt = s.mt := by
  have hmonitor (u : State) : (u.monitorTrips code).mt = u.mt := by unfold State.monitorTrips; split <;> rfl
  refine (hmonitor _).trans ?_
  split <;> rfl

theorem State.latchAlarm_update (s : State) (cls code : Nat) : (s.latchAlarm cls code).update = s.update := by
  have hmonitor (u : State) : (u.monitorTrips code).update = u.update := by unfold State.monitorTrips; split <;> rfl
  refine (hmonitor _).trans ?_
  split <;> rfl

theorem State.alarmWake_mt (s : State) : s.alarmWake.mt = s.mt := by
  rw [State.alarmWake, apply_ite State.mt, State.raiseVote_mt, State.raiseVote_mt, State.raiseVote_mt, ite_self]

theorem State.alarmWake_update (s : State) : s.alarmWake.update = s.update := by
  rw [State.alarmWake, apply_ite State.update, State.raiseVote_update, State.raiseVote_update, State.raiseVote_update, ite_self]

/-- From phase 6 on an alarm is answered by the response of its class. -/
theorem State.alarm_answered {s : State} (hblow : s.keys.blow = none) (hphase : 6 ≤ s.phase) (cls code : Nat) :
    s.alarm cls code = if cls = 1 then (((s.latchAlarm cls code).alarmEntry cls code).alarmWake).t1Response
      else (((s.latchAlarm cls code).alarmEntry cls code).alarmWake).t2Response := by
  have hlate : (decide (1 ≤ (s.latchAlarm cls code).phase) && decide ((s.latchAlarm cls code).phase ≤ 5)) = false := by
    rw [State.latchAlarm_phase, decide_eq_false (by omega : ¬ s.phase ≤ 5), Bool.and_false]
  rw [State.alarm, hblow, State.alarmRespond, hlate]
  rfl

theorem State.symTamper_update (s : State) : s.symTamper.update = s.update := by
  have hrespond (u : State) (master : Nat) (keeper mailbox : Bool) (reason : Nat) (resp out : Bytes) :
      (u.symRespond master keeper mailbox reason resp out).update = u.update := by
    rw [State.symRespond, apply_ite State.update, State.finish_update, ite_self]
  rw [State.symTamper, State.event_update, State.symAbort]
  exact (foldl_same State.update (fun u r => (hrespond ..).trans (u.wipeReq_pairKept r).update_eq) _ _).trans rfl

theorem State.dropLearn_update (s : State) : s.dropLearn.update = s.update := by
  unfold State.dropLearn
  dsimp only
  rw [State.event_update, (State.refreshKeys_pairKept _).update_eq, (State.setLearn_pairKept _ _).update_eq, apply_ite State.update,
    (State.setHold_pairKept _ _).update_eq, ite_self]
  exact s.endLearnCard_pairKept.update_eq

/-- The response in its order: the key command ends, learning and pairing are dropped, the ciphers abort, sessions and reader begin again. -/
theorem State.t1Response_eq (s : State) : ∃ u, (u = s ∨ u = s.finish 0x0A15 [])
    ∧ s.t1Response = ((((if u.tok.learn.isSome then u.dropLearn else u).dropPairing).symTamper.restartSessions).readerRestart) := by
  unfold State.t1Response
  by_cases h : s.keyCommandRuns = true
  · exact ⟨_, .inr rfl, by rw [if_pos h]⟩
  · exact ⟨_, .inl rfl, by rw [if_neg h]⟩

theorem State.t1Response_keyring (s : State) : s.t1Response.vault.keyring = s.vault.keyring := by
  obtain ⟨u, hu, hrun⟩ := s.t1Response_eq
  have hfinished : u.vault.keyring = s.vault.keyring := by
    obtain rfl | rfl := hu
    · rfl
    · rw [State.finish_vault]
  rw [hrun, State.readerRestart_keyring, State.restartSessions, State.restartRequests_keyring, State.symTamper_vault, State.dropPairing_keyring,
    apply_ite State.vault, apply_ite Vault.keyring, State.dropLearn_keyring, ite_self, hfinished]

theorem State.t1Response_update (s : State) : s.t1Response.update = s.update := by
  obtain ⟨u, hu, hrun⟩ := s.t1Response_eq
  have hfinished : u.update = s.update := by
    obtain rfl | rfl := hu
    · rfl
    · rw [State.finish_update]
  obtain ⟨-, -, -, -, hsessions⟩ := (State.symTamper (if u.tok.learn.isSome then u.dropLearn else u).dropPairing).sessionWork_restartRequests
    ((State.symTamper (if u.tok.learn.isSome then u.dropLearn else u).dropPairing).tok.requests.map (·.id))
  rw [hrun, (State.readerRestart_pairKept _).update_eq, State.restartSessions, hsessions, State.symTamper_update,
    (State.dropPairing_pairKept _).update_eq, apply_ite State.update, State.dropLearn_update, ite_self, hfinished]

/-- A T2 response locks the keyring and keeps the generation in force. -/
theorem State.t2Response_spec (s : State) :
    s.t2Response.keys.lockEnd = some (s.mt + 10000000) ∧ s.t2Response.get F.KEY_STAT_RING_LOCKED = 1 ∧ s.t2Response.fuses = s.fuses
      ∧ s.t2Response.vault.keyring = s.vault.keyring ∧ s.t2Response.update = s.update := by
  have hlocked (u : State) (x : Nat) : (({ u with keys := { u.keys with lockEnd := some x } } : State).putFlag F.KEY_STAT_RING_LOCKED true).get
      F.KEY_STAT_RING_LOCKED = 1 := State.get_put_same _ _ 1 (by decide) (by decide)
  exact ⟨rfl, hlocked _ _, s.t1Response_fuses, s.t1Response_keyring, s.t1Response_update⟩

theorem State.alarm_two {s : State} (hblow : s.keys.blow = none) (hphase : 6 ≤ s.phase) (code : Nat) :
    (s.alarm 2 code).keys.lockEnd = some (s.mt + 10000000) ∧ (s.alarm 2 code).get F.KEY_STAT_RING_LOCKED = 1
      ∧ (s.alarm 2 code).fuses = s.fuses ∧ (s.alarm 2 code).vault.keyring = s.vault.keyring ∧ (s.alarm 2 code).update = s.update := by
  have hrun := State.alarm_answered hblow hphase 2 code
  rw [if_neg (by decide)] at hrun
  obtain ⟨hlock, hshown, hfuses, hring, hupdate⟩ := (((s.latchAlarm 2 code).alarmEntry 2 code).alarmWake).t2Response_spec
  rw [State.alarmWake_mt, State.alarmEntry, State.journal_mt, State.latchAlarm_mt] at hlock
  rw [State.alarmWake_fuses, State.alarmEntry_fuses, State.latchAlarm_fuses] at hfuses
  rw [State.alarmWake_vault, State.alarmEntry, State.journal_keyring, State.latchAlarm_vault] at hring
  rw [State.alarmWake_update, State.alarmEntry, State.journal_update, State.latchAlarm_update] at hupdate
  rw [hrun]
  exact ⟨hlock, hshown, hfuses, hring, hupdate⟩

end Sys2Proof.Machine
end

section
/-! SUPPORT. The service port (R291), and the alarms and their ends as commands. -/
namespace Sys2Proof.Machine

open Sys2Proof

/-! ## DEBUG votes (R291, Table 14-2) -/

theorem State.setVote_votes_other (s : State) (c : Nat) {i j : Nat} (h : i ≠ j) (b : Bool) : (s.setVote c j b).votes i = s.votes i := by
  refine State.votes_of_reg (State.reg_put_other s ?_ _)
  dsimp only
  omega

/-- A vote set on each of a list of islands. -/
theorem State.votes_foldl_setVote (c : Nat) (b : Bool) {l : List Nat} (hl : l.Nodup) (s : State) {i : Nat} (hi : i ∈ l) :
    (l.foldl (fun t j => t.setVote c j b) s).votes i = setBit (s.votes i) c b % 2 ^ 9 := by
  have hother : ∀ (l : List Nat) (t : State), i ∉ l → (l.foldl (fun t j => t.setVote c j b) t).votes i = t.votes i := by
    intro l
    induction l with
    | nil => exact fun t _ => rfl
    | cons j l ih =>
      intro t h
      obtain ⟨hj, hrest⟩ := not_or.mp fun e => h (List.mem_cons.mpr e)
      exact (ih _ hrest).trans (t.setVote_votes_other c hj b)
  induction l generalizing s with
  | nil => exact absurd hi List.not_mem_nil
  | cons j l ih =>
    obtain ⟨hj, hrest⟩ := List.nodup_cons.mp hl
    rw [List.foldl_cons]
    by_cases h : i = j
    · subst h
      rw [hother l _ hj, State.setVote_votes_same]
    · rw [ih hrest _ ((List.mem_cons.mp hi).resolve_left h), State.setVote_votes_other s c h]

/-- The islands that the service port votes for. -/
def debugIslands : List Nat := [1, 2, 3, 4, 5, 6, 8, 9, 10, 11, 12, 13, 14]

theorem State.debugVotes_votes (s : State) (b : Bool) {i : Nat} (hi : i ∈ debugIslands) : (s.debugVotes b).votes i = setBit (s.votes i) 8 b % 2 ^ 9 :=
  State.votes_foldl_setVote 8 b (l := debugIslands) (by decide) s hi

theorem State.debugVotes_regsOnly (s : State) (b : Bool) : s.debugVotes b = { s with regs := (s.debugVotes b).regs } :=
  State.regsOnly_foldl (fun _ _ => rfl) debugIslands s

theorem State.debugVotes_open (s : State) (b : Bool) : (s.debugVotes b).get F.TAM_STAT_SVC_OPEN = s.get F.TAM_STAT_SVC_OPEN := by
  have hvotes : ∀ i ∈ debugIslands, F.TAM_STAT_SVC_OPEN.off ≠ (F.PWR_VOTEn_CLIENTS i).off := by decide
  have hfold : ∀ (l : List Nat) (t : State), (∀ i ∈ l, F.TAM_STAT_SVC_OPEN.off ≠ (F.PWR_VOTEn_CLIENTS i).off) →
      (l.foldl (fun t i => t.setVote 8 i b) t).get F.TAM_STAT_SVC_OPEN = t.get F.TAM_STAT_SVC_OPEN := by
    intro l
    induction l with
    | nil => exact fun t _ => rfl
    | cons j l ih =>
      intro t h
      obtain ⟨hj, hrest⟩ := List.forall_mem_cons.mp h
      exact (ih _ hrest).trans (State.get_of_reg (State.reg_put_other t hj _))
  exact hfold debugIslands s hvotes

theorem State.votes_lt (s : State) (i : Nat) : s.votes i < 2 ^ 9 := Nat.mod_lt _ (Nat.two_pow_pos 9)

/-- The port open or shut, with its flag and the DEBUG votes. -/
def State.portSet (s : State) (b : Bool) : State :=
  (({ s with pilot := { s.pilot with svcOpen := b } } : State).putFlag F.TAM_STAT_SVC_OPEN b).debugVotes b

theorem State.portSet_spec (s : State) (b : Bool) :
    (s.portSet b).pilot = { s.pilot with svcOpen := b } ∧ (s.portSet b).get F.TAM_STAT_SVC_OPEN = bit b
      ∧ (∀ i ∈ debugIslands, (s.portSet b).votes i = setBit (s.votes i) 8 b % 2 ^ 9)
      ∧ s.portSet b = { s with regs := (s.portSet b).regs, pilot := (s.portSet b).pilot } := by
  have hframe (u : State) (p : Pilot) (n : Nat) : (({ u with pilot := p } : State).put F.TAM_STAT_SVC_OPEN n).debugVotes b
      = { u with regs := ((({ u with pilot := p } : State).put F.TAM_STAT_SVC_OPEN n).debugVotes b).regs, pilot := p } := by
    rw [State.debugVotes_regsOnly]
    rfl
  have hframed := hframe s { s.pilot with svcOpen := b } (bit b)
  have hpilot : (s.portSet b).pilot = { s.pilot with svcOpen := b } := congrArg State.pilot hframed
  refine ⟨hpilot, ?_, fun i hi => ?_, hframed.trans (by rw [hpilot]; rfl)⟩
  · refine (State.debugVotes_open _ b).trans ((State.get_put_same _ _ (bit b) (by decide) (by decide)).trans ?_)
    cases b <;> rfl
  · have hvotes : (({ s with pilot := { s.pilot with svcOpen := b } } : State).putFlag F.TAM_STAT_SVC_OPEN b).votes i = s.votes i :=
      State.get_of_reg (State.reg_put_other _ ((by decide : ∀ i ∈ debugIslands, (F.PWR_VOTEn_CLIENTS i).off ≠ F.TAM_STAT_SVC_OPEN.off) i hi) _)
    rw [State.portSet, State.debugVotes_votes _ b hi, hvotes]

theorem State.portSet_open_votes (s : State) {i : Nat} (hi : i ∈ debugIslands) : (s.portSet true).votes i = s.votes i ||| 2 ^ 8 := by
  obtain ⟨-, -, hvotes, -⟩ := s.portSet_spec true
  rw [hvotes i hi, setBit, if_pos rfl]
  exact Nat.mod_eq_of_lt (Nat.or_lt_two_pow (s.votes_lt i) (by decide))

theorem State.portSet_shut_votes (s : State) {i : Nat} (hi : i ∈ debugIslands) : Nat.testBit ((s.portSet false).votes i) 8 = false := by
  obtain ⟨-, -, hvotes, -⟩ := s.portSet_spec false
  rw [hvotes i hi, Nat.testBit_mod_two_pow, testBit_setBit_false (by decide) (.inr rfl), Bool.and_false]

/-! ## SVC_UNLOCK, the lock's end and the alarms as commands -/

theorem svcUnlock_opens {s : State} (hshut : s.pilot.svcOpen = false) (hblow : s.keys.blow = none) (hlc : s.lifecycle = 1 ∨ s.lifecycle = 2)
    (auth : Bytes) : svcUnlock auth s = s.portSet true := by
  obtain h | h := hlc <;> simp only [svcUnlock, hshut, hblow, h, Option.isSome_none, Bool.false_eq_true, if_false] <;> rfl

theorem svcUnlock_refused {s : State} (hshut : s.pilot.svcOpen = false) (hblow : s.keys.blow = none) (h3 : s.lifecycle = 3)
    (hepoch : s.fuses.epochNo = 15) (auth : Bytes) : svcUnlock auth s = (s.event F.TAM_EVT_SVC_REFUSED).reason .tam 0x0F0B := by
  simp only [svcUnlock, hshut, hblow, h3, hepoch, Option.isSome_none, Bool.false_eq_true, if_false, if_true]

theorem svcClose_of_open {s : State} (h : s.pilot.svcOpen = true) : exec .svcClose s = .next (s.portSet false) := by
  refine congrArg Host.Outcome.next ?_
  rw [h]
  rfl

/-- The keyring unlocked after a T2 response. -/
def State.ringUnlocked (s : State) : State :=
  (({ s with keys := { s.keys with lockEnd := none } } : State).putFlag F.KEY_STAT_RING_LOCKED false).event F.TAM_EVT_LOCK_END

theorem keyringLockEnd_due {s : State} {x : Nat} (h : s.keys.lockEnd = some x) (hdue : x ≤ s.mt) : exec .keyringLockEnd s = .next s.ringUnlocked := by
  refine congrArg Host.Outcome.next ?_
  simp only [h, if_pos hdue]
  rfl

theorem State.ringUnlocked_spec (s : State) :
    s.ringUnlocked.keys = { s.keys with lockEnd := none } ∧ s.ringUnlocked.get F.KEY_STAT_RING_LOCKED = 0 ∧ s.ringUnlocked.get F.TAM_EVT_LOCK_END = 1
      ∧ keepsFields s s.ringUnlocked [F.KEY_STAT_RING_LOCKED, F.TAM_EVT_LOCK_END]
      ∧ s.ringUnlocked = { s with regs := s.ringUnlocked.regs, keys := s.ringUnlocked.keys } := by
  refine ⟨rfl, ?_, State.get_put_same _ _ 1 (by decide) (by decide), ?_, rfl⟩
  · exact (State.get_put_apart _ _ _ 1 (by decide) (by decide) (by decide)).trans (State.get_put_same _ _ 0 (by decide) (by decide))
  · exact keepsFields_put (keepsFields_put (t := { s with keys := { s.keys with lockEnd := none } }) (fun _ _ _ => rfl) (by decide) (by decide) _)
      (by decide) (by decide) _

theorem t1Alarm_below_limit {s : State} (harmed : s.armed = true) (hphase : 6 ≤ s.phase) (hblow : s.keys.blow = none) (c : Bool)
    (hcount : (s.pilot.t1Times.filter (fun (x : Word) => (s.pilot.pt - x).toNat ≤ 1966080)).length < s.secLE 0x0F 2 1 16) :
    t1Alarm c s = (((({ s with pilot := { s.pilot with
          t1Times := s.pilot.t1Times.filter (fun (x : Word) => (s.pilot.pt - x).toNat ≤ 1966080) ++ [s.pilot.pt] } } : State).latchAlarm 1
        (if c then 0x0F02 else 0x0F01)).alarmEntry 1 (if c then 0x0F02 else 0x0F01)).alarmWake).t1Response := by
  have hfew : ¬ s.secLE 0x0F 2 1 16 < (s.pilot.t1Times.filter (fun (x : Word) => (s.pilot.pt - x).toNat ≤ 1966080) ++ [s.pilot.pt]).length := by
    rw [List.length_append, List.length_singleton]
    omega
  have hanswer := State.alarm_answered (s := { s with pilot := { s.pilot with
    t1Times := s.pilot.t1Times.filter (fun (x : Word) => (s.pilot.pt - x).toNat ≤ 1966080) ++ [s.pilot.pt] } }) hblow hphase 1
    (if c then 0x0F02 else 0x0F01)
  rw [if_pos rfl] at hanswer
  simp only [t1Alarm, harmed, decide_eq_false hfew, Bool.not_true, Bool.false_eq_true, if_false]
  exact hanswer

/-- Settles O34: an alarm is latched and answered by its class, a T3 alarm through its response and RECOVERY, the port by its lifecycle state. -/
theorem tamperAlarmsAndServicePort : Obligations.TamperAlarmsAndServicePort := by
  unfold Obligations.TamperAlarmsAndServicePort
  refine ⟨?t1, ?latched, ?t2, ?waits, ?unlocked, ?t3, ?opens, ?refused, ?closes⟩
  case t1 => exact fun s c harmed hphase hblow hcount => congrArg Host.Outcome.next (t1Alarm_below_limit harmed hphase hblow c hcount)
  case latched =>
    intro s code hcode
    obtain ⟨hevent, hpt, hmt, hreason, hcount⟩ := s.latchAlarm_one code hcode
    exact ⟨hevent, hpt, hmt, hreason, hcount, s.latchAlarm_vault 1 code⟩
  case t2 => exact fun s l harmed hphase hblow => ⟨_, congrArg Host.Outcome.next (if_pos harmed), State.alarm_two hblow hphase _⟩
  case waits =>
    intro s l k harmed hblow
    refine congrArg Host.Outcome.next ((if_pos harmed).trans ?_)
    rw [State.alarm, hblow]
    rfl
  case unlocked => exact fun s x h hdue => ⟨_, keyringLockEnd_due h hdue, s.ringUnlocked_spec⟩
  case t3 =>
    intro s harmed hactive hwait hblow h0 h5 hepoch
    obtain ⟨hleft, hphase, hmap, hreason⟩ := t3Alarm_spec harmed hactive hwait hblow h0 h5 hepoch
    simp only [State.zeroised, Prod.mk.injEq] at hleft
    obtain ⟨hblown, hmark, hring, hslots, htag, hchain, hpassword, hkey, hnor, hfuses⟩ := hleft
    exact ⟨_, rfl, hblown, hmark, hphase, hring, hslots, hpassword, hkey, hmap, hreason, hfuses, htag, hchain, hnor⟩
  case opens =>
    intro s auth hshut hblow hlc
    obtain ⟨hpilot, hflag, -, hframe⟩ := s.portSet_spec true
    exact ⟨_, congrArg Host.Outcome.next (svcUnlock_opens hshut hblow hlc auth), hpilot, hflag, fun i hi => s.portSet_open_votes hi, hframe⟩
  case refused => exact fun s auth hshut hblow h3 hepoch => congrArg Host.Outcome.next (svcUnlock_refused hshut hblow h3 hepoch auth)
  case closes =>
    intro s h
    obtain ⟨hpilot, hflag, -, hframe⟩ := s.portSet_spec false
    exact ⟨_, svcClose_of_open h, hpilot, hflag, fun i hi => s.portSet_shut_votes hi, hframe⟩

end Sys2Proof.Machine
end

section
/-! SUPPORT. The journal (R310 to R315): what a commit extends, how a page drains, the acknowledgement, and the checkpoint that JK signs. -/
namespace Sys2Proof.Machine

open Sys2Proof

/-! ## Draining a page (R305, R312) -/

theorem State.drainPage_vault (s : State) : s.drainPage.vault
    = { s.vault with staging := s.drainPage.vault.staging, mapDeltas := s.drainPage.vault.mapDeltas } := by
  unfold State.drainPage
  split
  · rfl
  · split
    · rfl
    · dsimp only
      rw [State.program_vault, State.dropIntervals_vault]

theorem State.dropIntervals_written (s : State) : s.dropIntervals.nand.written = s.nand.written := by
  unfold State.dropIntervals
  dsimp only
  split <;> rfl

/-- The staging area once page `k` has left it. -/
def Staging.without (st : Staging) (k : Nat) : Staging :=
  { kept := (st.kept ++ st.ring).filter (fun x => !(x.entry.seq / 32 == k)), gap := none, ring := [] }

/-- A page of staging without a gap goes to region 4 as it stands. -/
theorem State.drainPage_complete {s : State} {k : Nat} (holdest : s.oldestPage = some k) (hcomplete : s.pageComplete k = true)
    (hnand : s.nandUp = true) (hgap : s.vault.staging.gap = none) :
    s.drainPage = (let t := s.dropIntervals.program 4 (s.pageDie k) 1
      { t with
        vault := { t.vault with staging := s.vault.staging.without k }
        nand := { t.nand with journal := t.nand.journal ++ (pageEntries s.vault.staging k).map (·.entry), written := t.nand.written + 4096 } }) := by
  simp only [State.drainPage, holdest, hcomplete, hnand, hgap, Staging.without, List.filter_append, Bool.not_true, Bool.or_self, Bool.false_eq_true,
    if_false, Option.isNone_none, if_true]

theorem State.drainPage_frees {s : State} {k : Nat} (holdest : s.oldestPage = some k) (hcomplete : s.pageComplete k = true)
    (hnand : s.nandUp = true) (hgap : s.vault.staging.gap = none) :
    s.drainPage.vault.staging.kept = (s.vault.staging.kept ++ s.vault.staging.ring).filter (fun x => !(x.entry.seq / 32 == k))
      ∧ (∀ x ∈ pageEntries s.vault.staging k, x.entry ∈ s.drainPage.nand.journal)
      ∧ s.drainPage.nand.written = s.nand.written + 4096 := by
  rw [State.drainPage_complete holdest hcomplete hnand hgap]
  refine ⟨rfl, fun x hx => List.mem_append_right _ (List.mem_map_of_mem hx), ?_⟩
  exact congrArg (· + 4096) s.dropIntervals_written

theorem State.nandWrites_of {s : State} (hnand : s.nandUp = true) (hsto : s.enabled .sto = true) (hbrown : s.flag F.PWR_STAT_BROWNOUT = false) :
    s.nandWrites = true := by
  rw [State.nandWrites, hnand, hsto, hbrown]
  rfl

theorem journalDrain_of_turn {s : State} {k : Nat} (holdest : s.oldestPage = some k) (hcomplete : s.pageComplete k = true)
    (hwrites : s.nandWrites = true) (hturn : s.dieTurn (s.pageDie k) 2 = true) :
    journalDrain true s = (s.served (s.pageDie k) 2).drainPage.commitPoint.touch := by
  have hready : s.drainReady = some k := by simp [State.drainReady, holdest, hcomplete, hwrites]
  simp [journalDrain, hready, hturn]

/-- Without its turn on the die the oldest page waits, complete or not. -/
theorem journalDrain_waits {s : State} {k : Nat} (holdest : s.oldestPage = some k) (hturn : s.dieTurn (s.pageDie k) 2 = false) (ok : Bool) :
    journalDrain ok s = s := by
  have hready : s.drainReady = if s.pageComplete k && s.nandWrites then some k else none := by simp only [State.drainReady, holdest]
  rw [journalDrain, hready]
  split
  · rfl
  · next j hj =>
    obtain rfl : k = j := by simpa using (Option.ite_none_right_eq_some.mp hj).2
    simp [hturn]

/-! ## A commit (R310, R311) -/

/-- Staging with a place for the next entry: a full one drains a page first while the NAND is reachable (R313). -/
def State.roomMade (s : State) : State :=
  if (decide (256 ≤ s.vault.staging.kept.length) && s.vault.staging.gap.isNone && s.nandUp) = true then s.drainPage else s

theorem State.roomMade_of_room {s : State} (h : s.vault.staging.kept.length < 256) : s.roomMade = s := by
  simp [State.roomMade, h]

theorem State.roomMade_vault (s : State) : s.roomMade.vault
    = { s.vault with staging := s.roomMade.vault.staging, mapDeltas := s.roomMade.vault.mapDeltas } := by
  unfold State.roomMade
  split
  · exact s.drainPage_vault
  · rfl

theorem State.roomMade_sto (s : State) : s.roomMade.sto = s.sto := by simp [State.roomMade, apply_ite State.sto]

theorem State.roomMade_ntPair (s : State) : s.roomMade.ntPair = s.ntPair := by
  have hregs : s.roomMade.regs = s.regs := by simp [State.roomMade, apply_ite State.regs]
  have htim : s.roomMade.tim = s.tim := by simp [State.roomMade, apply_ite State.tim]
  have hvalid : s.roomMade.ntValid = s.ntValid := by simp only [State.ntValid, State.get_of_regs hregs]
  rw [State.ntPair, hvalid, htim, ← State.ntPair]

/-- The next entry of the journal, linked to the chain before it. -/
def State.nextEntry (s : State) (type reason src flags mt : Nat) (body : Bytes) : JEntry :=
  ⟨s.vault.nextSeq, mt, s.ntPair.1, s.ntPair.2, type, reason, src, flags, s.vault.chain.take 16, padTo 80 body⟩

/-- The chain value after an entry. -/
def State.chainAfter (s : State) (e : JEntry) : Bytes := Crypto.sha512 (s.vault.chain ++ e.bytes)

/-- The vault after an entry has joined staging, the chain and the head record. -/
def State.vaultWith (s : State) (e : JEntry) : Vault :=
  { s.vault with staging := s.roomMade.vault.staging.add ⟨e, s.chainAfter e⟩, mapDeltas := s.roomMade.vault.mapDeltas
                 nextSeq := s.vault.nextSeq + 1, chain := s.chainAfter e, chainPrev := s.vault.chain
                 headSeqs := s.vault.headSeqs.write s.vault.nextSeq }

/-- The checkpoints due after an entry: one more at the end of an interval (R314). -/
def State.dueAfter (s : State) (e : JEntry) : List (Nat × Bytes) :=
  if (s.vault.nextSeq + 1) % 4096 = 0 then s.sto.ckptDue ++ [((s.vault.nextSeq + 1) / 4096 - 1, s.chainAfter e)] else s.sto.ckptDue

/-- What a commit leaves in the vault and among the checkpoints due. -/
theorem State.commitEntry_extends (s : State) (type reason src flags mt : Nat) (body : Bytes) :
    (s.commitEntry type reason src flags mt body).vault = s.vaultWith (s.nextEntry type reason src flags mt body)
      ∧ (s.commitEntry type reason src flags mt body).sto.ckptDue = s.dueAfter (s.nextEntry type reason src flags mt body) := by
  have hvault := s.roomMade_vault
  have hsto := s.roomMade_sto
  have hnt := s.roomMade_ntPair
  unfold State.commitEntry State.vaultWith State.dueAfter State.chainAfter State.nextEntry
  dsimp only
  rw [← State.roomMade, hsto, hnt]
  generalize s.roomMade = r at hvault ⊢
  rw [hvault]
  split <;> simp

theorem State.journal_enabled {s : State} (hsto : s.enabled .sto = true) (hvault : s.vaultUp = true) (type reason : Nat) (u : Subsys) (flags : Nat)
    (body : Bytes) : s.journal type reason u flags body = s.commitEntry type reason (subId u) flags s.mt body := by
  rw [State.journal, hsto, hvault]
  rfl

theorem State.journal_latched {s : State} (hsto : s.enabled .sto = false) (type reason : Nat) (u : Subsys) (flags : Nat) (body : Bytes) :
    s.journal type reason u flags body
      = { s with sto := { s.sto with latched := s.sto.latched ++ [⟨type, reason, subId u, flags, s.mt, body⟩] } } := by
  rw [State.journal, hsto]
  rfl

theorem Staging.add_room {st : Staging} (hroom : st.kept.length < 256) (hgap : st.gap = none) (x : Staged) :
    st.add x = { st with kept := st.kept ++ [x] } := by
  rw [Staging.add, hgap]
  exact if_pos hroom

/-- A journal entry while STO is enabled and a vault bank is in use. -/
theorem State.journal_extends {s : State} (hsto : s.enabled .sto = true) (hup : s.vaultUp = true) (type reason : Nat) (u : Subsys) (flags : Nat)
    (body : Bytes) :
    (s.journal type reason u flags body).vault = s.vaultWith (s.nextEntry type reason (subId u) flags s.mt body)
      ∧ (s.journal type reason u flags body).sto.ckptDue = s.dueAfter (s.nextEntry type reason (subId u) flags s.mt body) := by
  rw [State.journal_enabled hsto hup]
  exact s.commitEntry_extends ..

/-! ## HOST_NOTE and STO_JRNL_ACK (R315, Table 16-6) -/

theorem hostNoteOp_of_fit {data : Bytes} (hmin : 1 ≤ data.length) (hmax : data.length ≤ 80) (s : State) :
    hostNoteOp data s = mbOk (s.journal 0x1001 0 .sto 2 data) (toLE 8 s.vault.nextSeq) := by
  have hfit : ¬ (data.length = 0 || 80 < data.length) = true := by
    simp only [Bool.or_eq_true, decide_eq_true_eq]
    omega
  exact if_neg hfit

/-- The registers in which JRNL_WARN shows. -/
def warnRegs : List Nat := [R.STO_STAT, R.STO_EVT, R.STO_REASON]

theorem State.refreshWarn_shown (s : State) : keepsRegs s s.refreshWarn warnRegs ∧ s.refreshWarn = { s with regs := s.refreshWarn.regs } := by
  unfold State.refreshWarn
  dsimp only
  split
  · exact ⟨keepsRegs_put (keepsRegs_put (keepsRegs_put (keepsRegs_refl s _) (by decide) _) (by decide) _) (by decide) _,
      State.regsOnly_put (State.regsOnly_put (State.regsOnly_put rfl _ _) _ _) _ _⟩
  · exact ⟨keepsRegs_put (keepsRegs_refl s _) (by decide) _, State.regsOnly_put rfl _ _⟩

/-- The state in which the acknowledgement `a` has been taken with the high word `hi`. -/
def State.acked (s : State) (hi a : Nat) : State := { s.setReg R.STO_JRNL_ACK_HI hi with vault := { s.vault with ack := a } }

theorem jrnlAck_eq (s : State) (hi : Nat) : jrnlAck hi s = (s.acked hi (s.reg R.STO_JRNL_ACK_LO + hi * 2 ^ 32)).refreshWarn := by
  have hlow : (s.setReg R.STO_JRNL_ACK_HI hi).reg R.STO_JRNL_ACK_LO = s.reg R.STO_JRNL_ACK_LO := State.reg_setReg_other _ (by decide) _
  rw [jrnlAck, hlow, State.acked, State.setReg_vault]

theorem State.acked_shown (s : State) {hi : Nat} (hfit : hi < 2 ^ 32) (a : Nat) :
    let t := (s.acked hi a).refreshWarn
    t.vault = { s.vault with ack := a } ∧ t.reg R.STO_JRNL_ACK_HI = hi ∧ keepsRegs s t (R.STO_JRNL_ACK_HI :: warnRegs)
      ∧ t = { s with regs := t.regs, vault := t.vault } := by
  have hreg : ∀ off, (s.acked hi a).reg off = (s.setReg R.STO_JRNL_ACK_HI hi).reg off := fun _ => rfl
  have hvault : (s.acked hi a).refreshWarn.vault = { s.vault with ack := a } := State.refreshWarn_vault _
  obtain ⟨hregs, hframe⟩ := (s.acked hi a).refreshWarn_shown
  refine ⟨hvault, ?_, fun off hoff => ?_, ?_⟩
  · rw [hregs _ (by decide), hreg, State.reg_setReg_same, Nat.mod_eq_of_lt hfit]
  · obtain ⟨hne, hwarn⟩ := not_or.mp (fun e => hoff (List.mem_cons.mpr e))
    rw [hregs _ hwarn, hreg, State.reg_setReg_other _ hne]
  · rw [hvault]
    exact hframe

theorem jrnlAck_takes (s : State) {hi : Nat} (hfit : hi < 2 ^ 32) :
    (jrnlAck hi s).vault = { s.vault with ack := s.reg R.STO_JRNL_ACK_LO + hi * 2 ^ 32 } ∧ (jrnlAck hi s).reg R.STO_JRNL_ACK_HI = hi
      ∧ keepsRegs s (jrnlAck hi s) (R.STO_JRNL_ACK_HI :: warnRegs)
      ∧ jrnlAck hi s = { s with regs := (jrnlAck hi s).regs, vault := (jrnlAck hi s).vault } := by
  rw [jrnlAck_eq]
  exact s.acked_shown hfit _

/-! ## A signature draws from the DRBG alone (R254, R257) -/

/-- A generate neither reads nor writes the NAND. -/
theorem State.generated_withNand (s : State) (x : Nand) (n : Nat) (pr : Bool) :
    ({ s with nand := x } : State).generated n pr = { s.generated n pr with nand := x } := by
  unfold State.generated
  dsimp only
  rw [show ({ s with nand := x } : State).reseeds pr = s.reseeds pr from rfl]
  split <;> rfl

theorem State.signSecret_withNand (n : Nat) (s : State) (x : Nand) :
    ({ s with nand := x } : State).signSecret n = ((s.signSecret n).1, { (s.signSecret n).2 with nand := x }) := by
  induction n generalizing s with
  | zero => rfl
  | succ n ih =>
    have hdrawn : ({ s with nand := x } : State).drawnPr 66 = s.drawnPr 66 := rfl
    have hfresh : ({ s with nand := x } : State).freshPr 66 = { s.freshPr 66 with nand := x } := s.generated_withNand x 66 true
    simp only [State.signSecret, hdrawn, hfresh, ih]
    split <;> rfl

theorem State.sign_withNand (s : State) (x : Nand) (key digest : Bytes) :
    ({ s with nand := x } : State).sign key digest = ((s.sign key digest).1, { (s.sign key digest).2 with nand := x }) := by
  simp only [State.sign, State.signSecret_withNand]

theorem State.signSecret_frame (n : Nat) (s : State) : (s.signSecret n).2
    = { s with draws := (s.signSecret n).2.draws, regs := (s.signSecret n).2.regs, sym := (s.signSecret n).2.sym } := by
  induction n generalizing s with
  | zero => rfl
  | succ n ih =>
    have hfresh : s.freshPr 66 = { s with draws := (s.freshPr 66).draws, regs := (s.freshPr 66).regs, sym := (s.freshPr 66).sym } :=
      s.generated_frame 66 true
    unfold State.signSecret
    dsimp only
    split
    · exact hfresh
    · refine (ih _).trans ?_
      generalize ((s.freshPr 66).signSecret n).2 = u
      rw [hfresh]

theorem State.signSecret_keeps (n : Nat) (s : State) : keepsRegs s (s.signSecret n).2 [R.SYM_DRBG] := by
  induction n generalizing s with
  | zero => exact keepsRegs_refl s _
  | succ n ih =>
    have hfresh : keepsRegs s (s.freshPr 66) [R.SYM_DRBG] := s.generated_regs 66 true
    unfold State.signSecret
    dsimp only
    split
    · exact hfresh
    · exact hfresh.trans (ih _)

theorem State.sign_frame (s : State) (key digest : Bytes) : (s.sign key digest).2
    = { s with draws := (s.sign key digest).2.draws, regs := (s.sign key digest).2.regs, sym := (s.sign key digest).2.sym } := by
  unfold State.sign
  dsimp only
  generalize 128 = n
  exact s.signSecret_frame n

theorem State.sign_keeps (s : State) (key digest : Bytes) : keepsRegs s (s.sign key digest).2 [R.SYM_DRBG] := by
  unfold State.sign
  dsimp only
  generalize 128 = n
  exact s.signSecret_keeps n

/-! ## CHECKPOINT (R314) -/

theorem State.ckptReady_of {s : State} (hdue : s.sto.ckptDue ≠ []) (hkey : (s.keyRec? 6 jkIndex).isSome = true)
    (hentropy : s.flag F.SYM_ENT_FAILED = false) (hwrites : s.nandWrites = true) : s.ckptReady = true := by
  have hkey0 : (s.keyRec? 6 0).isSome = true := hkey
  simp [State.ckptReady, hdue, hkey0, hentropy, hwrites]

/-- A checkpoint waits while it is not ready, or while a die in use gives it no turn. -/
theorem checkpoint_waits {s : State} (h : s.ckptReady = false ∨ s.diesUp.all (fun d => s.dieTurn d 2) = false) : checkpoint s = s := by
  have hstop : (!s.ckptReady || !s.diesUp.all (fun d => s.dieTurn d 2)) = true := by
    rw [← Bool.not_and, Bool.not_eq_true', Bool.and_eq_false_iff]
    exact h
  unfold checkpoint
  split
  · exact if_pos hstop
  · rfl

theorem State.ckptReady_without_nand {s : State} (h : s.nandUp = false) : s.ckptReady = false := by
  simp [State.ckptReady, State.nandWrites, h]

theorem checkpoint_without_key {s : State} (h : s.keyRec? 6 jkIndex = none) : checkpoint s = s := by
  have hkey : s.keyRec? 6 0 = none := h
  exact checkpoint_waits (.inl (by simp [State.ckptReady, hkey]))

/-- The bytes of a checkpoint: the signed part, the signature, padding (Table 11-8). -/
def State.ckptBytes (s : State) (i : Nat) (h : Bytes) (jk : KeyRec) : Bytes :=
  s.ckptBody i h jk.pub ++ (s.sign jk.key (Crypto.sha512 (s.ckptBody i h jk.pub))).1 ++ zeros 60

/-- The state after the signature of a checkpoint, its dies having served it. -/
def State.ckptSigned (s : State) (i : Nat) (h : Bytes) (jk : KeyRec) : State :=
  (((s.servedOn s.diesUp 2)).sign jk.key (Crypto.sha512 (s.ckptBody i h jk.pub))).2

theorem State.servedKept.sign_spec {s t : State} (h : s.servedKept t) (key digest : Bytes) :
    keepsRegs s (t.sign key digest).2 [R.SYM_DRBG] ∧ (t.sign key digest).2 = { s with
      draws := (t.sign key digest).2.draws, regs := (t.sign key digest).2.regs, sym := (t.sign key digest).2.sym
      nand := { s.nand with dies := (t.sign key digest).2.nand.dies } } := by
  obtain ⟨hserved, -⟩ := h
  have hregs : t.regs = s.regs := by rw [hserved]
  have hframe := t.sign_frame key digest
  refine ⟨keepsRegs.trans (fun off _ => State.reg_of_regs hregs off) (t.sign_keeps key digest), ?_⟩
  generalize (t.sign key digest).2 = u at hframe ⊢
  rw [hframe, hserved]

theorem State.ckptSigned_spec (s : State) (i : Nat) (h : Bytes) (jk : KeyRec) :
    keepsRegs s (s.ckptSigned i h jk) [R.SYM_DRBG]
      ∧ s.ckptSigned i h jk = { s with
          draws := (s.ckptSigned i h jk).draws, regs := (s.ckptSigned i h jk).regs, sym := (s.ckptSigned i h jk).sym
          nand := { s.nand with dies := (s.ckptSigned i h jk).nand.dies } } := by
  unfold State.ckptSigned
  exact (s.servedOn_servedKept s.diesUp 2).sign_spec _ _

/-- A checkpoint stored: among the checkpoints and on the dies, shown, and due no longer. -/
def State.ckptStored (s : State) (c : Checkpoint) (rest : List (Nat × Bytes)) : State :=
  ((({ s with
      nand := { s.nand with ckpts := s.nand.ckpts ++ [c], written := s.nand.written + 384 }
      sto := { s.sto with ckptDue := rest } } : State).program 0 0 1).event F.STO_EVT_CHECKPOINT).setReg R.STO_CKPT c.index

theorem checkpoint_signs {s : State} {i : Nat} {h : Bytes} {rest : List (Nat × Bytes)} {jk : KeyRec} (hdue : s.sto.ckptDue = (i, h) :: rest)
    (hkey : s.keyRec? 6 jkIndex = some jk) (hready : s.ckptReady = true) (hturn : s.diesUp.all (fun d => s.dieTurn d 2) = true)
    (hroom : s.nand.ckpts.length < 131072) :
    checkpoint s = (s.ckptSigned i h jk).ckptStored ⟨i, s.ckptBytes i h jk⟩ rest := by
  obtain ⟨hserved, -⟩ := s.servedOn_servedKept s.diesUp 2
  obtain ⟨-, hsigned⟩ := s.ckptSigned_spec i h jk
  have hbody : (s.servedOn s.diesUp 2).ckptBody i h jk.pub = s.ckptBody i h jk.pub := by
    rw [hserved]
    rfl
  have hsign : ((s.servedOn s.diesUp 2).sign jk.key (Crypto.sha512 (s.ckptBody i h jk.pub))).1
      = (s.sign jk.key (Crypto.sha512 (s.ckptBody i h jk.pub))).1 := by
    rw [hserved, State.sign_withNand]
  have hckpts : (s.ckptSigned i h jk).nand.ckpts = s.nand.ckpts := by rw [hsigned]
  have hdrop : ∀ c : Checkpoint, (s.nand.ckpts ++ [c]).drop ((s.nand.ckpts ++ [c]).length - 131072) = s.nand.ckpts ++ [c] := fun c => by
    have hzero : (s.nand.ckpts ++ [c]).length - 131072 = 0 := by
      rw [List.length_append, List.length_singleton]
      omega
    rw [hzero, List.drop_zero]
  unfold checkpoint
  simp only [hdue, hkey, hready, hturn, Bool.not_true, Bool.or_self, Bool.false_eq_true, if_false, hbody, hsign]
  rw [← State.ckptSigned, hckpts, hdrop, State.ckptStored, hckpts]
  rfl

theorem State.ckptStored_spec (s : State) (c : Checkpoint) (rest : List (Nat × Bytes)) (hfit : c.index < 2 ^ 32) :
    (s.ckptStored c rest).reg R.STO_CKPT = c.index ∧ (s.ckptStored c rest).get F.STO_EVT_CHECKPOINT = 1
      ∧ keepsRegs s (s.ckptStored c rest) [R.STO_CKPT, R.STO_EVT] := by
  refine ⟨(State.reg_setReg_same _ _ _).trans (Nat.mod_eq_of_lt hfit), ?_, ?_⟩
  · exact (State.get_setReg_other _ (by decide) _).trans (State.get_put_same _ _ 1 (by decide) (by decide))
  · exact keepsRegs_setReg (keepsRegs_put (t := (({ s with
      nand := { s.nand with ckpts := s.nand.ckpts ++ [c], written := s.nand.written + 384 }
      sto := { s.sto with ckptDue := rest } } : State).program 0 0 1)) (fun _ _ => rfl) (by decide) _) (by decide) _

/-! ## O36 -/

/-- Settles O36: a commit by what it leaves in the vault, a drain by its turn, a checkpoint by what its signature and its storing leave. -/
theorem journalCommitsDrainsAndCheckpoints : Obligations.JournalCommitsDrainsAndCheckpoints := by
  unfold Obligations.JournalCommitsDrainsAndCheckpoints
  refine ⟨?commit, ?latch, ?note, ?drains, ?drainWaits, ?frees, ?ack, ?checkpoint, ?turn, ?key, ?nand⟩
  case commit =>
    intro s type reason flags u body hsto hup t e
    obtain ⟨hvault, hdue⟩ := State.journal_extends hsto hup type reason u flags body
    have hvault : t.vault = s.vaultWith e := hvault
    have hdue : t.sto.ckptDue = s.dueAfter e := hdue
    rw [hvault, hdue]
    refine ⟨rfl, rfl, rfl, fun hroom hgap => ?_, fun h => if_pos h, fun h => if_neg h, State.journal_fuses .., State.journal_update ..,
      State.journal_nor .., State.journal_keys .., rfl, rfl, State.journal_hif .., State.journal_pending .., State.journal_mt ..⟩
    rw [State.vaultWith, State.roomMade_of_room hroom]
    exact Staging.add_room hroom hgap _
  case latch => exact fun s type reason flags u body hsto => State.journal_latched hsto type reason u flags body
  case note => exact fun s data hready hmin hmax => next_mailboxCommand hready (hostNoteOp_of_fit hmin hmax _)
  case drains =>
    exact fun s k holdest hcomplete hnand hsto hbrown hturn => congrArg Host.Outcome.next
      (journalDrain_of_turn holdest hcomplete (State.nandWrites_of hnand hsto hbrown) hturn)
  case drainWaits => exact fun s k ok holdest hturn => congrArg Host.Outcome.next (journalDrain_waits holdest hturn ok)
  case frees =>
    intro s k holdest hcomplete hnand hgap
    obtain ⟨hkept, hjournal, hwritten⟩ := State.drainPage_frees holdest hcomplete hnand hgap
    exact ⟨hkept, hjournal, hwritten, s.drainPage_regs, by rw [s.drainPage_vault]⟩
  case ack => exact fun s hi => ⟨_, rfl, jrnlAck_takes s hi.isLt⟩
  case checkpoint =>
    intro s i h rest jk hdue hkey hnand hsto hentropy hturn hroom hfit hbrown
    have hready : s.ckptReady = true := State.ckptReady_of (by simp [hdue]) (by simp [hkey]) hentropy (State.nandWrites_of hnand hsto hbrown)
    obtain ⟨hdraws, hsigned⟩ := s.ckptSigned_spec i h jk
    obtain ⟨hreg, hevent, hregs⟩ := (s.ckptSigned i h jk).ckptStored_spec ⟨i, s.ckptBytes i h jk⟩ rest hfit
    refine ⟨_, congrArg Host.Outcome.next (checkpoint_signs hdue hkey hready hturn hroom), rfl, hreg, hevent, ?_, fun off hoff => ?_, ?_⟩
    · rw [hsigned]
      rfl
    · simp only [List.mem_cons, List.not_mem_nil, or_false, not_or] at hoff
      obtain ⟨hckpt, hevt, hdrbg⟩ := hoff
      exact (hregs off (by simp [hckpt, hevt])).trans (hdraws off (by simp [hdrbg]))
    · generalize s.ckptSigned i h jk = u at hsigned ⊢
      rw [hsigned]
      exact ⟨rfl, rfl, rfl, rfl, rfl⟩
  case turn => exact fun s hturn => congrArg Host.Outcome.next (checkpoint_waits (.inr hturn))
  case key => exact fun s hkey => congrArg Host.Outcome.next (checkpoint_without_key hkey)
  case nand => exact fun s hnand => congrArg Host.Outcome.next (checkpoint_waits (.inl (State.ckptReady_without_nand hnand)))

end Sys2Proof.Machine
end

section
/-! SUPPORT. The host streams (R318, R324): which state the slot of an append is judged on, the record it programs, and the trim. -/
namespace Sys2Proof.Machine

open Sys2Proof

/-! ## What the NAND queue is judged on (R305) -/

/-- The state in which a host append is judged: the command under way, STO_STAT.HELD brought up to date. -/
def State.appendBegun (s : State) (k : Nat) (data : Bytes) : State :=
  (s.begun 0x0C01 (toLE 1 k ++ data)).putFlag F.STO_STAT_HELD s.heldNow

theorem State.appendBegun_regs (s : State) (k : Nat) (data : Bytes) :
    keepsRegs s (s.appendBegun k data) [F.HIF_STAT_MB_EXEC.off, F.STO_STAT_HELD.off] := by
  refine keepsRegs_put (t := s.begun 0x0C01 (toLE 1 k ++ data)) (fun off hoff => ?_) (by decide) _
  exact State.reg_put_other _ (fun e => hoff (by simp [e])) _

/-- Two states alike in what the NAND queue is judged on: storage, media, image, settings, MT, and the three registers read there. -/
def State.queueSame (s t : State) : Prop :=
  t.sto = s.sto ∧ t.nand = s.nand ∧ t.vault = s.vault ∧ t.sys = s.sys ∧ t.upd = s.upd ∧ t.update = s.update ∧ t.mt = s.mt
    ∧ t.reg R.SYS_EN_MAP = s.reg R.SYS_EN_MAP ∧ t.get F.PWR_STAT_BROWNOUT = s.get F.PWR_STAT_BROWNOUT ∧ t.get F.SYM_ENT_FAILED = s.get F.SYM_ENT_FAILED

theorem State.appendBegun_queueSame (s : State) (k : Nat) (data : Bytes) : s.queueSame (s.appendBegun k data) := by
  have hregs := s.appendBegun_regs k data
  exact ⟨rfl, rfl, rfl, rfl, rfl, rfl, rfl, hregs _ (by decide), State.get_of_reg (hregs _ (by decide)), State.get_of_reg (hregs _ (by decide))⟩

section
variable {s t : State} (h : s.queueSame t)
include h

theorem State.queueSame.nandWrites : t.nandWrites = s.nandWrites := by
  obtain ⟨hsto, hnand, hvault, hsys, hupd, hupdate, hmt, hmap, hbrown, hentropy⟩ := h
  simp only [State.nandWrites, State.nandUp, State.enabled, State.flag, hvault, hnand, hupd, hmap, hbrown]

theorem State.queueSame.ckptReady : t.ckptReady = s.ckptReady := by
  have hwrites := h.nandWrites
  obtain ⟨hsto, hnand, hvault, hsys, hupd, hupdate, hmt, hmap, hbrown, hentropy⟩ := h
  simp only [State.ckptReady, State.keyRec?, State.flag, hwrites, hsto, hvault, hentropy]

theorem State.queueSame.drainReady : t.drainReady = s.drainReady := by
  have hwrites := h.nandWrites
  obtain ⟨hsto, hnand, hvault, hsys, hupd, hupdate, hmt, hmap, hbrown, hentropy⟩ := h
  have hpage : t.oldestPage = s.oldestPage := by rw [State.oldestPage, hvault, State.oldestPage]
  have hcomplete : ∀ k, t.pageComplete k = s.pageComplete k := fun k => by rw [State.pageComplete, hvault, State.pageComplete]
  simp only [State.drainReady, hpage, hcomplete, hwrites]

theorem State.queueSame.capReady : t.capReady = s.capReady := by
  have hwrites := h.nandWrites
  obtain ⟨hsto, hnand, hvault, hsys, hupd, hupdate, hmt, hmap, hbrown, hentropy⟩ := h
  have hsetting : t.setting 0x0C03 1000 = s.setting 0x0C03 1000 := by
    rw [State.setting, State.section?, hvault, hsys, State.setting, State.section?]
  rw [State.capReady, hwrites, hsto, hsetting, hmt, State.capReady]

theorem State.queueSame.die (d : Nat) : t.die d = s.die d := by
  obtain ⟨hsto, hnand, -⟩ := h
  rw [State.die, hnand, State.die]

theorem State.queueSame.wearDie : t.wearDie = s.wearDie := by simp only [State.wearDie, h.die]

theorem State.queueSame.reqDies (r : StoReq) : t.reqDies r = s.reqDies r := by
  have hupdate : t.update = s.update := by
    obtain ⟨hsto, hnand, hvault, hsys, hupd, hupdate, -⟩ := h
    exact hupdate
  cases r <;> simp only [State.reqDies, State.diesUp, h.die, h.wearDie, hupdate]

theorem State.queueSame.reqClassSto (r : StoReq) : t.reqClassSto r = s.reqClassSto r := by
  cases r <;> simp only [State.reqClassSto, h.die]

theorem State.queueSame.rateFree (r : StoReq) : t.rateFree r = s.rateFree r := by
  obtain ⟨hsto, hnand, hvault, hsys, hupd, hupdate, hmt, -⟩ := h
  cases r <;> simp only [State.rateFree, hsto, hmt]

theorem State.queueSame.waits (d c : Nat) : t.waits d c = s.waits d c := by
  have hqueue : t.sto.queue = s.sto.queue := by
    obtain ⟨hsto, -⟩ := h
    rw [hsto]
  simp only [State.waits, State.pageDie, h.ckptReady, h.drainReady, h.capReady, h.die, h.reqDies, h.reqClassSto, h.rateFree, hqueue]

/-- A request has its slots in both states or in neither. -/
theorem State.queueSame.takes (r : StoReq) : t.takes r = s.takes r := by
  have hruns : ∀ d c, t.runsOf d c = s.runsOf d c := fun d c => by rw [State.runsOf, h.die, State.runsOf]
  have hturn : (fun d => t.dieTurn d (s.reqClassSto r)) = fun d => s.dieTurn d (s.reqClassSto r) := funext fun d => by
    simp only [State.dieTurn, hruns, h.waits]
  rw [State.takes, h.rateFree, h.reqDies, h.reqClassSto, hturn, State.takes]

end

/-! ## An append (R318, R324) -/

theorem State.appendBegun_eq {s : State} (h : s.heldNow = false) (k : Nat) (data : Bytes) :
    s.appendBegun k data = (s.begun 0x0C01 (toLE 1 k ++ data)).putFlag F.STO_STAT_HELD false := by rw [State.appendBegun, h]

/-- An append of a fitting length to a defined stream: refused, or served in its slots, or left to wait for them. -/
theorem streamAppendOp_judged {s : State} {k : Nat} {data : Bytes} (hmin : 1 ≤ data.length) (hmax : data.length ≤ 4080)
    (hdef : (s.streamDef k).isSome = true) (hheld : s.heldNow = false) (ok : Bool) :
    streamAppendOp k data ok (s.begun 0x0C01 (toLE 1 k ++ data)) = (s.appendRefusal k).elim
      (if s.takes (.append k data ok) = true then
        ((s.appendBegun k data).servedOn ((s.appendBegun k data).reqDies (.append k data ok)) 4).appendNow k data ok
      else ({ s.appendBegun k data with sto := { s.sto with queue := s.sto.queue ++ [.append k data ok] } }, mbDeferred, []))
      (mbFail (s.appendBegun k data) .sto) := by
  have hfit : ¬ (data.length = 0 || 4080 < data.length) = true := by
    simp only [Bool.or_eq_true, decide_eq_true_eq]
    omega
  have hdef' : ((s.begun 0x0C01 (toLE 1 k ++ data)).streamDef k).isSome = true := hdef
  have hbegun : (s.begun 0x0C01 (toLE 1 k ++ data)).putFlag F.STO_STAT_HELD (s.begun 0x0C01 (toLE 1 k ++ data)).heldNow = s.appendBegun k data := rfl
  have hrefusal : (s.appendBegun k data).appendRefusal k = s.appendRefusal k := rfl
  have hheld' : (s.appendBegun k data).heldNow = false := hheld
  have hslot := (s.appendBegun_queueSame k data).takes (.append k data ok)
  simp only [streamAppendOp, if_neg hfit, hdef', if_true, hbegun, hrefusal]
  cases s.appendRefusal k with
  | some c => rfl
  | none =>
    simp only [hheld', hslot, Bool.false_and, Bool.false_eq_true, if_false]
    rfl

theorem State.appendRefusal_of_room {s : State} {k q m : Nat} {tr : Bool} (hdef : s.streamDef k = some (q, m, tr)) (hnand : s.nandUp = true)
    (hroom : (s.stream k).records.length < s.streamCap q) : s.appendRefusal k = none := by
  simp [State.appendRefusal, hdef, hnand, hroom]

theorem State.appendRefusal_of_full {s : State} {k q : Nat} {tr : Bool} (hdef : s.streamDef k = some (q, 1, tr)) (hnand : s.nandUp = true)
    (hfull : s.streamCap q ≤ (s.stream k).records.length) : s.appendRefusal k = some 0x0C0B := by
  simp [State.appendRefusal, hdef, hnand, hfull]

/-- What a served request leaves as an append finds it. -/
theorem State.servedKept.append_facts {s t : State} (h : s.servedKept t) :
    t.wearDie = s.wearDie ∧ (∀ q, t.streamCap q = s.streamCap q) ∧ (∀ k, t.stream k = s.stream k) ∧ (∀ k, t.streamDef k = s.streamDef k)
      ∧ t.nandUp = s.nandUp ∧ t.heldNow = s.heldNow ∧ t.hostRate = s.hostRate := by
  have hfailed : ∀ d, (t.die d).failed = (s.die d).failed := fun d => by simpa using congrArg Die.failed (h.die d)
  have herases : ∀ d, (t.die d).erases = (s.die d).erases := fun d => by simpa using congrArg Die.erases (h.die d)
  obtain ⟨hframe, hdies⟩ := h
  have hany : t.nand.dies.any (·.failed) = s.nand.dies.any (·.failed) := by
    simpa only [List.any_map, Function.comp_def, Die.turnless_failed] using congrArg (fun l : List Die => l.any (·.failed)) hdies
  have hall : t.nand.dies.all (·.failed) = s.nand.dies.all (·.failed) := by
    simpa only [List.all_map, Function.comp_def, Die.turnless_failed] using congrArg (fun l : List Die => l.all (·.failed)) hdies
  refine ⟨?_, ?_, ?_, ?_, ?_, ?_, ?_⟩
  · simp only [State.wearDie, hfailed, herases]
  · exact fun q => by simp only [State.streamCap, hany]
  · exact fun k => by rw [hframe]; rfl
  · exact fun k => by rw [hframe]; rfl
  · rw [State.nandUp, hall, hframe, State.nandUp]
  · rw [hframe]; rfl
  · rw [hframe]; rfl

/-- Stream `k` after a record has joined it under the next number. -/
def State.recorded (s : State) (k : Nat) (data : Bytes) : Stream :=
  ⟨(s.stream k).next + 1, (s.stream k).records ++ [⟨(s.stream k).next, data, s.wearDie⟩]⟩

/-- A state with other media and other storage work. -/
def State.withMedia (s : State) (n : Nand) (v : Vault) (x : Storage) : State := { s with nand := n, vault := v, sto := x }

/-- The state after a record has been programmed, the dies standing as `dies`. -/
def State.appended (s : State) (k : Nat) (data : Bytes) (dies : List Die) : State :=
  s.withMedia { s.nand with streams := s.nand.streams.set k (s.recorded k data), written := s.nand.written + 4096, dies := dies }
    { s.vault with mapDeltas := s.vault.mapDeltas + 1 } { s.sto with hostUntil := s.mt + (data.length + s.hostRate - 1) / s.hostRate }

theorem State.servedKept.appendNow {s t : State} (h : s.servedKept t) {k q m : Nat} {tr : Bool} (hdef : s.streamDef k = some (q, m, tr))
    (hnand : s.nandUp = true) (hheld : s.heldNow = false) (hroom : (s.stream k).records.length < s.streamCap q) (data : Bytes) :
    ∃ dies, t.appendNow k data true = mbOk (s.appended k data dies) (toLE 8 (s.stream k).next) := by
  obtain ⟨hwear, hcap, hstream, hdefs, hup, hheld', hrate⟩ := h.append_facts
  obtain ⟨hframe, -⟩ := h
  have hroom' : ¬ s.streamCap q ≤ (s.stream k).records.length := Nat.not_le_of_lt hroom
  have hrefusal : t.appendRefusal k = none :=
    State.appendRefusal_of_room ((hdefs k).trans hdef) (hup.trans hnand) (by rw [hstream, hcap]; exact hroom)
  obtain ⟨dies, hprogram⟩ : ∃ dies, (t.setStream k (s.recorded k data)).program 6 s.wearDie 1 = { t with
      nand := { t.nand with streams := t.nand.streams.set k (s.recorded k data), dies := dies }
      vault := { t.vault with mapDeltas := t.vault.mapDeltas + 1 } } := ⟨_, rfl⟩
  refine ⟨dies, ?_⟩
  simp only [State.appendNow, hrefusal, hdefs, hdef, hwear, hcap, hstream, hroom', hheld', hheld, hrate, if_true, if_false, Bool.false_eq_true]
  rw [← State.recorded, hprogram, hframe]
  rfl

/-! ## The answer of an append does not depend on the media -/

theorem State.placeOut_withMedia (s : State) (n : Nand) (v : Vault) (x : Storage) : (s.withMedia n v x).placeOut = s.placeOut.withMedia n v x := by
  have hflag : (s.withMedia n v x).flag F.HIF_MB_OUT_STAT_VALID = s.flag F.HIF_MB_OUT_STAT_VALID := rfl
  have hresp : (s.withMedia n v x).hif.spiResp = s.hif.spiResp := rfl
  unfold State.placeOut
  rw [hflag, hresp]
  split
  · rfl
  · split <;> rfl

theorem State.deliver_withMedia (s : State) (n : Nand) (v : Vault) (x : Storage) (t : Transport) (src : Nat) (m : Bytes) :
    (s.withMedia n v x).deliver t src m = (s.deliver t src m).withMedia n v x := by
  have hbus : ∀ t : Transport, (s.withMedia n v x).busUp t = s.busUp t := fun t => by cases t <;> rfl
  have hspi : (s.withMedia n v x).deliver .spi src m = (s.deliver .spi src m).withMedia n v x :=
    State.placeOut_withMedia { s with hif := { s.hif with spiResp := s.hif.spiResp ++ [m] } } n v x
  cases t
  · exact hspi
  all_goals
    simp only [State.deliver, hbus]
    split <;> rfl

theorem State.answer_withMedia (s : State) (n : Nand) (v : Vault) (x : Storage) (c : MbCmd) (reason : Nat) (out : Bytes) :
    (s.withMedia n v x).answer c reason out = (s.answer c reason out).withMedia n v x := by
  have hmt : (s.withMedia n v x).mt = s.mt := rfl
  have hreason : (if reason / 256 = 16 then (s.withMedia n v x).reason .hif reason else s.withMedia n v x)
      = (if reason / 256 = 16 then s.reason .hif reason else s).withMedia n v x := by split <;> rfl
  unfold State.answer
  dsimp only
  rw [hmt, hreason, State.deliver_withMedia]
  generalize State.deliver _ _ _ _ = t
  rfl

theorem State.finish_withMedia (s : State) (n : Nand) (v : Vault) (x : Storage) (reason : Nat) (out : Bytes) :
    (s.withMedia n v x).finish reason out = (s.finish reason out).withMedia n v x := by
  have hexec : (s.withMedia n v x).hif.executing = s.hif.executing := rfl
  unfold State.finish
  rw [hexec]
  split
  · rfl
  · next c _ =>
    exact State.answer_withMedia (({ s with hif := { s.hif with executing := none } } : State).putFlag F.HIF_STAT_MB_EXEC false) n v x c reason out

theorem State.finish_withMedia_hif (s : State) (n : Nand) (v : Vault) (x : Storage) (reason : Nat) (out : Bytes) :
    ((s.withMedia n v x).finish reason out).hif = (s.finish reason out).hif := by
  rw [State.finish_withMedia]
  rfl

theorem State.appendBegun_hostRate (s : State) (k : Nat) (data : Bytes) : (s.appendBegun k data).hostRate = s.hostRate := by
  have hregs := s.appendBegun_regs k data
  have hisland : (s.appendBegun k data).islandFailed 7 = s.islandFailed 7 := by
    rw [State.islandFailed, State.island, hregs _ (by decide), State.islandFailed, State.island]
  have hgov : (s.appendBegun k data).get F.PWR_STAT_GOV_STEP = s.get F.PWR_STAT_GOV_STEP := State.get_of_reg (hregs _ (by decide))
  have hreduced : (s.appendBegun k data).get F.STO_STAT_BUF_REDUCED = s.get F.STO_STAT_BUF_REDUCED :=
    (State.get_put_apart _ _ _ _ (by decide) (by decide) (by decide)).trans (s.begun_get _ _ (by decide))
  rw [State.hostRate, hisland, hgov, State.flag, hreduced, State.hostRate, State.flag]

/-! ## STREAM_TRIM -/

theorem streamTrimOp_permitted {s : State} {k r q m : Nat} (hdef : s.streamDef k = some (q, m, true)) (hkept : r ≤ (s.stream k).next) :
    streamTrimOp k r s = mbOk (s.setStream k ⟨(s.stream k).next, (s.stream k).records.filter (fun x => r ≤ x.number)⟩)
      (toLE 8 ((((s.stream k).records.filter (fun x => r ≤ x.number)).head?.map (·.number)).getD (s.stream k).next)) := by
  have hlate : ¬ (s.stream k).next < r := Nat.not_lt.mpr hkept
  simp only [streamTrimOp, hdef, hlate, Bool.not_true, Bool.false_eq_true, if_false]
  cases (s.stream k).records.filter (fun x => r ≤ x.number) <;> rfl

theorem streamTrimOp_forbidden {s : State} {k q m : Nat} (hdef : s.streamDef k = some (q, m, false)) (r : Nat) :
    streamTrimOp k r s = mbFail s .sto 0x0C17 := by
  simp only [streamTrimOp, hdef, Bool.not_false, if_true]

/-! ## O38 -/

/-- Settles O38: an append by whether its stream refuses it and whether it has its slot; a trim by what the stream's section permits. -/
theorem hostStreamsAppendAndTrim : Obligations.HostStreamsAppendAndTrim := by
  unfold Obligations.HostStreamsAppendAndTrim
  refine ⟨?appends, ?waits, ?full, ?trims, ?forbidden⟩
  case appends =>
    intro s k data env q m tr hready hmin hmax hdef hnand hheld hroom hslot hok _
    have hjudged := streamAppendOp_judged hmin hmax (by rw [hdef]; rfl) hheld true
    rw [State.appendRefusal_of_room hdef hnand hroom] at hjudged
    obtain ⟨dies, hrecord⟩ := ((s.appendBegun k.toNat data).servedOn_servedKept
      ((s.appendBegun k.toNat data).reqDies (.append k.toNat data true)) 4).appendNow hdef hnand hheld hroom data
    have hop := hjudged.trans ((if_pos hslot).trans hrecord)
    rw [← hok] at hop
    refine ⟨_, next_mailboxCommand hready hop, ?_⟩
    have hwear := (s.appendBegun_queueSame k.toNat data).wearDie
    have hrate := s.appendBegun_hostRate k.toNat data
    dsimp only
    rw [State.finish_nand, State.finish_sto, State.finish_vault, State.finish_fuses, State.finish_update, State.finish_keys]
    refine ⟨?_, rfl, State.finish_executing .., ?_, ?_, rfl, rfl, rfl, rfl, rfl, rfl, rfl⟩
    · rw [State.appended, State.recorded, hwear]
      rfl
    · rw [← State.appendBegun_eq hheld]
      exact State.finish_withMedia_hif (s.appendBegun k.toNat data) _ _ _ 0 _
    · rw [State.appended, hrate]
      rfl
  case waits =>
    intro s k data env q m tr hready hmin hmax hdef hnand hheld hroom hslot
    have hjudged := streamAppendOp_judged hmin hmax (by rw [hdef]; rfl) hheld env.storeOk
    rw [State.appendRefusal_of_room hdef hnand hroom, hslot, State.appendBegun_eq hheld] at hjudged
    exact congrArg Host.Outcome.next (mailboxCommand_defers _ _ _ _ _ _ (by decide) hready hjudged)
  case full =>
    intro s k data env q tr hready hmin hmax hdef hnand hheld hfull
    have hjudged := streamAppendOp_judged hmin hmax (by rw [hdef]; rfl) hheld env.storeOk
    rw [State.appendRefusal_of_full hdef hnand hfull, State.appendBegun_eq hheld] at hjudged
    exact next_mailboxCommand hready hjudged
  case trims =>
    exact fun s k r q m hready hdef hkept => next_mailboxCommand hready (streamTrimOp_permitted (s := s.begun 0x0C02 _) hdef hkept)
  case forbidden =>
    exact fun s k r q m hready hdef => next_mailboxCommand hready (streamTrimOp_forbidden (s := s.begun 0x0C02 _) hdef r.toNat)

end Sys2Proof.Machine
end

section
namespace Sys2Proof.Machine
open Sys2Proof

-- One declaration after another: checking many at a time takes more memory than the text may use.
set_option Elab.async false

/-- `t` holds the commands that wait in `s`, and its memories stand in canonical form where those of `s` do. -/
def State.Tidy (s t : State) : Prop := t.pending = s.pending ∧ (s.canonical = true → t.canonical = true)

theorem State.canonical_iff (s : State) : s.canonical = true ↔ sparseWf regReset none s.regs = true ∧ memoryWf norDefault s.nor.cells = true
    ∧ memoryWf tagDefault s.tag.mem = true ∧ sparseWf sramDefault none s.net.sram = true := by
  simp [State.canonical, and_assoc]

theorem State.Tidy.refl (s : State) : s.Tidy s := ⟨rfl, id⟩

theorem State.Tidy.trans {r s t : State} (h : r.Tidy s) (h' : s.Tidy t) : r.Tidy t := ⟨h'.1.trans h.1, h'.2 ∘ h.2⟩

section
variable {r s : State}

theorem State.Tidy.ite {t : State} (hs : r.Tidy s) (ht : r.Tidy t) {c : Prop} [Decidable c] : r.Tidy (if c then s else t) := by
  split
  · exact hs
  · exact ht

theorem State.Tidy.iteFst {α : Type} {p q : State × α} (hp : r.Tidy p.1) (hq : r.Tidy q.1) {c : Prop} [Decidable c] :
    r.Tidy (if c then p else q).1 := by
  split
  · exact hp
  · exact hq

theorem State.Tidy.fst {α : Type} {p : State × α} {t : State} {a : α} (h : r.Tidy p.1) (e : p = (t, a)) : r.Tidy t := by
  subst e
  exact h

theorem State.Tidy.snd {α : Type} {p : α × State} {t : State} {a : α} (h : r.Tidy p.2) (e : p = (a, t)) : r.Tidy t := by
  subst e
  exact h

theorem State.Tidy.foldl {α : Type} {f : State → α → State} (h : r.Tidy s) (hf : ∀ t x, r.Tidy t → r.Tidy (f t x)) {l : List α} :
    r.Tidy (l.foldl f s) := by
  induction l generalizing s with
  | nil => exact h
  | cons x xs ih => exact ih (hf s x h)

/-- What changes neither the queue of commands nor a sparse memory. -/
theorem State.Tidy.set (h : r.Tidy s) {mt draws fuses vault nand update pilot sys pwr tim sto keys upd hif tok lf rf rng rel sym nfc} : r.Tidy
    { s with mt := mt, draws := draws, fuses := fuses, vault := vault, nand := nand, update := update, pilot := pilot, sys := sys, pwr := pwr
             tim := tim, sto := sto, keys := keys, upd := upd, hif := hif, tok := tok, lf := lf, rf := rf, rng := rng, rel := rel, sym := sym
             nfc := nfc } := h

/-- The tag beside its memory. -/
theorem State.Tidy.tagSet (h : r.Tidy s) {mt draws fuses vault nand update pilot sys pwr tim sto keys upd hif tok lf rf rng rel sym nfc
    password' key' pwdFail' keyFail' tagMode' types' wrLevel' idOpen' hostOpen' works' field' fieldEnd' selected' uid' app'
    rc' tc' ownEnd' level' resEnd' resOver' statusSeq' pendTail' pendStat' retryMt' alarm' noise' lastAnswer'} :
    r.Tidy { s with
      mt := mt, draws := draws, fuses := fuses, vault := vault, nand := nand, update := update, pilot := pilot, sys := sys, pwr := pwr
      tim := tim, sto := sto, keys := keys, upd := upd, hif := hif, tok := tok, lf := lf, rf := rf, rng := rng, rel := rel, sym := sym
      nfc := nfc
      tag := { s.tag with
        password := password', key := key', pwdFail := pwdFail', keyFail := keyFail', tagMode := tagMode', types := types'
        wrLevel := wrLevel', idOpen := idOpen', hostOpen := hostOpen', works := works', field := field', fieldEnd := fieldEnd'
        selected := selected', uid := uid', app := app', rc := rc', tc := tc', ownEnd := ownEnd', level := level', resEnd := resEnd'
        resOver := resOver', statusSeq := statusSeq', pendTail := pendTail', pendStat := pendStat', retryMt := retryMt', alarm := alarm'
        noise := noise', lastAnswer := lastAnswer' } } := h

/-- The network beside the SRAM of the islands. -/
theorem State.Tidy.netSet (h : r.Tidy s) {mt draws fuses vault nand update pilot sys pwr tim sto keys upd hif tok lf rf rng rel sym nfc
    waiting' runs' ports' held15' accepted' lastError' segments' openTx' heldOut' reloads' commitNo' appliedNo' cmdAt'
    cmdApplied' records' lastCommit' faultMtA' faultMtB' testing' loading' spareOk' promoteWait' restartAt' tiles' jobs'
    arrival' background' bankErrs' banksOut' rebuilt' buffers' freePool' captureBufs'} :
    r.Tidy { s with
      mt := mt, draws := draws, fuses := fuses, vault := vault, nand := nand, update := update, pilot := pilot, sys := sys, pwr := pwr
      tim := tim, sto := sto, keys := keys, upd := upd, hif := hif, tok := tok, lf := lf, rf := rf, rng := rng, rel := rel, sym := sym
      nfc := nfc
      net := { s.net with
        waiting := waiting', runs := runs', ports := ports', held15 := held15', accepted := accepted', lastError := lastError'
        segments := segments', openTx := openTx', heldOut := heldOut', reloads := reloads', commitNo := commitNo', appliedNo := appliedNo'
        cmdAt := cmdAt', cmdApplied := cmdApplied', records := records', lastCommit := lastCommit', faultMtA := faultMtA'
        faultMtB := faultMtB', testing := testing', loading := loading', spareOk := spareOk', promoteWait := promoteWait'
        restartAt := restartAt', tiles := tiles', jobs := jobs', arrival := arrival', background := background', bankErrs := bankErrs'
        banksOut := banksOut', rebuilt := rebuilt', buffers := buffers', freePool := freePool', captureBufs := captureBufs' } } := h

theorem norErase_wf {cells : List Host.Cell} {a n : Nat} (h : memoryWf norDefault cells = true) : memoryWf norDefault (norErase cells a n) = true :=
  sparseFilter_wf _ _ _ _ h

theorem norWrite_wf {cells : List Host.Cell} {a : Nat} {bs : Bytes} (h : memoryWf norDefault cells = true) :
    memoryWf norDefault (norWrite cells a bs) = true := sparsePutAll_wf _ _ _ _ h

/-- A restart clears the registers and the SRAM and keeps the NOR and the tag. -/
theorem State.Tidy.cleared (h : r.Tidy s) {t : State} (hq : t.pending = s.pending := by rfl) (hregs : t.regs = [] := by rfl)
    (hsram : t.net.sram = [] := by rfl) (hnor : t.nor = s.nor := by rfl) (htag : t.tag = s.tag := by rfl) : r.Tidy t := by
  refine ⟨hq.trans h.1, fun hr => ?_⟩
  obtain ⟨_, hn, ht, _⟩ := s.canonical_iff.mp (h.2 hr)
  rw [State.canonical_iff, hregs, hsram, hnor, htag]
  exact ⟨rfl, hn, ht, rfl⟩

/-- A fold that carries a state beside other values. -/
theorem State.Tidy.foldlFst {α β : Type} {f : State × α → β → State × α} {p : State × α} (h : r.Tidy p.1)
    (hf : ∀ q x, r.Tidy q.1 → r.Tidy (f q x).1) {l : List β} : r.Tidy (l.foldl f p).1 := by
  induction l generalizing p with
  | nil => exact h
  | cons x xs ih => exact ih (hf p x h)

/-- The cells of the NOR after an erase or a write. -/
theorem State.Tidy.norSet (h : r.Tidy s) {cells : List Host.Cell}
    (hcells : memoryWf norDefault s.nor.cells = true → memoryWf norDefault cells = true) {sys : Sys} :
    r.Tidy { s with nor := { s.nor with cells := cells }, sys := sys } := by
  refine ⟨h.1, fun hr => ?_⟩
  obtain ⟨hregs, hnor, htag, hsram⟩ := s.canonical_iff.mp (h.2 hr)
  exact (State.canonical_iff _).mpr ⟨hregs, hcells hnor, htag, hsram⟩

end
end Sys2Proof.Machine
end

section
/-! SUPPORT. The functions of Ops, Islands, Mailbox, Network, Storage keep the commands that wait and the canonical form of the memories. -/
namespace Sys2Proof.Machine

open Sys2Proof

-- One declaration after another: checking many at a time takes more memory than the text may use.
set_option Elab.async false

section
variable {r s : State}

/-! ## Ops -/

theorem State.Tidy.setReg (h : r.Tidy s) {off v : Nat} : r.Tidy (s.setReg off v) := by
  refine ⟨h.1, fun hr => ?_⟩
  obtain ⟨hregs, hrest⟩ := s.canonical_iff.mp (h.2 hr)
  exact (State.canonical_iff _).mpr ⟨sparsePut_wf _ _ _ _ hregs, hrest⟩

theorem State.Tidy.put (h : r.Tidy s) {f : Field} {v : Nat} : r.Tidy (s.put f v) := h.setReg
theorem State.Tidy.putFlag (h : r.Tidy s) {f : Field} {b : Bool} : r.Tidy (s.putFlag f b) := h.put
theorem State.Tidy.event (h : r.Tidy s) {f : Field} : r.Tidy (s.event f) := h.put
theorem State.Tidy.bumpBy (h : r.Tidy s) {f : Field} {n : Nat} : r.Tidy (s.bumpBy f n) := h.put
theorem State.Tidy.bump (h : r.Tidy s) {f : Field} : r.Tidy (s.bump f) := h.bumpBy
theorem State.Tidy.reason (h : r.Tidy s) {u : Subsys} {code : Nat} : r.Tidy (s.reason u code) := h.put
theorem State.Tidy.setEnabled (h : r.Tidy s) {u : Subsys} {b : Bool} : r.Tidy (s.setEnabled u b) := h.setReg

theorem State.Tidy.generated (h : r.Tidy s) {n : Nat} {pr : Bool} : r.Tidy (s.generated n pr) := by
  unfold State.generated
  extract_lets _ _ s1 _
  have h1 : r.Tidy s1 := h.set
  exact h1.set.setReg.ite h1.setReg

theorem State.Tidy.fresh (h : r.Tidy s) {n : Nat} : r.Tidy (s.fresh n) := h.generated
theorem State.Tidy.freshPr (h : r.Tidy s) {n : Nat} : r.Tidy (s.freshPr n) := h.generated

theorem State.Tidy.signSecret (h : r.Tidy s) {n : Nat} : r.Tidy (State.signSecret n s).2 := by
  induction n generalizing s with
  | zero => exact h
  | succ n ih =>
    unfold State.signSecret
    dsimp only
    split
    · exact h.freshPr
    · exact ih h.freshPr

theorem State.Tidy.sign (h : r.Tidy s) {key digest : Bytes} : r.Tidy (s.sign key digest).2 := by
  unfold State.sign
  extract_lets x
  have hx : r.Tidy x.2 := h.signSecret
  dsimp only
  exact hx

theorem State.Tidy.tagPut (h : r.Tidy s) {block : Nat} {bs : Bytes} : r.Tidy (s.tagPut block bs) := by
  refine ⟨h.1, fun hr => ?_⟩
  obtain ⟨hregs, hnor, htag, hsram⟩ := s.canonical_iff.mp (h.2 hr)
  exact (State.canonical_iff _).mpr ⟨hregs, hnor, sparsePutAll_wf _ _ _ _ htag, hsram⟩

theorem State.Tidy.statusCopy (h : r.Tidy s) : r.Tidy s.statusCopy := h.ite (h.tagSet.ite h.tagPut.tagSet)
theorem State.Tidy.tailPut (h : r.Tidy s) {seq : Nat} {e : Bytes} : r.Tidy (s.tailPut seq e) := h.tagPut.put
theorem State.Tidy.tailMirror (h : r.Tidy s) {seq : Nat} {e : Bytes} : r.Tidy (s.tailMirror seq e) := h.ite (h.tagSet.ite h.tailPut)
theorem State.Tidy.dropIntervals (h : r.Tidy s) : r.Tidy s.dropIntervals := h.set.ite h
theorem State.Tidy.setDie (h : r.Tidy s) {d : Nat} {x : Die} : r.Tidy (s.setDie d x) := h.set
theorem State.Tidy.program (h : r.Tidy s) {region d n : Nat} : r.Tidy (s.program region d n) := h.set

theorem State.Tidy.drainPage (h : r.Tidy s) : r.Tidy s.drainPage := by
  unfold State.drainPage
  split
  · exact h
  · exact h.ite h.dropIntervals.program.set

theorem State.Tidy.refreshWarn (h : r.Tidy s) : r.Tidy s.refreshWarn := h.putFlag.event.reason.ite h.putFlag

theorem State.Tidy.commitEntry (h : r.Tidy s) {type reason src flags mt : Nat} {body : Bytes} :
    r.Tidy (s.commitEntry type reason src flags mt body) := by
  unfold State.commitEntry
  dsimp only
  have hd := h.drainPage.ite h (c := (decide (256 ≤ s.vault.staging.kept.length) && s.vault.staging.gap.isNone && s.nandUp) = true)
  exact (hd.netSet.event.reason.ite hd.netSet).refreshWarn.tailMirror.statusCopy

theorem State.Tidy.journal (h : r.Tidy s) {type reason : Nat} {u : Subsys} {flags : Nat} {body : Bytes} :
    r.Tidy (s.journal type reason u flags body) := h.commitEntry.ite h.set

theorem State.Tidy.flushLatched (h : r.Tidy s) : r.Tidy s.flushLatched := h.set.foldl fun _ _ ht => ht.commitEntry
theorem State.Tidy.firstReady (h : r.Tidy s) : r.Tidy s.firstReady := h.ite h.set.setReg.setReg

theorem State.Tidy.refresh (h : r.Tidy s) : r.Tidy s.refresh := by
  unfold State.refresh
  extract_lets _ _ _ _ _ _ s1 s2 s3 s4
  have h1 : r.Tidy s1 := h.setReg
  have h2 : r.Tidy s2 := h1.putFlag.event.ite h1
  have h3 : r.Tidy s3 := h2.putFlag.event.ite h2
  have h4 : r.Tidy s4 := h3.firstReady.ite h3
  exact h4.statusCopy.ite h4

theorem State.Tidy.setPhase (h : r.Tidy s) {p : Nat} : r.Tidy (s.setPhase p) := h.put.setReg
theorem State.Tidy.latch (h : r.Tidy s) {k : LatchKind} : r.Tidy (s.latch k) := h.set
theorem State.Tidy.refreshKeyStat (h : r.Tidy s) : r.Tidy s.refreshKeyStat := h.put.putFlag.put
theorem State.Tidy.armMonitors (h : r.Tidy s) : r.Tidy s.armMonitors := h.setReg

theorem State.Tidy.restart (h : r.Tidy s) {source : Nat} : r.Tidy (s.restart source) := by
  unfold State.restart
  exact (h.cleared.put.armMonitors.putFlag.ite h.cleared.put.armMonitors).setPhase

theorem State.Tidy.enterRecovery (h : r.Tidy s) {c : RecCause} {code : Nat} :
    r.Tidy (s.enterRecovery c code) := h.set.setReg.setPhase.put.setReg.netSet.refreshKeyStat.refresh

/-! ## Islands -/

theorem State.Tidy.setIsland (h : r.Tidy s) {i v : Nat} : r.Tidy (s.setIsland i v) := h.ite h.setReg
theorem State.Tidy.setVote (h : r.Tidy s) {c i : Nat} {b : Bool} : r.Tidy (s.setVote c i b) := h.put
theorem State.Tidy.redLoss (h : r.Tidy s) {g : Nat} : r.Tidy (s.redLoss g) := h.setReg.event
theorem State.Tidy.redClear (h : r.Tidy s) {g : Nat} : r.Tidy (s.redClear g) := h.setReg
theorem State.Tidy.dropDependants (h : r.Tidy s) : r.Tidy s.dropDependants := h.foldl fun _ _ ht => ht.setEnabled.reason.ite ht
theorem State.Tidy.goDown (h : r.Tidy s) {u : Subsys} {code : Nat} : r.Tidy (s.goDown u code) := h.setEnabled.reason.dropDependants.refresh
theorem State.Tidy.recheck (h : r.Tidy s) : r.Tidy s.recheck := h.set

theorem State.Tidy.linksDown (h : r.Tidy s) : r.Tidy s.linksDown := by
  unfold State.linksDown
  extract_lets _ s1 s2 s3
  have h1 : r.Tidy s1 := h.setReg
  have h2 : r.Tidy s2 := h1.put.put.put
  have h3 : r.Tidy s3 := h2.put
  exact h3.ite h3.event

theorem State.Tidy.failIslandBy (h : r.Tidy s) {i : Nat} {switch : Bool} : r.Tidy (s.failIslandBy i switch) := by
  unfold State.failIslandBy
  refine h.ite ?_
  extract_lets _ s1 s2 s3 s4 s5
  have h1 : r.Tidy s1 := h.setIsland.put
  have h2 : r.Tidy s2 := h1.event.reason
  have h3 : r.Tidy s3 := h2.foldl fun _ _ ht => ht.setEnabled.reason.ite ht
  have h4 : r.Tidy s4 := h3.putFlag.putFlag.ite h3
  have h5 : r.Tidy s5 := h4.linksDown.ite h4
  exact h5.dropDependants.refresh

theorem State.Tidy.failIsland (h : r.Tidy s) {i : Nat} : r.Tidy (s.failIsland i) := h.failIslandBy
theorem State.Tidy.commitPoint (h : r.Tidy s) : r.Tidy s.commitPoint := h.netSet
theorem State.Tidy.touch (h : r.Tidy s) : r.Tidy s.touch := h.set
theorem State.Tidy.rfState (h : r.Tidy s) {n : Nat} : r.Tidy (s.rfState n) := h.put
theorem State.Tidy.synLock (h : r.Tidy s) {n : Nat} {b : Bool} : r.Tidy (s.synLock n b) := h.putFlag
theorem State.Tidy.rfIdle (h : r.Tidy s) : r.Tidy s.rfIdle := h.rfState.ite (h.rfState.ite (h.synLock.synLock.rfState.ite h.rfState))

/-! ## Mailbox -/

theorem State.Tidy.mbRefuse' (h : r.Tidy s) {code : Nat} : r.Tidy (mbRefuse s code).1 := h
theorem State.Tidy.mbFail' (h : r.Tidy s) {u : Subsys} {code : Nat} : r.Tidy (mbFail s u code).1 := h.reason
theorem State.Tidy.mbOk' (h : r.Tidy s) {out : Bytes} : r.Tidy (mbOk s out).1 := h

theorem State.Tidy.placeOut (h : r.Tidy s) : r.Tidy s.placeOut := by
  unfold State.placeOut
  refine h.ite ?_
  split
  · exact h
  · exact h.set.setReg.event

theorem State.Tidy.deliver (h : r.Tidy s) {t : Transport} {src : Nat} {m : Bytes} : r.Tidy (s.deliver t src m) := by
  unfold State.deliver
  split
  · exact h.set.placeOut
  · exact h.set.ite h.set

theorem State.Tidy.answer (h : r.Tidy s) {c : MbCmd} {reason : Nat} {out : Bytes} :
    r.Tidy (s.answer c reason out) := (((h.reason.ite h).deliver).setReg).event

theorem State.Tidy.finish (h : r.Tidy s) {reason : Nat} {out : Bytes} : r.Tidy (s.finish reason out) := by
  unfold State.finish
  split
  · exact h
  · exact h.set.putFlag.answer

theorem State.Tidy.runAs (h : r.Tidy s) {c : MbCmd} {op : State → MbRes} (hop : ∀ t, r.Tidy t → r.Tidy (op t).1) : r.Tidy (s.runAs c op) := by
  unfold State.runAs
  extract_lets _ s1 _ r'
  have h1 : r.Tidy s1 := h.set.putFlag.touch
  have hr' : r.Tidy r'.1 := hop _ h1
  exact ((h1.reason.ite h1).finish).ite (hr'.ite hr'.finish)

theorem State.Tidy.enqueue (h : r.Tidy s) {c : MbCmd} : r.Tidy (s.enqueue c) := h.reason.event.answer.ite h.set.put
theorem State.Tidy.refuseMessage (h : r.Tidy s) : r.Tidy s.refuseMessage := h.reason.event

theorem State.Tidy.mailboxCommand' (h : r.Tidy s) {opcode : Nat} {input : Bytes} {op : State → MbRes} (hop : ∀ t, r.Tidy t → r.Tidy (op t).1) :
    r.Tidy (mailboxCommand opcode input op s) := h.refuseMessage.ite (h.enqueue.ite (h.runAs hop))

/-! ## Network -/

theorem State.Tidy.commitDue (h : r.Tidy s) : r.Tidy s.commitDue := h.commitPoint.ite h

theorem State.Tidy.puppeteerOutvote' (h : r.Tidy s) {ctrl : Nat} {reloads : Bool} : r.Tidy (puppeteerOutvote ctrl reloads s) := by
  unfold puppeteerOutvote
  cases reloads
  · exact h.netSet.event.reason.redLoss.journal
  · exact h.netSet.event.reason.journal

theorem State.Tidy.setTile (h : r.Tidy s) {n : Nat} {t : Tile} : r.Tidy (s.setTile n t) := h.netSet

theorem State.Tidy.wipeSram (h : r.Tidy s) {i : Nat} : r.Tidy (s.wipeSram i) := by
  refine ⟨h.1, fun hr => ?_⟩
  obtain ⟨hregs, hnor, htag, hsram⟩ := s.canonical_iff.mp (h.2 hr)
  exact (State.canonical_iff _).mpr ⟨hregs, hnor, htag, sparseFilter_wf _ _ _ _ hsram⟩

theorem State.Tidy.tileWorld (h : r.Tidy s) {n : Nat} {w : World} : r.Tidy (s.tileWorld n w) := h.wipeSram.ite h

theorem State.Tidy.placeJobs' (h : r.Tidy s) {n : Nat} : r.Tidy (placeJobs n s) := by
  induction n generalizing s with
  | zero => exact h
  | succ n ih =>
    unfold placeJobs
    split
    · exact ih h.tileWorld.setTile.netSet
    · exact h

theorem State.Tidy.placeBackground' (h : r.Tidy s) : r.Tidy (placeBackground s) := by
  unfold placeBackground
  refine h.ite ?_
  split
  · exact h.tileWorld.setTile.netSet
  · exact h

/-! ## Storage -/

theorem State.Tidy.stoEvent (h : r.Tidy s) {code die first last : Nat} : r.Tidy (s.stoEvent code die first last) := h.journal

theorem State.Tidy.lossEvent (h : r.Tidy s) {die : Nat} {positions : List Nat} : r.Tidy (s.lossEvent die positions) := by
  unfold State.lossEvent
  split
  · exact h.stoEvent
  · exact h

theorem State.Tidy.dieFail' (h : r.Tidy s) {d : Nat} : r.Tidy (dieFail d s) := by
  unfold dieFail
  refine h.ite ?_
  extract_lets _ s1 s1' s1'' _ _ _ _ _ s2 s3 s4
  have h1 : r.Tidy s1 := h.setDie.event
  have hs1' : r.Tidy s1' := h1.putFlag.putFlag
  have hs1'' : r.Tidy s1'' := hs1'.putFlag
  have h2 : r.Tidy s2 := hs1''.set
  have h3 : r.Tidy s3 := h2.reason.redLoss.dropIntervals
  have h4 : r.Tidy s4 := h3.ite h3.event
  exact hs1''.reason.putFlag.ite h4.lossEvent.lossEvent.lossEvent

theorem State.Tidy.blockRetired' (h : r.Tidy s) {d : Nat} : r.Tidy (blockRetired d s) := by
  unfold blockRetired
  extract_lets _ _ _ s1 s2 s3
  have h1 : r.Tidy s1 := h.setDie.event.reason
  have h2 : r.Tidy s2 := h1.put.put
  have h3 : r.Tidy s3 := h2.reason.ite h2
  exact h.ite (h3.dieFail'.ite h3)

theorem State.Tidy.vaultBankFail' (h : r.Tidy s) {b : Nat} {retries : Bool} : r.Tidy (vaultBankFail b retries s) := by
  unfold vaultBankFail
  extract_lets _ _ _ s0 _ _ s1 s2 s3
  have h0 : r.Tidy s0 := h.ite h.set
  have h1 : r.Tidy s1 := h0.set.event
  have h2 : r.Tidy s2 := h1.putFlag
  have h3 : r.Tidy s3 := h2.event.reason.redLoss
  exact h.ite (h0.ite (h3.reason.ite h3.goDown))

theorem State.Tidy.showMedia (h : r.Tidy s) : r.Tidy s.showMedia := h.putFlag.putFlag.putFlag.putFlag.putFlag.putFlag.setReg.setReg.setReg
theorem State.Tidy.served (h : r.Tidy s) {d c : Nat} : r.Tidy (s.served d c) := h.setDie
theorem State.Tidy.servedOn (h : r.Tidy s) {dies : List Nat} {c : Nat} : r.Tidy (s.servedOn dies c) := h.foldl fun _ _ ht => ht.served
theorem State.Tidy.collectBlock (h : r.Tidy s) {d : Nat} : r.Tidy (s.collectBlock d) := h.setDie

theorem State.Tidy.journalDrain' (h : r.Tidy s) {programOk : Bool} : r.Tidy (journalDrain programOk s) := by
  unfold journalDrain
  split
  · exact h
  · exact h.ite (h.served.drainPage.commitPoint.touch.ite h.served.blockRetired')

theorem State.Tidy.jrnlAck' (h : r.Tidy s) {hi : Nat} : r.Tidy (jrnlAck hi s) := h.setReg.set.refreshWarn

theorem State.Tidy.checkpoint' (h : r.Tidy s) : r.Tidy (checkpoint s) := by
  unfold checkpoint
  split
  · refine h.ite ?_
    extract_lets s' _
    have hs' : r.Tidy s' := h.servedOn
    split
    next sig s1 heq =>
      have h1 := hs'.sign.snd heq
      exact h1.set.program.event.setReg
  · exact h

theorem State.Tidy.acceptCapture (h : r.Tidy s) {w : CapWait} : r.Tidy (s.acceptCapture w) := h.set.journal.setReg.setReg

theorem State.Tidy.storeCapture (h : r.Tidy s) {c : Capture} : r.Tidy (s.storeCapture c) := by
  unfold State.storeCapture
  dsimp only
  split
  · exact h.set.program.setReg
  · exact h.set.program

theorem State.Tidy.captureProgram' (h : r.Tidy s) {programOk : Bool} : r.Tidy (captureProgram programOk s) := by
  unfold captureProgram
  split
  · exact h
  · exact h.ite (h.served.blockRetired'.ite h.served.set.storeCapture)

theorem State.Tidy.setPin (h : r.Tidy s) {n : Nat} {b : Bool} : r.Tidy (s.setPin n b) := h.set

theorem State.Tidy.capturePinOp' (h : r.Tidy s) {n : Nat} :
    r.Tidy (capturePinOp n s).1 := h.mbFail'.iteFst (h.mbOk'.iteFst (h.mbFail'.iteFst h.setPin.mbOk'))

theorem State.Tidy.captureUnpinOp' (h : r.Tidy s) {n : Nat} : r.Tidy (captureUnpinOp n s).1 := h.setPin.mbOk'.iteFst h.mbFail'
theorem State.Tidy.setStream (h : r.Tidy s) {k : Nat} {x : Stream} : r.Tidy (s.setStream k x) := h.set

theorem State.Tidy.appendNow (h : r.Tidy s) {k : Nat} {data : Bytes} {storeOk : Bool} : r.Tidy (s.appendNow k data storeOk).1 := by
  unfold State.appendNow
  split
  · exact h.mbFail'
  · exact h.mbFail'
  · extract_lets _ _ _ s1 _ _ s2
    have h1 : r.Tidy s1 := h.setStream.program
    have h2 : r.Tidy s2 := h1.set
    exact (h2.ite h2.blockRetired').mbOk'

theorem State.Tidy.streamAppendOp' (h : r.Tidy s) {k : Nat} {data : Bytes} {storeOk : Bool} : r.Tidy (streamAppendOp k data storeOk s).1 := by
  unfold streamAppendOp
  refine h.mbRefuse'.iteFst ?_
  extract_lets s0 _ _
  have h0 : r.Tidy s0 := h.putFlag.ite h
  split
  · exact h0.mbFail'
  · exact h0.mbFail'.iteFst (h0.servedOn.appendNow.iteFst h0.set)

theorem State.Tidy.streamTrimOp' (h : r.Tidy s) {k record : Nat} : r.Tidy (streamTrimOp k record s).1 := by
  unfold streamTrimOp
  split
  · exact h.mbFail'
  · exact h.mbFail'.iteFst (h.mbFail'.iteFst h.setStream.mbOk')

theorem State.Tidy.hostNoteOp' (h : r.Tidy s) {data : Bytes} : r.Tidy (hostNoteOp data s).1 := h.mbRefuse'.iteFst h.journal.mbOk'
theorem State.Tidy.scrubNow' (h : r.Tidy s) : r.Tidy (scrubNow s) := h.set

theorem State.Tidy.scrubPage' (h : r.Tidy s) {p : PageFact} : r.Tidy (scrubPage s p) := by
  unfold scrubPage
  split
  · exact h.bump.bump.ite h
  · exact h.reason.bump.bump
  · exact h.reason.event.stoEvent

theorem State.Tidy.foldMap (h : r.Tidy s) : r.Tidy s.foldMap := h.set

theorem State.Tidy.scrubSlice (h : r.Tidy s) {pages : List PageFact} {aged : Nat} {passEnds : Bool} : r.Tidy (s.scrubSlice pages aged passEnds) := by
  unfold State.scrubSlice
  extract_lets _ s1 s2 _
  have h1 : r.Tidy s1 := h.foldMap.bumpBy
  have h2 : r.Tidy s2 := h1.foldl fun _ _ ht => ht.scrubPage'
  exact h1.ite (h2.set.ite h2.set)

theorem State.Tidy.resealBlock (h : r.Tidy s) : r.Tidy s.resealBlock := (h.foldl fun _ _ ht => ht.setDie).set

theorem State.Tidy.serve (h : r.Tidy s) {r' : StoReq} : r.Tidy (s.serve r') := by
  unfold State.serve
  extract_lets s1
  have h1 : r.Tidy s1 := h.servedOn
  split
  · extract_lets x
    have hx : r.Tidy x.1 := h1.appendNow
    exact hx.finish
  · exact h1
  · exact h1.scrubSlice.ite h1
  · exact h1.collectBlock
  · exact h1.resealBlock

theorem State.Tidy.stoTurns' (h : r.Tidy s) {n : Nat} : r.Tidy (stoTurns n s) := by
  induction n generalizing s with
  | zero => exact h
  | succ n ih =>
    unfold stoTurns
    split
    · exact h
    · exact ih h.set.serve

theorem State.Tidy.dueStorage (h : r.Tidy s) : r.Tidy s.dueStorage := h.stoTurns'
theorem State.Tidy.request (h : r.Tidy s) {r' : StoReq} : r.Tidy (s.request r') := h.set.dueStorage
theorem State.Tidy.load' (h : r.Tidy s) : r.Tidy (load s) := h.ite h.set.setReg.request
theorem State.Tidy.winReady' (h : r.Tidy s) : r.Tidy (winReady s) := h.ite h.set.setReg.event

theorem State.Tidy.scrubRefresh' (h : r.Tidy s) {pages : List PageFact} {blocks : ScrubBlocks} {passEnds : Bool} :
    r.Tidy (scrubRefresh pages blocks passEnds s) := h.ite ((h.foldl fun _ _ ht => ht.request).request)

theorem State.Tidy.completeBlow (h : r.Tidy s) : r.Tidy s.completeBlow := by
  unfold State.completeBlow
  split
  · exact h
  · exact h.set

theorem State.Tidy.powerFailSave (h : r.Tidy s) {millivolt micros : Nat} : r.Tidy (s.powerFailSave millivolt micros) := by
  unfold State.powerFailSave
  extract_lets s1 _
  have h1 : r.Tidy s1 := by
    unfold s1
    split
    · exact h.storeCapture.ite h
    · exact h
  exact h1.set

theorem State.Tidy.off (h : r.Tidy s) : r.Tidy s.off := h.cleared

theorem State.Tidy.cutHead (h : r.Tidy s) : r.Tidy s.cutHead := by
  unfold State.cutHead
  split
  · exact h.set.ite h
  · exact h

theorem State.Tidy.leaveCut (h : r.Tidy s) {cut : PowerCut} : r.Tidy (s.leaveCut cut) := by
  unfold State.leaveCut
  extract_lets s1 _ _
  have h1 : r.Tidy s1 := h.cutHead.ite h
  exact h1.setDie.setDie

theorem State.Tidy.powerFail' (h : r.Tidy s) {cut : Option PowerCut} {millivolt micros : Nat} : r.Tidy (powerFail cut millivolt micros s) := by
  unfold powerFail
  refine h.ite ?_
  extract_lets s1 _ _ s2
  have h1 : r.Tidy s1 := h.completeBlow
  have h2 : r.Tidy s2 := by
    unfold s2
    split
    · exact h1.powerFailSave
    · exact h1.set.leaveCut
  exact h2.off

theorem State.Tidy.repairStaging (h : r.Tidy s) : r.Tidy s.repairStaging := by
  unfold State.repairStaging
  split
  · exact h.set.ite h
  · exact h

theorem State.Tidy.repairNand (h : r.Tidy s) : r.Tidy s.repairNand := h.ite h.foldMap.set

theorem State.Tidy.stoEnabled (h : r.Tidy s) : r.Tidy s.stoEnabled := by
  unfold State.stoEnabled
  extract_lets s1 s2 _ s3 s4 s5 _
  have h1 : r.Tidy s1 := h.showMedia.setReg.setReg
  have h2 : r.Tidy s2 := h1.flushLatched
  have h3 : r.Tidy s3 := h2.journal.ite h2
  have h4 : r.Tidy s4 := h3.putFlag.reason.ite h3
  have h5 : r.Tidy s5 := h4.foldl fun _ _ ht => ht.event.stoEvent
  exact h5.set

end

end Sys2Proof.Machine
end

section
/-! SUPPORT. The functions of Time, Power, Channels, Packets, Requests keep the commands that wait and the canonical form of the memories. -/
namespace Sys2Proof.Machine

open Sys2Proof

-- One declaration after another: checking many at a time takes more memory than the text may use.
set_option Elab.async false

section
variable {r s : State}

/-! ## Time -/

theorem State.Tidy.tick' (h : r.Tidy s) : r.Tidy (tick s) := h.ite h.set

theorem State.Tidy.setRegs (h : r.Tidy s) {off : Nat} {l : List Word} : r.Tidy (s.setRegs off l) := by
  induction l generalizing s off with
  | nil => exact h
  | cons w ws ih => exact ih h.setReg

theorem State.Tidy.snap' (h : r.Tidy s) : r.Tidy (snap s) := h.setRegs
theorem State.Tidy.setNtState (h : r.Tidy s) {n : Nat} : r.Tidy (s.setNtState n) := h.ite h.put.event
theorem State.Tidy.setPulse (h : r.Tidy s) {n : Nat} {p : Pulse} : r.Tidy (s.setPulse n p) := h.set

theorem State.Tidy.stopPulse (h : r.Tidy s) {n : Nat} : r.Tidy (s.stopPulse n) := by
  unfold State.stopPulse
  extract_lets s1 s2 _ s3 _
  have h1 : r.Tidy s1 := h.putFlag.putFlag
  have h2 : r.Tidy s2 := h1.put
  have h3 : r.Tidy s3 := h2.setPulse
  exact h3.ite h3.setVote

theorem State.Tidy.pulseStep (h : r.Tidy s) {old new n : Nat} : r.Tidy (s.pulseStep old new n) := by
  unfold State.pulseStep
  refine h.ite ?_
  extract_lets _ _ _ _ _ _ s1 s2
  have h1 : r.Tidy s1 := h.setPulse
  have h2 : r.Tidy s2 := h1.ite h1.bumpBy.event.reason
  exact h2.stopPulse.ite h2

theorem State.Tidy.loadNt (h : r.Tidy s) {ns : Nat} : r.Tidy (s.loadNt ns) := h.set.foldl fun _ _ ht => ht.pulseStep
theorem State.Tidy.hostSynced (h : r.Tidy s) : r.Tidy s.hostSynced := h.set.setNtState
theorem State.Tidy.ntSet' (h : r.Tidy s) : r.Tidy (ntSet s) := h.reason.ite (h.reason.ite h.loadNt.hostSynced)
theorem State.Tidy.ntStep' (h : r.Tidy s) : r.Tidy (ntStep s) := h.reason.ite h.loadNt.hostSynced
theorem State.Tidy.hostSync' (h : r.Tidy s) : r.Tidy (hostSync s) := h.ite h.hostSynced
theorem State.Tidy.ntIncWrite' (h : r.Tidy s) {int : Nat} : r.Tidy (ntIncWrite int s) := h.reason.ite (h.reason.ite h.put.set)
theorem State.Tidy.holdExpiry' (h : r.Tidy s) : r.Tidy (holdExpiry s) := h.setNtState.reason.event.ite h
theorem State.Tidy.enterHold (h : r.Tidy s) : r.Tidy s.enterHold := h.set.setNtState.reason.event.bump
theorem State.Tidy.syncTimeout' (h : r.Tidy s) : r.Tidy (syncTimeout s) := h.enterHold.ite h
theorem State.Tidy.ntToRc (h : r.Tidy s) : r.Tidy s.ntToRc := h.ite h.setNtState.reason
theorem State.Tidy.ntNap (h : r.Tidy s) : r.Tidy s.ntNap := h.set

theorem State.Tidy.ntRestore (h : r.Tidy s) : r.Tidy s.ntRestore := by
  unfold State.ntRestore
  split
  · exact h
  · extract_lets _ _ _ s1 _ _
    have h1 : r.Tidy s1 := h.set
    exact (h1.set.setNtState.ite h1.setNtState.reason.event).ite h1

theorem State.Tidy.followUp' (h : r.Tidy s) {stamp origin : Nat} {correction : Int} {source : Nat} :
    r.Tidy (followUp stamp origin correction source s) := by
  unfold followUp
  refine h.ite ?_
  extract_lets _ _ s1 s2 _ _ s4 _ _ _ s3 _ s5
  have h1 : r.Tidy s1 := h.set.setReg
  have h2 : r.Tidy s2 := h1.bump
  have h4 : r.Tidy s4 := h2.loadNt
  have h3 : r.Tidy s3 := h4.set.event.reason.bump.ite h2.set
  have h5 : r.Tidy s5 := h3.set
  exact h5.setNtState.ite h5

theorem State.Tidy.announce' (h : r.Tidy s) {source vector : Nat} : r.Tidy (announce source vector s) := h.ite (h.set.ite h)

theorem State.Tidy.pdelayResp' (h : r.Tidy s) {source sequence delay : Nat} : r.Tidy (pdelayResp source sequence delay s) := by
  unfold pdelayResp
  refine h.ite ?_
  extract_lets _ _ s1 s2
  have h1 : r.Tidy s1 := h.set.setReg.putFlag
  have h2 : r.Tidy s2 := h1.event.reason
  exact h1.ite (h2.enterHold.ite h2)

theorem State.Tidy.startPulse (h : r.Tidy s) {n t0 next : Nat} {auto : Bool} : r.Tidy (s.startPulse n t0 next auto) := by
  unfold State.startPulse
  extract_lets s1 s2 s3
  have h1 : r.Tidy s1 := h.putFlag.putFlag
  have h2 : r.Tidy s2 := h1.put
  have h3 : r.Tidy s3 := h2.setPulse
  exact h3.setVote.ite h3

theorem State.Tidy.pulseArm' (h : r.Tidy s) {n : Nat} : r.Tidy (pulseArm n s) := h.ite (h.reason.ite (h.reason.ite (h.reason.ite h.startPulse)))

theorem State.Tidy.pulseEdge' (h : r.Tidy s) {n : Nat} : r.Tidy (pulseEdge n s) := by
  unfold pulseEdge
  refine h.ite ?_
  extract_lets _ _
  split
  · exact h.ite (h.setPulse.putFlag.ite h.stopPulse.event)
  · exact h.ite h.setPulse.putFlag

theorem State.Tidy.pulseRecord (h : r.Tidy s) {b : Bytes} : r.Tidy (s.pulseRecord b) := by
  unfold State.pulseRecord
  extract_lets _ _ _ _ s1 s2
  have h1 : r.Tidy s1 := h.put.put.put
  have h2 : r.Tidy s2 := h1.setReg.setReg
  exact h2.startPulse.ite h2

theorem State.Tidy.timEnabled (h : r.Tidy s) : r.Tidy s.timEnabled := by
  unfold State.timEnabled
  extract_lets s1
  have h1 : r.Tidy s1 := h.putFlag.putFlag.putFlag
  split
  · exact h1
  · exact h1.foldl fun _ _ ht => ht.pulseRecord

theorem State.Tidy.setStampQueue (h : r.Tidy s) {p : Nat} {q : List TxStamp} : r.Tidy (s.setStampQueue p q) := h.set
theorem State.Tidy.pop' (h : r.Tidy s) {p : Nat} : r.Tidy (pop p s) := h.setStampQueue
theorem State.Tidy.ovfClear' (h : r.Tidy s) {p : Nat} : r.Tidy (ovfClear p s) := h.put.put
theorem State.Tidy.addStamp (h : r.Tidy s) {p : Nat} {e : TxStamp} : r.Tidy (s.addStamp p e) := h.setStampQueue.ite h.put.bump.reason.event

theorem State.Tidy.txStampEntry' (h : r.Tidy s) {p : Nat} {sent : Bool} : r.Tidy (txStampEntry p sent s) := by
  unfold txStampEntry
  split
  · exact h
  · extract_lets _ s1 s2 _
    have h1 : r.Tidy s1 := h.set
    have h2 : r.Tidy s2 := h1.ite h1.reason
    split
    · exact h2
    · exact h2.addStamp

theorem State.Tidy.abandonFrames (h : r.Tidy s) {port : Nat} : r.Tidy (s.abandonFrames port) := h.foldl fun _ _ ht => ht.txStampEntry'
theorem State.Tidy.ptOscFail' (h : r.Tidy s) : r.Tidy (ptOscFail s) := h.set.putFlag.event.reason.redLoss

/-! ## Power -/

theorem State.Tidy.voteless (h : r.Tidy s) {i : Nat} : r.Tidy (s.voteless i) := h.synLock.synLock.rfState.ite h

theorem State.Tidy.islandTo (h : r.Tidy s) {i v : Nat} : r.Tidy (s.islandTo i v) := by
  unfold State.islandTo
  extract_lets s1
  have h1 : r.Tidy s1 := h.setIsland
  exact h1.ntNap.ite (h1.voteless.ite h1)

theorem State.Tidy.followShared (h : r.Tidy s) : r.Tidy s.followShared := h.ite (h.setIsland.ite (h.setIsland.ite h.setIsland))

theorem State.Tidy.beginDrop (h : r.Tidy s) {i : Nat} : r.Tidy (s.beginDrop i) := by
  unfold State.beginDrop
  extract_lets _ s1 _ s2
  have h1 : r.Tidy s1 := h.set
  have h2 : r.Tidy s2 := h1.set
  exact h1.ite h2.islandTo.voteless.followShared

theorem State.Tidy.settle (h : r.Tidy s) {i : Nat} :
    r.Tidy (s.settle i) := h.ite (h.followShared.ite (h.ite (h.beginDrop.ite (h.islandTo.followShared.ite h))))

theorem State.Tidy.beginRestore (h : r.Tidy s) {i : Nat} : r.Tidy (s.beginRestore i) := by
  unfold State.beginRestore
  refine h.ite ?_
  refine h.ite ?_
  extract_lets _ s1 _
  have h1 : r.Tidy s1 := h.set
  exact h1.ite h1.set

theorem State.Tidy.restoreFor (h : r.Tidy s) {i : Nat} : r.Tidy (s.restoreFor i) := h.ite h.beginRestore
theorem State.Tidy.endEntry (h : r.Tidy s) : r.Tidy s.endEntry := h.set

theorem State.Tidy.abandonEntry (h : r.Tidy s) {code island client : Nat} :
    r.Tidy (s.abandonEntry code island client) := h.endEntry.setReg.bump.event.reason

theorem State.Tidy.voteInEntry (h : r.Tidy s) {c i : Nat} : r.Tidy (s.voteInEntry c i) := by
  unfold State.voteInEntry
  split
  · exact h
  · exact h.endEntry.ite (h.abandonEntry.ite h)

theorem State.Tidy.raiseVote (h : r.Tidy s) {c i : Nat} {doze : Bool} : r.Tidy (s.raiseVote c i doze) := by
  unfold State.raiseVote
  refine h.ite ?_
  extract_lets _ _ s1 s2 _ _ s3
  have h1 : r.Tidy s1 := h.set.setVote
  have h2 : r.Tidy s2 := h1.beginRestore.voteInEntry
  have h3 : r.Tidy s3 := h2.set.event.ite h2
  exact h3.setVote.beginRestore.ite h3

theorem State.Tidy.clientsWithdraw (h : r.Tidy s) {i : Nat} : r.Tidy (s.clientsWithdraw i) := h.set.put.settle

theorem State.Tidy.entryWalk' (h : r.Tidy s) {l : List Nat} : r.Tidy (entryWalk l s) := by
  induction l generalizing s with
  | nil => exact h
  | cons i is ih =>
    unfold entryWalk
    dsimp only
    split
    · exact h.clientsWithdraw.abandonEntry
    · exact ih h.clientsWithdraw

theorem State.Tidy.finishEntry (h : r.Tidy s) {e : StbyEntry} : r.Tidy (s.finishEntry e) := by
  unfold State.finishEntry
  extract_lets _ _
  refine h.ite ?_
  split
  · exact h.abandonEntry
  · exact h.set.clientsWithdraw

theorem State.Tidy.dueEntry (h : r.Tidy s) : r.Tidy s.dueEntry := by
  unfold State.dueEntry
  split
  · exact h
  · refine h.endEntry.ite ?_
    refine h.ite ?_
    split
    · exact h.finishEntry
    · exact h.set.entryWalk'

theorem State.Tidy.dropped (h : r.Tidy s) {i : Nat} : r.Tidy (s.dropped i) := by
  unfold State.dropped
  extract_lets _ s1 s2 _
  have h1 : r.Tidy s1 := h.set
  have h2 : r.Tidy s2 := h1.ite h1.islandTo.followShared
  exact h2.beginRestore.ite (h2.set.setReg.bump.ite h2)

theorem State.Tidy.dueDrops (h : r.Tidy s) : r.Tidy s.dueDrops := h.foldl fun _ _ ht => ht.dropped
theorem State.Tidy.standbyEntry' (h : r.Tidy s) : r.Tidy (standbyEntry s) := h.ite h.statusCopy.set.entryWalk'

theorem State.Tidy.stbyWaitTimeout' (h : r.Tidy s) : r.Tidy (stbyWaitTimeout s) := by
  unfold stbyWaitTimeout
  split
  · exact h
  · refine h.ite ?_
    split
    · exact h.abandonEntry
    · exact h

theorem State.Tidy.withdrawVote (h : r.Tidy s) {c i : Nat} : r.Tidy (s.withdrawVote c i) := by
  unfold State.withdrawVote
  extract_lets _ s0 _ s1 s2 _ _
  have h0 : r.Tidy s0 := h.set.ite h
  have h1 : r.Tidy s1 := h0.set.setVote
  have h2 : r.Tidy s2 := h1.settle
  exact h2.set.ite h2

theorem State.Tidy.islandRestored' (h : r.Tidy s) {i ppm : Nat} : r.Tidy (islandRestored i ppm s) := by
  unfold islandRestored
  refine h.ite ?_
  extract_lets _ s1 s2 s3 _
  have h1 : r.Tidy s1 := h.set
  have h2 : r.Tidy s2 := h1.setIsland.followShared
  have h3 : r.Tidy s3 := h2.ntRestore.ite (h2.rfIdle.ite h2)
  exact h3.placeJobs'.placeBackground'.ite (h3.set.put.ite h3)

theorem State.Tidy.restoreTimeout' (h : r.Tidy s) {i : Nat} : r.Tidy (restoreTimeout i s) := by
  unfold restoreTimeout
  split
  · exact h
  · exact h.ite (h.set.failIsland.reason.ite h.set)

theorem State.Tidy.levelChange' (h : r.Tidy s) {i level : Nat} {settles : Bool} : r.Tidy (levelChange i level settles s) := by
  unfold levelChange
  split
  · exact h
  · refine h.ite ?_
    extract_lets _ _ s1 _ _ s2
    have h1 : r.Tidy s1 := h.setReg
    have h2 : r.Tidy s2 := h1.set
    exact h2.ite h2.reason

theorem State.Tidy.reserveMt (h : r.Tidy s) {ok : Bool} : r.Tidy (s.reserveMt ok) := h.set.ite h.set.reason.event
theorem State.Tidy.reserveVoted (h : r.Tidy s) {ok : Bool} : r.Tidy (s.reserveVoted ok) := h.raiseVote.reserveMt.withdrawVote.ite h.reserveMt

theorem State.Tidy.noteVbat (h : r.Tidy s) {mv : Nat} : r.Tidy (s.noteVbat mv) := by
  unfold State.noteVbat
  extract_lets s1
  have h1 : r.Tidy s1 := h.put
  exact h1.put.ite h1

/-! ## Channels -/

theorem State.Tidy.switches (h : r.Tidy s) {op : Nat} : r.Tidy (s.switches op) := h.putFlag.putFlag.put.ite (h.put.ite (h.putFlag.putFlag.put.ite h))
theorem State.Tidy.channelsTake (h : r.Tidy s) {w : Nat} : r.Tidy (s.channelsTake w) := h.switches.set.ite h
theorem State.Tidy.relCommand (h : r.Tidy s) {op : Nat} : r.Tidy (s.relCommand op) := h.set.channelsTake
theorem State.Tidy.switchesDrop (h : r.Tidy s) : r.Tidy s.switchesDrop := h.switches
theorem State.Tidy.releaseVoteOff (h : r.Tidy s) : r.Tidy s.releaseVoteOff := h.withdrawVote.withdrawVote

/-! ## Packets -/

theorem State.Tidy.launch (h : r.Tidy s) {p : Packet} {src : Nat} : r.Tidy (s.launch p src) := h.netSet
theorem State.Tidy.send (h : r.Tidy s) {x : Send} : r.Tidy (s.send x) := h.netSet.ite h.launch
theorem State.Tidy.headerLeaves (h : r.Tidy s) {w : Waiting} : r.Tidy (s.headerLeaves w) := h.netSet.ite h

theorem State.Tidy.forward (h : r.Tidy s) {t : Turn} : r.Tidy (s.forward t).1 := by
  unfold State.forward
  dsimp only
  split
  · exact h
  · split
    · exact h
    · split
      · exact h.headerLeaves.netSet.netSet
      · exact h.headerLeaves.netSet.netSet

theorem State.Tidy.sramWrite (h : r.Tidy s) {i word : Nat} {ws : List (BitVec 64)} : r.Tidy (s.sramWrite i word ws) := by
  refine ⟨h.1, fun hr => ?_⟩
  obtain ⟨hregs, hnor, htag, hsram⟩ := s.canonical_iff.mp (h.2 hr)
  exact (State.canonical_iff _).mpr ⟨hregs, hnor, htag, sparsePutAll_wf _ _ _ _ hsram⟩

theorem State.Tidy.portAnswer (h : r.Tidy s) {d : Nat} {p : Packet} {op : Nat} {data : List (BitVec 64)} :
    r.Tidy (s.portAnswer d p op data) := h.launch

theorem State.Tidy.closeTx (h : r.Tidy s) {tag src : Nat} : r.Tidy (s.closeTx tag src) := by
  unfold State.closeTx
  split
  · exact h
  · exact h.netSet.settle.settle

theorem State.Tidy.acceptPacket (h : r.Tidy s) {p : Packet} : r.Tidy (s.acceptPacket p) := by
  unfold State.acceptPacket
  extract_lets _ _ _ _ s1 _ s1' _ _
  have h1 : r.Tidy s1 := h.netSet
  have hs1' : r.Tidy s1' := h.netSet
  exact h.ite ((h1.portAnswer.ite h1).ite (hs1'.closeTx.ite (hs1'.channelsTake.portAnswer.ite (hs1'.portAnswer.ite (hs1'.sramWrite.portAnswer.ite
      hs1')))))

theorem State.Tidy.segmentFailed (h : r.Tidy s) {w : Waiting} : r.Tidy (s.segmentFailed w) := by
  unfold State.segmentFailed
  extract_lets _ s1 s2
  have h1 : r.Tidy s1 := h.netSet
  have h2 : r.Tidy s2 := h1.redLoss.closeTx
  exact h2.failIsland.ite h2

theorem State.Tidy.arrive (h : r.Tidy s) {w : Waiting} :
    r.Tidy (s.arrive w) := (h.segmentFailed.ite h.netSet).ite (h.netSet.ite (h.netSet.restoreFor.ite h.acceptPacket))

theorem State.Tidy.moment (h : r.Tidy s) {ts : List Turn} : r.Tidy (s.moment ts) := by
  unfold State.moment
  dsimp only
  refine State.Tidy.foldl (State.Tidy.foldlFst h fun q x hq => ?_) fun t x ht => ht.arrive
  exact hq.forward

theorem State.Tidy.packetReceive' (h : r.Tidy s) {sends : List Send} {moments : List (List Turn)} {arrival : List Turn} :
    r.Tidy (packetReceive sends moments arrival s) := ((h.foldl fun _ _ ht => ht.send).foldl fun _ _ ht => ht.moment).moment

theorem State.Tidy.deliverPort (h : r.Tidy s) {i : Nat} : r.Tidy (s.deliverPort i) := (h.netSet.foldl fun _ _ ht => ht.acceptPacket).settle
theorem State.Tidy.deliver15 (h : r.Tidy s) : r.Tidy s.deliver15 := h.netSet.foldl fun _ _ ht => ht.acceptPacket

/-! ## Requests -/

theorem State.Tidy.sramPutBytes (h : r.Tidy s) {i off : Nat} {b : Bytes} : r.Tidy (s.sramPutBytes i off b) := h.ite h.sramWrite
theorem State.Tidy.putDst (h : r.Tidy s) {d : Bytes} {at_ : Nat} {b : Bytes} : r.Tidy (s.putDst d at_ b) := h.sramPutBytes
theorem State.Tidy.setCtx (h : r.Tidy s) {n : Nat} {c : Option Ctx} : r.Tidy (s.setCtx n c) := h.set

theorem State.Tidy.symRespond (h : r.Tidy s) {master : Nat} {keeper mailbox : Bool} {reason : Nat} {resp out : Bytes} :
    r.Tidy (s.symRespond master keeper mailbox reason resp out) := by
  unfold State.symRespond
  extract_lets _ s1
  have h1 : r.Tidy s1 := h.set
  exact h1.finish.ite h1

theorem State.Tidy.wipeReq (h : r.Tidy s) {r' : SymReq} : r.Tidy (s.wipeReq r') := by
  unfold State.wipeReq
  extract_lets s1
  have h1 : r.Tidy s1 := h.putDst
  exact h1.setCtx.ite h1

theorem State.Tidy.symDrop (h : r.Tidy s) {pick : SymReq → Bool} : r.Tidy (s.symDrop pick) := h.set.foldl fun _ _ ht => ht.wipeReq

theorem State.Tidy.symAbort (h : r.Tidy s) {pick : SymReq → Bool} {code : Nat} :
    r.Tidy (s.symAbort pick code) := h.set.foldl fun _ _ ht => ht.wipeReq.symRespond

theorem State.Tidy.symTamper (h : r.Tidy s) : r.Tidy s.symTamper := h.symAbort.event

theorem State.Tidy.symTakeover (h : r.Tidy s) {master : Nat} : r.Tidy (s.symTakeover master) := by
  unfold State.symTakeover
  extract_lets _ s1 _ s2
  have h1 : r.Tidy s1 := h.symDrop
  have h2 : r.Tidy s2 := h1.set
  exact h2.reason.ite h2

end

end Sys2Proof.Machine
end

section
/-! SUPPORT. The functions of Keys, Sequencer, Air keep the commands that wait and the canonical form of the memories. -/
namespace Sys2Proof.Machine

open Sys2Proof

-- One declaration after another: checking many at a time takes more memory than the text may use.
set_option Elab.async false

section
variable {r s : State}

/-! ## Keys -/

theorem State.Tidy.refreshKeys (h : r.Tidy s) : r.Tidy s.refreshKeys := by
  unfold State.refreshKeys
  extract_lets _ s1 s2 s3
  have h1 : r.Tidy s1 := h.put.put
  have h2 : r.Tidy s2 := h1.putFlag.putFlag
  have h3 : r.Tidy s3 := h2.putFlag
  split <;> exact h3.setReg.put

theorem State.Tidy.commitGen (h : r.Tidy s) {recs : List KeyRec} {ok : Bool} :
    r.Tidy (s.commitGen recs ok).1 := h.reason.iteFst (h.event.reason.iteFst h.set.event.refreshKeys.commitPoint)

theorem State.Tidy.keyEvent (h : r.Tidy s) {code handle : Nat} : r.Tidy (s.keyEvent code handle) := h.journal

theorem State.Tidy.checkAuth (h : r.Tidy s) {scope : Nat} {input auth : Bytes} : r.Tidy (s.checkAuth scope input auth).1 := by
  unfold State.checkAuth
  refine .iteFst ?_ ?_
  · refine .iteFst ?_ h.set.event.bump
    dsimp only
    exact h
  · extract_lets _ _ s1
    have h1 : r.Tidy s1 := h.set
    exact h1.event.bump.iteFst h1.event.bump.reason

theorem State.Tidy.challengeOp' (h : r.Tidy s) : r.Tidy (challengeOp s).1 := h.mbFail'.iteFst h.fresh.set.mbOk'
theorem State.Tidy.zeroise (h : r.Tidy s) : r.Tidy s.zeroise := h.symDrop.set.put.putFlag.setReg.event.refreshKeys

theorem State.Tidy.finishReset (h : r.Tidy s) {source : Nat} {out : Bytes} : r.Tidy (s.finishReset source out) := by
  unfold State.finishReset
  split
  · exact h
  · extract_lets s1 _ _ _
    have h1 : r.Tidy s1 := h.finish
    exact h1.set

theorem State.Tidy.startBlow (h : r.Tidy s) {fuse opcode : Nat} : r.Tidy (s.startBlow fuse opcode).1 := h.set.event

theorem State.Tidy.integrateOp' (h : r.Tidy s) {hash : Bytes} :
    r.Tidy (integrateOp hash s).1 := h.mbRefuse'.iteFst (h.mbFail'.iteFst (h.mbFail'.iteFst h.set.startBlow))

theorem State.Tidy.fieldOp' (h : r.Tidy s) : r.Tidy (fieldOp s).1 := h.mbFail'.iteFst (h.mbFail'.iteFst h.startBlow)

theorem State.Tidy.retireOp' (h : r.Tidy s) {auth : Bytes} : r.Tidy (retireOp auth s).1 := by
  unfold retireOp
  refine h.mbFail'.iteFst ?_
  refine h.mbRefuse'.iteFst ?_
  extract_lets a
  have ha : r.Tidy a.1 := h.checkAuth
  exact ha.mbFail'.iteFst (ha.mbFail'.iteFst ha.zeroise.startBlow)

theorem State.Tidy.drawDeviceTag (h : r.Tidy s) : r.Tidy s.drawDeviceTag := h.ite h.fresh.set

theorem State.Tidy.monitorTrips (h : r.Tidy s) {code : Nat} : r.Tidy (s.monitorTrips code) := by
  unfold State.monitorTrips
  split
  · exact h.putFlag
  · exact h.putFlag
  · exact h.putFlag
  · exact h.putFlag
  · exact h.putFlag
  · exact h.putFlag
  · exact h.event
  · exact h

theorem State.Tidy.latchAlarm (h : r.Tidy s) {cls code : Nat} : r.Tidy (s.latchAlarm cls code) := by
  unfold State.latchAlarm
  extract_lets _ s1 s2 s3 s4 _ _
  have h1 : r.Tidy s1 := h.setReg
  have h2 : r.Tidy s2 := h1.setReg.setReg
  have h3 : r.Tidy s3 := by
    unfold s3
    split <;> exact h2.event.bump
  have h4 : r.Tidy s4 := h3.monitorTrips.reason
  exact h4.tagSet

theorem State.Tidy.t3Respond (h : r.Tidy s) {code : Nat} {cause : RecCause} :
    r.Tidy (s.t3Respond code cause) := h.symTamper.zeroise.tagSet.finish.enterRecovery

theorem State.Tidy.alarmEntry (h : r.Tidy s) {cls code : Nat} : r.Tidy (s.alarmEntry cls code) := h.journal
theorem State.Tidy.alarmWake (h : r.Tidy s) : r.Tidy s.alarmWake := h.raiseVote.raiseVote.raiseVote.ite h

theorem State.Tidy.t3 (h : r.Tidy s) {code : Nat} {cause : RecCause} : r.Tidy (s.t3 code cause) := by
  unfold State.t3
  extract_lets s1 _
  have h1 : r.Tidy s1 := h.latchAlarm.alarmWake
  exact h1.alarmEntry.ite (h1.set.ite h1.t3Respond)

theorem State.Tidy.awaitBlow (h : r.Tidy s) {d : Deferred} : r.Tidy (s.awaitBlow d) := h.set
theorem State.Tidy.debugVotes (h : r.Tidy s) {b : Bool} : r.Tidy (s.debugVotes b) := h.foldl fun _ _ ht => ht.setVote
theorem State.Tidy.openPort (h : r.Tidy s) : r.Tidy s.openPort := h.set.putFlag.debugVotes

theorem State.Tidy.svcUnlock' (h : r.Tidy s) {auth : Bytes} : r.Tidy (svcUnlock auth s) := by
  unfold svcUnlock
  refine h.ite ?_
  refine h.awaitBlow.ite ?_
  split
  · exact h.openPort
  · exact h.openPort
  · refine h.event.reason.ite ?_
    extract_lets a
    have ha : r.Tidy a.1 := by
      unfold a
      refine h.checkAuth.iteFst ?_
      dsimp only
      exact h
    exact ha.t3.ite ha.t3.event.openPort
  · exact h.t3

theorem State.Tidy.importOp' (h : r.Tidy s) {kind scope opcode : Nat} {sealed auth : Bytes} {commitOk : Bool} :
    r.Tidy (importOp kind scope opcode sealed auth commitOk s).1 := by
  unfold importOp
  refine h.mbRefuse'.iteFst ?_
  refine h.mbFail'.iteFst ?_
  extract_lets a _
  have ha : r.Tidy a.1 := h.checkAuth
  refine ha.mbFail'.iteFst ?_
  refine ha.mbFail'.iteFst ?_
  refine ha.mbFail'.iteFst ?_
  split
  · exact ha.mbFail'
  · refine ha.mbFail'.iteFst ?_
    extract_lets _
    split
    · exact ha.mbFail'
    · extract_lets _ c
      have hc : r.Tidy c.1 := ha.commitGen
      exact hc.mbFail'.iteFst hc.event.keyEvent.mbOk'

theorem State.Tidy.newKey (h : r.Tidy s) {kind index attr : Nat} : r.Tidy (s.newKey kind index attr).2 := h.freshPr
theorem State.Tidy.nameRotate (h : r.Tidy s) {handle : Nat} : r.Tidy (s.nameRotate handle) := h.event.setReg

theorem State.Tidy.keyGenerateOp' (h : r.Tidy s) {kind attr : Nat} {commitOk : Bool} : r.Tidy (keyGenerateOp kind attr commitOk s).1 := by
  unfold keyGenerateOp
  refine h.mbRefuse'.iteFst ?_
  refine h.mbFail'.iteFst ?_
  refine h.mbFail'.iteFst ?_
  refine h.mbFail'.iteFst ?_
  refine h.mbFail'.iteFst ?_
  split
  next r' t heq =>
    have ht := h.newKey.snd heq
    extract_lets c
    have hc : r.Tidy c.1 := ht.commitGen
    exact hc.mbFail'.iteFst (((hc.nameRotate.ite hc).keyEvent).mbOk')

theorem State.Tidy.keyExportOp' (h : r.Tidy s) {handle wrapping : Nat} : r.Tidy (keyExportOp handle wrapping s).1 := by
  unfold keyExportOp
  refine h.mbFail'.iteFst ?_
  refine h.mbFail'.iteFst ?_
  split
  · exact h.mbFail'
  · exact h.mbFail'
  · exact h.mbFail'.iteFst (h.mbFail'.iteFst h.mbOk')

theorem State.Tidy.keyDestroyOp' (h : r.Tidy s) {handle : Nat} {commitOk : Bool} : r.Tidy (keyDestroyOp handle commitOk s).1 := by
  unfold keyDestroyOp
  refine h.mbFail'.iteFst ?_
  refine h.mbFail'.iteFst ?_
  split
  · exact h.mbFail'
  · extract_lets c
    have hc : r.Tidy c.1 := h.commitGen
    exact hc.mbFail'.iteFst hc.keyEvent.mbOk'

theorem State.Tidy.keyRotateOp' (h : r.Tidy s) {handle : Nat} {commitOk : Bool} : r.Tidy (keyRotateOp handle commitOk s).1 := by
  unfold keyRotateOp
  refine h.mbFail'.iteFst ?_
  refine h.mbFail'.iteFst ?_
  refine h.mbFail'.iteFst ?_
  split
  · exact h.mbFail'
  · split
    next r' t heq =>
      have ht := h.newKey.snd heq
      extract_lets c s1
      have hc : r.Tidy c.1 := ht.commitGen
      have h1 : r.Tidy s1 := hc.setReg.ite hc
      exact hc.mbFail'.iteFst h1.keyEvent.mbOk'

theorem State.Tidy.keyAttrReadOp' (h : r.Tidy s) {handle : Nat} : r.Tidy (keyAttrReadOp handle s).1 := by
  unfold keyAttrReadOp
  refine h.mbFail'.iteFst ?_
  refine h.mbFail'.iteFst ?_
  split
  · exact h.mbFail'
  · exact h.mbOk'

theorem State.Tidy.markRotate (h : r.Tidy s) {handle : Nat} : r.Tidy (s.markRotate handle) := by
  unfold State.markRotate
  split
  · exact h.set.nameRotate
  · exact h

theorem State.Tidy.attestAOp' (h : r.Tidy s) {challenge : Bytes} : r.Tidy (attestAOp challenge s).1 := by
  unfold attestAOp
  refine h.mbRefuse'.iteFst ?_
  refine h.mbFail'.iteFst ?_
  refine h.mbFail'.iteFst ?_
  split
  · exact h.mbFail'
  · exact h.set.mbOk'

theorem State.Tidy.statement (h : r.Tidy s) {handle attr : Nat} {challenge pub : Bytes} : r.Tidy (s.statement handle attr challenge pub).2 := by
  unfold State.statement
  extract_lets _ x
  have hx : r.Tidy x.2 := h.sign
  dsimp only
  exact hx

theorem State.Tidy.statementBOp' (h : r.Tidy s) {handle : Nat} {challenge : Bytes} : r.Tidy (statementBOp handle challenge s).1 := by
  unfold statementBOp
  refine h.mbRefuse'.iteFst ?_
  refine h.mbFail'.iteFst ?_
  refine h.mbFail'.iteFst ?_
  refine .iteFst ?_ ?_
  · refine h.mbFail'.iteFst ?_
    extract_lets x
    have hx : r.Tidy x.2 := h.statement
    exact hx.mbOk'
  · refine h.mbFail'.iteFst ?_
    refine h.mbFail'.iteFst ?_
    split
    · exact h.mbFail'
    · refine .iteFst ?_ h.mbFail'
      refine h.mbFail'.iteFst ?_
      extract_lets x
      have hx : r.Tidy x.2 := h.statement
      exact hx.mbOk'

theorem State.Tidy.statementsReadOp' (h : r.Tidy s) : r.Tidy (statementsReadOp s).1 := h.mbFail'.iteFst (h.mbFail'.iteFst h.mbOk')
theorem State.Tidy.dikCertReadOp' (h : r.Tidy s) : r.Tidy (dikCertReadOp s).1 := h.mbFail'.iteFst h.mbOk'

theorem State.Tidy.startupStatements (h : r.Tidy s) : r.Tidy s.startupStatements := by
  unfold State.startupStatements
  refine h.ite ?_
  extract_lets jk kxk pxk _ c _ a b d u _ _
  have hjk : r.Tidy jk.2 := h.newKey
  have hkxk : r.Tidy kxk.2 := hjk.newKey
  have hpxk : r.Tidy pxk.2 := hkxk.newKey
  have hc : r.Tidy c.1 := hpxk.commitGen
  have ha : r.Tidy a.2 := hc.statement
  have hb : r.Tidy b.2 := ha.statement
  have hd : r.Tidy d.2 := hb.statement
  have hu : r.Tidy u := hd
  exact hc.ite hu.set

/-! ## Sequencer -/

theorem State.Tidy.abandonCal (h : r.Tidy s) : r.Tidy s.abandonCal := by
  unfold State.abandonCal
  split
  · exact h.ite h.set.event.bump.reason.putFlag.put
  · exact h

theorem State.Tidy.queueRadio (h : r.Tidy s) {c : RadioCmd} : r.Tidy (s.queueRadio c).1 := by
  unfold State.queueRadio
  extract_lets _ s1 _ s2
  have h1 : r.Tidy s1 := h.abandonCal
  have h2 : r.Tidy s2 := h1.set
  refine .iteFst ?_ (h.event.bump.reason.iteFst (h.event.bump.reason.iteFst (h2.rfState.ite h2)))
  exact h

theorem State.Tidy.queueWindow (h : r.Tidy s) {slots start us : Nat} {j : RadioJob} : r.Tidy (s.queueWindow slots start us j) := h.queueRadio
theorem State.Tidy.dropQueued (h : r.Tidy s) : r.Tidy s.dropQueued := h.set

theorem State.Tidy.dropOnAir (h : r.Tidy s) : r.Tidy s.dropOnAir := by
  unfold State.dropOnAir
  split
  · exact h.ite h.set.rfIdle
  · exact h

theorem State.Tidy.paMeasure (h : r.Tidy s) : r.Tidy s.paMeasure := h.set
theorem State.Tidy.endTest (h : r.Tidy s) : r.Tidy s.endTest := h.set.putFlag.put.ite h

theorem State.Tidy.radioYields (h : r.Tidy s) : r.Tidy s.radioYields := by
  unfold State.radioYields
  extract_lets s1
  have h1 : r.Tidy s1 := h.abandonCal
  exact h1.endTest.event.ite h1.endTest

/-! ## Air -/

theorem State.Tidy.setSlot (h : r.Tidy s) {n : Nat} {x : Slot} : r.Tidy (s.setSlot n x) := h.set
theorem State.Tidy.refreshSet (h : r.Tidy s) : r.Tidy s.refreshSet := h.put.put
theorem State.Tidy.setPath (h : r.Tidy s) {p : Nat} {x : PathRec} : r.Tidy (s.setPath p x) := h.set

theorem State.Tidy.countSlot (h : r.Tidy s) {n : Nat} : r.Tidy (s.countSlot n) := by
  unfold State.countSlot
  extract_lets _ _ s1
  have h1 : r.Tidy s1 := h.setSlot.event
  exact h.ite (h1.event.ite h1)

theorem State.Tidy.countPath (h : r.Tidy s) {p : Nat} : r.Tidy (s.countPath p) := by
  unfold State.countPath
  extract_lets _ _ s1
  have h1 : r.Tidy s1 := h.setPath.event
  exact h.ite (h1.event.ite h1)

theorem State.Tidy.lastRefuse (h : r.Tidy s) {path slot reason : Nat} : r.Tidy (s.lastRefuse path slot reason) := h.setReg

theorem State.Tidy.refuseAttempt (h : r.Tidy s) {path slot tid ctr req reason : Nat} :
    r.Tidy (s.refuseAttempt path slot tid ctr req reason) := h.lastRefuse.journal

theorem State.Tidy.refuseUnknown (h : r.Tidy s) {path tid ctr req : Nat} : r.Tidy (s.refuseUnknown path tid ctr req) := h.countPath.refuseAttempt
theorem State.Tidy.refuseMac (h : r.Tidy s) {path n tid ctr req : Nat} : r.Tidy (s.refuseMac path n tid ctr req) := h.countSlot.refuseAttempt
theorem State.Tidy.failSlot (h : r.Tidy s) {path n : Nat} : r.Tidy (s.failSlot path n) := h.countSlot.lastRefuse
theorem State.Tidy.standZero (h : r.Tidy s) : r.Tidy s.standZero := h.set
theorem State.Tidy.authSucceed (h : r.Tidy s) {path n : Nat} : r.Tidy (s.authSucceed path n) := h.setSlot.setPath.event.standZero.touch
theorem State.Tidy.journalAuth (h : r.Tidy s) {path n tid ctr req : Nat} : r.Tidy (s.journalAuth path n tid ctr req) := h.journal
theorem State.Tidy.acceptCtr (h : r.Tidy s) {n ctr : Nat} : r.Tidy (s.acceptCtr n ctr) := h.setSlot
theorem State.Tidy.retireSpent (h : r.Tidy s) {path n : Nat} : r.Tidy (s.retireSpent path n) := h.setSlot.event.journal.ite h
theorem State.Tidy.replay (h : r.Tidy s) {n : Nat} : r.Tidy (s.replay n) := h.setSlot.event
theorem State.Tidy.refreshLf (h : r.Tidy s) : r.Tidy s.refreshLf := ((h.foldl fun _ _ ht => ht.putFlag.putFlag).put).put
theorem State.Tidy.addUses (h : r.Tidy s) {p start : Nat} {ps : List Piece} {k2 : ℚ} : r.Tidy (s.addUses p start ps k2) := h.ite h.set

theorem State.Tidy.lfMeasured (h : r.Tidy s) {p c : Nat} {meas : List (Nat × Nat)} : r.Tidy (s.lfMeasured p c meas) := by
  unfold State.lfMeasured
  extract_lets _ _ _ s1 _
  have h1 : r.Tidy s1 := h.set
  split
  · exact h1
  · exact h1.set.put.put

theorem State.Tidy.sendLf (h : r.Tidy s) {p start : Nat} {ps : List Piece} {meas : List (Nat × Nat)} : r.Tidy (s.sendLf p start ps meas).1 := by
  unfold State.sendLf
  extract_lets _ _ _ s2 s3
  have h2 : r.Tidy s2 := h.addUses.foldl fun _ _ ht => ht.lfMeasured
  have h3 : r.Tidy s3 := (h2.foldl fun _ _ ht => ht.bump).ite h2
  exact h3.event.reason.ite h3

theorem State.Tidy.frameOn (h : r.Tidy s) {chs : List Nat} {start : Nat} : r.Tidy (s.frameOn chs start) := h.set

theorem State.Tidy.showRound (h : r.Tidy s) {round valid collided : Nat} {lfOnly : Bool} :
    r.Tidy (s.showRound round valid collided lfOnly) := h.put.put.put.putFlag

theorem State.Tidy.setHold (h : r.Tidy s) {h' : Option Hold} : r.Tidy (s.setHold h') := h.set.putFlag
theorem State.Tidy.dropJobs (h : r.Tidy s) {gone : Nat → Bool} : r.Tidy (s.dropJobs gone) := h.netSet

theorem State.Tidy.cutCandle (h : r.Tidy s) : r.Tidy s.cutCandle := by
  unfold State.cutCandle
  split
  · exact h
  · exact h.setHold.dropQueued.dropOnAir.dropJobs.set.ite h

theorem State.Tidy.pushLf (h : r.Tidy s) {r' : LfReq} : r.Tidy (s.pushLf r').1 := by
  unfold State.pushLf
  refine h.event.reason.iteFst ?_
  extract_lets _ s1
  have h1 : r.Tidy s1 := h.set
  exact (h1.cutCandle.ite h1).touch

theorem State.Tidy.airVotes (h : r.Tidy s) {pair : Bool} : r.Tidy (s.airVotes pair) := by
  unfold State.airVotes
  extract_lets s1
  have h1 : r.Tidy s1 := h.raiseVote.raiseVote
  exact h1.raiseVote.ite h1

theorem State.Tidy.lfDoze (h : r.Tidy s) : r.Tidy s.lfDoze := h.raiseVote.settle
theorem State.Tidy.releaseIdle (h : r.Tidy s) : r.Tidy s.releaseIdle := h.withdrawVote.withdrawVote.ite h

theorem State.Tidy.openRequest (h : r.Tidy s) {code path : Nat} {host : Bool} {confirm : Option (Nat × Nat)} :
    r.Tidy (s.openRequest code path host confirm).1 := h.set

theorem State.Tidy.updRequest (h : r.Tidy s) {id : Nat} {f : Request → Request} : r.Tidy (s.updRequest id f) := h.set

end

end Sys2Proof.Machine
end

section
/-! SUPPORT. The functions of Release, Buses, Cipher keep the commands that wait and the canonical form of the memories. -/
namespace Sys2Proof.Machine

open Sys2Proof

-- One declaration after another: checking many at a time takes more memory than the text may use.
set_option Elab.async false

section
variable {r s : State}

/-! ## Release -/

theorem State.Tidy.refreshRel (h : r.Tidy s) : r.Tidy s.refreshRel := h.set.putFlag
theorem State.Tidy.sendRoleTo (h : r.Tidy s) {r' mac : Nat} {msg : Bytes} : r.Tidy (s.sendRoleTo r' mac msg) := h.ite h.set
theorem State.Tidy.sendRole (h : r.Tidy s) {r' : Nat} {msg : Bytes} : r.Tidy (s.sendRole r' msg) := h.sendRoleTo
theorem State.Tidy.nextSeq (h : r.Tidy s) : r.Tidy s.nextSeq.1 := h.set.setReg

theorem State.Tidy.sendGrants (h : r.Tidy s) {st : RelStart} : r.Tidy (s.sendGrants st) := by
  unfold State.sendGrants
  extract_lets _ s0
  have h0 : r.Tidy s0 := h.set
  refine State.Tidy.foldl ?_ fun t x ht => ?_
  · exact h0
  · split
    · exact ht
    · exact ht.sendRole

theorem State.Tidy.sendRevoke (h : r.Tidy s) : r.Tidy s.sendRevoke := by
  unfold State.sendRevoke
  split
  next s1 n heq =>
    have h1 := h.nextSeq.fst heq
    refine State.Tidy.foldl ?_ fun t x ht => ?_
    · exact h1.set
    · split
      · exact ht
      · exact ht.sendRole

theorem State.Tidy.journalRel (h : r.Tidy s) {action code profile reason flags : Nat} :
    r.Tidy (s.journalRel action code profile reason flags) := h.journal

theorem State.Tidy.relLast (h : r.Tidy s) {action code reason : Nat} : r.Tidy (s.relLast action code reason) := h.setReg
theorem State.Tidy.relRefuse (h : r.Tidy s) {code reason : Nat} : r.Tidy (s.relRefuse code reason) := h.relLast.event.bump.reason

theorem State.Tidy.outputsOff (h : r.Tidy s) : r.Tidy s.outputsOff := by
  unfold State.outputsOff
  extract_lets s1
  have h1 : r.Tidy s1 := h.relCommand
  exact h1.ite h1.releaseVoteOff

theorem State.Tidy.outputsOn (h : r.Tidy s) : r.Tidy s.outputsOn := by
  unfold State.outputsOn
  extract_lets s1
  have h1 : r.Tidy s1 := h.relCommand
  exact h1.raiseVote.raiseVote.ite h1

theorem State.Tidy.setStart (h : r.Tidy s) {x : Option RelStart} : r.Tidy (s.setStart x) := by
  unfold State.setStart
  extract_lets _ s1
  have h1 : r.Tidy s1 := h.set
  exact h1.settle.ite h1

theorem State.Tidy.endGrant (h : r.Tidy s) {ok : Bool} {code slot : Nat} :
    r.Tidy (s.endGrant ok code slot) := h.put.journalRel.ite h.put.event.bump.reason.journalRel

theorem State.Tidy.grantStep (h : r.Tidy s) {st : RelStart} : r.Tidy (s.grantStep st) := by
  unfold State.grantStep
  split
  next s1 n heq =>
    have h1 := h.nextSeq.fst heq
    extract_lets _ _ s2 _ s3
    have h2 : r.Tidy s2 := h1.sendGrants
    have h3 : r.Tidy s3 := h2.set
    exact h3.put.ite h3.endGrant

theorem State.Tidy.failStart (h : r.Tidy s) {code slot reason : Nat} :
    r.Tidy (s.failStart code slot reason) := (((h.outputsOff.ite h).setStart).relRefuse).journalRel

theorem State.Tidy.pullIn (h : r.Tidy s) {st : RelStart} : r.Tidy (s.pullIn st) := h.outputsOn.setStart

theorem State.Tidy.startRelease (h : r.Tidy s) {code path : Nat} {o : TokOut} {profile : Nat} : r.Tidy (s.startRelease code path o profile) := by
  unfold State.startRelease
  extract_lets _ s0 _ _ s1 _ s2 _
  have h0 : r.Tidy s0 := h.set
  have h1 : r.Tidy s1 := h0.relLast
  have h2 : r.Tidy s2 := h1.grantStep
  refine h0.relLast.ite ?_
  refine h0.relRefuse.journalRel.ite ?_
  refine .ite ?_ (h1.grantStep.ite h1.set.setStart.restoreFor)
  split
  · exact h2.setStart
  · exact h2

theorem State.Tidy.noteTest (h : r.Tidy s) {t : OffTest} : r.Tidy (s.noteTest t) := by
  unfold State.noteTest
  extract_lets _ _ _ s1 _ s2 s3
  have h1 : r.Tidy s1 := h.put.put
  have h2 : r.Tidy s2 := h1.set
  have h3 : r.Tidy s3 := h2.event.reason.ite (h2.event.reason.ite h2)
  exact h3.refreshRel

theorem State.Tidy.offStateTest' (h : r.Tidy s) {t : OffTest} : r.Tidy (offStateTest t s) := by
  unfold offStateTest
  refine h.ite ?_
  split
  · refine h.ite ?_
    extract_lets s1
    have h1 : r.Tidy s1 := h.noteTest
    exact h1.failStart.ite (h1.ite h1.pullIn)
  · exact h.ite h.noteTest

theorem State.Tidy.dueRetry (h : r.Tidy s) : r.Tidy s.dueRetry := by
  unfold State.dueRetry
  split
  · exact h
  · refine h.ite ?_
    extract_lets _ s1
    have h1 : r.Tidy s1 := h.set
    split
    · exact h1.pullIn
    · exact h1

theorem State.Tidy.releaseCurrentCheck' (h : r.Tidy s) {ma : Nat} : r.Tidy (releaseCurrentCheck ma s) := by
  unfold releaseCurrentCheck
  extract_lets s' s1 s2 _ _
  have hs' : r.Tidy s' := h.dueRetry
  have h1 : r.Tidy s1 := hs'.put
  have h2 : r.Tidy s2 := h1.put.put.event
  split
  · exact hs'
  · exact hs'.ite (h2.set.failStart.refreshRel.ite (h1.event.bump.grantStep.ite h1.set.setStart))

theorem State.Tidy.settleStart (h : r.Tidy s) : r.Tidy s.settleStart := by
  unfold State.settleStart
  split
  · exact h.setStart.ite h
  · exact h

theorem State.Tidy.holdPwm' (h : r.Tidy s) : r.Tidy (holdPwm s) := by
  unfold holdPwm
  extract_lets s'
  have hs' : r.Tidy s' := h.dueRetry
  split
  · exact hs'
  · exact hs'.ite hs'.relCommand.setStart.settleStart

theorem State.Tidy.overCurrentTrip' (h : r.Tidy s) {low : Bool} : r.Tidy (overCurrentTrip low s) := by
  unfold overCurrentTrip
  refine h.ite ?_
  extract_lets s1 _ _ s2 _ s3
  have h1 : r.Tidy s1 := h.switchesDrop.releaseVoteOff
  have h2 : r.Tidy s2 := (h1.put.ite h1.put).event
  have h3 : r.Tidy s3 := h2.set
  exact h1.set.setStart.ite ((h3.failStart.ite h3.setStart.reason).refreshRel)

theorem State.Tidy.releaseOvertemp' (h : r.Tidy s) {low cool : Bool} : r.Tidy (releaseOvertemp low cool s) := by
  unfold releaseOvertemp
  refine .ite ?_ ?_
  · extract_lets s1 s2 _ _ s3
    have h1 : r.Tidy s1 := (h.put.ite h.put).event
    have h2 : r.Tidy s2 := h1.reason
    have h3 : r.Tidy s3 := h2.set
    exact h3.switchesDrop.releaseVoteOff.setStart.ite h3
  · split
    · exact h
    · refine h.ite ?_
      extract_lets _ s1
      have h1 : r.Tidy s1 := h.set
      split
      · exact h1.pullIn.ite h1
      · exact h1

theorem State.Tidy.relockNow (h : r.Tidy s) : r.Tidy s.relockNow := by
  unfold State.relockNow
  extract_lets _ s0 s1 s2 _ s3
  have h0 : r.Tidy s0 := h.outputsOff
  have h1 : r.Tidy s1 := h0.sendRevoke.ite h0
  have h2 : r.Tidy s2 := h1.put.event
  have h3 : r.Tidy s3 := h2.set.setStart
  exact h0.ite h3.journalRel

theorem State.Tidy.relockIfDue (h : r.Tidy s) : r.Tidy s.relockIfDue := by
  unfold State.relockIfDue
  extract_lets s' _
  have hs' : r.Tidy s' := h.refreshRel
  split
  · exact hs'.relockNow.ite hs'
  · exact hs'

theorem State.Tidy.relock' (h : r.Tidy s) : r.Tidy (relock s) := by
  unfold relock
  extract_lets s1 _
  have h1 : r.Tidy s1 := h.refreshRel
  exact h1.reason.ite (h1.ite h1.set.relockIfDue)

theorem State.Tidy.noStill (h : r.Tidy s) {r' : Nat} {mt : Option Nat} : r.Tidy (s.noStill r' mt) := h.set.refreshRel
theorem State.Tidy.badMsg (h : r.Tidy s) {r' reason : Nat} : r.Tidy (s.badMsg r' reason) := h.bump.event.reason
theorem State.Tidy.takePctr (h : r.Tidy s) {r' v : Nat} : r.Tidy (s.takePctr r' v) := h.set

theorem State.Tidy.grantAckNow' (h : r.Tidy s) {port : Nat} {ident : Word} {msg : Bytes} : r.Tidy (grantAckNow port ident msg s) := by
  unfold grantAckNow
  split
  · exact h
  · refine h.ite ?_
    refine h.badMsg.ite ?_
    extract_lets s1
    have h1 : r.Tidy s1 := h.takePctr
    split
    · exact h1
    · exact h1.ite ((h1.setStart.endGrant.settleStart.ite h1.setStart.settleStart).ite (h1.setStart.endGrant.settleStart.ite h1))

theorem State.Tidy.grantAck' (h : r.Tidy s) {port : Nat} {ident : Word} {msg : Bytes} :
    r.Tidy (grantAck port ident msg s) := h.latch.ite h.grantAckNow'

theorem State.Tidy.grantTimeout' (h : r.Tidy s) : r.Tidy (grantTimeout s) := by
  unfold grantTimeout
  split
  · exact h
  · refine h.ite ?_
    refine h.sendGrants.setStart.ite ?_
    extract_lets s1
    have h1 : r.Tidy s1 := h.setStart
    exact (h1.endGrant.ite h1).settleStart

theorem State.Tidy.takeStatus (h : r.Tidy s) {r' : Nat} {msg : Bytes} : r.Tidy (s.takeStatus r' msg) := h.takePctr.set.putFlag.refreshRel

theorem State.Tidy.commitPairing (h : r.Tidy s) {p : Pairing} {pctr : Nat} : r.Tidy (s.commitPairing p pctr).1 := by
  unfold State.commitPairing
  extract_lets _ _ _ s0 c t _ _ t1 t1'
  have h0 : r.Tidy s0 := h.set
  have hc : r.Tidy c.1 := h0.commitGen
  have ht : r.Tidy t := hc
  have ht1 : r.Tidy t1 := ht.set
  have ht1' : r.Tidy t1' := ht1.put
  exact hc.refreshKeys.reason.iteFst ht1'.takePctr.event.keyEvent

theorem State.Tidy.takeMac (h : r.Tidy s) {r' port mac : Nat} : r.Tidy (s.takeMac r' port mac) := h.set.ite h

theorem State.Tidy.statusNow' (h : r.Tidy s) {port : Nat} {ident : Word} {msg : Bytes} {mac : Nat} : r.Tidy (statusNow port ident msg mac s) := by
  unfold statusNow
  split
  · exact h
  · refine h.ite ?_
    dsimp only
    split
    · exact h.commitPairing.takeMac.takeStatus.ite h.commitPairing
    · exact h.badMsg.noStill.ite (h.ite h.takeMac.takeStatus.relockIfDue)

theorem State.Tidy.status' (h : r.Tidy s) {port : Nat} {ident : Word} {msg : Bytes} {mac : Nat} :
    r.Tidy (status port ident msg mac s) := h.latch.ite h.statusNow'

theorem State.Tidy.statusStale' (h : r.Tidy s) {r' : Nat} : r.Tidy (statusStale r' s) := by
  unfold statusStale
  split
  · exact h.noStill.ite h
  · exact h

theorem State.Tidy.announceOn (h : r.Tidy s) {query : Bool} : r.Tidy (s.announceOn query) := by
  unfold State.announceOn
  split
  · exact h
  · extract_lets _ s1 _ _
    have h1 : r.Tidy s1 := h.set
    exact h1.set

theorem State.Tidy.pairOp' (h : r.Tidy s) {role pid : Nat} {auth : Bytes} : r.Tidy (pairOp role pid auth s).1 := by
  unfold pairOp
  refine h.mbRefuse'.iteFst ?_
  extract_lets a t _
  have ha : r.Tidy a.1 := h.checkAuth
  have ht : r.Tidy t := ha.announceOn
  refine ha.mbFail'.iteFst (ha.mbFail'.iteFst (ha.mbFail'.iteFst (ha.mbFail'.iteFst ?_)))
  split
  · refine ht.mbFail'.iteFst ?_
    split
    next t1 n heq =>
      have h1 : r.Tidy t1 := ht.nextSeq.fst heq
      exact h1.set.refreshKeys.sendRoleTo.mbOk'
  · exact ht.mbFail'
  · exact ht.mbFail'

theorem State.Tidy.pairTimeout' (h : r.Tidy s) : r.Tidy (pairTimeout s) := by
  unfold pairTimeout
  split
  · exact h
  · exact h.ite h.set.refreshKeys.reason

theorem State.Tidy.unpairDisc (h : r.Tidy s) {pid : Option Bytes} : r.Tidy (s.unpairDisc pid) := h.set.put

theorem State.Tidy.unpairOp' (h : r.Tidy s) {role : Nat} {auth : Bytes} {commitOk : Bool} : r.Tidy (unpairOp role auth commitOk s).1 := by
  unfold unpairOp
  refine h.mbRefuse'.iteFst ?_
  extract_lets a c
  have ha : r.Tidy a.1 := h.checkAuth
  have hc : r.Tidy c.1 := ha.commitGen
  exact ha.mbFail'.iteFst (ha.mbFail'.iteFst (ha.mbFail'.iteFst (ha.mbOk'.iteFst (hc.mbFail'.iteFst hc.unpairDisc.keyEvent.refreshRel.mbOk'))))

theorem State.Tidy.decide_ (h : r.Tidy s) {action code slot : Nat} : r.Tidy (s.decide_ action code slot) := by
  unfold State.decide_
  extract_lets s1 _
  have h1 : r.Tidy s1 := h.relLast.event
  exact h1.ite h1.set

theorem State.Tidy.rkeOut (h : r.Tidy s) {slot action reason : Nat} : r.Tidy (s.rkeOut slot action reason) := by
  unfold State.rkeOut
  extract_lets s1
  have h1 : r.Tidy s1 := h.journalRel
  exact h1.decide_.ite h1.relRefuse

theorem State.Tidy.confirmOut (h : r.Tidy s) {slot action : Nat} {out : Nat × Nat} : r.Tidy (s.confirmOut slot action out) := by
  unfold State.confirmOut
  split
  · exact h
  · exact h.set.rkeOut.retireSpent

theorem State.Tidy.judge (h : r.Tidy s) {id : Nat} {i : PolicyIn} : r.Tidy (s.judge id i) := by
  unfold State.judge
  split
  · exact h
  · extract_lets _ _ _ s1 s2
    have h1 : r.Tidy s1 := h.set
    have h2 : r.Tidy s2 := h1.updRequest
    split
    · exact h2.confirmOut.ite h2
    · exact h2.journalRel

theorem State.Tidy.decideStart (h : r.Tidy s) {rq : Request} : r.Tidy (s.decideStart rq) := by
  unfold State.decideStart
  dsimp only
  split
  · exact h.setReg.startRelease
  · exact h.setReg

theorem State.Tidy.performRequest (h : r.Tidy s) {rq : Request} : r.Tidy (s.performRequest rq) := by
  unfold State.performRequest
  split
  · exact h.decideStart
  · exact h.decide_
  · split
    · exact h
    · exact h.relRefuse

theorem State.Tidy.concludeRequest (h : r.Tidy s) {id reason : Nat} : r.Tidy (s.concludeRequest id reason) := by
  unfold State.concludeRequest
  split
  · exact h
  · refine h.ite ?_
    extract_lets _ s1 s2
    have h1 : r.Tidy s1 := h.set
    have h2 : r.Tidy s2 := by
      unfold s2
      split
      · exact h1.confirmOut
      · exact h1.performRequest.ite h1
    exact (h2.finish.ite h2).releaseIdle

theorem State.Tidy.closeRequest (h : r.Tidy s) {id reason : Nat} : r.Tidy (s.closeRequest id reason) := h.updRequest.concludeRequest
theorem State.Tidy.relEnabled (h : r.Tidy s) : r.Tidy s.relEnabled := h.setReg.setReg.refreshRel

/-! ## Buses -/

theorem State.Tidy.flushHeld (h : r.Tidy s) {p : Nat} : r.Tidy (s.flushHeld p) := h.ite (h.set.foldl fun _ _ ht => ht.deliver)

theorem State.Tidy.setUp (h : r.Tidy s) {p : Nat} {up : Bool} : r.Tidy (s.setUp p up) := by
  unfold State.setUp
  refine h.ite ?_
  extract_lets s1 _ _ t1 t2 t1' _ s2 _
  have h1 : r.Tidy s1 := h.putFlag.event
  have ht1 : r.Tidy t1 := h1.putFlag.put
  have ht2 : r.Tidy t2 := ht1.put.putFlag
  have ht1' : r.Tidy t1' := h1.put.putFlag
  have h2 : r.Tidy s2 := ht2.putFlag.putFlag.ite ht1'.set
  exact h2.set.flushHeld.ite h2.abandonFrames

theorem State.Tidy.refreshLinks (h : r.Tidy s) : r.Tidy s.refreshLinks := by
  unfold State.refreshLinks
  extract_lets s1 _ s2 _ s3 _
  have h1 : r.Tidy s1 := h.foldl fun _ _ ht => ht.setUp
  have h2 : r.Tidy s2 := h1.putFlag
  have h3 : r.Tidy s3 := h2.set
  exact h3.raiseVote.ite (h3.withdrawVote.ite h3)

theorem State.Tidy.bringUp (h : r.Tidy s) : r.Tidy s.bringUp := h.refreshLinks.foldl fun _ _ ht => ht.reason.ite ht
theorem State.Tidy.nextTag (h : r.Tidy s) {p : Nat} : r.Tidy (s.nextTag p).1 := h.set

theorem State.Tidy.frameSendOp' (h : r.Tidy s) {b : Bytes} : r.Tidy (frameSendOp b s).1 := by
  unfold frameSendOp
  extract_lets _ _ _ _ _
  refine h.mbFail'.iteFst ?_
  refine h.mbFail'.iteFst ?_
  refine h.mbFail'.iteFst ?_
  refine h.mbFail'.iteFst ?_
  split
  next s1 tag heq =>
    have h1 := State.Tidy.fst (by
      refine h.nextTag.iteFst ?_
      dsimp only
      exact h
    ) heq
    exact h1.set.mbOk'

theorem State.Tidy.frameRecvOp' (h : r.Tidy s) {max : Nat} : r.Tidy (frameRecvOp max s).1 := h.set.put.mbOk'
theorem State.Tidy.takeFrame (h : r.Tidy s) {rec : Bytes} : r.Tidy (s.takeFrame rec) := h.ite (h.ite (h.bump.reason.ite h.set.put.event))
theorem State.Tidy.busFrameReceive' (h : r.Tidy s) {rec : Bytes} : r.Tidy (busFrameReceive rec s) := h.latch.ite (h.takeFrame.ite h)
theorem State.Tidy.setPartial (h : r.Tidy s) {t : Transport} {p : Option Partial} : r.Tidy (s.setPartial t p) := h.set

theorem State.Tidy.joinSegment (h : r.Tidy s) {t : Transport} {p : Partial} {last : Bool} {seg : Bytes} :
    r.Tidy (s.joinSegment t p last seg) := h.setPartial.refuseMessage.ite (h.setPartial.enqueue.ite h.setPartial)

theorem State.Tidy.segment (h : r.Tidy s) {t : Transport} {first last : Bool} {seq : Nat} {seg : Bytes} {src : Nat} :
    r.Tidy (s.segment t first last seq seg src) := by
  unfold State.segment
  refine .ite ?_ ?_
  · extract_lets s1
    have h1 : r.Tidy s1 := h.setPartial.refuseMessage.ite h
    exact h1.refuseMessage.ite h1.joinSegment
  · split
    · exact h.refuseMessage
    · exact h.setPartial.refuseMessage.ite h.joinSegment

theorem State.Tidy.mailboxSegmentNow' (h : r.Tidy s) {t : Transport} {payload : Bytes} {src : Nat} :
    r.Tidy (mailboxSegmentNow t payload src s) := h.ite ((h.setPartial.refuseMessage.ite h.segment).ite (h.setPartial.refuseMessage.ite h.segment))

theorem State.Tidy.mailboxSegment' (h : r.Tidy s) {t : Transport} {payload : Bytes} {src : Nat} :
    r.Tidy (mailboxSegment t payload src s) := h.latch.ite h.mailboxSegmentNow'

theorem State.Tidy.busOff' (h : r.Tidy s) {c : Nat} : r.Tidy (busOff c s) := by
  unfold busOff
  refine h.ite ?_
  extract_lets s1 s2 s3 _
  have h1 : r.Tidy s1 := h.putFlag.put.bump.redLoss
  have h2 : r.Tidy s2 := h1.abandonFrames.event
  have h3 : r.Tidy s3 := h2.reason
  exact h3.set.ite h3

theorem State.Tidy.canRecover' (h : r.Tidy s) {c : Nat} : r.Tidy (canRecover c s) := h.set.ite h

theorem State.Tidy.busOffRecovery' (h : r.Tidy s) {c : Nat} : r.Tidy (busOffRecovery c s) := by
  unfold busOffRecovery
  refine h.ite ?_
  extract_lets _ s1 s2 s3 s4
  have h1 : r.Tidy s1 := h.set
  have h2 : r.Tidy s2 := h1.putFlag.put
  have h3 : r.Tidy s3 := h2.put.put
  have h4 : r.Tidy s4 := h3.ite h3.redClear
  exact h4.flushHeld

theorem State.Tidy.beaconLost' (h : r.Tidy s) : r.Tidy (beaconLost s) := h.ite h.putFlag.putFlag.bump.reason
theorem State.Tidy.beaconReceive' (h : r.Tidy s) : r.Tidy (beaconReceive s) := h.putFlag.putFlag.ite h
theorem State.Tidy.linkWake (h : r.Tidy s) : r.Tidy s.linkWake := h.raiseVote.raiseVote.touch.ite h
theorem State.Tidy.busWake' (h : r.Tidy s) {p : Nat} : r.Tidy (busWake p s) := h.linkWake.ite h

theorem State.Tidy.discMsg (h : r.Tidy s) {port mac : Nat} {m : Bytes} : r.Tidy (s.discMsg port mac m) := by
  unfold State.discMsg
  refine h.ite ?_
  extract_lets _ _ s0 _ s1 _ _ _ _ _ s2 s3
  have h0 : r.Tidy s0 := h.bump
  have h1 : r.Tidy s1 := h0.set.ite h0
  have h2 : r.Tidy s2 := h1.set
  have h3 : r.Tidy s3 := h2.put
  exact h.reason.ite (h1.set.ite (h3.event.ite h3))

theorem State.Tidy.discPartIn (h : r.Tidy s) {port : Nat} {b : Bytes} : r.Tidy (s.discPartIn port b) := by
  unfold State.discPartIn
  extract_lets _ _ _ _ _ _ _ _ _
  split
  · exact h.set.discMsg
  · exact h.set

theorem State.Tidy.discoveryNow' (h : r.Tidy s) {port : Nat} {payload : Bytes} {mac : Nat} :
    r.Tidy (discoveryNow port payload mac s) := h.ite ((h.ite h.discMsg).ite (h.ite h.discPartIn))

theorem State.Tidy.discoveryReceive' (h : r.Tidy s) {port : Nat} {payload : Bytes} {mac : Nat} :
    r.Tidy (discoveryReceive port payload mac s) := h.latch.ite h.discoveryNow'

theorem State.Tidy.discoveryAnnounce' (h : r.Tidy s) {linkUp : Bool} : r.Tidy (discoveryAnnounce linkUp s) := h.ite h.set.announceOn
theorem State.Tidy.discoveryAgeOut' (h : r.Tidy s) : r.Tidy (discoveryAgeOut s) := h.set.put
theorem State.Tidy.partnerListOp' (h : r.Tidy s) : r.Tidy (partnerListOp s).1 := h.mbOk'

/-! ## Cipher -/

theorem State.Tidy.setNonceStream (h : r.Tidy s) {x : NonceStream} : r.Tidy (s.setNonceStream x) := h.set

theorem State.Tidy.issueNonce (h : r.Tidy s) {id : Nat} {resvOk : Bool} :
    r.Tidy (s.issueNonce id resvOk).1 := h.setNonceStream.iteFst (h.event.bump.reason.iteFst h.set.bump.setNonceStream)

theorem State.Tidy.symNote (h : r.Tidy s) {reason key : Nat} :
    r.Tidy (s.symNote reason key) := h.event.ite (h.event.bump.ite (h.markRotate.event.bump.ite h))

theorem State.Tidy.symSubmit (h : r.Tidy s) {master : Nat} {keeper : Bool} {d input : Bytes} {resvOk mailbox : Bool} :
    r.Tidy (s.symSubmit master keeper d input resvOk mailbox).1 := h.symNote.set.iteFst h.set

theorem State.Tidy.symRequest' (h : r.Tidy s) {op master : Nat} {keeper : Bool} {desc input : Bytes} {resvOk : Bool} :
    r.Tidy (symRequest op master keeper desc input resvOk s) := h.symSubmit

end

end Sys2Proof.Machine
end

section
/-! SUPPORT. The functions of CipherRun, CipherIsland, Ranging keep the commands that wait and the canonical form of the memories. -/
namespace Sys2Proof.Machine

open Sys2Proof

-- One declaration after another: checking many at a time takes more memory than the text may use.
set_option Elab.async false

section
variable {r s : State}

/-! ## CipherRun -/

theorem State.Tidy.runPart (h : r.Tidy s) {r' : SymReq} {key : Bytes} : r.Tidy (s.runPart r' key).1 := by
  unfold State.runPart
  extract_lets _ _ _ _ _ _ s1
  have h1 : r.Tidy s1 := h.ite (h.setCtx.ite h.setCtx)
  refine .iteFst ?_ ?_
  · dsimp only
    exact h1
  · refine .iteFst ?_ ?_
    · dsimp only
      exact h1
    · dsimp only
      exact h1

theorem State.Tidy.storeKey (h : r.Tidy s) {kind attr : Nat} {key pub : Bytes} : r.Tidy (s.storeKey kind attr key pub) := h.set

theorem State.Tidy.runExport (h : r.Tidy s) {r' : SymReq} : r.Tidy (s.runExport r').1 := by
  unfold State.runExport
  split
  · dsimp only
    exact h
  · extract_lets _ _ _ _ s1 s2 _ _
    have h1 : r.Tidy s1 := h.set
    have h2 : r.Tidy s2 := h1.setCtx
    refine .iteFst ?_ ?_
    · dsimp only
      exact h2
    · dsimp only
      exact h2

theorem State.Tidy.runP521 (h : r.Tidy s) {r' : SymReq} {key : Bytes} : r.Tidy (s.runP521 r' key).1 := by
  unfold State.runP521
  extract_lets _ _ _ _ x _ _
  have hx : r.Tidy x.2 := h.sign
  split
  · exact h.freshPr.storeKey
  · dsimp only
    exact hx
  · refine .iteFst ?_ ?_
    · dsimp only
      exact h
    · refine .iteFst ?_ ?_
      · dsimp only
        exact h
      · dsimp only
        exact h
  · refine .iteFst ?_ h.storeKey
    exact h

theorem State.Tidy.countSegment (h : r.Tidy s) {e cls : Nat} : r.Tidy (s.countSegment e cls) := h.ite h.set
theorem State.Tidy.putReq (h : r.Tidy s) {r' : SymReq} : r.Tidy (s.putReq r') := h.set
theorem State.Tidy.dropReq (h : r.Tidy s) {r' : SymReq} : r.Tidy (s.dropReq r') := h.set

theorem State.Tidy.beginReq (h : r.Tidy s) {q : SymReq} : r.Tidy (s.beginReq q).1 := by
  unfold State.beginReq
  extract_lets _ op _ wants
  have hn : ∀ {p : State × Option Bytes}, p = (if wants then s.issueNonce (if op = 0x40 then 0xF0 else streamOf q.master q.keeper) q.resvOk
      else (s, some [])) → r.Tidy p.1 := fun e => e ▸ h.issueNonce.iteFst h
  refine h.iteFst ?_
  split
  next heq => exact hn heq.symm
  next heq => exact (hn heq.symm).setCtx.ite (hn heq.symm)

theorem State.Tidy.refuseReq (h : r.Tidy s) {r' : SymReq} {code : Nat} : r.Tidy (s.refuseReq r' code) := h.dropReq.symNote.symRespond

theorem State.Tidy.runImport (h : r.Tidy s) {q : SymReq} : r.Tidy (s.runImport q).1.1 := by
  unfold State.runImport
  dsimp only
  split
  · exact h
  · split
    · exact h
    · exact h
    · split
      · exact h.setCtx
      · split
        · exact h.set.setCtx
        · exact h.set.markRotate

theorem State.Tidy.symProcess (h : r.Tidy s) {q : SymReq} : r.Tidy (s.symProcess q).1.1 := by
  unfold State.symProcess
  dsimp only
  split
  · exact h.runPart
  · split
    · exact h
    · exact h
    · exact h.set.ite h
    · exact h
    · split <;> exact h
    · exact h.generated
    · exact h.runExport
    · exact h.runImport
    · exact h.setCtx
    · exact h.runP521

theorem State.Tidy.finishReq (h : r.Tidy s) {q : SymReq} : r.Tidy (s.finishReq q) := by
  unfold State.finishReq
  extract_lets x _ _ _ s2 s3
  have hx : r.Tidy x.1.1 := h.dropReq.symProcess
  have h2 : r.Tidy s2 := hx.symNote
  have h3 : r.Tidy s3 := h2.event.bump.ite h2
  exact h3.putDst.symRespond

theorem State.Tidy.segmentDone (h : r.Tidy s) {r' : SymReq} : r.Tidy (s.segmentDone r') := h.finishReq.ite ((h.putDst.ite h).putReq)

theorem State.Tidy.turn (h : r.Tidy s) {e : Nat} : r.Tidy (s.turn e) := by
  unfold State.turn
  split
  · exact h
  · extract_lets s0 b
    have h0 : r.Tidy s0 := h.countSegment
    have hb : r.Tidy b.1 := h0.beginReq
    exact h0.segmentDone.ite (hb.refuseReq.ite hb.segmentDone)

theorem State.Tidy.turns (h : r.Tidy s) {e n : Nat} : r.Tidy (State.turns e n s) := by
  induction n generalizing s with
  | zero => exact h
  | succ n ih => exact ih h.turn

theorem State.Tidy.cipherResponse' (h : r.Tidy s) {turns : List (Fin 7 × Nat)} : r.Tidy (cipherResponse turns s) := h.foldl fun _ _ ht => ht.turns

/-! ## CipherIsland -/

theorem State.Tidy.cipherOp' (h : r.Tidy s) {input : Bytes} {resvOk : Bool} : r.Tidy (cipherOp input resvOk s).1 := by
  unfold cipherOp
  extract_lets _ _
  refine h.mbRefuse'.iteFst ?_
  split
  · next t code resp heq =>
      have ht := h.symSubmit.fst heq
      dsimp only
      exact ht
  · next t heq =>
      have ht := h.symSubmit.fst heq
      exact ht

theorem State.Tidy.moveQueue (h : r.Tidy s) {f : SymReq → Bool} {engine : Nat} : r.Tidy (s.moveQueue f engine) := h.set

theorem State.Tidy.rerunSegment (h : r.Tidy s) {p : Nat} : r.Tidy (s.rerunSegment p) := by
  unfold State.rerunSegment
  split
  · exact h.ite h.putReq
  · exact h

theorem State.Tidy.failPipe (h : r.Tidy s) {p : Nat} : r.Tidy (s.failPipe p) := h.set.putFlag.putFlag.putFlag.event.reason.redLoss

theorem State.Tidy.pipelineFault' (h : r.Tidy s) {p : Nat} : r.Tidy (pipelineFault p s) := by
  unfold pipelineFault
  refine h.ite ?_
  extract_lets _ _ s1 s2 s3 s6
  have h1 : r.Tidy s1 := h.set
  have h2 : r.Tidy s2 := h1.rerunSegment.event.bump.reason
  have h3 : r.Tidy s3 := h2.journal
  have h6 : r.Tidy s6 := h3.failPipe.moveQueue
  exact h3.ite (h6.symAbort.goDown.ite h6)

theorem State.Tidy.failEngine (h : r.Tidy s) {sha : Bool} : r.Tidy (s.failEngine sha) := by
  unfold State.failEngine
  extract_lets _ s1 s2 s3
  have h1 : r.Tidy s1 := h.set
  have h2 : r.Tidy s2 := h1.event.reason
  have h3 : r.Tidy s3 := h2.putFlag.putFlag.redLoss.ite h2.putFlag.putFlag.redLoss
  exact h3.moveQueue

theorem State.Tidy.engineFault' (h : r.Tidy s) {sha : Bool} : r.Tidy (engineFault sha s) := h.ite h.failEngine
theorem State.Tidy.entropyFail (h : r.Tidy s) : r.Tidy s.entropyFail := h.set.putFlag.putFlag.event.redLoss

theorem State.Tidy.entropyBatch' (h : r.Tidy s) {samples : List Bool} : r.Tidy (entropyBatch samples s) := by
  unfold entropyBatch
  refine h.ite ?_
  refine (h.entropyFail.ite h).ite ?_
  split
  · extract_lets _ _ s0 _ s1 s2 s3 s4
    have h0 : r.Tidy s0 := h.set
    have h1 : r.Tidy s1 := h0.set
    have h2 : r.Tidy s2 := h1.bump.ite h1
    have h3 : r.Tidy s3 := h2.bump.ite h2
    have h4 : r.Tidy s4 := h3.event.reason
    exact h0.set.ite (h4.entropyFail.ite h4)

theorem State.Tidy.entropyRetried (h : r.Tidy s) {ok : Bool} : r.Tidy (s.entropyRetried ok) := h.ite (h.set.ite h.set.putFlag.putFlag.redClear)
theorem State.Tidy.drbgReseed' (h : r.Tidy s) : r.Tidy (drbgReseed s) := h.ite h.set.setReg

theorem State.Tidy.symSelfTest (h : r.Tidy s) {x : SymTest} : r.Tidy (s.symSelfTest x) := by
  unfold State.symSelfTest
  extract_lets s1 s2 s3 s4 _
  have h1 : r.Tidy s1 := h.ite h.failPipe
  have h2 : r.Tidy s2 := h1.ite h1.failPipe
  have h3 : r.Tidy s3 := h2.ite h2.failEngine
  have h4 : r.Tidy s4 := h3.ite h3.entropyFail
  exact h4.set

theorem State.Tidy.symEnabled (h : r.Tidy s) : r.Tidy s.symEnabled := by
  unfold State.symEnabled
  extract_lets _ s1 s2 s3 s4 _ _ s5 s6 _
  have h1 : r.Tidy s1 := (h.ite h.putFlag).ite ((h.ite h.putFlag).putFlag)
  have h2 : r.Tidy s2 := h1.putFlag.putFlag
  have h3 : r.Tidy s3 := h2.putFlag.putFlag
  have h4 : r.Tidy s4 := h3.putFlag.putFlag
  have h5 : r.Tidy s5 := h4.set.setReg
  have h6 : r.Tidy s6 := h5.freshPr
  exact h6.set.ite h4

/-! ## Ranging -/

theorem State.Tidy.showOffsets (h : r.Tidy s) : r.Tidy s.showOffsets := h.foldl fun _ _ ht => ht.setReg
theorem State.Tidy.refreshRng (h : r.Tidy s) : r.Tidy s.refreshRng := h.put.putFlag.putFlag.putFlag.put.put
theorem State.Tidy.updSess (h : r.Tidy s) {n : Nat} {f : Sess → Sess} : r.Tidy (s.updSess n f) := h.set
theorem State.Tidy.dropSess (h : r.Tidy s) {n : Nat} : r.Tidy (s.dropSess n) := h.dropJobs.set.refreshRng

theorem State.Tidy.defer (h : r.Tidy s) {n code : Nat} : r.Tidy (s.defer n code) := by
  unfold State.defer
  extract_lets _ s1 s2 _ _ s3
  have h1 : r.Tidy s1 := h.updSess
  have h2 : r.Tidy s2 := h1.event.bump
  have h3 : r.Tidy s3 := h2.set
  exact h2.refreshRng.ite h3.journal.refreshRng

theorem State.Tidy.reserve (h : r.Tidy s) {n prio : Nat} : r.Tidy (s.reserve n prio) := by
  unfold State.reserve
  extract_lets _ _ _
  refine h.updSess.refreshRng.ite ?_
  refine h.defer.ite ?_
  split
  · exact h.defer.ite h.defer.updSess.refreshRng
  · exact h.defer

theorem State.Tidy.openSession (h : r.Tidy s) {h' : Hold} {pos : Nat} {m : Member} : r.Tidy (s.openSession h' pos m).1 := by
  unfold State.openSession
  extract_lets _ _ _ _ _ _ s1 s2
  have h1 : r.Tidy s1 := h.set
  have h2 : r.Tidy s2 := h1.updRequest
  exact h2.reserve.ite h2

theorem State.Tidy.updMember (h : r.Tidy s) {pos : Nat} {f : Member → Member} : r.Tidy (s.updMember pos f) := by
  unfold State.updMember
  split
  · exact h
  · exact h.set

theorem State.Tidy.holdWhy (h : r.Tidy s) {code : Nat} : r.Tidy (s.holdWhy code) := by
  unfold State.holdWhy
  split
  · exact h
  · exact h.set

theorem State.Tidy.judgeCry (h : r.Tidy s) {h' : Hold} {pos : Nat} {m : Member} : r.Tidy (s.judgeCry h' pos m) := by
  unfold State.judgeCry
  extract_lets _ _ s1
  have h1 : r.Tidy s1 := h.acceptCtr.authSucceed.journalAuth
  refine h.refuseAttempt.updMember.holdWhy.ite ?_
  refine h.refuseMac.updMember.holdWhy.ite ?_
  refine h.replay.refuseAttempt.updMember.holdWhy.ite ?_
  refine h.refuseAttempt.updMember.holdWhy.ite ?_
  split
  next s2 n heq =>
    have h2 := h1.openSession.fst heq
    exact h2.updMember.commitPoint

theorem State.Tidy.conflict (h : r.Tidy s) {h' : Hold} {pos : Nat} {m : Member} : r.Tidy (s.conflict h' pos m) := by
  unfold State.conflict
  extract_lets s1 _ s2
  have h1 : r.Tidy s1 := h.countSlot.ite h
  have h2 : r.Tidy s2 := h1.ite h1.setSlot.event
  exact h2.refuseAttempt.updMember.holdWhy

theorem State.Tidy.judgeGroup (h : r.Tidy s) {tid : Nat} : r.Tidy (s.judgeGroup tid) := by
  unfold State.judgeGroup
  split
  · exact h
  · exact h.foldl fun _ _ ht => ht.conflict.ite (ht.ite ht.judgeCry)

theorem State.Tidy.closeCrys (h : r.Tidy s) : r.Tidy s.closeCrys := h.foldl fun _ _ ht => ht.judgeGroup

theorem State.Tidy.queueExchange (h : r.Tidy s) {n rt : Nat} : r.Tidy (s.queueExchange n rt).1 := by
  unfold State.queueExchange
  extract_lets _ _ _ a b c _ _
  have ha : r.Tidy a.1 := h.queueRadio
  have hb : r.Tidy b.1 := ha.queueRadio
  have hc : r.Tidy c.1 := hb.queueRadio
  split
  · exact hc
  · exact hc.set

theorem State.Tidy.dropExchange (h : r.Tidy s) {n : Nat} : r.Tidy (s.dropExchange n) := h.set

theorem State.Tidy.exchangeStart' (h : r.Tidy s) {pos : Nat} : r.Tidy (exchangeStart pos s) := by
  unfold exchangeStart
  extract_lets s' _ _ _
  have hs' : r.Tidy s' := h.closeCrys
  split
  · exact hs'
  · split
    · exact hs'
    · refine hs'.ite ?_
      refine hs'.defer.ite ?_
      extract_lets q s1
      have hq : r.Tidy q.1 := hs'.queueExchange
      have h1 : r.Tidy s1 := hq.fresh.updSess
      exact hq.ite h1.set.commitPoint

theorem State.Tidy.abortExchange (h : r.Tidy s) : r.Tidy s.abortExchange := by
  unfold State.abortExchange
  split
  · exact h
  · exact h.updSess.dropExchange.event.commitPoint

theorem State.Tidy.srepReceive' (h : r.Tidy s) {pos : Nat} {frame : Bytes} {rounds : List (List ChainHit)} {raw : Bytes} :
    r.Tidy (srepReceive pos frame rounds raw s) := by
  unfold srepReceive
  split
  · exact h
  · split
    · exact h
    · exact h.ite h.updSess.set.commitPoint

theorem State.Tidy.showRes (h : r.Tidy s) {r' : Res} : r.Tidy (s.showRes r') := h.foldl fun _ _ ht => ht.setReg

theorem State.Tidy.publish (h : r.Tidy s) {c : Computed} {journalReason : Nat} : r.Tidy (s.publish c journalReason) := by
  unfold State.publish
  extract_lets _ s1 s2 s3 s4
  have h1 : r.Tidy s1 := h.showRes.bump.event
  have h2 : r.Tidy s2 := h1.ite h1.bump.event
  have h3 : r.Tidy s3 := h2.bump.event.ite h2
  have h4 : r.Tidy s4 := by
    unfold s4
    split
    · exact h3.setReg
    · exact h3
  exact h4.journal

theorem State.Tidy.offsetSample (h : r.Tidy s) {resid : List ℚ} : r.Tidy (s.offsetSample resid) := by
  unfold State.offsetSample
  extract_lets _ _ _ _ _ s1 _ s2
  have h1 : r.Tidy s1 := h.set
  have h2 : r.Tidy s2 := h1.set.ite h1
  exact h2.showOffsets

theorem State.Tidy.judgeRes (h : r.Tidy s) {req : Nat} {settings : List (Nat × Nat)} {cls status field : Nat} {r' : Res} :
    r.Tidy (s.judgeRes req settings cls status field r') := h.set.judge.set.updRequest.concludeRequest

theorem State.Tidy.endSession (h : r.Tidy s) {x : Sess} {c0 : Computed} : r.Tidy (s.endSession x c0) := by
  unfold State.endSession
  extract_lets _ sv _ _ _ _ _ _ _ _ s1 s2 t _ _ s3 _ s4
  have hsv : r.Tidy sv := h.set
  have h1 : r.Tidy s1 := h.publish
  have h2 : r.Tidy s2 := h1.event.bump.ite (h1.event.ite h1)
  have ht : r.Tidy t := h2.updSess
  have h3 : r.Tidy s3 := ht.set.ite h2.dropSess
  have h4 : r.Tidy s4 := by
    unfold s4
    split
    · exact h3.netSet
    · exact h3
  exact h4.judgeRes.retireSpent.refreshRng.commitPoint

theorem State.Tidy.endMode4 (h : r.Tidy s) {x : Sess} : r.Tidy (s.endMode4 x) := h.endSession

theorem State.Tidy.rangingJobDone' (h : r.Tidy s) {n : Nat} {d : Dsp} : r.Tidy (rangingJobDone n d s) := by
  unfold rangingJobDone
  split
  · extract_lets _ s1 _ sv s2 _
    have h1 : r.Tidy s1 := h.setTile
    have hsv : r.Tidy sv := h1.set
    have h2 : r.Tidy s2 := h1.failSlot.ite h1
    exact h2.endSession.placeJobs'.placeBackground'.settle
  · exact h

theorem State.Tidy.backgroundSliceEnd' (h : r.Tidy s) {tile : Nat} {finished : Bool} : r.Tidy (backgroundSliceEnd tile finished s) := by
  unfold backgroundSliceEnd
  extract_lets _ s1 _
  have h1 : r.Tidy s1 := h.setTile
  split
  · exact h
  · extract_lets s2
    have h2 : r.Tidy s2 := by
      unfold s2
      refine .ite ?_ h1.netSet
      split
      · exact h1.offsetSample
      · exact h1
    exact h2.placeJobs'.placeBackground'.settle

theorem State.Tidy.driftReset' (h : r.Tidy s) : r.Tidy (driftReset s) := h.set.showOffsets.journal
theorem State.Tidy.lfResult (h : r.Tidy s) {h' : Hold} {m : Member} : r.Tidy (s.lfResult h' m) := h.publish.judgeRes

theorem State.Tidy.endHold (h : r.Tidy s) {reason : Nat} : r.Tidy (s.endHold reason) := by
  unfold State.endHold
  split
  · exact h
  · extract_lets _ s0 s1 _ _ _ s2 s3
    have h0 : r.Tidy s0 := (h.showRound.foldl fun _ _ ht => ht.lfResult).ite h
    have h1 : r.Tidy s1 := h0.setHold.dropQueued
    have h2 : r.Tidy s2 := h1.set
    have h3 : r.Tidy s3 := h2.refuseAttempt.ite h2
    exact h3.closeRequest.touch

theorem State.Tidy.dueHold (h : r.Tidy s) : r.Tidy s.dueHold := by
  unfold State.dueHold
  extract_lets s'
  have hs' : r.Tidy s' := by
    unfold s'
    split
    · exact h.closeCrys.ite h
    · exact h
  split
  · exact hs'
  · split
    · exact hs'.lfDoze.ite hs'
    · exact hs'.endHold.ite hs'

theorem State.Tidy.wakeTiles (h : r.Tidy s) : r.Tidy s.wakeTiles := h.foldl fun _ _ ht => ht.raiseVote

theorem State.Tidy.rangingJobEnter' (h : r.Tidy s) {n : Nat} : r.Tidy (rangingJobEnter n s) := by
  unfold rangingJobEnter
  extract_lets s' s1 _
  have hs' : r.Tidy s' := h.dueHold
  have h1 : r.Tidy s1 := hs'.updSess
  split
  · exact hs'
  · exact hs'.ite (hs'.endMode4.ite h1.netSet.placeJobs'.wakeTiles)

theorem State.Tidy.restartRequests (h : r.Tidy s) {ids : List Nat} : r.Tidy (s.restartRequests ids) := by
  unfold State.restartRequests
  extract_lets _ s1 _ _ s2 _ _ _
  have h1 : r.Tidy s1 := h.foldl fun _ _ ht => ht.dropSess
  have h2 : r.Tidy s2 := h1.setHold.dropQueued.dropOnAir.ite h1
  exact h2.set.refreshRng

theorem State.Tidy.restartSessions (h : r.Tidy s) : r.Tidy s.restartSessions := h.restartRequests

theorem State.Tidy.endWaiting' (h : r.Tidy s) {l : List Sess} : r.Tidy (endWaiting l s) := by
  induction l generalizing s with
  | nil => exact h
  | cons x xs ih => exact ih (h.endMode4.ite h)

theorem State.Tidy.tileFault' (h : r.Tidy s) {k : Nat} : r.Tidy (tileFault k s) := by
  unfold tileFault
  extract_lets _ _ s1 _ s2 s3 s4 _ e s5
  have h1 : r.Tidy s1 := h.setTile
  have h2 : r.Tidy s2 := h1.netSet
  have h3 : r.Tidy s3 := h2.event.redLoss
  have h4 : r.Tidy s4 := h3.reason.ite h3
  have he : r.Tidy e := h4.netSet.endWaiting'
  have h5 : r.Tidy s5 := (he.goDown.ite he).ite h4.placeJobs'.placeBackground'
  exact h.ite h5.refreshRng

theorem State.Tidy.rebuildBank (h : r.Tidy s) : r.Tidy s.rebuildBank := h.set

theorem State.Tidy.shmemDoubleBitError' (h : r.Tidy s) {b : Nat} : r.Tidy (shmemDoubleBitError b s) := by
  unfold shmemDoubleBitError
  refine h.ite ?_
  extract_lets _ _ s1 _ _ s2 s3 _
  have h1 : r.Tidy s1 := h.netSet
  have h2 : r.Tidy s2 := h1.netSet
  have h3 : r.Tidy s3 := h2.rebuildBank.redLoss.putFlag.reason
  exact h1.ite h3.restartRequests

theorem State.Tidy.captureAccept' (h : r.Tidy s) : r.Tidy (captureAccept s) := by
  unfold captureAccept
  split
  · exact h
  · exact h.ite h.set.acceptCapture.event.bump.dropSess.netSet.placeBackground'

theorem State.Tidy.rngEnabled (h : r.Tidy s) : r.Tidy s.rngEnabled := h.showOffsets.refreshRng

end

end Sys2Proof.Machine
end

section
/-! SUPPORT. The functions of Token, Radio keep the commands that wait and the canonical form of the memories. -/
namespace Sys2Proof.Machine

open Sys2Proof

-- One declaration after another: checking many at a time takes more memory than the text may use.
set_option Elab.async false

section
variable {r s : State}

/-! ## Token -/

theorem State.Tidy.raiseRequest (h : r.Tidy s) {r' : LfReq} : r.Tidy (s.raiseRequest r').1 := by
  unfold State.raiseRequest
  refine .iteFst ?_ ?_
  · dsimp only
    exact h
  · refine .iteFst ?_ ?_
    · dsimp only
      exact h
    · split
      next s1 why heq =>
        have h1 := h.pushLf.fst heq
        exact (h1.raiseVote.ite h1.airVotes).ite h1

theorem State.Tidy.hostRequestOp' (h : r.Tidy s) {lft : Bool} : r.Tidy (hostRequestOp lft s).1 := by
  unfold hostRequestOp
  split
  next s1 why heq =>
    have h1 := h.raiseRequest.fst heq
    refine .iteFst ?_ h1.mbRefuse'
    dsimp only
    exact h1

theorem State.Tidy.tokSent (h : r.Tidy s) {b : Bytes} : r.Tidy (s.tokSent b) := h.set
theorem State.Tidy.tokSent24 (h : r.Tidy s) {b : Bytes} : r.Tidy (s.tokSent24 b) := h.set

theorem State.Tidy.sendWake (h : r.Tidy s) {h' : Hold} {p start : Nat} {lfOnly : Bool} {meas : List (Nat × Nat)} :
    r.Tidy (s.sendWake h' p start lfOnly meas) := by
  unfold State.sendWake
  refine h.reason.setHold.endHold.ite ?_
  extract_lets s0 s1 _ _ s2
  have h0 : r.Tidy s0 := h.raiseVote.ite h
  have h1 : r.Tidy s1 := h0.frameOn.sendLf
  have h2 : r.Tidy s2 := h1.fresh.frameOn.sendLf
  exact h1.setHold.queueWindow.commitPoint.ite h2.setHold.tokSent.commitPoint

theorem State.Tidy.startLft (h : r.Tidy s) {h' : Hold} : r.Tidy (s.startLft h') := by
  unfold State.startLft
  extract_lets _ s1
  have h1 : r.Tidy s1 := h.ite h.fresh
  exact h1.setHold.tokSent.commitPoint

theorem State.Tidy.lfAirGrant' (h : r.Tidy s) {meas : List (Nat × Nat)} : r.Tidy (lfAirGrant meas s) := by
  unfold lfAirGrant
  extract_lets s' _
  have hs' : r.Tidy s' := h.dueHold
  refine hs'.ite ?_
  split
  · exact hs'
  · extract_lets s1
    have h1 : r.Tidy s1 := hs'.set
    split
    next s2 id heq =>
      have h2 := h1.radioYields.openRequest.fst heq
      exact h2.startLft.ite h2.sendWake

theorem State.Tidy.skipPoll (h : r.Tidy s) : r.Tidy s.skipPoll := h.bump.reason

theorem State.Tidy.candlePoll' (h : r.Tidy s) {meas : List (Nat × Nat)} : r.Tidy (candlePoll meas s) := by
  unfold candlePoll
  extract_lets s0 _ _ _ s' _ _ s1
  have h0 : r.Tidy s0 := h.dueHold
  have hs' : r.Tidy s' := h0.fresh.set
  have h1 : r.Tidy s1 := hs'.bump.airVotes.touch
  refine h0.ite ?_
  refine hs'.skipPoll.ite ?_
  split
  next s2 id heq =>
    have h2 := h1.radioYields.openRequest.fst heq
    exact h2.sendWake

theorem State.Tidy.lastRssi (h : r.Tidy s) {v : Nat} : r.Tidy (s.lastRssi v) := h.put

theorem State.Tidy.ansReceive' (h : r.Tidy s) {k : Nat} {frame : Option Bytes} {signal : SlotSignal} : r.Tidy (ansReceive k frame signal s) := by
  unfold ansReceive
  split
  · exact h
  · refine h.ite ?_
    dsimp only
    split
    · exact h.setHold.lastRssi
    · exact h.setHold.ite h
    · exact h.setHold

theorem State.Tidy.endRound (h : r.Tidy s) {why : Nat} : r.Tidy (s.endRound why) := h.holdWhy.endHold

theorem State.Tidy.sendChal (h : r.Tidy s) {h' : Hold} {listed : List (Answer × Nat)} {meas : List (Nat × Nat)} :
    r.Tidy (s.sendChal h' listed meas) := by
  unfold State.sendChal
  extract_lets _ _ _ _ _ s1 _ q
  have h1 : r.Tidy s1 := h.fresh.setHold
  have hq : r.Tidy q.1 := h1.queueRadio
  exact h.sendWake.ite hq.queueWindow.commitPoint

theorem State.Tidy.nextRound (h : r.Tidy s) {h' : Hold} {p : Nat} {meas : List (Nat × Nat)} :
    r.Tidy (s.nextRound h' p meas) := h.skipPoll.endHold.ite h.sendWake

theorem State.Tidy.roundClose' (h : r.Tidy s) {meas : List (Nat × Nat)} {floor : Nat} : r.Tidy (roundClose meas floor s) := by
  unfold roundClose
  split
  · exact h
  · refine h.ite ?_
    extract_lets _ _ _ _ s1 s2 s3 _ _ s4
    have h1 : r.Tidy s1 := h.showRound
    have h2 : r.Tidy s2 := h1.put.ite h1
    have h3 : r.Tidy s3 := h2.event.bump.ite h2
    have h4 : r.Tidy s4 := h3.bump.event.raiseVote.ite h3
    exact h4.sendChal.ite (h3.endRound.ite (h3.endRound.ite (h3.nextRound.ite (h3.nextRound.ite h3.endRound))))

theorem State.Tidy.cryReceive' (h : r.Tidy s) {pos : Nat} {frame : Bytes} {rssi : Nat} : r.Tidy (cryReceive pos frame rssi s) := by
  unfold cryReceive
  split
  · exact h
  · split
    · refine h.ite ?_
      extract_lets _ _ _ _ _ _ s1
      have h1 : r.Tidy s1 := h.updMember.lastRssi
      exact h1.judgeGroup.ite h1
    · exact h

theorem State.Tidy.sendBursts' (h : r.Tidy s) {meas : List (Nat × Nat)} {l : List Nat} {start : Nat} :
    r.Tidy (sendBursts meas l start s).1 := by
  induction l generalizing s start with
  | nil => exact h
  | cons p ps ih => exact ih h.sendLf

theorem State.Tidy.lmeas' (h : r.Tidy s) {meas : List (Nat × Nat)} : r.Tidy (lmeas meas s) := by
  unfold lmeas
  extract_lets s' _
  have hs' : r.Tidy s' := h.closeCrys
  split
  · exact hs'
  · extract_lets _ s0 s1 _
    have h0 : r.Tidy s0 := hs'.raiseVote.ite hs'
    have h1 : r.Tidy s1 := h0.frameOn.sendLf
    refine hs'.ite ?_
    refine hs'.reason.endHold.ite ?_
    split
    next s2 ks heq =>
      have h2 := h1.sendBursts'.fst heq
      exact (((h2.foldl fun _ _ ht => ht.updSess).setHold).queueWindow).commitPoint

theorem State.Tidy.rptReceive' (h : r.Tidy s) {pos : Nat} {frame : Bytes} : r.Tidy (rptReceive pos frame s) := by
  unfold rptReceive
  split
  · split
    · exact h
    · extract_lets _ s1
      have h1 : r.Tidy s1 := h.setHold
      exact h.ite (h1.updSess.commitPoint.ite h1.failSlot.commitPoint)
  · exact h

theorem State.Tidy.lfReturnReceive' (h : r.Tidy s) {k : Nat} {heard : List Heard} : r.Tidy (lfReturnReceive k heard s) := by
  unfold lfReturnReceive
  split
  · exact h
  · refine h.ite ?_
    split
    · exact h
    · exact h.setHold
    · extract_lets _ _ _ _ s1 _ _ _ s2 _ s3 s4
      have h1 : r.Tidy s1 := h.setHold
      have h2 : r.Tidy s2 := h1.authSucceed.journalAuth
      have h3 : r.Tidy s3 := h2.set
      have h4 : r.Tidy s4 := h3.updRequest
      exact h.setHold.ite (h1.refuseAttempt.holdWhy.ite (h1.refuseAttempt.holdWhy.ite (h1.refuseMac.holdWhy.ite (h1.authSucceed.journalAuth.ite
          h4.setHold))))

theorem State.Tidy.rkeCommand (h : r.Tidy s) {n cmd : Nat} : r.Tidy (s.rkeCommand n cmd) := by
  unfold State.rkeCommand
  refine h.ite ?_
  split
  · exact h.rkeOut
  · extract_lets _ _
    refine h.rkeOut.ite ?_
    refine h.rkeOut.ite ?_
    split
    next s1 why heq =>
      have h1 := h.raiseRequest.fst heq
      exact h1.rkeOut.ite h1.set

theorem State.Tidy.rkeAccept (h : r.Tidy s) {n tid ctr cmd : Nat} {resync : Bool} :
    r.Tidy (s.rkeAccept n tid ctr cmd resync) := ((((((h.event.ite h).acceptCtr).set).authSucceed).journalAuth).rkeCommand).retireSpent

theorem State.Tidy.judgeRke (h : r.Tidy s) {b : Bytes} : r.Tidy (s.judgeRke b) := by
  unfold State.judgeRke
  extract_lets _ _ _ _ _
  refine h.refuseAttempt.ite ?_
  refine h.refuseAttempt.ite ?_
  split
  · exact h.refuseUnknown
  · extract_lets _
    refine h.refuseAttempt.ite ?_
    refine h.refuseMac.ite ?_
    split
    exact h.ite (h.rkeAccept.ite ((h.replay.ite (h.set.ite h)).refuseAttempt))

theorem State.Tidy.rkeFrame' (h : r.Tidy s) {frame : Bytes} {rssi : Nat} : r.Tidy (rkeFrame frame rssi s) := by
  unfold rkeFrame
  split
  · exact h
  · extract_lets _ s0 _ s1 s2
    have h0 : r.Tidy s0 := h.bump.ite h
    have h1 : r.Tidy s1 := h0.set.lastRssi
    have h2 : r.Tidy s2 := h1.ite h1.touch.judgeRke
    exact h.ite ((h2.releaseIdle.rfIdle.ite h2.releaseIdle).ite h2)

theorem State.Tidy.rkeConfirmTimeout' (h : r.Tidy s) {slot : Nat} : r.Tidy (rkeConfirmTimeout slot s) := by
  unfold rkeConfirmTimeout
  split
  · exact h
  · exact h.set.rkeOut.retireSpent

theorem State.Tidy.lockExpiry' (h : r.Tidy s) {i : Nat} : r.Tidy (lockExpiry i s) := h.setSlot.ite h.setPath
theorem State.Tidy.failureAgeOut' (h : r.Tidy s) {i : Nat} : r.Tidy (failureAgeOut i s) := h.setSlot.ite h.setPath

theorem State.Tidy.slotStateOp' (h : r.Tidy s) {source target n : Nat} : r.Tidy (slotStateOp source target n s).1 := by
  unfold slotStateOp
  refine h.mbRefuse'.iteFst ?_
  extract_lets _ s1
  have h1 : r.Tidy s1 := h.setSlot
  exact h1.journal.mbOk'

/-! ## Radio -/

theorem State.Tidy.radioCommand' (h : r.Tidy s) {op : RadioOp} {start ticks power : Nat} :
    r.Tidy (radioCommand op start ticks power s) := h.ite (h.ite h.queueRadio)

theorem State.Tidy.synOk (h : r.Tidy s) {n : Nat} : r.Tidy (s.synOk n) := h.synLock.set

theorem State.Tidy.applyPower (h : r.Tidy s) {op : RadioOp} {power : Nat} : r.Tidy (s.applyPower op power) := by
  unfold State.applyPower
  split
  · exact h.put
  · exact h.put
  · exact h.put
  · exact h
  · exact h

theorem State.Tidy.jobStarts (h : r.Tidy s) {c : RadioCmd} : r.Tidy (s.jobStarts c) := by
  unfold State.jobStarts
  split
  · extract_lets s1
    have h1 : r.Tidy s1 := h.tokSent24
    split
    · exact h1
    · exact h1.setHold
  · exact h.set.updSess
  · exact h
  · exact h
  · exact h
  · exact h
  · exact h
  · exact h

theorem State.Tidy.sweepStarts (h : r.Tidy s) {op : RadioOp} : r.Tidy (s.sweepStarts op) := h.set.ite h

theorem State.Tidy.goOnAir (h : r.Tidy s) {c : RadioCmd} {rest : List RadioCmd} : r.Tidy (s.goOnAir c rest) := by
  unfold State.goOnAir
  extract_lets _ _ _ _ s1 s2
  have h1 : r.Tidy s1 := h.set
  have h2 : r.Tidy s2 := (h1.paMeasure.ite h1).sweepStarts
  exact h2.applyPower.jobStarts.rfState

theorem State.Tidy.testOn (h : r.Tidy s) : r.Tidy s.testOn := by
  unfold State.testOn
  extract_lets _ _ _ s1 s2
  have h1 : r.Tidy s1 := h.set.synOk.putFlag
  have h2 : r.Tidy s2 := h1.ite h1.paMeasure
  exact (h2.put.ite h2).rfState

theorem State.Tidy.lockDetect' (h : r.Tidy s) : r.Tidy (lockDetect s) := by
  unfold lockDetect
  refine h.ite ?_
  split
  · refine h.ite ?_
    extract_lets s1 _ s2
    have h1 : r.Tidy s1 := h.synOk
    have h2 : r.Tidy s2 := h1.set.ite h1
    exact h2.goOnAir.ite h2
  · exact h.set.synOk.rfIdle.ite (h.testOn.ite h)

theorem State.Tidy.synFail (h : r.Tidy s) {n : Nat} : r.Tidy (s.synFail n) := by
  unfold State.synFail
  extract_lets s1 _
  have h1 : r.Tidy s1 := h.abortExchange.putFlag.event.redLoss
  exact h1.set.goDown.refreshRng.ite h1.reason.refreshRng

theorem State.Tidy.jobFails (h : r.Tidy s) {j : RadioJob} : r.Tidy (s.jobFails j) := by
  unfold State.jobFails
  split
  · split
    · exact h.setHold
    · exact h
  · exact h.dropExchange
  · exact h.dropExchange
  · exact h.dropExchange
  · exact h
  · exact h
  · exact h
  · exact h

theorem State.Tidy.dueTakeover (h : r.Tidy s) : r.Tidy s.dueTakeover := h.set.restartSessions.ite h

theorem State.Tidy.lockTimeout' (h : r.Tidy s) : r.Tidy (lockTimeout s) := by
  unfold lockTimeout
  refine h.ite ?_
  extract_lets _ _ _ _ _ s0 _ s1 s2
  have h0 : r.Tidy s0 := by
    unfold s0
    split
    · exact h.jobFails.set
    · exact h
  have h1 : r.Tidy s1 := h0.set
  have h2 : r.Tidy s2 := h1.event.bumpBy.reason.synLock
  exact ((h2.synFail.ite h2).rfIdle).dueTakeover

theorem State.Tidy.lockLoss' (h : r.Tidy s) : r.Tidy (lockLoss s) := by
  unfold lockLoss
  extract_lets _ _
  refine h.endTest.synLock.event.bump.reason.rfIdle.dueTakeover.ite ?_
  split
  · split
    · exact h.set.synLock.abortExchange.jobFails.event.bump.reason.rfIdle.dueTakeover
    · exact h.set.synLock.abortExchange.jobFails.event.bump.reason.rfIdle.dueTakeover
    · exact h.set.synLock.abortExchange.jobFails.event.bump.reason.rfIdle.dueTakeover
    · exact h
    · exact h
  · exact h

theorem State.Tidy.windowEnd' (h : r.Tidy s) {floor : Nat} : r.Tidy (windowEnd floor s) := by
  unfold windowEnd
  split
  · exact h
  · extract_lets _ _ s1 s2 s3
    have h1 : r.Tidy s1 := h.set
    have h2 : r.Tidy s2 := by
      unfold s2
      split
      · exact h1.put
      · exact h1
      · exact h1
      · exact h1
      · exact h1
    have h3 : r.Tidy s3 := by
      unfold s3
      split
      · exact h2.dropExchange
      · exact h2
    exact h3.rfIdle.dueTakeover

theorem State.Tidy.showThreshold (h : r.Tidy s) {raised : Bool} : r.Tidy (s.showThreshold raised) := h.put.putFlag

theorem State.Tidy.rkeSniff' (h : r.Tidy s) {windows : List (BitVec 8)} : r.Tidy (rkeSniff windows s) := by
  unfold rkeSniff
  refine h.ite ?_
  extract_lets _ s1 _ s2
  have h1 : r.Tidy s1 := h.set.bump
  have h2 : r.Tidy s2 := h1.set
  exact h2.raiseVote.raiseVote.synLock.rfState.ite h1.rfState

theorem State.Tidy.falseDetection' (h : r.Tidy s) : r.Tidy (falseDetection s) := by
  unfold falseDetection
  split
  · exact h
  · refine h.ite ?_
    extract_lets _ _ _ s1 _ u s2
    have h1 : r.Tidy s1 := h.set.bump
    have hu : r.Tidy u := h1.set
    have h2 : r.Tidy s2 := hu.showThreshold.event.reason.journal.ite h1
    exact h2.releaseIdle.rfIdle

theorem State.Tidy.sniffThresholdRestore' (h : r.Tidy s) : r.Tidy (sniffThresholdRestore s) := h.showThreshold.ite h
theorem State.Tidy.sniffHold' (h : r.Tidy s) {b : Bool} : r.Tidy (sniffHold b s) := h.ite h.putFlag.journal

theorem State.Tidy.calChain (h : r.Tidy s) {n : Nat} {c : ChainFact} : r.Tidy (s.calChain n c) := by
  unfold State.calChain
  refine h.ite ?_
  extract_lets _ _ _ s1 s2 _ _ s3
  have h1 : r.Tidy s1 := h.put.put.put.putFlag
  have h2 : r.Tidy s2 := h1.putFlag.putFlag.put
  have h3 : r.Tidy s3 := h2.set.put
  exact h3.event.redLoss.reason.ite (h3.reason.ite h3)

theorem State.Tidy.chainsChanged (h : r.Tidy s) : r.Tidy s.chainsChanged := by
  unfold State.chainsChanged
  extract_lets _ s1
  have h1 : r.Tidy s1 := h.put.refreshRng
  exact h1.goDown.refreshRng.ite h1

theorem State.Tidy.applyCal (h : r.Tidy s) {cause : Nat} {f : CalFacts} : r.Tidy (s.applyCal cause f) := by
  unfold State.applyCal
  extract_lets s1 _ s2 s3 _ s4 s5 s6 _ s7 s8 s9 s10 _
  have h1 : r.Tidy s1 := h.foldl fun _ _ ht => ht.calChain
  have h2 : r.Tidy s2 := h1.ite h1.redClear
  have h3 : r.Tidy s3 := h2.reason.ite h2
  have h4 : r.Tidy s4 := h3.putFlag.putFlag.putFlag
  have h5 : r.Tidy s5 := h4.put
  have h6 : r.Tidy s6 := h5.event.reason.ite (h5.reason.ite h5)
  have h7 : r.Tidy s7 := h6.putFlag
  have h8 : r.Tidy s8 := h7.ite h7.reason
  have h9 : r.Tidy s9 := h8.put.put.bump.event
  have h10 : r.Tidy s10 := h9.put.put.put
  exact h10.set.putFlag.chainsChanged

theorem State.Tidy.calWanted (h : r.Tidy s) {cause : Nat} : r.Tidy (s.calWanted cause) := by
  unfold State.calWanted
  split
  · exact h.ite h.set
  · exact h.set

theorem State.Tidy.calBegin (h : r.Tidy s) : r.Tidy s.calBegin := by
  unfold State.calBegin
  split
  · exact h.ite h.set.putFlag.rfState
  · exact h

theorem State.Tidy.cal' (h : r.Tidy s) : r.Tidy (cal s) := h.ite h.calWanted.calBegin

theorem State.Tidy.calDue' (h : r.Tidy s) {temp : Nat} : r.Tidy (calDue temp s) := by
  unfold calDue
  extract_lets s' _
  have hs' : r.Tidy s' := h.put
  exact hs'.ite (hs'.calWanted.calBegin.ite (hs'.calWanted.calBegin.ite hs'.calBegin))

theorem State.Tidy.calStepEnd' (h : r.Tidy s) {last : Bool} {facts : CalFacts} : r.Tidy (calStepEnd last facts s) := by
  unfold calStepEnd
  extract_lets s' _
  have hs' : r.Tidy s' := h.calBegin
  split
  · exact hs'
  · exact hs'.ite (hs'.set.putFlag.rfIdle.ite (hs'.set.ite hs'.applyCal.recheck.rfIdle))

theorem State.Tidy.chainOff' (h : r.Tidy s) {n : Nat} {b : Bool} : r.Tidy (chainOff n b s) := by
  unfold chainOff
  extract_lets s1 s2
  have h1 : r.Tidy s1 := h.putFlag
  have h2 : r.Tidy s2 := h1.putFlag.putFlag.put.chainsChanged
  exact h1.ite (h2.reason.ite h2)

theorem State.Tidy.testStart' (h : r.Tidy s) {w : Nat} : r.Tidy (testStart w s) := by
  unfold testStart
  refine h.ite ?_
  refine h.reason.ite ?_
  extract_lets _ s0 s1 s2 _ s3
  have h0 : r.Tidy s0 := h.setReg
  have h1 : r.Tidy s1 := h0.put.ite h0
  have h2 : r.Tidy s2 := h1.abandonCal.endTest
  have h3 : r.Tidy s3 := h2.set
  exact h1.ite (h3.rfIdle.ite h3)

theorem State.Tidy.testStop' (h : r.Tidy s) : r.Tidy (testStop s) := h.endTest.rfIdle

theorem State.Tidy.rfEnabled (h : r.Tidy s) {cause : Nat} {f : CalFacts} : r.Tidy (s.rfEnabled cause f) := by
  unfold State.rfEnabled
  extract_lets s1 s2 s3
  have h1 : r.Tidy s1 := h.put.putFlag
  have h2 : r.Tidy s2 := h1.put.put.showThreshold
  have h3 : r.Tidy s3 := h2.ite h2.put
  exact h3.applyCal.rfIdle

theorem State.Tidy.rfRefLost (h : r.Tidy s) : r.Tidy s.rfRefLost := by
  unfold State.rfRefLost
  extract_lets s1 _ s2 s3
  have h1 : r.Tidy s1 := h.abortExchange.abandonCal.endTest
  have h2 : r.Tidy s2 := h1.set
  have h3 : r.Tidy s3 := h2.synLock.synLock.putFlag.rfState
  exact h3.event.reason.goDown.refreshRng.ite h3

end

end Sys2Proof.Machine
end

section
/-! SUPPORT. The functions of Learn, Image, Lf keep the commands that wait and the canonical form of the memories. -/
namespace Sys2Proof.Machine

open Sys2Proof

-- One declaration after another: checking many at a time takes more memory than the text may use.
set_option Elab.async false

section
variable {r s : State}

/-! ## Learn -/

theorem State.Tidy.showLearn (h : r.Tidy s) : r.Tidy s.showLearn := by
  unfold State.showLearn
  split <;> exact h.putFlag.setReg

theorem State.Tidy.setLearn (h : r.Tidy s) {l : Option Learn} : r.Tidy (s.setLearn l) := h.set.showLearn
theorem State.Tidy.touchLearn (h : r.Tidy s) : r.Tidy s.touchLearn := h.set

theorem State.Tidy.learnOpenOp' (h : r.Tidy s) {n : Nat} {auth : Bytes} : r.Tidy (learnOpenOp n auth s).1 := by
  unfold learnOpenOp
  extract_lets s' a t _ t1
  have hs' : r.Tidy s' := h.touchLearn
  have ha : r.Tidy a.1 := hs'.checkAuth
  have ht : r.Tidy t := ha
  have ht1 : r.Tidy t1 := ht.set
  exact hs'.mbFail'.iteFst (hs'.mbRefuse'.iteFst (hs'.mbFail'.iteFst (ht.mbFail'.iteFst (ht.mbFail'.iteFst (ht.mbFail'.iteFst (ht.mbFail'.iteFst
      ht1.setLearn.refreshKeys.reason.mbOk'))))))

theorem State.Tidy.endLearnCard (h : r.Tidy s) : r.Tidy s.endLearnCard := h.set.withdrawVote.ite h

theorem State.Tidy.dropLearn (h : r.Tidy s) : r.Tidy s.dropLearn := by
  unfold State.dropLearn
  extract_lets s0 _ _ s1 s2
  have h0 : r.Tidy s0 := h.endLearnCard
  have h1 : r.Tidy s1 := h0.set
  have h2 : r.Tidy s2 := h1.setHold.ite h1
  exact h2.setLearn.refreshKeys.event

theorem State.Tidy.endLearnStep (h : r.Tidy s) {code : Nat} {out : Bytes} : r.Tidy (s.endLearnStep code out) := by
  unfold State.endLearnStep
  extract_lets _ s1 s2
  have h1 : r.Tidy s1 := h.setLearn.reason.finish
  have h2 : r.Tidy s2 := h1.endLearnCard
  exact h2.endHold.ite h2

theorem State.Tidy.learnRead (h : r.Tidy s) {arsp : Bytes} : r.Tidy (s.learnRead arsp) := by
  unfold State.learnRead
  split
  · exact h.ite (h.endLearnStep.ite (h.endLearnStep.ite h.freshPr.tokSent.setLearn))
  · exact h

theorem State.Tidy.turnValues (h : r.Tidy s) {x : LearnStep} {c kr : Bytes} {l : List CalExchange} :
    r.Tidy (State.turnValues x c kr l s).2 := by
  induction l generalizing s with
  | nil => exact h
  | cons e es ih =>
    unfold State.turnValues
    dsimp only
    split <;> exact ih h.fresh

theorem State.Tidy.learnTurn (h : r.Tidy s) {x : LearnStep} {arsp : Bytes} {exchanges : List CalExchange} :
    r.Tidy (s.learnTurn x arsp exchanges).1 := by
  unfold State.learnTurn
  split
  · exact h
  · split
    · exact h
    · extract_lets _ t0 good
      have h0 : r.Tidy t0 := h.fresh.tokSent
      split
      next vals t heq =>
        have ht : r.Tidy t := by
          split at heq
          · exact h0.turnValues.snd heq
          · exact State.Tidy.snd (p := (([] : List Rat), t0)) h0 heq
        dsimp only
        split
        · exact ht.setReg.event.reason
        · split <;> exact ht.setReg

theorem State.Tidy.keyackReceive' (h : r.Tidy s) {frame arsp : Bytes} {exchanges : List CalExchange} :
    r.Tidy (keyackReceive frame arsp exchanges s) := by
  unfold keyackReceive
  split
  · refine h.ite ?_
    extract_lets _ _
    refine h.endLearnStep.ite ?_
    split
    · next t code heq =>
        have ht := h.learnTurn.fst heq
        exact ht.endLearnStep
    · next t turn heq =>
        have ht := h.learnTurn.fst heq
        exact ht.endLearnStep.ite ht.setLearn.commitPoint.endLearnStep
  · exact h

theorem State.Tidy.keyackTimeout' (h : r.Tidy s) : r.Tidy (keyackTimeout s) := by
  unfold keyackTimeout
  split
  · exact h.endLearnStep.ite h
  · exact h

theorem State.Tidy.commitSet (h : r.Tidy s) {l : Learn} {ok : Bool} : r.Tidy (s.commitSet l ok).1 := by
  unfold State.commitSet
  extract_lets _ _ s0 c _ _ _ _ _ t1 t2
  have h0 : r.Tidy s0 := h.set
  have hc : r.Tidy c.1 := h0.commitGen
  have ht1 : r.Tidy t1 := hc.set
  have ht2 : r.Tidy t2 := ht1.setLearn.refreshSet.refreshKeys.event.reason
  exact hc.set.mbFail'.iteFst ht2.keyEvent.mbOk'

theorem State.Tidy.learnCommitOp' (h : r.Tidy s) {ok : Bool} : r.Tidy (learnCommitOp ok s).1 := by
  unfold learnCommitOp
  extract_lets s' _
  have hs' : r.Tidy s' := h.touchLearn
  split
  · exact hs'.mbFail'
  · exact hs'.mbFail'.iteFst (hs'.commitSet.iteFst hs'.set)

theorem State.Tidy.dueCommit (h : r.Tidy s) : r.Tidy s.dueCommit := by
  unfold State.dueCommit
  split
  · refine .ite ?_ h
    extract_lets r'
    have hr' : r.Tidy r'.1 := h.commitSet
    exact hr'.finish
  · exact h

theorem State.Tidy.learnAbandonOp' (h : r.Tidy s) : r.Tidy (learnAbandonOp s).1 := h.mbFail'.iteFst h.dropLearn.reason.mbOk'

theorem State.Tidy.learnTimeout' (h : r.Tidy s) : r.Tidy (learnTimeout s) := by
  unfold learnTimeout
  split
  · exact h
  · exact h.ite h.dropLearn.reason

/-! ## Image -/

theorem State.Tidy.settingEntry (h : r.Tidy s) {id old new source : Nat} : r.Tidy (s.settingEntry id old new source) := h.journal

theorem State.Tidy.copyBank (h : r.Tidy s) : r.Tidy s.copyBank := by
  unfold State.copyBank
  split
  · exact h
  · exact h.ite h.set.program

theorem State.Tidy.reconcileOne' {acc : State × List (Nat × Nat)} (h : r.Tidy acc.1) {old : List (Nat × Nat)} {q : SettingRec} :
    r.Tidy (reconcileOne old acc q).1 := by
  unfold reconcileOne
  split
  · exact h
  · split
    · exact h
    · exact h.settingEntry

theorem State.Tidy.reconcile (h : r.Tidy s) : r.Tidy s.reconcile := by
  unfold State.reconcile
  refine h.ite ?_
  split
  · exact h.set
  · refine h.ite ?_
    extract_lets x
    have hx : r.Tidy x.1 := .foldlFst h fun q x hq => hq.reconcileOne'
    exact hx.set.copyBank

theorem State.Tidy.settingReadOp' (h : r.Tidy s) {id : Nat} : r.Tidy (settingReadOp id s).1 := by
  unfold settingReadOp
  split
  · exact h.mbFail'
  · exact h.mbOk'

theorem State.Tidy.settingWriteOp' (h : r.Tidy s) {id v : Nat} : r.Tidy (settingWriteOp id v s).1 := by
  unfold settingWriteOp
  split
  · exact h.mbFail'
  · refine h.mbFail'.iteFst ?_
    refine h.mbFail'.iteFst ?_
    extract_lets _ _ _ s1
    have h1 : r.Tidy s1 := by
      unfold s1
      split
      · exact h.set
      · exact h
    exact ((h1.settingEntry.ite h1).commitPoint).mbOk'

theorem State.Tidy.copyReason (h : r.Tidy s) {k code : Nat} : r.Tidy (s.copyReason k code) := h.put

theorem State.Tidy.selectImage (h : r.Tidy s) {src : Nat} {img : Bytes} {secs : List Section} {unchecked : List Nat} :
    r.Tidy (s.selectImage src img secs unchecked) := by
  unfold State.selectImage
  extract_lets _ _ s1 s2 s3 s4 s5 _ _
  have h1 : r.Tidy s1 := h.set
  have h2 : r.Tidy s2 := h1.put.setReg.setReg.setReg
  have h3 : r.Tidy s3 := h2.putFlag
  have h4 : r.Tidy s4 := h3.foldl fun _ _ ht => ht.journal
  have h5 : r.Tidy s5 := h4.reconcile
  exact h5.ite h5.set.program

theorem State.Tidy.startNote (h : r.Tidy s) {code : Nat} : r.Tidy (s.startNote code) := h.put.reason

theorem State.Tidy.tryCopies' (h : r.Tidy s) {env : Env} {l : List Nat} : r.Tidy (tryCopies env l s).1 := by
  induction l generalizing s with
  | nil => exact h
  | cons k rest ih =>
    unfold tryCopies
    split
    · exact h.copyReason.selectImage
    · exact ih h.copyReason

theorem State.Tidy.chooseImage (h : r.Tidy s) {env : Env} : r.Tidy (s.chooseImage env).1 := by
  unfold State.chooseImage
  extract_lets s1 r'
  have h1 : r.Tidy s1 := h.ite h.startNote
  have hr' : r.Tidy r'.1 := h.copyReason.copyReason.startNote.iteFst (h1.copyReason.copyReason.startNote.iteFst h1.tryCopies')
  refine hr'.iteFst ?_
  split
  · exact hr'
  · split
    · exact hr'
    · exact hr'.selectImage

theorem State.Tidy.imgChecked' (h : r.Tidy s) {env : Env} : r.Tidy (imgChecked env s) := h.ite (((h.foldl fun _ _ ht => ht.copyReason).set).event)
theorem State.Tidy.lkgRefresh (h : r.Tidy s) : r.Tidy s.lkgRefresh := h.ite (h.ite h.set)
theorem State.Tidy.endCfgWrite (h : r.Tidy s) {code : Nat} : r.Tidy (s.endCfgWrite code) := h.set.setReg.event.reason

theorem State.Tidy.cfgWriteOpenOp' (h : r.Tidy s) {len : Nat} : r.Tidy (cfgWriteOpenOp len s).1 := by
  unfold cfgWriteOpenOp
  refine h.mbFail'.iteFst (h.mbFail'.iteFst ?_)
  split
  · exact h.mbFail'
  · exact h.mbFail'.iteFst (h.norSet norErase_wf).mbOk'

theorem State.Tidy.cfgWriteChunkOp' (h : r.Tidy s) {index : Nat} {data : Bytes} {env : Env} : r.Tidy (cfgWriteChunkOp index data env s).1 := by
  unfold cfgWriteChunkOp
  split
  · exact h.mbRefuse'
  · refine h.mbRefuse'.iteFst ?_
    split
    · exact h.endCfgWrite
    · exact h.endCfgWrite.iteFst ((h.norSet norErase_wf).endCfgWrite.iteFst
        ((h.norSet norWrite_wf).setReg.mbOk'.iteFst (h.norSet norWrite_wf).endCfgWrite))

/-! ## Lf -/

theorem State.Tidy.journalLf (h : r.Tidy s) {reason input value pt : Nat} : r.Tidy (s.journalLf reason input value pt) := h.journal
theorem State.Tidy.putInput (h : r.Tidy s) {f : Field} {w : Nat} {b : Bool} : r.Tidy (s.putInput f w b) := h.put

theorem State.Tidy.serveWakeAt (h : r.Tidy s) {w pt : Nat} {latched : Bool} : r.Tidy (s.serveWakeAt w pt latched) := by
  unfold State.serveWakeAt
  extract_lets _ _ _ _ _ _ s1 s1' s2 s3
  have h1 : r.Tidy s1 := h.set
  have hs1' : r.Tidy s1' := h.set
  have h2 : r.Tidy s2 := hs1'.putInput.event.setReg
  have h3 : r.Tidy s3 := h2.setReg.standZero.touch
  refine h.ite ?_
  refine h1.putInput.event.reason.journalLf.ite ?_
  refine h3.raiseVote.relockIfDue.ite ?_
  refine h3.journalLf.ite ?_
  split
  next s4 why heq =>
    have h4 := h3.raiseRequest.fst heq
    exact h4.reason.journalLf.ite (h4.journalLf.ite h4)

theorem State.Tidy.serveWake (h : r.Tidy s) {w pt : Nat} : r.Tidy (s.serveWake w pt) := h.serveWakeAt

theorem State.Tidy.wakeEdge' (h : r.Tidy s) {w : Nat} : r.Tidy (wakeEdge w s) := by
  unfold wakeEdge
  refine h.ite ?_
  extract_lets s1
  have h1 : r.Tidy s1 := h.putInput
  exact h1.latch.ite (h1.serveWake.ite h1)

theorem State.Tidy.chatterUnmask' (h : r.Tidy s) {w : Nat} : r.Tidy (chatterUnmask w s) := h.set.putInput.ite h
theorem State.Tidy.wakeInputInactive' (h : r.Tidy s) {w : Nat} : r.Tidy (wakeInputInactive w s) := h.putInput.relockIfDue
theorem State.Tidy.candleHold' (h : r.Tidy s) {b : Bool} : r.Tidy (candleHold b s) := h.ite h.putFlag.journalLf

theorem State.Tidy.lftOutcome (h : r.Tidy s) {reason tries : Nat} : r.Tidy (s.lftOutcome reason tries) := by
  unfold State.lftOutcome
  extract_lets s1
  have h1 : r.Tidy s1 := h.setReg
  exact h1.bump.event.ite h1.bump.event.reason

theorem State.Tidy.judgeArsp (h : r.Tidy s) {path d : Nat} {c arsp : Bytes} {id code : Nat} : r.Tidy (s.judgeArsp path d c arsp id code).1 := by
  unfold State.judgeArsp
  extract_lets _ _
  refine h.refuseAttempt.iteFst ?_
  split
  · exact h.refuseUnknown
  · exact h.refuseAttempt.iteFst (h.refuseMac.iteFst (h.replay.refuseAttempt.iteFst (h.refuseAttempt.iteFst (((((h.acceptCtr.ite
      h).authSucceed).journalAuth).judge).retireSpent))))

theorem State.Tidy.lftUplinkReceive' (h : r.Tidy s) {frame : Bytes} : r.Tidy (lftUplinkReceive frame s) := by
  unfold lftUplinkReceive
  split
  · exact h
  · refine h.ite ?_
    split
    · exact h.setHold
    · refine h.setHold.ite ?_
      extract_lets s1
      have h1 : r.Tidy s1 := h.lftOutcome
      refine h1.learnRead.ite ?_
      split
      next s2 why heq =>
        have h2 := h1.judgeArsp.fst heq
        exact h2.endHold

theorem State.Tidy.lftRetry' (h : r.Tidy s) : r.Tidy (lftRetry s) := by
  unfold lftRetry
  split
  · exact h
  · refine h.ite ?_
    refine h.setHold.ite ?_
    extract_lets _ s1
    have h1 : r.Tidy s1 := h.lftOutcome
    exact h1.endLearnStep.ite h1.endHold

theorem State.Tidy.failChannel (h : r.Tidy s) {c code why : Nat} : r.Tidy (s.failChannel c code why) := h.putFlag.put.bump.event.reason.refreshLf

theorem State.Tidy.calLfChannel (h : r.Tidy s) {c : Nat} {m : Option (Nat × Nat)} : r.Tidy (s.calLfChannel c m) := by
  unfold State.calLfChannel
  refine h.ite ?_
  split
  · exact h.failChannel
  · extract_lets s1 _ s2
    have h1 : r.Tidy s1 := h.put.put
    have h2 : r.Tidy s2 := h1.put
    exact h1.ite (h2.put.bump.event.reason.ite h2)

theorem State.Tidy.calLf (h : r.Tidy s) {temp : Int} {meas : List (Option (Nat × Nat))} :
    r.Tidy (s.calLf temp meas) := ((h.foldl fun _ _ ht => ht.calLfChannel).set).refreshLf

theorem State.Tidy.recal' (h : r.Tidy s) {temp : Int} {meas : List (Option (Nat × Nat))} : r.Tidy (recal temp meas s) := h.ite (h.calLf.ite h.set)
theorem State.Tidy.lfRecalDue' (h : r.Tidy s) {temp : Int} {meas : List (Option (Nat × Nat))} : r.Tidy (lfRecalDue temp meas s) := h.calLf.ite h

theorem State.Tidy.legFail' (h : r.Tidy s) {c : Nat} {legB : Bool} : r.Tidy (legFail c legB s) := by
  unfold legFail
  refine h.ite ?_
  extract_lets s1 s2
  have h1 : r.Tidy s1 := h.putFlag
  have h2 : r.Tidy s2 := h1.putFlag.put.event.redLoss.reason
  exact h2.failChannel.ite h2.bump.refreshLf

theorem State.Tidy.openCoil' (h : r.Tidy s) {c : Nat} : r.Tidy (openCoil c s) := h.failChannel.ite h

theorem State.Tidy.outputShort' (h : r.Tidy s) {c : Nat} : r.Tidy (outputShort c s) := by
  unfold outputShort
  extract_lets _ _
  split
  · exact h
  · refine h.ite ?_
    extract_lets s1
    have h1 : r.Tidy s1 := h.set
    exact h1.failChannel.ite h1.put.bump.reason

theorem State.Tidy.driverOvertemp' (h : r.Tidy s) {hot : Bool} : r.Tidy (driverOvertemp hot s) := h.putFlag.ite (h.ite h.putFlag.event.reason)
theorem State.Tidy.vantFault' (h : r.Tidy s) {centivolt : Nat} : r.Tidy (vantFault centivolt s) := h.ite h.set.putFlag.put.event.reason.refreshLf
theorem State.Tidy.vantRetry' (h : r.Tidy s) {ok : Bool} {centivolt : Nat} : r.Tidy (vantRetry ok centivolt s) := h.ite h.set.put.putFlag.refreshLf

theorem State.Tidy.lfChannelOff' (h : r.Tidy s) {c : Nat} {b : Bool} : r.Tidy (lfChannelOff c b s) := by
  unfold lfChannelOff
  extract_lets s1
  have h1 : r.Tidy s1 := h.putFlag
  exact (h1.reason.ite h1).refreshLf

theorem State.Tidy.lfEnabled (h : r.Tidy s) {temp : Int} {meas : List (Option (Nat × Nat))} :
    r.Tidy (s.lfEnabled temp meas) := h.put.put.putFlag.putFlag.put.put.calLf

theorem State.Tidy.lfLost (h : r.Tidy s) : r.Tidy s.lfLost := (((h.set.foldl fun _ _ ht => ht.finish.ite ht).endHold).putFlag).refreshLf

end

end Sys2Proof.Machine
end

section
/-! SUPPORT. The functions of Nfc, Update keep the commands that wait and the canonical form of the memories. -/
namespace Sys2Proof.Machine

open Sys2Proof

-- One declaration after another: checking many at a time takes more memory than the text may use.
set_option Elab.async false

section
variable {r s : State}

/-! ## Nfc -/

theorem State.Tidy.setTag (h : r.Tidy s) {f : Tag → Tag} (hmem : (f s.tag).mem = s.tag.mem := by rfl) : r.Tidy (s.setTag f) := by
  refine ⟨h.1, fun hr => ?_⟩
  obtain ⟨hregs, hnor, htag, hsram⟩ := s.canonical_iff.mp (h.2 hr)
  refine (State.canonical_iff _).mpr ⟨hregs, hnor, ?_, hsram⟩
  rw [State.setTag, hmem]
  exact htag

theorem State.Tidy.pollDeferred (h : r.Tidy s) {why : Nat} : r.Tidy (s.pollDeferred why) := by
  unfold State.pollDeferred
  extract_lets s1
  have h1 : r.Tidy s1 := h.reason
  exact h1.event.bump.ite h1

theorem State.Tidy.endDetection (h : r.Tidy s) {code : Nat} : r.Tidy (s.endDetection code) := by
  unfold State.endDetection
  split
  · exact h
  · extract_lets _ s1 s2 s3
    have h1 : r.Tidy s1 := h.set.withdrawVote
    have h2 : r.Tidy s2 := h1.reason.ite h1
    have h3 : r.Tidy s3 := h2.event.ite h2
    exact h3.ite h3.closeRequest

theorem State.Tidy.selectCard (h : r.Tidy s) {d : Detection} : r.Tidy (s.selectCard d) := by
  unfold State.selectCard
  split
  · exact h.set.endDetection
  · extract_lets _ s1 _ _
    have h1 : r.Tidy s1 := h.ite h.fresh
    exact h1.set.tokSent

theorem State.Tidy.startDetection (h : r.Tidy s) {f : CardField} {learn : Bool} : r.Tidy (s.startDetection f learn) := by
  unfold State.startDetection
  split
  · extract_lets s1
    have h1 : r.Tidy s1 := h.raiseVote.event.bump
    refine h1.selectCard.ite ?_
    split
    next s2 id heq =>
      have h2 := h1.openRequest.fst heq
      exact h2.selectCard

theorem State.Tidy.detect (h : r.Tidy s) {f : CardField} :
    r.Tidy (s.detect f) := h.set.pollDeferred.ite (h.pollDeferred.ite (h.set.ite ((h.raiseVote.ite h).startDetection)))

theorem State.Tidy.dueCards (h : r.Tidy s) : r.Tidy s.dueCards := by
  unfold State.dueCards
  split
  · exact h
  · refine h.ite ?_
    extract_lets _ s1
    have h1 : r.Tidy s1 := h.set
    exact h1.detect.ite h1

theorem State.Tidy.lpcdSense' (h : r.Tidy s) {detuning : Option Nat} {f : CardField} : r.Tidy (lpcdSense detuning f s) := by
  unfold lpcdSense
  extract_lets _ _ s1 _
  have h1 : r.Tidy s1 := h.set
  refine h.ite ?_
  split
  · exact h.setTag.reason
  · exact h1.detect.ite h1.set

theorem State.Tidy.poll' (h : r.Tidy s) {f : CardField} : r.Tidy (poll f s) := h.ite h.detect
theorem State.Tidy.lastCard (h : r.Tidy s) {c : Card} {why : Nat} : r.Tidy (s.lastCard c why) := h.setReg
theorem State.Tidy.nextCard (h : r.Tidy s) {d : Detection} : r.Tidy (s.nextCard d) := h.selectCard

theorem State.Tidy.cardArsp' (h : r.Tidy s) {frame : Bytes} {level : Nat} : r.Tidy (cardArsp frame level s) := by
  unfold cardArsp
  split
  · exact h
  · split
    · exact h
    · refine h.ite ?_
      refine .ite ?_ ?_
      · extract_lets s1
        have h1 : r.Tidy s1 := h.lastCard.event.reason
        exact h1.endLearnStep.ite h1.nextCard
      · extract_lets s1 _ s2 _
        have h1 : r.Tidy s1 := h.event.bump
        have h2 : r.Tidy s2 := h1.lastCard
        refine (h2.endLearnStep.ite h2.learnRead).ite ?_
        split
        next s2 why heq =>
          have h2 := h1.judgeArsp.fst heq
          extract_lets s3
          have h3 : r.Tidy s3 := h2.lastCard
          exact h3.endDetection.ite h3.nextCard

theorem State.Tidy.cardTimeout' (h : r.Tidy s) {protocol : Bool} : r.Tidy (cardTimeout protocol s) := by
  unfold cardTimeout
  split
  · exact h
  · split
    · exact h
    · refine h.ite ?_
      extract_lets _ s1
      have h1 : r.Tidy s1 := h.lastCard.event.reason
      exact h1.endLearnStep.ite h1.nextCard

theorem State.Tidy.readerStop (h : r.Tidy s) : r.Tidy s.readerStop := by
  unfold State.readerStop
  split
  · exact h
  · exact h.endLearnStep.ite h.endDetection

theorem State.Tidy.readerRestart (h : r.Tidy s) : r.Tidy s.readerRestart := by
  unfold State.readerRestart
  split
  · exact h
  · exact h.ite h.selectCard

theorem State.Tidy.learnTokenOp' (h : r.Tidy s) {record : Bytes} {f : CardField} : r.Tidy (learnTokenOp record f s).1 := by
  unfold learnTokenOp
  split
  · exact h.touchLearn.mbFail'
  · extract_lets s1 s2 _
    have h1 : r.Tidy s1 := h.touchLearn
    have h2 : r.Tidy s2 := h1.setLearn
    refine .iteFst ?_ (h1.mbFail'.iteFst (h1.mbFail'.iteFst (h1.pollDeferred.mbFail'.iteFst (h1.mbFail'.iteFst h2.startDetection))))
    split
    next s3 why heq =>
      have h3 := h2.raiseRequest.fst heq
      refine h1.mbFail'.iteFst ?_
      dsimp only
      exact h3

theorem State.Tidy.flushTag (h : r.Tidy s) : r.Tidy s.flushTag := by
  unfold State.flushTag
  refine h.ite ?_
  refine h.setTag.ite ?_
  extract_lets _ s1
  have h1 : r.Tidy s1 := h.setTag.foldl fun _ _ ht => ht.tailPut
  exact h1.statusCopy.ite h1

theorem State.Tidy.fieldEntry' (h : r.Tidy s) {level : Nat} : r.Tidy (fieldEntry level s) := by
  unfold fieldEntry
  refine h.ite ?_
  refine h.setTag.ite ?_
  extract_lets _ s1 s2
  have h1 : r.Tidy s1 := h.setTag
  have h2 : r.Tidy s2 := h1.event.bump
  exact h1.ite (h2.ite h2.raiseVote.flushTag.statusCopy.withdrawVote)

theorem State.Tidy.fieldLoss' (h : r.Tidy s) {deselect : Bool} : r.Tidy (fieldLoss deselect s) := h.ite h.setTag
theorem State.Tidy.tagAnticollision' (h : r.Tidy s) {fl : Nat} : r.Tidy (tagAnticollision fl s) := h.ite h.setTag
theorem State.Tidy.tagAnswer (h : r.Tidy s) {status : Byte} {data : Bytes} : r.Tidy (s.tagAnswer status data) := h.setTag

theorem State.Tidy.tagFrame (h : r.Tidy s) {fl n micros : Nat} {args : Bytes} {authEnd writes : Bool}
    {run : State → State} (hop : ∀ t, r.Tidy t → r.Tidy (run t)) : r.Tidy (s.tagFrame fl n micros args authEnd writes run) := by
  unfold State.tagFrame
  refine h.ite ?_
  extract_lets s1
  have h1 : r.Tidy s1 := h.setTag
  exact h1.bump.tagAnswer.ite (h1.setTag.tagAnswer.ite (h1.tagAnswer.ite (hop _ h1)))

theorem State.Tidy.getInfo' (h : r.Tidy s) : r.Tidy (getInfo s) := h.tagAnswer

theorem State.Tidy.tagFieldRead' (h : r.Tidy s) {args : Bytes} :
    r.Tidy (tagFieldRead args s) := h.tagAnswer.ite (h.tagAnswer.ite (h.tagAnswer.ite h.tagAnswer))

theorem State.Tidy.tagFieldWrite' (h : r.Tidy s) {args : Bytes} :
    r.Tidy (tagFieldWrite args s) := h.tagAnswer.ite (h.tagAnswer.ite (h.tagAnswer.ite h.tagPut.tagAnswer))

theorem State.Tidy.methodFailed (h : r.Tidy s) {key : Bool} : r.Tidy (s.methodFailed key) := by
  unfold State.methodFailed
  extract_lets n s1
  have h1 : r.Tidy s1 := h.setTag (by cases key <;> rfl)
  exact h1.event.reason.ite h1

theorem State.Tidy.pwdAuth' (h : r.Tidy s) {args : Bytes} : r.Tidy (pwdAuth args s) := by
  unfold pwdAuth
  refine h.tagAnswer.ite ?_
  refine h.tagAnswer.ite ?_
  split
  · exact h.tagAnswer
  · exact h.setTag.event.tagAnswer.ite h.methodFailed.tagAnswer

theorem State.Tidy.authBegin' (h : r.Tidy s) {args : Bytes} :
    r.Tidy (authBegin args s) := h.tagAnswer.ite (h.tagAnswer.ite (h.tagAnswer.ite h.setTag.tagAnswer))

theorem State.Tidy.authEnd' (h : r.Tidy s) {args : Bytes} :
    r.Tidy (authEnd args s) := h.tagAnswer.ite (h.setTag.event.tagAnswer.ite h.setTag.methodFailed.tagAnswer)

theorem State.Tidy.logout' (h : r.Tidy s) : r.Tidy (logout s) := (h.setTag.ite h).tagAnswer

theorem State.Tidy.endReservation (h : r.Tidy s) : r.Tidy s.endReservation := by
  unfold State.endReservation
  split
  · exact h.setTag.ite h
  · exact h

theorem State.Tidy.wired (h : r.Tidy s) {run : State → MbRes} (hop : ∀ t, r.Tidy t → r.Tidy (run t).1) : r.Tidy (s.wired run).1 := by
  unfold State.wired
  extract_lets s' _
  have hs' : r.Tidy s' := h.endReservation
  exact hs'.bump.mbFail'.iteFst (hs'.mbFail'.iteFst (hop _ hs'))

theorem State.Tidy.tagSetPwdOp' (h : r.Tidy s) {p : Bytes} : r.Tidy (tagSetPwdOp p s).1 := h.mbRefuse'.iteFst (h.wired fun _ ht => ht.setTag.mbOk')
theorem State.Tidy.tagSetKeyOp' (h : r.Tidy s) {k : Bytes} : r.Tidy (tagSetKeyOp k s).1 := h.mbRefuse'.iteFst (h.wired fun _ ht => ht.setTag.mbOk')

theorem State.Tidy.tagReadOp' (h : r.Tidy s) {block count : Nat} :
    r.Tidy (tagReadOp block count s).1 := h.wired fun _ ht => ht.mbFail'.iteFst ht.mbOk'

theorem State.Tidy.tagWriteOp' (h : r.Tidy s) {block count : Nat} {data : Bytes} :
    r.Tidy (tagWriteOp block count data s).1 := h.mbRefuse'.iteFst (h.wired fun _ ht => ht.mbFail'.iteFst (ht.mbFail'.iteFst ht.tagPut.mbOk'))

theorem State.Tidy.tagReserveOp' (h : r.Tidy s) {ms : Nat} :
    r.Tidy (tagReserveOp ms s).1 := h.mbRefuse'.iteFst (h.mbFail'.iteFst (h.mbFail'.iteFst h.setTag.mbOk'))

theorem State.Tidy.tagReleaseOp' (h : r.Tidy s) : r.Tidy (tagReleaseOp s).1 := by
  unfold tagReleaseOp
  extract_lets s'
  have hs' : r.Tidy s' := h.endReservation
  exact hs'.setTag.mbFail'.iteFst hs'.setTag.mbOk'

theorem State.Tidy.clrLocks' (h : r.Tidy s) : r.Tidy (clrLocks s) := h.reason.ite (h.bump.reason.ite h.setTag)
theorem State.Tidy.writeIdentity (h : r.Tidy s) : r.Tidy s.writeIdentity := h.tagPut.tagPut

theorem State.Tidy.nfcEnabled (h : r.Tidy s) : r.Tidy s.nfcEnabled := by
  unfold State.nfcEnabled
  extract_lets _ s1 _ s2 s3
  have h1 : r.Tidy s1 := h.setTag
  have h2 : r.Tidy s2 := h1.set
  have h3 : r.Tidy s3 := h2.reason.ite h2
  exact h3.writeIdentity.ite h3.reason

theorem State.Tidy.readerOff' (h : r.Tidy s) {b : Bool} : r.Tidy (readerOff b s) := by
  unfold readerOff
  extract_lets s1
  have h1 : r.Tidy s1 := h.putFlag
  exact h1.readerStop.ite h1

/-! ## Update -/

theorem State.Tidy.setFwSlot (h : r.Tidy s) {k : Nat} {x : FwSlot} : r.Tidy (s.setFwSlot k x) := h.set
theorem State.Tidy.setRole (h : r.Tidy s) {k : Nat} {r' : SlotRole} : r.Tidy (s.setRole k r') := h.setFwSlot
theorem State.Tidy.updEntry (h : r.Tidy s) {code slot reason : Nat} : r.Tidy (s.updEntry code slot reason) := h.journal
theorem State.Tidy.updTo (h : r.Tidy s) {x : UpdState} : r.Tidy (s.updTo x) := h.set
theorem State.Tidy.chunkRefused (h : r.Tidy s) {code : Nat} {out : Bytes} : r.Tidy (s.chunkRefused code out).1 := h.bump.event.reason
theorem State.Tidy.downloadEnd (h : r.Tidy s) : r.Tidy s.downloadEnd := h.ite h.updTo.set.updEntry

theorem State.Tidy.updBeginOp' (h : r.Tidy s) {chunk0 : Bytes} {env : Env} :
    r.Tidy (updBeginOp chunk0 env s).1 :=
      h.mbRefuse'.iteFst (h.mbOk'.iteFst (h.mbFail'.iteFst (h.mbFail'.iteFst (h.mbFail'.iteFst
          h.setFwSlot.program.set.updEntry.downloadEnd.reason.mbOk'))))

theorem State.Tidy.updChunkOp' (h : r.Tidy s) {index : Nat} {data : Bytes} {env : Env} :
    r.Tidy (updChunkOp index data env s).1 :=
      h.mbRefuse'.iteFst (h.mbFail'.iteFst (h.mbOk'.iteFst (h.chunkRefused.iteFst (h.chunkRefused.iteFst (h.chunkRefused.iteFst
          h.setFwSlot.program.set.event.downloadEnd.mbOk')))))

theorem State.Tidy.verifyDone' (h : r.Tidy s) {rereadOk : Bool} : r.Tidy (verifyDone rereadOk s) := by
  unfold verifyDone
  refine h.ite ?_
  extract_lets _ _ _ _ s0 s1 _ s2 s1' _ s2'
  have h0 : r.Tidy s0 := h.set
  have h1 : r.Tidy s1 := h0.setFwSlot.updTo
  have h2 : r.Tidy s2 := h1.set
  have hs1' : r.Tidy s1' := h0.setFwSlot.updTo
  have hs2' : r.Tidy s2' := hs1'.set
  exact h2.event.reason.updEntry.ite hs2'.event.reason.updEntry

theorem State.Tidy.swapBank (h : r.Tidy s) {new : Option SettingsBank} {fresh : Bool} {slot : Nat} : r.Tidy (s.swapBank new fresh slot) := by
  unfold State.swapBank
  extract_lets _ _ s1
  have h1 : r.Tidy s1 := h.set
  exact h1.reason.updEntry.ite h1

theorem State.Tidy.restoreBank (h : r.Tidy s) : r.Tidy s.restoreBank := by
  unfold State.restoreBank
  split
  · exact h.set
  · exact (h.foldl fun _ _ ht => ht.settingEntry).set

theorem State.Tidy.standbyLoads (h : r.Tidy s) {slot : Nat} : r.Tidy (s.standbyLoads slot) := h.put.putFlag.netSet
theorem State.Tidy.startActivation (h : r.Tidy s) : r.Tidy s.startActivation := h.standbyLoads.updTo.set

theorem State.Tidy.activationCurrent (h : r.Tidy s) : r.Tidy s.activationCurrent := by
  unfold State.activationCurrent
  extract_lets _ _ s1
  have h1 : r.Tidy s1 := h.set
  exact h1.reason.ite h1

theorem State.Tidy.updActivateOp' (h : r.Tidy s) {reset : Bool} :
    r.Tidy (updActivateOp reset s).1 :=
      h.mbFail'.iteFst (((h.ite h.setRole.setRole.updTo.set.swapBank).finishReset).iteFst (h.mbFail'.iteFst h.startActivation.reason.mbOk'))

theorem State.Tidy.swapPairVotes (h : r.Tidy s) : r.Tidy s.swapPairVotes := h.put.put.set
theorem State.Tidy.swapRoles (h : r.Tidy s) : r.Tidy s.swapRoles := h.put.put.put.swapPairVotes.symTakeover
theorem State.Tidy.runSlot (h : r.Tidy s) {k : Nat} : r.Tidy (s.runSlot k) := h.set.put.put
theorem State.Tidy.freezeDone (h : r.Tidy s) : r.Tidy s.freezeDone := h.setReg.bump.event

theorem State.Tidy.handover (h :
    r.Tidy s) : r.Tidy s.handover := h.swapRoles.put.putFlag.setRole.setRole.updTo.set.runSlot.set.freezeDone.updEntry.swapBank

theorem State.Tidy.doRevert (h : r.Tidy s) {why : Nat} : r.Tidy (s.doRevert why) := by
  unfold State.doRevert
  split
  · exact h.setRole.setRole.updTo.set.runSlot.restoreBank.updEntry.bump.event.reason
  · exact h

theorem State.Tidy.revertHandover (h : r.Tidy s) : r.Tidy s.revertHandover := h.swapRoles.freezeDone.doRevert.standbyLoads
theorem State.Tidy.quiescentPoint' (h : r.Tidy s) : r.Tidy (quiescentPoint s) := h.ite ((h.revertHandover.ite h).ite (h.handover.ite h))
theorem State.Tidy.actWaitTimeout' (h : r.Tidy s) : r.Tidy (actWaitTimeout s) := h.ite h.set.event.reason
theorem State.Tidy.startRevert (h : r.Tidy s) {why : Nat} : r.Tidy (s.startRevert why) := h.set
theorem State.Tidy.dropActivation (h : r.Tidy s) : r.Tidy s.dropActivation := h.standbyLoads.set
theorem State.Tidy.reloadsOver (h : r.Tidy s) : r.Tidy s.reloadsOver := h.updEntry.ite h

theorem State.Tidy.satelliteReload' (h : r.Tidy s) : r.Tidy (satelliteReload s) := by
  unfold satelliteReload
  split
  · exact h
  · refine h.ite ?_
    refine h.set.reloadsOver.ite ?_
    extract_lets _ s1
    have h1 : r.Tidy s1 := h.set.servedOn
    exact h1.putFlag.ite h1

theorem State.Tidy.reloadEnd (h : r.Tidy s) {n : Nat} : r.Tidy (s.reloadEnd n) := by
  unfold State.reloadEnd
  extract_lets _ s1
  have h1 : r.Tidy s1 := h.set
  exact h1.putFlag.ite h1

theorem State.Tidy.reloadDone' (h : r.Tidy s) {ok : Bool} : r.Tidy (reloadDone ok s) := by
  unfold reloadDone
  split
  · exact h
  · refine .ite ?_ (h.set.ite (h.reloadEnd.startRevert.set.ite h.reloadEnd.failIsland))
    extract_lets s1 _
    have h1 : r.Tidy s1 := h.reloadEnd
    exact h1.set.reloadsOver.ite h1

theorem State.Tidy.resealEnd (h : r.Tidy s) : r.Tidy s.resealEnd := h.set.event.updEntry
theorem State.Tidy.dueReseal (h : r.Tidy s) : r.Tidy s.dueReseal := h.ite (h.resealEnd.ite (h.ite h.request))
theorem State.Tidy.forwardReseal (h : r.Tidy s) : r.Tidy s.forwardReseal := h.set.ite h.set.refreshKeys

theorem State.Tidy.updConfirmOp' (h : r.Tidy s) {recordOk : Bool} : r.Tidy (updConfirmOp recordOk s).1 := by
  unfold updConfirmOp
  refine h.mbFail'.iteFst ?_
  refine h.mbFail'.iteFst ?_
  extract_lets _ _ s0 s1 _ _ s2 s3 s4 _
  have h0 : r.Tidy s0 := h.set
  have h1 : r.Tidy s1 := h0.setRole.setRole.updTo
  have h2 : r.Tidy s2 := h1.set.copyBank
  have h3 : r.Tidy s3 := h2.standbyLoads.ite h2
  have h4 : r.Tidy s4 := h3.event.updEntry
  exact (h4.reason.forwardReseal.ite h4.set.reason).mbOk'

theorem State.Tidy.updRevertOp' (h : r.Tidy s) : r.Tidy (updRevertOp s).1 := h.mbFail'.iteFst (h.mbFail'.iteFst h.startRevert.mbOk')

theorem State.Tidy.updAbortOp' (h : r.Tidy s) :
    r.Tidy (updAbortOp s).1 := h.mbFail'.iteFst (((((((h.dropActivation.ite h).updEntry).setFwSlot).updTo).set).reason).mbOk')

end

end Sys2Proof.Machine
end

section
/-! SUPPORT. The functions of Start, Events keep the commands that wait and the canonical form of the memories. -/
namespace Sys2Proof.Machine

open Sys2Proof

-- One declaration after another: checking many at a time takes more memory than the text may use.
set_option Elab.async false

section
variable {r s : State}

/-! ## Start -/

theorem State.Tidy.powerOn' (h : r.Tidy s) : r.Tidy (powerOn s) := h.ite h.restart
theorem State.Tidy.resetSource (h : r.Tidy s) {source : Nat} : r.Tidy (s.resetSource source) := h.ite (h.awaitBlow.ite h.restart)
theorem State.Tidy.rstNReset' (h : r.Tidy s) {lowUs : Nat} : r.Tidy (rstNReset lowUs s) := h.resetSource.ite h

theorem State.Tidy.puppeteerRestart' (h : r.Tidy s) : r.Tidy (puppeteerRestart s) := by
  unfold puppeteerRestart
  split
  · exact h.resetSource.ite h
  · exact h

theorem State.Tidy.selfRestart' (h : r.Tidy s) : r.Tidy (selfRestart s) := h.set.resetSource.ite h
theorem State.Tidy.startReason (h : r.Tidy s) {code : Nat} : r.Tidy (s.startReason code) := h.put.reason
theorem State.Tidy.halt (h : r.Tidy s) {code : Nat} {retry : Bool} : r.Tidy (s.halt code retry) := h.setPhase.startReason.netSet

theorem State.Tidy.startIslands (h : r.Tidy s) {l : List Nat} :
    r.Tidy (s.startIslands l) := h.foldl fun _ _ ht => ht.ite ht.setIsland.setVote.followShared

theorem State.Tidy.reference' (h : r.Tidy s) {crystal : Bool} :
    r.Tidy (reference crystal s) := h.ite (h.set.putFlag.setPhase.ite h.set.putFlag.startReason.putFlag.putFlag.redLoss.setPhase)

theorem State.Tidy.finishTransition (h : r.Tidy s) : r.Tidy s.finishTransition := by
  unfold State.finishTransition
  split
  · exact h
  · refine h.ite ?_
    extract_lets _ _ s1 _ s2 _
    have h1 : r.Tidy s1 := h.set
    have h2 : r.Tidy s2 := h1.set
    exact h1.ite (h2.drawDeviceTag.ite (h2.set.ite h2))

theorem State.Tidy.choosePair (h : r.Tidy s) {passA passB : Bool} {t : State} (e : s.choosePair passA passB = some t) : r.Tidy t := by
  unfold State.choosePair at e
  dsimp only at e
  split at e
  · exact absurd e (by simp)
  · obtain rfl := Option.some.inj e
    refine (State.Tidy.ite ?_ (State.Tidy.redLoss ?_)).startIslands <;>
      exact h.put.put.putFlag.put.put.netSet.startReason.ite h.put.put.putFlag.put.put.netSet

theorem State.Tidy.fusesAndMemory' (h : r.Tidy s) {eccOk passA passB : Bool} : r.Tidy (fusesAndMemory eccOk passA passB s) := by
  unfold fusesAndMemory
  refine h.ite (h.enterRecovery.ite ?_)
  split
  · exact h.halt.refresh
  · next s1 hpair =>
    extract_lets s2
    have h2 : r.Tidy s2 := (h.choosePair hpair).finishTransition.refreshKeyStat
    exact (h2.halt.ite (h2.startReason.setPhase.ite h2.setPhase)).refresh

theorem State.Tidy.openMeta (h : r.Tidy s) : r.Tidy s.openMeta.1 := by
  unfold State.openMeta
  extract_lets _ _
  refine (h.set.ite h).iteFst ?_
  refine .iteFst ?_ h.reason
  exact h

theorem State.Tidy.takeConfirmed (h : r.Tidy s) : r.Tidy s.takeConfirmed := h.ite h.setRole.setRole.set.updEntry

theorem State.Tidy.countTrial (h : r.Tidy s) : r.Tidy s.countTrial := by
  unfold State.countTrial
  split
  · exact h
  · extract_lets _ _ s1
    have h1 : r.Tidy s1 := h.set
    exact h1.doRevert.ite h1.updEntry

theorem State.Tidy.startSlot (h : r.Tidy s) {k : Nat} : r.Tidy (s.startSlot k) := h.runSlot.set.set.setPhase

theorem State.Tidy.firmware' (h : r.Tidy s) {readA readB readRecovery : Bool} : r.Tidy (firmware readA readB readRecovery s) := by
  unfold firmware
  refine h.ite ?_
  split
  next s0 opens heq =>
    have h0 := h.repairStaging.openMeta.fst heq
    extract_lets s1 _ _ s2 _ _ s3 s4
    have h1 : r.Tidy s1 := (((h0.repairNand.ite h0).startIslands).takeConfirmed).countTrial
    have h2 : r.Tidy s2 := h1.doRevert.ite h1
    have h3 : r.Tidy s3 := h2.set
    have h4 : r.Tidy s4 := h3.put.put
    exact h1.startSlot.ite (h2.startSlot.startReason.ite (h4.startReason.setPhase.ite h2.halt))

theorem State.Tidy.resumeMt (h : r.Tidy s) : r.Tidy s.resumeMt := h.set

theorem State.Tidy.keys' (h : r.Tidy s) {ringReadable : Bool} : r.Tidy (Machine.keys ringReadable s) := by
  unfold Machine.keys
  refine h.ite ?_
  extract_lets _ _ s1 _ _ _ s2 s3 _ _
  have h1 : r.Tidy s1 := by
    unfold s1
    split
    · exact h.ite h.set
    · exact h
  have h2 : r.Tidy s2 := h1.set
  have h3 : r.Tidy s3 := h2.resumeMt.putFlag.put.refreshKeys
  exact h3.enterRecovery.ite (h3.enterRecovery.ite (h3.reason.enterRecovery.ite (h3.startReason.setPhase.ite h3.setPhase)))

theorem State.Tidy.configuration' (h : r.Tidy s) {env : Env} : r.Tidy (configuration env s) := by
  unfold configuration
  refine h.ite ?_
  extract_lets r' _ _ _ _
  have hr' : r.Tidy r'.1 := h.chooseImage
  exact hr'.enterRecovery.ite hr'.set.setPhase

theorem State.Tidy.microcode' (h : r.Tidy s) {storage lf radio nfc : Bool} :
    r.Tidy (microcode storage lf radio nfc s) := h.ite ((h.startIslands.foldl fun _ _ ht => ht.ite ht.failIsland).setPhase)

theorem State.Tidy.enableHook (h : r.Tidy s) {env : Env} {u : Subsys} : r.Tidy (s.enableHook env u) := by
  unfold State.enableHook
  split
  · exact h.symEnabled
  · exact h.refreshKeys
  · exact h.stoEnabled
  · exact h.putFlag
  · exact h.lfEnabled
  · extract_lets s1 _
    have h1 : r.Tidy s1 := h.refreshSet.foldl fun _ _ ht => ht.retireSpent
    exact h1.set.reason.ite h1
  · exact h.relEnabled
  · exact h.timEnabled
  · exact h.set.rfEnabled
  · exact h.rngEnabled
  · exact h.nfcEnabled
  · exact h
  · exact h
  · exact h
  · exact h
  · exact h

theorem State.Tidy.checkNow (h : r.Tidy s) {env : Env} {u : Subsys} : r.Tidy (s.checkNow env u) := by
  unfold State.checkNow
  extract_lets s' _
  have hs' : r.Tidy s' := h.symSelfTest.ite h
  exact hs'.setEnabled.reason.enableHook.ite hs'.reason

theorem State.Tidy.mean (h : r.Tidy s) {u : Subsys} : r.Tidy (s.mean u) := h.set

theorem State.Tidy.atTime (h : r.Tidy s) {pt mt : Nat} {f : State → State} (hop : ∀ t, r.Tidy t → r.Tidy (f t)) :
    r.Tidy (s.atTime pt mt f) := (hop _ h.set).set

theorem State.Tidy.serveOne' (h : r.Tidy s) {k : LatchKind} {pt : Nat} : r.Tidy (serveOne k pt s) := by
  unfold serveOne
  split
  · exact h.serveWakeAt
  · exact h.takeFrame
  · exact h.mailboxSegmentNow'
  · exact h.discoveryNow'
  · exact h.statusNow'
  · exact h.grantAckNow'

theorem State.Tidy.serveLatched (h : r.Tidy s) {mailbox : Bool} :
    r.Tidy (s.serveLatched mailbox) := h.set.foldl fun _ _ ht => ht.atTime fun _ ht => ht.serveOne'

theorem State.Tidy.startEntry (h : r.Tidy s) : r.Tidy s.startEntry := h.journal

theorem State.Tidy.immobiliserPath8' (h : r.Tidy s) {env : Env} :
    r.Tidy (immobiliserPath8 env s) :=
      h.ite (((((h.startIslands.bringUp.foldl fun _ _ ht => ht.checkNow.mean).refresh).startEntry).setPhase).serveLatched)

theorem State.Tidy.downHook (h : r.Tidy s) {u : Subsys} : r.Tidy (s.downHook u) := by
  unfold State.downHook
  split
  · exact h.set.endTest.putFlag.readerStop.dueTakeover
  · exact h.abortExchange.refreshRng
  · exact h.foldl fun _ _ ht => ht.stopPulse
  · exact h.readerStop
  · exact h
  · exact h
  · exact h
  · exact h
  · exact h
  · exact h
  · exact h
  · exact h
  · exact h
  · exact h
  · exact h
  · exact h

theorem State.Tidy.downHooks (h : r.Tidy s) {old : State} : r.Tidy (State.downHooks old s) := h.foldl fun _ _ ht => ht.downHook.ite ht
theorem State.Tidy.enableWrite' (h : r.Tidy s) {u : Subsys} : r.Tidy (enableWrite u s) := h.ite (h.set.ite (h.ite h.set))

theorem State.Tidy.disableWrite' (h : r.Tidy s) {u : Subsys} : r.Tidy (disableWrite u s) := by
  unfold disableWrite
  refine h.ite ?_
  refine h.set.ite ?_
  refine h.reason.ite ?_
  refine h.set.reason.ite ?_
  extract_lets _ s1
  have h1 : r.Tidy s1 := h.set
  exact h1.refresh.ite h1.setEnabled.dropDependants.refresh.downHooks

theorem State.Tidy.consistencyCheck' (h : r.Tidy s) {env : Env} : r.Tidy (consistencyCheck env s) := by
  unfold consistencyCheck
  split
  · exact h
  · extract_lets _ s1
    have h1 : r.Tidy s1 := h.set.checkNow
    exact (h1.mean.ite h1).refresh

theorem State.Tidy.reform (h : r.Tidy s) : r.Tidy s.reform := h.ite h.set.reason.commitEntry
theorem State.Tidy.flushAlarms (h : r.Tidy s) : r.Tidy s.flushAlarms := h.ite (h.set.foldl fun _ _ ht => ht.commitEntry)
theorem State.Tidy.startReseal (h : r.Tidy s) : r.Tidy s.startReseal := h.forwardReseal.ite h
theorem State.Tidy.loadStandby (h : r.Tidy s) : r.Tidy s.loadStandby := h.standbyLoads.ite h.reason
theorem State.Tidy.finishNine (h : r.Tidy s) : r.Tidy s.finishNine := h.ite (h.setPhase.event.touch.foldl fun _ _ ht => ht.withdrawVote)
theorem State.Tidy.runHeld (h : r.Tidy s) : r.Tidy s.runHeld := h.set.foldl fun _ _ ht => ht.enableWrite'.ite ht.disableWrite'

theorem State.Tidy.completion' (h : r.Tidy s) {env : Env} :
    r.Tidy (completion env s) :=
      h.ite (((((((((((h.startIslands.foldl fun _ _ ht => ht.checkNow.mean.ite
          ht).refresh).runHeld).serveLatched).lkgRefresh).startupStatements).reform).flushAlarms).startReseal).loadStandby).finishNine)

/-! ## Events -/

theorem State.Tidy.tokLost (h : r.Tidy s) : r.Tidy s.tokLost := by
  unfold State.tokLost
  extract_lets _ s1 _ _ _ _ s2
  have h1 : r.Tidy s1 := h.setHold
  have h2 : r.Tidy s2 := h1.netSet
  exact (h2.finish.ite h2).refreshRng

theorem State.Tidy.cipherLost (h : r.Tidy s) : r.Tidy s.cipherLost := by
  unfold State.cipherLost
  extract_lets _ _ s1
  have h1 : r.Tidy s1 := h.set
  exact h1.finish.ite h1

theorem State.Tidy.releaseLost (h : r.Tidy s) : r.Tidy s.releaseLost := h.switchesDrop.releaseVoteOff.set

theorem State.Tidy.islandLost (h : r.Tidy s) {i : Nat} : r.Tidy (s.islandLost i) := by
  unfold State.islandLost
  refine h.tileFault'.ite ?_
  split
  · exact h.restartSessions.netSet
  · exact h.cipherLost
  · exact h.endLearnStep.lfLost.ite h.lfLost
  · exact h.readerStop
  · exact h.foldl fun _ _ ht => ht.abandonFrames
  · exact h.releaseLost
  · exact h

theorem State.Tidy.failHooks (h : r.Tidy s) {old : State} : r.Tidy (State.failHooks old s) := by
  unfold State.failHooks
  extract_lets _ s1 s2
  have h1 : r.Tidy s1 := h.foldl fun _ _ ht => ht.islandLost
  have h2 : r.Tidy s2 := h1.tokLost.ite h1
  exact h2.ite h2.downHooks.refreshLf.refreshRel

theorem State.Tidy.requeue (h : r.Tidy s) : r.Tidy s.requeue := by
  unfold State.requeue
  split
  · exact h
  · exact h.set.putFlag.put

theorem State.Tidy.learnAgain (h : r.Tidy s) : r.Tidy s.learnAgain := by
  unfold State.learnAgain
  refine h.ite ?_
  extract_lets s1 s2
  have h1 : r.Tidy s1 := h.setLearn.endLearnCard
  have h2 : r.Tidy s2 := h1.setHold.ite h1
  exact h2.requeue

theorem State.Tidy.dropPairing (h : r.Tidy s) : r.Tidy s.dropPairing := h.set.refreshKeys.ite h

theorem State.Tidy.resumeWork (h : r.Tidy s) : r.Tidy s.resumeWork := by
  unfold State.resumeWork
  extract_lets _ _ s1 s2 s3 _ s4
  have h1 : r.Tidy s1 := h.netSet
  have h2 : r.Tidy s2 := h1.learnAgain
  have h3 : r.Tidy s3 := (h2.requeue.ite h2).dropPairing
  have h4 : r.Tidy s4 := h3.set.ite h3.restartSessions
  exact h4.readerRestart

theorem State.Tidy.promote (h : r.Tidy s) : r.Tidy s.promote := by
  unfold State.promote
  extract_lets _ s1 s2 s3 _ _ s4 s5
  have h1 : r.Tidy s1 := h.swapRoles.put.putFlag
  have h2 : r.Tidy s2 := h1.bump.setReg.event
  have h3 : r.Tidy s3 := h2.reason.redLoss.reason
  have h4 : r.Tidy s4 := h3.netSet
  have h5 : r.Tidy s5 := h4.resumeWork.levelChange'.deliver15
  exact h5.doRevert.ite h5

theorem State.Tidy.noteFault (h : r.Tidy s) {b : Nat} : r.Tidy (s.noteFault b) := h.netSet.ite h.netSet
theorem State.Tidy.serviceStops (h : r.Tidy s) : r.Tidy s.serviceStops := h.setReg.setPhase.set.refresh
theorem State.Tidy.abandonActivation (h : r.Tidy s) : r.Tidy s.abandonActivation := h.updTo.reason

theorem State.Tidy.activeFault (h :
    r.Tidy s) : r.Tidy s.activeFault :=
      h.serviceStops.ite (h.abandonActivation.dropActivation.netSet.ite (h.netSet.standbyLoads.ite (h.promote.ite (h.netSet.ite
          (h.netSet.loadStandby.ite h.resetSource)))))

theorem State.Tidy.standbyFault (h : r.Tidy s) {b : Nat} : r.Tidy (s.standbyFault b) := by
  unfold State.standbyFault
  extract_lets _ s1 _ _ s2 s3 _ _ s4
  have h1 : r.Tidy s1 := h.put.putFlag.setVote
  have h2 : r.Tidy s2 := h1.netSet
  have h3 : r.Tidy s3 := h2.redLoss.reason
  have h4 : r.Tidy s4 := h3.abandonActivation.set.ite h3
  exact h3.resetSource.ite h4.finishNine

theorem State.Tidy.pairFault' (h : r.Tidy s) {b : Nat} :
    r.Tidy (pairFault b s) := h.ite ((h.ite h.noteFault.activeFault).ite (h.noteFault.standbyFault.ite h))

theorem State.Tidy.retirePair (h : r.Tidy s) {b : Nat} : r.Tidy (s.retirePair b) := h.netSet.put.put.setIsland.reason.event

theorem State.Tidy.pairTestDone' (h : r.Tidy s) {pass : Bool} : r.Tidy (pairTestDone pass s) := by
  unfold pairTestDone
  split
  · exact h
  · exact h.ite (h.netSet.reason.loadStandby.ite h.retirePair)

theorem State.Tidy.becomesStandby (h : r.Tidy s) {b : Nat} :
    r.Tidy (s.becomesStandby b) := h.put.putFlag.redClear.setVote.netSet.setIsland.followShared.finishNine

theorem State.Tidy.standbyPairReady' (h : r.Tidy s) {ok : Bool} : r.Tidy (standbyPairReady ok s) := by
  unfold standbyPairReady
  split
  · exact h
  · extract_lets _ s1
    have h1 : r.Tidy s1 := h.becomesStandby
    exact h.pairFault'.ite (h.promote.ite (h1.activationCurrent.ite (h1.startActivation.ite h1)))

theorem State.Tidy.islandFailed' (h : r.Tidy s) {i : Nat} {switch : Bool} : r.Tidy (Machine.islandFailed i switch s) := by
  unfold Machine.islandFailed
  refine h.ite ?_
  extract_lets s1
  have h1 : r.Tidy s1 := h.failIslandBy
  exact h1.pairFault'.ite h1.failHooks

theorem State.Tidy.dropDerived (h : r.Tidy s) : r.Tidy s.dropDerived := h.set.refreshKeys

theorem State.Tidy.t1Response (h : r.Tidy s) : r.Tidy s.t1Response := by
  unfold State.t1Response
  extract_lets s1 s2
  have h1 : r.Tidy s1 := h.finish.ite h
  have h2 : r.Tidy s2 := h1.dropLearn.ite h1
  exact h2.dropPairing.symTamper.restartSessions.readerRestart

theorem State.Tidy.t2Response (h : r.Tidy s) : r.Tidy s.t2Response := h.t1Response.set.putFlag

theorem State.Tidy.alarmRespond (h : r.Tidy s) {cls code : Nat} : r.Tidy (s.alarmRespond cls code) := by
  unfold State.alarmRespond
  extract_lets s1
  have h1 : r.Tidy s1 := h.alarmEntry.alarmWake
  exact h1.dropDerived.enterRecovery.ite (h1.t1Response.ite h1.t2Response)

theorem State.Tidy.alarm (h : r.Tidy s) {cls code : Nat} : r.Tidy (s.alarm cls code) := by
  unfold State.alarm
  extract_lets s0
  have h0 : r.Tidy s0 := h.latchAlarm
  exact h0.awaitBlow.ite h0.alarmRespond

theorem State.Tidy.t1Alarm' (h : r.Tidy s) {clock : Bool} : r.Tidy (t1Alarm clock s) := by
  unfold t1Alarm
  refine h.ite ?_
  extract_lets _ _ _ s1 s2
  have h1 : r.Tidy s1 := h.set
  have h2 : r.Tidy s2 := h1.alarm
  exact h2.alarm.ite h2

theorem State.Tidy.t3Alarm' (h : r.Tidy s) {source : T3Source} : r.Tidy (t3Alarm source s) := h.ite h.t3.downHooks

theorem State.Tidy.handleDeferred' (h : r.Tidy s) {d : Deferred} : r.Tidy (handleDeferred s d) := by
  unfold handleDeferred
  split
  · exact h.alarmRespond
  · exact h.resetSource
  · exact h.svcUnlock'

theorem State.Tidy.afterBlow (h : r.Tidy s) : r.Tidy s.afterBlow := by
  unfold State.afterBlow
  extract_lets _ _ s1 _
  have h1 : r.Tidy s1 := h.set
  split
  · exact h.set.foldl fun _ _ ht => ht.handleDeferred'
  · exact (h1.alarmEntry.set.foldl fun _ _ ht => ht.handleDeferred').ite h1.set.t3Respond

theorem State.Tidy.transitionDone (h : r.Tidy s) {opcode : Nat} : r.Tidy (s.transitionDone opcode) := by
  unfold State.transitionDone
  extract_lets s1 s2
  have h1 : r.Tidy s1 := h.refreshKeyStat.keyEvent
  have h2 : r.Tidy s2 := h1.releaseLost.refresh.ite h1
  exact h2.finishReset.ite h2.resetSource

theorem State.Tidy.fuseBlowDone' (h : r.Tidy s) {readA readB : Bool} : r.Tidy (fuseBlowDone readA readB s) := by
  unfold fuseBlowDone
  split
  · exact h
  · dsimp only
    refine h.set.reason.finish.afterBlow.ite ?_
    have h1 : r.Tidy { s with keys := { s.keys with blow := none, blowReset := false, blowOp := none } } := h.set
    split
    · exact h1.set.refreshKeyStat.afterBlow
    · exact (h1.set.drawDeviceTag.ite (h1.set.set.ite h1.set)).transitionDone.afterBlow.ite
        (h1.set.set.setPhase.put.put.afterBlow.ite h1.set.refreshKeyStat.afterBlow)

theorem State.Tidy.capLevel (h : r.Tidy s) {i : Nat} : r.Tidy (s.capLevel i) := h.setReg.ite h
theorem State.Tidy.txCap (h : r.Tidy s) {on : Bool} : r.Tidy (s.txCap on) := h.put.putFlag.event.reason

theorem State.Tidy.govStep (h : r.Tidy s) {n : Nat} : r.Tidy (s.govStep n) := by
  unfold State.govStep
  extract_lets _ s1 s2
  have h1 : r.Tidy s1 := h.put.foldl fun _ _ ht => ht.capLevel
  have h2 : r.Tidy s2 := h1.txCap.ite (h1.txCap.ite h1)
  exact h2.placeBackground'.ite h2

theorem State.Tidy.govern (h : r.Tidy s) {ta : Int} {mW : Nat} : r.Tidy (s.govern ta mW) := by
  unfold State.govern
  dsimp only
  refine (h.set.ite h.set.set.govStep).ite ?_
  split
  · exact h.set
  · exact h.set.ite (h.set.set.govStep.set.putFlag.event.reason.ite h.set.set.govStep)

theorem State.Tidy.governorTick' (h : r.Tidy s) {tj mW peak : Nat} : r.Tidy (governorTick tj mW peak s) := by
  unfold governorTick
  extract_lets _ s1 s2 _ _ s3 _ _
  have h1 : r.Tidy s1 := h.put.put.put
  have h2 : r.Tidy s2 := h1.put
  have h3 : r.Tidy s3 := h2.set
  exact h2.ite (h2.govern.ite (h3.set.putFlag.event.reason.ite h3))

theorem State.Tidy.brownNap (h : r.Tidy s) : r.Tidy s.brownNap := ((h.foldl fun _ _ ht => ht.ite ht.islandTo).set).followShared

theorem State.Tidy.brownout' (h : r.Tidy s) {mv : Nat} : r.Tidy (brownout mv s) := by
  unfold brownout
  extract_lets s0 s1 _ s2 _ _ s3
  have h0 : r.Tidy s0 := h.noteVbat.ite h
  have h1 : r.Tidy s1 := h0.putFlag.event.reason
  have h2 : r.Tidy s2 := h1.set
  have h3 : r.Tidy s3 := h2.set.restartSessions.readerRestart
  exact h0.ite (h2.set.ite h3.brownNap)

theorem State.Tidy.overvolt' (h : r.Tidy s) {mv : Nat} : r.Tidy (overvolt mv s) := by
  unfold overvolt
  extract_lets s0 s1
  have h0 : r.Tidy s0 := h.noteVbat.ite h
  have h1 : r.Tidy s1 := h0.putFlag.event.reason
  refine h0.ite ?_
  refine State.Tidy.refreshLf ?_
  split
  · exact h1.ite h1.endHold
  · exact h1

theorem State.Tidy.brownWake (h : r.Tidy s) : r.Tidy s.brownWake := by
  unfold State.brownWake
  extract_lets _ s1
  have h1 : r.Tidy s1 := (h.foldl fun _ _ ht => ht.ite (ht.setIsland.ite (ht.ite ht.setIsland))).followShared
  exact h1.ntRestore.ite h1

theorem State.Tidy.supplyReturn' (h : r.Tidy s) {mv : Nat} : r.Tidy (supplyReturn mv s) := by
  unfold supplyReturn
  extract_lets s0 _ s1 _ _ _ s2
  have h0 : r.Tidy s0 := h.noteVbat.ite h
  have h1 : r.Tidy s1 := h0.putFlag.putFlag
  have h2 : r.Tidy s2 := h1.set
  exact h0.ite ((h2.brownWake.ite h2).refreshLf)

theorem State.Tidy.crystalLoss' (h : r.Tidy s) : r.Tidy (crystalLoss s) := by
  unfold crystalLoss
  refine h.ite ?_
  extract_lets _ s1 s2 s3 s4
  have h1 : r.Tidy s1 := h.set.putFlag.putFlag
  have h2 : r.Tidy s2 := h1.putFlag.event.reason.redLoss
  have h3 : r.Tidy s3 := h2.ntToRc.putFlag
  have h4 : r.Tidy s4 := h3.readerStop.reason.ite h3
  exact h4.rfRefLost.refreshLinks.downHooks.refreshRel

theorem State.Tidy.crystalBack (h :
    r.Tidy s) : r.Tidy s.crystalBack := h.set.putFlag.putFlag.putFlag.putFlag.putFlag.redClear.event.reason.recheck.refreshLinks.refreshRel

theorem State.Tidy.crystalTried (h : r.Tidy s) {pass : Bool} : r.Tidy (s.crystalTried pass) := by
  unfold State.crystalTried
  refine h.ite ?_
  extract_lets _ s1
  have h1 : r.Tidy s1 := h.set
  exact h1.putFlag.bump.reason.ite (h1.crystalBack.ite h1.putFlag)

theorem State.Tidy.crystalRetry' (h : r.Tidy s) {pass : Bool} : r.Tidy (crystalRetry pass s) := h.crystalTried.ite h

theorem State.Tidy.oscCalibration' (h : r.Tidy s) {ppm : Nat} {env : Env} : r.Tidy (oscCalibration ppm env s) := by
  unfold oscCalibration
  refine h.ite ?_
  extract_lets _ s1
  have h1 : r.Tidy s1 := h.set
  exact h1.crystalTried.ite h1.put

end

end Sys2Proof.Machine
end

section
/-! SUPPORT. The functions of Host keep the commands that wait and the canonical form of the memories. -/
namespace Sys2Proof.Machine

open Sys2Proof

-- One declaration after another: checking many at a time takes more memory than the text may use.
set_option Elab.async false

section
variable {r s : State}

/-! ## Host -/

theorem State.Tidy.clearRead (h : r.Tidy s) {off : Nat} : r.Tidy (s.clearRead off) := by
  unfold State.clearRead
  split
  · exact h
  · exact h.setReg.ite h

theorem State.Tidy.readWord (h : r.Tidy s) {a : Nat} : r.Tidy (s.readWord a).1 := by
  unfold State.readWord
  split
  · exact h.clearRead
  · dsimp only
    exact h
  · dsimp only
    exact h
  · dsimp only
    exact h

theorem State.Tidy.readWords' (h : r.Tidy s) {n a : Nat} : r.Tidy (readWords n a s).1 := by
  induction n generalizing a s with
  | zero => exact h
  | succ n ih => exact ih h.readWord

theorem State.Tidy.writeFields (h : r.Tidy s) {off v : Nat} : r.Tidy (s.writeFields off v) := by
  unfold State.writeFields
  split
  · exact h
  · exact h.setReg

theorem State.Tidy.hostHold' (h : r.Tidy s) {b : Bool} : r.Tidy (hostHold b s) := by
  unfold hostHold
  extract_lets s1 _
  have h1 : r.Tidy s1 := h.putFlag
  exact h1.ite (h1.raiseVote.raiseVote.ite h1.withdrawVote.withdrawVote)

theorem State.Tidy.pulseCtl' (h : r.Tidy s) {n v : Nat} : r.Tidy (pulseCtl n v s) := by
  unfold pulseCtl
  extract_lets _ s1 s1' s2 _
  have h1 : r.Tidy s1 := h.ite h.reason
  have hs1' : r.Tidy s1' := h.put.put
  have h2 : r.Tidy s2 := hs1'.ite hs1'.put
  exact (h1.ite h1.stopPulse).ite h2.setPulse

theorem State.Tidy.pulseWord' (h : r.Tidy s) {n off v : Nat} : r.Tidy (pulseWord n off v s) := h.reason.ite h.setReg

theorem State.Tidy.writePlain' (h : r.Tidy s) {off v : Nat} : r.Tidy (writePlain off v s) := by
  unfold writePlain
  refine h.hostHold'.ite ?_
  refine h.candleHold'.ite ?_
  refine h.sniffHold'.ite ?_
  refine (h.ite h.readerOff').ite ?_
  refine h.ite ?_
  refine (h.ite h.lfChannelOff').ite ?_
  refine (h.ite h.chainOff').ite ?_
  refine .ite ?_ ((h.pulseCtl'.ite h.pulseWord').ite (h.ntIncWrite'.ite (h.reason.ite (h.setReg.ite (h.jrnlAck'.ite ((h.put.ite h).ite
      h.writeFields))))))
  extract_lets s1
  have h1 : r.Tidy s1 := h.setReg
  exact h1.put.ite h1

theorem State.Tidy.hifMbRing' (h : r.Tidy s) {w : Nat} : r.Tidy (hifMbRing w s) := h.reason.event.ite (h.refuseMessage.ite h.putFlag.set.segment)
theorem State.Tidy.dueInFree (h : r.Tidy s) : r.Tidy s.dueInFree := h.ite h.putFlag.event

theorem State.Tidy.ackReset (h : r.Tidy s) {wasLast : Bool} : r.Tidy (s.ackReset wasLast) := by
  unfold State.ackReset
  split
  · exact h.ite (h.resetSource.ite h.set)
  · exact h

theorem State.Tidy.outAck' (h : r.Tidy s) : r.Tidy (outAck s) := h.ite h.setReg.set.placeOut.ackReset
theorem State.Tidy.mbAbort' (h : r.Tidy s) : r.Tidy (mbAbort s) := h.set.put.foldl fun _ _ ht => ht.answer
theorem State.Tidy.sysReset' (h : r.Tidy s) {v : Nat} : r.Tidy (sysReset v s) := h.resetSource.ite h
theorem State.Tidy.writeEnable (h : r.Tidy s) {u : Subsys} {b : Bool} : r.Tidy (s.writeEnable u b) := h.enableWrite'.ite h.disableWrite'

theorem State.Tidy.ctlActions' (h : r.Tidy s) {env : Env} {off v : Nat} : r.Tidy (ctlActions env off v s) := by
  unfold ctlActions
  extract_lets _
  split
  · exact h.crystalTried.ite h
  · exact ((((((h.ntSet'.ite h).ntStep').ite (h.ntSet'.ite h)).snap').ite (((h.ntSet'.ite h).ntStep').ite (h.ntSet'.ite h))).hostSync').ite
      (((((h.ntSet'.ite h).ntStep').ite (h.ntSet'.ite h)).snap').ite (((h.ntSet'.ite h).ntStep').ite (h.ntSet'.ite h)))
  · exact h.standZero.ite h
  · exact ((h.testStop'.ite h).cal').ite (h.testStop'.ite h)
  · exact h.driftReset'.ite h
  · exact h.relock'.ite h
  · exact h.entropyRetried.ite h
  · exact h.scrubNow'.ite h
  · exact ((h.clrLocks'.ite h).poll').ite (h.clrLocks'.ite h)
  · exact ((((h.mbAbort'.ite h).canRecover').ite (h.mbAbort'.ite h)).canRecover').ite (((h.mbAbort'.ite h).canRecover').ite (h.mbAbort'.ite h))
  · exact h

theorem State.Tidy.writeActions' (h : r.Tidy s) {env : Env} {off v : Nat} : r.Tidy (writeActions env off v s) := by
  unfold writeActions
  refine h.writeEnable.writeEnable.ite ?_
  refine h.sysReset'.ite ?_
  refine h.ctlActions'.writeEnable.ite ?_
  refine (h.recal'.ite h).ite ?_
  refine (h.testStart'.ite h).ite ?_
  refine (h.pulseArm'.ite h).ite ?_
  refine .ite ?_ ((h.load'.ite h).ite (h.hifMbRing'.ite ((h.outAck'.ite h).ite h)))
  extract_lets _ s1
  have h1 : r.Tidy s1 := h.ovfClear'.ite h
  exact h1.pop'.ite h1

theorem State.Tidy.writeReg (h : r.Tidy s) {env : Env} {off v : Nat} : r.Tidy (s.writeReg env off v) := h.writeEnable.ite h.writePlain'.writeActions'

theorem State.Tidy.writeWord (h : r.Tidy s) {env : Env} {a v : Nat} : r.Tidy (s.writeWord env a v) := by
  unfold State.writeWord
  split
  · exact h.writeReg
  · exact h.set
  · exact h

theorem State.Tidy.writeWords' (h : r.Tidy s) {env : Env} {l : List Nat} {a : Nat} : r.Tidy (writeWords env l a s).1 := by
  induction l generalizing a s with
  | nil => exact h
  | cons v vs ih => exact State.Tidy.iteFst h.writeWord (ih h.writeWord)

theorem State.Tidy.registerWrite' (h : r.Tidy s) {addr v : Nat} : r.Tidy (registerWrite addr v s) := by
  unfold registerWrite
  refine h.ite ?_
  split
  · exact h.writePlain'.ite h
  · exact h

theorem State.Tidy.miso (h : r.Tidy s) {pend : Nat} {r' : List Word} : r.Tidy (s.miso pend r') := h.set

theorem State.Tidy.spiReject (h : r.Tidy s) {pend tag code : Nat} : r.Tidy (s.spiReject pend tag code) := by
  unfold State.spiReject
  extract_lets s1 s2 s3 _
  have h1 : r.Tidy s1 := h.bump
  have h2 : r.Tidy s2 := h1.bump.ite h1
  have h3 : r.Tidy s3 := h2.reason.event.miso
  exact h3.set

theorem State.Tidy.spiDone (h : r.Tidy s) {pend tag : Nat} {key : Word × Word} {r' : List Word} :
    r.Tidy (s.spiDone pend tag key r') := h.bump.miso.set

theorem State.Tidy.spiExecute (h : r.Tidy s) {write : State → State × Bool} {op tag addr len : Nat}
    {key : Word × Word} (hop : ∀ t, r.Tidy t → r.Tidy (write t).1) : r.Tidy (s.spiExecute write op tag addr len key) := by
  unfold State.spiExecute
  extract_lets _ r' w
  have hr' : r.Tidy r'.1 := h.readWords'
  have hw : r.Tidy w.1 := hop _ h
  refine .ite ?_ (hr'.spiDone.ite ((hw.ite hw.spiDone).ite h.spiDone))
  split
  · exact h.spiDone
  · exact h

theorem State.Tidy.spiFrame' (h : r.Tidy s) {write : State → State × Bool} {op tag addr len : Nat} {data : List Word}
    {crc : Word} (hop : ∀ t, r.Tidy t → r.Tidy (write t).1) : r.Tidy (spiFrame write op tag addr len data crc s) := by
  unfold spiFrame
  extract_lets _ _ _ _
  refine (h.linkWake.ite h).ite ?_
  refine h.ite ?_
  refine .ite ?_ (h.spiReject.ite (h.spiReject.ite (h.spiExecute hop)))
  split
  · exact h.miso
  · exact h

theorem State.Tidy.noWrite' (h : r.Tidy s) : r.Tidy (noWrite s).1 := h

theorem State.Tidy.regReadOp' (h : r.Tidy s) {addr count : Nat} : r.Tidy (regReadOp addr count s).1 := by
  unfold regReadOp
  refine h.mbRefuse'.iteFst ?_
  extract_lets _ r'
  have hr' : r.Tidy r'.1 := h.readWords'
  exact h.mbRefuse'.iteFst hr'.mbOk'

theorem State.Tidy.regWriteOp' (h : r.Tidy s) {addr count : Nat} {values : List Nat} {env : Env} : r.Tidy (regWriteOp addr count values env s).1 := by
  unfold regWriteOp
  refine h.mbRefuse'.iteFst ?_
  extract_lets _ w
  have hw : r.Tidy w.1 := h.writeWords'
  refine h.mbRefuse'.iteFst ?_
  refine .iteFst ?_ hw.mbOk'
  dsimp only
  exact hw

theorem State.Tidy.resetOp' (h : r.Tidy s) {key : Nat} : r.Tidy (resetOp key s).1 := h.finishReset.iteFst h.mbRefuse'
theorem State.Tidy.echoOp' (h : r.Tidy s) {data : Bytes} : r.Tidy (echoOp data s).1 := h.mbOk'

theorem State.Tidy.opLow' (h : r.Tidy s) {op : Nat} {x : Bytes} {env : Env} : r.Tidy (opLow op x env s).1 := by
  unfold opLow
  split
  · exact h.regReadOp'
  · exact h.regWriteOp'
  · exact h.resetOp'
  · exact h.echoOp'
  · exact h.cfgWriteOpenOp'
  · exact h.cfgWriteChunkOp'
  · exact h.settingReadOp'
  · exact h.settingWriteOp'
  · exact h.hostRequestOp'
  · exact h.hostRequestOp'
  · exact h.learnOpenOp'
  · exact h.learnTokenOp'
  · exact h.learnCommitOp'
  · exact h.learnAbandonOp'
  · exact h.slotStateOp'
  · exact h.slotStateOp'
  · exact h.pairOp'
  · exact h.unpairOp'
  · exact h.partnerListOp'
  · exact h.mbRefuse'

theorem State.Tidy.opKey' (h : r.Tidy s) {op : Nat} {x : Bytes} {env : Env} : r.Tidy (opKey op x env s).1 := by
  unfold opKey
  split
  · exact h.challengeOp'
  · exact h.integrateOp'
  · exact h.fieldOp'
  · exact h.retireOp'
  · exact h.importOp'
  · exact h.importOp'
  · exact h.keyGenerateOp'
  · exact h.keyExportOp'
  · exact h.keyDestroyOp'
  · exact h.keyRotateOp'
  · exact h.keyAttrReadOp'
  · exact h.attestAOp'
  · exact h.statementBOp'
  · exact h.statementsReadOp'
  · exact h.dikCertReadOp'
  · exact h.mbRefuse'

theorem State.Tidy.opHigh' (h : r.Tidy s) {op : Nat} {x : Bytes} {env : Env} : r.Tidy (opHigh op x env s).1 := by
  unfold opHigh
  split
  · exact h.cipherOp'
  · exact h.streamAppendOp'
  · exact h.streamTrimOp'
  · exact h.capturePinOp'
  · exact h.captureUnpinOp'
  · exact h.hostNoteOp'
  · exact h.tagSetPwdOp'
  · exact h.tagSetKeyOp'
  · exact h.tagReadOp'
  · exact h.tagWriteOp'
  · exact h.tagReserveOp'
  · exact h.tagReleaseOp'
  · exact h.updBeginOp'
  · exact h.updChunkOp'
  · exact h.updActivateOp'
  · exact h.updConfirmOp'
  · exact h.updRevertOp'
  · exact h.updAbortOp'
  · exact h.frameSendOp'
  · exact h.frameRecvOp'
  · exact h.mbRefuse'

theorem State.Tidy.opOf' (h : r.Tidy s) {op : Nat} {x : Bytes} {env : Env} : r.Tidy (opOf op x env s).1 := by
  unfold opOf
  split
  · exact h.opKey'
  · split
    · exact h.opLow'
    · exact h.opHigh'

theorem State.Tidy.refuseCommand (h : r.Tidy s) {c : MbCmd} {code : Nat} : r.Tidy (s.refuseCommand c code) := h.answer

theorem State.Tidy.mbExecute' (h : r.Tidy s) {env : Env} : r.Tidy (mbExecute env s) := by
  unfold mbExecute
  split
  · exact h
  · refine h.ite ?_
    extract_lets _ s1
    have h1 : r.Tidy s1 := h.set.put
    exact h1.refuseCommand.ite (h1.runAs fun _ ht => ht.opOf')

theorem State.Tidy.responseDrop' (h : r.Tidy s) : r.Tidy (responseDrop s) := by
  unfold responseDrop
  extract_lets _ _ _ s1 s2
  have h1 : r.Tidy s1 := h.set
  have h2 : r.Tidy s2 := h1.reason.event
  refine h.ite ?_
  split
  · exact h2.resetSource.ite h2
  · exact h2

theorem State.Tidy.responseDelivered' (h : r.Tidy s) : r.Tidy (responseDelivered s) := by
  unfold responseDelivered
  split
  · exact h
  · refine .ite ?_ (h.ite h.resetSource)
    split
    · exact h.resetSource.ite h
    · exact h

theorem State.Tidy.dueNow (h :
    r.Tidy s) : r.Tidy s.dueNow := h.dueDrops.dueEntry.dueInFree.dueHold.dueCommit.dueCards.dueRetry.dueReseal.dueStorage.commitDue

theorem State.Tidy.idle' (h : r.Tidy s) : r.Tidy (idle s) := h.tick'.dueNow

end

end Sys2Proof.Machine
end

section
/-! SUPPORT. Every command keeps what waits behind it and the canonical form of the memories: O1, O2 and O4. -/
namespace Sys2Proof.Machine

open Sys2Proof

-- One declaration after another: checking many at a time takes more memory than the text may use.
set_option Elab.async false

section
variable {r s : State}

/-! ## The commands -/

theorem State.Tidy.execHandoverRecord_next (h : r.Tidy s) : ∃ t, execHandoverRecord s = .next t ∧ r.Tidy t := by
  refine ⟨_, rfl, ?_⟩
  refine h.ite ?_
  split
  · exact h
  · exact h.netSet

theorem State.Tidy.execChallengeExpiry_next (h : r.Tidy s) : ∃ t, execChallengeExpiry s = .next t ∧ r.Tidy t := by
  refine ⟨_, rfl, ?_⟩
  split
  · exact h.set.ite h
  · exact h

theorem State.Tidy.execKeyringLockEnd_next (h : r.Tidy s) : ∃ t, execKeyringLockEnd s = .next t ∧ r.Tidy t := by
  refine ⟨_, rfl, ?_⟩
  split
  · exact h.set.putFlag.event.ite h
  · exact h

theorem State.Tidy.execMtReservationRetry_next (h : r.Tidy s) {ok : Bool} : ∃ t, execMtReservationRetry ok s = .next t ∧ r.Tidy t := by
  refine ⟨_, rfl, ?_⟩
  split
  · exact h.reserveVoted.ite h
  · exact h

theorem State.Tidy.execCardRearm_next (h : r.Tidy s) : ∃ t, execCardRearm s = .next t ∧ r.Tidy t := by
  refine ⟨_, rfl, ?_⟩
  split
  · exact h.set.ite h
  · exact h

theorem State.Tidy.execIslandRestored_next (h : r.Tidy s) {island : Fin 15} {ppm : BitVec 16} : ∃ t, execIslandRestored island ppm s = .next t ∧ r.Tidy t := by
  refine ⟨_, rfl, ?_⟩
  extract_lets t
  have ht : r.Tidy t := h.islandRestored'
  exact ht.deliverPort.ite ht

/-- Every command completes, leaves the commands behind it and keeps the memories in canonical form. -/
theorem State.Tidy.exec_next (h : r.Tidy s) : ∀ c, ∃ t, exec c s = .next t ∧ r.Tidy t
  | .powerOn => ⟨_, rfl, h.powerOn'⟩
  | .rstNReset _ => ⟨_, rfl, h.rstNReset'⟩
  | .puppeteerRestart => ⟨_, rfl, h.puppeteerRestart'⟩
  | .selfRestart => ⟨_, rfl, h.selfRestart'⟩
  | .servicePortReset => ⟨_, rfl, h.resetSource⟩
  | .reference _ => ⟨_, rfl, h.reference'⟩
  | .fusesAndMemory _ _ _ => ⟨_, rfl, h.fusesAndMemory'⟩
  | .firmware _ _ _ => ⟨_, rfl, h.firmware'⟩
  | .keys _ => ⟨_, rfl, h.keys'⟩
  | .configuration _ => ⟨_, rfl, h.configuration'⟩
  | .microcode _ _ _ _ => ⟨_, rfl, h.microcode'⟩
  | .immobiliserPath _ => ⟨_, rfl, h.immobiliserPath8'⟩
  | .completion _ => ⟨_, rfl, h.completion'⟩
  | .imgChecked _ => ⟨_, rfl, h.imgChecked'.finishNine⟩
  | .standbyPairReady _ => ⟨_, rfl, h.standbyPairReady'⟩
  | .enableWrite _ => ⟨_, rfl, h.enableWrite'⟩
  | .disableWrite _ => ⟨_, rfl, h.disableWrite'⟩
  | .consistencyCheck _ => ⟨_, rfl, h.consistencyCheck'⟩
  | .cfgWriteOpen _ => ⟨_, rfl, h.mailboxCommand' fun _ ht => ht.cfgWriteOpenOp'⟩
  | .cfgWriteChunk _ _ _ => ⟨_, rfl, h.mailboxCommand' fun _ ht => ht.cfgWriteChunkOp'⟩
  | .settingRead _ => ⟨_, rfl, h.mailboxCommand' fun _ ht => ht.settingReadOp'⟩
  | .settingWrite _ _ => ⟨_, rfl, h.mailboxCommand' fun _ ht => ht.settingWriteOp'⟩
  | .packetReceive _ _ _ => ⟨_, rfl, h.packetReceive'.failHooks⟩
  | .heartbeatTimeout => ⟨_, rfl, h.pairFault'.ite h⟩
  | .pairFault _ => ⟨_, rfl, h.pairFault'⟩
  | .puppeteerOutvote _ _ => ⟨_, rfl, h.puppeteerOutvote'⟩
  | .commitPoint => ⟨_, rfl, h.commitPoint⟩
  | .handoverRecord => h.execHandoverRecord_next
  | .pairTestDone _ => ⟨_, rfl, h.pairTestDone'⟩
  | .tileFree _ => ⟨_, rfl, h.ite h.placeJobs'.placeBackground'⟩
  | .backgroundSliceEnd _ _ => ⟨_, rfl, h.backgroundSliceEnd'⟩
  | .tileFault _ => ⟨_, rfl, h.tileFault'⟩
  | .shmemDoubleBitError _ => ⟨_, rfl, h.shmemDoubleBitError'⟩
  | .wakeEdge _ => ⟨_, rfl, h.wakeEdge'⟩
  | .chatterUnmask _ => ⟨_, rfl, h.chatterUnmask'⟩
  | .lfAirGrant _ => ⟨_, rfl, h.lfAirGrant'⟩
  | .candlePoll _ => ⟨_, rfl, h.candlePoll'⟩
  | .ansReceive _ _ _ => ⟨_, rfl, h.ansReceive'⟩
  | .roundClose _ _ => ⟨_, rfl, h.roundClose'⟩
  | .cryReceive _ _ _ => ⟨_, rfl, h.cryReceive'⟩
  | .lockExpiry _ => ⟨_, rfl, h.lockExpiry'⟩
  | .failureAgeOut _ => ⟨_, rfl, h.failureAgeOut'⟩
  | .lmeas _ => ⟨_, rfl, h.lmeas'⟩
  | .rptReceive _ _ => ⟨_, rfl, h.rptReceive'⟩
  | .lfReturnReceive _ _ => ⟨_, rfl, h.lfReturnReceive'⟩
  | .rkeFrame _ _ => ⟨_, rfl, h.rkeFrame'⟩
  | .learnOpen _ _ => ⟨_, rfl, h.mailboxCommand' fun _ ht => ht.learnOpenOp'⟩
  | .learnToken _ _ => ⟨_, rfl, h.mailboxCommand' fun _ ht => ht.learnTokenOp'⟩
  | .keyackReceive _ _ _ => ⟨_, rfl, h.keyackReceive'⟩
  | .keyackTimeout => ⟨_, rfl, h.keyackTimeout'⟩
  | .learnCommit _ => ⟨_, rfl, h.mailboxCommand' fun _ ht => ht.learnCommitOp'⟩
  | .learnAbandon => ⟨_, rfl, h.mailboxCommand' fun _ ht => ht.learnAbandonOp'⟩
  | .learnTimeout => ⟨_, rfl, h.learnTimeout'⟩
  | .slotSuspend _ => ⟨_, rfl, h.mailboxCommand' fun _ ht => ht.slotStateOp'⟩
  | .slotResume _ => ⟨_, rfl, h.mailboxCommand' fun _ ht => ht.slotStateOp'⟩
  | .lfRequest => ⟨_, rfl, h.mailboxCommand' fun _ ht => ht.hostRequestOp'⟩
  | .lftExchange => ⟨_, rfl, h.mailboxCommand' fun _ ht => ht.hostRequestOp'⟩
  | .lftUplinkReceive _ => ⟨_, rfl, h.lftUplinkReceive'⟩
  | .lftRetry => ⟨_, rfl, h.lftRetry'⟩
  | .standReset => ⟨_, rfl, h.standZero⟩
  | .recal _ _ => ⟨_, rfl, h.recal'.ite h⟩
  | .lfRecalDue _ _ => ⟨_, rfl, h.lfRecalDue'⟩
  | .legFail _ _ => ⟨_, rfl, h.legFail'⟩
  | .openCoil _ => ⟨_, rfl, h.openCoil'⟩
  | .outputShort _ => ⟨_, rfl, h.outputShort'⟩
  | .driverOvertemp _ => ⟨_, rfl, h.driverOvertemp'⟩
  | .vantFault _ => ⟨_, rfl, h.vantFault'⟩
  | .vantRetry _ _ => ⟨_, rfl, h.vantRetry'⟩
  | .radioCommand _ _ _ _ => ⟨_, rfl, h.radioCommand'⟩
  | .lockDetect => ⟨_, rfl, h.lockDetect'⟩
  | .lockTimeout => ⟨_, rfl, h.lockTimeout'⟩
  | .lockLoss => ⟨_, rfl, h.lockLoss'⟩
  | .windowEnd _ => ⟨_, rfl, h.windowEnd'⟩
  | .rkeSniff _ => ⟨_, rfl, h.rkeSniff'⟩
  | .falseDetection => ⟨_, rfl, h.falseDetection'⟩
  | .sniffThresholdRestore => ⟨_, rfl, h.sniffThresholdRestore'⟩
  | .cal => ⟨_, rfl, h.cal'⟩
  | .calDue _ => ⟨_, rfl, h.calDue'⟩
  | .calStepEnd _ _ => ⟨_, rfl, h.calStepEnd'⟩
  | .testStart _ => ⟨_, rfl, h.testStart'⟩
  | .testStop => ⟨_, rfl, h.testStop'⟩
  | .exchangeStart _ => ⟨_, rfl, h.exchangeStart'⟩
  | .srepReceive _ _ _ _ => ⟨_, rfl, h.srepReceive'⟩
  | .rangingJobEnter _ => ⟨_, rfl, h.rangingJobEnter'⟩
  | .rangingJobDone _ _ => ⟨_, rfl, h.rangingJobDone'⟩
  | .driftReset => ⟨_, rfl, h.driftReset'⟩
  | .rkeConfirmTimeout _ => ⟨_, rfl, h.rkeConfirmTimeout'⟩
  | .offStateTest _ => ⟨_, rfl, h.offStateTest'⟩
  | .releaseCurrentCheck _ => ⟨_, rfl, h.releaseCurrentCheck'⟩
  | .holdPwm => ⟨_, rfl, h.holdPwm'⟩
  | .overCurrentTrip _ => ⟨_, rfl, h.overCurrentTrip'⟩
  | .releaseOvertemp _ _ => ⟨_, rfl, h.releaseOvertemp'⟩
  | .grantAck _ _ _ => ⟨_, rfl, h.grantAck'⟩
  | .grantTimeout => ⟨_, rfl, h.grantTimeout'⟩
  | .status _ _ _ _ => ⟨_, rfl, h.status'⟩
  | .relockDelay => ⟨_, rfl, h.relockIfDue⟩
  | .relock => ⟨_, rfl, h.relock'⟩
  | .pair _ _ _ => ⟨_, rfl, h.mailboxCommand' fun _ ht => ht.pairOp'⟩
  | .pairTimeout => ⟨_, rfl, h.pairTimeout'⟩
  | .unpair _ _ => ⟨_, rfl, h.mailboxCommand' fun _ ht => ht.unpairOp'⟩
  | .partnerList => ⟨_, rfl, h.mailboxCommand' fun _ ht => ht.partnerListOp'⟩
  | .discoveryReceive _ _ _ => ⟨_, rfl, h.discoveryReceive'⟩
  | .discoveryAnnounce _ => ⟨_, rfl, h.discoveryAnnounce'⟩
  | .discoveryAgeOut => ⟨_, rfl, h.discoveryAgeOut'⟩
  | .encrypt _ _ _ _ _ => ⟨_, rfl, h.symRequest'⟩
  | .decrypt _ _ _ _ => ⟨_, rfl, h.symRequest'⟩
  | .macGenerate _ _ _ _ => ⟨_, rfl, h.symRequest'⟩
  | .macVerify _ _ _ _ => ⟨_, rfl, h.symRequest'⟩
  | .derive _ _ _ _ => ⟨_, rfl, h.symRequest'⟩
  | .wrap _ _ _ _ => ⟨_, rfl, h.symRequest'⟩
  | .unwrap _ _ _ _ => ⟨_, rfl, h.symRequest'⟩
  | .hash _ _ _ _ => ⟨_, rfl, h.symRequest'⟩
  | .keyPairGenerate _ _ _ _ => ⟨_, rfl, h.symRequest'⟩
  | .sign _ _ _ _ => ⟨_, rfl, h.symRequest'⟩
  | .signatureVerify _ _ _ _ => ⟨_, rfl, h.symRequest'⟩
  | .ecdh _ _ _ _ => ⟨_, rfl, h.symRequest'⟩
  | .random _ _ _ _ => ⟨_, rfl, h.symRequest'⟩
  | .contextExport _ _ _ _ _ => ⟨_, rfl, h.symRequest'⟩
  | .contextImport _ _ _ _ => ⟨_, rfl, h.symRequest'⟩
  | .contextFree _ _ _ _ => ⟨_, rfl, h.symRequest'⟩
  | .cipher _ _ => ⟨_, rfl, h.mailboxCommand' fun _ ht => ht.cipherOp'⟩
  | .cipherResponse _ => ⟨_, rfl, h.cipherResponse'⟩
  | .pipelineFault _ => ⟨_, rfl, h.pipelineFault'⟩
  | .engineFault _ => ⟨_, rfl, h.engineFault'⟩
  | .entropyBatch _ => ⟨_, rfl, h.entropyBatch'⟩
  | .entropyRetry _ => ⟨_, rfl, h.entropyRetried.ite h⟩
  | .entRetry _ => ⟨_, rfl, h.entropyRetried⟩
  | .drbgReseed => ⟨_, rfl, h.drbgReseed'⟩
  | .challenge => ⟨_, rfl, h.mailboxCommand' fun _ ht => ht.challengeOp'⟩
  | .challengeExpiry => h.execChallengeExpiry_next
  | .integrate _ => ⟨_, rfl, h.mailboxCommand' fun _ ht => ht.integrateOp'⟩
  | .field => ⟨_, rfl, h.mailboxCommand' fun _ ht => ht.fieldOp'⟩
  | .retire _ => ⟨_, rfl, h.mailboxCommand' fun _ ht => ht.retireOp'⟩
  | .importTransport _ _ => ⟨_, rfl, h.mailboxCommand' fun _ ht => ht.importOp'⟩
  | .importAttest _ _ => ⟨_, rfl, h.mailboxCommand' fun _ ht => ht.importOp'⟩
  | .keyGenerate _ _ => ⟨_, rfl, h.mailboxCommand' fun _ ht => ht.keyGenerateOp'⟩
  | .keyExport _ _ => ⟨_, rfl, h.mailboxCommand' fun _ ht => ht.keyExportOp'⟩
  | .keyDestroy _ => ⟨_, rfl, h.mailboxCommand' fun _ ht => ht.keyDestroyOp'⟩
  | .keyRotate _ => ⟨_, rfl, h.mailboxCommand' fun _ ht => ht.keyRotateOp'⟩
  | .keyAttrRead _ => ⟨_, rfl, h.mailboxCommand' fun _ ht => ht.keyAttrReadOp'⟩
  | .attestA _ => ⟨_, rfl, h.mailboxCommand' fun _ ht => ht.attestAOp'⟩
  | .statementB _ _ => ⟨_, rfl, h.mailboxCommand' fun _ ht => ht.statementBOp'⟩
  | .statementsRead => ⟨_, rfl, h.mailboxCommand' fun _ ht => ht.statementsReadOp'⟩
  | .dikCertRead => ⟨_, rfl, h.mailboxCommand' fun _ ht => ht.dikCertReadOp'⟩
  | .ecdhSecretWipe => ⟨_, rfl, h.set⟩
  | .fuseBlowDone _ _ => ⟨_, rfl, h.fuseBlowDone'⟩
  | .t1Alarm _ => ⟨_, rfl, h.t1Alarm'⟩
  | .t2Alarm _ => ⟨_, rfl, h.alarm.ite h⟩
  | .keyringLockEnd => h.execKeyringLockEnd_next
  | .t3Alarm _ => ⟨_, rfl, h.t3Alarm'⟩
  | .svcUnlock _ => ⟨_, rfl, h.svcUnlock'⟩
  | .svcClose => ⟨_, rfl, h.ite h.set.putFlag.debugVotes⟩
  | .tagUpdateRetry => ⟨_, rfl, h.flushTag.ite h⟩
  | .journalDrain _ => ⟨_, rfl, h.journalDrain'⟩
  | .checkpoint => ⟨_, rfl, h.checkpoint'⟩
  | .jrnlAck _ => ⟨_, rfl, h.jrnlAck'⟩
  | .captureAccept => ⟨_, rfl, h.captureAccept'⟩
  | .analysisDone _ => ⟨_, rfl, h.set⟩
  | .captureProgram _ => ⟨_, rfl, h.captureProgram'⟩
  | .streamAppend _ _ _ => ⟨_, rfl, h.mailboxCommand' fun _ ht => ht.streamAppendOp'⟩
  | .streamTrim _ _ => ⟨_, rfl, h.mailboxCommand' fun _ ht => ht.streamTrimOp'⟩
  | .capturePin _ => ⟨_, rfl, h.mailboxCommand' fun _ ht => ht.capturePinOp'⟩
  | .captureUnpin _ => ⟨_, rfl, h.mailboxCommand' fun _ ht => ht.captureUnpinOp'⟩
  | .hostNote _ => ⟨_, rfl, h.mailboxCommand' fun _ ht => ht.hostNoteOp'⟩
  | .load => ⟨_, rfl, h.load'⟩
  | .winReady => ⟨_, rfl, h.winReady'⟩
  | .scrubNow => ⟨_, rfl, h.scrubNow'⟩
  | .scrubRefreshDue _ _ _ => ⟨_, rfl, h.scrubRefresh'⟩
  | .blockRetired _ => ⟨_, rfl, h.blockRetired'⟩
  | .vaultBankFail _ _ => ⟨_, rfl, h.vaultBankFail'⟩
  | .dieFail _ => ⟨_, rfl, h.dieFail'⟩
  | .controllerFail => ⟨_, rfl, h.ite h.set.putFlag.putFlag.event.reason⟩
  | .powerFail _ _ _ => ⟨_, rfl, h.powerFail'⟩
  | .mtReservation _ => ⟨_, rfl, h.ite h.reserveVoted⟩
  | .mtReservationRetry _ => h.execMtReservationRetry_next
  | .lpcdSense _ _ => ⟨_, rfl, h.lpcdSense'⟩
  | .poll _ => ⟨_, rfl, h.poll'⟩
  | .cardArsp _ _ => ⟨_, rfl, h.cardArsp'⟩
  | .cardTimeout _ => ⟨_, rfl, h.cardTimeout'⟩
  | .cardRearm => h.execCardRearm_next
  | .fieldEntry _ => ⟨_, rfl, h.fieldEntry'⟩
  | .fieldLoss _ => ⟨_, rfl, h.fieldLoss'⟩
  | .getInfo _ _ _ => ⟨_, rfl, h.tagFrame fun _ ht => ht.getInfo'⟩
  | .read _ _ _ => ⟨_, rfl, h.tagFrame fun _ ht => ht.tagFieldRead'⟩
  | .write _ _ _ => ⟨_, rfl, h.tagFrame fun _ ht => ht.tagFieldWrite'⟩
  | .pwdAuth _ _ _ => ⟨_, rfl, h.tagFrame fun _ ht => ht.pwdAuth'⟩
  | .authBegin _ _ _ => ⟨_, rfl, h.tagFrame fun _ ht => ht.authBegin'⟩
  | .authEnd _ _ _ => ⟨_, rfl, h.tagFrame fun _ ht => ht.authEnd'⟩
  | .logout _ _ _ => ⟨_, rfl, h.tagFrame fun _ ht => ht.logout'⟩
  | .tagSetPwd _ => ⟨_, rfl, h.mailboxCommand' fun _ ht => ht.tagSetPwdOp'⟩
  | .tagSetKey _ => ⟨_, rfl, h.mailboxCommand' fun _ ht => ht.tagSetKeyOp'⟩
  | .tagRead _ _ => ⟨_, rfl, h.mailboxCommand' fun _ ht => ht.tagReadOp'⟩
  | .tagWrite _ _ _ => ⟨_, rfl, h.mailboxCommand' fun _ ht => ht.tagWriteOp'⟩
  | .tagReserve _ => ⟨_, rfl, h.mailboxCommand' fun _ ht => ht.tagReserveOp'⟩
  | .tagRelease => ⟨_, rfl, h.mailboxCommand' fun _ ht => ht.tagReleaseOp'⟩
  | .reservationEnd => ⟨_, rfl, h.endReservation⟩
  | .clrLocks => ⟨_, rfl, h.clrLocks'⟩
  | .snap => ⟨_, rfl, h.snap'⟩
  | .ntSet => ⟨_, rfl, h.ntSet'⟩
  | .ntStep => ⟨_, rfl, h.ntStep'⟩
  | .hostSync => ⟨_, rfl, h.hostSync'⟩
  | .ntIncWrite _ => ⟨_, rfl, h.ntIncWrite'⟩
  | .holdExpiry => ⟨_, rfl, h.holdExpiry'⟩
  | .syncTimeout => ⟨_, rfl, h.syncTimeout'⟩
  | .followUp _ _ _ _ => ⟨_, rfl, h.followUp'⟩
  | .announce _ _ => ⟨_, rfl, h.announce'⟩
  | .pdelayReq _ _ => ⟨_, rfl, h.set.ite h⟩
  | .pdelayResp _ _ _ => ⟨_, rfl, h.pdelayResp'⟩
  | .pdelayReqSend => ⟨_, rfl, h.set.ite h⟩
  | .pulseArm _ => ⟨_, rfl, h.pulseArm'⟩
  | .pulseEdge _ => ⟨_, rfl, h.pulseEdge'⟩
  | .pop _ => ⟨_, rfl, h.pop'⟩
  | .ovfClear _ => ⟨_, rfl, h.ovfClear'⟩
  | .txStampEntry _ _ => ⟨_, rfl, h.txStampEntry'⟩
  | .oscCalibration _ _ => ⟨_, rfl, h.oscCalibration'⟩
  | .ptOscFail => ⟨_, rfl, h.ptOscFail'⟩
  | .voteRaise _ _ _ => ⟨_, rfl, h.raiseVote⟩
  | .voteWithdraw _ _ => ⟨_, rfl, h.withdrawVote⟩
  | .islandRestored _ _ => h.execIslandRestored_next
  | .restoreTimeout _ => ⟨_, rfl, h.restoreTimeout'.failHooks⟩
  | .islandFailed _ _ => ⟨_, rfl, h.islandFailed'⟩
  | .standbyEntry => ⟨_, rfl, h.standbyEntry'⟩
  | .stbyWaitTimeout => ⟨_, rfl, h.stbyWaitTimeout'⟩
  | .levelChange _ _ _ => ⟨_, rfl, h.levelChange'⟩
  | .governorTick _ _ _ => ⟨_, rfl, h.governorTick'⟩
  | .brownout _ => ⟨_, rfl, h.brownout'⟩
  | .overvolt _ => ⟨_, rfl, h.overvolt'⟩
  | .supplyReturn _ => ⟨_, rfl, h.supplyReturn'⟩
  | .crystalLoss => ⟨_, rfl, h.crystalLoss'⟩
  | .crystalRetry _ => ⟨_, rfl, h.crystalRetry'⟩
  | .xtalRetry _ => ⟨_, rfl, h.crystalTried⟩
  | .updBegin _ _ => ⟨_, rfl, h.mailboxCommand' fun _ ht => ht.updBeginOp'⟩
  | .updChunk _ _ _ => ⟨_, rfl, h.mailboxCommand' fun _ ht => ht.updChunkOp'⟩
  | .verifyDone _ => ⟨_, rfl, h.verifyDone'⟩
  | .updActivate _ => ⟨_, rfl, h.mailboxCommand' fun _ ht => ht.updActivateOp'⟩
  | .quiescentPoint => ⟨_, rfl, h.quiescentPoint'⟩
  | .actWaitTimeout => ⟨_, rfl, h.actWaitTimeout'⟩
  | .satelliteReload => ⟨_, rfl, h.satelliteReload'⟩
  | .reloadDone _ => ⟨_, rfl, h.reloadDone'.failHooks⟩
  | .updConfirm _ => ⟨_, rfl, h.mailboxCommand' fun _ ht => ht.updConfirmOp'⟩
  | .updRevert => ⟨_, rfl, h.mailboxCommand' fun _ ht => ht.updRevertOp'⟩
  | .updAbort => ⟨_, rfl, h.mailboxCommand' fun _ ht => ht.updAbortOp'⟩
  | .spiNop _ _ _ _ _ => ⟨_, rfl, h.spiFrame' fun _ ht => ht.noWrite'⟩
  | .spiRead _ _ _ _ => ⟨_, rfl, h.spiFrame' fun _ ht => ht.noWrite'⟩
  | .spiWrite _ _ _ _ _ _ => ⟨_, rfl, h.spiFrame' fun _ ht => ht.writeWords'⟩
  | .spiResult _ _ _ _ => ⟨_, rfl, h.spiFrame' fun _ ht => ht.noWrite'⟩
  | .registerWrite _ _ => ⟨_, rfl, h.registerWrite'⟩
  | .hifMbRing _ => ⟨_, rfl, h.hifMbRing'⟩
  | .outAck => ⟨_, rfl, h.outAck'⟩
  | .mbAbort => ⟨_, rfl, h.mbAbort'⟩
  | .mailboxSegment _ _ _ => ⟨_, rfl, h.mailboxSegment'⟩
  | .mbExecute _ => ⟨_, rfl, h.mbExecute'⟩
  | .responseDrop => ⟨_, rfl, h.responseDrop'⟩
  | .regRead _ _ => ⟨_, rfl, h.mailboxCommand' fun _ ht => ht.regReadOp'⟩
  | .regWrite _ _ _ => ⟨_, rfl, h.mailboxCommand' fun _ ht => ht.regWriteOp'⟩
  | .reset _ => ⟨_, rfl, h.mailboxCommand' fun _ ht => ht.resetOp'⟩
  | .echo _ => ⟨_, rfl, h.mailboxCommand' fun _ ht => ht.echoOp'⟩
  | .sysReset _ => ⟨_, rfl, h.sysReset'⟩
  | .frameSend _ => ⟨_, rfl, h.mailboxCommand' fun _ ht => ht.frameSendOp'⟩
  | .frameRecv _ => ⟨_, rfl, h.mailboxCommand' fun _ ht => ht.frameRecvOp'⟩
  | .busFrameReceive _ => ⟨_, rfl, h.busFrameReceive'⟩
  | .busOff _ => ⟨_, rfl, h.busOff'⟩
  | .canRecover _ => ⟨_, rfl, h.canRecover'⟩
  | .beaconLost => ⟨_, rfl, h.beaconLost'⟩
  | .busWake _ => ⟨_, rfl, h.busWake'⟩
  | .spiCsWake => ⟨_, rfl, h.linkWake⟩
  | .tagAnticollision _ => ⟨_, rfl, h.tagAnticollision'⟩
  | .beaconReceive => ⟨_, rfl, h.beaconReceive'⟩
  | .busOffRecovery _ => ⟨_, rfl, h.busOffRecovery'⟩
  | .statusStale _ => ⟨_, rfl, h.statusStale'⟩
  | .wakeInputInactive _ => ⟨_, rfl, h.wakeInputInactive'⟩
  | .responseDelivered => ⟨_, rfl, h.responseDelivered'⟩

end

theorem exec_next_tidy {c : Instr} {s t : State} (h : exec c s = .next t) : s.Tidy t := by
  obtain ⟨u, hu, htidy⟩ := (State.Tidy.refl s).exec_next c
  cases h.symm.trans hu
  exact htidy

theorem step_next_canonical {s t : State} (h : step s = .next t) (hs : s.canonical = true) : t.canonical = true := by
  unfold step at h
  split at h
  · cases h
    exact (State.Tidy.refl s).idle'.2 hs
  · exact (exec_next_tidy h).2 hs

/-! ## The obligations -/

/-- Settles O2: every function of the model leaves the queue, so every command does. -/
theorem commandsLeaveTheQueue : Obligations.CommandsLeaveTheQueue := by
  unfold Obligations.CommandsLeaveTheQueue
  intro c s t h
  exact (exec_next_tidy h).1

/-- Settles O4: every function of the model writes the sparse memories through their own operations, which keep the form. -/
theorem stepsKeepTheMemoriesCanonical : Obligations.StepsKeepTheMemoriesCanonical := by
  unfold Obligations.StepsKeepTheMemoriesCanonical
  intro s t hs h
  exact step_next_canonical h hs

/-- Settles O1: the step is a match on the queue, and every arm of `exec` answers a next state. -/
theorem stepRunsTheFrontCommandAndCompletes : Obligations.StepRunsTheFrontCommandAndCompletes := by
  unfold Obligations.StepRunsTheFrontCommandAndCompletes
  refine ⟨fun c rest s => rfl, fun s h => ?_, fun c s => ?_⟩
  · simp [step, h]
  · obtain ⟨t, ht, _⟩ := (State.Tidy.refl s).exec_next c
    exact ⟨t, ht⟩

end Sys2Proof.Machine
end

section
/-! SUPPORT. Registers after a chain of writes: which fields and registers a chain keeps, link by link, and what a counter shows. -/
namespace Sys2Proof.Machine

open Sys2Proof

-- One declaration after another: checking many at a time takes more memory than the text may use.
set_option Elab.async false

section
variable {s t : State}

/-! ## Fields outside a list -/

theorem keepsFields.put {l : List Field} (h : keepsFields s t l) {f : Field} {v : Nat} (hf : f ∈ l := by simp)
    (hlo : f.lo ≤ f.hi := by exact Nat.le_of_ble_eq_true rfl) :
    keepsFields s (t.put f v) l := keepsFields_put h hf hlo v

theorem keepsFields.putFlag {l : List Field} (h : keepsFields s t l) {f : Field} {b : Bool} (hf : f ∈ l := by simp)
    (hlo : f.lo ≤ f.hi := by exact Nat.le_of_ble_eq_true rfl) : keepsFields s (t.putFlag f b) l := h.put hf hlo

theorem keepsFields.event {l : List Field} (h : keepsFields s t l) {f : Field} (hf : f ∈ l := by simp)
    (hlo : f.lo ≤ f.hi := by exact Nat.le_of_ble_eq_true rfl) :
    keepsFields s (t.event f) l := h.put hf hlo

theorem keepsFields.bumpBy {l : List Field} (h : keepsFields s t l) {f : Field} {n : Nat} (hf : f ∈ l := by simp)
    (hlo : f.lo ≤ f.hi := by exact Nat.le_of_ble_eq_true rfl) :
    keepsFields s (t.bumpBy f n) l := h.put hf hlo

theorem keepsFields.bump {l : List Field} (h : keepsFields s t l) {f : Field} (hf : f ∈ l := by simp)
    (hlo : f.lo ≤ f.hi := by exact Nat.le_of_ble_eq_true rfl) :
    keepsFields s (t.bump f) l := h.put hf hlo

theorem keepsFields.reason {l : List Field} (h : keepsFields s t l) {u : Subsys} {code : Nat} (hf : reasonField u ∈ l := by simp [reasonField]) :
    keepsFields s (t.reason u code) l := h.put hf (by cases u <;> decide)

theorem keepsFields.ite {u : State} {l : List Field} (h : keepsFields s t l) (h' : keepsFields s u l) {c : Prop} [Decidable c] :
    keepsFields s (if c then t else u) l := keepsFields_ite h h'

/-- What does not change the registers. -/
theorem keepsFields.set {l : List Field} (h : keepsFields s t l) {pending mt draws fuses vault nand update nor tag
    pilot sys net pwr tim sto keys upd hif tok lf rf rng rel sym nfc} : keepsFields s
    { t with
      pending := pending, mt := mt, draws := draws, fuses := fuses, vault := vault, nand := nand, update := update, nor := nor
      tag := tag, pilot := pilot, sys := sys, net := net, pwr := pwr
      tim := tim, sto := sto, keys := keys, upd := upd, hif := hif, tok := tok, lf := lf, rf := rf
      rng := rng, rel := rel, sym := sym, nfc := nfc } l :=
  keepsFields_of_regs h rfl

/-! ## Registers outside a list -/

theorem keepsRegs.setReg {l : List Nat} (h : keepsRegs s t l) {off v : Nat} (ho : off ∈ l := by simp) : keepsRegs s (t.setReg off v) l :=
  keepsRegs_setReg h ho v

theorem keepsRegs.put {l : List Nat} (h : keepsRegs s t l) {f : Field} {v : Nat} (ho : f.off ∈ l := by simp) : keepsRegs s (t.put f v) l :=
  keepsRegs_put h ho v

theorem keepsRegs.putFlag {l : List Nat} (h : keepsRegs s t l) {f : Field} {b : Bool} (ho : f.off ∈ l := by simp) :
    keepsRegs s (t.putFlag f b) l := h.put ho

theorem keepsRegs.event {l : List Nat} (h : keepsRegs s t l) {f : Field} (ho : f.off ∈ l := by simp) : keepsRegs s (t.event f) l := h.put ho

theorem keepsRegs.reason {l : List Nat} (h : keepsRegs s t l) {u : Subsys} {code : Nat} (ho : (reasonField u).off ∈ l := by simp [reasonField]) :
    keepsRegs s (t.reason u code) l := h.put ho

theorem keepsRegs.ite {u : State} {l : List Nat} (h : keepsRegs s t l) (h' : keepsRegs s u l) {c : Prop} [Decidable c] :
    keepsRegs s (if c then t else u) l := by
  split
  · exact h
  · exact h'

theorem keepsRegs.set {l : List Nat} (h : keepsRegs s t l) {pending mt draws fuses vault nand update nor tag
    pilot sys net pwr tim sto keys upd hif tok lf rf rng rel sym nfc} : keepsRegs s
    { t with
      pending := pending, mt := mt, draws := draws, fuses := fuses, vault := vault, nand := nand, update := update, nor := nor
      tag := tag, pilot := pilot, sys := sys, net := net, pwr := pwr
      tim := tim, sto := sto, keys := keys, upd := upd, hif := hif, tok := tok, lf := lf, rf := rf
      rng := rng, rel := rel, sym := sym, nfc := nfc } l := h

/-! ## The value of a written field -/

theorem State.get_event_same (s : State) (f : Field) (h1 : f.lo ≤ f.hi) (h2 : f.hi < 32) : (s.event f).get f = 1 := by
  rw [State.event, State.get_put_same _ _ _ h1 h2]
  exact Nat.mod_eq_of_lt (Nat.one_lt_two_pow (by omega))

theorem State.get_event_apart (s : State) (f g : Field) (h1 : f.lo ≤ f.hi) (h2 : g.hi < 32) (h : g.off ≠ f.off ∨ g.hi < f.lo ∨ f.hi < g.lo) :
    (s.event f).get g = s.get g := State.get_put_apart _ _ _ _ h1 h2 h

theorem State.get_putFlag_same (s : State) (f : Field) (b : Bool) (h1 : f.lo ≤ f.hi) (h2 : f.hi < 32) : (s.putFlag f b).get f = bit b := by
  rw [State.putFlag, State.get_put_same _ _ _ h1 h2]
  have hpow : 1 < 2 ^ (f.hi + 1 - f.lo) := Nat.one_lt_two_pow (by omega)
  cases b
  · rfl
  · exact Nat.mod_eq_of_lt hpow

theorem State.get_reason_same (s : State) (u : Subsys) {code : Nat} (h : code < 2 ^ 16) : (s.reason u code).get (reasonField u) = code := by
  have hfield : (reasonField u).lo = 0 ∧ (reasonField u).hi = 15 := by cases u <;> decide
  obtain ⟨hlo, hhi⟩ := hfield
  rw [State.reason, State.get_put_same _ _ _ (by omega) (by omega), hlo, hhi]
  exact Nat.mod_eq_of_lt h

theorem State.get_reason_apart (s : State) (u : Subsys) (g : Field) (code : Nat) (h2 : g.hi < 32)
    (h : g.off ≠ (reasonField u).off ∨ g.hi < (reasonField u).lo ∨ (reasonField u).hi < g.lo) : (s.reason u code).get g = s.get g :=
  State.get_put_apart _ _ _ _ (by cases u <;> decide) h2 h

/-- A counter after it has counted one. -/
theorem State.get_bump_same (s : State) (f : Field) (h1 : f.lo ≤ f.hi) (h2 : f.hi < 32) :
    (s.bump f).get f = min (s.get f + 1) (2 ^ (f.hi + 1 - f.lo) - 1) := by
  rw [State.bump, State.bumpBy, State.get_put_same _ _ _ h1 h2]
  have hpos : 0 < 2 ^ (f.hi + 1 - f.lo) := Nat.two_pow_pos _
  exact Nat.mod_eq_of_lt (by omega)

theorem State.get_bump_apart (s : State) (f g : Field) (h1 : f.lo ≤ f.hi) (h2 : g.hi < 32) (h : g.off ≠ f.off ∨ g.hi < f.lo ∨ f.hi < g.lo) :
    (s.bump f).get g = s.get g := State.get_put_apart _ _ _ _ h1 h2 h

end

end Sys2Proof.Machine
end

section
/-! SUPPORT. The time bases (R361, R366 to R368): what a snapshot records, what a change of NT does to the PULSE units, and the host's commands on NT. -/
namespace Sys2Proof.Machine

open Sys2Proof

-- One declaration after another: checking many at a time takes more memory than the text may use.
set_option Elab.async false

/-! ## Consecutive registers -/

theorem State.setRegs_eq (s : State) (off : Nat) (l : List Word) : s.setRegs off l = { s with regs := (s.setRegs off l).regs } := by
  induction l generalizing s off with
  | nil => rfl
  | cons w ws ih => exact State.regsOnly_trans (t := s.setReg off w.toNat) rfl (ih _ _)

theorem State.reg_setRegs_other (s : State) {off p : Nat} {l : List Word} (h : ∀ k < l.length, p ≠ off + 4 * k) :
    (s.setRegs off l).reg p = s.reg p := by
  induction l generalizing s off with
  | nil => rfl
  | cons w ws ih =>
    have hrest : ∀ k < ws.length, p ≠ off + 4 + 4 * k := fun k hk => by
      have := h (k + 1) (Nat.succ_lt_succ hk)
      omega
    rw [State.setRegs, ih _ hrest]
    exact State.reg_setReg_other _ (h 0 (Nat.succ_pos _)) _

theorem State.reg_setRegs_at (s : State) (off : Nat) {l : List Word} {k : Nat} (hk : k < l.length) :
    (s.setRegs off l).reg (off + 4 * k) = l[k].toNat := by
  induction l generalizing s off k with
  | nil => exact absurd hk (Nat.not_lt_zero _)
  | cons w ws ih =>
    cases k with
    | zero =>
      rw [State.setRegs, State.reg_setRegs_other _ (by omega)]
      exact (State.reg_setReg_same _ _ _).trans (Nat.mod_eq_of_lt w.isLt)
    | succ k =>
      rw [State.setRegs, show off + 4 * (k + 1) = off + 4 + 4 * k by omega]
      exact ih _ _ (Nat.lt_of_succ_lt_succ hk)

@[simp] theorem length_bytesToWords (n : Nat) (b : Bytes) : (bytesToWords n b).length = n := by
  induction n generalizing b with
  | zero => rfl
  | succ n ih => simp [bytesToWords, ih]

theorem le_lt (b : Bytes) (off n : Nat) : le b off n < 2 ^ (8 * n) := by
  have hlen : (slice b off n).length ≤ n := by simp [slice]
  exact (leNat_lt _).trans_le (Nat.pow_le_pow_right (by decide) (by omega))

theorem bytesToWords_at (n : Nat) (b : Bytes) {k : Nat} (hk : k < (bytesToWords n b).length) :
    ((bytesToWords n b)[k]).toNat = le b (4 * k) 4 := by
  induction n generalizing b k with
  | zero => exact absurd hk (Nat.not_lt_zero _)
  | succ n ih =>
    cases k with
    | zero => exact Nat.mod_eq_of_lt (le_lt b 0 4)
    | succ k =>
      have hk' : k < (bytesToWords n (b.drop 4)).length := Nat.lt_of_succ_lt_succ hk
      have hle : le (b.drop 4) (4 * k) 4 = le b (4 * (k + 1)) 4 := by
        simp only [le, slice, List.drop_drop]
        congr 3
        omega
      exact (ih (b.drop 4) hk').trans hle

/-- A field behind a first part. -/
theorem le_append_right {a b : Bytes} {off n : Nat} (h : a.length ≤ off) : le (a ++ b) off n = le b (off - a.length) n := by
  simp [le, slice, List.drop_append, List.drop_eq_nil_of_le h]

/-- A number at the front. -/
theorem le_toLE_append (n v : Nat) (b : Bytes) : le (toLE n v ++ b) 0 n = v % 256 ^ n := by
  have h : slice (toLE n v ++ b) 0 n = toLE n v := by simp [slice]
  rw [le, h, leNat_toLE]

/-! ## The snapshot (R361, Table 13-4) -/

theorem State.snapRecord_bases (s : State) : s.snapRecord.length = 32 ∧ le s.snapRecord 0 8 = s.mt % 2 ^ 64
    ∧ le s.snapRecord 16 4 = s.tim.nt % 10 ^ 9 ∧ le s.snapRecord 20 4 = s.pilot.pt.toNat ∧ le s.snapRecord 24 6 = s.tim.rt.toNat := by
  have hpt : s.pilot.pt.toNat < 2 ^ 32 := s.pilot.pt.isLt
  have hrt : s.tim.rt.toNat < 2 ^ 48 := s.tim.rt.isLt
  simp only [State.snapRecord, List.append_assoc]
  refine ⟨by simp, ?_, ?_, ?_, ?_⟩
  · exact le_toLE_append _ _ _
  all_goals
    simp [le_append_right, le_toLE_append]
    omega

theorem snap_bases (s : State) (k : Fin 8) : (snap s).reg (R.TIM_SNAPn k.val) = le s.snapRecord (4 * k.val) 4 := by
  have hk : k.val < (bytesToWords 8 s.snapRecord).length := by simp
  exact (s.reg_setRegs_at (R.TIM_SNAPn 0) hk).trans (bytesToWords_at 8 _ hk)

theorem snap_keeps (s : State) : keepsRegs s (snap s) ((List.range 8).map R.TIM_SNAPn) := by
  intro off hoff
  refine s.reg_setRegs_other fun k hk e => hoff ?_
  exact List.mem_map.mpr ⟨k, List.mem_range.mpr (by simpa using hk), e.symm⟩

/-! ## A change of NT and the PULSE units on it (R375) -/

/-- `t` is `s` after work on the PULSE units: registers and working states of units alone change. -/
def State.pulseWork (s t : State) : Prop := t = { s with regs := t.regs, tim := { s.tim with pulses := t.tim.pulses } }

theorem State.pulseWork.trans {s t u : State} (h : s.pulseWork t) (h' : t.pulseWork u) : s.pulseWork u := by
  unfold State.pulseWork at *
  rw [h', h]

theorem State.pulseWork.ite {s t u : State} (h : s.pulseWork t) (h' : s.pulseWork u) {c : Prop} [Decidable c] :
    s.pulseWork (if c then t else u) := by
  split
  · exact h
  · exact h'

theorem State.pulseWork_foldl {α : Type} {f : State → α → State} (hf : ∀ (s : State) (x : α), s.pulseWork (f s x)) (s : State) (l : List α) :
    s.pulseWork (l.foldl f s) := by
  induction l generalizing s with
  | nil => exact rfl
  | cons x xs ih => exact (hf s x).trans (ih _)

theorem State.stopPulse_pulseWork (s : State) (n : Nat) : s.pulseWork (s.stopPulse n) := by
  unfold State.stopPulse
  dsimp only
  refine State.pulseWork.ite ?_ ?_ <;> exact rfl

theorem State.pulseStep_pulseWork (s : State) (old new n : Nat) : s.pulseWork (s.pulseStep old new n) := by
  unfold State.pulseStep
  extract_lets p period high periodic next skipped s1 s2
  have hs1 : s.pulseWork s1 := by exact rfl
  have hs2 : s.pulseWork s2 := State.pulseWork.ite hs1 (by exact rfl)
  refine State.pulseWork.ite (by exact rfl) ?_
  exact (hs2.trans (State.stopPulse_pulseWork _ _)).ite hs2

/-- NT as it is loaded, the units moved behind it. -/
theorem State.loadNt_frame (s : State) (ns : Nat) : ({ s with tim := { s.tim with nt := ns % (2 ^ 48 * 10 ^ 9), ntFrac := 0 } } : State).pulseWork
    (s.loadNt ns) := State.pulseWork_foldl (fun t n => t.pulseStep_pulseWork _ _ n) _ _

/-! ## The states of NT (Table 13-3) -/

theorem State.setNtState_shown (s : State) {n : Nat} (h : n < 4) : (s.setNtState n).get F.TIM_STAT_NT_STATE = n := by
  unfold State.setNtState
  split
  · assumption
  · rw [State.event, State.get_put_apart _ _ _ _ (by decide) (by decide) (by decide), State.get_put_same _ _ _ (by decide) (by decide)]
    exact Nat.mod_eq_of_lt h

theorem State.setNtState_regsOnly (s : State) (n : Nat) : s.setNtState n = { s with regs := (s.setNtState n).regs } := by
  unfold State.setNtState
  split <;> rfl

theorem State.setNtState_keeps {s t : State} {l : List Field} (h : keepsFields s t l) (hstate : F.TIM_STAT_NT_STATE ∈ l)
    (hevt : F.TIM_EVT_NT_STATE ∈ l) (n : Nat) : keepsFields s (t.setNtState n) l :=
  keepsFields_ite h (keepsFields_put (keepsFields_put h hstate (by decide) _) hevt (by decide) _)

/-- What HOST_SYNC leaves, and what follows a load or a step (R367). -/
theorem State.hostSynced_spec (s : State) : s.hostSynced.tim = { s.tim with lastSync := s.mt } ∧ s.hostSynced.get F.TIM_STAT_NT_STATE = 2
    ∧ keepsFields s s.hostSynced [F.TIM_STAT_NT_STATE, F.TIM_EVT_NT_STATE]
    ∧ s.hostSynced = { s with regs := s.hostSynced.regs, tim := s.hostSynced.tim } := by
  unfold State.hostSynced
  have hregs := State.setNtState_regsOnly { s with tim := { s.tim with lastSync := s.mt } } 2
  refine ⟨?_, State.setNtState_shown _ (by decide), ?_, ?_⟩
  · rw [hregs]
  · exact State.setNtState_keeps (fun _ _ _ => rfl) (by simp) (by simp) 2
  · rw [hregs]

/-- NT after a load by the host. -/
theorem State.loaded_spec (s : State) (ns : Nat) : (s.loadNt ns).hostSynced.tim.nt = ns % (2 ^ 48 * 10 ^ 9)
    ∧ (s.loadNt ns).hostSynced.tim.ntFrac = 0 ∧ (s.loadNt ns).hostSynced.tim.lastSync = s.mt
    ∧ (s.loadNt ns).hostSynced.get F.TIM_STAT_NT_STATE = 2
    ∧ (s.loadNt ns).hostSynced = { s with regs := (s.loadNt ns).hostSynced.regs, tim := (s.loadNt ns).hostSynced.tim } := by
  obtain ⟨htim, hstate, -, hframe⟩ := (s.loadNt ns).hostSynced_spec
  have hload := s.loadNt_frame ns
  unfold State.pulseWork at hload
  refine ⟨?_, ?_, ?_, hstate, ?_⟩
  · rw [htim, hload]
  · rw [htim, hload]
  · rw [htim, hload]
  · rw [hframe, hload]

/-! ## The host's commands on NT (R366 to R368) -/

theorem ntSet_loads {s : State} (hmode : s.ntMode ≠ 1) (hns : s.reg R.TIM_NT_SET_NS < 10 ^ 9) : ntSet s
    = (s.loadNt ((s.reg R.TIM_NT_SET_S_LO + s.reg R.TIM_NT_SET_S_HI % 0x10000 * 2 ^ 32) * 10 ^ 9 + s.reg R.TIM_NT_SET_NS)).hostSynced := by
  unfold ntSet
  rw [if_neg hmode, if_neg (Nat.not_le.mpr hns)]

theorem ntSet_out_of_range {s : State} (hmode : s.ntMode ≠ 1) (hns : 10 ^ 9 ≤ s.reg R.TIM_NT_SET_NS) : ntSet s = s.reason .tim 0x040F := by
  unfold ntSet
  rw [if_neg hmode, if_pos hns]

/-- The seconds of 48 bits and the ns below 10^9 stand within NT. -/
theorem State.ntSet_value (s : State) (hns : s.reg R.TIM_NT_SET_NS < 10 ^ 9) :
    (s.reg R.TIM_NT_SET_S_LO + s.reg R.TIM_NT_SET_S_HI % 0x10000 * 2 ^ 32) * 10 ^ 9 + s.reg R.TIM_NT_SET_NS < 2 ^ 48 * 10 ^ 9 := by
  have hlo := s.reg_lt R.TIM_NT_SET_S_LO
  omega

theorem ntStep_steps {s : State} (hmode : s.ntMode ≠ 1) :
    ntStep s = (s.loadNt ((s.tim.nt : Int) + signed 32 (s.reg R.TIM_NT_OFFSET)).toNat).hostSynced := if_neg hmode

theorem ntIncWrite_applies {s : State} {i : Nat} (hmode : s.ntMode ≠ 1) (hlo : 24 * 2 ^ 32 ≤ i * 2 ^ 32 + s.reg R.TIM_NT_INC_FRAC)
    (hhi : i * 2 ^ 32 + s.reg R.TIM_NT_INC_FRAC ≤ 26 * 2 ^ 32) :
    ntIncWrite i s = { (s.put F.TIM_NT_INC_INT_INT i) with tim := { s.tim with inc := i * 2 ^ 32 + s.reg R.TIM_NT_INC_FRAC } } := by
  unfold ntIncWrite
  rw [if_neg hmode, if_neg (by simpa using ⟨hlo, hhi⟩)]

theorem ntIncWrite_out_of_range {s : State} {i : Nat} (hmode : s.ntMode ≠ 1)
    (h : i * 2 ^ 32 + s.reg R.TIM_NT_INC_FRAC < 24 * 2 ^ 32 ∨ 26 * 2 ^ 32 < i * 2 ^ 32 + s.reg R.TIM_NT_INC_FRAC) :
    ntIncWrite i s = s.reason .tim 0x0402 := by
  unfold ntIncWrite
  rw [if_neg hmode, if_pos (by simpa using h)]

/-! ## O42 -/

/-- Settles O42: a snapshot register by register, each command on NT by NT_MODE and by the range of its value. -/
theorem hostTimeSnapshotsAndNetworkTime : Obligations.HostTimeSnapshotsAndNetworkTime := by
  unfold Obligations.HostTimeSnapshotsAndNetworkTime
  refine ⟨fun s => ⟨snap s, rfl, snap_bases s, snap_keeps s, s.setRegs_eq _ _⟩, State.snapRecord_bases, ?set, ?step, ?sync, ?inc, ?incRange, ?setRange,
    ?gptp⟩
  case set =>
    intro s hmode hns
    obtain ⟨hnt, hfrac, hsync, hstate, hframe⟩ := s.loaded_spec
      ((s.reg R.TIM_NT_SET_S_LO + s.reg R.TIM_NT_SET_S_HI % 0x10000 * 2 ^ 32) * 10 ^ 9 + s.reg R.TIM_NT_SET_NS)
    exact ⟨_, congrArg Host.Outcome.next (ntSet_loads hmode hns), hnt.trans (Nat.mod_eq_of_lt (s.ntSet_value hns)), hfrac, hsync, hstate, hframe⟩
  case step =>
    intro s hmode
    obtain ⟨hnt, -, hsync, hstate, hframe⟩ := s.loaded_spec ((s.tim.nt : Int) + signed 32 (s.reg R.TIM_NT_OFFSET)).toNat
    exact ⟨_, congrArg Host.Outcome.next (ntStep_steps hmode), hnt, hsync, hstate, hframe⟩
  case sync => exact fun s hmode => ⟨_, congrArg Host.Outcome.next (if_neg hmode), s.hostSynced_spec⟩
  case inc =>
    intro s i hmode hlo hhi
    refine ⟨_, congrArg Host.Outcome.next (ntIncWrite_applies hmode hlo hhi), rfl, ?_, ?_, rfl⟩
    · exact (State.get_put_same s F.TIM_NT_INC_INT_INT _ (by decide) (by decide)).trans (Nat.mod_eq_of_lt i.isLt)
    · exact keepsFields_of_regs (keepsFields_put (keepsFields_refl s _) (List.mem_singleton_self _) (by decide) i.toNat) rfl
  case incRange => exact fun s i hmode h => congrArg Host.Outcome.next (ntIncWrite_out_of_range hmode h)
  case setRange => exact fun s hmode h => congrArg Host.Outcome.next (ntSet_out_of_range hmode h)
  case gptp =>
    exact fun s i hmode => ⟨congrArg Host.Outcome.next (if_pos hmode), congrArg Host.Outcome.next (if_pos hmode),
      congrArg Host.Outcome.next (if_pos hmode), congrArg Host.Outcome.next (if_pos hmode)⟩

end Sys2Proof.Machine
end

section
/-! SUPPORT. Network time without a host (R362, R367, R368, R370, R371): how NT falls back, and what the IEEE 802.1AS end station does. -/
namespace Sys2Proof.Machine

open Sys2Proof

-- One declaration after another: checking many at a time takes more memory than the text may use.
set_option Elab.async false

/-! ## HOLD and FREE (R362, R367, R368) -/

theorem holdExpiry_due {s : State} (hstate : s.get F.TIM_STAT_NT_STATE = 3) (hdue : s.tim.holdSince + s.holdUs ≤ s.mt + s.tim.holdSpent) :
    holdExpiry s = (((((s.put F.TIM_STAT_NT_STATE 1).event F.TIM_EVT_NT_STATE).reason .tim 0x0407)).event F.TIM_EVT_HOLD_END) := by
  simp [holdExpiry, State.setNtState, hstate, hdue]

theorem holdExpiry_early {s : State} (hstate : s.get F.TIM_STAT_NT_STATE = 3) (hearly : s.mt + s.tim.holdSpent < s.tim.holdSince + s.holdUs) :
    holdExpiry s = s := by
  simp [holdExpiry, hstate, Nat.not_le.mpr hearly]

theorem State.enterHold_of_sync {s : State} (hstate : s.get F.TIM_STAT_NT_STATE = 2) : s.enterHold
    = (((((({ s with tim := { s.tim with holdSince := s.mt, holdSpent := 0, good := 0 } } : State).put F.TIM_STAT_NT_STATE 3).event
        F.TIM_EVT_NT_STATE).reason .tim 0x0406).event F.TIM_EVT_SYNC_LOST).bump F.TIM_GPTP_CNT_LOST) := by
  have h : ({ s with tim := { s.tim with holdSince := s.mt, holdSpent := 0, good := 0 } } : State).get F.TIM_STAT_NT_STATE = 2 := hstate
  simp [State.enterHold, State.setNtState, h]

theorem syncTimeout_due {s : State} (hmode : s.ntMode = 1) (hstate : s.get F.TIM_STAT_NT_STATE = 2) (hdue : s.tim.lastSync + s.syncUs ≤ s.mt) :
    syncTimeout s = s.enterHold := by
  simp [syncTimeout, hmode, hstate, hdue]

theorem holdExpiry_spec {s : State} (hstate : s.get F.TIM_STAT_NT_STATE = 3) (hdue : s.tim.holdSince + s.holdUs ≤ s.mt + s.tim.holdSpent) :
    completes .holdExpiry s (fun t => t.get F.TIM_STAT_NT_STATE = 1 ∧ t.get F.TIM_REASON_REASON = 0x0407
        ∧ t.get F.TIM_EVT_HOLD_END = 1 ∧ t.get F.TIM_EVT_NT_STATE = 1
        ∧ keepsFields s t [F.TIM_STAT_NT_STATE, F.TIM_REASON_REASON, F.TIM_EVT_HOLD_END, F.TIM_EVT_NT_STATE] ∧ t = { s with regs := t.regs }) := by
  refine ⟨_, congrArg Host.Outcome.next (holdExpiry_due hstate hdue), ?_, ?_, ?_, ?_, ?_, rfl⟩
  iterate 4 simp (disch := decide) [State.event, State.reason, reasonField, State.get_put_same, State.get_put_apart]
  exact (keepsFields_refl s _).put.event.reason.event

theorem syncTimeout_spec {s : State} (hmode : s.ntMode = 1) (hstate : s.get F.TIM_STAT_NT_STATE = 2)
    (hdue : s.tim.lastSync + s.syncUs ≤ s.mt) :
    completes .syncTimeout s (fun t => t.get F.TIM_STAT_NT_STATE = 3 ∧ t.get F.TIM_REASON_REASON = 0x0406
        ∧ t.get F.TIM_EVT_SYNC_LOST = 1 ∧ t.get F.TIM_EVT_NT_STATE = 1
        ∧ t.get F.TIM_GPTP_CNT_LOST = min (s.get F.TIM_GPTP_CNT_LOST + 1) 255
        ∧ t.tim = { s.tim with holdSince := s.mt, holdSpent := 0, good := 0 }
        ∧ keepsFields s t [F.TIM_STAT_NT_STATE, F.TIM_REASON_REASON, F.TIM_EVT_SYNC_LOST, F.TIM_EVT_NT_STATE, F.TIM_GPTP_CNT_LOST]
        ∧ t = { s with regs := t.regs, tim := t.tim }) := by
  refine ⟨_, congrArg Host.Outcome.next ((syncTimeout_due hmode hstate hdue).trans (State.enterHold_of_sync hstate)), ?_, ?_, ?_, ?_, ?_, rfl, ?_, rfl⟩
  iterate 4 simp (disch := decide) [State.event, State.reason, State.bump, State.bumpBy, reasonField, State.get_put_same, State.get_put_apart]
  · rw [State.get_bump_same _ _ (by decide) (by decide)]
    simp (disch := decide) [State.event, State.reason, reasonField, State.get_put_apart]
    rfl
  · exact (keepsFields_refl s _).set.put.event.reason.event.bump

theorem ptOscFail_spec (s : State) :
    completes .ptOscFail s (fun t => t.tim = { s.tim with ptRc := true } ∧ t.get F.TIM_STAT_PT_RC = 1
        ∧ t.get F.TIM_EVT_PT_OSC_FAIL = 1 ∧ t.get F.TIM_REASON_REASON = 0x040D ∧ Nat.testBit (t.reg R.PWR_RED_STAT) 14 = true
        ∧ t.get F.PWR_EVT_RED_LOSS = 1
        ∧ keepsRegs s t [R.TIM_STAT, R.TIM_EVT, R.TIM_REASON, R.PWR_RED_STAT, R.PWR_EVT] ∧ t = { s with regs := t.regs, tim := t.tim }) := by
  refine ⟨ptOscFail s, rfl, rfl, ?_, ?_, ?_, State.redLoss_bit _ (by decide), State.get_event_same _ _ (by decide) (by decide), ?_, rfl⟩
  iterate 3
    simp (disch := decide) [ptOscFail, State.redLoss, State.putFlag, State.event, State.reason, reasonField, State.get_setReg_other,
      State.get_put_same, State.get_put_apart, bit]
  exact (keepsRegs_refl s _).set.putFlag.event.reason.setReg.event

/-! ## The master (R370) -/

theorem announce_takes {s : State} {m v : Nat} (hruns : s.gptpRuns = true) (h : s.tim.master = none ∨ v < s.tim.masterVec ∨ s.tim.master = some m) :
    announce m v s = { s with tim := { s.tim with master := some m, masterVec := v } } := by
  unfold announce
  rw [if_neg (by simp [hruns]), if_pos]
  obtain hnone | hbelow | hsame := h
  · simp [hnone]
  · simp [hbelow]
  · simp [hsame]

theorem announce_keeps {s : State} {m v : Nat} (hmaster : s.tim.master.isSome = true) (hvec : s.tim.masterVec ≤ v) (hother : s.tim.master ≠ some m) :
    announce m v s = s := by
  unfold announce
  split
  · rfl
  · refine if_neg ?_
    simp [Option.isSome_iff_ne_none.mp hmaster, Nat.not_lt.mpr hvec, hother]

/-! ## FOLLOW_UP (R371) -/

/-- A FOLLOW_UP taken: the Sync counts and its offset shows. -/
def State.offsetTaken (s : State) (o : Int) : State :=
  (({ s with tim := { s.tim with lastSync := s.mt } }).setReg R.TIM_GPTP_OFFSET (clip32 o)).bump F.TIM_GPTP_CNT_SYNCS

/-- What shows of a step of NT. -/
def State.stepNoted (s : State) : State :=
  ((({ s with tim := { s.tim with rate := 0 } }).event F.TIM_EVT_STEP).reason .tim 0x040B).bump F.TIM_GPTP_CNT_STEPS

/-- NT as it follows an offset above STEP_NS. -/
def State.ntStepped (s : State) (o : Int) : State := ((s.offsetTaken o).loadNt ((s.tim.nt : Int) - o).toNat).stepNoted

/-- NT as it follows an offset within its loop. -/
def State.ntServoed (s : State) (o : Int) : State :=
  let t := s.offsetTaken o
  { t with tim := { t.tim with rate := (Config.servo s.tim.rate o).1, inc := (25 * 2 ^ 32 + clipPpm (Config.servo s.tim.rate o).2).toNat } }

/-- The count of offsets within SYNC_THRESH_NS, and SYNC with the fourth. -/
def State.goodCounted (s : State) (good : Nat) : State :=
  let t : State := { s with tim := { s.tim with good := good } }
  if 4 ≤ good then t.setNtState 2 else t

/-- The offsets in a row within SYNC_THRESH_NS, this one with them. -/
def State.goodAfter (s : State) (o : Int) : Nat := if o.natAbs ≤ s.secLE 0x0C 8 4 50 then s.tim.good + 1 else 0

theorem followUp_taken {s : State} {st og m : Nat} {c : Int} (hruns : s.gptpRuns = true) (hmaster : s.tim.master = some m) :
    followUp st og c m s = (let o : Int := (st : Int) - ((og : Int) + c + s.tim.delay)
      (if s.secLE 0x0C 0x0C 4 1000 < o.natAbs then s.ntStepped o else s.ntServoed o).goodCounted (s.goodAfter o)) := by
  unfold followUp
  rw [if_neg (by simp [hruns, hmaster])]
  simp only [State.goodAfter, decide_eq_true_eq]
  rfl

theorem clip32_lt (i : Int) : clip32 i < 2 ^ 32 := by
  unfold clip32 unsigned
  omega

theorem State.goodCounted_frame (s : State) (good : Nat) :
    s.goodCounted good = { s with regs := (s.goodCounted good).regs, tim := { s.tim with good := good } } := by
  unfold State.goodCounted
  dsimp only
  split
  · rw [State.setNtState_regsOnly]
  · rfl

theorem State.goodCounted_keeps (s : State) (good : Nat) : keepsFields s (s.goodCounted good) [F.TIM_STAT_NT_STATE, F.TIM_EVT_NT_STATE] := by
  unfold State.goodCounted
  exact (State.setNtState_keeps (keepsFields_refl s _).set (by simp) (by simp) 2).ite (keepsFields_refl s _).set

theorem State.goodCounted_sync (s : State) {good : Nat} (h : 4 ≤ good) : (s.goodCounted good).get F.TIM_STAT_NT_STATE = 2 := by
  unfold State.goodCounted
  dsimp only
  rw [if_pos h]
  exact State.setNtState_shown _ (by decide)

/-- What a change of NT writes for the unit `n` on NT. -/
def pulseFields (n : Nat) : List Field :=
  [F.TIM_PULSEn_CTL_EN n, F.TIM_PULSEn_CTL_ARMED n, F.TIM_PULSEn_CTL_SKIPPED n, F.TIM_STAT_PULSE_RUN, F.PWR_VOTEn_CLIENTS 13, F.TIM_EVT_PULSE_SKIP,
    F.TIM_REASON_REASON]

theorem State.stopPulse_keeps (s : State) (n : Nat) : keepsFields s (s.stopPulse n) (pulseFields n) := by
  unfold State.stopPulse pulseFields
  dsimp only
  exact keepsFields.ite (keepsFields_refl s _).putFlag.putFlag.put.set
    ((keepsFields_refl s _).putFlag.putFlag.put.set.put)

theorem State.pulseStep_keeps (s : State) (old new n : Nat) : keepsFields s (s.pulseStep old new n) (pulseFields n) := by
  unfold State.pulseStep
  extract_lets p period high periodic next skipped s1 s2
  have hs2 : keepsFields s s2 (pulseFields n) := by
    unfold pulseFields
    exact (keepsFields_refl s _).set.ite (keepsFields_refl s _).set.bumpBy.event.reason
  exact (keepsFields_refl s _).ite ((hs2.trans (s2.stopPulse_keeps n)).ite hs2)

theorem State.loadNt_keeps (s : State) (ns : Nat) : keepsFields s (s.loadNt ns) ([0, 1, 2, 3].flatMap pulseFields) := by
  have hstep : ∀ (t : State) (n : Nat), n ∈ [0, 1, 2, 3] → ∀ old new, keepsFields s t ([0, 1, 2, 3].flatMap pulseFields) →
      keepsFields s (t.pulseStep old new n) ([0, 1, 2, 3].flatMap pulseFields) := fun t n hn old new h =>
    h.trans ((t.pulseStep_keeps old new n).mono fun f hf => List.mem_flatMap.mpr ⟨n, hn, hf⟩)
  unfold State.loadNt
  simp only [List.foldl_cons, List.foldl_nil]
  exact hstep _ 3 (by simp) _ _ (hstep _ 2 (by simp) _ _ (hstep _ 1 (by simp) _ _ (hstep _ 0 (by simp) _ _ (keepsFields_refl s _).set)))

/-- A Sync taken counts, and shows its offset beside the count. -/
theorem State.offsetTaken_shown (s : State) (o : Int) : (s.offsetTaken o).reg R.TIM_GPTP_OFFSET = clip32 o
    ∧ (s.offsetTaken o).get F.TIM_GPTP_CNT_SYNCS = min (s.get F.TIM_GPTP_CNT_SYNCS + 1) 65535
    ∧ keepsFields s (s.offsetTaken o) [F.TIM_GPTP_OFFSET_O, F.TIM_GPTP_CNT_SYNCS] := by
  unfold State.offsetTaken
  refine ⟨?_, ?_, ?_⟩
  · rw [State.bump, State.bumpBy, State.reg_put_other _ (by decide), State.reg_setReg_same]
    exact Nat.mod_eq_of_lt (clip32_lt o)
  · rw [State.get_bump_same _ _ (by decide) (by decide), State.get_setReg_other _ (by decide)]
    rfl
  · exact (keepsFields_setReg (keepsFields_refl s _).set (by simp [wholeReg]) _).bump

theorem State.stepNoted_shown (s : State) : s.stepNoted.get F.TIM_EVT_STEP = 1 ∧ s.stepNoted.get F.TIM_REASON_REASON = 0x040B
    ∧ s.stepNoted.get F.TIM_GPTP_CNT_STEPS = min (s.get F.TIM_GPTP_CNT_STEPS + 1) 255
    ∧ s.stepNoted.reg R.TIM_GPTP_OFFSET = s.reg R.TIM_GPTP_OFFSET := by
  unfold State.stepNoted
  refine ⟨?_, ?_, ?_, ?_⟩
  · simp (disch := decide) [State.event, State.reason, State.bump, State.bumpBy, reasonField, State.get_put_same, State.get_put_apart]
  · simp (disch := decide) [State.event, State.reason, State.bump, State.bumpBy, reasonField, State.get_put_same, State.get_put_apart]
  · rw [State.get_bump_same _ _ (by decide) (by decide)]
    simp (disch := decide) [State.event, State.reason, reasonField, State.get_put_apart]
    rfl
  · rw [State.bump, State.bumpBy, State.reg_put_other _ (by decide), State.reason, State.reg_put_other _ (by decide), State.event,
      State.reg_put_other _ (by decide)]
    rfl

theorem State.ntStepped_frame (s : State) (o : Int) : s.ntStepped o = { s with
    regs := (s.ntStepped o).regs
    tim := { s.tim with lastSync := s.mt, nt := ((s.tim.nt : Int) - o).toNat % (2 ^ 48 * 10 ^ 9), ntFrac := 0, rate := 0
                        pulses := (s.ntStepped o).tim.pulses } } := by
  have hload := (s.offsetTaken o).loadNt_frame ((s.tim.nt : Int) - o).toNat
  unfold State.pulseWork at hload
  unfold State.ntStepped
  rw [hload]
  rfl

theorem State.ntStepped_shown (s : State) (o : Int) : (s.ntStepped o).get F.TIM_EVT_STEP = 1 ∧ (s.ntStepped o).get F.TIM_REASON_REASON = 0x040B
    ∧ (s.ntStepped o).get F.TIM_GPTP_CNT_STEPS = min (s.get F.TIM_GPTP_CNT_STEPS + 1) 255
    ∧ (s.ntStepped o).reg R.TIM_GPTP_OFFSET = clip32 o := by
  obtain ⟨hoffset, -, htaken⟩ := s.offsetTaken_shown o
  have hload := (s.offsetTaken o).loadNt_keeps ((s.tim.nt : Int) - o).toNat
  obtain ⟨hevt, hreason, hsteps, hreg⟩ := ((s.offsetTaken o).loadNt ((s.tim.nt : Int) - o).toNat).stepNoted_shown
  refine ⟨hevt, hreason, hsteps.trans ?_, hreg.trans ((hload.reg (by decide)).trans hoffset)⟩
  rw [hload _ (by decide) (by decide), htaken _ (by decide) (by decide)]

theorem followUp_steps {s : State} {st og m : Nat} {c o : Int} (hruns : s.gptpRuns = true) (hmaster : s.tim.master = some m)
    (ho : o = (st : Int) - ((og : Int) + c + s.tim.delay)) (hstep : s.secLE 0x0C 0x0C 4 1000 < o.natAbs) :
    followUp st og c m s = (s.ntStepped o).goodCounted (s.goodAfter o) := by
  rw [followUp_taken hruns hmaster, ← ho]
  dsimp only
  rw [if_pos hstep]

theorem followUp_follows {s : State} {st og m : Nat} {c o : Int} (hruns : s.gptpRuns = true) (hmaster : s.tim.master = some m)
    (ho : o = (st : Int) - ((og : Int) + c + s.tim.delay)) (hloop : o.natAbs ≤ s.secLE 0x0C 0x0C 4 1000) :
    followUp st og c m s = (s.ntServoed o).goodCounted (s.goodAfter o) := by
  rw [followUp_taken hruns hmaster, ← ho]
  dsimp only
  rw [if_neg (Nat.not_lt.mpr hloop)]

/-! ## Pdelay (R370) -/

theorem pdelayResp_capable {s : State} {m d : Nat} (hruns : s.gptpRuns = true) (hmaster : s.tim.master = some m)
    (hd : d ≤ s.secLE 0x0C 4 4 100000) : pdelayResp m s.tim.pdelaySeq d s
      = (({ s with tim := { s.tim with delay := d, asCapable := true } }).setReg R.TIM_GPTP_DELAY d).putFlag F.TIM_STAT_AS_CAPABLE true := by
  simp [pdelayResp, hruns, hmaster, hd]

theorem pdelayResp_above {s : State} {m d : Nat} (hruns : s.gptpRuns = true) (hmaster : s.tim.master = some m)
    (hd : s.secLE 0x0C 4 4 100000 < d) (hstate : s.get F.TIM_STAT_NT_STATE ≠ 2) : pdelayResp m s.tim.pdelaySeq d s
      = (((({ s with tim := { s.tim with delay := d, asCapable := false } }).setReg R.TIM_GPTP_DELAY d).putFlag F.TIM_STAT_AS_CAPABLE false).event
          F.TIM_EVT_NOT_AS_CAPABLE).reason .tim 0x040A := by
  have hkept : ((((({ s with tim := { s.tim with delay := d, asCapable := false } } : State).setReg R.TIM_GPTP_DELAY d).putFlag F.TIM_STAT_AS_CAPABLE
      false).event F.TIM_EVT_NOT_AS_CAPABLE).reason .tim 0x040A).get F.TIM_STAT_NT_STATE = s.get F.TIM_STAT_NT_STATE := by
    simp (disch := decide) only [State.putFlag, State.event, State.reason, reasonField, State.get_put_apart, State.get_setReg_other]
    rfl
  unfold pdelayResp
  rw [if_neg (by simp [hruns, hmaster])]
  simp only [decide_eq_false (Nat.not_le.mpr hd)]
  rw [if_neg Bool.false_ne_true, if_neg (hkept.trans_ne hstate)]

/-- NT within its loop, field by field. -/
theorem State.ntServoed_eq (s : State) (o : Int) : s.ntServoed o = { s with
    regs := (s.offsetTaken o).regs
    tim := { s.tim with lastSync := s.mt, rate := (Config.servo s.tim.rate o).1
                        inc := (25 * 2 ^ 32 + clipPpm (Config.servo s.tim.rate o).2).toNat } } := by
  unfold State.ntServoed
  rfl

/-- A step of NT by its master (R371). -/
theorem followUp_steps_spec {s : State} {st og m : Nat} {c o : Int} (hruns : s.gptpRuns = true) (hmaster : s.tim.master = some m)
    (ho : o = (st : Int) - ((og : Int) + c + s.tim.delay)) (hstep : s.secLE 0x0C 0x0C 4 1000 < o.natAbs) :
    completes (.followUp st og c m) s (fun t =>
        t.tim.nt = (((s.tim.nt : Int) - o).toNat) % (2 ^ 48 * 10 ^ 9) ∧ t.get F.TIM_EVT_STEP = 1 ∧ t.get F.TIM_REASON_REASON = 0x040B
        ∧ t.get F.TIM_GPTP_CNT_STEPS = min (s.get F.TIM_GPTP_CNT_STEPS + 1) 255 ∧ t.tim.lastSync = s.mt ∧ t.tim.rate = 0
        ∧ t.reg R.TIM_GPTP_OFFSET = clip32 o ∧ t = { s with regs := t.regs, tim := t.tim }) := by
  obtain ⟨hevt, hreason, hsteps, hoffset⟩ := s.ntStepped_shown o
  have hkeeps := (s.ntStepped o).goodCounted_keeps (s.goodAfter o)
  have hframe := (s.ntStepped o).goodCounted_frame (s.goodAfter o)
  have hstepped := s.ntStepped_frame o
  refine ⟨_, congrArg Host.Outcome.next (followUp_steps hruns hmaster ho hstep), ?_, (hkeeps _ (by decide) (by decide)).trans hevt,
    (hkeeps _ (by decide) (by decide)).trans hreason, (hkeeps _ (by decide) (by decide)).trans hsteps, ?_, ?_,
    (hkeeps.reg (by decide)).trans hoffset, ?_⟩
  · rw [hframe, hstepped]
  · rw [hframe, hstepped]
  · rw [hframe, hstepped]
  · rw [hframe, hstepped]

/-- NT within the bounds of its loop (R371). -/
theorem followUp_follows_spec {s : State} {st og m : Nat} {c o : Int} (hruns : s.gptpRuns = true) (hmaster : s.tim.master = some m)
    (ho : o = (st : Int) - ((og : Int) + c + s.tim.delay)) (hloop : o.natAbs ≤ s.secLE 0x0C 0x0C 4 1000) :
    completes (.followUp st og c m) s (fun t =>
        t.tim = { s.tim with lastSync := s.mt, rate := (Config.servo s.tim.rate o).1
                             inc := (25 * 2 ^ 32 + clipPpm (Config.servo s.tim.rate o).2).toNat
                             good := if o.natAbs ≤ s.secLE 0x0C 8 4 50 then s.tim.good + 1 else 0 }
        ∧ t.reg R.TIM_GPTP_OFFSET = clip32 o ∧ t.get F.TIM_GPTP_CNT_SYNCS = min (s.get F.TIM_GPTP_CNT_SYNCS + 1) 65535
        ∧ (o.natAbs ≤ s.secLE 0x0C 8 4 50 → 3 ≤ s.tim.good → t.get F.TIM_STAT_NT_STATE = 2)
        ∧ keepsFields s t [F.TIM_GPTP_OFFSET_O, F.TIM_GPTP_CNT_SYNCS, F.TIM_STAT_NT_STATE, F.TIM_EVT_NT_STATE]
        ∧ t = { s with regs := t.regs, tim := t.tim }) := by
  obtain ⟨hoffset, hsyncs, htaken⟩ := s.offsetTaken_shown o
  have hkeeps := (s.ntServoed o).goodCounted_keeps (s.goodAfter o)
  have hframe := (s.ntServoed o).goodCounted_frame (s.goodAfter o)
  have hregs : (s.ntServoed o).regs = (s.offsetTaken o).regs := by rw [State.ntServoed_eq]
  have htaken' : keepsFields s (s.ntServoed o) [F.TIM_GPTP_OFFSET_O, F.TIM_GPTP_CNT_SYNCS, F.TIM_STAT_NT_STATE, F.TIM_EVT_NT_STATE] :=
    keepsFields_of_regs (htaken.mono (by simp)) hregs
  refine ⟨_, congrArg Host.Outcome.next (followUp_follows hruns hmaster ho hloop), ?_, ?_,
    (hkeeps _ (by decide) (by decide)).trans ((State.get_of_regs hregs _).trans hsyncs), ?_, htaken'.trans (hkeeps.mono (by simp)), ?_⟩
  · rw [hframe, State.ntServoed_eq]
    rfl
  · rw [hkeeps.reg (by decide), State.reg, hregs, ← State.reg, hoffset]
  · intro hwithin hgood
    refine State.goodCounted_sync _ ?_
    rw [State.goodAfter, if_pos hwithin]
    omega
  · rw [hframe, State.ntServoed_eq]

/-! ## O43 -/

/-- Settles O43: each fall of NT by what is due, a FOLLOW_UP by whether its offset exceeds STEP_NS, a Pdelay response by its limit. -/
theorem networkTimeFollowsAndFallsBack : Obligations.NetworkTimeFollowsAndFallsBack := by
  unfold Obligations.NetworkTimeFollowsAndFallsBack
  refine ⟨fun s => holdExpiry_spec, fun s hstate h => congrArg Host.Outcome.next (holdExpiry_early hstate h), fun s => syncTimeout_spec,
    ptOscFail_spec, ?better, ?other, ?sync, ?request, ?ownRequest, ?capable, ?above⟩
  case better => exact fun s m v hruns h => congrArg Host.Outcome.next (announce_takes hruns h)
  case other => exact fun s m v _ hmaster hvec hother => congrArg Host.Outcome.next (announce_keeps hmaster hvec hother)
  case sync => exact fun s st og m c hruns hmaster => ⟨followUp_steps_spec hruns hmaster rfl, followUp_follows_spec hruns hmaster rfl⟩
  case request => exact fun s m q hruns => congrArg Host.Outcome.next (if_pos hruns)
  case ownRequest => exact fun s hruns hdue => congrArg Host.Outcome.next (if_pos (by simp [hruns, hdue]))
  case capable =>
    intro s m d hruns hmaster hd hlt
    refine ⟨_, congrArg Host.Outcome.next (pdelayResp_capable hruns hmaster hd), rfl, ?_, State.get_putFlag_same _ _ _ (by decide) (by decide),
      ?_, rfl⟩
    · rw [State.putFlag, State.reg_put_other _ (by decide), State.reg_setReg_same]
      exact Nat.mod_eq_of_lt hlt
    · exact (keepsFields_setReg (keepsFields_refl s _).set (by simp [wholeReg]) d).putFlag
  case above =>
    intro s m d hruns hmaster hd hstate
    refine ⟨_, congrArg Host.Outcome.next (pdelayResp_above hruns hmaster hd hstate), rfl, ?_, ?_, ?_, rfl⟩
    all_goals simp (disch := decide) [State.putFlag, State.event, State.reason, reasonField, State.get_put_same, State.get_put_apart, bit]

end Sys2Proof.Machine
end

section
/-! SUPPORT. PULSE units and transmit stamps (R372 to R375): what arms a unit, its two edges, and the stamp queues. -/
namespace Sys2Proof.Machine

open Sys2Proof

-- One declaration after another: checking many at a time takes more memory than the text may use.
set_option Elab.async false

/-! ## PULSE units (R374, R375) -/

/-- The time from now to START, modulo 2^32. -/
def State.startAhead (s : State) (u : Nat) : Nat := (s.reg (R.TIM_PULSEn_START u) + 2 ^ 32 - s.mt % 2 ^ 32) % 2 ^ 32

section
variable {s : State} {u : Nat}

theorem State.flag_false_of_get {f : Field} (h : s.get f = 0) : s.flag f = false := by rw [State.flag, h]; rfl

theorem State.flag_true_of_get {f : Field} (h : s.get f = 1) : s.flag f = true := by rw [State.flag, h]; rfl

theorem State.baseNow_of_mt (h : s.get (F.TIM_PULSEn_CTL_BASE u) = 1) : s.baseNow u = s.mt := by
  simp [State.baseNow, h]

/-- The checks on the state and on the length of the pulse that an arm on MT passes. -/
theorem pulseArm_judges_start (htim : s.enabled .tim = true) (hen : s.get (F.TIM_PULSEn_CTL_EN u) = 0)
    (hbase : s.get (F.TIM_PULSEn_CTL_BASE u) = 1) (hwidth : 1 ≤ s.reg (R.TIM_PULSEn_WIDTH u))
    (hperiod : s.reg (R.TIM_PULSEn_WIDTH u) < s.reg (R.TIM_PULSEn_PERIOD u)) :
    pulseArm u s = if s.startAhead u = 0 ∨ 2 ^ 31 ≤ s.startAhead u then s.reason .tim 0x0401
      else s.startPulse u (s.mt + s.startAhead u) (s.mt + s.startAhead u) false := by
  have hlength : ¬ (s.reg (R.TIM_PULSEn_PERIOD u) ≤ s.reg (R.TIM_PULSEn_WIDTH u) ∨ s.reg (R.TIM_PULSEn_WIDTH u) < 1) := by omega
  unfold pulseArm State.startAhead
  simp only [htim, State.flag_false_of_get hen, hbase, State.baseNow_of_mt hbase, Bool.or_eq_true, decide_eq_true_eq, Bool.not_true, Bool.or_self,
    Bool.false_eq_true, Nat.one_ne_zero, decide_false, Bool.false_and, if_false]
  rw [if_neg hlength]

theorem pulseArm_bad_length (htim : s.enabled .tim = true) (hen : s.get (F.TIM_PULSEn_CTL_EN u) = 0) (hisland : s.islandFailed 13 = false)
    (h : s.reg (R.TIM_PULSEn_PERIOD u) ≤ s.reg (R.TIM_PULSEn_WIDTH u) ∨ s.reg (R.TIM_PULSEn_WIDTH u) = 0) :
    pulseArm u s = s.reason .tim 0x040F := by
  have hlength : s.reg (R.TIM_PULSEn_PERIOD u) ≤ s.reg (R.TIM_PULSEn_WIDTH u)
      ∨ s.reg (R.TIM_PULSEn_WIDTH u) < if s.get (F.TIM_PULSEn_CTL_BASE u) = 0 then 50 else 1 := by
    obtain h | h := h
    · exact .inl h
    · right
      split <;> omega
  unfold pulseArm
  simp only [htim, State.flag_false_of_get hen, hisland, Bool.or_eq_true, decide_eq_true_eq, Bool.not_true, Bool.or_self, Bool.false_eq_true,
    Bool.and_false, if_false]
  rw [if_pos hlength]

/-- What shows of a unit that has been armed. -/
def State.pulseArmed (s : State) (u : Nat) : State :=
  let t := (s.putFlag (F.TIM_PULSEn_CTL_EN u) true).putFlag (F.TIM_PULSEn_CTL_ARMED u) true
  t.put F.TIM_STAT_PULSE_RUN (setBit (t.get F.TIM_STAT_PULSE_RUN) u true)

theorem State.startPulse_of_mt (hbase : s.get (F.TIM_PULSEn_CTL_BASE u) = 1) (t0 next : Nat) (auto : Bool) : s.startPulse u t0 next auto
    = (s.pulseArmed u).setPulse u ⟨t0, next, none, !(s.pulseArmed u).flag (F.TIM_PULSEn_CTL_POL u), auto⟩ := by
  unfold State.startPulse
  rw [if_neg (by omega)]
  rfl

theorem State.get_setPulse (n : Nat) (p : Pulse) (f : Field) : (s.setPulse n p).get f = s.get f := rfl

theorem State.startPulse_spec (hu : u < 4) (hlen : s.tim.pulses.length = 4) (hbase : s.get (F.TIM_PULSEn_CTL_BASE u) = 1) (a b : Nat)
    (auto : Bool) : (s.startPulse u a b auto).get (F.TIM_PULSEn_CTL_EN u) = 1 ∧ (s.startPulse u a b auto).get (F.TIM_PULSEn_CTL_ARMED u) = 1
      ∧ ((s.startPulse u a b auto).pulse u).next = b ∧ ((s.startPulse u a b auto).pulse u).t0 = a
      ∧ ((s.startPulse u a b auto).pulse u).high = none ∧ keepsRegs s (s.startPulse u a b auto) [R.TIM_PULSEn_CTL u, R.TIM_STAT]
      ∧ s.startPulse u a b auto = { s with
        regs := (s.startPulse u a b auto).regs
        tim := { s.tim with pulses := (s.startPulse u a b auto).tim.pulses } } := by
  have hmem : u < (s.pulseArmed u).tim.pulses.length := by
    change u < s.tim.pulses.length
    omega
  have hctl : 0x2080 + 16 * u ≠ 0x2008 := by omega
  rw [State.startPulse_of_mt hbase, State.pulse_setPulse_same hmem]
  refine ⟨?_, ?_, rfl, rfl, rfl, ?_, rfl⟩
  · simp [State.get_setPulse, State.pulseArmed, State.putFlag, State.get_put_apart, State.get_put_same, hctl, bit]
  · simp [State.get_setPulse, State.pulseArmed, State.putFlag, State.get_put_apart, State.get_put_same, hctl, bit]
  · exact (keepsRegs_refl s _).putFlag.putFlag.put.set

/-- The rising edge. -/
theorem pulseEdge_rises (hen : s.get (F.TIM_PULSEn_CTL_EN u) = 1) (hhigh : (s.pulse u).high = none) (hnow : s.reached u (s.pulse u).next = true) :
    pulseEdge u s = (s.setPulse u { s.pulse u with high := some ((s.pulse u).next + s.reg (R.TIM_PULSEn_WIDTH u))
                                                   level := s.flag (F.TIM_PULSEn_CTL_POL u)
                                                   next := (s.pulse u).next + s.reg (R.TIM_PULSEn_PERIOD u) }).putFlag (F.TIM_PULSEn_CTL_ARMED u) false := by
  unfold pulseEdge
  simp [State.flag_true_of_get hen, hhigh, hnow]

/-- The falling edge of a periodic unit. -/
theorem pulseEdge_falls {f : Nat} (hen : s.get (F.TIM_PULSEn_CTL_EN u) = 1) (hhigh : (s.pulse u).high = some f) (hnow : s.reached u f = true)
    (hmode : s.get (F.TIM_PULSEn_CTL_MODE u) = 1) : pulseEdge u s
      = (s.setPulse u { s.pulse u with high := none, level := !s.flag (F.TIM_PULSEn_CTL_POL u) }).putFlag (F.TIM_PULSEn_CTL_ARMED u) true := by
  unfold pulseEdge
  simp [State.flag_true_of_get hen, State.flag_true_of_get hmode, hhigh, hnow]

/-- The falling edge of a one-shot unit. -/
theorem pulseEdge_ends {f : Nat} (hen : s.get (F.TIM_PULSEn_CTL_EN u) = 1) (hhigh : (s.pulse u).high = some f) (hnow : s.reached u f = true)
    (hmode : s.get (F.TIM_PULSEn_CTL_MODE u) = 0) : pulseEdge u s = (s.stopPulse u).event F.TIM_EVT_PULSE_DONE := by
  unfold pulseEdge
  simp [State.flag_true_of_get hen, State.flag_false_of_get hmode, hhigh, hnow]

theorem State.stopPulse_stopped (hu : u < 4) : (s.stopPulse u).get (F.TIM_PULSEn_CTL_EN u) = 0 ∧ (s.stopPulse u).get (F.TIM_PULSEn_CTL_ARMED u) = 0 := by
  have hctl : 0x2080 + 16 * u ≠ 0x2008 := by omega
  have hvote : 0x2080 + 16 * u ≠ 0x1040 + 4 * 13 := by omega
  unfold State.stopPulse
  extract_lets s1 s2 _ s3 ntLeft
  have hstopped : s3.get (F.TIM_PULSEn_CTL_EN u) = 0 ∧ s3.get (F.TIM_PULSEn_CTL_ARMED u) = 0 := by
    simp [s1, s2, s3, State.get_setPulse, State.putFlag, State.get_put_apart, State.get_put_same, hctl, bit]
  split
  · exact hstopped
  · simpa [State.setVote, State.get_put_apart, hvote] using hstopped

end

/-! ## Transmit stamps (R372, R373) -/

section
variable {s : State} {p : Nat}

theorem State.stampQueue_setStampQueue_same (hp : p < s.tim.queues.length) (q : List TxStamp) : (s.setStampQueue p q).stampQueue p = q := by
  simp [State.stampQueue, State.setStampQueue, hp]

theorem State.stampQueue_setStampQueue_other {k : Nat} (h : k ≠ p) (q : List TxStamp) : (s.setStampQueue p q).stampQueue k = s.stampQueue k := by
  simp [State.stampQueue, State.setStampQueue, List.getD_eq_getElem?_getD, List.getElem?_set_ne (Ne.symm h)]

/-- The oldest frame of the port, sent with its stamp. -/
theorem txStampEntry_stamped {f : TxFrame} {rest : List TxFrame} {g : Nat} (hq : s.hif.txq = f :: rest) (hport : f.port = framePort p)
    (htag : f.tag = some g) (hroom : (s.stampQueue p).length < 16) (hon : s.stampsOn p = true) :
    txStampEntry p true s = ({ s with hif := { s.hif with txq := rest } } : State).setStampQueue p
      (s.stampQueue p ++ [⟨g, s.stampFlags false, s.tim.nt / 10 ^ 9, s.tim.nt % 10 ^ 9⟩]) := by
  have hroom' : (State.stampQueue { s with hif := { s.hif with txq := rest } } p).length < 16 := hroom
  simp [txStampEntry, hq, hport, htag, hon, State.addStamp, hroom']
  rfl

/-- The oldest frame of the port, without a tag. -/
theorem txStampEntry_untagged {f : TxFrame} {rest : List TxFrame} (hq : s.hif.txq = f :: rest) (hport : f.port = framePort p)
    (htag : f.tag = none) (sent : Bool) : txStampEntry p sent s
      = (let t : State := { s with hif := { s.hif with txq := rest } }
         if sent then t else t.reason .hif 0x1011) := by
  simp [txStampEntry, hq, hport, htag]

/-- A full stamp queue drops the entry. -/
theorem State.addStamp_full (hfull : 16 ≤ (s.stampQueue p).length) (e : TxStamp) : s.addStamp p e
    = (((s.put (F.TIM_TXTSp_STAT_OVF p) 1).bump (F.TIM_TXTSp_STAT_LOST p)).reason .tim 0x0409).event F.TIM_EVT_TXTS_OVF :=
  if_neg (Nat.not_lt.mpr hfull)

theorem State.addStamp_full_shown (hp : p < 3) (hfull : 16 ≤ (s.stampQueue p).length) (e : TxStamp) :
    (s.addStamp p e).get (F.TIM_TXTSp_STAT_OVF p) = 1 ∧ (s.addStamp p e).get F.TIM_REASON_REASON = 0x0409
      ∧ (s.addStamp p e).get F.TIM_EVT_TXTS_OVF = 1 ∧ (s.addStamp p e).tim = s.tim := by
  have hreason : 0x20C0 + 32 * p ≠ 0x2004 := by omega
  have hevt : 0x20C0 + 32 * p ≠ 0x200C := by omega
  rw [State.addStamp_full hfull]
  refine ⟨?_, ?_, State.get_event_same _ _ (by decide) (by decide), rfl⟩
  · simp [State.event, State.reason, State.bump, State.bumpBy, reasonField, State.get_put_apart, State.get_put_same, hreason, hevt]
  · rw [State.get_event_apart _ _ _ (by decide) (by decide) (by decide)]
    exact State.get_reason_same _ .tim (by decide)

theorem ovfClear_spec (p : Nat) : (ovfClear p s).get (F.TIM_TXTSp_STAT_OVF p) = 0 ∧ (ovfClear p s).get (F.TIM_TXTSp_STAT_LOST p) = 0
    ∧ keepsFields s (ovfClear p s) [F.TIM_TXTSp_STAT_OVF p, F.TIM_TXTSp_STAT_LOST p] ∧ ovfClear p s = { s with regs := (ovfClear p s).regs } := by
  unfold ovfClear
  refine ⟨?_, ?_, (keepsFields_refl s _).put.put, rfl⟩ <;> simp [State.get_put_apart, State.get_put_same]

end

/-! ## O44 -/

/-- Settles O44: a unit by its START and by the edge that is due, a frame by its tag and by the room of its port's stamp queue. -/
theorem pulsesAndTransmitStamps : Obligations.PulsesAndTransmitStamps := by
  unfold Obligations.PulsesAndTransmitStamps
  refine ⟨?arm, ?length, ?rise, ?fall, ?last, ?tagged, ?untagged, fun s p e hfull hp => State.addStamp_full_shown hp hfull e, ?pop,
    fun s p => ⟨_, rfl, ovfClear_spec p.val⟩⟩
  case arm =>
    intro s u htim hen hlen hbase hwidth hperiod d
    have hjudged := pulseArm_judges_start htim hen hbase hwidth hperiod
    refine ⟨fun hlo hhi => ?_, fun hnot => congrArg Host.Outcome.next (hjudged.trans (if_pos hnot))⟩
    have hahead : ¬ (s.startAhead u.val = 0 ∨ 2 ^ 31 ≤ s.startAhead u.val) := by
      change ¬ (d = 0 ∨ 2 ^ 31 ≤ d)
      omega
    exact ⟨_, congrArg Host.Outcome.next (hjudged.trans (if_neg hahead)), State.startPulse_spec u.isLt hlen hbase _ _ _⟩
  case length => exact fun s u htim hen hisland h => congrArg Host.Outcome.next (pulseArm_bad_length htim hen hisland h)
  case rise =>
    intro s u hen hlen hhigh hnow
    have hmem : u.val < s.tim.pulses.length := by omega
    refine ⟨_, congrArg Host.Outcome.next (pulseEdge_rises hen hhigh hnow), ?_, ?_, ?_, State.get_putFlag_same _ _ _ le_rfl (by simp),
      (keepsFields_refl s _).set.putFlag, rfl⟩ <;> exact congrArg _ (State.pulse_setPulse_same hmem _)
  case fall =>
    intro s u f hen hlen hhigh hnow hmode
    have hmem : u.val < s.tim.pulses.length := by omega
    refine ⟨_, congrArg Host.Outcome.next (pulseEdge_falls hen hhigh hnow hmode), ?_, ?_, ?_, State.get_putFlag_same _ _ _ le_rfl (by simp),
      (keepsFields_refl s _).set.putFlag, rfl⟩ <;>
      exact (congrArg _ (State.pulse_setPulse_same hmem _)).trans rfl
  case last =>
    intro s u f hen hhigh hnow hmode
    obtain ⟨hstopped, hunarmed⟩ := State.stopPulse_stopped (s := s) u.isLt
    have hevt : 0x2080 + 16 * u.val ≠ 0x200C := by omega
    have hframe := s.stopPulse_pulseWork u.val
    refine ⟨_, congrArg Host.Outcome.next (pulseEdge_ends hen hhigh hnow hmode), ?_, ?_, State.get_event_same _ _ (by decide) (by decide),
      hframe.trans (by exact rfl)⟩
    · rw [State.get_event_apart _ _ _ le_rfl (by simp) (.inl hevt), hstopped]
    · rw [State.get_event_apart _ _ _ le_rfl (by simp) (.inl hevt), hunarmed]
  case tagged =>
    intro s p f rest g hq hport htag hlen hroom hon
    refine ⟨_, congrArg Host.Outcome.next (txStampEntry_stamped hq hport htag hroom hon), rfl, ?_, rfl⟩
    exact State.stampQueue_setStampQueue_same (s := { s with hif := { s.hif with txq := rest } }) (p.isLt.trans_eq hlen.symm) _
  case untagged =>
    exact fun s p f rest hq hport htag => ⟨congrArg Host.Outcome.next (txStampEntry_untagged hq hport htag true),
      congrArg Host.Outcome.next (txStampEntry_untagged hq hport htag false)⟩
  case pop =>
    intro s p hlen
    exact ⟨_, rfl, State.stampQueue_setStampQueue_same (p.isLt.trans_eq hlen.symm) _,
      fun q hq => State.stampQueue_setStampQueue_other (fun e => hq (Fin.ext e)) _, rfl⟩

end Sys2Proof.Machine
end

section
/-! SUPPORT. STANDBY (R388, R389): how islands are addressed in an entry, how the entry goes on or is given up, and the end of the active pair's drop. -/
namespace Sys2Proof.Machine

open Sys2Proof

-- One declaration after another: checking many at a time takes more memory than the text may use.
set_option Elab.async false

/-! ## An island addressed (R385, R388) -/

/-- `t` is `s` after islands have been addressed: registers, DOZE votes, restores and drops alone change. -/
def State.addressing (s t : State) : Prop :=
  t = { s with regs := t.regs, pwr := { s.pwr with doze := t.pwr.doze, restoring := t.pwr.restoring, dropping := t.pwr.dropping } }

theorem State.addressing.trans {s t u : State} (h : s.addressing t) (h' : t.addressing u) : s.addressing u := by
  unfold State.addressing at *
  rw [h', h]

theorem State.addressing_of_regs {s t : State} (h : t = { s with regs := t.regs }) : s.addressing t := by
  unfold State.addressing
  rw [h]

theorem State.voteless_regsOnly (s : State) (i : Nat) : s.voteless i = { s with regs := (s.voteless i).regs } := by
  unfold State.voteless
  split <;> rfl

theorem State.islandTo_doze (s : State) (i : Nat) : s.islandTo i 1 = s.setIsland i 1 := by simp [State.islandTo]

/-- An island that is up goes to DOZE, its way to NAP begun. -/
theorem State.doze_regsOnly (s : State) (i : Nat) : ((s.islandTo i 1).voteless i).followShared
    = { s with regs := ((s.islandTo i 1).voteless i).followShared.regs } := by
  obtain ⟨hshared, -⟩ := ((s.islandTo i 1).voteless i).followShared_frame
  have hdoze : s.islandTo i 1 = { s with regs := (s.islandTo i 1).regs } := by
    rw [State.islandTo_doze]
    exact s.setIsland_regsOnly i 1
  exact State.regsOnly_trans (State.regsOnly_trans hdoze (State.voteless_regsOnly _ i)) hshared

theorem State.beginDrop_addressing (s : State) (i : Nat) : s.addressing (s.beginDrop i) := by
  unfold State.beginDrop
  extract_lets p1 s1 p2 s2
  split
  · exact rfl
  · exact State.addressing.trans (t := s2) (by exact rfl) (State.addressing_of_regs (s2.doze_regsOnly i))

theorem State.settle_addressing (s : State) (i : Nat) : s.addressing (s.settle i) := by
  unfold State.settle
  split_ifs
  · exact rfl
  · exact State.addressing_of_regs s.followShared_frame.1
  · exact rfl
  · exact s.beginDrop_addressing i
  · refine State.addressing_of_regs (State.regsOnly_trans ?_ (State.followShared_frame _).1)
    rw [State.islandTo_doze]
    exact s.setIsland_regsOnly i 1
  · exact rfl

theorem State.clientsWithdraw_addressing (s : State) (i : Nat) : s.addressing (s.clientsWithdraw i) :=
  State.addressing.trans (by exact rfl) (State.settle_addressing _ i)

/-- What holds an island does not change while islands are addressed. -/
theorem State.addressing.held {s t : State} (h : s.addressing t) (i : Nat) : t.held i = s.held i := by
  unfold State.addressing at h
  rw [h]
  rfl

/-! What an island shows once it is addressed, and what the others keep. -/

theorem State.votes_of_keepsRegs {s t : State} {l : List Nat} (h : keepsRegs s t l) {i : Nat} (hi : 0x1040 + 4 * i ∉ l) : t.votes i = s.votes i :=
  State.votes_of_reg (h _ hi)

theorem votes_not_islandRegs {i : Nat} (hi : i < 15) : 0x1040 + 4 * i ∉ islandRegs := by
  simp only [islandRegs, List.mem_cons, List.not_mem_nil, or_false, not_or]
  exact ⟨by change 0x1040 + 4 * i ≠ 0x1014; omega, by change 0x1040 + 4 * i ≠ 0x4008; omega⟩

theorem State.island_of_reg {s t : State} (h : t.reg R.PWR_ISL_STATE = s.reg R.PWR_ISL_STATE) (i : Nat) : t.island i = s.island i := by
  rw [State.island, State.island, h]

theorem State.voteless_island (s : State) (i j : Nat) : (s.voteless i).island j = s.island j := by
  refine State.island_of_reg ?_ j
  unfold State.voteless
  split
  · exact (keepsRegs_refl s [R.RF_STAT]).putFlag (by decide) |>.putFlag (by decide) |>.put (by decide) |> fun h => h _ (by decide)
  · rfl

theorem State.doze_island (s : State) {i : Nat} (hi : 1 ≤ i) (hi' : i < 15) (h7 : i ≠ 7) : ((s.islandTo i 1).voteless i).followShared.island i = 1 := by
  rw [(State.followShared_frame _).2.2 i hi' h7, State.voteless_island, State.islandTo_doze, State.island_setIsland_same _ hi hi']

theorem State.doze_island_other (s : State) {i j : Nat} (hj : j < 15) (hij : j ≠ i) (h7 : j ≠ 7) :
    ((s.islandTo i 1).voteless i).followShared.island j = s.island j := by
  rw [(State.followShared_frame _).2.2 j hj h7, State.voteless_island, State.islandTo_doze, State.island_setIsland_other _ hj hij]

theorem State.beginDrop_island (s : State) {i : Nat} (hi : 1 ≤ i) (hi' : i < 15) (h7 : i ≠ 7) (hup : s.island i ≠ 0) :
    (s.beginDrop i).island i = 1 ∨ s.dropMt i ≠ none := by
  unfold State.beginDrop
  extract_lets p1 s1 p2 s2
  by_cases hdrop : s.dropMt i = none
  · have hgo : ¬ (decide (s1.island i = 0) || (s1.dropMt i).isSome) = true := by
      have hs1 : s1.dropMt i = none := hdrop
      have hup1 : s1.island i ≠ 0 := hup
      simp [hs1, hup1]
    rw [if_neg hgo]
    exact .inl (s2.doze_island hi hi' h7)
  · exact .inr hdrop

theorem State.beginDrop_other (s : State) {i j : Nat} (hj : j < 15) (hij : j ≠ i) (h7 : j ≠ 7) :
    (s.beginDrop i).island j = s.island j ∧ (s.beginDrop i).dropMt j = s.dropMt j := by
  unfold State.beginDrop
  extract_lets p1 s1 p2 s2
  split
  · exact ⟨rfl, rfl⟩
  · refine ⟨s2.doze_island_other hj hij h7, ?_⟩
    simp [State.dropMt, s2, p2, s1, p1, List.find?_append, Ne.symm hij]

/-- An island without a vote that nothing holds is settled towards NAP. -/
theorem State.settle_unvoted {s : State} {i : Nat} (hi : 1 ≤ i) (h7 : i ≠ 7) (hheld : s.held i = false) (hvotes : s.votes i = 0) :
    s.settle i = if s.islandFailed i then s else s.beginDrop i := by
  unfold State.settle
  by_cases hfail : s.islandFailed i = true
  · simp [hfail]
  · simp [hfail, h7, hheld, hvotes, Nat.ne_of_gt hi]

/-- The votes of clients 0 to 3 withdrawn. -/
def State.clientsOff (s : State) (i : Nat) : State :=
  ({ s with pwr := { s.pwr with doze := s.pwr.doze.filter (fun d => d.2 != i || decide (4 ≤ d.1)) } }).put (F.PWR_VOTEn_CLIENTS i) (s.votes i &&& 0x1F0)

theorem State.clientsWithdraw_unheld {s : State} {i : Nat} (hheld : s.held i = false) : s.clientsWithdraw i = (s.clientsOff i).settle i := by
  unfold State.clientsWithdraw
  simp only [hheld, Bool.false_eq_true, if_false]
  rfl

theorem votes_without_clients {v : Nat} (h : v < 8) : v &&& 0x1F0 = 0 := by
  interval_cases v <;> rfl

theorem State.clientsOff_votes {s : State} {i : Nat} (hvotes : s.votes i < 8) : (s.clientsOff i).votes i = 0 := by
  rw [State.clientsOff, votes_without_clients hvotes]
  exact State.get_put_same _ _ _ (Nat.zero_le _) (by simp)

theorem State.clientsOff_keeps (s : State) (i : Nat) : keepsRegs s (s.clientsOff i) [0x1040 + 4 * i] := (keepsRegs_refl s _).set.put

/-- An island of no more than the votes of clients 0 to 2, addressed: no vote is left on it, and it is on its way to NAP. -/
theorem State.clientsWithdraw_spec {s : State} {i : Nat} (hi : 1 ≤ i) (hi' : i < 15) (h7 : i ≠ 7) (hheld : s.held i = false) (hvotes : s.votes i < 8) :
    (s.clientsWithdraw i).votes i = 0
    ∧ (s.islandFailed i = false → s.island i ≠ 0 → (s.clientsWithdraw i).island i = 1 ∨ s.dropMt i ≠ none)
    ∧ ∀ j, j < 15 → j ≠ i → j ≠ 7 → (s.clientsWithdraw i).votes j = s.votes j ∧ (s.clientsWithdraw i).island j = s.island j
      ∧ (s.clientsWithdraw i).dropMt j = s.dropMt j := by
  have hoff := State.clientsOff_votes hvotes
  have hkeeps := s.clientsOff_keeps i
  have hislands : ∀ j, (s.clientsOff i).island j = s.island j := State.island_of_reg (hkeeps _ (by simp [R.PWR_ISL_STATE]; omega))
  have hfailed : (s.clientsOff i).islandFailed i = s.islandFailed i := by rw [State.islandFailed, hislands, State.islandFailed]
  have hsettle := State.settle_unvoted (s := s.clientsOff i) hi h7 hheld hoff
  rw [State.clientsWithdraw_unheld hheld]
  refine ⟨?_, fun hfail hup => ?_, fun j hj hij hj7 => ⟨?_, ?_⟩⟩
  · exact (State.votes_of_keepsRegs (State.settle_keeps _ i) (votes_not_islandRegs hi')).trans hoff
  · rw [hsettle, hfailed, hfail]
    exact (s.clientsOff i).beginDrop_island hi hi' h7 (by rwa [hislands])
  · exact (State.votes_of_keepsRegs (State.settle_keeps _ i) (votes_not_islandRegs hj)).trans
      (State.votes_of_keepsRegs hkeeps (by simp; omega))
  · rw [hsettle]
    split
    · exact ⟨hislands j, rfl⟩
    · obtain ⟨hisland, hdrop⟩ := (s.clientsOff i).beginDrop_other hj hij hj7
      exact ⟨hisland.trans (hislands j), hdrop⟩

/-! ## Islands addressed in order (R388) -/

theorem State.refuser_of_votes {s : State} {i : Nat} (h : s.votes i < 16) : s.refuser i = none := by
  have hbit : ∀ c, 4 ≤ c → Nat.testBit (s.votes i) c = false := fun c hc =>
    Nat.testBit_lt_two_pow (h.trans_le (Nat.pow_le_pow_right (n := 2) (by decide) hc))
  simp [State.refuser, hbit]

theorem entryWalk_cons_of_votes {i : Nat} {is : List Nat} {s : State} (h : (s.clientsWithdraw i).votes i = 0) :
    entryWalk (i :: is) s = entryWalk is (s.clientsWithdraw i) := by
  rw [entryWalk, State.refuser_of_votes (by omega)]

/-- Islands without a refusing vote, addressed one after another. -/
theorem entryWalk_spec {l : List Nat} (hnodup : l.Nodup) {s : State} (hrange : ∀ i ∈ l, 1 ≤ i ∧ i < 15 ∧ i ≠ 7) (hheld : ∀ i ∈ l, s.held i = false)
    (hvotes : ∀ i ∈ l, s.votes i < 8) : s.addressing (entryWalk l s)
      ∧ (∀ i ∈ l, (entryWalk l s).votes i = 0
        ∧ (s.islandFailed i = false → s.island i ≠ 0 → (entryWalk l s).island i = 1 ∨ s.dropMt i ≠ none))
      ∧ ∀ j, j < 15 → j ∉ l → j ≠ 7 → (entryWalk l s).votes j = s.votes j ∧ (entryWalk l s).island j = s.island j := by
  induction l generalizing s with
  | nil => exact ⟨rfl, by simp, fun j _ _ _ => ⟨rfl, rfl⟩⟩
  | cons i is ih =>
    obtain ⟨hnot, hnodup'⟩ := List.nodup_cons.mp hnodup
    obtain ⟨hi, hi', h7⟩ := hrange i List.mem_cons_self
    obtain ⟨hoff, hisland, hother⟩ := State.clientsWithdraw_spec hi hi' h7 (hheld i List.mem_cons_self) (hvotes i List.mem_cons_self)
    have hframe := s.clientsWithdraw_addressing i
    have hne : ∀ j ∈ is, j ≠ i := fun j hj e => hnot (e ▸ hj)
    have hstep : ∀ j ∈ is, (s.clientsWithdraw i).votes j = s.votes j ∧ (s.clientsWithdraw i).island j = s.island j
        ∧ (s.clientsWithdraw i).dropMt j = s.dropMt j := fun j hj =>
      hother j (hrange j (List.mem_cons_of_mem _ hj)).2.1 (hne j hj) (hrange j (List.mem_cons_of_mem _ hj)).2.2
    obtain ⟨hrest, hin, hout⟩ := ih hnodup' (s := s.clientsWithdraw i) (fun j hj => hrange j (List.mem_cons_of_mem _ hj))
      (fun j hj => (hframe.held j).trans (hheld j (List.mem_cons_of_mem _ hj)))
      (fun j hj => by
        rw [(hstep j hj).1]
        exact hvotes j (List.mem_cons_of_mem _ hj))
    rw [entryWalk_cons_of_votes hoff]
    refine ⟨hframe.trans hrest, fun j hj => ?_, fun j hj hnj hj7 => ?_⟩
    · obtain rfl | hj := List.mem_cons.mp hj
      · obtain ⟨hv, hs⟩ := hout j hi' hnot h7
        rw [hv, hs]
        exact ⟨hoff, hisland⟩
      · obtain ⟨-, hs, hd⟩ := hstep j hj
        rw [← hs, ← hd, State.islandFailed, ← hs, ← State.islandFailed]
        exact hin j hj
    · obtain ⟨hji, hjis⟩ := not_or.mp (List.mem_cons.not.mp hnj)
      obtain ⟨hv, hs⟩ := hout j hj hjis hj7
      obtain ⟨hv', hs', -⟩ := hother j hj hji hj7
      exact ⟨hv.trans hv', hs.trans hs'⟩

/-- One more island addressed. -/
theorem entryWalk_one {i : Nat} {s : State} (hi : 1 ≤ i) (hi' : i < 15) (h7 : i ≠ 7) (hheld : s.held i = false) (hvotes : s.votes i < 8) :
    s.addressing (entryWalk [i] s) ∧ (entryWalk [i] s).votes i = 0 := by
  obtain ⟨hoff, -, -⟩ := State.clientsWithdraw_spec hi hi' h7 hheld hvotes
  rw [entryWalk_cons_of_votes hoff]
  exact ⟨s.clientsWithdraw_addressing i, hoff⟩

/-! ## STANDBY_ENTRY (R388) -/

/-- The state in which the first islands are addressed: the status copy is written and the entry has begun. -/
def State.entryBegun (s : State) : State := { s.statusCopy with pwr := { s.statusCopy.pwr with entry := some ⟨s.mt, 0⟩ } }

theorem standbyEntry_begins {s : State} (hphase : s.phase = 0xA) (hstandby : s.pwr.standby = false) (hentry : s.pwr.entry = none)
    (hwork : s.atWork = false) (hupd : s.updBusy = false) (hidle : s.pwr.idleSince + 1000 * s.setting 0x0301 1000 ≤ s.mt)
    (hask : s.pwr.askAgain ≤ s.mt) : standbyEntry s = entryWalk firstIslands s.entryBegun := by
  unfold standbyEntry
  simp only [hphase, hstandby, hentry, hwork, hupd, hidle, Nat.not_lt.mpr hask, ne_eq, not_true_eq_false, decide_false, decide_true,
    Option.isSome_none, Bool.not_true, Bool.or_self, Bool.false_eq_true, if_false]
  rfl

theorem standbyEntry_forbidden {s : State} (h : s.phase ≠ 0xA ∨ s.pwr.standby = true ∨ s.pwr.entry.isSome = true ∨ s.atWork = true
    ∨ s.updBusy = true ∨ s.mt < s.pwr.askAgain ∨ s.mt < s.pwr.idleSince + 1000 * s.setting 0x0301 1000) : standbyEntry s = s := by
  refine if_pos ?_
  obtain h | h | h | h | h | h | h := h <;> simp [h, Nat.not_le.mpr]

theorem State.entryBegun_facts (s : State) : s.entryBegun.regs = s.regs ∧ (∀ i, s.entryBegun.held i = s.held i)
    ∧ (∀ i, s.entryBegun.dropMt i = s.dropMt i) ∧ s.entryBegun.pwr = { s.pwr with entry := some ⟨s.mt, 0⟩ }
    ∧ s.entryBegun.fuses = s.fuses ∧ s.entryBegun.vault = s.vault ∧ s.entryBegun.keys = s.keys ∧ s.entryBegun.sys = s.sys := by
  have hpwr : s.statusCopy.pwr = s.pwr := s.statusCopy_pwr
  refine ⟨s.statusCopy_regs, fun i => ?_, fun i => ?_, ?_, s.statusCopy_fuses, s.statusCopy_vault, s.statusCopy_keys, s.statusCopy_sys⟩
  · simp [State.held, State.tile, State.entryBegun]
  · simp [State.dropMt, State.entryBegun]
  · rw [State.entryBegun, hpwr]

theorem standbyEntry_spec {s : State} (hphase : s.phase = 0xA) (hstandby : s.pwr.standby = false) (hentry : s.pwr.entry = none)
    (hwork : s.atWork = false) (hupd : s.updBusy = false) (hidle : s.pwr.idleSince + 1000 * s.setting 0x0301 1000 ≤ s.mt)
    (hask : s.pwr.askAgain ≤ s.mt) (hheld : ∀ i, s.held i = false) (hvotes : ∀ i, i < 15 → s.votes i < 8) :
    completes .standbyEntry s (fun t => t.pwr.standby = false ∧ t.pwr.entry = some ⟨s.mt, 0⟩
        ∧ (∀ i ∈ [3, 4, 5, 6, 12, 9, 10], t.votes i = 0
            ∧ (s.islandFailed i = false → s.island i ≠ 0 → t.island i = 1 ∨ s.dropMt i ≠ none))
        ∧ (∀ i ∈ [1, 2, 8, 11, 13, 14], t.votes i = s.votes i ∧ t.island i = s.island i)
        ∧ t.fuses = s.fuses ∧ t.vault = s.vault ∧ t.keys = s.keys ∧ t.sys = s.sys) := by
  obtain ⟨hregs, hheld', hdrop, hpwr, hfuses, hvault, hkeys, hsys⟩ := s.entryBegun_facts
  have hv : ∀ i, s.entryBegun.votes i = s.votes i := State.votes_of_regs hregs
  have hi : ∀ i, s.entryBegun.island i = s.island i := State.island_of_reg (State.reg_of_regs hregs _)
  have hrange : ∀ i ∈ firstIslands, 1 ≤ i ∧ i < 15 ∧ i ≠ 7 := by decide
  obtain ⟨hframe, hin, hout⟩ := entryWalk_spec (l := firstIslands) (by decide) (s := s.entryBegun) hrange
    (fun i _ => (hheld' i).trans (hheld i)) (fun i hmem => (hv i).trans_lt (hvotes i (hrange i hmem).2.1))
  unfold State.addressing at hframe
  refine ⟨_, congrArg Host.Outcome.next (standbyEntry_begins hphase hstandby hentry hwork hupd hidle hask), ?_, ?_, fun i hmem => ?_,
    fun i hmem => ?_, ?_, ?_, ?_, ?_⟩
  · rw [hframe, hpwr]
    exact hstandby
  · rw [hframe, hpwr]
  · have h := hin i hmem
    rwa [State.islandFailed, hi, hdrop, ← State.islandFailed] at h
  · have hother : ∀ i ∈ [1, 2, 8, 11, 13, 14], i < 15 ∧ i ∉ firstIslands ∧ i ≠ 7 := by decide
    obtain ⟨hlt, hnot, h7⟩ := hother i hmem
    obtain ⟨hvote, hisland⟩ := hout i hlt hnot h7
    exact ⟨hvote.trans (hv i), hisland.trans (hi i)⟩
  · rw [hframe]
    exact hfuses
  · rw [hframe]
    exact hvault
  · rw [hframe]
    exact hkeys
  · rw [hframe]
    exact hsys

/-! ## The entry goes on (R388) -/

theorem State.dueEntry_of_work {s : State} {e : StbyEntry} (hentry : s.pwr.entry = some e) (hwork : s.atWork = true) :
    s.dueEntry = s.endEntry := by
  simp [State.dueEntry, hentry, hwork]

/-- The state in which the next island is addressed. -/
def State.entryAt (s : State) (e : StbyEntry) : State := { s with pwr := { s.pwr with entry := some e } }

theorem State.dueEntry_next {s : State} {e : StbyEntry} {i : Nat} (hentry : s.pwr.entry = some e) (hwork : s.atWork = false) (hpos : e.pos < 5)
    (hnext : s.laterIslands[e.pos]? = some i) (hdue : e.startMt + 10 * (e.pos + 1) ≤ s.mt) :
    s.dueEntry = entryWalk [i] (s.entryAt { e with pos := e.pos + 1 }) := by
  unfold State.dueEntry
  simp only [hentry, hwork, Bool.false_eq_true, if_false, hnext]
  rw [if_neg (by simp; omega)]
  rfl

theorem State.laterIslands_range {s : State} {i : Nat} (h : i ∈ s.laterIslands) : 1 ≤ i ∧ i < 15 ∧ i ≠ 7 := by
  have hpair := s.activePair_lt
  simp only [State.laterIslands, State.standbyIsland, List.mem_cons, List.not_mem_nil, or_false] at h
  omega

theorem State.dueEntry_next_spec {s : State} {e : StbyEntry} {i : Nat} (hentry : s.pwr.entry = some e) (hwork : s.atWork = false)
    (hpos : e.pos < 5) (hnext : s.laterIslands[e.pos]? = some i) (hdue : e.startMt + 10 * (e.pos + 1) ≤ s.mt) (hheld : s.held i = false)
    (hvotes : s.votes i < 8) : s.dueEntry.votes i = 0 ∧ s.dueEntry.pwr.entry = some ⟨e.startMt, e.pos + 1⟩ ∧ s.dueEntry.fuses = s.fuses
      ∧ s.dueEntry.vault = s.vault := by
  obtain ⟨hi, hi', h7⟩ := State.laterIslands_range (List.mem_of_getElem? hnext)
  obtain ⟨hframe, hoff⟩ := entryWalk_one (s := s.entryAt { e with pos := e.pos + 1 }) hi hi' h7 hheld hvotes
  unfold State.addressing at hframe
  rw [State.dueEntry_next hentry hwork hpos hnext hdue]
  refine ⟨hoff, ?_, ?_, ?_⟩
  · rw [hframe]
    rfl
  · rw [hframe]
    rfl
  · rw [hframe]
    rfl

/-- Once only the active pair's vote remains, the active pair is addressed. -/
theorem State.dueEntry_last {s : State} {e : StbyEntry} (hentry : s.pwr.entry = some e) (hwork : s.atWork = false) (hpos : e.pos = 5)
    (hdue : e.startMt + 60 ≤ s.mt) (hheld : ∀ i, s.held i = false) (hvotes : ∀ i, i < 15 → i ≠ 1 + s.activePair → s.votes i = 0)
    (hpair : s.votes (1 + s.activePair) < 8) : s.dueEntry = (s.entryAt { e with pos := 6 }).clientsWithdraw (1 + s.activePair) := by
  have hlt := s.activePair_lt
  have hfirst : ∀ i ∈ firstIslands, i < 15 ∧ 2 < i := by decide
  have hnone : (firstIslands ++ s.laterIslands).any (fun i => decide (s.votes i ≠ 0) || s.held i) = false := by
    rw [List.any_eq_false]
    intro i hmem
    have hi : i < 15 ∧ i ≠ 1 + s.activePair := by
      obtain hmem | hmem := List.mem_append.mp hmem
      · have := hfirst i hmem
        omega
      · simp only [State.laterIslands, State.standbyIsland, List.mem_cons, List.not_mem_nil, or_false] at hmem
        omega
    simp [hvotes i hi.1 hi.2, hheld]
  have hend : s.laterIslands[e.pos]? = none := by rw [hpos]; rfl
  have hgo : ¬ (decide (6 ≤ e.pos) || decide (s.mt < e.startMt + 10 * (e.pos + 1))) = true := by simp; omega
  unfold State.dueEntry
  simp only [hentry, hwork, Bool.false_eq_true, if_false, if_neg hgo, hend]
  have halone : ¬ ((firstIslands ++ s.laterIslands).any (fun i => decide (s.votes i ≠ 0) || s.held i) || s.held (1 + s.activePair)) = true := by
    rw [hnone, hheld]
    decide
  unfold State.finishEntry
  dsimp only
  rw [if_neg halone, State.refuser_of_votes (hpair.trans (by decide))]
  rfl

theorem State.dueEntry_last_spec {s : State} {e : StbyEntry} (hentry : s.pwr.entry = some e) (hwork : s.atWork = false) (hpos : e.pos = 5)
    (hdue : e.startMt + 60 ≤ s.mt) (hheld : ∀ i, s.held i = false) (hvotes : ∀ i, i < 15 → i ≠ 1 + s.activePair → s.votes i = 0)
    (hpair : s.votes (1 + s.activePair) < 8) :
    s.dueEntry.votes (1 + s.activePair) = 0 ∧ s.dueEntry.pwr.entry = some ⟨e.startMt, 6⟩ := by
  have hlt := s.activePair_lt
  have hframe := (s.entryAt { e with pos := 6 }).clientsWithdraw_addressing (1 + s.activePair)
  unfold State.addressing at hframe
  obtain ⟨hoff, -, -⟩ := State.clientsWithdraw_spec (s := s.entryAt { e with pos := 6 }) (i := 1 + s.activePair) (by omega) (by omega) (by omega)
    (hheld _) hpair
  rw [State.dueEntry_last hentry hwork hpos hdue hheld hvotes hpair]
  refine ⟨hoff, ?_⟩
  rw [hframe]
  rfl

/-! ## The active pair is down (R388) -/

/-- An island in NAP, its drop over. -/
def State.napped (s : State) (i : Nat) : State :=
  if (s.dropOver i).islandFailed i then s.dropOver i else ((s.dropOver i).islandTo i 0).followShared

theorem State.napped_frame (s : State) (i : Nat) : keepsRegs s (s.napped i) islandRegs ∧ (s.napped i).pwr = (s.dropOver i).pwr
    ∧ (s.napped i).net = s.net ∧ (s.napped i).rel = s.rel := by
  unfold State.napped
  split
  · exact ⟨keepsRegs_refl s _, rfl, rfl, rfl⟩
  · refine ⟨((s.dropOver i).islandTo_keeps i 0).trans (State.followShared_keeps _), ?_, ?_, ?_⟩
    · simp
    · simp [State.dropOver]
    · simp [State.dropOver]

theorem State.held_of_net {s t : State} (hnet : t.net = s.net) (htransfers : t.pwr.transfers = s.pwr.transfers) (hrel : t.rel = s.rel) (i : Nat) :
    t.held i = s.held i := by
  simp only [State.held, State.tile, hnet, htransfers, hrel]

theorem State.dropped_last {s : State} {e : StbyEntry} (hentry : s.pwr.entry = some e) (hpos : e.pos = 6) (hvotes : s.votes (1 + s.activePair) = 0)
    (hheld : s.held (1 + s.activePair) = false) : s.dropped (1 + s.activePair)
      = (let t := s.napped (1 + s.activePair)
         (({ t with pwr := { t.pwr with entry := none, standby := true, standbyMt := t.mt } }).setReg R.PWR_STBY_LAST 0).bump F.PWR_STBY_CNT_ENTERED) := by
  have hlt := s.activePair_lt
  obtain ⟨hkeeps, hpwr, hnet, hrel⟩ := s.napped_frame (1 + s.activePair)
  have hvotes' : (s.napped (1 + s.activePair)).votes (1 + s.activePair) = 0 :=
    (State.votes_of_keepsRegs hkeeps (votes_not_islandRegs (by omega))).trans hvotes
  have hheld' : (s.napped (1 + s.activePair)).held (1 + s.activePair) = false :=
    (State.held_of_net hnet (by rw [hpwr]; rfl) hrel _).trans hheld
  have hactive : (s.napped (1 + s.activePair)).activePair = s.activePair := by
    rw [State.activePair, State.get, hkeeps _ (by decide)]
    rfl
  have hentry' : (s.napped (1 + s.activePair)).pwr.entry = some e := by
    rw [hpwr]
    exact hentry
  have hdropped : s.dropped (1 + s.activePair) = (let i := 1 + s.activePair
      let s2 := s.napped i
      if s2.votes i ≠ 0 || s2.held i then s2.beginRestore i
      else if i = 1 + s2.activePair && (match s2.pwr.entry with | some e => decide (6 ≤ e.pos) | none => false) then
        (({ s2 with pwr := { s2.pwr with entry := none, standby := true, standbyMt := s2.mt } }).setReg R.PWR_STBY_LAST 0).bump
          F.PWR_STBY_CNT_ENTERED
      else s2) := rfl
  rw [hdropped]
  simp only [hvotes', hheld', hactive, hentry', hpos, ne_eq, not_true_eq_false, decide_false, Bool.or_self, Bool.false_eq_true, if_false,
    decide_true, le_refl, Bool.and_self, if_true]

theorem State.dropped_last_spec {s : State} {e : StbyEntry} (hentry : s.pwr.entry = some e) (hpos : e.pos = 6)
    (hvotes : s.votes (1 + s.activePair) = 0) (hheld : s.held (1 + s.activePair) = false) :
    (s.dropped (1 + s.activePair)).pwr.standby = true ∧ (s.dropped (1 + s.activePair)).pwr.entry = none
      ∧ (s.dropped (1 + s.activePair)).reg R.PWR_STBY_LAST = 0 := by
  rw [State.dropped_last hentry hpos hvotes hheld]
  refine ⟨rfl, rfl, ?_⟩
  rw [State.bump, State.bumpBy, State.reg_put_other _ (by decide), State.reg_setReg_same]
  rfl

/-! ## The entry is given up (R388, R389) -/

theorem State.abandonEntry_shown (s : State) {code i c : Nat} (hcode : code < 2 ^ 16) (hi : i < 15) (hc : c < 16) :
    (s.abandonEntry code i c).pwr.entry = none
        ∧ (s.abandonEntry code i c).get F.PWR_STBY_LAST_REASON = code ∧ (s.abandonEntry code i c).get F.PWR_STBY_LAST_ISLAND = i
        ∧ (s.abandonEntry code i c).get F.PWR_STBY_LAST_CLIENT = c ∧ (s.abandonEntry code i c).get F.PWR_EVT_STBY_ABORT = 1
        ∧ (s.abandonEntry code i c).get F.PWR_REASON_REASON = code := by
  have hlast : (s.abandonEntry code i c).reg R.PWR_STBY_LAST = code * 0x10000 + i * 0x1000 + c * 0x100 := by
    rw [State.abandonEntry, State.reason, State.reg_put_other _ (by decide), State.event, State.reg_put_other _ (by decide), State.bump,
      State.bumpBy, State.reg_put_other _ (by decide), State.reg_setReg_same]
    omega
  refine ⟨rfl, ?_, ?_, ?_, ?_, State.get_reason_same _ .pwr hcode⟩
  · rw [State.get, hlast]
    simp only [bits, Nat.reduceAdd, Nat.reduceSub, Nat.reducePow]
    omega
  · rw [State.get, hlast]
    simp only [bits, Nat.reduceAdd, Nat.reduceSub, Nat.reducePow]
    omega
  · rw [State.get, hlast]
    simp only [bits, Nat.reduceAdd, Nat.reduceSub, Nat.reducePow]
    omega
  · rw [State.abandonEntry, State.get_reason_apart _ _ _ _ (by decide) (by decide)]
    exact State.get_event_same _ _ (by decide) (by decide)

theorem State.voteInEntry_of_refuser {s : State} {e : StbyEntry} {c i : Nat} (hentry : s.pwr.entry = some e) (hc : 4 ≤ c)
    (h : i ∈ firstIslands ∨ i ∈ s.laterIslands.take e.pos ∨ e.pos = 6) : s.voteInEntry c i = s.abandonEntry 0x0301 i c := by
  have haddressed : ((firstIslands ++ s.laterIslands.take e.pos).contains i || decide (5 < e.pos)) = true := by
    obtain h | h | h := h <;> simp [h]
  simp only [State.voteInEntry, hentry, haddressed, hc, decide_true, Bool.and_self, if_true]
  rw [if_neg (by omega)]

theorem State.voteInEntry_of_work {s : State} {e : StbyEntry} {c : Nat} (hentry : s.pwr.entry = some e) (hc : c ≤ 2) (i : Nat) :
    s.voteInEntry c i = s.endEntry := by
  simp [State.voteInEntry, hentry, hc]

theorem stbyWaitTimeout_held {s : State} {e : StbyEntry} {i : Nat} (hentry : s.pwr.entry = some e)
    (hdue : e.startMt + 1000 * s.setting 0x0302 10 ≤ s.mt)
    (hheld : (firstIslands ++ s.laterIslands ++ [1 + s.activePair]).find? s.held = some i) : stbyWaitTimeout s = s.abandonEntry 0x0302 i 3 := by
  unfold stbyWaitTimeout
  simp only [hentry, hheld]
  rw [if_neg (Nat.not_lt.mpr hdue)]

/-! ## O46 -/

/-- Settles O46: an entry island by island, each addressed by `State.clientsWithdraw`, to the active pair's drop or to what gives it up. -/
theorem standbyIsEnteredOrAbandoned : Obligations.StandbyIsEnteredOrAbandoned := by
  unfold Obligations.StandbyIsEnteredOrAbandoned
  refine ⟨fun s => standbyEntry_spec, fun s e i => State.dueEntry_next_spec, fun s e => State.dueEntry_last_spec, fun s e => State.dropped_last_spec,
    fun s e => State.dueEntry_of_work, fun s h => congrArg Host.Outcome.next (standbyEntry_forbidden h),
    fun s code i c => s.abandonEntry_shown, fun s e c i hentry hc => State.voteInEntry_of_work hentry hc i,
    fun s e c i => State.voteInEntry_of_refuser, fun s e i hentry hdue hheld => congrArg Host.Outcome.next (stbyWaitTimeout_held hentry hdue hheld),
    fun s hentry => ?_⟩
  refine congrArg Host.Outcome.next ?_
  simp [stbyWaitTimeout, hentry]

end Sys2Proof.Machine
end

section
/-! SUPPORT. The field side of the tag (R343 to R347, R351): how a command frame is judged before its command runs, and what each command
answers under the access rights of the tag's state. -/
namespace Sys2Proof.Machine

open Sys2Proof

-- One declaration after another: checking many at a time takes more memory than the text may use.
set_option Elab.async false

/-! ## The frame -/

/-- The tag with a frame's field level sampled and the memory owned until its answer is out. -/
def State.tagSampled (s : State) (fl micros : Nat) : State :=
  { s with tag := { s.tag with level := fl, ownEnd := s.mt + micros } }

/-- The selected tag hears a frame at a field level. -/
structure State.tagHears (s : State) (fl : Nat) : Prop where
  field : s.tag.field = true
  selected : s.tag.selected = true
  powered : s.tagPowered fl = true
  mode : s.tag.tagMode = true

section
variable {s : State} {fl : Nat} (n micros : Nat) (args : Bytes) {authEnd writes : Bool} {run : State → State}

theorem State.tagFrame_heard (h : s.tagHears fl) :
    s.tagFrame fl n micros args authEnd writes run
      = if writes && s.tagWeak fl then ((s.tagSampled fl micros).bump F.NFC_TAG_CNT_WEAK).tagAnswer 0x03 []
        else if s.tag.app == .keyWait && !authEnd then
          { s.tagSampled fl micros with tag := { (s.tagSampled fl micros).tag with app := .opened, rc := [], tc := [] } }.tagAnswer 0x05 []
        else if args.length ≠ n then (s.tagSampled fl micros).tagAnswer 0x07 []
        else run (s.tagSampled fl micros) := by
  obtain ⟨hfield, hselected, hpowered, hmode⟩ := h
  rw [State.tagFrame, if_neg (by simp [hfield, hselected, hpowered, hmode])]
  rfl

/-- R347: a field too weak for a command that writes. -/
theorem State.tagFrame_weak (h : s.tagHears fl) (hw : s.tagWeak fl = true) :
    s.tagFrame fl n micros args authEnd true run = ((s.tagSampled fl micros).bump F.NFC_TAG_CNT_WEAK).tagAnswer 0x03 [] := by
  rw [State.tagFrame_heard n micros args h, if_pos (by simp [hw])]

/-- KEY_WAIT refuses every command but AUTH_END. -/
theorem State.tagFrame_keyWait (h : s.tagHears fl) (ha : s.tag.app = .keyWait) :
    s.tagFrame fl n micros args false false run
      = { s.tagSampled fl micros with tag := { (s.tagSampled fl micros).tag with app := .opened, rc := [], tc := [] } }.tagAnswer 0x05 [] := by
  rw [State.tagFrame_heard n micros args h, if_neg (by simp), if_pos (by simp [ha])]

theorem State.tagFrame_misfit (h : s.tagHears fl) (ha : s.tag.app ≠ .keyWait) (hn : args.length ≠ n) :
    s.tagFrame fl n micros args authEnd false run = (s.tagSampled fl micros).tagAnswer 0x07 [] := by
  rw [State.tagFrame_heard n micros args h, if_neg (by simp), if_neg (by simp [ha]), if_pos hn]

/-- A frame of the right length, in a field that suffices, outside KEY_WAIT or ending it. -/
theorem State.tagFrame_runs (h : s.tagHears fl) (hw : (writes && s.tagWeak fl) = false) (ha : s.tag.app ≠ .keyWait ∨ authEnd = true)
    (hn : args.length = n) : s.tagFrame fl n micros args authEnd writes run = run (s.tagSampled fl micros) := by
  have hkey : (s.tag.app == TagApp.keyWait && !authEnd) = false := by
    obtain ha | ha := ha <;> simp [ha]
  rw [State.tagFrame_heard n micros args h, if_neg (by simp [hw]), if_neg (by simp [hkey]), if_neg (by simp [hn])]

end

/-! ## The commands that read and write (Table 12-6) -/

section
variable {s : State} {args : Bytes}

theorem tagFieldRead_granted (h1 : 1 ≤ le args 2 1) (h15 : le args 2 1 ≤ 15) (hfit : le args 0 2 + le args 2 1 ≤ 512)
    (hread : ∀ i < le args 2 1, s.tag.fieldRead (le args 0 2 + i) = true) (hres : s.tag.reserved s.mt = false) :
    tagFieldRead args s = s.tagAnswer 0x00 (s.tag.blocks (le args 0 2) (le args 2 1)) := by
  unfold tagFieldRead
  rw [if_neg (by simp; omega), if_neg (by simpa using hread), if_neg (by simp [hres])]

theorem tagFieldRead_denied (h1 : 1 ≤ le args 2 1) (h15 : le args 2 1 ≤ 15) (hfit : le args 0 2 + le args 2 1 ≤ 512)
    (hread : ∃ i < le args 2 1, s.tag.fieldRead (le args 0 2 + i) = false) : tagFieldRead args s = s.tagAnswer 0x02 [] := by
  unfold tagFieldRead
  rw [if_neg (by simp; omega), if_pos (by simpa using hread)]

theorem tagFieldWrite_granted (hlo : 272 ≤ le args 0 2) (hhi : le args 0 2 ≤ 399) (happ : s.tag.app = .securedK)
    (hres : s.tag.reserved s.mt = false) :
    tagFieldWrite args s = (s.tagPut (le args 0 2) (padTo 16 (args.drop 2))).tagAnswer 0x00 [] := by
  unfold tagFieldWrite
  rw [if_neg (by omega), if_neg (by simp [hlo, hhi, happ]), if_neg (by simp [hres])]

theorem tagFieldWrite_denied (hlo : le args 0 2 < 272) : tagFieldWrite args s = s.tagAnswer 0x02 [] := by
  unfold tagFieldWrite
  rw [if_neg (by omega), if_pos (by simp [Nat.not_le.mpr hlo])]

theorem tagFieldWrite_outside (hhi : 512 ≤ le args 0 2) : tagFieldWrite args s = s.tagAnswer 0x04 [] := if_pos hhi

/-! ## Authentication (R346) -/

theorem pwdAuth_accepted (happ : s.tag.app = .opened) (hfail : s.tag.pwdFail < 8) (hpwd : s.tag.password = some args) :
    pwdAuth args s
      = (({ s with tag := { s.tag with app := .securedP, pwdFail := 0 } }).event F.NFC_EVT_TAG_SECURED).tagAnswer 0x00 [] := by
  unfold pwdAuth
  rw [if_neg (by simp [happ]), if_neg (by omega), hpwd]
  exact if_pos rfl

theorem methodFailed_pwd_eighth (hfail : s.tag.pwdFail = 7) :
    s.methodFailed false = (({ s with tag := { s.tag with pwdFail := 8 } }).event F.NFC_EVT_METHOD_LOCK).reason .nfc 0x0D0B := by
  simp [State.methodFailed, State.setTag, hfail]

theorem methodFailed_key_early (hfail : s.tag.keyFail < 7) :
    s.methodFailed true = { s with tag := { s.tag with keyFail := s.tag.keyFail + 1 } } :=
  if_neg (by simp; omega)

theorem pwdAuth_locks (happ : s.tag.app = .opened) (hfail : s.tag.pwdFail = 7) (hsome : s.tag.password ≠ none)
    (hpwd : s.tag.password ≠ some args) :
    pwdAuth args s
      = ((({ s with tag := { s.tag with pwdFail := 8 } }).event F.NFC_EVT_METHOD_LOCK).reason .nfc 0x0D0B).tagAnswer 0x05 [] := by
  obtain ⟨p, hp⟩ := Option.ne_none_iff_exists'.mp hsome
  have hne : args ≠ p := fun e => hpwd (hp.trans (congrArg some e.symm))
  unfold pwdAuth
  rw [if_neg (by simp [happ]), if_neg (by omega), hp, ← methodFailed_pwd_eighth hfail]
  exact if_neg hne

theorem pwdAuth_locked (happ : s.tag.app = .opened) (hfail : 8 ≤ s.tag.pwdFail) : pwdAuth args s = s.tagAnswer 0x06 [] := by
  unfold pwdAuth
  rw [if_neg (by simp [happ]), if_pos hfail]

theorem authBegin_opens (happ : s.tag.app = .opened) (hfail : s.tag.keyFail < 8) (hkey : s.tag.key.isSome = true) :
    authBegin args s = ({ s with tag := { s.tag with
      app := .keyWait, rc := args, tc := s.tagNoise 16, noise := s.tag.noise + 1 } }).tagAnswer 0x00 (s.tagNoise 16) := by
  unfold authBegin
  rw [if_neg (by simp [happ]), if_neg (by omega), if_neg (by simpa using Option.isSome_iff_ne_none.mp hkey)]
  rfl

theorem authEnd_accepted (happ : s.tag.app = .keyWait) (hmac : args = s.tag.authMac 0x51 s.tag.rc s.tag.tc) :
    authEnd args s = (({ s with tag := { s.tag with app := .securedK, keyFail := 0 } }).event F.NFC_EVT_TAG_SECURED).tagAnswer 0x00
      (s.tag.authMac 0x52 s.tag.tc s.tag.rc) := by
  unfold authEnd
  rw [if_neg (by simp [happ])]
  exact if_pos hmac

theorem authEnd_refused (happ : s.tag.app = .keyWait) (hmac : args ≠ s.tag.authMac 0x51 s.tag.rc s.tag.tc) (hfail : s.tag.keyFail < 7) :
    authEnd args s
      = ({ s with tag := { s.tag with app := .opened, rc := [], tc := [], keyFail := s.tag.keyFail + 1 } }).tagAnswer 0x05 [] := by
  unfold authEnd
  rw [if_neg (by simp [happ]), if_neg hmac, methodFailed_key_early (by exact hfail)]
  rfl

end

/-! ## The field -/

theorem fieldEntry_fresh {s : State} {fl : Nat} (hworks : s.tag.works = true) (hvbat : s.pilot.vbatUp = false) (hfl : 6 ≤ fl)
    (hfield : s.tag.field = false) (hidle : s.nfc.detection = none) (hgap : s.tag.fieldEnd = 0 ∨ s.tag.fieldEnd + 5000 ≤ s.mt) :
    fieldEntry fl s = { s with tag := { s.tag with
      field := true, level := fl, uid := 0x08 :: s.tagNoise 3, noise := s.tag.noise + 1, selected := false, app := .opened } } := by
  have hpowered : s.tagPowered fl = true := by simp [State.tagPowered, hworks, hfl]
  unfold fieldEntry
  rw [if_neg (by simp [hpowered, hfield, hidle]; omega), if_neg (by simp; omega)]
  exact if_pos (by simp [State.setTag, hvbat])

/-- What the tag answers to a frame outside KEY_WAIT, command by command. -/
theorem fieldSide_commands (s : State) (fl : BitVec 4) (args : Bytes) (micros : BitVec 16) (hheard : s.tagHears fl.toNat)
    (happ : s.tag.app ≠ .keyWait) :
    let s1 := s.tagSampled fl.toNat micros.toNat
    let b := le args 0 2
    let n := le args 2 1
    (args = [] → exec (.getInfo fl args micros) s = .next (getInfo s1))
    ∧ (args ≠ [] → exec (.getInfo fl args micros) s = .next (s1.tagAnswer 0x07 []))
    ∧ (args = [] → exec (.logout fl args micros) s = .next (
        (if s.tag.secured then { s1 with tag := { s1.tag with app := .opened, selected := false } } else s1).tagAnswer 0x00 []))
    ∧ (args.length = 3 → 1 ≤ n → n ≤ 15 → b + n ≤ 512 → (∀ i < n, s.tag.fieldRead (b + i) = true) → s.tag.reserved s.mt = false →
        exec (.read fl args micros) s = .next (s1.tagAnswer 0x00 (s.tag.blocks b n)))
    ∧ (args.length = 3 → 1 ≤ n → n ≤ 15 → b + n ≤ 512 → (∃ i < n, s.tag.fieldRead (b + i) = false) →
        exec (.read fl args micros) s = .next (s1.tagAnswer 0x02 [])) := by
  intro s1 b n
  have hkey {a : Bool} : s.tag.app ≠ .keyWait ∨ a = true := .inl happ
  refine ⟨fun hargs => congrArg _ (State.tagFrame_runs 0 _ args hheard rfl hkey (by simp [hargs])),
    fun hargs => congrArg _ (State.tagFrame_misfit 0 _ args hheard happ (by simpa using hargs)),
    fun hargs => congrArg _ (State.tagFrame_runs 0 _ args hheard rfl hkey (by simp [hargs])),
    fun hlen h1 h15 hfit hread hres => congrArg _ ((State.tagFrame_runs 3 _ args hheard rfl hkey hlen).trans
      (tagFieldRead_granted h1 h15 hfit hread hres)),
    fun hlen h1 h15 hfit hread => congrArg _ ((State.tagFrame_runs 3 _ args hheard rfl hkey hlen).trans
      (tagFieldRead_denied h1 h15 hfit hread))⟩

/-- Settles O50: a heard frame is judged once (`State.tagFrame_runs` and its refusals), then each command answers by its own rule. -/
theorem tagAnswersTheField : Obligations.TagAnswersTheField := by
  unfold Obligations.TagAnswersTheField
  refine ⟨fun s fl hworks hvbat hfl hfield hidle hgap => congrArg _ (fieldEntry_fresh hworks hvbat hfl hfield hidle hgap),
    fun s fl _ _ hfl => congrArg _ (if_pos (by simp [hfl])),
    fun s deselect hfield => ⟨fieldLoss deselect s, rfl, by simp [fieldLoss, State.setTag, hfield]⟩,
    fun s fl hfield hpowered hmode => congrArg _ (if_neg (by simp [hfield, hpowered, hmode])), ?_, ?_⟩
  · intro s fl args micros hfield hselected hpowered hmode happ s1 b n
    have hheard : s.tagHears fl.toNat := ⟨hfield, hselected, hpowered, hmode⟩
    have hkey {a : Bool} : s.tag.app ≠ .keyWait ∨ a = true := .inl happ
    obtain ⟨hinfo, hinfoMisfit, hlogout, hread, hdenied⟩ := fieldSide_commands s fl args micros hheard happ
    have hruns {m : Nat} {run : State → State} (hlen : args.length = m) (hweak : s.tagWeak fl.toNat = false) :
        s.tagFrame fl.toNat m micros.toNat args false true run = run s1 :=
      State.tagFrame_runs m _ args hheard (by simp [hweak]) hkey hlen
    exact ⟨hinfo, hinfoMisfit, hlogout, hread, hdenied,
      fun hlen hlo hhi hsecured hres hweak => congrArg _ ((hruns hlen hweak).trans (tagFieldWrite_granted hlo hhi hsecured hres)),
      fun hlen hlo hweak => congrArg _ ((hruns hlen hweak).trans (tagFieldWrite_denied hlo)),
      fun hlen hhi hweak => congrArg _ ((hruns hlen hweak).trans (tagFieldWrite_outside hhi)),
      fun hlen hopened hfail hpwd hweak => congrArg _ ((hruns hlen hweak).trans (pwdAuth_accepted hopened hfail hpwd)),
      fun hlen hopened hfail hsome hpwd hweak => congrArg _ ((hruns hlen hweak).trans (pwdAuth_locks hopened hfail hsome hpwd)),
      fun hlen hopened hfail hweak => congrArg _ ((hruns hlen hweak).trans (pwdAuth_locked hopened hfail)),
      fun hweak => ⟨congrArg _ (State.tagFrame_weak 18 _ args hheard hweak), congrArg _ (State.tagFrame_weak 8 _ args hheard hweak)⟩,
      fun hlen hopened hfail hsome => congrArg _ ((State.tagFrame_runs 16 _ args hheard rfl hkey hlen).trans
        (authBegin_opens hopened hfail hsome))⟩
  · intro s fl args micros hfield hselected hpowered hmode happ hlen s1
    have hheard : s.tagHears fl.toNat := ⟨hfield, hselected, hpowered, hmode⟩
    have hruns (hweak : s.tagWeak fl.toNat = false) :
        s.tagFrame fl.toNat 16 micros.toNat args true true (authEnd args) = authEnd args s1 :=
      State.tagFrame_runs 16 _ args hheard (by simp [hweak]) (.inr rfl) hlen
    refine ⟨fun hweak hmac => congrArg _ ((hruns hweak).trans (authEnd_accepted happ hmac)),
      fun hweak hfail => congrArg _ ((hruns hweak).trans ?_),
      fun hweak => congrArg _ (State.tagFrame_weak 16 _ args hheard hweak),
      congrArg _ (State.tagFrame_keyWait 3 _ args hheard happ)⟩
    split
    · next hmac => exact authEnd_accepted happ hmac
    · next hmac => exact authEnd_refused happ hmac hfail

end Sys2Proof.Machine
end

section
/-! SUPPORT. The wired side of the tag (R348, R352, R353, R356): what a wired access finds, and what each host command does to the tag. -/
namespace Sys2Proof.Machine

open Sys2Proof

-- One declaration after another: checking many at a time takes more memory than the text may use.
set_option Elab.async false

/-! ## Reservations and refusals -/

/-- Without a reservation that has reached its duration nothing ends. -/
theorem State.endReservation_of_none {s : State} (h : s.tag.resEnd = none) : s.endReservation = s := by
  simp only [State.endReservation, h]

theorem State.endReservation_of_lt {s : State} {e : Nat} (h : s.tag.resEnd = some e) (he : s.mt < e) : s.endReservation = s := by
  simp only [State.endReservation, h, if_neg (Nat.not_le.mpr he)]

theorem State.endReservation_of_le {s : State} {e : Nat} (h : s.tag.resEnd = some e) (he : e ≤ s.mt) :
    s.endReservation = { s with tag := { s.tag with resEnd := none, resOver := true } } := by
  simp only [State.endReservation, h, if_pos he]
  rfl

/-- The end of a reservation touches nothing but the reservation. -/
theorem State.endReservation_frame (s : State) :
    ∃ r o, s.endReservation = { s with tag := { s.tag with resEnd := r, resOver := o } } := by
  rcases h : s.tag.resEnd with _ | e
  · exact ⟨s.tag.resEnd, s.tag.resOver, State.endReservation_of_none h⟩
  · rcases Nat.lt_or_ge s.mt e with he | he
    · exact ⟨s.tag.resEnd, s.tag.resOver, State.endReservation_of_lt h he⟩
    · exact ⟨none, true, State.endReservation_of_le h he⟩

theorem State.endReservation_works (s : State) : s.endReservation.tag.works = s.tag.works := by
  obtain ⟨r, o, h⟩ := s.endReservation_frame
  rw [h]

theorem State.endReservation_busy (s : State) : s.endReservation.tag.busy s.endReservation.mt = s.tag.busy s.mt := by
  obtain ⟨r, o, h⟩ := s.endReservation_frame
  rw [h]
  rfl

theorem State.endReservation_blocks (s : State) (b n : Nat) : s.endReservation.tag.blocks b n = s.tag.blocks b n := by
  obtain ⟨r, o, h⟩ := s.endReservation_frame
  rw [h]
  rfl

theorem State.wiredRefusal_of_busy {s : State} (hworks : s.tag.works = true) (hbusy : s.tag.busy s.mt = true) :
    s.wiredRefusal = 0x0D08 := by
  simp [State.wiredRefusal, hworks, hbusy]

theorem State.wiredRefusal_of_over {s : State} (hworks : s.tag.works = true) (hfree : s.tag.busy s.mt = false)
    (hover : s.tag.resOver = true) : s.wiredRefusal = 0x0D0F := by
  simp [State.wiredRefusal, hworks, hfree, hover]

/-! ## A wired access -/

section
variable {s : State} {run : State → MbRes}

theorem State.wired_granted (h : s.endReservation.wiredRefusal = 0) : s.wired run = run s.endReservation := by
  unfold State.wired
  rw [if_neg (by simp [h]), if_neg (by simp [h])]

/-- R352: the field side holds the memory. -/
theorem State.wired_busy (h : s.endReservation.wiredRefusal = 0x0D08) :
    s.wired run = mbFail (s.endReservation.bump F.NFC_TAG_CNT_BUSY) .nfc 0x0D08 := by
  simp only [State.wired, h]
  rfl

/-- R353: the reservation ran out before the access. -/
theorem State.wired_over (h : s.endReservation.wiredRefusal = 0x0D0F) : s.wired run = mbFail s.endReservation .nfc 0x0D0F := by
  simp only [State.wired, h]
  rfl

end

/-! ## The host commands -/

section
variable {s : State}

theorem tagSetPwdOp_wired {p : Bytes} (hlen : p.length = 8) :
    tagSetPwdOp p s = s.wired (fun t => mbOk { t with tag := { t.tag with password := if allZero p then none else some p } } []) :=
  if_neg (by simp [hlen])

theorem tagSetKeyOp_wired {k : Bytes} (hlen : k.length = 32) :
    tagSetKeyOp k s = s.wired (fun t => mbOk { t with tag := { t.tag with key := some k } } []) :=
  if_neg (by simp [hlen])

theorem tagReadOp_granted {block count : Nat} (h : s.endReservation.wiredRefusal = 0) (h1 : 1 ≤ count) (h32 : count ≤ 32)
    (hfit : block + count ≤ 496) : tagReadOp block count s = mbOk s.endReservation (s.tag.blocks block count) := by
  rw [tagReadOp, State.wired_granted h, if_neg (by simp; omega), State.endReservation_blocks]

theorem tagReadOp_outside {block count : Nat} (h : s.endReservation.wiredRefusal = 0)
    (hout : count = 0 ∨ 32 < count ∨ 496 < block + count) : tagReadOp block count s = mbFail s.endReservation .nfc 0x0D0E := by
  rw [tagReadOp, State.wired_granted h, if_pos (by simp; omega)]

theorem tagWriteOp_granted {block count : Nat} {data : Bytes} (hlen : data.length = 16 * count)
    (h : s.endReservation.wiredRefusal = 0) (h1 : 1 ≤ count) (h32 : count ≤ 32) (hlo : 272 ≤ block) (hfit : block + count ≤ 496) :
    tagWriteOp block count data s = mbOk (s.endReservation.tagPut block data) [] := by
  rw [tagWriteOp, if_neg (by simp [hlen]), State.wired_granted h, if_neg (by simp; omega), if_neg (by simp; omega)]

theorem tagWriteOp_protected {block count : Nat} {data : Bytes} (hlen : data.length = 16 * count)
    (h : s.endReservation.wiredRefusal = 0) (h1 : 1 ≤ count) (h32 : count ≤ 32) (hlo : block < 272) :
    tagWriteOp block count data s = mbFail s.endReservation .nfc 0x0D0A := by
  rw [tagWriteOp, if_neg (by simp [hlen]), State.wired_granted h, if_neg (by simp; omega), if_pos (by simp [hlo])]

theorem tagReserveOp_granted {ms : Nat} (h1 : 1 ≤ ms) (h50 : ms ≤ 50) (hworks : s.tag.works = true) (hfield : s.tag.field = false) :
    tagReserveOp ms s = mbOk { s with tag := { s.tag with resEnd := some (s.mt + 1000 * ms), resOver := false } } [] := by
  rw [tagReserveOp, if_neg (by simp; omega), if_neg (by simp [hworks]), if_neg (by simp [hfield])]
  rfl

theorem tagReserveOp_field {ms : Nat} (h1 : 1 ≤ ms) (h50 : ms ≤ 50) (hworks : s.tag.works = true) (hfield : s.tag.field = true) :
    tagReserveOp ms s = mbFail s .nfc 0x0D09 := by
  rw [tagReserveOp, if_neg (by simp; omega), if_neg (by simp [hworks]), if_pos hfield]

theorem tagReleaseOp_held {e : Nat} (h : s.tag.resEnd = some e) (he : s.mt < e) :
    tagReleaseOp s = mbOk { s with tag := { s.tag with resEnd := none } } [] := by
  rw [tagReleaseOp, State.endReservation_of_lt h he, if_neg (by simp [h])]
  rfl

end

/-! ## Locks, retries, memory -/

theorem clrLocks_granted {s : State} (hworks : s.tag.works = true) (hfree : s.tag.ownEnd ≤ s.mt) :
    clrLocks s = { s with tag := { s.tag with pwdFail := 0, keyFail := 0 } } := by
  rw [clrLocks, if_neg (by simp [hworks]), if_neg (by simp [Tag.busy, hfree])]
  rfl

theorem clrLocks_busy {s : State} (hworks : s.tag.works = true) (hbusy : s.mt < s.tag.ownEnd) :
    clrLocks s = (s.bump F.NFC_TAG_CNT_BUSY).reason .nfc 0x0D08 := by
  rw [clrLocks, if_neg (by simp [hworks]), if_pos (by simp [Tag.busy, hbusy])]

/-- Writing blocks leaves every byte outside them. -/
theorem State.tagPut_get_apart (s : State) (block : Nat) (bs : Bytes) {n : Nat} (h : n < 16 * block ∨ 16 * block + bs.length ≤ n) :
    sparseGet tagDefault (s.tagPut block bs).tag.mem n = sparseGet tagDefault s.tag.mem n := by
  rw [State.tagPut, sparseGet_putAll, dif_neg (by omega)]

/-- Settles O51: each host command through its one lemma on what the wired access finds. -/
theorem wiredSideSharesTagMemory : Obligations.WiredSideSharesTagMemory := by
  unfold Obligations.WiredSideSharesTagMemory
  refine ⟨fun s p h hlen hok => next_mailboxCommand h ((tagSetPwdOp_wired hlen).trans (State.wired_granted hok)),
    fun s p h hlen hworks hbusy => ?_, fun s p h hlen hworks hfree hnone hover => ?_,
    fun s k h hlen hok => next_mailboxCommand h ((tagSetKeyOp_wired hlen).trans (State.wired_granted hok)),
    fun s block count h hok h1 h32 hfit => next_mailboxCommand h (tagReadOp_granted hok h1 h32 hfit),
    fun s block count h hok hout => next_mailboxCommand h (tagReadOp_outside hok hout),
    fun s block count data h hlen hok h1 h32 =>
      ⟨fun hlo hfit => next_mailboxCommand h (tagWriteOp_granted hlen hok h1 h32 hlo hfit),
       fun hlo => next_mailboxCommand h (tagWriteOp_protected hlen hok h1 h32 hlo)⟩,
    fun s ms h h1 h50 hworks =>
      ⟨fun hfield => next_mailboxCommand h (tagReserveOp_granted h1 h50 hworks hfield),
       fun hfield => next_mailboxCommand h (tagReserveOp_field h1 h50 hworks hfield)⟩,
    fun s e h hres he => next_mailboxCommand h (tagReleaseOp_held hres he),
    fun s e hres he => congrArg _ (State.endReservation_of_le hres he),
    fun s hworks hfree => congrArg _ (clrLocks_granted hworks hfree),
    fun s hworks hbusy => congrArg _ (clrLocks_busy hworks hbusy),
    fun s hwriter hdue => congrArg _ (if_pos (by simp [hwriter, hdue])),
    fun s hnot => congrArg _ (if_neg (by simpa using fun hw => hnot.resolve_left (by simp [hw]))),
    fun s block bs n h => s.tagPut_get_apart block bs h⟩
  · have hb : (s.begun 0x0D01 p).endReservation.wiredRefusal = 0x0D08 :=
      State.wiredRefusal_of_busy ((State.endReservation_works _).trans hworks)
        ((State.endReservation_busy _).trans (decide_eq_true hbusy))
    exact next_mailboxCommand h ((tagSetPwdOp_wired hlen).trans (State.wired_busy hb))
  · have hend : (s.begun 0x0D01 p).endReservation = s.begun 0x0D01 p := State.endReservation_of_none hnone
    have hb : (s.begun 0x0D01 p).wiredRefusal = 0x0D0F :=
      State.wiredRefusal_of_over hworks (decide_eq_false (Nat.not_lt.mpr hfree)) hover
    have he := State.wired_over (run := fun t =>
      mbOk { t with tag := { t.tag with password := if allZero p then none else some p } } []) (s := s.begun 0x0D01 p) (by rw [hend, hb])
    rw [hend] at he
    exact next_mailboxCommand h ((tagSetPwdOp_wired hlen).trans he)

end Sys2Proof.Machine
end

section
/-! SUPPORT. Manifests, downloads and their verification (R407 to R413): what each check of Table 15-3 yields, and what UPD_BEGIN, UPD_CHUNK
and VERIFY_DONE do in each case. -/
namespace Sys2Proof.Machine

open Sys2Proof

-- One declaration after another: checking many at a time takes more memory than the text may use.
set_option Elab.async false

/-! ## Checks 1 to 6 (Table 15-3) -/

section
variable {s : State} {m : Bytes}

/-- Every reason of a manifest check is a reason code. -/
theorem State.mfCheck_lt (s : State) (m : Bytes) : s.mfCheck m < 0x10000 := by
  simp only [State.mfCheck]
  (repeat' split) <;> decide

theorem State.mfCheck_refuses (h : mfConsistent m = false ∨ s.mfSigned m = false ∨ u8 m 6 < s.update.floor ∨ u8 m 6 < s.ringS) :
    s.mfCheck m ≠ 0 := by
  simp only [State.mfCheck]
  split
  · decide
  next hconsistent =>
    split
    · decide
    next hsigned =>
      split
      · decide
      · have hold : (decide (u8 m 6 < s.update.floor) || decide (u8 m 6 < s.ringS)) = true := by simp_all
        rw [if_pos hold]
        decide

end

/-! ## UPD_BEGIN (R410) -/

section
variable {s : State} {m : Bytes} {env : Env}

theorem updBeginOp_resumes (hlen : m.length = 65536) (hstate : s.update.state = .download)
    (hsame : manifest (s.fwSlot s.update.target).image = m) : updBeginOp m env s = mbOk s s.nextOut := by
  rw [updBeginOp, if_neg (by simp [hlen]), if_pos (by simp [hstate, hsame])]

theorem updBeginOp_refused (hlen : m.length = 65536) (hstate : s.update.state = .idle) (hcheck : s.mfCheck m ≠ 0) :
    updBeginOp m env s = mbFail s .upd (s.mfCheck m) := by
  rw [updBeginOp, if_neg (by simp [hlen]), if_neg (by simp [hstate]), if_neg (by simp [hstate]), if_pos hcheck]

/-- The slot opened for a download: loading, chunk 0 stored. -/
def State.downloadOpened (s : State) (m : Bytes) : State :=
  let t := 1 - s.update.running
  let s1 := (s.setFwSlot t ⟨.loading, u8 m 6, [], m⟩).program (1 + t) 0 16
  let s2 := { s1 with update := { s1.update with state := .download, next := 1, target := t, reason := 0, confirmNext := false }
                      nand := { s1.nand with written := s1.nand.written + 65536 } }
  ((s2.updEntry 0x0001 t 0).downloadEnd).reason .upd 0

theorem updBeginOp_opens (hlen : m.length = 65536) (hstate : s.update.state = .idle) (hcheck : s.mfCheck m = 0)
    (hnand : s.nandUp = true) (hstore : env.storeOk = true) :
    updBeginOp m env s = mbOk (s.downloadOpened m) (s.downloadOpened m).nextOut := by
  rw [updBeginOp, if_neg (by simp [hlen]), if_neg (by simp [hstate]), if_neg (by simp [hstate]), if_neg (by simp [hcheck]),
    if_neg (by simp [hnand, hstore])]
  rfl

end

/-! ## UPD_CHUNK (R411) -/

section
variable {s : State} {index : Nat} {data : Bytes} {env : Env}

theorem updChunkOp_outside (hlen : data.length ≤ 65536) (hstate : s.update.state ≠ .download) :
    updChunkOp index data env s = mbFail s .upd 0x0E0C := by
  rw [updChunkOp, if_neg (by omega), if_pos hstate]

theorem updChunkOp_again (hlen : data.length ≤ 65536) (hstate : s.update.state = .download) (hold : index < s.update.next) :
    updChunkOp index data env s = mbOk s s.nextOut := by
  rw [updChunkOp, if_neg (by omega), if_neg (by simp [hstate]), if_pos hold]

theorem updChunkOp_ahead (hlen : data.length ≤ 65536) (hstate : s.update.state = .download) (hahead : s.update.next < index) :
    updChunkOp index data env s = s.chunkRefused 0x0E08 s.nextOut := by
  rw [updChunkOp, if_neg (by omega), if_neg (by simp [hstate]), if_neg (by omega), if_pos hahead]

theorem updChunkOp_bad (hlen : data.length ≤ 65536) (hstate : s.update.state = .download) (hnext : index = s.update.next)
    (hbad : data.length ≠ min 65536 (mfLen (manifest (s.fwSlot s.update.target).image) - 65536 * index)
      ∨ chunkMatches (manifest (s.fwSlot s.update.target).image) index data = false) :
    updChunkOp index data env s = s.chunkRefused 0x0E09 [] := by
  rw [updChunkOp, if_neg (by omega), if_neg (by simp [hstate]), if_neg (by omega), if_neg (by omega)]
  exact if_pos (by simpa using hbad)

/-- The chunk in order stored. -/
def State.chunkStored (s : State) (index : Nat) (data : Bytes) : State :=
  let t := s.update.target
  let x := s.fwSlot t
  let s1 := (s.setFwSlot t { x with image := x.image ++ data }).program (1 + t) 0 16
  let s2 := { s1 with update := { s1.update with next := index + 1 }
                      nand := { s1.nand with written := s1.nand.written + 65536 } }
  (s2.event F.UPD_EVT_CHUNK).downloadEnd

theorem updChunkOp_stores (hlen : data.length ≤ 65536) (hstate : s.update.state = .download) (hnext : index = s.update.next)
    (hwant : data.length = min 65536 (mfLen (manifest (s.fwSlot s.update.target).image) - 65536 * index))
    (hmatch : chunkMatches (manifest (s.fwSlot s.update.target).image) index data = true) (hnand : s.nandUp = true)
    (hstore : env.storeOk = true) :
    updChunkOp index data env s = mbOk (s.chunkStored index data) (s.chunkStored index data).nextOut := by
  rw [updChunkOp, if_neg (by omega), if_neg (by simp [hstate]), if_neg (by omega), if_neg (by omega)]
  refine (if_neg ?_).trans ((if_neg ?_).trans rfl)
  · simp [hmatch, ← hwant]
  · simp [hnand, hstore]

end

/-! ## VERIFY_DONE (R412) -/

theorem State.verifyCode_unread (s : State) : s.verifyCode false ≠ 0 := by
  simp only [State.verifyCode]
  split
  · assumption
  · simp

/-- A verification that ends in phase 0xA with its slot verified, and the update READY. -/
theorem verifyDone_passed {s : State} {reread : Bool} (hstate : s.update.state = .verify) (hphase : s.phase = 0xA)
    (hcode : s.verifyCode reread = 0) :
    verifyDone reread s =
      let t := s.update.target
      let x := s.fwSlot t
      let s0 := { s with upd := { s.upd with verified := mfChunks x.image } }
      let s1 := (s0.setFwSlot t { x with role := .verified, meas := Crypto.sha512 x.image }).updTo .ready
      (({ s1 with update := { s1.update with confirmNext := s.sys.fw == FwRun.recovery } }.event
        F.UPD_EVT_VERIFIED).reason .upd 0).updEntry 0x0003 t 0 := by
  rw [verifyDone, if_neg (by simp [hstate, hphase])]
  exact if_pos hcode

/-- A verification that ends in phase 0xA with its slot emptied and the reason kept. -/
theorem verifyDone_failed {s : State} {reread : Bool} (hstate : s.update.state = .verify) (hphase : s.phase = 0xA)
    (hcode : s.verifyCode reread ≠ 0) :
    verifyDone reread s =
      let t := s.update.target
      let x := s.fwSlot t
      let c := s.verifyCode reread
      let s0 := { s with upd := { s.upd with verified := mfChunks x.image } }
      let s2 := (s0.setFwSlot t ⟨.empty, x.sv, [], []⟩).updTo .idle
      (({ s2 with update := { s2.update with reason := c } }.event F.UPD_EVT_VERIFIED).reason .upd c).updEntry 0x0004 t c := by
  rw [verifyDone, if_neg (by simp [hstate, hphase])]
  exact if_neg hcode

/-- Settles O52: each command by the lemma of the case it is in. -/
theorem downloadsVerifyBeforeReady : Obligations.DownloadsVerifyBeforeReady := by
  unfold Obligations.DownloadsVerifyBeforeReady
  refine ⟨fun s m env h hlen hidle hnand hstore => ?_,
    fun s m env h hlen hidle hcheck hlt => next_mailboxCommand h (updBeginOp_refused hlen hidle hcheck) hlt,
    fun s m env h hlen hdownload hsame => next_mailboxCommand h (updBeginOp_resumes hlen hdownload hsame),
    fun s m h => State.mfCheck_refuses h, fun s index data env h hlen hdownload hnext hwant hnand hstore => ?_,
    fun s index data env h hlen hdownload => ⟨fun hold => next_mailboxCommand h (updChunkOp_again hlen hdownload hold),
      fun hahead => next_mailboxCommand h (updChunkOp_ahead hlen hdownload hahead),
      fun hnext hbad => next_mailboxCommand h (updChunkOp_bad hlen hdownload hnext (.inl hbad))⟩,
    fun s index data env h hlen hstate => next_mailboxCommand h (updChunkOp_outside hlen hstate),
    fun s env hverify hphase => ?_, fun s => s.verifyCode_unread⟩
  · split
    · next hcheck => exact next_mailboxCommand h (updBeginOp_opens hlen hidle hcheck hnand hstore)
    · next hcheck => exact next_mailboxCommand h (updBeginOp_refused hlen hidle hcheck) (State.mfCheck_lt _ _)
  · split
    · next hmatch => exact next_mailboxCommand h (updChunkOp_stores hlen hdownload hnext hwant hmatch hnand hstore)
    · next hmatch => exact next_mailboxCommand h (updChunkOp_bad hlen hdownload hnext (.inr (by simpa using hmatch)))
  · intro t x c s0 s1 s2
    split
    · next hcode => exact congrArg _ (verifyDone_passed hverify hphase hcode)
    · next hcode => exact congrArg _ (verifyDone_failed hverify hphase hcode)

end Sys2Proof.Machine
end

section
/-! SUPPORT. Firmware slots, the string handover and its requests (R414 to R417, R425): what a slot holds after another is written, what the
steps of a handover leave unchanged, and what UPD_ACTIVATE and QUIESCENT_POINT do in each case. -/
namespace Sys2Proof.Machine

open Sys2Proof

-- One declaration after another: checking many at a time takes more memory than the text may use.
set_option Elab.async false

/-! ## Firmware slots -/

section
variable (s : State) {k n : Nat} (x : FwSlot) (r : SlotRole)

theorem State.fwSlot_setFwSlot_same (h : k < s.update.slots.length) : (s.setFwSlot k x).fwSlot k = x := by
  simp [State.fwSlot, State.setFwSlot, h]

theorem State.fwSlot_setFwSlot_other (h : n ≠ k) : (s.setFwSlot k x).fwSlot n = s.fwSlot n := by
  simp [State.fwSlot, State.setFwSlot, List.getElem?_set_ne h.symm]

theorem State.setFwSlot_length : (s.setFwSlot k x).update.slots.length = s.update.slots.length := List.length_set

theorem State.setRole_length : (s.setRole k r).update.slots.length = s.update.slots.length := s.setFwSlot_length _

theorem State.role_setRole_same (h : k < s.update.slots.length) : ((s.setRole k r).fwSlot k).role = r :=
  congrArg FwSlot.role (s.fwSlot_setFwSlot_same _ h)

theorem State.role_setRole_other (h : n ≠ k) : ((s.setRole k r).fwSlot n).role = (s.fwSlot n).role :=
  congrArg FwSlot.role (s.fwSlot_setFwSlot_other _ h)

end

/-- A slot reads as its record says. -/
theorem State.fwSlot_of_slots {s t : State} (h : t.update.slots = s.update.slots) (k : Nat) : t.fwSlot k = s.fwSlot k := by
  rw [State.fwSlot, h, State.fwSlot]

/-! ## What the steps of a handover leave unchanged -/

section
variable (s : State)

theorem State.updEntry_keyring (code slot reason : Nat) : (s.updEntry code slot reason).vault.keyring = s.vault.keyring :=
  s.journal_keyring ..

@[simp] theorem State.updEntry_update (code slot reason : Nat) : (s.updEntry code slot reason).update = s.update := s.journal_update ..

@[simp] theorem State.updEntry_upd (code slot reason : Nat) : (s.updEntry code slot reason).upd = s.upd := s.journal_upd ..

theorem State.swapBank_update (new : Option SettingsBank) (fresh : Bool) (slot : Nat) :
    (s.swapBank new fresh slot).update = { s.update with fresh := fresh } := by
  unfold State.swapBank
  cases fresh
  · rfl
  · exact State.updEntry_update ..

theorem State.swapBank_upd (new : Option SettingsBank) (fresh : Bool) (slot : Nat) : (s.swapBank new fresh slot).upd = s.upd := by
  unfold State.swapBank
  cases fresh
  · rfl
  · exact State.updEntry_upd ..

theorem State.swapBank_keyring (new : Option SettingsBank) (fresh : Bool) (slot : Nat) :
    (s.swapBank new fresh slot).vault.keyring = s.vault.keyring := by
  unfold State.swapBank
  cases fresh
  · rfl
  · exact State.updEntry_keyring ..

theorem State.symDrop_update (pick : SymReq → Bool) : (s.symDrop pick).update = s.update := by
  rw [State.symDrop_frame]

theorem State.symDrop_vault (pick : SymReq → Bool) : (s.symDrop pick).vault = s.vault := by
  rw [State.symDrop_frame]

theorem State.symTakeover_update (master : Nat) : (s.symTakeover master).update = s.update := by
  dsimp only [State.symTakeover]
  split <;> exact s.symDrop_update _

theorem State.symTakeover_vault (master : Nat) : (s.symTakeover master).vault = s.vault := by
  dsimp only [State.symTakeover]
  split <;> exact s.symDrop_vault _

theorem State.swapRoles_update : s.swapRoles.update = s.update := State.symTakeover_update _ _

theorem State.swapRoles_vault : s.swapRoles.vault = s.vault := State.symTakeover_vault _ _

end

/-! ## The handover (Sequence 15-1, step 5) -/

section
variable (s : State)

/-- The slots with slot `t` on trial and slot `old` its fallback. -/
def State.trialSlots (s : State) (t old : Nat) : List FwSlot := ((s.setRole t .trial).setRole old .fallback).update.slots

theorem State.trialSlots_of_update {s u : State} (h : u.update = s.update) (t old : Nat) : u.trialSlots t old = s.trialSlots t old := by
  simp only [State.trialSlots, State.setRole, State.setFwSlot, State.fwSlot, h]

theorem State.handover_update : s.handover.update = { s.update with
    slots := s.trialSlots s.update.target s.update.running, state := .trial, trials := 0, running := s.update.target, cold := false
    fresh := s.upd.newFresh } := by
  rw [State.handover, State.swapBank_update, State.updEntry_update]
  change { s.swapRoles.update with
    slots := s.swapRoles.trialSlots s.update.target s.update.running, state := .trial, trials := 0, running := s.update.target, cold := false
    fresh := s.upd.newFresh } = _
  rw [State.trialSlots_of_update s.swapRoles_update, State.swapRoles_update]

theorem State.handover_upd : s.handover.upd = { UpdRun.reset with reloads := [1, 2, 3, 4, 5], standbySlot := s.update.running } := by
  rw [State.handover, State.swapBank_upd, State.updEntry_upd]
  rfl

theorem State.handover_keyring : s.handover.vault.keyring = s.vault.keyring := by
  rw [State.handover, State.swapBank_keyring, State.updEntry_keyring]
  change s.swapRoles.vault.keyring = _
  rw [State.swapRoles_vault]

theorem State.handover_fuses : s.handover.fuses = s.fuses := by simp [State.handover]

variable {s}

theorem State.handover_roles (htarget : s.update.target < 2) (hrunning : s.update.running < 2) (hne : s.update.target ≠ s.update.running)
    (hlen : s.update.slots.length = 2) :
    (s.handover.fwSlot s.update.target).role = .trial ∧ (s.handover.fwSlot s.update.running).role = .fallback := by
  have hslots : s.handover.update.slots = ((s.setRole s.update.target .trial).setRole s.update.running .fallback).update.slots := by
    rw [State.handover_update]
    rfl
  rw [State.fwSlot_of_slots hslots, State.fwSlot_of_slots hslots]
  exact ⟨(State.role_setRole_other _ _ hne).trans (State.role_setRole_same _ _ (by omega)),
    State.role_setRole_same _ _ (by rw [State.setRole_length]; omega)⟩

end

/-! ## UPD_ACTIVATE (R416, R425) -/

section
variable {s : State}

theorem updActivateOp_outside {reset : Bool} (h : s.update.state ≠ .ready) : updActivateOp reset s = mbFail s .upd 0x0E0C := if_pos h

theorem updActivateOp_starts (hready : s.update.state = .ready) (hstandby : s.standbyReady = true) (hfw : s.sys.fw ≠ .recovery) :
    updActivateOp false s = mbOk (s.startActivation.reason .upd 0) [] := by
  rw [updActivateOp, if_neg (by simp [hready]), if_neg (by decide), if_neg (by simp [hstandby, hfw])]

theorem updActivateOp_alone (hready : s.update.state = .ready) (hstandby : s.standbyReady = false) :
    updActivateOp false s = mbFail s .upd 0x0E10 := by
  rw [updActivateOp, if_neg (by simp [hready]), if_neg (by decide), if_pos (by simp [hstandby])]

/-- With RESET the trial record goes first, and the answer comes with the reset. -/
theorem updActivateOp_reset (hready : s.update.state = .ready) (hconfirm : s.update.confirmNext = false) :
    updActivateOp true s =
      let t := s.update.target
      let f := s.bankFor (manifest (s.fwSlot t).image)
      let s2 := ((s.setRole t .trial).setRole s.update.running .fallback).updTo .trial
      (({ s2 with update := { s2.update with trials := 0, cold := false } }.swapBank f.1 f.2 t).finishReset 3 [], mbDeferred, []) := by
  rw [updActivateOp, if_neg (by simp [hready]), if_pos rfl]
  simp only [hconfirm, Bool.false_eq_true, if_false]

theorem State.startActivation_loading (s : State) : s.startActivation.net.loading = some (s.activePair == 0) := by
  have h : (1 - s.activePair == 1) = (s.activePair == 0) := by
    rw [Bool.eq_iff_iff]
    simp only [beq_iff_eq]
    omega
  exact congrArg some h

end

/-! ## QUIESCENT_POINT and its wait (R415) -/

section
variable {s : State}

theorem quiescentPoint_forward (hstep : s.upd.step = 4) (hquiet : s.quiescent = true) (hrev : s.upd.reverting = false)
    (hstate : s.update.state = .activate) : quiescentPoint s = s.handover := by
  rw [quiescentPoint, if_neg (by simp [hstep, hquiet]), if_neg (by simp [hrev]), if_pos hstate]

theorem quiescentPoint_back (hstep : s.upd.step = 4) (hquiet : s.quiescent = true) (hrev : s.upd.reverting = true)
    (hstandby : s.standbyReady = true) : quiescentPoint s = s.revertHandover := by
  rw [quiescentPoint, if_neg (by simp [hstep, hquiet]), if_pos hrev, if_pos hstandby]

theorem quiescentPoint_busy (hquiet : s.quiescent = false) : quiescentPoint s = s := if_pos (by simp [hquiet])

theorem actWaitTimeout_over (hstep : s.upd.step = 4) (hfirst : s.upd.waited = false)
    (hdue : s.upd.stepMt + 1000000 * s.setting 0x0E01 60 ≤ s.mt) :
    actWaitTimeout s = ({ s with upd := { s.upd with waited := true } }.event F.UPD_EVT_WAITING).reason .upd 0x0E0E :=
  if_neg (by simp [hstep, hfirst, hdue])

theorem actWaitTimeout_early (hearly : s.mt < s.upd.stepMt + 1000000 * s.setting 0x0E01 60) : actWaitTimeout s = s :=
  if_pos (by simp [hearly])

end

/-- Settles O53: each command by the lemma of the case it is in; the handover's outcome from what its steps write and leave. -/
theorem activationHandsOver : Obligations.ActivationHandsOver := by
  unfold Obligations.ActivationHandsOver
  have hinput (reset : Bool) : [byte (bit reset)] = toLE 1 (bit reset) := by cases reset <;> rfl
  refine ⟨fun s h hready hstandby hfw => next_mailboxCommand h (updActivateOp_starts hready hstandby hfw),
    fun s h hready hstandby => next_mailboxCommand h (updActivateOp_alone hready hstandby), ?_,
    fun s h hready hconfirm => congrArg Host.Outcome.next (mailboxCommand_defers _ _ _ _ _ _ (by decide) h (updActivateOp_reset hready hconfirm)),
    fun s => ⟨rfl, rfl, rfl, s.startActivation_loading⟩,
    fun s hstep hquiet hrev hstate => congrArg _ (quiescentPoint_forward hstep hquiet hrev hstate),
    fun s hstep hquiet hrev hstandby => congrArg _ (quiescentPoint_back hstep hquiet hrev hstandby),
    fun s hquiet => congrArg _ (quiescentPoint_busy hquiet), ?_,
    fun s hstep hfirst hdue => congrArg _ (actWaitTimeout_over hstep hfirst hdue),
    fun s _ hearly => congrArg _ (actWaitTimeout_early hearly)⟩
  · intro s reset h b hstate
    rw [hinput] at h
    have hout := next_mailboxCommand h (updActivateOp_outside (reset := reset) hstate)
    exact hout.trans (by rw [← hinput])
  · intro s htarget hrunning hne hlen
    obtain ⟨htrial, hfallback⟩ := State.handover_roles htarget hrunning hne hlen
    rw [State.handover_update, State.handover_upd]
    exact ⟨rfl, rfl, rfl, htrial, hfallback, rfl, s.handover_fuses, s.handover_keyring⟩

end Sys2Proof.Machine
end

section
/-! SUPPORT. Satellite reloads, the end of a trial and the forward reseal (R418 to R424): what each command does in the case it is in, what a
revert and a reseal leave in the slots, the keyring and the NAND. -/
namespace Sys2Proof.Machine

open Sys2Proof

-- One declaration after another: checking many at a time takes more memory than the text may use.
set_option Elab.async false

/-! ## Satellite reloads (R418, R419) -/

section
variable {s : State} {n : Nat} {rest : List Nat}

theorem satelliteReload_none (h : s.upd.reloads = []) : satelliteReload s = s := by
  simp only [satelliteReload, h]

theorem satelliteReload_unready (h : s.upd.reloads = n :: rest) (hready : s.satReady n = false) : satelliteReload s = s := by
  simp only [satelliteReload, h]
  exact if_pos (by simp [hready])

theorem satelliteReload_starts (h : s.upd.reloads = n :: rest) (hidle : s.upd.loading = none) (hrev : s.upd.reverting = false)
    (hready : s.satReady n = true) (hgap : s.upd.endMt = 0 ∨ s.upd.endMt + 1000 ≤ s.mt) (hisland : s.islandFailed (satIsland n) = false) :
    satelliteReload s =
      let u := { s with upd := { s.upd with loading := some n, tried := false } }.servedOn s.diesUp 1
      if n = 1 then u.putFlag F.STO_STAT_VAULT_PORT true else u := by
  simp only [satelliteReload, h]
  rw [if_neg (by simp [hidle, hrev, hready]; omega), if_neg (by simp [hisland])]

theorem State.reloadEnd_other (hn : n ≠ 1) : s.reloadEnd n
    = { s with upd := { s.upd with loading := none, tried := false, endMt := s.mt, reloads := s.upd.reloads.drop 1 } } := if_neg hn

theorem State.reloadsOver_more (h : s.upd.reloads.isEmpty = false) : s.reloadsOver = s := if_neg (by simp [h])

theorem reloadDone_passed (h : s.upd.loading = some n) (hn : n ≠ 1) (htrial : s.update.state = .trial) (hmore : 2 ≤ s.upd.reloads.length) :
    reloadDone true s = { s with upd := { s.upd with
      loading := none, tried := false, endMt := s.mt, reloads := s.upd.reloads.drop 1, done := s.upd.done ++ [n] } } := by
  have hleft : (s.upd.reloads.drop 1).isEmpty = false := by
    rw [List.isEmpty_eq_false_iff, ← List.length_pos_iff_ne_nil, List.length_drop]
    omega
  simp only [reloadDone, h, if_true, htrial, State.reloadEnd_other hn]
  exact State.reloadsOver_more hleft

theorem reloadDone_retried (h : s.upd.loading = some n) (hfirst : s.upd.tried = false) :
    reloadDone false s = { s with upd := { s.upd with tried := true } } := by
  simp [reloadDone, h, hfirst]

/-- The second failure of a reload in TRIAL begins the revert. -/
theorem reloadDone_reverts (h : s.upd.loading = some n) (hn : n ≠ 1) (hsecond : s.upd.tried = true) (htrial : s.update.state = .trial) :
    reloadDone false s = { s with upd := { s.upd with
      loading := none, tried := false, endMt := s.mt, reloads := [], done := s.upd.done ++ [n], step := 4, stepMt := s.mt, waited := false
      reverting := true, why := 0x0E17 } } := by
  simp [reloadDone, h, hsecond, htrial, State.reloadEnd_other hn, State.startRevert]

/-- A reload that changes no register brings no island down. -/
theorem exec_reloadDone_of_regs {t : State} {ok : Bool} (h : reloadDone ok s = t) (hregs : t.regs = s.regs) :
    exec (.reloadDone ok) s = .next t := by
  subst h
  exact congrArg Host.Outcome.next (State.failHooks_same _ _ hregs)

end

/-! ## Confirm, revert and abort as commands (R421, R422) -/

section
variable {s : State}

theorem updConfirmOp_outside (ok : Bool) (h : s.update.state ≠ .trial) : updConfirmOp ok s = mbFail s .upd 0x0E0C := if_pos h

theorem updRevertOp_outside (h : s.update.state ≠ .trial) : updRevertOp s = mbFail s .upd 0x0E0C := if_pos h

theorem updRevertOp_starts (h : s.update.state = .trial) (hstandby : s.standbyReady = true) :
    updRevertOp s = mbOk (s.startRevert 0x0E13) [] := by
  rw [updRevertOp, if_neg (by simp [h]), if_neg (by simp [hstandby])]

theorem updConfirmOp_confirms (h : s.update.state = .trial) (hnand : s.nandUp = true) :
    updConfirmOp true s =
      let r := s.update.running
      let s1 := (({ s with update := { s.update with floor := max s.update.floor (s.fwSlot r).sv, trials := 0 } }.setRole r .running).setRole
        (1 - r) .previous).updTo .idle
      let s2 := ({ s1 with vault := { s1.vault with fallback := none }, upd := { s1.upd with step := 0, reverting := false } }).copyBank
      let s4 := ((if s2.standbyReady then s2.standbyLoads r else s2).event F.UPD_EVT_CONFIRMED).updEntry 0x0008 r 0
      mbOk (if s4.update.cold then (s4.reason .upd 0).forwardReseal
        else { s4 with update := { s4.update with pending := true } }.reason .upd 0x0E16) [] := by
  rw [updConfirmOp, if_neg (by simp [h]), if_neg (by simp [hnand])]

theorem updAbortOp_empties (h : s.update.state = .download ∨ s.update.state = .verify ∨ s.update.state = .ready) :
    updAbortOp s =
      let s2 := ((s.updEntry 0x000A s.update.target 0x0E18).setFwSlot s.update.target ⟨.empty, 0, [], []⟩).updTo .idle
      mbOk ({ s2 with update := { s2.update with confirmNext := false, next := 0 } }.reason .upd 0x0E18) [] := by
  have hactive : ¬s.update.state = .activate := by
    rintro hstate
    simp [hstate] at h
  rw [updAbortOp, if_neg (by obtain h | h | h := h <;> simp [h]), if_neg hactive]

end

/-! ## The revert (R421) -/

theorem State.slotIn_spec {s : State} {r : SlotRole} {k : Nat} (h : s.slotIn r = some k) : k < 2 ∧ (s.fwSlot k).role = r := by
  have hmem := List.mem_of_find?_eq_some h
  refine ⟨?_, by simpa using List.find?_some h⟩
  simp only [List.mem_cons, List.not_mem_nil, or_false] at hmem
  omega

/-- Journaling settings leaves the update. -/
theorem foldl_settingEntry_update (l : List (Nat × Nat)) (f : Nat × Nat → Nat) (s : State) :
    (l.foldl (fun t x => t.settingEntry x.1 x.2 (f x) 2) s).update = s.update := by
  induction l generalizing s with
  | nil => rfl
  | cons x l ih => exact (ih _).trans (s.journal_update ..)

theorem State.restoreBank_update (s : State) : s.restoreBank.update = { s.update with fresh := false } := by
  unfold State.restoreBank
  split
  · rfl
  · dsimp only
    rw [foldl_settingEntry_update]

/-- The slots after a revert: slot `f` runs, slot `t` is the previous image. -/
def State.revertSlots (s : State) (f t : Nat) : List FwSlot := ((s.setRole f .running).setRole t .previous).update.slots

section
variable {s : State} {f t : Nat} (why : Nat) (hf : s.slotIn .fallback = some f) (ht : s.slotIn .trial = some t)
include hf ht

theorem State.doRevert_update : (s.doRevert why).update = { s.update with
    slots := s.revertSlots f t, state := .idle, trials := 0, running := f, cold := false, fresh := false } := by
  simp only [State.doRevert, hf, ht, State.reason_update, State.event_update, State.bump_update, State.updEntry_update,
    State.restoreBank_update]
  rfl

theorem State.doRevert_roles (hlen : s.update.slots.length = 2) :
    ((s.doRevert why).fwSlot f).role = .running ∧ ((s.doRevert why).fwSlot t).role = .previous := by
  obtain ⟨hf2, hfrole⟩ := State.slotIn_spec hf
  obtain ⟨ht2, htrole⟩ := State.slotIn_spec ht
  have hne : f ≠ t := by
    rintro rfl
    exact absurd (hfrole.symm.trans htrole) (by decide)
  have hslots : (s.doRevert why).update.slots = ((s.setRole f .running).setRole t .previous).update.slots := by
    rw [State.doRevert_update why hf ht]
    rfl
  rw [State.fwSlot_of_slots hslots, State.fwSlot_of_slots hslots]
  exact ⟨(State.role_setRole_other _ _ hne).trans (State.role_setRole_same _ _ (by omega)),
    State.role_setRole_same _ _ (by rw [State.setRole_length]; omega)⟩

theorem State.doRevert_reason : (s.doRevert why).get F.UPD_REASON_REASON = why % 65536 := by
  simp only [State.doRevert, hf, ht]
  exact State.get_put_same _ _ _ (by decide) (by decide)

end

/-! ## The seal level of the NAND under a journal entry -/

theorem State.drainPage_sealS (s : State) : s.drainPage.nand.sealS = s.nand.sealS := by
  have hdropped : s.dropIntervals.nand.sealS = s.nand.sealS := by
    unfold State.dropIntervals
    dsimp only
    split <;> rfl
  unfold State.drainPage
  split
  · rfl
  · split
    · rfl
    · exact hdropped

theorem State.commitEntry_sealS (s : State) (type reason src flags mt : Nat) (body : Bytes) :
    (s.commitEntry type reason src flags mt body).nand.sealS = s.nand.sealS := by
  unfold State.commitEntry
  dsimp only
  rw [State.statusCopy_nand, State.tailMirror_nand, State.refreshWarn_nand]
  split
  · split <;> exact s.drainPage_sealS
  · split <;> rfl

theorem State.journal_sealS (s : State) (type reason : Nat) (u : Subsys) (flags : Nat) (body : Bytes) :
    (s.journal type reason u flags body).nand.sealS = s.nand.sealS := by
  unfold State.journal
  split
  · exact s.commitEntry_sealS ..
  · rfl

/-! ## The forward reseal (R424) -/

section
variable {s : State}

theorem State.forwardReseal_open {g : Generation} (hvault : s.vaultUp = true) (hnand : s.nandUp = true) (hring : s.vault.keyring = some g)
    (hold : g.s < s.sys.sv) :
    s.forwardReseal = { s with
      vault := { s.vault with keyring := some (sealGeneration (g.number + 1) g.epoch s.sys.sv g.records) }
      update := { s.update with
        pending := false, resealing := true, blocks := if s.update.resealing then s.update.blocks else 0 } }.refreshKeys := by
  rw [State.forwardReseal, if_neg (by simp [hvault, hnand]), hring]
  dsimp only
  rw [if_pos hold]

theorem State.dueReseal_ends (h : s.update.resealing = true) (hall : resealBlocks ≤ s.update.blocks) : s.dueReseal = s.resealEnd := by
  rw [State.dueReseal, if_neg (by simp [h]), if_pos hall]

theorem State.resealEnd_shows (s : State) :
    s.resealEnd.update.resealing = false ∧ s.resealEnd.nand.sealS = max s.nand.sealS s.sys.sv ∧ s.resealEnd.get F.UPD_EVT_RESEALED = 1 := by
  refine ⟨?_, State.journal_sealS .., ?_⟩
  · rw [State.resealEnd, State.updEntry_update]
    rfl
  · obtain ⟨hregs, -, -⟩ := State.journal_work _ 0x0E01 0 .upd 0 _
    exact (State.get_of_reg (hregs _ (by decide))).trans (State.get_put_same _ _ 1 (by decide) (by decide))

theorem State.dueReseal_requests (h : s.update.resealing = true) (hmore : s.update.blocks < resealBlocks) (hawake : s.pwr.standby = false)
    (hwrites : s.nandWrites = true) (hdue : s.sto.resealAt ≤ s.mt) (hqueue : s.sto.queue = []) : s.dueReseal = s.request .reseal := by
  rw [State.dueReseal, if_neg (by simp [h]), if_neg (by omega), if_neg (by simp [hawake, hwrites, hdue, hqueue])]

/-- A relocation that waits alone waits for no class above its own. -/
theorem State.waits_reseal_alone (h : s.sto.queue = []) {k : Nat} (hk : k < 5) (d : Nat) : (s.withQueued .reseal).waits d k = s.waits d k := by
  have hclass : (5 == k) = false := by rw [beq_eq_false_iff_ne]; omega
  have hqueue : (s.withQueued .reseal).sto.queue.any (fun r => (s.withQueued .reseal).reqClassSto r == k
      && ((s.withQueued .reseal).reqDies r).contains d && (s.withQueued .reseal).rateFree r) = false := by
    simp [State.withQueued, State.reqClassSto, hclass]
  rw [State.waits, hqueue, State.waits, h]
  rfl

/-- A relocation that waits alone takes its slots as if it did not wait. -/
theorem State.takes_reseal_alone (h : s.sto.queue = []) : (s.withQueued .reseal).takes .reseal = s.takes .reseal := by
  have hturn : ∀ d, (s.withQueued .reseal).dieTurn d 5 = s.dieTurn d 5 := fun d => by
    simp only [State.dieTurn_lowest, State.waits_reseal_alone h (by decide : 0 < 5), State.waits_reseal_alone h (by decide : 1 < 5),
      State.waits_reseal_alone h (by decide : 2 < 5), State.waits_reseal_alone h (by decide : 3 < 5),
      State.waits_reseal_alone h (by decide : 4 < 5)]
    rfl
  exact congrArg (fun f => (s.reqDies .reseal).all f) (funext hturn)

/-- A relocated block is counted, and the next one is due 32,768 us later; beside that only the NAND changes. -/
theorem State.resealBlock_frame (s : State) : s.resealBlock = { s with
    nand := s.resealBlock.nand, update := { s.update with blocks := s.update.blocks + 1 }, sto := { s.sto with resealAt := s.mt + 32768 } } := by
  have hfold (l : List Nat) (u : State) :
      l.foldl (fun (t : State) d => t.setDie d { t.die d with erases := (t.die d).erases + 1 }) u
        = { u with nand := (l.foldl (fun (t : State) d => t.setDie d { t.die d with erases := (t.die d).erases + 1 }) u).nand } := by
    induction l generalizing u with
    | nil => rfl
    | cons d l ih =>
      rw [List.foldl_cons, ih]
      rfl
  rw [State.resealBlock, hfold]

theorem State.dueReseal_relocates (h : s.update.resealing = true) (hmore : s.update.blocks < resealBlocks) (hawake : s.pwr.standby = false)
    (hwrites : s.nandWrites = true) (hdue : s.sto.resealAt ≤ s.mt) (hqueue : s.sto.queue = []) (hturn : s.takes .reseal = true) :
    ∃ nand, s.dueReseal = { s with
      nand := nand, update := { s.update with blocks := s.update.blocks + 1 }, sto := { s.sto with resealAt := s.mt + 32768 } } := by
  rw [State.dueReseal_requests h hmore hawake hwrites hdue hqueue,
    State.request_of_taken hqueue ((State.takes_reseal_alone hqueue).trans hturn)]
  obtain ⟨hserved, -⟩ := s.servedOn_servedKept (s.reqDies .reseal) 5
  change ∃ nand, (s.servedOn (s.reqDies .reseal) 5).resealBlock = _
  rw [hserved, State.resealBlock_frame]
  exact ⟨_, rfl⟩

end

/-- Settles O54: each command by the lemma of the case it is in; the revert and the reseal by what they leave. -/
theorem trialsConfirmOrRevert : Obligations.TrialsConfirmOrRevert := by
  unfold Obligations.TrialsConfirmOrRevert
  refine ⟨fun s n rest h hidle hrev hready hgap hisland => congrArg _ (satelliteReload_starts h hidle hrev hready hgap hisland),
    fun s n rest h hready => congrArg _ (satelliteReload_unready h hready),
    fun s h => congrArg _ (satelliteReload_none h),
    fun s n h hn htrial hmore => exec_reloadDone_of_regs (reloadDone_passed h hn htrial hmore) rfl,
    fun s n h hfirst => exec_reloadDone_of_regs (reloadDone_retried h hfirst) rfl,
    fun s n h hn hsecond htrial => exec_reloadDone_of_regs (reloadDone_reverts h hn hsecond htrial) rfl,
    fun s env h htrial hnand hstore => ?_,
    fun s env h hstate => next_mailboxCommand h (updConfirmOp_outside env.storeOk hstate),
    fun s h htrial hstandby => next_mailboxCommand h (updRevertOp_starts htrial hstandby),
    fun s h hstate => next_mailboxCommand h (updRevertOp_outside hstate),
    fun s h hstate => next_mailboxCommand h (updAbortOp_empties hstate),
    fun s why f t hf ht hlen => ?_, fun s g hvault hnand hring hold => ?_,
    fun s h hall => ?_, fun s h hmore hawake hwrites hdue hqueue hturn => ?_⟩
  · refine next_mailboxCommand (op := updConfirmOp env.storeOk) h ?_
    rw [hstore]
    exact updConfirmOp_confirms htrial hnand
  · obtain ⟨hrunning, hprevious⟩ := State.doRevert_roles why hf ht hlen
    refine ⟨?_, hrunning, hprevious, ?_, State.doRevert_reason why hf ht⟩ <;> rw [State.doRevert_update why hf ht]
  · rw [State.forwardReseal_open hvault hnand hring hold]
    exact ⟨State.refreshKeys_keyring _, by rw [State.refreshKeys_regsOnly]⟩
  · rw [State.dueReseal_ends h hall]
    exact s.resealEnd_shows
  · obtain ⟨nand, hafter⟩ := State.dueReseal_relocates h hmore hawake hwrites hdue hqueue hturn
    rw [hafter]
    exact ⟨rfl, rfl, rfl, rfl⟩

end Sys2Proof.Machine
end

section
/-! SUPPORT. SPI frames (R432 to R439): the order in which a frame is judged, and what a frame that passes does. -/
namespace Sys2Proof.Machine

open Sys2Proof

-- One declaration after another: checking many at a time takes more memory than the text may use.
set_option Elab.async false

/-! ## Counts and ranges -/

theorem spiCount_of_le {len : Nat} (h : len ≤ 1024) : spiCount len = len := if_neg (by omega)

theorem rangeCheck_aligned {addr n : Nat} (h : rangeCheck addr n = 0) : addr % 4 = 0 := by
  by_contra hne
  rw [rangeCheck, if_pos hne] at h
  omega

/-- Checks 4 and 5 of R436, one after the other. -/
theorem rangeCheck_eq (addr n : Nat) : rangeCheck addr n = if addr % 4 ≠ 0 then 0x1003
    else match regionOf addr with
      | none => 0x1005
      | some g => if regionOf (addr + 4 * n - 1) ≠ some g then 0x1005 else 0 := by
  unfold rangeCheck
  split
  · rfl
  · rcases regionOf addr with _ | g
    · rfl
    · rcases regionOf (addr + 4 * n - 1) with _ | k
      · rfl
      · by_cases hk : g = k
        · simp [hk]
        · simp [hk, Ne.symm hk]

/-! ## The judgement of a frame (R436) -/

section
variable {s : State} {write : State → State × Bool} {op tag addr len : Nat} {data : List Word} {crc : Word}

/-- A frame is cut before its request CRC. -/
abbrev frameCut (op len : Nat) (data : List Word) : Prop := op = 2 ∧ spiCount len ≤ 1024 ∧ data.length < spiCount len

theorem spiFrame_cut (hup : s.spiReceives = true) (hcut : frameCut op len data) : spiFrame write op tag addr len data crc s = s := by
  obtain ⟨hop, hcount, hshort⟩ := hcut
  unfold spiFrame
  rw [if_neg (by simp [hup]), if_pos (by simp [hop, hcount, hshort])]

theorem spiFrame_repeated (hup : s.spiReceives = true) (hwhole : ¬frameCut op len data)
    (hlast : s.hif.lastFrame = some (spiHeader op tag addr, crc)) {k : Nat} {r : List Word}
    (hstored : s.hif.stored.find? (fun x => x.1 == tag) = some (k, r)) : spiFrame write op tag addr len data crc s = s.miso s.intPend r := by
  unfold spiFrame
  rw [if_neg (by simp [hup]), if_neg (by simpa [frameCut] using hwhole), if_pos hlast, hstored]

/-- A frame that is whole and not a repeat: its CRC, the checks of its header, its execution. -/
theorem spiFrame_fresh (hup : s.spiReceives = true) (hwhole : ¬frameCut op len data)
    (hlast : s.hif.lastFrame ≠ some (spiHeader op tag addr, crc)) :
    spiFrame write op tag addr len data crc s
      = if crc ≠ spiCrc (spiHeader op tag addr :: BitVec.ofNat 32 len :: data) then s.spiReject s.intPend tag 0x1001
        else if s.frameCheck op tag addr len ≠ 0 then s.spiReject s.intPend tag (s.frameCheck op tag addr len)
        else s.spiExecute write op tag addr len (spiHeader op tag addr, crc) := by
  unfold spiFrame
  rw [if_neg (by simp [hup]), if_neg (by simpa [frameCut] using hwhole), if_neg hlast]

theorem spiFrame_badCrc (hup : s.spiReceives = true) (hwhole : ¬frameCut op len data)
    (hlast : s.hif.lastFrame ≠ some (spiHeader op tag addr, crc))
    (hcrc : crc ≠ spiCrc (spiHeader op tag addr :: BitVec.ofNat 32 len :: data)) :
    spiFrame write op tag addr len data crc s = s.spiReject s.intPend tag 0x1001 := by
  rw [spiFrame_fresh hup hwhole hlast, if_pos hcrc]

theorem spiFrame_rejected (hup : s.spiReceives = true) (hwhole : ¬frameCut op len data)
    (hlast : s.hif.lastFrame ≠ some (spiHeader op tag addr, crc))
    (hcrc : crc = spiCrc (spiHeader op tag addr :: BitVec.ofNat 32 len :: data)) (hcheck : s.frameCheck op tag addr len ≠ 0) :
    spiFrame write op tag addr len data crc s = s.spiReject s.intPend tag (s.frameCheck op tag addr len) := by
  rw [spiFrame_fresh hup hwhole hlast, if_neg (not_not.mpr hcrc), if_pos hcheck]

theorem spiFrame_executed (hup : s.spiReceives = true) (hwhole : ¬frameCut op len data)
    (hlast : s.hif.lastFrame ≠ some (spiHeader op tag addr, crc))
    (hcrc : crc = spiCrc (spiHeader op tag addr :: BitVec.ofNat 32 len :: data)) (hcheck : s.frameCheck op tag addr len = 0) :
    spiFrame write op tag addr len data crc s = s.spiExecute write op tag addr len (spiHeader op tag addr, crc) := by
  rw [spiFrame_fresh hup hwhole hlast, if_neg (not_not.mpr hcrc), if_neg (not_not.mpr hcheck)]

/-! ## The checks by OP -/

theorem State.frameCheck_reserved (s : State) (h : 4 ≤ op) : s.frameCheck op tag addr len = 0x1004 := if_pos h

/-- A NOP of one word in range. -/
theorem State.frameCheck_nop (s : State) (h : rangeCheck addr 1 = 0) : s.frameCheck 0 tag addr 1 = 0 := by
  have hone : spiCount 1 = 1 := rfl
  simp [State.frameCheck, hone, h, rangeCheck_aligned h]

/-- A RESULT of one word in range names a TAG with a stored response. -/
theorem State.frameCheck_result (s : State) (h : rangeCheck addr 1 = 0) :
    s.frameCheck 3 tag addr 1 = if s.hif.stored.any (fun x => x.1 == tag) then 0 else 0x1006 := by
  have hone : spiCount 1 = 1 := rfl
  cases hstored : s.hif.stored.any (fun x => x.1 == tag) <;> simp only [State.frameCheck, hone, h, rangeCheck_aligned h, hstored] <;> rfl

theorem State.frameCheck_access (s : State) (w : Bool) (tag addr len : Nat) : s.frameCheck (if w then 2 else 1) tag addr len
    = if spiCount len = 0 ∨ 1024 < spiCount len then 0x1002 else s.accessCheck w addr (spiCount len) := by
  cases w <;> simp [State.frameCheck]

/-- Checks 4 to 8 of R436, one after the other. -/
theorem State.accessCheck_eq (s : State) (w : Bool) (addr n : Nat) : s.accessCheck w addr n
    = if addr % 4 ≠ 0 then 0x1003
      else match regionOf addr with
        | none => 0x1005
        | some g =>
          if regionOf (addr + 4 * n - 1) ≠ some g then 0x1005
          else if s.accessOk w g (accessWords addr n) = false then 0x0131
          else if w = true ∧ g = .mbIn ∧ s.flag F.HIF_MB_IN_STAT_IN_FREE = false then 0x1007
          else if w = false ∧ g = .window ∧ s.sto.window.loading = true then 0x0C0E else 0 := by
  rw [State.accessCheck, rangeCheck_eq]
  by_cases halign : addr % 4 ≠ 0
  · simp [halign]
  · rw [if_neg halign]
    rcases hregion : regionOf addr with _ | g
    · simp [halign]
    · by_cases hend : regionOf (addr + 4 * n - 1) = some g
      · simp [halign, hend, and_assoc]
      · simp [halign, hend]

/-! ## Execution by OP -/

theorem State.spiExecute_nop (s : State) (key : Word × Word) :
    s.spiExecute write 0 tag addr len key = s.spiDone s.intPend tag key (spiResponse tag 0 0 []) := rfl

theorem State.spiExecute_read (s : State) (key : Word × Word) (h : len ≤ 1024) :
    s.spiExecute write 1 tag addr len key
      = (readWords len addr s).1.spiDone s.intPend tag key (spiResponse tag 0 0 (readWords len addr s).2) := by
  rw [State.spiExecute, spiCount_of_le h]
  rfl

theorem State.spiExecute_write (s : State) (key : Word × Word) (h : (write s).2 = false) :
    s.spiExecute write 2 tag addr len key = (write s).1.spiDone s.intPend tag key (spiResponse tag 0 0 []) := by
  rw [State.spiExecute, if_neg (by decide), if_neg (by decide), if_pos rfl]
  exact if_neg (by simp [h])

theorem State.spiExecute_result (s : State) (key : Word × Word) {k : Nat} {r : List Word}
    (h : s.hif.stored.find? (fun x => x.1 == tag) = some (k, r)) :
    s.spiExecute write 3 tag addr len key = s.spiDone s.intPend tag key r := by
  rw [State.spiExecute, if_pos rfl, h]

end

/-! ## Rejection (R436) -/

/-- A rejected frame writes nothing and is not stored. -/
theorem State.spiReject_frame (s : State) (pend tag code : Nat) : (s.spiReject pend tag code).hif.stored = s.hif.stored
    ∧ keepsFields s (s.spiReject pend tag code) [F.HIF_SPI_CNT_REJECTED, F.HIF_SPI_CNT_CRC_ERR, F.HIF_REASON_REASON, F.HIF_EVT_SPI_ERR]
    ∧ s.spiReject pend tag code = { s with regs := (s.spiReject pend tag code).regs, hif := (s.spiReject pend tag code).hif } := by
  have hkept {u : State} (h : keepsFields s u [F.HIF_SPI_CNT_REJECTED, F.HIF_SPI_CNT_CRC_ERR, F.HIF_REASON_REASON, F.HIF_EVT_SPI_ERR]) :
      keepsFields s ((u.reason .hif code).event F.HIF_EVT_SPI_ERR)
        [F.HIF_SPI_CNT_REJECTED, F.HIF_SPI_CNT_CRC_ERR, F.HIF_REASON_REASON, F.HIF_EVT_SPI_ERR] := h.reason.event
  have hcounted := (keepsFields_refl s
    [F.HIF_SPI_CNT_REJECTED, F.HIF_SPI_CNT_CRC_ERR, F.HIF_REASON_REASON, F.HIF_EVT_SPI_ERR]).bump (f := F.HIF_SPI_CNT_REJECTED)
  unfold State.spiReject
  dsimp only
  split
  · exact ⟨rfl, (hkept (hcounted.bump (f := F.HIF_SPI_CNT_CRC_ERR))).set, rfl⟩
  · exact ⟨rfl, (hkept hcounted).set, rfl⟩

/-- Settles O55: each frame by where its judgement ends. -/
theorem spiFramesAreCheckedAndAnswered : Obligations.SpiFramesAreCheckedAndAnswered := by
  unfold Obligations.SpiFramesAreCheckedAndAnswered
  have hself (len : Word) : BitVec.ofNat 32 len.toNat = len := by simp
  have hnone {op len : Nat} (h : op ≠ 2) : ¬frameCut op len [] := fun hcut => h hcut.1
  have hwhole {len : Nat} {data : List Word} (h : spiCount len ≤ data.length) : ¬frameCut 2 len data :=
    fun hcut => absurd hcut.2.2 (by omega)
  have hcount {s : State} {w : Bool} {tag addr len : Nat} (h1 : 1 ≤ len) (h1024 : len ≤ 1024) :
      s.frameCheck (if w then 2 else 1) tag addr len = s.accessCheck w addr len := by
    rw [State.frameCheck_access, spiCount_of_le h1024, if_neg (by omega)]
  refine ⟨fun s tag addr crc hup hrange hlast hcrc => congrArg _
      ((spiFrame_executed hup (hnone (by decide)) hlast hcrc (s.frameCheck_nop hrange)).trans (s.spiExecute_nop _)),
    fun s op tag addr len crc hup hop hlast hcrc => ?_,
    fun s tag addr len crc hup hlast hcrc => congrArg _ (spiFrame_badCrc hup (hnone (by decide)) hlast (by rwa [hself])),
    fun s tag addr len crc hup h1 h1024 hlast hcrc hcheck => congrArg _ ((spiFrame_executed hup (hnone (by decide)) hlast
      (by rwa [hself]) ((hcount (w := false) h1 h1024).trans hcheck)).trans (s.spiExecute_read _ h1024)),
    fun s tag addr len crc hup h1 h1024 hlast hcrc hcheck => ?_,
    fun s tag addr len crc data env hup h1 h1024 hlen hlast hcrc hcheck hwrite => ?_,
    fun s tag addr crc k r hup hrange hlast hcrc hstored => congrArg _ ((spiFrame_executed hup (hnone (by decide)) hlast hcrc ?_).trans
      (s.spiExecute_result _ hstored)),
    fun s tag addr crc hup hrange hlast hcrc hempty => ?_,
    fun s tag addr len crc data env k r hup hcut hlast hstored => congrArg _ (spiFrame_repeated hup (hwhole hcut) hlast hstored),
    fun s tag addr len crc data env hup h1024 hshort => congrArg _ (spiFrame_cut hup
      ⟨rfl, by rwa [spiCount_of_le h1024], by rwa [spiCount_of_le h1024]⟩),
    fun s tag addr len crc data env hup hcut hlast =>
      ⟨fun hcrc => congrArg _ (spiFrame_badCrc hup (hwhole hcut) hlast (by rwa [hself])),
       fun hcrc hcheck => congrArg _ (spiFrame_rejected hup (hwhole hcut) hlast (by rwa [hself]) hcheck)⟩,
    fun s w tag addr len => (s.frameCheck_access w tag addr len).trans
      (congrArg (fun c => if spiCount len = 0 ∨ 1024 < spiCount len then 0x1002 else c) (s.accessCheck_eq w addr (spiCount len))), fun s pend tag code => s.spiReject_frame pend tag code⟩
  · have hout := spiFrame_rejected (write := noWrite) hup (hnone (len := len.toNat) (by omega)) hlast (by rwa [hself])
      (by rw [State.frameCheck_reserved s hop]; decide)
    rw [State.frameCheck_reserved s hop] at hout
    refine congrArg Host.Outcome.next (.trans ?_ hout)
    rw [if_neg (by simp; omega)]
  · have hout := spiFrame_rejected (write := noWrite) hup (hnone (len := len.toNat) (by decide)) hlast (by rwa [hself])
      (by rwa [← hcount (w := false) (tag := tag.toNat) h1 h1024] at hcheck)
    exact congrArg _ (hout.trans (by rw [show s.frameCheck 1 _ _ _ = _ from hcount (w := false) h1 h1024]))
  · have htake : data.take (spiCount len.toNat) = data := by rw [spiCount_of_le h1024, ← hlen, List.take_length]
    have hout := spiFrame_executed (write := writeWords env (data.map BitVec.toNat) addr.toNat) hup
      (hwhole (by rw [spiCount_of_le h1024, hlen])) hlast (by rwa [hself]) ((hcount (w := true) h1 h1024).trans hcheck)
    refine congrArg Host.Outcome.next (.trans ?_ (hout.trans (s.spiExecute_write _ hwrite)))
    rw [htake]
  · rw [s.frameCheck_result hrange, List.any_eq_true.mpr
      ⟨_, List.mem_of_find?_eq_some hstored, List.find?_some hstored⟩, if_pos rfl]
  · have hcode : s.frameCheck 3 tag.toNat addr.toNat 1 = 0x1006 := by
      rw [s.frameCheck_result hrange, hempty]
      rfl
    have hout := spiFrame_rejected (write := noWrite) (len := 1) hup (hnone (by decide)) hlast hcrc (by rw [hcode]; decide)
    rw [hcode] at hout
    exact congrArg _ hout

end Sys2Proof.Machine
end

section
/-! SUPPORT. Mailbox messages (R440 to R447): how segments join, how a complete message waits and runs, how its response leaves, and what the
SYS commands answer. -/
namespace Sys2Proof.Machine

open Sys2Proof

-- One declaration after another: checking many at a time takes more memory than the text may use.
set_option Elab.async false

/-! ## What an answer touches of the host interface -/

/-- Responses waiting or sent: all that an answer changes of the host interface. -/
def Hif.sameButResponses (g h : Hif) : Prop :=
  h = { g with outBuf := h.outBuf, spiResp := h.spiResp, spiFirst := h.spiFirst, busSent := h.busSent, busResp := h.busResp }

theorem State.placeOut_hif (s : State) : s.hif.sameButResponses s.placeOut.hif := by
  unfold State.placeOut
  split
  · rfl
  · split <;> rfl

theorem State.deliver_hif (s : State) (t : Transport) (src : Nat) (m : Bytes) : s.hif.sameButResponses (s.deliver t src m).hif := by
  have hbus (t : Transport) : s.hif.sameButResponses (if s.busUp t
      then ({ s with hif := { s.hif with busSent := some (t, busPayloads t m) } } : State)
      else { s with hif := { s.hif with busResp := s.hif.busResp ++ [⟨t, m, s.mt, src⟩] } }).hif := by
    split <;> rfl
  cases t with
  | spi => exact State.placeOut_hif { s with hif := { s.hif with spiResp := s.hif.spiResp ++ [m] } }
  | can0 => exact hbus .can0
  | can1 => exact hbus .can1
  | t1s => exact hbus .t1s

theorem State.answer_hif (s : State) (c : MbCmd) (reason : Nat) (out : Bytes) : s.hif.sameButResponses (s.answer c reason out).hif := by
  unfold State.answer
  dsimp only
  split <;> exact State.deliver_hif _ _ _ _

/-- Answering several commands leaves the queue and the command that executes. -/
theorem foldl_answer_hif (code : Nat) (l : List MbCmd) (s : State) :
    (l.foldl (fun (t : State) c => t.answer c code []) s).hif.queue = s.hif.queue
    ∧ (l.foldl (fun (t : State) c => t.answer c code []) s).hif.executing = s.hif.executing := by
  induction l generalizing s with
  | nil => exact ⟨rfl, rfl⟩
  | cons c l ih =>
    obtain ⟨hqueue, hexec⟩ := ih (s.answer c code [])
    have hanswer := s.answer_hif c code []
    exact ⟨hqueue.trans (by rw [hanswer]), hexec.trans (by rw [hanswer])⟩

/-! ## Segments (R441) -/

section
variable {s : State} {t : Transport}

/-- A segment that closes its message to the length that its header gives. -/
theorem State.joinSegment_whole {p : Partial} {seg : Bytes} (htrim : trimPadding t p.bytes seg = seg)
    (hmax : msgInLen (p.bytes ++ seg) ≤ 66560) (hlen : (p.bytes ++ seg).length = 16 + msgInLen (p.bytes ++ seg)) :
    s.joinSegment t p true seg = (s.setPartial t none).enqueue ⟨t, p.bytes ++ seg, p.src⟩ := by
  simp only [State.joinSegment, if_true, htrim]
  rw [if_neg (by simp [-List.length_append]; omega)]

/-- A segment in sequence that leaves the header incomplete. -/
theorem State.joinSegment_short {p : Partial} {seg : Bytes} (hshort : (p.bytes ++ seg).length < 16) :
    s.joinSegment t p false seg = s.setPartial t (some { p with bytes := p.bytes ++ seg, seq := (p.seq + 1) % seqModulus t }) := by
  simp only [State.joinSegment, Bool.false_eq_true, if_false]
  rw [if_neg (by simp [-List.length_append, Nat.not_le.mpr hshort])]

theorem State.segment_alone {last : Bool} {seq src : Nat} {seg : Bytes} (h : s.partial? t = none) :
    s.segment t false last seq seg src = s.refuseMessage := by
  simp only [State.segment, h, Bool.false_eq_true, if_false]

theorem State.segment_next {last : Bool} {seq src : Nat} {seg : Bytes} {p : Partial} (h : s.partial? t = some p) :
    s.segment t false last seq seg src = if seq ≠ p.seq then (s.setPartial t none).refuseMessage else s.joinSegment t p last seg := by
  simp only [State.segment, h, Bool.false_eq_true, if_false]

theorem State.segment_first {last : Bool} {src : Nat} {seg : Bytes} (h : s.partial? t = none) :
    s.segment t true last 0 seg src = s.joinSegment t ⟨[], 0, src⟩ last seg := by
  simp [State.segment, h]

/-- The IN region taken, its copy out begun. -/
def State.inTaken (s : State) (n : Nat) : State :=
  { s.putFlag F.HIF_MB_IN_STAT_IN_FREE false with hif := { s.hif with inFreeAt := s.mt + min 120 (Config.inCopyUs s.mt n) } }

theorem hifMbRing_busy {w : Nat} (h : s.flag F.HIF_MB_IN_STAT_IN_FREE = false) :
    hifMbRing w s = (s.reason .hif 0x1007).event F.HIF_EVT_MB_REFUSED := if_pos (by simp [h])

/-- A whole message handed over in one segment. -/
theorem hifMbRing_whole {w : Nat} (hfree : s.flag F.HIF_MB_IN_STAT_IN_FREE = true) (hopen : s.partial? .spi = none)
    (hmin : 16 ≤ bits w 31 16) (hmax : bits w 31 16 ≤ 32768) (hfirst : Nat.testBit w 1 = true) (hlast : Nat.testBit w 0 = true)
    (hlen : bits w 31 16 = 16 + msgInLen (padTo (bits w 31 16) s.hif.inBuf)) :
    hifMbRing w s = ((s.inTaken (bits w 31 16)).setPartial .spi none).enqueue ⟨.spi, padTo (bits w 31 16) s.hif.inBuf, 0⟩ := by
  have hopened : (s.inTaken (bits w 31 16)).partial? .spi = none := hopen
  have hbytes : ([] ++ padTo (bits w 31 16) s.hif.inBuf).length = bits w 31 16 := length_padTo _ _
  have hwhole := State.joinSegment_whole (s := s.inTaken (bits w 31 16)) (t := .spi) (p := ⟨[], 0, 0⟩)
    (seg := padTo (bits w 31 16) s.hif.inBuf) rfl (by rw [List.nil_append]; omega)
    (by rw [hbytes]; exact hlen)
  unfold hifMbRing
  dsimp only
  rw [if_neg (by simp [hfree]), if_neg (by simp; omega), hopen, hfirst, hlast]
  exact (State.segment_first hopened).trans hwhole

theorem mailboxSegment_latched {payload : Bytes} {src : Nat} (hlatch : s.latching = true) (ht : t ≠ .spi) :
    mailboxSegment t payload src s = s.latch (.segment t payload src) := if_pos (by simp [hlatch, ht])

theorem mailboxSegment_can {payload : Bytes} {src : Nat} (ht : t = .can0 ∨ t = .can1) (hlatch : s.latching = false)
    (hup : s.mbReceives t = true) (hlen : payload.length = 64) :
    mailboxSegment t payload src s = s.segment t (Nat.testBit (u8 payload 0) 7) (Nat.testBit (u8 payload 0) 6)
      (u8 payload 0 % 64) (payload.drop 1) 0 := by
  have hcan : t ≠ .t1s := by rcases ht with rfl | rfl <;> decide
  rw [mailboxSegment, if_neg (by simp [hlatch]), mailboxSegmentNow, if_neg (by simp [hup]), if_neg hcan]
  exact if_neg (by simp [hlen])

theorem mailboxSegment_t1s {payload : Bytes} {src : Nat} (hlatch : s.latching = false) (hup : s.mbReceives .t1s = true)
    (hmin : 3 ≤ payload.length) (hmax : payload.length ≤ 1500) :
    mailboxSegment .t1s payload src s = s.segment .t1s (Nat.testBit (be payload 0 2) 15) (Nat.testBit (be payload 0 2) 14)
      (be payload 0 2 % 2 ^ 14) (payload.drop 2) src := by
  rw [mailboxSegment, if_neg (by simp [hlatch]), mailboxSegmentNow, if_neg (by simp [hup]), if_pos rfl]
  exact if_neg (by simp; omega)

end

/-! ## The queue (R442) -/

section
variable {s : State} {c : MbCmd}

theorem State.enqueue_room (h : s.hif.queue.length < 8) : s.enqueue c
    = { s with hif := { s.hif with queue := s.hif.queue ++ [c] } }.put F.HIF_STAT_MB_QUEUED (s.hif.queue.length + 1) := by
  rw [State.enqueue, if_neg (by omega)]
  dsimp only
  rw [List.length_append]
  rfl

theorem State.enqueue_full (h : 8 ≤ s.hif.queue.length) :
    s.enqueue c = ((s.reason .hif 0x1008).event F.HIF_EVT_MB_REFUSED).answer c 0x1008 [] := if_pos h

theorem mailboxCommand_waits {opcode : Nat} {input : Bytes} {op : State → MbRes} (hlen : input.length ≤ 66560)
    (hexec : s.hif.executing.isSome = true) : mailboxCommand opcode input op s = s.enqueue (mbCommand opcode input) := by
  rw [mailboxCommand, if_neg (by omega), if_pos (by simp [hexec])]
  rfl

theorem mbExecute_runs {env : Env} {rest : List MbCmd} (hqueue : s.hif.queue = c :: rest) (hexec : s.hif.executing = none)
    (hsupply : s.flag F.PWR_STAT_BROWNOUT = false) (hreset : s.hif.resetWait = none) (hblow : s.keys.blow = none) :
    mbExecute env s =
      let s1 := { s with hif := { s.hif with queue := rest } }.put F.HIF_STAT_MB_QUEUED rest.length
      if s1.groupOk c then s1.runAs c (opOf (msgOpcode c.message) (msgInput c.message) env) else s1.answer c 0x100B [] := by
  simp only [mbExecute, hqueue]
  rw [if_neg (by simp [hexec, hsupply, hreset, hblow])]
  cases (({ s with hif := { s.hif with queue := rest } }).put F.HIF_STAT_MB_QUEUED rest.length).groupOk c <;> rfl

theorem mbExecute_held {env : Env} (h : s.hif.executing.isSome = true ∨ s.keys.blow.isSome = true) : mbExecute env s = s := by
  unfold mbExecute
  split
  · rfl
  · exact if_pos (by obtain h | h := h <;> simp [h])

theorem State.mbGate_unknown {op n : Nat} (h : knownOpcode op = false) : s.mbGate op n = 0x100A := by
  simp only [State.mbGate, h, Bool.not_false, if_true]

theorem State.mbGate_provisioned {op n : Nat} (hknown : knownOpcode op = true) (hphase : s.phase = 0xB) (hop : provisionedOk op = false) :
    s.mbGate op n = 0x1015 := by
  simp only [State.mbGate, hknown, hphase, hop, Bool.not_true, Bool.false_eq_true, if_false]

theorem mbAbort_hif (s : State) : (mbAbort s).hif.queue = s.hif.queue.filter (fun c => c.transport != .spi)
    ∧ (mbAbort s).hif.executing = s.hif.executing := foldl_answer_hif 0x1014 _ _

end

/-! ## Responses (R445, R447) -/

section
variable {s : State}

theorem outAck_shown (hvalid : s.flag F.HIF_MB_OUT_STAT_VALID = true) (hreset : s.hif.resetWait = none) :
    outAck s = { s.setReg R.HIF_MB_OUT_STAT 0 with hif := { s.hif with outBuf := [] } }.placeOut := by
  have hnone : { s.setReg R.HIF_MB_OUT_STAT 0 with hif := { s.hif with outBuf := [] } }.placeOut.hif.resetWait = none := by
    rw [State.placeOut_hif]
    exact hreset
  unfold outAck
  rw [if_neg (by simp [hvalid])]
  simp only [State.ackReset, hnone]

theorem responseDrop_late (hreset : s.hif.resetWait = none) (hlate : s.hif.busResp.any (fun r => decide (r.readyMt + 10000000 ≤ s.mt)) = true) :
    responseDrop s = ({ s with hif := { s.hif with
      busResp := s.hif.busResp.filter (fun r => !decide (r.readyMt + 10000000 ≤ s.mt)) } }.reason .hif 0x100D).event F.HIF_EVT_RESP_DROPPED := by
  simp only [responseDrop, hlate, hreset, Bool.not_true, Bool.false_eq_true, if_false]

theorem responseDrop_none (h : s.hif.busResp.any (fun r => decide (r.readyMt + 10000000 ≤ s.mt)) = false) : responseDrop s = s := by
  simp only [responseDrop, h, Bool.not_false, if_true]

theorem responseDelivered_spi {w : ResetWait} {t : Nat} (hwait : s.hif.resetWait = some w) (hspi : w.transport = .spi)
    (hplaced : w.placedMt = some t) (hdue : t + 100000 ≤ s.mt) : responseDelivered s = s.resetSource w.source := by
  simp only [responseDelivered, hwait, hspi, hplaced, if_true, if_pos hdue]

theorem responseDelivered_none (h : s.hif.resetWait = none) : responseDelivered s = s := by
  simp only [responseDelivered, h]

/-- A response for a bus that is down is held. -/
theorem State.deliver_held {t : Transport} {src : Nat} {m : Bytes} (ht : t ≠ .spi) (hdown : s.busUp t = false) :
    s.deliver t src m = { s with hif := { s.hif with busResp := s.hif.busResp ++ [⟨t, m, s.mt, src⟩] } } := by
  cases t with
  | spi => exact absurd rfl ht
  | can0 => exact if_neg (by simp [hdown])
  | can1 => exact if_neg (by simp [hdown])
  | t1s => exact if_neg (by simp [hdown])

/-! ## REG_READ, REG_WRITE, RESET (R447) -/

theorem regReadOp_reads {addr count : Nat} (h1 : 1 ≤ count) (h1024 : count ≤ 1024) (hcheck : s.accessCheck false addr count = 0) :
    regReadOp addr count s = mbOk (readWords count addr s).1 ((readWords count addr s).2.flatMap (fun v => toLE 4 v)) := by
  rw [regReadOp, if_neg (by simp; omega)]
  exact if_neg (not_not.mpr hcheck)

theorem regWriteOp_writes {addr count : Nat} {values : List Nat} {env : Env} (h1 : 1 ≤ count) (h1024 : count ≤ 1024)
    (hlen : values.length = count) (hcheck : s.accessCheck true addr count = 0) (hgoes : (writeWords env values addr s).2 = false) :
    regWriteOp addr count values env s = mbOk (writeWords env values addr s).1 [] := by
  rw [regWriteOp, if_neg (by simp [hlen]; omega)]
  refine (if_neg (not_not.mpr hcheck)).trans ?_
  exact if_neg (by simp [hgoes])

theorem resetOp_key : resetOp 0x5A5A s = (s.finishReset 3 [], mbDeferred, []) := if_pos rfl

theorem resetOp_other {key : Nat} (h : key ≠ 0x5A5A) : resetOp key s = mbRefuse s 0x100C := if_neg h

end

/-- Settles O58: each command by the lemma of the case it is in. -/
theorem mailboxMessagesRun : Obligations.MailboxMessagesRun := by
  unfold Obligations.MailboxMessagesRun
  refine ⟨fun s w h => congrArg _ (hifMbRing_busy h),
    fun s w hfree hopen hmin hmax hfirst hlast hlen => congrArg _ (hifMbRing_whole hfree hopen hmin hmax hfirst hlast hlen),
    fun s c h => State.enqueue_room h, fun s c h => State.enqueue_full h,
    fun s t payload src ht hlatch hup hlen => congrArg _ (mailboxSegment_can ht hlatch hup hlen),
    fun s payload src hlatch hup hmin hmax => congrArg _ (mailboxSegment_t1s hlatch hup hmin hmax),
    fun s t payload src hlatch ht => congrArg _ (mailboxSegment_latched hlatch ht),
    fun s t seq last seg src p hp => ⟨fun hne => (State.segment_next hp).trans (if_pos hne),
      fun heq hshort => (State.segment_next hp).trans ((if_neg (not_not.mpr heq)).trans (State.joinSegment_short hshort))⟩,
    fun s t seq last seg src hp => State.segment_alone hp,
    fun s env c rest hqueue hexec hsupply hreset hblow => congrArg _ (mbExecute_runs hqueue hexec hsupply hreset hblow),
    fun s env h => congrArg _ (mbExecute_held h),
    fun s op n hknown hphase hop => State.mbGate_provisioned hknown hphase hop,
    fun s op n h => State.mbGate_unknown h,
    fun s hvalid hreset => congrArg _ (outAck_shown hvalid hreset),
    fun s => ⟨mbAbort s, rfl, mbAbort_hif s⟩,
    fun s hreset hlate => congrArg _ (responseDrop_late hreset hlate),
    fun s w t hwait hspi hplaced hdue => congrArg _ (responseDelivered_spi hwait hspi hplaced hdue),
    fun s h => congrArg _ (responseDelivered_none h), fun s h => congrArg _ (responseDrop_none h),
    fun s t src m ht hdown => State.deliver_held ht hdown, fun s src m => rfl,
    fun s addr count h h1 h1024 hcheck => next_mailboxCommand h (regReadOp_reads h1 h1024 hcheck),
    fun s addr values env h h1 h1024 hcheck hgoes => next_mailboxCommand h
      (regWriteOp_writes h1 h1024 (List.length_map _) hcheck hgoes),
    fun s h => congrArg Host.Outcome.next (mailboxCommand_defers _ _ _ _ _ _ (by decide) h resetOp_key),
    fun s key h hkey => next_mailboxCommand h (resetOp_other hkey),
    fun s data h => next_mailboxCommand (op := echoOp data) h rfl,
    fun s data hlen hexec _ => congrArg _ (mailboxCommand_waits hlen hexec)⟩

end Sys2Proof.Machine
end

section
/-! SUPPORT. The link wake (R439, R452): it comes whenever the link island is not in RUN, and shows in the idle time. -/
namespace Sys2Proof.Machine

open Sys2Proof

-- One declaration after another: checking many at a time takes more memory than the text may use.
set_option Elab.async false

/-- A link wake with the link island outside RUN restarts the idle time. -/
theorem State.linkWake_idleSince {s : State} (h : s.island 13 ≠ 2) : s.linkWake.pwr.idleSince = s.mt := by
  rw [State.linkWake, if_pos (by simp [h])]
  exact (State.raiseVote_mt ..).trans (State.raiseVote_mt ..)

/-- The shipped part 1 us on, with the link island in DOZE. -/
def linkDozing : State := { State.reset.setIsland 13 1 with mt := 1 }

/-- Refutes O59, by its last clause, at a link island in DOZE outside STANDBY: the clause has a falling edge of SPI_CS_N change nothing unless the
link island is in NAP, while one that dozes is asleep as well and is woken (R439, Table 14-3), which restarts the idle time. -/
theorem not_framesPassTheBuses : ¬ Obligations.FramesPassTheBuses := by
  rintro ⟨-, -, -, -, -, -, -, -, -, -, -, -, -, -, -, -, -, -, -, hawake⟩
  have hclause : linkDozing.linkWake = linkDozing := Host.Outcome.next.inj (hawake linkDozing (by decide) (by decide))
  have hmodel : linkDozing.linkWake.pwr.idleSince = 1 := State.linkWake_idleSince (by decide)
  rw [hclause] at hmodel
  exact absurd hmodel (by decide)

end Sys2Proof.Machine
end

section
/-! SUPPORT. The supply and the reference (R67, R394, R399): their status bits, what the crystal's loss and return have shown, and that the radio
stays off and island 9 fit, through the work that follows them: sessions and readers that begin again, buses that follow the reference, votes. -/
namespace Sys2Proof.Machine

open Sys2Proof

-- One declaration after another: checking many at a time takes more memory than the text may use.
set_option Elab.async false

/-! ## What is kept -/

/-- The status of supply and reference, the lost redundancies, the enabled map, and what tells of the crystal. -/
def sourceFields : List Field :=
  [wholeReg R.PWR_STAT, wholeReg R.PWR_RED_STAT, wholeReg R.SYS_EN_MAP, F.PWR_EVT_XTAL_LOST, F.PWR_EVT_XTAL_BACK, F.TIM_STAT_REF_RC]

/-- A field whose write leaves those fields and the states of the islands. -/
abbrev offSupply (f : Field) : Prop := f.lo ≤ f.hi ∧ f.off ≠ R.PWR_ISL_STATE ∧ ∀ g ∈ sourceFields, g.off ≠ f.off ∨ g.hi < f.lo ∨ f.hi < g.lo

/-- `s` shows of supply and reference what `r` shows; the crystal runs as it did, island 9 has not failed since, nothing has come on air. -/
structure State.SupplyKept (r s : State) : Prop where
  gets : ∀ f ∈ sourceFields, s.get f = r.get f
  xtal : s.pwr.xtalRun = r.pwr.xtalRun
  fit : r.islandFailed 9 = false → s.islandFailed 9 = false
  quiet : r.rf.onAir = none → s.rf.onAir = none

theorem State.SupplyKept.refl (s : State) : s.SupplyKept s := ⟨fun _ _ => rfl, rfl, id, id⟩

section
variable {r s : State}

theorem State.SupplyKept.ite {t : State} (hs : r.SupplyKept s) (ht : r.SupplyKept t) {c : Prop} [Decidable c] :
    r.SupplyKept (if c then s else t) := by
  split
  · exact hs
  · exact ht

theorem State.SupplyKept.fst {α : Type} {p : State × α} {t : State} {a : α} (h : r.SupplyKept p.1) (e : p = (t, a)) : r.SupplyKept t := by
  subst e
  exact h

theorem State.SupplyKept.foldl {α : Type} {f : State → α → State} (h : r.SupplyKept s) (hf : ∀ t x, r.SupplyKept t → r.SupplyKept (f t x))
    {l : List α} : r.SupplyKept (l.foldl f s) := by
  induction l generalizing s with
  | nil => exact h
  | cons x xs ih => exact ih (hf s x h)

/-- What changes no register, nor whether the crystal runs, nor what is on air. -/
theorem State.SupplyKept.set (h : r.SupplyKept s) {t : State} (hregs : t.regs = s.regs := by rfl)
    (hxtal : t.pwr.xtalRun = s.pwr.xtalRun := by rfl) (hair : t.rf.onAir = s.rf.onAir := by rfl) : r.SupplyKept t :=
  ⟨fun f hf => (State.get_of_regs hregs f).trans (h.gets f hf), hxtal.trans h.xtal,
    fun hr => by rw [State.islandFailed, State.island_of_reg (State.reg_of_regs hregs _)]; exact h.fit hr, fun hr => hair.trans (h.quiet hr)⟩

/-- What takes the radio off the air. -/
theorem State.SupplyKept.offAir (h : r.SupplyKept s) {t : State} (hregs : t.regs = s.regs := by rfl)
    (hxtal : t.pwr.xtalRun = s.pwr.xtalRun := by rfl) (hair : t.rf.onAir = none := by rfl) : r.SupplyKept t :=
  ⟨fun f hf => (State.get_of_regs hregs f).trans (h.gets f hf), hxtal.trans h.xtal,
    fun hr => by rw [State.islandFailed, State.island_of_reg (State.reg_of_regs hregs _)]; exact h.fit hr, fun _ => hair⟩

theorem State.SupplyKept.put (h : r.SupplyKept s) {f : Field} {v : Nat} (hf : offSupply f := by decide) : r.SupplyKept (s.put f v) := by
  obtain ⟨hlo, hisl, hapart⟩ := hf
  refine ⟨fun g hg => ?_, h.xtal, fun hr => ?_, h.quiet⟩
  · have hhi : g.hi < 32 := by
      revert g
      decide
    exact (State.get_put_apart s f g v hlo hhi (hapart g hg)).trans (h.gets g hg)
  · rw [State.islandFailed, State.island_of_reg (State.reg_put_other s (Ne.symm hisl) v)]
    exact h.fit hr

theorem State.SupplyKept.setReg (h : r.SupplyKept s) {off v : Nat} (ho : offSupply (wholeReg off) := by decide) : r.SupplyKept (s.setReg off v) := by
  obtain ⟨-, hisl, hapart⟩ := ho
  have hoff : ∀ g ∈ sourceFields, g.off ≠ off := fun g hg => by
    have hhi : g.hi < 32 := by
      revert g
      decide
    obtain h | h | h := hapart g hg
    · exact h
    · exact absurd h (Nat.not_lt_zero _)
    · change 31 < g.lo at h
      have hlo : g.lo ≤ g.hi := by
        revert g
        decide
      omega
  refine ⟨fun g hg => (State.get_of_reg (State.reg_setReg_other s (hoff g hg) v)).trans (h.gets g hg), h.xtal, fun hr => ?_, h.quiet⟩
  rw [State.islandFailed, State.island_of_reg (State.reg_setReg_other s (show R.PWR_ISL_STATE ≠ off from Ne.symm hisl) v)]
  exact h.fit hr

theorem State.SupplyKept.putFlag (h : r.SupplyKept s) {f : Field} {b : Bool} (hf : offSupply f := by decide) : r.SupplyKept (s.putFlag f b) :=
  h.put hf

theorem State.SupplyKept.event (h : r.SupplyKept s) {f : Field} (hf : offSupply f := by decide) : r.SupplyKept (s.event f) := h.put hf

theorem State.SupplyKept.bump (h : r.SupplyKept s) {f : Field} (hf : offSupply f := by decide) : r.SupplyKept (s.bump f) := h.put hf

theorem offSupply_reason (u : Subsys) : offSupply (reasonField u) := by cases u <;> decide

theorem State.SupplyKept.reason (h : r.SupplyKept s) {u : Subsys} {code : Nat} : r.SupplyKept (s.reason u code) := h.put (offSupply_reason u)

/-- A field above the registers that are kept. -/
theorem offSupply_of_high {f : Field} (hlo : f.lo ≤ f.hi := by exact Nat.le_of_ble_eq_true rfl)
    (hoff : 0x2008 < f.off := by change 0x2008 < (_ : Nat); omega) : offSupply f := by
  refine ⟨hlo, by change f.off ≠ 0x1014; omega, fun g hg => .inl ?_⟩
  have hg : g.off ≤ 0x2008 := by
    revert g
    decide
  omega

/-! ## Islands and votes -/

/-- An island goes to a state other than FAILED. -/
theorem State.SupplyKept.setIsland (h : r.SupplyKept s) {i v : Nat} (hv : v < 3 := by decide) : r.SupplyKept (s.setIsland i v) := by
  refine ⟨fun f hf => ?_, ?_, fun hr => ?_, ?_⟩
  · have hoff : f.off ≠ R.PWR_ISL_STATE := by
      revert f
      decide
    exact (s.get_setIsland_other hoff i v).trans (h.gets f hf)
  · rw [State.setIsland_regsOnly]
    exact h.xtal
  · by_cases hi : 9 = i
    · subst hi
      rw [State.islandFailed, State.island_setIsland_same s (by decide) (by decide)]
      simp
      omega
    · rw [State.islandFailed, State.island_setIsland_other s (by decide) hi]
      exact h.fit hr
  · rw [State.setIsland_regsOnly]
    exact h.quiet

theorem State.SupplyKept.followShared (h : r.SupplyKept s) : r.SupplyKept s.followShared :=
  h.ite (h.setIsland.ite (h.setIsland.ite h.setIsland))

theorem State.SupplyKept.setVote (h : r.SupplyKept s) {c i : Nat} {b : Bool} (hi : i < 15 := by decide) : r.SupplyKept (s.setVote c i b) := by
  refine h.put ⟨Nat.zero_le _, ?_, fun g hg => .inl ?_⟩
  · change 0x1040 + 4 * i ≠ 0x1014
    omega
  · change g.off ≠ 0x1040 + 4 * i
    have hg : g.off < 0x1040 ∨ 0x107C < g.off := by
      revert g
      decide
    omega

theorem State.SupplyKept.synLock (h : r.SupplyKept s) {n : Nat} {b : Bool} : r.SupplyKept (s.synLock n b) := by
  unfold State.synLock
  split
  · exact h.putFlag
  · exact h.putFlag

theorem State.SupplyKept.rfState (h : r.SupplyKept s) {n : Nat} : r.SupplyKept (s.rfState n) := h.put

theorem State.SupplyKept.rfIdle (h : r.SupplyKept s) : r.SupplyKept s.rfIdle := h.rfState.ite (h.rfState.ite (h.synLock.synLock.rfState.ite h.rfState))

theorem State.SupplyKept.voteless (h : r.SupplyKept s) {i : Nat} : r.SupplyKept (s.voteless i) := h.synLock.synLock.rfState.ite h

theorem State.SupplyKept.ntNap (h : r.SupplyKept s) : r.SupplyKept s.ntNap := h.set

theorem State.SupplyKept.islandTo (h : r.SupplyKept s) {i v : Nat} (hv : v < 3 := by decide) : r.SupplyKept (s.islandTo i v) := by
  unfold State.islandTo
  extract_lets s1
  have h1 : r.SupplyKept s1 := h.setIsland hv
  exact h1.ntNap.ite (h1.voteless.ite h1)

theorem State.SupplyKept.beginDrop (h : r.SupplyKept s) {i : Nat} : r.SupplyKept (s.beginDrop i) := by
  unfold State.beginDrop
  extract_lets _ s1 _ s2
  have h1 : r.SupplyKept s1 := h.set
  have h2 : r.SupplyKept s2 := h1.set
  exact h1.ite h2.islandTo.voteless.followShared

theorem State.SupplyKept.settle (h : r.SupplyKept s) {i : Nat} : r.SupplyKept (s.settle i) :=
  h.ite (h.followShared.ite (h.ite (h.beginDrop.ite (h.islandTo.followShared.ite h))))

theorem State.SupplyKept.beginRestore (h : r.SupplyKept s) {i : Nat} : r.SupplyKept (s.beginRestore i) := by
  unfold State.beginRestore
  refine h.ite ?_
  refine h.ite ?_
  extract_lets _ s1 _
  have h1 : r.SupplyKept s1 := h.set
  exact h1.ite h1.set

theorem State.SupplyKept.restoreFor (h : r.SupplyKept s) {i : Nat} : r.SupplyKept (s.restoreFor i) := h.ite h.beginRestore

theorem State.SupplyKept.endEntry (h : r.SupplyKept s) : r.SupplyKept s.endEntry := h.set

theorem State.SupplyKept.abandonEntry (h : r.SupplyKept s) {code island client : Nat} :
    r.SupplyKept (s.abandonEntry code island client) := h.endEntry.setReg.bump.event.reason

theorem State.SupplyKept.voteInEntry (h : r.SupplyKept s) {c i : Nat} : r.SupplyKept (s.voteInEntry c i) := by
  unfold State.voteInEntry
  split
  · exact h
  · exact h.endEntry.ite (h.abandonEntry.ite h)

theorem State.SupplyKept.raiseVote (h : r.SupplyKept s) {c i : Nat} {doze : Bool} (hi : i < 15 := by decide) : r.SupplyKept (s.raiseVote c i doze) := by
  unfold State.raiseVote
  refine h.ite ?_
  extract_lets _ _ s1 s2 _ _ s3
  have h1 : r.SupplyKept s1 := State.SupplyKept.setVote h.set hi
  have h2 : r.SupplyKept s2 := h1.beginRestore.voteInEntry
  have h3 : r.SupplyKept s3 := h2.set.event.ite h2
  have hstandby : s3.standbyIsland < 15 := by
    change 2 - s3.activePair < 15
    omega
  exact (h3.setVote hstandby).beginRestore.ite h3

theorem State.SupplyKept.withdrawVote (h : r.SupplyKept s) {c i : Nat} (hi : i < 15 := by decide) : r.SupplyKept (s.withdrawVote c i) := by
  unfold State.withdrawVote
  extract_lets _ s0 _ s1 s2 _ _
  have h0 : r.SupplyKept s0 := h.set.ite h
  have h1 : r.SupplyKept s1 := State.SupplyKept.setVote h0.set hi
  have h2 : r.SupplyKept s2 := h1.settle
  exact h2.set.ite h2

/-! ## The journal -/

theorem State.SupplyKept.journal (h : r.SupplyKept s) {type reason : Nat} {u : Subsys} {flags : Nat} {body : Bytes} :
    r.SupplyKept (s.journal type reason u flags body) := by
  obtain ⟨hregs, -, -⟩ := s.journal_work type reason u flags body
  refine ⟨fun f hf => ?_, ?_, fun hr => ?_, ?_⟩
  · have hoff : f.off ∉ entryRegs := by
      revert f
      decide
    exact (State.get_of_reg (hregs _ hoff)).trans (h.gets f hf)
  · rw [State.journal_pwr]
    exact h.xtal
  · rw [State.islandFailed, State.island_of_reg (hregs _ (by decide))]
    exact h.fit hr
  · rw [State.journal_rf]
    exact h.quiet

/-! ## Responses and buses -/

theorem State.SupplyKept.placeOut (h : r.SupplyKept s) : r.SupplyKept s.placeOut := by
  unfold State.placeOut
  refine h.ite ?_
  split
  · exact h
  · exact h.set.setReg.event

theorem State.SupplyKept.deliver (h : r.SupplyKept s) {t : Transport} {src : Nat} {m : Bytes} : r.SupplyKept (s.deliver t src m) := by
  unfold State.deliver
  split
  · exact h.set.placeOut
  · exact h.set.ite h.set

theorem State.SupplyKept.answer (h : r.SupplyKept s) {c : MbCmd} {reason : Nat} {out : Bytes} :
    r.SupplyKept (s.answer c reason out) := (((h.reason.ite h).deliver).setReg).event

theorem State.SupplyKept.finish (h : r.SupplyKept s) {reason : Nat} {out : Bytes} : r.SupplyKept (s.finish reason out) := by
  unfold State.finish
  split
  · exact h
  · exact h.set.putFlag.answer

theorem State.SupplyKept.setStampQueue (h : r.SupplyKept s) {p : Nat} {q : List TxStamp} : r.SupplyKept (s.setStampQueue p q) := h.set

theorem State.SupplyKept.addStamp (h : r.SupplyKept s) {p : Nat} {e : TxStamp} : r.SupplyKept (s.addStamp p e) :=
  by
  have hoff : 0x2008 < 0x20C0 + 32 * p := by omega
  exact h.setStampQueue.ite ((h.put (offSupply_of_high (hoff := hoff))).bump (offSupply_of_high (hoff := hoff))).reason.event

theorem State.SupplyKept.txStampEntry' (h : r.SupplyKept s) {p : Nat} {sent : Bool} : r.SupplyKept (txStampEntry p sent s) := by
  unfold txStampEntry
  split
  · exact h
  · extract_lets _ s1 s2 _
    have h1 : r.SupplyKept s1 := h.set
    have h2 : r.SupplyKept s2 := h1.ite h1.reason
    split
    · exact h2
    · exact h2.addStamp

theorem State.SupplyKept.abandonFrames (h : r.SupplyKept s) {port : Nat} : r.SupplyKept (s.abandonFrames port) := h.foldl fun _ _ ht => ht.txStampEntry'

theorem State.SupplyKept.flushHeld (h : r.SupplyKept s) {p : Nat} : r.SupplyKept (s.flushHeld p) := h.ite (h.set.foldl fun _ _ ht => ht.deliver)

theorem offSupply_upField (p : Nat) : offSupply (upField p) := by
  unfold upField
  split <;> decide

theorem offSupply_busOffField (c : Nat) : offSupply (busOffField c) := by
  unfold busOffField
  split <;> decide

theorem State.SupplyKept.setUp (h : r.SupplyKept s) {p : Nat} {up : Bool} : r.SupplyKept (s.setUp p up) := by
  unfold State.setUp
  refine h.ite ?_
  extract_lets s1 _ _ t1 t2 t1' _ s2 _
  have h1 : r.SupplyKept s1 := (h.putFlag (offSupply_upField p)).event
  have ht1 : r.SupplyKept t1 := h1.putFlag.put
  have ht2 : r.SupplyKept t2 := ht1.put.putFlag
  have hcan : 0x2008 < 0xE040 + 4 * p := by omega
  have ht1' : r.SupplyKept t1' := (h1.put (offSupply_of_high (hoff := hcan))).putFlag (offSupply_busOffField p)
  have h2 : r.SupplyKept s2 := ht2.putFlag.putFlag.ite (State.SupplyKept.set ht1')
  exact (State.SupplyKept.flushHeld (State.SupplyKept.set h2)).ite h2.abandonFrames

theorem State.SupplyKept.refreshLinks (h : r.SupplyKept s) : r.SupplyKept s.refreshLinks := by
  unfold State.refreshLinks
  extract_lets s1 _ s2 _ s3 _
  have h1 : r.SupplyKept s1 := h.foldl fun _ _ ht => ht.setUp
  have h2 : r.SupplyKept s2 := h1.putFlag
  have h3 : r.SupplyKept s3 := h2.set
  exact h3.raiseVote.ite (h3.withdrawVote.ite h3)

/-! ## The radio and its sessions -/

theorem State.SupplyKept.setNtState (h : r.SupplyKept s) {n : Nat} : r.SupplyKept (s.setNtState n) := h.ite h.put.event

theorem State.SupplyKept.ntToRc (h : r.SupplyKept s) : r.SupplyKept s.ntToRc := h.ite h.setNtState.reason

theorem State.SupplyKept.abandonCal (h : r.SupplyKept s) : r.SupplyKept s.abandonCal := by
  unfold State.abandonCal
  split
  · exact h.ite h.set.event.bump.reason.putFlag.put
  · exact h

theorem State.SupplyKept.endTest (h : r.SupplyKept s) : r.SupplyKept s.endTest := h.set.putFlag.put.ite h

theorem State.SupplyKept.dropQueued (h : r.SupplyKept s) : r.SupplyKept s.dropQueued := h.set

theorem State.SupplyKept.dropOnAir (h : r.SupplyKept s) : r.SupplyKept s.dropOnAir := by
  unfold State.dropOnAir
  split
  · exact h.ite (State.SupplyKept.offAir h).rfIdle
  · exact h

theorem State.SupplyKept.setHold (h : r.SupplyKept s) {h' : Option Hold} : r.SupplyKept (s.setHold h') := h.set.putFlag

theorem State.SupplyKept.dropJobs (h : r.SupplyKept s) {gone : Nat → Bool} : r.SupplyKept (s.dropJobs gone) := h.set

theorem State.SupplyKept.refreshRng (h : r.SupplyKept s) : r.SupplyKept s.refreshRng := h.put.putFlag.putFlag.putFlag.put.put

theorem State.SupplyKept.updSess (h : r.SupplyKept s) {n : Nat} {f : Sess → Sess} : r.SupplyKept (s.updSess n f) := h.set

theorem State.SupplyKept.dropSess (h : r.SupplyKept s) {n : Nat} : r.SupplyKept (s.dropSess n) := by
  have h1 : r.SupplyKept (s.dropJobs (fun k => k == n)) := h.dropJobs
  exact (State.SupplyKept.set h1).refreshRng

theorem State.SupplyKept.dropExchange (h : r.SupplyKept s) {n : Nat} : r.SupplyKept (s.dropExchange n) :=
  ⟨h.gets, h.xtal, h.fit, fun hr => by rw [State.dropExchange, h.quiet hr, Option.filter_none]⟩

theorem State.SupplyKept.commitPoint (h : r.SupplyKept s) : r.SupplyKept s.commitPoint := h.set

theorem State.SupplyKept.abortExchange (h : r.SupplyKept s) : r.SupplyKept s.abortExchange := by
  unfold State.abortExchange
  split
  · exact h
  · exact h.updSess.dropExchange.event.commitPoint

theorem State.SupplyKept.restartRequests (h : r.SupplyKept s) {ids : List Nat} : r.SupplyKept (s.restartRequests ids) := by
  unfold State.restartRequests
  extract_lets _ s1 _ _ s2 _ _ _
  have h1 : r.SupplyKept s1 := h.foldl fun _ _ ht => ht.dropSess
  have h2 : r.SupplyKept s2 := h1.setHold.dropQueued.dropOnAir.ite h1
  exact h2.set.refreshRng

theorem State.SupplyKept.restartSessions (h : r.SupplyKept s) : r.SupplyKept s.restartSessions := h.restartRequests

/-! ## Requests, the release, the reader -/

theorem State.SupplyKept.generated (h : r.SupplyKept s) {n : Nat} {pr : Bool} : r.SupplyKept (s.generated n pr) := by
  unfold State.generated
  extract_lets _ _ s1 _
  have h1 : r.SupplyKept s1 := h.set
  exact h1.set.setReg.ite h1.setReg

theorem State.SupplyKept.fresh (h : r.SupplyKept s) {n : Nat} : r.SupplyKept (s.fresh n) := h.generated

theorem State.SupplyKept.setSlot (h : r.SupplyKept s) {n : Nat} {x : Slot} : r.SupplyKept (s.setSlot n x) := h.set

theorem State.SupplyKept.retireSpent (h : r.SupplyKept s) {path n : Nat} : r.SupplyKept (s.retireSpent path n) := h.setSlot.event.journal.ite h

theorem State.SupplyKept.releaseIdle (h : r.SupplyKept s) : r.SupplyKept s.releaseIdle := by
  have hpair := s.activePair_lt
  exact (h.withdrawVote.withdrawVote (by omega)).ite h

theorem State.SupplyKept.updRequest (h : r.SupplyKept s) {id : Nat} {f : Request → Request} : r.SupplyKept (s.updRequest id f) := h.set

theorem State.SupplyKept.sendRoleTo (h : r.SupplyKept s) {r' mac : Nat} {msg : Bytes} : r.SupplyKept (s.sendRoleTo r' mac msg) := h.ite h.set

theorem State.SupplyKept.sendRole (h : r.SupplyKept s) {r' : Nat} {msg : Bytes} : r.SupplyKept (s.sendRole r' msg) := h.sendRoleTo

theorem State.SupplyKept.nextSeq (h : r.SupplyKept s) : r.SupplyKept s.nextSeq.1 := h.set.setReg

theorem State.SupplyKept.sendGrants (h : r.SupplyKept s) {st : RelStart} : r.SupplyKept (s.sendGrants st) := by
  unfold State.sendGrants
  extract_lets _ s0
  have h0 : r.SupplyKept s0 := h.set
  refine State.SupplyKept.foldl ?_ fun t x ht => ?_
  · exact h0
  · split
    · exact ht
    · exact ht.sendRole

theorem State.SupplyKept.journalRel (h : r.SupplyKept s) {action code profile reason flags : Nat} :
    r.SupplyKept (s.journalRel action code profile reason flags) := h.journal

theorem State.SupplyKept.relLast (h : r.SupplyKept s) {action code reason : Nat} : r.SupplyKept (s.relLast action code reason) := h.setReg

theorem State.SupplyKept.relRefuse (h : r.SupplyKept s) {code reason : Nat} : r.SupplyKept (s.relRefuse code reason) := h.relLast.event.bump.reason

theorem State.SupplyKept.setStart (h : r.SupplyKept s) {x : Option RelStart} : r.SupplyKept (s.setStart x) := by
  unfold State.setStart
  extract_lets _ s1
  have h1 : r.SupplyKept s1 := h.set
  exact h1.settle.ite h1

theorem State.SupplyKept.endGrant (h : r.SupplyKept s) {ok : Bool} {code slot : Nat} :
    r.SupplyKept (s.endGrant ok code slot) := h.put.journalRel.ite h.put.event.bump.reason.journalRel

theorem State.SupplyKept.grantStep (h : r.SupplyKept s) {st : RelStart} : r.SupplyKept (s.grantStep st) := by
  unfold State.grantStep
  split
  next s1 n heq =>
    have h1 := h.nextSeq.fst heq
    extract_lets _ _ s2 _ s3
    have h2 : r.SupplyKept s2 := h1.sendGrants
    have h3 : r.SupplyKept s3 := h2.set
    exact h3.put.ite h3.endGrant

theorem State.SupplyKept.startRelease (h : r.SupplyKept s) {code path : Nat} {o : TokOut} {profile : Nat} : r.SupplyKept (s.startRelease code path o profile) := by
  unfold State.startRelease
  extract_lets _ s0 _ _ s1 _ s2 _
  have h0 : r.SupplyKept s0 := h.set
  have h1 : r.SupplyKept s1 := h0.relLast
  have h2 : r.SupplyKept s2 := h1.grantStep
  refine h0.relLast.ite ?_
  refine h0.relRefuse.journalRel.ite ?_
  refine .ite ?_ (h1.grantStep.ite h1.set.setStart.restoreFor)
  split
  · exact h2.setStart
  · exact h2

theorem State.SupplyKept.decide_ (h : r.SupplyKept s) {action code slot : Nat} : r.SupplyKept (s.decide_ action code slot) := by
  unfold State.decide_
  extract_lets s1 _
  have h1 : r.SupplyKept s1 := h.relLast.event
  exact h1.ite h1.set

theorem State.SupplyKept.rkeOut (h : r.SupplyKept s) {slot action reason : Nat} : r.SupplyKept (s.rkeOut slot action reason) := by
  unfold State.rkeOut
  extract_lets s1
  have h1 : r.SupplyKept s1 := h.journalRel
  exact h1.decide_.ite h1.relRefuse

theorem State.SupplyKept.confirmOut (h : r.SupplyKept s) {slot action : Nat} {out : Nat × Nat} : r.SupplyKept (s.confirmOut slot action out) := by
  unfold State.confirmOut
  split
  · exact h
  · exact h.set.rkeOut.retireSpent

theorem State.SupplyKept.decideStart (h : r.SupplyKept s) {rq : Request} : r.SupplyKept (s.decideStart rq) := by
  unfold State.decideStart
  dsimp only
  split
  · exact h.setReg.startRelease
  · exact h.setReg

theorem State.SupplyKept.performRequest (h : r.SupplyKept s) {rq : Request} : r.SupplyKept (s.performRequest rq) := by
  unfold State.performRequest
  split
  · exact h.decideStart
  · exact h.decide_
  · split
    · exact h
    · exact h.relRefuse

theorem State.SupplyKept.concludeRequest (h : r.SupplyKept s) {id reason : Nat} : r.SupplyKept (s.concludeRequest id reason) := by
  unfold State.concludeRequest
  split
  · exact h
  · refine h.ite ?_
    extract_lets _ s1 s2
    have h1 : r.SupplyKept s1 := h.set
    have h2 : r.SupplyKept s2 := by
      unfold s2
      split
      · exact h1.confirmOut
      · exact h1.performRequest.ite h1
    exact (h2.finish.ite h2).releaseIdle

theorem State.SupplyKept.closeRequest (h : r.SupplyKept s) {id reason : Nat} : r.SupplyKept (s.closeRequest id reason) := h.updRequest.concludeRequest

theorem State.SupplyKept.tokSent (h : r.SupplyKept s) {b : Bytes} : r.SupplyKept (s.tokSent b) := h.set

theorem State.SupplyKept.endDetection (h : r.SupplyKept s) {code : Nat} : r.SupplyKept (s.endDetection code) := by
  unfold State.endDetection
  split
  · exact h
  · extract_lets _ s1 s2 s3
    have h1 : r.SupplyKept s1 := h.set.withdrawVote
    have h2 : r.SupplyKept s2 := h1.reason.ite h1
    have h3 : r.SupplyKept s3 := h2.event.ite h2
    exact h3.ite h3.closeRequest

theorem State.SupplyKept.selectCard (h : r.SupplyKept s) {d : Detection} : r.SupplyKept (s.selectCard d) := by
  unfold State.selectCard
  split
  · exact h.set.endDetection
  · extract_lets _ s1 _ _
    have h1 : r.SupplyKept s1 := h.ite h.fresh
    exact h1.set.tokSent

theorem State.SupplyKept.readerRestart (h : r.SupplyKept s) : r.SupplyKept s.readerRestart := by
  unfold State.readerRestart
  split
  · exact h
  · exact h.ite h.selectCard

end

end Sys2Proof.Machine
end

section
/-! SUPPORT. The governor, supply conditions and the crystal (R67, R363, R393, R394, R399, R400): what each writes, and what stands after the work it
begins. -/
namespace Sys2Proof.Machine

open Sys2Proof

-- One declaration after another: checking many at a time takes more memory than the text may use.
set_option Elab.async false

/-! ## The estimates and the governor (R393) -/

section
variable {s : State}

theorem signed_toNat (b : BitVec 8) : signed 8 b.toNat = b.toInt := by
  rw [signed, BitVec.toInt_eq_toNat_cond]
  have hiff : b.toNat < 2 ^ (8 - 1) ↔ 2 * b.toNat < 2 ^ 8 := by omega
  simp only [hiff]

/-- The state with the estimates of a governor tick. -/
def State.estimated (s : State) (tj mW peak : Nat) : State :=
  let s1 := ((s.put F.PWR_STAT_TJ tj).put F.PWR_STAT_TA_EST (degrees ((ambient tj (s.secLE 2 8 2 0) mW : Rat) / 10000))).put F.PWR_POWER_MEAN_MW mW
  s1.put F.PWR_POWER_PEAK_MW (max peak (s1.get F.PWR_POWER_PEAK_MW))

theorem State.estimated_keeps (s : State) (tj mW peak : Nat) :
    keepsFields s (s.estimated tj mW peak) [F.PWR_STAT_TJ, F.PWR_STAT_TA_EST, F.PWR_POWER_MEAN_MW, F.PWR_POWER_PEAK_MW] :=
  (keepsFields_refl s _).put.put.put.put

theorem State.estimated_shown (s : State) (tj : BitVec 8) (mW peak : BitVec 16) :
    (s.estimated tj.toNat mW.toNat peak.toNat).get F.PWR_STAT_TJ = tj.toNat
      ∧ (s.estimated tj.toNat mW.toNat peak.toNat).get F.PWR_POWER_MEAN_MW = mW.toNat
      ∧ (s.estimated tj.toNat mW.toNat peak.toNat).get F.PWR_POWER_PEAK_MW = max peak.toNat (s.get F.PWR_POWER_PEAK_MW) := by
  have htj := tj.isLt
  have hmean := mW.isLt
  have hpeak : max peak.toNat (s.get F.PWR_POWER_PEAK_MW) < 2 ^ 16 := max_lt peak.isLt (Nat.mod_lt _ (by decide))
  refine ⟨?_, ?_, ?_⟩ <;>
    simp (disch := decide) only [State.estimated, State.get_put_same, State.get_put_apart]
  · exact Nat.mod_eq_of_lt htj
  · exact Nat.mod_eq_of_lt hmean
  · exact Nat.mod_eq_of_lt hpeak

theorem governorTick_eq (tj mW peak : Nat) (h : s.section? 2 = none) : governorTick tj mW peak s = s.estimated tj mW peak := by
  unfold governorTick
  simp only [h]
  rfl

/-- At 122 °C the governor engages at once. -/
theorem governorTick_engages {tj : Nat} (mW peak : Nat) (h2 : (s.section? 2).isSome = true) (hgov : s.flag F.PWR_STAT_GOV = false)
    (hhot : 122 ≤ signed 8 tj) : ∃ hot, governorTick tj mW peak s
      = (((({ s with pwr := { s.pwr with govHot := hot, govNext := s.mt + 100000, govCool := none }, regs := (s.estimated tj mW peak).regs }).putFlag
        F.PWR_STAT_GOV true).event F.PWR_EVT_GOV_ON).reason .pwr 0x0303) := by
  have hsec : (s.section? 2).isNone = false := by rw [Option.isNone_eq_false_iff]; exact h2
  unfold governorTick
  simp only [hsec, hgov, hhot, decide_true, Bool.or_true, Bool.false_eq_true, if_true, if_false]
  exact ⟨_, rfl⟩

/-- The levels capped after a step of the governor. -/
def State.capLevels (s : State) : State := [3, 4, 5, 6, 1, 2].foldl (fun (t : State) i => t.capLevel i) s

theorem State.capLevels_regsOnly (s : State) : s.capLevels = { s with regs := s.capLevels.regs } :=
  State.regsOnly_foldl (fun t i => by unfold State.capLevel; split <;> rfl) _ _

theorem State.capLevels_reg (s : State) {off : Nat} (h : off ≠ R.PWR_ISL_PL) : s.capLevels.reg off = s.reg off :=
  foldl_same (fun u => u.reg off) (fun u i => by
    unfold State.capLevel
    split
    · exact State.reg_setReg_other u h _
    · rfl) _ _

/-- A step below the fourth caps levels alone. -/
theorem State.govStep_below {n : Nat} (hwas : s.get F.PWR_STAT_GOV_STEP < 4) (hpos : n ≠ 0) (hn : n < 4) :
    s.govStep n = (s.put F.PWR_STAT_GOV_STEP n).capLevels := by
  unfold State.govStep State.capLevels
  simp only [Nat.not_le.mpr hwas, Nat.not_le.mpr hn, hpos, decide_false, Bool.and_false, Bool.false_and, Bool.false_eq_true, if_false]

theorem State.govStep_shown {n : Nat} (hwas : s.get F.PWR_STAT_GOV_STEP < 4) (hpos : n ≠ 0) (hn : n < 4) :
    (s.govStep n).get F.PWR_STAT_GOV_STEP = n ∧ (s.govStep n).flag F.PWR_STAT_GOV = s.flag F.PWR_STAT_GOV
      ∧ s.govStep n = { s with regs := (s.govStep n).regs } := by
  rw [State.govStep_below hwas hpos hn]
  refine ⟨?_, ?_, State.regsOnly_trans (t := s.put F.PWR_STAT_GOV_STEP n) rfl (State.capLevels_regsOnly _)⟩
  · rw [State.get_of_reg (State.capLevels_reg _ (by decide)), State.get_put_same s _ n (by decide) (by decide)]
    change n % 2 ^ 3 = n
    exact Nat.mod_eq_of_lt (by omega)
  · rw [State.flag, State.get_of_reg (State.capLevels_reg _ (by decide)), State.get_put_apart s _ _ n (by decide) (by decide) (by decide), State.flag]

/-- The engaged governor above GOV_W_CW, once 100 ms have passed since its last step. -/
theorem State.govern_steps {ta : Int} {mW : Nat} (hpower : 10 * s.secLE 2 4 1 0 < mW) (hdue : s.pwr.govNext ≤ s.mt)
    (hstep : s.get F.PWR_STAT_GOV_STEP < 3) : ∃ cool, s.govern ta mW
      = ({ s with pwr := { s.pwr with govCool := cool, govNext := s.mt + 100000 } }).govStep (s.get F.PWR_STAT_GOV_STEP + 1) := by
  have hwait : ¬ s.mt < s.pwr.govNext := by omega
  have hlast : ¬ 5 ≤ s.get F.PWR_STAT_GOV_STEP := by omega
  unfold State.govern
  simp only [hpower, hwait, hlast, decide_false, Bool.or_self, Bool.false_eq_true, if_true, if_false]
  exact ⟨_, rfl⟩

theorem State.govern_steps_shown {ta : Int} {mW : Nat} (hpower : 10 * s.secLE 2 4 1 0 < mW) (hdue : s.pwr.govNext ≤ s.mt)
    (hstep : s.get F.PWR_STAT_GOV_STEP < 3) : (s.govern ta mW).get F.PWR_STAT_GOV_STEP = s.get F.PWR_STAT_GOV_STEP + 1
      ∧ (s.govern ta mW).pwr.govNext = s.mt + 100000 ∧ (s.govern ta mW).flag F.PWR_STAT_GOV = s.flag F.PWR_STAT_GOV
      ∧ (s.govern ta mW).sys = s.sys := by
  obtain ⟨cool, hgovern⟩ := State.govern_steps (ta := ta) hpower hdue hstep
  rw [hgovern]
  obtain ⟨hget, hflag, hframe⟩ := State.govStep_shown (s := { s with pwr := { s.pwr with govCool := cool, govNext := s.mt + 100000 } })
    (n := s.get F.PWR_STAT_GOV_STEP + 1) (Nat.lt_succ_of_lt hstep) (Nat.succ_ne_zero _) (Nat.succ_lt_succ hstep)
  exact ⟨hget, (congrArg (fun u : State => u.pwr.govNext) hframe).trans rfl, hflag, (congrArg State.sys hframe).trans rfl⟩

theorem governorTick_governs (tj mW peak : Nat) (h2 : (s.section? 2).isSome = true) (hgov : s.flag F.PWR_STAT_GOV = true) :
    governorTick tj mW peak s = (s.estimated tj mW peak).govern (ambient tj (s.secLE 2 8 2 0) mW) mW := by
  have hsec : (s.section? 2).isNone = false := by rw [Option.isNone_eq_false_iff]; exact h2
  unfold governorTick
  simp only [hsec, hgov, Bool.false_eq_true, if_true, if_false]
  rfl

theorem governorTick_steps (tj mW peak : Nat) (h2 : (s.section? 2).isSome = true) (hgov : s.flag F.PWR_STAT_GOV = true)
    (hpower : 10 * s.secLE 2 4 1 0 < mW) (hdue : s.pwr.govNext ≤ s.mt) (hstep : s.get F.PWR_STAT_GOV_STEP < 3) :
    (governorTick tj mW peak s).get F.PWR_STAT_GOV_STEP = s.get F.PWR_STAT_GOV_STEP + 1
      ∧ (governorTick tj mW peak s).pwr.govNext = s.mt + 100000 ∧ (governorTick tj mW peak s).flag F.PWR_STAT_GOV = true
      ∧ (governorTick tj mW peak s).fuses = s.fuses ∧ (governorTick tj mW peak s).sys = s.sys := by
  have hkeeps := s.estimated_keeps tj mW peak
  have hstep' : (s.estimated tj mW peak).get F.PWR_STAT_GOV_STEP = s.get F.PWR_STAT_GOV_STEP := hkeeps _ (by decide) (by decide)
  have hgov' : (s.estimated tj mW peak).flag F.PWR_STAT_GOV = true := by
    rw [State.flag, hkeeps _ (by decide) (by decide)]
    exact hgov
  obtain ⟨hget, hnext, hflag, hsys⟩ := State.govern_steps_shown (s := s.estimated tj mW peak) (ta := ambient tj (s.secLE 2 8 2 0) mW) hpower hdue
    (hstep'.trans_lt hstep)
  refine ⟨?_, ?_, ?_, governorTick_fuses tj mW peak s, ?_⟩ <;> rw [governorTick_governs tj mW peak h2 hgov]
  · rw [hget, hstep']
  · exact hnext
  · exact hflag.trans hgov'
  · exact hsys

end

/-! ## The supply (R67, R394) -/

section
variable {r s : State}

theorem State.noteVbat_regsOnly (s : State) (mv : Nat) : s.noteVbat mv = { s with regs := (s.noteVbat mv).regs } := by
  unfold State.noteVbat
  dsimp only
  split <;> rfl

theorem State.noteVbat_now (s : State) (mv : BitVec 16) : (s.noteVbat mv.toNat).get F.PWR_VBAT_NOW_MV = mv.toNat := by
  have hnow : (s.put F.PWR_VBAT_NOW_MV mv.toNat).get F.PWR_VBAT_NOW_MV = mv.toNat :=
    (State.get_put_same s _ _ (by decide) (by decide)).trans (Nat.mod_eq_of_lt mv.isLt)
  unfold State.noteVbat
  dsimp only
  split
  · exact (State.get_put_apart _ _ _ _ (by decide) (by decide) (by decide)).trans hnow
  · exact hnow

/-- What shows of a supply that leaves its window: the condition, its event and its reason. -/
def State.supplyOut (s : State) (stat evt : Field) (code mv : Nat) : State :=
  (((s.noteVbat mv).putFlag stat true).event evt).reason .pwr code

theorem State.supplyOut_regsOnly (s : State) (stat evt : Field) (code mv : Nat) :
    s.supplyOut stat evt code mv = { s with regs := (s.supplyOut stat evt code mv).regs } :=
  State.regsOnly_trans (s.noteVbat_regsOnly mv) rfl

theorem State.supplyOut_brownout (s : State) (mv : BitVec 16) :
    let t := s.supplyOut F.PWR_STAT_BROWNOUT F.PWR_EVT_BROWNOUT 0x0306 mv.toNat
    t.flag F.PWR_STAT_BROWNOUT = true ∧ t.get F.PWR_EVT_BROWNOUT = 1 ∧ t.get F.PWR_REASON_REASON = 0x0306
      ∧ t.get F.PWR_VBAT_NOW_MV = mv.toNat := by
  have hnow := s.noteVbat_now mv
  refine ⟨State.flag_true_of_get ?_, ?_, ?_, ?_⟩ <;>
    simp (disch := decide) [State.supplyOut, State.event, State.reason, reasonField, State.putFlag, State.get_put_same, State.get_put_apart, bit, hnow]

theorem State.supplyOut_overvolt (s : State) (mv : Nat) :
    let t := s.supplyOut F.PWR_STAT_OVERVOLT F.PWR_EVT_OVERVOLT 0x0307 mv
    t.get F.PWR_STAT_OVERVOLT = 1 ∧ t.get F.PWR_EVT_OVERVOLT = 1 ∧ t.get F.PWR_REASON_REASON = 0x0307 := by
  refine ⟨?_, ?_, ?_⟩ <;>
    simp (disch := decide) [State.supplyOut, State.event, State.reason, reasonField, State.putFlag, State.get_put_same, State.get_put_apart, bit]

/-- What stands of the status of the supply. -/
theorem State.SupplyKept.reg (h : r.SupplyKept s) {off : Nat} (hoff : wholeReg off ∈ sourceFields := by decide) : s.reg off = r.reg off := by
  rw [State.reg_eq_get, State.reg_eq_get, h.gets _ hoff]

theorem State.SupplyKept.flag (h : r.SupplyKept s) {f : Field} (hf : wholeReg f.off ∈ sourceFields) : s.flag f = r.flag f := by
  rw [State.flag, State.flag, State.get_of_reg (h.reg hf)]

/-! What the islands do in a brownout. -/

theorem State.islandTo_island (s : State) (i v j : Nat) : (s.islandTo i v).island j = (s.setIsland i v).island j := by
  unfold State.islandTo
  dsimp only
  split_ifs
  · rfl
  · exact State.voteless_island _ i j
  · rfl

/-- An island goes to NAP unless it has failed. -/
def State.napTo (s : State) (i : Nat) : State := if s.islandFailed i then s else s.islandTo i 0

theorem State.brownNap_eq (s : State) : s.brownNap = State.followShared
    { [1, 2, 3, 4, 5, 6, 8, 9, 10, 12, 13].foldl State.napTo s with pwr := { s.pwr with restoring := [], dropping := [], entry := none } } := rfl

theorem State.SupplyKept.napTo (h : r.SupplyKept s) {i : Nat} : r.SupplyKept (s.napTo i) := h.ite h.islandTo

theorem State.napTo_same {i : Nat} (hi : 1 ≤ i) (hi' : i < 15) (hfit : s.islandFailed i = false) : (s.napTo i).island i = 0 := by
  rw [State.napTo, hfit, if_neg Bool.false_ne_true, State.islandTo_island, State.island_setIsland_same s hi hi']

theorem State.napTo_other {i j : Nat} (hj : j < 15) (hij : j ≠ i) : (s.napTo i).island j = s.island j := by
  unfold State.napTo
  split
  · rfl
  · rw [State.islandTo_island, State.island_setIsland_other s hj hij]

theorem State.SupplyKept.brownNap (h : r.SupplyKept s) : r.SupplyKept s.brownNap := by
  rw [State.brownNap_eq]
  have hnaps : s.SupplyKept ([1, 2, 3, 4, 5, 6, 8, 9, 10, 12, 13].foldl State.napTo s) := (State.SupplyKept.refl s).foldl fun _ _ ht => ht.napTo
  have hnaps' : r.SupplyKept ([1, 2, 3, 4, 5, 6, 8, 9, 10, 12, 13].foldl State.napTo s) := h.foldl fun _ _ ht => ht.napTo
  refine State.SupplyKept.followShared ?_
  exact hnaps'.set rfl hnaps.xtal.symm rfl

theorem State.brownNap_nine (hfit : s.islandFailed 9 = false) : s.brownNap.island 9 = 0 := by
  have hbefore : s.SupplyKept ([1, 2, 3, 4, 5, 6, 8].foldl State.napTo s) := (State.SupplyKept.refl s).foldl fun _ _ ht => ht.napTo
  rw [State.brownNap_eq, (State.followShared_frame _).2.2 9 (by decide) (by decide)]
  change ((([1, 2, 3, 4, 5, 6, 8].foldl State.napTo s).napTo 9).napTo 10 |>.napTo 12 |>.napTo 13).island 9 = 0
  rw [State.napTo_other (by decide) (by decide), State.napTo_other (by decide) (by decide), State.napTo_other (by decide) (by decide),
    State.napTo_same (by decide) (by decide) (hbefore.fit hfit)]

theorem State.brownNap_pwr (s : State) : s.brownNap.pwr = { s.pwr with restoring := [], dropping := [], entry := none } := by
  rw [State.brownNap_eq, State.followShared_pwr]

/-! The conditions begin and end. -/

theorem brownout_pauses {mv : Nat} (hvbat : s.pilot.vbatUp = true) (hmv : mv < 6000) (hbrown : s.flag F.PWR_STAT_BROWNOUT = false)
    (hlo : 2 ≤ s.phase) (hhi : s.phase ≤ 9) : brownout mv s
      = { s with
        regs := (s.supplyOut F.PWR_STAT_BROWNOUT F.PWR_EVT_BROWNOUT 0x0306 mv).regs
        pwr := { s.pwr with brownMt := s.mt }
        sys := { s.sys with pausedIn := some s.phase } } := by
  have hlow : ¬ 6000 ≤ mv := by omega
  unfold brownout
  simp only [hvbat, hlow, hbrown, hlo, hhi, decide_true, decide_false, Bool.not_true, Bool.or_self, Bool.and_self, Bool.false_eq_true, if_true, if_false]
  exact congrArg (fun u : State => { u with pwr := { u.pwr with brownMt := s.mt }, sys := { u.sys with pausedIn := some s.phase } })
    (s.supplyOut_regsOnly F.PWR_STAT_BROWNOUT F.PWR_EVT_BROWNOUT 0x0306 mv)

/-- The state of a brownout after the start, before sessions and the reader begin again. -/
def State.browned (s : State) (mv : Nat) : State :=
  { s.supplyOut F.PWR_STAT_BROWNOUT F.PWR_EVT_BROWNOUT 0x0306 mv with
    pwr := { (s.supplyOut F.PWR_STAT_BROWNOUT F.PWR_EVT_BROWNOUT 0x0306 mv).pwr with brownMt := s.mt }
    rf := { (s.supplyOut F.PWR_STAT_BROWNOUT F.PWR_EVT_BROWNOUT 0x0306 mv).rf with onAir := none } }

theorem brownout_naps {mv : Nat} (hvbat : s.pilot.vbatUp = true) (hmv : mv < 6000) (hbrown : s.flag F.PWR_STAT_BROWNOUT = false)
    (hphase : s.phase = 0xA) : brownout mv s = (s.browned mv).restartSessions.readerRestart.brownNap := by
  have hlow : ¬ 6000 ≤ mv := by omega
  unfold brownout
  simp only [hvbat, hlow, hbrown, hphase, decide_false, Bool.not_true, Bool.or_self, Bool.false_eq_true, if_true, if_false]
  rfl

theorem State.browned_regs (s : State) (mv : Nat) : keepsRegs s (s.browned mv) [F.PWR_VBAT_NOW_MV.off, R.PWR_STAT, R.PWR_EVT, R.PWR_REASON] :=
  ((((keepsRegs_refl s _).put.put.ite (keepsRegs_refl s _).put).putFlag).event).reason.set

theorem State.browned_fit (hfit : s.islandFailed 9 = false) (mv : Nat) : (s.browned mv).islandFailed 9 = false := by
  rw [State.islandFailed, State.island_of_reg (s.browned_regs mv _ (by decide))]
  exact hfit

theorem brownout_rests {mv : BitVec 16} (hvbat : s.pilot.vbatUp = true) (hmv : mv.toNat < 6000) (hbrown : s.flag F.PWR_STAT_BROWNOUT = false)
    (hphase : s.phase = 0xA) (hfit : s.islandFailed 9 = false) :
    (brownout mv.toNat s).flag F.PWR_STAT_BROWNOUT = true ∧ (brownout mv.toNat s).island 9 = 0 ∧ (brownout mv.toNat s).rf.onAir = none
      ∧ (brownout mv.toNat s).pwr.restoring = [] ∧ (brownout mv.toNat s).pwr.dropping = [] ∧ (brownout mv.toNat s).pwr.entry = none
      ∧ (brownout mv.toNat s).fuses = s.fuses := by
  have hwork : (s.browned mv.toNat).SupplyKept (s.browned mv.toNat).restartSessions.readerRestart :=
    (State.SupplyKept.refl _).restartSessions.readerRestart
  have hnap := hwork.brownNap
  obtain ⟨hflag, -⟩ := s.supplyOut_brownout mv
  refine ⟨?_, ?_, ?_, ?_, ?_, ?_, brownout_fuses _ s⟩ <;> rw [brownout_naps hvbat hmv hbrown hphase]
  · exact (hnap.flag (by decide)).trans hflag
  · exact State.brownNap_nine (hwork.fit (s.browned_fit hfit _))
  · exact hnap.quiet rfl
  · rw [State.brownNap_pwr]
  · rw [State.brownNap_pwr]
  · rw [State.brownNap_pwr]

/-! The channels of LF follow the supply; the supply does not follow them. -/

theorem State.refreshLf_regsOnly (s : State) : s.refreshLf = { s with regs := s.refreshLf.regs } := by
  have hchannels : ∀ (up off : Nat → Bool) (t : State), t = (List.range 8).foldl (fun t c =>
      (t.putFlag (F.LF_CHn_STAT_UP c) (up c)).putFlag (F.LF_CHn_STAT_OFF c) (off c)) s → t = { s with regs := t.regs } := fun up off t ht => by
    subst ht
    exact State.regsOnly_foldl (fun _ _ => rfl) _ s
  unfold State.refreshLf
  exact State.regsOnly_put (State.regsOnly_put (hchannels _ _ _ rfl) _ _) _ _

theorem State.refreshLf_frame (s : State) : s.refreshLf.sys = s.sys ∧ s.refreshLf.rel = s.rel ∧ s.refreshLf.pwr = s.pwr := by
  rw [State.refreshLf_regsOnly]
  exact ⟨rfl, rfl, rfl⟩

theorem State.refreshLf_get (s : State) {f : Field} (hf : f.off < 0x3000) : s.refreshLf.get f = s.get f := by
  have hchannels : ∀ (up off : Nat → Bool), ((List.range 8).foldl (fun t c =>
      (t.putFlag (F.LF_CHn_STAT_UP c) (up c)).putFlag (F.LF_CHn_STAT_OFF c) (off c)) s).reg f.off = s.reg f.off := fun up off => by
    refine foldl_same (fun u => u.reg f.off) (fun u c => ?_) s _
    have hchannel : f.off ≠ 0x3044 + 16 * c := by omega
    exact (State.reg_put_other _ hchannel _).trans (State.reg_put_other u hchannel _)
  have hstat : f.off ≠ 0x3008 := by omega
  exact State.get_of_reg (((State.reg_put_other _ hstat _).trans (State.reg_put_other _ hstat _)).trans (hchannels _ _))

theorem overvolt_begins {mv : Nat} (hvbat : s.pilot.vbatUp = true) (hmv : 60500 < mv) (hover : s.flag F.PWR_STAT_OVERVOLT = false)
    (hhold : s.lf.hold = none) : overvolt mv s = (s.supplyOut F.PWR_STAT_OVERVOLT F.PWR_EVT_OVERVOLT 0x0307 mv).refreshLf := by
  have hhigh : ¬ mv ≤ 60500 := by omega
  have hheld : (s.supplyOut F.PWR_STAT_OVERVOLT F.PWR_EVT_OVERVOLT 0x0307 mv).lf.hold = none := by
    rw [State.supplyOut_regsOnly]
    exact hhold
  unfold State.supplyOut at hheld ⊢
  unfold overvolt
  simp only [hvbat, hhigh, hover, hheld, decide_false, Bool.not_true, Bool.or_self, Bool.false_eq_true, if_true, if_false]

/-- A supply within its window after an overvoltage: the condition and a start's pause end. -/
def State.supplyBack (s : State) (mv : Nat) : State :=
  let s1 := ((s.noteVbat mv).putFlag F.PWR_STAT_BROWNOUT false).putFlag F.PWR_STAT_OVERVOLT false
  { s1 with sys := { s1.sys with pausedIn := none } }

theorem supplyReturn_ends {mv : Nat} (hvbat : s.pilot.vbatUp = true) (hlo : 6200 ≤ mv) (hhi : mv ≤ 58000)
    (hbrown : s.flag F.PWR_STAT_BROWNOUT = false) : supplyReturn mv s = (s.supplyBack mv).refreshLf := by
  have hnotlow : ¬ mv < 6200 := by omega
  have hnothigh : ¬ 58000 < mv := by omega
  unfold supplyReturn
  simp only [hvbat, hnotlow, hnothigh, hbrown, decide_false, Bool.not_true, Bool.or_self, Bool.false_and, Bool.false_eq_true, if_true, if_false]
  rfl

theorem State.supplyBack_eq (s : State) (mv : Nat) :
    s.supplyBack mv = { s with regs := (s.supplyBack mv).regs, sys := { s.sys with pausedIn := none } } :=
  congrArg (fun u : State => { u with regs := (s.supplyBack mv).regs, sys := { u.sys with pausedIn := none } }) (s.noteVbat_regsOnly mv)

theorem State.supplyBack_shown (s : State) (mv : Nat) :
    (s.supplyBack mv).get F.PWR_STAT_OVERVOLT = 0 ∧ (s.supplyBack mv).get F.PWR_STAT_BROWNOUT = 0 := by
  have hregs : (s.supplyBack mv).regs = (((s.noteVbat mv).putFlag F.PWR_STAT_BROWNOUT false).putFlag F.PWR_STAT_OVERVOLT false).regs := rfl
  refine ⟨?_, ?_⟩ <;> rw [State.get_of_regs hregs] <;>
    simp (disch := decide) [State.putFlag, State.get_put_same, State.get_put_apart, bit]

theorem State.overvolted_shown (s : State) (mv : Nat) :
    let t := (s.supplyOut F.PWR_STAT_OVERVOLT F.PWR_EVT_OVERVOLT 0x0307 mv).refreshLf
    t.flag F.PWR_STAT_OVERVOLT = true ∧ t.get F.PWR_EVT_OVERVOLT = 1 ∧ t.get F.PWR_REASON_REASON = 0x0307 ∧ t = { s with regs := t.regs } := by
  obtain ⟨hflag, hevt, hreason⟩ := s.supplyOut_overvolt mv
  have hframe := s.supplyOut_regsOnly F.PWR_STAT_OVERVOLT F.PWR_EVT_OVERVOLT 0x0307 mv
  generalize s.supplyOut F.PWR_STAT_OVERVOLT F.PWR_EVT_OVERVOLT 0x0307 mv = u at *
  exact ⟨State.flag_true_of_get ((u.refreshLf_get (by decide)).trans hflag), (u.refreshLf_get (by decide)).trans hevt,
    (u.refreshLf_get (by decide)).trans hreason, State.regsOnly_trans hframe u.refreshLf_regsOnly⟩

theorem State.supplyBack_ended (s : State) (mv : Nat) :
    let t := (s.supplyBack mv).refreshLf
    t.flag F.PWR_STAT_OVERVOLT = false ∧ t.flag F.PWR_STAT_BROWNOUT = false ∧ t.sys = { s.sys with pausedIn := none } ∧ t.rel = s.rel
      ∧ t.pwr = s.pwr := by
  obtain ⟨hover, hbrown⟩ := s.supplyBack_shown mv
  have heq := s.supplyBack_eq mv
  obtain ⟨hsys, hrel, hpwr⟩ := (s.supplyBack mv).refreshLf_frame
  refine ⟨State.flag_false_of_get ((State.refreshLf_get _ (by decide)).trans hover),
    State.flag_false_of_get ((State.refreshLf_get _ (by decide)).trans hbrown), hsys.trans ?_, hrel.trans ?_, hpwr.trans ?_⟩ <;> rw [heq]

end

/-! ## The crystal (R363, R399, R400) -/

section
variable {r s : State}

theorem State.SupplyKept.rfRefLost (h : r.SupplyKept s) (hrf : r.enabled .rf = false) : r.SupplyKept s.rfRefLost := by
  unfold State.rfRefLost
  extract_lets s1 _ s2 s3
  have h1 : r.SupplyKept s1 := h.abortExchange.abandonCal.endTest
  have h2 : r.SupplyKept s2 := State.SupplyKept.offAir h1
  have h3 : r.SupplyKept s3 := ((h2.synLock.synLock).putFlag).rfState
  have hoff : s3.enabled .rf = false := (State.enabled_of_reg h3.reg .rf).trans hrf
  rw [hoff, if_neg Bool.false_ne_true]
  exact h3

theorem State.SupplyKept.refreshRel (h : r.SupplyKept s) : r.SupplyKept s.refreshRel := by
  unfold State.refreshRel
  exact (State.SupplyKept.set h).putFlag

theorem State.SupplyKept.recheck (h : r.SupplyKept s) : r.SupplyKept s.recheck := h.set

/-- No subsystem went down, no hook runs. -/
theorem State.downHooks_same {old : State} (h : s.reg R.SYS_EN_MAP = old.reg R.SYS_EN_MAP) : old.downHooks s = s := by
  have hidle : ∀ (t : State) (u : Subsys), (if (old.enabled u && !s.enabled u) = true then t.downHook u else t) = t := fun t u => by
    rw [State.enabled_of_reg h u, Bool.and_not_self, if_neg Bool.false_ne_true]
  unfold State.downHooks
  simp only [hidle]
  exact List.foldl_fixed _

/-- What the loss of the crystal shows at once. -/
def State.refLost (s : State) : State :=
  let s1 := (({ s with pwr := { s.pwr with xtalRun := false, retryMt := s.mt } }).putFlag F.PWR_STAT_XTAL_OK false).putFlag F.PWR_STAT_REF_RC true
  ((((s1.putFlag F.PWR_XTAL_LOST true).event F.PWR_EVT_XTAL_LOST).reason .pwr 0x0308).redLoss 12)

theorem State.refLost_shown (s : State) : s.refLost.get F.PWR_STAT_REF_RC = 1 ∧ s.refLost.get F.PWR_STAT_XTAL_OK = 0
    ∧ s.refLost.get F.PWR_EVT_XTAL_LOST = 1 ∧ Nat.testBit (s.refLost.reg R.PWR_RED_STAT) 12 = true ∧ s.refLost.pwr.xtalRun = false := by
  refine ⟨?_, ?_, ?_, State.redLoss_bit _ (by decide), rfl⟩
  · rw [State.refLost, State.get_redLoss_other _ (by decide)]
    simp (disch := decide) [State.event, State.reason, reasonField, State.putFlag, State.get_put_same, State.get_put_apart, bit]
  · rw [State.refLost, State.get_redLoss_other _ (by decide)]
    simp (disch := decide) [State.event, State.reason, reasonField, State.putFlag, State.get_put_same, State.get_put_apart, bit]
  · rw [State.refLost, State.redLoss, State.get_event_apart _ _ _ (by decide) (by decide) (by decide), State.get_setReg_other _ (by decide)]
    simp (disch := decide) [State.event, State.reason, reasonField, State.putFlag, State.get_put_same, State.get_put_apart, bit]

theorem State.refLost_map (s : State) : s.refLost.reg R.SYS_EN_MAP = s.reg R.SYS_EN_MAP := by
  rw [State.refLost, State.redLoss_reg_other _ (by decide)]
  refine (?_ : keepsRegs s _ [R.PWR_STAT, F.PWR_XTAL_LOST.off, R.PWR_EVT, R.PWR_REASON]) R.SYS_EN_MAP (by decide)
  exact (keepsRegs_refl s _).set.putFlag.putFlag.putFlag.event.reason

theorem State.ntToRc_regsOnly (s : State) : s.ntToRc = { s with regs := s.ntToRc.regs } := by
  unfold State.ntToRc
  split
  · rfl
  · exact State.regsOnly_put (s.setNtState_regsOnly 1) _ _

/-- The state in which NT counts on the RC as well. -/
def State.refPassed (s : State) : State := s.refLost.ntToRc.putFlag F.TIM_STAT_REF_RC true

theorem State.refPassed_map (s : State) : s.refPassed.reg R.SYS_EN_MAP = s.reg R.SYS_EN_MAP := by
  rw [State.refPassed, State.putFlag, State.reg_put_other _ (by decide), (State.SupplyKept.refl s.refLost).ntToRc.reg, State.refLost_map]

theorem State.refPassed_nfc (s : State) : s.refPassed.nfc = s.nfc := by
  change s.refLost.ntToRc.nfc = s.refLost.nfc
  rw [State.ntToRc_regsOnly]

theorem State.refPassed_shown (s : State) : s.refPassed.get F.PWR_STAT_REF_RC = 1 ∧ s.refPassed.get F.PWR_STAT_XTAL_OK = 0
    ∧ s.refPassed.get F.PWR_EVT_XTAL_LOST = 1 ∧ Nat.testBit (s.refPassed.reg R.PWR_RED_STAT) 12 = true
    ∧ s.refPassed.get F.TIM_STAT_REF_RC = 1 ∧ s.refPassed.pwr.xtalRun = false := by
  obtain ⟨hrc, hok, hevt, hred, hrun⟩ := s.refLost_shown
  have hkept := (State.SupplyKept.refl s.refLost).ntToRc
  have hstat : ∀ f : Field, f.off ≠ R.TIM_STAT → s.refPassed.get f = s.refLost.ntToRc.get f :=
    fun f hf => State.get_of_reg (State.reg_put_other _ hf _)
  refine ⟨?_, ?_, ?_, ?_, State.get_putFlag_same _ _ _ (by decide) (by decide), hkept.xtal.trans hrun⟩
  · rw [hstat _ (by decide), State.get_of_reg hkept.reg, hrc]
  · rw [hstat _ (by decide), State.get_of_reg hkept.reg, hok]
  · rw [hstat _ (by decide), hkept.gets _ (by decide), hevt]
  · rw [State.refPassed, State.putFlag, State.reg_put_other _ (by decide), hkept.reg, hred]

/-- What follows the loss where neither a detection runs nor the radio is enabled. -/
theorem crystalLoss_kept (hrun : s.pwr.xtalRun = true) (hrc : s.onRc = false) (hdet : s.nfc.detection = none) (hrf : s.enabled .rf = false) :
    s.refPassed.SupplyKept (crystalLoss s) := by
  have hcalm : s.refPassed.nfc.detection.isSome = false := by
    rw [State.refPassed_nfc, hdet]
    rfl
  have hlinks := ((State.SupplyKept.refl s.refPassed).rfRefLost ((State.enabled_of_reg s.refPassed_map .rf).trans hrf)).refreshLinks
  have hsame : s.downHooks s.refPassed.rfRefLost.refreshLinks = s.refPassed.rfRefLost.refreshLinks :=
    State.downHooks_same (hlinks.reg.trans s.refPassed_map)
  have heq : crystalLoss s = s.refPassed.rfRefLost.refreshLinks.refreshRel := by
    unfold State.refPassed State.refLost at hcalm hsame ⊢
    unfold crystalLoss
    simp only [hrun, hrc, hcalm, hsame, Bool.not_true, Bool.or_self, Bool.false_eq_true, if_false]
  rw [heq]
  exact hlinks.refreshRel

theorem crystalLoss_shown (hrun : s.pwr.xtalRun = true) (hrc : s.onRc = false) (hdet : s.nfc.detection = none) (hrf : s.enabled .rf = false) :
    (crystalLoss s).flag F.PWR_STAT_REF_RC = true ∧ (crystalLoss s).flag F.PWR_STAT_XTAL_OK = false ∧ (crystalLoss s).get F.PWR_EVT_XTAL_LOST = 1
      ∧ Nat.testBit ((crystalLoss s).reg R.PWR_RED_STAT) 12 = true ∧ (crystalLoss s).flag F.TIM_STAT_REF_RC = true
      ∧ (crystalLoss s).pwr.xtalRun = false ∧ (crystalLoss s).fuses = s.fuses := by
  obtain ⟨href, hok, hevt, hred, htim, hxtal⟩ := s.refPassed_shown
  have hkept := crystalLoss_kept hrun hrc hdet hrf
  refine ⟨?_, ?_, ?_, ?_, ?_, hkept.xtal.trans hxtal, crystalLoss_fuses s⟩
  · exact (hkept.flag (by decide)).trans (State.flag_true_of_get href)
  · exact (hkept.flag (by decide)).trans (State.flag_false_of_get hok)
  · exact (hkept.gets _ (by decide)).trans hevt
  · rw [hkept.reg, hred]
  · exact State.flag_true_of_get ((hkept.gets _ (by decide)).trans htim)

/-- What the return of the crystal shows at once. -/
def State.refBack (s : State) : State :=
  let s1 := { s with pwr := { s.pwr with xtalRun := true }, rf := { s.rf with refBack := true } }
  let s2 := ((s1.putFlag F.PWR_STAT_REF_RC false).putFlag F.PWR_STAT_XTAL_OK true).putFlag F.PWR_XTAL_RETRYING false
  let s3 := ((s2.putFlag F.RF_STAT_REF_RC false).putFlag F.TIM_STAT_REF_RC false).redClear 12
  (s3.event F.PWR_EVT_XTAL_BACK).reason .pwr 0x030A

theorem State.crystalBack_kept (s : State) : s.refBack.SupplyKept s.crystalBack :=
  (State.SupplyKept.refl s.refBack).recheck.refreshLinks.refreshRel

theorem State.refBack_shown (s : State) : s.refBack.get F.PWR_STAT_REF_RC = 0 ∧ s.refBack.get F.PWR_STAT_XTAL_OK = 1
    ∧ s.refBack.get F.PWR_EVT_XTAL_BACK = 1 ∧ Nat.testBit (s.refBack.reg R.PWR_RED_STAT) 12 = false ∧ s.refBack.pwr.xtalRun = true := by
  refine ⟨?_, ?_, ?_, ?_, rfl⟩
  · simp (disch := decide) [State.refBack, State.redClear, State.event, State.reason, reasonField, State.putFlag, State.get_put_same,
      State.get_put_apart, State.get_setReg_other, bit]
  · simp (disch := decide) [State.refBack, State.redClear, State.event, State.reason, reasonField, State.putFlag, State.get_put_same,
      State.get_put_apart, State.get_setReg_other, bit]
  · simp (disch := decide) [State.refBack, State.event, State.reason, reasonField, State.get_put_same, State.get_put_apart]
  · rw [State.refBack, State.reason, State.reg_put_other _ (by decide), State.event, State.reg_put_other _ (by decide)]
    exact State.redClear_bit _ (by decide)

theorem State.crystalBack_shown (s : State) : s.crystalBack.flag F.PWR_STAT_REF_RC = false ∧ s.crystalBack.flag F.PWR_STAT_XTAL_OK = true
    ∧ s.crystalBack.get F.PWR_EVT_XTAL_BACK = 1 ∧ s.crystalBack.pwr.xtalRun = true ∧ Nat.testBit (s.crystalBack.reg R.PWR_RED_STAT) 12 = false := by
  obtain ⟨href, hok, hevt, hred, hrun⟩ := s.refBack_shown
  have hkept := s.crystalBack_kept
  refine ⟨?_, ?_, (hkept.gets _ (by decide)).trans hevt, hkept.xtal.trans hrun, ?_⟩
  · exact (hkept.flag (by decide)).trans (State.flag_false_of_get href)
  · exact (hkept.flag (by decide)).trans (State.flag_true_of_get hok)
  · rw [hkept.reg, hred]

theorem State.crystalTried_returns (hrc : s.onRc = true) (hair : s.airQuiet = true) :
    s.crystalTried true = ({ s with pwr := { s.pwr with retryMt := s.mt } }).crystalBack := by
  unfold State.crystalTried
  simp only [hrc, hair, Bool.not_true, Bool.false_eq_true, if_true, if_false]

end

/-- Settles O47: the governor by its estimates, the supply by its window, the crystal by its loss and its retries; what follows a brownout, a loss and a
return keeps what they show. -/
theorem governorSupplyAndCrystal : Obligations.GovernorSupplyAndCrystal := by
  unfold Obligations.GovernorSupplyAndCrystal
  refine ⟨?estimates, ?engage, ?step, ?pause, ?brownout, ?overvolt, ?return_, ?dark, ?loss, ?lost, ?retryFails, ?retryWaits, ?back, ?due, ?early, ?measure⟩
  case estimates =>
    intro s tj mw pk hsec
    obtain ⟨htj, hmean, hpeak⟩ := s.estimated_shown tj mw pk
    exact ⟨_, congrArg Host.Outcome.next (governorTick_eq _ _ _ hsec), htj, hmean, hpeak, s.estimated_keeps _ _ _, rfl⟩
  case engage =>
    intro s tj mw pk hsec hgov hhot
    obtain ⟨hot, heq⟩ := governorTick_engages mw.toNat pk.toNat hsec hgov (hhot.trans_eq (signed_toNat tj).symm)
    refine ⟨_, congrArg Host.Outcome.next heq, State.flag_true_of_get ?_, ?_, ?_, rfl, rfl⟩ <;>
      simp (disch := decide) [State.event, State.reason, reasonField, State.putFlag, State.get_put_same, State.get_put_apart, bit]
  case step =>
    intro s tj mw pk hsec hgov hpower hdue hstep
    exact ⟨_, rfl, governorTick_steps _ _ _ hsec hgov hpower hdue hstep⟩
  case pause =>
    intro s mv hvbat hmv hbrown hlo hhi
    obtain ⟨hflag, hevt, hreason, hnow⟩ := s.supplyOut_brownout mv
    exact ⟨_, congrArg Host.Outcome.next (brownout_pauses hvbat hmv hbrown hlo hhi), hflag, hevt, hreason, rfl, hnow, rfl⟩
  case brownout =>
    intro s mv hvbat hmv hbrown hphase hfit
    exact ⟨_, rfl, brownout_rests hvbat hmv hbrown hphase hfit⟩
  case overvolt =>
    intro s mv hvbat hmv hover hhold
    exact ⟨_, congrArg Host.Outcome.next (overvolt_begins hvbat hmv hover hhold), s.overvolted_shown mv.toNat⟩
  case return_ =>
    intro s mv hvbat hlo hhi hbrown
    exact ⟨_, congrArg Host.Outcome.next (supplyReturn_ends hvbat hlo hhi hbrown), s.supplyBack_ended mv.toNat⟩
  case dark =>
    intro s mv hvbat
    refine ⟨congrArg Host.Outcome.next ?_, congrArg Host.Outcome.next ?_, congrArg Host.Outcome.next ?_⟩
    · simp [Sys2Proof.Machine.brownout, hvbat]
    · simp [Sys2Proof.Machine.overvolt, hvbat]
    · simp [supplyReturn, hvbat]
  case loss =>
    intro s hrun hrc hdet hrf hrng
    exact ⟨_, rfl, crystalLoss_shown hrun hrc hdet hrf⟩
  case lost =>
    intro s h
    refine congrArg Host.Outcome.next (if_pos ?_)
    obtain h | h := h <;> simp [h]
  case retryFails =>
    intro s hrc
    have heq : s.crystalTried false
        = ((({ s with pwr := { s.pwr with retryMt := s.mt } }).putFlag F.PWR_XTAL_RETRYING false).bump F.PWR_XTAL_RETRIES).reason .pwr 0x0309 := by
      simp [State.crystalTried, hrc]
    refine ⟨_, congrArg Host.Outcome.next heq, State.flag_false_of_get ?_, State.get_reason_same _ .pwr (by decide), rfl,
      (keepsFields_refl s _).set.putFlag.bump.reason, rfl⟩
    rw [State.get_reason_apart _ _ _ _ (by decide) (by decide), State.get_bump_apart _ _ _ (by decide) (by decide) (by decide),
      State.get_putFlag_same _ _ _ (by decide) (by decide)]
    rfl
  case retryWaits =>
    intro s hrc hair
    refine congrArg Host.Outcome.next ?_
    simp [State.crystalTried, hrc, hair]
  case back =>
    intro s hrc hair
    have heq := State.crystalTried_returns hrc hair
    obtain ⟨href, hok, hevt, hrun, hred⟩ := State.crystalBack_shown { s with pwr := { s.pwr with retryMt := s.mt } }
    refine ⟨_, rfl, ?_, ?_, ?_, ?_, ?_, s.crystalTried_fuses true⟩ <;> rw [heq]
    · exact href
    · exact hok
    · exact hevt
    · exact hrun
    · exact hred
  case due =>
    intro s hrc hretry hstandby hdue b
    refine congrArg Host.Outcome.next ?_
    simp [crystalRetry, hretry, hstandby, hdue]
  case early =>
    intro s hretry hstandby hearly b
    refine congrArg Host.Outcome.next ?_
    have hwait : ¬ s.pwr.retryMt + 1000000 * s.setting 0x0303 10 ≤ s.mt := by omega
    simp [crystalRetry, hretry, hstandby, hwait]
  case measure =>
    intro s p env hstandby hdue hrc
    have hlate : ¬ s.mt < s.tim.calMt.getD 0 + 600000000 := by omega
    have heq : oscCalibration p.toNat env s = ({ s with tim := { s.tim with calMt := some s.mt } }).put F.TIM_PT_CAL_PPM p.toNat := by
      unfold oscCalibration
      simp only [hstandby, hlate, decide_false, Bool.not_true, Bool.or_self, Bool.false_eq_true, if_false]
      exact if_neg (Bool.eq_false_iff.mp hrc)
    exact ⟨_, congrArg Host.Outcome.next heq, (State.get_put_same _ _ _ (by decide) (by decide)).trans (Nat.mod_eq_of_lt p.isLt), rfl,
      (keepsFields_refl s _).set.put, rfl⟩

end Sys2Proof.Machine
end
